-- ==== Sys2Proof/Word.lean ====
section
/-!
DEFINITION. The words of the block and the plain operand types its commands carry.
Bit-field helpers stand in Machine/Operands.lean.
-/
namespace Sys2Proof

/-- One byte. -/
abbrev Byte := BitVec 8

/-- The 8-byte slot every scalar dictionary object occupies (R406). -/
abbrev Slot := BitVec 64

/-- One 16-byte word of the assay store, split by the bit map of R268. -/
structure AWord where
  cond : BitVec 4
  dst : BitVec 5
  srcA : BitVec 5
  srcB : BitVec 5
  target : BitVec 12
  aux : BitVec 16
  imm : BitVec 64
  deriving DecidableEq, Repr

/-- What a calibration pass measured of one slice (R103): its offset error in thousandths of a code, its gain
error in thousandths of a percent and its skew in thousandths of a grain, positive when it samples late. -/
structure SliceMeasure where
  slice : Nat
  offset : Int
  gain : Int
  skew : Int
  deriving DecidableEq, Repr

/-- One comparison window of an audit (R111, R113): the samples, the sums of the slice's codes and of the
reference's (the spare, or the mean of the die), the sums of their difference, both spans, and whether a code
within full scale that the spare produced 32 times or more never came from the slice. -/
structure AuditWindow where
  n : Nat
  sumS : Int
  sumS2 : Nat
  refN : Nat
  refSum : Int
  refSum2 : Nat
  sumD : Int
  sumD2 : Nat
  span : Nat
  refSpan : Nat
  missing : Bool
  deriving DecidableEq, Repr

/-- The accepted event a partner evaluator reports to the home die (R162): its firing sample and instant in
grains, and whether it fell back. -/
structure PairEvent where
  fire : Nat
  instant : Nat
  fallback : Bool
  deriving DecidableEq, Repr

/-- The outcome of an error check of one 64-byte unit (R297, R298). -/
inductive Ecc where
  | clean
  | corrected
  | failed
  deriving DecidableEq, Repr

/-- A record of a context's crucible, or a vector layer, that is done, and the check outcomes of the units read for it, clean
where the list ends (R297, R298). -/
structure Checked where
  item : Nat
  checks : List Ecc := []
  deriving DecidableEq, Repr

/-- A copy to the spare reserve that is done: the half, and the copied units whose read was corrected or failed its check (R297,
R298, R302). -/
structure CopyIn where
  die : Nat
  checks : List (Nat × Ecc) := []
  deriving DecidableEq, Repr

/-- A parity error: whether it is the third of its command, and the unit that command writes, none where it reads (R296). -/
structure ParityIn where
  third : Bool
  write : Option Nat := none
  deriving DecidableEq, Repr

/-- A stall of staging: its pseudo-channel, and the units whose writes stand in staging (R292). -/
structure StallIn where
  pc : Nat
  staged : List Nat := []
  deriving DecidableEq, Repr

/-- A CXL.mem write: its 64 bytes, and the check outcome of the unit it reads where its mask is not whole (R297, R445). -/
structure LineWrite where
  data : List Byte
  check : Ecc := .clean
  deriving DecidableEq, Repr

/-- A request of the fabric manager with an opcode, an LD number and a second byte: Disable LD is 0xC002 (R435). The operation
table has no row for a request of another opcode, which comes with FM_DISABLE_LD. -/
structure FmRequest where
  opcode : Nat := 0xC002
  ld : Nat
  second : Nat := 0
  deriving DecidableEq, Repr

/-- A request at the memory-device mailbox of an LD, with its opcode: Identify Memory Device is 0x4000 (R430). The operation
table has no row for a request of an opcode that is not served, which comes with IDENTIFY_MEMORY_DEVICE. -/
structure MailboxRequest where
  ld : Nat
  opcode : Nat := 0x4000
  deriving DecidableEq, Repr

/-- A GET_MEASUREMENTS request: its index, and where it asks for a signature the slot and the nonce (R442, R559). -/
structure MeasRequest where
  index : Nat
  sign : Option (Nat × List Byte) := none
  deriving DecidableEq, Repr

/-- A reset of the link other than PERST#: of one LD, or of the whole port (R450, R452). -/
structure LinkReset where
  ld : Nat
  port : Bool := false
  deriving DecidableEq, Repr

/-- What a host sets beside the memory space of an LD: bus master enable, and the MSI-X vectors it masks (R434, R439). -/
structure LdControls where
  bme : Bool
  masks : List Nat := []
  deriving DecidableEq, Repr

/-- A read of a data port: of the context's port or of the path's own, and the check outcomes of the units it meets, clean
where the list ends (R297, R298). -/
structure PortRead where
  ctx : Bool
  checks : List Ecc := []
  deriving DecidableEq, Repr

/-- What a mover's burst brings with it: the bytes a host source gave, the check outcomes of the units read, and after how
many codes an upset strikes the encoder of a planisher it feeds (R297, R324, R363). -/
structure BurstIn where
  host : List Byte := []
  checks : List Ecc := []
  upset : Option Nat := none
  deriving DecidableEq, Repr

/-- What a raster line brings with it: the spans for which no data came, and the check outcomes of the units fetched
(R297, R391). -/
structure LineIn where
  missing : List (Nat × Nat) := []
  checks : List Ecc := []
  deriving DecidableEq, Repr

/-- What a start found (R538, R552, R565): the bank that verified, whether the stored set is valid, and what failed
its self-test: dies, slices of dies, evaluators, check evaluators, a lane of a link direction, pseudo-channels of dies,
loops of dies (8 for the hub), inputs with their first failing step, and slices of dies whose correction the start pass
measured out of range (R105). -/
structure StartReport where
  bank : Nat
  storeValid : Bool                     -- the CRC of the newer stored copy holds (R426)
  storeOlder : Bool := true               -- the CRC of the older one holds
  failedDies : List Nat
  failedSlices : List (Nat × Nat)
  failedEvals : List Nat
  failedChecks : List Nat
  failedLanes : List Nat
  failedPcs : List (Nat × Nat)
  failedLoops : List (Nat × Nat)
  failedInputs : List (Nat × Nat)
  failedTrims : List (Nat × Nat) := []
  noController : List Nat := []         -- stacks of which no controller trained (R306)
  deriving DecidableEq, Repr

end Sys2Proof
end

