-- ==== Sys2Proof/Syntax.lean ====
section
/-!
DEFINITION. The commands of the block: one constructor per row of the operation table, in its order.
A path operand `p` is an access path of R408; `v` is the slot written; `n` an input, `d` a die,
`c` a context, `l` a logical device or an assay lane, as each row's rule has it.
-/
namespace Sys2Proof

/-- The operations and events of the SZ480, one constructor per row of the operation table. -/
inductive Instr where
  /-- MAINS_ON (R552). -/
  | mainsOn
  /-- TIME_COUNTER_WRAP (R35). -/
  | timeCounterWrap
  /-- EPOCH_SOURCE_WRITE (R52). -/
  | epochSourceWrite (p : Nat) (v : Slot)
  /-- TIME_FRAME (R53). -/
  | timeFrame (cobId days ms : Nat)
  /-- TRIG_IN_EDGE (R163). -/
  | trigInEdge (rising : Bool) (at' : Nat)
  /-- TOUCHMARK_READ (R58). -/
  | touchmarkRead (p idx sub : Nat)
  /-- WINDOW_READ_LOW_HALF (R414). -/
  | windowReadLowHalf (p off n : Nat)
  /-- WINDOW_READ_HIGH_HALF (R414). -/
  | windowReadHighHalf (p off n : Nat)
  /-- WINDOW_WRITE_LOW_HALF (R415). -/
  | windowWriteLowHalf (p off n : Nat) (v : Slot)
  /-- WINDOW_WRITE_HIGH_HALF (R415). -/
  | windowWriteHighHalf (p off n : Nat) (v : Slot)
  /-- OBJECT_WRITE (R420). -/
  | objectWrite (p idx sub : Nat) (v : Slot)
  /-- MB_DOORBELL_SUBMIT (R417). -/
  | mbDoorbellSubmit (l : Nat) (req : Slot) (data : List Byte)
  /-- MAILBOX_REQUEST_DONE (R418). -/
  | mailboxRequestDone (l : Nat)
  /-- FE_SETTING_WRITE (R63). -/
  | feSettingWrite (p n sub : Nat) (v : Slot)
  /-- FE_SETTLED (R63). -/
  | feSettled (n : Nat)
  /-- INPUT_OVERLOAD (R64). -/
  | inputOverload (n : Nat)
  /-- ABSMAX_EXCEEDED (R604). -/
  | absmaxExceeded (src unit : Nat)
  /-- ALLOY_COMMIT (R79). -/
  | alloyCommit (p n : Nat) (v : Slot)
  /-- ALLOY_STREAM_START (R79). -/
  | alloyStreamStart (n : Nat)
  /-- DIE_LOST (R522). -/
  | dieLost (d : Nat)
  /-- REGROUP_GAP_END (R86). -/
  | regroupGapEnd (n : Nat)
  /-- CAL_START (R102). -/
  | calStart (p : Nat) (v : Slot)
  /-- CAL_SLICE_MEASURED (R103). -/
  | calSliceMeasured (d : Nat) (m : SliceMeasure)
  /-- CAL_SKEW_MEASURED (R103). -/
  | calSkewMeasured (n : Nat) (skews : List Int)
  /-- CAL_TRIMS_COMPUTED (R103). -/
  | calTrimsComputed
  /-- CAL_RAMP_STEP (R107). -/
  | calRampStep
  /-- CAL_TRIMS_APPLY (R108). -/
  | calTrimsApply
  /-- CAL_COMMIT (R108). -/
  | calCommit (p : Nat) (v : Slot)
  /-- CAL_AUTO_START (R123). -/
  | calAutoStart (d : Nat)
  /-- AUDIT_WINDOW_END (R111). -/
  | auditWindowEnd (d : Nat) (a : AuditWindow)
  /-- AUDIT_CONFIRM_END (R112). -/
  | auditConfirmEnd (d : Nat) (a : AuditWindow)
  /-- WEAROUT_BOUNDARY (R118). -/
  | wearoutBoundary (d : Nat)
  /-- LINEUP_GAP_END (R119). -/
  | lineupGapEnd (d : Nat)
  /-- SLICE_RETEST (R122). -/
  | sliceRetest (p : Nat) (v : Slot)
  /-- SLICE_RETEST_DONE (R122). -/
  | sliceRetestDone (ws : List AuditWindow)
  /-- SKEWSET_CLEAR (R126). -/
  | skewsetClear (p : Nat) (v : Slot)
  /-- TRIGGER_ACCEPT (R145). -/
  | triggerAccept (c : Nat)
  /-- TAP_FETCH_DEADLINE (R156). -/
  | tapFetchDeadline (c : Nat)
  /-- HOLDOFF_EXPIRY (R146). -/
  | holdoffExpiry (c : Nat)
  /-- TRIG_FORCE (R149). -/
  | trigForce (p : Nat) (v : Slot)
  /-- FORCED_EVENT (R149). -/
  | forcedEvent (c : Nat)
  /-- TRIG_AUTO_EXPIRY (R149). -/
  | trigAutoExpiry (c : Nat)
  /-- PAIR_EVENT_COMPARE (R162). -/
  | pairEventCompare (c : Nat) (partner : Option PairEvent)
  /-- TRIGOUT_PULSE_START (R166). -/
  | trigoutPulseStart
  /-- TRIGOUT_PULSE_END (R166). -/
  | trigoutPulseEnd
  /-- TRIG_LEVEL_WRITE (R168). -/
  | trigLevelWrite (p idx sub : Nat) (v : Slot)
  /-- TRIG_LEVEL_IN_FORCE (R168). -/
  | trigLevelInForce (c : Nat)
  /-- TRIGIN_THRESHOLD_SETTLED (R172). -/
  | triginThresholdSettled
  /-- CTX_CLAIM (R177). -/
  | ctxClaim (p : Nat)
  /-- CTX_ARM (R181). -/
  | ctxArm (p : Nat)
  /-- CTX_ARM_EFFECTIVE (R181). -/
  | ctxArmEffective (c : Nat)
  /-- CTX_HOLD (R177). -/
  | ctxHold (p : Nat)
  /-- CTX_RESUME (R177). -/
  | ctxResume (p : Nat)
  /-- CTX_DISARM (R177). -/
  | ctxDisarm (p : Nat)
  /-- CTX_FREE (R177). -/
  | ctxFree (p : Nat)
  /-- CTX_STATE_CHANGE_DONE (R180). -/
  | ctxStateChangeDone (c : Nat)
  /-- EVENT_REACHES_CONTEXT (R195). -/
  | eventReachesContext (c : Nat)
  /-- SEGMENT_CLOSE (R195). -/
  | segmentClose (c : Nat)
  /-- SEGMENT_PUBLISH (R195). -/
  | segmentPublish
  /-- SEGMENT_REVOKE (R187). -/
  | segmentRevoke (n : Nat)
  /-- RING_PAUSE (R188). -/
  | ringPause (n : Nat)
  /-- RING_RESUME (R188). -/
  | ringResume (n : Nat)
  /-- RING_MIB_WRITE (R183). -/
  | ringMibWrite (p n : Nat) (v : Slot)
  /-- RING_POLICY_WRITE (R190). -/
  | ringPolicyWrite (p n : Nat) (v : Slot)
  /-- STOP_TIME_EXPIRY (R210). -/
  | stopTimeExpiry (c : Nat)
  /-- STOP_ACTION_APPLY (R210). -/
  | stopActionApply (c : Nat)
  /-- SEG_RELEASE_SEQ (R200). -/
  | segReleaseSeq (p : Nat) (v : Slot)
  /-- SEG_RELEASE_UPTO (R200). -/
  | segReleaseUpto (p : Nat) (v : Slot)
  /-- SEG_RELEASE_ALL (R200). -/
  | segReleaseAll (p : Nat) (v : Slot)
  /-- SEGMENT_RELEASE_EFFECTIVE (R200). -/
  | segmentReleaseEffective (c seq : Nat)
  /-- CRU_CLEAR (R238). -/
  | cruClear (p : Nat)
  /-- CRU_FREEZE (R237). -/
  | cruFreeze (p : Nat)
  /-- CRU_THAW (R237). -/
  | cruThaw (p : Nat)
  /-- CRU_CLEAR_DONE (R238). -/
  | cruClearDone (c : Nat)
  /-- CRU_RECORD_DONE (R231). -/
  | cruRecordDone (fold : Checked)
  /-- NOP (R269). -/
  | wNop (d l : Nat) (w : AWord)
  /-- MOV (R269). -/
  | wMov (d l : Nat) (w : AWord)
  /-- LDI (R269). -/
  | wLdi (d l : Nat) (w : AWord)
  /-- LDS (R269). -/
  | wLds (d l : Nat) (w : AWord)
  /-- STS (R269). -/
  | wSts (d l : Nat) (w : AWord)
  /-- ADD (R269). -/
  | wAdd (d l : Nat) (w : AWord)
  /-- SUB (R269). -/
  | wSub (d l : Nat) (w : AWord)
  /-- MUL (R269). -/
  | wMul (d l : Nat) (w : AWord)
  /-- DIV (R269). -/
  | wDiv (d l : Nat) (w : AWord)
  /-- DIVR (R269). -/
  | wDivr (d l : Nat) (w : AWord)
  /-- MULDIV (R269). -/
  | wMuldiv (d l : Nat) (w : AWord)
  /-- ADDI (R269). -/
  | wAddi (d l : Nat) (w : AWord)
  /-- SHL (R269). -/
  | wShl (d l : Nat) (w : AWord)
  /-- SAR (R269). -/
  | wSar (d l : Nat) (w : AWord)
  /-- AND (R269). -/
  | wAnd (d l : Nat) (w : AWord)
  /-- OR (R269). -/
  | wOr (d l : Nat) (w : AWord)
  /-- XOR (R269). -/
  | wXor (d l : Nat) (w : AWord)
  /-- MIN (R269). -/
  | wMin (d l : Nat) (w : AWord)
  /-- MAX (R269). -/
  | wMax (d l : Nat) (w : AWord)
  /-- ABS (R269). -/
  | wAbs (d l : Nat) (w : AWord)
  /-- SQRT (R269). -/
  | wSqrt (d l : Nat) (w : AWord)
  /-- CMP (R269). -/
  | wCmp (d l : Nat) (w : AWord)
  /-- CMPI (R269). -/
  | wCmpi (d l : Nat) (w : AWord)
  /-- JMP (R269). -/
  | wJmp (d l : Nat) (w : AWord)
  /-- HCNT (R269). -/
  | wHcnt (d l : Nat) (w : AWord)
  /-- HMODE (R269). -/
  | wHmode (d l : Nat) (w : AWord)
  /-- HBIN (R269). -/
  | wHbin (d l : Nat) (w : AWord)
  /-- PASS2 (R269). -/
  | wPass2 (d l : Nat) (w : AWord)
  /-- NEXTX (R269). -/
  | wNextx (d l : Nat) (w : AWord)
  /-- PASS2_EVENT_READY (R260). -/
  | pass2EventReady (d l : Nat)
  /-- PUT (R269). -/
  | wPut (d l : Nat) (w : AWord)
  /-- PUTV (R269). -/
  | wPutv (d l : Nat) (w : AWord)
  /-- END (R269). -/
  | wEnd (d l : Nat) (w : AWord)
  /-- ASSAY_STEP_LIMIT (R270). -/
  | assayStepLimit (d l : Nat)
  /-- ASSAY_BLOCK_PUBLISH (R249). -/
  | assayBlockPublish (c : Nat)
  /-- ASTORE_LOAD_IMAGE (R273). -/
  | astoreLoadImage (p : Nat)
  /-- ASTORE_LOAD_AND_STORE (R273). -/
  | astoreLoadAndStore (p : Nat)
  /-- ASTORE_EMPTY (R273). -/
  | astoreEmpty (p : Nat)
  /-- ASTORE_LOAD_DONE (R273). -/
  | astoreLoadDone
  /-- REFRESH_DUE (R290). -/
  | refreshDue (d pc : Nat) (rtQueued : Bool)
  /-- POSTPONED_REFRESH_ISSUE (R290). -/
  | postponedRefreshIssue (d pc : Nat)
  /-- SELF_REFRESH_ENTRY (R293). -/
  | selfRefreshEntry (st ch : Nat)
  /-- SELF_REFRESH_EXIT (R295). -/
  | selfRefreshExit (st ch : Nat)
  /-- RETRAIN_STEP (R294). -/
  | retrainStep (d ch : Nat) (bad : List Nat)
  /-- PARITY_ERROR (R296). -/
  | parityError (d pc : Nat) (error : ParityIn)
  /-- CXLMEM_READ (R445). -/
  | cxlmemRead (l hpa : Nat)
  /-- CXLMEM_READ_COMPLETE (R295). -/
  | cxlmemReadComplete (l : Nat) (e : Ecc)
  /-- CXLMEM_WRITE (R445). -/
  | cxlmemWrite (l hpa : Nat) (mask : List Bool) (line : LineWrite)
  /-- SCRUB_READ (R299). -/
  | scrubRead (d : Nat) (e : Ecc)
  /-- STAGING_STALL (R292). -/
  | stagingStall (d : Nat) (stall : StallIn)
  /-- MEM_SPARE_CMD (R300). -/
  | memSpareCmd (p : Nat) (v : Slot)
  /-- SPARE_COPY_DONE (R302). -/
  | spareCopyDone (copy : CopyIn)
  /-- MEM_TAKEOVER (R304). -/
  | memTakeover (d : Nat)
  /-- DP_OPEN (R316). -/
  | dpOpen (p : Nat) (ctxPort : Bool)
  /-- DP_CLOSE (R319). -/
  | dpClose (p : Nat) (ctxPort : Bool)
  /-- DP_DATA_READ (R318). -/
  | dpDataRead (p : Nat) (port : PortRead)
  /-- DP_DATA_WRITE (R318). -/
  | dpDataWrite (p : Nat) (ctxPort : Bool) (v : Slot)
  /-- APERTURE_READ (R320). -/
  | apertureRead (l : Nat) (port : PortRead) (off n : Nat)
  /-- APERTURE_WRITE (R320). -/
  | apertureWrite (l : Nat) (ctxPort : Bool) (off : Nat) (data : List Byte)
  /-- MV_CLAIM (R326). -/
  | mvClaim (p : Nat)
  /-- MV_START (R326). -/
  | mvStart (p : Nat)
  /-- MV_PAUSE (R326). -/
  | mvPause (p : Nat)
  /-- MV_RESUME (R326). -/
  | mvResume (p : Nat)
  /-- MV_STOP (R326). -/
  | mvStop (p : Nat)
  /-- MV_RELEASE (R326). -/
  | mvRelease (p : Nat)
  /-- MV_REQUEST_PULSE (R330). -/
  | mvRequestPulse (mover line : Nat)
  /-- MV_TIMER_TICK (R330). -/
  | mvTimerTick (ch : Nat)
  /-- MV_BURST_DONE (R333). -/
  | mvBurstDone (ch : Nat) (burst : BurstIn)
  /-- MV_BUS_ERROR (R334). -/
  | mvBusError (x kind addr : Nat)
  /-- MV_QUENCH_RECOVERY (R334). -/
  | mvQuenchRecovery (x : Nat)
  /-- EV_CLAIM (R338). -/
  | evClaim (p : Nat)
  /-- EV_RELEASE (R338). -/
  | evRelease (p : Nat)
  /-- PL_CLAIM (R368). -/
  | plClaim (p : Nat)
  /-- PL_START (R368). -/
  | plStart (p : Nat)
  /-- PL_FINISH (R368). -/
  | plFinish (p : Nat)
  /-- PL_CONTINUE (R368). -/
  | plContinue (p : Nat)
  /-- PL_ABORT (R368). -/
  | plAbort (p : Nat)
  /-- PL_RELEASE (R368). -/
  | plRelease (p : Nat)
  /-- PL_JOB_DONE (R367). -/
  | plJobDone (x : Nat)
  /-- RASTER_START (R381). -/
  | rasterStart (p : Nat)
  /-- RASTER_STOP (R381). -/
  | rasterStop (p : Nat)
  /-- RASTER_LINE_START (R379). -/
  | rasterLineStart (fetched : LineIn)
  /-- RASTER_FRAME_DONE (R398). -/
  | rasterFrameDone
  /-- FRAME_CRC_COMPARE (R399). -/
  | frameCrcCompare (o : Nat) (crc : BitVec 32)
  /-- RASTER_COMMIT (R392). -/
  | rasterCommit (p : Nat) (v : Slot)
  /-- LAYER_CLAIM (R382). -/
  | layerClaim (p l : Nat)
  /-- LAYER_RELEASE (R400). -/
  | layerRelease (p l : Nat)
  /-- VECTOR_RASTER_DONE (R386). -/
  | vectorRasterDone (layer : Checked)
  /-- RBUF_ALLOCATE (R395). -/
  | rbufAllocate (p : Nat)
  /-- RBUF_FREE (R395). -/
  | rbufFree (p : Nat)
  /-- DP_HOTPLUG (R380). -/
  | dpHotplug (o : Nat) (present : Bool)
  /-- DP_LINK_TRAINED (R380). -/
  | dpLinkTrained (o maxRate maxLanes : Nat) (edid : List Byte)
  /-- DICT_COMMIT (R423). -/
  | dictCommit (p : Nat) (v : Slot)
  /-- DICT_HANDOVER (R423). -/
  | dictHandover
  /-- DICT_STORE (R426). -/
  | dictStore (p : Nat) (v : Slot)
  /-- DICT_STORE_DONE (R426). -/
  | dictStoreDone (ok : Bool)
  /-- DICT_RESTORE (R426). -/
  | dictRestore (p : Nat) (v : Slot)
  /-- FM_IDENTIFY (R435). -/
  | fmIdentify
  /-- FM_GET_LD_INFO (R435). -/
  | fmGetLdInfo
  /-- FM_GET_LD_ALLOCATIONS (R435). -/
  | fmGetLdAllocations
  /-- FM_SET_LD_ALLOCATIONS (R436). -/
  | fmSetLdAllocations (first : Nat) (units : List Nat)
  /-- FM_GET_STEWARD (R435). -/
  | fmGetSteward
  /-- FM_SET_STEWARD (R437). -/
  | fmSetSteward (b : Byte)
  /-- FM_DISABLE_LD (R450). -/
  | fmDisableLd (request : FmRequest)
  /-- IDENTIFY_MEMORY_DEVICE (R430). -/
  | identifyMemoryDevice (request : MailboxRequest)
  /-- GET_HEALTH_INFO (R440). -/
  | getHealthInfo (l : Nat)
  /-- GET_POISON_LIST (R440). -/
  | getPoisonList (l : Nat)
  /-- GET_EVENT_RECORDS (R440). -/
  | getEventRecords (l : Nat)
  /-- CLEAR_EVENT_RECORDS (R430). -/
  | clearEventRecords (l : Nat) (handles : List Nat)
  /-- GET_SUPPORTED_LOGS (R430). -/
  | getSupportedLogs (l : Nat)
  /-- GET_LOG (R430). -/
  | getLog (l : Nat)
  /-- SPDM_GET_VERSION (R442). -/
  | spdmGetVersion (l : Nat)
  /-- SPDM_GET_CAPABILITIES (R442). -/
  | spdmGetCapabilities (l : Nat)
  /-- SPDM_NEGOTIATE_ALGORITHMS (R558). -/
  | spdmNegotiateAlgorithms (l : Nat)
  /-- SPDM_GET_DIGESTS (R442). -/
  | spdmGetDigests (l : Nat)
  /-- SPDM_GET_CERTIFICATE (R558). -/
  | spdmGetCertificate (l slot off len : Nat)
  /-- SPDM_CHALLENGE (R442). -/
  | spdmChallenge (l slot : Nat) (nonce : List Byte)
  /-- SPDM_GET_MEASUREMENTS (R559). -/
  | spdmGetMeasurements (l : Nat) (request : MeasRequest)
  /-- SPDM_UNSUPPORTED_REQUEST (R442). -/
  | spdmUnsupportedRequest (l code : Nat)
  /-- CXL_LINK_UP (R431). -/
  | cxlLinkUp (width gts : Nat) (sris mldSwitch : Bool)
  /-- CXL_LINK_DOWN (R451). -/
  | cxlLinkDown
  /-- CXL_CORRECTABLE_ERROR (R451). -/
  | cxlCorrectableError
  /-- CXL_UNCORRECTABLE_ERROR (R451). -/
  | cxlUncorrectableError
  /-- CXL_LINK_RECOVERY (R451). -/
  | cxlLinkRecovery
  /-- FUNCTION_LEVEL_RESET (R449). -/
  | functionLevelReset (l : Nat)
  /-- LD_RESET_TRIGGER (R450). -/
  | ldResetTrigger (reset : LinkReset)
  /-- LD_DISABLE_DONE (R450). -/
  | ldDisableDone (l : Nat)
  /-- LD_ENABLE (R434). -/
  | ldEnable (l : Nat) (mse : Bool) (rest : LdControls)
  /-- INPUT_CLAIM (R446). -/
  | inputClaim (p n : Nat)
  /-- INPUT_RELEASE (R446). -/
  | inputRelease (p n : Nat)
  /-- INPUT_SUBSCRIBE (R446). -/
  | inputSubscribe (p n : Nat)
  /-- INPUT_UNSUBSCRIBE (R446). -/
  | inputUnsubscribe (p n : Nat)
  /-- INPUT_REVOKE (R446). -/
  | inputRevoke (p n : Nat)
  /-- NMT_START (R462). -/
  | nmtStart (node : Nat)
  /-- NMT_STOP (R462). -/
  | nmtStop (node : Nat)
  /-- NMT_ENTER_PREOPERATIONAL (R462). -/
  | nmtEnterPreoperational (node : Nat)
  /-- NMT_RESET_NODE (R465). -/
  | nmtResetNode (node : Nat)
  /-- NMT_RESET_COMMUNICATION (R465). -/
  | nmtResetCommunication (node : Nat)
  /-- LSS_SWITCH_STATE_GLOBAL (R460). -/
  | lssSwitchStateGlobal (config : Bool)
  /-- LSS_SWITCH_STATE_SELECTIVE (R460). -/
  | lssSwitchStateSelective (vendor product revision serial : BitVec 32)
  /-- LSS_CONFIGURE_NODE_ID (R466). -/
  | lssConfigureNodeId (id : Byte)
  /-- LSS_CONFIGURE_BIT_TIMING (R466). -/
  | lssConfigureBitTiming (table' index : Nat)
  /-- LSS_STORE_CONFIGURATION (R466). -/
  | lssStoreConfiguration
  /-- LSS_INQUIRE_IDENTITY (R460). -/
  | lssInquireIdentity (k : Nat)
  /-- LSS_INQUIRE_NODE_ID (R460). -/
  | lssInquireNodeId
  /-- LSS_FASTSCAN (R460). -/
  | lssFastscan (idNumber : BitVec 32) (bitCheck lssSub lssNext : Nat)
  /-- HEARTBEAT_PRODUCE (R467). -/
  | heartbeatProduce
  /-- HEARTBEAT_RECEIVED (R467). -/
  | heartbeatReceived (node : Nat)
  /-- HEARTBEAT_LOST (R467). -/
  | heartbeatLost (k : Nat)
  /-- CAN_BUS_OFF (R468). -/
  | canBusOff
  /-- CAN_BUS_OFF_RECOVERY (R468). -/
  | canBusOffRecovery
  /-- CAN_ERROR_PASSIVE (R473). -/
  | canErrorPassive (tec : Nat)
  /-- CAN_RX_OVERRUN (R473). -/
  | canRxOverrun (lost : Nat)
  /-- SYNC_FRAME (R470). -/
  | syncFrame (cobId : Nat) (counter : Option Nat)
  /-- EMCY_SEND (R472). -/
  | emcySend
  /-- ERR_HIST_CLEAR (R474). -/
  | errHistClear (p : Nat) (v : Slot)
  /-- PDO_COBID_WRITE (R475). -/
  | pdoCobidWrite (p idx : Nat) (v : Slot)
  /-- TPDO_EVENT_TIMER (R477). -/
  | tpdoEventTimer (k : Nat)
  /-- TPDO_TRANSMIT (R477). -/
  | tpdoTransmit (k : Nat)
  /-- RPDO_RECEIVE (R478). -/
  | rpdoReceive (cobId : Nat) (data : List Byte)
  /-- RPDO_TIMEOUT (R478). -/
  | rpdoTimeout (k : Nat)
  /-- USDO_DOWNLOAD_INITIATE (R480). -/
  | usdoDownloadInitiate (idx sub size : Nat) (data : List Byte)
  /-- USDO_DOWNLOAD_SEGMENT (R480). -/
  | usdoDownloadSegment (data : List Byte) (last : Bool)
  /-- USDO_UPLOAD_INITIATE (R480). -/
  | usdoUploadInitiate (idx sub : Nat)
  /-- USDO_UPLOAD_SEGMENT (R480). -/
  | usdoUploadSegment
  /-- USDO_ABORT_RECEIVED (R480). -/
  | usdoAbortReceived
  /-- USDO_SESSION_TIMEOUT (R480). -/
  | usdoSessionTimeout
  /-- STORE_ALL (R482). -/
  | storeAll (p : Nat) (v : Slot)
  /-- STORE_COMM (R482). -/
  | storeComm (p : Nat) (v : Slot)
  /-- RESTORE_DEFAULTS_COMM (R482). -/
  | restoreDefaultsComm (p sub : Nat) (v : Slot)
  /-- ENTER_DEEP (R498). -/
  | enterDeep (p : Nat)
  /-- ENTER_WATCH (R493). -/
  | enterWatch (p : Nat)
  /-- LEAVE_WATCH (R495). -/
  | leaveWatch (p : Nat)
  /-- WATCH_ENTRY_DONE (R493). -/
  | watchEntryDone
  /-- DEEP_ENTRY_DONE (R498). -/
  | deepEntryDone
  /-- WAKE_EDGE (R495). -/
  | wakeEdge (n : Nat) (rising : Bool)
  /-- WAKE_TIMER_EXPIRY (R495). -/
  | wakeTimerExpiry
  /-- DOMAIN_START_ADMIT (R489). -/
  | domainStartAdmit
  /-- DOMAIN_STARTED (R488). -/
  | domainStarted (x : Nat)
  /-- DEEP_TIMER_EXPIRY (R499). -/
  | deepTimerExpiry
  /-- DEEP_TRIGIN_WAKE (R499). -/
  | deepTriginWake (ticks : Nat)
  /-- CAN_DOMINANT_WAKE (R499). -/
  | canDominantWake (ticks : Nat)
  /-- WAKE_PIN_RELEASE (R500). -/
  | wakePinRelease
  /-- PERST_ASSERT (R554). -/
  | perstAssert
  /-- PERST_DEASSERT (R552). -/
  | perstDeassert (ticks : Nat)
  /-- START_COMPLETE (R552). -/
  | startComplete (rep : StartReport)
  /-- BOOT_WATCHDOG (R553). -/
  | bootWatchdog
  /-- MAINS_DIP_END (R501). -/
  | mainsDipEnd (ms : Nat)
  /-- HOLDUP_END (R501). -/
  | holdupEnd
  /-- SUPPLY_SHUTDOWN (R501). -/
  | supplyShutdown
  /-- REF_SELECT_WRITE (R502). -/
  | refSelectWrite (p : Nat) (v : Slot)
  /-- EXT_REF_LOSS (R504). -/
  | extRefLoss (offFreq : Bool)
  /-- EXT_REF_VALIDATED (R502). -/
  | extRefValidated (mhz : Nat)
  /-- LOOP_LOCK_DECLARED (R507). -/
  | loopLockDeclared (x loop : Nat)
  /-- LOOP_STANDBY_READY (R506). -/
  | loopStandbyReady (x loop : Nat)
  /-- LOOP_LOCK_LOSS (R508). -/
  | loopLockLoss (x loop : Nat)
  /-- LOOP_RESTART (R506). -/
  | loopRestart (x loop : Nat)
  /-- LOOP_LOCK_TIMEOUT (R506). -/
  | loopLockTimeout (x loop : Nat)
  /-- INTERNAL_OSC_FAIL (R526). -/
  | internalOscFail
  /-- FLIT_CRC_FAIL (R26). -/
  | flitCrcFail (k lane : Nat)
  /-- EVAL_TEST_WINDOW_END (R524). -/
  | evalTestWindowEnd (d e : Nat) (agree checkOk : Bool)
  /-- LOCKSTEP_MISMATCH (R528). -/
  | lockstepMismatch (supervisor : Bool)
  /-- HUB_RESTART_DONE (R528). -/
  | hubRestartDone
  /-- POWER_PHASE_FAIL (R520). -/
  | powerPhaseFail (phase : Nat)
  /-- PHASE_AUDIT_WINDOW_END (R530). -/
  | phaseAuditWindowEnd (d : Nat) (a : AuditWindow)
  /-- INPUT_TEST_DUE (R530). -/
  | inputTestDue (n : Nat)
  /-- INPUT_TEST_DONE (R587). -/
  | inputTestDone (failStep : Option Nat)
  /-- TARNISH_POLISH (R534). -/
  | tarnishPolish (p : Nat) (v : Slot)
  /-- FLOG_FLUSH (R536). -/
  | flogFlush
  /-- CAP_START (R545). -/
  | capStart (p : Nat)
  /-- CAP_CANCEL (R545). -/
  | capCancel (p : Nat)
  /-- CAP_BEGIN (R545). -/
  | capBegin
  /-- CAP_END (R545). -/
  | capEnd
  /-- FW_OPEN (R563). -/
  | fwOpen (p : Nat)
  /-- FW_VERIFY (R563). -/
  | fwVerify (p : Nat)
  /-- FW_VERIFY_DONE (R564). -/
  | fwVerifyDone
  /-- FW_INSTALL (R563). -/
  | fwInstall (p : Nat)
  /-- FW_INSTALL_DONE (R563). -/
  | fwInstallDone (writeOk : Bool)
  /-- FW_DISCARD (R563). -/
  | fwDiscard (p : Nat)
  /-- FW_ACCEPT (R566). -/
  | fwAccept (p : Nat)
  /-- ATTEST_CMD (R561). -/
  | attestCmd (p : Nat) (v : Slot)
  /-- ATTEST_REPORT_DONE (R561). -/
  | attestReportDone
  /-- HK_MONITOR_CONVERSION (R577). -/
  | hkMonitorConversion (value : Int)
  /-- HK_SEQUENCE_CONVERSION (R585). -/
  | hkSequenceConversion (raw : BitVec 12)
  /-- HK_REF_SELECT_WRITE (R580). -/
  | hkRefSelectWrite (p : Nat) (v : Slot)
  /-- HK_REF_SETTLED (R580). -/
  | hkRefSettled
  /-- AUX_RANGE_WRITE (R582). -/
  | auxRangeWrite (p k : Nat) (v : Slot)
  /-- AUX_CAL_ZERO (R584). -/
  | auxCalZero (p k : Nat)
  /-- AUX_CAL_SPAN (R584). -/
  | auxCalSpan (p k : Nat)
  /-- AUX_CAL_RESET (R584). -/
  | auxCalReset (p k : Nat)
  /-- AUX_CAL_MEASURE_DONE (R584). -/
  | auxCalMeasureDone (rawSum : Nat)
  /-- PTEST_CMD (R588). -/
  | ptestCmd (p : Nat) (v : Slot)
  /-- SHEET_WRITE (R184). -/
  | sheetWrite (n : Nat) (volts : List Int)
  /-- DOE_DISCOVERY (R430). -/
  | doeDiscovery (l index : Nat)
  /-- CDAT_TABLE_ACCESS (R441). -/
  | cdatTableAccess (l entry : Nat)
  /-- HDM_DECODER_COMMIT (R443). -/
  | hdmDecoderCommit (l base size : Nat)
  /-- CAN_ERROR_PASSIVE_END (R474). -/
  | canErrorPassiveEnd
  deriving DecidableEq, Repr

end Sys2Proof
end

