-- ==== Sys2Proof/WellFormed.lean ====
section
/-!
DEFINITION. Which commands are well formed: their operands name elements that some variant has (R1, R3), access paths
(R408), contexts (R176), indexes and subindexes (R405). A command that is not well formed has no sender; what the machine
does with it follows the same definitions.
-/
namespace Sys2Proof

/-- An access path (R408). -/
def isPath (p : Nat) : Bool := decide (p < 33)
/-- The path of a BAR 2 window (R408, R412). -/
def isWindow (p : Nat) : Bool := decide (p < 16)
/-- A byte offset of the BAR 2 window in the low half of its slot (R412, R414). -/
def isLow (off : Nat) : Bool := decide (off < 2 ^ 26 ∧ off % 8 < 4)
/-- A byte offset of the BAR 2 window in the high half of its slot. -/
def isHigh (off : Nat) : Bool := decide (off < 2 ^ 26 ∧ 4 ≤ off % 8)
/-- A logical device (R434). -/
def isLd (l : Nat) : Bool := decide (l < 16)
/-- An acquisition die. -/
def isDie (d : Nat) : Bool := decide (d < 8)
/-- An input (R3). -/
def isInput (n : Nat) : Bool := decide (n < 8)
/-- A context (R176). -/
def isCtx (c : Nat) : Bool := decide (c < 4096)
/-- An index (R405). -/
def isIdx (i : Nat) : Bool := decide (i < 65536)
/-- A subindex, a lane or a line number. -/
def isByte (b : Nat) : Bool := decide (b < 256)
/-- An assay lane (R245). -/
def isLane (l : Nat) : Bool := decide (l < 4)
/-- A raster layer, an evaluator of a die or a memory channel of a half: one of eight. -/
def isLayer (l : Nat) : Bool := decide (l < 8)
/-- A memory channel of a stack or a pseudo-channel of a half: one of sixteen. -/
def isChannel (c : Nat) : Bool := decide (c < 16)
/-- A PDO, a consumer, an auxiliary input, a stack, a loop: one of four. -/
def isQuad (k : Nat) : Bool := decide (k < 4)
/-- A link direction. -/
def isLink (k : Nat) : Bool := decide (k < 16)
/-- A mover, a planisher or an owner of clock loops: the hub and eight dies. -/
def isMover (x : Nat) : Bool := decide (x < 9)
/-- A power domain (R488). -/
def isDomain (x : Nat) : Bool := decide (1 ≤ x ∧ x ≤ 15)
/-- A DisplayPort output. -/
def isOutput (o : Nat) : Bool := decide (o < 2)
/-- A node-ID in an NMT or heartbeat frame; 0 for all nodes. -/
def isNode (n : Nat) : Bool := decide (n < 128)
/-- An 11-bit identifier (R460). -/
def isCob (c : Nat) : Bool := decide (c < 2048)
/-- The data of a mailbox (R417). -/
def isMail (bs : List Byte) : Bool := decide (bs.length ≤ 2048)
/-- The payload of a CAN FD frame (R460). -/
def isFrame (bs : List Byte) : Bool := decide (bs.length ≤ 64)
/-- A 64-byte unit with its byte enables. -/
def isUnit (mask : List Bool) (bs : List Byte) : Bool := decide (mask.length = 64 ∧ bs.length = 64)

/-- Whether a command is well formed. -/
def Instr.wf (i : Instr) : Bool :=
  match i with
  | .mainsOn | .timeCounterWrap | .trigInEdge _ _ | .absmaxExceeded _ _ | .calTrimsComputed | .calRampStep |
    .calTrimsApply | .sliceRetestDone _ | .trigoutPulseStart | .trigoutPulseEnd | .triginThresholdSettled |
    .segmentPublish | .astoreLoadDone | .rasterLineStart _ | .rasterFrameDone | .dictHandover | .dictStoreDone _ |
    .fmIdentify | .fmGetLdInfo | .fmGetLdAllocations | .fmSetLdAllocations _ _ | .fmGetSteward |
    .fmSetSteward _ | .cxlLinkUp _ _ _ _ | .cxlLinkDown | .cxlCorrectableError | .cxlUncorrectableError |
    .cxlLinkRecovery | .lssSwitchStateGlobal _ | .lssSwitchStateSelective _ _ _ _ | .lssConfigureNodeId _ |
    .lssConfigureBitTiming _ _ | .lssStoreConfiguration | .lssInquireNodeId | .lssFastscan _ _ _ _ |
    .heartbeatProduce | .canBusOff | .canBusOffRecovery | .canErrorPassive _ | .canRxOverrun _ | .emcySend |
    .usdoDownloadSegment _ _ | .usdoUploadSegment | .usdoAbortReceived | .usdoSessionTimeout | .watchEntryDone |
    .deepEntryDone | .wakeTimerExpiry | .domainStartAdmit | .deepTimerExpiry | .deepTriginWake _ |
    .canDominantWake _ | .wakePinRelease | .perstAssert | .perstDeassert _ | .startComplete _ | .bootWatchdog |
    .mainsDipEnd _ | .holdupEnd | .supplyShutdown | .extRefLoss _ | .extRefValidated _ | .internalOscFail |
    .lockstepMismatch _ | .hubRestartDone | .powerPhaseFail _ | .inputTestDone _ | .flogFlush | .capBegin | .capEnd |
    .fwVerifyDone | .fwInstallDone _ | .attestReportDone | .hkMonitorConversion _ | .hkSequenceConversion _ |
    .hkRefSettled | .auxCalMeasureDone _ | .canErrorPassiveEnd => true
  | .epochSourceWrite p _ | .calStart p _ | .calCommit p _ | .sliceRetest p _ | .skewsetClear p _ | .trigForce p _ |
    .ctxClaim p | .ctxArm p | .ctxHold p | .ctxResume p | .ctxDisarm p | .ctxFree p | .segReleaseSeq p _ |
    .segReleaseUpto p _ | .segReleaseAll p _ | .cruClear p | .cruFreeze p | .cruThaw p | .astoreLoadImage p |
    .astoreLoadAndStore p | .astoreEmpty p | .memSpareCmd p _ | .dpOpen p _ | .dpClose p _ | .dpDataRead p _ |
    .dpDataWrite p _ _ | .mvClaim p | .mvStart p | .mvPause p | .mvResume p | .mvStop p | .mvRelease p | .evClaim p |
    .evRelease p | .plClaim p | .plStart p | .plFinish p | .plContinue p | .plAbort p | .plRelease p |
    .rasterStart p | .rasterStop p | .rasterCommit p _ | .rbufAllocate p | .rbufFree p | .dictCommit p _ |
    .dictStore p _ | .dictRestore p _ | .errHistClear p _ | .storeAll p _ | .storeComm p _ | .enterDeep p |
    .enterWatch p | .leaveWatch p | .refSelectWrite p _ | .tarnishPolish p _ | .capStart p | .capCancel p |
    .fwOpen p | .fwVerify p | .fwInstall p | .fwDiscard p | .fwAccept p | .attestCmd p _ | .hkRefSelectWrite p _ |
    .ptestCmd p _ => isPath p
  | .timeFrame cobId _ _ | .syncFrame cobId _ => isCob cobId
  | .touchmarkRead p idx sub | .objectWrite p idx sub _ | .trigLevelWrite p idx sub _ =>
      isPath p && isIdx idx && isByte sub
  | .windowReadLowHalf p off _ | .windowWriteLowHalf p off _ _ => isWindow p && isLow off
  | .windowReadHighHalf p off _ | .windowWriteHighHalf p off _ _ => isWindow p && isHigh off
  | .mbDoorbellSubmit l _ data => isLd l && isMail data
  | .mailboxRequestDone l | .cxlmemRead l _ | .cxlmemReadComplete l _ | .apertureRead l _ _ _ |
    .apertureWrite l _ _ _ | .fmDisableLd ⟨_, l, _⟩ | .identifyMemoryDevice ⟨l, _⟩ | .getHealthInfo l | .getPoisonList l |
    .getEventRecords l | .clearEventRecords l _ | .getSupportedLogs l | .getLog l | .spdmGetVersion l |
    .spdmGetCapabilities l | .spdmNegotiateAlgorithms l | .spdmGetDigests l | .spdmGetCertificate l _ _ _ |
    .spdmChallenge l _ _ | .spdmGetMeasurements l _ | .spdmUnsupportedRequest l _ | .functionLevelReset l |
    .ldResetTrigger ⟨l, _⟩ | .ldDisableDone l | .ldEnable l _ _ | .doeDiscovery l _ | .cdatTableAccess l _ |
    .hdmDecoderCommit l _ _ => isLd l
  | .feSettingWrite p n sub _ => isPath p && isInput n && isByte sub
  | .feSettled n | .inputOverload n | .alloyStreamStart n | .regroupGapEnd n | .calSkewMeasured n _ |
    .segmentRevoke n | .ringPause n | .ringResume n | .wakeEdge n _ | .inputTestDue n | .sheetWrite n _ =>
      isInput n
  | .alloyCommit p n _ | .ringMibWrite p n _ | .ringPolicyWrite p n _ | .inputClaim p n | .inputRelease p n |
    .inputSubscribe p n | .inputUnsubscribe p n | .inputRevoke p n => isPath p && isInput n
  | .dieLost d | .calSliceMeasured d _ | .calAutoStart d | .auditWindowEnd d _ | .auditConfirmEnd d _ |
    .wearoutBoundary d | .lineupGapEnd d | .scrubRead d _ | .spareCopyDone ⟨d, _⟩ | .memTakeover d |
    .phaseAuditWindowEnd d _ => isDie d
  | .triggerAccept c | .tapFetchDeadline c | .holdoffExpiry c | .forcedEvent c | .trigAutoExpiry c |
    .pairEventCompare c _ | .trigLevelInForce c | .ctxArmEffective c | .ctxStateChangeDone c |
    .eventReachesContext c | .segmentClose c | .stopTimeExpiry c | .stopActionApply c |
    .segmentReleaseEffective c _ | .cruClearDone c | .cruRecordDone ⟨c, _⟩ | .assayBlockPublish c => isCtx c
  | .wNop d l _ | .wMov d l _ | .wLdi d l _ | .wLds d l _ | .wSts d l _ | .wAdd d l _ | .wSub d l _ | .wMul d l _ |
    .wDiv d l _ | .wDivr d l _ | .wMuldiv d l _ | .wAddi d l _ | .wShl d l _ | .wSar d l _ | .wAnd d l _ |
    .wOr d l _ | .wXor d l _ | .wMin d l _ | .wMax d l _ | .wAbs d l _ | .wSqrt d l _ | .wCmp d l _ | .wCmpi d l _ |
    .wJmp d l _ | .wHcnt d l _ | .wHmode d l _ | .wHbin d l _ | .wPass2 d l _ | .wNextx d l _ |
    .pass2EventReady d l | .wPut d l _ | .wPutv d l _ | .wEnd d l _ | .assayStepLimit d l => isDie d && isLane l
  | .refreshDue d pc _ | .postponedRefreshIssue d pc | .parityError d pc _ | .stagingStall d ⟨pc, _⟩ =>
      isDie d && isChannel pc
  | .selfRefreshEntry st ch | .selfRefreshExit st ch => isQuad st && isChannel ch
  | .retrainStep d ch _ => isDie d && isLayer ch
  | .cxlmemWrite l _ mask line => isLd l && isUnit mask line.data
  | .mvRequestPulse mover line => isMover mover && isByte line
  | .mvTimerTick ch | .mvBurstDone ch _ => isByte ch
  | .mvBusError x _ _ | .mvQuenchRecovery x | .plJobDone x => isMover x
  | .frameCrcCompare o _ | .dpHotplug o _ | .dpLinkTrained o _ _ _ => isOutput o
  | .layerClaim p l | .layerRelease p l => isPath p && isLayer l
  | .vectorRasterDone ⟨l, _⟩ => isLayer l
  | .nmtStart node | .nmtStop node | .nmtEnterPreoperational node | .nmtResetNode node |
    .nmtResetCommunication node | .heartbeatReceived node => isNode node
  | .lssInquireIdentity k | .heartbeatLost k | .tpdoEventTimer k | .tpdoTransmit k | .rpdoTimeout k => isQuad k
  | .pdoCobidWrite p idx _ => isPath p && isIdx idx
  | .rpdoReceive cobId data => isCob cobId && isFrame data
  | .usdoDownloadInitiate idx sub _ _ | .usdoUploadInitiate idx sub => isIdx idx && isByte sub
  | .restoreDefaultsComm p sub _ => isPath p && isByte sub
  | .domainStarted x => isDomain x
  | .loopLockDeclared x loop | .loopStandbyReady x loop | .loopLockLoss x loop | .loopRestart x loop |
    .loopLockTimeout x loop => isMover x && isQuad loop
  | .flitCrcFail k lane => isLink k && isByte lane
  | .evalTestWindowEnd d e _ _ => isDie d && isLayer e
  | .auxRangeWrite p k _ | .auxCalZero p k | .auxCalSpan p k | .auxCalReset p k => isPath p && isQuad k

end Sys2Proof
end

