-- ==== Sys2Proof/Decode.lean ====
section
/-!
DEFINITION. The command a word spells. The operation table gives its rows no bits, so no word spells a command.
-/
namespace Sys2Proof

/-- The command that a word of `nbits` bits spells by the operation table: none of its rows has bits. -/
def decodeTableWord (_nbits _w : Nat) : Option Instr := none

end Sys2Proof
end

