-- ==== Sys2Proof/Config.lean ====
section
/-!
DEFINITION. What the specification leaves open: free values and constants of the module that no rule states.
Every constant here is opaque, so no proof can rest on a value of it. The assumption log names each.
-/
namespace Sys2Proof.Config

/-- A free value: the `k`-th value the model draws where the specification states that something happens
but not with which value. -/
opaque freeBits (k : Nat) : BitVec 64

/-- The serial number ID_SERIAL (R427), a constant of the module. -/
opaque serial : BitVec 64

/-- The day of manufacture ID_MFG_DAYS (R427). -/
opaque mfgDays : BitVec 32

/-- The residual table RESID of R153, for an alloy of `m` dies (0 for Half rate), bin `b`; quarter grains. -/
opaque resid (m b : Nat) : BitVec 8

/-- The 16-bit filter coefficients of R205, for the stage of factor `q` (2, 3 or 5), tap `i`. -/
opaque filterCoef (q i : Nat) : BitVec 16

/-- SHA3-512 over a byte string (R559): the named standard function, not restated by the specification. -/
opaque sha3 (m : List Byte) : List Byte

/-- ML-DSA-87 verification under a public key (R550). -/
opaque mldsaVerify (pub m sig : List Byte) : Bool

/-- The fused SHA3-512 hash of a root slot's public key (R548). -/
opaque rootHash (slot : Nat) : List Byte

/-- The delivery key K_DEL (R548). -/
opaque deliveryKey : List Byte

/-- What bank A holds when the module leaves the factory (R547): its release, the versions and digests of its images
by KIND, and the root slot of its boot firmware. -/
opaque factoryRelease : BitVec 32
opaque factoryVersion (kind : Nat) : BitVec 32
opaque factoryDigest (kind : Nat) : List Byte
opaque factorySlot : BitVec 2

/-- The ML-DSA-87 signature of the hallmark key over a byte string (R557, R561). -/
opaque mldsaSign (m : List Byte) : List Byte

/-- AES-256-GCM decryption of a package image (R562): none where the tag does not check. -/
opaque gcmOpen (key : List Byte) (m : List Byte) : Option (List Byte)

/-- The hallmark public key and certificate chain (R557, R558). -/
opaque hallmarkPub : List Byte
opaque hallmarkChain : List Byte

/-- First word and words of the Standard list program in the vendor region (R271, R279). -/
opaque vendorStart : BitVec 11
opaque vendorLen : BitVec 11

/-- Factory correction of housekeeping channel `c` (R579): gain in the high half, offset in the low half. -/
opaque hkCorr (c : Nat) : BitVec 32

/-- What the standard Identify of the fabric manager returns and no rule states (R435): PCIe vendor, device, subsystem vendor
and subsystem identifiers, serial number, largest message. -/
opaque pciId (k : Nat) : BitVec 64

/-- Electrical values that the specification states only as "typical" or not at all: the raw reading the
interpolator, sensor or link would give, as a free function of what is read. -/
opaque sensor (unit k : Nat) : BitVec 32

end Sys2Proof.Config
end

