-- ==== Sys2Proof/Machine/State.lean ====
section
/-!
DEFINITION. The state of the SZ480 as plain data, the reasons a step can stop, and the state after reset.
Scalar objects of the dictionary stand in `objs`, keyed by access path, context, channel, route, planisher or
device instance, index and subindex; what no object shows stands in the structures below, one per chapter.
Instants are absolute base periods (R37) unless a field's comment says grains.
-/
namespace Sys2Proof.Machine

/-! ## The dictionary's types -/

/-- The three variants (R2). -/
inductive Variant where
  | sz2 | sz4 | sz8
  deriving DecidableEq, Repr

/-- Acquisition dies of a variant (R1, R20). -/
def Variant.dies : Variant → Nat
  | .sz2 => 2 | .sz4 => 4 | .sz8 => 8

/-- Object types (R406). -/
inductive ObjTy where
  | bool | u8 | u16 | u32 | u64 | i8 | i16 | i32 | i64 | real32 | touchmark | grain32 | str | domain
  deriving DecidableEq, Repr

/-- Access codes (R13). -/
inductive ObjAcc where
  | const | ro | rw | rwp | wo
  deriving DecidableEq, Repr

/-- Ownership codes (R14). -/
inductive ObjOwner where
  | any | owner | claimant | steward
  deriving DecidableEq, Repr

/-- What a reset does to an object's value (R425): takes the default or stored value, is kept in the
always-on domain until mains is lost, or is kept in flash or fuses. -/
inductive Keep where
  | reset | aon | nv
  deriving DecidableEq, Repr

/-- One row of the object tables (R12). -/
structure ObjRow where
  idx : Nat
  lo : Nat
  hi : Nat
  ty : ObjTy
  acc : ObjAcc
  own : ObjOwner
  dflt : Int
  rng : Option (Int × Int)
  mask : Nat
  shadow : Bool
  keep : Keep
  deriving DecidableEq, Repr

/-- Builds a row; the optional arguments are the stated range, the bits a write reaches, the shadow mark. -/
def obj (idx lo hi : Nat) (ty : ObjTy) (acc : ObjAcc) (own : ObjOwner) (dflt : Int)
    (rng : Option (Int × Int) := none) (mask : Nat := 0xFFFFFFFFFFFFFFFF) (shadow : Bool := false)
    (keep : Keep := .reset) : ObjRow :=
  { idx, lo, hi, ty, acc, own, dflt, rng, mask, shadow, keep }

/-- The abort codes of R419. -/
inductive Abort where
  | noObject | noSubindex | notWritable | noPermission | length | range | presentState
  | incompatible | resource | service
  deriving DecidableEq, Repr

/-- The code of each abort (R419). -/
def Abort.code : Abort → BitVec 32
  | .noObject => 0x06020000#32
  | .noSubindex => 0x06090011#32
  | .notWritable => 0x06010002#32
  | .noPermission => 0x08000021#32
  | .length => 0x06070010#32
  | .range => 0x06090030#32
  | .presentState => 0x08000022#32
  | .incompatible => 0x06040043#32
  | .resource => 0x05040005#32
  | .service => 0x08000020#32

/-- What an access path holds beside its copy of the per-path objects (R414, R415): the read snapshot, the
companions' snapshots, the write stage, and the answer of its last read. -/
structure Path where
  snapshot : Option (Nat × Slot) := none
  companions : List (Nat × Slot) := []
  stage : Option (Nat × BitVec 32) := none
  resp : Slot := 0
  deriving DecidableEq, Repr

/-- The dictionary mailbox of an LD (R417). -/
structure Mailbox where
  busy : Bool := false
  request : Slot := 0
  data : List Byte := []
  result : Slot := 0
  deriving DecidableEq, Repr

/-- A pending shadow (R422): its object key, value, owner code and the instant it was written. -/
structure Shadow where
  key : Nat
  value : Slot
  owner : Nat
  written : Nat
  bytes : List Byte := []               -- of a colour map
  deriving DecidableEq, Repr

/-- A commit that waits for its core cycle H (R423). -/
structure Commit where
  owner : Nat
  due : Nat
  paths : List Nat
  deriving DecidableEq, Repr

/-! ## Messages the block sends -/

/-- What the block puts on its outputs, newest first in `State.sent`. -/
inductive Out where
  | msix (ld vector : Nat)                       -- R439
  | trigOut (high : Bool) (grain : Nat)          -- R166, absolute grains
  | canFrame (cobId : Nat) (data : List Byte)    -- R460
  | wakePin (low : Bool)                         -- R500
  | fm (code : Nat) (data : List Nat)            -- R435
  | mailboxRsp (ld opcode rc : Nat) (data : List Nat)   -- R430, R440
  | doe (ld : Nat) (data : List Nat)             -- R441, R442
  | spdm (ld code : Nat) (data : List Byte)      -- R442
  | completion (ld : Nat) (data : List Byte) (poison : Bool)  -- R295, R320
  | hostWrite (ld addr : Nat) (data : List Byte) (poison : Bool)   -- R333
  | unsupported (ld : Nat)                       -- a completion with Unsupported Request (R320, R412)
  | linkEvent (code : Nat)                       -- R431 to R434
  deriving DecidableEq, Repr

/-! ## Chapters 3 and 4: dies, inputs, calibration -/

/-- Die states (R91). -/
inductive DieSt where
  | off | retention | active | reserve | retired | lost
  deriving DecidableEq, Repr

/-- Lineups (R69). -/
inductive Lineup where
  | full | narrowed | half | none
  deriving DecidableEq, Repr

/-- The three trims of a slice (R99, R132), midscale by default. -/
structure Trim where
  offset : Nat := 128
  gain : Nat := 128
  skew : Nat := 512
  deriving DecidableEq, Repr

/-- One unbroken run of writing of a ring, or one grid epoch of a decimated ring (R184, R203). Item `i` has the
instant `t0 + off + i * period` grains; items `lo` to `count - 1` exist; `endT` ends the span of its samples. -/
structure Epoch where
  number : Nat
  t0 : Nat
  period : Nat
  slot : Nat
  lines : Nat
  perLine : Nat
  members : List Nat
  off : Nat := 0
  lo : Nat := 0
  count : Nat := 0
  endT : Nat := 0
  disc : List Nat := []                 -- first items of the sheets that carry TB_DISC, no gap
  open_ : Bool := true
  deriving DecidableEq, Repr

/-- One acquisition die (R91, R94, R117, R130). -/
structure Die where
  st : DieSt := .off
  lineup : Lineup := .none
  failed : List (Nat × Nat) := []        -- failed-slice map: slice, cause (R114)
  positions : List Nat := []             -- the slice in each position (R69, R116)
  substituted : List Nat := []           -- slices that took a position by R114
  subs : Nat := 0                        -- substitutions since the last lineup change or start (R116)
  lineupFrom : Nat := 0                  -- core cycle from which positions are counted (R69)
  trims : List (Nat × Trim) := []        -- slices whose trims differ from midscale
  pending : List (Nat × Trim) := []      -- measured trims not yet in force (R103)
  bankSkew : Nat := 512                  -- die-to-die skew trim in force (R99)
  bankPending : Option Nat := none
  auditDev : List (Nat × Nat) := []      -- AUDIT_DEV of R133
  auditPos : Nat := 0                    -- position under audit (R110)
  auditCause : Option Nat := none        -- cause of a failed window awaiting its repeat (R112)
  auditStart : Nat := 0                  -- start of the audit cycle
  calQueue : List Nat := []              -- slices the pass has yet to measure (R103)
  measuring : Bool := false
  lineupPending : Bool := false          -- R118
  wearAt : Nat := 0                      -- detection of the failure that calls for a change (R118)
  gap : Bool := false                    -- a re-deal gap runs (R119)
  autoPass : Bool := false               -- a pass by R123 waits
  calAt : Option Nat := none             -- core cycle of the last trim change: its sheet carries CAL_TRANSITION (R107, R108)
  lastPass : List (Nat × Nat) := []      -- slice, start of its last passed window or measurement (R531)
  wearNow : Bool := false                -- a wear-out boundary has come (R118)
  late : List (Nat × Nat) := []          -- failed slices that wait for the boundary: slice, log entry (R531)
  counterFrom : Option Nat := none       -- the 30 ns epoch on which the die's copy of the counter was aligned (R36)
  silentAt : Option Nat := none          -- instant of the last memory heartbeat before a takeover (R304, R305)
  discNext : Bool := false               -- the die's next sheet carries TB_DISC: a loop hand-over (R50)
  fillDue : Option (Nat × Epoch × Nat) := none  -- a lost die's sheets still to fill (R305): input, epoch, its lines
  deriving DecidableEq, Repr

/-- Input states (R88). -/
inductive InputSt where
  | single | alloyed | absorbed | regrouping | dark | changing
  deriving DecidableEq, Repr

/-- Ring states (R185). -/
inductive RingSt where
  | idle | writing | paused
  deriving DecidableEq, Repr

/-- A line as the delay lines of its members hold it (R230): its epoch and number, the codes, and whether each member's sheet
carries CAL_TRANSITION. -/
structure MadeLine where
  epoch : Nat
  line : Nat
  codes : List Int
  cal : List Bool
  deriving DecidableEq, Repr

/-- One fitted input: its alloy, its front end's settling and its stream ring (R63, R80, R88, R184). -/
structure Input where
  st : InputSt := .single
  members : List Nat := []              -- member dies in deal order (R22)
  host : Option Nat := none             -- the input that absorbed this one (R83)
  regrouped : Bool := false
  voidDies : List Nat := []             -- members lost with REGROUP_ENABLE FALSE (R85)
  settling : Option Nat := none         -- instant by which a front-end change takes effect (R63)
  served : Bool := true                 -- a sheet has been written since a die serves the input again (R66)
  rangeNow : Nat := 5                   -- range, offset step (in 1/32,768 V) and filter in force
  stepNow : Int := 0
  filterNow : Nat := 0
  next : Option (List Nat × Bool) := none   -- member set the change or gap leads to, REGROUPED
  nextFirst : Nat := 0                  -- first member, in ring order, of the set a gap leads to (R80)
  gapReserve : List Nat := []           -- members outside the window of R84
  ring : RingSt := .idle
  slot : Nat := 0                       -- slot of the line being written or next to be written
  fresh : Bool := true                  -- no epoch since RING_MIB was written or the start (R184)
  epochs : List Epoch := []             -- newest first
  discNext : Bool := false              -- the next sheet carries TB_DISC (R50)
  discAt : List Nat := []               -- instants of the sheets that carried TB_DISC, grains, newest first
  tapGaps : List Nat := []              -- first samples after a gap among the taps, grains (R154)
  delay : List MadeLine := []           -- the raw delay lines, newest first (R230)
  pauseAt : Nat := 0
  taps : List (Nat × Int) := []         -- recent samples, newest first: instant in grains, code (R156)
  deriving DecidableEq, Repr

/-- Calibration pass states (R102, R126). -/
inductive CalSt where
  | idle | measuring | pending | ramping
  deriving DecidableEq, Repr

/-- The calibration sequencer (R102 to R108). -/
structure Cal where
  st : CalSt := .idle
  dies : List Nat := []                 -- dies of the pass
  alloys : List Nat := []               -- inputs whose die-to-die skew is still to measure
  skew : Bool := false
  rampFrom : Nat := 0
  stepped : Bool := false               -- a step of the ramp has been taken (R107)
  boundary : Option Nat := none         -- a boundary of R108 has come: the core cycle the trims take force in
  retest : Option (Nat × Nat) := none   -- die and slice under retest (R122)
  deriving DecidableEq, Repr

/-! ## Chapters 5 and 6: evaluators, contexts, segments -/

/-- Context states (R178). -/
inductive CtxSt where
  | empty | defined | armed | held | suspended
  deriving DecidableEq, Repr

/-- A comparator stream routed on the ring (R159): the sending die, the evaluator's die, the direction
(true: toward die (d − 1) mod D). -/
structure Stream where
  src : Nat
  dst : Nat
  down : Bool
  deriving DecidableEq, Repr

/-- A detection of an evaluator (R140): firing sample's instant in grains, the source, the level whose
crossing gives the instant, and its direction. -/
structure Detection where
  fire : Nat
  src : Nat
  level : Int
  rising : Bool
  deriving DecidableEq, Repr

/-- One sample an evaluator has received and not yet judged: its instant in grains, its source (8 trigger in),
and its trit; for trigger in 2 stands for a rising and 0 for a falling edge. Source 9 marks a gap (R150). -/
structure Judged where
  at_ : Nat
  src : Nat
  trit : Nat
  deriving DecidableEq, Repr

/-- Edge arming of one source (R139). -/
structure EdgeArm where
  rise : Bool := false
  fall : Bool := false
  deriving DecidableEq, Repr

/-- The detection state of a context's evaluators (R139 to R144). -/
structure EvalSt where
  lastTrit : List (Nat × Nat) := []     -- source, last trit (void repeats it, R29)
  armA : EdgeArm := {}
  armB : EdgeArm := {}
  startUp : Option Nat := none          -- firing instant of a pulse's rising edge
  startDown : Option Nat := none
  since : Option Nat := none            -- first sample of the state in force (window, pattern)
  runtUp : Option Nat := none           -- first trit-1 sample after a trit 0
  runtDown : Option Nat := none
  slewUp : Option Nat := none           -- last trit-0 sample
  slewDown : Option Nat := none
  lastEdge : Option Nat := none
  edges : List Nat := []                -- event-count history, newest first
  count : Nat := 0
  levels : List (Nat × Bool) := []      -- pattern state per input: true High, false Low
  pattern : Option Bool := none
  seqA : Option Nat := none
  seqB : Nat := 0
  bar : Option Nat := none              -- no A and no counted edge fires at or before it: the last accepted event (R143, R144)
  waiting : List Judged := []           -- samples received and not yet judged, oldest first
  deriving DecidableEq, Repr

/-- A segment of a context from acceptance on (R192 to R196). Instants in grains. -/
structure Segment where
  tm : Nat
  input : Nat := 0
  pre : Int := 0
  len : Nat := 0
  forced : Bool := false
  fallback : Bool := false
  mismatch : Bool := false
  dec : Bool := false
  ring : Nat := 0                       -- decimated ring that holds its points
  mode : Nat := 0                       -- decimation mode and factor of its points (R202)
  factor : Nat := 1
  lat : Nat := 0                        -- L of its event (R165, R167)
  reached : Bool := false               -- the event has reached the context
  closed : Bool := false
  cut : Bool := false
  revoked : Bool := false
  released : Bool := false              -- a release waits for bursts to end (R200)
  seq : Nat := 0
  ep : Option Epoch := none             -- its epoch, once closed
  first : Nat := 0
  count : Nat := 0
  firstTm : Nat := 0
  endTm : Nat := 0                      -- end of its window within its epoch
  flags : Nat := 0                      -- DESC_FLAGS of R197 but for REVOKED
  recFlags : Nat := 0                   -- bits [15:12] of CTX_FLAGS (R48)
  bursts : Nat := 0                     -- data-port and mover bursts running on it
  entry : Nat := 0                      -- its entry of the segment table and of the assay table (R199, R251)
  assay : List Byte := []               -- its published assay block (R249)
  deriving DecidableEq, Repr

/-- A decimated ring (R208): MiB per member part, members and the half offset of each part. -/
structure DecRing where
  id : Nat
  mib : Nat
  members : List Nat
  offs : List Nat
  slot : Nat := 0                       -- sheet slot at which the next grid epoch starts
  deriving DecidableEq, Repr

/-- The sheet of a part that the decimator is filling (R207). -/
structure DecPart where
  points : List Nat := []               -- newest first
  filled : Nat := 0                     -- points of this grid epoch so far
  spares : Nat := 0
  cal : Bool := false
  deriving DecidableEq, Repr

/-- The decimator of a context (R203 to R206). The ring in hand is the last of `rings`. -/
structure Decimator where
  epochs : List Epoch := []             -- grid epochs, newest first
  from_ : Nat := 0                      -- first sample after arming, grains (R203)
  index : Nat := 0                      -- input samples since the grid origin
  buf : List Int := []                  -- input samples a coming point still needs, newest first
  marks : List (Nat × Nat × Bool) := [] -- their sheets, newest first: first sample, SPARES_IN_USE, CAL_TRANSITION (R207)
  parts : List DecPart := []
  rings : List DecRing := []
  nextRing : Nat := 0
  disc : Bool := false                  -- the grid epoch in force follows a gap
  restart : Bool := true                -- the next sample starts a grid
  paused : Bool := false
  pauseAt : Nat := 0
  discAt : List Nat := []               -- ends of its pauses, grains: gaps that this context alone sees (R208)
  freeAt : Option Nat := none           -- instant at which the sheet a pause waits for became free (R188, R208)
  overs : List Nat := []                -- instants of overrange input samples, newest first
  made : List (Nat × Nat × Nat) := []   -- the point delay lines, newest first: grid epoch, point, its bits (R230)
  calSheets : List (Nat × Nat × Nat) := []  -- sheets with CAL_TRANSITION: grid epoch, part, sheet (R207)
  deriving DecidableEq, Repr

/-- Crucible states (R236). -/
inductive CruSt where
  | none | opened | frozen | clearing | complete
  deriving DecidableEq, Repr

/-- Number of a crucible state (R236). -/
def CruSt.num : CruSt → Nat
  | .none => 0 | .opened => 1 | .frozen => 2 | .clearing => 3 | .complete => 4

/-- A record being folded (R231): its event, the members whose lanes it holds, and once its segment has
closed its items by index within the window, the die of each, and its flags. -/
structure CruRec where
  tm : Nat
  members : List Nat
  ready : Bool := false
  items : List (Nat × Nat × Nat) := []  -- index, die, item bits
  record : List Byte := []
  head : Bool := false
  short : Bool := false
  transition : Bool := false
  deriving DecidableEq, Repr

/-- The crucible of a context (R217 to R239). -/
structure Crucible where
  st : CruSt := .none
  handle : Option Nat := Option.none
  active : List CruRec := []            -- oldest first
  admitted : Nat := 0                   -- records admitted since the last Clear or allocation
  freeze : Bool := false                -- a Freeze was written while Clearing
  sawTransition : Bool := false         -- CRU_CAL_POLICY 2 waits for a clean record (R235)
  before : CruSt := .none               -- the state until `from_`, when a command takes effect (R236)
  from_ : Nat := 0
  deriving DecidableEq, Repr

/-- A crucible buffer (R227, R229, R234): one part per member, cells that differ from their reset value. -/
structure CruBuf where
  ctx : Nat
  owner : Nat
  held : Bool := true                   -- the context holds it
  mode : Nat
  unit : Nat
  n : Nat
  cols : Nat
  rows : Nat
  low : Int
  high : Int
  place : Nat
  partBytes : Nat
  members : List Nat
  parts : List (List (Nat × Slot)) := []
  gen : Nat
  records : Nat := 0
  first : List Byte := []
  last : List Byte := []
  deriving DecidableEq, Repr

/-- What a pool allocation holds (R183, R199, R208, R233). -/
inductive AllocKind where
  | table | dec (ring : Nat) | assay | cru (handle : Nat)
  deriving DecidableEq, Repr

/-- An allocation in the pool of a die. -/
structure Alloc where
  die : Nat
  off : Nat
  size : Nat
  ctx : Nat
  kind : AllocKind
  deriving DecidableEq, Repr

/-- An edge event of pass 2 (R260 to R262): direction 0 rising, 1 falling, 2 end. -/
structure XEvent where
  dir : Nat := 0
  xlo : Int := 0
  xmid : Int := 0
  xhi : Int := 0
  xmax : Int := 0
  xmin : Int := 0
  xsum : Int := 0
  xcnt : Int := 0
  deriving DecidableEq, Repr

/-- A record the assay engine measures (R245, R246): its lanes, its items as fine values once its segment has
been published, and the state of its program. -/
structure ARec where
  tm : Nat
  prog : Nat
  slots : Nat
  lanes : List (Nat × Nat) := []        -- die, lane; empty when it was not admitted
  closed : Bool := false
  started : Bool := false
  ended : Bool := false
  seq : Nat := 0
  hdr : Nat := 0                        -- header bits OVR, VOID_INSIDE, CAL (R252)
  items : List (Option Int) := []
  pitem : Nat := 0
  tev : Int := 0
  unit : Nat := 0
  long : Bool := false                  -- longer than a lane buffer (R247)
  out : List (Nat × Bool × Slot) := []  -- slots written: valid, content
  reason : Nat := 8                     -- reason of the slots not written (R253)
  pc : Nat := 0
  first : Nat := 0                      -- first and end word of the program
  stop : Nat := 0
  steps : Nat := 0
  passes : Nat := 0
  regs : List (Nat × Slot) := []        -- registers that are not 0
  z : Bool := false
  n : Bool := false
  v : Bool := false
  d : Bool := false
  e : Bool := false
  lo : Slot := 0
  mid : Slot := 0
  hi : Slot := 0
  coming : List XEvent := []            -- events pass 2 has still to find
  ready : List XEvent := []             -- found and not yet delivered
  waiting : Bool := false               -- a NEXTX waits
  cur : XEvent := {}
  deriving DecidableEq, Repr

/-- A program of the store (R271, R272): number, slots, first word, words. -/
structure AProg where
  num : Nat
  slots : Nat
  start : Nat
  len : Nat
  deriving DecidableEq, Repr

/-- The microcode store (R271 to R273): the integrator region from word 0x800, its programs and the copy in
flash; `job` is the load or empty that runs. -/
structure AStore where
  words : List (BitVec 128) := []
  progs : List AProg := []
  image : List Byte := []               -- the image in force
  version : Nat := 0
  status : Nat := 0
  flash : Option (List Byte) := none
  job : Option (Nat × List Byte) := none
  deriving DecidableEq, Repr

/-- One context that is not Empty (R176 to R182). -/
structure Ctx where
  st : CtxSt := .defined
  owner : Nat
  busy : Option (CtxSt × Nat) := none   -- state the change leads to, the command's instant (R180)
  armAt : Nat := 0                      -- first Armed core cycle (R181)
  arming : Bool := false
  armCause : Option Nat := none         -- suspension cause that waits: for the first Armed cycle of an accepted arm, or
                                        -- for the work in flight (R180)
  evals : List Nat := []                -- bound evaluators: first, second (R174)
  partners : List Nat := []
  partnerServed : List Nat := []        -- partners whose die served their source when they were bound (R160)
  streams : List Stream := []
  phase : List (Nat × Nat) := []        -- trits in the incomplete byte of each stream, by its two dies (R30)
  ev : EvalSt := {}
  late : Bool := false                  -- a tap missed the deadline of R156
  toCompare : List (Nat × Nat × Bool) := []  -- accepted events still to compare, oldest first: firing sample, instant, fallback (R162)
  holdUntil : Nat := 0                  -- grains
  holdEvents : Nat := 0
  lastCycle : Option Nat := none        -- core cycle of the last accepted event
  autoFrom : Nat := 0
  forceAt : Option Nat := none
  sinceArm : Nat := 0                   -- events accepted since the last Arm or Resume (R210)
  stopFrom : Nat := 0
  stopMet : Bool := false
  stopAt : Option Nat := none           -- first core cycle in which a met stop condition admits nothing (R210)
  tableFull : Bool := false             -- the last entry was reserved under Stop (R199)
  levels : List (Nat × Nat × Slot) := []    -- levels that writes replaced, oldest first: until, object, value (R168)
  levelsAt : Nat := 0                   -- in-force cycle of the last level write
  levelsWait : Bool := false            -- the write waits for its in-force cycle
  latOld : Nat := 0                     -- L of the events located before `latFrom` grains (R167)
  latFrom : Nat := 0
  changedIn : Option Nat := none        -- core cycle in which a stop action or a suspension took the context (R179, R615)
  pending : List Segment := []          -- accepted, not yet published, oldest first
  table : List Segment := []            -- published and held, oldest first
  nextSeq : Nat := 0
  lastEnd : Option Nat := none          -- end of the previous record's window or first Armed cycle, grains (R50)
  mismatchNext : Bool := false
  recv : List (Nat × Nat) := []         -- last trit received of each source (R29)
  dec : Decimator := {}
  cru : Crucible := {}
  assays : List ARec := []              -- oldest first (R245, R249)
  homeDie : Nat := 0
  deriving DecidableEq, Repr

/-! ## Chapter 9: the capture memory controller -/

/-- A request that waits on a pseudo-channel of a die (R287, R288): a CXL.mem read, of the Bulk class. -/
structure MemReq where
  pc : Nat
  arrived : Nat                         -- base periods
  ld : Nat
  onSpare : Bool := false               -- its command failed in three replays and is executed on the spare reserve (R296)
  deriving DecidableEq, Repr

/-- The half of one die as its controller keeps it (R280 to R303). Units are 64-byte unit indexes (R284). -/
structure HalfCtl where
  postponed : List (Nat × Nat) := []    -- pseudo-channel, refreshes postponed (R290)
  poison : List Nat := []               -- listed units, oldest first (R298)
  spare : Nat := 0                      -- SPARE_STATE of R312
  spared : Option Nat := none           -- the pseudo-channel redirected into the reserve (R301)
  copying : Bool := false               -- its copy is under way (R302)
  written : List Nat := []              -- the written-map: units of it that their targets hold (R302)
  failed : List Nat := []               -- pseudo-channels failed and not spared, the last first (R303)
  queue : List MemReq := []             -- bulk requests waiting on its pseudo-channels, in arrival order (R288)
  rtWaits : List Nat := []              -- pseudo-channels whose real-time queue holds requests (R288, R290)
  scrubAt : Option Nat := none          -- arrival of the scrub read that waits for its pseudo-channel (R288)
  scrub : Nat := 0                      -- next unit to scrub (R299)
  scrubRows : List (Nat × Nat) := []    -- pseudo-channel and row (SID, ROW, BANK) of uncorrectable units in this pass (R300)
  scrubFrom : Nat := 0
  passes : Nat := 0
  lastPass : Nat := 0                   -- seconds
  retrain : Option (Nat × Nat × Bool) := none   -- channel, steps taken, the step is repeated (R294)
  agedLast : List Nat := []             -- pseudo-channels that served an aged request last (R288)
  refreshAt : List (Nat × Nat) := []    -- channel, core cycle of the refresh that fell due on it last (R308)
  stepFrom : List (Nat × Nat) := []     -- channel, instant before which it takes no retraining step (R294, R308)
  deriving DecidableEq, Repr

/-- One stack (R311): its state, the channels in self-refresh, its temperature in degrees. -/
structure Stack where
  st : Nat := 0
  selfRefresh : List Nat := []
  deriving DecidableEq, Repr

/-! ## Chapters 10, 11 and 12: buffers, ports, planishers, the raster engine -/

/-- What a hub buffer is for (R323). -/
inductive BufKind where
  | raster | planisher (x : Nat) | firmware
  deriving DecidableEq, Repr

/-- A hub buffer: contiguous in the system area of one die (R282, R395). -/
structure HubBuf where
  owner : Nat
  kind : BufKind
  die : Nat
  off : Nat
  size : Nat
  held : Bool := true                   -- its owner holds it
  deriving DecidableEq, Repr

/-- An open data port (R315 to R321); its cursor, length and status are objects. -/
structure Port where
  target : Nat
  select : Nat
  format : Nat := 0
  write : Bool := true                  -- target 1: the object may be written by this path
  staged : List Byte := []              -- bytes written through target 1 (R319)
  wrote : Bool := false
  seqs : List Nat := []                 -- segments held at open, for target 6
  deriving DecidableEq, Repr

/-- The verify decoder of a compressor: its own dictionary and the code read last (R363). -/
structure Verify where
  dict : List (Nat × (Nat × Nat)) := []
  next : Nat := 0
  prev : Option Nat := none
  deriving DecidableEq, Repr

/-- The job of a planisher (R352 to R366). Codes and symbols are natural numbers. -/
structure Job where
  decode : Bool := false
  byteMode : Bool := false
  items : Bool := false                 -- FORMAT Items16
  block : Bool := false
  freeze : Bool := false
  limit : Nat := 0
  blockBytes : Nat := 0
  dict : List (Nat × (Nat × Nat)) := [] -- entry: prefix code, symbol
  next : Nat := 0
  k : Nat := 0
  w : Option Nat := none                -- the match that grows, and its symbols
  wlen : Nat := 0
  kept : List Nat := []                 -- its symbols, the last first, kept for verification (R363)
  ver : Verify := {}
  upset : Option Nat := none            -- codes the encoder still writes before one goes wrong (R363)
  oweClear : Bool := false
  finish : Bool := false
  fin : Nat := 0                        -- what the end of the stream has written: 1 last code, 2 End, 3 trailer
  acc : Nat := 0                        -- bits of the incomplete last word
  accBits : Nat := 0
  syms : List Nat := []                 -- symbols still to code, or decoded and still to write
  raw : List Byte := []                 -- input bytes still to take
  rbit : Nat := 0                       -- bits of the first of them already read
  cbits : Nat := 0                      -- code bits read of the stream
  prev : Option Nat := none
  header : Bool := false                -- the stream header is written or read
  ended : Bool := false                 -- End has been read
  closed : Bool := false                -- the trailer has been checked
  inBytes : Nat := 0
  inSyms : Nat := 0
  outBytes : Nat := 0
  runBytes : Nat := 0
  crc : BitVec 32 := 0xFFFFFFFF#32      -- running CRC-32 of the original bytes
  out : List Byte := []                 -- output not yet taken
  full : Bool := false                  -- a run reached its limit
  err : Nat := 0
  errAt : Nat := 0xFFFFFFFFFFFFFFFF
  clears : Nat := 0
  blocks : Nat := 0
  fills : Nat := 0                      -- dictionaries filled under Freeze (R357, R376)
  blkDone : Nat := 0                    -- bytes of the block being decoded that are written (R366)
  deriving DecidableEq, Repr

/-- A planisher that is not Free (R367). -/
structure Plan where
  st : Nat := 1                         -- 1 Idle, 2 Running, 3 Out full, 4 Done, 5 Error
  owner : Nat
  job : Job := {}
  buf : Option Nat := none              -- handle of its output buffer
  lost : Bool := false                  -- its die is Lost (R371)
  deriving DecidableEq, Repr

/-- The settings of a layer that a latch takes together (R382 to R387, R392). -/
structure LayerSet where
  kind : Nat := 0
  handle : Nat := 0xFFFFFFFF
  x : Nat := 0
  y : Nat := 0
  w : Nat := 1024
  h : Nat := 512
  stride : Nat := 0
  mapfunc : Nat := 0
  gain : Nat := 256
  alpha : Nat := 255
  colour : Nat := 255
  cmap : List Byte := []                -- empty for the grey ramp
  points : List Nat := []               -- point words of a vector list, as rasterised
  plane : Option (Nat × Nat × Nat) := none   -- its coverage plane in the hub pool: die, half offset and bytes (R386)
  deriving DecidableEq, Repr

/-- One layer of the raster engine (R382, R392 to R395). -/
structure Layer where
  owner : Option Nat := none
  shown : LayerSet := {}                -- in force for the frame in progress
  latched : LayerSet := {}              -- in force from the next line 0
  pending : Option LayerSet := none     -- accepted and not yet latched
  paths : List Nat := []                -- the paths whose submission waits
  since : Nat := 0                      -- core cycle in which it was served
  ready : Bool := true                  -- its vector list has been rasterised
  leaving : Bool := false               -- released: unclaimed from the latch onward
  old : Option Nat := none              -- handle referenced until frame-done (R395)
  deriving DecidableEq, Repr

/-- One DisplayPort output (R380, R404). -/
structure DpOut where
  present : Bool := false
  trained : Option (Nat × Nat) := none  -- rate code and lanes
  narrow : Bool := false
  edid : List Byte := []
  deriving DecidableEq, Repr

/-- The raster engine (R377 to R400). -/
structure Raster where
  st : Nat := 0                         -- 0 Stopped, 1 Running, 2 Suspended
  stopping : Bool := false              -- Stop waits for the next line 0
  line : Nat := 0
  begun : Bool := false                 -- a line of the run has begun
  bg : Nat := 0                         -- RASTER_BG in force
  commitLine : Nat := 2160              -- RASTER_COMMIT_LINE in force
  layers : List Layer := List.replicate 8 {}
  rows : List (Nat × List (List Nat × Nat)) := []   -- rows fetched ahead: line, colour entries of each layer, its alpha
  srcRows : List (Nat × Nat × List Nat) := []   -- density rows held: layer, source row, cells merged when it was fetched (R388)
  last : Nat := 0                       -- the last pixel sent
  crc : BitVec 32 := 0xFFFFFFFF#32
  done : Bool := true                   -- the active lines of the frame have left
  under : Bool := false                 -- the frame has had an underrun
  outs : List DpOut := [{}, {}]
  deriving DecidableEq, Repr

/-! ## Chapters 10, 14, 15 and 17: channels, logical devices, the field-bus port, faults -/

/-- Mover channel states (R327). -/
inductive ChanSt where
  | free | idle | running | parked | quenched | failed
  deriving DecidableEq, Repr

/-- Number of a channel state (R327). -/
def ChanSt.num : ChanSt → Nat
  | .free => 0 | .idle => 1 | .running => 2 | .parked => 3 | .quenched => 4 | .failed => 5

/-- A mover channel that is not Free (R325 to R337). -/
structure Chan where
  st : ChanSt := .idle
  owner : Nat
  cur : Nat := 0
  done : Nat := 0
  credits : Nat := 0
  inFlight : Bool := false              -- a burst is in flight
  after : Option ChanSt := none         -- state it takes once that burst completes
  byPower : Bool := false               -- PARKED_BY_POWER
  nextTick : Nat := 0
  pausedIn : Option Nat := none         -- core cycle of a Pause that found no burst in flight (R342)
  again : Bool := false                 -- a quench abandoned its burst: it is repeated on the credit it had (R334, R335)
  deriving DecidableEq, Repr

/-- A claimed route of the event router (R338). -/
structure Route where
  owner : Nat
  source : Slot := 0
  dest : Slot := 0
  enable : Bool := false
  count : Nat := 0
  gone : Bool := false
  old : Option (Nat × Slot × Slot × Bool) := none   -- before this core cycle: source, destination, enable (R341)
  deriving DecidableEq, Repr

/-- LD states (R434). -/
inductive LdSt where
  | unallocated | allocated | enabled | disabling
  deriving DecidableEq, Repr

/-- Number of an LD state (R434). -/
def LdSt.num : LdSt → Nat
  | .unallocated => 0 | .allocated => 1 | .enabled => 2 | .disabling => 3

/-- One logical device (R434, R439, R440, R442, R456). -/
structure Ld where
  st : LdSt := .unallocated
  alloc : Nat := 0                      -- 256 MiB units
  mse : Bool := false
  bme : Bool := false
  decoder : Option (Nat × Nat) := none  -- committed HDM decoder: base, size
  masked : List Nat := []               -- masked MSI-X vectors
  pba : List Nat := []                  -- their pending bits
  reads : List Nat := []                -- CXL.mem reads not completed, oldest first: DPA
  readsAddr : List (Option Nat) := []   -- the capture address of each, none where no extent reaches
  readsReq : List (Option (Nat × MemReq)) := []   -- the die on whose queue each waits, and its request there (R288)
  events : List (Nat × Nat × Nat) := [] -- memory-module event records: handle, kind, address
  nextHandle : Nat := 1
  spdmVersion : Bool := false           -- SPDM negotiation reached: version, capabilities, algorithms
  spdmCaps : Bool := false
  spdmAlgs : Bool := false
  transcript : List Byte := []
  deriving DecidableEq, Repr

/-- NMT states of the field-bus port (R462). -/
inductive NmtSt where
  | unconfigured | initialisation | preOperational | operational | stopped
  deriving DecidableEq, Repr

/-- Number of an NMT state (R462). -/
def NmtSt.num : NmtSt → Nat
  | .unconfigured => 0 | .initialisation => 1 | .preOperational => 2 | .operational => 3 | .stopped => 4

/-- An emergency waiting to be sent (R472). -/
structure Emcy where
  code : Nat
  b0 : Nat := 0xFF
  b1 : Nat := 0xFF
  detail : Nat := 0
  deriving DecidableEq, Repr

/-- The USDO server's session (R480). -/
structure Usdo where
  key : Nat
  download : Bool
  size : Nat
  data : List Byte
  last : Nat
  deriving DecidableEq, Repr

/-- The CANopen FD field-bus port (R460 to R484). -/
structure Can where
  nmt : NmtSt := .unconfigured
  nodeId : Nat := 0xFF
  pendingId : Nat := 0xFF               -- node-ID assigned by LSS, in force at Reset Communication
  storedId : Nat := 0xFF                -- node-ID in flash
  lssConfig : Bool := false             -- LSS configuration state
  fastscan : Nat := 0
  queue : List Emcy := []               -- oldest first, at most 16 (R472)
  emcyFree : Nat := 0                   -- instant from which an EMCY may be sent
  active : List Nat := []               -- communication conditions that are active (R474)
  busOff : Bool := false
  errorPassive : Bool := false
  heard : List (Nat × Nat) := []        -- consumer k, instant of the last heartbeat
  lost : List Nat := []                 -- consumers whose heartbeat is lost
  nextBeat : Nat := 0
  tpdoDue : List Nat := []              -- TPDOs that are due to be sent
  tpdoFree : List (Nat × Nat) := []     -- instant from which a TPDO may be sent (inhibit)
  tpdoTimer : List (Nat × Nat) := []    -- instant of its event timer
  tpdoSync : List (Nat × Nat) := []     -- SYNCs counted for a synchronous TPDO
  tpdoHeld : List (Nat × List Byte) := []   -- payload a synchronous TPDO sampled at a SYNC within its inhibit time (R470)
  rpdoHeld : List (Nat × List Byte) := []   -- RPDOs that wait for SYNC (R478)
  rpdoTimer : List (Nat × Nat) := []
  usdo : Option Usdo := none
  stored : Option (List (Nat × Slot)) := none   -- communication objects stored in flash (R482)
  storedFor : Nat := 0xFF               -- node-ID in force at that store
  marked : Bool := false                -- RESTORE_COMM marked it
  rate : Nat := 5                       -- FB_DATA_RATE and FB_TERM in force (R461)
  term : Bool := false
  deriving DecidableEq, Repr

/-- One entry of the fault log (R536). -/
structure LogEntry where
  tm : Nat                              -- absolute base periods
  bit : Nat
  fault : Bool
  die : Nat
  input : Nat
  state : Nat
  emcy : Nat
  detail : Nat
  seq : Nat
  deriving DecidableEq, Repr

/-- A ternary capture that waits or runs (R545): its stream, and the trits not yet packed and the bytes so far. -/
structure Capture where
  ctx : Nat
  die : Nat
  src : Nat                             -- input of the pair
  second : Bool                         -- B of Sequence
  dst : Nat                             -- die of the evaluator
  running : Bool := false
  gone : Bool := false                  -- the stream has been released
  skip : Nat := 0                       -- samples of the next sheet that lie before the first byte captured
  last : Nat := 1
  trits : List Nat := []
  bytes : List Byte := []
  deriving DecidableEq, Repr

/-- The fault supervisor (R520 to R541). -/
structure Faults where
  openEvents : List (Nat × Nat) := []   -- tarnish bit and instant of each open fault event, oldest first
  log : List LogEntry := []             -- oldest first, at most 256
  flushed : Nat := 0                    -- entries of the log that are in flash
  logSeq : Nat := 0                     -- entries made since manufacture
  suspects : List (List Byte) := []     -- suspect intervals, oldest first, at most 64 (R531)
  lanes : List (Nat × Nat × Nat) := []  -- link direction, lane, instant of a CRC failure (R523)
  linkFail : List (Nat × Nat) := []     -- link direction, failed lanes
  downLinks : List Nat := []            -- link i joins die i and die i + 1 (R523)
  setIn : List (Nat × Nat) := []        -- tarnish bits, with the core cycle in which each set last (R540)
  hubMismatch : Bool := false           -- the control pair set LOCKSTEP since it was polished (R473, R528)
  evalFailed : List Nat := []           -- failed evaluators (R524)
  checkFailed : List Nat := []          -- dies whose check evaluator failed
  lastPass : List (Nat × Nat) := []     -- evaluator, start of its last passed test window
  pairTest : List (Nat × List Nat) := []    -- mismatches: home evaluator, evaluators still to test (R525)
  phases : List (Nat × Nat) := []       -- die, phase its audit comes to next (R530)
  held : List (Nat × Nat × Nat × Nat × Nat) := []   -- monitor entries that wait for a restart: bit, die, input, detail, EMCY (R589)
  evalHeld : List (Nat × Nat × Bool) := []  -- disagreements that wait for a restart: die, evaluator, check evaluator passed (R528)
  capture : Option Capture := none
  inputPass : List (Nat × Nat) := []    -- input, start of its last passed phase window or test
  deriving DecidableEq, Repr

/-! ## Chapters 16 and 17: power, clocks, self-tests -/

/-- One clock loop (R506): its state, and the locks it has lost since its domain started. -/
structure Loop where
  st : Nat := 0                         -- 0 Off, 1 Locking, 2 Active, 3 Standby, 4 Gated, 5 Failed
  losses : Nat := 0
  deriving DecidableEq, Repr

/-- A wake request: its instant, the cause of WAKE_CAUSE, and its input, 0xFF for none (R489, R495). -/
structure WakeReq where
  at_ : Nat
  cause : Nat
  input : Nat
  deriving DecidableEq, Repr

/-- The power sequencer, transitions, pins and references (R488 to R508). Domain x of R488 stands at x − 1. -/
structure Power where
  domains : List Nat := List.replicate 15 0   -- 0 Off, 1 Retention, 2 Queued, 3 Starting, 4 On, 5 Stopping
  queue : List Nat := []                -- domains waiting to start, in order
  lastAt : Nat := 0                     -- the last admission, and the peak admitted in mA (R489)
  lastPeak : Nat := 0
  waited : Bool := false                -- the front start has been counted as waiting for budget
  entry : Option (Nat × Nat) := none    -- an entry that waits for a commit or regroup: its phase, and when it goes on (R493)
  entryAt : Nat := 0                    -- core cycle of the command that began it (R509)
  watchAt : Nat := 0                    -- Watch entry (R495)
  wakeAt : Nat := 0                     -- the waking event (R497)
  wakeKept : List WakeReq := []         -- wake requests that arrived during Watch entry (R491, R509)
  wakeReqs : List WakeReq := []         -- the requests of the wake that runs, in the order of R489
  wakeList : List Nat := []             -- entries of 2103 whose arm is still to be served, subindex order
  deepFrom : Nat := 0                   -- device time at Deep entry (R38)
  deepExit : Nat := 0                   -- first base period after the last exit from Deep (R38, R56)
  perst : Bool := false                 -- PERST# is asserted (R554)
  perstReset : Bool := false            -- its deassertion is a reset: it was asserted while the module ran
  startHeld : Bool := false             -- it abandoned the start in progress
  wakePin : Bool := false               -- WAKE# is driven low (R500)
  startKind : Nat := 1                  -- 1 mains on, 2 leaving Deep, 3 PERST# (R552)
  startCause : Nat := 7                 -- WAKE_CAUSE of the start
  startFrom : Nat := 0
  failing : Bool := false               -- the hold-up has ended (R501)
  loops : List (List Loop) := List.replicate 9 (List.replicate 4 {})  -- dies 0 to 7, hub; SAMPLE_A, _B, CORE_A, _B
  extValid : Option Nat := none         -- MHz of the external reference that is valid (R502)
  extPresent : Bool := false            -- edges of the external reference are present (R502, R516)
  extTaken : Bool := true               -- a lost reference may be taken again (R504)
  intFailed : Bool := false             -- the internal oscillator has failed (R526)
  noRef : Bool := false                 -- the internal oscillator failed with no reference (R526)
  deriving DecidableEq, Repr

/-- One image of a bank (R549, R550). -/
structure FwImage where
  kind : Nat
  slot : Nat
  rollback : Nat
  version : Nat
  digest : List Byte
  revokeLower : Bool := false
  deriving DecidableEq, Repr

/-- One firmware bank (R547): whether what it holds is complete, its release and its images in ascending KIND. -/
structure FwBank where
  valid : Bool := false
  release : Nat := 0
  images : List FwImage := []
  deriving DecidableEq, Repr

/-- A request that waits for the security engine (R442, R561): the owner code and the nonce of a report. -/
structure Attest where
  owner : Nat
  nonce : List Byte
  deriving DecidableEq, Repr

/-- Flash banks, fuses and the update in progress (R547, R548, R563). -/
structure Fw where
  banks : List FwBank := [{}, {}]
  cur : Nat := 0                        -- bank named in flash as current
  inForce : Nat := 0
  trial : Bool := false                 -- the named bank is marked for trial
  fallback : Bool := false              -- the bank in force came from a fallback
  rollback : List Nat := List.replicate 6 0
  revoked : List Nat := []
  pkg : Option FwBank := none           -- the package that verified
  interrupted : Bool := false           -- a reset met an Install (R568)
  attempt : Nat := 0                    -- banks the start in progress has given up
  watchdog : Bool := false
  attest : Option Attest := none
  deriving DecidableEq, Repr

/-- An input-path test that runs (R530, R588, R589). -/
structure InputTest where
  input : Nat
  commanded : Bool
  deriving DecidableEq, Repr

/-- The housekeeping converter (R573 to R588). -/
structure Hk where
  scan : Nat := 0                       -- monitor channel the scan comes to next
  slots : Nat := 0                      -- monitor slots of the cycle in progress
  cycles : List (Nat × Nat) := []       -- end and slots of the longest cycles of the last second, newest first (R574)
  again : Option Nat := none            -- channel whose conversion is repeated next (R577)
  entry : Nat := 0                      -- table entry in progress (R585)
  taken : Nat := 0                      -- its conversions so far, their sum, and what they met
  sum : Nat := 0
  clip : Bool := false
  settled : Bool := true
  settleAt : Option Nat := none         -- end of the settling of R580
  aux : Option (Nat × Nat) := none      -- AUX input and step that measure (R584)
  zero : Option (Nat × Nat) := none     -- AUX input with Zero done, and its r0
  restart : Bool := false               -- a table hand-over met a calibration (R589)
  deriving DecidableEq, Repr

/-! ## Stops -/

/-- Reasons a step faults. -/
inductive Fault where
  /-- Raised by no command: the specification gives every command an effect. Kept so that a later repair
  can name a stuck state. Safe. -/
  | stuck
  deriving DecidableEq, Repr

/-- Reasons a step refuses a command. -/
inductive Refusal where
  /-- Raised by an arm of `exec` whose command has no meaning yet. Safe. -/
  | notModelled (mnemonic : String)
  deriving DecidableEq, Repr

/-! ## The state -/

/-- Device states (R30 table, R31). -/
inductive DevSt where
  | off | deep | watch | ready | armed
  deriving DecidableEq, Repr

/-- Number of a device state in 2001:01 (R427). -/
def DevSt.num : DevSt → Nat
  | .off => 0 | .deep => 1 | .watch => 2 | .ready => 3 | .armed => 4

/-- The state of the SZ480. -/
structure State where
  variant : Variant                     -- R2
  pending : List Instr                  -- the model's queue of waiting commands, first in first out
  counter : BitVec 55                   -- device time counter (R34)
  wraps : BitVec 16                     -- wrap count (R34)
  dev : DevSt                           -- device state (R31)
  starting : Bool                       -- a start runs (R552)
  objs : List (Nat × Slot)              -- scalar objects that differ from their defaults, by key
  blobs : List (Nat × List Byte)        -- DOMAIN and VISIBLE_STRING objects that are not empty, by key
  mem : List Host.Cell                  -- capture memory by capture address (R283)
  halves : List HalfCtl                 -- by die
  hbm : List Stack                      -- by stack (R280)
  paths : List (Nat × Path)             -- access paths that differ from their reset value (R409)
  mailboxes : List (Nat × Mailbox)      -- R417
  shadows : List Shadow                 -- R422
  commits : List Commit                 -- R423
  servedAt : Option Nat                 -- core cycle of the dictionary server's last access (R411)
  stored : Option (List (Nat × Slot))   -- the stored set in flash (R426)
  storedOld : Option (List (Nat × Slot))   -- the older of the two copies in flash (R426)
  storeMarked : Bool                    -- DICT_RESTORE marked it (R426)
  storeCopy : Option (List (Nat × Slot)) -- the copy a running store writes
  storeAt : Nat                         -- the core cycle of that copy
  hubRestart : Bool                     -- a hub controller restart runs (R424)
  missed : List (Nat × Nat × Nat)       -- accesses that met it: path, key, op
  dies : List Die                       -- R91
  inputs : List Input                   -- R88
  cal : Cal
  skewSets : List (List Nat × List Nat) -- member sets with stored trims, latest in force first (R101)
  ctxs : List (Nat × Ctx)               -- contexts that are not Empty
  turn : Nat                            -- context whose turn to publish comes next (R195)
  allocs : List Alloc                   -- pool allocations (R183)
  cruBufs : List (Nat × CruBuf)         -- crucible buffers, by handle
  nextHandle : Nat                      -- next buffer handle
  astore : AStore
  trigOut : List Nat                    -- leading edges due at trigger out, grains (R166)
  trigOutEnd : Nat                      -- trailing edge of the pulse in force, grains
  trigOutHigh : Bool
  trigInOld : Option Nat                -- instant until which the old trigger-in threshold may hold (R172)
  trigInEdges : List (Nat × Bool)       -- edges stamped in the core cycle in force (R163)
  bufs : List (Nat × HubBuf)            -- hub buffers, by handle
  ports : List (Nat × Port)             -- open ports: path p, or 100 + context
  plans : List (Nat × Plan)             -- planishers that are not Free
  raster : Raster
  chans : List (Nat × Chan)             -- mover channels that are not Free
  quenched : List Nat                   -- movers within 2 µs of a quench (R334)
  routes : List (Nat × Route)           -- claimed routes
  reqLines : List Nat                   -- router request outputs that pulsed and are not yet delivered (R340)
  pulsed : List (Nat × Nat)             -- sources and request lines, with the core cycle of their last pulse (R338, R342)
  mvLast : List (Nat × Nat)             -- movers, with the channel that issued last (R325)
  lds : List Ld                         -- LD 0 to 15
  modeCfg : Nat                         -- CXL_MODE_CFG in force since the last reset (R433)
  aerUncorrectable : Bool               -- AER holds an uncorrectable link error (R430, R451)
  spdmFree : Nat                        -- instant from which the SPDM responder is free (R442)
  smbusAddr : Nat                       -- CXL_SMBUS_ADDR in force since the last reset (R454)
  can : Can
  power : Power
  test : Option InputTest               -- the input-path test that runs
  testNext : Option Nat                 -- a commanded test that waits (R588)
  testDue : List Nat                    -- scheduled tests that fell due meanwhile (R589)
  hk : Hk
  supRestart : Bool                     -- the supervisor pair restarts (R528)
  deferred : List Instr                 -- supervisor actions that wait for it (R528)
  fw : Fw
  faults : Faults
  sent : List Out
  freeCtr : Nat                         -- free values drawn so far (the model's own)
  deriving DecidableEq, Repr

/-! ## Reset -/

/-- The bank the module leaves the factory with (log 15). -/
def factoryBank : FwBank :=
  { valid := true, release := Config.factoryRelease.toNat
    images := (List.range 6).map fun k =>
      { kind := k + 1, slot := if k = 0 then Config.factorySlot.toNat else 0, rollback := 0
        version := (Config.factoryVersion (k + 1)).toNat, digest := Config.factoryDigest (k + 1) } }

/-- A die right after a start without a fault: Active, Full, its 64 slices in their own positions, trims at midscale
(R69, R91, R552). -/
def Die.reset : Die :=
  { st := .active, lineup := .full, positions := List.range 64, counterFrom := some 0 }

/-- The machine right after reset: an sz8 module at the end of a mains-on start that found no fault and no stored set,
in Ready (R425, R552; log 1). The objects listed are those whose value at that instant is not their default:
DEVICE_STATUS (RESET_SEEN, STORE_INVALID), WAKE_CAUSE, the eight PTEST_RESULT, BOOT_KIND and BOOT_COUNT. -/
def State.reset : State :=
  { variant := .sz8, pending := [], counter := 0, wraps := 0, dev := .ready, starting := false
    objs := [(0x200104, 5), (0x210004, 7), (0x234101, 1), (0x234102, 1), (0x234103, 1), (0x234104, 1)
      , (0x234105, 1), (0x234106, 1), (0x234107, 1), (0x234108, 1), (0x290001, 1), (0x290006, 1)]
    blobs := [], mem := [], halves := List.replicate 8 {}, hbm := List.replicate 4 { st := 2 }
    paths := [], mailboxes := [], shadows := [], commits := [], servedAt := none
    stored := none, storedOld := none, storeMarked := false, storeCopy := none, storeAt := 0
    hubRestart := false, missed := []
    dies := List.replicate 8 Die.reset
    inputs := (List.range 8).map fun n => { members := [n] }
    cal := {}, skewSets := [], ctxs := [], turn := 0, allocs := [], cruBufs := [], nextHandle := 1, astore := {}
    trigOut := [], trigOutEnd := 0, trigOutHigh := false, trigInOld := none, trigInEdges := []
    bufs := [], ports := [], plans := [], raster := {}, chans := [], quenched := [], routes := [], reqLines := [], pulsed := [], mvLast := []
    lds := List.replicate 16 {}, modeCfg := 0, aerUncorrectable := false, spdmFree := 0, smbusAddr := 0x64
    can := {}
    power := { domains := List.replicate 15 4
               loops := List.replicate 9 [{ st := 2 }, { st := 3 }, { st := 2 }, { st := 3 }] }
    test := none, testNext := none, testDue := [], hk := {}, supRestart := false, deferred := []
    fw := { banks := [factoryBank, {}] }
    faults := {}, sent := [], freeCtr := 0 }

end Sys2Proof.Machine
end

