-- ==== Sys2Proof/Machine/Operands.lean ====
section
/-!
DEFINITION. The operand forms: bit fields of slots, the object types' slot form and representability
(R406, R407), touchmarks (R40 to R42), signed views and byte strings.
-/
namespace Sys2Proof.Machine

/-- The field of width `w` at bit `lo`. -/
def fld (x : Slot) (lo w : Nat) : Nat := x.toNat / 2 ^ lo % 2 ^ w

/-- `x` with the field of width `w` at bit `lo` set to `v`. -/
def setFld (x : Slot) (lo w v : Nat) : Slot :=
  BitVec.ofNat 64 (x.toNat - fld x lo w * 2 ^ lo + (v % 2 ^ w) * 2 ^ lo)

/-- Bit `b` of a slot. -/
def bit (x : Slot) (b : Nat) : Bool := x.toNat.testBit b

/-- A slot holding a natural number. -/
def ofN (n : Nat) : Slot := BitVec.ofNat 64 n

/-- A slot holding an integer, sign-extended (R406). -/
def ofI (n : Int) : Slot := BitVec.ofInt 64 n

/-- 1 or 0. -/
def b2n (b : Bool) : Nat := if b then 1 else 0

/-- Bytes of a type's value (R406). -/
def ObjTy.bytes : ObjTy → Nat
  | .bool | .u8 | .i8 => 1
  | .u16 | .i16 => 2
  | .u32 | .i32 | .real32 | .grain32 => 4
  | .u64 | .i64 | .touchmark | .str | .domain => 8

/-- Whether a type is an integer type with sign. -/
def ObjTy.signed : ObjTy → Bool
  | .i8 | .i16 | .i32 | .i64 => true
  | _ => false

/-- Whether values of the type move whole (R407). -/
def ObjTy.isBlob : ObjTy → Bool
  | .str | .domain => true
  | _ => false

/-- The value a slot holds under a type. -/
def ObjTy.value (t : ObjTy) (v : Slot) : Int := if t.signed then v.toInt else (v.toNat : Int)

/-- Whether a binary32 pattern is a NaN. -/
def isNaN32 (n : Nat) : Bool := n / 2 ^ 23 % 256 == 255 && n % 2 ^ 23 != 0

/-- Whether the slot is the slot form of a value of the type (R407). -/
def ObjTy.fits (t : ObjTy) (v : Slot) : Bool :=
  match t with
  | .bool => v.toNat < 2
  | .u8 => v.toNat < 2 ^ 8
  | .u16 => v.toNat < 2 ^ 16
  | .u32 | .grain32 => v.toNat < 2 ^ 32
  | .real32 => v.toNat < 2 ^ 32 && !isNaN32 v.toNat
  | .i8 => -(2 ^ 7) ≤ v.toInt && v.toInt < 2 ^ 7
  | .i16 => -(2 ^ 15) ≤ v.toInt && v.toInt < 2 ^ 15
  | .i32 => -(2 ^ 31) ≤ v.toInt && v.toInt < 2 ^ 31
  | .touchmark => v.toNat % 512 < 480
  | .u64 | .i64 | .str | .domain => true

/-- The slot form of the low bytes of a word taken as a value of the type: the extension of R406. -/
def ObjTy.extend (t : ObjTy) (n : Nat) : Slot :=
  let w := 8 * t.bytes
  let m := n % 2 ^ w
  if t.signed && m.testBit (w - 1) then ofI ((m : Int) - 2 ^ w) else ofN m

/-- The touchmark of an absolute grain count (R40, R41). -/
def tmOfGrains (g : Nat) : Slot := ofN (g / 480 % 2 ^ 55 * 512 + g % 480)

/-- The wrap count of an absolute grain count (R41). -/
def wrapOfGrains (g : Nat) : Nat := g / 480 / 2 ^ 55 % 2 ^ 16

/-- The touchmark of an absolute base-period count. -/
def tmOf (t : Nat) : Slot := ofN (t % 2 ^ 55 * 512)

/-- Grains of a duration in touchmark layout (R42). -/
def durGrains (v : Slot) : Nat := v.toNat / 512 * 480 + v.toNat % 512

/-- A duration in touchmark layout (R42). -/
def durOf (g : Nat) : Slot := ofN (g / 480 * 512 + g % 480)

/-- Rounds a fraction to the nearest integer, halves away from zero (R60, R204). -/
def roundAway (num : Int) (den : Nat) : Int :=
  if num < 0 then -(((-num).toNat * 2 + den) / (2 * den) : Nat) else ((num.toNat * 2 + den) / (2 * den) : Nat)

/-- Limits an integer to a range. -/
def clampI (lo hi x : Int) : Int := if x < lo then lo else if hi < x then hi else x

/-- Saturates a count. -/
def satN (w n : Nat) : Nat := if n < 2 ^ w then n else 2 ^ w - 1

/-- `n` bytes of a number, least significant first (R6). -/
def leBytes : Nat → Nat → List Byte
  | 0, _ => []
  | n + 1, x => BitVec.ofNat 8 x :: leBytes n (x / 256)

/-- The number a byte string holds, least significant first (R6). -/
def leNat : List Byte → Nat
  | [] => 0
  | b :: bs => b.toNat + 256 * leNat bs

/-- The low ten bits of a sample code. -/
def code10 (c : Int) : Nat := (c % 1024).toNat

/-- A ten-bit field read as a sample code (R71). -/
def ofCode10 (n : Nat) : Int := if n < 512 then (n : Int) else (n : Int) - 1024

/-- The void code (R71). -/
def voidCode : Int := -512

/-- Whether a code is overrange (R71). -/
def isOver (c : Int) : Bool := c ≠ voidCode && (c < -480 || 480 < c)

/-- The nibbles of a deal order, unused ones 0xF (R93). -/
def orderNibbles (ms : List Nat) : Nat :=
  (List.range 8).foldl (fun a j => a + (ms.getD j 15) * 16 ^ j) 0

/-- The bit mask of a list of numbers. -/
def maskOf (ms : List Nat) : Nat := (List.range 64).foldl (fun a j => if ms.contains j then a + 2 ^ j else a) 0

/-- The numbers a bit mask names. -/
def unmask (w m : Nat) : List Nat := (List.range w).filter fun j => m.testBit j

/-- Inserts into a list sorted by a key, after equal keys. -/
def insertBy {α : Type} (key : α → Nat) (x : α) : List α → List α
  | [] => [x]
  | y :: r => if key x < key y then x :: y :: r else y :: insertBy key x r

/-- Sorts by a key, stably. -/
def sortBy {α : Type} (key : α → Nat) (l : List α) : List α := l.foldl (fun a x => insertBy key x a) []

/-- The distinct numbers of a list, each at its first place. -/
def uniq (l : List Nat) : List Nat := l.foldl (fun a x => if a.contains x then a else a ++ [x]) []

/-- Numbers in ascending order. -/
def sortN (l : List Nat) : List Nat := sortBy id l

end Sys2Proof.Machine
end

