-- ==== Sys2Proof/Machine/Flags.lean ====
section
/-!
DEFINITION. Flag computations: setting a status bit, polishing (R13), saturating counters, and the error codes
CRC-8 (R74) and CRC-32 (R26, R399, R426).
-/
namespace Sys2Proof.Machine

/-- A status word with bit `b` set. -/
def setBit (x : Slot) (b : Nat) : Slot := x ||| ofN (2 ^ b)

/-- A status word with bit `b` clear. -/
def clearBit (x : Slot) (b : Nat) : Slot := x &&& ~~~ ofN (2 ^ b)

/-- A status word with bit `b` as given. -/
def putBit (x : Slot) (b : Nat) (v : Bool) : Slot := if v then setBit x b else clearBit x b

/-- A polished status word: every polishable bit written as one clears (R13). -/
def polish (x v : Slot) (mask : Nat) : Slot := x &&& ~~~ (v &&& ofN mask)

/-- One bit of the CRC-8 with polynomial 0x07 (R74). -/
def crc8Bit (c : BitVec 8) : BitVec 8 := if c.msb then (c <<< 1) ^^^ 0x07#8 else c <<< 1

/-- One byte into the CRC-8 of R74. -/
def crc8Byte (c b : BitVec 8) : BitVec 8 :=
  crc8Bit (crc8Bit (crc8Bit (crc8Bit (crc8Bit (crc8Bit (crc8Bit (crc8Bit (c ^^^ b))))))))

/-- The CRC-8 of R74 over a byte string. -/
def crc8 (bs : List Byte) : BitVec 8 := bs.foldl crc8Byte 0#8

/-- One bit of the reflected CRC-32 with the IEEE 802.3 polynomial. -/
def crc32Bit (c : BitVec 32) : BitVec 32 :=
  if c.getLsbD 0 then (c >>> 1) ^^^ 0xEDB88320#32 else c >>> 1

/-- One byte into the CRC-32 of IEEE 802.3. -/
def crc32Byte (c : BitVec 32) (b : BitVec 8) : BitVec 32 :=
  crc32Bit (crc32Bit (crc32Bit (crc32Bit (crc32Bit (crc32Bit (crc32Bit (crc32Bit (c ^^^ b.zeroExtend 32))))))))

/-- The CRC-32 of IEEE 802.3 over a byte string. -/
def crc32 (bs : List Byte) : BitVec 32 := ~~~ (bs.foldl crc32Byte 0xFFFFFFFF#32)

end Sys2Proof.Machine
end

