-- ==== Sys2Proof/Machine/ObjNames.lean ====
section
/-!
DEFINITION. The names of the dictionary's objects, each as the number index × 256 + subindex of its first
subindex. An object of one input, layer, device or PDO stands with that digit 0.
-/
namespace Sys2Proof.Machine.O

abbrev DEVICE_TYPE : Nat := 0x100000
abbrev ERROR_REGISTER : Nat := 0x100100
abbrev ERR_HIST_k : Nat := 0x100301
abbrev COB_ID_SYNC : Nat := 0x100500
abbrev DEVICE_NAME : Nat := 0x100800
abbrev HW_VERSION : Nat := 0x100900
abbrev SW_VERSION : Nat := 0x100A00
abbrev STORE_ALL : Nat := 0x101001
abbrev STORE_COMM : Nat := 0x101002
abbrev RESTORE_ALL : Nat := 0x101101
abbrev RESTORE_COMM : Nat := 0x101102
abbrev COB_ID_TIME : Nat := 0x101200
abbrev COB_ID_EMCY : Nat := 0x101400
abbrev INHIBIT_EMCY : Nat := 0x101500
abbrev HB_CONSUMER_k : Nat := 0x101601
abbrev HB_PRODUCER : Nat := 0x101700
abbrev VENDOR_ID : Nat := 0x101801
abbrev PRODUCT_CODE : Nat := 0x101802
abbrev REVISION : Nat := 0x101803
abbrev SERIAL : Nat := 0x101804
abbrev ERR_COMM : Nat := 0x102901
abbrev RPDO_COBID : Nat := 0x140001
abbrev RPDO_TYPE : Nat := 0x140002
abbrev RPDO_TIMEOUT : Nat := 0x140005
abbrev RPDO_CONTEXT : Nat := 0x140020
abbrev RPDO_MAP_COUNT : Nat := 0x160000
abbrev RPDO_MAP_k : Nat := 0x160001
abbrev TPDO_COBID : Nat := 0x180001
abbrev TPDO_TYPE : Nat := 0x180002
abbrev TPDO_INHIBIT : Nat := 0x180003
abbrev TPDO_TIMER : Nat := 0x180005
abbrev SYNC_START : Nat := 0x180006
abbrev TPDO_CONTEXT : Nat := 0x180020
abbrev TPDO_FLAGS : Nat := 0x180021
abbrev TPDO_MAP_COUNT : Nat := 0x1A0000
abbrev TPDO_MAP_k : Nat := 0x1A0001
abbrev NMT_STARTUP : Nat := 0x1F8000
abbrev FB_FLAGS : Nat := 0x1FF001
abbrev SYNC_TM : Nat := 0x1FF002
abbrev SYNC_WRAP : Nat := 0x1FF003
abbrev SYNC_COUNT : Nat := 0x1FF004
abbrev ERR_HIST_CLEAR : Nat := 0x1FF005
abbrev FB_NODE_ID : Nat := 0x1FF101
abbrev FB_DATA_RATE : Nat := 0x1FF102
abbrev FB_TERM : Nat := 0x1FF103
abbrev FB_NMT_STATE : Nat := 0x1FF104
abbrev FB_STATUS : Nat := 0x1FF105
abbrev FB_BUSOFF_COUNT : Nat := 0x1FF106
abbrev FB_RPDO_ABORTS : Nat := 0x1FF107
abbrev ID_VENDOR : Nat := 0x200001
abbrev ID_PRODUCT : Nat := 0x200002
abbrev ID_VARIANT : Nat := 0x200003
abbrev ID_SERIAL : Nat := 0x200004
abbrev ID_MFG_DAYS : Nat := 0x200005
abbrev ID_DIES : Nat := 0x200006
abbrev ID_INPUTS : Nat := 0x200007
abbrev ID_HBM_GB : Nat := 0x200008
abbrev ID_CONTEXTS : Nat := 0x200009
abbrev ID_LDS : Nat := 0x20000A
abbrev ID_EVALUATORS : Nat := 0x20000B
abbrev ID_DICT_VERSION : Nat := 0x20000C
abbrev DEVICE_STATE : Nat := 0x200101
abbrev DEVICE_STATE_TM : Nat := 0x200102
abbrev DEVICE_STATE_WRAP : Nat := 0x200103
abbrev DEVICE_STATUS : Nat := 0x200104
abbrev DICT_COMMIT : Nat := 0x200201
abbrev DICT_GEN : Nat := 0x200202
abbrev DICT_GEN_TM : Nat := 0x200203
abbrev DICT_PENDING : Nat := 0x200204
abbrev PATH_ID : Nat := 0x200301
abbrev PATH_OWNER : Nat := 0x200302
abbrev PATH_STATUS : Nat := 0x200303
abbrev PATH_LAST_ABORT : Nat := 0x200304
abbrev PATH_ABORTS : Nat := 0x200305
abbrev PATH_SHADOW_READ : Nat := 0x200306
abbrev PATH_COMMIT_GEN : Nat := 0x200307
abbrev DICT_STORE : Nat := 0x200401
abbrev DICT_RESTORE : Nat := 0x200402
abbrev DICT_STORE_COUNT : Nat := 0x200403
abbrev DICT_STORE_TM : Nat := 0x200404
abbrev POWER_CMD : Nat := 0x210001
abbrev POWER_PHASE : Nat := 0x210002
abbrev POWER_STATUS : Nat := 0x210003
abbrev WAKE_CAUSE : Nat := 0x210004
abbrev WAKE_INPUT : Nat := 0x210005
abbrev WAKE_TM : Nat := 0x210006
abbrev WAKE_WRAP : Nat := 0x210007
abbrev WAKE_TIMER_MS : Nat := 0x210008
abbrev LAST_WAKE_US : Nat := 0x210009
abbrev WAKE_ARM_FAILS : Nat := 0x21000A
abbrev DEEP_WAKE_MASK : Nat := 0x210101
abbrev DEEP_TIMER_S : Nat := 0x210102
abbrev DEEP_ENTRIES : Nat := 0x210103
abbrev WAKE_EDGE_n : Nat := 0x210201
abbrev WAKE_CTX_k : Nat := 0x210301
abbrev SEQ_BUDGET_MA : Nat := 0x210401
abbrev SEQ_SLEW_MA_MS : Nat := 0x210402
abbrev SEQ_PROJECTED_MA : Nat := 0x210403
abbrev SEQ_QUEUE : Nat := 0x210404
abbrev SEQ_BUDGET_WAITS : Nat := 0x210405
abbrev DOMAIN_STATE_x : Nat := 0x210501
abbrev MAINS_DIPS : Nat := 0x210601
abbrev MAINS_LONGEST_MS : Nat := 0x210602
abbrev REF_SELECT : Nat := 0x211001
abbrev REF_IN_USE : Nat := 0x211002
abbrev REF_STATUS : Nat := 0x211003
abbrev REF_LOSSES : Nat := 0x211004
abbrev REF_OUT_FREQ : Nat := 0x211005
abbrev REF_EXT_OFFSET : Nat := 0x211006
abbrev LOCK_WINDOW_PS : Nat := 0x211101
abbrev LOCK_COUNT : Nat := 0x211102
abbrev LOOP_HANDOVERS : Nat := 0x211103
abbrev LOOPS_x : Nat := 0x211201
abbrev TB_NOW : Nat := 0x220001
abbrev TB_WRAP : Nat := 0x220002
abbrev TB_STATUS : Nat := 0x220003
abbrev TB_DISC_COUNT : Nat := 0x220004
abbrev TB_DISC_TM : Nat := 0x220005
abbrev TB_DISC_CAUSE : Nat := 0x220006
abbrev TM_WRAP : Nat := 0x220007
abbrev EPOCH_SOURCE : Nat := 0x220101
abbrev EPOCH_TM : Nat := 0x220102
abbrev EPOCH_WRAP : Nat := 0x220103
abbrev EPOCH_NS : Nat := 0x220104
abbrev EPOCH_GEN : Nat := 0x220105
abbrev LATCH_ENABLE : Nat := 0x220201
abbrev LATCH_TM : Nat := 0x220202
abbrev LATCH_WRAP : Nat := 0x220203
abbrev LATCH_COUNT : Nat := 0x220204
abbrev HK_REF_SELECT : Nat := 0x230001
abbrev HK_STATUS : Nat := 0x230002
abbrev HK_EXT_REF_MV : Nat := 0x230003
abbrev HK_MON_CYCLE_US : Nat := 0x230004
abbrev HK_SWEEP_TM : Nat := 0x230005
abbrev HK_SWEEP_COUNT : Nat := 0x230006
abbrev HK_CORR_c : Nat := 0x230101
abbrev HK_CORR_AUX_k : Nat := 0x23012D
abbrev AUX_CFG_k : Nat := 0x230201
abbrev AUX_CAL_UV_k : Nat := 0x230301
abbrev AUX_CAL_CMD : Nat := 0x230401
abbrev AUX_CAL_STATE : Nat := 0x230402
abbrev AUX_CAL_ERR : Nat := 0x230403
abbrev SEQ_ENTRY_k : Nat := 0x232001
abbrev SEQ_RESULT_k : Nat := 0x232101
abbrev MON_VALUE_c : Nat := 0x233001
abbrev MON_LOW_c : Nat := 0x233101
abbrev MON_HIGH_c : Nat := 0x233201
abbrev MON_STATUS_c : Nat := 0x233301
abbrev PTEST_CMD : Nat := 0x234001
abbrev PTEST_STATE : Nat := 0x234002
abbrev PTEST_RESULT_n : Nat := 0x234101
abbrev MEM_STACKS : Nat := 0x240001
abbrev MEM_HALF_MIB : Nat := 0x240002
abbrev MEM_POOL_MIB : Nat := 0x240003
abbrev MEM_SYSTEM_MIB : Nat := 0x240004
abbrev MEM_SPARE_MIB : Nat := 0x240005
abbrev MEM_VIEW_BASE : Nat := 0x240006
abbrev STACK_STATE_s : Nat := 0x240101
abbrev HASH_BANK_k : Nat := 0x240201
abbrev HASH_ACTIVE : Nat := 0x240205
abbrev MEM_IDLE_SR_US : Nat := 0x240301
abbrev MEM_RT_TOLERANCE_NS : Nat := 0x240302
abbrev MEM_POSTPONE_MAX : Nat := 0x240303
abbrev MEM_SCRUB_ENABLE : Nat := 0x240401
abbrev MEM_SCRUB_LAST_S : Nat := 0x240402
abbrev MEM_SCRUB_PASSES : Nat := 0x240403
abbrev DIE_MEM_d : Nat := 0x240501
abbrev MEM_CE_COUNT : Nat := 0x240601
abbrev MEM_UE_COUNT : Nat := 0x240602
abbrev MEM_PARITY_COUNT : Nat := 0x240603
abbrev MEM_POSTPONED : Nat := 0x240604
abbrev MEM_BAD_ACCESS : Nat := 0x240605
abbrev MEM_SPARE_CMD : Nat := 0x240701
abbrev MEM_STATUS : Nat := 0x240702
abbrev MEM_POISON_LIST : Nat := 0x240801
abbrev DP_CMD : Nat := 0x250001
abbrev DP_TARGET : Nat := 0x250002
abbrev DP_SELECT : Nat := 0x250003
abbrev DP_FORMAT : Nat := 0x250004
abbrev DP_OFFSET : Nat := 0x250005
abbrev DP_LENGTH : Nat := 0x250006
abbrev DP_DATA : Nat := 0x250007
abbrev DP_STATUS : Nat := 0x250008
abbrev DP_ERR : Nat := 0x250009
abbrev DP_POISON_OFFSET : Nat := 0x25000A
abbrev CDP_CMD : Nat := 0x250101
abbrev CDP_TARGET : Nat := 0x250102
abbrev CDP_SELECT : Nat := 0x250103
abbrev CDP_FORMAT : Nat := 0x250104
abbrev CDP_OFFSET : Nat := 0x250105
abbrev CDP_LENGTH : Nat := 0x250106
abbrev CDP_DATA : Nat := 0x250107
abbrev CDP_STATUS : Nat := 0x250108
abbrev CDP_ERR : Nat := 0x250109
abbrev CDP_POISON_OFFSET : Nat := 0x25010A
abbrev CAPWIN_o_w : Nat := 0x250301
abbrev HOSTWIN_BASE_0 : Nat := 0x250401
abbrev HOSTWIN_SIZE_0 : Nat := 0x250402
abbrev HOSTWIN_BASE_1 : Nat := 0x250403
abbrev HOSTWIN_SIZE_1 : Nat := 0x250404
abbrev HOSTWIN_BASE_2 : Nat := 0x250405
abbrev HOSTWIN_SIZE_2 : Nat := 0x250406
abbrev HOSTWIN_BASE_3 : Nat := 0x250407
abbrev HOSTWIN_SIZE_3 : Nat := 0x250408
abbrev MV_SELECT : Nat := 0x251001
abbrev MV_CHANNELS : Nat := 0x251002
abbrev MV_CH_CMD : Nat := 0x251101
abbrev MV_CH_STATE : Nat := 0x251102
abbrev MV_CH_OWNER : Nat := 0x251103
abbrev MV_CH_CONTEXT : Nat := 0x251104
abbrev MV_CH_FIRST : Nat := 0x251105
abbrev MV_CH_CUR : Nat := 0x251106
abbrev MV_CH_DONE : Nat := 0x251107
abbrev MV_CH_CREDITS : Nat := 0x251108
abbrev MV_CH_ERR : Nat := 0x251109
abbrev MV_CH_STATUS : Nat := 0x25110A
abbrev MV_CH_BYTES : Nat := 0x25110B
abbrev MV_CH_TICK_NS : Nat := 0x25110C
abbrev MV_DESC_i_w : Nat := 0x251201
abbrev MV_QUENCHES_x : Nat := 0x251401
abbrev MV_QUENCH_CAUSE_x : Nat := 0x25140A
abbrev EV_SELECT : Nat := 0x252001
abbrev EV_ROUTES : Nat := 0x252002
abbrev TRIGOUT_SHARED : Nat := 0x252003
abbrev EV_FREE_ROUTES : Nat := 0x252004
abbrev EV_CMD : Nat := 0x252101
abbrev EV_OWNER : Nat := 0x252102
abbrev EV_SOURCE : Nat := 0x252103
abbrev EV_DEST : Nat := 0x252104
abbrev EV_ENABLE : Nat := 0x252105
abbrev EV_COUNT : Nat := 0x252106
abbrev EV_STATUS : Nat := 0x252107
abbrev PL_SELECT : Nat := 0x260001
abbrev PL_COUNT : Nat := 0x260002
abbrev PL_CMD : Nat := 0x260101
abbrev PL_STATE : Nat := 0x260102
abbrev PL_OWNER : Nat := 0x260103
abbrev PL_CONFIG : Nat := 0x260104
abbrev PL_BLOCK_BYTES : Nat := 0x260105
abbrev PL_OUT_LIMIT : Nat := 0x260106
abbrev PL_OUT_BUF_KIB : Nat := 0x260107
abbrev PL_OUT_HANDLE : Nat := 0x260108
abbrev PL_ERR : Nat := 0x260109
abbrev PL_STATUS : Nat := 0x26010A
abbrev PL_IN_SYMBOLS : Nat := 0x260201
abbrev PL_OUT_BYTES : Nat := 0x260202
abbrev PL_RUN_BYTES : Nat := 0x260203
abbrev PL_PEND_BITS : Nat := 0x260204
abbrev PL_BLOCKS : Nat := 0x260205
abbrev PL_ERR_OFFSET : Nat := 0x260206
abbrev PL_DICT_NEXT : Nat := 0x260207
abbrev PL_CLEARS : Nat := 0x260208
abbrev PL_VERIFY_FAILS : Nat := 0x260209
abbrev RASTER_CMD : Nat := 0x270001
abbrev RASTER_STATE : Nat := 0x270002
abbrev RASTER_MODE : Nat := 0x270003
abbrev RASTER_LINES_AHEAD : Nat := 0x270004
abbrev RASTER_BG : Nat := 0x270005
abbrev RASTER_STATUS : Nat := 0x270006
abbrev RASTER_ERR : Nat := 0x270007
abbrev TIM_HACTIVE : Nat := 0x270101
abbrev TIM_HFRONT : Nat := 0x270102
abbrev TIM_HSYNC : Nat := 0x270103
abbrev TIM_HBACK : Nat := 0x270104
abbrev TIM_VACTIVE : Nat := 0x270105
abbrev TIM_VFRONT : Nat := 0x270106
abbrev TIM_VSYNC : Nat := 0x270107
abbrev TIM_VBACK : Nat := 0x270108
abbrev TIM_PCLK_KHZ : Nat := 0x270109
abbrev TIM_HSYNC_NEG : Nat := 0x27010A
abbrev TIM_VSYNC_NEG : Nat := 0x27010B
abbrev RASTER_COMMIT_LINE : Nat := 0x270201
abbrev RASTER_COMMIT : Nat := 0x270202
abbrev RASTER_FRAME : Nat := 0x270203
abbrev RASTER_COMMIT_FRAME : Nat := 0x270204
abbrev RASTER_MATCH_LINE : Nat := 0x270205
abbrev RASTER_LINE : Nat := 0x270206
abbrev RASTER_FRAME_TM : Nat := 0x270207
abbrev RASTER_TOLERANCE_NS : Nat := 0x270301
abbrev RASTER_FETCH_MBS : Nat := 0x270302
abbrev RASTER_UNDERRUN_LINES : Nat := 0x270303
abbrev RASTER_UNDERRUN_FRAMES : Nat := 0x270304
abbrev RBUF_CMD : Nat := 0x271001
abbrev RBUF_BYTES : Nat := 0x271002
abbrev RBUF_HANDLE : Nat := 0x271003
abbrev RBUF_TARGET : Nat := 0x271004
abbrev RBUF_ADDR : Nat := 0x271005
abbrev RBUF_SIZE : Nat := 0x271006
abbrev RBUF_REFS : Nat := 0x271007
abbrev RBUF_STATE : Nat := 0x271008
abbrev LAYER_CMD_l : Nat := 0x272001
abbrev LAYER_OWNER_l : Nat := 0x272002
abbrev LAYER_KIND_l : Nat := 0x272003
abbrev LAYER_HANDLE_l : Nat := 0x272004
abbrev LAYER_X_l : Nat := 0x272005
abbrev LAYER_Y_l : Nat := 0x272006
abbrev LAYER_W_l : Nat := 0x272007
abbrev LAYER_H_l : Nat := 0x272008
abbrev LAYER_STRIDE_l : Nat := 0x272009
abbrev LAYER_MAPFUNC_l : Nat := 0x27200A
abbrev LAYER_GAIN_l : Nat := 0x27200B
abbrev LAYER_ALPHA_l : Nat := 0x27200C
abbrev LAYER_COLOUR_l : Nat := 0x27200D
abbrev LAYER_FRAME_l : Nat := 0x27200E
abbrev LAYER_STATUS_l : Nat := 0x27200F
abbrev CMAP_l : Nat := 0x273001
abbrev OUT_STATE_o : Nat := 0x275001
abbrev RASTER_CRC_EXPECTED : Nat := 0x275003
abbrev OUT_CRC_READ_o : Nat := 0x275004
abbrev OUT_CRC_FAILS_o : Nat := 0x275006
abbrev OUT_EDID_o : Nat := 0x275008
abbrev CXL_MODE_CFG : Nat := 0x280001
abbrev CXL_MODE_ACTIVE : Nat := 0x280002
abbrev CXL_LINK_WIDTH : Nat := 0x280003
abbrev CXL_LINK_GTS : Nat := 0x280004
abbrev CXL_CLOCKING : Nat := 0x280005
abbrev CXL_SMBUS_ADDR : Nat := 0x280006
abbrev CXL_STATUS : Nat := 0x280007
abbrev LD_STATE_l : Nat := 0x280101
abbrev STEWARD_NAMED : Nat := 0x280201
abbrev STEWARD_ACTIVE : Nat := 0x280202
abbrev STEWARD_TM : Nat := 0x280203
abbrev LD_DISABLES_l : Nat := 0x280301
abbrev LD_WRITE_DROPS_l : Nat := 0x280311
abbrev LD_POISON_READS_l : Nat := 0x280321
abbrev HDM_EXT_e_l : Nat := 0x281001
abbrev CLAIM_OWNER_n : Nat := 0x282001
abbrev SUBSCRIBERS_n : Nat := 0x282009
abbrev CLAIM_CMD : Nat := 0x282101
abbrev CXL_CE_COUNT : Nat := 0x283001
abbrev CXL_UE_COUNT : Nat := 0x283002
abbrev CXL_RECOVERIES : Nat := 0x283003
abbrev CXL_LINK_DOWNS : Nat := 0x283004
abbrev BOOT_KIND : Nat := 0x290001
abbrev BOOT_BANK : Nat := 0x290002
abbrev BOOT_TIME_MS : Nat := 0x290003
abbrev BOOT_STATUS : Nat := 0x290004
abbrev BOOT_ROOT_SLOT : Nat := 0x290005
abbrev BOOT_COUNT : Nat := 0x290006
abbrev FW_RELEASE : Nat := 0x290101
abbrev VER_KIND_k : Nat := 0x290102
abbrev STEP_FRONT : Nat := 0x290108
abbrev STEP_ACQ : Nat := 0x290109
abbrev STEP_HUB : Nat := 0x29010A
abbrev ROLLBACK_k : Nat := 0x290201
abbrev ROOT_REVOKED : Nat := 0x290207
abbrev FW_CMD : Nat := 0x290301
abbrev FW_STATE : Nat := 0x290302
abbrev FW_ERR : Nat := 0x290303
abbrev FW_PKG_BYTES : Nat := 0x290304
abbrev FW_HANDLE : Nat := 0x290305
abbrev FW_PENDING : Nat := 0x290306
abbrev FW_PROGRESS : Nat := 0x290307
abbrev HALLMARK_PUB : Nat := 0x290401
abbrev HALLMARK_CHAIN : Nat := 0x290402
abbrev ATTEST_MEAS : Nat := 0x290403
abbrev ATTEST_GEN : Nat := 0x290404
abbrev ATTEST_NONCE : Nat := 0x290405
abbrev ATTEST_CMD : Nat := 0x290406
abbrev ATTEST_STATE : Nat := 0x290407
abbrev ATTEST_REPORT : Nat := 0x290408
abbrev SEC_LOCKS : Nat := 0x290501
abbrev CAL_START : Nat := 0x2A0001
abbrev CAL_STATE : Nat := 0x2A0002
abbrev CAL_STATUS : Nat := 0x2A0003
abbrev CAL_METHOD : Nat := 0x2A0004
abbrev CAL_DONE_TM : Nat := 0x2A0005
abbrev CAL_PASS_COUNT : Nat := 0x2A0006
abbrev CAL_ACTIVE_MASK : Nat := 0x2A0007
abbrev CAL_APPLY_MODE : Nat := 0x2A0101
abbrev CAL_PACE_CONTEXT : Nat := 0x2A0102
abbrev CAL_COMMIT : Nat := 0x2A0103
abbrev CAL_PENDING_MASK : Nat := 0x2A0104
abbrev CAL_APPLY_TM : Nat := 0x2A0105
abbrev AUDIT_ENABLE : Nat := 0x2A0201
abbrev AUDIT_CYCLE_US : Nat := 0x2A0202
abbrev AUDIT_FAIL_COUNT : Nat := 0x2A0203
abbrev AUDIT_LAST_FAIL : Nat := 0x2A0204
abbrev SLICE_RETEST : Nat := 0x2A0301
abbrev RETEST_RESULT : Nat := 0x2A0302
abbrev SKEWSET_COUNT : Nat := 0x2A0401
abbrev SKEWSET_CLEAR : Nat := 0x2A0402
abbrev DIE_STATE_d : Nat := 0x2B0001
abbrev REGROUP_ENABLE : Nat := 0x2B0101
abbrev REGROUP_COUNT : Nat := 0x2B0102
abbrev ALLOY_SIZES : Nat := 0x2B0103
abbrev FE_RANGE_n : Nat := 0x300001
abbrev FE_OFFSET_n : Nat := 0x300002
abbrev FE_FILTER_n : Nat := 0x300003
abbrev FE_CODE_UV_n : Nat := 0x300004
abbrev FE_BW_n : Nat := 0x300005
abbrev FE_OFFSET_APPLIED_n : Nat := 0x300006
abbrev FE_PERIOD_n : Nat := 0x300007
abbrev FE_STATUS_n : Nat := 0x300101
abbrev ALLOY_FIRST_n : Nat := 0x301001
abbrev ALLOY_SIZE_n : Nat := 0x301002
abbrev ALLOY_COMMIT_n : Nat := 0x301003
abbrev ALLOY_STATUS_n : Nat := 0x301004
abbrev ALLOY_ERR_n : Nat := 0x301005
abbrev ALLOY_HOST_n : Nat := 0x301006
abbrev ALLOY_ORDER_n : Nat := 0x301007
abbrev ALLOY_STATE_n : Nat := 0x301008
abbrev ALLOY_REGROUP_TM_n : Nat := 0x301009
abbrev RING_POLICY_n : Nat := 0x304001
abbrev RING_MIB_n : Nat := 0x304002
abbrev RING_LINES_n : Nat := 0x304003
abbrev RING_STATE_n : Nat := 0x304004
abbrev RING_WRITE_SLOT_n : Nat := 0x304005
abbrev RING_EPOCH_n : Nat := 0x304006
abbrev RING_PINNED_LINES_n : Nat := 0x304007
abbrev RING_POOL_FREE_MIB_n : Nat := 0x304008
abbrev RING_REVOKES_n : Nat := 0x304009
abbrev RING_PAUSES_n : Nat := 0x30400A
abbrev RING_PAUSE_NS_n : Nat := 0x30400B
abbrev RING_STATUS_n : Nat := 0x30400C
abbrev SLICE_FAILED_n : Nat := 0x308001
abbrev SLICE_FAILMAP_LO_n : Nat := 0x308002
abbrev SLICE_FAILMAP_HI_n : Nat := 0x308003
abbrev SPARES_AVAIL_n : Nat := 0x308004
abbrev WEAR_STATUS_n : Nat := 0x308005
abbrev DIE_SKEW_n : Nat := 0x308006
abbrev POS_SLICE_q_n : Nat := 0x308101
abbrev SLICE_TRIM_s_n : Nat := 0x308201
abbrev SLICE_HEALTH_s_n : Nat := 0x308301
abbrev CTX_SELECT : Nat := 0x400000
abbrev CTX_STATE : Nat := 0x401001
abbrev CTX_CMD : Nat := 0x401002
abbrev CTX_OWNER : Nat := 0x401003
abbrev CTX_INPUT : Nat := 0x401004
abbrev CTX_ERR : Nat := 0x401005
abbrev CTX_STATUS : Nat := 0x401006
abbrev CTX_STATE_TM : Nat := 0x401007
abbrev CTX_SUSPEND_CAUSE : Nat := 0x401008
abbrev CTX_FIRST_EMPTY : Nat := 0x401101
abbrev CTX_BOUND_COUNT : Nat := 0x401102
abbrev TRIG_TYPE : Nat := 0x410001
abbrev TRIG_SOURCE : Nat := 0x410002
abbrev TRIG_SLOPE : Nat := 0x410003
abbrev TRIG_LEVEL : Nat := 0x410004
abbrev TRIG_HYST : Nat := 0x410005
abbrev TRIG_LEVEL_B : Nat := 0x410006
abbrev TRIG_COND : Nat := 0x410007
abbrev TRIG_T1 : Nat := 0x410008
abbrev TRIG_T2 : Nat := 0x410009
abbrev TRIG_COUNT : Nat := 0x41000A
abbrev TRIG_FORCE : Nat := 0x41000B
abbrev HOLDOFF_MODE : Nat := 0x410101
abbrev HOLDOFF_TIME : Nat := 0x410102
abbrev HOLDOFF_EVENTS : Nat := 0x410103
abbrev TRIG_AUTO : Nat := 0x410104
abbrev PAT_STATE : Nat := 0x410201
abbrev PAT_LEVEL_k : Nat := 0x410202
abbrev PAT_HYST_k : Nat := 0x41020A
abbrev SEQ_B_SOURCE : Nat := 0x410301
abbrev SEQ_B_SLOPE : Nat := 0x410302
abbrev SEQ_B_LEVEL : Nat := 0x410303
abbrev SEQ_B_HYST : Nat := 0x410304
abbrev SEQ_QUAL : Nat := 0x410305
abbrev SEQ_COUNT : Nat := 0x410306
abbrev SEQ_RESET : Nat := 0x410307
abbrev TRIG_EVAL_PREF : Nat := 0x410401
abbrev TRIG_PAIR : Nat := 0x410402
abbrev TRIG_PAIR_TOL : Nat := 0x410403
abbrev TRIG_EVAL_BOUND : Nat := 0x410404
abbrev TRIG_STREAMS : Nat := 0x410405
abbrev TRIG_STATUS : Nat := 0x410501
abbrev TRIG_ERR : Nat := 0x410502
abbrev TRIG_EVENTS : Nat := 0x410503
abbrev TRIG_HELD_OFF : Nat := 0x410504
abbrev TRIG_FALLBACKS : Nat := 0x410505
abbrev TRIG_MISMATCHES : Nat := 0x410506
abbrev TRIG_LAST_TM : Nat := 0x410507
abbrev TRIG_LAST_WRAP : Nat := 0x410508
abbrev TRIG_LEVEL_TM : Nat := 0x410509
abbrev TRIG_LATENCY : Nat := 0x41050A
abbrev RESID_b : Nat := 0x415001
abbrev TRIGIN_LEVEL : Nat := 0x41F001
abbrev TRIGIN_HYST : Nat := 0x41F002
abbrev TRIGIN_LATCH_SLOPE : Nat := 0x41F003
abbrev TRIGOUT_WIDTH : Nat := 0x41F101
abbrev TRIGOUT_POLARITY : Nat := 0x41F102
abbrev TRIGOUT_COUNT : Nat := 0x41F103
abbrev DEC_MODE : Nat := 0x420001
abbrev DEC_FACTOR : Nat := 0x420002
abbrev DEC_RING_MIB : Nat := 0x420003
abbrev DEC_PER_SHEET : Nat := 0x420004
abbrev DEC_PERIOD : Nat := 0x420005
abbrev DEC_T0 : Nat := 0x420006
abbrev DEC_T0_WRAP : Nat := 0x420007
abbrev DEC_GRID_EPOCH : Nat := 0x420008
abbrev DEC_WRITE_RATE : Nat := 0x420009
abbrev FILT_COEF_2 : Nat := 0x420101
abbrev FILT_COEF_3 : Nat := 0x420102
abbrev FILT_COEF_5 : Nat := 0x420103
abbrev FILT_HALF_SUPPORT : Nat := 0x420104
abbrev SEG_PRE : Nat := 0x421001
abbrev SEG_LENGTH : Nat := 0x421002
abbrev SEG_TABLE_SIZE : Nat := 0x421003
abbrev SEG_FULL_ACTION : Nat := 0x421004
abbrev STOP_COUNT : Nat := 0x421101
abbrev STOP_TIME : Nat := 0x421102
abbrev STOP_ACTION : Nat := 0x421103
abbrev SEG_HELD_COUNT : Nat := 0x422001
abbrev SEG_OLDEST_SEQ : Nat := 0x422002
abbrev SEG_NEWEST_SEQ : Nat := 0x422003
abbrev SEG_CLOSED : Nat := 0x422004
abbrev SEG_REVOKED_COUNT : Nat := 0x422005
abbrev SEG_DROPPED : Nat := 0x422006
abbrev SEG_PENDING : Nat := 0x422007
abbrev SEG_RELEASE_SEQ : Nat := 0x422101
abbrev SEG_RELEASE_UPTO : Nat := 0x422102
abbrev SEG_RELEASE_ALL : Nat := 0x422103
abbrev SEG_SELECT : Nat := 0x422201
abbrev SEG_DESC_w : Nat := 0x422202
abbrev CRU_MODE : Nat := 0x430001
abbrev CRU_TARGET : Nat := 0x430002
abbrev CRU_PARTIAL : Nat := 0x430003
abbrev CRU_CAL_POLICY : Nat := 0x430004
abbrev CRU_POINTS : Nat := 0x430005
abbrev CRU_UNIT : Nat := 0x430006
abbrev CRU_PRE_MAX : Nat := 0x430007
abbrev CRU_PART_BYTES : Nat := 0x430008
abbrev CRU_PLACE : Nat := 0x430009
abbrev DMAP_COLS : Nat := 0x430101
abbrev DMAP_ROWS : Nat := 0x430102
abbrev DMAP_LOW : Nat := 0x430103
abbrev DMAP_HIGH : Nat := 0x430104
abbrev CRU_CMD : Nat := 0x430201
abbrev CRU_STATE : Nat := 0x430202
abbrev CRU_ERR : Nat := 0x430203
abbrev CRU_STATUS : Nat := 0x430204
abbrev CRU_RECORDS : Nat := 0x430205
abbrev CRU_ACTIVE : Nat := 0x430206
abbrev CRU_SKIPPED : Nat := 0x430207
abbrev CRU_TRUNCATED : Nat := 0x430208
abbrev CRU_GEN : Nat := 0x430209
abbrev CRU_HANDLE : Nat := 0x43020A
abbrev CRU_OUTSIDE : Nat := 0x43020B
abbrev CRU_POOL_FREE_KIB_d : Nat := 0x431001
abbrev ASSAY_PROGRAM : Nat := 0x440001
abbrev ASSAY_SLOTS : Nat := 0x440002
abbrev ASSAY_RECORDS : Nat := 0x440003
abbrev ASSAY_ERR : Nat := 0x440004
abbrev ASSAY_STATUS : Nat := 0x440005
abbrev ASSAY_PASS2_MAX : Nat := 0x440006
abbrev MEAS_k : Nat := 0x440101
abbrev ASSAY_PARAM_k : Nat := 0x440201
abbrev ASSAY_WRITTEN : Nat := 0x440301
abbrev ASSAY_NO_LANE : Nat := 0x440302
abbrev ASSAY_STEP_LIMIT : Nat := 0x440303
abbrev ASSAY_ABSENT : Nat := 0x440304
abbrev ASSAY_LAST_SEQ : Nat := 0x440305
abbrev ASSAY_SELECT : Nat := 0x441001
abbrev ASSAY_WORD_w : Nat := 0x441002
abbrev ASSAY_LAST_HDR : Nat := 0x441101
abbrev ASSAY_LAST_SLOT_k : Nat := 0x441102
abbrev ASTORE_INT_VERSION : Nat := 0x44F001
abbrev ASTORE_IMAGE : Nat := 0x44F002
abbrev ASTORE_LOAD : Nat := 0x44F003
abbrev ASTORE_STATUS : Nat := 0x44F004
abbrev ASTORE_FREE_WORDS : Nat := 0x44F005
abbrev ASTORE_PROGRAMS : Nat := 0x44F006
abbrev PROG_INFO_p : Nat := 0x44F101
abbrev TARNISH : Nat := 0x500001
abbrev TARNISH_FIRST_TM : Nat := 0x500002
abbrev TARNISH_FIRST_WRAP : Nat := 0x500003
abbrev GUARANTEE : Nat := 0x500004
abbrev FAULTS_OPEN : Nat := 0x500005
abbrev FLOG : Nat := 0x500101
abbrev FLOG_SEQ : Nat := 0x500102
abbrev FLOG_COUNT : Nat := 0x500103
abbrev SUSPECT_LIST : Nat := 0x500201
abbrev SUSPECT_COUNT : Nat := 0x500202
abbrev SELFTEST_ENABLE : Nat := 0x510001
abbrev EVAL_TEST_MS : Nat := 0x510002
abbrev EVAL_FAIL_ACTION : Nat := 0x510003
abbrev THERMAL_ACTION : Nat := 0x510004
abbrev INPUT_TEST_S : Nat := 0x510005
abbrev LANE_FAIL_LIMIT : Nat := 0x510006
abbrev LINK_CRC_k : Nat := 0x5F0001
abbrev LINK_STATE_k : Nat := 0x5F0101
abbrev LINK_REPLAYS_k : Nat := 0x5F0201
abbrev HB_MISSES_d : Nat := 0x5F0301
abbrev EVAL_HEALTH_d : Nat := 0x5F0401
abbrev CAP_SELECT : Nat := 0x5F1001
abbrev CAP_CMD : Nat := 0x5F1002
abbrev CAP_STATE : Nat := 0x5F1003
abbrev CAP_TM : Nat := 0x5F1004
abbrev CAP_WRAP : Nat := 0x5F1005
abbrev CAP_DATA : Nat := 0x5F1006

end Sys2Proof.Machine.O
end

