-- ==== Sys2Proof/Machine/ObjTable.lean ====
section
/-!
DEFINITION. The object dictionary's rows (R12, R15, R405, R406): for each object its type, access code,
owner, default, stated range, writable or polishable bits, shadow mark and what a reset does to it (R425).
One list per chapter that owns the index range; an index with a digit n, l or pp stands with that digit 0.
A default of "var" or "-" is 0 here and is computed where the object is read (Machine/Read.lean).
-/
namespace Sys2Proof.Machine

/-- Rows of chapter 02, part 1. -/
def objRows02a : List ObjRow := [
  obj 0x2200 0x00 0x00 .u8 .const .any (7),
  obj 0x2200 0x01 0x01 .touchmark .ro .any (0),
  obj 0x2200 0x02 0x02 .u16 .ro .any (0),
  obj 0x2200 0x03 0x03 .u32 .rwp .steward (0) (mask := 0x9) (keep := .aon),
  obj 0x2200 0x04 0x04 .u32 .ro .any (0) (keep := .aon),
  obj 0x2200 0x05 0x05 .touchmark .ro .any (0) (keep := .aon),
  obj 0x2200 0x06 0x06 .u8 .ro .any (0) (keep := .aon),
  obj 0x2200 0x07 0x07 .u16 .ro .any (0),
  obj 0x2201 0x00 0x00 .u8 .const .any (5),
  obj 0x2201 0x01 0x01 .u8 .rw .steward (0) (rng := some (0, 2)),
  obj 0x2201 0x02 0x02 .touchmark .rw .steward (0) (shadow := true) (keep := .aon),
  obj 0x2201 0x03 0x03 .u16 .rw .steward (0) (shadow := true) (keep := .aon),
  obj 0x2201 0x04 0x04 .u64 .rw .steward (0) (shadow := true) (keep := .aon),
  obj 0x2201 0x05 0x05 .u32 .ro .any (0) (keep := .aon),
  obj 0x2202 0x00 0x00 .u8 .const .any (4),
  obj 0x2202 0x01 0x01 .bool .rw .steward (0),
  obj 0x2202 0x02 0x02 .touchmark .ro .any (0),
  obj 0x2202 0x03 0x03 .u16 .ro .any (0),
  obj 0x2202 0x04 0x04 .u32 .ro .any (0)]

/-- The object rows of chapter 02. -/
def objRows02 : List ObjRow := objRows02a

/-- Rows of chapter 03, part 1. -/
def objRows03a : List ObjRow := [
  obj 0x2B00 0x00 0x00 .u8 .const .any (0),
  obj 0x2B00 0x01 0x08 .u32 .ro .any (0),
  obj 0x2B01 0x00 0x00 .u8 .const .any (3),
  obj 0x2B01 0x01 0x01 .bool .rw .steward (1),
  obj 0x2B01 0x02 0x02 .u32 .ro .any (0),
  obj 0x2B01 0x03 0x03 .u8 .const .any (0),
  obj 0x3000 0x00 0x00 .u8 .const .any (7),
  obj 0x3000 0x01 0x01 .u8 .rw .claimant (5) (rng := some (0, 5)),
  obj 0x3000 0x02 0x02 .i32 .rw .claimant (0) (rng := some (-1000000, 1000000)),
  obj 0x3000 0x03 0x03 .u8 .rw .claimant (0) (rng := some (0, 4)),
  obj 0x3000 0x04 0x04 .real32 .ro .any (0),
  obj 0x3000 0x05 0x05 .u32 .ro .any (0),
  obj 0x3000 0x06 0x06 .i32 .ro .any (0),
  obj 0x3000 0x07 0x07 .u16 .ro .any (0),
  obj 0x3001 0x00 0x00 .u8 .const .any (1),
  obj 0x3001 0x01 0x01 .u32 .rwp .claimant (0) (mask := 0x3),
  obj 0x3010 0x00 0x00 .u8 .const .any (9),
  obj 0x3010 0x01 0x01 .u8 .rw .claimant (0),
  obj 0x3010 0x02 0x02 .u8 .rw .claimant (1),
  obj 0x3010 0x03 0x03 .u8 .wo .claimant (0),
  obj 0x3010 0x04 0x04 .u32 .ro .any (0),
  obj 0x3010 0x05 0x05 .u8 .ro .any (0),
  obj 0x3010 0x06 0x06 .u8 .ro .any (255),
  obj 0x3010 0x07 0x07 .u32 .ro .any (0),
  obj 0x3010 0x08 0x08 .u8 .ro .any (0),
  obj 0x3010 0x09 0x09 .touchmark .ro .any (0)]

/-- The object rows of chapter 03. -/
def objRows03 : List ObjRow := objRows03a

/-- Rows of chapter 04, part 1. -/
def objRows04a : List ObjRow := [
  obj 0x2A00 0x00 0x00 .u8 .const .any (7),
  obj 0x2A00 0x01 0x01 .u32 .wo .steward (0) (mask := 0x1FF),
  obj 0x2A00 0x02 0x02 .u8 .ro .any (0),
  obj 0x2A00 0x03 0x03 .u32 .rwp .steward (0) (mask := 0xF),
  obj 0x2A00 0x04 0x04 .u8 .const .any (0),
  obj 0x2A00 0x05 0x05 .touchmark .ro .any (0),
  obj 0x2A00 0x06 0x06 .u32 .ro .any (0),
  obj 0x2A00 0x07 0x07 .u8 .ro .any (0),
  obj 0x2A01 0x00 0x00 .u8 .const .any (5),
  obj 0x2A01 0x01 0x01 .u8 .rw .steward (0) (rng := some (0, 2)),
  obj 0x2A01 0x02 0x02 .u16 .rw .steward (65535),
  obj 0x2A01 0x03 0x03 .u8 .wo .steward (0),
  obj 0x2A01 0x04 0x04 .u8 .ro .any (0),
  obj 0x2A01 0x05 0x05 .touchmark .ro .any (0),
  obj 0x2A02 0x00 0x00 .u8 .const .any (4),
  obj 0x2A02 0x01 0x01 .bool .rw .steward (1),
  obj 0x2A02 0x02 0x02 .u32 .ro .any (0),
  obj 0x2A02 0x03 0x03 .u32 .ro .any (0),
  obj 0x2A02 0x04 0x04 .u16 .ro .any (65535),
  obj 0x2A03 0x00 0x00 .u8 .const .any (2),
  obj 0x2A03 0x01 0x01 .u16 .wo .steward (0),
  obj 0x2A03 0x02 0x02 .u8 .ro .any (0),
  obj 0x2A04 0x00 0x00 .u8 .const .any (2),
  obj 0x2A04 0x01 0x01 .u8 .ro .any (0),
  obj 0x2A04 0x02 0x02 .u8 .wo .steward (0),
  obj 0x3080 0x00 0x00 .u8 .const .any (6),
  obj 0x3080 0x01 0x01 .u8 .ro .any (0),
  obj 0x3080 0x02 0x02 .u64 .ro .any (0),
  obj 0x3080 0x03 0x03 .u8 .ro .any (0),
  obj 0x3080 0x04 0x04 .u8 .ro .any (0),
  obj 0x3080 0x05 0x05 .u32 .ro .any (0),
  obj 0x3080 0x06 0x06 .u16 .ro .any (512),
  obj 0x3081 0x00 0x00 .u8 .const .any (64),
  obj 0x3081 0x01 0x40 .u8 .ro .any (0),
  obj 0x3082 0x00 0x00 .u8 .const .any (68),
  obj 0x3082 0x01 0x44 .u32 .ro .any (0),
  obj 0x3083 0x00 0x00 .u8 .const .any (68),
  obj 0x3083 0x01 0x44 .u32 .ro .any (0)]

/-- The object rows of chapter 04. -/
def objRows04 : List ObjRow := objRows04a

/-- Rows of chapter 05, part 1. -/
def objRows05a : List ObjRow := [
  obj 0x4100 0x00 0x00 .u8 .const .any (11),
  obj 0x4100 0x01 0x01 .u8 .rw .owner (1) (rng := some (0, 10)),
  obj 0x4100 0x02 0x02 .u8 .rw .owner (0) (rng := some (0, 8)),
  obj 0x4100 0x03 0x03 .u8 .rw .owner (0) (rng := some (0, 2)),
  obj 0x4100 0x04 0x04 .i16 .rw .owner (0) (rng := some (-510, 510)),
  obj 0x4100 0x05 0x05 .u8 .rw .owner (2),
  obj 0x4100 0x06 0x06 .i16 .rw .owner (240) (rng := some (-510, 510)),
  obj 0x4100 0x07 0x07 .u8 .rw .owner (0) (rng := some (0, 4)),
  obj 0x4100 0x08 0x08 .touchmark .rw .owner (0) (rng := some (0, 562949953421311)),
  obj 0x4100 0x09 0x09 .touchmark .rw .owner (0) (rng := some (0, 562949953421311)),
  obj 0x4100 0x0A 0x0A .u32 .rw .owner (1) (rng := some (1, 4294967295)),
  obj 0x4100 0x0B 0x0B .u8 .wo .owner (0),
  obj 0x4101 0x00 0x00 .u8 .const .any (4),
  obj 0x4101 0x01 0x01 .u8 .rw .owner (0) (rng := some (0, 1)),
  obj 0x4101 0x02 0x02 .u64 .rw .owner (48) (rng := some (48, 1099511627775)),
  obj 0x4101 0x03 0x03 .u32 .rw .owner (0),
  obj 0x4101 0x04 0x04 .u64 .rw .owner (0),
  obj 0x4102 0x00 0x00 .u8 .const .any (17),
  obj 0x4102 0x01 0x01 .u16 .rw .owner (0) (mask := 0xFFFF),
  obj 0x4102 0x02 0x09 .i16 .rw .owner (0) (rng := some (-510, 510)),
  obj 0x4102 0x0A 0x11 .u8 .rw .owner (2),
  obj 0x4103 0x00 0x00 .u8 .const .any (7),
  obj 0x4103 0x01 0x01 .u8 .rw .owner (0) (rng := some (0, 8)),
  obj 0x4103 0x02 0x02 .u8 .rw .owner (0) (rng := some (0, 2)),
  obj 0x4103 0x03 0x03 .i16 .rw .owner (0) (rng := some (-510, 510)),
  obj 0x4103 0x04 0x04 .u8 .rw .owner (2),
  obj 0x4103 0x05 0x05 .u8 .rw .owner (0) (rng := some (0, 2)),
  obj 0x4103 0x06 0x06 .u32 .rw .owner (1) (rng := some (1, 4294967295)),
  obj 0x4103 0x07 0x07 .touchmark .rw .owner (0),
  obj 0x4104 0x00 0x00 .u8 .const .any (5),
  obj 0x4104 0x01 0x01 .u8 .rw .owner (255),
  obj 0x4104 0x02 0x02 .bool .rw .owner (0),
  obj 0x4104 0x03 0x03 .u16 .rw .owner (0) (rng := some (0, 479)),
  obj 0x4104 0x04 0x04 .u32 .ro .any (4294967295),
  obj 0x4104 0x05 0x05 .u8 .ro .any (0),
  obj 0x4105 0x00 0x00 .u8 .const .any (10),
  obj 0x4105 0x01 0x01 .u32 .rwp .owner (0) (mask := 0x3F),
  obj 0x4105 0x02 0x02 .u8 .ro .any (0),
  obj 0x4105 0x03 0x03 .u64 .ro .any (0),
  obj 0x4105 0x04 0x04 .u64 .ro .any (0)]

/-- Rows of chapter 05, part 2. -/
def objRows05b : List ObjRow := [
  obj 0x4105 0x05 0x05 .u32 .ro .any (0),
  obj 0x4105 0x06 0x06 .u32 .ro .any (0),
  obj 0x4105 0x07 0x07 .touchmark .ro .any (0),
  obj 0x4105 0x08 0x08 .u16 .ro .any (0),
  obj 0x4105 0x09 0x09 .touchmark .ro .any (0),
  obj 0x4105 0x0A 0x0A .u16 .ro .any (0),
  obj 0x4150 0x00 0x00 .u8 .const .any (32),
  obj 0x4150 0x01 0x20 .i8 .ro .any (0),
  obj 0x41F0 0x00 0x00 .u8 .const .any (3),
  obj 0x41F0 0x01 0x01 .i16 .rw .steward (0) (rng := some (-2000, 2000)),
  obj 0x41F0 0x02 0x02 .u16 .rw .steward (20) (rng := some (0, 200)),
  obj 0x41F0 0x03 0x03 .u8 .rw .steward (0) (rng := some (0, 2)),
  obj 0x41F1 0x00 0x00 .u8 .const .any (3),
  obj 0x41F1 0x01 0x01 .u8 .rw .steward (8) (rng := some (1, 255)),
  obj 0x41F1 0x02 0x02 .u8 .rw .steward (0) (rng := some (0, 1)),
  obj 0x41F1 0x03 0x03 .u32 .ro .any (0)]

/-- The object rows of chapter 05. -/
def objRows05 : List ObjRow := objRows05a ++ objRows05b

/-- Rows of chapter 06, part 1. -/
def objRows06a : List ObjRow := [
  obj 0x4010 0x00 0x00 .u8 .const .any (8),
  obj 0x4010 0x01 0x01 .u8 .ro .any (0),
  obj 0x4010 0x02 0x02 .u8 .wo .any (0) (rng := some (1, 6)),
  obj 0x4010 0x03 0x03 .u8 .ro .any (255),
  obj 0x4010 0x04 0x04 .u8 .rw .owner (0) (rng := some (0, 7)),
  obj 0x4010 0x05 0x05 .u8 .ro .any (0),
  obj 0x4010 0x06 0x06 .u32 .rwp .owner (0) (mask := 0xFF),
  obj 0x4010 0x07 0x07 .touchmark .ro .any (0),
  obj 0x4010 0x08 0x08 .u8 .ro .any (0),
  obj 0x4011 0x00 0x00 .u8 .const .any (2),
  obj 0x4011 0x01 0x01 .u16 .ro .any (0),
  obj 0x4011 0x02 0x02 .u8 .ro .any (0),
  obj 0x4200 0x00 0x00 .u8 .const .any (9),
  obj 0x4200 0x01 0x01 .u8 .rw .owner (0) (rng := some (0, 4)),
  obj 0x4200 0x02 0x02 .u32 .rw .owner (1) (rng := some (1, 16777216)),
  obj 0x4200 0x03 0x03 .u32 .rw .owner (256) (rng := some (64, 11008)),
  obj 0x4200 0x04 0x04 .u8 .ro .any (0),
  obj 0x4200 0x05 0x05 .touchmark .ro .any (0),
  obj 0x4200 0x06 0x06 .touchmark .ro .any (0),
  obj 0x4200 0x07 0x07 .u16 .ro .any (0),
  obj 0x4200 0x08 0x08 .u32 .ro .any (0),
  obj 0x4200 0x09 0x09 .u32 .ro .any (0),
  obj 0x4201 0x00 0x00 .u8 .const .any (4),
  obj 0x4201 0x01 0x01 .domain .const .any (0),
  obj 0x4201 0x02 0x02 .domain .const .any (0),
  obj 0x4201 0x03 0x03 .domain .const .any (0),
  obj 0x4201 0x04 0x04 .u32 .ro .any (0),
  obj 0x4210 0x00 0x00 .u8 .const .any (4),
  obj 0x4210 0x01 0x01 .i64 .rw .owner (0) (rng := some (-1099511627776, 1099511627776)),
  obj 0x4210 0x02 0x02 .u64 .rw .owner (4800) (rng := some (1, 281474976710655)),
  obj 0x4210 0x03 0x03 .u32 .rw .owner (4096) (rng := some (16, 16777216)),
  obj 0x4210 0x04 0x04 .u8 .rw .owner (0) (rng := some (0, 1)),
  obj 0x4211 0x00 0x00 .u8 .const .any (3),
  obj 0x4211 0x01 0x01 .u32 .rw .owner (0),
  obj 0x4211 0x02 0x02 .u64 .rw .owner (0),
  obj 0x4211 0x03 0x03 .u8 .rw .owner (0) (rng := some (0, 1)),
  obj 0x4220 0x00 0x00 .u8 .const .any (7),
  obj 0x4220 0x01 0x01 .u32 .ro .any (0),
  obj 0x4220 0x02 0x02 .u32 .ro .any (0),
  obj 0x4220 0x03 0x03 .u32 .ro .any (0)]

/-- Rows of chapter 06, part 2. -/
def objRows06b : List ObjRow := [
  obj 0x4220 0x04 0x04 .u64 .ro .any (0),
  obj 0x4220 0x05 0x05 .u32 .ro .any (0),
  obj 0x4220 0x06 0x06 .u32 .ro .any (0),
  obj 0x4220 0x07 0x07 .u8 .ro .any (0),
  obj 0x4221 0x00 0x00 .u8 .const .any (3),
  obj 0x4221 0x01 0x01 .u32 .wo .owner (0),
  obj 0x4221 0x02 0x02 .u32 .wo .owner (0),
  obj 0x4221 0x03 0x03 .u8 .wo .owner (0),
  obj 0x4222 0x00 0x00 .u8 .const .any (9),
  obj 0x4222 0x01 0x01 .u32 .rw .any (0),
  obj 0x4222 0x02 0x09 .u64 .ro .any (0),
  obj 0x3040 0x00 0x00 .u8 .const .any (12),
  obj 0x3040 0x01 0x01 .u8 .rw .claimant (0) (rng := some (0, 1)),
  obj 0x3040 0x02 0x02 .u32 .rw .claimant (8192) (rng := some (64, 11008)),
  obj 0x3040 0x03 0x03 .u32 .ro .any (0),
  obj 0x3040 0x04 0x04 .u8 .ro .any (0),
  obj 0x3040 0x05 0x05 .u32 .ro .any (0),
  obj 0x3040 0x06 0x06 .u32 .ro .any (0),
  obj 0x3040 0x07 0x07 .u32 .ro .any (0),
  obj 0x3040 0x08 0x08 .u32 .ro .any (0),
  obj 0x3040 0x09 0x09 .u32 .ro .any (0),
  obj 0x3040 0x0A 0x0A .u32 .ro .any (0),
  obj 0x3040 0x0B 0x0B .u64 .ro .any (0),
  obj 0x3040 0x0C 0x0C .u32 .rwp .claimant (0) (mask := 0x7)]

/-- The object rows of chapter 06. -/
def objRows06 : List ObjRow := objRows06a ++ objRows06b

/-- Rows of chapter 07, part 1. -/
def objRows07a : List ObjRow := [
  obj 0x4300 0x00 0x00 .u8 .const .any (9),
  obj 0x4300 0x01 0x01 .u8 .rw .owner (0) (rng := some (0, 4)),
  obj 0x4300 0x02 0x02 .u32 .rw .owner (1024),
  obj 0x4300 0x03 0x03 .u8 .rw .owner (0) (rng := some (0, 1)),
  obj 0x4300 0x04 0x04 .u8 .rw .owner (0) (rng := some (0, 2)),
  obj 0x4300 0x05 0x05 .u32 .ro .any (0),
  obj 0x4300 0x06 0x06 .u8 .ro .any (0),
  obj 0x4300 0x07 0x07 .i64 .ro .any (0),
  obj 0x4300 0x08 0x08 .u64 .ro .any (0),
  obj 0x4300 0x09 0x09 .u8 .ro .any (0),
  obj 0x4301 0x00 0x00 .u8 .const .any (4),
  obj 0x4301 0x01 0x01 .u16 .rw .owner (1024) (rng := some (16, 2048)),
  obj 0x4301 0x02 0x02 .u16 .rw .owner (512) (rng := some (64, 1024)),
  obj 0x4301 0x03 0x03 .i32 .rw .owner (-32768) (rng := some (-32768, 32767)),
  obj 0x4301 0x04 0x04 .i32 .rw .owner (32767) (rng := some (-32768, 32767)),
  obj 0x4302 0x00 0x00 .u8 .const .any (11),
  obj 0x4302 0x01 0x01 .u8 .wo .owner (0),
  obj 0x4302 0x02 0x02 .u8 .ro .any (0),
  obj 0x4302 0x03 0x03 .u8 .ro .any (0),
  obj 0x4302 0x04 0x04 .u32 .rwp .owner (0) (mask := 0x3F),
  obj 0x4302 0x05 0x05 .u32 .ro .any (0),
  obj 0x4302 0x06 0x06 .u8 .ro .any (0),
  obj 0x4302 0x07 0x07 .u32 .ro .any (0),
  obj 0x4302 0x08 0x08 .u32 .ro .any (0),
  obj 0x4302 0x09 0x09 .u32 .ro .any (0),
  obj 0x4302 0x0A 0x0A .u32 .ro .any (4294967295),
  obj 0x4302 0x0B 0x0B .u64 .ro .any (0),
  obj 0x4310 0x00 0x00 .u8 .const .any (0),
  obj 0x4310 0x01 0x08 .u32 .ro .any (0)]

/-- The object rows of chapter 07. -/
def objRows07 : List ObjRow := objRows07a

/-- Rows of chapter 08, part 1. -/
def objRows08a : List ObjRow := [
  obj 0x4400 0x00 0x00 .u8 .const .any (6),
  obj 0x4400 0x01 0x01 .u8 .rw .owner (0) (rng := some (0, 63)),
  obj 0x4400 0x02 0x02 .u8 .ro .any (0),
  obj 0x4400 0x03 0x03 .u8 .ro .any (0),
  obj 0x4400 0x04 0x04 .u8 .ro .any (0),
  obj 0x4400 0x05 0x05 .u32 .rwp .owner (0) (mask := 0xFF),
  obj 0x4400 0x06 0x06 .u64 .ro .any (0),
  obj 0x4401 0x00 0x00 .u8 .const .any (28),
  obj 0x4401 0x01 0x1C .u8 .rw .owner (0),
  obj 0x4402 0x00 0x00 .u8 .const .any (16),
  obj 0x4402 0x01 0x10 .i64 .rw .owner (0),
  obj 0x4403 0x00 0x00 .u8 .const .any (5),
  obj 0x4403 0x01 0x01 .u64 .ro .any (0),
  obj 0x4403 0x02 0x02 .u32 .ro .any (0),
  obj 0x4403 0x03 0x03 .u32 .ro .any (0),
  obj 0x4403 0x04 0x04 .u32 .ro .any (0),
  obj 0x4403 0x05 0x05 .u32 .ro .any (0),
  obj 0x4410 0x00 0x00 .u8 .const .any (33),
  obj 0x4410 0x01 0x01 .u32 .rw .any (0),
  obj 0x4410 0x02 0x21 .u64 .ro .any (0),
  obj 0x4411 0x00 0x00 .u8 .const .any (29),
  obj 0x4411 0x01 0x01 .u64 .ro .any (0),
  obj 0x4411 0x02 0x1D .u64 .ro .any (0),
  obj 0x44F0 0x00 0x00 .u8 .const .any (6),
  obj 0x44F0 0x01 0x01 .u32 .ro .any (0),
  obj 0x44F0 0x02 0x02 .domain .wo .steward (0),
  obj 0x44F0 0x03 0x03 .u8 .wo .steward (0),
  obj 0x44F0 0x04 0x04 .u8 .ro .any (0),
  obj 0x44F0 0x05 0x05 .u16 .ro .any (0),
  obj 0x44F0 0x06 0x06 .u64 .ro .any (0),
  obj 0x44F1 0x00 0x00 .u8 .const .any (64),
  obj 0x44F1 0x01 0x40 .u64 .ro .any (0)]

/-- The object rows of chapter 08. -/
def objRows08 : List ObjRow := objRows08a

/-- Rows of chapter 09, part 1. -/
def objRows09a : List ObjRow := [
  obj 0x2400 0x00 0x00 .u8 .const .any (6),
  obj 0x2400 0x01 0x01 .u8 .const .any (0),
  obj 0x2400 0x02 0x02 .u32 .const .any (12288),
  obj 0x2400 0x03 0x03 .u32 .const .any (11008),
  obj 0x2400 0x04 0x04 .u32 .const .any (512),
  obj 0x2400 0x05 0x05 .u32 .const .any (768),
  obj 0x2400 0x06 0x06 .u64 .const .any (549755813888),
  obj 0x2401 0x00 0x00 .u8 .const .any (0),
  obj 0x2401 0x01 0x04 .u32 .ro .any (0),
  obj 0x2402 0x00 0x00 .u8 .const .any (5),
  obj 0x2402 0x01 0x04 .u16 .rw .steward (273) (mask := 0x3FFF) (keep := .nv),
  obj 0x2402 0x05 0x05 .u64 .ro .any (0) (keep := .nv),
  obj 0x2403 0x00 0x00 .u8 .const .any (3),
  obj 0x2403 0x01 0x01 .u32 .rw .steward (50),
  obj 0x2403 0x02 0x02 .u32 .ro .any (4294967295),
  obj 0x2403 0x03 0x03 .u8 .const .any (4),
  obj 0x2404 0x00 0x00 .u8 .const .any (3),
  obj 0x2404 0x01 0x01 .bool .rw .steward (1),
  obj 0x2404 0x02 0x02 .u32 .ro .any (0),
  obj 0x2404 0x03 0x03 .u32 .ro .any (0),
  obj 0x2405 0x00 0x00 .u8 .const .any (0),
  obj 0x2405 0x01 0x08 .u32 .ro .any (0),
  obj 0x2406 0x00 0x00 .u8 .const .any (5),
  obj 0x2406 0x01 0x01 .u64 .ro .any (0),
  obj 0x2406 0x02 0x02 .u32 .ro .any (0),
  obj 0x2406 0x03 0x03 .u32 .ro .any (0),
  obj 0x2406 0x04 0x04 .u64 .ro .any (0),
  obj 0x2406 0x05 0x05 .u32 .ro .any (0),
  obj 0x2407 0x00 0x00 .u8 .const .any (2),
  obj 0x2407 0x01 0x01 .u16 .wo .steward (0) (mask := 0x7F),
  obj 0x2407 0x02 0x02 .u32 .rwp .steward (0) (mask := 0x7F),
  obj 0x2408 0x00 0x00 .u8 .const .any (1),
  obj 0x2408 0x01 0x01 .domain .ro .any (0)]

/-- The object rows of chapter 09. -/
def objRows09 : List ObjRow := objRows09a

/-- Rows of chapter 10, part 1. -/
def objRows10a : List ObjRow := [
  obj 0x2500 0x00 0x00 .u8 .const .any (10),
  obj 0x2500 0x01 0x01 .u8 .wo .any (0),
  obj 0x2500 0x02 0x02 .u8 .rw .any (0),
  obj 0x2500 0x03 0x03 .u64 .rw .any (0),
  obj 0x2500 0x04 0x04 .u8 .rw .any (0),
  obj 0x2500 0x05 0x05 .u64 .rw .any (0),
  obj 0x2500 0x06 0x06 .u64 .ro .any (0),
  obj 0x2500 0x07 0x07 .u64 .rw .any (0),
  obj 0x2500 0x08 0x08 .u32 .rwp .any (0) (mask := 0xF),
  obj 0x2500 0x09 0x09 .u8 .ro .any (0),
  obj 0x2500 0x0A 0x0A .u64 .ro .any (18446744073709551615),
  obj 0x2503 0x00 0x00 .u8 .const .any (136),
  obj 0x2503 0x01 0x88 .u64 .rw .steward (0) (mask := 0xC0FFFFFFFFFFFFFF),
  obj 0x2504 0x00 0x00 .u8 .const .any (8),
  obj 0x2504 0x01 0x01 .u64 .rw .any (0),
  obj 0x2504 0x02 0x02 .u64 .rw .any (0),
  obj 0x2504 0x03 0x03 .u64 .rw .any (0),
  obj 0x2504 0x04 0x04 .u64 .rw .any (0),
  obj 0x2504 0x05 0x05 .u64 .rw .any (0),
  obj 0x2504 0x06 0x06 .u64 .rw .any (0),
  obj 0x2504 0x07 0x07 .u64 .rw .any (0),
  obj 0x2504 0x08 0x08 .u64 .rw .any (0),
  obj 0x2510 0x00 0x00 .u8 .const .any (2),
  obj 0x2510 0x01 0x01 .u8 .rw .any (0),
  obj 0x2510 0x02 0x02 .u8 .const .any (0),
  obj 0x2511 0x00 0x00 .u8 .const .any (12),
  obj 0x2511 0x01 0x01 .u8 .wo .any (0),
  obj 0x2511 0x02 0x02 .u8 .ro .any (0),
  obj 0x2511 0x03 0x03 .u8 .ro .any (255),
  obj 0x2511 0x04 0x04 .u16 .rw .owner (65535),
  obj 0x2511 0x05 0x05 .u8 .rw .owner (0) (rng := some (0, 15)),
  obj 0x2511 0x06 0x06 .u8 .ro .any (0),
  obj 0x2511 0x07 0x07 .u64 .ro .any (0),
  obj 0x2511 0x08 0x08 .u8 .ro .any (0),
  obj 0x2511 0x09 0x09 .u8 .ro .any (0),
  obj 0x2511 0x0A 0x0A .u32 .rwp .owner (0) (mask := 0x77),
  obj 0x2511 0x0B 0x0B .u64 .ro .any (0),
  obj 0x2511 0x0C 0x0C .u32 .rw .owner (1000) (rng := some (10, 1000000000)),
  obj 0x2512 0x00 0x00 .u8 .const .any (64),
  obj 0x2512 0x01 0x40 .u64 .rw .owner (0)]

/-- Rows of chapter 10, part 2. -/
def objRows10b : List ObjRow := [
  obj 0x2514 0x00 0x00 .u8 .const .any (18),
  obj 0x2514 0x01 0x09 .u32 .ro .any (0),
  obj 0x2514 0x0A 0x12 .u64 .ro .any (0),
  obj 0x2520 0x00 0x00 .u8 .const .any (4),
  obj 0x2520 0x01 0x01 .u8 .rw .any (0),
  obj 0x2520 0x02 0x02 .u16 .const .any (256),
  obj 0x2520 0x03 0x03 .bool .rw .steward (0),
  obj 0x2520 0x04 0x04 .u16 .ro .any (0),
  obj 0x2521 0x00 0x00 .u8 .const .any (7),
  obj 0x2521 0x01 0x01 .u8 .wo .any (0),
  obj 0x2521 0x02 0x02 .u8 .ro .any (255),
  obj 0x2521 0x03 0x03 .u32 .rw .owner (0) (mask := 0xFFFFFFFF),
  obj 0x2521 0x04 0x04 .u32 .rw .owner (0) (mask := 0xF0FFFFFF),
  obj 0x2521 0x05 0x05 .bool .rw .owner (0),
  obj 0x2521 0x06 0x06 .u64 .ro .any (0),
  obj 0x2521 0x07 0x07 .u32 .rwp .owner (0) (mask := 0x1),
  obj 0x2501 0x00 0x00 .u8 .const .any (10),
  obj 0x2501 0x01 0x01 .u8 .wo .owner (0),
  obj 0x2501 0x02 0x02 .u8 .rw .owner (0),
  obj 0x2501 0x03 0x03 .u64 .rw .owner (0),
  obj 0x2501 0x04 0x04 .u8 .rw .owner (0),
  obj 0x2501 0x05 0x05 .u64 .rw .owner (0),
  obj 0x2501 0x06 0x06 .u64 .ro .any (0),
  obj 0x2501 0x07 0x07 .u64 .rw .owner (0),
  obj 0x2501 0x08 0x08 .u32 .rwp .owner (0) (mask := 0xF),
  obj 0x2501 0x09 0x09 .u8 .ro .any (0),
  obj 0x2501 0x0A 0x0A .u64 .ro .any (18446744073709551615)]

/-- The object rows of chapter 10. -/
def objRows10 : List ObjRow := objRows10a ++ objRows10b

/-- Rows of chapter 11, part 1. -/
def objRows11a : List ObjRow := [
  obj 0x2600 0x00 0x00 .u8 .const .any (2),
  obj 0x2600 0x01 0x01 .u8 .rw .any (0),
  obj 0x2600 0x02 0x02 .u8 .const .any (0),
  obj 0x2601 0x00 0x00 .u8 .const .any (10),
  obj 0x2601 0x01 0x01 .u8 .wo .any (0),
  obj 0x2601 0x02 0x02 .u8 .ro .any (0),
  obj 0x2601 0x03 0x03 .u8 .ro .any (255),
  obj 0x2601 0x04 0x04 .u32 .rw .owner (0) (mask := 0x3F),
  obj 0x2601 0x05 0x05 .u32 .rw .owner (65536) (rng := some (4096, 131072)),
  obj 0x2601 0x06 0x06 .u64 .rw .owner (1048576) (rng := some (64, 1099511627776)),
  obj 0x2601 0x07 0x07 .u32 .rw .owner (1024) (rng := some (4, 65536)),
  obj 0x2601 0x08 0x08 .u32 .ro .any (4294967295),
  obj 0x2601 0x09 0x09 .u8 .ro .any (0),
  obj 0x2601 0x0A 0x0A .u32 .rwp .owner (0) (mask := 0x3F),
  obj 0x2602 0x00 0x00 .u8 .const .any (9),
  obj 0x2602 0x01 0x01 .u64 .ro .any (0),
  obj 0x2602 0x02 0x02 .u64 .ro .any (0),
  obj 0x2602 0x03 0x03 .u64 .ro .any (0),
  obj 0x2602 0x04 0x04 .u8 .ro .any (0),
  obj 0x2602 0x05 0x05 .u32 .ro .any (0),
  obj 0x2602 0x06 0x06 .u64 .ro .any (18446744073709551615),
  obj 0x2602 0x07 0x07 .u32 .ro .any (0),
  obj 0x2602 0x08 0x08 .u32 .ro .any (0),
  obj 0x2602 0x09 0x09 .u32 .ro .any (0)]

/-- The object rows of chapter 11. -/
def objRows11 : List ObjRow := objRows11a

/-- Rows of chapter 12, part 1. -/
def objRows12a : List ObjRow := [
  obj 0x2700 0x00 0x00 .u8 .const .any (7),
  obj 0x2700 0x01 0x01 .u8 .wo .steward (0),
  obj 0x2700 0x02 0x02 .u8 .ro .any (0),
  obj 0x2700 0x03 0x03 .u8 .rw .steward (3) (rng := some (0, 3)),
  obj 0x2700 0x04 0x04 .u8 .rw .steward (4) (rng := some (2, 16)),
  obj 0x2700 0x05 0x05 .u32 .rw .steward (0),
  obj 0x2700 0x06 0x06 .u32 .rwp .steward (0) (mask := 0x3F),
  obj 0x2700 0x07 0x07 .u8 .ro .any (0),
  obj 0x2701 0x00 0x00 .u8 .const .any (11),
  obj 0x2701 0x01 0x01 .u16 .rw .steward (3840),
  obj 0x2701 0x02 0x02 .u16 .rw .steward (176),
  obj 0x2701 0x03 0x03 .u16 .rw .steward (88),
  obj 0x2701 0x04 0x04 .u16 .rw .steward (296),
  obj 0x2701 0x05 0x05 .u16 .rw .steward (2160),
  obj 0x2701 0x06 0x06 .u16 .rw .steward (8),
  obj 0x2701 0x07 0x07 .u16 .rw .steward (10),
  obj 0x2701 0x08 0x08 .u16 .rw .steward (72),
  obj 0x2701 0x09 0x09 .u32 .rw .steward (594000),
  obj 0x2701 0x0A 0x0A .bool .rw .steward (0),
  obj 0x2701 0x0B 0x0B .bool .rw .steward (0),
  obj 0x2702 0x00 0x00 .u8 .const .any (7),
  obj 0x2702 0x01 0x01 .u16 .rw .steward (2160),
  obj 0x2702 0x02 0x02 .u8 .wo .any (0),
  obj 0x2702 0x03 0x03 .u32 .ro .any (0),
  obj 0x2702 0x04 0x04 .u32 .ro .any (4294967295),
  obj 0x2702 0x05 0x05 .u16 .rw .steward (0),
  obj 0x2702 0x06 0x06 .u16 .ro .any (0),
  obj 0x2702 0x07 0x07 .touchmark .ro .any (0),
  obj 0x2703 0x00 0x00 .u8 .const .any (4),
  obj 0x2703 0x01 0x01 .u32 .ro .any (4294967295),
  obj 0x2703 0x02 0x02 .u32 .ro .any (0),
  obj 0x2703 0x03 0x03 .u32 .ro .any (0),
  obj 0x2703 0x04 0x04 .u32 .ro .any (0),
  obj 0x2710 0x00 0x00 .u8 .const .any (8),
  obj 0x2710 0x01 0x01 .u8 .wo .any (0),
  obj 0x2710 0x02 0x02 .u32 .rw .any (1048576) (rng := some (4096, 268435456)),
  obj 0x2710 0x03 0x03 .u32 .ro .any (4294967295),
  obj 0x2710 0x04 0x04 .u32 .rw .any (4294967295),
  obj 0x2710 0x05 0x05 .u64 .ro .any (0),
  obj 0x2710 0x06 0x06 .u32 .ro .any (0)]

/-- Rows of chapter 12, part 2. -/
def objRows12b : List ObjRow := [
  obj 0x2710 0x07 0x07 .u8 .ro .any (0),
  obj 0x2710 0x08 0x08 .u8 .ro .any (0),
  obj 0x2720 0x00 0x00 .u8 .const .any (15),
  obj 0x2720 0x01 0x01 .u8 .wo .any (0),
  obj 0x2720 0x02 0x02 .u8 .ro .any (255),
  obj 0x2720 0x03 0x03 .u8 .rw .owner (0) (rng := some (0, 4)) (shadow := true),
  obj 0x2720 0x04 0x04 .u32 .rw .owner (4294967295) (shadow := true),
  obj 0x2720 0x05 0x05 .u16 .rw .owner (0) (shadow := true),
  obj 0x2720 0x06 0x06 .u16 .rw .owner (0) (shadow := true),
  obj 0x2720 0x07 0x07 .u16 .rw .owner (1024) (rng := some (1, 3840)) (shadow := true),
  obj 0x2720 0x08 0x08 .u16 .rw .owner (512) (rng := some (1, 2160)) (shadow := true),
  obj 0x2720 0x09 0x09 .u32 .rw .owner (0) (mask := 0xFFFFFFFF) (shadow := true),
  obj 0x2720 0x0A 0x0A .u8 .rw .owner (0) (rng := some (0, 1)) (shadow := true),
  obj 0x2720 0x0B 0x0B .u16 .rw .owner (256) (shadow := true),
  obj 0x2720 0x0C 0x0C .u8 .rw .owner (255) (shadow := true),
  obj 0x2720 0x0D 0x0D .u8 .rw .owner (255) (shadow := true),
  obj 0x2720 0x0E 0x0E .u32 .ro .any (0),
  obj 0x2720 0x0F 0x0F .u32 .ro .any (0),
  obj 0x2730 0x00 0x00 .u8 .const .any (1),
  obj 0x2730 0x01 0x01 .domain .rw .owner (0) (shadow := true),
  obj 0x2750 0x00 0x00 .u8 .const .any (9),
  obj 0x2750 0x01 0x02 .u32 .rwp .steward (0) (mask := 0x8),
  obj 0x2750 0x03 0x03 .u32 .ro .any (0),
  obj 0x2750 0x04 0x05 .u32 .ro .any (0),
  obj 0x2750 0x06 0x07 .u32 .ro .any (0),
  obj 0x2750 0x08 0x09 .domain .ro .any (0)]

/-- The object rows of chapter 12. -/
def objRows12 : List ObjRow := objRows12a ++ objRows12b

/-- Rows of chapter 13, part 1. -/
def objRows13a : List ObjRow := [
  obj 0x2000 0x00 0x00 .u8 .const .any (12),
  obj 0x2000 0x01 0x01 .str .const .any (0),
  obj 0x2000 0x02 0x02 .str .const .any (0),
  obj 0x2000 0x03 0x03 .u8 .const .any (0),
  obj 0x2000 0x04 0x04 .u64 .const .any (0),
  obj 0x2000 0x05 0x05 .u32 .const .any (0),
  obj 0x2000 0x06 0x06 .u8 .const .any (0),
  obj 0x2000 0x07 0x07 .u8 .const .any (0),
  obj 0x2000 0x08 0x08 .u16 .const .any (0),
  obj 0x2000 0x09 0x09 .u16 .const .any (4096),
  obj 0x2000 0x0A 0x0A .u8 .const .any (16),
  obj 0x2000 0x0B 0x0B .u8 .const .any (0),
  obj 0x2000 0x0C 0x0C .u32 .const .any (262145),
  obj 0x2001 0x00 0x00 .u8 .const .any (4),
  obj 0x2001 0x01 0x01 .u8 .ro .any (0),
  obj 0x2001 0x02 0x02 .touchmark .ro .any (0),
  obj 0x2001 0x03 0x03 .u16 .ro .any (0),
  obj 0x2001 0x04 0x04 .u32 .rwp .steward (0) (mask := 0x3F),
  obj 0x2002 0x00 0x00 .u8 .const .any (4),
  obj 0x2002 0x01 0x01 .u8 .wo .any (0),
  obj 0x2002 0x02 0x02 .u32 .ro .any (0),
  obj 0x2002 0x03 0x03 .touchmark .ro .any (0),
  obj 0x2002 0x04 0x04 .u16 .ro .any (0),
  obj 0x2003 0x00 0x00 .u8 .const .any (7),
  obj 0x2003 0x01 0x01 .u8 .ro .any (0),
  obj 0x2003 0x02 0x02 .u8 .ro .any (0),
  obj 0x2003 0x03 0x03 .u32 .rwp .any (0) (mask := 0x7),
  obj 0x2003 0x04 0x04 .u64 .ro .any (0),
  obj 0x2003 0x05 0x05 .u32 .ro .any (0),
  obj 0x2003 0x06 0x06 .bool .rw .any (0),
  obj 0x2003 0x07 0x07 .u32 .ro .any (0),
  obj 0x2004 0x00 0x00 .u8 .const .any (4),
  obj 0x2004 0x01 0x01 .u32 .wo .steward (0),
  obj 0x2004 0x02 0x02 .u32 .wo .steward (0),
  obj 0x2004 0x03 0x03 .u32 .ro .any (0) (keep := .nv),
  obj 0x2004 0x04 0x04 .touchmark .ro .any (0) (keep := .aon),
  obj 0x4000 0x00 0x00 .u16 .rw .any (0) (rng := some (0, 4095))]

/-- The object rows of chapter 13. -/
def objRows13 : List ObjRow := objRows13a

/-- Rows of chapter 14, part 1. -/
def objRows14a : List ObjRow := [
  obj 0x2800 0x00 0x00 .u8 .const .any (7),
  obj 0x2800 0x01 0x01 .u8 .rw .steward (0) (rng := some (0, 1)),
  obj 0x2800 0x02 0x02 .u8 .ro .any (0),
  obj 0x2800 0x03 0x03 .u8 .ro .any (0),
  obj 0x2800 0x04 0x04 .u8 .ro .any (0),
  obj 0x2800 0x05 0x05 .u8 .ro .any (0),
  obj 0x2800 0x06 0x06 .u8 .rw .steward (100) (rng := some (8, 119)),
  obj 0x2800 0x07 0x07 .u32 .rwp .steward (0) (mask := 0x3E),
  obj 0x2801 0x00 0x00 .u8 .const .any (16),
  obj 0x2801 0x01 0x10 .u32 .ro .any (0),
  obj 0x2802 0x00 0x00 .u8 .const .any (3),
  obj 0x2802 0x01 0x01 .u8 .ro .any (255),
  obj 0x2802 0x02 0x02 .u8 .ro .any (16),
  obj 0x2802 0x03 0x03 .touchmark .ro .any (0),
  obj 0x2803 0x00 0x00 .u8 .const .any (48),
  obj 0x2803 0x01 0x10 .u32 .ro .any (0),
  obj 0x2803 0x11 0x20 .u32 .ro .any (0),
  obj 0x2803 0x21 0x30 .u32 .ro .any (0),
  obj 0x2810 0x00 0x00 .u8 .const .any (8),
  obj 0x2810 0x01 0x08 .u64 .rw .steward (0) (mask := 0xC00000FFFFFFFFFF) (shadow := true),
  obj 0x2820 0x00 0x00 .u8 .const .any (16),
  obj 0x2820 0x01 0x08 .u8 .ro .any (255),
  obj 0x2820 0x09 0x10 .u32 .ro .any (0),
  obj 0x2821 0x00 0x00 .u8 .const .any (1),
  obj 0x2821 0x01 0x01 .u16 .wo .any (0) (mask := 0xFFF),
  obj 0x2830 0x00 0x00 .u8 .const .any (4),
  obj 0x2830 0x01 0x01 .u32 .ro .any (0),
  obj 0x2830 0x02 0x02 .u32 .ro .any (0),
  obj 0x2830 0x03 0x03 .u32 .ro .any (0),
  obj 0x2830 0x04 0x04 .u32 .ro .any (0) (keep := .aon)]

/-- The object rows of chapter 14. -/
def objRows14 : List ObjRow := objRows14a

/-- Rows of chapter 15, part 1. -/
def objRows15a : List ObjRow := [
  obj 0x1000 0x00 0x00 .u32 .const .any (0),
  obj 0x1001 0x00 0x00 .u8 .ro .any (0),
  obj 0x1003 0x00 0x00 .u8 .ro .any (0),
  obj 0x1003 0x01 0x08 .u32 .ro .any (0),
  obj 0x1005 0x00 0x00 .u32 .rw .steward (128),
  obj 0x1008 0x00 0x00 .str .const .any (0),
  obj 0x1009 0x00 0x00 .str .const .any (0),
  obj 0x100A 0x00 0x00 .str .const .any (0),
  obj 0x1010 0x01 0x01 .u32 .rw .steward (1),
  obj 0x1010 0x02 0x02 .u32 .rw .steward (1),
  obj 0x1011 0x01 0x01 .u32 .rw .steward (1),
  obj 0x1011 0x02 0x02 .u32 .rw .steward (1),
  obj 0x1012 0x00 0x00 .u32 .rw .steward (2147483904),
  obj 0x1014 0x00 0x00 .u32 .rw .steward (128),
  obj 0x1015 0x00 0x00 .u16 .rw .steward (0),
  obj 0x1016 0x01 0x04 .u32 .rw .steward (0),
  obj 0x1017 0x00 0x00 .u16 .rw .steward (1000),
  obj 0x1018 0x01 0x01 .u32 .const .any (2647),
  obj 0x1018 0x02 0x02 .u32 .const .any (0),
  obj 0x1018 0x03 0x03 .u32 .const .any (262145),
  obj 0x1018 0x04 0x04 .u32 .const .any (0),
  obj 0x1029 0x01 0x01 .u8 .rw .steward (0),
  obj 0x1400 0x01 0x01 .u32 .rw .steward (0),
  obj 0x1400 0x02 0x02 .u8 .rw .steward (255),
  obj 0x1400 0x05 0x05 .u16 .rw .steward (0),
  obj 0x1400 0x20 0x20 .u16 .rw .steward (0) (rng := some (0, 4095)),
  obj 0x1600 0x01 0x10 .u32 .rw .steward (0),
  obj 0x1800 0x01 0x01 .u32 .rw .steward (0),
  obj 0x1800 0x02 0x02 .u8 .rw .steward (0),
  obj 0x1800 0x03 0x03 .u16 .rw .steward (0),
  obj 0x1800 0x05 0x05 .u16 .rw .steward (0),
  obj 0x1800 0x06 0x06 .u8 .rw .steward (0),
  obj 0x1800 0x20 0x20 .u16 .rw .steward (0) (rng := some (0, 4095)),
  obj 0x1800 0x21 0x21 .u32 .rw .steward (0),
  obj 0x1A00 0x01 0x10 .u32 .rw .steward (0),
  obj 0x1F80 0x00 0x00 .u32 .rw .steward (0) (mask := 0x4),
  obj 0x1FF0 0x01 0x01 .u32 .rwp .steward (0) (mask := 0xFFFFFFFF),
  obj 0x1FF0 0x02 0x02 .touchmark .ro .any (0),
  obj 0x1FF0 0x03 0x03 .u16 .ro .any (0),
  obj 0x1FF0 0x04 0x04 .u32 .ro .any (0)]

/-- Rows of chapter 15, part 2. -/
def objRows15b : List ObjRow := [
  obj 0x1FF0 0x05 0x05 .u8 .wo .steward (0),
  obj 0x1FF1 0x01 0x01 .u8 .ro .any (255),
  obj 0x1FF1 0x02 0x02 .u8 .rw .steward (5),
  obj 0x1FF1 0x03 0x03 .bool .rw .steward (0),
  obj 0x1FF1 0x04 0x04 .u8 .ro .any (0),
  obj 0x1FF1 0x05 0x05 .u32 .rwp .steward (0) (mask := 0x3B),
  obj 0x1FF1 0x06 0x06 .u32 .ro .any (0),
  obj 0x1FF1 0x07 0x07 .u32 .ro .any (0),
  obj 0x1010 0x00 0x00 .u8 .const .any (2),
  obj 0x1011 0x00 0x00 .u8 .const .any (2),
  obj 0x1016 0x00 0x00 .u8 .const .any (4),
  obj 0x1018 0x00 0x00 .u8 .const .any (4),
  obj 0x1029 0x00 0x00 .u8 .const .any (1),
  obj 0x1400 0x00 0x00 .u8 .const .any (32),
  obj 0x1800 0x00 0x00 .u8 .const .any (33),
  obj 0x1FF0 0x00 0x00 .u8 .const .any (5),
  obj 0x1FF1 0x00 0x00 .u8 .const .any (7),
  obj 0x1600 0x00 0x00 .u8 .ro .any (0),
  obj 0x1A00 0x00 0x00 .u8 .ro .any (0)]

/-- The object rows of chapter 15. -/
def objRows15 : List ObjRow := objRows15a ++ objRows15b

/-- Rows of chapter 16, part 1. -/
def objRows16a : List ObjRow := [
  obj 0x2100 0x00 0x00 .u8 .const .any (10),
  obj 0x2100 0x01 0x01 .u8 .wo .steward (0),
  obj 0x2100 0x02 0x02 .u8 .ro .any (0),
  obj 0x2100 0x03 0x03 .u32 .rwp .steward (0) (mask := 0x7F),
  obj 0x2100 0x04 0x04 .u8 .ro .any (0),
  obj 0x2100 0x05 0x05 .u8 .ro .any (255),
  obj 0x2100 0x06 0x06 .touchmark .ro .any (0),
  obj 0x2100 0x07 0x07 .u16 .ro .any (0),
  obj 0x2100 0x08 0x08 .u32 .rw .steward (0),
  obj 0x2100 0x09 0x09 .u32 .ro .any (0),
  obj 0x2100 0x0A 0x0A .u32 .ro .any (0),
  obj 0x2101 0x00 0x00 .u8 .const .any (3),
  obj 0x2101 0x01 0x01 .u8 .rw .steward (1) (mask := 0xE),
  obj 0x2101 0x02 0x02 .u32 .rw .steward (0),
  obj 0x2101 0x03 0x03 .u32 .ro .any (0) (keep := .aon),
  obj 0x2102 0x00 0x00 .u8 .const .any (8),
  obj 0x2102 0x01 0x08 .u32 .rw .claimant (655360) (mask := 0x83FFFFFF),
  obj 0x2103 0x00 0x00 .u8 .const .any (64),
  obj 0x2103 0x01 0x40 .u32 .rw .owner (4278190080) (mask := 0x8FFF),
  obj 0x2104 0x00 0x00 .u8 .const .any (5),
  obj 0x2104 0x01 0x01 .u32 .const .any (30000),
  obj 0x2104 0x02 0x02 .u32 .const .any (20000),
  obj 0x2104 0x03 0x03 .u32 .ro .any (0),
  obj 0x2104 0x04 0x04 .u8 .ro .any (0),
  obj 0x2104 0x05 0x05 .u32 .ro .any (0),
  obj 0x2105 0x00 0x00 .u8 .const .any (15),
  obj 0x2105 0x01 0x0F .u8 .ro .any (0),
  obj 0x2106 0x00 0x00 .u8 .const .any (2),
  obj 0x2106 0x01 0x01 .u32 .ro .any (0) (keep := .aon),
  obj 0x2106 0x02 0x02 .u16 .ro .any (0) (keep := .aon),
  obj 0x2110 0x00 0x00 .u8 .const .any (6),
  obj 0x2110 0x01 0x01 .u8 .rw .steward (3),
  obj 0x2110 0x02 0x02 .u8 .ro .any (0),
  obj 0x2110 0x03 0x03 .u32 .rwp .steward (0) (mask := 0xF),
  obj 0x2110 0x04 0x04 .u32 .ro .any (0) (keep := .aon),
  obj 0x2110 0x05 0x05 .u8 .rw .steward (100),
  obj 0x2110 0x06 0x06 .i32 .ro .any (0),
  obj 0x2111 0x00 0x00 .u8 .const .any (3),
  obj 0x2111 0x01 0x01 .u16 .rw .steward (20) (rng := some (5, 500)),
  obj 0x2111 0x02 0x02 .u16 .rw .steward (256) (rng := some (16, 1024))]

/-- Rows of chapter 16, part 2. -/
def objRows16b : List ObjRow := [
  obj 0x2111 0x03 0x03 .u32 .ro .any (0) (keep := .aon),
  obj 0x2112 0x00 0x00 .u8 .const .any (9),
  obj 0x2112 0x01 0x09 .u32 .ro .any (0)]

/-- The object rows of chapter 16. -/
def objRows16 : List ObjRow := objRows16a ++ objRows16b

/-- Rows of chapter 17, part 1. -/
def objRows17a : List ObjRow := [
  obj 0x5000 0x00 0x00 .u8 .const .any (5),
  obj 0x5000 0x01 0x01 .u64 .rwp .steward (0) (mask := 0x1FFFFFFF) (keep := .aon),
  obj 0x5000 0x02 0x02 .touchmark .ro .any (0) (keep := .aon),
  obj 0x5000 0x03 0x03 .u16 .ro .any (0) (keep := .aon),
  obj 0x5000 0x04 0x04 .u32 .ro .any (0),
  obj 0x5000 0x05 0x05 .u8 .ro .any (0) (keep := .aon),
  obj 0x5001 0x00 0x00 .u8 .const .any (3),
  obj 0x5001 0x01 0x01 .domain .ro .any (0) (keep := .nv),
  obj 0x5001 0x02 0x02 .u32 .ro .any (0) (keep := .nv),
  obj 0x5001 0x03 0x03 .u16 .ro .any (0) (keep := .nv),
  obj 0x5002 0x00 0x00 .u8 .const .any (2),
  obj 0x5002 0x01 0x01 .domain .ro .any (0) (keep := .aon),
  obj 0x5002 0x02 0x02 .u32 .ro .any (0) (keep := .aon),
  obj 0x5100 0x00 0x00 .u8 .const .any (6),
  obj 0x5100 0x01 0x01 .bool .rw .steward (1),
  obj 0x5100 0x02 0x02 .u16 .rw .steward (80) (rng := some (16, 80)),
  obj 0x5100 0x03 0x03 .u8 .rw .steward (1) (rng := some (0, 1)),
  obj 0x5100 0x04 0x04 .u8 .rw .steward (1) (rng := some (0, 1)),
  obj 0x5100 0x05 0x05 .u16 .rw .steward (10) (rng := some (1, 60)),
  obj 0x5100 0x06 0x06 .u8 .rw .steward (8) (rng := some (2, 64)),
  obj 0x5F00 0x01 0x10 .u32 .ro .any (0),
  obj 0x5F01 0x01 0x10 .u32 .ro .any (0),
  obj 0x5F02 0x01 0x10 .u32 .ro .any (0),
  obj 0x5F03 0x01 0x08 .u32 .ro .any (0),
  obj 0x5F04 0x01 0x08 .u16 .ro .any (0),
  obj 0x5F10 0x01 0x01 .u32 .rw .steward (0) (mask := 0xFFF0FFF),
  obj 0x5F10 0x02 0x02 .u8 .wo .steward (0),
  obj 0x5F10 0x03 0x03 .u8 .ro .any (0),
  obj 0x5F10 0x04 0x04 .touchmark .ro .any (0),
  obj 0x5F10 0x05 0x05 .u16 .ro .any (0),
  obj 0x5F10 0x06 0x06 .domain .ro .any (0),
  obj 0x5F00 0x00 0x00 .u8 .const .any (16),
  obj 0x5F01 0x00 0x00 .u8 .const .any (16),
  obj 0x5F02 0x00 0x00 .u8 .const .any (16),
  obj 0x5F03 0x00 0x00 .u8 .const .any (8),
  obj 0x5F04 0x00 0x00 .u8 .const .any (8),
  obj 0x5F10 0x00 0x00 .u8 .const .any (6)]

/-- The object rows of chapter 17. -/
def objRows17 : List ObjRow := objRows17a

/-- Rows of chapter 18, part 1. -/
def objRows18a : List ObjRow := [
  obj 0x2900 0x00 0x00 .u8 .const .any (6),
  obj 0x2900 0x01 0x01 .u8 .ro .any (0),
  obj 0x2900 0x02 0x02 .u8 .ro .any (0),
  obj 0x2900 0x03 0x03 .u32 .ro .any (0),
  obj 0x2900 0x04 0x04 .u32 .rwp .steward (0) (mask := 0x3E),
  obj 0x2900 0x05 0x05 .u8 .ro .any (0),
  obj 0x2900 0x06 0x06 .u32 .ro .any (0) (keep := .nv),
  obj 0x2901 0x00 0x00 .u8 .const .any (10),
  obj 0x2901 0x01 0x01 .u32 .ro .any (0),
  obj 0x2901 0x02 0x07 .u32 .ro .any (0),
  obj 0x2901 0x08 0x08 .u16 .const .any (16643),
  obj 0x2901 0x09 0x09 .u16 .const .any (16898),
  obj 0x2901 0x0A 0x0A .u16 .const .any (17152),
  obj 0x2902 0x00 0x00 .u8 .const .any (7),
  obj 0x2902 0x01 0x06 .u8 .ro .any (0) (keep := .nv),
  obj 0x2902 0x07 0x07 .u8 .ro .any (0) (keep := .nv),
  obj 0x2903 0x00 0x00 .u8 .const .any (7),
  obj 0x2903 0x01 0x01 .u8 .wo .steward (0),
  obj 0x2903 0x02 0x02 .u8 .ro .any (0),
  obj 0x2903 0x03 0x03 .u8 .ro .any (0),
  obj 0x2903 0x04 0x04 .u32 .rw .steward (33554432) (rng := some (65536, 33554432)),
  obj 0x2903 0x05 0x05 .u32 .ro .any (4294967295),
  obj 0x2903 0x06 0x06 .u32 .ro .any (0),
  obj 0x2903 0x07 0x07 .u8 .ro .any (0),
  obj 0x2904 0x00 0x00 .u8 .const .any (8),
  obj 0x2904 0x01 0x01 .domain .const .any (0),
  obj 0x2904 0x02 0x02 .domain .const .any (0),
  obj 0x2904 0x03 0x03 .domain .ro .any (0),
  obj 0x2904 0x04 0x04 .u32 .ro .any (0),
  obj 0x2904 0x05 0x05 .domain .rw .any (0),
  obj 0x2904 0x06 0x06 .u8 .wo .any (0),
  obj 0x2904 0x07 0x07 .u8 .ro .any (0),
  obj 0x2904 0x08 0x08 .domain .ro .any (0),
  obj 0x2905 0x00 0x00 .u8 .const .any (1),
  obj 0x2905 0x01 0x01 .u32 .rw .steward (0) (mask := 0x3)]

/-- The object rows of chapter 18. -/
def objRows18 : List ObjRow := objRows18a

/-- Rows of chapter 19, part 1. -/
def objRows19a : List ObjRow := [
  obj 0x2300 0x00 0x00 .u8 .const .any (6),
  obj 0x2300 0x01 0x01 .u8 .rw .steward (0) (rng := some (0, 2)),
  obj 0x2300 0x02 0x02 .u32 .rwp .steward (0) (mask := 0x5),
  obj 0x2300 0x03 0x03 .u16 .ro .any (0),
  obj 0x2300 0x04 0x04 .u16 .ro .any (0),
  obj 0x2300 0x05 0x05 .touchmark .ro .any (0),
  obj 0x2300 0x06 0x06 .u32 .ro .any (0),
  obj 0x2301 0x00 0x00 .u8 .const .any (48),
  obj 0x2301 0x01 0x2C .u32 .const .any (2147483648),
  obj 0x2301 0x2D 0x30 .u32 .rw .steward (2147483648),
  obj 0x2302 0x00 0x00 .u8 .const .any (4),
  obj 0x2302 0x01 0x04 .u32 .rw .steward (0) (mask := 0x1),
  obj 0x2303 0x00 0x00 .u8 .const .any (4),
  obj 0x2303 0x01 0x04 .u32 .rw .steward (0),
  obj 0x2304 0x00 0x00 .u8 .const .any (3),
  obj 0x2304 0x01 0x01 .u16 .wo .steward (0),
  obj 0x2304 0x02 0x02 .u8 .ro .any (0),
  obj 0x2304 0x03 0x03 .u8 .ro .any (0),
  obj 0x2320 0x00 0x00 .u8 .const .any (32),
  obj 0x2320 0x01 0x20 .u32 .rw .steward (0) (mask := 0x8000073F) (shadow := true),
  obj 0x2321 0x00 0x00 .u8 .const .any (32),
  obj 0x2321 0x01 0x20 .u32 .rwp .steward (0) (mask := 0x80000000),
  obj 0x2330 0x01 0x2B .i32 .ro .any (0),
  obj 0x2331 0x01 0x2B .i32 .rw .steward (0),
  obj 0x2332 0x01 0x2B .i32 .rw .steward (0),
  obj 0x2333 0x01 0x2B .u8 .ro .any (0),
  obj 0x2340 0x00 0x00 .u8 .const .any (2),
  obj 0x2340 0x01 0x01 .u8 .wo .steward (0),
  obj 0x2340 0x02 0x02 .u8 .ro .any (0),
  obj 0x2341 0x00 0x00 .u8 .const .any (8),
  obj 0x2341 0x01 0x08 .u32 .ro .any (0),
  obj 0x2330 0x00 0x00 .u8 .const .any (43),
  obj 0x2331 0x00 0x00 .u8 .const .any (43),
  obj 0x2332 0x00 0x00 .u8 .const .any (43),
  obj 0x2333 0x00 0x00 .u8 .const .any (43)]

/-- The object rows of chapter 19. -/
def objRows19 : List ObjRow := objRows19a

/-- The rows that may hold index `i` (the range table of chapter 0). -/
def objRowsOf (i : Nat) : List ObjRow :=
  match i / 256 with
  | 0x20 => objRows13 | 0x21 => objRows16 | 0x22 => objRows02 | 0x23 => objRows19
  | 0x24 => objRows09 | 0x25 => objRows10 | 0x26 => objRows11 | 0x27 => objRows12
  | 0x28 => objRows14 | 0x29 => objRows18 | 0x2A => objRows04 | 0x2B => objRows03
  | 0x30 => if i % 256 < 0x40 then objRows03 else if i % 256 < 0x80 then objRows06 else objRows04
  | 0x40 => if i = 0x4000 then objRows13 else objRows06
  | 0x41 => objRows05 | 0x42 => objRows06 | 0x43 => objRows07 | 0x44 => objRows08
  | 0x50 => objRows17 | 0x51 => objRows17 | 0x5F => objRows17
  | n => if 0x10 ≤ n ∧ n < 0x20 then objRows15 else []

/-- The index with its instance digit cleared: 3nxx, 272l, 273l, 281l, 14pp, 16pp, 18pp, 1App. -/
def normIdx (i : Nat) : Nat :=
  if 0x3000 ≤ i ∧ i < 0x3800 then 0x3000 + i % 256
  else if 0x2720 ≤ i ∧ i < 0x2728 then 0x2720
  else if 0x2730 ≤ i ∧ i < 0x2738 then 0x2730
  else if 0x2810 ≤ i ∧ i < 0x2820 then 0x2810
  else if 0x1400 ≤ i ∧ i < 0x1404 then 0x1400
  else if 0x1600 ≤ i ∧ i < 0x1604 then 0x1600
  else if 0x1800 ≤ i ∧ i < 0x1804 then 0x1800
  else if 0x1A00 ≤ i ∧ i < 0x1A04 then 0x1A00
  else i

/-- The row of index `i`, subindex `sub` (R405). -/
def findRow (i sub : Nat) : Option ObjRow :=
  let j := normIdx i
  (objRowsOf j).find? fun r => r.idx == j && r.lo ≤ sub && sub ≤ r.hi

/-- Whether some row holds index `i`. -/
def indexKnown (i : Nat) : Bool :=
  let j := normIdx i
  (objRowsOf j).any fun r => r.idx == j

end Sys2Proof.Machine
end

