-- ==== Sys2Proof/Machine/Ops.lean ====
section
/-!
DEFINITION. The named operations over the state: sorted association lists, capture memory, the dictionary's
scalar objects, device time, and the records of dies, inputs, contexts, channels and paths.
A block has no exception entry; its error flags and events stand in Machine/Events.lean.
-/
namespace Sys2Proof.Machine

/-! ## Sorted association lists -/

/-- The value of a key. -/
def kvGet {α : Type} : List (Nat × α) → Nat → Option α
  | [], _ => none
  | (k', v) :: r, k => if k' = k then some v else kvGet r k

/-- Inserts or replaces the value of a key, keeping the keys rising. -/
def kvPut {α : Type} : List (Nat × α) → Nat → α → List (Nat × α)
  | [], k, v => [(k, v)]
  | (k', v') :: r, k, v =>
    if k < k' then (k, v) :: (k', v') :: r
    else if k = k' then (k, v) :: r
    else (k', v') :: kvPut r k v

/-- Removes a key. -/
def kvDel {α : Type} : List (Nat × α) → Nat → List (Nat × α)
  | [], _ => []
  | (k', v') :: r, k => if k = k' then kvDel r k else (k', v') :: kvDel r k

/-- Changes the value of a key where it is listed. -/
def kvMod {α : Type} (f : α → α) : List (Nat × α) → Nat → List (Nat × α)
  | [], _ => []
  | (k', v') :: r, k => if k' = k then (k', f v') :: r else (k', v') :: kvMod f r k

/-- Sets the value of a key where an unlisted key holds `d`: the canonical form lists no such entry. -/
def kvSet {α : Type} [DecidableEq α] (d : α) (l : List (Nat × α)) (k : Nat) (v : α) : List (Nat × α) :=
  if v = d then kvDel l k else kvPut l k v

/-- Keys strictly rising. -/
def kvSorted {α : Type} : List (Nat × α) → Bool
  | [] => true
  | [_] => true
  | (k, _) :: (k', v') :: r => decide (k < k') && kvSorted ((k', v') :: r)

/-! ## Capture memory -/

/-- The canonical form of memory: addresses strictly rising, no listed byte equal to the 0 that an unlisted
address reads as (log 4). -/
def Memory.wf (m : List Host.Cell) : Bool := kvSorted m && m.all fun c => c.2 != 0#8

/-- One byte of capture memory; an unlisted byte reads 0 (log 4). -/
def Memory.read (m : List Host.Cell) (a : Nat) : Byte := (kvGet m a).getD 0#8

/-- Writes one byte of capture memory. -/
def Memory.write (m : List Host.Cell) (a : Nat) (b : Byte) : List Host.Cell := kvSet 0#8 m a b

/-- `n` bytes from address `a`. -/
def Memory.readN (m : List Host.Cell) (a : Nat) : Nat → List Byte
  | 0 => []
  | n + 1 => Memory.read m a :: Memory.readN m (a + 1) n

/-- Writes a byte string from address `a`. -/
def Memory.writeN (m : List Host.Cell) (a : Nat) : List Byte → List Host.Cell
  | [] => m
  | b :: bs => Memory.writeN (Memory.write m a b) (a + 1) bs

/-! ## Scalar objects -/

/-- The key of object `k` (index × 256 + subindex) in instance `inst`. -/
def objKey (inst k : Nat) : Nat := inst * 2 ^ 24 + k

/-- The object of input, layer or device `n` whose row stands with that digit 0: 3nxx. -/
def inObj (k n : Nat) : Nat := k + n * 0x10000

/-- The default window of monitor channel `c` (R575); 0 and 0 for the channel that is not compared (log 12). -/
def monWindow (c : Nat) : Int × Int :=
  if c < 8 then (712, 788) else if c < 18 then (-2000, 10000) else if c < 22 then (-2000, 9500)
  else match c with
    | 22 => (11400, 12600) | 23 => (3135, 3465) | 24 => (1710, 1890) | 25 => (712, 788) | 26 => (1045, 1155)
    | 27 => (1710, 1890) | 28 => (380, 420) | 29 => (1140, 1260) | 30 => (1710, 1890) | 31 => (3135, 3465)
    | 32 => (1188, 1212) | 33 => (1000, 3000) | 34 => (450, 550) | 35 => (450, 550) | 36 => (2027, 2069)
    | 38 => (-2000, 9000) | 39 => (0, 5500) | 40 => (0, 30000) | 41 => (990, 1010) | 42 => (-20, 20)
    | _ => (0, 0)

/-- The mapping a PDO has by default (R479): TPDO 1 to 4 and RPDO 1 to 4 by index. -/
def pdoMap (i : Nat) : List Nat :=
  match i with
  | 0x1600 => [0x40100208, 0x41000410]
  | 0x1601 => [0x20020108]
  | 0x1A00 => [0x20010108, 0x10010008, 0x22000140]
  | 0x1A01 => [0x1FF00240, 0x1FF00310]
  | 0x1A02 => [0x41050740, 0x41050810, 0x42200320]
  | 0x1A03 => [0x44030520, 0x44110240, 0x44110340, 0x44110440]
  | _ => []

/-- The COB-ID an object has by default when the node-ID is `n` (R479, R485). -/
def cobDefault (n i : Nat) : Option Nat :=
  match i with
  | 0x1014 => some (0x80 + n)
  | 0x1400 => some (0x200 + n)
  | 0x1401 => some (0x300 + n)
  | 0x1402 => some (0x80000400 + n)
  | 0x1403 => some (0x80000500 + n)
  | 0x1800 => some (0x180 + n)
  | 0x1801 => some (0x280 + n)
  | 0x1802 => some (0x80000380 + n)
  | 0x1803 => some (0x80000480 + n)
  | _ => none

/-- The default of an object that depends on the variant or on its instance digit; otherwise its row's. -/
def objDefault (v : Variant) (k : Nat) : Slot :=
  let i := k / 256 % 65536
  let sub := k % 256
  if i = 0x2B00 ∧ sub = 0 ∨ i = 0x4310 ∧ sub = 0 ∨ i = 0x2405 ∧ sub = 0 ∨ i = 0x2000 ∧ sub = 6
      ∨ i = 0x2000 ∧ sub = 3 then ofN v.dies
  else if i = 0x2B01 ∧ sub = 3 then (match v with | .sz2 => 0x03 | .sz4 => 0x0F | .sz8 => 0xBF)
  else if i = 0x2402 ∧ sub = 5 then 0x0888044402220111
  else if i = 0x2A00 ∧ sub = 4 then (match v with | .sz8 => 1 | _ => 0)
  else if i = 0x2400 ∧ sub = 1 ∨ i = 0x2401 ∧ sub = 0 then ofN (v.dies / 2)
  else if i = 0x2510 ∧ sub = 2 then ofN (32 + 16 * v.dies)
  else if i = 0x2600 ∧ sub = 2 then ofN (1 + v.dies)
  else if i = 0x2000 ∧ sub = 7 then ofN (2 ^ v.dies - 1)
  else if i = 0x2000 ∧ sub = 8 then ofN (12 * v.dies)
  else if i = 0x2000 ∧ sub = 0x0B then ofN (8 * v.dies)
  else if i = 0x1018 ∧ sub = 2 then ofN (0x04800000 + v.dies)
  else if 0x3000 ≤ i ∧ i < 0x3800 ∧ i % 256 = 0x10 ∧ sub = 1 then ofN (i / 256 - 0x30)
  else if i = 0x2402 ∧ 1 ≤ sub ∧ sub ≤ 4 then ofN (0x0111 * 2 ^ (sub - 1))
  else if i = 0x2000 ∧ sub = 4 then Config.serial
  else if i = 0x2000 ∧ sub = 5 then Config.mfgDays.zeroExtend 64
  else if i = 0x1018 ∧ sub = 4 then ofN (Config.serial.toNat % 2 ^ 32)
  else if i = 0x2331 ∧ 1 ≤ sub ∧ sub ≤ 0x2B then ofI (monWindow (sub - 1)).1
  else if i = 0x2332 ∧ 1 ≤ sub ∧ sub ≤ 0x2B then ofI (monWindow (sub - 1)).2
  else if i = 0x2301 ∧ 1 ≤ sub ∧ sub ≤ 44 then (Config.hkCorr (sub - 1)).zeroExtend 64
  else if i = 0x1014 ∨ (0x1400 ≤ i ∧ i < 0x1404 ∨ 0x1800 ≤ i ∧ i < 0x1804) ∧ sub = 1 then
    ofN ((cobDefault 0 i).getD 0)
  else if (0x1600 ≤ i ∧ i < 0x1604 ∨ 0x1A00 ≤ i ∧ i < 0x1A04) ∧ 1 ≤ sub ∧ sub ≤ 16 then
    ofN ((pdoMap i).getD (sub - 1) 0)
  else if 0x1800 ≤ i ∧ i < 0x1804 ∧ sub = 2 then (match i with | 0x1800 => 254 | 0x1801 => 1 | _ => 255)
  else if i = 0x1800 ∧ sub = 5 then 1000
  else if i = 0x1802 ∧ sub = 0x21 then 1
  else if i = 0x1803 ∧ sub = 0x21 then 2
  else match findRow i sub with
    | some r => ofI r.dflt
    | none => 0

/-- The value of an object in instance `inst`. -/
def State.obj (s : State) (inst k : Nat) : Slot :=
  (kvGet s.objs (objKey inst k)).getD (objDefault s.variant k)

/-- Sets the value of an object in instance `inst`. -/
def State.setObj (s : State) (inst k : Nat) (v : Slot) : State :=
  { s with objs := kvSet (objDefault s.variant k) s.objs (objKey inst k) v }

/-- A device-wide object. -/
def State.get (s : State) (k : Nat) : Slot := s.obj 0 k

/-- Sets a device-wide object. -/
def State.put (s : State) (k : Nat) (v : Slot) : State := s.setObj 0 k v

/-- The instance that holds, beside a TOUCHMARK object that has no wrap companion, the wrap count of its instant. -/
def wrapInst (inst : Nat) : Nat := inst + 0x10000

/-- Sets a TOUCHMARK object to an instant in base periods, with the wrap count R58 reports of it. -/
def State.putTm (s : State) (inst k t : Nat) : State :=
  (s.setObj inst k (ofN (t % 2 ^ 55 * 512))).setObj (wrapInst inst) k (ofN (t / 2 ^ 55 % 2 ^ 16))

/-- A device-wide object as a number. -/
def State.num (s : State) (k : Nat) : Nat := (s.obj 0 k).toNat

/-- Adds to a counter that saturates at `w` bits. -/
def State.countSat (s : State) (inst k w : Nat) (n : Nat := 1) : State :=
  s.setObj inst k (ofN (satN w ((s.obj inst k).toNat + n)))

/-- Adds to a counter that wraps at `w` bits. -/
def State.countWrap (s : State) (inst k w : Nat) (n : Nat := 1) : State :=
  s.setObj inst k (ofN (((s.obj inst k).toNat + n) % 2 ^ w))

/-- Sets bit `b` of a status object. -/
def State.flag (s : State) (inst k b : Nat) : State := s.setObj inst k (setBit (s.obj inst k) b)

/-- Clears bit `b` of a status object. -/
def State.unflag (s : State) (inst k b : Nat) : State := s.setObj inst k (clearBit (s.obj inst k) b)

/-- A DOMAIN or VISIBLE_STRING object. -/
def State.blob (s : State) (inst k : Nat) : List Byte := (kvGet s.blobs (objKey inst k)).getD []

/-- Sets a DOMAIN object. -/
def State.setBlob (s : State) (inst k : Nat) (b : List Byte) : State :=
  { s with blobs := kvSet [] s.blobs (objKey inst k) b }

/-! ## Device time -/

/-- The absolute base-period count, wrap count × 2^55 + counter (R37). -/
def State.now (s : State) : Nat := s.wraps.toNat * 2 ^ 55 + s.counter.toNat

/-- The device time set to an absolute base-period count. -/
def State.setNow (s : State) (t : Nat) : State :=
  { s with counter := BitVec.ofNat 55 t, wraps := BitVec.ofNat 16 (t / 2 ^ 55) }

/-- Device time runs on to `t`; WRAPPED sets when the counter passes 2^55 − 1 (R35, R57). -/
def State.runTo (s : State) (t : Nat) : State :=
  if t ≤ s.now then s
  else
    let s' := s.setNow t
    if t / 2 ^ 55 = s.now / 2 ^ 55 then s' else s'.flag 0 O.TB_STATUS 0

/-- The core cycle in force: the latest multiple of 48 base periods (R37). -/
def State.cycle (s : State) : Nat := s.now / 48 * 48

/-- The 30 ns epoch in force, the latest multiple of 1,200 base periods: a die that starts or wakes aligns its copy of the
counter on it (R36). -/
def State.epochStart (s : State) : Nat := s.now / 1200 * 1200

/-- The touchmark of the core cycle in force. -/
def State.cycleTm (s : State) : Slot := tmOf s.cycle

/-- The wrap count at the core cycle in force (R40). -/
def State.cycleWrap (s : State) : Slot := ofN (s.cycle / 2 ^ 55 % 2 ^ 16)

/-- Draws a free value (log 3). -/
def State.free (s : State) : Slot × State := (Config.freeBits s.freeCtr, { s with freeCtr := s.freeCtr + 1 })

/-- No reference is left to run from (R526). -/
def State.noReference (s : State) : Bool := s.power.noRef

/-! ## Dies and inputs -/

/-- Number of acquisition dies. -/
def State.D (s : State) : Nat := s.variant.dies

/-- Die `d`. -/
def State.die (s : State) (d : Nat) : Die := s.dies.getD d {}

/-- The copy of the counter that die `d` keeps: it stands at its 30 ns epoch's value when it is aligned and advances by 48
every core cycle (R36); none where the die keeps none. -/
def State.dieCounter (s : State) (d : Nat) : Option (BitVec 55) :=
  (s.die d).counterFrom.map fun t => BitVec.ofNat 55 (t + (s.now - t) / 48 * 48)

/-- Replaces die `d`. -/
def State.setDie (s : State) (d : Nat) (x : Die) : State := { s with dies := s.dies.set d x }

/-- Input `n`. -/
def State.input (s : State) (n : Nat) : Input := s.inputs.getD n {}

/-- Replaces input `n`. -/
def State.setInput (s : State) (n : Nat) (x : Input) : State := { s with inputs := s.inputs.set n x }

/-- Whether input `n` is fitted (R3). -/
def State.fitted (s : State) (n : Nat) : Bool := decide (n < s.D)

/-! ## Which objects a variant lacks (R3) -/

/-- The domains that exist on the variant. -/
def State.domainsHeld (s : State) : List Nat :=
  [1, 2, 3] ++ (List.range s.D).map (· + 4) ++ (List.range (s.D / 2)).map (· + 12)

/-- The instance digit of a per-input, per-layer, per-LD or per-PDO index. -/
def digitOf (i : Nat) : Nat :=
  if 0x3000 ≤ i ∧ i < 0x3800 then i / 256 - 0x30 else if normIdx i = i then 0 else i - normIdx i

/-- Whether a subindex of an index every variant has stands for an element this variant lacks (R3). -/
def State.elementAbsent (s : State) (i sub : Nat) : Bool :=
  let d := s.D
  if sub = 0 then false
  else match i with
    | 0x2B00 | 0x4310 | 0x2405 | 0x5F03 | 0x5F04 | 0x2341 => decide (d < sub)
    | 0x2401 => decide (d / 2 < sub)
    | 0x2514 => decide (d ≤ (sub - 1) % 9 ∧ (sub - 1) % 9 ≠ 0 ∧ d < (sub - 1) % 9)
    | 0x2820 => decide (d ≤ (sub - 1) % 8)
    | 0x2102 => decide (d < sub)
    | 0x2105 => !s.domainsHeld.contains sub
    | 0x2112 => decide (d < sub ∧ sub ≠ 9)
    | 0x5F00 | 0x5F01 | 0x5F02 => decide (2 * d < sub)
    | 0x2330 | 0x2331 | 0x2332 | 0x2333 =>
      let c := sub - 1
      decide (c < 16 ∧ d ≤ c % 8) || decide (18 ≤ c ∧ c < 22 ∧ d / 2 ≤ c - 18)
    | 0x4102 => decide (2 ≤ sub ∧ d ≤ (sub - 2) % 8)
    | _ => false

/-- The code an access to an object of an unfitted input, or of an absent die, stack or link direction, aborts with (R3). -/
def State.missing (s : State) (i sub : Nat) : Option Abort :=
  if 0x3000 ≤ i ∧ i < 0x3800 ∧ s.D ≤ digitOf i then some .noObject
  else if s.elementAbsent i sub then some .noSubindex
  else none

/-! ## Dies that serve inputs -/

/-- The input that die `d` serves with sheets, none when it serves nothing (R94). -/
def State.inputOfDie (s : State) (d : Nat) : Option Nat :=
  (List.range s.D).find? fun n => (s.input n).members.contains d

/-- The input a fault report names for die `d`, 0xFF for none. -/
def State.inputByte (s : State) (d : Nat) : Nat := (s.inputOfDie d).getD 0xFF

/-! ## Contexts, channels, logical devices, paths -/

/-- Context `c`, none when Empty. -/
def State.ctx (s : State) (c : Nat) : Option Ctx := kvGet s.ctxs c

/-- Replaces context `c`. -/
def State.setCtx (s : State) (c : Nat) (x : Ctx) : State := { s with ctxs := kvPut s.ctxs c x }

/-- Changes context `c` where it is not Empty. -/
def State.modCtx (s : State) (c : Nat) (f : Ctx → Ctx) : State :=
  match s.ctx c with
  | some x => s.setCtx c (f x)
  | none => s

/-- Mover channel `x`, none when Free. -/
def State.chan (s : State) (x : Nat) : Option Chan := kvGet s.chans x

/-- Replaces mover channel `x`. -/
def State.setChan (s : State) (x : Nat) (c : Chan) : State := { s with chans := kvPut s.chans x c }

/-- LD `l`. -/
def State.ld (s : State) (l : Nat) : Ld := s.lds.getD l {}

/-- Replaces LD `l`. -/
def State.setLd (s : State) (l : Nat) (x : Ld) : State := { s with lds := s.lds.set l x }

/-- Access path `p`. -/
def State.path (s : State) (p : Nat) : Path := (kvGet s.paths p).getD {}

/-- Replaces access path `p`. -/
def State.setPath (s : State) (p : Nat) (x : Path) : State := { s with paths := kvSet {} s.paths p x }

/-- The owner code of an access path (R408). -/
def ownerOf (p : Nat) : Nat := if p < 16 then p else if p < 32 then p - 16 else 16

/-- Whether either lockstep pair restarts (R528). -/
def State.restarting (s : State) : Bool := s.hubRestart || s.supRestart

/-- Whether the module runs outside a start: Watch, Ready or Armed. -/
def State.awake (s : State) : Bool :=
  !s.starting && (s.dev == .watch || s.dev == .ready || s.dev == .armed)

/-- Whether an access path serves requests (R408, R434): path 32 always, an LD's paths while it is Enabled. -/
def State.serves (s : State) (p : Nat) : Bool :=
  if p < 32 then (s.ld (ownerOf p)).st == .enabled
  else p == 32 && s.awake

/-- The context a path's selector names (R410). -/
def State.selected (s : State) (p : Nat) : Nat := (s.obj p O.CTX_SELECT).toNat

/-- The owner code of a context, 0xFF when Empty (R14). -/
def State.ctxOwner (s : State) (c : Nat) : Nat :=
  match s.ctx c with
  | some x => x.owner
  | none => 0xFF

/-- The steward in force (R437). -/
def State.steward (s : State) : Nat := s.num O.STEWARD_ACTIVE

/-- The claimant of input `n`, 0xFF when unclaimed (R446). -/
def State.claimant (s : State) (n : Nat) : Nat := s.num (O.CLAIM_OWNER_n + n)

/-- Whether an owner code is a subscriber of input `n` (R446, R458). -/
def State.subscribed (s : State) (n o : Nat) : Bool := bit (s.get (O.SUBSCRIBERS_n + n)) o

end Sys2Proof.Machine
end

