-- ==== Sys2Proof/Machine/HandOver.lean ====
section
/-!
DEFINITION. The hand-over of committed shadows (R422, R423) and the order in which the dictionary server serves accesses (R411).
-/
namespace Sys2Proof.Machine

/-! ## Keys -/

/-- Index of an object key, its instance left out. -/
def keyIdx (key : Nat) : Nat := key % 2 ^ 24 / 256

/-- Whether a shadow belongs to a layer or its colour map, which hand over by the commit latch (R422). -/
def isLayerKey (key : Nat) : Bool := decide (0x2720 ≤ keyIdx key ∧ keyIdx key < 0x2738)

/-- The objects of the epoch mapping, 2201:02 to 2201:04 (R51). -/
def epochKeys : List Nat := [O.EPOCH_TM, O.EPOCH_WRAP, O.EPOCH_NS]

/-- A new mapping is in force (R52, R53). -/
def epochSet (s : State) : State :=
  ((s.countWrap 0 O.EPOCH_GEN 32).flag 0 O.TB_STATUS 1).unflag 0 O.TB_STATUS 2

/-! ## What a hand-over does beside the copy (R443, R585) -/

/-- The extents of LD `l` in subindex order. -/
def State.extents (s : State) (l : Nat) : List Slot :=
  (List.range 8).map fun e => s.get (O.HDM_EXT_e_l + l * 256 + e)

/-- Sum of the sizes of the enabled extents of LD `l`, in 256 MiB units. -/
def State.extentUnits (s : State) (l : Nat) : Nat :=
  ((s.extents l).map fun v => if bit v 63 then fld v 24 16 else 0).foldl (· + ·) 0

/-- EXT_CLIPPED sets where extents of LD `l` reach beyond its allocation (R443). -/
def clipLd (s : State) (l : Nat) : State :=
  if (s.ld l).alloc < s.extentUnits l then s.flag 0 O.CXL_STATUS 4 else s

/-- A sweep of the sequence table ends (R585). -/
def sweepEnd (s : State) : State := (s.putTm 0 O.HK_SWEEP_TM s.cycle).countWrap 0 O.HK_SWEEP_COUNT 32

/-- The sequence table starts again at entry 0; during a calibration, after it (R585, R589). The hand-over ends the sweep in
progress, which is a sweep end as any other (DEDUCED, log 77). -/
def restartTable (s : State) : State :=
  if s.hk.aux.isSome then { s with hk := { s.hk with restart := true } }
  else
    let s := if 0 < s.hk.entry ∨ 0 < s.hk.taken then sweepEnd s else s
    { s with hk := { s.hk with entry := 0, taken := 0, sum := 0, clip := false, settled := true, restart := false } }

/-! ## The hand-over (R423) -/

/-- A shadow becomes active. -/
def takeShadow (s : State) (h : Shadow) : State :=
  { s with objs := kvSet (objDefault s.variant (h.key % 2 ^ 24)) s.objs h.key h.value }

/-- The hand-over in core cycle `hc` (R52, R423, R443, R585). -/
def handOver (s : State) (hc : Nat) : State :=
  let s := s.runTo hc
  let due := s.commits.filter fun c => c.due == hc
  let takes (h : Shadow) : Bool :=
    (due.any fun c => c.owner == h.owner) && decide (h.written < hc) && !isLayerKey h.key
  let taken := s.shadows.filter takes
  let s := taken.foldl takeShadow { s with
    shadows := s.shadows.filter fun h => !takes h, commits := s.commits.filter fun c => c.due != hc }
  let s := (s.countWrap 0 O.DICT_GEN 32).putTm 0 O.DICT_GEN_TM hc
  let s := (due.flatMap Commit.paths).foldl (fun s p => s.setObj p O.PATH_COMMIT_GEN (s.get O.DICT_GEN)) s
  let s := if taken.any fun h => epochKeys.contains h.key then epochSet s else s
  let s := if taken.any fun h => normIdx (keyIdx h.key) == 0x2810 then (List.range 16).foldl clipLd s else s
  if taken.any fun h => keyIdx h.key == 0x2320 then restartTable s else s

/-- The hand-over of the earliest commit that waits, where its core cycle H is not after `t` (R423). -/
def handOverBy (t : Nat) (s : State) : State :=
  match (s.commits.map Commit.due).min? with
  | some hc => if hc ≤ t then handOver s hc else s
  | none => s

/-! ## The server (R411) -/

/-- The core cycle in which the server serves an access that arrives now: one access per core cycle (R411). -/
def State.turnCycle (s : State) : Nat :=
  match s.servedAt with
  | some t => if t < s.cycle then s.cycle else t + 48
  | none => s.cycle

/-- Whether the server is free in this core cycle and no hand-over is due by it: an access is served at once, with the values
in force. -/
def State.turnFree (s : State) : Bool :=
  (match s.servedAt with | some t => decide (t < s.cycle) | none => true) && s.commits.all fun c => decide (s.cycle < c.due)

/-- An access takes its turn: device time runs on to its core cycle, the hand-overs due by then have taken place (R411, R423).
Accesses are queued in the order in which they reach the server, those of one core cycle in ascending path number (log 102). -/
def takeTurn (s : State) : State :=
  let t := s.turnCycle
  let s := (List.range s.commits.length).foldl (fun s _ => handOverBy t s) s
  { s.runTo t with servedAt := some t }

end Sys2Proof.Machine
end

