-- ==== Sys2Proof/Machine/Events.lean ====
section
/-!
DEFINITION. What every family raises: pulses of the event router and their destinations (R338 to R341, R439,
R477), emergencies (R472, R473), tarnish bits with their log entries (R534 to R536), and what holds again at the
end of every command: the steward in force (R437) and the Ready and Armed states (R31).
-/
namespace Sys2Proof.Machine

/-- Issues an MSI-X message of LD `l`, or sets its pending bit, or drops it (R439). -/
def msix (s : State) (l v : Nat) : State :=
  let x := s.ld l
  if x.st = .enabled ∧ x.bme = true then
    if x.masked.contains v then
      if x.pba.contains v then s.flag 0 O.CXL_STATUS 5
      else s.setLd l { x with pba := v :: x.pba }
    else { s with sent := .msix l v :: s.sent }
  else s.flag 0 O.CXL_STATUS 5

/-- Whether TPDO `k` may be sent at all: Operational, not bus-off, and valid (R462, R484). -/
def State.tpdoValid (s : State) (k : Nat) : Bool :=
  s.can.nmt == .operational && !s.can.busOff && !bit (s.get (O.TPDO_COBID + k * 256)) 31

/-- A pulse of field-bus event flag `f` triggers the TPDOs of type 0, 254 and 255 that name it (R477); a TPDO that is not
valid is not triggered (R484). -/
def flagPulse (s : State) (f : Nat) : State :=
  let s := s.flag 0 O.FB_FLAGS f
  let type (k : Nat) : Nat := s.num (O.TPDO_TYPE + k * 256)
  let due := (List.range 4).filter fun k =>
    s.tpdoValid k && (type k == 0 || decide (254 ≤ type k)) && bit (s.get (O.TPDO_FLAGS + k * 256)) f
  { s with can := { s.can with tpdoDue := s.can.tpdoDue ++ due.filter fun k => !s.can.tpdoDue.contains k } }

/-- A leading edge at trigger out where R340 gives only its bound of 40 core cycles: a free value in that
bound, on the 120-grain grid (log 3). -/
def freeEdge (s : State) : Nat × State :=
  let (v, s) := s.free
  (s.cycle * 480 + v.toNat % 7681 * 120, s)

/-- Carries one pulse to a destination (R340). -/
def deliver (s : State) (dest : Slot) (edge : Option Nat) : State :=
  match fld dest 28 4 with
  | 1 => msix s (fld dest 16 8) (fld dest 0 16)
  | 2 =>
    match edge with
    | some g => { s with trigOut := s.trigOut ++ [g] }
    | none =>
      let (g, s) := freeEdge s
      { s with trigOut := s.trigOut ++ [g] }
  | 3 => if s.reqLines.contains (fld dest 0 16) then s
         else { s with reqLines := s.reqLines ++ [fld dest 0 16] }
  | 4 => flagPulse s (fld dest 0 16)
  | _ => s

/-- The source word of a pulse (R350). -/
def sourceWord (cls kind num : Nat) : Slot := ofN (cls * 2 ^ 28 + kind * 2 ^ 24 + num)

/-- Source, destination and enable of a route in core cycle `cyc`: a write is in force from the next one (R341). -/
def Route.at_ (x : Route) (cyc : Nat) : Slot × Slot × Bool :=
  match x.old with
  | some (t, src, dst, en) => if cyc < t then (src, dst, en) else (x.source, x.dest, x.enable)
  | none => (x.source, x.dest, x.enable)

/-- What identifies a pulse at a destination within one core cycle: routes that feed an MSI-X vector or trigger out are combined
by OR, so a second pulse of the cycle adds none; an accepted event's pulse at trigger out has its own place (R166, R338). -/
def orKey (dest w : Slot) (edge : Option Nat) : Option Nat :=
  match fld dest 28 4, edge with
  | 1, _ => some (2 ^ 40 + dest.toNat)
  | 2, none => some (2 ^ 41 + dest.toNat)
  | 2, some _ => some (2 ^ 42 + w.toNat)
  | _, _ => none

/-- Carries a pulse along one route where it names the source and is enabled (R338). -/
def routePulse (w : Slot) (edge : Option Nat) (cyc : Nat) (s : State) (r : Nat) : State :=
  match kvGet s.routes r with
  | some x =>
    let (src, dst, en) := x.at_ (s.now / 48)
    if en ∧ src = w then
      let s := { s with routes := kvMod (fun y => { y with count := (y.count + 1) % 2 ^ 64 }) s.routes r }
      match orKey dst w edge with
      | some k =>
        if kvGet s.pulsed k = some cyc then s else deliver { s with pulsed := kvPut s.pulsed k cyc } dst edge
      | none => deliver s dst edge
    else s
  | none => s

/-- A pulse of a source in core cycle `cyc`, at most one in each, carried by every enabled route of it (R338). -/
def pulseIn (s : State) (cls kind num : Nat) (edge : Option Nat) (cyc : Nat) : State :=
  let w := sourceWord cls kind num
  if kvGet s.pulsed w.toNat = some cyc then s
  else (s.routes.map Prod.fst).foldl (routePulse w edge cyc) { s with pulsed := kvPut s.pulsed w.toNat cyc }

/-- A pulse of a source now, or of an accepted event in the core cycle of its edge (R338). -/
def pulseAt (s : State) (cls kind num : Nat) (edge : Option Nat) : State :=
  pulseIn s cls kind num edge ((match edge with | some g => g / 480 | none => s.now) / 48)

/-- A pulse of a source other than an accepted event. -/
def pulse (s : State) (cls kind num : Nat) : State := pulseAt s cls kind num none

/-- Routes of a source that ceases to exist are disabled, and SOURCE_GONE sets (R341). -/
def sourceGone (s : State) (cls num : Nat) : State :=
  { s with routes := s.routes.map fun (r, x) =>
      if fld x.source 28 4 = cls ∧ fld x.source 0 24 = num ∧ x.source ≠ 0
      then (r, { x with enable := false, gone := true, old := none }) else (r, x) }

/-- Queues an emergency (R472): at most 16 wait, the oldest is dropped. -/
def emcy (s : State) (code b0 b1 detail : Nat) : State :=
  let q := s.can.queue ++ [{ code, b0, b1, detail : Emcy }]
  { s with can := { s.can with queue := q.drop (q.length - 16) } }

/-- The fault bits of TARNISH; the others are notices (R535). -/
def faultBits : List Nat := [0, 2, 4, 5, 7, 9, 11, 12, 15, 16, 17, 18, 19, 20, 22, 23, 24, 25, 28, 29]

/-- Appends a fault-log entry (R536): the log holds 256 and overwrites the oldest. -/
def logFault (s : State) (b die input emcyCode detail : Nat) : State :=
  let f := s.faults
  let e : LogEntry := { tm := s.cycle, bit := b, fault := faultBits.contains b, die, input
                        state := s.dev.num, emcy := emcyCode, detail := detail % 65536
                        seq := (f.logSeq + 1) % 2 ^ 32 }
  let l := f.log ++ [e]
  { s with faults := { f with
      log := l.drop (l.length - 256)
      flushed := if l.length ≤ 256 then f.flushed else f.flushed - 1
      logSeq := (f.logSeq + 1) % 2 ^ 32 } }

/-- A tarnish bit sets (R534 to R536): its fault event and log entry. The rules give the detail of the entries that
send an emergency and of the lockstep pairs; any other detail is a free value (log 3). -/
def tarnishEntry (s : State) (b die input detail emcyCode : Nat) : State :=
  let s := s.flag 0 O.TARNISH b
  let s := { s with faults := { s.faults with setIn := kvPut s.faults.setIn b s.cycle } }
  let s := if faultBits.contains b then
      { s with faults := { s.faults with openEvents := s.faults.openEvents ++ [(b, s.cycle)] } } else s
  if emcyCode = 0 ∧ b ≠ 16 then
    let (v, s) := s.free
    logFault s b die input 0 v.toNat
  else logFault s b die input emcyCode detail

/-- A tarnish bit sets: its entry, its emergency and the device event (R339, R473, R534 to R536). -/
def tarnish (s : State) (b : Nat) (die input detail : Nat) (emcyCode : Nat := 0) : State :=
  let s := tarnishEntry s b die input detail emcyCode
  let s := if emcyCode = 0 then s else emcy s emcyCode die input (detail % 65536)
  pulse s 7 0 0

/-- Appends a suspect interval (R531): the list holds 64 and drops the oldest. -/
def suspectAt (s : State) (seq cause die input detail ctx fromT toT : Nat) : State :=
  let e := leBytes 8 (tmOf fromT).toNat ++ leBytes 8 (tmOf toT).toNat ++ leBytes 2 (fromT / 2 ^ 55)
    ++ leBytes 2 (toT / 2 ^ 55) ++ leBytes 1 cause ++ leBytes 1 die ++ leBytes 1 input ++ leBytes 1 0
    ++ leBytes 2 detail ++ leBytes 2 ctx ++ leBytes 4 seq
  let l := s.faults.suspects ++ [e]
  { s.countWrap 0 O.SUSPECT_COUNT 32 with
    faults := { s.faults with suspects := l.drop (l.length - 64) } }

/-- A suspect interval of the newest fault-log entry. -/
def suspect (s : State) (cause die input detail ctx fromT toT : Nat) : State :=
  suspectAt s s.faults.logSeq cause die input detail ctx fromT toT

/-- Enters a device state (R31, R427): the entry's instant and the device event. -/
def enterDev (s : State) (d : DevSt) : State :=
  if s.dev = d then s
  else
    let s := { s with dev := d }
    let s := (s.put O.DEVICE_STATE_TM s.cycleTm).put O.DEVICE_STATE_WRAP s.cycleWrap
    pulse s 7 1 0

/-- Whether at least one context is Armed. -/
def State.anyArmed (s : State) : Bool := s.ctxs.any fun c => c.2.st == .armed

/-- The owner code R437 makes steward. -/
def State.stewardDue (s : State) : Nat :=
  let n := s.num O.STEWARD_NAMED
  if n < 16 ∧ (s.ld n).st = .enabled then n else 16

/-- The steward in force follows the naming and the LD's state (R437). -/
def settleSteward (s : State) : State :=
  if s.steward = s.stewardDue then s
  else pulse ((s.put O.STEWARD_ACTIVE (ofN s.stewardDue)).putTm 0 O.STEWARD_TM s.cycle) 7 1 0

/-- The module is in Armed exactly while at least one context is Armed (R31). -/
def settleDev (s : State) : State :=
  if s.dev = .ready ∨ s.dev = .armed then enterDev s (if s.anyArmed then .armed else .ready) else s

/-- What holds again at the end of every command. -/
def settle (s : State) : State := settleDev (settleSteward s)

/-- The outcome of a command that ends in state `s`. -/
def done (s : State) : Host.Outcome State Fault Refusal := .next (settle s)

/-- The result of an access: the state after it, and the code it aborts with. -/
abbrev Acc := State × Option Abort

/-- An access that succeeds. -/
def Acc.ok (s : State) : Acc := (s, none)

/-- An access that aborts and changes nothing else. -/
def Acc.fail (s : State) (a : Abort) : Acc := (s, some a)

/-- Records a code in the path's own copy of 2003 (R416, R421); op 1 read, 2 write. -/
def recordCode (s : State) (p k op code : Nat) : State :=
  let s := s.setObj p O.PATH_LAST_ABORT (ofN (k * 2 ^ 40 + op * 2 ^ 32 + code))
  (s.countSat p O.PATH_ABORTS 32).flag p O.PATH_STATUS 0

/-- Records an aborted access (R416). -/
def recordAbort (s : State) (p k op : Nat) (a : Abort) : State := recordCode s p k op a.code.toNat

/-- Ends an access: an abort is recorded (R416). -/
def finish (p k op : Nat) (r : Acc) : State :=
  match r.2 with
  | none => r.1
  | some a => recordAbort r.1 p k op a

/-- A write access of path `p` to object `k`: paths that serve nothing have no effect (R434), accesses that meet
a hub controller restart are recorded once it ends (R424), each takes its turn at the server (R411), an object the variant lacks
aborts (R3). -/
def access (s : State) (p k : Nat) (f : State → Acc) : State :=
  if s.serves p then
    if s.hubRestart then { s with missed := s.missed ++ [(p, k, 2)] }
    else
      let s := takeTurn s
      match s.missing (k / 256) (k % 256) with
      | some a => recordAbort s p k 2 a
      | none => finish p k 2 (f s)
  else s

/-- Passes an access on where a condition holds, else aborts with a code. -/
def need (c : Bool) (a : Abort) (s : State) (f : State → Acc) : Acc := if c then f s else (s, some a)

/-- A write of a command object that a party other than the steward may not make. -/
def stewardOnly (s : State) (p : Nat) (f : State → Acc) : Acc :=
  need (ownerOf p == s.steward) .noPermission s f

/-- A write that only the owner of context `c` may make (R14). -/
def ctxOwnerOnly (s : State) (p c : Nat) (f : State → Acc) : Acc :=
  need (ownerOf p == s.ctxOwner c) .noPermission s f

/-- A write that only the claimant of input `n` may make (R14). -/
def claimantOnly (s : State) (p n : Nat) (f : State → Acc) : Acc :=
  need (ownerOf p == s.claimant n) .noPermission s f

end Sys2Proof.Machine
end

