-- ==== Sys2Proof/Machine/Alloy.lean ====
section
/-!
DEFINITION. Inputs, front ranks and alloys (chapter 3): what a context is on, the front-end settings, the slices
and lineups of a die, alloy commits, and the selection of a regroup.
-/
namespace Sys2Proof.Machine

/-! ## What a context is on (R176) -/

/-- An object of context `c` as a number. -/
def State.cN (s : State) (c k : Nat) : Nat := (s.obj c k).toNat

/-- An object of context `c` as an integer. -/
def State.cI (s : State) (c k : Nat) : Int := (s.obj c k).toInt

/-- The requirement of input `k` in PAT_STATE: 0 X, 1 Low, 2 High (R175). -/
def State.patReq (s : State) (c k : Nat) : Nat := fld (s.obj c O.PAT_STATE) (2 * k) 2

/-- Inputs with a requirement other than X. -/
def State.patInputs (s : State) (c : Nat) : List Nat := (List.range 8).filter fun k => s.patReq c k ≠ 0

/-- The sources a context's trigger watches, 8 for trigger in (R135, R140). -/
def State.sources (s : State) (c : Nat) : List Nat :=
  match s.cN c O.TRIG_TYPE with
  | 7 => s.patInputs c
  | 8 => uniq (s.cN c O.TRIG_SOURCE :: s.patInputs c)
  | 9 => uniq [s.cN c O.TRIG_SOURCE, s.cN c O.SEQ_B_SOURCE]
  | _ => [s.cN c O.TRIG_SOURCE]

/-- The inputs a context's trigger watches. -/
def State.watched (s : State) (c : Nat) : List Nat := (s.sources c).filter (· < 8)

/-- Whether context `c` is on input `n` (R176). -/
def State.ctxOn (s : State) (c n : Nat) : Bool :=
  s.cN c O.CTX_INPUT == n || (s.watched c).contains n

/-- Whether a context is Armed or Held. An accepted arm whose Armed state is still to come counts too: its evaluators and
pools are taken, so that settings and commits wait for it (DEDUCED, log 58). -/
def Ctx.bound (x : Ctx) : Bool := x.st == .armed || x.st == .held || x.arming

/-- Whether any context on input `n` is Armed or Held (R63, R92). -/
def State.busyInput (s : State) (n : Nat) : Bool := s.ctxs.any fun (c, x) => x.bound && s.ctxOn c n

/-! ## Slices and lineups (R69, R116, R117) -/

/-- Positions of a lineup (R69). -/
def Lineup.k : Lineup → Nat
  | .full => 64 | .narrowed => 60 | .half => 32 | .none => 0

/-- Number of a lineup in 2B00 (R94). -/
def Lineup.num : Lineup → Nat
  | .full => 0 | .narrowed => 1 | .half => 2 | .none => 3

/-- Number of a die state (R91). -/
def DieSt.num : DieSt → Nat
  | .off => 0 | .retention => 1 | .active => 2 | .reserve => 3 | .retired => 4 | .lost => 5

/-- Number of an input state (R88). -/
def InputSt.num : InputSt → Nat
  | .single => 0 | .alloyed => 1 | .absorbed => 2 | .regrouping => 3 | .dark => 4 | .changing => 5

/-- Failed slices f of a die (R117). -/
def Die.f (d : Die) : Nat := d.failed.length

/-- The stage of a die with `f` failed slices (R117). -/
def stageOf (f : Nat) : Nat :=
  if f ≤ 3 then 0 else if f = 4 then 1 else if f ≤ 7 then 2 else if f = 8 then 3
  else if f ≤ 35 then 4 else if f = 36 then 5 else 6

/-- The lineup of a die with `f` failed slices (R117). -/
def lineupOf (f : Nat) : Lineup :=
  if f ≤ 4 then .full else if f ≤ 8 then .narrowed else if f ≤ 36 then .half else .none

/-- Good slices of a die, ascending. -/
def Die.good (d : Die) : List Nat := (List.range 68).filter fun s => (kvGet d.failed s).isNone

/-- Spares available: good slices outside the positions, ascending; a die without a lineup has none (R117, R130). -/
def Die.spares (d : Die) : List Nat :=
  if d.lineup = .none then [] else d.good.filter fun s => !d.positions.contains s

/-- Deals the positions afresh from the good slices in ascending number (R116, R119). -/
def Die.deal (d : Die) (l : Lineup) : Die :=
  { d with lineup := l, positions := d.good.take l.k, substituted := [], subs := 0 }

/-- The slice address of R129. -/
def sliceAddr (d sl : Nat) : Nat := d * 256 + sl

/-- The stage in force of a die (R117): of its lineup, with no spare or with some. -/
def Die.stage (x : Die) : Nat :=
  match x.lineup with
  | .full => if 4 ≤ x.f then 1 else 0
  | .narrowed => if 8 ≤ x.f then 3 else 2
  | .half => if 36 ≤ x.f then 5 else 4
  | .none => 6

/-- Announces a change of the stage in force of die `d` from `old` (R117, R535). -/
def stageChanged (s : State) (d old : Nat) : State :=
  if (s.die d).stage = old then s else tarnish s 1 d (s.inputByte d) (s.die d).stage 0xFF11

/-- The narrower of two lineups: a die never moves to a wider lineup while it runs (R117, R122). -/
def Lineup.narrower (a b : Lineup) : Lineup := if a.k ≤ b.k then a else b

/-- The lineup of die `d` becomes the one its failed slices allow, never a wider one: its positions are dealt afresh,
position counting restarts, and a pass on it is due (R69, R117, R119, R122, R123). -/
def changeLineup (s : State) (d : Nat) : State :=
  let x := s.die d
  let old := x.stage
  -- the skew of its alloy is measured again where the pass measures it (R103, R124)
  let s := match s.inputOfDie d with
    | some n => if x.measuring ∧ s.cal.skew ∧ 2 ≤ (s.input n).members.length then
        { s with cal := { s.cal with alloys := sortN (uniq (n :: s.cal.alloys)) } } else s
    | none => s
  let x := { x.deal (x.lineup.narrower (lineupOf x.f)) with
    lineupFrom := s.cycle, lineupPending := false, wearNow := false, autoPass := true, auditPos := 0, auditCause := none
    pending := if x.measuring then [] else x.pending, bankPending := if x.measuring then none else x.bankPending }
  let x := if x.measuring then { x with calQueue := x.spares ++ x.positions } else x
  stageChanged (s.setDie d x) d old

/-- The suspect intervals of the failed slices that waited for the lineup change of die `d`, up to base period `t` (R531). -/
def lateSuspects (s : State) (d input t : Nat) (late lastPass : List (Nat × Nat)) : State :=
  late.foldl (fun s p => suspectAt s p.2 1 d input (sliceAddr d p.1) 0xFFFF
    ((kvGet lastPass p.1).getD s.power.startFrom) t) s

/-- A die that produces no sheets, because it is Reserve or serves nothing, changes a pending lineup at once (R118). -/
def lineupAtOnce (s : State) (d : Nat) : State :=
  let x := s.die d
  if x.lineupPending then
    lateSuspects (changeLineup (s.setDie d { x with late := [] }) d) d (s.inputByte d) (s.cycle + 48) x.late x.lastPass
  else s

/-- The trims of a slice in force. -/
def Die.trim (d : Die) (sl : Nat) : Trim := (kvGet d.trims sl).getD {}

/-- Whether a die may be a member of an alloy (R70, R77). -/
def Die.mayJoin (d : Die) : Bool := (d.st == .active || d.st == .reserve) && d.lineup != .half

/-! ## Front-end settings (R60 to R66) -/

/-- The DAC step nearest a request in µV, halves away from zero, limited to the DAC's range (R62). -/
def offsetStep (uv : Int) : Int := clampI (-32768) 32767 (roundAway (uv * 32768) 1000000)

/-- The value of a DAC step in µV, halves away from zero (R62). -/
def stepUv (k : Int) : Int := roundAway (k * 1000000) 32768

/-- FE_CODE_UV_n as binary32: 125/3 µV times a power of two (R61, R95). -/
def codeUv (range : Nat) : Slot := ofN (0x4226AAAB + range * 2 ^ 23)

/-- The band limit in MHz for `m` serving dies, or in Half rate (R65). -/
def bandLimit (half : Bool) (m : Nat) : Nat :=
  if half then 9000
  else match m with
    | 1 => 18000 | 2 => 36000 | 3 => 50000 | 4 => 70000 | 5 => 85000 | 6 => 100000 | _ => 110000

/-- The selectable filter in MHz, none for Full (R66). -/
def filterMhz : Nat → Option Nat
  | 1 => some 8000 | 2 => some 16000 | 3 => some 33000 | 4 => some 65000 | _ => none

/-- Whether input `n` is served in Half rate (R70). -/
def State.halfRate (s : State) (n : Nat) : Bool :=
  match (s.input n).members with
  | [d] => (s.die d).lineup == .half
  | _ => false

/-- The sample period of input `n` in grains (R33); 480 where no die serves it. -/
def State.period (s : State) (n : Nat) : Nat :=
  if s.halfRate n then 960
  else match (s.input n).members.length with
    | 0 => 480
    | m => 480 / m

/-- Samples of one line of input `n` (R184). -/
def State.lineLen (s : State) (n : Nat) : Nat := 48 * (s.input n).members.length

/-- FE_PERIOD_n (R66, R95): 0 while the input is Absorbed or Dark, and from then on until a sheet is written again. -/
def State.fePeriod (s : State) (n : Nat) : Nat :=
  let x := s.input n
  if x.st = .absorbed ∨ x.st = .dark ∨ x.served = false then 0 else s.period n

/-- FE_BW_n (R65, R66). -/
def State.feBw (s : State) (n : Nat) : Nat :=
  let x := s.input n
  if x.st = .absorbed ∨ x.st = .dark ∨ x.served = false then 0
  else
    let b := bandLimit (s.halfRate n) x.members.length
    match filterMhz x.filterNow with
    | some f => min f b
    | none => b

/-- A checked write of FE_RANGE_n, FE_OFFSET_n or FE_FILTER_n (R63): it settles within 50 µs. -/
def feSetting (s : State) (n sub : Nat) (v : Slot) : Acc :=
  let x := s.input n
  need (!(s.busyInput n) && x.st != .absorbed && x.st != .regrouping) .presentState s fun s =>
    let s := s.put (inObj (O.FE_RANGE_n - 1 + sub) n) v
    .ok (s.setInput n { s.input n with settling := some (s.now + 2000000) })

/-- Range of a front-end setting (R61, R62, R66). -/
def feRangeOk (sub : Nat) (v : Slot) : Bool :=
  match sub with
  | 1 => v.toNat ≤ 5
  | 2 => ObjTy.i32.fits v && -1000000 ≤ v.toInt && v.toInt ≤ 1000000
  | _ => v.toNat ≤ 4

/-- A write of a front-end setting of input `n`, checked in the order of R420. -/
def feWrite (s : State) (p n sub : Nat) (v : Slot) : Acc :=
  claimantOnly s p n fun s => need (feRangeOk sub v) .range s fun s => feSetting s n sub v

/-- FE_SETTING_WRITE (R63): subindex 1 range, 2 offset, 3 filter. -/
def execFeSettingWrite (p n sub : Nat) (v : Slot) (s : State) : Host.Outcome State Fault Refusal :=
  done (if n < 8 ∧ 1 ≤ sub ∧ sub ≤ 3 then
    access s p (inObj (O.FE_RANGE_n - 1 + sub) n) fun s => feWrite s p n sub v else s)

/-- FE_SETTLED (R63): the new values take effect and SETTLING clears. -/
def execFeSettled (n : Nat) (s : State) : Host.Outcome State Fault Refusal :=
  let x := s.input n
  done (if s.fitted n ∧ x.settling.isSome then
    s.setInput n { x with
      settling := none
      rangeNow := s.num (inObj O.FE_RANGE_n n)
      stepNow := offsetStep (s.get (inObj O.FE_OFFSET_n n)).toInt
      filterNow := s.num (inObj O.FE_FILTER_n n) }
  else s)

/-- INPUT_OVERLOAD (R64): OVERLOAD sets in Watch, Ready and Armed, on every fitted input. -/
def execInputOverload (n : Nat) (s : State) : Host.Outcome State Fault Refusal :=
  done (if s.fitted n ∧ (s.dev = .watch ∨ s.dev = .ready ∨ s.dev = .armed) then
    tarnish (s.flag 0 (inObj O.FE_STATUS_n n) 1) 26 0xFF n 0 0xFF52 else s)

/-! ## Alloys (R77 to R92) -/

/-- Whether a size is in ALLOY_SIZES. -/
def State.sizeAllowed (s : State) (m : Nat) : Bool := decide (1 ≤ m) && bit (s.get O.ALLOY_SIZES) (m - 1)

/-- Whether the link between die `a` and die `a + 1` is up. -/
def State.linkUp (s : State) (a : Nat) : Bool := !s.faults.downLinks.contains (a % s.D)

/-- The members f, f + 1, … of a commanded alloy, in their defining sequence (R77). -/
def State.span (s : State) (f m : Nat) : List Nat := (List.range m).map fun i => (f + i) % s.D

/-- Inputs a commit on `n` absorbs: the native inputs of the other members (R79). -/
def absorbs (n : Nat) (ms : List Nat) : List Nat := ms.filter (· ≠ n)

/-- Inputs a commit on `n` releases: those held absorbed by `n` or by an input it absorbs, whose die does not
join (R79). -/
def State.releases (s : State) (n : Nat) (ms : List Nat) : List Nat :=
  (List.range s.D).filter fun k => !ms.contains k && k != n &&
    (match (s.input k).host with
     | some h => h == n || (absorbs n ms).contains h
     | none => false)

/-- Reasons a commit is refused, in the order of ALLOY_ERR_n (R92). -/
def State.alloyErrs (s : State) (p n f m : Nat) : List (Bool × Abort) :=
  let ms := s.span f m
  let touched := absorbs n ms ++ s.releases n ms
  [ (!s.sizeAllowed m, .range),
    (decide (s.D ≤ f), .range),
    (!ms.contains n, .range),
    (ms.any fun d => !(s.die d).mayJoin, .presentState),
    ((List.range (m - 1)).any fun i => !s.linkUp (f + i), .presentState),
    ((List.range s.D).any fun k => k != n && !ms.contains k && decide (2 ≤ (s.input k).members.length) &&
        (s.input k).members.any fun d => ms.contains d, .presentState),
    ((n :: touched).any s.busyInput, .presentState),
    (match (s.input n).st with | .absorbed | .regrouping | .dark | .changing => true | _ => false, .presentState),
    (touched.any fun k => s.claimant k != 0xFF && s.claimant k != ownerOf p, .noPermission) ]

/-- The first reason that applies, numbered from 1. -/
def firstErr : Nat → List (Bool × Abort) → Option (Nat × Abort)
  | _, [] => none
  | i, (true, a) :: _ => some (i, a)
  | i, (false, _) :: r => firstErr (i + 1) r

/-- A die that joins or leaves an alloy measures again after the commit (R124). -/
def restartPass (s : State) (d : Nat) : State :=
  let x := s.die d
  if x.measuring then
    s.setDie d { x with calQueue := x.spares ++ x.positions, pending := [], bankPending := none }
  else s

/-- The member set of input `n` leaves force: of the stored sets it is now the latest in force (R101). -/
def touchSkew (s : State) (n : Nat) : State :=
  let ms := (s.input n).members
  match s.skewSets.find? fun q => q.1 == ms with
  | some q => { s with skewSets := q :: s.skewSets.filter fun r => r.1 != ms }
  | none => s

/-- The stored sets cut to 64: the set that is not in force and was least recently in force is dropped (R101). -/
def State.trimSkew (s : State) (l : List (List Nat × List Nat)) : List (List Nat × List Nat) :=
  if l.length ≤ 64 then l
  else
    let inForce (q : List Nat × List Nat) : Bool := s.inputs.any fun x => x.members == q.1
    match l.reverse.find? fun q => !inForce q with
    | some q => l.filter fun r => r.1 != q.1
    | none => l.take 64

/-- The alloy of input `n` is reshaped while its die-to-die skew is measured or pending: the skew is abandoned, and
SKEW_ABORTED sets where a pass had it still to measure (R124). -/
def abandonSkew (s : State) (n : Nat) : State :=
  let s := touchSkew s n
  let ms := (s.input n).members
  let hit := s.cal.st == .measuring && (s.cal.alloys.contains n || ms.any fun d => (s.die d).bankPending.isSome)
  let s := if hit then s.flag 0 O.CAL_STATUS 3 else s
  let s := { s with cal := { s.cal with alloys := s.cal.alloys.filter (· ≠ n) } }
  ms.foldl (fun s d => s.setDie d { s.die d with bankPending := none }) s

/-- An input becomes Absorbed into `n`; an alloy that stood on it, in force or being applied, is dissolved (R79, R83). -/
def absorbInput (n : Nat) (s : State) (k : Nat) : State :=
  let s := abandonSkew s k
  s.setInput k { s.input k with
    st := .absorbed, host := some n, members := [], next := none, gapReserve := [], voidDies := [], ring := .idle
    served := false, regrouped := false }

/-- An input returns to its native die: Single, or Dark when the die is Lost or Retired (R79, R89). It applies its retained
front-end settings; its bandwidth and period come into force with its first sheet (R66, R83). The staged ALLOY_FIRST and
ALLOY_SIZE of an input that another input's commit releases keep what was written (DESIGN CHOICE, log 59). -/
def releaseInput (s : State) (k : Nat) : State :=
  let d := s.die k
  if d.st = .lost ∨ d.st = .retired ∨ d.st = .off then
    s.setInput k { s.input k with st := .dark, host := none, members := [], served := false }
  else
    let s := s.setDie k { d with st := .active }
    restartPass (s.setInput k { s.input k with
      st := .single, host := none, members := [k], next := none, regrouped := false, voidDies := []
      rangeNow := s.num (inObj O.FE_RANGE_n k)
      stepNow := offsetStep (s.get (inObj O.FE_OFFSET_n k)).toInt
      filterNow := s.num (inObj O.FE_FILTER_n k) }) k

/-- Applies a commit that passed every check (R79): the new members belong to the input at once, and those that join or leave
measure again (R124). A commit of size 1 with f = n on a Single input is applied like any other, through Changing (DESIGN
CHOICE, log 88). A die that serves a regrouped alloy of size 1 on another input may be taken, and that input keeps its state
and its member set (DESIGN CHOICE, log 87). -/
def alloyApply (s : State) (n : Nat) (ms : List Nat) : State :=
  let rel := s.releases n ms
  let old := (s.input n).members
  let s := abandonSkew s n
  let s := (absorbs n ms).foldl (absorbInput n) s
  let s := rel.foldl releaseInput s
  let s := ms.foldl (fun s d => s.setDie d { s.die d with st := .active }) s
  let s := (ms.filter (!old.contains ·) ++ old.filter (!ms.contains ·)).foldl restartPass s
  let s := s.put (inObj O.ALLOY_ERR_n n) 0
  s.setInput n { s.input n with
    st := .changing, members := sortN ms, next := some (sortN ms, false), regrouped := false, ring := .idle
    voidDies := [] }

/-- A write of ALLOY_COMMIT_n after the ownership check: 1 applies, other values have no effect (R79). -/
def alloyCommit (s : State) (p n : Nat) (v : Slot) : Acc :=
  if v = 1 then
    let f := s.num (inObj O.ALLOY_FIRST_n n)
    let m := s.num (inObj O.ALLOY_SIZE_n n)
    match firstErr 1 (s.alloyErrs p n f m) with
    | some (e, a) => (s.put (inObj O.ALLOY_ERR_n n) (ofN e), some a)
    | none => .ok (alloyApply s n (s.span f m))
  else .ok s

/-- A write of ALLOY_COMMIT_n, checked in the order of R420. -/
def alloyCommitWrite (s : State) (p n : Nat) (v : Slot) : Acc :=
  claimantOnly s p n fun s => need (ObjTy.u8.fits v) .range s fun s => alloyCommit s p n v

/-- ALLOY_COMMIT (R79, R92). -/
def execAlloyCommit (p n : Nat) (v : Slot) (s : State) : Host.Outcome State Fault Refusal :=
  done (if n < 8 then access s p (inObj O.ALLOY_COMMIT_n n) fun s => alloyCommitWrite s p n v else s)

/-- The stored die-to-die trims of a member set (R81). -/
def State.skewOf (s : State) (ms : List Nat) : Option (List Nat) :=
  (s.skewSets.find? fun x => x.1 == ms).map Prod.snd

/-- The member set comes into force: its stored trims load, and it becomes the latest in force (R79, R101). -/
def loadSkew (s : State) (ms : List Nat) : State :=
  match s.skewOf ms with
  | some ts =>
    let s := { s with skewSets := (ms, ts) :: s.skewSets.filter fun x => x.1 != ms }
    (ms.zip ts).foldl (fun s dt => s.setDie dt.1 { s.die dt.1 with bankSkew := dt.2 }) s
  | none => ms.foldl (fun s d => s.setDie d { s.die d with bankSkew := 512 }) s

/-- SKEW_VALID of input `n` (R81, R97). -/
def State.skewValid (s : State) (n : Nat) : Bool :=
  let x := s.input n
  match x.st with
  | .single => true
  | .absorbed | .dark => false
  | _ => (s.skewOf x.members).isSome

/-- A stream starts with the member set a commit or a gap leads to (R79, R86). -/
def streamStart (s : State) (n : Nat) (ms : List Nat) (regrouped : Bool) : State :=
  let s := loadSkew s ms
  let x := s.input n
  s.setInput n { x with
    st := if ms = [n] ∧ regrouped = false then .single else .alloyed
    members := ms, regrouped := regrouped, next := none, served := true, voidDies := []
    discNext := regrouped && s.busyInput n
    discAt := if regrouped then s.cycle * 480 :: x.discAt else x.discAt }

/-- The first sheet of the committed alloy of input `n` (R79); an Alloy commit boundary (R108). -/
def alloyStart (s : State) (n : Nat) : State :=
  let x := s.input n
  match x.st, x.next with
  | .changing, some (ms, _) =>
    let s := streamStart s n ms false
    if s.cal.st = .pending then { s with cal := { s.cal with boundary := some s.cycle } } else s
  | _, _ => s

/-! ## Selecting a regrouped alloy (R84) -/

/-- Dies between `a` and `b` in ascending ring order, `fuel` steps at most: whether every link on the way is up
and no die on the way breaks the ring. -/
def State.joined (s : State) (b : Nat) : Nat → Nat → Bool
  | 0, _ => false
  | fuel + 1, a =>
    let c := (a + 1) % s.D
    s.linkUp a && (c == b || ((s.die c).st != .lost && (s.die c).st != .off && s.joined b fuel c))

/-- Splits a chain of dies into maximal runs joined by live links. -/
def State.runs (s : State) : List Nat → List (List Nat)
  | [] => []
  | [a] => [[a]]
  | a :: b :: r =>
    match s.runs (b :: r) with
    | [] => [[a]]
    | g :: gs => if s.joined b s.D a then (a :: g) :: gs else [a] :: g :: gs

/-- Every run of `m` consecutive dies inside one list. -/
def windowsOf (m : Nat) (l : List Nat) : List (List Nat) :=
  if m ≤ l.length then (List.range (l.length - m + 1)).map fun i => (l.drop i).take m else []

/-- The largest allowed size not above `m`. -/
def State.largestSize (s : State) : Nat → Nat
  | 0 => 0
  | m + 1 => if s.sizeAllowed (m + 1) then m + 1 else s.largestSize m

/-- Runs listed from the chain's start whose last run is joined to the first one through the removed die: a die removed
for wear-out keeps its links, so the two are one run, listed first (R84; DEDUCED, log 34). -/
def State.closeRuns (s : State) (rs : List (List Nat)) : List (List Nat) :=
  match rs, rs.getLast? with
  | g :: h :: r, some l =>
    match l.getLast?, g.head? with
    | some a, some b => if s.joined b s.D a then (l ++ g) :: (h :: r).dropLast else rs
    | _, _ => rs
  | _, _ => rs

/-- The member window R84 chooses for input `n` when die `d` is removed, none when no member is eligible. -/
def State.regroupWindow (s : State) (n d : Nat) : Option (List Nat) :=
  let ms := (s.input n).members
  let chain := (List.range s.D).map fun i => (d + 1 + i) % s.D
  let el := chain.filter fun k => ms.contains k && k != d && (s.die k).st == .active && (s.die k).lineup != .half
  let rs := s.closeRuns (s.runs el)
  let m := s.largestSize ((rs.map List.length).foldl max 0)
  let ws := rs.flatMap (windowsOf m)
  let own := ws.filter (·.contains n)
  if el.isEmpty then none else (if own.isEmpty then ws else own).head?

end Sys2Proof.Machine
end

