-- ==== Sys2Proof/Machine/Interp.lean ====
section
/-!
DEFINITION. Locating a crossing (R151 to R155): the coefficients sinc · kaiser of R152 in fixed point, the
bisection, the residual correction, and the fallback.
The table's number format is not stated; the model holds each coefficient to 40 fractional bits (log 5).
-/
namespace Sys2Proof.Machine

/-- The fixed-point unit, 2^64. -/
def fxOne : Int := 18446744073709551616

/-- π in the fixed-point unit. -/
def fxPi : Int := 57952155664616982739

/-- The product of two fixed-point numbers. -/
def fxMul (a b : Int) : Int := a * b / fxOne

/-- The alternating series of sin from the term `t` of order `2 k + 1`, `n` terms. -/
def sinSeries (x2 : Int) : Nat → Nat → Int → Int
  | 0, _, _ => 0
  | n + 1, k, t => t + sinSeries x2 n (k + 1) (-(fxMul t x2) / (((2 * k + 2) * (2 * k + 3) : Nat) : Int))

/-- sin(π · ph / 65,536) for a phase from 0 to 65,536. -/
def sinPhase (ph : Nat) : Int :=
  let x := fxPi * (ph : Int) / 65536
  sinSeries (fxMul x x) 24 0 x

/-- The series of the modified Bessel function I0 at x with x² / 4 given, `n` terms from term `t` of order `k`. -/
def i0Series (q : Int) : Nat → Nat → Int → Int
  | 0, _, _ => 0
  | n + 1, k, t => t + i0Series q n (k + 1) (fxMul t q / (((k + 1) * (k + 1) : Nat) : Int))

/-- I0 where x² / 4 = `q`. -/
def i0 (q : Int) : Int := i0Series q 40 0 fxOne

/-- s(v) of R152 at v = (ph + 65,536 · (7 − i)) / 65,536, in units of 2^−40. -/
def coef (i ph : Nat) : Int :=
  let v : Int := (ph : Int) + 65536 * (7 - (i : Int))          -- v in units of 1/65,536
  if v = 0 then 2 ^ 40
  else
    let sign : Int := if i % 2 = 1 then 1 else -1               -- sin(π(u + 7 − i))
    let sinc := sign * sinPhase ph * fxOne * 65536 / (fxPi * v)
    let r2 : Int := 4 * v * v * fxOne / (289 * 65536 * 65536)   -- (v / 8.5)²
    let w := i0 (9 * (fxOne - r2)) * fxOne / i0 (9 * fxOne)     -- kaiser with beta 6: x² / 4 = 9 (1 − r²)
    (fxMul sinc w + 8388608) / 16777216

/-- y(ph / 65,536) over sixteen taps, in units of 2^−40 codes (R152). -/
def interpY (taps : List Int) (ph : Nat) : Int :=
  ((List.range 16).zip taps).foldl (fun a ix => a + ix.2 * coef ix.1 ph) 0

/-- Whether the reconstruction at `ph` has reached the level `v` (R152). -/
def reached (taps : List Int) (rising : Bool) (v : Int) (ph : Nat) : Bool :=
  let y := interpY taps ph
  if rising then decide (v * 2 ^ 40 ≤ y) else decide (y ≤ v * 2 ^ 40)

/-- Sixteen steps of bisection on the phase (R152); the result is `lo`. -/
def bisect (taps : List Int) (rising : Bool) (v : Int) : Nat → Nat → Nat → Nat
  | 0, lo, _ => lo
  | n + 1, lo, hi =>
    let mid := (lo + hi) / 2
    if reached taps rising v mid then bisect taps rising v n lo mid else bisect taps rising v n mid hi

/-- Rounds a fraction of grains to the nearest grain, halves to the earlier one (R46). -/
def roundEarlier (num : Nat) (den : Nat) : Nat := (2 * num + den - 1) / (2 * den)

/-- The code of input `n` at an instant, from its tap buffer (R156). -/
def State.tap (s : State) (n t : Nat) : Option Int := ((s.input n).taps.find? fun x => x.1 == t).map Prod.snd

/-- The die that holds a sample of input `n`: its position in the deal order by the sample's index in its line. -/
def State.tapDie (s : State) (n t : Nat) : Nat :=
  let ms := (s.input n).members
  ms.getD (t % 23040 / s.period n / 48 % max ms.length 1) 0

/-- The code at an instant where the evaluator's die `ed` has it and it is not void. Once a fetch has missed its deadline the
die has its own samples and none of another die (R27, R156; which taps came in time is not stated, log 65). -/
def State.tapValid (s : State) (ed : Nat) (late : Bool) (n t : Nat) : Option Int :=
  if late && s.tapDie n t != ed then none
  else match s.tap n t with
    | some x => if x = voidCode then none else some x
    | none => none

/-- Whether the interval ending at `k` crosses the level (R151). -/
def State.crosses (s : State) (ed : Nat) (late : Bool) (n p : Nat) (rising : Bool) (v : Int) (k : Nat) : Bool :=
  match s.tapValid ed late n (k - p), s.tapValid ed late n k with
  | some a, some b => if rising then decide (a < v ∧ v ≤ b) else decide (a > v ∧ v ≥ b)
  | _, _ => false

/-- Whether samples from `a` to `b` lie on both sides of a gap (R150, R154). -/
def Input.gapBetween (x : Input) (a b : Nat) : Bool := x.tapGaps.any fun g => decide (a < g ∧ g ≤ b)

/-- The crossing of a detection on die `ed`: instant in grains and whether it fell back (R151 to R155). -/
def State.locate (s : State) (ed : Nat) (late : Bool) (d : Detection) : Nat × Bool :=
  if 8 ≤ d.src then (d.fire, false)
  else
    let n := d.src
    let p := s.period n
    let ks := (List.range 8).map fun j => d.fire - j * p
    let found := ks.find? (s.crosses ed late n p d.rising d.level)
    let k := found.getD d.fire
    let insts := (List.range 16).map fun i => k + i * p - 8 * p
    let good (t : Nat) : Bool :=
      match s.tapValid ed late n t with
      | some x => x != 511 && x != -511
      | none => false
    if found.isSome && insts.all good && !((s.input n).gapBetween (k - 8 * p) (k + 7 * p)) then
      let taps := insts.map fun t => (s.tap n t).getD 0
      let u := bisect taps d.rising d.level 16 0 65536
      let m := if s.halfRate n then 0 else (s.input n).members.length
      let r := (Config.resid m (32 * u / 65536)).toInt
      -- in units of 1 / 262,144 grain, from the start of the interval
      let num : Int := (4 * u * p : Nat) + r * 65536
      let num := clampI 0 ((262144 * p : Nat) : Int) num
      (k - p + roundEarlier num.toNat 262144, false)
    else
      match s.tapValid ed late n (k - p), s.tapValid ed late n k with
      | some a, some b =>
        if a = b then (k - p + roundEarlier p 2, true)
        else
          let q : Int := if a < b then d.level - a else a - d.level
          let w : Nat := (b - a).natAbs
          (k - p + roundEarlier ((clampI 0 (w : Int) q).toNat * p) w, true)
      | _, _ => (k - p + roundEarlier p 2, true)

end Sys2Proof.Machine
end

