-- ==== Sys2Proof/Machine/Bind.lean ====
section
/-!
DEFINITION. Binding evaluators and routing comparator streams (R134 to R137, R158 to R161), the latency of
R165 and the refusals of an arm by R170.
-/
namespace Sys2Proof.Machine

/-! ## Routing (R158, R159) -/

/-- The link directions a stream crosses: link i joins die i and die i + 1, true is downward. -/
def streamLinks (D : Nat) (st : Stream) : List (Nat × Bool) :=
  if st.down then
    (List.range ((st.src + D - st.dst) % D)).map fun j => ((st.src + D - 1 - j) % D, true)
  else
    (List.range ((st.dst + D - st.src) % D)).map fun j => ((st.src + j) % D, false)

/-- Streams that bound contexts hold on the ring. -/
def State.ringStreams (s : State) : List Stream := s.ctxs.flatMap fun c => if c.2.bound then c.2.streams else []

/-- Link directions in use, one entry per stream and link. -/
def State.ringLoad (s : State) : List (Nat × Bool) := s.ringStreams.flatMap (streamLinks s.D)

/-- Lanes of a link direction that have failed beyond its spare (R523). -/
def State.lanesLost (s : State) (i : Nat) (down : Bool) : Nat :=
  ((kvGet s.faults.linkFail (2 * i + b2n down)).getD 0) - 1

/-- How many streams a link direction carries: four, fewer when it is degraded, none when the link
is down or ends at a Lost die (R84, R523). -/
def State.dirCap (s : State) (i : Nat) (down : Bool) : Nat :=
  let lost (d : Nat) : Bool := (s.die (d % s.D)).st == .lost
  if s.linkUp i && !lost i && !lost (i + 1) then 4 - s.lanesLost i down else 0

/-- Whether a load stays within every link direction's limit (R159). -/
def State.loadOk (s : State) (load : List (Nat × Bool)) : Bool :=
  (List.range s.D).all fun i => load.count (i, true) ≤ s.dirCap i true && load.count (i, false) ≤ s.dirCap i false

/-- The direction that crosses fewer links, downward when both cross the same number (R159). -/
def prefersDown (D a b : Nat) : Bool := decide ((a + D - b) % D ≤ (b + D - a) % D)

/-- The first valid routing of streams, in the order of R159. -/
def State.route (s : State) : List (Nat × Nat) → List (Nat × Bool) → Option (List Stream)
  | [], load => if s.loadOk load then some [] else none
  | (a, b) :: r, load =>
    if s.loadOk load then
      let st : Stream := { src := a, dst := b, down := prefersDown s.D a b }
      match s.route r (streamLinks s.D st ++ load) with
      | some x => some (st :: x)
      | none =>
        let st : Stream := { st with down := !st.down }
        match s.route r (streamLinks s.D st ++ load) with
        | some x => some (st :: x)
        | none => none
    else none

/-- The dies that serve a source; any running die for trigger in (R136). -/
def State.serving (s : State) (src : Nat) : List Nat :=
  if src < 8 then (s.input src).members.filter fun d => (s.die d).st == .active || (s.die d).st == .reserve
  else (List.range s.D).filter fun d => (s.die d).st == .active || (s.die d).st == .reserve

/-- Dies that send a stream to the evaluator of `src` on die `h` (R158). -/
def State.senders (s : State) (src h : Nat) : List Nat :=
  if src < 8 then sortN ((s.serving src).filter (· ≠ h)) else []

/-- A context's type: 0 single-input, 1 pattern or state, 2 sequence (R135). -/
def State.bindKind (s : State) (c : Nat) : Nat :=
  match s.cN c O.TRIG_TYPE with
  | 7 | 8 => 1
  | 9 => 2
  | _ => 0

/-- The streams one side of a binding needs: its evaluators' dies in order (R158, R159). -/
def State.sideStreams (s : State) (c : Nat) (evs : List Nat) : List (Nat × Nat) :=
  let h := evs.headD 0 / 8
  match s.bindKind c with
  | 0 => (s.senders (s.cN c O.TRIG_SOURCE) h).map fun d => (d, h)
  | 1 => (sortN ((s.watched c).flatMap fun n => s.senders n h)).map fun d => (d, h)
  | _ =>
    let h2 := (evs.getD 1 0) / 8
    (s.senders (s.cN c O.TRIG_SOURCE) h).map (fun d => (d, h))
      ++ (s.senders (s.cN c O.SEQ_B_SOURCE) h2).map fun d => (d, h2)

/-! ## Placing evaluators (R134 to R136, R161) -/

/-- Evaluators in use. -/
def State.evalsUsed (s : State) : List Nat :=
  (s.ctxs.flatMap fun c => if c.2.bound then c.2.evals ++ c.2.partners else []) ++ s.faults.evalFailed

/-- Free evaluators of die `d`, lowest first. -/
def freeEvals (used : List Nat) (d : Nat) : List Nat :=
  ((List.range 8).map fun e => 8 * d + e).filter fun v => !used.contains v

/-- The lowest `k` free evaluators of a die, none when it has fewer. -/
def takeEvals (used : List Nat) (d k : Nat) : Option (List Nat) :=
  let f := freeEvals used d
  if k ≤ f.length then some (f.take k) else none

/-- Home placements in the order R136 tries them. -/
def State.homes (s : State) (c : Nat) (used : List Nat) : List (List Nat) :=
  let pref := s.cN c O.TRIG_EVAL_PREF
  let first (d : Nat) : Option Nat :=
    if pref = 0xFF then (freeEvals used d).head?
    else if pref / 8 = d ∧ !used.contains pref then some pref else none
  let dies (src : Nat) : List Nat := sortN (s.serving src)
  match s.bindKind c with
  | 0 => (dies (s.cN c O.TRIG_SOURCE)).filterMap fun d => (first d).map fun v => [v]
  | 1 => (dies 8).filterMap fun d =>
      match first d with
      | some v => ((freeEvals (v :: used) d).head?).map fun w => [v, w]
      | none => none
  | _ => (dies (s.cN c O.TRIG_SOURCE)).flatMap fun d =>
      match first d with
      | some v => (dies (s.cN c O.SEQ_B_SOURCE)).filterMap fun b =>
          ((freeEvals (v :: used) b).head?).map fun w => [v, w]
      | none => []

/-- Links crossed in the shorter direction round the ring. -/
def ringDist (D a b : Nat) : Nat := min ((a + D - b) % D) ((b + D - a) % D)

/-- Dies other than `h` by nearness, those of a list first (R161). -/
def State.partnerDies (s : State) (h : Nat) (prefer : List Nat) : List Nat :=
  let all := (s.serving 8).filter (· ≠ h)
  let key := fun d => ringDist s.D h d * 16 + d
  sortBy key (all.filter prefer.contains) ++ sortBy key (all.filter fun d => !prefer.contains d)

/-- Partner placements of a home placement in the order R161 tries them. -/
def State.partnersOf (s : State) (c : Nat) (used home : List Nat) : List (List Nat) :=
  let used := home ++ used
  let h := home.headD 0 / 8
  match s.bindKind c with
  | 0 => (s.partnerDies h (s.serving (s.cN c O.TRIG_SOURCE))).filterMap fun d => takeEvals used d 1
  | 1 => (s.partnerDies h []).filterMap fun d => takeEvals used d 2
  | _ =>
    let h2 := (home.getD 1 0) / 8
    (s.partnerDies h (s.serving (s.cN c O.TRIG_SOURCE))).flatMap fun d =>
      match takeEvals used d 1 with
      | some a => (s.partnerDies h2 (s.serving (s.cN c O.SEQ_B_SOURCE))).filterMap fun b =>
          (takeEvals (a ++ used) b 1).map fun w => a ++ w
      | none => []

/-- A binding: home evaluators, partners, routed streams. -/
structure Binding where
  evals : List Nat
  partners : List Nat
  streams : List Stream
  deriving DecidableEq, Repr

/-- The first placement whose streams can be routed (R136). -/
def State.tryBind (s : State) (c : Nat) (load : List (Nat × Bool)) (homes : List (List Nat))
    (parts : List Nat → List (List Nat)) : Option Binding :=
  homes.findSome? fun h => (parts h).findSome? fun p =>
    (s.route (s.sideStreams c h ++ (if p.isEmpty then [] else s.sideStreams c p)) load).map fun st =>
      { evals := h, partners := p, streams := st }

/-- Whether TRIG_EVAL_PREF names an evaluator that is busy, or whose die is not eligible for the home (R136, R170). -/
def State.prefBad (s : State) (c : Nat) (used : List Nat) : Bool :=
  let pref := s.cN c O.TRIG_EVAL_PREF
  let dies := s.serving (if s.bindKind c = 1 then 8 else s.cN c O.TRIG_SOURCE)
  pref != 0xFF && (used.contains pref || !dies.contains (pref / 8))

/-- The binding an arm of context `c` gets, or the reason of R170 it cannot be bound for: 1, 2 or 6, and 0 where reason 4
stands in its place. -/
def State.bind (s : State) (c : Nat) : Binding ⊕ Nat :=
  let used := s.evalsUsed
  let homes := s.homes c used
  let alone := s.tryBind c s.ringLoad homes fun _ => [[]]
  -- with a watched input that no die serves no die is eligible, and the first clause of reason 1 does not speak of it (log 66)
  let eligible := s.bindKind c = 1 || (s.sources c).all fun n => n == 8 || !(s.serving n).isEmpty
  if homes.isEmpty then .inr (if eligible || s.prefBad c used then 1 else 0)
  else match alone with
    | none => .inr 2
    | some b =>
      if s.cN c O.TRIG_PAIR = 0 then .inl b
      else match s.tryBind c s.ringLoad homes (s.partnersOf c used) with
        | some b => .inl b
        | none => .inr 6

/-! ## Latency and refusals (R165, R170) -/

/-- L of R165 for an alloy of `m` dies, 0 meaning trigger in only; `multi` for Pattern, State and Sequence. -/
def latencyOf (m : Nat) (multi : Bool) : Nat :=
  let l := match m with
    | 0 => 40 | 1 => 56 | 2 => 72 | 3 => 80 | 4 => 88 | 5 => 96 | 6 => 104 | _ => 112
  if multi then l + 24 else l

/-- L of a context in core cycles (R165). -/
def State.latency (s : State) (c : Nat) : Nat :=
  let m (src : Nat) : Nat := if src < 8 then (s.input src).members.length else 0
  match s.bindKind c with
  | 0 => latencyOf (m (s.cN c O.TRIG_SOURCE)) false
  | 1 => latencyOf ((s.watched c).foldl (fun a n => max a (m n)) 0) true
  | _ =>
    let b := s.cN c O.SEQ_B_SOURCE
    latencyOf (if b < 8 then m b else m (s.cN c O.TRIG_SOURCE)) true

/-- Whether a level and hysteresis pair leaves the codes (R170). -/
def pairBad (l : Int) (h : Nat) : Bool := decide (l - h < -510 ∨ 510 < l + h)

/-- TRIG_ERR 3: inconsistent settings, each only for the types that read it (R170); with trigger in as the source no
level-and-hysteresis pair is in use (R164). -/
def State.inconsistent (s : State) (c : Nat) : Bool :=
  let t := s.cN c O.TRIG_TYPE
  let codes : Bool := s.cN c O.TRIG_SOURCE != 8
  let lvl := s.cI c O.TRIG_LEVEL
  let hys := s.cN c O.TRIG_HYST
  (codes && [1, 3, 6, 8, 9, 10].contains t && pairBad lvl hys)
  || (t == 9 && s.cN c O.SEQ_B_SOURCE != 8 && pairBad (s.cI c O.SEQ_B_LEVEL) (s.cN c O.SEQ_B_HYST))
  || ((t == 7 || t == 8) && (s.patInputs c).any fun k =>
        pairBad (s.cI c (O.PAT_LEVEL_k + k)) (s.cN c (O.PAT_HYST_k + k)))
  || ([2, 4, 5].contains t && decide (s.cI c O.TRIG_LEVEL_B ≤ lvl))
  || ([2, 3, 4, 5, 6, 7].contains t && (s.cN c O.TRIG_COND == 3 || s.cN c O.TRIG_COND == 4)
        && decide (durGrains (s.obj c O.TRIG_T2) < durGrains (s.obj c O.TRIG_T1)))
  || (t == 10 && decide (64 < s.cN c O.TRIG_COUNT) && s.obj c O.TRIG_T1 != 0)
  || (t == 7 && (s.patInputs c).isEmpty)
  || (t == 8 && (s.patInputs c).contains (s.cN c O.TRIG_SOURCE))

/-- Whether no sample of an input can be watched now (R170, R182). -/
def State.unserved (s : State) (n : Nat) : Bool :=
  !s.fitted n || (match (s.input n).st with
    | .absorbed | .regrouping | .dark | .changing => true
    | _ => false)

/-- TRIG_ERR 5: trigger in used where R164 does not allow it. TRIG_SOURCE 8 with TRIG_TYPE None, which reads no source, counts
as such a use (DESIGN CHOICE, log 94). -/
def State.trigInMisused (s : State) (c : Nat) : Bool :=
  let t := s.cN c O.TRIG_TYPE
  t != 7 && s.cN c O.TRIG_SOURCE == 8 && !([1, 3, 6, 9, 10].contains t)

/-- The lowest reason of R170 an arm fails for, with its code, and the binding when it has none. -/
def State.trigArm (s : State) (c : Nat) : Binding ⊕ (Nat × Abort) :=
  let b := s.bind c
  let bad (k : Nat) : Bool := match b with | .inr j => j == k | .inl _ => false
  match firstErr 1 [ (bad 1, .resource), (bad 2, .resource), (s.inconsistent c, .incompatible),
      ((s.watched c).any s.unserved, .presentState), (s.trigInMisused c, .incompatible), (bad 6, .resource) ], b with
  | some e, _ => .inr e
  | none, .inl x => .inl x
  | none, .inr k => .inr (max k 1, .resource)

end Sys2Proof.Machine
end

