-- ==== Sys2Proof/Machine/Store.lean ====
section
/-!
DEFINITION. Capture addresses and units (R282 to R284), poison (R298, R303, R306) and the one operation by which
the block writes capture memory.
-/
namespace Sys2Proof.Machine

/-- Bytes of one half (R282). -/
def halfBytes : Nat := 0x300000000

/-- Capture address of offset `h` in the half of die `d` (R283). -/
def capAddr (d h : Nat) : Nat := d * halfBytes + h

/-- Units of a half. -/
def unitsOfHalf : Nat := 0xC000000

/-- The pseudo-channel of a unit (R284). -/
def unitPc (u : Nat) : Nat := u % 16

/-- The row of a unit (R284). -/
def unitRow (u : Nat) : Nat := u / 4096 % 16384

/-- The stack ID of a unit (R284). -/
def unitSid (u : Nat) : Nat := u / 2 ^ 26

/-- The physical bank of a unit under a mask over the row (R285). -/
def physBank (mask : Nat → Nat) (u : Nat) : Nat :=
  (List.range 4).foldl (fun a k =>
    let par := ((List.range 14).countP fun i => (unitRow u).testBit i && (mask k).testBit i) % 2
    a + ((u / 256 / 2 ^ k % 2 + par) % 2) * 2 ^ k) 0

/-- Where a unit of a failed pseudo-channel `f` is kept: target pseudo-channel, row, bank, column (R301). -/
def spareTarget (f u : Nat) : Nat × Nat × Nat × Nat :=
  -- the unit's index among those of `f`, in ascending (SID, ROW, BANK, COLUMN)
  let k := u / 16
  let pcs := (List.range 16).filter (· ≠ f)
  let r := k / 15
  (pcs.getD (k % 15) 0, 13312 + r / 256, r / 16 % 16, r % 16)

/-- The controller of die `d`'s half. -/
def State.half (s : State) (d : Nat) : HalfCtl := s.halves.getD d {}

/-- Replaces it. -/
def State.setHalf (s : State) (d : Nat) (h : HalfCtl) : State := { s with halves := s.halves.set d h }

/-- Stack `i`. -/
def State.stack (s : State) (i : Nat) : Stack := s.hbm.getD i {}

/-- Replaces it. -/
def State.setStack (s : State) (i : Nat) (x : Stack) : State := { s with hbm := s.hbm.set i x }

/-- Whether a capture address lies in a half (R283). -/
def State.inHalf (s : State) (a : Nat) : Bool := decide (a < s.D * halfBytes)

/-- First unit of the spare reserve of a half: row 13,312 of SID 2 (R282, R301). -/
def reserveUnit : Nat := 0xB400000

/-- The unit of the reserve that stands in for unit `u` of the spared pseudo-channel `f` (R301). -/
def spareUnit (f u : Nat) : Nat :=
  let (pc, row, bank, col) := spareTarget f u
  2 * 2 ^ 26 + row * 4096 + bank * 256 + col * 16 + pc

/-- The unit of `f` that unit `v` of the reserve stands in for. -/
def spareSource (f v : Nat) : Option Nat :=
  if v < reserveUnit ∨ unitPc v = f then none
  else
    let i := if unitPc v < f then unitPc v else unitPc v - 1
    some (((v - reserveUnit) / 16 * 15 + i) * 16 + f)

/-- The unit a write of unit `u` goes to (R301, R302). -/
def HalfCtl.writeUnit (h : HalfCtl) (u : Nat) : Nat :=
  if h.spared = some (unitPc u) ∧ u < reserveUnit then spareUnit (unitPc u) u else u

/-- Whether a redirected unit is still read from the failed pseudo-channel (R302). -/
def HalfCtl.uncopied (h : HalfCtl) (u : Nat) : Bool := h.copying && !h.written.contains u

/-- The unit that unit `u` of die `d` is read from (R301, R302). -/
def State.physUnit (s : State) (d u : Nat) : Nat :=
  let h := s.half d
  if h.uncopied u then u else h.writeUnit u

/-- Where the byte of a capture address is read from (R301, R302). -/
def State.phys (s : State) (a : Nat) : Nat :=
  let o := a % halfBytes
  capAddr (a / halfBytes) (s.physUnit (a / halfBytes) (o / 64) * 64 + o % 64)

/-- One byte at a capture address. -/
def State.peek (s : State) (a : Nat) : Byte := Memory.read s.mem (s.phys a)

/-- `n` bytes of one unit from a capture address. -/
def State.peekN (s : State) (a n : Nat) : List Byte := Memory.readN s.mem (s.phys a) n

/-- The channel, 0 to 15 in its stack, of pseudo-channel `pc` of die `d` (R280). -/
def chanOf (d pc : Nat) : Nat := 8 * (d % 2) + pc / 2

/-- Whether the controller of die `d`'s half runs: its own, which stops when the die is Off or Lost, or its partner's for
it after takeover (R281, R304). A request to a half whose takeover is still to come waits for it (R295). -/
def State.served (s : State) (d : Nat) : Bool :=
  d < s.D && (s.stack (d / 2)).st != 0 && (s.stack (d / 2)).st != 4
    && ((s.stack (d / 2)).st == 3 || (s.die d).st != .lost && (s.die d).st != .off)

/-- Channel `k` (0 to 7) of die `d` takes no retraining step for 2 µs from now (R294, R308). -/
def holdSteps (s : State) (d k : Nat) : State :=
  s.setHalf d { s.half d with stepFrom := kvPut (s.half d).stepFrom k (s.now + 80000) }

/-- Channel `ch` of stack `i` leaves self-refresh (R293 to R295). -/
def exitSelfRefresh (s : State) (i ch : Nat) : State :=
  let x := s.stack i
  if x.selfRefresh.contains ch then
    holdSteps (s.setStack i { x with selfRefresh := x.selfRefresh.erase ch }) (2 * i + ch / 8) (ch % 8)
  else s

/-- A request reaches pseudo-channel `pc` of die `d`: its channel leaves self-refresh (R295). -/
def wakePc (s : State) (d pc : Nat) : State := if s.served d then exitSelfRefresh s (d / 2) (chanOf d pc) else s

/-- A read reaches unit `u` of die `d`. -/
def wakeUnit (s : State) (d u : Nat) : State := wakePc s d (unitPc (s.physUnit d u))

/-- A real-time request of pseudo-channel `pc` of die `d` is served: an aged one may come next (R288). -/
def rtServed (s : State) (d pc : Nat) : State :=
  if (s.half d).agedLast.contains pc then s.setHalf d { s.half d with agedLast := (s.half d).agedLast.erase pc } else s

/-- A unit of the spared pseudo-channel that is about to be written is marked in the written-map; its target takes what the
unit held, for the bytes the write leaves (R302). -/
def markWritten (s : State) (d u : Nat) : State :=
  let h := s.half d
  if h.uncopied u ∧ h.writeUnit u ≠ u then
    let s := { s with mem := Memory.writeN s.mem (capAddr d (h.writeUnit u * 64)) (Memory.readN s.mem (capAddr d (u * 64)) 64) }
    s.setHalf d { h with written := u :: h.written }
  else s

/-- Whether unit `u` of die `d` lies in the part of the spared pseudo-channel that is redirected. -/
def HalfCtl.redirects (h : HalfCtl) (u : Nat) : Bool := h.spared == some (unitPc u) && decide (u < reserveUnit)

/-- The copy of the units not marked ends: their targets hold them (R302). -/
def copyRest (s : State) (d : Nat) : State :=
  let h := s.half d
  let here (c : Host.Cell) : Bool := c.1 / halfBytes == d
  let unit (c : Host.Cell) : Nat := c.1 % halfBytes / 64
  let stale (c : Host.Cell) : Bool := here c && (match h.spared with
    | some f => (match spareSource f (unit c) with | some u => !h.written.contains u | none => false)
    | none => false)
  let moves (c : Host.Cell) : Bool := here c && h.redirects (unit c) && !h.written.contains (unit c)
  let mem := (s.mem.filter moves).foldl (fun m c =>
    Memory.write m (capAddr d (h.writeUnit (unit c) * 64 + c.1 % 64)) c.2) (s.mem.filter fun c => !stale c)
  { s with mem }

/-- Whether the unit that holds a capture address reads poisoned (R298, R303, R306). -/
def State.poisoned (s : State) (a : Nat) : Bool :=
  let d := a / halfBytes
  let u := a % halfBytes / 64
  let h := s.half d
  h.poison.contains u || h.failed.contains (unitPc (s.physUnit d u)) || (s.stack (d / 2)).st == 4

/-- Whether a write to a unit is discarded: its pseudo-channel failed and is not spared, or its stack is Orphaned
(R303, R306). -/
def State.lostUnit (s : State) (a : Nat) : Bool :=
  let d := a / halfBytes
  let h := s.half d
  h.failed.contains (unitPc (h.writeUnit (a % halfBytes / 64))) || (s.stack (d / 2)).st == 4

/-- Removes a unit from its poison list: a full write has reached it (R298). -/
def unpoison (s : State) (a : Nat) : State :=
  let d := a / halfBytes
  let h := s.half d
  let u := a % halfBytes / 64
  if h.poison.contains u then s.setHalf d { h with poison := h.poison.erase u } else s

/-- Splits a write at unit boundaries: address and bytes of each unit's part. -/
def unitParts : Nat → Nat → List Byte → List (Nat × List Byte)
  | 0, _, _ => []
  | n + 1, a, bs =>
    if bs.isEmpty then []
    else
      let k := 64 - a % 64
      (a, bs.take k) :: unitParts n (a + k) (bs.drop k)

/-- Writes the part of one unit, on the channel that the write goes to (R295, R302). -/
def storePart (s : State) (p : Nat × List Byte) : State :=
  if s.lostUnit p.1 then s
  else
    let d := p.1 / halfBytes
    let u := p.1 % halfBytes / 64
    let s := markWritten (wakePc s d (unitPc ((s.half d).writeUnit u))) d u
    let s := { s with mem := Memory.writeN s.mem (s.phys p.1) p.2 }
    if p.2.length = 64 then unpoison s p.1 else s

/-- Writes a byte string at a capture address as bulk traffic (R287, R298, R303). -/
def State.storeBulk (s : State) (a : Nat) (bs : List Byte) : State :=
  (unitParts (bs.length / 64 + 2) a bs).foldl storePart s

/-- Writes a byte string at a capture address as real-time traffic (R287, R298, R303). -/
def State.store (s : State) (a : Nat) (bs : List Byte) : State :=
  (unitParts (bs.length / 64 + 2) a bs).foldl (fun s p =>
    let d := p.1 / halfBytes
    rtServed (storePart s p) d (unitPc ((s.half d).writeUnit (p.1 % halfBytes / 64)))) s

/-- The capture address that a physical address of the reserve shows the byte of, by sparing. -/
def State.shown (s : State) (p : Nat) : Option Nat :=
  let d := p / halfBytes
  let o := p % halfBytes
  let h := s.half d
  match h.spared with
  | some f => (match spareSource f (o / 64) with
    | some u => if h.uncopied u then none else some (capAddr d (u * 64 + o % 64))
    | none => none)
  | none => none

/-- Zeros `n` bytes, whole units, from a capture address. -/
def State.zero (s : State) (a n : Nat) : State :=
  let hit (x : Nat) : Bool := decide (a ≤ x ∧ x < a + n)
  let d := a / halfBytes
  let h := s.half d
  { s.setHalf d { h with poison := h.poison.filter fun u => !hit (capAddr d (u * 64)) } with
    mem := s.mem.filter fun c => !(hit c.1 && s.phys c.1 == c.1) && !(match s.shown c.1 with
      | some x => hit x
      | none => false) }

/-- Counts an access to a capture address that does not exist (R283). -/
def badAccess (s : State) : State := s.countSat 0 O.MEM_BAD_ACCESS 32

end Sys2Proof.Machine
end

