-- ==== Sys2Proof/Machine/Ecc.lean ====
section
/-!
DEFINITION. What capture memory addresses name (R283, R286, R443), and reads with the outcome of their error check
(R297, R298).
-/
namespace Sys2Proof.Machine

/-! ## Capture addresses (R283, R286) -/

/-- Base of the stream-ring view of input `n` (R283). -/
def viewBase (n : Nat) : Nat := 0x8000000000 + n * 0x2000000000

/-- The capture address that an address names: itself in a half, the sheet byte behind a view, none where it does
not exist (R283, R286). The flag says that it lies in a view. -/
def State.resolve (s : State) (a : Nat) : Option (Nat × Bool) :=
  if s.inHalf a then some (a, false)
  else if a < 0x8000000000 then none
  else
    let n := (a - 0x8000000000) / 0x2000000000
    let o := (a - 0x8000000000) % 0x2000000000
    let x := s.input n
    if s.fitted n ∧ x.ring ≠ .idle then
      match x.epochs.head? with
      | some e =>
        let m := e.members.length
        if o < e.lines * m * 64 then
          some (capAddr (e.members.getD (o / 64 % m) 0) (o / 64 / m * 64 + o % 64), true)
        else none
      | none => none
    else none

/-! ## Extents (R443, R445) -/

/-- Where a DPA lies among extents laid end to end from unit `start`: its capture address and whether writes are
admitted. -/
def findExtent (dpa : Nat) : Nat → List Slot → Option (Nat × Bool)
  | _, [] => none
  | start, v :: r =>
    if !bit v 63 then findExtent dpa start r
    else
      let n := fld v 24 16
      if start * 2 ^ 28 ≤ dpa ∧ dpa < (start + n) * 2 ^ 28 then
        some (fld v 0 24 * 2 ^ 28 + (dpa - start * 2 ^ 28), bit v 62)
      else findExtent dpa (start + n) r

/-- The capture address a DPA of LD `l` reaches, none where no extent or the allocation does not reach (R443). -/
def State.dpaMap (s : State) (l dpa : Nat) : Option (Nat × Bool) :=
  if (s.ld l).alloc * 2 ^ 28 ≤ dpa then none else findExtent dpa 0 (s.extents l)

/-- The DPAs of LD `l` among extents laid from unit `start` that reach a capture address. -/
def dpasOf (alloc a : Nat) : Nat → List Slot → List Nat
  | _, [] => []
  | start, v :: r =>
    if !bit v 63 then dpasOf alloc a start r
    else
      let lo := fld v 0 24 * 2 ^ 28
      let n := fld v 24 16
      let here := start * 2 ^ 28 + (a - lo)
      (if lo ≤ a ∧ a < lo + n * 2 ^ 28 ∧ here < alloc * 2 ^ 28 then [here] else [])
        ++ dpasOf alloc a (start + n) r

/-- The addresses of stream-ring views that reach a capture address (R286). -/
def State.viewAddrs (s : State) (a : Nat) : List Nat :=
  let o := a % halfBytes
  (List.range s.D).filterMap fun n =>
    match (s.input n).ring != .idle, (s.input n).epochs.head? with
    | true, some e =>
      match e.members.findIdx? (· == a / halfBytes) with
      | some j =>
        if o / 64 < e.lines then some (viewBase n + (o / 64 * e.members.length + j) * 64 + o % 64) else none
      | none => none
    | _, _ => none

/-- The DPAs at which LD `l` reaches a capture address, through its half or through a view (R286, R440, R443). -/
def State.dpas (s : State) (l a : Nat) : List Nat :=
  (a :: s.viewAddrs a).flatMap fun a => dpasOf (s.ld l).alloc a 0 (s.extents l)

/-- A memory-module event record of LD `l`: 1 uncorrectable read at a DPA, 2 sparing of a pseudo-channel (R440). -/
def ldEvent (kind addr : Nat) (s : State) (l : Nat) : State :=
  let x := s.ld l
  s.setLd l { x with events := x.events ++ [(x.nextHandle, kind, addr)], nextHandle := x.nextHandle + 1 }

/-- An uncorrectable read is recorded by the LDs whose extents reach the unit. -/
def uncorrectable (s : State) (a : Nat) : State :=
  (List.range 16).foldl (fun s l => match s.dpas l a with
    | dpa :: _ => ldEvent 1 dpa s l
    | [] => s) s

/-- A sparing is recorded by every LD with an allocation. -/
def sparingEvent (s : State) (pc : Nat) : State :=
  ((List.range 16).filter fun l => (s.ld l).alloc != 0).foldl (ldEvent 2 pc) s

/-- Bytes read from an address, 64 at most, with the poison indication (R283, R298). -/
def State.readMem (s : State) (a n : Nat) : List Byte × Bool :=
  match s.resolve a with
  | some (c, _) => (s.peekN c n, s.poisoned c)
  | none => (List.replicate n 0xFF#8, true)

/-- Writes bytes at an address, unit by unit: into a view or where no address exists they are discarded and counted
(R283, R286). -/
def writeMem (s : State) (a : Nat) (bs : List Byte) : State :=
  (unitParts (bs.length / 64 + 2) a bs).foldl (fun s p => match s.resolve p.1 with
    | some (c, false) => storePart s (c, p.2)
    | _ => badAccess s) s

/-! ## Checks and poison (R297, R298) -/

/-- Enters a unit in its poison list: 4,096 units per die (R298). -/
def poisonUnit (s : State) (d u : Nat) : State :=
  let h := s.half d
  if h.poison.contains u then s
  else if h.poison.length < 4096 then s.setHalf d { h with poison := h.poison ++ [u] }
  else s.flag 0 O.MEM_STATUS 5

/-- The outcome of an error check of unit `u` of die `d` (R297, R298). -/
def eccRead (s : State) (d u : Nat) (e : Ecc) : State :=
  match e with
  | .clean => s
  | .corrected => tarnish ((s.countWrap 0 O.MEM_CE_COUNT 64).flag 0 O.MEM_STATUS 0) 6 d 0xFF 0
  | .failed =>
    let s := poisonUnit ((s.countSat 0 O.MEM_UE_COUNT 32).flag 0 O.MEM_STATUS 1) d u
    tarnish (uncorrectable s (capAddr d (u * 64))) 7 d 0xFF (s.half d).poison.length 0xFF20

/-- The addresses of the units that `n` bytes from `a` touch. -/
def spanUnits (a n : Nat) : List Nat :=
  if n = 0 then [] else (List.range ((a + n - 1) / 64 - a / 64 + 1)).map fun i => (a / 64 + i) * 64

/-- Units are read, each with the outcome of its check, clean where the command names none: the addresses whose check
failed with the state after (R283, R295, R297, R298). -/
def readUnits (s : State) : List Nat → List Ecc → List Nat × State
  | [], _ => ([], s)
  | a :: as, es =>
    match s.resolve a with
    | none => readUnits (badAccess s) as es.tail
    | some (c, _) =>
      let d := c / halfBytes
      let u := c % halfBytes / 64
      let e := es.headD .clean
      let s := wakeUnit s d u
      let r := readUnits (if s.served d then eccRead s d u e else s) as es.tail
      (if e = .failed then a :: r.1 else r.1, r.2)

/-- What a free value says of a check: for reads whose command names no outcome (R297; log 80). -/
def eccOf (k : Nat) : Ecc := match k % 4 with | 2 => .corrected | 3 => .failed | _ => .clean

/-- Checks of reads whose command names none: free values where capture memory is read at all (log 3, log 80). -/
def freeChecks (s : State) (as : List Nat) : List Ecc × State :=
  as.foldl (fun a _ => let (v, s) := a.2.free; (a.1 ++ [eccOf v.toNat], s)) ([], s)

end Sys2Proof.Machine
end

