-- ==== Sys2Proof/Machine/Rings.lean ====
section
/-!
DEFINITION. Stream rings, pools, sheets and segments (chapter 6): pool allocation, sheet bytes (R73 to R76),
epochs (R184), a segment's window, epoch and items (R192 to R198), pins (R186) and releases (R200).
-/
namespace Sys2Proof.Machine

/-! ## Pools (R183, R282) -/

/-- Bytes of the pool of a die (R282). -/
def poolBytes : Nat := 0x2B0000000

/-- Bytes of one MiB. -/
def mib : Nat := 0x100000

/-- Size of the stream region of die `d` in MiB (R183). -/
def State.ringMib (s : State) (d : Nat) : Nat := s.num (inObj O.RING_MIB_n d)

/-- Allocations in the pool of die `d`. -/
def State.allocsOf (s : State) (d : Nat) : List Alloc := s.allocs.filter fun a => a.die == d

/-- Free bytes of the pool of die `d` (R183). -/
def State.poolFree (s : State) (d : Nat) : Nat :=
  poolBytes - s.ringMib d * mib - (((s.allocsOf d).map Alloc.size).foldl (· + ·) 0)

/-- Whether an interval of a half meets no allocation. -/
def clearOf (as : List Alloc) (off size : Nat) : Bool :=
  as.all fun a => decide (off + size ≤ a.off ∨ a.off + a.size ≤ off)

/-- The highest offset at which `size` bytes fit in the pool of die `d` beside `as`, above the stream region
(the placement is the model's choice, log 7). -/
def place (base : Nat) (as : List Alloc) (size : Nat) : Option Nat :=
  let cands := (poolBytes :: as.map Alloc.off).filterMap fun e => if base + size ≤ e then some (e - size) else none
  (cands.filter (clearOf as · size)).foldl (fun a o => match a with | none => some o | some b => some (max b o)) none

/-- Takes `size` bytes in the pool of die `d`, none where they do not fit. -/
def State.take (s : State) (d size c : Nat) (k : AllocKind) : Option (Nat × State) :=
  (place (s.ringMib d * mib) (s.allocsOf d) size).map fun o =>
    (o, { s with allocs := s.allocs ++ [{ die := d, off := o, size, ctx := c, kind := k }] })

/-- Takes the same size on several dies, none where one of them has no room. -/
def State.takeAll (s : State) (ds : List Nat) (size c : Nat) (k : AllocKind) : Option (List Nat × State) :=
  ds.foldl (fun r d => match r with
    | none => none
    | some (os, s) => (s.take d size c k).map fun (o, s) => (os ++ [o], s)) (some ([], s))

/-- Gives back every allocation of a kind that context `c` holds. -/
def State.give (s : State) (c : Nat) (k : AllocKind) : State :=
  { s with allocs := s.allocs.filter fun a => !(a.ctx == c && a.kind == k) }

/-! ## Sheets (R73 to R76) -/

/-- The OVR field of 48 codes: bit t covers samples 3t to 3t + 2 (R74). -/
def ovrOf (codes : List Int) : Nat :=
  (List.range 16).foldl (fun a t =>
    if ((codes.drop (3 * t)).take 3).any isOver then a + 2 ^ t else a) 0

/-- The 60 bytes of a row of fields of `w` bits, the first in the lowest bits (R73). -/
def packFields (w : Nat) (xs : List Nat) : List Byte :=
  leBytes 60 (xs.foldr (fun x a => x % 2 ^ w + 2 ^ w * a) 0)

/-- A sheet: 60 bytes of content and the flag word of R74. -/
def sheetOf (body : List Byte) (ovr spares : Nat) (disc cal : Bool) : List Byte :=
  body ++ leBytes 4 (ovr + spares % 16 * 0x10000 + b2n disc * 0x100000 + b2n cal * 0x200000
    + (crc8 body).toNat * 0x1000000)

/-- A sheet of samples (R73, R74). -/
def sampleSheet (codes : List Int) (spares : Nat) (disc cal : Bool) : List Byte :=
  sheetOf (packFields 10 (codes.map code10)) (ovrOf codes) spares disc cal

/-- The void sheet of R76. -/
def voidSheet : List Byte := sampleSheet (List.replicate 48 voidCode) 0 false false

/-- The 64 bytes of a stored sheet: a poisoned sheet reads as a void sheet (R298). -/
def State.sheetBytes (s : State) (a : Nat) : List Byte :=
  if s.poisoned a then voidSheet else s.peekN a 64

/-- A field of `w` bits at bit `lo` of a byte string, least significant byte first. -/
def fieldOf (bs : List Byte) (lo w : Nat) : Nat := leNat bs / 2 ^ lo % 2 ^ w

/-- The flag word of a stored sheet. -/
def State.sheetFlags (s : State) (a : Nat) : Nat := fieldOf (s.sheetBytes a) 480 32

/-! ## Epochs (R184, R185, R192) -/

/-- The instant of item `i` of an epoch, grains. -/
def Epoch.at_ (e : Epoch) (i : Nat) : Nat := e.t0 + e.off + i * e.period

/-- Ceiling of a quotient of an integer by a positive number. -/
def ceilDiv (a : Int) (b : Nat) : Int := -((-a) / (b : Int))

/-- The first index of an epoch whose instant lies at or after `t`. -/
def Epoch.indexFrom (e : Epoch) (t : Int) : Nat := (ceilDiv (t - (e.t0 + e.off)) e.period).toNat

/-- Sheets of 64 bytes that the stream region of a die holds. -/
def State.regionSheets (s : State) (d : Nat) : Nat := s.ringMib d * mib / 64

/-- The line slots the stream regions of a member set give (R184). -/
def State.ringLinesFor (s : State) (ms : List Nat) : Nat :=
  match ms with
  | [] => 0
  | d :: r => r.foldl (fun a k => min a (s.regionSheets k)) (s.regionSheets d)

/-- Base periods of one line of input `n`: one core cycle, two for a die in Half rate (R184, R75). -/
def State.lineTime (s : State) (n : Nat) : Nat := if s.halfRate n then 96 else 48

/-- A new ring epoch of input `n` from base period `t` (R184, R185). Its first line after a gap carries TB_DISC on the sheet
of every member, each the first of its die's stream (DEDUCED, log 97). -/
def openEpoch (s : State) (n t : Nat) (disc : Bool) : State :=
  let x := s.input n
  let lines := s.ringLinesFor x.members
  let num := ((x.epochs.head?.map Epoch.number).getD 0 + 1) % 2 ^ 32
  let slot := if x.fresh ∨ lines = 0 then 0 else x.slot % lines
  let e : Epoch := { number := num, t0 := t * 480, period := s.period n, slot, lines
                     perLine := s.lineLen n, members := x.members, endT := t * 480 }
  let s := s.setInput n { x with ring := .writing, epochs := e :: x.epochs, slot, fresh := false, discNext := disc }
  -- the first sheet of a stream that has just started carries no flag (R50)
  if disc then s else x.members.foldl (fun s d => s.setDie d { s.die d with discNext := false }) s

/-- The epoch of a list that carries a number. -/
def findEpoch (es : List Epoch) (k : Nat) : Option Epoch := es.find? fun e => e.number == k

/-! ## Segments: reference sample, window, epoch (R192 to R195) -/

/-- The reference sample of an event at `tm`: its instant and sample period, none while it is not known (R192). -/
def refSample (tm : Nat) (forced : Bool) : List Epoch → Option Epoch → Option (Nat × Nat)
  | [], newer =>
    -- no sample lies at or before the event: the first sample after it
    match newer with
    | some e => some (e.t0, e.period)
    | none => none
  | e :: r, newer =>
    if tm < e.t0 ∨ (e.endT = e.t0 ∧ e.open_ = false) then refSample tm forced r (if e.endT = e.t0 then newer else some e)
    else if tm < e.endT ∨ e.open_ then some (e.t0 + (tm - e.t0) / e.period * e.period, e.period)
    else if forced then
      match newer with
      | some f => some (f.t0, f.period)
      | none => none
    else some (e.endT - e.period, e.period)

/-- The epochs whose samples a context has received, newest first: a pause of its own decimator is a gap that it alone sees,
so that a decimating context counts the samples of its grid epochs (R192, R208). -/
def State.refEpochs (s : State) (c : Nat) (g : Segment) : List Epoch :=
  if g.dec then
    (match s.ctx c with
     | some x => x.dec.epochs.map fun e => { e with period := e.period / max 1 g.factor }
     | none => [])
  else (s.input g.input).epochs

/-- The epochs a segment's items may lie in, newest first. -/
def State.segEpochs (s : State) (c : Nat) (g : Segment) : List Epoch :=
  if g.dec then (match s.ctx c with | some x => x.dec.epochs | none => []) else (s.input g.input).epochs

/-- The window of a segment: reference instant, start and end in grains (R192). -/
def State.window (s : State) (c : Nat) (g : Segment) : Option (Nat × Int × Int) :=
  (refSample g.tm g.forced (s.refEpochs c g) none).map fun (r, p) =>
    let w0 : Int := (r : Int) - g.pre * p
    (r, w0, w0 + (g.len : Int) * p)

/-- First index and end index of a window in an epoch, by what exists. -/
def Epoch.cut (e : Epoch) (w0 w1 : Int) : Nat × Nat :=
  (max e.lo (e.indexFrom w0), min e.count (e.indexFrom w1))

/-- Whether an item of a window exists in an epoch. -/
def Epoch.has (e : Epoch) (w0 w1 : Int) : Bool := let c := e.cut w0 w1; decide (c.1 < c.2)

/-- The epoch of a segment's reference sample (R194, R203). -/
def State.ownEpoch (s : State) (c : Nat) (g : Segment) (ref : Nat) : Option Epoch :=
  (s.segEpochs c g).find? fun e => decide (e.t0 ≤ ref) && (decide (ref < e.endT) || e.open_)

/-- The first epoch from the reference sample on that holds an item of the window. -/
def State.itemEpoch (s : State) (c : Nat) (g : Segment) (ref : Nat) (w0 w1 : Int) : Option Epoch :=
  (s.segEpochs c g).reverse.find? fun e => decide (ref < e.endT) && e.has w0 w1

/-- Whether the epoch of the reference sample has ended before the window begins (R194). -/
def Epoch.endedBefore (e : Epoch) (w0 : Int) : Bool := !e.open_ && decide ((e.endT : Int) ≤ w0)

/-- The epoch that a segment's items lie in (R194): where the window begins after the reference sample, the first with an item
of it, unless the epoch of the reference sample has ended before the window began. -/
def State.chooseEpoch (s : State) (c : Nat) (g : Segment) (ref : Nat) (w0 w1 : Int) : Option Epoch :=
  let own := s.ownEpoch c g ref
  let ended : Bool := match own with | some e => e.endedBefore w0 | none => false
  if w0 ≤ ref ∨ ended then own
  else match s.itemEpoch c g ref w0 w1 with
    | some e => some e
    | none => own

/-- Members and local indexes of points `lo` to `n - 1` of a grid epoch: point j belongs to the member that
holds input sample jF + F − 1 (R206). -/
def pointOwner (f sl j : Nat) : Nat := (j * f + f - 1) % sl / 48

/-- Whether every item of a window that the epoch can hold is written, or none can come (R195). -/
def Epoch.complete (e : Epoch) (w1 : Int) : Bool := !e.open_ || decide (e.indexFrom w1 ≤ e.count)

/-- Whether a later epoch may still hold the first item of a segment whose window begins after its reference sample: that
sample's epoch has ended within the window without an item of it, and no later epoch has one so far (R194). -/
def State.awaitsEpoch (s : State) (c : Nat) (g : Segment) (ref : Nat) (w0 w1 : Int) : Bool :=
  match s.ownEpoch c g ref, (s.segEpochs c g).head? with
  | some e, some last =>
    decide ((ref : Int) < w0) && !e.open_ && !e.endedBefore w0 && (s.itemEpoch c g ref w0 w1).isNone
      && (if last.number = e.number then decide ((s.now * 480 : Int) < w1) else !last.complete w1)
  | _, _ => false

/-! ## Pins (R186) -/

/-- The items a segment holds in its epoch so far: the epoch, the first index and the end index (R186). -/
def State.segSpan (s : State) (c : Nat) (g : Segment) : Option (Epoch × Nat × Nat) :=
  if g.closed then g.ep.map fun e => (e, g.first, g.first + g.count)
  else match s.window c g with
    | none => none
    | some (r, w0, w1) => (s.chooseEpoch c g r w0 w1).map fun e =>
        (e, (e.cut w0 w1).1, (e.cut w0 w1).2)

/-- Whether items `a` to `b - 1` of an epoch lie, in part, in sheet slot `slot` of die `d` (R186, R198). -/
def Epoch.pins (e : Epoch) (a b d slot : Nat) : Bool :=
  match e.members.findIdx? (· == d) with
  | none => false
  | some j =>
    if a < b ∧ e.perLine ≠ 0 ∧ e.lines ≠ 0 then
      let l0 := a / e.perLine
      let l := l0 + (slot + e.lines - (e.slot + l0) % e.lines) % e.lines
      let lo := l * e.perLine + 48 * j
      decide (slot < e.lines ∧ lo < b ∧ a < lo + 48)
    else false

/-- Whether a segment that pins the stream ring pins sheet slot `slot` of die `d`. -/
def State.segPins (s : State) (c : Nat) (g : Segment) (d slot : Nat) : Bool :=
  !g.revoked && !g.dec &&
    (match s.segSpan c g with | some (e, a, b) => e.pins a b d slot | none => false)

/-- The segments of a context that are accepted and not released. -/
def Ctx.segments (x : Ctx) : List Segment := x.table ++ x.pending

/-- The slot of the line input `n` writes next: of the epoch in force, else of the epoch that would start (R184). -/
def State.nextSlot (s : State) (n : Nat) : Nat :=
  let x := s.input n
  let lines := s.ringLinesFor x.members
  if x.ring = .writing then x.slot else if x.fresh ∨ lines = 0 then 0 else x.slot % lines

/-- The segments that pin the line input `n` is about to write: context and event of each (R186). -/
def State.blockers (s : State) (n : Nat) : List (Nat × Segment) :=
  let x := s.input n
  let slot := s.nextSlot n
  s.ctxs.flatMap fun (c, y) =>
    (y.segments.filter fun g => x.members.any fun d => s.segPins c g d slot).map fun g => (c, g)

/-- Whether any segment pins the stream region of die `d` (R183). -/
def State.regionPinned (s : State) (d : Nat) : Bool :=
  s.ctxs.any fun (c, y) => y.segments.any fun g =>
    !g.revoked && !g.dec && (match s.segSpan c g with
      | some (e, a, b) => decide (a < b) && e.members.contains d
      | none => false)

/-- RING_LINES_n: the line slots of the latest epoch, or before the first since a start or a new RING_MIB what the regions
of the dies serving the input give (R184). -/
def State.ringLines (s : State) (n : Nat) : Nat :=
  let x := s.input n
  match x.epochs.head? with
  | some e => if x.fresh then s.ringLinesFor x.members else e.lines
  | none => s.ringLinesFor x.members

/-- Lines of input `n` that a segment pins, by physical sheet (R186, R216). -/
def State.pinnedLines (s : State) (n : Nat) : Nat :=
  let x := s.input n
  let ms := match x.epochs.head? with | some e => if x.fresh then x.members else e.members | none => x.members
  (List.range (s.ringLines n)).countP fun slot =>
    s.ctxs.any fun (c, y) => y.segments.any fun g => ms.any fun d => s.segPins c g d slot

/-! ## Items (R198, R201, R207) -/

/-- The item code a sheet field holds: position `p`, `w` bits. -/
def State.fieldAt (s : State) (a p w : Nat) : Nat := fieldOf (s.sheetBytes a) (p * w) w

/-- Bits of one item of a decimation mode: Sample 10, Peak 20, fine 16; a ring sample 10 (R207). -/
def itemBits (mode : Nat) : Nat := match mode with | 2 => 20 | 3 | 4 => 16 | _ => 10

/-- Points per sheet of a decimation mode (R207), 0 when Off. -/
def perSheet (mode : Nat) : Nat := match mode with | 1 => 48 | 2 => 24 | 3 | 4 => 30 | _ => 0

/-- The decimated ring of an identity. -/
def Ctx.ringOf (x : Ctx) (k : Nat) : Option DecRing := x.dec.rings.find? fun r => r.id == k

/-- The local index of point `j`: points of a lower index, in the same grid epoch, of the same member (R206).
On a single die it is `j` itself. -/
def localIndex (f sl j : Nat) : Nat := (List.range j).countP fun i => pointOwner f sl i == pointOwner f sl j

/-- The member, by its place in the deal order, that holds point `i` of a decimated segment's epoch (R206). -/
def Segment.part (g : Segment) (e : Epoch) (i : Nat) : Nat :=
  if e.members.length ≤ 1 then 0 else pointOwner g.factor (48 * e.members.length) i

/-- The local index of point `i` in that member's part (R206). -/
def Segment.local (g : Segment) (e : Epoch) (i : Nat) : Nat :=
  if e.members.length ≤ 1 then i else localIndex g.factor (48 * e.members.length) i

/-- The capture address of member `q`'s sheet in line `line` of a stream-ring epoch (R198). -/
def Epoch.sheetPlace (e : Epoch) (q line : Nat) : Nat := capAddr (e.members.getD q 0) ((e.slot + line) % e.lines * 64)

/-- Where item `i` of a segment's epoch lies: capture address of its sheet, position, die (R198, R207). -/
def State.itemPlace (s : State) (c : Nat) (g : Segment) (e : Epoch) (i : Nat) : Nat × Nat × Nat :=
  if g.dec then
    let q := g.part e i
    let l := g.local e i
    let d := e.members.getD q 0
    match s.ctx c with
    | some x => match x.ringOf g.ring with
      | some r => (capAddr d (r.offs.getD q 0 + (e.slot + l / e.perLine) % e.lines * 64), l % e.perLine, d)
      | none => (0, 0, d)
    | none => (0, 0, d)
  else
    let p := i % e.perLine
    let d := e.members.getD (p / 48) 0
    (capAddr d ((e.slot + i / e.perLine) % e.lines * 64), p % 48, d)

/-- The bits of item `i` (R201, R207). -/
def State.itemAt (s : State) (c : Nat) (g : Segment) (e : Epoch) (i : Nat) : Nat :=
  let (a, p, _) := s.itemPlace c g e i
  s.fieldAt a p (itemBits g.mode)

/-- Whether a peak half, code or fine code of a mode is void. -/
def itemVoid (mode bits : Nat) : Bool :=
  match mode with
  | 2 => bits % 1024 == 0x200
  | 3 | 4 => bits == 0x8000
  | _ => bits == 0x200

/-! ## Decimated sheets (R207, R208) -/

/-- Points of a part that stand in finished sheets. -/
def DecPart.whole (p : DecPart) : Nat := p.filled - p.points.length

/-- Points whose sheets are written: up to the first point of an unfinished sheet (R195). -/
def decWritten (f : Nat) (e : Epoch) (parts : List DecPart) (n : Nat) : Nat :=
  if e.members.length ≤ 1 then min n (parts.getD 0 {}).whole
  else ((List.range n).find? fun j =>
    let q := pointOwner f (48 * e.members.length) j
    decide ((parts.getD q {}).whole ≤ localIndex f (48 * e.members.length) j)).getD n

/-- Segments of context `c` that pin sheet slot `slot` of its decimated ring `k`: in the part of member `q`, or in any part
(R186, R208). Points of an unfinished sheet pin nothing yet. -/
def State.decBlockers (s : State) (c k : Nat) (q : Option Nat) (slot : Nat) : List Segment :=
  match s.ctx c with
  | none => []
  | some x => x.segments.filter fun g => g.dec && !g.revoked && g.ring == k &&
      (match s.segSpan c g with
       | some (e, a, b) => (List.range (b - a)).any fun i =>
           let j := g.part e (a + i)
           let l := g.local e (a + i)
           (match q with | some q => j == q | none => true) && (!e.open_ || decide (l < (x.dec.parts.getD j {}).whole))
             && j < e.members.length && (e.slot + l / e.perLine) % e.lines == slot
       | none => false)

/-- Notes the instant at which the sheets that a paused decimator waits for became free (R188, R208). -/
def decFreed (s : State) (c : Nat) : State :=
  match s.ctx c with
  | none => s
  | some x =>
    match x.dec.rings.getLast? with
    | some r =>
      if x.dec.paused ∧ x.dec.freeAt = none ∧ s.decBlockers c r.id none r.slot = [] then
        s.setCtx c { x with dec := { x.dec with freeAt := some s.now } }
      else s
    | none => s

/-! ## Releases (R200, R208) -/

/-- Frees the decimated rings that are not in hand and hold no segment (R208). -/
def sweepRings (s : State) (c : Nat) : State :=
  match s.ctx c with
  | none => s
  | some x =>
    let hand := (x.dec.rings.getLast?.map DecRing.id)
    let dead := x.dec.rings.filter fun r =>
      hand != some r.id && !(x.segments.any fun g => g.dec && g.ring == r.id)
    dead.foldl (fun s r => (s.give c (.dec r.id)).modCtx c fun y =>
      { y with dec := { y.dec with rings := y.dec.rings.filter fun q => q.id != r.id } }) s

/-- Removes the published segment `seq` of context `c`: its entry and its pins are free (R199, R200). -/
def dropSegment (s : State) (c seq : Nat) : State :=
  decFreed (sweepRings (s.modCtx c fun x => { x with table := x.table.filter fun g => g.seq != seq }) c) c

/-- Releases a published segment: at once, or once the bursts begun on it have completed (R200). -/
def releaseSegment (s : State) (c seq : Nat) : State :=
  match s.ctx c with
  | none => s
  | some x =>
    match x.table.find? fun g => g.seq == seq with
    | none => s
    | some g =>
      if g.bursts = 0 then dropSegment s c seq
      else s.setCtx c { x with table := x.table.map fun h => if h.seq = seq then { h with released := true } else h }

/-- The published segment of context `c` with a SEQ (R200, R215). -/
def State.held (s : State) (c seq : Nat) : Option Segment :=
  match s.ctx c with
  | some x => x.table.find? fun g => g.seq == seq
  | none => none

/-! ## Descriptors and table entries (R196, R199, R251) -/

/-- The bytes of a touchmark record (R47, R48). -/
def recordBytes (c : Nat) (g : Segment) : List Byte :=
  leBytes 8 (tmOfGrains g.tm).toNat ++ leBytes 2 (wrapOfGrains g.tm) ++ leBytes 2 (c + g.recFlags * 4096)
    ++ leBytes 4 g.seq

/-- DESC_FLAGS of a segment (R197). -/
def Segment.descFlags (g : Segment) : Nat := g.flags + b2n g.revoked * 4

/-- The 64 bytes of a segment's descriptor (R196). -/
def descriptor (c : Nat) (g : Segment) : List Byte :=
  let e : Epoch := g.ep.getD { number := 0, t0 := 0, period := 0, slot := 0, lines := 0, perLine := 0, members := [] }
  recordBytes c g ++ leBytes 8 (tmOfGrains g.firstTm).toNat ++ leBytes 2 (wrapOfGrains g.firstTm)
    ++ leBytes 2 g.descFlags ++ leBytes 4 (orderNibbles e.members) ++ leBytes 4 e.slot ++ leBytes 4 e.number
    ++ leBytes 8 (if g.count = 0 then 0 else g.first) ++ leBytes 8 g.count ++ leBytes 2 e.perLine
    ++ leBytes 4 e.lines ++ leBytes 2 0

/-- Where entry `g.entry` of a table of context `c` stands, `n` bytes an entry (R199, R251). -/
def State.entryAddr (s : State) (c : Nat) (k : AllocKind) (g : Segment) (n : Nat) : Option Nat :=
  (s.allocs.find? fun a => a.ctx == c && a.kind == k).map fun a => capAddr a.die (a.off + g.entry * n)

/-- Writes an entry of a table of context `c`, where the table is placed. -/
def putEntry (s : State) (c : Nat) (k : AllocKind) (g : Segment) (n : Nat) (bs : List Byte) : State :=
  match s.entryAddr c k g n with
  | some a => s.store a bs
  | none => s

/-- The descriptor of a held segment is written in its entry (R196, R199). -/
def putDescriptor (s : State) (c : Nat) (g : Segment) : State := putEntry s c .table g 64 (descriptor c g)

/-- The entry a segment takes as it is published: the lowest that no held segment has (DESIGN CHOICE, log 99). -/
def freeEntry (t : List Segment) : Nat :=
  ((List.range (t.length + 1)).find? fun e => !(t.map Segment.entry).contains e).getD 0

end Sys2Proof.Machine
end

