-- ==== Sys2Proof/Machine/Trigger.lean ====
section
/-!
DEFINITION. Trigger evaluators (chapter 5): trits, the trigger types over the trits, holdoff and acceptance,
forced events, paired evaluation, level changes, trigger in and trigger out.
Samples wait in the evaluator until TRIGGER_ACCEPT judges them core cycle by core cycle, so that every cycle sees
what acceptance in the cycle before left (log 6).
-/
namespace Sys2Proof.Machine

/-! ## Trits (R29, R138) -/

/-- The trit of a code under a threshold pair (R29); void repeats the trit before it. -/
def tritOf (low high : Int) (last : Nat) (c : Int) : Nat :=
  if c = voidCode then last else if c < low then 0 else if high < c then 2 else 1

/-- Five trits packed into one byte, the earliest first (R30). -/
def packTrits (ts : List Nat) : Byte :=
  BitVec.ofNat 8 (ts.getD 0 1 + 3 * ts.getD 1 1 + 9 * ts.getD 2 1 + 27 * ts.getD 3 1 + 81 * ts.getD 4 1)

/-- A stream of trits packed five to a byte; a last byte is completed with trit 1 (R30). -/
def packStream : Nat → List Nat → List Byte
  | 0, _ => []
  | n + 1, ts => if ts.isEmpty then [] else packTrits ts :: packStream n (ts.drop 5)

/-- The level of a context's object in force at the base period `t`: the value that the first level write with a later in-force
cycle replaced, else the present one (R168). -/
def State.lvl (s : State) (c k t : Nat) : Slot :=
  match s.ctx c with
  | some x => match x.levels.find? fun l => decide (t < l.1) && l.2.1 == k with
    | some l => l.2.2
    | none => s.obj c k
  | none => s.obj c k

/-- The threshold pair a context compares input `n` against at the base period `at_`; `second` for B of Sequence (R138,
R142). -/
def State.pairOf (s : State) (c n : Nat) (second : Bool) (at_ : Nat) : Int × Int :=
  let t := s.cN c O.TRIG_TYPE
  let v (k : Nat) : Slot := s.lvl c k at_
  let band (l : Int) (h : Nat) : Int × Int := (l - h, l + h)
  if second then band (v O.SEQ_B_LEVEL).toInt (v O.SEQ_B_HYST).toNat
  else if t = 2 ∨ t = 4 ∨ t = 5 then ((v O.TRIG_LEVEL).toInt, (v O.TRIG_LEVEL_B).toInt)
  else if t = 7 ∨ (t = 8 ∧ s.cN c O.TRIG_SOURCE ≠ n) then
    band (v (O.PAT_LEVEL_k + n)).toInt (v (O.PAT_HYST_k + n)).toNat
  else band (v O.TRIG_LEVEL).toInt (v O.TRIG_HYST).toNat

/-! ## The trigger types over trits (R139 to R144) -/

/-- Advances an edge arming by one trit; the result says which edges fire (R139). -/
def edgeStep (a : EdgeArm) (t : Nat) : EdgeArm × Bool × Bool :=
  ({ rise := t == 0 || (a.rise && t != 2), fall := t == 2 || (a.fall && t != 0) },
   a.rise && t == 2, a.fall && t == 0)

/-- Edges of a source at one sample; for trigger in the stamped edge itself (R164). -/
def edgesAt (a : EdgeArm) (src t : Nat) : EdgeArm × Bool × Bool :=
  if src = 8 then (a, t == 2, t == 0) else edgeStep a t

/-- Whether an edge of the selected slope fired (R140). -/
def slopeSel (slope : Nat) (r f : Bool) : Bool :=
  match slope with
  | 0 => r
  | 1 => f
  | _ => r || f

/-- Whether a duration qualifies under TRIG_COND (R141); an unknown one only when TRIG_COND is 0. -/
def qualifies (cond t1 t2 : Nat) (w : Option Nat) : Bool :=
  match cond, w with
  | 0, _ => true
  | _, none => false
  | 1, some w => decide (w < t1)
  | 2, some w => decide (t1 < w)
  | 3, some w => decide (t1 ≤ w ∧ w ≤ t2)
  | _, some w => decide (w < t1 ∨ t2 < w)

/-- The settings of a context's trigger that its evaluators read. -/
structure TrigCfg where
  type : Nat
  src : Nat
  slope : Nat
  level : Int
  levelB : Int
  cond : Nat
  t1 : Nat
  t2 : Nat
  count : Nat
  bSrc : Nat
  bSlope : Nat
  bLevel : Int
  qual : Nat
  seqCount : Nat
  seqReset : Nat
  req : List (Nat × Bool)              -- inputs with a requirement, true High
  patLevel : List (Nat × Int)
  deriving DecidableEq, Repr

/-- The settings of context `c` in force at the base period `at_`. -/
def State.trigCfg (s : State) (c at_ : Nat) : TrigCfg :=
  { type := s.cN c O.TRIG_TYPE, src := s.cN c O.TRIG_SOURCE, slope := s.cN c O.TRIG_SLOPE
    level := (s.lvl c O.TRIG_LEVEL at_).toInt, levelB := (s.lvl c O.TRIG_LEVEL_B at_).toInt
    cond := s.cN c O.TRIG_COND, t1 := durGrains (s.obj c O.TRIG_T1), t2 := durGrains (s.obj c O.TRIG_T2)
    count := s.cN c O.TRIG_COUNT, bSrc := s.cN c O.SEQ_B_SOURCE, bSlope := s.cN c O.SEQ_B_SLOPE
    bLevel := (s.lvl c O.SEQ_B_LEVEL at_).toInt, qual := s.cN c O.SEQ_QUAL, seqCount := s.cN c O.SEQ_COUNT
    seqReset := durGrains (s.obj c O.SEQ_RESET)
    req := (s.patInputs c).map fun k => (k, s.patReq c k == 2)
    patLevel := (s.patInputs c).map fun k => (k, (s.lvl c (O.PAT_LEVEL_k + k) at_).toInt) }

/-- Whether a firing sample lies after the last accepted event (R143, R144). -/
def EvalSt.after (e : EvalSt) (t : Nat) : Bool := match e.bar with | some b => decide (b < t) | none => true

/-- Single-source edge types: Edge, Width, Interval and Event count. -/
def stepEdgeType (g : TrigCfg) (e : EvalSt) (j : Judged) : EvalSt × List Detection :=
  let (a, r, f) := edgesAt e.armA j.src j.trit
  let e := { e with armA := a }
  let det (rising : Bool) : Detection := { fire := j.at_, src := j.src, level := g.level, rising }
  let q (w : Option Nat) : Bool := qualifies g.cond g.t1 g.t2 w
  match g.type with
  | 1 => (e, if slopeSel g.slope r f then [det r] else [])
  | 3 =>
    let up := if f ∧ g.slope ≠ 1 then
        (match e.startUp with | some t => if q (some (j.at_ - t)) then [det false] else [] | none => []) else []
    let dn := if r ∧ g.slope ≠ 0 then
        (match e.startDown with | some t => if q (some (j.at_ - t)) then [det true] else [] | none => []) else []
    ({ e with
        startUp := if r then some j.at_ else if f then none else e.startUp
        startDown := if f then some j.at_ else if r then none else e.startDown }, up ++ dn)
  | 6 =>
    if slopeSel g.slope r f then
      ({ e with lastEdge := some j.at_ },
       match e.lastEdge with | some t => if q (some (j.at_ - t)) then [det r] else [] | none => [])
    else (e, [])
  | 10 =>
    if slopeSel g.slope r f ∧ e.after j.at_ then
      if g.t1 = 0 then
        if g.count ≤ e.count + 1 then ({ e with count := 0 }, [det r])
        else ({ e with count := e.count + 1 }, [])
      else
        let es := (j.at_ :: e.edges).take 64
        ({ e with edges := es },
         match es[g.count - 1]? with
         | some t => if j.at_ - t ≤ g.t1 then [det r] else []
         | none => [])
    else (e, [])
  | _ => (e, [])

/-- Two-level types: Window, Runt and Slew. Window has two states, inside and outside the levels: a trit 0 followed by trit 2, or
2 by 0, is no transition and the time outside runs on (DESIGN CHOICE, log 95). -/
def stepBandType (g : TrigCfg) (e : EvalSt) (j : Judged) : EvalSt × List Detection :=
  let last := kvGet e.lastTrit j.src
  let t := j.trit
  let q (w : Option Nat) : Bool := qualifies g.cond g.t1 g.t2 w
  let det (l : Int) (rising : Bool) : Detection := { fire := j.at_, src := j.src, level := l, rising }
  let e' := { e with lastTrit := kvPut e.lastTrit j.src t }
  match g.type with
  | 2 =>
    match last with
    | none => (e', [])
    | some p =>
      let enter := p ≠ 1 ∧ t = 1
      let leave := p = 1 ∧ t ≠ 1
      let w := e.since.map fun b => j.at_ - b
      let ds := if enter ∧ g.slope ≠ 1 ∧ q w then [if p = 0 then det g.level true else det g.levelB false]
        else if leave ∧ g.slope ≠ 0 ∧ q w then [if t = 0 then det g.level false else det g.levelB true]
        else []
      (if enter ∨ leave then { e' with since := some j.at_ } else e', ds)
  | 4 =>
    let up := if t = 0 then
        (match e.runtUp with | some b => if g.slope ≠ 1 ∧ q (some (j.at_ - b)) then [det g.level false] else []
                             | none => []) else []
    let dn := if t = 2 then
        (match e.runtDown with | some b => if g.slope ≠ 0 ∧ q (some (j.at_ - b)) then [det g.levelB true] else []
                               | none => []) else []
    ({ e' with
        runtUp := if t = 1 then (if last = some 0 then some j.at_ else e.runtUp) else none
        runtDown := if t = 1 then (if last = some 2 then some j.at_ else e.runtDown) else none }, up ++ dn)
  | 5 =>
    let up := if t = 2 then
        (match e.slewUp with | some b => if g.slope ≠ 1 ∧ q (some (j.at_ - b)) then [det g.levelB true] else []
                             | none => []) else []
    let dn := if t = 0 then
        (match e.slewDown with | some b => if g.slope ≠ 0 ∧ q (some (j.at_ - b)) then [det g.level false] else []
                               | none => []) else []
    ({ e' with
        slewUp := if t = 0 then some j.at_ else if t = 2 then none else e.slewUp
        slewDown := if t = 2 then some j.at_ else if t = 0 then none else e.slewDown }, up ++ dn)
  | _ => (e', [])

/-- Updates the pattern state of one input by a sample (R142): Low after trit 0, High after trit 2. -/
def patUpdate (e : EvalSt) (j : Judged) : EvalSt :=
  if j.trit = 1 then e else { e with levels := kvPut e.levels j.src (j.trit == 2) }

/-- Whether every input with a requirement is in its required state (R142). -/
def patTrue (g : TrigCfg) (e : EvalSt) : Bool := g.req.all fun (k, hi) => kvGet e.levels k == some hi

/-- Pattern (R140, R142): the samples of one instant judged together. -/
def stepPattern (g : TrigCfg) (e : EvalSt) (js : List Judged) : EvalSt × List Detection :=
  let e' := js.foldl patUpdate e
  let was := e.pattern.getD false
  let now := patTrue g e'
  let at_ := (js.map Judged.at_).headD 0
  if now = was then ({ e' with pattern := some now }, [])
  else
    let changed := js.filter fun j => kvGet e.levels j.src ≠ kvGet e'.levels j.src
    let k := (changed.map Judged.src).foldl min 8
    let w := e.since.map fun b => at_ - b
    let d : Detection := { fire := at_, src := k, level := (kvGet g.patLevel k).getD 0
                           rising := (kvGet e'.levels k).getD false }
    let want := if now then g.slope != 1 else g.slope != 0
    ({ e' with pattern := some now, since := some at_ },
     if want && qualifies g.cond g.t1 g.t2 w then [d] else [])

/-- State (R140, R142): the pattern at an edge of the clock. R140 leaves open which edges of the clock count; the model takes
those TRIG_SLOPE selects, as for Edge (DESIGN CHOICE, log 67). -/
def stepState (g : TrigCfg) (e : EvalSt) (js : List Judged) : EvalSt × List Detection :=
  let e := (js.filter fun j => j.src ≠ g.src).foldl patUpdate e
  match js.find? fun j => j.src == g.src with
  | some j =>
    let (a, r, f) := edgesAt e.armA j.src j.trit
    ({ e with armA := a },
     if slopeSel g.slope r f ∧ patTrue g e then [{ fire := j.at_, src := j.src, level := g.level, rising := r }]
     else [])
  | none => (e, [])

/-- Sequence (R143): A then B. `second` marks samples of B's own comparison. -/
def stepSequence (g : TrigCfg) (e : EvalSt) (js : List (Judged × Bool)) : EvalSt × List Detection :=
  let at_ := (js.map fun j => j.1.at_).headD 0
  let e := match e.seqA with
    | some a => if g.seqReset ≠ 0 ∧ g.seqReset < at_ - a then { e with seqA := none, seqB := 0 } else e
    | none => e
  let waitB := e.seqA
  let stepB : EvalSt × List Detection := match js.find? fun j => j.2 with
    | some (j, _) =>
      let (b, r, f) := edgesAt e.armB j.src j.trit
      let e := { e with armB := b }
      if slopeSel g.bSlope r f then
        match waitB with
        | some a =>
          let d : Detection := { fire := j.at_, src := j.src, level := g.bLevel, rising := r }
          if j.at_ ≤ a then (e, [])
          else match g.qual with
            | 0 => (e, if g.t1 ≤ j.at_ - a then [d] else [])
            | 1 => if j.at_ - a ≤ g.t1 then (e, [d]) else ({ e with seqA := none, seqB := 0 }, [])
            | _ => ({ e with seqB := e.seqB + 1 }, if e.seqB + 1 = g.seqCount then [d] else [])
        | none => (e, [])
      else (e, [])
    | none => (e, [])
  match js.find? fun j => !j.2 with
  | some (j, _) =>
    let e := stepB.1
    let (a, r, f) := edgesAt e.armA j.src j.trit
    let e := { e with armA := a }
    -- a B that ended the sequence at this sample is not taken as A
    (if slopeSel g.slope r f ∧ waitB = none ∧ e.after j.at_ then { e with seqA := some j.at_, seqB := 0 } else e, stepB.2)
  | none => stepB

/-- A gap (R150): detection state is discarded. -/
def EvalSt.gap (e : EvalSt) : EvalSt := { waiting := e.waiting }

/-- Judges the samples of one instant (R140). A sample of source `16 + n` is B's comparison of input n. -/
def judge (g : TrigCfg) (e : EvalSt) (js : List Judged) : EvalSt × List Detection :=
  if js.any fun j => j.src == 9 then (e.gap, [])
  else match g.type with
    | 0 => (e, [])
    | 7 => stepPattern g e js
    | 8 => stepState g e js
    | 9 => stepSequence g e (js.map fun j =>
        if 16 ≤ j.src then ({ j with src := j.src - 16 }, true) else (j, false))
    | 2 | 4 | 5 => js.foldl (fun (a : EvalSt × List Detection) j =>
        let r := stepBandType g a.1 j; (r.1, a.2 ++ r.2)) (e, [])
    | _ => js.foldl (fun (a : EvalSt × List Detection) j =>
        let r := stepEdgeType g a.1 j; (r.1, a.2 ++ r.2)) (e, [])

/-- Judges a list of samples in time order, those of one instant together. -/
def judgeAll (g : TrigCfg) : Nat → EvalSt → List Judged → EvalSt × List Detection
  | 0, e, _ => (e, [])
  | n + 1, e, js =>
    match js with
    | [] => (e, [])
    | j :: _ =>
      let same := js.filter fun i => i.at_ == j.at_
      let (e, d) := judge g e same
      let (e, ds) := judgeAll g n e (js.filter fun i => i.at_ != j.at_)
      (e, d ++ ds)

/-! ## Acceptance (R145 to R148) -/

/-- Entries of the segment table in use (R199). -/
def Ctx.inUse (x : Ctx) : Nat := x.pending.length + x.table.length

/-- Whether every entry of the segment table is reserved (R199). -/
def State.tableUsed (s : State) (c : Nat) (x : Ctx) : Bool :=
  s.cN c O.SEG_FULL_ACTION == 0 && decide (s.cN c O.SEG_TABLE_SIZE ≤ x.inUse)

/-- The first core cycle after STOP_TIME has passed, none without it (R210). -/
def State.stopTimeAt (s : State) (c : Nat) (x : Ctx) : Option Nat :=
  let n := (s.obj c O.STOP_TIME).toNat
  if n = 0 then none else some ((x.stopFrom + n) / 48 * 48 + 48)

/-- Whether acceptance has ended for the core cycle `cyc`: a stop condition was met in an earlier one, or the last entry of
the table is reserved under Stop (R148, R199, R210). -/
def State.acceptEnded (s : State) (c : Nat) (x : Ctx) (cyc : Nat) : Bool :=
  x.tableFull || s.tableUsed c x
    || (match x.stopAt with | some t => decide (t ≤ cyc) | none => false)
    || (match s.stopTimeAt c x with | some t => decide (t ≤ cyc) | none => false)

/-- Whether context `c` accepts in the core cycle `cyc`: it is Armed and no command that ends the state was served before that
cycle began (R180). -/
def Ctx.accepting (x : Ctx) (cyc : Nat) : Bool :=
  x.st == .armed && decide (x.armAt ≤ cyc) && (match x.busy with | some (_, t) => decide (cyc ≤ t) | none => true)

/-- Reserves a segment for an accepted event (R195, R199). Under Overwrite the release of an oldest segment on which bursts run
takes effect after them (R200): until then no entry is free, and the event gets none (DESIGN CHOICE, log 98). -/
def reserve (s : State) (c : Nat) (seg : Segment) : State :=
  match s.ctx c with
  | none => s
  | some x =>
    let drop (s : State) : State := (s.countSat c O.SEG_DROPPED 32).flag c O.CTX_STATUS 5
    -- the record takes a mismatch that waits for the context's next one (R162)
    let add (x : Ctx) : Ctx :=
      { x with pending := x.pending ++ [{ seg with mismatch := x.mismatchNext }], mismatchNext := false }
    if 16 ≤ x.pending.length then drop s
    else if x.inUse < s.cN c O.SEG_TABLE_SIZE then
      let y := add x
      s.setCtx c { y with tableFull := s.tableUsed c y }
    else match x.table with
      | [] => drop s
      | g :: _ => if g.bursts = 0 then (dropSegment s c g.seq).modCtx c add else drop (releaseSegment s c g.seq)

/-- The trigger-out edge of an event at `g` grains with latency L (R166). -/
def trigOutEdge (g l : Nat) : Nat := roundEarlier (g + l * 23040) 120 * 120

/-- What an event accepted at `t` grains leaves of the detection state: the sequence waits for an A after it, the count starts
afresh from the edge after it (R143, R144). -/
def EvalSt.accepted (e : EvalSt) (t : Nat) : EvalSt :=
  { e with seqA := none, seqB := 0, edges := [], count := 0, bar := some t }

/-- L of an event located at `fire` grains: the old one for those before the gap that altered it (R165, R167). -/
def State.latencyAt (s : State) (c : Nat) (x : Ctx) (fire : Nat) : Nat :=
  if fire < x.latFrom then x.latOld else s.cN c O.TRIG_LATENCY

/-- An event is accepted in the core cycle `cyc` (R145 to R149): counters, holdoff, stop count, segment, and the router's
pulse. While a command that ends the state takes effect it still counts and gets no segment, since it will not have been
delivered (R180, R211). -/
def acceptEvent (s : State) (c g fire : Nat) (forced fallback : Bool) : State :=
  match s.ctx c with
  | none => s
  | some x =>
    let cyc := fire / 480 / 48 * 48
    let n := x.sinceArm + 1
    let stop := s.cN c O.STOP_COUNT
    let hit := stop != 0 && decide (stop ≤ n)
    let lat := s.latencyAt c x fire
    let x' := { x with
      holdUntil := g + s.cN c O.HOLDOFF_TIME * 480
      holdEvents := s.cN c O.HOLDOFF_EVENTS
      lastCycle := some cyc, autoFrom := cyc, sinceArm := n, late := false
      stopMet := x.stopMet || hit
      stopAt := if hit && x.stopAt.isNone then some (cyc + 48) else x.stopAt
      toCompare := if x.partners = [] then [] else x.toCompare ++ [(fire, g, fallback)]
      ev := x.ev.accepted fire }
    let s := s.setCtx c x'
    let s := s.countWrap c O.TRIG_EVENTS 64
    let s := (s.setObj c O.TRIG_LAST_TM (tmOfGrains g)).setObj c O.TRIG_LAST_WRAP (ofN (wrapOfGrains g))
    let s := s.flag c O.TRIG_STATUS 0
    let s := if fallback then (s.countSat c O.TRIG_FALLBACKS 32).flag c O.TRIG_STATUS 1 else s
    let s := if x.busy.isSome then s
      else reserve s c { tm := g, forced, fallback
                         input := s.cN c O.CTX_INPUT, pre := s.cI c O.SEG_PRE, len := s.cN c O.SEG_LENGTH
                         dec := s.cN c O.DEC_MODE != 0, mode := s.cN c O.DEC_MODE, factor := s.cN c O.DEC_FACTOR, lat
                         ring := (x.dec.rings.getLast?.map DecRing.id).getD 0 }
    pulseAt s 1 0 c (some (trigOutEdge g lat))

/-- Takes the detections of one core cycle, earliest crossing first: skips those holdoff blocks, accepts the
first it admits (R145 to R147). The result names the firing sample of the one accepted. -/
def admitFirst (s : State) (c cyc : Nat) : List (Nat × Bool × Nat) → State × Option Nat
  | [] => (s, none)
  | (g, fb, fire) :: r =>
    match s.ctx c with
    | none => (s, none)
    | some x =>
      if s.acceptEnded c x cyc then (s, none)
      else
        let timeMode := s.cN c O.HOLDOFF_MODE = 0
        if timeMode ∧ g < x.holdUntil then admitFirst (s.countWrap c O.TRIG_HELD_OFF 64) c cyc r
        else if ¬ timeMode ∧ x.holdEvents ≠ 0 then
          admitFirst ((s.setCtx c { x with holdEvents := x.holdEvents - 1 }).countWrap c O.TRIG_HELD_OFF 64) c cyc r
        else (acceptEvent s c g fire false fb, some fire)

/-- The die of the evaluator whose detections fire: B's for Sequence (R136, R143). -/
def State.firingDie (s : State) (c : Nat) (x : Ctx) : Nat :=
  if s.cN c O.TRIG_TYPE = 9 then x.evals.getD 1 0 / 8 else x.homeDie

/-- The source of the mark that a forced event leaves among the samples an evaluator still has to judge: the event is taken
in its place in time (R149). Trit 5 marks TRIG_FORCE, 4 TRIG_AUTO: the bit of TRIG_STATUS each sets. -/
def forceSrc : Nat := 10

/-- A forced event in the core cycle that begins at `t`: it ignores holdoff and takes the cycle (R149). An expiry of
TRIG_AUTO (bit 4) makes none where an event accepted meanwhile has restarted its count. -/
def forcedEvent (s : State) (c t b : Nat) : State :=
  match s.ctx c with
  | some x =>
    if s.acceptEnded c x t ∨ !x.accepting t ∨ (b = 4 ∧ t < x.autoFrom + s.cN c O.TRIG_AUTO) ∨ x.lastCycle = some t then s
    else (acceptEvent s c (t * 480) (t * 480) true false).flag c O.TRIG_STATUS b
  | none => s

/-- Judges the waiting samples of one core cycle and takes its detections. Samples after the firing sample of an
accepted event are judged again from the state that acceptance leaves. A detection belongs to the core cycle of its firing
sample, also where its crossing lies in the cycle before (DEDUCED, log 96). A tap that missed the deadline is one of the first
detection located since: the later ones have theirs (R156, log 65). -/
def judgeCycle (s : State) (c : Nat) (js : List Judged) (cyc : Nat) : State × Bool :=
  match s.ctx c with
  | none => (s, false)
  | some x =>
    let g := s.trigCfg c cyc
    let (e, ds) := judgeAll g js.length x.ev js
    let located := sortBy (fun d : Nat × Bool × Nat => d.1) ((List.range ds.length).zip ds |>.map fun (i, d) =>
      let r := s.locate (s.firingDie c x) (x.late && i == 0) d
      (r.1, r.2, d.fire))
    let s := s.setCtx c { x with ev := e, late := x.late && ds.isEmpty }
    if x.accepting cyc ∧ x.lastCycle ≠ some cyc then
      match admitFirst s c cyc (located.filter fun d => decide (x.armAt * 480 ≤ d.1)) with
      | (s, none) => (s, false)
      | (s, some fire) =>
        let e := (judgeAll g js.length x.ev (js.filter fun j => decide (j.at_ ≤ fire))).1.accepted fire
        (s.modCtx c fun y => { y with ev := { e with
            waiting := (js.filter fun j => decide (fire < j.at_)) ++ y.ev.waiting } }, true)
    else (s, false)

/-- Whether input `n` yields no samples for now: its writer is Paused, it changes or settles, or a member re-deals (R185,
R188). -/
def State.stalled (s : State) (n : Nat) : Bool :=
  let x := s.input n
  x.ring == .paused || !(x.st == .single || x.st == .alloyed) || x.settling.isSome || x.members.any fun d => (s.die d).gap

/-- The instant up to which every watched input's samples and the taps after them are known (R152, R156). -/
def State.horizon (s : State) (c : Nat) (late : Bool) : Nat :=
  let ends := (s.watched c).map fun n =>
    match (s.input n).taps with
    | [] => s.now * 480
    | (t, _) :: _ => if late then t + s.period n
      else if s.stalled n then max (s.now * 480) (t + s.period n) else t - 7 * s.period n
  ends.foldl min (s.now * 480 + 23040)

/-- Judges waiting samples core cycle by core cycle, up to the horizon, until one is accepted. A forced event of the cycle is
taken before its samples. -/
def acceptLoop (c : Nat) : Nat → State → State
  | 0, s => s
  | n + 1, s =>
    match s.ctx c with
    | none => s
    | some x =>
      match x.ev.waiting with
      | [] => s
      | j :: r =>
        let hor := s.horizon c x.late
        let cyc := j.at_ / 23040
        if j.src = forceSrc then
          if hor < cyc * 23040 then s
          else forcedEvent (s.setCtx c { x with ev := { x.ev with waiting := r } }) c (cyc * 48) j.trit
        else if hor < (cyc + 1) * 23040 then s
        else
          let js := x.ev.waiting.filter fun i => i.at_ / 23040 == cyc
          let s := s.setCtx c { x with ev := { x.ev with waiting := x.ev.waiting.filter fun i => i.at_ / 23040 != cyc } }
          match judgeCycle s c js (cyc * 48) with
          | (s, true) => s
          | (s, false) => acceptLoop c n s

/-- TRIGGER_ACCEPT (R145): judges the samples received, in time order, and accepts the next event. -/
def execTriggerAccept (c : Nat) (s : State) : Host.Outcome State Fault Refusal :=
  done (match s.ctx c with
    | some x => if x.bound then acceptLoop c (x.ev.waiting.length + 1) s else s
    | none => s)

/-- The inputs in which a context's events are located (R140, R143). -/
def State.located (s : State) (c : Nat) : List Nat :=
  (match s.bindKind c with
   | 1 => if s.cN c O.TRIG_TYPE = 7 then s.patInputs c else [s.cN c O.TRIG_SOURCE]
   | 2 => [s.cN c O.SEQ_B_SOURCE]
   | _ => [s.cN c O.TRIG_SOURCE]).filter (· < 8)

/-- Whether the evaluator that locates the events of context `c` fetches taps: some input it locates them in is served by
another die than its own (R156). -/
def State.fetchesTaps (s : State) (c : Nat) (x : Ctx) : Bool :=
  (s.located c).any fun n => (s.input n).members.any (· != s.firingDie c x)

/-- TAP_FETCH_DEADLINE (R156): a tap another die holds has not arrived; the next event falls back (R154). Where the evaluator's
die holds every tap the deadline does not apply. -/
def execTapFetchDeadline (c : Nat) (s : State) : Host.Outcome State Fault Refusal :=
  done (match s.ctx c with
    | some x => if x.bound ∧ x.evals ≠ [] ∧ s.fetchesTaps c x then s.setCtx c { x with late := true } else s
    | none => s)

/-- HOLDOFF_EXPIRY (R146): the time holdoff ends as device time reaches its end; what lies before that end stays blocked,
though it is judged later. -/
def execHoldoffExpiry (c : Nat) (s : State) : Host.Outcome State Fault Refusal :=
  done (match s.ctx c with
    | some x => if x.bound ∧ s.cN c O.HOLDOFF_MODE = 0 then s.runTo ((x.holdUntil + 479) / 480) else s
    | none => s)

/-! ## Forced events (R149) -/

/-- The effect of a write of TRIG_FORCE: a forced event is due at the next core cycle, while Armed. -/
def forceWrite (s : State) (c : Nat) (v : Slot) : Acc :=
  if v = 1 then
    .ok (s.modCtx c fun x =>
      if x.st = .armed ∧ x.forceAt.isNone then { x with forceAt := some (s.cycle + 48) } else x)
  else .ok s

/-- A write of TRIG_FORCE, checked in the order of R420. -/
def trigForceWrite (s : State) (p c : Nat) (v : Slot) : Acc :=
  ctxOwnerOnly s p c fun s => need (ObjTy.u8.fits v) .range s fun s => forceWrite s c v

/-- TRIG_FORCE (R149). -/
def execTrigForce (p : Nat) (v : Slot) (s : State) : Host.Outcome State Fault Refusal :=
  done (access s p O.TRIG_FORCE fun s => trigForceWrite s p (s.selected p) v)

/-- Whether samples before the base period `t` are still to be judged, or still to come from a stream that runs. -/
def State.behind (s : State) (c t : Nat) : Bool :=
  (match s.ctx c with | some x => x.ev.waiting.any fun j => decide (j.at_ < t * 480) | none => false)
    || (s.watched c).any fun n => !s.stalled n && (match (s.input n).ring, (s.input n).epochs with
        | .writing, e :: _ => decide (e.endT < t * 480)
        | _, _ => false)

/-- A forced event at the core cycle `t`: at once where everything before it has been judged, else it takes its place among
the samples that TRIGGER_ACCEPT judges (R145, R149). -/
def forceAtCycle (s : State) (c t b : Nat) : State :=
  let s := s.runTo t
  if s.behind c t then
    s.modCtx c fun x => { x with ev := { x.ev with
      waiting := x.ev.waiting.filter (fun j => decide (j.at_ < t * 480)) ++ { at_ := t * 480, src := forceSrc, trit := b }
        :: x.ev.waiting.filter fun j => decide (t * 480 ≤ j.at_) } }
  else forcedEvent s c t b

/-- FORCED_EVENT (R149): the forced event of an earlier write. -/
def execForcedEvent (c : Nat) (s : State) : Host.Outcome State Fault Refusal :=
  done (match s.ctx c with
    | some x => match x.forceAt with
      | some t =>
        let s' := s.setCtx c { x with forceAt := none }
        if x.st = .armed then forceAtCycle s' c t 5 else s'
      | none => s
    | none => s)

/-- The core-cycle boundary at which TRIG_AUTO base periods have passed without an accepted event (R149). -/
def State.autoDue (s : State) (c : Nat) (x : Ctx) : Nat := (x.autoFrom + s.cN c O.TRIG_AUTO + 47) / 48 * 48

/-- TRIG_AUTO_EXPIRY (R149): TRIG_AUTO base periods have passed without an accepted event. -/
def execTrigAutoExpiry (c : Nat) (s : State) : Host.Outcome State Fault Refusal :=
  done (match s.ctx c with
    | some x =>
      if x.st = .armed ∧ s.cN c O.TRIG_AUTO ≠ 0 then forceAtCycle s c (s.autoDue c x) 4 else s
    | none => s)

/-! ## Paired evaluation (R162) -/

/-- Whether the partner's report matches an event of the home evaluator: the same firing sample and, when neither fell back,
instants no more than the tolerance apart (R162). -/
def pairMatches (h : Nat × Nat × Bool) (tol : Nat) (p : PairEvent) : Bool :=
  p.fire == h.1 && (p.fallback || h.2.2 || decide (max p.instant h.2.1 - min p.instant h.2.1 ≤ tol))

/-- PAIR_MISMATCH stands in the record of the event at `g` grains (R48, R162). -/
def markMismatch (g : Nat) (x : Ctx) : Ctx :=
  let mark (h : Segment) : Segment :=
    if h.tm = g then { h with mismatch := true, recFlags := if h.closed then h.recFlags ||| 4 else h.recFlags } else h
  { x with pending := x.pending.map mark, table := x.table.map mark }

/-- A mismatch: counted, flagged, and its evaluators come to be tested (R162, R525). -/
def mismatchSeen (s : State) (c : Nat) (x : Ctx) : State :=
  let s := (s.countSat c O.TRIG_MISMATCHES 32).flag c O.TRIG_STATUS 2
  { s with faults := { s.faults with
    pairTest := s.faults.pairTest ++ [(x.evals.headD 0, uniq (x.evals ++ x.partners))] } }

/-- PAIR_EVENT_COMPARE (R162, R525): the partner's event, or none where it accepted nothing for the oldest event of the home
evaluator. A partner's event in a core cycle in which the home evaluator accepted nothing marks the context's next record. -/
def execPairEventCompare (c : Nat) (partner : Option PairEvent) (s : State) :
    Host.Outcome State Fault Refusal :=
  done (match s.ctx c with
    | some x =>
      if x.bound ∧ x.partners ≠ [] then
        match partner with
        | none =>
          match x.toCompare with
          | [] => s
          | h :: r => mismatchSeen (s.setCtx c (markMismatch h.2.1 { x with toCompare := r })) c x
        | some p =>
          match x.toCompare.find? fun h => h.1 / 23040 == p.fire / 23040 with
          | none => mismatchSeen (s.setCtx c { x with mismatchNext := true }) c x
          | some h =>
            let y := { x with toCompare := x.toCompare.erase h }
            if pairMatches h (s.cN c O.TRIG_PAIR_TOL) p then s.setCtx c y
            else mismatchSeen (s.setCtx c (markMismatch h.2.1 y)) c x
      else s
    | none => s)

/-! ## Level changes (R168) -/

/-- Objects of a context that may be written while it is Armed or Held (R168, R171). -/
def isLevelObj (k : Nat) : Bool :=
  k == O.TRIG_LEVEL || k == O.TRIG_HYST || k == O.TRIG_LEVEL_B || k == O.SEQ_B_LEVEL || k == O.SEQ_B_HYST ||
  (decide (O.PAT_LEVEL_k ≤ k) && decide (k < O.PAT_LEVEL_k + 16))

/-- A level write of a context: while Armed or Held the old value stays in force for 8 core cycles; a write that waits already
takes its in-force cycle from the new one, and one whose cycle has come is reported (R168). -/
def levelWrite (s : State) (c k : Nat) (v : Slot) : Acc :=
  match s.ctx c with
  | none => .ok s
  | some x =>
    let old := s.lvl c k s.now
    let s := s.setObj c k v
    if x.bound then
      let at_ := (s.now + 384 + 47) / 48 * 48
      let waits := x.levelsWait && decide (s.now < x.levelsAt)
      let s := if x.levelsWait && !waits then s.putTm c O.TRIG_LEVEL_TM x.levelsAt else s
      let ls := if waits then x.levels.map fun l => if l.1 = x.levelsAt then (at_, l.2) else l else x.levels
      let held := waits && x.levels.any fun l => l.1 == x.levelsAt && l.2.1 == k
      .ok (s.setCtx c { x with
        levels := if held then ls else ls ++ [(at_, k, old)], levelsWait := true, levelsAt := at_ })
    else .ok s

/-- Range of a level object (R171). -/
def levelRange (k : Nat) (v : Slot) : Bool :=
  match findRow (k / 256) (k % 256) with
  | some r => r.ty.fits v && (match r.rng with
      | some (lo, hi) => decide (lo ≤ r.ty.value v ∧ r.ty.value v ≤ hi)
      | none => true)
  | none => false

/-- TRIG_LEVEL_WRITE (R168). -/
def execTrigLevelWrite (p idx sub : Nat) (v : Slot) (s : State) : Host.Outcome State Fault Refusal :=
  let k := idx * 256 + sub
  done (if isLevelObj k then
    access s p k fun s => ctxOwnerOnly s p (s.selected p) fun s =>
      need (levelRange k v) .range s fun s => levelWrite s (s.selected p) k v
  else s)

/-- TRIG_LEVEL_IN_FORCE (R168): the new levels come into force together; samples taken before that core cycle are still
compared under the old ones. -/
def execTrigLevelInForce (c : Nat) (s : State) : Host.Outcome State Fault Refusal :=
  done (match s.ctx c with
    | some x =>
      if x.levelsWait then
        ((s.runTo x.levelsAt).setCtx c { x with levelsWait := false }).putTm c O.TRIG_LEVEL_TM x.levelsAt
      else s
    | none => s)

/-! ## Trigger in and trigger out (R55, R163 to R166, R172) -/

/-- Whether an edge is one the latch takes (R55, R163). -/
def latchTakes (slope : Nat) (rising : Bool) : Bool :=
  match slope with
  | 0 => rising
  | 1 => !rising
  | _ => true

/-- The latch of R55: touchmark, wrap count and count of edges. -/
def latchEdge (s : State) (g : Nat) (rising : Bool) : State :=
  if s.num O.LATCH_ENABLE = 1 ∧ latchTakes (s.num O.TRIGIN_LATCH_SLOPE) rising then
    ((s.put O.LATCH_TM (tmOfGrains g)).put O.LATCH_WRAP (ofN (wrapOfGrains g))).countWrap 0 O.LATCH_COUNT 32
  else s

/-- The stamp of an edge: the nearest multiple of 24 grains, halves to the earlier (R163). -/
def stampOf (g : Nat) : Nat := roundEarlier g 24 * 24

/-- A stamped edge reaches the evaluators of one context (R164). -/
def edgeToCtx (g : Nat) (rising : Bool) (s : State) (c : Nat) : State :=
  match s.ctx c with
  | some x =>
    if x.bound ∧ 8 ∈ s.sources c then
      let t := if rising then 2 else 0
      let a : List Judged := if s.cN c O.TRIG_SOURCE = 8 then [{ at_ := g, src := 8, trit := t }] else []
      let b : List Judged := if s.cN c O.TRIG_TYPE = 9 ∧ s.cN c O.SEQ_B_SOURCE = 8
        then [{ at_ := g, src := 24, trit := t }] else []
      s.setCtx c { x with ev := { x.ev with waiting := sortBy Judged.at_ (x.ev.waiting ++ a ++ b) } }
    else s
  | none => s

/-- A trigger-in edge at `g` grains: at most one of each direction per core cycle is stamped (R163). -/
def trigInEdge (s : State) (rising : Bool) (g : Nat) : State :=
  let s := s.runTo (g / 480)
  let cyc := s.cycle
  let seen := s.trigInEdges.filter fun e => e.1 == cyc
  if seen.contains (cyc, rising) then { s with trigInEdges := seen }
  else
    let st := stampOf g
    let s := latchEdge { s with trigInEdges := (cyc, rising) :: seen } st rising
    let s := (s.ctxs.map Prod.fst).foldl (edgeToCtx st rising) s
    pulse s 5 (if rising then 0 else 1) 0

/-- TRIGIN_THRESHOLD_SETTLED (R172): a change of level or hysteresis is in force 10 µs after the write. -/
def execTriginThresholdSettled (s : State) : Host.Outcome State Fault Refusal :=
  done (match s.trigInOld with
    | some t => { s.runTo t with trigInOld := none }
    | none => s)

/-- The level at the connector for an active or inactive pulse under TRIGOUT_POLARITY (R166). -/
def State.trigOutLevel (s : State) (active : Bool) : Bool :=
  if s.num O.TRIGOUT_POLARITY = 0 then active else !active

/-- TRIGOUT_PULSE_START (R166): the earliest due pulse begins, or extends the one in force. -/
def execTrigoutPulseStart (s : State) : Host.Outcome State Fault Refusal :=
  done (match sortN s.trigOut with
    | [] => s
    | g :: r =>
      let stop := g + s.num O.TRIGOUT_WIDTH * 23040
      let s := (s.runTo (g / 480)).countWrap 0 O.TRIGOUT_COUNT 32
      let s := { s with trigOut := r, trigOutEnd := max stop s.trigOutEnd }
      if s.trigOutHigh then s
      else { s with trigOutHigh := true, sent := .trigOut (s.trigOutLevel true) g :: s.sent })

/-- TRIGOUT_PULSE_END (R166): the trailing edge of the combined pulse. -/
def execTrigoutPulseEnd (s : State) : Host.Outcome State Fault Refusal :=
  done (if s.trigOutHigh then
    { s.runTo (s.trigOutEnd / 480) with
      trigOutHigh := false, trigOutEnd := 0
      sent := .trigOut (s.trigOutLevel false) s.trigOutEnd :: s.sent }
  else s)

end Sys2Proof.Machine
end

