-- ==== Sys2Proof/Machine/Acquire.lean ====
section
/-!
DEFINITION. Acquisition: the codes of a line (R60, R72), what evaluators take of it (R29), decimation
(R202 to R208), the writing of a line (R184, R185), and pauses, revocations and gaps of a ring (R187 to R190).
-/
namespace Sys2Proof.Machine

/-! ## Codes (R60, R71, R72) -/

/-- The code of a voltage in nV on a range, with an offset in µV (R60, R61). -/
def codeOf (range : Nat) (offsetUv nv : Int) : Int :=
  clampI (-511) 511 (roundAway ((nv - offsetUv * 1000) * 3) (125000 * 2 ^ range))

/-- The position whose slice is out of the lineup with no spare in its place (R72, R104). -/
def Die.voidPosition (d : Die) : Option Nat :=
  if d.measuring ∧ d.spares = [] then
    match d.calQueue with
    | sl :: _ => d.positions.findIdx? (· == sl)
    | [] => none
  else none

/-- Whether sample `k` of the sheet that die `d` fills from base period `t` on is void (R72). Positions are counted from the
die's last lineup change, one sample a base period, or every second in Half rate (R69, log 8). -/
def State.voidAt (s : State) (n d t k : Nat) : Bool :=
  let x := s.die d
  (s.input n).voidDies.contains d ||
    (match x.voidPosition with
     | some q =>
       let first := (t - x.lineupFrom) / (if x.lineup = .half then 2 else 1)
       x.lineup.k != 0 && (first + k) % x.lineup.k == q
     | none => false)

/-- The codes of member `j`, die `d`, in a line from base period `t` on: `volts` holds the line's voltages in sample order. The
offset of R60 is the one requested, not the DAC step that R62 applies for it (DESIGN CHOICE, log 68). -/
def State.sheetCodes (s : State) (n t j d : Nat) (volts : List Int) : List Int :=
  (List.range 48).map fun k =>
    if s.voidAt n d t k then voidCode
    else codeOf (s.num (inObj O.FE_RANGE_n n)) (s.get (inObj O.FE_OFFSET_n n)).toInt (volts.getD (48 * j + k) 0)

/-- Whether the sheet of die `d` over the base periods `t` to `t + len - 1` carries CAL_TRANSITION (R107, R108): its trims
changed then, or a ramp that has taken a step still moves them. -/
def State.calMark (s : State) (d t len : Nat) : Bool :=
  (match (s.die d).calAt with | some a => decide (t ≤ a ∧ a < t + len) | none => false)
    || (decide (s.cal.st = .ramping) && s.cal.stepped && (!(s.die d).pending.isEmpty || (s.die d).bankPending.isSome))

/-- SPARES_IN_USE of die `d` (R74, R116). -/
def Die.sparesInUse (d : Die) : Nat := min 4 d.subs

/-! ## Evaluators take the codes (R29, R138) -/

/-- A sample of a line: the die that took it, its instant in grains, its code. -/
abbrev Taken := Nat × Nat × Int

/-- Key of the last trit of the stream in which die `d` compares source `src` (R29). -/
def streamKey (src d : Nat) : Nat := src * 16 + d

/-- Trits of the samples of a line for one comparison, and the last trit of each die's stream (R29). -/
def tritsOf (src : Nat) (pair : Nat → Int × Int) : List (Nat × Nat) → List Taken → List (Nat × Nat) × List (Nat × Nat)
  | recv, [] => ([], recv)
  | recv, (d, t, c) :: r =>
    let p := pair t
    let k := streamKey src d
    let v := tritOf p.1 p.2 ((kvGet recv k).getD 1) c
    let (ts, l) := tritsOf src pair (kvPut recv k v) r
    ((t, v) :: ts, l)

/-- The pair of a comparison over the core cycles of a line, by the instant in grains: levels change only between core cycles
(R168). -/
def State.linePair (s : State) (c n : Nat) (second : Bool) (samples : List Taken) : Nat → Int × Int :=
  let cyc (t : Nat) : Nat := t / 23040 * 48
  let c0 := cyc ((samples.head?.map fun x => x.2.1).getD 0)
  let p0 := s.pairOf c n second c0
  let p1 := s.pairOf c n second (c0 + 48)
  fun t => if cyc t = c0 then p0 else p1

/-- Appends one comparison's trits to a context's evaluator; a first void sample yields 1 (R29). -/
def feedOne (s : State) (c src : Nat) (pair : Nat → Int × Int) (samples : List Taken) : State :=
  s.modCtx c fun x =>
    let (ts, l) := tritsOf src pair x.recv samples
    { x with
      recv := l
      ev := { x.ev with waiting := sortBy Judged.at_ (x.ev.waiting ++ ts.map fun (t, v) =>
        { at_ := t, src, trit := v }) } }

/-- Key of the stream from die `a` to die `b`. -/
def linkKey (a b : Nat) : Nat := a * 16 + b

/-- The streams of a context carry one more sheet of each of the dies `ds`: 48 more trits (R30). -/
def Ctx.carry (x : Ctx) (ds : List Nat) : Ctx :=
  let ks := (uniq (x.streams.map fun q => linkKey q.src q.dst)).filter fun k => ds.contains (k / 16)
  { x with phase := ks.foldl (fun l k => kvPut l k (((kvGet l k).getD 0 + 48) % 5)) x.phase }

/-- A gap whose first sample lies at `t` grains takes its place among the samples still to judge (R150). -/
def Ctx.gapAt (x : Ctx) (t : Nat) : Ctx :=
  { x with ev := { x.ev with waiting := sortBy Judged.at_ (x.ev.waiting ++ [{ at_ := t - 1, src := 9, trit := 1 }]) } }

/-- Evaluators of context `c` take samples of input `n`, with the gaps that begin among them (R138, R142, R143, R150). -/
def feedCtx (n : Nat) (samples : List Taken) (gaps : List Nat) (s : State) (c : Nat) : State :=
  match s.ctx c with
  | none => s
  | some x =>
    if x.bound ∧ x.evals ≠ [] ∧ s.cN c O.TRIG_TYPE ≠ 0 ∧ n ∈ s.watched c then
      let first := s.cN c O.TRIG_TYPE = 7 ∨ s.cN c O.TRIG_TYPE = 8 ∨ s.cN c O.TRIG_SOURCE = n
      let s := s.modCtx c fun x => gaps.foldl Ctx.gapAt (x.carry (uniq (samples.map Prod.fst)))
      let s := if first then feedOne s c n (s.linePair c n false samples) samples else s
      if s.cN c O.TRIG_TYPE = 9 ∧ s.cN c O.SEQ_B_SOURCE = n then
        feedOne s c (16 + n) (s.linePair c n true samples) samples
      else s
    else s

/-- The oldest sample an evaluator of input `n` has still to judge. -/
def State.oldestWaiting (s : State) (n : Nat) : Option Nat :=
  (s.ctxs.filterMap fun (c, x) =>
    if x.bound && (s.watched c).contains n then x.ev.waiting.head?.map Judged.at_ else none).min?

/-- The taps of input `n` after a line: of the last 32 core cycles those an interpolation may still ask for (R152, R156). -/
def keepTaps (s : State) (n : Nat) : State :=
  let x := s.input n
  let p := s.period n
  let newest := (x.taps.head?.map Prod.fst).getD 0
  let from_ := min newest ((s.oldestWaiting n).getD newest)
  s.setInput n { x with
    taps := x.taps.filter fun t => decide (from_ ≤ t.1 + 32 * p)
    tapGaps := x.tapGaps.filter fun g => decide (from_ ≤ g + 32 * p) }

/-! ## Decimation (R202 to R208) -/

/-- Half-length of the stage of factor `q` (R205). -/
def stageHalf : Nat → Nat
  | 2 => 23 | 3 => 35 | _ => 59

/-- How often a prime divides. -/
def multiplicity (q : Nat) : Nat → Nat → Nat
  | 0, _ => 0
  | k + 1, n => if n % q = 0 ∧ n ≠ 0 then multiplicity q k (n / q) + 1 else 0

/-- The stages of a factor, fifth-band first (R205). -/
def stagesOf (f : Nat) : List Nat :=
  List.replicate (multiplicity 5 24 f) 5 ++ List.replicate (multiplicity 3 24 f) 3
    ++ List.replicate (multiplicity 2 24 f) 2

/-- Whether a factor has no prime but 2, 3 and 5 (R202). -/
def smooth (f : Nat) : Bool := (stagesOf f).foldl (· * ·) 1 == f

/-- The half-support D of a cascade (R205). -/
def halfSupport : List Nat → Nat
  | [] => 0
  | q :: r => stageHalf q + q * halfSupport r

/-- One stage over a list of samples centred on its middle: its outputs up to `d` each way (R205). -/
def firStage (q d : Nat) (xs : List Int) : List Int :=
  let h := stageHalf q
  (List.range (2 * d + 1)).map fun j =>
    (List.range (2 * h + 1)).foldl (fun a i =>
      a + (Config.filterCoef q i).toInt * xs.getD (j * q + i) 0) 0

/-- The exact output of a cascade at the middle of its support, in units of 2^(−15·stages). -/
def cascade : List Nat → List Int → Int
  | [], xs => xs.headD 0
  | q :: r, xs => cascade r (firStage q (halfSupport r) xs)

/-- A Filtered point from its support, oldest sample first (R204, R205). -/
def filteredPoint (f : Nat) (xs : List Int) : Nat :=
  if xs.contains voidCode then 0x8000
  else
    let st := stagesOf f
    ((clampI (-32767) 32767 (roundAway (64 * cascade st xs) (2 ^ (15 * st.length)))) % 65536).toNat

/-- A point of Sample, Peak or Hi-res from its samples, oldest first (R204). -/
def plainPoint (mode : Nat) (xs : List Int) : Nat :=
  let valid := xs.filter (· ≠ voidCode)
  match mode with
  | 1 => code10 (xs.headD voidCode)
  | 2 =>
    match valid with
    | [] => 0x200 + 0x200 * 1024
    | v :: r => code10 (r.foldl min v) + code10 (r.foldl max v) * 1024
  | _ =>
    if valid = [] then 0x8000
    else ((clampI (-32767) 32767 (roundAway (64 * valid.foldl (· + ·) 0) valid.length)) % 65536).toNat

/-- The void point of a mode (R204). -/
def voidPoint (mode : Nat) : Nat := match mode with | 1 => 0x200 | 2 => 0x200 + 0x200 * 1024 | _ => 0x8000

/-- A 16-bit field read as a fine code. -/
def ofFine (n : Nat) : Int := if n < 32768 then (n : Int) else (n : Int) - 65536

/-- Whether point bits are overrange, by half for Peak (R207). -/
def pointOver (mode half bits : Nat) : Bool :=
  match mode with
  | 1 => isOver (ofCode10 bits)
  | 2 => isOver (ofCode10 (bits / 1024 ^ half % 1024))
  | _ => bits != 0x8000 && decide (30720 < (ofFine bits).natAbs)

/-- The OVR field of a decimated sheet (R207). -/
def decOvr (mode : Nat) (pts : List Nat) : Nat :=
  (List.range 16).foldl (fun a t =>
    let hit := match mode with
      | 1 => ((pts.drop (3 * t)).take 3).any (pointOver 1 0)
      | 2 => (List.range 3).any fun i => let k := 3 * t + i
          pointOver 2 (k % 2) (pts.getD (k / 2) (voidPoint 2))
      | _ => decide (t < 15) && ((pts.drop (2 * t)).take 2).any (pointOver mode 0)
    if hit then a + 2 ^ t else a) 0

/-- A decimated sheet (R207). -/
def decSheet (mode : Nat) (pts : List Nat) (spares : Nat) (disc cal : Bool) : List Byte :=
  sheetOf (packFields (itemBits mode) pts) (decOvr mode pts) spares disc cal

/-- Revokes segments by event: entry and SEQ stay, REVOKED sets, the owner's event pulses (R187). -/
def revoke (s : State) (c : Nat) (g : Segment) : State :=
  let mark (h : Segment) : Segment := if h = g then { h with revoked := true } else h
  let s := s.modCtx c fun x => { x with table := x.table.map mark, pending := x.pending.map mark }
  -- its descriptor, where it is published
  let s := if (s.held c g.seq).any fun h => h.tm == g.tm then putDescriptor s c { g with revoked := true } else s
  pulse ((s.countSat c O.SEG_REVOKED_COUNT 32).flag c O.CTX_STATUS 4) 1 2 c

/-- A revocation on input `n`: the segment's own effects and the counts of its rings (R187, R216). -/
def revokeOn (n : Nat) (s : State) (c : Nat) (g : Segment) : State :=
  ((revoke s c g).countSat 0 (inObj O.RING_REVOKES_n n) 32).flag 0 (inObj O.RING_STATUS_n n) 0

/-- Frees the sheet slot that a decimator is about to write in the part of member `q`: under Keep newest the segments that pin
it are revoked; under Keep captured a pin stops the decimator, and the answer is false (R187, R188, R208). -/
def decClear (s : State) (c k q slot : Nat) : State × Bool :=
  let bl := s.decBlockers c k (some q) slot
  let n := s.cN c O.CTX_INPUT
  if bl ≠ [] ∧ s.num (inObj O.RING_POLICY_n n) = 1 then (s, false)
  else (bl.foldl (fun s g => revokeOn n s c g) s, true)

/-- Writes the sheet that member `q` has filled into its part; the result says whether it could (R207, R208). -/
def decWriteSheet (s : State) (c q : Nat) : State × Bool :=
  match s.ctx c with
  | none => (s, true)
  | some x =>
    match x.dec.rings.getLast?, x.dec.epochs.head? with
    | some r, some e =>
      let p := x.dec.parts.getD q {}
      let mode := s.cN c O.DEC_MODE
      let k := perSheet mode
      let slot := (e.slot + (p.filled - 1) / k) % e.lines
      match decClear s c r.id q slot with
      | (s, false) => (s, false)
      | (s, true) =>
        let pts := p.points.reverse ++ List.replicate (k - p.points.length) (voidPoint mode)
        let bs := decSheet mode pts p.spares (x.dec.disc && decide ((p.filled - 1) / k = 0)) p.cal
        let s := s.store (capAddr (e.members.getD q 0) (r.offs.getD q 0 + slot * 64)) bs
        (s.modCtx c fun y => { y with dec := { y.dec with
            parts := y.dec.parts.set q { filled := p.filled }
            calSheets := if p.cal then (e.number, q, (p.filled - 1) / k) :: y.dec.calSheets else y.dec.calSheets } }, true)
    | _, _ => (s, true)

/-- Pads the part of member `q` with void sheets from its sheet `own` up to `sheets` (R76, R206); a sheet that a pin holds
under Keep captured is left as it is. -/
def padPart (s : State) (c q own sheets : Nat) (r : DecRing) (e : Epoch) : State :=
  (List.range (sheets - own)).foldl (fun s i =>
    let slot := (e.slot + own + i) % e.lines
    match decClear s c r.id q slot with
    | (s, false) => s
    | (s, true) => s.store (capAddr (e.members.getD q 0) (r.offs.getD q 0 + slot * 64)) voidSheet) s

/-- Ends the grid epoch of a context: with `flush` unfinished sheets are completed with void points, else their points are
discarded (R211); then every part is padded with void sheets to the length of the longest, so that the next grid starts at
one slot in all of them (R206). -/
def endGrid (s : State) (c : Nat) (flush : Bool) : State :=
  match s.ctx c with
  | none => s
  | some x =>
    match x.dec.epochs, x.dec.rings.getLast? with
    | e :: es, some r =>
      if e.open_ = false then s
      else
        let f := s.cN c O.DEC_FACTOR
        let k := perSheet (s.cN c O.DEC_MODE)
        let qs := List.range e.members.length
        let s := if flush then
            qs.foldl (fun s q =>
              let p := (match s.ctx c with | some y => y.dec.parts.getD q {} | none => {})
              if p.points.isEmpty then s else (decWriteSheet s c q).1) s
          else s
        match s.ctx c with
        | none => s
        | some x =>
          let own (q : Nat) : Nat := ((x.dec.parts.getD q {}).whole + k - 1) / k
          let sheets := (qs.map own).foldl max 0
          let wr := decWritten f e x.dec.parts e.count
          let s := qs.foldl (fun s q => padPart s c q (own q) sheets r e) s
          s.modCtx c fun y => { y with dec := { y.dec with
            epochs := { e with open_ := false, count := wr } :: es, index := 0, buf := [], marks := [], parts := []
            restart := true
            rings := y.dec.rings.map fun q =>
              if q.id = r.id ∧ e.lines ≠ 0 then { q with slot := (e.slot + sheets) % e.lines } else q } }
    | _, _ => s

/-- A new grid epoch with origin `t` grains, whose first sheet has the marks given (R203). -/
def startGrid (s : State) (c n t : Nat) (disc : Bool) (spares : Nat) (cal : Bool) : State :=
  match s.ctx c with
  | none => s
  | some x =>
    match x.dec.rings.getLast? with
    | none => s
    | some r =>
      let mode := s.cN c O.DEC_MODE
      let f := s.cN c O.DEC_FACTOR
      let p := s.period n
      let d := halfSupport (stagesOf f)
      let e : Epoch :=
        { number := (x.dec.epochs.head?.map Epoch.number).getD 0 + 1, t0 := t, period := f * p, slot := r.slot
          lines := r.mib * mib / 64, perLine := perSheet mode, members := r.members
          off := if mode = 3 then (f - 1) * p / 2 else 0
          lo := if mode = 4 then (d + f - 1) / f else 0
          count := if mode = 4 then (d + f - 1) / f else 0, endT := t }
      -- places of a Filtered part before the first point hold void points
      let part : DecPart := { points := List.replicate (e.lo % perSheet mode) (voidPoint mode), filled := e.lo }
      let s := s.modCtx c fun y => { y with dec := { y.dec with
        epochs := e :: y.dec.epochs, index := 0, buf := [], marks := [(0, spares, cal)], disc, restart := false
        parts := List.replicate r.members.length part } }
      ((s.setObj c O.DEC_GRID_EPOCH (ofN (e.number % 2 ^ 32))).setObj c O.DEC_T0 (tmOfGrains t)).setObj c
        O.DEC_T0_WRAP (ofN (wrapOfGrains t))

/-- SPARES_IN_USE and CAL_TRANSITION of the sheets that hold input samples from index `i0` on: the largest and the OR
(R207). -/
def marksFrom (i0 : Nat) : List (Nat × Nat × Bool) → Nat × Bool
  | [] => (0, false)
  | (i, sp, cal) :: r =>
    if i ≤ i0 then (sp, cal)
    else
      let m := marksFrom i0 r
      (max sp m.1, cal || m.2)

/-- The marks of the sheets that hold input samples from index `i0` on. -/
def keepMarks (i0 : Nat) : List (Nat × Nat × Bool) → List (Nat × Nat × Bool)
  | [] => []
  | m :: r => if m.1 ≤ i0 then [m] else m :: keepMarks i0 r

/-- Input samples a point is computed from: F, or the support of Filtered (R204, R205). -/
def pointSpan (mode f : Nat) : Nat := if mode = 4 then 2 * halfSupport (stagesOf f) + 1 else f

/-- Whether a record of input `n` is under way: one folds, is measured or is still to be published. -/
def State.recording (s : State) (n : Nat) : Bool :=
  s.ctxs.any fun (c, x) => s.cN c O.CTX_INPUT == n &&
    !(x.pending.isEmpty && x.cru.active.isEmpty && x.assays.isEmpty)

/-- A decimator stops before a pinned sheet: the pause counts among those of its input (R188, R208). -/
def decPause (s : State) (c : Nat) : State :=
  let n := s.cN c O.CTX_INPUT
  let s := (endGrid s c false).modCtx c fun y => { y with dec := { y.dec with
    paused := true, pauseAt := s.now, freeAt := none } }
  (s.countSat 0 (inObj O.RING_PAUSES_n n) 32).flag 0 (inObj O.RING_STATUS_n n) 1

/-- The pause of a decimator ends at base period `t`: its length counts among those of its input, and it is a gap that this
context alone sees (R50, R188, R208). -/
def decUnpause (s : State) (c t : Nat) : State :=
  match s.ctx c with
  | none => s
  | some x =>
    if x.dec.paused then
      (s.setCtx c { x with dec := { x.dec with paused := false, freeAt := none, discAt := t * 480 :: x.dec.discAt } }).countWrap 0
        (inObj O.RING_PAUSE_NS_n (s.cN c O.CTX_INPUT)) 64 ((t - x.dec.pauseAt) / 40)
    else s

/-- A computed point enters its member's part; a full sheet is written (R206, R207). -/
def decEmit (s : State) (c bits : Nat) (marks : Nat × Bool) : State :=
  match s.ctx c with
  | none => s
  | some x =>
    match x.dec.epochs with
    | [] => s
    | e :: es =>
      let q := if e.members.length ≤ 1 then 0
        else pointOwner (s.cN c O.DEC_FACTOR) (48 * e.members.length) e.count
      let p := x.dec.parts.getD q {}
      let p' : DecPart := { points := bits :: p.points, filled := p.filled + 1
                            spares := max p.spares marks.1, cal := p.cal || marks.2 }
      let made := (e.number, e.count, bits) :: x.dec.made
      let keep := 4096 * perSheet (s.cN c O.DEC_MODE) * e.members.length
      let s := s.setCtx c { x with dec := { x.dec with
        epochs := { e with count := e.count + 1 } :: es, parts := x.dec.parts.set q p'
        made := if s.recording (s.cN c O.CTX_INPUT) then made else made.take keep } }
      if p'.points.length < perSheet (s.cN c O.DEC_MODE) then s
      else match decWriteSheet s c q with
        | (s, true) => s
        | (s, false) => decPause s c

/-- One input sample enters the decimator (R203 to R205). -/
def decSample (n : Nat) (spares : Nat) (cal : Bool) (c : Nat) (s : State) (y : Taken) : State :=
  let t := y.2.1
  let v := y.2.2
  match s.ctx c with
  | none => s
  | some x =>
    if t < x.dec.from_ ∨ x.dec.paused then s
    else
      let s := if x.dec.restart then startGrid s c n t x.dec.disc spares cal else s
      match s.ctx c with
      | none => s
      | some x =>
        match x.dec.epochs with
        | [] => s
        | e :: es =>
          let mode := s.cN c O.DEC_MODE
          let f := s.cN c O.DEC_FACTOR
          let k := x.dec.index
          let need := pointSpan mode f
          let buf := (v :: x.dec.buf).take need
          let marks := marksFrom (k + 1 - need) x.dec.marks
          let s := s.setCtx c { x with dec := { x.dec with
            index := k + 1, buf
            epochs := { e with endT := t + s.period n } :: es
            overs := if isOver v then t :: x.dec.overs else x.dec.overs } }
          if mode = 4 then
            let d := need / 2
            if 2 * d ≤ k ∧ (k - d) % f = 0 then decEmit s c (filteredPoint f buf.reverse) marks else s
          else if (k + 1) % f = 0 then decEmit s c (plainPoint mode buf.reverse) marks
          else s

/-- The grid ends at a sheet that carries TB_DISC; the next one follows a gap (R203, R207). -/
def decBreak (s : State) (c : Nat) : State :=
  match s.ctx c with
  | some x => if x.dec.paused then s
      else (if x.dec.restart then s else endGrid s c true).modCtx c fun y => { y with dec := { y.dec with disc := true } }
  | none => s

/-- The samples of one sheet enter the decimator; `marked` holds the dies whose sheets carry TB_DISC on their own (R203). -/
def decSheetIn (n t len c : Nat) (marked : List Nat) (samples : List Taken) (s : State) (d : Nat) : State :=
  let s := if marked.contains d then decBreak s c else s
  let spares := (s.die d).sparesInUse
  let cal := s.calMark d t len
  let need := pointSpan (s.cN c O.DEC_MODE) (s.cN c O.DEC_FACTOR)
  let s := s.modCtx c fun x => { x with dec := { x.dec with
    marks := if x.dec.restart then [] else (x.dec.index, spares, cal) :: keepMarks (x.dec.index + 1 - need) x.dec.marks } }
  (samples.filter fun y => y.1 == d).foldl (decSample n spares cal c) s

/-- A paused decimator resumes with the first line that begins at least two core cycles after its sheets were freed: the
context's evaluators see the gap too (R150, R188, R208). -/
def decResume (s : State) (c t : Nat) : State :=
  let s := decFreed s c
  match (s.ctx c).bind fun x => x.dec.freeAt with
  | some f =>
    if f + 96 ≤ t then
      (decUnpause s c t).modCtx c fun x => { x.gapAt (t * 480) with dec := { x.dec with disc := true, restart := true } }
    else s
  | none => s

/-- Whether a command that takes the context out of Armed and Held is completing (R180). -/
def Ctx.leaving (x : Ctx) : Bool := match x.busy with | some (st, _) => st == .defined || st == .empty | none => false

/-- The decimator of context `c` takes the samples of a line over the base periods `t` to `t + len - 1` (R203). -/
def decLine (n t len : Nat) (disc : Bool) (marked ms : List Nat) (samples : List Taken) (s : State) (c : Nat) : State :=
  match s.ctx c with
  | none => s
  | some x =>
    if (x.st = .armed ∨ x.st = .held) ∧ !x.leaving ∧ x.evals ≠ [] ∧ s.cN c O.DEC_MODE ≠ 0 ∧ s.cN c O.CTX_INPUT = n then
      let s := if x.dec.paused then decResume s c t else if disc then decBreak s c else s
      ms.foldl (decSheetIn n t len c marked samples) s
    else s

/-! ## The writing of a line (R184, SHEET_WRITE) -/

/-- Writes the sheet of member `j` in a line slot; the sheet spans the base periods `t` to `t + len - 1`. -/
def writeSheet (n slot t len : Nat) (disc : Bool) (volts : List Int) (s : State) (jd : Nat × Nat) : State :=
  let d := jd.2
  let bs := sampleSheet (s.sheetCodes n t jd.1 d volts) (s.die d).sparesInUse (disc || (s.die d).discNext)
    (s.calMark d t len)
  let bs := if (s.input n).voidDies.contains d then voidSheet else bs
  s.store (capAddr d (slot * 64)) bs

/-- Members with their places in the deal order. -/
def dealt (ms : List Nat) : List (Nat × Nat) := (List.range ms.length).zip ms

/-- Samples of a line from base period `t` on, in deal order. -/
def State.lineSamples (s : State) (n t : Nat) (volts : List Int) : List Taken :=
  let ms := (s.input n).members
  let p := s.period n
  (dealt ms).flatMap fun (j, d) =>
    (List.range 48).zip (s.sheetCodes n t j d volts) |>.map fun (k, c) => (d, t * 480 + (48 * j + k) * p, c)

/-- One sample of a captured stream (R30, R545): every fifth trit completes a byte, with idle fill of a free length
before it (log 3). -/
def capSample (low high : Int) (s : State) (c : Int) : State :=
  match s.faults.capture with
  | some k =>
    let t := tritOf low high k.last c
    let ts := k.trits ++ [t]
    if 0 < k.skip then { s with faults := { s.faults with capture := some { k with last := t, skip := k.skip - 1 } } }
    else if ts.length = 5 then
      let (v, s) := s.free
      let bs := (k.bytes ++ List.replicate (v.toNat % 4097) 0xFF#8 ++ [packTrits ts]).take 4096
      { s with faults := { s.faults with capture := some { k with last := t, trits := [], bytes := bs } } }
    else { s with faults := { s.faults with capture := some { k with last := t, trits := ts } } }
  | none => s

/-- Whether the captured stream is still routed. -/
def State.capLive (s : State) (k : Capture) : Bool :=
  !k.gone && match s.ctx k.ctx with
  | some x => x.bound && x.streams.any fun q => q.src == k.die && q.dst == k.dst
  | none => false

/-- The streams of context `c` change to `qs`: a captured one that is not among them has been released (R30, R545). -/
def capReleased (s : State) (c : Nat) (qs : List Stream) : State :=
  match s.faults.capture with
  | some k =>
    if k.ctx = c ∧ !(qs.any fun q => q.src == k.die && q.dst == k.dst) then
      { s with faults := { s.faults with capture := some { k with gone := true } } }
    else s
  | none => s

/-- A line of the input whose stream is captured, while the stream is routed (R30, R545). -/
def capLine (n : Nat) (samples : List Taken) (s : State) : State :=
  match s.faults.capture with
  | some k =>
    if k.running ∧ k.src = n ∧ s.capLive k then
      let pair := s.linePair k.ctx n k.second samples
      (samples.filter fun y => y.1 == k.die).foldl (fun s y =>
        let p := pair y.2.1
        capSample p.1 p.2 s y.2.2) s
    else s
  | none => s

/-- Members of input `n` whose next sheet carries TB_DISC on its own: a loop hand-over (R50). -/
def State.markedDies (s : State) (n : Nat) : List Nat := (s.input n).members.filter fun d => (s.die d).discNext

/-- Places in the deal order of the members of input `n` whose next sheet carries TB_DISC (R50). -/
def State.flaggedPlaces (s : State) (n : Nat) : List Nat :=
  let x := s.input n
  ((dealt x.members).filter fun q => x.discNext || (s.die q.2).discNext).map Prod.fst

/-- First samples, in grains, of the sheets of the line from base period `t` on that carry TB_DISC: the line's own, or those of
the members marked (R50, R150). A line flagged as a whole is one gap, at its first sample (DEDUCED, log 97). -/
def State.lineGaps (s : State) (n t : Nat) : List Nat :=
  if (s.input n).discNext then [t * 480] else (s.flaggedPlaces n).map fun j => t * 480 + 48 * j * s.period n

/-- Consumers take the samples of a line over the base periods `t` to `t + len - 1`: taps, evaluators, decimators, a running
capture. -/
def consume (s : State) (n t len : Nat) (samples : List Taken) : State :=
  let x := s.input n
  let gaps := s.lineGaps n t
  let marked := s.markedDies n
  let s := s.setInput n { x with
    taps := (samples.map Prod.snd).reverse ++ x.taps, tapGaps := gaps.reverse ++ x.tapGaps }
  let cs := s.ctxs.map Prod.fst
  let s := cs.foldl (feedCtx n samples gaps) (capLine n samples s)
  keepTaps (cs.foldl (decLine n t len x.discNext marked x.members samples) s) n

/-- Input `n` and the dies that wrote a line of it have put out their TB_DISC (R50). -/
def clearMarks (s : State) (n : Nat) (ms : List Nat) : State :=
  ms.foldl (fun s d => s.setDie d { s.die d with discNext := false })
    (s.setInput n { s.input n with discNext := false })

/-- OVERRANGE of FE_STATUS_n: a converted sample is overrange (R71, R96). -/
def noteOver (s : State) (n : Nat) (samples : List Taken) : State :=
  if samples.any fun y => isOver y.2.2 then s.flag 0 (inObj O.FE_STATUS_n n) 0 else s

/-- The delay lines take a line: they hold the last 65,536 sheets, and what a record under way has not yet taken (R230). -/
def keepMade (s : State) (n : Nat) (m : MadeLine) : State :=
  let x := s.input n
  let l := m :: x.delay
  s.setInput n { x with delay := if s.recording n then l else l.take 65536 }

/-- A line of a Writing ring (R184, R185). -/
def writeLine (s : State) (n : Nat) (volts : List Int) (e : Epoch) (es : List Epoch) : State :=
  let x := s.input n
  let line := e.count / e.perLine
  let t := e.t0 + e.count * e.period
  let b := t / 480
  let len := e.perLine * e.period / 480
  let gaps := s.lineGaps n b
  let samples := s.lineSamples n b volts
  let places := s.flaggedPlaces n
  let s := (dealt e.members).foldl (writeSheet n x.slot b len x.discNext volts) s
  let e' := { e with count := e.count + e.perLine, endT := t + e.perLine * e.period
                     disc := if e.count = 0 then e.disc
                       else (places.map fun j => e.count + 48 * j).reverse ++ e.disc }
  let s := s.setInput n { s.input n with
    epochs := e' :: es, slot := (x.slot + 1) % e.lines, served := true
    discAt := gaps.reverse ++ x.discAt }
  let cal := e.members.map fun d => s.calMark d b len
  let s := keepMade s n { epoch := e.number, line, codes := samples.map fun y => y.2.2, cal }
  let s := noteOver (consume s n b len samples) n samples
  clearMarks (s.runTo (b + len)) n e.members

/-- First base period of the next line of input `n`: of the epoch in force, else the first one after the samples taken and not
before the line boundary in force. -/
def State.nextLine (s : State) (n : Nat) : Nat :=
  let x := s.input n
  let len := s.lineTime n
  let after := match x.taps with
    | (t, _) :: _ => (t + s.period n) / 480
    | [] => 0
  match x.ring, x.epochs with
  | .writing, e :: _ => (e.t0 + e.count * e.period) / 480
  | _, _ => max after (s.now / len * len)

/-- A line of an input whose ring is not Writing: its dies convert, evaluators that watch it take the codes of an Idle ring, and
nothing is written (R96, R188, log 9). A line that evaluators take stands for the first sheet of R66 while the ring is Idle;
one that nothing takes does not (DESIGN CHOICE, log 91). -/
def idleLine (s : State) (n : Nat) (volts : List Int) (feed : Bool) : State :=
  let x := s.input n
  let len := s.lineTime n
  let t := s.nextLine n
  let samples := s.lineSamples n t volts
  if feed then
    let s := noteOver (consume s n t len samples) n samples
    clearMarks ((s.setInput n { s.input n with served := true }).runTo (t + len)) n x.members
  else noteOver s n samples

/-- Whether the dies of input `n` convert samples: it is served, does not settle, and no member re-deals (R63, R96, R119). -/
def State.converts (s : State) (n : Nat) : Bool :=
  let x := s.input n
  s.fitted n && !x.members.isEmpty && x.settling.isNone && (x.st == .single || x.st == .alloyed)
    && x.members.all (fun d => !(s.die d).gap) && x.members.any fun d => (s.die d).st == .active

/-- SHEET_WRITE (R184): the members of input `n` convert a line, and write it where the ring is Writing and the line free. -/
def execSheetWrite (n : Nat) (volts : List Int) (s : State) : Host.Outcome State Fault Refusal :=
  let x := s.input n
  done (
    if s.converts n then
      match x.ring, x.epochs with
      | .writing, e :: es => if (s.blockers n).isEmpty ∧ e.perLine ≠ 0 then writeLine s n volts e es else s
      | .idle, _ => idleLine s n volts (s.busyInput n)
      | _, _ => idleLine s n volts false
    else s)

/-! ## Ends of epochs, pauses, revocations (R187 to R190) -/

/-- The epoch in force of input `n` ends: nothing follows its last line (R185). -/
def endEpoch (s : State) (n : Nat) (r : RingSt) : State :=
  let x := s.input n
  match x.epochs with
  | e :: es => s.setInput n { x with ring := r, epochs := { e with open_ := false } :: es }
  | [] => s.setInput n { x with ring := r }

/-- A gap reaches the consumers of input `n`: evaluators discard their state when the first sheet after it
comes, decimators end their grid now (R150, R203). -/
def gapConsumers (s : State) (n : Nat) : State :=
  let cs := s.ctxs.map Prod.fst
  cs.foldl (fun s c => match s.ctx c with
    | some x => if x.bound ∧ s.cN c O.CTX_INPUT = n ∧ s.cN c O.DEC_MODE ≠ 0 then endGrid s c true else s
    | none => s) s

/-- Adds the length of a pause that ends at base period `t` to RING_PAUSE_NS_n (R188). -/
def addPause (s : State) (n t : Nat) : State :=
  s.countWrap 0 (inObj O.RING_PAUSE_NS_n n) 64 ((t - (s.input n).pauseAt) / 40)

/-- Whether a blocker is a pin of the ring's own input under Keep newest (R187, R189). -/
def State.revocable (s : State) (n : Nat) (g : Segment) : Bool :=
  g.input == n && s.num (inObj O.RING_POLICY_n n) == 0

/-- Revokes the segments of its own input that block a ring under Keep newest (R187). -/
def revokeBlockers (s : State) (n : Nat) : State :=
  ((s.blockers n).filter fun b => s.revocable n b.2).foldl (fun s b => revokeOn n s b.1 b.2) s

/-- RING_PAUSE (R188, R189): the writer stops before a line that a pin it may not revoke holds. -/
def execRingPause (n : Nat) (s : State) : Host.Outcome State Fault Refusal :=
  let bs := (s.blockers n).filter fun b => !s.revocable n b.2
  done (if s.fitted n ∧ (s.input n).ring = .writing ∧ bs ≠ [] then
    let s := gapConsumers (endEpoch s n .paused) n
    let s := s.setInput n { s.input n with pauseAt := s.now }
    let s := (s.countSat 0 (inObj O.RING_PAUSES_n n) 32).flag 0 (inObj O.RING_STATUS_n n) 1
    if bs.any fun b => b.2.input != n then s.flag 0 (inObj O.RING_STATUS_n n) 2 else s
  else s)

/-- The first line boundary of input `n` at or after base period `t`. -/
def State.boundary (s : State) (n t : Nat) : Nat := (t + s.lineTime n - 1) / s.lineTime n * s.lineTime n

/-- RING_RESUME (R188): writing resumes in a new epoch once the line is free. -/
def execRingResume (n : Nat) (s : State) : Host.Outcome State Fault Refusal :=
  done (if s.fitted n ∧ (s.input n).ring = .paused ∧ (s.blockers n).isEmpty then
    let t := s.boundary n (s.now + 96)
    openEpoch ((addPause s n t).runTo t) n t true
  else s)

/-- Whether a RING_MIB value is a size of R183. -/
def ringMibOk (v : Slot) : Bool := decide (v.toNat % 64 = 0 ∧ 64 ≤ v.toNat ∧ v.toNat ≤ 11008)

/-- Whether a context on input `n` is Armed or Held. -/
def State.runsOn (s : State) (n : Nat) : Bool :=
  s.ctxs.any fun (c, x) => (x.st == .armed || x.st == .held) && s.ctxOn c n

/-- A write of RING_MIB_n, checked in the order of R420 (R183). -/
def ringMibWrite (s : State) (p n : Nat) (v : Slot) : Acc :=
  let x := s.input n
  claimantOnly s p n fun s =>
    need (ringMibOk v) .range s fun s =>
    need (x.st == .single && !(s.runsOn n) && !(s.regionPinned n)) .presentState s fun s =>
    need (decide (v.toNat * mib + ((s.allocsOf n).map Alloc.size).foldl (· + ·) 0 ≤ poolBytes)
        && clearOf (s.allocsOf n) 0 (v.toNat * mib)) .resource s fun s =>
      let s := s.put (inObj O.RING_MIB_n n) v
      .ok (s.setInput n { s.input n with fresh := true, slot := 0 })

/-- RING_MIB_WRITE (R183). -/
def execRingMibWrite (p n : Nat) (v : Slot) (s : State) : Host.Outcome State Fault Refusal :=
  done (if n < 8 then access s p (inObj O.RING_MIB_n n) fun s => ringMibWrite s p n v else s)

/-- Keep newest reaches a paused decimator: the segments that pin its next sheets are revoked (R190, R208). -/
def decUnpin (n : Nat) (s : State) (c : Nat) : State :=
  match s.ctx c with
  | none => s
  | some x =>
    match x.dec.rings.getLast? with
    | some r => if x.dec.paused ∧ s.cN c O.CTX_INPUT = n then
        decFreed ((s.decBlockers c r.id none r.slot).foldl (fun s g => revokeOn n s c g) s) c
      else s
    | none => s

/-- A write of RING_POLICY_n (R190): Keep newest on a Paused ring or decimator revokes the blocking segments. -/
def ringPolicyWrite (s : State) (p n : Nat) (v : Slot) : Acc :=
  claimantOnly s p n fun s => need (decide (v.toNat ≤ 1)) .range s fun s =>
    let s := s.put (inObj O.RING_POLICY_n n) v
    if v = 0 then
      let s := if (s.input n).ring = .paused then revokeBlockers s n else s
      .ok ((s.ctxs.map Prod.fst).foldl (decUnpin n) s)
    else .ok s

/-- RING_POLICY_WRITE (R190). -/
def execRingPolicyWrite (p n : Nat) (v : Slot) (s : State) : Host.Outcome State Fault Refusal :=
  done (if n < 8 then access s p (inObj O.RING_POLICY_n n) fun s => ringPolicyWrite s p n v else s)

end Sys2Proof.Machine
end

