-- ==== Sys2Proof/Machine/Crucible.lean ====
section
/-!
DEFINITION. The crucible (chapter 7): folds (R219 to R226), buffers and their merge (R227, R229, R234), the checks
of an arm (R230, R233, R241), admission and completion of records (R231, R235) and its commands (R236 to R238).
-/
namespace Sys2Proof.Machine

/-! ## Units, sizes, limits -/

/-- CRU_UNIT of a decimation mode (R218). -/
def cruUnit (dec : Nat) : Nat := match dec with | 2 => 2 | 3 | 4 => 1 | _ => 0

/-- N of a context (R220). -/
def State.cruN (s : State) (c : Nat) : Nat :=
  if s.cN c O.DEC_MODE = 0 then s.cN c O.SEG_LENGTH
  else (s.cN c O.SEG_LENGTH + s.cN c O.DEC_FACTOR - 1) / s.cN c O.DEC_FACTOR

/-- Bytes of one part, header included (R221, R223, R226, R227). -/
def State.cruPart (s : State) (c : Nat) : Nat :=
  match s.cN c O.CRU_MODE with
  | 1 | 2 => 64 + 8 * s.cruN c
  | 3 => 64 + 4 * s.cruN c
  | _ => 64 + 2 * (s.cN c O.DMAP_COLS * s.cN c O.DMAP_ROWS)

/-- Samples of a core cycle over the serving dies: 48·m, 24 for a die in Half rate (R230). -/
def State.cycleItems (s : State) (n : Nat) : Nat :=
  if s.halfRate n then 24 else 48 * (s.input n).members.length

/-- CRU_PRE_MAX (R230). -/
def State.cruPreMax (s : State) (c : Nat) : Int :=
  let n := s.cN c O.CTX_INPUT
  let w : Int := s.cycleItems n
  let l : Int := s.latency c
  let mode := s.cN c O.DEC_MODE
  if mode = 0 then 65536 * w - (l + 96) * w
  else 4096 * (perSheet mode : Int) * (s.input n).members.length
    - ceilDiv ((l + 96) * w) (s.cN c O.DEC_FACTOR)

/-- Bytes of the crucible pool of a die (R233). -/
def cruPool : Nat := 0x800000

/-- Free crucible pool of die `d` in bytes (R233, R240). -/
def State.cruFree (s : State) (d : Nat) : Nat :=
  cruPool - ((s.cruBufs.filter fun b => b.2.place == 1 && b.2.members.contains d).map fun b => b.2.partBytes).foldl
    (· + ·) 0

/-- Decimated bytes per core cycle of a context on each member (R209). -/
def State.decRate (s : State) (c : Nat) : Rat :=
  let mode := s.cN c O.DEC_MODE
  let n := s.cN c O.CTX_INPUT
  if mode = 0 then 0
  else ((if s.halfRate n then 24 else 48) * 64 : Rat) / (s.cN c O.DEC_FACTOR * perSheet mode)

/-- Spill bytes per core cycle of a context on each member (R233). -/
def State.spillRate (s : State) (c : Nat) : Rat :=
  let n := s.cN c O.CTX_INPUT
  ((if s.halfRate n then 24 else 48) * (if s.cN c O.CRU_MODE = 3 then 8 else 16) : Rat) / s.cN c O.DEC_FACTOR

/-- Members of context `c`'s input on stack `st`. -/
def State.onStack (s : State) (c st : Nat) : Nat :=
  ((s.input (s.cN c O.CTX_INPUT)).members.filter fun d => d / 2 == st).length

/-- Whether the buffer of a context is spilled (R233). -/
def State.spills (s : State) (x : Ctx) : Bool :=
  match x.cru.handle with
  | some h => match kvGet s.cruBufs h with | some b => b.place == 2 | none => false
  | none => false

/-- Decimated traffic of the bound contexts on stack `st`, but for context `c` (R209); `spill` adds their spill traffic, for the
sum of R233. -/
def State.stackLoad (s : State) (spill : Bool) (c st : Nat) : Rat :=
  (s.ctxs.map fun (k, x) =>
    if x.bound && k != c then (s.onStack k st : Rat) * (s.decRate k + if spill && s.spills x then s.spillRate k else 0)
    else 0).foldl (· + ·) 0

/-- Whether the budget of a stack would be exceeded by context `c` with rate `r` per member: of decimated writes alone (R209), or
with the spill traffic (R233). -/
def State.overBudget (s : State) (spill : Bool) (c : Nat) (r : Rat) : Bool :=
  (List.range 4).any fun st => s.onStack c st != 0 && decide (64 < s.stackLoad spill c st + s.onStack c st * r)

/-- The members that own points of a decimating context (R206): on an alloy a factor may leave all of them to some members. -/
def State.pointDies (s : State) (c : Nat) : List Nat :=
  let ms := (s.input (s.cN c O.CTX_INPUT)).members
  let sl := 48 * ms.length
  if ms.length ≤ 1 then ms
  else (uniq ((List.range sl).map (pointOwner (s.cN c O.DEC_FACTOR) sl))).filterMap fun q => ms[q]?

/-- Point delay lines in use on die `d` by bound contexts but `c` (R230). -/
def State.pointLines (s : State) (c d : Nat) : Nat :=
  s.ctxs.countP fun (k, x) => x.bound && k != c && s.cN k O.CRU_MODE != 0 && s.cN k O.DEC_MODE != 0 &&
    (x.homeDie == d || (s.pointDies k).contains d)

/-- Whether CRU_TARGET is in the range of the mode and unit (R222 to R224). -/
def cruTargetOk (mode unit target : Nat) : Bool :=
  if mode = 1 then decide (1 ≤ target ∧ target ≤ (if unit = 1 then 2 ^ 16 else 2 ^ 20)) else true

/-- Whether spilling is allowed for context `c` (R233). -/
def State.spillAllowed (s : State) (c : Nat) : Bool :=
  let mode := s.cN c O.CRU_MODE
  let n := s.cN c O.CTX_INPUT
  let lim := if mode = 3 then 8 else 4
  decide (1 ≤ mode ∧ mode ≤ 3) && s.cN c O.DEC_MODE != 0 &&
    decide ((if s.halfRate n then 24 else 48) ≤ lim * s.cN c O.DEC_FACTOR)

/-- Whether the context needs a new buffer (R234). -/
def State.cruNew (s : State) (c : Nat) : Bool :=
  match s.ctx c with
  | none => true
  | some x => match x.cru.handle with
    | none => true
    | some h => match kvGet s.cruBufs h with
      | none => true
      | some b =>
        b.mode != s.cN c O.CRU_MODE || b.unit != cruUnit (s.cN c O.DEC_MODE) || b.n != s.cruN c ||
        (s.cN c O.CRU_MODE == 4 && (b.cols != s.cN c O.DMAP_COLS || b.rows != s.cN c O.DMAP_ROWS
          || b.low != s.cI c O.DMAP_LOW || b.high != s.cI c O.DMAP_HIGH))

/-! ## Buffers (R227, R234, R240) -/

/-- References layers hold on a handle: accepted submissions count from their acceptance (R240, R395). -/
def State.layerRefs (s : State) (h : Nat) : Nat :=
  (s.raster.layers.map fun l =>
    b2n (l.latched.kind != 0 && l.latched.handle == h)
      + b2n (match l.pending with | some q => q.kind != 0 && q.handle == h | none => false)
      + b2n (l.old == some h)).foldl (· + ·) 0

/-- Changes buffer `h` where it exists. -/
def modBuf (s : State) (h : Nat) (f : CruBuf → CruBuf) : State :=
  match kvGet s.cruBufs h with
  | some b => { s with cruBufs := kvPut s.cruBufs h (f b) }
  | none => s

/-- Ends a holder's claim on a buffer: it is freed when the context and the raster engine hold it no more (R240). -/
def sweepBuf (s : State) (h : Nat) : State :=
  match kvGet s.cruBufs h with
  | some b => if b.held = false ∧ s.layerRefs h = 0 then
      { s with
        cruBufs := kvDel s.cruBufs h
        allocs := s.allocs.filter fun a => a.kind != .cru h }
    else s
  | none => s

/-- The context lets go of its buffer (R234, R240). -/
def dropBuf (s : State) (c : Nat) : State :=
  match s.ctx c with
  | none => s
  | some x => match x.cru.handle with
    | none => s
    | some h =>
      let s := modBuf s h fun b => { b with held := false }
      let s := sweepBuf (s.setCtx c { x with cru := { x.cru with handle := none } }) h
      (s.setObj c O.CRU_HANDLE (ofN 0xFFFFFFFF)).setObj c O.CRU_PLACE 0

/-- The state in which an arm that needs a new buffer places it: the old one is let go first (R234). -/
def cruRoom (s : State) (c : Nat) : State := if s.cruNew c then dropBuf s c else s

/-- The reasons of R241 in their order, for home die `h`; empty when CRU_MODE is Off. A kept buffer that is spilled must
still keep R233. -/
def State.cruErrs (s : State) (c h : Nat) : List (Bool × Abort) :=
  let mode := s.cN c O.CRU_MODE
  let unit := cruUnit (s.cN c O.DEC_MODE)
  let ms := (s.input (s.cN c O.CTX_INPUT)).members
  let part := s.cruPart c
  let lo := s.cI c O.DMAP_LOW
  let hi := s.cI c O.DMAP_HIGH
  let fresh := s.cruNew c
  let room := cruRoom s c
  let fits := ms.all fun d => decide (part ≤ room.cruFree d)
  let spilled := if fresh then !fits else s.cN c O.CRU_PLACE == 2
  if mode = 0 then []
  else
    [ (decide ((mode = 1 ∨ mode = 2) ∧ unit = 2), .incompatible),
      (!cruTargetOk mode unit (s.cN c O.CRU_TARGET), .incompatible),
      (decide (mode = 4 ∧ (hi ≤ lo ∨ hi - lo + 1 < s.cN c O.DMAP_ROWS)), .incompatible),
      (decide (mode ≠ 4 ∧ 2 ^ 27 < s.cruN c), .incompatible),
      (decide (0 ≤ s.cI c O.SEG_PRE ∧ s.cruPreMax c < s.cI c O.SEG_PRE), .incompatible),
      (s.cN c O.DEC_MODE != 0 && (uniq (h :: s.pointDies c)).any fun d => decide (4 ≤ s.pointLines c d), .resource),
      (spilled && !s.spillAllowed c, .resource),
      (fresh && spilled && (room.takeAll ms part c (.cru room.nextHandle)).isNone, .resource),
      (spilled && s.overBudget true c (s.decRate c + s.spillRate c), .resource) ]

/-- The crucible's state in force: a command takes effect with the core cycle after its write (R236). -/
def Crucible.stAt (x : Crucible) (t : Nat) : CruSt := if t < x.from_ then x.before else x.st

/-- Open with CRU_TARGET records admitted and folded becomes Complete, also in the core cycle in which a Freeze is written or
takes effect (R236, R237, R239). -/
def cruCheckDone (s : State) (c : Nat) : State :=
  match s.ctx c with
  | none => s
  | some x =>
    let target := s.cN c O.CRU_TARGET
    let isOpen := x.cru.st = .opened ∨ x.cru.st = .frozen ∧ x.cru.before = .opened ∧ s.now < x.cru.from_ + 48
    if isOpen ∧ target ≠ 0 ∧ target ≤ x.cru.admitted ∧ x.cru.active = [] then
      pulse (s.setCtx c { x with cru := { x.cru with st := .complete, from_ := 0 } }) 1 6 c
    else s

/-- An accepted arm allocates the buffer it needs, keeps the one it has, or drops it when CRU_MODE is Off (R234, R237). -/
def cruArm (s : State) (c : Nat) : State :=
  let mode := s.cN c O.CRU_MODE
  let s := s.setObj c O.CRU_ERR 0
  if mode = 0 then
    (dropBuf s c).modCtx c fun x => { x with cru := {} }
  else if s.cruNew c then
    let ms := (s.input (s.cN c O.CTX_INPUT)).members
    let part := s.cruPart c
    let s := dropBuf s c
    let sram := ms.all fun d => decide (part ≤ s.cruFree d)
    let h := s.nextHandle
    let s := { s with nextHandle := h + 1 }
    let s := if sram then s else (match s.takeAll ms part c (.cru h) with | some (_, s) => s | none => s)
    let gen := (s.cN c O.CRU_GEN + 1) % 2 ^ 32
    let b : CruBuf :=
      { ctx := c, owner := s.ctxOwner c, mode, unit := cruUnit (s.cN c O.DEC_MODE), n := s.cruN c
        cols := if mode = 4 then s.cN c O.DMAP_COLS else 0, rows := if mode = 4 then s.cN c O.DMAP_ROWS else 0
        low := if mode = 4 then s.cI c O.DMAP_LOW else 0, high := if mode = 4 then s.cI c O.DMAP_HIGH else 0
        place := if sram then 1 else 2, partBytes := part, members := ms
        parts := ms.map fun _ => [], gen }
    let s := { s with cruBufs := kvPut s.cruBufs h b }
    let s := s.modCtx c fun x => { x with cru := { st := .opened, handle := some h } }
    let s := ((s.setObj c O.CRU_POINTS (ofN b.n)).setObj c O.CRU_UNIT (ofN b.unit)).setObj c O.CRU_PART_BYTES (ofN part)
    let s := ((s.setObj c O.CRU_PLACE (ofN b.place)).setObj c O.CRU_HANDLE (ofN h)).setObj c O.CRU_GEN (ofN gen)
    s.setObj c O.CRU_RECORDS 0
  else cruCheckDone s c

/-! ## Folding (R219, R221 to R226) -/

/-- The field of SUM as an integer. -/
def sumOf (e : Slot) : Int := let v := fld e 0 32; if v < 2 ^ 31 then (v : Int) else (v : Int) - 2 ^ 32

/-- An element with SUM, COUNT and SAT (R221). -/
def sumElem (sum : Int) (count : Nat) (sat : Bool) : Slot :=
  ofN ((sum % 2 ^ 32).toNat + count % 2 ^ 21 * 2 ^ 32 + b2n sat * 2 ^ 63)

/-- Folds a value into an Average element, or with saturation into a Sum element (R219, R222). -/
def foldSum (saturate : Bool) (e : Slot) (v : Int) : Slot :=
  let raw := sumOf e + v
  let lim := clampI (-(2 ^ 31) + 1) (2 ^ 31 - 1) raw
  let n := fld e 32 21 + 1
  if saturate then sumElem lim (min n (2 ^ 21 - 1)) (bit e 63 || decide (lim ≠ raw))
  else sumElem raw n false

/-- The reset value of an element of a mode (R221, R223, R226). -/
def cruReset (mode : Nat) : Slot := if mode = 3 then ofN 0x80007FFF else 0

/-- A 16-bit field as an integer. -/
def s16 (n : Nat) : Int := if n < 2 ^ 15 then (n : Int) else (n : Int) - 2 ^ 16

/-- Folds a value into the low and the high field of an Envelope element (R219, R223). -/
def foldEnv (e : Slot) (lo hi : Option Int) : Slot :=
  let f (o : Option Int) (op : Int → Int → Int) (k : Nat) : Nat :=
    match o with | some v => ((op (s16 (fld e k 16)) v) % 2 ^ 16).toNat | none => fld e k 16
  ofN (f lo min 0 + f hi max 16 * 2 ^ 16)

/-- The valid values of an item under a unit (R218): one, or the halves of a pair. -/
def itemValues (unit bits : Nat) : List Int :=
  match unit with
  | 1 => if bits = 0x8000 then [] else [ofFine bits]
  | 2 => ([bits % 1024, bits / 1024 % 1024].filter (· ≠ 0x200)).map ofCode10
  | _ => if bits = 0x200 then [] else [ofCode10 bits]

/-- What folding an item does beside its element: items outside the window, a saturated sum or cell. -/
structure FoldNote where
  outside : Nat := 0
  sat : Bool := false
  cellSat : Bool := false

/-- The cell of R225 for item `i` and value `v`, none outside the window. -/
def CruBuf.cell (b : CruBuf) (i : Nat) (v : Int) : Option Nat :=
  let w := if b.unit = 1 then v else v * 64
  if w < b.low ∨ b.high < w then none
  else
    let col := i * b.cols / b.n
    let row := b.rows - 1 - ((w - b.low) * b.rows / (b.high - b.low + 1)).toNat
    some (row * b.cols + col)

/-- Folds one value of item `i` into a part (R219, R225, R226). -/
def foldValue (b : CruBuf) (i : Nat) (p : List (Nat × Slot) × FoldNote) (v : Int) : List (Nat × Slot) × FoldNote :=
  let get (k : Nat) : Slot := (kvGet p.1 k).getD (cruReset b.mode)
  match b.mode with
  | 1 => (kvSet 0 p.1 i (foldSum false (get i) v), p.2)
  | 2 =>
    let raw := sumOf (get i) + v
    (kvSet 0 p.1 i (foldSum true (get i) v), { p.2 with sat := p.2.sat || decide (2 ^ 31 ≤ raw ∨ raw ≤ -(2 ^ 31)) })
  | 3 => (kvSet (cruReset 3) p.1 i (foldEnv (get i) (some v) (some v)), p.2)
  | _ =>
    match b.cell i v with
    | none => (p.1, { p.2 with outside := p.2.outside + 1 })
    | some k =>
      let n := (get k).toNat
      (kvSet 0 p.1 k (ofN (min (n + 1) 0xFFFF)), { p.2 with cellSat := p.2.cellSat || decide (0xFFFF ≤ n + 1) })

/-- The place of die `d` among the parts, with a part added where the buffer has none. -/
def CruBuf.withPart (b : CruBuf) (d : Nat) : CruBuf × Nat :=
  match b.members.findIdx? (· == d) with
  | some j => (b, j)
  | none => ({ b with members := b.members ++ [d], parts := b.parts ++ [[]] }, b.members.length)

/-- Folds an item: index, die, bits. Items of index N or more are not folded (R220). -/
def foldItem (r : CruBuf × FoldNote) (it : Nat × Nat × Nat) : CruBuf × FoldNote :=
  if r.1.n ≤ it.1 then r
  else
    let (b, j) := r.1.withPart it.2.1
    let p0 := b.parts.getD j []
    if b.mode = 3 ∧ b.unit = 2 then
      -- a pair: its minimum goes into MIN and its maximum into MAX
      let half (k : Nat) : Option Int := if k = 0x200 then none else some (ofCode10 k)
      let e := foldEnv ((kvGet p0 it.1).getD (cruReset 3)) (half (it.2.2 % 1024)) (half (it.2.2 / 1024 % 1024))
      ({ b with parts := b.parts.set j (kvSet (cruReset 3) p0 it.1 e) }, r.2)
    else
      let (p, n) := (itemValues b.unit it.2.2).foldl (foldValue b it.1) (p0, r.2)
      ({ b with parts := b.parts.set j p }, n)

/-! ## The merged buffer (R229) -/

/-- Merges two elements of a mode. -/
def mergeElem (mode : Nat) (a b : Slot) : Slot :=
  match mode with
  | 1 => sumElem (sumOf a + sumOf b) (fld a 32 21 + fld b 32 21) false
  | 2 =>
    let raw := sumOf a + sumOf b
    let lim := clampI (-(2 ^ 31) + 1) (2 ^ 31 - 1) raw
    sumElem lim (min (fld a 32 21 + fld b 32 21) (2 ^ 21 - 1)) (bit a 63 || bit b 63 || decide (lim ≠ raw))
  | 3 => foldEnv a (some (s16 (fld b 0 16))) (some (s16 (fld b 16 16)))
  | _ => ofN (min (a.toNat + b.toNat) 0xFFFF)

/-- Element or cell `i` of a buffer as read: the merge of its parts. -/
def CruBuf.elem (b : CruBuf) (i : Nat) : Slot :=
  match b.parts.map fun p => (kvGet p i).getD (cruReset b.mode) with
  | [] => cruReset b.mode
  | e :: es => es.foldl (mergeElem b.mode) e

/-- Bytes of one element of a mode. -/
def cruElemBytes (mode : Nat) : Nat := match mode with | 1 | 2 => 8 | 3 => 4 | _ => 2

/-- The header of a buffer (R227). -/
def State.cruHeader (s : State) (b : CruBuf) : List Byte :=
  let st := match s.ctx b.ctx with | some x => (x.cru.stAt s.now).num | none => 0
  leBytes 1 b.mode ++ leBytes 1 b.unit ++ leBytes 2 b.cols ++ leBytes 2 b.rows
    ++ leBytes 2 (fld (s.obj b.ctx O.CRU_STATUS) 0 8 + st * 256) ++ leBytes 4 b.n ++ leBytes 4 b.gen
    ++ leBytes 4 b.records ++ leBytes 4 (s.cN b.ctx O.CRU_SKIPPED)
    ++ (b.first ++ List.replicate 16 0#8).take 16 ++ (b.last ++ List.replicate 16 0#8).take 16
    ++ leBytes 4 (b.low % 2 ^ 32).toNat ++ leBytes 4 (b.high % 2 ^ 32).toNat

/-- Byte `k` of a buffer as read. -/
def State.cruByte (s : State) (b : CruBuf) (k : Nat) : Byte :=
  if k < 64 then (s.cruHeader b).getD k 0#8
  else
    let w := cruElemBytes b.mode
    BitVec.ofNat 8 ((b.elem ((k - 64) / w)).toNat / 256 ^ ((k - 64) % w))

/-! ## Admission and completion (R231, R232, R235) -/

/-- The records a crucible is folding: a Clear in force has abandoned them (R238). -/
def Crucible.folding (x : Crucible) (t : Nat) : List CruRec := if x.stAt t = .clearing then [] else x.active

/-- Lanes in use on die `d` (R231). -/
def State.lanesUsed (s : State) (d : Nat) : Nat :=
  ((s.ctxs.flatMap fun c => c.2.cru.folding s.now).filter fun r => r.members.contains d).length

/-- A record skipped whole (R231, R235). -/
def cruSkip (s : State) (c : Nat) : State := (s.countSat c O.CRU_SKIPPED 32).flag c O.CRU_STATUS 1

/-- The crucible takes an event that reaches its context, whose record's items members `ms` hold (R231, R236). -/
def cruAdmit (s : State) (c tm : Nat) (ms : List Nat) : State :=
  match s.ctx c with
  | none => s
  | some x =>
    if x.cru.stAt s.now = .opened then
      let target := s.cN c O.CRU_TARGET
      let spilled := s.cN c O.CRU_PLACE = 2
      if target ≠ 0 ∧ target ≤ x.cru.admitted then s
      else if x.st = .armed ∧ (ms.all fun d => decide (s.lanesUsed d < 4)) ∧ ¬ (spilled ∧ x.cru.active ≠ []) then
        s.setCtx c { x with cru := { x.cru with
          active := x.cru.active ++ [{ tm, members := ms }], admitted := x.cru.admitted + 1 } }
      else cruSkip s c
    else s

/-- A Clear starts, in force from base period `t` (R236, R237): from then on its records are abandoned. -/
def Crucible.clear (x : Crucible) (now t : Nat) : Crucible :=
  { x with st := .clearing, before := x.stAt now, from_ := t, freeze := false, sawTransition := false }

/-- The buffer reset of a Clear ends (R237, R238): records in folding are gone, every element has its reset value, CRU_RECORDS is
0, CRU_GEN has risen, and the crucible is Open, or Frozen where a Freeze was written meanwhile. -/
def cruReopen (s : State) (c : Nat) (x : Ctx) : State :=
  let gen := (s.cN c O.CRU_GEN + 1) % 2 ^ 32
  let s := modBuf s (x.cru.handle.getD 0) fun b =>
    { b with parts := b.parts.map (fun _ => []), gen := gen, records := 0, first := [] }
  let s := s.setCtx c { x with cru := { x.cru with
    st := if x.cru.freeze then .frozen else .opened, active := [], admitted := 0, freeze := false, from_ := 0 } }
  ((s.setObj c O.CRU_RECORDS 0).setObj c O.CRU_OUTSIDE 0).setObj c O.CRU_GEN (ofN gen)

/-- The unit of capture memory that holds element `i` of the part of die `d` of a spilled buffer, after its 64-byte header
(R227, R233). -/
def State.spillUnit (s : State) (h : Nat) (b : CruBuf) (d i : Nat) : Option Nat :=
  if b.place ≠ 2 then none
  else (s.allocs.find? fun a => a.die == d && a.kind == .cru h).map fun a =>
    capAddr d ((a.off + 64 + cruElemBytes b.mode * i) / 64 * 64)

/-- Whether byte `k` of a buffer is read from a poisoned unit of a spilled part (R298, R321). -/
def State.cruPoisoned (s : State) (h : Nat) (b : CruBuf) (k : Nat) : Bool :=
  decide (64 ≤ k) && b.members.any fun d => (s.spillUnit h b d ((k - 64) / cruElemBytes b.mode)).any s.poisoned

/-- The units of a spilled buffer that a record's items fall into (R233). -/
def State.spillUnits (s : State) (h : Nat) (b : CruBuf) (items : List (Nat × Nat × Nat)) : List Nat :=
  uniq (items.filterMap fun it => s.spillUnit h b it.2.1 it.1)

/-- A spilled element read poisoned is taken at its reset value before folding (R298). -/
def State.spillReset (s : State) (h : Nat) (bad : List Nat) (b : CruBuf) (it : Nat × Nat × Nat) : CruBuf :=
  match s.spillUnit h b it.2.1 it.1, b.members.findIdx? (· == it.2.1) with
  | some u, some j =>
    if bad.contains u then { b with parts := b.parts.set j (kvDel (b.parts.getD j []) it.1) } else b
  | _, _ => b

/-- Folds the record `r`, whose lanes are already free (R219, R235); the units of a spilled part that it reads come with the
outcomes of their checks (R297, R298). -/
def cruFold (s : State) (c : Nat) (r : CruRec) (checks : List Ecc) : State :=
  match s.ctx c with
  | none => s
  | some x => match x.cru.handle with
    | none => s
    | some h => match kvGet s.cruBufs h with
      | none => s
      | some b =>
        let (failed, s) := readUnits s (s.spillUnits h b r.items) checks
        let bad := (s.spillUnits h b r.items).filter fun a => s.poisoned a || failed.contains a
        let b := if bad = [] then b else r.items.foldl (s.spillReset h bad) b
        let (b, n) := r.items.foldl foldItem (b, {})
        let recs := (s.cN c O.CRU_RECORDS + 1) % 2 ^ 32
        let b := { b with records := recs, last := r.record, first := if b.first = [] then r.record else b.first }
        -- the cache writes whole units back, which ends their poison
        let s := bad.foldl unpoison { s with cruBufs := kvPut s.cruBufs h b }
        let s := ((s.setObj c O.CRU_RECORDS (ofN recs)).flag c O.CRU_STATUS 0).countWrap c O.CRU_OUTSIDE 64 n.outside
        let s := if n.sat then s.flag c O.CRU_STATUS 5 else s
        let s := if n.cellSat then s.flag c O.CRU_STATUS 4 else s
        let s := if r.transition then s.flag c O.CRU_STATUS 3 else s
        let s := if r.short then (s.countSat c O.CRU_TRUNCATED 32).flag c O.CRU_STATUS 2 else s
        pulse s 1 5 c

/-- A record that is skipped once its segment has closed gives its admission back. -/
def cruUnadmit (s : State) (c : Nat) : State :=
  s.modCtx c fun x => { x with cru := { x.cru with admitted := x.cru.admitted - 1 } }

/-- CRU_RECORD_DONE (R231, R235): the oldest record whose segment has closed ends, in context `fold.item`; the checks are those
of the units of a spilled buffer it folds into (R297). -/
def execCruRecordDone (fold : Checked) (s : State) : Host.Outcome State Fault Refusal :=
  let c := fold.item
  done (match s.ctx c with
    | none => s
    | some x =>
      match (x.cru.folding s.now).find? CruRec.ready with
      | none => s
      | some r =>
        let s := s.setCtx c { x with cru := { x.cru with active := x.cru.active.erase r } }
        let policy := s.cN c O.CRU_CAL_POLICY
        if r.transition ∧ policy ≠ 0 then
          let s := cruUnadmit (cruSkip s c) c
          s.modCtx c fun x => { x with cru := { x.cru with sawTransition := decide (policy = 2) } }
        else if !r.transition ∧ x.cru.sawTransition ∧ policy = 2 then
          (cruSkip s c).modCtx c fun x => { x with cru :=
            if x.cru.st = .clearing then x.cru else x.cru.clear s.now s.now }
        else if r.head ∧ s.cN c O.CRU_PARTIAL = 0 then cruUnadmit (cruSkip s c) c
        else cruCheckDone (cruFold s c r fold.checks) c)

/-! ## Commands (R236 to R238) -/

/-- A Freeze or Thaw: the new state is in force from the first core cycle after the write (R236). -/
def Crucible.turn (x : Crucible) (st : CruSt) (now cyc : Nat) : Crucible :=
  { x with st, before := x.stAt now, from_ := cyc + 48 }

/-- The effect of a CRU_CMD value on context `c` (R236, R237). -/
def cruCommand (s : State) (c : Nat) (v : Nat) : Acc :=
  match s.ctx c with
  | none => (s, some .presentState)
  | some x =>
    let st := x.cru.st
    if st = .none then (s, some .presentState)
    else match v with
      | 1 => .ok (if st = .clearing then s else s.setCtx c { x with cru := x.cru.clear s.now (s.cycle + 48) })
      | 2 => .ok (match st with
          | .opened => s.setCtx c { x with cru := x.cru.turn .frozen s.now s.cycle }
          | .clearing => s.setCtx c { x with cru := { x.cru with freeze := true } }
          | _ => s)
      | _ => match st with
          | .frozen => .ok (cruCheckDone (s.setCtx c { x with cru := x.cru.turn .opened s.now s.cycle }) c)
          | .opened => .ok s
          | _ => (s, some .presentState)

/-- A write of CRU_CMD, checked in the order of R420. -/
def cruCmdWrite (s : State) (p c : Nat) (v : Slot) : Acc :=
  ctxOwnerOnly s p c fun s => need (decide (1 ≤ v.toNat ∧ v.toNat ≤ 3)) .range s fun s => cruCommand s c v.toNat

/-- CRU_CLEAR (R238). -/
def execCruClear (p : Nat) (s : State) : Host.Outcome State Fault Refusal :=
  done (access s p O.CRU_CMD fun s => cruCmdWrite s p (s.selected p) 1)

/-- CRU_FREEZE (R237). -/
def execCruFreeze (p : Nat) (s : State) : Host.Outcome State Fault Refusal :=
  done (access s p O.CRU_CMD fun s => cruCmdWrite s p (s.selected p) 2)

/-- CRU_THAW (R237). -/
def execCruThaw (p : Nat) (s : State) : Host.Outcome State Fault Refusal :=
  done (access s p O.CRU_CMD fun s => cruCmdWrite s p (s.selected p) 3)

/-- CRU_CLEAR_DONE (R237, R238): the buffer reset ends. -/
def execCruClearDone (c : Nat) (s : State) : Host.Outcome State Fault Refusal :=
  done (match s.ctx c with
    | some x => if x.cru.st = .clearing then cruReopen s c x else s
    | none => s)

end Sys2Proof.Machine
end

