-- ==== Sys2Proof/Machine/Measure.lean ====
section
/-!
DEFINITION. The measurements of the assay engine as functions of a record (R258 to R264): levels, edges, and the
result of each measurement code. Items are fine values by index, none where void.
-/
namespace Sys2Proof.Machine

/-! ## Rounding -/

/-- The nearest integer to a quotient, halves toward the smaller value (R264's time results). -/
def roundDown (num : Int) (den : Nat) : Int := ceilDiv (2 * num - den) (2 * den)

/-- The square root of a quotient rounded to nearest; `down` takes a half toward the smaller value. -/
def roundSqrt (num den : Nat) (down : Bool) : Nat :=
  let r := Nat.sqrt (num / den)
  let a := (2 * r + 1) ^ 2 * den
  if a < 4 * num ∨ (a = 4 * num ∧ down = false) then r + 1 else r

/-! ## Levels (R258, R259) -/

/-- The valid items of a record with their indexes. -/
def validItems (xs : List (Option Int)) : List (Nat × Int) :=
  ((List.range xs.length).zip xs).filterMap fun (i, v) => v.map fun w => (i, w)

/-- The bin of a fine value (R258). -/
def binOf (w : Int) : Int := w / 64 + 512

/-- How many values lie in a bin. -/
def binCount (vs : List Int) (b : Int) : Nat := vs.countP fun w => binOf w == b

/-- The bin with the largest count from `lo` to `hi`, the highest on ties, or the lowest. -/
def modeBin (vs : List Int) (lo hi : Int) (lowest : Bool) : Int :=
  (List.range (hi - lo + 1).toNat).foldl (fun (b : Int) (i : Nat) =>
    let k := lo + (i : Int)
    if (if lowest then binCount vs b < binCount vs k else binCount vs b ≤ binCount vs k) then k else b) lo

/-- TOP, BASE and the two LEVELS flags (R258). -/
structure Levels where
  top : Int
  base : Int
  flat : Bool := false
  fallback : Bool := false
  deriving DecidableEq, Repr

/-- TOP and BASE of the valid values, not empty (R258). -/
def levelsOf (fine : Bool) (v : Int) (vs : List Int) : Levels :=
  let all := v :: vs
  let mn := vs.foldl min v
  let mx := vs.foldl max v
  if mx - mn < 256 then { top := mx, base := mn, flat := true }
  else
    let bmin := binOf mn
    let bmax := binOf mx
    let bm := (bmin + bmax) / 2
    let bt := modeBin all (bm + 1) bmax false
    let bb := modeBin all bmin bm true
    let value (b : Int) : Int := 64 * (b - 512) + if fine then 32 else 0
    let okT := decide (all.length ≤ 32 * binCount all bt)
    let okB := decide (all.length ≤ 32 * binCount all bb)
    { top := if okT then value bt else mx, base := if okB then value bb else mn, fallback := !(okT && okB) }

/-- LO, MID and HI of a reference set (R259). -/
def refLevels (set : Int) (p1 p2 p3 : Int) (l : Levels) : Int × Int × Int :=
  let a := l.top - l.base
  let at_ (k : Int) : Int := l.base + roundAway (k * a) 10
  if set = 2 then (p1, p2, p3)
  else if set = 1 then (at_ 2, at_ 5, at_ 8)
  else (at_ 1, at_ 5, at_ 9)

/-! ## Edges (R260 to R262) -/

/-- The spans (a, b] of the edges: rising, index of a and index of b among the valid items (R260). -/
def edgeSpans (lo hi : Int) : List (Nat × Int) → Nat → Option (Bool × Nat) → List (Bool × Nat × Nat)
  | [], _, _ => []
  | (_, v) :: r, k, st =>
    if v < lo then
      let rest := edgeSpans lo hi r (k + 1) (some (false, k))
      match st with | some (true, a) => (false, a, k) :: rest | _ => rest
    else if hi < v then
      let rest := edgeSpans lo hi r (k + 1) (some (true, k))
      match st with | some (false, a) => (true, a, k) :: rest | _ => rest
    else edgeSpans lo hi r (k + 1) st

/-- Where an interval of two valid items crosses a level, grains, halves to the earlier grain (R261). -/
def crossAt (pitem : Nat) (l : Int) (p q : Nat × Int) : Int :=
  let num := (l - p.2) * ((q.1 - p.1) * pitem : Nat)
  let den := q.2 - p.2
  let tp : Int := (p.1 * pitem : Nat)
  if den < 0 then roundDown (tp * -den + -num) (-den).toNat else roundDown (tp * den + num) den.toNat

/-- The crossings of a level in a run of valid items, in order (R260). -/
def crossings (pitem : Nat) (rising : Bool) (l : Int) : List (Nat × Int) → List Int
  | p :: q :: r =>
    let rest := crossings pitem rising l (q :: r)
    if (if rising then p.2 < l ∧ l ≤ q.2 else p.2 > l ∧ l ≥ q.2) then crossAt pitem l p q :: rest else rest
  | _ => []

/-- The items of a plateau: valid items `a` to `b`, both included. -/
def plateau (vs : List (Nat × Int)) (a b : Nat) : List Int := ((vs.drop a).take (b + 1 - a)).map Prod.snd

/-- Largest of a list, 0 when empty. -/
def maxOf (l : List Int) : Int := match l with | [] => 0 | v :: r => r.foldl max v

/-- Smallest of a list, 0 when empty. -/
def minOf (l : List Int) : Int := match l with | [] => 0 | v :: r => r.foldl min v

/-- Values of the items whose instants lie at or after one instant and before another. -/
def between (pitem : Nat) (vs : List (Nat × Int)) (from_ upto : Int) : List Int :=
  (vs.filter fun x => decide (from_ ≤ (x.1 * pitem : Nat) ∧ ((x.1 * pitem : Nat) : Int) < upto)).map Prod.snd

/-- The events of pass 2 from its spans: edges in time order, then the end event (R262). -/
def eventsFrom (pitem : Nat) (vs : List (Nat × Int)) (lo mid hi : Int) :
    List (Bool × Nat × Nat) → Nat → Int → List XEvent
  | [], b, m =>
    let pl := plateau vs b (vs.length - 1)
    let tail := between pitem vs m (((vs.getLast?.map Prod.fst).getD 0 + 1) * pitem : Nat)
    [{ dir := 2, xmax := maxOf pl, xmin := minOf pl, xsum := tail.foldl (· + ·) 0, xcnt := tail.length }]
  | (up, a, b) :: r, b0, m0 =>
    let run := (vs.drop a).take (b + 1 - a)
    let cl := crossings pitem up lo run
    let cm := crossings pitem up mid run
    let ch := crossings pitem up hi run
    let xlo := (if up then cl.getLast? else cl.head?).getD 0
    let xmid := cm.getLast?.getD 0
    let xhi := (if up then ch.head? else ch.getLast?).getD 0
    let pl := plateau vs b0 a
    let part := between pitem vs m0 xmid
    { dir := if up then 0 else 1, xlo, xmid, xhi, xmax := maxOf pl, xmin := minOf pl
      xsum := part.foldl (· + ·) 0, xcnt := part.length } :: eventsFrom pitem vs lo mid hi r b xmid

/-- The events pass 2 delivers with given levels; levels that do not rise give only the end event (R260, R269). -/
def pass2Events (pitem : Nat) (xs : List (Option Int)) (lo mid hi : Int) : List XEvent :=
  let vs := validItems xs
  eventsFrom pitem vs lo mid hi (if lo < mid ∧ mid < hi then edgeSpans lo hi vs 0 none else []) 0 0

/-! ## Measurements (R257, R264) -/

/-- What a measurement gives for a slot: a value, a reason, or a value the definition does not state. -/
inductive MRes where
  | val (v : Int)
  | bad (reason : Nat)
  | open_
  deriving DecidableEq, Repr

/-- Slots of a measurement code (R257), 0 for an undefined code. -/
def measSlots (code : Nat) : Nat := if code = 25 then 9 else if 1 ≤ code ∧ code ≤ 29 then 1 else 0

/-- Codes whose result is a signed 32-bit value (R257). -/
def meas32 (code : Nat) : Bool := decide ((1 ≤ code ∧ code ≤ 12) ∨ code = 19 ∨ code = 21 ∨ code = 26)

/-- Codes that need pass 1 only (R257). -/
def measPass1 (code : Nat) : Bool := decide ((1 ≤ code ∧ code ≤ 7) ∨ code = 9 ∨ code = 10 ∨ code = 23)

/-- A record as the measurements see it. -/
structure MeasIn where
  pitem : Nat
  tev : Int
  slope : Int
  vs : List (Nat × Int)
  lv : Levels
  lo : Int
  hi : Int
  edges : List XEvent
  endEv : XEvent
  pass2 : Bool

/-- Rising edges. -/
def MeasIn.rises (m : MeasIn) : List XEvent := m.edges.filter fun e => e.dir == 0

/-- Instants m_1 to m_k (R263). -/
def MeasIn.ms (m : MeasIn) : List Int := m.rises.map XEvent.xmid

/-- Number of rising edges. -/
def MeasIn.k (m : MeasIn) : Nat := m.ms.length

/-- m_k − m_1 (R263). -/
def MeasIn.spanG (m : MeasIn) : Int := m.ms.getLast?.getD 0 - m.ms.headD 0

/-- The cycles (R263). -/
def MeasIn.cycles (m : MeasIn) : List Int := (m.ms.zip (m.ms.drop 1)).map fun (a, b) => b - a

/-- Widths between an edge of one direction and the edge that follows it. -/
def widths (up : Nat) : List XEvent → List Int
  | a :: b :: r => if a.dir = up ∧ b.dir ≠ up then (b.xmid - a.xmid) :: widths up (b :: r) else widths up (b :: r)
  | _ => []

/-- Mean of a list of times (R264). -/
def meanTime (l : List Int) : MRes :=
  if l = [] then .bad 2 else .val (roundDown (l.foldl (· + ·) 0) l.length)

/-- A quotient rounded away from zero; open where the divisor is not positive. -/
def quot (num den : Int) : MRes := if 0 < den then .val (roundAway num den.toNat) else .open_

/-- Pairs of each edge with the event that follows it. -/
def MeasIn.followed (m : MeasIn) : List (XEvent × XEvent) := m.edges.zip (m.edges.drop 1 ++ [m.endEv])

/-- Sum of a list. -/
def sumI (l : List Int) : Int := l.foldl (· + ·) 0

/-- Saturates an area at ±(2^63 − 1) (R264). -/
def areaOf (x : Int) : Int := clampI (-(2 ^ 63 - 1)) (2 ^ 63 - 1) x

/-- DELAY (R264). -/
def MeasIn.delay (m : MeasIn) : MRes :=
  match m.edges.find? fun e =>
    (decide (m.slope = 2) || (decide (m.slope = 0) && e.dir == 0) || (decide (m.slope = 1) && e.dir == 1))
      && decide (m.tev ≤ e.xmid) with
  | some e => .val (e.xmid - m.tev)
  | none => .bad 5

/-- The items of CYCLE_MEAN (R264). -/
def MeasIn.cycleItems (m : MeasIn) : List Int := between m.pitem m.vs (m.ms.headD 0) (m.ms.getLast?.getD 0)

/-- The slots of CROSSINGS (R264). -/
def MeasIn.crossSlots (m : MeasIn) : List MRes :=
  let es := m.edges.take 16
  let head := (List.range es.length).foldl (fun a i =>
    if (es.getD i {}).dir = 1 then a + 2 ^ i else a) (es.length * 2 ^ 32)
  let ent (i : Nat) : Nat := match es[i]? with
    | some e => if 2 ^ 32 - 1 < e.xmid then 0xFFFFFFFF else e.xmid.toNat
    | none => 0xFFFFFFFF
  .val head :: (List.range 8).map fun j => .val (ent (2 * j) + ent (2 * j + 1) * 2 ^ 32 : Nat)

/-- A measurement of one slot, on a record with at least one valid item whose pass 2 has run if it needs one
(R264). -/
def MeasIn.one (m : MeasIn) (code : Nat) : MRes :=
  let xs := m.vs.map Prod.snd
  let n := xs.length
  let sum := sumI xs
  let sq := sumI (xs.map fun v => v * v)
  let amp := m.lv.top - m.lv.base
  let need2 (r : MRes) : MRes := if m.k < 2 then .bad 2 else r
  let i32 (r : MRes) : MRes := match r with
    | .val v => if -(2 ^ 31) ≤ v ∧ v < 2 ^ 31 then .val v else .open_
    | r => r
  let cs := m.cycles
  match code with
  | 1 => .val m.lv.top
  | 2 => .val m.lv.base
  | 3 => .val amp
  | 4 => .val (maxOf xs)
  | 5 => .val (minOf xs)
  | 6 => .val (maxOf xs - minOf xs)
  | 7 => .val (roundAway sum n)
  | 8 => need2 (quot (sumI m.cycleItems) m.cycleItems.length)
  | 9 => .val (roundSqrt sq.toNat n false)
  | 10 => .val (roundSqrt (n * sq - sum * sum).toNat (n * n) false)
  | 11 =>
    if m.rises = [] then .bad 2 else if amp = 0 then .bad 4
    else
      let mx := maxOf ((m.followed.filter fun p => p.1.dir == 0).map fun p => p.2.xmax)
      i32 (.val (max 0 (roundAway (1000000 * (mx - m.lv.top)) amp.toNat)))
  | 12 =>
    if m.rises = [] then .bad 2 else if amp = 0 then .bad 4
    else i32 (.val (max 0 (roundAway (1000000 * (m.lv.base - minOf (m.rises.map XEvent.xmin))) amp.toNat)))
  | 13 => meanTime (m.rises.map fun e => e.xhi - e.xlo)
  | 14 => meanTime ((m.edges.filter fun e => e.dir == 1).map fun e => e.xlo - e.xhi)
  | 15 => need2 (.val (roundDown m.spanG (m.k - 1)))
  | 16 => need2 (quot (19200000000000000 * (m.k - 1 : Nat)) m.spanG)
  | 17 => meanTime (widths 0 m.edges)
  | 18 => meanTime (widths 1 m.edges)
  | 19 => need2 (quot (1000000 * sumI ((m.followed.filter fun p =>
      p.1.dir == 0 && decide (p.1.xmid < m.ms.getLast?.getD 0)).map fun p => p.2.xmid - p.1.xmid)) m.spanG)
  | 20 => m.delay
  | 21 => match m.delay with
      | .val d => need2 (if 0 < m.spanG then
          .val (roundAway (360000 * ((d * (m.k - 1 : Nat)) % m.spanG)) m.spanG.toNat % 360000) else .open_)
      | r => r
  | 22 => .val m.edges.length
  | 23 => .val (areaOf (sum * m.pitem))
  | 24 => need2 (.val (areaOf (sumI m.cycleItems * m.pitem)))
  | 26 =>
    if m.rises = [] then .bad 2
    else i32 (quot ((m.hi - m.lo) * 65536 * (m.k : Int)) (sumI (m.rises.map fun e => e.xhi - e.xlo)))
  | 27 => if m.k < 3 then .bad 2
    else
      let q := cs.length
      .val (roundSqrt (65536 * (q * sumI (cs.map fun c => c * c) - sumI cs * sumI cs)).toNat (q * q) true)
  | 28 => need2 (.val (maxOf cs - minOf cs))
  | 29 => if m.k < 3 then .bad 2
    else .val (maxOf ((cs.zip (cs.drop 1)).map fun (a, b) => ((b - a).natAbs : Int)))
  | _ => .bad 8

/-- The slots of one measurement code (R253, R264). -/
def MeasIn.code (m : MeasIn) (code : Nat) : List MRes :=
  if m.vs = [] then List.replicate (measSlots code) (.bad 1)
  else if measPass1 code = false ∧ m.pass2 = false then List.replicate (measSlots code) (.bad 3)
  else if code = 25 then m.crossSlots
  else [m.one code]

/-- Whether AREA or CYCLE_AREA saturates for a list of codes (R264). -/
def MeasIn.areaSat (m : MeasIn) (codes : List Nat) : Bool :=
  let xs := m.vs.map Prod.snd
  (codes.contains 23 && decide (areaOf (sumI xs * m.pitem) ≠ sumI xs * m.pitem)) ||
  (codes.contains 24 && m.pass2 && decide (2 ≤ m.k) &&
    decide (areaOf (sumI m.cycleItems * m.pitem) ≠ sumI m.cycleItems * m.pitem))

end Sys2Proof.Machine
end

