-- ==== Sys2Proof/Machine/Assay.lean ====
section
/-!
DEFINITION. The assay engine (chapter 8): the checks of an arm (R255, R256, R276), lanes (R245, R247), blocks
(R249 to R253), the microcode words (R265 to R270) and the store (R271 to R273).
The vendor words are not restated by the specification: a Standard list block holds what R264 defines, and its
program ends as it starts (log 10). A word command runs the word that the lane's program counter fetches.
-/
namespace Sys2Proof.Machine

/-! ## Programs and the checks of an arm -/

/-- The programs present: Standard list and those of the integrator region (R254, R271). -/
def State.aProgs (s : State) : List AProg :=
  { num := 1, slots := 28, start := Config.vendorStart.toNat, len := Config.vendorLen.toNat } :: s.astore.progs

/-- A program by its number. -/
def State.aProg (s : State) (p : Nat) : Option AProg := s.aProgs.find? fun q => q.num == p

/-- MEAS_0 to the entry before the first 0 (R255). -/
def State.measList (s : State) (c : Nat) : List Nat :=
  ((List.range 28).map fun k => s.cN c (O.MEAS_k + k)).takeWhile (· ≠ 0)

/-- Slots of a list. -/
def listSlots (l : List Nat) : Nat := (l.map measSlots).foldl (· + ·) 0

/-- PARAMk of a context (R266). -/
def State.param (s : State) (c k : Nat) : Int := s.cI c (O.ASSAY_PARAM_k + k)

/-- Slots S of the program a context selects (R255, R271). -/
def State.assayS (s : State) (c : Nat) : Nat :=
  let p := s.cN c O.ASSAY_PROGRAM
  if p = 0 then 0 else if p = 1 then listSlots (s.measList c)
  else match s.aProg p with | some q => q.slots | none => 0

/-- B of R251. -/
def recordsOf (slots : Nat) : Nat := (slots + 6) / 7

/-- Whether the parameters of Standard list are legal (R256). -/
def State.paramsOk (s : State) (c : Nat) : Bool :=
  let p := s.param c
  decide (0 ≤ p 0 ∧ p 0 ≤ 2 ∧ 0 ≤ p 4 ∧ p 4 ≤ 2) &&
    (decide (p 0 ≠ 2) || decide (-32768 ≤ p 1 ∧ p 1 < p 2 ∧ p 2 < p 3 ∧ p 3 ≤ 32767))

/-- Bytes of the assay table of a context (R251). -/
def State.assayTable (s : State) (c : Nat) : Nat := s.cN c O.SEG_TABLE_SIZE * recordsOf (s.assayS c) * 64

/-- The reasons of R276 in their order, for home die `h`. -/
def State.assayErrs (s : State) (c h : Nat) : List (Bool × Abort) :=
  let p := s.cN c O.ASSAY_PROGRAM
  let loading := decide (32 ≤ p) && s.astore.job.isSome
  if p = 0 then []
  else
    [ ((s.aProg p).isNone || loading, if loading then .presentState else .incompatible),
      (s.cN c O.DEC_MODE == 2, .incompatible),
      (decide (p = 1) && ((s.measList c).isEmpty || (s.measList c).any (fun k => measSlots k == 0)
        || decide (28 < listSlots (s.measList c))), .incompatible),
      (decide (p = 1) && !(s.paramsOk c), .incompatible),
      (((s.give c .assay).take h (s.assayTable c) c .assay).isNone, .resource) ]

/-- What an accepted arm sets (R247, R251, R277). -/
def assayArm (s : State) (c h : Nat) : State :=
  let sl := s.assayS c
  let s := s.give c .assay
  let s := match if sl = 0 then none else s.take h (s.assayTable c) c .assay with
    | some (_, s) => s
    | none => s
  let s := ((s.setObj c O.ASSAY_ERR 0).setObj c O.ASSAY_SLOTS (ofN sl)).setObj c O.ASSAY_RECORDS (ofN (recordsOf sl))
  s.setObj c O.ASSAY_PASS2_MAX (ofN (if sl = 0 then 0
    else 524288 * (s.input (s.cN c O.CTX_INPUT)).members.length))

/-! ## Items of a segment -/

/-- Item `i` of a segment's epoch as it was produced, from the delay lines; an item they no longer hold, from its sheet (R201,
R230, R246). -/
def State.madeItem (s : State) (c : Nat) (g : Segment) (e : Epoch) (i : Nat) : Nat :=
  let held : Option Nat := if g.dec then
      (match s.ctx c with
       | some x => (x.dec.made.find? fun m => m.1 == e.number && m.2.1 == i).map fun m => m.2.2
       | none => none)
    else ((s.input g.input).delay.find? fun m => m.epoch == e.number && m.line == i / e.perLine).map fun m =>
      code10 (m.codes.getD (i % e.perLine) voidCode)
  held.getD (s.itemAt c g e i)

/-- The items of a closed segment: index, die, bits (R198, R201). -/
def State.segItems (s : State) (c : Nat) (g : Segment) : List (Nat × Nat × Nat) :=
  match g.ep with
  | none => []
  | some e => (List.range g.count).map fun i =>
      (g.first + i, (s.itemPlace c g e (g.first + i)).2.2, s.madeItem c g e (g.first + i))

/-- The fine value of an item, none where void (R246). -/
def fineItem (mode bits : Nat) : Option Int :=
  match mode with
  | 3 | 4 => if bits = 0x8000 then none else some (ofFine bits)
  | _ => if bits = 0x200 then none else some (64 * ofCode10 bits)

/-- Whether item `i` of a segment's epoch lies in a sheet that carries CAL_TRANSITION (R74, R207). -/
def State.madeCal (s : State) (c : Nat) (g : Segment) (e : Epoch) (i : Nat) : Bool :=
  if g.dec then
    (match s.ctx c with
     | some x => x.dec.calSheets.contains (e.number, g.part e i, g.local e i / e.perLine)
     | none => false)
  else match (s.input g.input).delay.find? fun m => m.epoch == e.number && m.line == i / e.perLine with
    | some m => m.cal.getD (i % e.perLine / 48) false
    | none => (s.sheetFlags (s.itemPlace c g e i).1).testBit 21

/-- Whether a segment holds an item of a sheet that carries CAL_TRANSITION (R235, R252). -/
def State.segCal (s : State) (c : Nat) (g : Segment) : Bool :=
  match g.ep with
  | none => false
  | some e => (List.range g.count).any fun i => s.madeCal c g e (g.first + i)

/-- The members that will hold items of a segment's record, by its window in its epoch; every member of the input where that is
not known yet (R231, R245). -/
def State.itemDies (s : State) (c : Nat) (g : Segment) : List Nat :=
  match s.window c g with
  | none => (s.input g.input).members
  | some (r, w0, w1) =>
    match s.chooseEpoch c g r w0 w1 with
    | none => (s.input g.input).members
    | some e =>
      let a := max e.lo (e.indexFrom w0)
      let n := min (e.indexFrom w1 - a) (48 * e.members.length)
      sortN (uniq ((List.range n).map fun i => (s.itemPlace c g e (a + i)).2.2))

/-! ## Lanes (R245) -/

/-- Lanes of die `d` in use. -/
def State.aLanes (s : State) (d : Nat) : List Nat :=
  ((s.ctxs.flatMap fun c => c.2.assays).flatMap ARec.lanes).filterMap fun x => if x.1 = d then some x.2 else none

/-- The lowest free lane of die `d`. -/
def State.freeLane (s : State) (d : Nat) : Option Nat := (List.range 4).find? fun l => !(s.aLanes d).contains l

/-- An event reaches its context: its record takes a lane on every member that holds its items (`ms`), or gets none (R245). The
program that runs on the home die is named by that die's lane, or by the first member's where the home die holds none of the
items (DEDUCED, log 71). -/
def assayAdmit (s : State) (c tm : Nat) (ms : List Nat) : State :=
  match s.ctx c with
  | none => s
  | some x =>
    let p := s.cN c O.ASSAY_PROGRAM
    if p = 0 then s
    else
      let ds := ms.filter (· == x.homeDie) ++ ms.filter (· != x.homeDie)
      let ls := ds.map fun d => (s.freeLane d).map fun l => (d, l)
      let r : ARec := { tm, prog := p, slots := s.cN c O.ASSAY_SLOTS }
      if ls.all Option.isSome then s.setCtx c { x with assays := x.assays ++ [{ r with lanes := ls.filterMap id }] }
      else
        let s := s.setCtx c { x with assays := x.assays ++ [{ r with reason := 7 }] }
        (s.countSat c O.ASSAY_NO_LANE 32).flag c O.ASSAY_STATUS 1

/-- Changes the record of the event at `tm` of context `c`. -/
def modARec (s : State) (c tm : Nat) (f : ARec → ARec) : State :=
  s.modCtx c fun x => { x with assays := x.assays.map fun r => if r.tm = tm then f r else r }

/-- Removes the record of the event at `tm`; its lanes are free. -/
def dropARec (s : State) (c tm : Nat) : State :=
  s.modCtx c fun x => { x with assays := x.assays.filter fun r => r.tm != tm }

/-- A segment has closed: with PARTIAL it has no block (R250); else its lane buffers hold its items, and its home die has what
the block's header says of them (R246, R252). -/
def assayClosed (s : State) (c : Nat) (g : Segment) : State :=
  if s.cN c O.ASSAY_PROGRAM = 0 then s
  else if g.flags.testBit 0 then
    ((dropARec s c g.tm).countSat c O.ASSAY_ABSENT 32).flag c O.ASSAY_STATUS 3
  else
    let its := s.segItems c g
    let ms := match g.ep with | some e => e.members | none => []
    let long := ms.any fun d => decide (524288 < its.countP fun i => i.2.1 == d)
    let hdr := b2n (g.recFlags.testBit 3) * 2 ^ 47 + b2n (g.flags.testBit 1) * 2 ^ 46 + b2n (s.segCal c g) * 2 ^ 45
    modARec s c g.tm fun r => { r with
      closed := true, seq := g.seq, hdr, long, unit := if g.mode = 3 ∨ g.mode = 4 then 1 else 0
      items := its.map fun i => fineItem g.mode i.2.2
      pitem := (g.ep.map Epoch.period).getD 0
      tev := (g.tm : Int) - g.firstTm }

/-! ## The Standard list (R255 to R264) -/

/-- One result into a block's slots; a value the definitions do not state is a free value (log 3). -/
def putRes (a : State × List (Nat × Bool × Slot)) (kr : Nat × MRes) : State × List (Nat × Bool × Slot) :=
  match kr.2 with
  | .val v => (a.1, a.2 ++ [(kr.1, true, ofI v)])
  | .bad r => (a.1, a.2 ++ [(kr.1, false, ofN r)])
  | .open_ => let (v, s) := a.1.free; (s, a.2 ++ [(kr.1, true, v)])

/-- The record as the measurements see it. -/
def State.measIn (s : State) (c : Nat) (r : ARec) : MeasIn :=
  let vs := validItems r.items
  let lv := match vs.map Prod.snd with | [] => { top := 0, base := 0 } | v :: q => levelsOf (r.unit == 1) v q
  let (lo, mid, hi) := refLevels (s.param c 0) (s.param c 1) (s.param c 2) (s.param c 3) lv
  let ev := if r.long then [] else pass2Events r.pitem r.items lo mid hi
  { pitem := r.pitem, tev := r.tev, slope := s.param c 4, vs, lv, lo, hi
    edges := ev.dropLast, endEv := ev.getLast?.getD {}, pass2 := !r.long }

/-- Ends a program: its lanes are free, slots it has not written are invalid with a reason (R270). -/
def ARec.finish (r : ARec) (reason : Nat) : ARec := { r with ended := true, lanes := [], reason, waiting := false }

/-- Runs Standard list on a record (R255, R264). -/
def runStandard (s : State) (c : Nat) (r : ARec) : State :=
  let m := s.measIn c r
  let codes := s.measList c
  let rs := codes.flatMap m.code
  let (s, out) := ((List.range rs.length).zip rs).foldl putRes (s, [])
  let s := if m.lv.flat && !m.vs.isEmpty then s.flag c O.ASSAY_STATUS 4 else s
  let s := if m.lv.fallback then s.flag c O.ASSAY_STATUS 5 else s
  let s := if m.areaSat codes then s.flag c O.ASSAY_STATUS 6 else s
  modARec s c r.tm fun r => { r.finish 8 with out }

/-- A segment's descriptor is published: the program of its record starts (R246). -/
def assayStart (s : State) (c : Nat) (g : Segment) : State :=
  match s.ctx c with
  | none => s
  | some x =>
    match x.assays.find? fun r => r.tm == g.tm with
    | none => s
    | some r =>
      let p := s.aProg r.prog
      let r : ARec := { r with
        started := true, first := (p.map AProg.start).getD 0, pc := (p.map AProg.start).getD 0
        stop := (p.map fun q => q.start + q.len).getD 0 }
      if r.lanes.isEmpty then modARec s c g.tm fun _ => { r with ended := true }
      else
        let s := if r.long then s.flag c O.ASSAY_STATUS 7 else s
        if r.prog = 1 then runStandard (modARec s c g.tm fun _ => r) c r else modARec s c g.tm fun _ => r

/-! ## Blocks (R249, R251 to R253) -/

/-- A slot of a block: whether it is valid, and its content. -/
def ARec.slot (r : ARec) (k : Nat) : Bool × Slot :=
  match r.out.reverse.find? fun o => o.1 == k with
  | some o => o.2
  | none => (false, ofN r.reason)

/-- The header of record `i` (R252). -/
def ARec.header (r : ARec) (c i : Nat) : Nat :=
  let b := recordsOf r.slots
  let valid := (List.range 7).foldl (fun a k => if (r.slot (7 * i + k)).1 then a + 2 ^ k else a) 0
  b2n (i + 1 == b) * 2 ^ 63 + valid * 2 ^ 56 + i * 2 ^ 54 + r.prog * 2 ^ 48 + r.hdr
    + b2n (r.reason == 7) * 2 ^ 44 + c * 2 ^ 32 + r.seq

/-- The bytes of a block (R251). -/
def ARec.block (r : ARec) (c : Nat) : List Byte :=
  (List.range (recordsOf r.slots)).flatMap fun i =>
    leBytes 8 (r.header c i) ++ (List.range 7).flatMap fun k => leBytes 8 (r.slot (7 * i + k)).2.toNat

/-- ASSAY_BLOCK_PUBLISH (R249): the oldest record's block, once its program has ended. -/
def execAssayBlockPublish (c : Nat) (s : State) : Host.Outcome State Fault Refusal :=
  done (match s.ctx c with
    | none => s
    | some x =>
      match x.assays with
      | [] => s
      | r :: rest =>
        if r.ended = false then s
        else
          let s := s.setCtx c { x with assays := rest }
          match s.held c r.seq with
          | none => s
          | some h =>
            let s := putEntry s c .assay h (64 * recordsOf r.slots) (r.block c)
            let put_ (g : Segment) : Segment := if g.seq = r.seq then { g with assay := r.block c } else g
            let s := s.modCtx c fun x => { x with table := x.table.map put_ }
            let s := (s.setObj c O.ASSAY_LAST_HDR (ofN (r.header c 0))).setObj c O.ASSAY_LAST_SEQ (ofN r.seq)
            let s := (List.range 28).foldl (fun s k =>
              s.setObj c (O.ASSAY_LAST_SLOT_k + k) (if k < 7 * recordsOf r.slots then (r.slot k).2 else 0)) s
            pulse ((s.countWrap c O.ASSAY_WRITTEN 64).flag c O.ASSAY_STATUS 0) 1 7 c)

/-! ## Microcode words (R265 to R270) -/

/-- A stored word's opcode and fields (R267). -/
def wordFields (w : BitVec 128) : Nat × AWord :=
  let n := w.toNat
  let f (lo k : Nat) : Nat := n / 2 ^ lo % 2 ^ k
  (f 120 8, { cond := BitVec.ofNat 4 (f 116 4), dst := BitVec.ofNat 5 (f 111 5), srcA := BitVec.ofNat 5 (f 106 5)
              srcB := BitVec.ofNat 5 (f 101 5), target := BitVec.ofNat 12 (f 80 12), aux := BitVec.ofNat 16 (f 64 16)
              imm := BitVec.ofNat 64 (f 0 64) })

/-- The word a program fetches, none outside its own words (R270). -/
def State.fetch (s : State) (r : ARec) : Option (Nat × AWord) :=
  if r.first ≤ r.pc ∧ r.pc < r.stop ∧ 0x800 ≤ r.pc then (s.astore.words[r.pc - 0x800]?).map wordFields else none

/-- The record whose program lane `l` of die `d` names (log 71). -/
def State.laneRec (s : State) (d l : Nat) : Option (Nat × ARec) :=
  s.ctxs.findSome? fun (c, x) =>
    (x.assays.find? fun r => r.started && !r.ended && r.lanes.head? == some (d, l)).map fun r => (c, r)

/-- Whether COND holds (R268). -/
def ARec.holds (r : ARec) (cond : Nat) : Bool :=
  match cond with
  | 0 => true
  | 1 => r.z
  | 2 => !r.z
  | 3 => r.n
  | 4 => !r.n
  | 5 => !r.n && !r.z
  | 6 => r.n || r.z
  | 7 => r.v
  | 8 => r.d
  | 9 => r.e
  | 10 => !r.e
  | _ => false

/-- Register `k`; g0 reads 0 (R265). -/
def ARec.reg (r : ARec) (k : BitVec 5) : Slot := if k = 0 then 0 else (kvGet r.regs k.toNat).getD 0

/-- Writes register `k`; a write to g0 is ignored (R265). -/
def ARec.setReg (r : ARec) (k : BitVec 5) (v : Slot) : ARec :=
  if k = 0 then r else { r with regs := kvSet 0 r.regs k.toNat v }

/-- A result into DST with Z and N from it (R269). -/
def ARec.result (r : ARec) (k : BitVec 5) (v : Slot) : ARec :=
  { r.setReg k v with z := v == 0, n := v.msb }

/-- Runs a word: the lane's program fetches this very word; it takes one step, and has its effect where its
condition holds (R265, R268, R270). -/
def runWord (s : State) (d l op : Nat) (w : AWord) (f : ARec → State → ARec × State) : State :=
  match s.laneRec d l with
  | none => s
  | some (c, r) =>
    if r.waiting = false ∧ r.steps < 2 ^ 20 ∧ s.fetch r = some (op, w) then
      let r1 : ARec := { r with steps := r.steps + 1, pc := r.pc + 1 }
      let p := if r.holds w.cond.toNat then f r1 s else (r1, s)
      modARec p.2 c r.tm fun _ => p.1
    else s

/-- A word whose effect is on the record alone. -/
def pureWord (s : State) (d l op : Nat) (w : AWord) (f : ARec → ARec) : State :=
  runWord s d l op w fun r s => (f r, s)

/-- A word that writes a result of A and B and sets Z and N. -/
def aluWord (s : State) (d l op : Nat) (w : AWord) (f : Slot → Slot → Slot) : State :=
  pureWord s d l op w fun r => r.result w.dst (f (r.reg w.srcA) (r.reg w.srcB))

/-- Whether an exact value lies outside signed 64 bits. -/
def over64 (x : Int) : Bool := decide (x < -(2 ^ 63) ∨ 2 ^ 63 ≤ x)

/-- A word that wraps an exact result and sets V on overflow (R269). -/
def wrapWord (s : State) (d l op : Nat) (w : AWord) (f : Int → Int → Int) : State :=
  pureWord s d l op w fun r =>
    let x := f (r.reg w.srcA).toInt (r.reg w.srcB).toInt
    { r.result w.dst (ofI x) with v := over64 x }

/-- NOP (R269). -/
def execWNop (d l : Nat) (w : AWord) (s : State) : Host.Outcome State Fault Refusal :=
  done (pureWord s d l 0x00 w id)

/-- MOV (R269). -/
def execWMov (d l : Nat) (w : AWord) (s : State) : Host.Outcome State Fault Refusal :=
  done (pureWord s d l 0x01 w fun r => r.setReg w.dst (r.reg w.srcA))

/-- LDI (R269). -/
def execWLdi (d l : Nat) (w : AWord) (s : State) : Host.Outcome State Fault Refusal :=
  done (pureWord s d l 0x02 w fun r => r.setReg w.dst w.imm)

/-- The special registers (R266). -/
def State.special (s : State) (c : Nat) (r : ARec) (aux : Nat) : Slot :=
  let vs := (validItems r.items).map Prod.snd
  let n := vs.length
  let sum := sumI vs
  let sq := sumI (vs.map fun v => v * v)
  match aux with
  | 0x00 => ofN n
  | 0x01 => ofN r.items.length
  | 0x02 => ofI (minOf vs)
  | 0x03 => ofI (maxOf vs)
  | 0x04 => ofI sum
  | 0x05 => ofI (roundAway sum n)
  | 0x06 => ofN (roundSqrt sq.toNat n false)
  | 0x07 => ofN (roundSqrt (n * sq - sum * sum).toNat (n * n) false)
  | 0x08 => ofN r.pitem
  | 0x09 => ofI r.tev
  | 0x0A => ofN r.unit
  | 0x0B => ofN (b2n !r.long)
  | 0x10 => r.lo
  | 0x11 => r.mid
  | 0x12 => r.hi
  | 0x18 => ofN r.cur.dir
  | 0x19 => ofI r.cur.xlo
  | 0x1A => ofI r.cur.xmid
  | 0x1B => ofI r.cur.xhi
  | 0x1C => ofI r.cur.xmax
  | 0x1D => ofI r.cur.xmin
  | 0x1E => ofI r.cur.xsum
  | 0x1F => ofI r.cur.xcnt
  | a => s.obj c (O.ASSAY_PARAM_k + (a - 0x20) % 16)

/-- Whether a special register's value is stated: with no valid item MIN, MAX, MEAN, RMS and ACRMS are not. -/
def ARec.stated (r : ARec) (aux : Nat) : Bool :=
  !(decide (validItems r.items = []) && [0x02, 0x03, 0x05, 0x06, 0x07].contains aux)

/-- LDS (R266, R269); a value R266 leaves unstated is a free value (log 3). -/
def execWLds (d l : Nat) (w : AWord) (s : State) : Host.Outcome State Fault Refusal :=
  done (match s.laneRec d l with
    | none => s
    | some (c, _) => runWord s d l 0x03 w fun r s =>
        if r.stated w.aux.toNat then (r.setReg w.dst (s.special c r w.aux.toNat), s)
        else let (v, s) := s.free; (r.setReg w.dst v, s))

/-- STS (R266, R269): LO, MID and HI alone may be written. -/
def execWSts (d l : Nat) (w : AWord) (s : State) : Host.Outcome State Fault Refusal :=
  done (pureWord s d l 0x04 w fun r =>
    match w.aux.toNat with
    | 0x10 => { r with lo := r.reg w.srcA }
    | 0x11 => { r with mid := r.reg w.srcA }
    | 0x12 => { r with hi := r.reg w.srcA }
    | _ => r)

/-- ADD (R269). -/
def execWAdd (d l : Nat) (w : AWord) (s : State) : Host.Outcome State Fault Refusal :=
  done (wrapWord s d l 0x08 w fun a b => a + b)

/-- SUB (R269). -/
def execWSub (d l : Nat) (w : AWord) (s : State) : Host.Outcome State Fault Refusal :=
  done (wrapWord s d l 0x09 w fun a b => a - b)

/-- MUL (R269). -/
def execWMul (d l : Nat) (w : AWord) (s : State) : Host.Outcome State Fault Refusal :=
  done (wrapWord s d l 0x0A w fun a b => a * b)

/-- A quotient rounded to nearest, halves away from zero, for any divisor but 0. -/
def divRound (a b : Int) : Int := if b < 0 then roundAway (-a) b.natAbs else roundAway a b.natAbs

/-- A division word (R269): with B = 0 the result is 0 and D sets; the quotient 2^63, which R269 does not place,
is a free value (log 3). -/
def divWord (s : State) (d l op : Nat) (w : AWord) (f : Int → Int → Int) : State :=
  runWord s d l op w fun r s =>
    let a := (r.reg w.srcA).toInt
    let b := (r.reg w.srcB).toInt
    if b = 0 then ({ r.result w.dst 0 with d := true }, s)
    else if over64 (f a b) then let (v, s) := s.free; (r.result w.dst v, s)
    else (r.result w.dst (ofI (f a b)), s)

/-- DIV (R269): truncated toward zero. -/
def execWDiv (d l : Nat) (w : AWord) (s : State) : Host.Outcome State Fault Refusal :=
  done (divWord s d l 0x0B w Int.tdiv)

/-- DIVR (R269): rounded to nearest. -/
def execWDivr (d l : Nat) (w : AWord) (s : State) : Host.Outcome State Fault Refusal :=
  done (divWord s d l 0x0C w divRound)

/-- MULDIV (R269). -/
def execWMuldiv (d l : Nat) (w : AWord) (s : State) : Host.Outcome State Fault Refusal :=
  done (pureWord s d l 0x0D w fun r =>
    let b := (r.reg w.srcB).toInt
    if b = 0 then { r.result w.dst 0 with d := true }
    else
      let x := divRound ((r.reg w.srcA).toInt * w.imm.toInt) b
      let y := clampI (-(2 ^ 63 - 1)) (2 ^ 63 - 1) x
      let r := r.result w.dst (ofI y)
      if x = y then r else { r with v := true })

/-- ADDI (R269). -/
def execWAddi (d l : Nat) (w : AWord) (s : State) : Host.Outcome State Fault Refusal :=
  done (aluWord s d l 0x0E w fun a _ => a + w.imm)

/-- SHL (R269). -/
def execWShl (d l : Nat) (w : AWord) (s : State) : Host.Outcome State Fault Refusal :=
  done (aluWord s d l 0x10 w fun a _ => a <<< (w.aux.toNat % 64))

/-- SAR (R269). -/
def execWSar (d l : Nat) (w : AWord) (s : State) : Host.Outcome State Fault Refusal :=
  done (aluWord s d l 0x11 w fun a _ => a.sshiftRight (w.aux.toNat % 64))

/-- AND (R269). -/
def execWAnd (d l : Nat) (w : AWord) (s : State) : Host.Outcome State Fault Refusal :=
  done (aluWord s d l 0x12 w fun a b => a &&& b)

/-- OR (R269). -/
def execWOr (d l : Nat) (w : AWord) (s : State) : Host.Outcome State Fault Refusal :=
  done (aluWord s d l 0x13 w fun a b => a ||| b)

/-- XOR (R269). -/
def execWXor (d l : Nat) (w : AWord) (s : State) : Host.Outcome State Fault Refusal :=
  done (aluWord s d l 0x14 w fun a b => a ^^^ b)

/-- MIN (R269). -/
def execWMin (d l : Nat) (w : AWord) (s : State) : Host.Outcome State Fault Refusal :=
  done (aluWord s d l 0x15 w fun a b => if b.toInt < a.toInt then b else a)

/-- MAX (R269). -/
def execWMax (d l : Nat) (w : AWord) (s : State) : Host.Outcome State Fault Refusal :=
  done (aluWord s d l 0x16 w fun a b => if a.toInt < b.toInt then b else a)

/-- ABS (R269): −2^63 gives 2^63 − 1 and sets V. -/
def execWAbs (d l : Nat) (w : AWord) (s : State) : Host.Outcome State Fault Refusal :=
  done (pureWord s d l 0x17 w fun r =>
    let a := (r.reg w.srcA).toInt
    if a = -(2 ^ 63) then { r.result w.dst (ofI (2 ^ 63 - 1)) with v := true }
    else r.result w.dst (ofN a.natAbs))

/-- SQRT (R269). -/
def execWSqrt (d l : Nat) (w : AWord) (s : State) : Host.Outcome State Fault Refusal :=
  done (aluWord s d l 0x18 w fun a _ => ofN (Nat.sqrt a.toNat))

/-- Z and N from an exact difference (R269). -/
def ARec.compare (r : ARec) (x : Int) : ARec := { r with z := decide (x = 0), n := decide (x < 0) }

/-- CMP (R269). -/
def execWCmp (d l : Nat) (w : AWord) (s : State) : Host.Outcome State Fault Refusal :=
  done (pureWord s d l 0x20 w fun r => r.compare ((r.reg w.srcA).toInt - (r.reg w.srcB).toInt))

/-- CMPI (R269). -/
def execWCmpi (d l : Nat) (w : AWord) (s : State) : Host.Outcome State Fault Refusal :=
  done (pureWord s d l 0x21 w fun r => r.compare ((r.reg w.srcA).toInt - w.imm.toInt))

/-- JMP (R269). -/
def execWJmp (d l : Nat) (w : AWord) (s : State) : Host.Outcome State Fault Refusal :=
  done (pureWord s d l 0x28 w fun r => { r with pc := w.target.toNat })

/-- The count of a bin of a record; 0 outside 0 to 1,023 (R269). -/
def ARec.bin (r : ARec) (b : Int) : Nat :=
  if 0 ≤ b ∧ b ≤ 1023 then binCount ((validItems r.items).map Prod.snd) b else 0

/-- HCNT (R269). -/
def execWHcnt (d l : Nat) (w : AWord) (s : State) : Host.Outcome State Fault Refusal :=
  done (pureWord s d l 0x30 w fun r => r.setReg w.dst (ofN (r.bin (r.reg w.srcA).toInt)))

/-- The bin with the largest count from `a` to `b`, not empty; bins that do not exist count 0 (R269). -/
def ARec.mode (r : ARec) (a b : Int) (lowest : Bool) : Int :=
  let lo := max a 0
  let hi := min b 1023
  let k := modeBin ((validItems r.items).map Prod.snd) lo hi lowest
  if lo ≤ hi ∧ r.bin k ≠ 0 then k else if lowest then a else b

/-- HMODE (R269); no bin lies in A to B when B is below A, and the result is then a free value (log 3). -/
def execWHmode (d l : Nat) (w : AWord) (s : State) : Host.Outcome State Fault Refusal :=
  done (runWord s d l 0x31 w fun r s =>
    let a := (r.reg w.srcA).toInt
    let b := (r.reg w.srcB).toInt
    if a ≤ b then (r.setReg w.dst (ofI (r.mode a b (w.aux.getLsbD 0))), s)
    else let (v, s) := s.free; (r.setReg w.dst v, s))

/-- HBIN (R258, R269). -/
def execWHbin (d l : Nat) (w : AWord) (s : State) : Host.Outcome State Fault Refusal :=
  done (pureWord s d l 0x32 w fun r => r.setReg w.dst (ofI (clampI 0 1023 (binOf (r.reg w.srcA).toInt))))

/-- PASS2 (R260, R269, R270): a fifth one has no effect; without pass 2 it delivers no edge (R247). -/
def execWPass2 (d l : Nat) (w : AWord) (s : State) : Host.Outcome State Fault Refusal :=
  done (pureWord s d l 0x38 w fun r =>
    if 4 ≤ r.passes then r
    else { r with
      passes := r.passes + 1, e := false, ready := []
      coming := if r.long then [{ dir := 2 }]
        else pass2Events r.pitem r.items r.lo.toInt r.mid.toInt r.hi.toInt })

/-- NEXTX (R269): takes an event that is ready, waits for one that is coming, or sets E. -/
def execWNextx (d l : Nat) (w : AWord) (s : State) : Host.Outcome State Fault Refusal :=
  done (pureWord s d l 0x39 w fun r =>
    match r.ready, r.coming with
    | x :: q, _ => { r with cur := x, ready := q }
    | [], _ :: _ => { r with waiting := true }
    | [], [] => { r with e := true })

/-- PASS2_EVENT_READY (R260): pass 2 finds its next event, and a waiting NEXTX takes it. -/
def execPass2EventReady (d l : Nat) (s : State) : Host.Outcome State Fault Refusal :=
  done (match s.laneRec d l with
    | none => s
    | some (c, r) => modARec s c r.tm fun _ =>
        match r.coming with
        | [] => r
        | x :: q => if r.waiting then { r with coming := q, cur := x, waiting := false }
                    else { r with coming := q, ready := r.ready ++ [x] })

/-- PUT (R269). -/
def execWPut (d l : Nat) (w : AWord) (s : State) : Host.Outcome State Fault Refusal :=
  done (pureWord s d l 0x3C w fun r => { r with out := r.out ++ [(w.aux.toNat, true, r.reg w.srcA)] })

/-- PUTV (R269). -/
def execWPutv (d l : Nat) (w : AWord) (s : State) : Host.Outcome State Fault Refusal :=
  done (pureWord s d l 0x3D w fun r => { r with out := r.out ++ [(w.aux.toNat, false, ofN (fld w.imm 0 8))] })

/-- END (R269). -/
def execWEnd (d l : Nat) (w : AWord) (s : State) : Host.Outcome State Fault Refusal :=
  done (pureWord s d l 0x3F w fun r => r.finish 8)

/-- ASSAY_STEP_LIMIT (R270): the step limit, or a word outside the program's own, ends the program. -/
def execAssayStepLimit (d l : Nat) (s : State) : Host.Outcome State Fault Refusal :=
  done (match s.laneRec d l with
    | none => s
    | some (c, r) =>
      if r.waiting = false ∧ (2 ^ 20 ≤ r.steps ∨ s.fetch r = none) then
        let s := modARec s c r.tm fun _ => r.finish 6
        (s.countSat c O.ASSAY_STEP_LIMIT 32).flag c O.ASSAY_STATUS 2
      else s)

/-! ## The store (R271 to R273) -/

/-- `n` bytes of an image from byte `a` as a number. -/
def imgNat (b : List Byte) (a n : Nat) : Nat := leNat ((b.drop a).take n)

/-- A directory entry's number, slots, start and length (R272). -/
def imgEntry (b : List Byte) (i : Nat) : Nat × Nat × Nat × Nat :=
  let a := 64 + 16 * i
  (imgNat b a 1, imgNat b (a + 1) 1, imgNat b (a + 2) 2, imgNat b (a + 4) 2)

/-- Words an image declares. -/
def imgWords (b : List Byte) : Nat := imgNat b 6 2

/-- Directory entries an image declares. -/
def imgProgs (b : List Byte) : Nat := imgNat b 8 1

/-- Word `k` of an image. -/
def imgWord (b : List Byte) (k : Nat) : BitVec 128 :=
  BitVec.ofNat 128 (imgNat b (64 + 16 * imgProgs b + 16 * k) 16)

/-- The opcodes of R269. -/
def opcodes : List Nat :=
  [0x00, 0x01, 0x02, 0x03, 0x04, 0x08, 0x09, 0x0A, 0x0B, 0x0C, 0x0D, 0x0E, 0x10, 0x11, 0x12, 0x13, 0x14, 0x15,
   0x16, 0x17, 0x18, 0x20, 0x21, 0x28, 0x30, 0x31, 0x32, 0x38, 0x39, 0x3C, 0x3D, 0x3F]

/-- The special registers of R266. -/
def specials : List Nat := List.range 12 ++ [0x10, 0x11, 0x12] ++ (List.range 8).map (· + 0x18) ++ (List.range 16).map (· + 0x20)

/-- Whether a word of a program is legal (R273, status 7). -/
def wordLegal (slots start len : Nat) (w : BitVec 128) : Bool :=
  let (op, f) := wordFields w
  let aux := f.aux.toNat
  opcodes.contains op && decide (f.cond.toNat ≤ 10) &&
    (match op with
     | 0x03 => specials.contains aux
     | 0x04 => decide (0x10 ≤ aux ∧ aux ≤ 0x12)
     | 0x0D => f.imm != 0
     | 0x28 => decide (0x800 + start ≤ f.target.toNat ∧ f.target.toNat < 0x800 + start + len)
     | 0x3C | 0x3D => decide (aux < slots)
     | _ => true)

/-- The first check of R272 that an image fails, as ASTORE_STATUS names it; none when it passes (R273). -/
def imgCheck (b : List Byte) : Option Nat :=
  let n := imgProgs b
  let es := (List.range n).map (imgEntry b)
  let nums := es.map Prod.fst
  let wordsUsed := es.flatMap fun (_, _, st, ln) => (List.range ln).map (· + st)
  if b.length < 64 ∨ imgNat b 0 4 ≠ 0x53415A53 ∨ imgNat b 4 2 ≠ 1 ∨ imgWords b = 0 ∨ 2048 < imgWords b ∨ n = 0 ∨ 32 < n
  then some 3
  else if (crc32 (b.take 60 ++ b.drop 64)).toNat ≠ imgNat b 60 4 then some 4
  else if nums.any (fun k => decide (k < 32 ∨ 63 < k)) ∨ (uniq nums).length ≠ nums.length then some 5
  else if b.length < 64 + 16 * n + 16 * imgWords b ∨ es.any (fun (_, _, st, ln) => decide (ln = 0 ∨ imgWords b < st + ln))
      ∨ (uniq wordsUsed).length ≠ wordsUsed.length then some 6
  else if es.any fun (_, sl, st, ln) => decide (sl = 0 ∨ 28 < sl) ||
      (List.range ln).any fun k => !wordLegal sl st ln (imgWord b (st + k)) then some 7
  else none

/-- The store with an image in the integrator region. -/
def AStore.load (a : AStore) (b : List Byte) : AStore :=
  { a with
    words := (List.range (imgWords b)).map (imgWord b)
    progs := (List.range (imgProgs b)).map fun i =>
      let e := imgEntry b i
      { num := e.1, slots := e.2.1, start := 0x800 + e.2.2.1, len := e.2.2.2 }
    image := b, version := imgNat b 12 4 }

/-- The effect of an ASTORE_LOAD value (R273, R567). -/
def astoreLoad (s : State) (v : Nat) : Acc :=
  let used := s.ctxs.any fun (c, x) => x.bound && decide (32 ≤ s.cN c O.ASSAY_PROGRAM)
  need (!used && !bit (s.get O.SEC_LOCKS) 0 && s.astore.job.isNone) .presentState s fun s =>
    let img := s.blob 0 O.ASTORE_IMAGE
    if v = 3 then .ok { s with astore := { s.astore with status := 1, job := some (3, []) } }
    else match imgCheck img with
      | some k => ({ s with astore := { s.astore with status := k } }, some .incompatible)
      | none => .ok { s with astore := { s.astore with status := 1, job := some (v, img) } }

/-- A write of ASTORE_LOAD, checked in the order of R420. -/
def astoreWrite (s : State) (p : Nat) (v : Slot) : Acc :=
  stewardOnly s p fun s => need (decide (1 ≤ v.toNat ∧ v.toNat ≤ 3)) .range s fun s => astoreLoad s v.toNat

/-- ASTORE_LOAD 1 (R273). -/
def execAstoreLoadImage (p : Nat) (s : State) : Host.Outcome State Fault Refusal :=
  done (access s p O.ASTORE_LOAD fun s => astoreWrite s p 1)

/-- ASTORE_LOAD 2 (R273). -/
def execAstoreLoadAndStore (p : Nat) (s : State) : Host.Outcome State Fault Refusal :=
  done (access s p O.ASTORE_LOAD fun s => astoreWrite s p 2)

/-- ASTORE_LOAD 3 (R273). -/
def execAstoreEmpty (p : Nat) (s : State) : Host.Outcome State Fault Refusal :=
  done (access s p O.ASTORE_LOAD fun s => astoreWrite s p 3)

/-- ASTORE_LOAD_DONE (R273, R560): the load or empty completes, and measurement 7 changes. -/
def execAstoreLoadDone (s : State) : Host.Outcome State Fault Refusal :=
  done (match s.astore.job with
    | none => s
    | some (v, b) =>
      let a := { s.astore with job := none }
      let a := if v = 3 then
          { a with words := [], progs := [], image := [], version := 0, status := 8, flash := none }
        else
          let a := { a.load b with status := 2 }
          if v = 2 then { a with flash := some b } else a
      { s with astore := a }.countWrap 0 O.ATTEST_GEN 32)

end Sys2Proof.Machine
end

