-- ==== Sys2Proof/Machine/Contexts.lean ====
section
/-!
DEFINITION. Segments from their event to their publication (R192 to R197, R200), and the context commands but for
Arm (R177 to R180, R210, R211).
-/
namespace Sys2Proof.Machine

/-! ## Closing (R194 to R197) -/

/-- A segment's epoch with the items that are written: for a decimated ring the points of finished sheets. -/
def State.written (s : State) (c : Nat) (g : Segment) (e : Epoch) : Epoch :=
  match s.ctx c with
  | some x => if g.dec ∧ e.open_ then { e with count := decWritten g.factor e x.dec.parts e.count } else e
  | none => e

/-- The epoch of a segment as written so far. -/
def State.segEpoch (s : State) (c : Nat) (g : Segment) : Option (Epoch × Nat × Int × Int) :=
  match s.window c g with
  | none => none
  | some (r, w0, w1) => (s.chooseEpoch c g r w0 w1).map fun e => (s.written c g e, r, w0, w1)

/-- Whether a segment's last item is written, or none can come (R194, R195). -/
def State.segComplete (s : State) (c : Nat) (g : Segment) : Bool :=
  match s.segEpoch c g with
  | some (e, r, w0, w1) => e.complete w1 && !s.awaitsEpoch c g r w0 w1
  | none => false

/-- Whether an item of a mode is overrange (R48, R71, R207). -/
def itemOver (mode bits : Nat) : Bool :=
  match mode with
  | 0 | 1 => isOver (ofCode10 bits)
  | m => pointOver m 0 bits || (m == 2 && pointOver 2 1 bits)

/-- Fills the record of a segment into the crucible: its items by index within the window (R220, R235). -/
def cruFill (s : State) (c : Nat) (g : Segment) (w0 : Int) : State :=
  let base : Int := match g.ep with
    | some e => ceilDiv (w0 - (e.t0 + e.off)) e.period
    | none => 0
  let its := (s.segItems c g).map fun i => (((i.1 : Int) - base).toNat, i.2)
  let cal := s.segCal c g
  let fill (r : CruRec) : CruRec :=
    if r.tm = g.tm then
      { r with ready := true, items := its, record := recordBytes c g, head := g.flags.testBit 5
               short := g.flags.testBit 4 || g.flags.testBit 3, transition := cal }
    else r
  s.modCtx c fun x => { x with cru := { x.cru with active := x.cru.active.map fill } }

/-- A segment close of context `c` is a boundary for pending trims and for the pending lineup changes of dies that serve an
input the context is on (R108, R118). -/
def closeBoundary (s : State) (c : Nat) : State :=
  let pace := s.num O.CAL_PACE_CONTEXT
  let s := if s.cal.st = .pending ∧ s.num O.CAL_APPLY_MODE = 0 ∧ (pace = 0xFFFF ∨ pace = c) then
      { s with cal := { s.cal with boundary := some (s.cycle + 48) } } else s
  (List.range s.D).foldl (fun s d =>
    let on : Bool := match s.inputOfDie d with | some n => s.ctxOn c n | none => false
    if (s.die d).lineupPending ∧ on then s.setDie d { s.die d with wearNow := true } else s) s

/-- Whether an event of R50 lies after the window of the context's last record and before `till` grains: a discontinuity of the
capture input, or for a decimating context a pause of its own decimator (R50, R208). -/
def State.discSince (s : State) (x : Ctx) (g : Segment) (till : Nat) : Bool :=
  ((s.input g.input).discAt ++ (if g.dec then x.dec.discAt else [])).any fun d => decide (x.lastEnd.getD 0 ≤ d ∧ d < till)

/-- Closes a pending segment; `cut` when a command or suspension closes it before its last item (R194 to R196,
R211). -/
def closeSegment (s : State) (c : Nat) (g : Segment) (cut : Bool) : State :=
  match s.ctx c with
  | none => s
  | some x =>
    let seq := x.nextSeq
    let base := { g with closed := true, cut, seq }
    let forced := b2n g.forced * 128 + b2n g.dec * 256
    let (g', w0) : Segment × Int := match s.segEpoch c g with
      | none => ({ base with
          firstTm := g.tm, endTm := g.tm, flags := forced + b2n cut * 9 + b2n (!cut) * 49
          recFlags := b2n g.mismatch * 4 + b2n g.fallback * 2 + b2n (s.discSince x g g.tm) }, (g.tm : Int))
      | some (e, _, w0, w1) =>
        let (a, b) := e.cut w0 w1
        let cnt := b - a
        let g1 := { base with ep := some e, first := a, count := cnt }
        let its := s.segItems c g1
        let mode := g.mode
        let void := its.any fun i => itemVoid mode i.2.2 || (mode == 2 && i.2.2 / 1024 % 1024 == 0x200)
        let endT : Nat := (min w1 (e.endT : Int)).toNat
        let ovr := if g.dec then x.dec.overs.any fun t => decide (w0 ≤ (t : Int) ∧ t < endT)
          else its.any fun i => itemOver mode i.2.2
        let none_ := decide (cnt = 0) && !cut
        let head := decide (w0 < (e.t0 : Int)) || none_
        let tail := (!e.open_ && decide ((e.endT : Int) < w1)) || none_
        let disc := e.disc.any fun d => decide (d < a + cnt ∧ a < d + 48 ∧ cnt ≠ 0)
        let tb := s.discSince x g endT
        ({ g1 with
            firstTm := if cnt = 0 then w0.toNat else e.at_ a
            endTm := endT
            flags := forced + b2n disc * 64 + b2n head * 32 + b2n tail * 16 + b2n cut * 8 + b2n void * 2
              + b2n (head || tail || cut)
            recFlags := b2n ovr * 8 + b2n g.mismatch * 4 + b2n g.fallback * 2 + b2n tb }, w0)
    let put_ (h : Segment) : Segment := if h = g then g' else h
    let s := s.setCtx c { x with
      pending := x.pending.map put_, nextSeq := (seq + 1) % 2 ^ 32
      lastEnd := some (max (x.lastEnd.getD 0) g'.endTm) }
    let s := if g'.flags.testBit 3 then s.flag c O.CTX_STATUS 3 else s
    let s := if g'.flags.testBit 4 || g'.flags.testBit 5 then s.flag c O.CTX_STATUS 2 else s
    closeBoundary (assayClosed (cruFill s c g' w0) c g') c

/-- EVENT_REACHES_CONTEXT (R165, R195, R231, R245): the oldest event under way arrives L core cycles after it. -/
def execEventReachesContext (c : Nat) (s : State) : Host.Outcome State Fault Refusal :=
  done (match s.ctx c with
    | none => s
    | some x =>
      match x.pending.find? fun g => !g.reached with
      | none => s
      | some g =>
        let put_ (h : Segment) : Segment := if h = g then { g with reached := true } else h
        let s := s.runTo (g.tm / 480 + g.lat * 48)
        let s := s.setCtx c { x with pending := x.pending.map put_ }
        let ms := s.itemDies c { g with reached := true }
        assayAdmit (cruAdmit s c g.tm ms) c g.tm ms)

/-- SEGMENT_CLOSE (R194, R195): the oldest open segment whose event has arrived and whose last item is written. -/
def execSegmentClose (c : Nat) (s : State) : Host.Outcome State Fault Refusal :=
  done (match s.ctx c with
    | none => s
    | some x =>
      match x.pending.find? fun g => !g.closed && g.reached && s.segComplete c g with
      | none => s
      | some g => closeSegment s c g false)

/-! ## Publication (R195, R199) -/

/-- The first core cycle that begins at or after now. -/
def State.cycleUp (s : State) : Nat := (s.now + 47) / 48 * 48

/-- The first core cycle of the state a context changes to: after a command the first that begins after its write (R180). -/
def State.stateFrom (s : State) (x : Ctx) : Nat :=
  match x.busy with
  | some (_, t) => max (t / 48 * 48 + 48) s.cycleUp
  | none => s.cycleUp

/-- Changes the state of a context: CTX_STATE_TM takes the first core cycle in it (R180). A forced event still to come is not
kept (R149). -/
def enterCtx (s : State) (c : Nat) (st : CtxSt) : State :=
  match s.ctx c with
  | some x => (s.setCtx c { x with st, busy := none, arming := false, changedIn := none, forceAt := none }).putTm c
      O.CTX_STATE_TM (s.stateFrom x)
  | none => s

/-- The context whose turn it is to publish: the first in ascending order from `turn` (R195). -/
def State.publisher (s : State) : Option Nat :=
  let ready := (s.ctxs.filter fun c => c.2.pending.any Segment.closed).map Prod.fst
  ((ready.filter fun c => decide (s.turn ≤ c)) ++ ready).head?

/-- Publishes the oldest closed segment of context `c` (R195). -/
def publish (s : State) (c : Nat) : State :=
  match s.ctx c with
  | none => s
  | some x =>
    match x.pending.find? Segment.closed with
    | none => s
    | some g =>
      let s := { s with turn := (c + 1) % 4096 }
      let h := { g with entry := freeEntry x.table }
      let s := putDescriptor (s.setCtx c { x with pending := x.pending.erase g, table := x.table ++ [h] }) c h
      let s := (s.setObj c O.SEG_NEWEST_SEQ (ofN g.seq)).countWrap c O.SEG_CLOSED 64
      let s := pulse (s.flag c O.CTX_STATUS 0) 1 1 c
      let s := assayStart s c g
      match s.ctx c with
      | none => s
      | some x =>
        if x.tableFull ∧ x.pending = [] then
          let s := s.flag c O.CTX_STATUS 6
          if x.st = .armed ∧ !x.stopMet ∧ x.busy = none then enterCtx s c .held else s
        else s

/-- SEGMENT_PUBLISH (R195): the turn passes in ascending context number. -/
def execSegmentPublish (s : State) : Host.Outcome State Fault Refusal :=
  done (match s.publisher with
    | none => s
    | some c => publish s c)

/-! ## Releases (R200) -/

/-- A write of SEG_RELEASE_SEQ. -/
def releaseSeq (s : State) (p c : Nat) (v : Slot) : Acc :=
  ctxOwnerOnly s p c fun s => need (ObjTy.u32.fits v && (s.held c v.toNat).isSome) .range s fun s =>
    .ok (releaseSegment s c v.toNat)

/-- The SEQs of a table up to and including one, in the order of publication. -/
def seqsUpto (l : List Segment) (v : Nat) : List Nat :=
  match l with
  | [] => []
  | g :: r => if g.seq = v then [g.seq] else g.seq :: seqsUpto r v

/-- A write of SEG_RELEASE_UPTO. -/
def releaseUpto (s : State) (p c : Nat) (v : Slot) : Acc :=
  ctxOwnerOnly s p c fun s => need (ObjTy.u32.fits v && (s.held c v.toNat).isSome) .range s fun s =>
    match s.ctx c with
    | some x => .ok ((seqsUpto x.table v.toNat).foldl (fun s q => releaseSegment s c q) s)
    | none => .ok s

/-- Releases every held segment of a context. -/
def releaseAll (s : State) (c : Nat) : State :=
  match s.ctx c with
  | some x => (x.table.map Segment.seq).foldl (fun s q => releaseSegment s c q) s
  | none => s

/-- A write of SEG_RELEASE_ALL: 1 releases, other values are ignored (R215). -/
def releaseAllWrite (s : State) (p c : Nat) (v : Slot) : Acc :=
  ctxOwnerOnly s p c fun s => need (ObjTy.u8.fits v) .range s fun s => .ok (if v = 1 then releaseAll s c else s)

/-- SEG_RELEASE_SEQ (R200). -/
def execSegReleaseSeq (p : Nat) (v : Slot) (s : State) : Host.Outcome State Fault Refusal :=
  done (access s p O.SEG_RELEASE_SEQ fun s => releaseSeq s p (s.selected p) v)

/-- SEG_RELEASE_UPTO (R200). -/
def execSegReleaseUpto (p : Nat) (v : Slot) (s : State) : Host.Outcome State Fault Refusal :=
  done (access s p O.SEG_RELEASE_UPTO fun s => releaseUpto s p (s.selected p) v)

/-- SEG_RELEASE_ALL (R200). -/
def execSegReleaseAll (p : Nat) (v : Slot) (s : State) : Host.Outcome State Fault Refusal :=
  done (access s p O.SEG_RELEASE_ALL fun s => releaseAllWrite s p (s.selected p) v)

/-- What a waiting release of a path does. -/
def waitingRelease (s : State) (i : Instr) : Option State :=
  let run (p k : Nat) (f : State → Acc) : State := access s p k f
  match i with
  | .segReleaseSeq p v => some (run p O.SEG_RELEASE_SEQ fun s => releaseSeq s p (s.selected p) v)
  | .segReleaseUpto p v => some (run p O.SEG_RELEASE_UPTO fun s => releaseUpto s p (s.selected p) v)
  | .segReleaseAll p v => some (run p O.SEG_RELEASE_ALL fun s => releaseAllWrite s p (s.selected p) v)
  | _ => none

/-- The state that the releases at the front of a queue lead to. -/
def afterReleases : List Instr → State → State
  | [], s => s
  | i :: r, s => match waitingRelease s i with
    | some s => afterReleases r s
    | none => s

/-- The segments that SEGMENT_REVOKE revokes: blockers under Keep newest that are not freed by a release of the same core cycle,
which wins (R187, R212). The releases that wait next in the queue are those of the same core cycle (DESIGN CHOICE, log 70). -/
def State.toRevoke (s : State) (n : Nat) : List (Nat × Segment) :=
  let rest := (afterReleases s.pending s).blockers n
  (s.blockers n).filter fun b => s.revocable n b.2 && rest.any fun r => r.1 == b.1 && r.2.tm == b.2.tm

/-- SEGMENT_REVOKE (R187, R212): the writer of a Keep newest ring reaches pinned lines. -/
def execSegmentRevoke (n : Nat) (s : State) : Host.Outcome State Fault Refusal :=
  done (if s.fitted n ∧ (s.input n).ring = .writing then
      (s.toRevoke n).foldl (fun s b => revokeOn n s b.1 b.2) s
    else s)

/-- SEGMENT_RELEASE_EFFECTIVE (R200): every burst begun on the segment has completed. -/
def execSegmentReleaseEffective (c seq : Nat) (s : State) : Host.Outcome State Fault Refusal :=
  done (match s.held c seq with
    | some g => if g.released ∧ g.bursts = 0 then dropSegment s c seq else s
    | none => s)

/-! ## Leaving Armed (R185, R211) -/

/-- Whether a context with capture input `n` is Armed or Held (R185). -/
def State.captured (s : State) (n : Nat) : Bool :=
  s.ctxs.any fun (c, x) => (x.st == .armed || x.st == .held) && s.cN c O.CTX_INPUT == n

/-- The ring of input `n` goes Idle (R185): a pause ends, and a gap whose first sheet is not written any more stays known to the
records that follow it (R50, R188). -/
def ringIdle (s : State) (n : Nat) : State :=
  let x := s.input n
  let s := endEpoch (if x.ring = .paused then addPause s n s.now else s) n .idle
  if x.ring = .paused ∨ x.discNext = true then
    s.setInput n { s.input n with discNext := false, discAt := s.now * 480 :: (s.input n).discAt }
  else s

/-- The ring of input `n` goes Idle when no context with that capture input is Armed or Held (R185, R188). -/
def ringSettle (s : State) (n : Nat) : State :=
  if s.captured n ∨ (s.input n).ring = .idle then s else ringIdle s n

/-- Pending segments whose event has not reached the context are discarded: they were never delivered (R211). -/
def discardUnreached (s : State) (c : Nat) : State :=
  s.modCtx c fun x => { x with pending := x.pending.filter fun g => g.reached || g.closed }

/-- Every open segment of a context closes at once, with CUT where its last item is not written (R211). -/
def cutOpen (s : State) (c : Nat) : State :=
  match s.ctx c with
  | none => s
  | some x => (x.pending.filter fun g => !g.closed).foldl (fun s g => closeSegment s c g (!s.segComplete c g)) s

/-- Work in flight of a context that leaves Armed or Held for Defined, Suspended or Empty: segments close, points that are not
complete are discarded, and a pause of its decimator ends (R188, R211). -/
def stopWork (s : State) (c : Nat) : State :=
  (decUnpause (endGrid (cutOpen (discardUnreached s c) c) c false) c s.now).modCtx c fun x => { x with
    dec := { x.dec with restart := true } }

/-- Disarm, Free and suspension abandon the programs of a context's records that have not ended: their lanes are free, and each
record whose segment is or will be published counts as one without a block (R250, R274). A record that was not admitted has
no program and keeps its block of R245. -/
def abandonAssays (s : State) (c : Nat) : State :=
  match s.ctx c with
  | none => s
  | some x =>
    let gone := x.assays.filter fun r => !r.ended && !r.lanes.isEmpty
    gone.foldl (fun s r => ((dropARec s c r.tm).countSat c O.ASSAY_ABSENT 32).flag c O.ASSAY_STATUS 3) s

/-- What Disarm, Free and suspension do to work in flight (R211, R274). -/
def abandonWork (s : State) (c : Nat) : State := abandonAssays (stopWork s c) c

/-- Evaluators and streams are released (R137, R177). -/
def unbind (s : State) (c : Nat) : State :=
  ((capReleased s c []).modCtx c fun x => { x with
    evals := [], partners := [], partnerServed := [], streams := [], phase := [], ev := {}, recv := [], late := false
    toCompare := [], levels := [], levelsAt := 0, levelsWait := false, forceAt := none, arming := false
    holdUntil := 0, holdEvents := 0 }).setObj c O.TRIG_LATENCY 0

/-- The order of suspension causes that arrive together (R615). -/
def causeRank (k : Nat) : Nat := ([3, 4, 2, 6, 1, 5].findIdx? (· == k)).getD 6

/-- The cause a context records when another one is recorded already (R615). -/
def firstCause (old : Option Nat) (k : Nat) : Nat :=
  match old with
  | some o => if causeRank k < causeRank o then k else o
  | none => k

/-- Whether a suspension cause takes the context to Suspended: it is Armed or Held, or a stop action has taken it to Defined in
this core cycle (R179). -/
def State.suspendable (s : State) (x : Ctx) : Bool :=
  x.st == .armed || x.st == .held || (x.st == .defined && x.changedIn == some s.cycle)

/-- A suspended context takes its state and cause, and its event pulses (R179, R180, R213). -/
def enterSuspended (s : State) (c cause : Nat) : State :=
  let n := s.cN c O.CTX_INPUT
  let s := (enterCtx s c .suspended).modCtx c fun y => { y with armCause := none, changedIn := some s.cycle }
  let s := (s.setObj c O.CTX_SUSPEND_CAUSE (ofN cause)).flag c O.CTX_STATUS 1
  pulse (ringSettle s n) 1 4 c

/-- The work in flight of a context stops for a suspension: where a closed segment is still to be published the context keeps
its state, with BUSY, until that is done (R180, R211). A Disarm or Free under way goes on from Suspended. -/
def beginSuspension (s : State) (c cause : Nat) (x : Ctx) : State :=
  let s := unbind (abandonWork s c) c
  match s.ctx c with
  | none => s
  | some y =>
    if y.pending = [] then
      (enterSuspended s c cause).modCtx c fun y => { y with busy := if x.leaving then x.busy else none }
    else s.setCtx c { y with
      busy := if x.leaving then x.busy else some (.suspended, s.now), armCause := some cause, changedIn := some s.cycle }

/-- A suspension cause reaches a context (R179, R213, R615): one that is Armed or Held is Suspended; one that is Suspended or
on the way there since this core cycle keeps the first cause in order; one whose arm is not yet effective is Suspended once it
is Armed (DEDUCED, log 69). -/
def suspendCtx (s : State) (c cause : Nat) : State :=
  match s.ctx c with
  | none => s
  | some x =>
    if x.arming then s.setCtx c { x with armCause := some (firstCause x.armCause cause) }
    else match x.armCause with
      | some k =>
        if x.changedIn = some s.cycle then s.setCtx c { x with armCause := some (firstCause (some k) cause) } else s
      | none =>
        if s.suspendable x then beginSuspension s c cause x
        else if x.st = .suspended ∧ x.changedIn = some s.cycle then
          s.setObj c O.CTX_SUSPEND_CAUSE (ofN (firstCause (some (s.cN c O.CTX_SUSPEND_CAUSE)) cause))
        else s

/-- Contexts that a suspension cause may concern: bound ones, and those that changed state in this core cycle. -/
def State.reachable (s : State) : List Nat :=
  (s.ctxs.filter fun c => c.2.bound || c.2.changedIn == some s.cycle).map Prod.fst

/-! ## Context commands (R177 to R180) -/

/-- Whether an object index belongs to a context (R177, R213): 4010 to 44FF but the device-wide indexes and the
selectors held per path. -/
def isCtxObj (k : Nat) : Bool :=
  let i := k / 256
  decide (0x4010 ≤ i ∧ i ≤ 0x44FF) && !([0x4011, 0x4150, 0x41F0, 0x41F1, 0x4310, 0x44F0, 0x44F1].contains i)
    && k != O.SEG_SELECT && k != O.ASSAY_SELECT

/-- The objects of context `c` take their defaults (R177). -/
def resetCtxObjs (s : State) (c : Nat) : State :=
  { s with
    objs := s.objs.filter fun o => !((o.1 / 2 ^ 24 == c || o.1 / 2 ^ 24 == wrapInst c) && isCtxObj (o.1 % 2 ^ 24))
    blobs := s.blobs.filter fun o => !(o.1 / 2 ^ 24 == c && isCtxObj (o.1 % 2 ^ 24)) }

/-- Claim (R177): the writer becomes owner of an Empty context. -/
def ctxClaim (s : State) (p c : Nat) : Acc :=
  need (s.ctx c).isNone .presentState s fun s =>
    let s := (resetCtxObjs s c).setCtx c { owner := ownerOf p }
    .ok (s.putTm c O.CTX_STATE_TM (s.cycle + 48))

/-- BUSY: a state change of the context is completing (R180). -/
def Ctx.isBusy (x : Ctx) : Bool := x.busy.isSome || x.arming

/-- A command of a context by its owner, in one of the states given (R177). -/
def ctxCommand (s : State) (p c : Nat) (sts : List CtxSt) (steward : Bool) (f : State → Ctx → State) : Acc :=
  need (ownerOf p == s.ctxOwner c || (steward && ownerOf p == s.steward)) .noPermission s fun s =>
    match s.ctx c with
    | none => (s, some .presentState)
    | some x => if sts.contains x.st && !x.isBusy then .ok (f s x) else (s, some .presentState)

/-- Hold (R177, R211): acceptance ends; events not yet delivered are discarded. -/
def ctxHold (s : State) (p c : Nat) : Acc :=
  ctxCommand s p c [.armed] false fun s _ =>
    (discardUnreached s c).modCtx c fun x => { x with busy := some (.held, s.now) }

/-- Resume (R177, R210): acceptance resumes and the stop counters restart. -/
def ctxResume (s : State) (p c : Nat) : Acc :=
  ctxCommand s p c [.held] false fun s _ =>
    let t := s.cycle + 48
    let s := enterCtx s c .armed
    (s.modCtx c fun x => { x with
      armAt := t, sinceArm := 0, stopMet := false, stopAt := none, tableFull := false, stopFrom := t
      autoFrom := t }).putTm c O.CTX_STATE_TM t

/-- Disarm (R177, R211): work in flight stops now; evaluators still judge the core cycle of the write (R180). -/
def ctxDisarm (s : State) (p c : Nat) : Acc :=
  ctxCommand s p c [.armed, .held, .suspended] false fun s x =>
    (if x.st = .suspended then s else abandonWork s c).modCtx c fun x => { x with busy := some (.defined, s.now) }

/-- Free (R177, R200, R211): by the owner or the steward. -/
def ctxFree (s : State) (p c : Nat) : Acc :=
  ctxCommand s p c [.defined, .armed, .held, .suspended] true fun s x =>
    let s := if x.st = .armed ∨ x.st = .held then abandonWork s c else s
    (releaseAll s c).modCtx c fun x => { x with busy := some (.empty, s.now) }

/-- CTX_CLAIM (R177). -/
def execCtxClaim (p : Nat) (s : State) : Host.Outcome State Fault Refusal :=
  done (access s p O.CTX_CMD fun s => ctxClaim s p (s.selected p))

/-- CTX_HOLD (R177). -/
def execCtxHold (p : Nat) (s : State) : Host.Outcome State Fault Refusal :=
  done (access s p O.CTX_CMD fun s => ctxHold s p (s.selected p))

/-- CTX_RESUME (R177, R210). -/
def execCtxResume (p : Nat) (s : State) : Host.Outcome State Fault Refusal :=
  done (access s p O.CTX_CMD fun s => ctxResume s p (s.selected p))

/-- CTX_DISARM (R177, R211). -/
def execCtxDisarm (p : Nat) (s : State) : Host.Outcome State Fault Refusal :=
  done (access s p O.CTX_CMD fun s => ctxDisarm s p (s.selected p))

/-- CTX_FREE (R177). -/
def execCtxFree (p : Nat) (s : State) : Host.Outcome State Fault Refusal :=
  done (access s p O.CTX_CMD fun s => ctxFree s p (s.selected p))

/-- A context goes to Empty: its table, decimated rings and assay table are free, its crucible's buffer loses the
context's reference, and its routes lose their source (R177, R234, R341). -/
def emptyCtx (s : State) (c : Nat) : State :=
  let s := dropBuf s c
  let s := { s with allocs := s.allocs.filter fun a =>
    a.ctx != c || (match a.kind with | .cru h => (kvGet s.cruBufs h).isSome | _ => false) }
  sourceGone { s with ctxs := kvDel s.ctxs c, ports := kvDel s.ports (100 + c) } 1 c

/-- CTX_STATE_CHANGE_DONE (R180, R211): the work in flight is complete and the context takes its new state.
Disarm and Free wait for the publication of what has closed, Free also for every release. -/
def execCtxStateChangeDone (c : Nat) (s : State) : Host.Outcome State Fault Refusal :=
  done (match s.ctx c with
    | none => s
    | some x =>
      match x.busy with
      | none => s
      | some (st, t) =>
        let n := s.cN c O.CTX_INPUT
        -- a suspension that waited for the work in flight comes first (R179)
        let s := match x.armCause with
          | some k => if x.pending = [] then
              (enterSuspended s c k).modCtx c fun y => { y with busy := if st = .suspended then none else some (st, t) }
            else s
          | none => s
        match st with
        | .suspended => s
        | .held => enterCtx s c .held
        | .empty =>
          if x.pending = [] then
            let s := releaseAll s c
            match s.ctx c with
            | some y =>
              if y.table = [] then
                ringSettle ((emptyCtx (unbind s c) c).putTm c O.CTX_STATE_TM (s.stateFrom y)) n
              else s
            | none => s
          else s
        | st => if x.pending = [] then ringSettle (enterCtx (unbind s c) c st) n else s)

/-! ## Stop conditions (R210) -/

/-- STOP_TIME_EXPIRY (R210). -/
def execStopTimeExpiry (c : Nat) (s : State) : Host.Outcome State Fault Refusal :=
  let n := (s.obj c O.STOP_TIME).toNat
  done (match s.ctx c with
    | some x => if x.st = .armed ∧ n ≠ 0 then
        (s.runTo (x.stopFrom + n)).setCtx c { x with
          stopMet := true, stopAt := if x.stopAt.isNone then s.stopTimeAt c x else x.stopAt } else s
    | none => s)

/-- Whether no event can be accepted any more before the stop condition takes hold: every sample of an earlier core cycle has
been judged, but for those of the cycle of the last event (R210). -/
def Ctx.judgedUp (x : Ctx) : Bool :=
  x.ev.waiting.all fun j => decide (x.stopAt.getD 0 * 480 ≤ j.at_) || x.lastCycle == some (j.at_ / 23040 * 48)

/-- STOP_ACTION_APPLY (R210): once every pending segment is published. -/
def execStopActionApply (c : Nat) (s : State) : Host.Outcome State Fault Refusal :=
  done (match s.ctx c with
    | some x =>
      if x.st = .armed ∧ x.busy = none ∧ x.stopMet ∧ x.pending = [] ∧ x.judgedUp then
        let n := s.cN c O.CTX_INPUT
        let s := pulse (s.flag c O.CTX_STATUS 7) 1 3 c
        if s.cN c O.STOP_ACTION = 1 then
          let s := enterCtx (unbind (stopWork s c) c) c .defined
          ringSettle (s.modCtx c fun y => { y with changedIn := some s.cycle }) n
        else enterCtx s c .held
      else s
    | none => s)

end Sys2Proof.Machine
end

