-- ==== Sys2Proof/Machine/Arm.lean ====
section
/-!
DEFINITION. Arming a context: the checks of R447, R492, R526, R182, R241 and R276 in their order, what an accepted
arm allocates and binds (R181), and the first Armed core cycle.
-/
namespace Sys2Proof.Machine

/-- Line slots of the regions of a member set, none lost to rounding (R184, R193). -/
def State.windowFits (s : State) (n pre len : Nat) : Bool :=
  let sl := s.lineLen n
  sl != 0 && decide ((pre + len + 2 * sl + sl - 1) / sl + 256 ≤ s.ringLinesFor (s.input n).members)

/-- R193 for context `c`: its window fits the ring of its capture input. -/
def State.windowOk (s : State) (c : Nat) : Bool :=
  s.windowFits (s.cN c O.CTX_INPUT) (s.cI c O.SEG_PRE).natAbs (s.cN c O.SEG_LENGTH)

/-- Whether the decimation settings keep R202. -/
def State.decimationOk (s : State) (c : Nat) : Bool :=
  s.cN c O.DEC_MODE != 4 ||
    (smooth (s.cN c O.DEC_FACTOR) && (s.input (s.cN c O.CTX_INPUT)).members.length == 1)

/-- Gives back a context's table where its home or its size changes, and takes the new one (R181, R199). -/
def takeTable (s : State) (c h : Nat) : Option State :=
  let size := s.cN c O.SEG_TABLE_SIZE * 64
  if s.allocs.any fun a => a.ctx == c && a.kind == .table && a.die == h && a.size == size then some s
  else ((s.give c .table).take h size c .table).map Prod.snd

/-- Whether an arm needs a new decimated ring: another member set, or DEC_RING_MIB changed (R208). -/
def State.needsRing (s : State) (c : Nat) : Bool :=
  s.cN c O.DEC_MODE != 0 &&
    (match s.ctx c with
     | none => true
     | some x => match x.dec.rings.getLast? with
       | none => true
       | some r => r.members != (s.input (s.cN c O.CTX_INPUT)).members || r.mib != s.cN c O.DEC_RING_MIB)

/-- Takes the decimated ring an arm needs, freeing the one in hand when it holds no segment (R208). -/
def takeRing (s : State) (c : Nat) : Option State :=
  if s.needsRing c then
    let ms := (s.input (s.cN c O.CTX_INPUT)).members
    let m := s.cN c O.DEC_RING_MIB
    match s.ctx c with
    | none => none
    | some x =>
      let empty := x.dec.rings.filter fun r => !(x.segments.any fun g => g.dec && g.ring == r.id)
      let s := empty.foldl (fun s r => s.give c (.dec r.id)) s
      let kept := x.dec.rings.filter fun r => !empty.contains r
      if 2 ≤ kept.length then none
      else
        let id := x.dec.nextRing
        (s.takeAll ms (m * mib) c (.dec id)).map fun (os, s) =>
          s.modCtx c fun y => { y with dec := { y.dec with
            rings := kept ++ [{ id, mib := m, members := ms, offs := os }], nextRing := id + 1 } }
  else some s

/-- What the checks of R182 find, in the table's order; `t` is the outcome of the trigger binding. -/
def State.armErrs (s : State) (c : Nat) (t : Binding ⊕ (Nat × Abort)) : List (Bool × Abort) :=
  let n := s.cN c O.CTX_INPUT
  let room : Bool := match t with
    | .inl b => ((takeTable s c (b.evals.headD 0 / 8)).bind fun s => takeRing s c).isSome
    | .inr _ => (takeRing s c).isSome
  let full : Bool := match s.ctx c with
    | some x => s.cN c O.SEG_FULL_ACTION == 0 && decide (s.cN c O.SEG_TABLE_SIZE ≤ x.inUse)
    | none => false
  let trig : Bool × Abort := match t with
    | .inl _ => (false, .presentState)
    | .inr (_, a) => (true, a)
  [ (s.unserved n, .presentState), (!s.windowOk c, .incompatible), (!s.decimationOk c, .incompatible),
    (!room, .resource), (s.overBudget false c (s.decRate c), .resource), (full, .presentState), trig ]

/-- The partners whose die serves the source of the evaluator they partner (R161). -/
def State.servedPartners (s : State) (c : Nat) (ps : List Nat) : List Nat :=
  let srcs := match s.bindKind c with
    | 0 => [s.cN c O.TRIG_SOURCE]
    | 2 => [s.cN c O.TRIG_SOURCE, s.cN c O.SEQ_B_SOURCE]
    | _ => []
  ((ps.zip srcs).filter fun q => (s.serving q.2).contains (q.1 / 8)).map Prod.fst

/-- Binds what an accepted arm binds and starts the wait for its first Armed core cycle (R181). -/
def armBind (s : State) (c : Nat) (b : Binding) : State :=
  let h := b.evals.headD 0 / 8
  let s := ((s.setObj c O.CTX_ERR 0).setObj c O.TRIG_ERR 0).setObj c O.TRIG_LATENCY (ofN (s.latency c))
  let s := [O.TRIG_EVENTS, O.TRIG_HELD_OFF, O.TRIG_FALLBACKS, O.TRIG_MISMATCHES].foldl (fun s k => s.setObj c k 0) s
  s.modCtx c fun x => { x with
    evals := b.evals, partners := b.partners, partnerServed := s.servedPartners c b.partners, streams := b.streams
    phase := [], homeDie := h, arming := true, armCause := none, armAt := (s.now + 64 * 48 + 47) / 48 * 48
    ev := {}, recv := [], late := false, toCompare := [], holdUntil := 0, holdEvents := 0, forceAt := none
    lastCycle := none, levels := [], levelsAt := 0, levelsWait := false, latFrom := 0, mismatchNext := false }

/-- An input-path test starts on input `n` (R530, R587, R588): an Absorbed, Dark or Changing input is skipped; one with
a context Armed or Held is not tested. -/
def startTest (s : State) (n : Nat) (commanded : Bool) : State :=
  let st := (s.input n).st
  if st = .absorbed ∨ st = .dark ∨ st = .changing then s.put (O.PTEST_RESULT_n + n) 3
  else if s.busyInput n then s
  else { s with test := some { input := n, commanded } }

/-- A test has ended: the one that waits starts, a commanded one first (R588, R589). -/
def nextTest (s : State) : State :=
  let s := match s.test, s.testNext with
    | none, some n => startTest { s with testNext := none } n true
    | _, _ => s
  s.testDue.foldl (fun s n => if s.test.isNone then startTest { s with testDue := s.testDue.erase n } n false else s) s

/-- An arm on input `n` abandons its input-path test (R540, R588). -/
def abandonTest (s : State) (c : Nat) : State :=
  match s.test with
  | some t => if s.ctxOn c t.input then nextTest { s with test := none } else s
  | none => s

/-- The checks of R182, R241 and R276 and what the arm does when none applies. -/
def armTry (s : State) (c : Nat) : Acc :=
  let t := s.trigArm c
  let s := s.setObj c O.CRU_PRE_MAX (ofI (s.cruPreMax c))
  match firstErr 1 (s.armErrs c t) with
  | some (e, a) =>
    let s := s.setObj c O.CTX_ERR (ofN e)
    let s := match e, t with | 7, .inr (k, _) => s.setObj c O.TRIG_ERR (ofN k) | _, _ => s
    (s, some a)
  | none =>
    match t with
    | .inr (k, a) => (s.setObj c O.TRIG_ERR (ofN k), some a)
    | .inl b =>
      let h := b.evals.headD 0 / 8
      match (takeTable s c h).bind fun s => takeRing s c with
      | none => (s.setObj c O.CTX_ERR 4, some .resource)
      | some s1 =>
        match firstErr 1 (s1.cruErrs c h) with
        | some (e, a) => (s.setObj c O.CRU_ERR (ofN e), some a)
        | none =>
          let s2 := cruArm s1 c
          match firstErr 1 (s2.assayErrs c h) with
          | some (e, a) => (s.setObj c O.ASSAY_ERR (ofN e), some a)
          | none => .ok (abandonTest (armBind (assayArm s2 c h) c b) c)

/-- Arm (R177, R181): by the owner, in Defined or Suspended. -/
def ctxArm (s : State) (p c : Nat) : Acc :=
  need (ownerOf p == s.ctxOwner c) .noPermission s fun s =>
  let n := s.cN c O.CTX_INPUT
  need ((n :: s.watched c).all fun k => s.subscribed k (ownerOf p)) .noPermission s fun s =>
  let free : Bool := match s.ctx c with
    | some x => (x.st == .defined || x.st == .suspended) && !x.isBusy
    | none => false
  need (free && s.num O.POWER_PHASE == 0 && s.dev != .watch && !s.noReference) .presentState s fun s => armTry s c

/-- CTX_ARM (R177, R181, R182). -/
def execCtxArm (p : Nat) (s : State) : Host.Outcome State Fault Refusal :=
  done (access s p O.CTX_CMD fun s => ctxArm s p (s.selected p))

/-- The stream ring of an input starts when it is Idle and its stream runs (R181, R185). -/
def ringStart (s : State) (n t : Nat) : State :=
  let x := s.input n
  if x.ring = .idle ∧ (x.st = .single ∨ x.st = .alloyed) then openEpoch s n (s.boundary n t) false else s

/-- CTX_ARM_EFFECTIVE (R181): the context's first Armed core cycle begins. -/
def execCtxArmEffective (c : Nat) (s : State) : Host.Outcome State Fault Refusal :=
  done (match s.ctx c with
    | none => s
    | some x =>
      if x.arming then
        let t := max x.armAt s.cycle
        let s := s.runTo t
        let s := s.setCtx c { x with
          st := .armed, arming := false, armCause := none, armAt := t, sinceArm := 0, stopMet := false, stopAt := none
          tableFull := false, stopFrom := t, autoFrom := t, changedIn := none
          lastEnd := some (x.lastEnd.getD (t * 480))
          dec := { x.dec with restart := true, disc := false, from_ := t * 480 } }
        let s := (s.putTm c O.CTX_STATE_TM t).setObj c O.CTX_SUSPEND_CAUSE 0
        let s := ringStart s (s.cN c O.CTX_INPUT) t
        match x.armCause with | some k => suspendCtx s c k | none => s
      else s)

end Sys2Proof.Machine
end

