-- ==== Sys2Proof/Machine/Regroup.lean ====
section
/-!
DEFINITION. What the loss or the removal of a die does to inputs and contexts: regroups (R84 to R87, R89, R90),
void fill (R305), evaluators and streams bound again (R160), and lost segments (R532).
-/
namespace Sys2Proof.Machine

/-- Whether a die is Lost or Retired. -/
def State.gone (s : State) (d : Nat) : Bool := (s.die d).st == .lost || (s.die d).st == .retired

/-! ## Contexts (R160, R532, R533) -/

/-- The segments a context has not yet published are lost: no SEQ, counted in SEG_DROPPED (R532). -/
def losePending (s : State) (c : Nat) : State :=
  match s.ctx c with
  | none => s
  | some x =>
    let n := (x.pending.filter Segment.closed).length
    let keep (r : ARec) : Bool := !(x.pending.any fun g => g.tm == r.tm)
    let s := s.setCtx c { x with
      pending := [], nextSeq := (x.nextSeq + 2 ^ 32 - n) % 2 ^ 32, assays := x.assays.filter keep
      cru := { x.cru with active := x.cru.active.filter CruRec.ready } }
    s.countSat c O.SEG_DROPPED 32 x.pending.length

/-- A context loses its home die: its unpublished segments are lost and it is Suspended with cause 3 (R532). -/
def loseHome (s : State) (c : Nat) : State :=
  match s.ctx c with
  | some _ => suspendCtx (losePending s c) c 3
  | none => s

/-- Evaluators in use by contexts other than `c`, and failed ones. -/
def State.usedBeside (s : State) (c : Nat) : List Nat :=
  (s.ctxs.flatMap fun (k, x) => if x.bound && k != c then x.evals ++ x.partners else []) ++ s.faults.evalFailed

/-- The load of the ring without the streams of context `c`. Streams of contexts that are about to be routed again are released
first, so that they do not count (R160). -/
def State.loadBeside (s : State) (c : Nat) : List (Nat × Bool) :=
  (s.ctxs.flatMap fun (k, x) => if x.bound && k != c then x.streams else []).flatMap (streamLinks s.D)

/-- Whether evaluator `v` must be bound again: failed, its die gone, or its die serves none of `serve` (R160). -/
def State.evalBad (s : State) (v : Nat) (serve : Option (List Nat)) : Bool :=
  s.gone (v / 8) || s.faults.evalFailed.contains v ||
    (match serve with | some ds => !ds.contains (v / 8) | none => false)

/-- Home placements with the home evaluator kept and the second bound again where it must be (R136, R160). -/
def State.homesKept (s : State) (c : Nat) (x : Ctx) (used : List Nat) : List (List Nat) :=
  match s.bindKind c, x.evals with
  | 1, v :: w :: _ =>
    if s.evalBad w none then ((freeEvals (v :: used) (v / 8)).head?).toList.map fun w => [v, w] else [[v, w]]
  | 2, v :: w :: _ =>
    let b := s.cN c O.SEQ_B_SOURCE
    if s.evalBad w (if b < 8 then some (s.serving b) else none) then
      (sortN (s.serving b)).filterMap fun d => ((freeEvals (v :: used) d).head?).map fun w => [v, w]
    else [[v, w]]
  | _, vs => [vs]

/-- Whether partner `v` of an evaluator with source `src` must be bound again: its die is gone, it failed, or its die no longer
serves the source that it served when it was bound (R160, R161). -/
def State.partnerBad (s : State) (x : Ctx) (v src : Nat) : Bool :=
  s.evalBad v (if x.partnerServed.contains v then some (s.serving src) else none)

/-- Partner placements with the partners kept that may stay (R160, R161). -/
def State.partnersKept (s : State) (c : Nat) (x : Ctx) (used home : List Nat) : List (List Nat) :=
  let a0 := s.cN c O.TRIG_SOURCE
  match s.bindKind c, x.partners with
  | _, [] => [[]]
  | 2, a :: b :: _ =>
    let used := home ++ used
    let opt (v h src : Nat) (used : List Nat) : List Nat :=
      if s.partnerBad x v src then
        (s.partnerDies h (s.serving src)).filterMap fun d => (freeEvals used d).head?
      else [v]
    (opt a (home.headD 0 / 8) a0 used).flatMap fun a =>
      (opt b (home.getD 1 0 / 8) (s.cN c O.SEQ_B_SOURCE) (a :: used)).map fun b => [a, b]
  | _, ps => if ps.any fun v => s.partnerBad x v a0 then s.partnersOf c used home else [ps]

/-- Binds evaluators and streams of a bound context again, the home evaluator kept (R160). -/
def State.rebinding (s : State) (c : Nat) (x : Ctx) : Option Binding :=
  let used := s.usedBeside c
  s.tryBind c (s.loadBeside c) (s.homesKept c x used) (s.partnersKept c x used)

/-- The trit carried of a comparison (key of `streamKey`) whose evaluator's die was `old` and is `new`: local samples and a stream
whose two dies stay go on, any other stream starts anew (DESIGN CHOICE, log 86). -/
def keepsTrit (qs rs : List Stream) (old new : List Nat) (key : Nat) : Bool :=
  let i := if 256 ≤ key then 1 else 0
  let a := old.getD i (old.headD 0) / 8
  let b := new.getD i (new.headD 0) / 8
  let d := key % 16
  a == b && (d == a || (qs.any (fun q => q.src == d && q.dst == a) && rs.any fun q => q.src == d && q.dst == a))

/-- A context takes a new binding in place of the streams `qs`: REROUTED sets and L takes its value, for the events from now on
(R160, R167). A stream that is routed again between the same two dies goes on with its byte and its last trit; any other
starts anew (R30; DESIGN CHOICE, log 86). -/
def reroute (s : State) (c : Nat) (qs : List Stream) (b : Binding) : State :=
  let l := s.cN c O.TRIG_LATENCY
  let kept (k : Nat) : Bool := qs.any (fun q => linkKey q.src q.dst == k) && b.streams.any fun q => linkKey q.src q.dst == k
  let s := (capReleased s c b.streams).modCtx c fun x => { x with
    evals := b.evals, partners := b.partners, partnerServed := s.servedPartners c b.partners, streams := b.streams
    phase := x.phase.filter fun p => kept p.1, recv := x.recv.filter fun p => keepsTrit qs b.streams x.evals b.evals p.1
    latOld := l, latFrom := s.now * 480 }
  let s := (s.setObj c O.TRIG_LATENCY (ofN (s.latency c))).flag c O.TRIG_STATUS 3
  -- the largest record pass 2 takes follows the size of the alloy (R247)
  if s.cN c O.ASSAY_PASS2_MAX = 0 then s
  else s.setObj c O.ASSAY_PASS2_MAX (ofN (524288 * (s.input (s.cN c O.CTX_INPUT)).members.length))

/-- The streams of a context, which held `qs`, are routed again, or it is Suspended with cause 3 (R160, R533). -/
def rebindFrom (qs : List Stream) (s : State) (c : Nat) : State :=
  match s.ctx c with
  | none => s
  | some x =>
    if x.bound ∧ x.evals ≠ [] then
      if s.gone (x.homeDie) then loseHome s c
      else match s.rebinding c x with
        | some b => reroute s c qs b
        | none => suspendCtx s c 3
    else s

/-- The streams of one context are routed again. -/
def rebind (s : State) (c : Nat) : State := rebindFrom ((s.ctx c).elim [] Ctx.streams) s c

/-- Contexts release their streams (R160). -/
def dropStreams (s : State) (cs : List Nat) : State := cs.foldl (fun s c => s.modCtx c fun x => { x with streams := [] }) s

/-- The streams of several contexts are routed again, in ascending context number: all of them are released first, so that none
holds capacity that it gives up (R159, R160). -/
def rebindAll (s : State) (cs : List Nat) (after : State → Nat → State := fun s _ => s) : State :=
  cs.foldl (fun t c => after (rebindFrom ((s.ctx c).elim [] Ctx.streams) t c) c) (dropStreams s cs)

/-- Whether a context watches or captures one of the inputs. -/
def State.ctxTouches (s : State) (c n : Nat) : Bool := s.ctxOn c n

/-- Contexts that are Armed, Held or arming. -/
def State.boundCtxs (s : State) : List Nat := (s.ctxs.filter fun c => c.2.bound).map Prod.fst

/-- A context on input `n` whose window no longer fits the ring is Suspended with cause 6 (R193). -/
def windowCheck (n : Nat) (s : State) (c : Nat) : State :=
  match s.ctx c with
  | some x => if x.bound ∧ s.cN c O.CTX_INPUT = n ∧ !s.windowOk c then suspendCtx s c 6 else s
  | none => s

/-- Every bound context on input `n` is routed again, then its window is checked (R160, R193). -/
def rebindInput (s : State) (n : Nat) : State := rebindAll s (s.boundCtxs.filter (s.ctxOn · n)) (windowCheck n)

/-! ## Inputs (R84 to R90, R305) -/

/-- The sheets of a lost die after its last memory heartbeat, once both the heartbeat and the loss are known (R305): in an
alloy they are filled void up to the line in force at the loss; on a Single input they count as not written. -/
def settleFill (s : State) (d : Nat) : State :=
  match (s.die d).silentAt, (s.die d).fillDue with
  | some t, some (n, e, last) =>
    let s := s.setDie d { s.die d with fillDue := none }
    -- the lines that were complete when the last heartbeat was sent
    let first := (t * 480 - e.t0) / (e.perLine * e.period)
    if e.perLine = 0 ∨ e.lines = 0 then s
    else if e.members = [d] then
      let cut (x : Epoch) : Epoch := if x.number = e.number ∧ first * e.perLine < x.count then
        { x with count := first * e.perLine, endT := e.t0 + first * e.perLine * e.period } else x
      s.setInput n { s.input n with epochs := (s.input n).epochs.map cut }
    else
      (List.range (last - first)).foldl (fun s i =>
        s.store (capAddr d ((e.slot + first + i) % e.lines * 64)) voidSheet) s
  | _, _ => s

/-- Die `d`, Lost, served input `n`: its unwritten sheets are dealt with now, or at the takeover where that is still to
come (R305). -/
def lostSheets (s : State) (n d : Nat) : State :=
  match (s.die d).st, (s.input n).epochs with
  | .lost, e :: _ =>
    if e.members.contains d ∧ (s.input n).ring ≠ .idle then
      settleFill (s.setDie d { s.die d with fillDue := some (n, e, e.count / e.perLine) }) d
    else s
  | _, _ => s

/-- The writers of every member of input `n` stop: its epoch ends and its consumers see a gap. -/
def stopStream (s : State) (n : Nat) : State :=
  let s := endEpoch s n (s.input n).ring
  gapConsumers s n

/-- Input `n` enters Dark: its alloy is dissolved and contexts bound on it are Suspended with cause 2 (R90). A front-end
change that settles goes on to take effect (R63). -/
def darkInput (s : State) (n : Nat) : State :=
  let s := abandonSkew s n
  let s := (s.reachable.filter (s.ctxOn · n)).foldl (fun s c => suspendCtx s c 2) s
  let s := ringIdle s n
  s.setInput n { s.input n with
    st := .dark, members := [], served := false, voidDies := [], next := none, regrouped := false }

/-- No member is eligible: the input goes Dark and its former members return to their native inputs (R84). Where the
native die of the input is itself neither Lost nor Retired, the rule says both Dark and Single; the input ends Single
(DESIGN CHOICE, log 60). -/
def dissolve (s : State) (n : Nat) : State :=
  let s := darkInput s n
  let back := (List.range s.D).filter fun k => (s.input k).host == some n
  let s := back.foldl releaseInput s
  if s.gone n ∨ (s.die n).st = .off then s else releaseInput s n

/-- The selection of R84 when die `d` leaves input `n`, and the start of its regroup gap (R86). -/
def regroup (s : State) (n d : Nat) : State :=
  let s := abandonSkew (stopStream s n) n
  match s.regroupWindow n d with
  | none => dissolve s n
  | some w =>
    let x := s.input n
    s.setInput n { x with
      st := .regrouping, next := some (sortN w, true), nextFirst := w.headD 0
      gapReserve := x.members.filter fun k => !w.contains k && !s.gone k }

/-- The streams that die `d` sends are released (R85). -/
def loseStreams (s : State) (d : Nat) : State :=
  s.boundCtxs.foldl (fun s c => match s.ctx c with
    | some x =>
      let qs := x.streams.filter fun q => q.src != d
      (capReleased s c qs).modCtx c fun x => { x with streams := qs }
    | none => s) s

/-- A member of input `n` is Lost or Retired: what becomes of the input (R84, R85, R89). With REGROUP_ENABLE FALSE an alloy
of two or more keeps its membership, also where no member is left that is eligible; a die of a set that is being
committed is treated as a member that a regroup removes, whatever REGROUP_ENABLE holds (DESIGN CHOICE, log 61). A further
member lost while a gap runs makes the selection run again over the old member set, from the die newly lost; it can end
Dark (DESIGN CHOICE, log 89). -/
def memberGone (s : State) (n d : Nat) : State :=
  let x := s.input n
  match x.st with
  | .single => darkInput (lostSheets s n d) n
  | .changing =>
    -- the set the commit leads to loses the die before its stream starts
    let ms := (x.next.map Prod.fst).getD x.members
    let s := s.setInput n { x with members := ms }
    if ms = [d] then darkInput s n else regroup s n d
  | .regrouping => regroup s n d
  | .alloyed =>
    let s := lostSheets s n d
    if x.members = [d] then regroup s n d
    else if s.num O.REGROUP_ENABLE = 0 then
      loseStreams (s.setInput n { s.input n with voidDies := d :: x.voidDies }) d
    else regroup s n d
  | _ => s

/-- The input whose stream die `d` serves or is about to serve. -/
def State.servedBy (s : State) (d : Nat) : Option Nat :=
  match (List.range s.D).find? fun n =>
      (match (s.input n).next with | some (ms, _) => ms.contains d | none => false) with
  | some n => some n
  | none => (List.range s.D).find? fun n => (s.input n).members.contains d && (s.input n).st != .changing

/-- The gap of a regroup ends: the new alloy's stream starts (R86, R87). -/
def regroupEnd (s : State) (n : Nat) : State :=
  let x := s.input n
  match x.st, x.next with
  | .regrouping, some (ms, _) =>
    let out := x.gapReserve
    let s := streamStart s n ms true
    let s := out.foldl (fun s d => lineupAtOnce (s.setDie d { s.die d with st := .reserve }) d) s
    let s := (s.put (inObj O.ALLOY_FIRST_n n) (ofN x.nextFirst)).put (inObj O.ALLOY_SIZE_n n) (ofN ms.length)
    let s := pulse ((tarnish s 3 0xFF n ms.length 0xFF13).countSat 0 O.REGROUP_COUNT 32) 7 4 0
    let s := s.putTm 0 (inObj O.ALLOY_REGROUP_TM_n n) (s.boundary n s.now)
    let s := rebindInput s n
    -- a Paused ring resumes once the line that the new stream would write is free (R188)
    if (s.input n).ring ≠ .paused ∧ ((s.input n).ring = .writing ∨ s.captured n) then
      openEpoch s n (s.boundary n s.now) true
    else s
  | _, _ => s

end Sys2Proof.Machine
end

