-- ==== Sys2Proof/Machine/Memory.lean ====
section
/-!
DEFINITION. The capture memory controllers (chapter 9): views (R286), refresh (R290), self-refresh (R293), retraining
(R294), parity (R296), checks, poison and scrub (R297 to R300), sparing (R301 to R303) and takeover (R304, R306).
-/
namespace Sys2Proof.Machine

/-- Whether the module is in Ready or Armed. -/
def State.running (s : State) : Bool := s.dev == .ready || s.dev == .armed

/-- Whether audit and scrub run: in Ready and Armed, until a transition to Watch or Deep has begun (R493). -/
def State.working (s : State) : Bool := s.running && s.get O.POWER_PHASE != 1 && s.get O.POWER_PHASE != 3

/-- Refreshes a pseudo-channel has postponed. -/
def HalfCtl.owed (h : HalfCtl) (pc : Nat) : Nat := (kvGet h.postponed pc).getD 0

/-- Notes whether the real-time queue of a pseudo-channel holds requests (R288). -/
def HalfCtl.setWaits (h : HalfCtl) (pc : Nat) (w : Bool) : HalfCtl :=
  { h with rtWaits := if w then sortN (pc :: h.rtWaits.erase pc) else h.rtWaits.erase pc
           agedLast := if w then h.agedLast else h.agedLast.erase pc }

/-- Whether the queues of a pseudo-channel are empty (R288). -/
def HalfCtl.queuesEmpty (h : HalfCtl) (pc : Nat) : Bool := !h.rtWaits.contains pc && !(h.queue.any fun q => q.pc == pc)

/-- REFRESH_DUE (R290): postponed while real-time requests are queued; the fifth forces a run of all five. A retraining step
that meets it on the channel waits (R308). -/
def execRefreshDue (d pc : Nat) (rtQueued : Bool) (s : State) : Host.Outcome State Fault Refusal :=
  let h := (s.half d).setWaits pc rtQueued
  let h := { h with refreshAt := kvPut h.refreshAt (pc / 2) s.cycle }
  done (if s.served d ∧ pc < 16 ∧ !(s.stack (d / 2)).selfRefresh.contains (chanOf d pc) then
    if rtQueued then
      if h.owed pc < s.num O.MEM_POSTPONE_MAX then
        (s.setHalf d { h with postponed := kvSet 0 h.postponed pc (h.owed pc + 1) }).countWrap 0 O.MEM_POSTPONED 64
      else s.setHalf d { h with postponed := kvDel h.postponed pc }
    else s.setHalf d h
  else s)

/-- POSTPONED_REFRESH_ISSUE (R290): the real-time queue of the pseudo-channel is empty. -/
def execPostponedRefreshIssue (d pc : Nat) (s : State) : Host.Outcome State Fault Refusal :=
  let h := (s.half d).setWaits pc false
  done (if s.served d ∧ h.owed pc ≠ 0 then
    s.setHalf d { h with postponed := kvSet 0 h.postponed pc (h.owed pc - 1) } else s)

/-- Whether self-refresh is open to an idle channel: in Watch, after an idle time that is not 0 (never), or between line
fetches of a running raster engine whose tolerance is long enough (R293). -/
def State.srAllowed (s : State) : Bool :=
  s.dev == .watch || (s.running && (s.num O.MEM_IDLE_SR_US != 0
    || s.raster.st != 0 && decide (1000 ≤ s.num O.MEM_RT_TOLERANCE_NS)))

/-- Whether a refresh of channel `ch` of stack `st` is postponed. -/
def State.chanOwes (s : State) (st ch : Nat) : Bool :=
  let h := s.half (2 * st + ch / 8)
  h.owed (2 * (ch % 8)) != 0 || h.owed (2 * (ch % 8) + 1) != 0

/-- Whether a request waits on channel `ch` of stack `st`: it abandons an entry into self-refresh (R295). -/
def State.chanBusy (s : State) (st ch : Nat) : Bool :=
  let h := s.half (2 * st + ch / 8)
  !h.queuesEmpty (2 * (ch % 8)) || !h.queuesEmpty (2 * (ch % 8) + 1)

/-- SELF_REFRESH_ENTRY (R281, R293, R295): an idle channel whose controller runs, with no request waiting and no refresh
postponed. -/
def execSelfRefreshEntry (st ch : Nat) (s : State) : Host.Outcome State Fault Refusal :=
  let x := s.stack st
  done (if st < s.D / 2 ∧ ch < 16 ∧ s.served (2 * st + ch / 8) ∧ s.srAllowed ∧ !s.chanOwes st ch ∧ !s.chanBusy st ch
      ∧ !x.selfRefresh.contains ch then
    s.setStack st { x with selfRefresh := sortN (ch :: x.selfRefresh) } else s)

/-- SELF_REFRESH_EXIT (R281, R293, R295): a request has reached the channel. -/
def execSelfRefreshExit (st ch : Nat) (s : State) : Host.Outcome State Fault Refusal :=
  done (if s.served (2 * st + ch / 8) then exitSelfRefresh s st ch else s)

/-! ## Sparing (R300 to R303) -/

/-- Pseudo-channel `pc` of die `d` fails: it is spared, or recorded where the reserve is in use (R300, R301, R303). -/
def failPc (s : State) (d pc : Nat) : State :=
  let h := s.half d
  if h.spared = some pc ∨ h.failed.contains pc then s
  else if s.restarting then { s with deferred := s.deferred ++ [.stagingStall d ⟨pc, []⟩] }
  else
    let s := if h.spare = 0 then
        sparingEvent ((s.setHalf d { h with spare := 1, spared := some pc, copying := true }).flag 0 O.MEM_STATUS 3) pc
      else s.setHalf d { h with spare := 3, failed := pc :: h.failed }
    tarnish s 9 d 0xFF pc 0xFF21

/-- Whether channel `ch` of die `d` may take a retraining step: out of self-refresh, 2 µs after the last step, the exit from
self-refresh and a refresh that met a step (R294, R308), and with no other channel between its first and last step. -/
def State.mayStep (s : State) (d ch : Nat) : Bool :=
  let h := s.half d
  s.served d && decide (ch < 8) && !(s.stack (d / 2)).selfRefresh.contains (8 * (d % 2) + ch)
    && decide ((kvGet h.stepFrom ch).getD 0 ≤ s.now) && (h.retrain.getD (ch, 0, false)).1 == ch

/-- RETRAIN_STEP (R294): `ch` is the die's channel 0 to 7; `bad` names the pseudo-channels whose lanes found the timing
outside its window, of which those of the channel count. A refresh that is due on the channel in this core cycle goes first
and the step waits 2 µs (R308). -/
def execRetrainStep (d ch : Nat) (bad : List Nat) (s : State) : Host.Outcome State Fault Refusal :=
  let bad := bad.filter fun pc => pc / 2 == ch
  let (_, k, rep) := (s.half d).retrain.getD (ch, 0, false)
  done (if s.mayStep d ch then
      let s := holdSteps s d ch
      let h := s.half d
      if kvGet h.refreshAt ch = some s.cycle then s
      else if bad ≠ [] ∧ rep = false then s.setHalf d { h with retrain := some (ch, k, true) }
      else
        let next : Option (Nat × Nat × Bool) := if k + 1 < 32 then some (ch, k + 1, false) else none
        (uniq bad).foldl (fun s pc => failPc s d pc) (s.setHalf d { h with retrain := next })
  else s)

/-- Writes to units of a pseudo-channel that has just been failed, which had not reached the stack: they go to their targets in
the spare reserve and are marked (R292, R296, R302). -/
def spareWrites (s : State) (d pc : Nat) (us : List Nat) : State :=
  (us.filter fun u => unitPc u == pc).foldl (fun s u => markWritten (wakePc s d (unitPc ((s.half d).writeUnit u))) d u) s

/-- The queued read whose command failed in three replays is executed on the spare reserve (R296). -/
def spareRead (s : State) (d pc : Nat) : State :=
  let h := s.half d
  if h.spared = some pc then
    match h.queue.find? fun q => q.pc == pc with
    | some q => s.setHalf d { h with queue := h.queue.map fun r => if r = q then { r with onSpare := true } else r }
    | none => s
  else s

/-- PARITY_ERROR (R296): `error.third` when the same command has failed in three replays; it is then executed on the spare reserve: a
write of the unit named, or the oldest queued read of the pseudo-channel. -/
def execParityError (d pc : Nat) (error : ParityIn) (s : State) : Host.Outcome State Fault Refusal :=
  done (if s.served d ∧ pc < 16 then
    let s := tarnish (s.countSat 0 O.MEM_PARITY_COUNT 32) 8 d 0xFF pc
    if error.third then
      let s := failPc (s.flag 0 O.MEM_STATUS 2) d pc
      match error.write with
      | some u => spareWrites s d pc [u]
      | none => spareRead s d pc
    else s
  else s)

/-- STAGING_STALL (R292): real-time writes of a pseudo-channel have waited 10 µs; it is failed, and its staged writes, of the
units named, go to the spare reserve. -/
def execStagingStall (d : Nat) (stall : StallIn) (s : State) : Host.Outcome State Fault Refusal :=
  let pc := stall.pc
  done (if s.served d ∧ pc < 16 then spareWrites (failPc (s.flag 0 O.MEM_STATUS 6) d pc) d pc stall.staged else s)

/-- MEM_SPARE_CMD after the ownership check (R300, R310). -/
def memSpareWrite (s : State) (p : Nat) (v : Slot) : Acc :=
  stewardOnly s p fun s =>
  let d := fld v 4 3
  need (ObjTy.u16.fits v && decide (d < s.D)) .range s fun s =>
  need ((s.half d).spare == 0 && (s.die d).st != .off && (s.die d).st != .lost) .presentState s fun s =>
    .ok (failPc s d (fld v 0 4))

/-- MEM_SPARE_CMD (R300, R301). -/
def execMemSpareCmd (p : Nat) (v : Slot) (s : State) : Host.Outcome State Fault Refusal :=
  done (access s p O.MEM_SPARE_CMD fun s => memSpareWrite s p v)

/-- SPARE_COPY_DONE (R302): the units not written since the failure stand in their targets; the first copy goes on through
a second failure (R308), whose Exhausted stays. `copy.checks` names the copied units whose read was corrected or failed
its check, which poisons the unit (R297, R298). -/
def execSpareCopyDone (copy : CopyIn) (s : State) : Host.Outcome State Fault Refusal :=
  let d := copy.die
  done (if (s.half d).copying ∧ s.served d then
      let read := copy.checks.filter fun q => (s.half d).redirects q.1 && (s.half d).uncopied q.1
      let s := read.foldl (fun s q => eccRead s d q.1 q.2) s
      let h := s.half d
      (copyRest s d).setHalf d { h with copying := false, written := [], spare := if h.spare = 1 then 2 else h.spare }
    else s)

/-! ## Checks, poison and scrub (R297 to R300) -/

/-- A scrub pass of a half ends (R299): its duration, and the passes every half has completed. -/
def scrubPass (s : State) (d : Nat) : State :=
  let h := s.half d
  let s := s.setHalf d { h with
    scrub := 0, scrubRows := [], scrubFrom := s.now, passes := h.passes + 1
    lastPass := (s.now - h.scrubFrom) / 40000000000 }
  let hs := (List.range s.D).map s.half
  let all := (hs.map HalfCtl.passes).foldl min (h.passes + 1)
  (s.put O.MEM_SCRUB_PASSES (ofN all)).put O.MEM_SCRUB_LAST_S (ofN ((hs.map HalfCtl.lastPass).foldl max 0))

/-- Whether a request that arrived at `t` is aged after `ns` nanoseconds of waiting (R288). -/
def State.agedAt (s : State) (t ns : Nat) : Bool := decide (t + ns * 40 ≤ s.now)

/-- Whether a waiting bulk request is the next its pseudo-channel serves: of the bulk requests the one that arrived first,
and real-time requests go ahead of it until it has waited 240 ns; between two aged requests one real-time request is served
(R288). A request to a half under takeover waits for the survivor (R295, R304). -/
def State.bulkTurn (s : State) (d : Nat) (q : MemReq) : Bool :=
  let h := s.half d
  (h.queue.find? fun r => r.pc == q.pc) == some q && (s.served d || (s.stack (d / 2)).st != 2)
    && (!h.rtWaits.contains q.pc || s.agedAt q.arrived 240 && !h.agedLast.contains q.pc)

/-- A bulk request of die `d` leaves its queue to be served; ahead of waiting real-time requests it is an aged one (R288). -/
def takeReq (s : State) (d : Nat) (q : MemReq) : State :=
  let h := s.half d
  s.setHalf d { h with
    queue := h.queue.erase q
    agedLast := if h.rtWaits.contains q.pc then sortN (q.pc :: h.agedLast.erase q.pc) else h.agedLast }

/-- SCRUB_READ (R299): the next unit of a half is read and checked, once the queues of its pseudo-channel are empty or it
has waited 10 µs; until then it waits (R288). -/
def execScrubRead (d : Nat) (e : Ecc) (s : State) : Host.Outcome State Fault Refusal :=
  done (if s.served d ∧ s.working ∧ s.num O.MEM_SCRUB_ENABLE = 1 then
    let h := s.half d
    let u := h.scrub
    -- the unit that is read, where sparing moved it
    let v := s.physUnit d u
    let since := h.scrubAt.getD s.now
    if h.queuesEmpty (unitPc v) = false ∧ s.agedAt since 10000 = false then
      s.setHalf d { h with scrubAt := some since }
    else
    let s := eccRead (wakeUnit (s.setHalf d { h with scrubAt := none }) d u) d u e
    let h := s.half d
    let row := (unitPc v, unitSid v * 2 ^ 18 + unitRow v * 16 + v / 256 % 16)
    let rows := if e = .failed ∧ !h.scrubRows.contains row then row :: h.scrubRows else h.scrubRows
    let s := s.setHalf d { h with scrub := u + 1, scrubRows := rows }
    let s := if e = .failed ∧ 16 < (rows.countP fun r => r.1 == unitPc v) then failPc s d (unitPc v) else s
    if unitsOfHalf ≤ u + 1 then scrubPass s d else s
  else s)

/-! ## Takeover (R304, R306) -/

/-- Removes the content of both halves of a stack. -/
def dropStack (s : State) (st : Nat) : State :=
  let lo := capAddr (2 * st) 0
  let hi := capAddr (2 * st + 2) 0
  { s with mem := s.mem.filter fun c => decide (c.1 < lo ∨ hi ≤ c.1) }

/-- A stack whose dies are both Lost is Orphaned: its content is lost (R306). -/
def orphan (s : State) (st : Nat) : State :=
  dropStack (s.setStack st { s.stack st with st := 4, selfRefresh := [] }) st

/-- MEM_TAKEOVER (R304): die `d` has been silent for 4 µs and its pair partner takes over its channels. -/
def execMemTakeover (d : Nat) (s : State) : Host.Outcome State Fault Refusal :=
  let o := if d % 2 = 0 then d + 1 else d - 1
  let x := s.stack (d / 2)
  done (if d < s.D ∧ x.st = 2 then
    if (s.die o).st = .lost ∨ (s.die o).st = .off then orphan s (d / 2)
    else
      let s := s.setStack (d / 2) { x with st := 3 }
      let s := settleFill (s.setDie d { s.die d with silentAt := some (s.now - 160000) }) d
      tarnish (s.flag 0 O.MEM_STATUS 4) 10 o 0xFF (d / 2) 0xFF22
  else s)

end Sys2Proof.Machine
end

