-- ==== Sys2Proof/Machine/Buffers.lean ====
section
/-!
DEFINITION. Hub buffers and handles (R282, R323, R395), owner windows (R322, R324), and the bytes of a segment as
ports and movers read them (R317).
-/
namespace Sys2Proof.Machine

/-! ## Hub buffers -/

/-- Half offset of the part of a system area that buffers may take: its first 2 MiB hold the poison list and the
written-map (R282; the split is the model's choice, log 7). -/
def systemBase : Nat := 0x2B0200000

/-- End of a system area. -/
def systemEnd : Nat := 0x2D0000000

/-- The coverage planes of the settings that layers show, have latched or have submitted (R386): die, offset and bytes. -/
def State.planes (s : State) : List (Nat × Nat × Nat) :=
  s.raster.layers.flatMap fun y => [y.shown.plane, y.latched.plane, y.pending.bind LayerSet.plane].filterMap id

/-- Offset and bytes of what the hub pool holds in the system area of die `d`: buffers and coverage planes. -/
def State.placed (s : State) (d : Nat) : List (Nat × Nat) :=
  (s.bufs.filter fun b => b.2.die == d).map (fun b => (b.2.off, b.2.size))
    ++ (s.planes.filter fun p => p.1 == d).map Prod.snd

/-- The highest clear offset of the system area of die `d` for `size` bytes (log 7). -/
def State.systemPlace (s : State) (d size : Nat) : Option Nat :=
  let here := s.placed d
  let clear (o : Nat) : Bool := here.all fun b => decide (o + size ≤ b.1 ∨ b.1 + b.2 ≤ o)
  let cands := (systemEnd :: here.map Prod.fst).filterMap fun e =>
    if systemBase + size ≤ e then some (e - size) else none
  (cands.filter clear).foldl (fun a o => match a with | none => some o | some b => some (max b o)) none

/-- The first system area with room for `size` bytes: its die and the offset (R395, log 7). -/
def State.hubPlace (s : State) (size : Nat) : Option (Nat × Nat) :=
  ((List.range s.D).filter fun d => s.served d).findSome? fun d => (s.systemPlace d size).map fun o => (d, o)

/-- Allocates a hub buffer of zeros in the first system area with room (R395). -/
def allocBuf (s : State) (owner : Nat) (kind : BufKind) (size : Nat) : Option (Nat × State) :=
  match s.hubPlace size with
  | none => none
  | some (d, o) =>
    let h := s.nextHandle
    let a := capAddr d o
    some (h, { s.zero a size with
      nextHandle := h + 1, bufs := kvPut s.bufs h { owner, kind, die := d, off := o, size } })

/-- Frees the hub and crucible buffers that nothing references (R240, R395). -/
def sweepBufs (s : State) : State :=
  let s := { s with bufs := s.bufs.filter fun b => b.2.held || s.layerRefs b.1 != 0 }
  (s.cruBufs.map Prod.fst).foldl sweepBuf s

/-- Ends the owner's hold on a hub buffer (R395). -/
def freeBuf (s : State) (h : Nat) : State :=
  match kvGet s.bufs h with
  | some _ => sweepBufs { s with bufs := s.bufs.map fun e => if e.1 = h then (h, { e.2 with held := false }) else e }
  | none => s

/-- Whether an owner holds a handle (R323). -/
def State.holds (s : State) (o h : Nat) : Bool :=
  match kvGet s.bufs h with
  | some b => b.held && b.owner == o
  | none => match kvGet s.cruBufs h with
    | some b => b.held && s.ctxOwner b.ctx == o
    | none => false

/-- Size in bytes of what a handle names (R316). -/
def State.handleSize (s : State) (h : Nat) : Option Nat :=
  match kvGet s.bufs h with
  | some b => some b.size
  | none => (kvGet s.cruBufs h).map CruBuf.partBytes

/-- Bytes of a handle, zero beyond its end, with the poison indication. -/
def State.handleRead (s : State) (h o n : Nat) : List Byte × Bool :=
  match kvGet s.bufs h with
  | some b =>
    let a := capAddr b.die (b.off + o)
    ((List.range n).map fun i => if o + i < b.size then s.peek (a + i) else 0#8,
      (spanUnits a (min n (b.size - o))).any s.poisoned)
  | none => match kvGet s.cruBufs h with
    | some b => ((List.range n).map fun i => if o + i < b.partBytes then s.cruByte b (o + i) else 0#8,
        (List.range n).any fun i => decide (o + i < b.partBytes) && s.cruPoisoned h b (o + i))
    | none => (List.replicate n 0#8, false)

/-- Whether a handle can be written: hub buffers only. -/
def State.handleWritable (s : State) (h : Nat) : Bool := (kvGet s.bufs h).isSome

/-- Writes bytes into a hub buffer, none beyond its end. -/
def handleWrite (s : State) (h o : Nat) (bs : List Byte) : State :=
  match kvGet s.bufs h with
  | some b => s.storeBulk (capAddr b.die (b.off + o)) (bs.take (b.size - o))
  | none => s

/-! ## Windows (R322, R324) -/

/-- Capture window `w` of owner `o`. -/
def State.capWin (s : State) (o w : Nat) : Slot := s.get (O.CAPWIN_o_w + 8 * o + w)

/-- The enabled window of owner `o` that holds an access of `n` bytes at `a`, writable where asked. -/
def State.capWindow (s : State) (o a n : Nat) (write : Bool) : Option (Nat × Nat) :=
  ((List.range 8).map (s.capWin o)).findSome? fun v =>
    let lo := fld v 0 32 * mib
    let hi := lo + fld v 32 24 * mib
    if bit v 63 ∧ (bit v 62 ∨ write = false) ∧ lo ≤ a ∧ a + n ≤ hi then some (lo, hi) else none

/-- Whether a host window of LD `l` holds an access of `n` bytes at `a` (R324). -/
def State.hostWindow (s : State) (l a n : Nat) : Bool :=
  (List.range 4).any fun w =>
    let lo := (s.obj l (O.HOSTWIN_BASE_0 + 2 * w)).toNat
    let sz := (s.obj l (O.HOSTWIN_BASE_0 + 2 * w + 1)).toNat
    decide (lo ≤ a ∧ a + n ≤ lo + sz ∧ sz ≠ 0)

/-! ## Segment bytes (R317) -/

/-- Length in bytes of a segment read in a format: false Sheets, true Items16. -/
def State.segBytesLen (_s : State) (_c : Nat) (g : Segment) (items : Bool) : Nat :=
  if items then g.count * (if g.mode = 2 then 4 else 2)
  else match g.ep with
    | none => 0
    | some e =>
      if g.count = 0 ∨ e.perLine = 0 then 0
      else ((g.first + g.count - 1) / e.perLine - g.first / e.perLine + 1) * e.members.length * 64

/-- The 16-bit words of an item (R317). -/
def itemWords (mode bits : Nat) : List Nat :=
  let sx (c : Nat) : Nat := if c < 512 then c else c + 0xFC00
  match mode with
  | 2 => [sx (bits % 1024), sx (bits / 1024 % 1024)]
  | 3 | 4 => [bits]
  | _ => [sx bits]

/-- The capture address of byte `i` of a segment, none beyond its end: of the sheets, or of the sheet that holds the item the
byte belongs to (R317). -/
def State.segAddr (s : State) (c : Nat) (g : Segment) (items : Bool) (i : Nat) : Option Nat :=
  match g.ep with
  | none => none
  | some e =>
    if s.segBytesLen c g items ≤ i then none
    else if items then some (s.itemPlace c g e (g.first + i / (if g.mode = 2 then 4 else 2))).1
    else
      let m := e.members.length
      let line := g.first / e.perLine + i / 64 / m
      some (e.sheetPlace (i / 64 % m) line + i % 64)

/-- One byte of a segment, zero beyond its end, with its poison (R317, R321). -/
def State.segByte (s : State) (c : Nat) (g : Segment) (items : Bool) (i : Nat) : Byte × Bool :=
  match g.ep with
  | none => (0#8, false)
  | some e =>
    if s.segBytesLen c g items ≤ i then (0#8, false)
    else if items then
      let mode := g.mode
      let w := if mode = 2 then 4 else 2
      let k := g.first + i / w
      let (a, p, _) := s.itemPlace c g e k
      let bits := fieldOf (s.peekN a 60) (p * (if g.dec then itemBits mode else 10))
        (if g.dec then itemBits mode else 10)
      let word := (itemWords mode bits).getD (i % w / 2) 0
      (BitVec.ofNat 8 (word / 256 ^ (i % 2)), s.poisoned a)
    else
      let a := (s.segAddr c g items i).getD 0
      (s.peek a, s.poisoned a)

/-- `n` bytes of a segment from offset `o`. -/
def State.segRead (s : State) (c : Nat) (g : Segment) (items : Bool) (o n : Nat) : List Byte × Bool :=
  let bs := (List.range n).map fun i => s.segByte c g items (o + i)
  (bs.map Prod.fst, bs.any Prod.snd)

end Sys2Proof.Machine
end

