-- ==== Sys2Proof/Machine/Codec.lean ====
section
/-!
DEFINITION. The planisher's code (R352 to R366): symbols of the input formats, the encoder and the decoder with
their dictionaries, the packing of codes, headers and trailers, blocks, and output runs.
-/
namespace Sys2Proof.Machine

/-! ## Modes, widths, packing (R352, R355, R359) -/

/-- The Clear code of a mode; End is one more, the first free entry two more (R352). -/
def Job.clear (j : Job) : Nat := if j.byteMode then 256 else 1024

/-- The End code. -/
def Job.endCode (j : Job) : Nat := j.clear + 1

/-- The first free entry. -/
def Job.first (j : Job) : Nat := j.clear + 2

/-- Bits needed to hold a number. -/
def bitLen (n : Nat) : Nat := if n = 0 then 0 else Nat.log2 n + 1

/-- The width of code k (R355). -/
def Job.width (j : Job) : Nat := min 16 (max (if j.byteMode then 9 else 11) (bitLen (j.first + j.k)))

/-- Bytes of one unit of the original (R353, R366). -/
def Job.unit (j : Job) : Nat := if j.byteMode then 1 else if j.items then 2 else 64

/-- Symbols of one unit. -/
def Job.outSyms (j : Job) : Nat := if j.byteMode || j.items then 1 else 49

/-- A fresh dictionary, of the verify decoder too (R354, R356, R358). -/
def Job.fresh (j : Job) : Job :=
  { j with dict := [], next := j.first, k := 0, w := none, wlen := 0, kept := [], prev := none, ver := { next := j.first } }

/-- The code of the string of code `w` followed by symbol `c`, where it is an entry. -/
def Job.entryOf (j : Job) (w c : Nat) : Option Nat :=
  (j.dict.find? fun e => e.2.1 == w && e.2.2 == c).map Prod.fst

/-- Adds an entry where the dictionary is not full; one that fills under Freeze is counted (R354, R357, R376). -/
def Job.add (j : Job) (w c : Nat) : Job :=
  if j.next ≤ 65535 then
    { j with dict := (j.next, (w, c)) :: j.dict, next := j.next + 1
             fills := j.fills + b2n (j.freeze && decide (j.next = 65535)) }
  else j

/-- The symbols of a code (R354). -/
def Job.string (j : Job) : Nat → Nat → List Nat
  | 0, _ => []
  | fuel + 1, x =>
    if x < j.clear then [x]
    else match kvGetAny j.dict x with
      | some (p, c) => j.string fuel p ++ [c]
      | none => []
where
  /-- The value of a key of an unsorted list. -/
  kvGetAny : List (Nat × (Nat × Nat)) → Nat → Option (Nat × Nat)
    | [], _ => none
    | (k, v) :: r, x => if k = x then some v else kvGetAny r x

/-- Appends output bytes. -/
def Job.put (j : Job) (bs : List Byte) : Job :=
  { j with out := j.out ++ bs, outBytes := j.outBytes + bs.length, runBytes := j.runBytes + bs.length }

/-- Whether `n` more bits end inside the run's limit, in whole words (R365). -/
def Job.fitsBits (j : Job) (n : Nat) : Bool :=
  decide ((8 * j.runBytes + j.accBits + n + 31) / 32 * 4 ≤ j.limit)

/-- Moves complete words from the accumulator to the output (R359). -/
def Job.words (j : Job) : Job :=
  if 32 ≤ j.accBits then
    { j with acc := j.acc / 2 ^ 32, accBits := j.accBits - 32 }.put (leBytes 4 j.acc)
  else j

/-- The job stops with an error (R372). -/
def Job.fail (j : Job) (e at_ : Nat) : Job := if j.err = 0 then { j with err := e, errAt := at_ } else j

/-- What a decoder with the dictionary `v` makes of code `x`, which is not Clear or End: its symbols, none where it is corrupt
(R358). -/
def Job.decodes (j : Job) (v : Verify) (x : Nat) : Option (List Nat) :=
  let str (c : Nat) : List Nat := { j with dict := v.dict }.string 65536 c
  match v.prev with
  | none => if x < j.clear then some [x] else none
  | some p =>
    if x < v.next ∧ (x < j.clear ∨ j.first ≤ x) then some (str x)
    else if x = v.next ∧ v.next ≤ 65535 then
      let q := str p
      some (q ++ [q.headD 0])
    else none

/-- The decoder after code `x`, which stood for `ss` (R358). -/
def Verify.step (v : Verify) (x : Nat) (ss : List Nat) : Verify :=
  match v.prev with
  | some p => if v.next ≤ 65535 then { dict := (v.next, (p, ss.headD 0)) :: v.dict, next := v.next + 1, prev := some x }
    else { v with prev := some x }
  | none => { v with prev := some x }

/-- The code the encoder puts out for `x`: an error of the encoder, where one is due, turns its lowest bit. -/
def Job.strike (j : Job) (x : Nat) : Nat × Job :=
  match j.upset with
  | some 0 => (x ^^^ 1, { j with upset := none })
  | some (n + 1) => (x, { j with upset := some n })
  | none => (x, j)

/-- Writes code `x` at the width of R355, once the verify decoder has read it as the `want` it stands for, symbols of the
input, or as the control code it is where `want` is none; a mismatch stops the job with error 2 and nothing unverified is
written (R363). -/
def Job.emit (j : Job) (x : Nat) (want : Option (List Nat)) : Job :=
  if j.err ≠ 0 then j
  else
    let w := j.width
    let (y, j) := j.strike x
    let ok : Option Verify := match want with
      | none => if y = x then some { next := j.first } else none
      | some ss => if y = j.clear ∨ y = j.endCode ∨ j.decodes j.ver y ≠ some ss then none else some (j.ver.step y ss)
    match ok with
    | none => j.fail 2 (j.inSyms / j.outSyms * j.unit)
    | some v => { j with
        acc := j.acc + y * 2 ^ j.accBits, accBits := j.accBits + w, k := j.k + 1, ver := v
        inSyms := j.inSyms + (want.getD []).length }.words

/-! ## Encoding (R356, R357, R365) -/

/-- Writes the Clear that is owed: its count and a fresh dictionary (R357). -/
def Job.payClear (j : Job) : Job :=
  let j := j.emit j.clear none
  if j.err ≠ 0 then j else { j with oweClear := false, clears := j.clears + 1, k := 0 }

/-- Pays an owed Clear where it fits the run; else the run is full (R357, R365, R371). -/
def Job.settleClear (j : Job) : Job :=
  if j.oweClear && j.full == false then (if j.fitsBits j.width then j.payClear else { j with full := true }) else j

/-- Takes symbol `c`, none where the code it completes does not fit the run (R356, R365). -/
def Job.symbol (j : Job) (c : Nat) : Option Job :=
  match j.w with
  | none => some { j with w := some c, wlen := 1, kept := [c] }
  | some w =>
    match j.entryOf w c with
    | some e => some { j with w := some e, wlen := j.wlen + 1, kept := c :: j.kept }
    | none =>
      if j.fitsBits j.width then
        let j := (j.emit w (some j.kept.reverse)).add w c
        let j := if 65535 < j.next ∧ j.freeze = false then { j with dict := [], next := j.first, oweClear := true } else j
        some { j with w := some c, wlen := 1, kept := [c] }.settleClear
      else none

/-- Takes symbols in order while their codes fit; the rest stay in `syms`. -/
def Job.encode (j : Job) : List Nat → Job
  | [] => { j with syms := [] }
  | c :: r =>
    if j.err ≠ 0 then { j with syms := [] }
    else if j.full then { j with syms := c :: r }
    else match j.symbol c with
      | some j => j.encode r
      | none => { j with full := true, syms := c :: r }

/-- A header or trailer of 16 bytes (R360). -/
def codeHeader (kind config b67 b811 : Nat) (crc : BitVec 32) : List Byte :=
  [0x53#8, 0x5A#8, 0x50#8, 0x4C#8] ++ leBytes 1 kind ++ leBytes 1 config ++ leBytes 2 b67 ++ leBytes 4 b811
    ++ leBytes 4 crc.toNat

/-- The CONFIG byte of a job (R360). -/
def Job.config (j : Job) : Nat := b2n j.byteMode + 2 * b2n j.items + 4 * b2n j.freeze

/-- The CRC-32 of the original bytes so far. -/
def Job.crcNow (j : Job) : BitVec 32 := ~~~ j.crc

/-- Writes what the end of a block or of a stream's codes needs, item by item, as far as each fits: last code, End (R356). -/
def Job.endCodes (j : Job) : Job :=
  let j := j.settleClear
  let j := if j.fin = 0 ∧ j.full = false then
      match j.w with
      | none => { j with fin := 1 }
      | some w => if j.fitsBits j.width then { (j.emit w (some j.kept.reverse)) with fin := 1, w := none } else { j with full := true }
    else j
  if j.fin = 1 ∧ j.full = false ∧ j.err = 0 then
    if j.fitsBits j.width then
      let j := j.emit j.endCode none
      -- zero bits fill the word (R359)
      let j := if j.accBits = 0 ∨ j.err ≠ 0 then j else { j with accBits := 32 }.words
      { j with fin := 2 }
    else { j with full := true }
  else j

/-! ## Input units (R353) -/

/-- The symbols of one unit, none where a check of R353 fails. -/
def Job.unitSyms (j : Job) (u : List Byte) : Option (List Nat) :=
  let n := leNat u
  if j.byteMode then some [n]
  else if j.items then
    let t := n / 1024
    if t = (if n.testBit 9 then 63 else 0) then some [n % 1024] else none
  else
    let codes := (List.range 48).map fun i => ofCode10 (n / 2 ^ (10 * i) % 1024)
    let f := n / 2 ^ 480
    if f / 2 ^ 22 % 4 = 0 ∧ f % 65536 = ovrOf codes ∧ f / 2 ^ 24 = (crc8 (u.take 60)).toNat then
      some (codes.map code10 ++ [f / 65536 % 64])
    else none

/-- Adds original bytes to the running CRC. -/
def crcRun (c : BitVec 32) (bs : List Byte) : BitVec 32 := bs.foldl crc32Byte c

/-- The test of R364 in stream mode; its 128 bits are the trailer, which is still to come. -/
def Job.swollen (j : Job) : Bool := decide (8 * j.inBytes ≤ 128 + 8 * j.outBytes + j.accBits)

/-- The end of a stream: its codes, then, where the input was not incompressible, the trailer (R361, R364). -/
def Job.endStream (j : Job) : Job :=
  let j := j.endCodes
  if j.fin = 2 ∧ j.full = false ∧ j.err = 0 then
    if j.swollen then j.fail 1 j.errAt
    else if j.runBytes + 16 ≤ j.limit then
      { j.put (codeHeader 3 j.config (j.inBytes % 65536) (j.inBytes / 65536) j.crcNow) with fin := 3 }
    else { j with full := true }
  else j

/-- Takes one input unit in stream mode: checked, coded, and tested after every MiB (R353, R361, R364). -/
def Job.takeUnit (j : Job) (u : List Byte) : Job :=
  if j.err ≠ 0 then j
  else match j.unitSyms u with
    | none => j.fail 6 j.inBytes
    | some ss =>
      let j := { j with inBytes := j.inBytes + u.length, crc := crcRun j.crc u }
      let j := if j.full then { j with syms := j.syms ++ ss } else j.encode ss
      if j.inBytes % 1048576 = 0 ∧ j.swollen then j.fail 1 j.errAt else j

/-- Splits bytes into units of `w`. -/
def unitsOf (w : Nat) : Nat → List Byte → List (List Byte)
  | 0, _ => []
  | n + 1, bs => if bs.isEmpty then [] else bs.take w :: unitsOf w n (bs.drop w)

/-- One compressed block with its header, and whether it is incompressible or fails its input check (R362, R364). -/
def Job.blockOf (j : Job) (bs : List Byte) : (List Byte × List Nat) ⊕ (Nat × Nat) :=
  let us := unitsOf j.unit (bs.length + 1) bs
  let f : Job := { byteMode := j.byteMode, items := j.items, freeze := j.freeze, limit := 2 ^ 60, upset := j.upset }
  let f := us.foldl Job.takeUnit f.fresh
  if f.err = 6 then .inr (6, j.inBytes + f.errAt)
  else
    let n := f.inSyms
    let f := f.endCodes
    if f.err ≠ 0 then .inr (f.err, j.inBytes)
    else
    let code := f.out
    let words := code.length / 4
    if bs.length ≤ 16 + 4 * words then .inr (1, j.inBytes)
    else .inl (codeHeader 2 j.config words bs.length (~~~ (crcRun 0xFFFFFFFF#32 bs)) ++ code,
      [n, f.inSyms, f.clears, f.fills, f.next, match f.upset with | some u => u + 1 | none => 0])

/-- Compresses one block of input and writes it whole where the run has room (R362, R365). -/
def Job.takeBlock (j : Job) (bs : List Byte) : Job :=
  if j.err ≠ 0 ∨ bs = [] then j
  else match j.blockOf bs with
    | .inr (e, at_) => j.fail e at_
    | .inl (o, st) =>
      if j.runBytes + o.length ≤ j.limit then
        { j.put o with
          inBytes := j.inBytes + bs.length, inSyms := j.inSyms + st.getD 1 0, clears := j.clears + st.getD 2 0
          fills := j.fills + st.getD 3 0, next := st.getD 4 0, blocks := j.blocks + 1
          upset := if st.getD 5 0 = 0 then none else some (st.getD 5 0 - 1) }
      else j.fail 3 j.inBytes

/-- Takes the whole blocks that have come in. -/
def Job.takeBlocks : Nat → Job → Job
  | 0, j => j
  | n + 1, j =>
    if j.err = 0 ∧ j.blockBytes ≤ j.raw.length ∧ j.blockBytes ≠ 0 then
      Job.takeBlocks n ({ j with raw := j.raw.drop j.blockBytes }.takeBlock (j.raw.take j.blockBytes))
    else j

/-- Input for a compressor (R351, R353): in block mode too, a unit that fails its check stops the job at once, after the blocks
that were complete before it. -/
def Job.compress (j : Job) (bs : List Byte) : Job :=
  if j.block then
    let good := ((unitsOf j.unit (bs.length + 1) bs).takeWhile fun u => (j.unitSyms u).isSome).flatMap id
    let j := Job.takeBlocks (bs.length / 4096 + 1) { j with raw := j.raw ++ good }
    if good.length < bs.length then j.fail 6 (j.inBytes + j.raw.length) else j
  else (unitsOf j.unit (bs.length + 1) bs).foldl Job.takeUnit j

/-! ## Decoding (R358, R366) -/

/-- The bytes of one output unit, none where symbol 48 is above 63 (R366). -/
def Job.outUnit (j : Job) (ss : List Nat) : Option (List Byte) :=
  let a := ss.headD 0
  if j.byteMode then some (leBytes 1 a)
  else if j.items then some (leBytes 2 (if a < 512 then a else a + 0xFC00))
  else
    let f := ss.getD 48 0
    let codes := (ss.take 48).map ofCode10
    if f ≤ 63 then
      let body := packFields 10 (ss.take 48)
      some (body ++ leBytes 4 (ovrOf codes + f * 65536 + (crc8 body).toNat * 0x1000000))
    else none

/-- The input byte a decoder stands at. -/
def Job.pos (j : Job) : Nat := j.inBytes - j.raw.length

/-- Writes the decoded symbols that make whole units and fit the run; a string that reaches the limit leaves the run full
(R366). -/
def Job.drain : Nat → Job → Job
  | 0, j => j
  | n + 1, j =>
    let m := j.outSyms
    if j.err = 0 ∧ m ≤ j.syms.length then
      match j.outUnit (j.syms.take m) with
      | none => j.fail 4 j.pos
      | some u =>
        if j.runBytes + u.length ≤ j.limit then
          let j := { j with syms := j.syms.drop m, crc := crcRun j.crc u }.put u
          Job.drain n { j with full := decide (j.limit < j.runBytes + u.length) }
        else { j with full := true }
    else j

/-- Reads `w` bits of the code stream, none where they have not all come. -/
def Job.readBits (j : Job) (w : Nat) : Option (Nat × Job) :=
  if j.rbit + w ≤ 8 * j.raw.length then
    let v := leNat (j.raw.take 8) / 2 ^ j.rbit % 2 ^ w
    some (v, { j with raw := j.raw.drop ((j.rbit + w) / 8), rbit := (j.rbit + w) % 8, cbits := j.cbits + w })
  else none

/-- One code of the decoder (R358): what it read, none where bits are missing. -/
def Job.code (j : Job) : Option Job :=
  let at_ := j.pos
  match j.readBits j.width with
  | none => none
  | some (x, j) =>
    let j := { j with k := j.k + 1 }
    if x = j.clear then some { j.fresh with clears := j.clears + 1 }
    else if x = j.endCode then
      -- the fill bits up to the word boundary must be zero (R359)
      match j.readBits ((32 - j.cbits % 32) % 32) with
      | none => none
      | some (z, j) => if z = 0 then some { j with ended := true } else some (j.fail 4 at_)
    else
      let str := j.decodes { dict := j.dict, next := j.next, prev := j.prev } x
      match str with
      | none => some (j.fail 4 at_)
      | some ss =>
        let j := match j.prev with
          | none => j
          | some p => j.add p (ss.headD 0)
        some { j with syms := j.syms ++ ss, prev := some x, inSyms := j.inSyms + ss.length }

/-- Decodes until End, missing input, an error or a full run. -/
def Job.codes : Nat → Job → Job
  | 0, j => j
  | n + 1, j =>
    if j.err ≠ 0 ∨ j.ended ∨ j.full then j
    else match j.code with
      | none => j
      | some j => Job.codes n (Job.drain (j.syms.length + 1) j)

/-- Whether 16 bytes are a header of a kind: FORMAT is 0 in Byte mode (R360). -/
def headerOk (h : List Byte) (kind : Nat) : Bool :=
  h.take 4 == [0x53#8, 0x5A#8, 0x50#8, 0x4C#8] && leNat ((h.drop 4).take 1) == kind && decide ((h.getD 5 0#8).toNat < 8 ∧ (h.getD 5 0#8).toNat % 4 ≠ 3)

/-- Takes MODE and FORMAT from a header (R361). -/
def Job.fromHeader (j : Job) (h : List Byte) : Job :=
  let c := (h.getD 5 0#8).toNat
  { j with byteMode := c.testBit 0, items := c.testBit 1, freeze := c.testBit 2 }

/-- Input for a decompressor in stream mode (R361). -/
def Job.stream (j : Job) : Job :=
  let j := if j.header = false ∧ 16 ≤ j.raw.length then
      let h := j.raw.take 16
      if headerOk h 1 ∧ leNat (h.drop 6) = 0 then
        { ({ j with raw := j.raw.drop 16 }.fromHeader h).fresh with header := true }
      else j.fail 4 0
    else j
  let j := if j.header ∧ j.closed = false then Job.codes (8 * j.raw.length + 2) (Job.drain (j.syms.length + 1) j) else j
  if j.ended ∧ j.closed = false ∧ j.err = 0 ∧ j.full = false ∧ 16 ≤ j.raw.length then
    let h := j.raw.take 16
    let total := leNat ((h.drop 6).take 6)
    if headerOk h 3 ∧ (h.getD 5 0#8).toNat = j.config ∧ total = j.outBytes % 2 ^ 48 ∧ j.syms = []
        ∧ leNat (h.drop 12) = j.crcNow.toNat then
      { j with closed := true, raw := [] }
    else j.fail 4 j.pos
  else j

/-- What a decoder makes of the code words of a block that have come in (R362). -/
def Job.blockCodes (j : Job) (words : Nat) : Job :=
  let f : Job := { decode := true, limit := 2 ^ 60, raw := (j.raw.drop 16).take (4 * words) }
  Job.codes (32 * words + 2) (f.fromHeader (j.raw.take 16)).fresh

/-- Writes the units of a block of `len` bytes that are decoded and not yet written (R366). -/
def Job.putBlock (j : Job) (f : Job) (len : Nat) : Job :=
  let bs := f.out.take len
  { j.put (bs.drop j.blkDone) with blkDone := bs.length }

/-- Decodes a block as far as its input has come, none where it waits for more (R362, R366): its header is checked when it has
come, its units are written as they are decoded, and its end is checked once its last code word has come. -/
def Job.blockIn (j : Job) : Option Job :=
  if j.raw.length < 16 then none
  else
    let h := j.raw.take 16
    if h.all (· == 0#8) then some { j with raw := j.raw.drop 16, inBytes := j.inBytes + 16 }
    else
      let words := leNat ((h.drop 6).take 2)
      let len := leNat ((h.drop 8).take 4)
      if !(headerOk h 2) ∨ words = 0 ∨ 32767 < words then some (j.fail 4 j.inBytes)
      else if j.limit < j.runBytes + len - j.blkDone then some (j.fail 3 j.inBytes)
      else
        let f := j.blockCodes words
        let j := j.putBlock f len
        if f.err ≠ 0 ∨ len < f.out.length then some (j.fail 4 j.inBytes)
        else if j.raw.length < 16 + 4 * words then
          if f.ended then some (j.fail 4 j.inBytes) else none
        else if f.ended ∧ f.raw = [] ∧ f.syms = [] ∧ f.out.length = len ∧ leNat (h.drop 12) = f.crcNow.toNat then
          some { j with
            raw := j.raw.drop (16 + 4 * words), inBytes := j.inBytes + 16 + 4 * words, blocks := j.blocks + 1, blkDone := 0
            inSyms := j.inSyms + f.inSyms, clears := j.clears + f.clears, next := f.next, fills := j.fills + f.fills }
        else some (j.fail 4 j.inBytes)

/-- The part of the block that still waits for input, written as far as it is decoded (R366). -/
def Job.blockPart (j : Job) : Job :=
  if j.err ≠ 0 ∨ j.raw.length < 16 then j
  else j.putBlock (j.blockCodes (leNat ((j.raw.drop 6).take 2))) (leNat ((j.raw.drop 8).take 4))

/-- Decodes the whole blocks that have come in. -/
def Job.blocksIn : Nat → Job → Job
  | 0, j => j
  | n + 1, j =>
    if j.err ≠ 0 then j
    else match j.blockIn with
      | none => j.blockPart
      | some j => Job.blocksIn n j

/-- Input for a job (R351). -/
def Job.input (j : Job) (bs : List Byte) : Job :=
  if j.err ≠ 0 then j
  else if j.decode then
    let j := { j with raw := j.raw ++ bs }
    if j.block then Job.blocksIn (bs.length / 16 + 2) j
    else { j with inBytes := j.inBytes + bs.length }.stream
  else j.compress bs

/-- What Finish completes once all input has been taken (R361, R362, R364). -/
def Job.conclude (j : Job) : Job :=
  if j.err ≠ 0 ∨ j.full then j
  else if j.decode then
    if j.block then (if j.raw.all (· == 0#8) then j else j.fail 5 j.inBytes)
    else if j.closed then j else j.fail 5 j.inBytes
  else if j.block then { j with raw := [] }.takeBlock j.raw
  else j.endStream

/-- Continue: a new run begins, and what waited goes on (R365, R366). -/
def Job.resume (j : Job) (limit : Nat) : Job :=
  let j := { j with full := false, runBytes := 0, limit }
  if j.decode then Job.stream (Job.drain (j.syms.length + 1) j)
  else j.settleClear.encode j.syms

end Sys2Proof.Machine
end

