-- ==== Sys2Proof/Machine/Planisher.lean ====
section
/-!
DEFINITION. Planishers: claims, jobs and their states (R351, R365 to R371).
-/
namespace Sys2Proof.Machine

/-- Planisher `x`, none when Free. -/
def State.plan (s : State) (x : Nat) : Option Plan := kvGet s.plans x

/-- Replaces planisher `x`. -/
def State.setPlan (s : State) (x : Nat) (q : Plan) : State := { s with plans := kvPut s.plans x q }

/-- The owner code of planisher `x`, 0xFF when Free. -/
def State.planOwner (s : State) (x : Nat) : Nat :=
  match s.plan x with
  | some q => q.owner
  | none => 0xFF

/-- The planisher a path's PL_SELECT names. -/
def State.plSel (s : State) (p : Nat) : Nat := (s.obj p O.PL_SELECT).toNat

/-- A PL_CONFIG bit of planisher `x`. -/
def State.plBit (s : State) (x b : Nat) : Bool := bit (s.obj x O.PL_CONFIG) b

/-- Puts a job back after it has moved: output into its hub buffer where OUT_KIND is 1, and its state, status bits
and pulses (R363 to R370). `was` is the job before. -/
def settleJob (s : State) (x : Nat) (q : Plan) (was : Job) : State :=
  let j := q.job
  let off := j.runBytes - j.out.length
  let (s, j) : State × Job := match s.plBit x 5, q.buf with
    | true, some h => (handleWrite s h off j.out, { j with out := [] })
    | _, _ => (s, j)
  let st := if j.err ≠ 0 then 5 else if j.full then 3 else 2
  let s := s.setPlan x { q with job := j, st }
  -- a verification mismatch is counted and told to the fault supervisor
  let s := if j.err = 2 ∧ was.err ≠ 2 then
      tarnish (s.countSat x O.PL_VERIFY_FAILS 32) 25 (if x = 0 then 0xFF else x - 1) 0xFF 0 else s
  let s := if was.clears < j.clears then s.flag x O.PL_STATUS 4 else s
  let s := if was.fills < j.fills then s.flag x O.PL_STATUS 5 else s
  -- each block pulses in a core cycle of its own
  let s := if was.blocks < j.blocks then
      (List.range (j.blocks - was.blocks)).foldl (fun s i => pulseIn s 6 3 x none (s.now / 48 + i)) (s.flag x O.PL_STATUS 3)
    else s
  let s := if st = 3 then pulse (s.flag x O.PL_STATUS 1) 6 1 x else s
  if st = 5 then pulse ((s.setObj x O.PL_ERR (ofN j.err)).flag x O.PL_STATUS 2) 6 2 x else s

/-- One burst of input from a mover: taken while Running and before Finish, discarded otherwise (R361, R362, R367, R371);
a poisoned burst stops the job with error 7 (R368). `upset` says after how many codes the encoder goes wrong (R363). -/
def planInput (s : State) (x : Nat) (bs : List Byte) (poison : Bool) (upset : Option Nat) : State :=
  match s.plan x with
  | none => s
  | some q =>
    if q.st = 2 ∧ q.job.finish = false then
      let j := { q.job with upset := if q.job.upset.isSome then q.job.upset else upset }
      settleJob s x { q with job := if poison then j.fail 7 (if j.block then j.inBytes + j.raw.length else j.inBytes) else j.input bs } q.job
    else s

/-- One burst of output to a mover, zero beyond what there is (R351). -/
def planOutput (s : State) (x n : Nat) : List Byte × State :=
  match s.plan x with
  | none => (List.replicate n 0#8, s)
  | some q =>
    let o := q.job.out.take n
    (o ++ List.replicate (n - o.length) 0#8, s.setPlan x { q with job := { q.job with out := q.job.out.drop n } })

/-- Claim (R368). -/
def plClaim (s : State) (p x : Nat) : Acc :=
  need (s.plan x).isNone .presentState s fun s =>
    if x ≠ 0 ∧ (s.die (x - 1)).st = .lost then (s, some .presentState)
    else .ok (s.setPlan x { owner := ownerOf p })

/-- A command of planisher `x` by its owner in one of the states given. -/
def plOwned (s : State) (p x : Nat) (sts : List Nat) (f : State → Plan → Acc) : Acc :=
  need (ownerOf p == s.planOwner x) .noPermission s fun s =>
    match s.plan x with
    | none => (s, some .presentState)
    | some q => if sts.contains q.st && !q.lost then f s q else (s, some .presentState)

/-- The counters of 2602 but PL_VERIFY_FAILS are part of the job; Start clears them (R368). -/
def startJob (s : State) (x : Nat) : Job :=
  let j : Job :=
    { decode := s.plBit x 0, byteMode := s.plBit x 1, items := s.plBit x 2, block := s.plBit x 3
      freeze := s.plBit x 4, limit := (s.obj x O.PL_OUT_LIMIT).toNat, blockBytes := (s.obj x O.PL_BLOCK_BYTES).toNat }
  let j := j.fresh
  if j.decode ∨ j.block then j else { j.put (codeHeader 1 j.config 0 0 0#32) with header := true }

/-- The output buffer a Start needs: kept where its size is unchanged, else allocated afresh (R351). -/
def planBuf (s : State) (x : Nat) (q : Plan) : Option (Option Nat × State) :=
  if s.plBit x 5 then
    let size := (s.obj x O.PL_OUT_BUF_KIB).toNat * 1024
    match q.buf with
    | some h => if s.handleSize h = some size then some (some h, s)
      else (allocBuf (freeBuf s h) q.owner (.planisher x) size).map fun (h, s) => (some h, s)
    | none => (allocBuf s q.owner (.planisher x) size).map fun (h, s) => (some h, s)
  else some (q.buf, s)

/-- Start (R368, R372). -/
def plStart (s : State) (p x : Nat) : Acc :=
  plOwned s p x [1, 4] fun s q =>
    let big := s.plBit x 5 && decide ((s.obj x O.PL_OUT_BUF_KIB).toNat * 1024 < (s.obj x O.PL_OUT_LIMIT).toNat)
    if big || (s.plBit x 1 && s.plBit x 2) then (s.setObj x O.PL_ERR 9, some .incompatible)
    else match planBuf s x q with
      | none => (s.setObj x O.PL_ERR 10, some .resource)
      | some (b, s) =>
        let s := s.setObj x O.PL_ERR 0
        let s := s.setObj x O.PL_OUT_HANDLE (ofN (b.getD 0xFFFFFFFF))
        let j := startJob s x
        .ok (settleJob s x { q with st := 2, buf := b, job := j } {})

/-- Finish (R361, R368): takes effect once all input has been taken, in Out full after the next Continue. -/
def plFinish (s : State) (p x : Nat) : Acc :=
  plOwned s p x [2, 3] fun s q => .ok (s.setPlan x { q with job := { q.job with finish := true } })

/-- Continue (R365, R366). A PL_OUT_LIMIT raised above the output buffer is refused as it is at Start (DESIGN CHOICE,
log 101). -/
def plContinue (s : State) (p x : Nat) : Acc :=
  plOwned s p x [3] fun s q =>
    need (!(s.plBit x 5 && (q.buf.bind s.handleSize).any fun n => decide (n < (s.obj x O.PL_OUT_LIMIT).toNat)))
      .incompatible s fun s =>
    .ok (settleJob s x { q with job := q.job.resume (s.obj x O.PL_OUT_LIMIT).toNat } q.job)

/-- A job whose state is discarded: the counters of 2602 stand until the next Start (R368). -/
def Job.dropped (j : Job) : Job :=
  { inSyms := j.inSyms, outBytes := j.outBytes, runBytes := j.runBytes, blocks := j.blocks, errAt := j.errAt, next := j.next
    clears := j.clears }

/-- Abort (R368): the job's state is discarded. -/
def plAbort (s : State) (p x : Nat) : Acc :=
  plOwned s p x [2, 3, 5] fun s q => .ok (s.setPlan x { q with st := 1, job := q.job.dropped })

/-- A planisher becomes Free: its output buffer is freed with it (R368). -/
def planFree (s : State) (x : Nat) : State :=
  match s.plan x with
  | none => s
  | some q =>
    let s := { s with plans := kvDel s.plans x }
    let s := s.setObj x O.PL_OUT_HANDLE (ofN 0xFFFFFFFF)
    match q.buf with
    | some h => freeBuf s h
    | none => s

/-- Release (R367, R368): by the owner or the steward. -/
def plRelease (s : State) (p x : Nat) : Acc :=
  need (ownerOf p == s.planOwner x || ownerOf p == s.steward) .noPermission s fun s =>
    match s.plan x with
    | none => (s, some .presentState)
    | some q => if [1, 4, 5].contains q.st && !q.lost then .ok (planFree s x) else (s, some .presentState)

/-- PL_CLAIM (R351, R368). -/
def execPlClaim (p : Nat) (s : State) : Host.Outcome State Fault Refusal :=
  done (access s p O.PL_CMD fun s => plClaim s p (s.plSel p))

/-- PL_START (R368, R372). -/
def execPlStart (p : Nat) (s : State) : Host.Outcome State Fault Refusal :=
  done (access s p O.PL_CMD fun s => plStart s p (s.plSel p))

/-- PL_FINISH (R368). -/
def execPlFinish (p : Nat) (s : State) : Host.Outcome State Fault Refusal :=
  done (access s p O.PL_CMD fun s => plFinish s p (s.plSel p))

/-- PL_CONTINUE (R365, R366). -/
def execPlContinue (p : Nat) (s : State) : Host.Outcome State Fault Refusal :=
  done (access s p O.PL_CMD fun s => plContinue s p (s.plSel p))

/-- PL_ABORT (R368). -/
def execPlAbort (p : Nat) (s : State) : Host.Outcome State Fault Refusal :=
  done (access s p O.PL_CMD fun s => plAbort s p (s.plSel p))

/-- PL_RELEASE (R368). -/
def execPlRelease (p : Nat) (s : State) : Host.Outcome State Fault Refusal :=
  done (access s p O.PL_CMD fun s => plRelease s p (s.plSel p))

/-- PL_JOB_DONE (R367): a Running job that has Finish concludes: Done, Out full or Error. -/
def execPlJobDone (x : Nat) (s : State) : Host.Outcome State Fault Refusal :=
  done (match s.plan x with
    | none => s
    | some q =>
      if q.st = 2 ∧ q.job.finish then
        let j := q.job.conclude
        let s := settleJob s x { q with job := j } q.job
        match s.plan x with
        | some q => if q.st = 2 then pulse ((s.setPlan x { q with st := 4 }).flag x O.PL_STATUS 0) 6 0 x else s
        | none => s
      else s)

/-- The die of planisher `x` is Lost: error 8, and the state stays Error until the next start (R371). -/
def planLost (s : State) (x : Nat) : State :=
  match s.plan x with
  | some q => pulse ((((s.setPlan x { q with st := 5, lost := true, job := { q.job with err := 8 } }).setObj x O.PL_ERR
      8).flag x O.PL_STATUS 2)) 6 2 x
  | none => (s.setPlan x { owner := 0xFF, st := 5, lost := true, job := { err := 8 } }).setObj x O.PL_ERR 8

/-- Writes of the setting objects of a planisher: admitted states (R373). -/
def State.plWritable (s : State) (x k : Nat) : Bool :=
  match s.plan x with
  | some q => q.st == 1 || q.st == 4 || (q.st == 3 && k == O.PL_OUT_LIMIT)
  | none => false

end Sys2Proof.Machine
end

