-- ==== Sys2Proof/Machine/Mover.lean ====
section
/-!
DEFINITION. Movers (R325 to R337): channels, descriptors and their checks, requests, bursts, quench and power hold;
and the claims of the event router (R338 to R341).
-/
namespace Sys2Proof.Machine

/-! ## Channels (R325 to R328) -/

/-- The number of mover channels. -/
def State.channels (s : State) : Nat := 32 + 16 * s.D

/-- The mover of channel `x`: 0 hub, 1 + d die d (R325). -/
def moverOf (x : Nat) : Nat := if x < 32 then 0 else 1 + (x - 32) / 16

/-- The channel a path's MV_SELECT names. -/
def State.mvSel (s : State) (p : Nat) : Nat := (s.obj p O.MV_SELECT).toNat

/-- The owner code of channel `x`, 0xFF when Free. -/
def State.chanOwner (s : State) (x : Nat) : Nat :=
  match s.chan x with
  | some c => c.owner
  | none => 0xFF

/-- A descriptor (R328). -/
structure Desc where
  src : Nat
  dst : Nat
  len : Nat
  burst : Nat
  sk : Nat
  dk : Nat
  req : Nat
  evt : Bool
  release : Bool
  items : Bool
  next : Nat
  seq : Nat
  deriving DecidableEq, Repr

/-- Descriptor `i` of channel `x` (R328, R331). -/
def State.desc (s : State) (x i : Nat) : Desc :=
  let w (k : Nat) : Slot := s.obj x (O.MV_DESC_i_w + 4 * i + k)
  let c := w 3
  { src := (w 0).toNat, dst := (w 1).toNat, len := fld (w 2) 0 48, burst := fld (w 2) 48 16
    sk := fld c 0 4, dk := fld c 4 4, req := fld c 8 8, evt := bit c 16, release := bit c 17, items := bit c 18
    next := fld c 24 8, seq := fld c 32 32 }

/-- The context a channel's MV_CH_CONTEXT names. -/
def State.chCtx (s : State) (x : Nat) : Nat := (s.obj x O.MV_CH_CONTEXT).toNat

/-- Whether a kind is allowed on channel `x` as a source or a destination (R329). -/
def State.kindOk (s : State) (x kind : Nat) (source : Bool) : Bool :=
  let hub := x < 32
  match kind with
  | 0 => true
  | 1 => hub && s.chanOwner x < 16
  | 2 => hub
  | 3 => source && (hub ||
      (let n := s.cN (s.chCtx x) O.CTX_INPUT
       (s.input n).st == .single && (s.input n).members == [moverOf x - 1]))
  | 4 => !source
  | 5 => source
  | _ => false

/-- The segment a channel copies from. -/
def State.srcSeg (s : State) (x : Nat) (d : Desc) : Option Segment :=
  match s.held (s.chCtx x) d.seq with
  | some g => if g.released then none else some g
  | none => none

/-- The dies whose halves `n` bytes from an address touch, through the halves and through the views (R283, R286). -/
def State.diesOfSpan (s : State) (a n : Nat) : List Nat :=
  let halves := (List.range s.D).filter fun d => decide (a < capAddr (d + 1) 0 ∧ capAddr d 0 < a + n)
  let view (i : Nat) : List Nat :=
    match (s.input i).ring != .idle, (s.input i).epochs.head? with
    | true, some e =>
      let m := e.members.length
      let lo := max a (viewBase i)
      let hi := min (a + n) (viewBase i + e.lines * m * 64)
      if hi ≤ lo then []
      else
        let o := (lo - viewBase i) / 64
        (List.range (min m ((hi - viewBase i + 63) / 64 - o))).map fun j => e.members.getD ((o + j) % m) 0
    | _, _ => []
  halves ++ (List.range s.D).flatMap view

/-- Whether an access of a burst to a capture address is in reach of channel `x`, from its first byte to its last (R322,
R329). -/
def State.capReach (s : State) (x o a n : Nat) (write : Bool) : Bool :=
  (s.capWindow o a n write).isSome &&
    (decide (x < 32) || (s.diesOfSpan a n).all fun d => decide (d / 2 = (moverOf x - 1) / 2))

/-- Whether a channel's kinds are allowed (R329). -/
def State.kindsOk (s : State) (x : Nat) (d : Desc) : Bool := s.kindOk x d.sk true && s.kindOk x d.dk false

/-- The checks of one side of a burst: kind, location, bytes; 0 when it passes, else its MV_CH_ERR (R332, R344). A context that
was Freed holds no SEQ (R342). -/
def State.sideErr (s : State) (x : Nat) (d : Desc) (kind loc n : Nat) (source : Bool) : Nat :=
  let o := s.chanOwner x
  match kind with
  | 0 => if s.capReach x o loc n (!source) then 0 else 2
  | 1 => if s.hostWindow o loc n then 0 else 2
  | 2 =>
    let h := loc / 2 ^ 32
    if s.holds o h ∧ (source ∨ s.handleWritable h) then
      (match s.handleSize h with
       | some sz => if loc % 2 ^ 32 + n ≤ sz then 0 else 2
       | none => 3)
    else 3
  | 3 =>
    if (s.ctx (s.chCtx x)).isNone ∧ (s.chan x).any (fun c => c.done ≠ 0 || c.st == .running) then 3
    else if s.ctxOwner (s.chCtx x) ≠ o then 4
    else match s.srcSeg x d with
      | none => 3
      | some g =>
        if g.dec && !d.items then 1
        else if loc + n ≤ (s.segBytesLen (s.chCtx x) g d.items + 63) / 64 * 64 then 0 else 6
  | _ => 0

/-- The checks of a descriptor's own words (R328 to R330): 0 or its MV_CH_ERR. -/
def State.descForm (s : State) (x : Nat) (d : Desc) : Nat :=
  let align (k loc : Nat) : Bool := k != 0 || loc % 64 == 0
  if d.len % 64 ≠ 0 ∨ d.len < 64 ∨ d.burst % 64 ≠ 0 ∨ d.burst < 64 ∨ 4096 < d.burst
      ∨ (15 < d.next ∧ d.next ≠ 0xFF) ∨ !(s.kindsOk x d)
      ∨ !(align d.sk d.src) ∨ !(align d.dk d.dst) then 1
  else if 19 ≤ d.req ∧ d.req ≠ 0xFF then 5
  else 0

/-- Checks of a descriptor when it is fetched (R328 to R332): 0 or its MV_CH_ERR. -/
def State.descErr (s : State) (x i : Nat) : Nat :=
  let d := s.desc x i
  let e := s.descForm x d
  if e ≠ 0 then e
  else
    let e := s.sideErr x d d.sk d.src d.len true
    if e ≠ 0 then e else s.sideErr x d d.dk d.dst d.len false

/-- A channel fails: its reason and the event; requests pend only while it is Running, Parked or Quenched (R327, R332). -/
def chanFail (s : State) (x e : Nat) : State :=
  match s.chan x with
  | none => s
  | some c =>
    let s := s.setChan x { c with st := .failed, inFlight := false, after := none, byPower := false, credits := 0, again := false }
    pulse ((s.setObj x O.MV_CH_ERR (ofN e)).flag x O.MV_CH_STATUS 1) 2 1 x

/-- Bursts in flight on mover `m` (R325). -/
def State.flying (s : State) (m : Nat) : Nat := s.chans.countP fun c => moverOf c.1 == m && c.2.inFlight

/-- Whether mover `m` issues bursts: its power domain is on and no power-down of it has been asked for (R337, R493). -/
def State.moverOn (s : State) (m : Nat) : Bool :=
  s.get O.POWER_PHASE != 1 && s.get O.POWER_PHASE != 3 &&
    (if m = 0 then s.dev != .watch
     else (s.die (m - 1)).st == .active || (s.die (m - 1)).st == .reserve || (s.die (m - 1)).st == .retired)

/-- A Running channel issues its next burst where it may, none is in flight, and its mover has fewer than 8 in flight (R325,
R330, R332); a burst that a quench abandoned is repeated without a further request (R335). -/
def chanIssue (s : State) (x : Nat) : State :=
  match s.chan x with
  | none => s
  | some c =>
    let d := s.desc x c.cur
    let unpaced := d.req = 0xFF
    if c.st = .running ∧ c.inFlight = false ∧ s.flying (moverOf x) < 8 ∧ (unpaced ∨ c.credits ≠ 0 ∨ c.again)
        ∧ !(s.quenched.contains (moverOf x)) ∧ s.moverOn (moverOf x) then
      let n := min d.burst (d.len - c.done)
      let e := s.descForm x d
      let e := if e ≠ 0 then e else s.sideErr x d d.sk (d.src + c.done) n true
      let e := if e ≠ 0 then e else s.sideErr x d d.dk (d.dst + c.done) n false
      if e ≠ 0 then chanFail s x e
      else
        let left := if unpaced || c.again then c.credits else c.credits - 1
        let s := s.setChan x { c with inFlight := true, again := false, credits := left }
        let s := { s with mvLast := kvPut s.mvLast (moverOf x) x }
        -- a burst begun on a segment delays its release (R200)
        if d.sk = 3 then
          s.modCtx (s.chCtx x) fun y => { y with table := y.table.map fun g =>
            if g.seq = d.seq then { g with bursts := g.bursts + 1 } else g }
        else s
    else s

/-- The channels of mover `m` that wait take their turns, round robin from the one after the last served (R325). -/
def moverNext (s : State) (m : Nat) : State :=
  let xs := (s.chans.map Prod.fst).filter fun x => moverOf x == m
  let last := (kvGet s.mvLast m).getD 0
  ((xs.filter fun x => decide (last < x)) ++ (xs.filter fun x => decide (x ≤ last))).foldl chanIssue s

/-- Fetches descriptor `i`: the channel runs it from the state given, or fails (R332). Its bursts wait for their turn. -/
def chanLoad (s : State) (x i : Nat) (st : ChanSt) : State :=
  match s.chan x with
  | none => s
  | some c =>
    let s := s.setChan x { c with st, cur := i, done := 0, inFlight := false, after := none, again := false }
    let e := s.descErr x i
    if e ≠ 0 then chanFail s x e else s

/-- Fetches descriptor `i` and takes the channel's turn. -/
def chanFetch (s : State) (x i : Nat) : State := chanIssue (chanLoad s x i .running) x

/-- The objects of a channel take their defaults (R326). -/
def chanClear (s : State) (x : Nat) : State :=
  { s with objs := s.objs.filter fun o => !(o.1 / 2 ^ 24 == x && [0x2511, 0x2512].contains (o.1 % 2 ^ 24 / 256)) }

/-- A channel becomes Free; routes of it lose their source (R326, R341). -/
def chanFree (s : State) (x : Nat) : State := sourceGone (chanClear { s with chans := kvDel s.chans x } x) 2 x

/-- Whether the mover of a channel is gone with its die (R336). -/
def State.moverLost (s : State) (x : Nat) : Bool := decide (32 ≤ x) && (s.die (moverOf x - 1)).st == .lost

/-- Claim (R326): any access path. -/
def mvClaim (s : State) (p x : Nat) : Acc :=
  need ((s.chan x).isNone && !(s.moverLost x)) .presentState s fun s =>
    .ok ((chanClear s x).setChan x { owner := ownerOf p })

/-- A channel command by the owner in one of the states given (R326). -/
def mvOwned (s : State) (p x : Nat) (sts : List ChanSt) (steward : Bool) (f : State → Chan → Acc) : Acc :=
  need (ownerOf p == s.chanOwner x || (steward && ownerOf p == s.steward)) .noPermission s fun s =>
    match s.chan x with
    | none => (s, some .presentState)
    | some c => if sts.contains c.st then f s c else (s, some .presentState)

/-- Start (R326). -/
def mvStart (s : State) (p x : Nat) : Acc :=
  mvOwned s p x [.idle, .failed] false fun s c =>
    need (!(s.moverLost x)) .presentState s fun s =>
      let s := s.setChan x { c with credits := 0, inFlight := false, after := none, byPower := false
                                    nextTick := s.now + (s.obj x O.MV_CH_TICK_NS).toNat * 40 }
      .ok (chanFetch s x (s.obj x O.MV_CH_FIRST).toNat)

/-- What a channel becomes when its burst completes, `st` having been accepted now: a Stop or Release that was accepted
before stays (R326, R342). -/
def Chan.then_ (c : Chan) (st : ChanSt) : ChanSt :=
  match c.after with
  | some .free => .free
  | some .idle => if st = .free then .free else .idle
  | _ => st

/-- A change that takes effect when the burst in flight completes (R326, R342). -/
def chanTo (s : State) (x : Nat) (c : Chan) (st : ChanSt) : State :=
  if c.inFlight then s.setChan x { c with after := some (c.then_ st), byPower := false }
  else s.setChan x { c with
    st, byPower := false, again := c.again && st != .idle, credits := if st = .idle then 0 else c.credits
    pausedIn := if st = .parked then some (s.now / 48) else none }

/-- Pause (R326). -/
def mvPause (s : State) (p x : Nat) : Acc :=
  mvOwned s p x [.running] false fun s c => .ok (chanTo s x c .parked)

/-- Resume (R326, R335): from the first byte that no completed burst has moved. -/
def mvResume (s : State) (p x : Nat) : Acc :=
  mvOwned s p x [.parked, .quenched] false fun s c =>
    .ok (chanIssue (s.setChan x { c with st := .running, byPower := false }) x)

/-- Stop (R326). -/
def mvStop (s : State) (p x : Nat) : Acc :=
  mvOwned s p x [.running, .parked, .quenched, .failed] false fun s c => .ok (chanTo s x c .idle)

/-- Release (R326): as Stop, then Free; by the owner or the steward. -/
def mvRelease (s : State) (p x : Nat) : Acc :=
  mvOwned s p x [.idle, .running, .parked, .quenched, .failed] true fun s c =>
    .ok (if c.inFlight then s.setChan x { c with after := some .free } else chanFree s x)

/-- MV_CLAIM (R326). -/
def execMvClaim (p : Nat) (s : State) : Host.Outcome State Fault Refusal :=
  done (access s p O.MV_CH_CMD fun s => mvClaim s p (s.mvSel p))

/-- MV_START (R326). -/
def execMvStart (p : Nat) (s : State) : Host.Outcome State Fault Refusal :=
  done (access s p O.MV_CH_CMD fun s => mvStart s p (s.mvSel p))

/-- MV_PAUSE (R326). -/
def execMvPause (p : Nat) (s : State) : Host.Outcome State Fault Refusal :=
  done (access s p O.MV_CH_CMD fun s => mvPause s p (s.mvSel p))

/-- MV_RESUME (R326, R335). -/
def execMvResume (p : Nat) (s : State) : Host.Outcome State Fault Refusal :=
  done (access s p O.MV_CH_CMD fun s => mvResume s p (s.mvSel p))

/-- MV_STOP (R326). -/
def execMvStop (p : Nat) (s : State) : Host.Outcome State Fault Refusal :=
  done (access s p O.MV_CH_CMD fun s => mvStop s p (s.mvSel p))

/-- MV_RELEASE (R326). -/
def execMvRelease (p : Nat) (s : State) : Host.Outcome State Fault Refusal :=
  done (access s p O.MV_CH_CMD fun s => mvRelease s p (s.mvSel p))

/-! ## Requests (R330) -/

/-- A pulse of a request line reaches channel `x` (R327, R330). -/
def chanRequest (line : Nat) (s : State) (x : Nat) : State :=
  match s.chan x with
  | none => s
  | some c =>
    if (s.desc x c.cur).req = line ∧ (c.st = .running ∨ c.st = .parked ∨ c.st = .quenched) then
      let s := if c.credits < 255 then s.setChan x { c with credits := c.credits + 1 }
        else s.flag x O.MV_CH_STATUS 5
      chanIssue s x
    else s

/-- MV_REQUEST_PULSE (R330, R342): a line of one mover pulses, at most once in a core cycle; request outputs of the router
are seen by every mover. -/
def execMvRequestPulse (mover line : Nat) (s : State) : Host.Outcome State Fault Refusal :=
  let xs := (uniq (s.chans.map Prod.fst)).filter fun x => decide (line < 16) || moverOf x == mover
  let key := 2 ^ 32 + line + (if line < 16 then 0 else 256 * mover)
  let s := { s with reqLines := s.reqLines.filter (· ≠ line) }
  done (if line < 18 ∧ kvGet s.pulsed key ≠ some (s.now / 48) then
      xs.foldl (chanRequest line) { s with pulsed := kvPut s.pulsed key (s.now / 48) }
    else s)

/-- MV_TIMER_TICK (R330): the channel's own timer, every MV_CH_TICK_NS. -/
def execMvTimerTick (ch : Nat) (s : State) : Host.Outcome State Fault Refusal :=
  done (match s.chan ch with
    | none => s
    | some c =>
      let s := s.runTo c.nextTick
      let s := s.setChan ch { c with nextTick := c.nextTick + (s.obj ch O.MV_CH_TICK_NS).toNat * 40 }
      chanRequest 18 s ch)

/-! ## Bursts (R332, R333) -/

/-- The capture addresses of the units a burst reads at its source (R333). -/
def State.burstUnits (s : State) (x : Nat) (d : Desc) (o n : Nat) : List Nat :=
  match d.sk with
  | 0 => spanUnits (d.src + o) n
  | 2 => (match kvGet s.bufs (d.src / 2 ^ 32) with
    | some b => spanUnits (capAddr b.die (b.off + d.src % 2 ^ 32 + o)) (min n (b.size - (d.src % 2 ^ 32 + o)))
    | none => [])
  | 3 => (match s.held (s.chCtx x) d.seq with
    | some g => uniq ((List.range n).filterMap fun i => (s.segAddr (s.chCtx x) g d.items (d.src + o + i)).map fun a => a / 64 * 64)
    | none => [])
  | _ => []

/-- The bytes of a burst at its source, each unit with the outcome of its check, and which of its 64-byte pieces are poisoned;
host bytes come with the command. -/
def burstRead (s : State) (x : Nat) (d : Desc) (o n : Nat) (host : List Byte) (checks : List Ecc) :
    (List Byte × List Bool) × State :=
  let (bad, s) := readUnits s (s.burstUnits x d o n) checks
  let pieces (f : Nat → List Byte × Bool) : List Byte × List Bool :=
    let ps := (List.range (n / 64)).map fun i =>
      let r := f (64 * i)
      (r.1, r.2 || (s.burstUnits x d (o + 64 * i) 64).any bad.contains)
    (ps.flatMap Prod.fst, ps.map Prod.snd)
  match d.sk with
  | 0 => (pieces fun i => s.readMem (d.src + o + i) 64, s)
  | 1 => ((((List.range n).map fun i => host.getD i 0#8), []), s)
  | 2 => (pieces fun i => s.handleRead (d.src / 2 ^ 32) (d.src % 2 ^ 32 + o + i) 64, s)
  | 3 =>
    match s.held (s.chCtx x) d.seq with
    | some g => (pieces fun i => s.segRead (s.chCtx x) g d.items (d.src + o + i) 64, s)
    | none => ((List.replicate n 0#8, []), s)
  | _ =>
    let (bs, s) := planOutput s (moverOf x) n
    ((bs, []), s)

/-- Writes the bytes of a burst at its destination; a poisoned piece enters its units of capture memory in the poison list, and
marks a host write or a planisher's input (R333). -/
def burstWrite (s : State) (x : Nat) (d : Desc) (o : Nat) (r : List Byte × List Bool) (upset : Option Nat) : State :=
  match d.dk with
  | 0 =>
    (List.range r.2.length).foldl (fun s i =>
      if r.2.getD i false then match s.resolve (d.dst + o + 64 * i) with
        | some (c, _) => poisonUnit s (c / halfBytes) (c % halfBytes / 64)
        | none => s
      else s) (writeMem s (d.dst + o) r.1)
  | 1 => { s with sent := .hostWrite (s.chanOwner x) (d.dst + o) r.1 (r.2.any id) :: s.sent }
  | 2 => handleWrite s (d.dst / 2 ^ 32) (d.dst % 2 ^ 32 + o) r.1
  | _ => planInput s (moverOf x) r.1 (r.2.any id) upset

/-- A burst on a segment has ended; a release that waited for it takes effect (R200). -/
def burstEnd (s : State) (x : Nat) (d : Desc) : State :=
  if d.sk = 3 then
    let c := s.chCtx x
    let s := s.modCtx c fun y => { y with table := y.table.map fun g =>
      if g.seq = d.seq then { g with bursts := g.bursts - 1 } else g }
    match s.held c d.seq with
    | some g => if g.released ∧ g.bursts = 0 then dropSegment s c d.seq else s
    | none => s
  else s

/-- A descriptor completes (R333): release, completion event, next descriptor or the end of the chain. -/
def descDone (s : State) (x : Nat) (d : Desc) : State :=
  let s := if d.release ∧ d.sk = 3 then (releaseSegment s (s.chCtx x) d.seq).flag x O.MV_CH_STATUS 6 else s
  let s := if d.evt ∨ d.next = 0xFF then pulse s 2 0 x else s
  match s.chan x with
  | none => s
  | some c =>
    match c.after with
    | some .free => chanFree s x
    | a =>
      if d.next = 0xFF ∨ a = some .idle then
        let s := s.setChan x { c with st := .idle, after := none, inFlight := false, credits := 0 }
        if d.next = 0xFF then s.flag x O.MV_CH_STATUS 0 else s
      else chanLoad s x d.next (a.getD .running)

/-- MV_BURST_DONE (R333): the burst in flight completes; `hostData` are the bytes a host source returned. -/
def execMvBurstDone (ch : Nat) (burst : BurstIn) (s : State) : Host.Outcome State Fault Refusal :=
  done (moverNext (match s.chan ch with
    | none => s
    | some c =>
      if c.inFlight then
        let d := s.desc ch c.cur
        let n := min d.burst (d.len - c.done)
        let (r, s) := burstRead s ch d c.done n burst.host burst.checks
        let s := burstEnd (burstWrite s ch d c.done r burst.upset) ch d
        let s := s.countWrap ch O.MV_CH_BYTES 64 n
        let s := if r.2.any id then s.flag ch O.MV_CH_STATUS 4 else s
        let c := { c with done := c.done + n, inFlight := false }
        let s := s.setChan ch c
        if d.len ≤ c.done then descDone s ch d
        else match c.after with
          | some .free => chanFree s ch
          | some st => s.setChan ch { c with st, after := none, credits := if st = .idle then 0 else c.credits }
          | none => s
      else s) (moverOf ch))

/-- The quench of mover `x` (R334): every Running channel of it goes to Quenched, one paused in the same core cycle with them
(R342); bursts in flight are abandoned. -/
def quench (s : State) (x kind addr : Nat) : State :=
  let xs := (s.chans.map Prod.fst).filter fun ch => moverOf ch == x
  let s := xs.foldl (fun s ch => match s.chan ch with
    | some c =>
      let s := if c.inFlight then burstEnd s ch (s.desc ch c.cur) else s
      if c.st = .running ∨ (c.st = .parked ∧ c.pausedIn = some (s.now / 48)) then
        let again := c.again || c.inFlight
        (s.setChan ch { c with st := .quenched, inFlight := false, after := none, byPower := false, again }).flag ch O.MV_CH_STATUS 2
      else s
    | none => s) s
  let s := s.countSat 0 (O.MV_QUENCHES_x + x) 32
  let s := s.put (O.MV_QUENCH_CAUSE_x + x) (ofN (kind % 16 * 2 ^ 60 + addr % 2 ^ 60))
  pulse { s with quenched := x :: s.quenched.filter (· ≠ x) } 3 0 x

/-- The bytes an abandoned burst was to write at a capture or handle destination are free values (R334, R336). -/
def abandon (s : State) (ch : Nat) : State :=
  match s.chan ch with
  | none => s
  | some c =>
    if c.inFlight then
      let d := s.desc ch c.cur
      let n := min d.burst (d.len - c.done)
      if d.dk = 0 ∨ d.dk = 2 then
        let (v, s) := s.free
        let bs := (List.range n).map fun i => BitVec.ofNat 8 ((Config.freeBits (v.toNat + i)).toNat)
        burstWrite s ch d c.done (bs, []) none
      else s
    else s

/-- MV_BUS_ERROR (R334): an error comes back for a burst of mover `x`: kind 1 Unsupported Request, 2 Completer Abort,
3 completion timeout, 4 fabric error. -/
def execMvBusError (x kind addr : Nat) (s : State) : Host.Outcome State Fault Refusal :=
  let flying := (s.chans.map Prod.fst).filter fun ch => moverOf ch == x &&
    (match s.chan ch with | some c => c.inFlight | none => false)
  done (if flying = [] then s else quench (flying.foldl abandon s) x kind addr)

/-- MV_QUENCH_RECOVERY (R334): 2 µs after a quench the mover takes bursts again. -/
def execMvQuenchRecovery (x : Nat) (s : State) : Host.Outcome State Fault Refusal :=
  let s := { s with quenched := s.quenched.filter (· ≠ x) }
  done (moverNext s x)

/-! ## Power hold and die loss (R336, R337) -/

/-- A power-down of the domain of mover `x`: a Running channel parks once its burst in flight completes (R337). -/
def parkMover (s : State) (x : Nat) : State :=
  ((s.chans.map Prod.fst).filter fun ch => moverOf ch == x).foldl (fun s ch => match s.chan ch with
    | some c =>
      if c.st = .running then
        if c.inFlight then s.setChan ch { c with after := some (c.after.getD .parked), byPower := true }
        else s.setChan ch { c with st := .parked, byPower := true }
      else s
    | none => s) s

/-- Power returns: channels parked by power resume by themselves (R337). -/
def unparkMover (s : State) (x : Nat) : State :=
  ((s.chans.map Prod.fst).filter fun ch => moverOf ch == x).foldl (fun s ch => match s.chan ch with
    | some c => if c.st = .parked ∧ c.byPower then chanIssue (s.setChan ch { c with st := .running, byPower := false }) ch
      else s
    | none => s) s

/-- Die `d` is Lost: its mover's channels that move or wait fail with reason 7 (R336). -/
def moverDieLost (s : State) (d : Nat) : State :=
  ((s.chans.map Prod.fst).filter fun ch => moverOf ch == 1 + d).foldl (fun s ch => match s.chan ch with
    | some c =>
      if c.st = .running ∨ c.st = .parked ∨ c.st = .quenched then
        let s := abandon s ch
        let s := if c.inFlight then burstEnd s ch (s.desc ch c.cur) else s
        chanFail s ch 7
      else s
    | none => s) s

/-! ## The event router's routes (R338 to R341) -/

/-- The route a path's EV_SELECT names. -/
def State.evSel (s : State) (p : Nat) : Nat := (s.obj p O.EV_SELECT).toNat

/-- The owner code of a route, 0xFF when unclaimed. -/
def State.routeOwner (s : State) (r : Nat) : Nat :=
  match kvGet s.routes r with
  | some x => x.owner
  | none => 0xFF

/-- Claim of a route (R338, R345). -/
def evClaim (s : State) (p r : Nat) : Acc :=
  need (kvGet s.routes r).isNone .presentState s fun s =>
    .ok { s with routes := kvPut s.routes r { owner := ownerOf p } }

/-- Release of a route: by its owner or the steward (R345). -/
def evRelease (s : State) (p r : Nat) : Acc :=
  match kvGet s.routes r with
  | none => (s, some .presentState)
  | some x => need (ownerOf p == x.owner || ownerOf p == s.steward) .noPermission s fun s =>
      .ok { s with routes := kvDel s.routes r }

/-- EV_CLAIM (R338). -/
def execEvClaim (p : Nat) (s : State) : Host.Outcome State Fault Refusal :=
  done (access s p O.EV_CMD fun s => evClaim s p (s.evSel p))

/-- EV_RELEASE (R338). -/
def execEvRelease (p : Nat) (s : State) : Host.Outcome State Fault Refusal :=
  done (access s p O.EV_CMD fun s => evRelease s p (s.evSel p))

/-- Whether a source word names a CLASS, KIND and NUMBER that exist; CLASS 0 is none (R339). -/
def sourceDefined (w : Slot) : Bool :=
  let k := fld w 24 4
  match fld w 28 4 with
  | 0 => true
  | 1 => decide (k ≤ 7)
  | 2 => decide (k ≤ 1)
  | 3 => decide (k = 0)
  | 4 => decide (k ≤ 3)
  | 5 => decide (k ≤ 1)
  | 6 => decide (k ≤ 3)
  | 7 => decide (k ≤ 4)
  | _ => false

/-- Whether an owner may route a source, which must be one R339 numbers. -/
def State.sourceAdmits (s : State) (o : Nat) (w : Slot) : Bool :=
  let n := fld w 0 24
  match fld w 28 4 with
  | 1 => decide (n < 4096) && (o == s.steward || o == s.ctxOwner n)
  | 2 => decide (n < s.channels) && (o == s.steward || o == s.chanOwner n)
  | 3 | 6 => decide (n ≤ s.D)
  | 0 => true
  | _ => n == 0

/-- Whether an owner may route to a destination, which must be one R340 numbers (64 vectors by R439). -/
def State.destAdmits (s : State) (o : Nat) (w : Slot) : Bool :=
  let n := fld w 0 16
  match fld w 28 4 with
  | 1 => o == fld w 16 8 && decide (o < 16) && decide (n < 64)
  | 2 => (o == s.steward || s.num O.TRIGOUT_SHARED == 1) && n == 0
  | 3 => decide (n < 16)
  | 4 => (o == 16 || o == s.steward) && decide (n < 32)
  | _ => true

/-- A write of EV_SOURCE, EV_DEST or EV_ENABLE of route `r`, in force from the next core cycle; reserved bits are ignored
(R7, R339 to R341, R345, R350). -/
def routeWrite (s : State) (p r k : Nat) (v : Slot) : Acc :=
  match kvGet s.routes r with
  | none => (s, some .noPermission)
  | some x =>
    need (ownerOf p == x.owner) .noPermission s fun s =>
    let cyc := s.now / 48
    let set (y : Route) : Acc := .ok { s with routes := kvPut s.routes r { y with old := some (cyc + 1, x.at_ cyc) } }
    if k = O.EV_ENABLE then
      need (decide (v.toNat < 2)) .range s fun _ => set { x with enable := v = 1 }
    else if k = O.EV_SOURCE then
      need (ObjTy.u32.fits v && sourceDefined v) .range s fun s =>
      need (s.sourceAdmits x.owner v) .noPermission s fun _ => set { x with source := v }
    else
      need (ObjTy.u32.fits v && decide (fld v 28 4 ≤ 4)) .range s fun s =>
      need (s.destAdmits x.owner v) .noPermission s fun _ => set { x with dest := v &&& 0xF0FFFFFF }

end Sys2Proof.Machine
end

