-- ==== Sys2Proof/Machine/Raster.lean ====
section
/-!
DEFINITION. The raster engine and the display outputs (R377 to R404).
-/
namespace Sys2Proof.Machine

/-! ## Timing (R378, R379, R389) -/

/-- A timing: the four horizontal and the four vertical figures and the pixel clock in kHz. -/
structure Timing where
  ha : Nat
  hf : Nat
  hs : Nat
  hb : Nat
  va : Nat
  vf : Nat
  vs : Nat
  vb : Nat
  khz : Nat
  deriving DecidableEq, Repr

/-- The timing RASTER_MODE selects (R378). -/
def State.timing (s : State) : Timing :=
  match s.num O.RASTER_MODE with
  | 1 => ⟨1920, 88, 44, 148, 1080, 4, 5, 36, 148500⟩
  | 2 => ⟨3840, 176, 88, 296, 2160, 8, 10, 72, 297000⟩
  | 3 => ⟨3840, 176, 88, 296, 2160, 8, 10, 72, 594000⟩
  | _ =>
    let t (k : Nat) : Nat := s.num (O.TIM_HACTIVE + k)
    ⟨t 0, t 1, t 2, t 3, t 4, t 5, t 6, t 7, s.num O.TIM_PCLK_KHZ⟩

/-- Pixels of a line. -/
def Timing.ht (t : Timing) : Nat := t.ha + t.hf + t.hs + t.hb

/-- Lines of a frame. -/
def Timing.vt (t : Timing) : Nat := t.va + t.vf + t.vs + t.vb

/-- The limits of a custom timing (R378). -/
def Timing.ok (t : Timing) : Bool :=
  decide (640 ≤ t.ha ∧ t.ha ≤ 3840 ∧ t.ha % 8 = 0 ∧ 480 ≤ t.va ∧ t.va ≤ 2160
    ∧ 1 ≤ t.hf ∧ 1 ≤ t.hs ∧ 1 ≤ t.hb ∧ 1 ≤ t.vf ∧ 1 ≤ t.vs ∧ 1 ≤ t.vb ∧ 80 ≤ t.ht - t.ha
    ∧ t.ht ≤ 8192 ∧ t.vt ≤ 4096 ∧ 25000 ≤ t.khz ∧ t.khz ≤ 600000 ∧ t.khz * 1000 ≤ 61 * (t.ht * t.vt))

/-- RASTER_LINES_AHEAD. -/
def State.linesAhead (s : State) : Nat := s.num O.RASTER_LINES_AHEAD

/-- The latency tolerance of R389 in nanoseconds. -/
def State.tolerance (s : State) : Nat := (s.linesAhead - 1) * s.timing.ht * 1000000 / s.timing.khz

/-- Reports the latency tolerance to the dictionary and the memory controllers (R389). -/
def setTolerance (s : State) : State :=
  let v : Slot := if s.raster.st = 1 then ofN s.tolerance else 0xFFFFFFFF
  (s.put O.RASTER_TOLERANCE_NS v).put O.MEM_RT_TOLERANCE_NS v

/-! ## Layers (R382 to R387) -/

/-- Layer `l`. -/
def State.layer (s : State) (l : Nat) : Layer := s.raster.layers.getD l {}

/-- Replaces layer `l`. -/
def State.setLayer (s : State) (l : Nat) (x : Layer) : State :=
  { s with raster := { s.raster with layers := s.raster.layers.set l x } }

/-- The pending shadow of object `k` of layer `l`. -/
def State.layerShadow (s : State) (l k : Nat) : Option Shadow := s.shadows.find? fun h => h.key == k + l * 256

/-- The shadow value of an object of layer `l`, its active value where none is pending (R422). -/
def State.layerVal (s : State) (l k : Nat) : Nat :=
  match s.layerShadow l k with
  | some h => h.value.toNat
  | none => s.num (k + l * 256)

/-- The settings a submission of layer `l` takes (R392). -/
def State.draft (s : State) (l : Nat) : LayerSet :=
  { kind := s.layerVal l O.LAYER_KIND_l, handle := s.layerVal l O.LAYER_HANDLE_l
    x := s.layerVal l O.LAYER_X_l, y := s.layerVal l O.LAYER_Y_l
    w := s.layerVal l O.LAYER_W_l, h := s.layerVal l O.LAYER_H_l
    stride := s.layerVal l O.LAYER_STRIDE_l, mapfunc := s.layerVal l O.LAYER_MAPFUNC_l
    gain := s.layerVal l O.LAYER_GAIN_l, alpha := s.layerVal l O.LAYER_ALPHA_l
    colour := s.layerVal l O.LAYER_COLOUR_l
    cmap := match s.layerShadow l O.CMAP_l with
      | some h => h.bytes
      | none => s.blob 0 (O.CMAP_l + l * 256) }

/-- Colour entry `i` of a layer (R384). -/
def LayerSet.entry (q : LayerSet) (i : Nat) : Nat :=
  match q.cmap with
  | [] => if i = 0 then 0 else 0xFF000000 + i * 0x010101
  | bs => leNat ((bs.drop (4 * i)).take 4)

/-- The colour-map index of a cell with HITS `h` (R385). -/
def LayerSet.index (q : LayerSet) (h : Nat) : Nat :=
  if h = 0 then 0
  else
    let x := if q.mapfunc = 0 then h
      else
        let e := Nat.log2 h
        32 * e + (h - 2 ^ e) * 32 / 2 ^ e + 1
    max 1 (min 255 (x * q.gain / 256))

/-- The row of a line from (x0, y0) to (x1, y1) in column `x`, with the columns as the longer axis: the nearest, halves to the
smaller one (R386). -/
def lineRow (x0 y0 x1 y1 x : Int) : Int :=
  if x0 = x1 then y0
  else
    let d := x1 - x0
    let num := (x - x0) * (y1 - y0) * (if d < 0 then -1 else 1)
    let den := if d < 0 then -d else d
    y0 - (den - 2 * num) / (2 * den)

/-- Column and row of a point word (R386). -/
def pointXY (w : Nat) : Nat × Nat := (w % 65536, w / 65536 % 32768)

/-- The pixels the line between two points covers, with the columns as the longer axis (R386). -/
def spanCells (x0 y0 x1 y1 : Nat) : List (Nat × Nat) :=
  (List.range (max x0 x1 - min x0 x1 + 1)).map fun i =>
    (min x0 x1 + i, (lineRow x0 y0 x1 y1 (min x0 x1 + i : Nat)).toNat)

/-- The pixels the line between two point words covers (R386). -/
def lineCells (a b : Nat) : List (Nat × Nat) :=
  let (xa, ya) := pointXY a
  let (xb, yb) := pointXY b
  if max ya yb - min ya yb ≤ max xa xb - min xa xb then spanCells xa ya xb yb
  else (spanCells ya xa yb xb).map Prod.swap

/-- The lines of a point list: from each point to a next point whose PEN is 1 (R386). -/
def penLines : List Nat → List (Nat × Nat)
  | a :: b :: r => (if b.testBit 31 then [(a, b)] else []) ++ penLines (b :: r)
  | _ => []

/-- Bytes of a row of a coverage plane, one bit for each pixel of the rectangle as far as the widest screen reaches, and its
rows (R386, R388; log 42). -/
def LayerSet.planeSize (q : LayerSet) : Nat × Nat := ((min q.w (3840 - q.x) + 7) / 8, min q.h (2160 - q.y))

/-- Bytes row `y` of a layer's plane is fetched from, on a screen of `ha` columns: offset of the first byte and their number
(R383, R388). -/
def LayerSet.rowSpan (q : LayerSet) (ha y : Nat) : Nat × Nat :=
  let w := min q.w (ha - q.x)
  match q.kind with
  | 2 => (y * q.stride, w * 4)
  | 3 => (y * q.stride, w)
  | 4 => (y * q.planeSize.1, (w + 7) / 8)
  | _ => (0, 0)

/-- Where the plane of some settings stands: its capture address and its bytes. -/
def State.planeAt (s : State) (q : LayerSet) : Option (Nat × Nat) :=
  if q.kind = 4 then q.plane.map fun p => (capAddr p.1 p.2.1, p.2.2)
  else (kvGet s.bufs q.handle).map fun b => (capAddr b.die b.off, b.size)

/-- The capture address of byte `o` of the plane of some settings. -/
def State.planeAddr (s : State) (q : LayerSet) (o : Nat) : Option Nat :=
  (s.planeAt q).bind fun p => if o < p.2 then some (p.1 + o) else none

/-- Whether some settings need screen line `y`. -/
def LayerSet.onLine (q : LayerSet) (y : Nat) : Bool := q.kind != 0 && decide (q.y ≤ y ∧ y < q.y + q.h)

/-- The units of capture memory that the planes of some settings are fetched from for screen line `y`, in layer order. -/
def State.lineUnits (s : State) (y : Nat) (sets : List LayerSet) : List Nat :=
  (sets.filter fun q => q.onLine y).flatMap fun q =>
    let (o, n) := q.rowSpan s.timing.ha (y - q.y)
    match s.planeAt q with
    | some p => spanUnits (p.1 + o) (min n (p.2 - o))
    | none => []

/-! Density rows: each source row is fetched once per frame, merged, and held (R388). -/

/-- The source row of a density layer for screen line `y` (R383). -/
def State.sourceRow (s : State) (q : LayerSet) (y : Nat) : Nat :=
  match kvGet s.cruBufs q.handle with
  | some b => (y - q.y) * b.rows / q.h
  | none => 0

/-- The cells of row `r` of the map that a density layer shows, merged (R229); none where the buffer is gone. -/
def State.cruRow (s : State) (q : LayerSet) (r : Nat) : List Nat :=
  match kvGet s.cruBufs q.handle with
  | some b => (List.range b.cols).map fun x =>
      let i := r * b.cols + x
      (s.cruByte b (64 + 2 * i)).toNat + 256 * (s.cruByte b (65 + 2 * i)).toNat
  | none => []

/-- Fetches the density rows that screen line `y` needs and that are not held (R388). -/
def fetchRows (s : State) (y : Nat) (sets : List LayerSet) : State :=
  let old := if y = 0 then [] else s.raster.srcRows
  let rows := (sets.zipIdx.filter fun p => p.1.kind == 1 && p.1.onLine y).map fun p =>
    let r := s.sourceRow p.1 y
    match kvGet old p.2 with
    | some h => if h.1 = r then (p.2, h) else (p.2, r, s.cruRow p.1 r)
    | none => (p.2, r, s.cruRow p.1 r)
  { s with raster := { s.raster with srcRows := rows } }

/-- `n` bytes of a layer's plane from offset `o`, none where there is no such byte, and whether they were fetched from a poisoned
unit (R391); `bad` are units whose check has just failed. -/
def State.planeRead (s : State) (bad : List Nat) (q : LayerSet) (o n : Nat) : Option Nat × Bool :=
  match s.planeAddr q o with
  | some a => (some (leNat (s.peekN a n)), s.poisoned a || bad.contains (a / 64 * 64))
  | none => (none, false)

/-- The colour entry of a layer at pixel (x, y) of its rectangle, and whether it was fetched from a poisoned unit,
when it is transparent (R382 to R386, R391); `cells` is the density row held for it. -/
def State.layerPixel (s : State) (bad : List Nat) (q : LayerSet) (cells : List Nat) (x y : Nat) : Nat × Bool :=
  let shown (r : Option Nat × Bool) (f : Nat → Nat) : Nat × Bool :=
    match r with
    | (_, true) => (0, true)
    | (some v, false) => (f v, false)
    | (none, false) => (0, false)
  match q.kind with
  | 1 => match cells[x * cells.length / q.w]? with
    | some h => (q.entry (q.index h), false)
    | none => (0, false)
  | 2 => shown (s.planeRead bad q (y * q.stride + x * 4) 4) id
  | 3 => shown (s.planeRead bad q (y * q.stride + x) 1) q.entry
  | 4 => shown (s.planeRead bad q (y * q.planeSize.1 + x / 8) 1) fun v => if v.testBit (x % 8) then q.entry q.colour else 0
  | _ => (0, false)

/-- What layer `l` gives for screen line `y`: an entry for each pixel, 0 outside its rectangle (R383). -/
def State.layerRow (s : State) (bad : List Nat) (l : Nat) (q : LayerSet) (ha y : Nat) : List (Nat × Bool) :=
  let cells := ((kvGet s.raster.srcRows l).map Prod.snd).getD []
  (List.range ha).map fun x =>
    if q.onLine y ∧ q.x ≤ x ∧ x < q.x + q.w then s.layerPixel bad q cells (x - q.x) (y - q.y) else (0, false)

/-- Blends one component (R387). -/
def blend (src dst a : Nat) : Nat := (src * a + dst * (255 - a) + 127) / 255

/-- Blends a colour entry with a layer alpha over a pixel of R, G and B in bits 23 to 0 (R387). -/
def blendPixel (dst e alpha : Nat) : Nat :=
  let a := (e / 2 ^ 24 * alpha + 127) / 255
  let c (k : Nat) : Nat := blend (e / k % 256) (dst / k % 256) a * k
  c 65536 + c 256 + c 1

/-- The pixels of a line from what its layers gave (R387). -/
def compose (bg ha : Nat) (row : List (List Nat × Nat)) : List Nat :=
  (List.range ha).map fun x => row.foldl (fun dst r => blendPixel dst (r.1.getD x 0) r.2) (bg % 2 ^ 24)

/-! ## Demand (R390) -/

/-- The fetch demand of a layer's settings, bytes per frame. -/
def State.demand (s : State) (q : LayerSet) : Nat :=
  let t := s.timing
  let w := min q.w (t.ha - q.x)
  let h := min q.h (t.va - q.y)
  match q.kind with
  | 1 =>
    match kvGet s.cruBufs q.handle with
    | some b => b.cols * 2 * b.members.length * b.rows
    | none => 0
  | 2 => w * h * 4
  | 3 => w * h
  | 4 => (w + 7) / 8 * h
  | _ => 0

/-- Demand in bytes per second of settings, times the pixels of a frame; the limit compares it without rounding. -/
def State.demandOver (s : State) (qs : List LayerSet) (limit : Nat) : Bool :=
  decide (limit * (s.timing.ht * s.timing.vt) < ((qs.map s.demand).foldl (· + ·) 0) * (s.timing.khz * 1000))

/-! ## Latches (R392 to R395) -/

/-- The key of an object of layer `l`. -/
def layKey (k l : Nat) : Nat := k + l * 256

/-- Writes latched settings into the active objects of layer `l`, and takes the shadows they came from (R422). -/
def putLayer (s : State) (l : Nat) (q : LayerSet) : State :=
  let vals : List (Nat × Nat) := [(O.LAYER_KIND_l, q.kind), (O.LAYER_HANDLE_l, q.handle), (O.LAYER_X_l, q.x),
    (O.LAYER_Y_l, q.y), (O.LAYER_W_l, q.w), (O.LAYER_H_l, q.h), (O.LAYER_STRIDE_l, q.stride),
    (O.LAYER_MAPFUNC_l, q.mapfunc), (O.LAYER_GAIN_l, q.gain), (O.LAYER_ALPHA_l, q.alpha), (O.LAYER_COLOUR_l, q.colour)]
  let s := vals.foldl (fun s p => s.put (layKey p.1 l) (ofN p.2)) s
  let s := s.setBlob 0 (layKey O.CMAP_l l) q.cmap
  let taken (h : Shadow) : Bool := vals.any (fun p => h.key == layKey p.1 l && h.value == ofN p.2)
    || (h.key == layKey O.CMAP_l l && h.bytes == q.cmap)
  { s with shadows := s.shadows.filter fun h => !(taken h) }

/-- Latches the submission of layer `l`; frame `f` is the first that shows it, and LAYER_FRAME takes it where the latch changed
the layer (R392, R394, R395). -/
def latchLayer (f : Nat) (now : Bool) (s : State) (l : Nat) : State :=
  let y := s.layer l
  match y.pending with
  | none => s
  | some q =>
    let gone := y.latched.kind ≠ 0 && (q.kind == 0 || q.handle != y.latched.handle)
    let scanning := s.raster.st = 1 && s.raster.begun && !s.raster.done && y.shown.kind ≠ 0
      && y.shown.handle == y.latched.handle
    let s := y.paths.foldl (fun s p => s.setObj p O.RASTER_COMMIT_FRAME (ofN f)) s
    let s := putLayer s l q
    let s := if q = y.latched then s else s.put (layKey O.LAYER_FRAME_l l) (ofN f)
    let y' := { y with
      latched := q, shown := if now then q else y.shown, pending := none, paths := []
      old := if gone && scanning then some y.latched.handle else y.old
      owner := if y.leaving then none else y.owner
      leaving := false }
    let s := s.setLayer l y'
    if y.leaving then
      { s with shadows := s.shadows.filter fun h => !(decide (layKey 0x272000 l ≤ h.key ∧ h.key < layKey 0x272100 l)
        || h.key == layKey O.CMAP_l l) }
    else s

/-- A latch: every accepted submission that was served in an earlier core cycle, or any while the engine is Stopped
or Suspended, unless a vector list of its owner is still being rasterised (R392). -/
def latchAll (s : State) (f : Nat) (now : Bool) : State :=
  let waits (y : Layer) : Bool := y.pending.isSome && !y.ready
  let slow := (s.raster.layers.filter waits).map Layer.owner
  let ls := (List.range 8).filter fun l =>
    let y := s.layer l
    y.pending.isSome && (now || decide (y.since < s.cycle)) && !(slow.contains y.owner)
  let s := if !now && s.raster.layers.any (fun y => waits y && decide (y.since < s.cycle)) then s.flag 0 O.RASTER_STATUS 3 else s
  sweepBufs (ls.foldl (latchLayer f now) s)

/-- A latch at once where the engine is Stopped or Suspended. -/
def latchIdle (s : State) : State :=
  if s.raster.st = 1 then s else latchAll s (s.num O.RASTER_FRAME) true

/-! ## Submissions (R392, R397) -/

/-- The reason of R397 that a layer's draft fails for, 0 for none. -/
def State.draftErr (s : State) (o l : Nat) (q : LayerSet) : Nat :=
  let rb := (kvGet s.bufs q.handle).any fun b => b.kind == .raster
  let size := (s.handleSize q.handle).getD 0
  let short (px : Nat) : Bool := decide (size < q.stride * q.h ∨ q.stride < q.w * px ∨ q.stride % 64 ≠ 0)
  let kindErr : Bool := if q.kind = 1 then !((kvGet s.cruBufs q.handle).any fun b => b.mode == 4) else !rb
  if q.kind ≠ 0 ∧ !(s.holds o q.handle) then 3
  else if q.kind ≠ 0 ∧ kindErr then 4
  else if (q.kind = 2 ∧ short 4) ∨ (q.kind = 3 ∧ short 1)
      ∨ (q.kind = 4 ∧ (q.stride < 1 ∨ 32768 < q.stride ∨ size < 4 * q.stride)) then 5
  else if q.kind ≠ 0 ∧ (s.timing.ha ≤ q.x ∨ s.timing.va ≤ q.y ∨ q.w = 0 ∨ q.h = 0) then 6
  else if (s.layerShadow l O.CMAP_l).any fun h => h.bytes.length != 1024 then 8
  else 0

/-- The settings every layer will hold after the next latch, with the drafts of owner `o` (R390). -/
def State.nextSets (s : State) (mine : List Nat) : List LayerSet :=
  (List.range 8).map fun l =>
    if mine.contains l then s.draft l else (s.layer l).pending.getD (s.layer l).latched

/-- The abort code of a RASTER_ERR (R397). -/
def rasterAbort (e : Nat) : Abort :=
  match e with
  | 3 => .noPermission
  | 6 => .range
  | 7 => .resource
  | _ => .incompatible

/-- The point words of a vector draft, read when its rasterisation starts (R386). -/
def State.draftPoints (s : State) (q : LayerSet) : List Nat :=
  if q.kind = 4 then (List.range q.stride).map fun i => leNat (s.handleRead q.handle (4 * i) 4).1 else []

/-- A coverage plane of zeros for a vector layer's settings (R386); none where no system area has room, when the layer shows nothing
(log 42). -/
def takePlane (s : State) (q : LayerSet) : Option (Nat × Nat × Nat) × State :=
  let size := (q.planeSize.1 * q.planeSize.2 + 63) / 64 * 64
  if q.kind ≠ 4 ∨ size = 0 then (none, s)
  else match s.hubPlace size with
    | some (d, o) => (some (d, o, size), s.zero (capAddr d o) size)
    | none => (none, s)

/-- Accepts a submission of path `p` for layer `l`: a vector list begins to be rasterised (R386, R392). -/
def submitLayer (p : Nat) (s : State) (l : Nat) : State :=
  let q := s.draft l
  let y := s.layer l
  let points := s.draftPoints q
  let s := s.setLayer l { y with pending := none }
  let (plane, s) := takePlane s q
  s.setLayer l { y with pending := some { q with points, plane }, ready := q.kind ≠ 4
                        since := s.cycle, paths := p :: y.paths.filter (· ≠ p) }

/-- Sets the bit of a covered pixel in a coverage plane, where it lies in the rectangle (R386). -/
def coverPixel (q : LayerSet) (s : State) (p : Nat × Nat) : State :=
  let (n, h) := q.planeSize
  if p.1 < q.w ∧ p.1 / 8 < n ∧ p.2 < h then
    match s.planeAddr q (p.2 * n + p.1 / 8) with
    | some a => s.storeBulk a [s.peek a ||| BitVec.ofNat 8 (2 ^ (p.1 % 8))]
    | none => s
  else s

/-- Rasterises the point list of some settings into their coverage plane (R386). -/
def rasterise (s : State) (q : LayerSet) : State :=
  ((penLines q.points).flatMap fun p => lineCells p.1 p.2).foldl (coverPixel q) s

/-- A submission of every layer of the writer's owner code (R392). -/
def rasterCommit (s : State) (p : Nat) : Acc :=
  let o := ownerOf p
  let mine := (List.range 8).filter fun l => (s.layer l).owner == some o && !(s.layer l).leaving
  if mine = [] then (s, some .presentState)
  else
    let errs := (mine.map fun l => s.draftErr o l (s.draft l)).filter (· ≠ 0)
    let errs := if s.demandOver (s.nextSets mine) 8000000000 then 7 :: errs else errs
    match errs with
    | e :: r =>
      let e := r.foldl min e
      (s.setObj p O.RASTER_ERR (ofN e), some (rasterAbort e))
    | [] =>
      let s := (s.setObj p O.RASTER_ERR 0).setObj p O.RASTER_COMMIT_FRAME 0xFFFFFFFF
      .ok (latchIdle (mine.foldl (submitLayer p) s))

/-- A write of RASTER_COMMIT: 1 submits (R392). -/
def rasterCommitWrite (s : State) (p : Nat) (v : Slot) : Acc :=
  need (ObjTy.u8.fits v) .range s fun s => if v = 1 then rasterCommit s p else .ok s

/-- RASTER_COMMIT (R392). -/
def execRasterCommit (p : Nat) (v : Slot) (s : State) : Host.Outcome State Fault Refusal :=
  done (access s p O.RASTER_COMMIT fun s => rasterCommitWrite s p v)

/-- VECTOR_RASTER_DONE (R386): the coverage plane of layer `layer.item` is complete; the checks are those of the units of the
point list (R297). -/
def execVectorRasterDone (layer : Checked) (s : State) : Host.Outcome State Fault Refusal :=
  let l := layer.item
  done (match (s.layer l).pending, (s.layer l).ready with
    | some q, false =>
      let list := match kvGet s.bufs q.handle with
        | some b => spanUnits (capAddr b.die b.off) (min (4 * q.stride) b.size)
        | none => []
      let s := rasterise (readUnits s list layer.checks).2 q
      latchIdle (s.setLayer l { s.layer l with ready := true })
    | _, _ => s)

/-- Claim of a layer (R382). -/
def layerClaim (s : State) (p l : Nat) : Acc :=
  need (decide (l < 8)) .noObject s fun s =>
  need ((s.layer l).owner == none) .presentState s fun s =>
    .ok (s.setLayer l { s.layer l with owner := some (ownerOf p) })

/-- Release of a layer by its owner or the steward: submits KIND 0 (R400). -/
def layerRelease (s : State) (p l : Nat) : Acc :=
  need (decide (l < 8)) .noObject s fun s =>
  let y := s.layer l
  need (y.owner == some (ownerOf p) || (y.owner.isSome && ownerOf p == s.steward)) .noPermission s fun s =>
    let s := (s.setObj p O.RASTER_ERR 0).setObj p O.RASTER_COMMIT_FRAME 0xFFFFFFFF
    .ok (latchIdle (s.setLayer l { y with
      pending := some { y.latched with kind := 0, points := [], plane := none }, ready := true, since := s.cycle, leaving := true
      paths := p :: y.paths.filter (· ≠ p) }))

/-- LAYER_CLAIM (R382). -/
def execLayerClaim (p l : Nat) (s : State) : Host.Outcome State Fault Refusal :=
  done (access s p (layKey O.LAYER_CMD_l l) fun s => layerClaim s p l)

/-- LAYER_RELEASE (R400). -/
def execLayerRelease (p l : Nat) (s : State) : Host.Outcome State Fault Refusal :=
  done (access s p (layKey O.LAYER_CMD_l l) fun s => layerRelease s p l)

/-! ## Engine states (R381) -/

/-- The reason of R397 that a Start fails for, 0 for none. -/
def State.startErr (s : State) : Nat :=
  if s.num O.RASTER_MODE = 0 ∧ !s.timing.ok then 1
  else if s.timing.vt < s.num O.RASTER_COMMIT_LINE + s.linesAhead + 1 then 2
  else 0

/-- Start (R381, R397); the outputs train while frames run. -/
def rasterStart (s : State) (p : Nat) : Acc :=
  if s.raster.st ≠ 0 then .ok s
  else
    let e := s.startErr
    if e ≠ 0 then (s.setObj p O.RASTER_ERR (ofN e), some (rasterAbort e))
    else
      let s := s.setObj p O.RASTER_ERR 0
      let r := s.raster
      .ok (setTolerance { s with raster := { r with
        st := if s.dev = .watch then 2 else 1, stopping := false, begun := false, rows := [], done := true
        bg := s.num O.RASTER_BG, commitLine := s.num O.RASTER_COMMIT_LINE
        outs := r.outs.map fun o => { o with trained := none, narrow := false } } })

/-- The engine stops fetching: the frame in progress, if any, is not resumed, and RASTER_FRAME takes the number of
the next frame (R379, R381). `st` is 0 Stopped or 2 Suspended. -/
def rasterIdle (s : State) (st : Nat) : State :=
  let r := s.raster
  let s := if r.begun then s.countWrap 0 O.RASTER_FRAME 32 else s
  let r' := { r with st, stopping := false, begun := false, rows := [], done := true, under := false, line := 0
                     layers := r.layers.map fun y => { y with shown := y.latched, old := none } }
  latchIdle (setTolerance { s with raster := r' })

/-- Stop (R381). -/
def rasterStop (s : State) : Acc :=
  match s.raster.st with
  | 1 => .ok { s with raster := { s.raster with stopping := true } }
  | 2 => .ok (rasterIdle s 0)
  | _ => .ok s

/-- The module enters Watch: a Running engine is Suspended; a Stop that was waiting stops it (R381). -/
def rasterSuspend (s : State) : State :=
  if s.raster.st = 1 then rasterIdle s (if s.raster.stopping then 0 else 2) else s

/-- The module leaves Watch: a Suspended engine runs, with a new frame (R381). -/
def rasterResume (s : State) : State :=
  if s.raster.st = 2 then
    setTolerance { s with raster := { s.raster with
      st := 1, begun := false, bg := s.num O.RASTER_BG, commitLine := s.num O.RASTER_COMMIT_LINE } }
  else s

/-- A write of RASTER_CMD: 1 Start, 2 Stop, others ignored (R401). -/
def rasterCmdWrite (s : State) (p : Nat) (v : Slot) : Acc :=
  stewardOnly s p fun s => need (ObjTy.u8.fits v) .range s fun s =>
    match v.toNat with
    | 1 => rasterStart s p
    | 2 => rasterStop s
    | _ => .ok s

/-- RASTER_START (R381). -/
def execRasterStart (p : Nat) (s : State) : Host.Outcome State Fault Refusal :=
  done (access s p O.RASTER_CMD fun s => rasterCmdWrite s p 1)

/-- RASTER_STOP (R381). -/
def execRasterStop (p : Nat) (s : State) : Host.Outcome State Fault Refusal :=
  done (access s p O.RASTER_CMD fun s => rasterCmdWrite s p 2)

/-! ## Scanning (R379, R388, R391, R398, R399) -/

/-- Fetches active line `y` from the settings of each layer, each unit with the outcome of its check (R297, R388); pixels of
poisoned units are transparent and set POISON (R391). -/
def fetchLine (s : State) (y : Nat) (sets : List LayerSet) (checks : List Ecc) : State :=
  let (bad, s) := readUnits s (s.lineUnits y sets) checks
  let s := (s.lineUnits y sets).foldl (fun s a => rtServed s (a / halfBytes) (unitPc (s.physUnit (a / halfBytes) (a % halfBytes / 64)))) s
  let s := fetchRows s y sets
  let rows := sets.zipIdx.map fun q => (s.layerRow bad q.2 q.1 s.timing.ha y, q.1.alpha)
  let s := if rows.any fun r => r.1.any Prod.snd then s.flag 0 O.RASTER_STATUS 5 else s
  { s with raster := { s.raster with
      rows := s.raster.rows ++ [(y, rows.map fun r => (r.1.map Prod.fst, r.2))] } }

/-- The fetch issued at the beginning of line `l` (R388): of this frame, or of the next one from its blanking. -/
def fetchAt (s : State) (l : Nat) (checks : List Ecc) : State :=
  let t := s.timing
  let y := l + s.linesAhead
  if y < t.vt then (if y < t.va then fetchLine s y (s.raster.layers.map Layer.shown) checks else s)
  else if y - t.vt < t.va then fetchLine s (y - t.vt) (s.raster.layers.map Layer.latched) checks
  else s

/-- Folds a pixel's R, G and B into the running CRC (R399). -/
def crcPixel (c : BitVec 32) (px : Nat) : BitVec 32 :=
  crc32Byte (crc32Byte (crc32Byte c (BitVec.ofNat 8 (px / 65536))) (BitVec.ofNat 8 (px / 256))) (BitVec.ofNat 8 px)

/-- Whether pixel `x` lies in one of the spans, first and last column. -/
def inSpans (spans : List (Nat × Nat)) (x : Nat) : Bool := spans.any fun p => decide (p.1 ≤ x ∧ x ≤ p.2)

/-- The pixels of a line as sent, from the last pixel sent before: where data is missing it is repeated (R391). -/
def repeatMissing (spans : List (Nat × Nat)) : Nat → Nat → List Nat → List Nat
  | _, _, [] => []
  | x, last, p :: r =>
    let v := if inSpans spans x then last else p
    v :: repeatMissing spans (x + 1) v r

/-- Sends active line `l`: composited, and where its data is missing the last pixel sent (R391). -/
def sendLine (s : State) (l : Nat) (missing : List (Nat × Nat)) : State :=
  let r := s.raster
  let row := kvGet r.rows l
  let px := match row with
    | some w => repeatMissing missing 0 r.last (compose r.bg s.timing.ha w)
    | none => List.replicate s.timing.ha r.last
  let r' := { r with
    rows := r.rows.filter fun w => w.1 ≠ l, crc := px.foldl crcPixel r.crc, last := px.getLast?.getD r.last }
  let s := { s with raster := r' }
  if (missing.any fun p => decide (p.1 ≤ p.2 ∧ p.1 < s.timing.ha)) ∨ row.isNone then
    let s := s.countSat 0 O.RASTER_UNDERRUN_LINES 32
    if r.under then s
    else pulse (({ s with raster := { s.raster with under := true } }.countSat 0 O.RASTER_UNDERRUN_FRAMES
      32).flag 0 O.RASTER_STATUS 1) 4 3 0
  else s

/-- Line 0 of a frame begins: the latched settings come into force (R379, R392, R393, R398). -/
def beginFrame (s : State) : State :=
  let r := s.raster
  let s := if r.begun then s.countWrap 0 O.RASTER_FRAME 32 else s
  let s := s.putTm 0 O.RASTER_FRAME_TM s.cycle
  let r' := { r with
    begun := true, line := 0, done := false, under := false, crc := 0xFFFFFFFF#32
    bg := s.num O.RASTER_BG, commitLine := s.num O.RASTER_COMMIT_LINE
    layers := r.layers.map fun y => { y with shown := y.latched } }
  let s := { s with raster := r' }
  -- the first frame of a run is fetched before it begins
  if r.begun then s
  else (List.range s.linesAhead).foldl (fun s y =>
    if y < s.timing.va then fetchLine s y (s.raster.layers.map Layer.shown) [] else s) s

/-- The beginning of line `l` of a frame. -/
def beginLine (s : State) (l : Nat) (missing : List (Nat × Nat)) (checks : List Ecc) : State :=
  let s := { s with raster := { s.raster with line := l } }
  let s := if l = s.raster.commitLine then latchAll s ((s.num O.RASTER_FRAME + 1) % 2 ^ 32) false else s
  let s := fetchAt s l checks
  let s := if l < s.timing.va then sendLine s l missing else s
  let s := if l = s.timing.va then pulse s 4 0 0 else s
  if l = s.num O.RASTER_MATCH_LINE then pulse s 4 1 0 else s

/-- RASTER_LINE_START (R379): the next line begins; `missing` gives the spans of pixels whose layer data has not arrived,
`checks` the checks of the units that the fetch issued with it reads. -/
def execRasterLineStart (fetched : LineIn) (s : State) : Host.Outcome State Fault Refusal :=
  done (if s.raster.st = 1 ∧ s.running then
      let l := if s.raster.begun then (s.raster.line + 1) % s.timing.vt else 0
      if l = 0 then
        if s.raster.stopping then rasterIdle s 0 else beginLine (beginFrame s) 0 fetched.missing fetched.checks
      else beginLine s l fetched.missing fetched.checks
    else s)

/-- RASTER_FRAME_DONE (R398): the last active pixel has left both output drivers. -/
def execRasterFrameDone (s : State) : Host.Outcome State Fault Refusal :=
  done (if s.raster.st = 1 ∧ s.raster.begun ∧ s.raster.done = false ∧ s.timing.va ≤ s.raster.line + 1 then
      let r := s.raster
      let s := (s.put O.RASTER_CRC_EXPECTED (ofN (~~~ r.crc).toNat)).flag 0 O.RASTER_STATUS 0
      let r' := { r with done := true, layers := r.layers.map fun y => { y with old := none } }
      pulse (sweepBufs { s with raster := r' }) 4 2 0
    else s)

/-- Output `o`. -/
def State.out (s : State) (o : Nat) : DpOut := s.raster.outs.getD o {}

/-- STATE of an output (R404). -/
def DpOut.state (x : DpOut) : Nat :=
  if !x.present then 0 else if x.narrow then 2 else if x.trained.isNone then 3 else 1

/-- FRAME_CRC_COMPARE (R399): output `o` read back `crc` of the frame that is done. -/
def execFrameCrcCompare (o : Nat) (crc : BitVec 32) (s : State) : Host.Outcome State Fault Refusal :=
  done (if o < 2 ∧ (s.out o).state = 1 ∧ s.raster.st = 1 ∧ s.raster.done ∧ s.raster.begun then
      let s := s.put (O.OUT_CRC_READ_o + o) (ofN crc.toNat)
      if crc.toNat = s.num O.RASTER_CRC_EXPECTED then s
      else
        let s := s.countSat 0 (O.OUT_CRC_FAILS_o + o) 32
        tarnish ((s.flag 0 (O.OUT_STATE_o + o) 3).flag 0 O.RASTER_STATUS 2) 24 0xFF 0xFF o 0xFF51
    else s)

/-! ## Raster buffers (R395) -/

/-- Allocate: RBUF_BYTES contiguous in one system area. -/
def rbufAllocate (s : State) (p : Nat) : Acc :=
  match allocBuf s (ownerOf p) .raster (s.obj p O.RBUF_BYTES).toNat with
  | some (h, s) => .ok (s.setObj p O.RBUF_HANDLE (ofN h))
  | none => (s, some .resource)

/-- Free RBUF_TARGET: by its holder or the steward. -/
def rbufFree (s : State) (p : Nat) : Acc :=
  let h := (s.obj p O.RBUF_TARGET).toNat
  match kvGet s.bufs h with
  | some b =>
    need (b.kind == .raster && b.held && (b.owner == ownerOf p || ownerOf p == s.steward)) .noPermission s fun s =>
      .ok (freeBuf s h)
  | none => (s, some .noPermission)

/-- RBUF_ALLOCATE (R395). -/
def execRbufAllocate (p : Nat) (s : State) : Host.Outcome State Fault Refusal :=
  done (access s p O.RBUF_CMD fun s => rbufAllocate s p)

/-- RBUF_FREE (R395). -/
def execRbufFree (p : Nat) (s : State) : Host.Outcome State Fault Refusal :=
  done (access s p O.RBUF_CMD fun s => rbufFree s p)

/-! ## Outputs (R380) -/

/-- Changes output `o`. -/
def State.setOut (s : State) (o : Nat) (x : DpOut) : State :=
  { s with raster := { s.raster with outs := s.raster.outs.set o x } }

/-- DP_HOTPLUG (R380): HPD changes on output `o`; nothing else is touched. -/
def execDpHotplug (o : Nat) (present : Bool) (s : State) : Host.Outcome State Fault Refusal :=
  done (if o < 2 ∧ (s.out o).present ≠ present then
      ((s.setOut o { present }).setBlob 0 (O.OUT_EDID_o + o) []).flag 0 O.RASTER_STATUS 4
    else s)

/-- Whether a link of rate code `rate` (0.27 Gb/s each) and `lanes` carries the mode within 80 % (R380). -/
def Timing.carried (t : Timing) (rate lanes : Nat) : Bool := decide (t.khz * 24000 ≤ rate * 216000000 * lanes)

/-- DP_LINK_TRAINED (R380): output `o` has trained at the highest rate and lane count its sink accepts. -/
def execDpLinkTrained (o maxRate maxLanes : Nat) (edid : List Byte) (s : State) : Host.Outcome State Fault Refusal :=
  done (if o < 2 ∧ (s.out o).present ∧ [6, 10, 20, 30].contains maxRate ∧ [1, 2, 4].contains maxLanes then
      let s := s.setOut o { s.out o with
        trained := some (maxRate, maxLanes), narrow := !(s.timing.carried maxRate maxLanes), edid }
      s.setBlob 0 (O.OUT_EDID_o + o) edid
    else s)

end Sys2Proof.Machine
end

