-- ==== Sys2Proof/Machine/DieLoss.lean ====
section
/-!
DEFINITION. The loss and the retirement of a die (R84 to R90, R120, R121, R522, R532).
-/
namespace Sys2Proof.Machine

/-- Removes a die from a calibration pass: its pending trims are discarded, and the skew step of an alloy that
loses it is abandoned (R124). A retest of one of its slices is dropped; RETEST_RESULT keeps reading 1, running, since no rule
gives it a result (DESIGN CHOICE, log 62). -/
def leavePass (s : State) (d : Nat) : State :=
  let hit := s.cal.alloys.any fun n => (s.input n).members.contains d
  let s := if hit then s.flag 0 O.CAL_STATUS 3 else s
  let s := { s with cal := { s.cal with
    dies := s.cal.dies.filter (· ≠ d)
    alloys := s.cal.alloys.filter fun n => !(s.input n).members.contains d
    retest := match s.cal.retest with | some (k, sl) => if k = d then none else some (k, sl) | none => none } }
  s.setDie d { s.die d with
    measuring := false, calQueue := [], pending := [], bankPending := none, auditCause := none, autoPass := false
    lineupPending := false, wearNow := false, gap := false }

/-! ## Entering Watch or Deep (R493) -/

/-- Whether an alloy commit is Changing an input or an input is Regrouping (R493). -/
def State.alloyMoves (s : State) : Bool := s.inputs.any fun x => x.st == .changing || x.st == .regrouping

/-- The trims of a slice with others in force. -/
def Die.withTrim (x : Die) (sl : Nat) (t : Trim) : Die := { x with trims := kvSet {} x.trims sl t }

/-- Every pending trim of die `d` takes force; where a trim changes, the sheet of the core cycle `mark` carries
CAL_TRANSITION (R108). -/
def applyTrims (mark : Option Nat) (s : State) (d : Nat) : State :=
  let x := s.die d
  if x.pending.isEmpty ∧ x.bankPending.isNone then s
  else
    let y := x.pending.foldl (fun x p => x.withTrim p.1 p.2) x
    let changed := y.trims != x.trims || x.bankPending.any (· != x.bankSkew)
    s.setDie d { y with pending := [], bankSkew := x.bankPending.getD x.bankSkew, bankPending := none
                        calAt := if changed then mark <|> x.calAt else x.calAt }

/-- Trims of a pass are in force: DONE, CAL_APPLY_TM and the event (R107, R108). -/
def trimsInForce (s : State) (t : Nat) : State :=
  let s := { s with cal := { s.cal with st := .idle, dies := [], boundary := none, stepped := false } }
  pulse ((s.putTm 0 O.CAL_APPLY_TM t).flag 0 O.CAL_STATUS 0) 7 2 0

/-- The module enters Watch: a pass ends and is ABORTED, a ramp takes its targets at once (R124). -/
def calWatch (s : State) : State :=
  let ds := List.range s.D
  let s := ds.foldl (fun s d => s.setDie d { s.die d with auditCause := none }) s
  match s.cal.st with
  | .measuring | .pending =>
    let s := ds.foldl (fun s d => s.setDie d { s.die d with
      measuring := false, calQueue := [], pending := [], bankPending := none }) s
    { s with cal := { s.cal with st := .idle, dies := [], alloys := [], boundary := none } }.flag 0 O.CAL_STATUS 2
  | .ramping => trimsInForce (ds.foldl (applyTrims none) s) (s.cycle + 48)
  | .idle => s

/-- Time zero of R493: POWER_PHASE reads the transition; contexts are Suspended, movers park, the raster engine is Suspended,
calibration ends and a running input-path test is abandoned. -/
def quiesce (s : State) (phase : Nat) : State :=
  let s := { s.put O.POWER_PHASE (ofN phase) with power := { s.power with entry := none } }
  let s := (s.reachable).foldl (fun s c => suspendCtx s c 5) s
  let s := (List.range (1 + s.D)).foldl parkMover s
  let s := calWatch (rasterSuspend s)
  { s with test := none, testNext := none, testDue := [] }

/-- A transition to Watch or Deep begins: at once, or when an alloy has settled, 2.4 ms later at the latest (R493). A further
command while it waits names the state to enter instead (DESIGN CHOICE, log 100). -/
def beginEntry (s : State) (phase : Nat) : State :=
  let stop := (s.power.entry.map Prod.snd).getD (s.now + 96000000)
  let s := { s with power := { s.power with wakeKept := [], entryAt := s.now / 48 } }
  if s.alloyMoves then { s with power := { s.power with entry := some (phase, stop) } } else quiesce s phase

/-- An alloy has settled or dissolved, or 2.4 ms have passed: an entry that waited goes on (R493). -/
def resumeEntry (s : State) : State :=
  match s.power.entry with
  | some (phase, stop) => if s.alloyMoves = false ∨ stop ≤ s.now then quiesce s phase else s
  | none => s

/-! ## Loss and retirement -/

/-- Whether a bound context has an evaluator on die `d` or a stream that starts at, ends at or passes it. -/
def State.touches (s : State) (x : Ctx) (d : Nat) : Bool :=
  (x.evals ++ x.partners).any (fun v => v / 8 == d) ||
    x.streams.any fun t => t.src == d || t.dst == d ||
      (streamLinks s.D t).any fun l => l.1 == d || (l.1 + 1) % s.D == d

/-- A die becomes Lost or Retired: its contexts, its input, its engines and the streams that passed it
(R84 to R90, R121, R332, R336, R371, R532). -/
def dieGone (s : State) (d : Nat) (st : DieSt) : State :=
  let n := s.servedBy d
  let byte := s.inputByte d
  let x := s.die d
  let s := s.setDie d { x with st, lineup := if st = .retired then .none else x.lineup }
  let s := tarnish s 2 d byte st.num 0xFF12
  let s := leavePass s d
  let home (c : Nat) : Bool := match s.ctx c with | some x => x.homeDie == d | none => false
  let s := (s.reachable.filter home).foldl loseHome s
  let s := match s.test with
    | some t => if s.servedBy d = some t.input then nextTest { s with test := none } else s
    | none => s
  let s := match n with
    | some n => memberGone s n d
    | none => s
  let s := if st = .lost then moverDieLost (planLost s (1 + d)) d else s
  let s := if st = .lost ∧ (List.range 2).all (fun k => (s.die (d / 2 * 2 + k)).st == .lost) then orphan s (d / 2) else s
  -- contexts of other inputs whose streams passed the die (R159, R160)
  let others := (s.ctxs.filter fun c => c.2.bound && s.touches c.2 d &&
    !((List.range s.D).any fun k => s.ctxOn c.1 k && (s.input k).st == .regrouping)).map Prod.fst
  -- an entry that waited for this alloy goes on (R493)
  resumeEntry (rebindAll s others)

/-- A die is declared Lost; the action waits for a supervisor restart to end (R522, R528). -/
def dieLost (s : State) (d : Nat) : State :=
  if d < s.D ∧ ((s.die d).st = .active ∨ (s.die d).st = .reserve ∨ (s.die d).st = .retention) then
    if s.restarting then { s with deferred := s.deferred ++ [.dieLost d] } else dieGone s d .lost
  else s

/-- DIE_LOST (R522): six consecutive heartbeats of die `d` are missing; a die in Retention sends none (R521). -/
def execDieLost (d : Nat) (s : State) : Host.Outcome State Fault Refusal :=
  done (if d < s.D ∧ ((s.die d).st = .active ∨ (s.die d).st = .reserve) then
      dieLost (s.countSat 0 (O.HB_MISSES_d + d) 32 6) d
    else dieLost s d)

end Sys2Proof.Machine
end

