-- ==== Sys2Proof/Machine/Calib.lean ====
section
/-!
DEFINITION. Calibration passes, the slice audit, substitution and wear-out (R99 to R133).
-/
namespace Sys2Proof.Machine

/-! ## Failed slices (R101, R112 to R118, R131, R531) -/

/-- A slice is failed with a cause; a spare takes its position, or a lineup change is called for (R112 to R118). -/
def failSlice (s : State) (d sl cause : Nat) : State :=
  let x := s.die d
  if (kvGet x.failed sl).isSome then s
  else
    let n := s.inputByte d
    let old := x.stage
    let spare := (x.spares.filter (· ≠ sl)).head?
    let placed := x.positions.contains sl
    let x' := { x with
      failed := kvPut x.failed sl cause, pending := kvDel x.pending sl
      calQueue := x.calQueue.filter (· ≠ sl) }
    let x' := match placed, spare with
      | true, some t => { x' with
          positions := x.positions.map fun k => if k = sl then t else k
          substituted := t :: x.substituted.filter (· ≠ sl), subs := x.subs + 1 }
      | _, _ => x'
    let s := (s.setDie d x').countSat 0 O.AUDIT_FAIL_COUNT 32
    let s := s.put O.AUDIT_LAST_FAIL (ofN (sliceAddr d sl))
    let s := tarnish s 0 d n sl 0xFF10
    let from_ := (kvGet x.lastPass sl).getD s.power.startFrom
    if 37 ≤ x'.f then
      dieGone (suspect s 1 d n (sliceAddr d sl) 0xFFFF from_ (s.cycle + 48)) d .retired
    else if placed ∧ spare.isNone then
      -- the slice stays until the wear-out boundary
      let s := s.setDie d { x' with
        lineupPending := true, wearAt := if x.lineupPending then x.wearAt else s.now
        late := x'.late ++ [(sl, s.faults.logSeq)] }
      if n ≠ 0xFF ∧ x.st = .active then s else lineupAtOnce s d
    else
      stageChanged (suspect s 1 d n (sliceAddr d sl) 0xFFFF from_ (s.cycle + 48)) d old

/-! ## The calibration pass (R102 to R105, R123) -/

/-- Starts a pass on the dies of a mask (R102, R103); `auto` by R123. A named die that is still in Retention is skipped like
one that is Off, and recorded in SKIPPED (DESIGN CHOICE, log 92). -/
def startPass (s : State) (mask : Nat) (skew auto : Bool) : State :=
  let named := unmask 8 mask
  let ready (d : Nat) : Bool := (s.die d).st == .active || (s.die d).st == .reserve
  let ds := named.filter ready
  let skipped := named.filter fun d => !ready d
  let st := setFld (putBit (s.get O.CAL_STATUS) 4 auto) 16 8 (maskOf skipped)
  let s := s.put O.CAL_STATUS st
  let s := ds.foldl (fun s d =>
    let x := s.die d
    s.setDie d { x with measuring := true, calQueue := x.spares ++ x.positions, pending := [], bankPending := none
                        auditCause := none }) s
  let alloys := if skew then (List.range s.D).filter fun n =>
    decide (2 ≤ (s.input n).members.length) && (s.input n).members.any ds.contains else []
  { s with cal := { s.cal with st := .measuring, dies := ds, alloys, skew, boundary := none } }

/-- A write of CAL_START (R102, R125); reserved bits are ignored (R7). -/
def calStart (s : State) (p : Nat) (v : Slot) : Acc :=
  stewardOnly s p fun s =>
  need (ObjTy.u32.fits v && fld v 0 8 != 0 && decide (fld v 0 8 < 2 ^ s.D)) .range s fun s =>
  need (s.running && (s.cal.st == .idle || s.cal.st == .pending)) .presentState s fun s =>
    .ok (startPass s (fld v 0 8) (bit v 8) false)

/-- CAL_START (R102). -/
def execCalStart (p : Nat) (v : Slot) (s : State) : Host.Outcome State Fault Refusal :=
  done (access s p O.CAL_START fun s => calStart s p v)

/-- CAL_AUTO_START (R123): the pass that follows a lineup change of die `d`. -/
def execCalAutoStart (d : Nat) (s : State) : Host.Outcome State Fault Refusal :=
  done (if d < s.D ∧ (s.die d).autoPass ∧ s.running ∧ (s.cal.st = .idle ∨ s.cal.st = .pending) then
      startPass (s.setDie d { s.die d with autoPass := false }) (2 ^ d) true true
    else s)

/-- The trims a measurement calls for, none where a correction lies outside the range of R99 (R101). -/
def trimOf (m : SliceMeasure) : Option Trim :=
  let ok (lo hi c : Int) : Bool := decide (lo ≤ c ∧ c ≤ hi)
  if ok (-16000) 15875 (-m.offset) && ok (-2560) 2540 (-m.gain) && ok (-128000) 127750 (-m.skew) then
    some { offset := (128 + roundAway (-m.offset) 125).toNat, gain := (128 + roundAway (-m.gain) 20).toNat
           skew := (512 + roundAway (-m.skew) 250).toNat }
  else none

/-- CAL_SLICE_MEASURED (R103): the slice under measurement on die `d` is done. -/
def execCalSliceMeasured (d : Nat) (m : SliceMeasure) (s : State) : Host.Outcome State Fault Refusal :=
  let x := s.die d
  done (if d < s.D ∧ x.measuring ∧ x.calQueue.head? = some m.slice then
      let x := { x with calQueue := x.calQueue.tail, lastPass := kvPut x.lastPass m.slice (s.now - 2000000) }
      match trimOf m with
      | some t =>
        s.setDie d (if x.positions.contains m.slice then { x with pending := kvPut x.pending m.slice t }
          else x.withTrim m.slice t)
      | none =>
        if s.restarting then { s with deferred := s.deferred ++ [.calSliceMeasured d m] }
        else failSlice ((s.setDie d { x with lastPass := (s.die d).lastPass }).flag 0 O.CAL_STATUS 1) d m.slice 5
    else s)

/-- Whether every slice of the pass has been measured. -/
def State.slicesDone (s : State) : Bool := s.cal.dies.all fun d => (s.die d).calQueue.isEmpty

/-- A die-to-die skew trim for a measured skew in thousandths of a grain, kept where it lies outside R99. -/
def bankTrim (old : Nat) (skew : Int) : Nat :=
  if -128000 ≤ -skew ∧ -skew ≤ 127750 then (512 + roundAway (-skew) 250).toNat else old

/-- CAL_SKEW_MEASURED (R81, R101, R103): the skews of the member banks of input `n`, in deal order. -/
def execCalSkewMeasured (n : Nat) (skews : List Int) (s : State) : Host.Outcome State Fault Refusal :=
  done (if s.cal.st = .measuring ∧ s.slicesDone ∧ s.cal.alloys.contains n then
      let ms := (s.input n).members
      let ts := (List.range ms.length).map fun j =>
        match skews[j]? with
        | some k => bankTrim (s.die (ms.getD j 0)).bankSkew k
        | none => (s.die (ms.getD j 0)).bankSkew
      let s := (ms.zip ts).foldl (fun s p => s.setDie p.1 { s.die p.1 with bankPending := some p.2 }) s
      { s with skewSets := s.trimSkew ((ms, ts) :: s.skewSets.filter fun q => q.1 != ms)
               cal := { s.cal with alloys := s.cal.alloys.filter (· ≠ n) } }
    else s)

/-- Die `d` has been measured: its audit resumes (R110). -/
def passMeasured (s : State) (d : Nat) : State :=
  s.setDie d { s.die d with measuring := false, auditPos := 0, auditStart := s.now }

/-- CAL_TRIMS_COMPUTED (R103, R106): the measuring of a pass ends. -/
def execCalTrimsComputed (s : State) : Host.Outcome State Fault Refusal :=
  done (if s.cal.st = .measuring ∧ s.slicesDone ∧ s.cal.alloys = [] then
      let s := s.cal.dies.foldl passMeasured s
      let s := (s.putTm 0 O.CAL_DONE_TM s.cycle).countSat 0 O.CAL_PASS_COUNT 32
      if s.variant = .sz8 then { s with cal := { s.cal with st := .pending, boundary := none } }
      else { s with cal := { s.cal with st := .ramping, rampFrom := s.now, stepped := false } }
    else s)

/-- One step of a trim toward its target. -/
def stepTo (x t : Nat) : Nat := if x < t then x + 1 else if t < x then x - 1 else x

/-- One step of the three trims of a slice. -/
def Trim.step (x t : Trim) : Trim :=
  { offset := stepTo x.offset t.offset, gain := stepTo x.gain t.gain, skew := stepTo x.skew t.skew }

/-- One ramp step of die `d`: trims that have reached their target are pending no more, and the sheet of the step's core
cycle carries CAL_TRANSITION where a trim moved (R107). -/
def rampDie (s : State) (d : Nat) : State :=
  let x := s.die d
  let y := x.pending.foldl (fun x p => x.withTrim p.1 ((x.trim p.1).step p.2)) x
  let b := match x.bankPending with
    | some t => stepTo x.bankSkew t
    | none => x.bankSkew
  s.setDie d { y with
    pending := y.pending.filter fun p => y.trim p.1 != p.2, bankSkew := b
    calAt := if y.trims != x.trims || b != x.bankSkew then some (s.cal.rampFrom / 48 * 48) else x.calAt
    bankPending := if x.bankPending = some b then none else x.bankPending }

/-- CAL_RAMP_STEP (R107). -/
def execCalRampStep (s : State) : Host.Outcome State Fault Refusal :=
  done (if s.cal.st = .ramping then
      let s := s.runTo (s.cal.rampFrom + 80000)
      let s := { s with cal := { s.cal with rampFrom := s.cal.rampFrom + 80000, stepped := true } }
      let s := (List.range s.D).foldl rampDie s
      if (List.range s.D).all fun d => (s.die d).pending.isEmpty && (s.die d).bankPending.isNone then
        trimsInForce s (s.cal.rampFrom / 48 * 48 + 48)
      else s
    else s)

/-- Whether no context is Armed on any input served by a die with pending trims (R108). -/
def State.trimsIdle (s : State) : Bool :=
  (List.range s.D).all fun n => !((s.input n).members.any fun d => !(s.die d).pending.isEmpty || (s.die d).bankPending.isSome)
    || !(s.ctxs.any fun c => c.2.st == .armed && s.ctxOn c.1 n)

/-- CAL_TRIMS_APPLY (R108): a boundary has come while Pending. A die in a lineup gap takes its trims at its end
(R124). -/
def execCalTrimsApply (s : State) : Host.Outcome State Fault Refusal :=
  done (if s.cal.st = .pending ∧ (s.cal.boundary.isSome ∨ (s.num O.CAL_APPLY_MODE ≤ 1 ∧ s.trimsIdle)) then
      let s := s.runTo (s.cal.boundary.getD (s.cycle + 48))
      let ds := (List.range s.D).filter fun d => !(s.die d).gap
      trimsInForce (ds.foldl (applyTrims (some s.cycle)) s) s.cycle
    else s)

/-- A write of CAL_COMMIT: 1 is an explicit commit and a wear-out boundary (R108, R118). -/
def calCommit (s : State) (p : Nat) (v : Slot) : Acc :=
  stewardOnly s p fun s => need (ObjTy.u8.fits v) .range s fun s =>
    if v = 1 then
      let s := if s.cal.st = .pending then { s with cal := { s.cal with boundary := some (s.cycle + 48) } } else s
      .ok ((List.range s.D).foldl (fun s d =>
        if (s.die d).lineupPending then s.setDie d { s.die d with wearNow := true } else s) s)
    else .ok s

/-- CAL_COMMIT (R108). -/
def execCalCommit (p : Nat) (v : Slot) (s : State) : Host.Outcome State Fault Refusal :=
  done (access s p O.CAL_COMMIT fun s => calCommit s p v)

/-! ## The slice audit (R110 to R113) -/

/-- The cause a shadow window fails for (R111). -/
def shadowCause (a : AuditWindow) : Option Nat :=
  let n : Int := a.n
  if a.span < 2 ∧ 16 ≤ a.refSpan then some 1
  else if 3 * n < a.sumD.natAbs then some 2
  else if 9 * n * n < 4 * (n * a.sumD2 - a.sumD * a.sumD) then some 3
  else if a.missing then some 4
  else none

/-- The cause a statistical window fails for (R113): 2 for its mean, 3 for its deviation, 1 for its span. -/
def statCause (a : AuditWindow) : Option Nat :=
  let n : Int := a.n
  let r : Int := a.refN
  -- n² times the variance of the slice, r² times that of the die
  let vs := n * a.sumS2 - a.sumS * a.sumS
  let vr := r * a.refSum2 - a.refSum * a.refSum
  if a.span < 2 ∧ 16 ≤ a.refSpan then some 1
  else if 8 * n * r < ((a.sumS * r - a.refSum * n).natAbs : Int) then some 2
  else if 4 * vs * r * r < vr * n * n ∨ 4 * vr * n * n < vs * r * r then some 3
  else none

/-- Whether the audit runs on die `d` (R110, R528). -/
def State.audits (s : State) (d : Nat) : Bool :=
  let x := s.die d
  d < s.D && s.num O.AUDIT_ENABLE == 1 && s.working && (x.st == .active || x.st == .reserve) && !x.measuring
    && !x.gap && !s.restarting && !x.positions.isEmpty

/-- The audit moves to the next position; a full cycle reports its duration (R110, R126). -/
def auditNext (s : State) (d : Nat) : State :=
  let x := s.die d
  if x.positions.length ≤ x.auditPos + 1 then
    let s := s.put O.AUDIT_CYCLE_US (ofN ((s.now - x.auditStart) / 40000))
    s.setDie d { x with auditPos := 0, auditStart := s.now, auditCause := none }
  else s.setDie d { x with auditPos := x.auditPos + 1, auditCause := none }

/-- The slice under audit. -/
def Die.audited (x : Die) : Nat := x.positions.getD x.auditPos 0

/-- Records a passed audit window of a slice (R531). -/
def auditPassed (s : State) (d sl : Nat) : State :=
  s.setDie d { s.die d with lastPass := kvPut (s.die d).lastPass sl (s.now - 3000000) }

/-- AUDIT_DEV of a shadow window (R133): abs(mean d) in 1/16 code, saturating; what is below 1/16 is cut off (DESIGN CHOICE,
log 93). -/
def auditDevOf (a : AuditWindow) : Nat := if a.n = 0 then 0 else min 255 (16 * a.sumD.natAbs / a.n)

/-- AUDIT_WINDOW_END (R111, R113): the window of the position under audit on die `d` ends. -/
def execAuditWindowEnd (d : Nat) (a : AuditWindow) (s : State) : Host.Outcome State Fault Refusal :=
  let x := s.die d
  let sl := x.audited
  done (if s.audits d ∧ x.auditCause = none then
      if x.spares = [] then
        match statCause a with
        | some c => failSlice (auditNext s d) d sl c
        | none => auditNext (auditPassed s d sl) d
      else
        let s := s.setDie d { x with auditDev := kvPut x.auditDev sl (auditDevOf a) }
        match shadowCause a with
        | some c => s.setDie d { s.die d with auditCause := some c }
        | none => auditNext (auditPassed s d sl) d
    else s)

/-- AUDIT_CONFIRM_END (R112): the repeat of a failed window ends: the slice is failed, or else the first spare. -/
def execAuditConfirmEnd (d : Nat) (a : AuditWindow) (s : State) : Host.Outcome State Fault Refusal :=
  let x := s.die d
  let sl := x.audited
  done (match x.auditCause with
    | some c =>
      if s.audits d then
        let s := if x.spares = [] then s else s.setDie d { x with auditDev := kvPut x.auditDev sl (auditDevOf a) }
        match shadowCause a, x.spares with
        | some _, _ => failSlice (auditNext s d) d sl c
        | none, t :: _ => failSlice (auditNext (auditPassed s d sl) d) d t c
        | none, [] => auditNext s d
      else s
    | none => s)

/-! ## Wear-out (R118 to R121) -/

/-- Whether a boundary of R118 other than the 2 ms has come for die `d`. -/
def State.wearDue (s : State) (d : Nat) : Bool :=
  (s.die d).wearNow || (match s.servedBy d with
    | some n => !(s.ctxs.any fun c => c.2.st == .armed && s.ctxOn c.1 n)
    | none => true)

/-- The lineup change of die `d` begins at its wear-out boundary (R119, R120). -/
def wearBoundary (s : State) (d : Nat) : State :=
  let x := s.die d
  match s.servedBy d with
  | none => lineupAtOnce s d
  | some n =>
    if x.st ≠ .active then lineupAtOnce s d
    else if lineupOf x.f = .half ∧ (2 ≤ (s.input n).members.length ∨ d ≠ n) then
      -- the die leaves the alloy and enters Half rate and Reserve (R70, R120)
      let s := changeLineup (s.setDie d { x with late := [] }) d
      let s := regroup s n d
      let s := if (s.input n).st = .regrouping then s.setDie d { s.die d with st := .reserve } else s
      lateSuspects s d n (s.cycle + 48) x.late x.lastPass
    else
      let s := s.setDie d { x with lineupPending := false, wearNow := false, gap := true
                                   pending := if x.measuring then [] else x.pending
                                   bankPending := if x.measuring then none else x.bankPending }
      stopStream s n

/-- WEAROUT_BOUNDARY (R118): the first boundary after LINEUP_PENDING; where no other has come it is the 2 ms. -/
def execWearoutBoundary (d : Nat) (s : State) : Host.Outcome State Fault Refusal :=
  done (if d < s.D ∧ (s.die d).lineupPending then
      if s.restarting then { s with deferred := s.deferred ++ [.wearoutBoundary d] }
      else wearBoundary (if s.wearDue d then s else s.runTo ((s.die d).wearAt + 80000000)) d
    else s)

/-- LINEUP_GAP_END (R119): the first sheet of die `d` in its new lineup. -/
def execLineupGapEnd (d : Nat) (s : State) : Host.Outcome State Fault Refusal :=
  done (if d < s.D ∧ (s.die d).gap then
      let n := (s.servedBy d).getD 0
      let late := (s.die d).late
      let from_ := (s.die d).lastPass
      let s := changeLineup (s.setDie d { s.die d with gap := false, late := [] }) d
      -- trims that came into force during the gap (R124)
      let s := if s.cal.st = .idle then applyTrims (some (s.boundary n s.now)) s d else s
      let t := s.boundary n s.now
      let s := lateSuspects s d n t late from_
      let s := s.setDie d { s.die d with lineupFrom := t }
      let s := if (s.input n).ring = .writing then openEpoch s n t true
        else s.setInput n { s.input n with discNext := s.busyInput n, discAt := t * 480 :: (s.input n).discAt }
      rebindInput s n
    else s)

/-! ## Retest and stored sets (R122, R126) -/

/-- A write of SLICE_RETEST, a slice address whose reserved bits are ignored (R7, R122, R125, R129). -/
def sliceRetest (s : State) (p : Nat) (v : Slot) : Acc :=
  let d := fld v 8 3
  let sl := fld v 0 7
  stewardOnly s p fun s =>
  need (ObjTy.u16.fits v && decide (d < s.D ∧ sl ≤ 67)) .range s fun s =>
  let x := s.die d
  need ((kvGet x.failed sl).isSome && (x.st == .active || x.st == .reserve) && !x.measuring && s.cal.retest.isNone)
    .presentState s fun s =>
    .ok ({ s with cal := { s.cal with retest := some (d, sl) } }.put O.RETEST_RESULT 1)

/-- SLICE_RETEST (R122). -/
def execSliceRetest (p : Nat) (v : Slot) (s : State) : Host.Outcome State Fault Refusal :=
  done (access s p O.SLICE_RETEST fun s => sliceRetest s p v)

/-- SLICE_RETEST_DONE (R122): the slice must pass all three windows to become a spare again. -/
def execSliceRetestDone (ws : List AuditWindow) (s : State) : Host.Outcome State Fault Refusal :=
  done (match s.cal.retest with
    | some (d, sl) =>
      let s := { s with cal := { s.cal with retest := none } }
      if ws.length = 3 ∧ ws.all (fun a => (shadowCause a).isNone) then
        let x := s.die d
        stageChanged ((s.setDie d { x with failed := kvDel x.failed sl }).put O.RETEST_RESULT 2) d x.stage
      else s.put O.RETEST_RESULT 3
    | none => s)

/-- A write of SKEWSET_CLEAR: 1 drops every stored set but those of alloys in force (R126). -/
def skewsetClear (s : State) (p : Nat) (v : Slot) : Acc :=
  stewardOnly s p fun s => need (ObjTy.u8.fits v) .range s fun s =>
    .ok (if v = 1 then { s with skewSets := s.skewSets.filter fun q => s.inputs.any fun x => x.members == q.1 } else s)

/-- SKEWSET_CLEAR (R126). -/
def execSkewsetClear (p : Nat) (v : Slot) (s : State) : Host.Outcome State Fault Refusal :=
  done (access s p O.SKEWSET_CLEAR fun s => skewsetClear s p v)

end Sys2Proof.Machine
end

