-- ==== Sys2Proof/Machine/Time.lean ====
section
/-!
DEFINITION. The device time: counter wraps, discontinuities and the epoch mapping (R34, R35, R50 to R55).
-/
namespace Sys2Proof.Machine

/-- The instant of a discontinuity is kept for the records that follow it; an input that delivers samples flags its
next line (R50). -/
def markDisc (s : State) (n : Nat) : State :=
  let x := s.input n
  let flows := decide (x.ring = .writing) || s.busyInput n
  s.setInput n { x with discNext := x.discNext || flows, discAt := s.cycle * 480 :: x.discAt }

/-- A device-wide discontinuity at base period `t`: its count, instant, cause, bits and event (R50, R54, R56, R57, R339);
its emergency where no tarnish bit carries it (R473). -/
def devDisc (s : State) (cause : Nat) (alone : Bool) (t : Nat := s.now) : State :=
  let s := s.countSat 0 O.TB_DISC_COUNT 32
  let s := (s.putTm 0 O.TB_DISC_TM t).put O.TB_DISC_CAUSE (ofN cause)
  let s := s.flag 0 O.TB_STATUS 3
  let s := if bit (s.get O.TB_STATUS) 1 then s.flag 0 O.TB_STATUS 2 else s
  let s := if alone then emcy s 0xFF31 0xFF 0xFF cause else s
  pulse s 7 3 0

/-- A change of the selected reference: every stream is flagged, the counter keeps its value (R39, R50). -/
def refChanged (s : State) (alone : Bool) : State :=
  devDisc ((List.range s.D).foldl markDisc s) 2 alone

/-- TIME_COUNTER_WRAP (R35): the counter passes from 2^55 − 1 to 0 and the wrap count rises. -/
def execTimeCounterWrap (s : State) : Host.Outcome State Fault Refusal :=
  done (s.runTo ((s.now / 2 ^ 55 + 1) * 2 ^ 55))

/-- A write of EPOCH_SOURCE: a change discards every pending shadow of the mapping (R51, R52). -/
def epochSourceWrite (s : State) (p : Nat) (v : Slot) : Acc :=
  stewardOnly s p fun s => need (decide (v.toNat ≤ 2)) .range s fun s =>
    let s := if s.get O.EPOCH_SOURCE = v then s
      else { s with shadows := s.shadows.filter fun h => !epochKeys.contains h.key }
    .ok (s.put O.EPOCH_SOURCE v)

/-- EPOCH_SOURCE_WRITE (R51, R52). -/
def execEpochSourceWrite (p : Nat) (v : Slot) (s : State) : Host.Outcome State Fault Refusal :=
  done (access s p O.EPOCH_SOURCE fun s => epochSourceWrite s p v)

/-- Whether the field-bus port takes SYNC, TIME and EMCY services (R462). -/
def State.canServes (s : State) : Bool :=
  (s.can.nmt == .preOperational || s.can.nmt == .operational) && !s.can.busOff && s.awake && !s.power.perst

/-- TIME_FRAME (R53, R471): days since 1984-01-01 and milliseconds denote the instant of the frame's end. -/
def execTimeFrame (cobId days ms : Nat) (s : State) : Host.Outcome State Fault Refusal :=
  let id := s.get O.COB_ID_TIME
  done (if s.canServes ∧ bit id 31 ∧ fld id 0 29 = cobId ∧ s.num O.EPOCH_SOURCE = 2 then
    let ns := ((days + 5113) * 86400000 + ms) * 1000000
    let s := (s.put O.EPOCH_TM (tmOf s.now)).put O.EPOCH_WRAP (ofN s.wraps.toNat)
    epochSet (s.put O.EPOCH_NS (ofN ns))
  else s)

end Sys2Proof.Machine
end

