-- ==== Sys2Proof/Machine/Check.lean ====
section
/-!
DEFINITION. The value checks of R420 step 6: what a value written to an object must be beside the slot form of its
type (R407) and the range of its row, object by object as its own chapter states it.
-/
namespace Sys2Proof.Machine

/-- A value within 0 or 48 to 2^40 − 1. -/
def zeroOrSpan (n : Nat) : Bool := n == 0 || (decide (48 ≤ n) && decide (n < 2 ^ 40))

/-- Whether units `b` to `b + n − 1` of 256 MiB lie in one half of a fitted die or one view of a fitted input (R444). -/
def State.unitsInRegion (s : State) (b n : Nat) : Bool :=
  (decide (b < s.D * 48) && decide (b % 48 + n ≤ 48)) ||
    (decide (0x800 ≤ b) && decide (b < 0x800 + s.D * 512) && decide ((b - 0x800) % 512 + n ≤ 512))

/-- An extent's own check (R444, R457). -/
def State.extentOk (s : State) (v : Slot) : Bool :=
  !bit v 63 || (decide (fld v 24 16 ≠ 0) && s.unitsInRegion (fld v 0 24) (fld v 24 16))

/-- Signed value of a field of `w` bits. -/
def sfld (v : Slot) (lo w : Nat) : Int :=
  let n := fld v lo w
  if n < 2 ^ (w - 1) then (n : Int) else (n : Int) - 2 ^ w

/-- A wake edge's own check (R510, R514). -/
def wakeEdgeOk (v : Slot) : Bool :=
  let l := sfld v 0 16
  decide (-1000 ≤ l ∧ l ≤ 1000) && decide (2 ≤ fld v 16 8 ∧ fld v 16 8 ≤ 100) && fld v 24 2 != 3

/-- Whether a PDO transmission type is one of R477 and R485. -/
def pdoTypeOk (n : Nat) : Bool := decide (n ≤ 240) || n == 254 || n == 255

/-- The range checks that a row's limits do not hold: object `i`:`sub`, instance digit in place. HASH_BANK_k aborts with a
reserved bit set, as R310 says of it, over the general R7 (DESIGN CHOICE, log 85). -/
def State.ownRange (s : State) (i sub : Nat) (v : Slot) : Bool :=
  let n := v.toNat
  let k := normIdx i * 256 + sub
  if k = O.TRIG_EVAL_PREF then n == 255 || decide (n < 8 * s.D)
  else if k = O.TRIG_AUTO ∨ k = O.STOP_TIME then zeroOrSpan n
  else if k = O.SEG_TABLE_SIZE then (List.range 25).any fun e => n == 2 ^ e
  else if k = O.DEC_RING_MIB ∨ k = O.RING_MIB_n ∨ k = O.PL_BLOCK_BYTES ∨ k = O.PL_OUT_LIMIT ∨ k = O.FW_PKG_BYTES then
    n % 64 == 0
  else if k = O.MEM_IDLE_SR_US then n == 0 || (decide (10 ≤ n) && decide (n ≤ 1000000))
  else if k = O.DP_TARGET then decide (n ≤ 3)
  else if k = O.CDP_TARGET then n == 0 || (decide (4 ≤ n) && decide (n ≤ 7))
  else if k = O.DP_FORMAT then n == 0
  else if k = O.CDP_FORMAT then decide (n ≤ 1)
  else if k = O.MV_SELECT then decide (n < s.channels)
  else if k = O.MV_CH_CONTEXT then decide (n < 4096) || n == 0xFFFF
  else if k = O.PL_SELECT then decide (n ≤ s.D)
  else if k = O.RBUF_BYTES then n % 4096 == 0
  else if k = O.RASTER_COMMIT_LINE then decide (n + s.linesAhead + 1 ≤ s.timing.vt)
  else if k = O.RASTER_MATCH_LINE then decide (n < s.timing.vt)
  else if k = O.PAT_STATE then
    (List.range 8).all fun m => decide (fld v (2 * m) 2 < 3) && (decide (m < s.D) || fld v (2 * m) 2 == 0)
  else if k = O.CAL_PACE_CONTEXT then decide (n < 4096) || n == 0xFFFF
  else if normIdx i = 0x2810 ∧ sub ≠ 0 then s.extentOk v
  else if k = O.COB_ID_SYNC ∨ k = O.COB_ID_TIME then !bit v 30
  else if k = O.ERR_COMM then decide (n ≤ 2)
  else if k = O.RPDO_TYPE ∨ k = O.TPDO_TYPE then pdoTypeOk n
  else if k = O.SYNC_START then decide (n ≤ 240)
  else if k = O.FB_DATA_RATE then [1, 2, 4, 5].contains n
  else if k = O.REF_SELECT then decide (n ≤ 3)
  else if k = O.REF_OUT_FREQ then n == 0 || n == 10 || n == 100
  else if i = 0x2402 ∧ 1 ≤ sub ∧ sub ≤ 4 then decide (n < 0x4000)
  else if i = 0x2102 then wakeEdgeOk v
  else if i = 0x2320 then decide (fld v 0 6 ≤ 47) && fld v 0 6 != 43
  else if i = 0x2331 then
    decide ((monWindow (sub - 1)).1 ≤ v.toInt) && decide (v.toInt < (s.get (0x233200 + sub)).toInt)
  else if i = 0x2332 then
    decide (v.toInt ≤ (monWindow (sub - 1)).2) && decide ((s.get (0x233100 + sub)).toInt < v.toInt)
  else true

/-- The value check of a write: slot form, row limits, and the object's own range (R407, R420). -/
def State.valueOk (s : State) (r : ObjRow) (i sub : Nat) (v : Slot) : Bool :=
  r.ty.fits v &&
    (match r.rng with
      | some (lo, hi) => decide (lo ≤ r.ty.value v) && decide (r.ty.value v ≤ hi)
      | none => true) &&
    s.ownRange i sub v

end Sys2Proof.Machine
end

