-- ==== Sys2Proof/Machine/Dict.lean ====
section
/-!
DEFINITION. Shadows, commits and hand-overs, and the stored set in flash (R422, R423, R425, R426).
-/
namespace Sys2Proof.Machine

/-- A write of a shadow by owner code `o`: it replaces the shadow and moves it into that owner's pending set (R422). -/
def putShadow (s : State) (o key : Nat) (v : Slot) (bytes : List Byte := []) : State :=
  { s with shadows := (s.shadows.filter fun h => h.key != key) ++
      [{ key, value := v, owner := o, written := s.cycle, bytes }] }

/-- A commit by path `p`, which acts for its owner code (R423). -/
def commitPath (s : State) (p : Nat) : State :=
  let o := ownerOf p
  match s.commits.find? fun (c : Commit) => c.owner == o with
  | some _ =>
    let join (c : Commit) : Commit := if c.owner = o then { c with paths := p :: c.paths.filter fun q => q != p } else c
    let s := { s with commits := s.commits.map join }
    s.setObj p O.PATH_COMMIT_GEN 0xFFFFFFFF
  | none =>
    if s.shadows.any fun h => h.owner == o && !isLayerKey h.key then
      { s.setObj p O.PATH_COMMIT_GEN 0xFFFFFFFF with
        commits := s.commits ++ [{ owner := o, due := s.cycle + 192, paths := [p] }] }
    else s.setObj p O.PATH_COMMIT_GEN (s.get O.DICT_GEN)

/-- A write of DICT_COMMIT: 1 commits, other values are ignored (R423). -/
def dictCommit (s : State) (p : Nat) (v : Slot) : Acc :=
  need (ObjTy.u8.fits v) .range s fun s => .ok (if v = 1 then commitPath s p else s)

/-- DICT_COMMIT (R423). -/
def execDictCommit (p : Nat) (v : Slot) (s : State) : Host.Outcome State Fault Refusal :=
  done (access s p O.DICT_COMMIT fun s => dictCommit s p v)

/-- DICT_HANDOVER (R423): core cycle H of the earliest commit that waits. -/
def execDictHandover (s : State) : Host.Outcome State Fault Refusal :=
  done (match (s.commits.map Commit.due).min? with
    | some hc => handOver s hc
    | none => s)

/-! ## The stored set (R425, R426) -/

/-- Whether an object belongs to the stored class of R425. -/
def isStored (key : Nat) : Bool :=
  let i := keyIdx key
  decide (key < 2 ^ 24) &&
    (decide (0x2100 ≤ i ∧ i < 0x2700) || decide (0x2800 ≤ i ∧ i < 0x2C00) || decide (0x3000 ≤ i ∧ i < 0x3800)
      || decide (0x5100 ≤ i ∧ i < 0x5200)) &&
    !epochKeys.contains key &&
    (match findRow i (key % 256) with
      | some r => r.acc == .rw && (r.own == .steward || r.own == .claimant) && r.keep == .reset
      | none => false)

/-- The active values of the stored class: those that differ from their defaults. -/
def State.storedNow (s : State) : List (Nat × Slot) := s.objs.filter fun o => isStored o.1

/-- A store begins: its copy is taken in the core cycle of the write, and is written over the older of the two in flash (R426). -/
def beginStore (s : State) : State :=
  { s.flag 0 O.DEVICE_STATUS 6 with storeCopy := some s.storedNow, storeAt := s.cycle, storedOld := none }

/-- Whether a store runs (R428). -/
def State.storeBusy (s : State) : Bool := bit (s.get O.DEVICE_STATUS) 6

/-- A write of DICT_STORE (R426). -/
def dictStore (s : State) (p : Nat) (v : Slot) : Acc :=
  stewardOnly s p fun s => need (v == 0x65766173) .range s fun s =>
    need (!s.storeBusy) .presentState s fun s => .ok (beginStore s)

/-- DICT_STORE (R426). -/
def execDictStore (p : Nat) (v : Slot) (s : State) : Host.Outcome State Fault Refusal :=
  done (access s p O.DICT_STORE fun s => dictStore s p v)

/-- DICT_STORE_DONE (R426): the store that runs has been written, or it has failed. -/
def execDictStoreDone (ok : Bool) (s : State) : Host.Outcome State Fault Refusal :=
  done (match s.storeCopy with
    | some c =>
      let s := { s.unflag 0 O.DEVICE_STATUS 6 with storeCopy := none }
      if ok then
        { (s.countSat 0 O.DICT_STORE_COUNT 32).putTm 0 O.DICT_STORE_TM s.storeAt with
          stored := some c, storedOld := s.stored, storeMarked := false }
      else s.flag 0 O.DEVICE_STATUS 3
    | none => s)

/-- A write of DICT_RESTORE (R426). -/
def dictRestore (s : State) (p : Nat) (v : Slot) : Acc :=
  stewardOnly s p fun s => need (v == 0x64616F6C) .range s fun s =>
    need (!s.storeBusy) .presentState s fun s => .ok { s with storeMarked := true }

/-- DICT_RESTORE (R426). -/
def execDictRestore (p : Nat) (v : Slot) (s : State) : Host.Outcome State Fault Refusal :=
  done (access s p O.DICT_RESTORE fun s => dictRestore s p v)

end Sys2Proof.Machine
end

