-- ==== Sys2Proof/Machine/Cxl.lean ====
section
/-!
DEFINITION. The CXL port and sharing (chapter 14): CXL.mem (R443, R445), the fabric manager (R435 to R437), the
memory-device mailbox and DOE (R430, R440, R441), link events (R431, R451), taking an LD away (R449, R450), and
claims and subscriptions (R446).
-/
namespace Sys2Proof.Machine

/-! ## Paths (R409, R449, R450) -/

/-- Whether an object is held once per access path (R409). -/
def isPathObj (k : Nat) : Bool :=
  [0x2003, 0x2500, 0x2710].contains (k / 256) ||
    [O.CTX_SELECT, O.TM_WRAP, O.MV_SELECT, O.EV_SELECT, O.PL_SELECT, O.RASTER_ERR, O.RASTER_COMMIT_FRAME, O.SEG_SELECT,
      O.ASSAY_SELECT].contains k

/-- Path `p` takes the defaults of R409: its objects, its device data port with what it staged (R319), its snapshot
and stage, and a running mailbox request. -/
def pathDefaults (s : State) (p : Nat) : State :=
  { s with
    objs := s.objs.filter fun o => !(o.1 / 2 ^ 24 == p && isPathObj (o.1 % 2 ^ 24))
    paths := kvDel s.paths p
    ports := kvDel s.ports p
    mailboxes := if 16 ≤ p ∧ p < 32 then kvDel s.mailboxes (p - 16) else s.mailboxes }

/-- Both paths of LD `l` take their defaults. -/
def ldPaths (s : State) (l : Nat) : State := pathDefaults (pathDefaults s l) (16 + l)

/-- The four host windows of LD `l` take size 0 (R324). -/
def closeWindows (s : State) (l : Nat) : State :=
  (List.range 4).foldl (fun s w => s.setObj l (O.HOSTWIN_BASE_0 + 2 * w + 1) 0) s

/-- Shadows of owner code `o` that are not yet committed are discarded (R450, R453, R465). -/
def dropShadows (s : State) (o : Nat) : State :=
  let waits := s.commits.any fun c => c.owner == o
  let keep (h : Shadow) : Bool :=
    h.owner != o || (if isLayerKey h.key then (s.layer (keyIdx h.key % 8)).pending.isSome else waits)
  { s with shadows := s.shadows.filter keep }

/-- Contexts of owner code `o` that are Armed or Held are Suspended with cause 1; one that is Defined or Suspended stays as it
is, also while its arm is not yet in force (R450, R465, R554; log 69). -/
def suspendOwner (s : State) (o : Nat) : State :=
  (s.reachable.filter fun c => s.ctxOwner c == o && (s.ctx c).any fun x => x.st == .armed || x.st == .held).foldl
    (fun s c => suspendCtx s c 1) s

/-- Running channels of owner code `o` go Parked once their burst in flight completes (R450, R465). -/
def parkOwner (s : State) (o : Nat) : State :=
  ((s.chans.filter fun c => c.2.owner == o && c.2.st == .running).map Prod.fst).foldl (fun s x =>
    match s.chan x with
    | some c => chanTo s x c .parked
    | none => s) s

/-- CXL.mem reads that reached the hub in this core cycle are treated as received after a disable trigger of it: they leave their
queues and return all ones with the poison indication (R450, R453). -/
def turnAwayReads (s : State) (l : Nat) : State :=
  let x := s.ld l
  let late (q : Nat × Option Nat × Option (Nat × MemReq)) : Bool := match q.2.2 with
    | some (_, r) => r.arrived / 48 * 48 == s.cycle
    | none => false
  let all := x.reads.zip (x.readsAddr.zip x.readsReq)
  let kept := all.filter fun q => !late q
  let s := s.setLd l { x with
    reads := kept.map Prod.fst, readsAddr := kept.map (·.2.1), readsReq := kept.map (·.2.2) }
  (all.filter late).foldl (fun (s : State) (q : Nat × Option Nat × Option (Nat × MemReq)) =>
    let s := match q.2.2 with
      | some (d, r) => s.setHalf d { s.half d with queue := (s.half d).queue.erase r }
      | none => s
    { s with sent := .completion l (List.replicate 64 0xFF#8) true :: s.sent }) s

/-- A disable trigger reaches LD `l` (R450). -/
def ldDisable (s : State) (l : Nat) : State :=
  if (s.ld l).st = .enabled then
    let s := turnAwayReads s l
    parkOwner (suspendOwner (dropShadows (s.setLd l { s.ld l with st := .disabling }) l) l) l
  else s

/-- Whether a suspension of owner code `o` still waits for its work in flight (R211, R450). -/
def State.ownerSuspends (s : State) (o : Nat) : Bool :=
  s.ctxs.any fun c => c.2.owner == o && c.2.busy.any fun b => b.1 == .suspended

/-- The state an LD has by its allocation alone (R434). -/
def restSt (alloc : Nat) : LdSt := if alloc = 0 then .unallocated else .allocated

/-- LD_DISABLE_DONE (R450): the last read, context and burst of LD `l` has ended. -/
def execLdDisableDone (l : Nat) (s : State) : Host.Outcome State Fault Refusal :=
  let x := s.ld l
  let flying := s.chans.any fun c => c.2.owner == l && c.2.inFlight
  done (if l < 16 ∧ x.st = .disabling ∧ x.reads = [] ∧ flying = false ∧ s.ownerSuspends l = false then
    let s := s.countSat 0 (O.LD_DISABLES_l + l) 32
    let s := s.setLd l { x with st := restSt x.alloc, mse := false, bme := false, decoder := none }
    closeWindows (ldPaths s l) l
  else s)

/-- Messages whose pending bits stand are sent once their vectors are unmasked and the LD may send (R439). -/
def sendPending (s : State) (l : Nat) : State :=
  let x := s.ld l
  if x.st = .enabled ∧ x.bme then
    let due := sortN (x.pba.filter fun v => !x.masked.contains v)
    due.foldl (fun (s : State) v => { s with sent := .msix l v :: s.sent })
      (s.setLd l { x with pba := x.pba.filter fun v => x.masked.contains v })
  else s

/-- LD_ENABLE (R434, R438, R439): the host sets Memory Space Enable or Bus Master Enable of an Allocated LD, or changes them, and
with them which vectors of its MSI-X table are masked. -/
def execLdEnable (l : Nat) (mse : Bool) (rest : LdControls) (s : State) : Host.Outcome State Fault Refusal :=
  let bme := rest.bme
  let x := s.ld l
  let masked := rest.masks.filter fun v => decide (v < 64)
  done (if l < 16 ∧ bit (s.get O.CXL_STATUS) 0 ∧ (s.num O.CXL_MODE_ACTIVE = 2 ∨ l = 0) then
    if x.st = .allocated ∧ (mse || bme) then sendPending (s.setLd l { x with st := .enabled, mse, bme, masked }) l
    else if x.st = .enabled then sendPending (s.setLd l { x with mse, bme, masked }) l
    else s
  else s)

/-- FUNCTION_LEVEL_RESET (R449). -/
def execFunctionLevelReset (l : Nat) (s : State) : Host.Outcome State Fault Refusal :=
  done (if l < 16 then closeWindows (ldPaths s l) l else s)

/-- LD_RESET_TRIGGER (R450, R452): a CXL Reset of LD `reset.ld`, or a conventional reset on the link. The latter reaches LD 0 in SLD mode;
in MLD mode a hot reset of the physical port reaches every LD, and one of the vPPB bound to LD `reset.ld` reaches that LD. -/
def execLdResetTrigger (reset : LinkReset) (s : State) : Host.Outcome State Fault Refusal :=
  done (if s.num O.CXL_MODE_ACTIVE = 1 then ldDisable s 0
    else if reset.port then (List.range 16).foldl ldDisable s
    else if reset.ld < 16 then ldDisable s reset.ld
    else s)

/-! ## CXL.mem (R443 to R445) -/

/-- The capture address that an HPA of LD `l` reaches, through its committed decoder and its extents, and whether writes are
admitted; none where the decoder does not map it or no extent reaches its DPA (R443). -/
def State.hpaMap (s : State) (l hpa : Nat) : Option (Nat × Bool) :=
  match (s.ld l).decoder with
  | some (base, size) => if base ≤ hpa ∧ hpa < base + size then s.dpaMap l (hpa - base) else none
  | none => none

/-- The queue that a read of capture address `a` joins (R287, R288): the die, and the request. -/
def State.readReq (s : State) (l : Nat) (a : Option Nat) : Option (Nat × MemReq) :=
  match a.bind s.resolve with
  | some (c, _) =>
    let d := c / halfBytes
    some (d, { pc := unitPc (s.physUnit d (c % halfBytes / 64)), arrived := s.now, ld := l })
  | none => none

/-- CXLMEM_READ (R443, R444, R450): the read of the unit at an HPA is taken under the decoder and the extents in force as it reaches
the hub and joins the queue of its pseudo-channel; while the LD is Disabling it returns all ones with the poison indication. -/
def execCxlmemRead (l hpa : Nat) (s : State) : Host.Outcome State Fault Refusal :=
  let x := s.ld l
  let a := hpa / 64 * 64
  done (if l < 16 then
    match x.st with
    | .enabled =>
      let c := (s.hpaMap l a).map Prod.fst
      let q := s.readReq l c
      let s := s.setLd l { x with reads := x.reads ++ [a], readsAddr := x.readsAddr ++ [c], readsReq := x.readsReq ++ [q] }
      match q with
      | some (d, r) => s.setHalf d { s.half d with queue := (s.half d).queue ++ [r] }
      | none => s
    | .disabling => { s with sent := .completion l (List.replicate 64 0xFF#8) true :: s.sent }
    | _ => s
  else s)

/-- A read that an extent reaches: the half's unit is read and checked (R283, R297, R298, R445), on the spare reserve where a
failed replay sent it there (R296). -/
def readUnit (s : State) (l a : Nat) (spare : Bool) (e : Ecc) : State :=
  match s.resolve a with
  | none =>
    let s := badAccess s
    { s with sent := .completion l (List.replicate 64 0xFF#8) true :: s.sent }
  | some (c, _) =>
    let d := c / halfBytes
    let bs := if spare then Memory.readN s.mem (capAddr d ((s.half d).writeUnit (c % halfBytes / 64) * 64)) 64
      else s.peekN c 64
    let s := wakeUnit s d (c % halfBytes / 64)
    let s := if s.served d then eccRead s d (c % halfBytes / 64) e else s
    let bad := s.poisoned c || e == .failed
    let s := if bad then s.countSat 0 (O.LD_POISON_READS_l + l) 32 else s
    { s with sent := .completion l bs bad :: s.sent }

/-- CXLMEM_READ_COMPLETE (R288, R295, R298, R445): the oldest read of LD `l` completes, where it is the next its pseudo-channel
serves. -/
def execCxlmemReadComplete (l : Nat) (e : Ecc) (s : State) : Host.Outcome State Fault Refusal :=
  let x := s.ld l
  done (match x.reads, x.readsAddr, x.readsReq with
    | _ :: rs, a :: as, q :: qs =>
      if (match q with | some (d, r) => s.bulkTurn d r | none => true) then
        let s := s.setLd l { x with reads := rs, readsAddr := as, readsReq := qs }
        let s := match q with
          | some (d, r) => takeReq s d r
          | none => s
        match a with
        | some a => readUnit s l a (q.any fun q => q.2.onSpare) e
        | none =>
          let s := s.countSat 0 (O.LD_POISON_READS_l + l) 32
          { s with sent := .completion l (List.replicate 64 0xFF#8) true :: s.sent }
      else s
    | _, _, _ => s)

/-- Bytes of a partial write over those a unit holds. -/
def mergeBytes : List Byte → List Bool → List Byte → List Byte
  | b :: bs, m :: ms, w :: ws => (if m then w else b) :: mergeBytes bs ms ws
  | bs, _, _ => bs

/-- A write discarded by R445. -/
def dropWrite (s : State) (l : Nat) : State := s.countSat 0 (O.LD_WRITE_DROPS_l + l) 32

/-- CXLMEM_WRITE (R445): 64 bytes under a byte mask; a partial write reads, with the outcome of its check, merges and writes
the whole unit. -/
def execCxlmemWrite (l hpa : Nat) (mask : List Bool) (line : LineWrite) (s : State) :
    Host.Outcome State Fault Refusal :=
  let data := line.data
  let a := hpa / 64 * 64
  done (if l < 16 ∧ (s.ld l).st = .enabled ∧ data.length = 64 ∧ mask.length = 64 then
    match s.hpaMap l a with
    | some (c, true) =>
      match s.resolve c with
      | some (c, false) =>
        if mask.all id then s.storeBulk c data
        else
          let (bad, s) := readUnits s [c] [line.check]
          if s.poisoned c ∨ bad ≠ [] then dropWrite s l
          else s.storeBulk c (mergeBytes (s.peekN c 64) mask data)
      | _ => badAccess s
    | _ => dropWrite s l
  else s)

/-- HDM_DECODER_COMMIT (R443, R456): the host commits the decoder of LD `l`. -/
def execHdmDecoderCommit (l base size : Nat) (s : State) : Host.Outcome State Fault Refusal :=
  let x := s.ld l
  done (if l < 16 ∧ (x.st = .allocated ∨ x.st = .enabled) ∧ bit (s.get O.CXL_STATUS) 0 then
    s.setLd l { x with decoder := some (base, size) }
  else s)

/-! ## The fabric manager (R435 to R437) -/

/-- Capacity in 256 MiB units (R8, R436). -/
def State.capacityUnits (s : State) : Nat := 48 * s.D

/-- Answers the fabric manager: return code 0 Success, 2 Invalid Input, 3 Unsupported (log 13), with the data returned. -/
def fmAnswer (s : State) (code : Nat) (data : List Nat) : State := { s with sent := .fm code data :: s.sent }

/-- Opcodes of the fabric-manager commands that are answered (R435, log 13). -/
def fmOpcodes : List Nat := [0x0001, 0x5400, 0x5401, 0x5402, 0xC000, 0xC001, 0xC002]

/-- FM_IDENTIFY (R435): the standard Identify: PCIe vendor, device and subsystem identifiers, serial number and largest message,
which no rule states (log 13). -/
def execFmIdentify (s : State) : Host.Outcome State Fault Refusal :=
  done (if s.awake then fmAnswer s 0 ((List.range 6).map fun k => (Config.pciId k).toNat) else s)

/-- LDs of the mode in force: LD 0 alone in SLD (R433). -/
def State.ldCount (s : State) : Nat := if s.num O.CXL_MODE_ACTIVE = 1 then 1 else 16

/-- FM_GET_LD_INFO (R435): memory size in bytes, LD count, and no QoS telemetry (R430). -/
def execFmGetLdInfo (s : State) : Host.Outcome State Fault Refusal :=
  done (if s.awake then fmAnswer s 0 [s.capacityUnits * 2 ^ 28, s.ldCount, 0] else s)

/-- FM_GET_LD_ALLOCATIONS (R435): number of LDs, granularity code 0 for 256 MiB, the first LD and the length of the list, then the
two range multipliers of each LD, from LD 0 on (log 13). -/
def execFmGetLdAllocations (s : State) : Host.Outcome State Fault Refusal :=
  let list := s.lds.take s.ldCount
  done (if s.awake then fmAnswer s 0 ([s.ldCount, 0, 0, list.length] ++ list.flatMap fun x => [x.alloc, 0]) else s)

/-- Sets the allocation of one LD (R434, R436). -/
def allocLd (s : State) (lu : Nat × Nat) : State :=
  let x := s.ld lu.1
  let s := s.setLd lu.1 { x with
    alloc := lu.2
    st := match x.st with
      | .unallocated | .allocated => restSt lu.2
      | st => st }
  let s := if lu.2 = 0 then ldDisable s lu.1 else s
  clipLd s lu.1

/-- The allocations that a Set LD Allocations asks for. -/
def State.allocsAfter (s : State) (first : Nat) (units : List Nat) : List Nat :=
  (List.range 16).map fun l => if first ≤ l ∧ l < first + units.length then units.getD (l - first) 0 else (s.ld l).alloc

/-- FM_SET_LD_ALLOCATIONS (R436); in SLD mode LD 0 is the only LD, and a list that names another is invalid (DEDUCED, log 76). -/
def execFmSetLdAllocations (first : Nat) (units : List Nat) (s : State) : Host.Outcome State Fault Refusal :=
  done (if s.awake then
    let all := s.allocsAfter first units
    if s.ldCount < first + units.length ∨ s.capacityUnits < all.foldl (· + ·) 0 then fmAnswer s 2 []
    else fmAnswer (((List.range units.length).map fun i => (first + i, units.getD i 0)).foldl allocLd s) 0 []
  else s)

/-- FM_GET_STEWARD (R435, opcode 0xC000). -/
def execFmGetSteward (s : State) : Host.Outcome State Fault Refusal :=
  done (if s.awake then fmAnswer s 0 [s.num O.STEWARD_NAMED] else s)

/-- FM_SET_STEWARD (R435, R437, opcode 0xC001): an LD, or 0xFF for none. -/
def execFmSetSteward (b : Byte) (s : State) : Host.Outcome State Fault Refusal :=
  done (if s.awake then
    if b.toNat < 16 ∨ b = 0xFF#8 then fmAnswer (s.put O.STEWARD_NAMED (ofN b.toNat)) 0 [] else fmAnswer s 2 []
  else s)

/-- FM_DISABLE_LD (R435, opcode 0xC002): an LD number, then 0; success and nothing for an LD that is not Enabled. Other bytes
complete with Invalid Input (log 13), and a request whose opcode R435 does not list completes with Unsupported. -/
def execFmDisableLd (request : FmRequest) (s : State) : Host.Outcome State Fault Refusal :=
  done (if s.awake then
    if !fmOpcodes.contains request.opcode then fmAnswer s 3 []
    else if request.ld < 16 ∧ request.second = 0 then fmAnswer (ldDisable s request.ld) 0 []
    else fmAnswer s 2 []
  else s)

/-! ## The memory-device mailbox and DOE (R430, R440, R441) -/

/-- Whether LD `l` answers requests of its function: the link carries CXL and the LD is bound. -/
def State.ldAnswers (s : State) (l : Nat) : Bool :=
  decide (l < 16) && bit (s.get O.CXL_STATUS) 0 && ((s.ld l).st == .allocated || (s.ld l).st == .enabled)

/-- Answers a memory-device command with success. -/
def mbAnswer (s : State) (l opcode : Nat) (data : List Nat) : State :=
  if s.ldAnswers l then { s with sent := .mailboxRsp l opcode 0 data :: s.sent } else s

/-- Opcodes of the memory-device commands of R430, as CXL 2.0 numbers them (log 13). -/
def mbOpcodes : List Nat := [0x0100, 0x0101, 0x0400, 0x0401, 0x4000, 0x4200, 0x4300]

/-- IDENTIFY_MEMORY_DEVICE (R430): the LD's capacity, all of it volatile. A command with an opcode that is not supported is
answered with return code 3, Unsupported. -/
def execIdentifyMemoryDevice (request : MailboxRequest) (s : State) : Host.Outcome State Fault Refusal :=
  let l := request.ld
  done (if mbOpcodes.contains request.opcode then mbAnswer s l 0x4000 [(s.ld l).alloc * 2 ^ 28, 0]
    else if s.ldAnswers l then { s with sent := .mailboxRsp l request.opcode 3 [] :: s.sent }
    else s)

/-- Temperature of stack `st` in degrees at the instant in force: a free value of its sensor (R311, log 3). -/
def State.stackTemp (s : State) (st : Nat) : Nat := (Config.sensor (256 + st) s.now).toNat % 256

/-- Stacks of the variant (R309). -/
def State.stacks_ (s : State) : Nat := s.D / 2

/-- GET_HEALTH_INFO (R440): the hottest stack temperature and the count of poisoned units. -/
def execGetHealthInfo (l : Nat) (s : State) : Host.Outcome State Fault Refusal :=
  done (mbAnswer s l 0x4200
    [((List.range s.stacks_).map s.stackTemp).foldl max 0, ((s.halves.map fun h => h.poison.length).foldl (· + ·) 0)])

/-- Capture addresses of the listed units, die by die (R298, R309). -/
def State.poisonAddrs (s : State) : List Nat :=
  (List.range s.D).flatMap fun d => (s.half d).poison.map fun u => capAddr d (u * 64)

/-- GET_POISON_LIST (R440): the listed units as DPAs of the LD. -/
def execGetPoisonList (l : Nat) (s : State) : Host.Outcome State Fault Refusal :=
  done (mbAnswer s l 0x4300 (s.poisonAddrs.flatMap (s.dpas l)))

/-- GET_EVENT_RECORDS (R440): handle, kind and address of each. -/
def execGetEventRecords (l : Nat) (s : State) : Host.Outcome State Fault Refusal :=
  done (mbAnswer s l 0x0100 ((s.ld l).events.flatMap fun e => [e.1, e.2.1, e.2.2]))

/-- CLEAR_EVENT_RECORDS (R430): the records named by handle are removed. -/
def execClearEventRecords (l : Nat) (handles : List Nat) (s : State) : Host.Outcome State Fault Refusal :=
  done (if s.ldAnswers l then
    mbAnswer (s.setLd l { s.ld l with events := (s.ld l).events.filter fun e => !handles.contains e.1 }) l 0x0101 []
  else s)

/-- GET_SUPPORTED_LOGS (R430): one log, the command effects log. -/
def execGetSupportedLogs (l : Nat) (s : State) : Host.Outcome State Fault Refusal :=
  done (mbAnswer s l 0x0400 [1])

/-- GET_LOG (R430): the opcodes of the command effects log. -/
def execGetLog (l : Nat) (s : State) : Host.Outcome State Fault Refusal :=
  done (mbAnswer s l 0x0401 mbOpcodes)

/-- DOE_DISCOVERY (R430): index 0 DOE discovery, 1 CDAT table access, 2 CMA/SPDM. -/
def execDoeDiscovery (l index : Nat) (s : State) : Host.Outcome State Fault Refusal :=
  done (if s.ldAnswers l ∧ index < 3 then
    { s with sent := .doe l [index, if index < 2 then index + 1 else 0] :: s.sent } else s)

/-- CDAT_TABLE_ACCESS (R441): entry 0 the DSMAS of the whole DPA space: base, length, and the marks volatile and specific-purpose;
1 to 4 read and write latency in ns, read and write bandwidth in MB/s. -/
def execCdatTableAccess (l entry : Nat) (s : State) : Host.Outcome State Fault Refusal :=
  let body : Option (List Nat) := match entry with
    | 0 => some [0, (s.ld l).alloc * 2 ^ 28, 1, 1]
    | 1 => some [1200]
    | 2 => some [1200]
    | 3 => some [30000]
    | 4 => some [30000]
    | _ => none
  done (if s.ldAnswers l then
    match body with
    | some b => { s with sent := .doe l (entry :: b) :: s.sent }
    | none => s
  else s)

/-! ## Link events (R431, R433, R451) -/

/-- WAKE# is let go (R500). -/
def releaseWake (s : State) : State :=
  if s.power.wakePin then
    { s with power := { s.power with wakePin := false }, sent := .wakePin false :: s.sent }
  else s

/-- Whether the port trains to a width and a rate: x8 to x1, at 32, 16 or 8 GT/s or below (R430, R431). -/
def trainsTo (width gts : Nat) : Bool :=
  [1, 2, 4, 8].contains width && (decide (gts < 8) || [8, 16, 32].contains gts)

/-- CXL_LINK_UP (R430, R431, R433): the link has trained to `width` lanes at `gts` GT/s. -/
def execCxlLinkUp (width gts : Nat) (sris mldSwitch : Bool) (s : State) : Host.Outcome State Fault Refusal :=
  done (if s.awake ∧ s.power.perst = false ∧ bit (s.get O.CXL_STATUS) 0 = false ∧ trainsTo width gts then
    let s := (s.put O.CXL_LINK_WIDTH (ofN width)).put O.CXL_CLOCKING (ofN (b2n sris))
    let s := if width < 8 ∨ gts < 32 then s.flag 0 O.CXL_STATUS 2 else s
    if gts < 8 then ((s.put O.CXL_LINK_GTS 0).put O.CXL_MODE_ACTIVE 0).flag 0 O.CXL_STATUS 3
    else
      let s := (s.put O.CXL_LINK_GTS (ofN gts)).flag 0 O.CXL_STATUS 0
      let mld := mldSwitch && s.modeCfg == 0
      let s := releaseWake (s.put O.CXL_MODE_ACTIVE (if mld then 2 else 1))
      -- LD 0 is the only LD in SLD mode: no other keeps an allocation (DEDUCED, log 76)
      if mld then s
      else (((List.range 16).map fun l => (l, if l = 0 then s.capacityUnits else 0)).foldl allocLd s).put
        O.STEWARD_NAMED 0
  else s)

/-- Whether the data link stands: the link has trained, also below 8 GT/s, where it carries no CXL (R431, R451). -/
def State.dataLink (s : State) : Bool := s.num O.CXL_LINK_WIDTH != 0

/-- The data link is gone: it is counted, every Enabled LD is disabled, host bursts in flight fail (R334, R450, R451,
R453). -/
def linkLost (s : State) : State :=
  if s.dataLink then
    let s := ((s.countSat 0 O.CXL_LINK_DOWNS 32).flag 0 O.CXL_STATUS 1).unflag 0 O.CXL_STATUS 0
    let s := ((s.put O.CXL_MODE_ACTIVE 0).put O.CXL_LINK_WIDTH 0).put O.CXL_LINK_GTS 0
    let host := s.chans.filterMap fun (x, c) =>
      let d := s.desc x c.cur
      if decide (x < 32) && c.inFlight && d.sk == 1 then some (x, d.src + c.done)
      else if decide (x < 32) && c.inFlight && d.dk == 1 then some (x, d.dst + c.done)
      else none
    let s := match host with
      | (_, a) :: _ =>
        quench (((s.chans.map Prod.fst).filter fun x => decide (x < 32)).foldl abandon s) 0 4 a
      | [] => s
    (List.range 16).foldl ldDisable s
  else s

/-- CXL_LINK_DOWN (R451, R529). -/
def execCxlLinkDown (s : State) : Host.Outcome State Fault Refusal :=
  done (if s.dataLink then
    let s := linkLost s
    tarnish s 23 0xFF 0xFF (s.num O.CXL_LINK_DOWNS) 0xFF50
  else s)

/-- Counts a link event while the data link stands. -/
def linkCount (s : State) (k : Nat) : State := if s.dataLink then s.countSat 0 k 32 else s

/-- CXL_CORRECTABLE_ERROR (R451). -/
def execCxlCorrectableError (s : State) : Host.Outcome State Fault Refusal := done (linkCount s O.CXL_CE_COUNT)

/-- CXL_UNCORRECTABLE_ERROR (R451): reported through AER. -/
def execCxlUncorrectableError (s : State) : Host.Outcome State Fault Refusal :=
  done (if s.dataLink then
    let s := linkCount s O.CXL_UE_COUNT
    { s with aerUncorrectable := true, sent := .linkEvent 1 :: s.sent }
  else s)

/-- CXL_LINK_RECOVERY (R451). -/
def execCxlLinkRecovery (s : State) : Host.Outcome State Fault Refusal := done (linkCount s O.CXL_RECOVERIES)

/-! ## Claims and subscriptions (R446) -/

/-- Sets or clears the subscription of owner code `o` to input `n`. -/
def subscribe (s : State) (n o : Nat) (on : Bool) : State :=
  s.put (O.SUBSCRIBERS_n + n) (putBit (s.get (O.SUBSCRIBERS_n + n)) o on)

/-- Whether an owner code has a context Armed or Held on input `n`. -/
def State.usesInput (s : State) (o n : Nat) : Bool :=
  s.ctxs.any fun (c, x) => x.owner == o && (x.st == .armed || x.st == .held) && s.ctxOn c n

/-- A command of CLAIM_CMD for input `n` by owner code `o` (R446). -/
def claimCommand (s : State) (o n cmd : Nat) : Acc :=
  let free := s.claimant n == 0xFF
  match cmd with
  | 1 => need free .presentState s fun s => .ok (subscribe (s.put (O.CLAIM_OWNER_n + n) (ofN o)) n o true)
  | 2 => need (s.claimant n == o) .noPermission s fun s => .ok (s.put (O.CLAIM_OWNER_n + n) 0xFF)
  | 3 => .ok (subscribe s n o true)
  | 4 => need (s.claimant n != o && !s.usesInput o n) .presentState s fun s => .ok (subscribe s n o false)
  | _ => need (o == s.steward) .noPermission s fun s =>
      need (!free) .presentState s fun s => .ok (s.put (O.CLAIM_OWNER_n + n) 0xFF)

/-- A write of CLAIM_CMD (R446, R459). -/
def claimWrite (s : State) (p : Nat) (v : Slot) : Acc :=
  let n := fld v 8 4
  let cmd := fld v 0 8
  need (ObjTy.u16.fits v && s.fitted n && decide (1 ≤ cmd ∧ cmd ≤ 5)) .range s fun s => claimCommand s (ownerOf p) n cmd

/-- The word of CLAIM_CMD for an input and a command. -/
def claimWord (n cmd : Nat) : Slot := ofN (n % 16 * 256 + cmd)

/-- INPUT_CLAIM (R446). -/
def execInputClaim (p n : Nat) (s : State) : Host.Outcome State Fault Refusal :=
  done (access s p O.CLAIM_CMD fun s => claimWrite s p (claimWord n 1))

/-- INPUT_RELEASE (R446). -/
def execInputRelease (p n : Nat) (s : State) : Host.Outcome State Fault Refusal :=
  done (access s p O.CLAIM_CMD fun s => claimWrite s p (claimWord n 2))

/-- INPUT_SUBSCRIBE (R446). -/
def execInputSubscribe (p n : Nat) (s : State) : Host.Outcome State Fault Refusal :=
  done (access s p O.CLAIM_CMD fun s => claimWrite s p (claimWord n 3))

/-- INPUT_UNSUBSCRIBE (R446). -/
def execInputUnsubscribe (p n : Nat) (s : State) : Host.Outcome State Fault Refusal :=
  done (access s p O.CLAIM_CMD fun s => claimWrite s p (claimWord n 4))

/-- INPUT_REVOKE (R446). -/
def execInputRevoke (p n : Nat) (s : State) : Host.Outcome State Fault Refusal :=
  done (access s p O.CLAIM_CMD fun s => claimWrite s p (claimWord n 5))

end Sys2Proof.Machine
end

