-- ==== Sys2Proof/Machine/Can.lean ====
section
/-!
DEFINITION. The CANopen FD port but for PDOs and USDO (chapter 15): NMT (R462 to R465), LSS (R466), heartbeat and
error behaviour (R467, R468), emergencies (R472 to R474), the stored communication objects (R482). Frame formats and
LSS command bytes are those of CiA 1301 and CiA 305 (log 14).
-/
namespace Sys2Proof.Machine

/-- Base periods of a millisecond. -/
def msTicks : Nat := 40000000

/-- Base periods of 100 µs. -/
def tenthTicks : Nat := 4000000

/-- Whether the port runs: outside starts and Deep, PERST# released (R463, R554). -/
def State.canRuns (s : State) : Bool := s.awake && !s.power.perst

/-- A payload padded with zeros to a CAN FD length (R460). -/
def padFd (bs : List Byte) : List Byte :=
  let n := ([0, 1, 2, 3, 4, 5, 6, 7, 8, 12, 16, 20, 24, 32, 48, 64].find? fun k => decide (bs.length ≤ k)).getD 64
  bs ++ List.replicate (n - bs.length) 0#8

/-- Sends a frame, unless a restart runs or the controller is bus-off (R468, R469). -/
def canSend (s : State) (cob : Nat) (bs : List Byte) : State :=
  if s.canRuns ∧ s.hubRestart = false ∧ s.can.busOff = false then { s with sent := .canFrame cob (padFd bs) :: s.sent }
  else s

/-- Writes of communication objects: the steward in force, and path 32 (R482). -/
def commOnly (s : State) (p : Nat) (f : State → Acc) : Acc :=
  need (ownerOf p == s.steward || p == 32) .noPermission s f

/-! ## Conditions and emergencies (R472 to R474, R486) -/

/-- Tarnish bits whose emergencies are manufacturer conditions (R473, R535); LOCKSTEP is one where the control pair set it, whose
restart is 0xFF40. -/
def makerBits : List Nat := [0, 1, 2, 3, 7, 9, 10, 11, 12, 14, 16, 20, 21, 23, 24, 26]

/-- ERROR_REGISTER (R474, R486). -/
def State.errorRegister (s : State) : Nat :=
  let t := s.get O.TARNISH
  let maker := makerBits.any fun b => bit t b && (b != 16 || s.faults.hubMismatch)
  let comm := !s.can.active.isEmpty
  b2n (maker || comm || bit t 18 || bit t 19) + b2n (bit t 18) * 4 + b2n (bit t 19) * 8 + b2n comm * 16
    + b2n maker * 128

/-- EMCY 0x0000 where the last active condition has ended since `before` (R474). -/
def emcyEnd (before : Nat) (s : State) : State :=
  if before ≠ 0 ∧ s.errorRegister = 0 then emcy s 0 0xFF 0xFF 0 else s

/-- A communication condition becomes active, with its emergency (R473, R474). -/
def commFault (s : State) (code detail : Nat) : State :=
  let s := emcy s code 0xFF 0xFF (detail % 65536)
  { s with can := { s.can with active := code :: s.can.active.filter fun c => c != code } }

/-- A communication condition ends (R474). -/
def commEnd (s : State) (code : Nat) : State :=
  let s' := { s with can := { s.can with active := s.can.active.filter fun c => c != code } }
  emcyEnd s.errorRegister s'

/-- Empties ERR_HIST (R474). -/
def clearHist (s : State) : State :=
  { s with objs := s.objs.filter fun o => !(o.1 / 256 == 0x1003) }

/-- A code sent enters ERR_HIST as its newest entry (R474, R485). -/
def pushHist (s : State) (v : Nat) : State :=
  let old := (List.range 8).map fun k => s.get (O.ERR_HIST_k + k)
  let n := s.num 0x100300
  let s := (List.range 7).foldl (fun s k => s.put (O.ERR_HIST_k + k + 1) (old.getD k 0)) s
  (s.put O.ERR_HIST_k (ofN v)).put 0x100300 (ofN (min 8 (n + 1)))

/-- EMCY_SEND (R472): the oldest waiting emergency is sent, at the end of the inhibit time where that still runs. -/
def execEmcySend (s : State) : Host.Outcome State Fault Refusal :=
  done (match s.can.queue with
    | [] => s
    | e :: r =>
      let id := s.get O.COB_ID_EMCY
      if s.canServes ∧ s.hubRestart = false ∧ bit id 31 = false then
        let s := s.runTo s.can.emcyFree
        let reg := s.errorRegister
        let s := canSend s (fld id 0 11) (leBytes 2 e.code ++ leBytes 1 reg ++ leBytes 1 e.b0 ++ leBytes 1 e.b1
          ++ leBytes 2 e.detail ++ leBytes 1 0)
        let s := pushHist s (e.code % 65536 + e.b0 % 256 * 2 ^ 16 + e.b1 % 256 * 2 ^ 24)
        { s with can := { s.can with queue := r, emcyFree := s.now + s.num O.INHIBIT_EMCY * tenthTicks } }
      else s)

/-- ERR_HIST_CLEAR (R474). -/
def errHistClear (s : State) (p : Nat) (v : Slot) : Acc :=
  commOnly s p fun s => need (ObjTy.u8.fits v) .range s fun s => .ok (if v = 1 then clearHist s else s)

/-- ERR_HIST_CLEAR (R474). -/
def execErrHistClear (p : Nat) (v : Slot) (s : State) : Host.Outcome State Fault Refusal :=
  done (access s p O.ERR_HIST_CLEAR fun s => errHistClear s p v)

/-! ## Initialisation (R462 to R465, R479, R482) -/

/-- Whether an object is stored with the communication class of R482. -/
def isComm (key : Nat) : Bool :=
  let i := keyIdx key
  decide (key < 2 ^ 24) &&
    ([0x1005, 0x1012, 0x1014, 0x1015, 0x1016, 0x1017, 0x1029, 0x1F80].contains i ||
      [0x1400, 0x1600, 0x1800, 0x1A00].contains (normIdx i) || key == O.FB_DATA_RATE || key == O.FB_TERM)

/-- The objects whose default holds the node-ID. -/
def cobIds : List Nat :=
  [0x101400, 0x140001, 0x140101, 0x140201, 0x140301, 0x180001, 0x180101, 0x180201, 0x180301]

/-- The node-ID that COB-ID defaults are built from: 0 while none is configured (log 14). -/
def cobNode (id : Nat) : Nat := if id = 0xFF then 0 else id

/-- A COB-ID follows the node-ID: where it stands at the default of an old one it takes the default of `id` (R465). -/
def setCob (olds : List Nat) (id : Nat) (stored : List (Nat × Slot)) (s : State) (k : Nat) : State :=
  let v := kvGet stored k
  let std (n : Nat) : Slot := ofN ((cobDefault (cobNode n) (k / 256)).getD 0)
  match v with
  | some x => if olds.any (fun n => std n == x) then s.put k (std id) else s.put k x
  | none => s.put k (std id)

/-- Objects 1000 to 1FFF take their reset values: stored where a store stands, else defaults (R462, R465, R482). -/
def commValues (s : State) (id : Nat) : State :=
  let old := s.can.nodeId
  let stored := match s.can.stored with
    | some l => if s.can.marked then [] else l
    | none => []
  let s := { s with objs := s.objs.filter fun o => !(decide (0x100000 ≤ o.1 ∧ o.1 < 0x200000)) }
  let s := stored.foldl (fun s kv => s.put kv.1 kv.2) s
  cobIds.foldl (setCob [old, s.can.storedFor] id stored) s

/-- The open USDO session is aborted with a code, which path 32 records (R416, R462, R480). -/
def usdoAbort (s : State) (code : Nat) : State :=
  match s.can.usdo with
  | some u =>
    let s := { s with can := { s.can with usdo := none } }
    let s := recordCode s 32 u.key (if u.download then 2 else 1) code
    canSend s (0x580 + s.can.nodeId) (leBytes 1 0x80 ++ leBytes 4 code)
  | none => s

/-- The communication conditions whose cause lasts over an Initialisation: those of the controller itself (R474). -/
def Can.lasting (c : Can) : List Nat :=
  c.active.filter fun k => k == 0x8120 && c.errorPassive || k == 0x8140 && c.busOff

/-- Initialisation with node-ID `id`: reset values, the boot-up message, then Pre-operational or Operational; with no
node-ID the port is Unconfigured (R462 to R465). An open session is
aborted and recorded (R480); conditions whose cause ends with it end (R474). -/
def initCan (s : State) (id : Nat) : State :=
  let before := s.errorRegister
  let s := commValues (usdoAbort s Abort.presentState.code.toNat) id
  let s := { s with can := { s.can with
    nodeId := id, pendingId := id, active := s.can.lasting, heard := [], lost := [], tpdoDue := [], tpdoFree := [], tpdoSync := [], tpdoHeld := []
    rpdoHeld := [], usdo := none, rate := s.num O.FB_DATA_RATE, term := s.num O.FB_TERM == 1
    tpdoTimer := (List.range 4).filterMap fun k =>
      let ms := s.num (O.TPDO_TIMER + k * 256)
      if ms = 0 then none else some (k, s.now + ms * msTicks)
    rpdoTimer := (List.range 4).filterMap fun k =>
      let ms := s.num (O.RPDO_TIMEOUT + k * 256)
      if ms = 0 then none else some (k, s.now + ms * msTicks)
    nextBeat := s.now + s.num O.HB_PRODUCER * msTicks
    nmt := .initialisation } }
  let s := emcyEnd before s
  if id = 0xFF then { s with can := { s.can with nmt := .unconfigured } }
  else
    let s := canSend s (0x700 + id) [0#8]
    { s with can := { s.can with nmt := if bit (s.get O.NMT_STARTUP) 2 then .operational else .preOperational } }

/-! ## NMT (R462, R465) -/

/-- Enters an NMT state; a session open on entry to Stopped is aborted (R462). -/
def enterNmt (s : State) (n : NmtSt) : State :=
  let s := if n = .stopped then usdoAbort s Abort.presentState.code.toNat else s
  { s with can := { s.can with nmt := n } }

/-- Whether an NMT command names this node (R462). -/
def State.nmtFor (s : State) (node : Nat) : Bool := s.canRuns && (node == 0 || node == s.can.nodeId)

/-- An NMT command that leads from some states to another. -/
def nmtMove (s : State) (node : Nat) (sts : List NmtSt) (n : NmtSt) : State :=
  if s.nmtFor node ∧ sts.contains s.can.nmt then enterNmt s n else s

/-- NMT_START (R462). -/
def execNmtStart (node : Nat) (s : State) : Host.Outcome State Fault Refusal :=
  done (nmtMove s node [.preOperational, .stopped] .operational)

/-- NMT_STOP (R462). -/
def execNmtStop (node : Nat) (s : State) : Host.Outcome State Fault Refusal :=
  done (nmtMove s node [.preOperational, .operational] .stopped)

/-- NMT_ENTER_PREOPERATIONAL (R462). -/
def execNmtEnterPreoperational (node : Nat) (s : State) : Host.Outcome State Fault Refusal :=
  done (nmtMove s node [.operational, .stopped] .preOperational)

/-- Reset Communication (R462, R465): the node-ID assigned by LSS comes into force. -/
def resetComm (s : State) : State := initCan s s.can.pendingId

/-- NMT_RESET_COMMUNICATION (R465): from Unconfigured only with a node-ID assigned. -/
def execNmtResetCommunication (node : Nat) (s : State) : Host.Outcome State Fault Refusal :=
  done (if s.canRuns ∧ (node = 0 ∨ node = s.can.nodeId) ∧ (s.can.nmt ≠ .unconfigured ∨ s.can.pendingId ≠ 0xFF)
    then resetComm s else s)

/-- NMT_RESET_NODE (R465): as Reset Communication, and owner code 16 is treated as a disabled LD. -/
def execNmtResetNode (node : Nat) (s : State) : Host.Outcome State Fault Refusal :=
  done (if s.nmtFor node ∧ s.can.nmt ≠ .unconfigured then
    resetComm (pathDefaults (dropShadows (parkOwner (suspendOwner s 16) 16) 16) 32)
  else s)

/-! ## LSS (R460, R466) -/

/-- Answers on the LSS slave's identifier. -/
def lssReply (s : State) (cs : Nat) (bs : List Byte) : State :=
  canSend s 0x7E4 (leBytes 1 cs ++ bs ++ List.replicate (7 - bs.length) 0#8)

/-- Value `k` of the LSS address, 1018:01 to 04. -/
def State.lssId (s : State) (k : Nat) : BitVec 32 := BitVec.ofNat 32 (s.num (O.VENDOR_ID + k))

/-- LSS_SWITCH_STATE_GLOBAL. -/
def execLssSwitchStateGlobal (config : Bool) (s : State) : Host.Outcome State Fault Refusal :=
  done (if s.canRuns then { s with can := { s.can with lssConfig := config } } else s)

/-- LSS_SWITCH_STATE_SELECTIVE: the four values of the LSS address match. -/
def execLssSwitchStateSelective (vendor product revision serial : BitVec 32) (s : State) :
    Host.Outcome State Fault Refusal :=
  done (if s.canRuns ∧ vendor = s.lssId 0 ∧ product = s.lssId 1 ∧ revision = s.lssId 2 ∧ serial = s.lssId 3 then
    lssReply { s with can := { s.can with lssConfig := true } } 0x44 []
  else s)

/-- LSS_CONFIGURE_NODE_ID (R466): 1 to 127 or 0xFF; other values are answered with error code 1. -/
def execLssConfigureNodeId (id : Byte) (s : State) : Host.Outcome State Fault Refusal :=
  done (if s.canRuns ∧ s.can.lssConfig then
    if (1 ≤ id.toNat ∧ id.toNat ≤ 127) ∨ id = 0xFF#8 then
      lssReply { s with can := { s.can with pendingId := id.toNat } } 0x11 [0#8]
    else lssReply s 0x11 [1#8]
  else s)

/-- LSS_CONFIGURE_BIT_TIMING (R466): table index 0 only. -/
def execLssConfigureBitTiming (table' index : Nat) (s : State) : Host.Outcome State Fault Refusal :=
  done (if s.canRuns ∧ s.can.lssConfig then
    lssReply s 0x13 [if table' = 0 ∧ index = 0 then 0#8 else 1#8]
  else s)

/-- LSS_STORE_CONFIGURATION (R466): the node-ID is written to module flash. -/
def execLssStoreConfiguration (s : State) : Host.Outcome State Fault Refusal :=
  done (if s.canRuns ∧ s.can.lssConfig then
    lssReply { s with can := { s.can with storedId := s.can.pendingId } } 0x17 [0#8]
  else s)

/-- LSS_INQUIRE_IDENTITY: value `k` of the LSS address. -/
def execLssInquireIdentity (k : Nat) (s : State) : Host.Outcome State Fault Refusal :=
  done (if s.canRuns ∧ s.can.lssConfig ∧ k < 4 then lssReply s (0x5A + k) (leBytes 4 (s.lssId k).toNat) else s)

/-- LSS_INQUIRE_NODE_ID. -/
def execLssInquireNodeId (s : State) : Host.Outcome State Fault Refusal :=
  done (if s.canRuns ∧ s.can.lssConfig then lssReply s 0x5E (leBytes 1 s.can.nodeId) else s)

/-- LSS_FASTSCAN: an unconfigured node confirms the bits of one value of its LSS address from `bitCheck` up; the last
value confirmed to bit 0 switches it to the configuration state. -/
def execLssFastscan (idNumber : BitVec 32) (bitCheck lssSub lssNext : Nat) (s : State) :
    Host.Outcome State Fault Refusal :=
  done (if s.canRuns ∧ s.can.nodeId = 0xFF ∧ s.can.lssConfig = false then
    if bitCheck = 0x80 then lssReply { s with can := { s.can with fastscan := 0 } } 0x4F []
    else if lssSub = s.can.fastscan ∧ lssSub < 4 ∧ bitCheck < 32
        ∧ idNumber.toNat / 2 ^ bitCheck = (s.lssId lssSub).toNat / 2 ^ bitCheck then
      let s := if bitCheck = 0 then
          { s with can := { s.can with fastscan := lssNext, lssConfig := decide (lssNext < lssSub) } } else s
      lssReply s 0x4F []
    else s
  else s)

/-! ## Heartbeat and error behaviour (R467, R468) -/

/-- What ERR_COMM asks for after a communication failure: 0 Pre-operational, 1 no change, 2 Stopped (R468). -/
def applyErrComm (s : State) : State :=
  if s.can.nmt = .preOperational ∨ s.can.nmt = .operational ∨ s.can.nmt = .stopped then
    match s.num O.ERR_COMM with
    | 0 => enterNmt s .preOperational
    | 2 => enterNmt s .stopped
    | _ => s
  else s

/-- The state byte of a heartbeat. -/
def NmtSt.beat : NmtSt → Nat
  | .stopped => 4 | .operational => 5 | .preOperational => 127 | _ => 0

/-- HEARTBEAT_PRODUCE (R467). -/
def execHeartbeatProduce (s : State) : Host.Outcome State Fault Refusal :=
  let ms := s.num O.HB_PRODUCER
  done (if s.canRuns ∧ ms ≠ 0
      ∧ (s.can.nmt = .preOperational ∨ s.can.nmt = .operational ∨ s.can.nmt = .stopped) then
    let s := s.runTo s.can.nextBeat
    let s := canSend s (0x700 + s.can.nodeId) (leBytes 1 s.can.nmt.beat)
    { s with can := { s.can with nextBeat := s.now + ms * msTicks } }
  else s)

/-- The consumer that watches a node: the lowest that names it (R467). -/
def State.watcher (s : State) (node : Nat) : Option Nat :=
  (List.range 4).find? fun k =>
    let v := s.get (O.HB_CONSUMER_k + k)
    fld v 16 8 == node && fld v 0 16 != 0

/-- Whether the port serves heartbeats: in every NMT state but Unconfigured and Initialisation (R462). -/
def State.hearsBeats (s : State) : Bool :=
  s.canRuns && (s.can.nmt == .preOperational || s.can.nmt == .operational || s.can.nmt == .stopped)

/-- HEARTBEAT_RECEIVED (R467). -/
def execHeartbeatReceived (node : Nat) (s : State) : Host.Outcome State Fault Refusal :=
  done (if s.hearsBeats then
    match s.watcher node with
    | some k =>
      let s := { s with can := { s.can with
        heard := kvPut s.can.heard k s.now, lost := s.can.lost.filter fun j => j != k } }
      if s.can.lost.isEmpty ∧ s.can.active.contains 0x8130 then commEnd s 0x8130 else s
    | none => s
  else s)

/-- HEARTBEAT_LOST (R467): consumer `k` has missed its node for the time set. -/
def execHeartbeatLost (k : Nat) (s : State) : Host.Outcome State Fault Refusal :=
  let v := s.get (O.HB_CONSUMER_k + k)
  let node := fld v 16 8
  done (if s.hearsBeats ∧ k < 4 ∧ s.watcher node = some k ∧ s.can.lost.contains k = false then
    let s := match kvGet s.can.heard k with
      | some t => s.runTo (t + fld v 0 16 * msTicks)
      | none => s
    let s := { s with can := { s.can with lost := k :: s.can.lost } }
    applyErrComm ((commFault s 0x8130 node).flag 0 O.FB_STATUS 4)
  else s)

/-- CAN_BUS_OFF (R468): frames that wait are discarded. -/
def execCanBusOff (s : State) : Host.Outcome State Fault Refusal :=
  done (if s.canRuns ∧ s.can.busOff = false then
    let s := s.flag 0 O.FB_STATUS 3
    applyErrComm { s with can := { s.can with
      busOff := true, tpdoDue := [], tpdoHeld := [], queue := [], active := 0x8140 :: s.can.active } }
  else s)

/-- CAN_BUS_OFF_RECOVERY (R468). -/
def execCanBusOffRecovery (s : State) : Host.Outcome State Fault Refusal :=
  done (if s.can.busOff then
    let s := { s with can := { s.can with busOff := false } }
    let s := s.countSat 0 O.FB_BUSOFF_COUNT 32
    commEnd (emcy s 0x8140 0xFF 0xFF (s.num O.FB_BUSOFF_COUNT % 65536)) 0x8140
  else s)

/-- CAN_ERROR_PASSIVE (R473, R487). -/
def execCanErrorPassive (tec : Nat) (s : State) : Host.Outcome State Fault Refusal :=
  done (if s.canRuns then
    let s := commFault (s.flag 0 O.FB_STATUS 2) 0x8120 tec
    { s with can := { s.can with errorPassive := true } }
  else s)

/-- CAN_ERROR_PASSIVE_END (R474). -/
def execCanErrorPassiveEnd (s : State) : Host.Outcome State Fault Refusal :=
  done (if s.can.errorPassive then
    commEnd ({ s with can := { s.can with errorPassive := false } }.unflag 0 O.FB_STATUS 2) 0x8120
  else s)

/-- CAN_RX_OVERRUN (R473, R487): the condition ends with the loss itself. -/
def execCanRxOverrun (lost : Nat) (s : State) : Host.Outcome State Fault Refusal :=
  done (if s.canRuns then commEnd (commFault (s.flag 0 O.FB_STATUS 1) 0x8110 lost) 0x8110 else s)

/-! ## Stored communication objects (R482) -/

/-- The values of the communication class: what differs from its row's default, and every COB-ID that holds the node-ID. -/
def State.commNow (s : State) : List (Nat × Slot) :=
  cobIds.foldl (fun l k => kvPut l k (s.get k)) (s.objs.filter fun o => isComm o.1)

/-- Stores the communication class in flash. -/
def commStore (s : State) : State :=
  { s with can := { s.can with
    stored := some s.commNow, storedFor := s.can.nodeId, marked := false } }

/-- A write of 1010:02 (R482). -/
def storeComm (s : State) (p : Nat) (v : Slot) : Acc :=
  commOnly s p fun s => need (v == 0x65766173) .range s fun s => .ok (commStore s)

/-- A write of 1010:01 (R482): DICT_STORE as well; it requires the steward in force. -/
def storeAll (s : State) (p : Nat) (v : Slot) : Acc :=
  stewardOnly s p fun s => need (v == 0x65766173) .range s fun s =>
    need (!s.storeBusy) .presentState s fun s => .ok (beginStore (commStore s))

/-- STORE_COMM (R482). -/
def execStoreComm (p : Nat) (v : Slot) (s : State) : Host.Outcome State Fault Refusal :=
  done (access s p O.STORE_COMM fun s => storeComm s p v)

/-- STORE_ALL (R482). -/
def execStoreAll (p : Nat) (v : Slot) (s : State) : Host.Outcome State Fault Refusal :=
  done (access s p O.STORE_ALL fun s => storeAll s p v)

/-- A write of 1011:01 or 02 (R482): marks the same sets for defaults. -/
def restoreComm (s : State) (p sub : Nat) (v : Slot) : Acc :=
  let mark (s : State) : State := { s with can := { s.can with marked := true } }
  if sub = 1 then
    commOnly s p fun s => need (v == 0x64616F6C) .range s fun s =>
      need (!s.storeBusy) .presentState s fun s => .ok { mark s with storeMarked := true }
  else if sub = 2 then commOnly s p fun s => need (v == 0x64616F6C) .range s fun s => .ok (mark s)
  else (s, some (if sub = 0 then .notWritable else .noSubindex))

/-- RESTORE_DEFAULTS_COMM (R482). -/
def execRestoreDefaultsComm (p sub : Nat) (v : Slot) (s : State) : Host.Outcome State Fault Refusal :=
  done (access s p (0x101100 + sub) fun s => restoreComm s p sub v)

end Sys2Proof.Machine
end

