-- ==== Sys2Proof/Machine/Power.lean ====
section
/-!
DEFINITION. Power states, the power sequencer, wakes, mains, the reference and the clock loops (R488 to R517, R526).
-/
namespace Sys2Proof.Machine

/-! ## Domains and the sequencer (R488, R489) -/

/-- Step, peak and reserve in mA of domain `x` (R488): 1 hub, 2 front, 3 references, 4 to 11 dies, 12 to 15 stacks. -/
def domainMa (x : Nat) : Nat × Nat × Nat :=
  if x = 1 then (750, 1500, 0) else if x = 2 then (1500, 2000, 300) else if x = 3 then (500, 800, 0)
  else if x < 12 then (1200, 2400, 1000) else (750, 1200, 500)

/-- The state of domain `x` (R511). -/
def State.domain (s : State) (x : Nat) : Nat := s.power.domains.getD (x - 1) 0

/-- Sets the state of domain `x`. -/
def State.setDomain (s : State) (x v : Nat) : State :=
  { s with power := { s.power with domains := s.power.domains.set (x - 1) v } }

/-- The projected load in mA: the base and what is on or starting, with its reserve (R489). -/
def State.projected (s : State) : Nat :=
  ((s.domainsHeld.filter fun x => s.domain x == 3 || s.domain x == 4).map fun x =>
    (domainMa x).1 + (domainMa x).2.2).foldl (· + ·) 700

/-- Queues the start of a domain that is not on, starting or queued (R489). -/
def queueStart (s : State) (x : Nat) : State :=
  if 2 ≤ s.domain x ∧ s.domain x ≤ 4 then s
  else { s.setDomain x 2 with power := { (s.setDomain x 2).power with queue := s.power.queue ++ [x] } }

/-- Sets the loops of a die, or of the hub at 8. -/
def State.setLoops (s : State) (x : Nat) (l : List Loop) : State :=
  { s with power := { s.power with loops := s.power.loops.set x l } }

/-- The loops of a die, or of the hub at 8: SAMPLE_A, SAMPLE_B, CORE_A, CORE_B. -/
def State.loops (s : State) (x : Nat) : List Loop := s.power.loops.getD x []

/-- Loop `l` of unit `x`. -/
def State.loop (s : State) (x l : Nat) : Loop := (s.loops x).getD l {}

/-- Replaces loop `l` of unit `x`. -/
def State.setLoop (s : State) (x l : Nat) (v : Loop) : State := s.setLoops x ((s.loops x).set l v)

/-- The earliest instant of the next admission: the last one's peak over the slew (R489). -/
def State.admitAt (s : State) : Nat := s.power.lastAt + s.power.lastPeak * msTicks / s.num 0x210402

/-- DOMAIN_START_ADMIT (R489): the sequencer admits the start at the head of its queue, or it waits for budget. -/
def admitStart (s : State) : State :=
  match s.power.queue with
  | [] => s
  | x :: r =>
    let (step, peak, res) := domainMa x
    let s := if s.power.lastPeak = 0 then s else s.runTo s.admitAt
    if s.projected + peak + res ≤ s.num O.SEQ_BUDGET_MA ∨ step = 0 then
      let s := { s with power := { s.power with queue := r, lastAt := s.now, lastPeak := peak, waited := false } }
      let s := s.setDomain x 3
      if 4 ≤ x ∧ x < 12 then s.setLoops (x - 4) (List.replicate 4 { st := 1 })
      else if 12 ≤ x then s.setStack (x - 12) { s.stack (x - 12) with st := 1 } else s
    else if s.power.waited then s
    else { (s.countSat 0 O.SEQ_BUDGET_WAITS 32).flag 0 O.POWER_STATUS 5 with power := { s.power with waited := true } }

/-- DOMAIN_START_ADMIT (R489). -/
def execDomainStartAdmit (s : State) : Host.Outcome State Fault Refusal := done (admitStart s)

/-! ## Entering Watch and Deep (R493, R498) -/

/-- Whether a burst of any mover is in flight (R337). -/
def State.bursting (s : State) : Bool := s.chans.any fun c => c.2.inFlight

/-- ALLOY_STREAM_START (R79, R493). -/
def execAlloyStreamStart (n : Nat) (s : State) : Host.Outcome State Fault Refusal :=
  done (resumeEntry (alloyStart s n))

/-- REGROUP_GAP_END (R86, R87, R493): the first sheet of the new alloy of input `n` is written. -/
def execRegroupGapEnd (n : Nat) (s : State) : Host.Outcome State Fault Refusal :=
  done (if s.fitted n then resumeEntry (regroupEnd s n) else s)

/-! ## Leaving Watch (R495 to R497) -/

/-- The dies that serve input `n`, or that serve the alloy that absorbed it, in deal order. -/
def State.diesOf (s : State) (n : Nat) : List Nat :=
  let x := s.input n
  match x.host with
  | some h => (s.input h).members
  | none => x.members

/-- The dies context `c` needs. -/
def State.ctxDies (s : State) (c : Nat) : List Nat :=
  (s.cN c O.CTX_INPUT :: s.watched c).flatMap s.diesOf

/-- Entry `k` of the wake list. -/
def State.wakeEntry (s : State) (k : Nat) : Slot := s.get (O.WAKE_CTX_k + k)

/-- Whether entry `k` passes the check of R496: its context is Suspended with cause 5 and still owned by its writer. -/
def State.wakeEntryOk (s : State) (k : Nat) : Bool :=
  let v := s.wakeEntry k
  let c := fld v 0 12
  bit v 15 && (match s.ctx c with
    | some x => x.st == .suspended && s.cN c O.CTX_SUSPEND_CAUSE == 5 && x.owner == fld v 24 8
    | none => false)

/-- An arm for owner code `o` without the check of R492 (R496). -/
def wakeArm (s : State) (o c : Nat) : Acc :=
  need ((s.cN c O.CTX_INPUT :: s.watched c).all fun k => s.subscribed k o) .noPermission s fun s =>
  let free : Bool := match s.ctx c with | some x => !x.isBusy | none => false
  need (free && !s.noReference) .presentState s fun s => armTry s c

/-- Serves entry `k` of the wake list (R496). -/
def serveEntry (s : State) (k : Nat) : State :=
  if s.wakeEntryOk k then
    let v := s.wakeEntry k
    let r := wakeArm s (fld v 24 8) (fld v 0 12)
    if r.2.isSome then (r.1.countSat 0 O.WAKE_ARM_FAILS 32).flag 0 O.POWER_STATUS 6 else r.1
  else s

/-- Serves the entries whose last die has become Active, in subindex order (R496). -/
def serveWakeList (s : State) (all : Bool) : State :=
  s.power.wakeList.foldl (fun s k =>
    if all || (s.ctxDies (fld (s.wakeEntry k) 0 12)).all (fun d => (s.die d).st != .retention) then
      serveEntry { s with power := { s.power with wakeList := s.power.wakeList.filter (· ≠ k) } } k
    else s) s

/-- The wake is complete: every die is Active and the list is served (R497). -/
def endWake (s : State) : State :=
  let s := if s.dev = .watch then enterDev s .ready else s
  let s := serveWakeList s true
  let s := s.put O.LAST_WAKE_US (ofN ((s.now - s.power.wakeAt) / 40000))
  let s := (s.flag 0 O.POWER_STATUS 1).put O.POWER_PHASE 0
  let s := { s with power := { s.power with wakeReqs := [] } }
  rasterResume (unparkMover s 0)

/-- Whether starts wait or run. -/
def State.starts (s : State) : Bool := s.power.queue != [] || s.power.domains.any (· == 3)

/-- The order in which wake requests are served: core cycle by core cycle, and in one core cycle input edges by input number,
trigger in, timers, then commands (R489, R509). -/
def WakeReq.key (r : WakeReq) : Nat :=
  r.at_ / 48 * 64 + (match r.cause with | 2 => r.input | 3 => 8 | 4 => 9 | 1 => 11 | _ => 10)

/-- The domains a wake starts, in order: the front die, the dies of the inputs whose edges woke the module, those of the
wake list, and the rest (R497). -/
def State.wakeOrder (s : State) (reqs : List WakeReq) (list : List Nat) : List Nat :=
  let edges := (reqs.filter fun r => r.cause == 2).flatMap fun r => s.diesOf r.input
  let listed := sortN ((list.filter s.wakeEntryOk).flatMap fun k => s.ctxDies (fld (s.wakeEntry k) 0 12))
  2 :: ((uniq (edges ++ listed ++ List.range s.D)).filter fun d => (s.die d).st == .retention).map (· + 4)

/-- The first event of a wake is recorded (R495). -/
def wakeRecord (s : State) (r : WakeReq) : State :=
  let t := (r.at_ + 24) / 48 * 48
  let s := (s.put O.WAKE_CAUSE (ofN r.cause)).put O.WAKE_INPUT (ofN r.input)
  (s.put O.WAKE_TM (tmOf t)).put O.WAKE_WRAP (ofN (t / 2 ^ 55 % 2 ^ 16))

/-- A wake from Watch on one or more requests (R495, R497). -/
def beginWake (s : State) (reqs : List WakeReq) : State :=
  match sortBy WakeReq.key reqs with
  | [] => s
  | r :: rs =>
    let s := (wakeRecord s r).put O.POWER_PHASE 2
    let list := (List.range 64).filter fun k => bit (s.wakeEntry k) 15
    let s := { s with power := { s.power with wakeAt := r.at_, wakeKept := [], wakeReqs := r :: rs, wakeList := list } }
    (s.wakeOrder (r :: rs) list).foldl queueStart s

/-- A further request in the core cycle of the one that began the wake: both are ordered by R489 (R509). -/
def joinWake (s : State) (r : WakeReq) : State :=
  match sortBy WakeReq.key (s.power.wakeReqs ++ [r]) with
  | [] => s
  | q :: qs =>
    let s := wakeRecord s q
    let order := (s.wakeOrder (q :: qs) s.power.wakeList).filter s.power.queue.contains
    { s with power := { s.power with wakeReqs := q :: qs, queue := order } }

/-- A wake request (R491, R495): served in Watch, kept while Watch is being entered, and without effect otherwise; while Deep is
being entered trigger in is kept, the one of these that is a wake condition of Deep, but not in the command's own core cycle
(R499, R509; DEDUCED, log 104). -/
def wakeRequest (s : State) (cause n : Nat) : State :=
  let r : WakeReq := { at_ := s.now, cause, input := n }
  if s.starting then s
  else if s.dev = .watch ∧ s.get O.POWER_PHASE = 0 then beginWake s [r]
  else if s.get O.POWER_PHASE = 1 ∨ (s.get O.POWER_PHASE = 3 ∧ cause = 3 ∧ s.now / 48 ≠ s.power.entryAt) then
    { s with power := { s.power with wakeKept := s.power.wakeKept ++ [r] } }
  else if s.get O.POWER_PHASE = 2 ∧ (s.power.wakeReqs.head?.map fun q => q.at_ / 48) = some (s.now / 48) then joinWake s r
  else s

/-- A die Active after its start (R36, R91, R281, R337): its counter is aligned, its stack channels leave
self-refresh, its loops run and its mover resumes, also for channels started in Watch (R494). -/
def dieStarted (s : State) (d : Nat) : State :=
  let x := s.die d
  if x.st = .retention ∨ x.st = .off then
    let s := s.setDie d { x with st := .active, counterFrom := some s.epochStart, auditPos := 0, auditStart := s.now }
    let sk := s.stack (d / 2)
    let s := s.setStack (d / 2) { sk with selfRefresh := sk.selfRefresh.filter fun ch => ch / 8 != d % 2 }
    let up (l m : Loop) : Loop := if l.st = 2 ∨ m.st = 2 then l else { l with st := 2 }
    let ls := s.loops d
    let l (k : Nat) : Loop := ls.getD k {}
    let s := s.setLoops d [up (l 0) (l 1), l 1, up (l 2) (l 3), l 3]
    moverNext (unparkMover s (1 + d)) (1 + d)
  else s

/-- The start of domain `x` completes. -/
def domainUp (s : State) (x : Nat) : State :=
  if s.domain x = 3 then
    let s := s.setDomain x 4
    let s := if 4 ≤ x ∧ x < 12 then dieStarted s (x - 4)
      else if 12 ≤ x then s.setStack (x - 12) { s.stack (x - 12) with st := 2 } else s
    if s.get O.POWER_PHASE = 2 then
      let s := if 4 ≤ x ∧ s.dev = .watch then enterDev s .ready else s
      let s := if s.dev = .watch then s else serveWakeList s false
      if s.starts then s else endWake s
    else s
  else s

/-- DOMAIN_STARTED (R488, R497). -/
def execDomainStarted (x : Nat) (s : State) : Host.Outcome State Fault Refusal :=
  done (if s.domainsHeld.contains x then domainUp s x else s)

/-- Whether a context's suspension still waits for its work in flight (R211). -/
def State.suspending (s : State) : Bool := s.ctxs.any fun c => c.2.armCause.isSome && !c.2.arming

/-- WATCH_ENTRY_DONE (R493): nothing is in flight; dies enter Retention and every channel self-refresh (R293). What was started
since time zero stops with the rest (R381). -/
def watchDone (s : State) : State :=
  let s := resumeEntry s
  if s.get O.POWER_PHASE = 1 ∧ s.starting = false ∧ s.bursting = false ∧ s.suspending = false then
    let s := (List.range (1 + s.D)).foldl parkMover (calWatch (rasterSuspend s))
    let down (s : State) (d : Nat) : State :=
      let x := s.die d
      if x.st = .active ∨ x.st = .reserve then
        ((s.setDie d { x with st := .retention, counterFrom := none }).setDomain (4 + d) 1).setLoops d
          (List.replicate 4 {})
      else s
    let s := ((List.range s.D).foldl down s).setDomain 2 0
    let s := { s with
      hbm := s.hbm.mapIdx fun i k => { k with
        selfRefresh := if k.st = 4 then k.selfRefresh else (List.range 16).filter fun ch => !s.chanOwes i ch }
      inputs := s.inputs.map fun x => { x with taps := [] }
      power := { s.power with watchAt := s.now } }
    let s := (enterDev s .watch).put O.POWER_PHASE 0
    beginWake s s.power.wakeKept
  else s

/-- WATCH_ENTRY_DONE (R493). -/
def execWatchEntryDone (s : State) : Host.Outcome State Fault Refusal := done (watchDone s)

/-! ## Commands (R491, R510) -/

/-- Enter Watch as POWER_CMD 2 does, in Ready and Armed while the phase is Steady (R491, R527). -/
def enterWatch (s : State) : State :=
  if s.running ∧ s.get O.POWER_PHASE = 0 then beginEntry s 1 else s

/-- A write of POWER_CMD (R491, R510). -/
def powerCmd (s : State) (p : Nat) (v : Slot) : Acc :=
  stewardOnly s p fun s => need (decide (1 ≤ v.toNat ∧ v.toNat ≤ 3)) .range s fun s =>
  need (s.get O.POWER_PHASE == 0) .presentState s fun s =>
    match v.toNat with
    | 1 => .ok (beginEntry s 3)
    | 2 => .ok (if s.dev = .watch then s else beginEntry s 1)
    | _ => need (s.dev == .watch) .presentState s fun s => .ok (beginWake s [{ at_ := s.now, cause := 1, input := 0xFF }])

/-- ENTER_DEEP (R491, R498). -/
def execEnterDeep (p : Nat) (s : State) : Host.Outcome State Fault Refusal :=
  done (access s p O.POWER_CMD fun s => powerCmd s p 1)

/-- ENTER_WATCH (R491, R493). -/
def execEnterWatch (p : Nat) (s : State) : Host.Outcome State Fault Refusal :=
  done (access s p O.POWER_CMD fun s => powerCmd s p 2)

/-- LEAVE_WATCH (R491, R495). -/
def execLeaveWatch (p : Nat) (s : State) : Host.Outcome State Fault Refusal :=
  done (access s p O.POWER_CMD fun s => powerCmd s p 3)

/-- WAKE_EDGE (R495): an edge at the comparator of input `n`. -/
def execWakeEdge (n : Nat) (rising : Bool) (s : State) : Host.Outcome State Fault Refusal :=
  let v := s.get (O.WAKE_EDGE_n + n)
  let slope := fld v 24 2
  done (if s.fitted n ∧ bit v 31 ∧ (slope = 2 ∨ slope = (if rising then 0 else 1)) then wakeRequest s 2 n else s)

/-- WAKE_TIMER_EXPIRY (R495): WAKE_TIMER_MS after Watch entry. -/
def execWakeTimerExpiry (s : State) : Host.Outcome State Fault Refusal :=
  let ms := s.num O.WAKE_TIMER_MS
  done (if ms ≠ 0 ∧ s.dev = .watch then wakeRequest (s.runTo (s.power.watchAt + ms * msTicks)) 4 0xFF else s)

/-- TRIG_IN_EDGE (R163 to R165, R495): an edge at trigger in, at the instant `g` in grains. -/
def execTrigInEdge (rising : Bool) (g : Nat) (s : State) : Host.Outcome State Fault Refusal :=
  let takes := latchTakes (s.num O.TRIGIN_LATCH_SLOPE) rising
  done (if s.awake then
      let s' := trigInEdge s rising g
      -- Deep takes a rising edge (R499)
      let wakes := if s.get O.POWER_PHASE = 3 then rising else takes
      if bit (s.get O.DEEP_WAKE_MASK) 2 ∧ wakes then wakeRequest s' 3 0xFF else s'
    else s)

/-! ## Deep (R498 to R500) -/

/-- The fault log is written to flash (R498, R501, R536). -/
def flushLog (s : State) : State := { s with faults := { s.faults with flushed := s.faults.log.length } }

/-- The log entry of Deep entry or of a power failure (R536); its detail is a free value (log 3). -/
def powerEntry (s : State) (b : Nat) : State :=
  let (v, s) := s.free
  logFault s b 0xFF 0xFF 0 v.toNat

/-- What Deep loses at once: capture memory with its poison, movers, planishers, buffers and the raster engine's
settings (R307, R337, R371, R381). -/
def deepLoss (s : State) : State :=
  { s with
    mem := [], halves := s.halves.map fun h => { h with poison := [] }, chans := [], plans := [], bufs := []
    cruBufs := [], allocs := [], ports := [], raster := {}
    -- trigger out is driven low in Off and Deep (R597)
    trigOut := [], trigOutEnd := 0, trigOutHigh := false }

/-- A start begins at its ROM step, which tries the bank named current (R552 to R554): `kind` 1 mains on, 2 leaving Deep, 3
PERST#; the domains that are not on queue in the order of
R499 (R489, R495). -/
def beginStart (s : State) (kind cause : Nat) : State :=
  let s := { s with starting := true, fw := { s.fw with attempt := 0, watchdog := false }, power := { s.power with
    startKind := kind, startCause := cause, startFrom := s.now, wakeAt := s.now, queue := [], entry := none
    -- starts that waited are queued afresh
    domains := s.power.domains.map fun d => if d = 2 then 0 else d } }
  let hbms := (List.range (s.D / 2)).map (· + 12)
  let order := [1, 3] ++ hbms ++ [2] ++ (List.range s.D).map (· + 4)
  order.foldl queueStart s

/-- The counter on leaving Deep, after `ticks` of the 32.768 kHz crystal (R38): the whole absolute count is rounded down to a
multiple of 1,200, wraps included (log 73). -/
def State.afterDeep (s : State) (ticks : Nat) : Nat := (s.power.deepFrom + ticks * 9765625 / 8) / 1200 * 1200

/-- The module leaves Deep (R499): the counter is carried, and the start begins. -/
def leaveDeep (s : State) (cause ticks : Nat) : State :=
  let t := s.afterDeep ticks
  let wraps := t / 2 ^ 55 != s.now / 2 ^ 55
  let s := s.setNow t
  let s := { s with power := { s.power with deepExit := t } }
  let s := if wraps then s.flag 0 O.TB_STATUS 0 else s
  beginStart s 2 cause

/-- DEEP_ENTRY_DONE (R498). -/
def deepDone (s : State) : State :=
  let s := resumeEntry s
  if s.get O.POWER_PHASE = 3 ∧ s.starting = false ∧ s.bursting = false ∧ s.suspending = false then
    let kept := (sortBy WakeReq.key s.power.wakeKept).head?
    let s := flushLog (powerEntry (s.countSat 0 O.DEEP_ENTRIES 32) 0xFD)
    let s := deepLoss (linkLost s)
    let dies := s.dies.map fun x => if x.st = .active ∨ x.st = .reserve ∨ x.st = .retention then
        { x with st := .off, counterFrom := none } else x
    let s := { s with
      dev := .deep, dies, hbm := s.hbm.map fun _ => {}
      can := { s.can with nmt := .initialisation }
      power := { s.power with
        deepFrom := s.now, domains := List.replicate 15 0, queue := [], wakeKept := []
        loops := List.replicate 9 (List.replicate 4 {}) } }
    -- a wake condition that came during the entry is served at its end (R491)
    match kept with
    | some r => leaveDeep s r.cause 0
    | none => s
  else s

/-- DEEP_ENTRY_DONE (R498). -/
def execDeepEntryDone (s : State) : Host.Outcome State Fault Refusal := done (deepDone s)

/-- The place of a wake cause among requests of one core cycle (R489). -/
def wakeRank (cause : Nat) : Nat := match cause with | 3 => 8 | 4 => 9 | 1 => 11 | _ => 10

/-- A wake condition of Deep, `ticks` crystal ticks after entry (R499): it begins the start; one of the same instant that goes
before the one given first takes its place as the cause (R489); one that comes while Deep is being entered, after the core
cycle of the command, is kept (R491, R509). -/
def deepWake (s : State) (cause ticks : Nat) : State :=
  if s.dev = .deep then
    if s.starting = false then leaveDeep s cause ticks
    else if s.power.startKind = 2 ∧ s.afterDeep ticks = s.power.deepExit ∧ s.now = s.power.deepExit
        ∧ wakeRank cause < wakeRank s.power.startCause then
      { s with power := { s.power with startCause := cause } }
    else s
  else if s.get O.POWER_PHASE = 3 ∧ (cause = 5 ∨ s.now / 48 ≠ s.power.entryAt) then
    { s with power := { s.power with wakeKept := s.power.wakeKept ++ [{ at_ := s.now, cause, input := 0xFF }] } }
  else s

/-- DEEP_TIMER_EXPIRY (R499). -/
def execDeepTimerExpiry (s : State) : Host.Outcome State Fault Refusal :=
  let n := s.num O.DEEP_TIMER_S
  done (if s.dev = .deep ∧ bit (s.get O.DEEP_WAKE_MASK) 1 ∧ n ≠ 0 then deepWake s 4 (n * 32768) else s)

/-- DEEP_TRIGIN_WAKE (R499): a rising edge at trigger in, `ticks` crystal ticks after Deep entry. -/
def execDeepTriginWake (ticks : Nat) (s : State) : Host.Outcome State Fault Refusal :=
  done (if bit (s.get O.DEEP_WAKE_MASK) 2 then deepWake s 3 ticks else s)

/-- CAN_DOMINANT_WAKE (R499): a dominant level of at least 5 µs on the bus. -/
def execCanDominantWake (ticks : Nat) (s : State) : Host.Outcome State Fault Refusal :=
  done (if bit (s.get O.DEEP_WAKE_MASK) 3 then deepWake s 6 ticks else s)

/-- WAKE_PIN_RELEASE (R500): 1 s after WAKE# was driven low. -/
def execWakePinRelease (s : State) : Host.Outcome State Fault Refusal := done (releaseWake s)

/-! ## Mains (R501) -/

/-- MAINS_DIP_END (R501): an absence of `ms` milliseconds ends within the hold-up. -/
def execMainsDipEnd (ms : Nat) (s : State) : Host.Outcome State Fault Refusal :=
  done (if (s.dev = .off ∧ s.starting = false) ∨ s.power.failing then s
    else if 2 ≤ ms then
      let s := s.countSat 0 O.MAINS_DIPS 32
      let s := s.put O.MAINS_LONGEST_MS (ofN (satN 16 (max ms (s.num O.MAINS_LONGEST_MS))))
      tarnish (s.flag 0 O.POWER_STATUS 4) 27 0xFF 0xFF 0
    else s)

/-- HOLDUP_END (R501): a power-fail entry follows the buffered entries into flash. -/
def execHoldupEnd (s : State) : Host.Outcome State Fault Refusal :=
  done (if s.dev = .off ∧ s.starting = false then s
    else
      let s := flushLog (powerEntry s 0xFE)
      { s with power := { s.power with failing := true } })

/-- SUPPLY_SHUTDOWN (R501): the supply stops and the module is Off. -/
def execSupplyShutdown (s : State) : Host.Outcome State Fault Refusal :=
  done (if s.power.failing then
      let s := deepLoss { s with dev := .off, starting := false, ctxs := [], pending := s.pending }
      { s with
        lds := s.lds.map fun x => { x with st := .unallocated, mse := false, bme := false }
        hbm := s.hbm.map fun _ => {}
        dies := s.dies.map fun x => { x with st := if x.st = .retired then .retired else .off, counterFrom := none }
        faults := { s.faults with log := s.faults.log.take s.faults.flushed, openEvents := [], suspects := [] }
        power := { s.power with
          domains := List.replicate 15 0, queue := [], failing := false, wakePin := false, noRef := false
          loops := List.replicate 9 (List.replicate 4 {}) } }
    else s)

/-! ## The reference (R502 to R504, R526) -/

/-- The reference REF_SELECT asks for: 0 internal, 1 external 10 MHz, 2 external 100 MHz (R502, R504). -/
def State.refWanted (s : State) : Nat :=
  let ext := match s.power.extValid with
    | some m => if m = 10 then 1 else 2
    | none => 0
  match s.num O.REF_SELECT with
  | 0 => 0
  | 3 => ext
  | k => if ext = k ∧ s.power.extTaken then k else 0

/-- The distribution switches to a reference (R503, R526): the internal one only while its oscillator runs. -/
def switchRef (s : State) (r : Nat) (alone : Bool) : State :=
  if s.num O.REF_IN_USE = r then
    if r ≠ 0 ∧ s.power.noRef then { s with power := { s.power with noRef := false } } else s
  else if r = 0 ∧ s.power.intFailed then s
  else
    let s := (s.put O.REF_IN_USE (ofN r)).flag 0 O.REF_STATUS 0
    refChanged { s with power := { s.power with noRef := false } } alone

/-- A write of REF_SELECT (R502, R504). -/
def refSelect (s : State) (p : Nat) (v : Slot) : Acc :=
  stewardOnly s p fun s => need (decide (v.toNat ≤ 3)) .range s fun s =>
    let s := (s.put O.REF_SELECT v)
    let s := { s with power := { s.power with extTaken := true } }
    .ok (if s.awake then switchRef s s.refWanted true else s)

/-- REF_SELECT_WRITE (R502). -/
def execRefSelectWrite (p : Nat) (v : Slot) (s : State) : Host.Outcome State Fault Refusal :=
  done (access s p O.REF_SELECT fun s => refSelect s p v)

/-- Every Armed or Held context is Suspended with cause 4; the action waits for a supervisor restart (R526, R528). -/
def suspendAll (s : State) : State :=
  if s.restarting then { s with deferred := s.deferred ++ [.internalOscFail] }
  else s.reachable.foldl (fun s c => suspendCtx s c 4) s

/-- EXT_REF_LOSS (R504): loss of signal, or off frequency. -/
def execExtRefLoss (offFreq : Bool) (s : State) : Host.Outcome State Fault Refusal :=
  done (if s.awake ∧ s.power.extValid.isSome then
      let s := { s with power := { s.power with extValid := none, extPresent := offFreq } }
      let s := s.flag 0 O.REF_STATUS (if offFreq then 2 else 1)
      -- both reference loops are gated off, in use or not
      let gate (l : Nat) (s : State) : State :=
        if (s.loop 8 l).st = 5 then s else s.setLoop 8 l { s.loop 8 l with st := 4 }
      let s := gate 1 (gate 0 (s.countSat 0 O.REF_LOSSES 32))
      if s.num O.REF_IN_USE = 0 then tarnish s 14 0xFF 0xFF 2
      else
        let s := { s.flag 0 O.REF_STATUS 3 with power := { s.power with extTaken := false } }
        let s := tarnish s 14 0xFF 0xFF 2 0xFF31
        if s.power.intFailed then
          suspendAll { s.put O.REF_IN_USE 0 with power := { s.power with noRef := true } }
        else switchRef s 0 false
    else s)

/-- EXT_REF_VALIDATED (R502, R504): an external reference of 10 or 100 MHz has been valid for 1 s. -/
def execExtRefValidated (mhz : Nat) (s : State) : Host.Outcome State Fault Refusal :=
  done (if s.awake ∧ (mhz = 10 ∨ mhz = 100) then
      let s := { s with power := { s.power with extValid := some mhz, extPresent := true } }
      if s.refWanted = 0 then s else switchRef s s.refWanted true
    else s)

/-- INTERNAL_OSC_FAIL (R526): the internal oscillator fails while it is in use. -/
def execInternalOscFail (s : State) : Host.Outcome State Fault Refusal :=
  done (if s.awake ∧ s.num O.REF_IN_USE = 0 then
      if s.power.noRef then suspendAll s
      else
        let s := tarnish { s with power := { s.power with intFailed := true } } 15 0xFF 0xFF 0
        match s.power.extValid with
        | some m => switchRef s (if m = 10 then 1 else 2) true
        | none => suspendAll { s with power := { s.power with noRef := true } }
    else s)

/-! ## Clock loops (R505 to R509) -/

/-- The other loop of a pair. -/
def loopPartner (l : Nat) : Nat := if l % 2 = 0 then l + 1 else l - 1

/-- Whether unit `x` exists and its clocks run. -/
def State.loopUnit (s : State) (x l : Nat) : Bool :=
  decide (l < 4) && (x == 8 || (decide (x < s.D) && (s.domain (4 + x) == 3 || s.domain (4 + x) == 4)))

/-- A loop goes Failed (R506, R508): STANDBY_LOST where its partner runs alone. -/
def loopFailed (s : State) (x l losses : Nat) : State :=
  let s := s.setLoop x l { st := 5, losses }
  let s := if (s.loop x (loopPartner l)).st = 2 then s.flag 0 O.POWER_STATUS 3 else s
  tarnish s 13 (if x = 8 then 0xFF else x) (if x = 8 then 0xFF else s.inputByte x) 0

/-- LOOP_LOCK_DECLARED (R506, R507): Active where the pair has none. -/
def execLoopLockDeclared (x loop : Nat) (s : State) : Host.Outcome State Fault Refusal :=
  let v := s.loop x loop
  done (if s.loopUnit x loop ∧ v.st = 1 ∧ (s.loop x (loopPartner loop)).st ≠ 2 then
      s.setLoop x loop { v with st := 2 } else s)

/-- LOOP_STANDBY_READY (R506): a loop that locked again has held lock for 10 ms. -/
def execLoopStandbyReady (x loop : Nat) (s : State) : Host.Outcome State Fault Refusal :=
  let v := s.loop x loop
  done (if s.loopUnit x loop ∧ v.st = 1 ∧ (s.loop x (loopPartner loop)).st = 2 then
      s.setLoop x loop { v with st := 3 } else s)

/-- LOOP_LOCK_TIMEOUT (R506): no lock within 1 ms. -/
def execLoopLockTimeout (x loop : Nat) (s : State) : Host.Outcome State Fault Refusal :=
  let v := s.loop x loop
  done (if s.loopUnit x loop ∧ v.st = 1 then loopFailed s x loop v.losses else s)

/-- LOOP_RESTART (R506): 1 µs after it was gated; a reference loop only while an external reference is valid. -/
def execLoopRestart (x loop : Nat) (s : State) : Host.Outcome State Fault Refusal :=
  let v := s.loop x loop
  done (if s.loopUnit x loop ∧ v.st = 4 ∧ (x ≠ 8 ∨ 2 ≤ loop ∨ s.power.extValid.isSome) then
      s.setLoop x loop { v with st := 1 } else s)

/-- A hand-over flags the die's sheets (R50), and a sample-clock hand-over restarts the die's pass (R509). -/
def handOverDie (s : State) (d : Nat) (sample : Bool) : State :=
  let s := match s.inputOfDie d with
    | some n =>
      let flows := decide ((s.input n).ring = .writing) || s.busyInput n
      (s.setDie d { s.die d with discNext := (s.die d).discNext || flows }).setInput n
        { s.input n with discAt := s.cycle * 480 :: (s.input n).discAt }
    | none => s
  let x := s.die d
  if sample ∧ x.measuring then
    s.setDie d { x with pending := [], bankPending := none, calQueue := x.positions ++ x.spares }
  else s

/-- A loop in use loses lock and its standby takes over (R508, R531). -/
def loopHandOver (s : State) (x l : Nat) : State :=
  let v := s.loop x l
  let sample := decide (l < 2)
  let n := v.losses + 1
  let s := s.setLoop x (loopPartner l) { s.loop x (loopPartner l) with st := 2 }
  let s := s.setLoop x l { st := 4, losses := n }
  let s := (s.flag 0 O.POWER_STATUS 2).countSat 0 O.LOOP_HANDOVERS 32
  let die := if x = 8 then 0xFF else x
  let inp := if x = 8 then 0xFF else s.inputByte x
  -- the log entry names the input, the emergency does not (R473, R536)
  let detail := if sample then 0 else 1
  let s := tarnishEntry s (if sample then 11 else 12) die inp detail 0xFF30
  let s := pulse (emcy s 0xFF30 die 0xFF detail) 7 0 0
  let s := suspect s (if sample then 2 else 3) die inp 0 0xFFFF (s.cycle - s.num O.LOCK_COUNT * 400 / 48 * 48) (s.cycle + 48)
  -- two tarnish bits of one core cycle: LOOP_SAMPLE or LOOP_CORE before LOOP_FAILED (R540)
  let s := if 3 ≤ n then loopFailed s x l n else s
  if x = 8 then s else handOverDie s x sample

/-- LOOP_LOCK_LOSS (R506, R508, R509, R522): the standby takes over; a die's clock that stops has it declared Lost. -/
def execLoopLockLoss (x loop : Nat) (s : State) : Host.Outcome State Fault Refusal :=
  let v := s.loop x loop
  done (if s.loopUnit x loop then
      if v.st = 2 then
        if (s.loop x (loopPartner loop)).st = 3 then loopHandOver s x loop
        else
          let s := s.setLoop x loop { st := if 3 ≤ v.losses + 1 then 5 else 4, losses := v.losses + 1 }
          if x = 8 then s else dieLost s x
      else if v.st = 3 then
        if 3 ≤ v.losses + 1 then loopFailed s x loop (v.losses + 1)
        else s.setLoop x loop { st := 4, losses := v.losses + 1 }
      else s
    else s)

end Sys2Proof.Machine
end

