-- ==== Sys2Proof/Machine/Fault.lean ====
section
/-!
DEFINITION. The fault supervisor: ring lanes, evaluator tests, phase audit and input-path tests, hub restarts, the
tarnish word and its log, ternary capture (R518 to R546, R587 to R589).
-/
namespace Sys2Proof.Machine

/-! ## Ring lanes (R26, R523) -/

/-- The contexts that hold a stream on a link direction, the one armed last first. -/
def State.onLink (s : State) (i : Nat) (down : Bool) : List Nat :=
  ((sortBy (fun c : Nat × Ctx => c.2.armAt) (s.ctxs.filter fun c => c.2.bound &&
    (c.2.streams.flatMap (streamLinks s.D)).contains (i, down))).map Prod.fst).reverse

/-- Streams that a link direction carries. -/
def State.dirLoad (s : State) (i : Nat) (down : Bool) : Nat := s.ringLoad.count (i, down)

/-- A context that held the streams `qs` is routed anew; one that has no route is Suspended, which waits for a restart of either
pair to end (R528, R533). -/
def shedCtx (qs : List Stream) (s : State) (c : Nat) : State :=
  match s.ctx c with
  | some x => if s.restarting ∧ (s.rebinding c x).isNone then s.setCtx c { x with streams := qs } else rebindFrom qs s c
  | none => s

/-- Streams of context `c` on a link direction. -/
def State.ctxLoad (s : State) (c i : Nat) (down : Bool) : Nat :=
  (((s.ctx c).elim [] Ctx.streams).flatMap (streamLinks s.D)).count (i, down)

/-- The contexts that leave a direction which carries `over` streams too many: of those given, the first that hold as many. -/
def State.leavers (s : State) (i : Nat) (down : Bool) : Nat → List Nat → List Nat
  | _, [] => []
  | k, c :: r => if k = 0 then [] else c :: s.leavers i down (k - s.ctxLoad c i down) r

/-- Contexts leave the directions that carry more streams than they may, the one armed last first; all that leave release their
streams before the first is routed again (R159, R523). -/
def shedDirs (s : State) (ds : List (Nat × Bool)) : State :=
  let cs := uniq (ds.flatMap fun (i, down) => s.leavers i down (s.dirLoad i down - s.dirCap i down) (s.onLink i down))
  let cs := (sortBy (fun c => ((s.ctx c).elim 0 Ctx.armAt)) cs).reverse
  cs.foldl (fun t c => shedCtx ((s.ctx c).elim [] Ctx.streams) t c) (dropStreams s cs)

/-- Every direction sheds the streams that it may not carry (R523). -/
def shedAll (s : State) : State := shedDirs s ((List.range (2 * s.D)).map fun k => (k / 2, k % 2 == 1))

/-- A further lane of direction `k` has failed (R523): the spare replaces the first, four lanes run after the second,
and the link is down after the third. -/
def laneFail (s : State) (k : Nat) : State :=
  let n := (kvGet s.faults.linkFail k).getD 0 + 1
  let i := k / 2
  let s := { s with faults := { s.faults with linkFail := kvPut s.faults.linkFail k n } }
  if n ≤ 2 then
    let s := tarnish s 4 0xFF 0xFF 0
    if n = 2 then shedDirs s [(i, k % 2 == 1)] else s
  else
    let s := { s with faults := { s.faults with downLinks := i :: s.faults.downLinks.filter (· ≠ i) } }
    shedDirs (tarnish s 5 0xFF 0xFF 0) [(i, false), (i, true)]

/-- FLIT_CRC_FAIL (R26, R523, R543): a flit of direction `k` fails its CRC on a lane, and is replayed. -/
def execFlitCrcFail (k lane : Nat) (s : State) : Host.Outcome State Fault Refusal :=
  done (if k < 2 * s.D ∧ lane < 6 ∧ s.running ∧ !s.faults.downLinks.contains (k / 2) then
      let s := (s.countSat 0 (O.LINK_CRC_k + k) 32).countSat 0 (O.LINK_REPLAYS_k + k) 32
      let live := s.faults.lanes.filter fun e => decide (s.now ≤ e.2.2 + msTicks)
      let all := live ++ [(k, lane, s.now)]
      let hits := all.countP fun e => e.1 == k && e.2.1 == lane
      if s.num O.LANE_FAIL_LIMIT ≤ hits then
        laneFail { s with faults := { s.faults with
          lanes := all.filter fun e => !(e.1 == k && e.2.1 == lane) } } k
      else { s with faults := { s.faults with lanes := all } }
    else s)

/-! ## Evaluator tests (R524, R525, R531, R533) -/

/-- A context bound to a failed evaluator is bound again, or Suspended with cause 4 (R533). -/
def evalLost (s : State) (c : Nat) : State :=
  if s.num O.EVAL_FAIL_ACTION = 0 then suspendCtx s c 4
  else
    let qs := (s.ctx c).elim [] Ctx.streams
    let free := s.modCtx c fun x => { x with evals := [], partners := [], partnerServed := [], streams := [] }
    match free.bind c with
    | .inl b =>
      (reroute s c qs b).modCtx c fun x => { x with ev := x.ev.gap, homeDie := b.evals.headD 0 / 8 }
    | .inr _ => suspendCtx s c 4

/-- Evaluator `v` is failed (R524, R531, R533). -/
def evalFail (s : State) (v : Nat) : State :=
  let hit := s.ctxs.find? fun c => c.2.bound && (c.2.evals ++ c.2.partners).contains v
  let ctx := match hit with | some (c, _) => c | none => 0xFFFF
  let s := { s with faults := { s.faults with
    evalFailed := v :: s.faults.evalFailed, pairTest := s.faults.pairTest.filter fun g => !g.2.contains v } }
  let s := tarnish s 20 (v / 8) 0xFF v 0xFF41
  let s := suspect s 4 (v / 8) (s.inputByte (v / 8)) v ctx ((kvGet s.faults.lastPass v).getD s.power.startFrom) (s.cycle + 48)
  match hit with
  | some (c, _) => evalLost s c
  | none => s

/-- Evaluator `v` passed its test window; a mismatch whose evaluators all pass is logged (R525). -/
def evalPass (s : State) (v : Nat) : State :=
  let span := s.num O.EVAL_TEST_MS * msTicks / 8
  let gs := s.faults.pairTest.map fun g => (g.1, g.2.filter (· ≠ v))
  let s := { s with faults := { s.faults with
    lastPass := kvPut s.faults.lastPass v (s.now - span), pairTest := gs.filter fun g => g.2 != [] } }
  (gs.filter fun g => g.2 == []).foldl (fun s g => tarnish s 21 (g.1 / 8) 0xFF g.1 0xFF41) s

/-- The end of a test window of evaluator `e` of die `d`; `checkOk` is the outcome of the stored patterns on the check
evaluator where the window disagreed (R524). A mismatch of a pair has both tested at once, whatever SELFTEST_ENABLE holds
(R525). A failure found during a restart waits for it (R528). -/
def evalTest (s : State) (d e : Nat) (agree checkOk : Bool) : State :=
  let st := (s.die d).st
  if d < s.D ∧ e < 8 ∧ s.running ∧ (s.num O.SELFTEST_ENABLE = 1 ∨ s.faults.pairTest.any fun g => g.2.contains (8 * d + e))
      ∧ (st = .active ∨ st = .reserve) ∧ !s.faults.checkFailed.contains d ∧ !s.faults.evalFailed.contains (8 * d + e) then
    if agree then evalPass s (8 * d + e)
    else if s.restarting then { s with faults := { s.faults with evalHeld := s.faults.evalHeld ++ [(d, e, checkOk)] } }
    else if checkOk then evalFail s (8 * d + e)
    else tarnish { s with faults := { s.faults with checkFailed := d :: s.faults.checkFailed } } 20 d 0xFF 0xFF 0xFF41
  else s

/-- EVAL_TEST_WINDOW_END (R524, R525). -/
def execEvalTestWindowEnd (d e : Nat) (agree checkOk : Bool) (s : State) : Host.Outcome State Fault Refusal :=
  done (evalTest s d e agree checkOk)

/-! ## Phase audit and input-path tests (R529, R530, R587 to R589) -/

/-- A fault of the input path of input `n` (R529, R531). -/
def pathFault (s : State) (d n detail : Nat) : State :=
  let s := tarnish s 22 d n 0
  suspect s 5 d n detail 0xFFFF ((kvGet s.faults.inputPass n).getD s.power.startFrom) (s.cycle + 48)

/-- The input path of input `n` passed a window or a test that took `ticks`. -/
def pathPass (s : State) (n ticks : Nat) : State :=
  { s with faults := { s.faults with inputPass := kvPut s.faults.inputPass n (s.now - ticks) } }

/-- PHASE_AUDIT_WINDOW_END (R530): one of the eight 75 µs windows of die `d`, while it has a spare. -/
def execPhaseAuditWindowEnd (d : Nat) (a : AuditWindow) (s : State) : Host.Outcome State Fault Refusal :=
  let x := s.die d
  let ph := (kvGet s.faults.phases d).getD 0
  done (if d < s.D ∧ s.running ∧ s.num O.SELFTEST_ENABLE = 1 ∧ (x.st = .active ∨ x.st = .reserve) ∧ x.measuring = false
      ∧ x.gap = false ∧ x.spares ≠ [] then
      let s := { s with faults := { s.faults with phases := kvPut s.faults.phases d ((ph + 1) % 8) } }
      match s.inputOfDie d, shadowCause a with
      | some n, some _ => pathFault s d n ph
      | some n, none => pathPass s n 3000000
      | none, _ => s
    else s)

/-- INPUT_TEST_DUE (R530, R537, R589): INPUT_TEST_S has passed on input `n`. -/
def execInputTestDue (n : Nat) (s : State) : Host.Outcome State Fault Refusal :=
  done (if s.fitted n ∧ s.running ∧ s.num O.SELFTEST_ENABLE = 1 then
      if s.test.isSome ∨ s.testNext.isSome then
        if s.testDue.contains n then s else { s with testDue := s.testDue ++ [n] }
      else startTest s n false
    else s)

/-- INPUT_TEST_DONE (R529, R587): `failStep` is the first step that failed. -/
def execInputTestDone (failStep : Option Nat) (s : State) : Host.Outcome State Fault Refusal :=
  done (match s.test with
    | none => s
    | some t =>
      let n := t.input
      let s := { s with test := none }
      let s := match failStep with
        | none => pathPass (s.put (O.PTEST_RESULT_n + n) 1) n (2 * msTicks)
        | some k =>
          let (v, s) := s.free
          pathFault (s.put (O.PTEST_RESULT_n + n) (ofN (k % 256 * 256 + 2))) 0xFF n (v.toNat % 65536)
      nextTest s)

/-- A write of PTEST_CMD (R588). -/
def ptestWrite (s : State) (p : Nat) (v : Slot) : Acc :=
  let n := v.toNat
  stewardOnly s p fun s => need (s.fitted n) .range s fun s =>
    let commanded : Bool := match s.test with | some t => t.commanded | none => false
    need (!(s.busyInput n) && !commanded && s.testNext.isNone && s.running) .presentState s fun s =>
      .ok (if s.test.isSome then { s with testNext := some n } else startTest s n true)

/-- PTEST_CMD (R588). -/
def execPtestCmd (p : Nat) (v : Slot) (s : State) : Host.Outcome State Fault Refusal :=
  done (access s p O.PTEST_CMD fun s => ptestWrite s p v)

/-! ## Hub restarts (R424, R528) -/

/-- LOCKSTEP_MISMATCH (R528): a pair's firmware restarts. The entry and the bit set at once; the emergency of the control
pair is sent when its restart ends (R473). -/
def execLockstepMismatch (supervisor : Bool) (s : State) : Host.Outcome State Fault Refusal :=
  done (if s.awake then
      let s := if supervisor then s else s.flag 0 O.DEVICE_STATUS 5
      let s := pulse (tarnishEntry s 16 0xFF 0xFF (b2n supervisor) (if supervisor then 0 else 0xFF40)) 7 0 0
      if supervisor then { s with supRestart := true }
      else { s with hubRestart := true, faults := { s.faults with hubMismatch := true } }
    else s)

/-- The state an outcome leads to. -/
def outState (s : State) : Host.Outcome State Fault Refusal → State
  | .next t => t
  | _ => s

/-- A supervisor action that waited for a restart (R528). -/
def runDeferred (s : State) (i : Instr) : State :=
  match i with
  | .dieLost d => dieLost s d
  | .wearoutBoundary d => outState s (execWearoutBoundary d s)
  | .calSliceMeasured d m => outState s (execCalSliceMeasured d m s)
  | .stagingStall d stall => failPc s d stall.pc
  | .internalOscFail => if s.power.noRef then suspendAll s else s
  | _ => s

/-- What waited for the control pair's restart is answered with the service-unavailable code: recorded accesses, running
mailbox requests, and on path 32 the USDO abort (R424, R469). -/
def answerMet (s : State) (met : List (Nat × Nat × Nat)) : State :=
  let code := Abort.service.code.toNat
  let answer (s : State) (m : Nat × Nat × Nat) : State :=
    let s := recordAbort s m.1 m.2.1 m.2.2 .service
    if m.1 = 32 then canSend s (0x580 + s.can.nodeId) (leBytes 1 0x80 ++ leBytes 4 code) else s
  let mail (s : State) (m : Nat × Mailbox) : State :=
    if m.2.busy then
      let s := recordAbort s (16 + m.1) (fld m.2.request 32 24) (fld m.2.request 56 8) .service
      { s with mailboxes := kvPut s.mailboxes m.1 { m.2 with busy := false, result := ofN code } }
    else s
  s.mailboxes.foldl mail (met.foldl answer s)

/-- HUB_RESTART_DONE (R424, R473, R528, R589): accesses that met the restart are recorded with the service-unavailable
code; monitor entries and supervisor actions that waited proceed. -/
def execHubRestartDone (s : State) : Host.Outcome State Fault Refusal :=
  done (if s.restarting then
      let control := s.hubRestart
      let met := s.missed
      let acts := s.deferred
      let held := s.faults.held
      let evals := s.faults.evalHeld
      let s := { s with hubRestart := false, supRestart := false, missed := [], deferred := [] }
      let s := { s with faults := { s.faults with held := [], evalHeld := [] } }
      let s := if control then emcy (answerMet s met) 0xFF40 0xFF 0xFF 0 else s
      -- the entries that waited set in one core cycle, in ascending bit order (R540)
      let held := (List.range 30).flatMap fun b => held.filter fun h => h.1 == b
      let s := held.foldl (fun s h => tarnish s h.1 h.2.1 h.2.2.1 h.2.2.2.1 h.2.2.2.2) s
      shedAll (evals.foldl (fun s h => evalTest s h.1 h.2.1 false h.2.2) (acts.foldl runDeferred s))
    else s)

/-! ## Detect-only elements, the tarnish word and its log (R518, R520, R534 to R536) -/

/-- POWER_PHASE_FAIL (R520, R535): a supply phase fails and is masked by N+1 phases. -/
def execPowerPhaseFail (_phase : Nat) (s : State) : Host.Outcome State Fault Refusal :=
  done (if s.awake then tarnish s 17 0xFF 0xFF 0 else s)

/-- The bits of TARNISH a write of one clears: all but ABSMAX (R535). -/
def tarnishMask : Nat := 0x1FFFFFFF

/-- A write of TARNISH: bits written as one clear, and every event of them closes (R13, R534); a bit that set in this very core
cycle stays set, with the new event open (R540). -/
def tarnishPolish (s : State) (p : Nat) (v : Slot) : Acc :=
  stewardOnly s p fun s =>
    let before := s.errorRegister
    let asked (b : Nat) : Bool := bit (v &&& ofN tarnishMask) b
    let fresh (b : Nat) : Bool := kvGet s.faults.setIn b == some s.cycle
    let gone := maskOf ((List.range 29).filter fun b => asked b && !fresh b)
    let s := s.put O.TARNISH (polish (s.get O.TARNISH) (ofN gone) tarnishMask)
    .ok (emcyEnd before { s with faults := { s.faults with
      openEvents := s.faults.openEvents.filter fun e => !asked e.1 || fresh e.1 && e.2 == s.cycle
      hubMismatch := s.faults.hubMismatch && !gone.testBit 16 } })

/-- TARNISH_POLISH (R534). -/
def execTarnishPolish (p : Nat) (v : Slot) (s : State) : Host.Outcome State Fault Refusal :=
  done (access s p O.TARNISH fun s => tarnishPolish s p v)

/-- FLOG_FLUSH (R536): the entries that wait are written to module flash. -/
def execFlogFlush (s : State) : Host.Outcome State Fault Refusal :=
  done (if s.dev = .off ∨ s.dev = .deep then s else flushLog s)

/-- FAULTS_OPEN (R534). -/
def State.faultsOpen (s : State) : Nat := min 255 s.faults.openEvents.length

/-- GUARANTEE (R518, R519, R542). -/
def State.guarantee (s : State) : Nat :=
  let ratings := !bit (s.get O.TARNISH) 29
  let post := !bit (s.get O.TARNISH) 28
  let selftest := s.num O.AUDIT_ENABLE == 1 && s.num O.SELFTEST_ENABLE == 1
  let scrub := s.num O.MEM_SCRUB_ENABLE == 1
  let clear := s.faultsOpen == 0
  b2n ratings + 2 * b2n post + 4 * b2n selftest + 8 * b2n scrub + 16 * b2n clear
    + 32 * b2n (ratings && post && selftest && scrub && clear)

/-- One fault-log entry as FLOG returns it (R536). -/
def LogEntry.bytes (e : LogEntry) : List Byte :=
  leBytes 8 (tmOf e.tm).toNat ++ leBytes 2 (e.tm / 2 ^ 55) ++ leBytes 1 e.bit ++ leBytes 1 (b2n !e.fault)
    ++ leBytes 1 e.die ++ leBytes 1 e.input ++ leBytes 1 e.state ++ leBytes 1 0 ++ leBytes 2 e.emcy
    ++ leBytes 2 e.detail ++ leBytes 4 e.seq ++ leBytes 8 0

/-! ## Ternary capture (R545, R546) -/

/-- The stream CAP_SELECT names, where a context's binding routes it. -/
def State.capStream (s : State) : Option Capture :=
  let v := s.get O.CAP_SELECT
  let c := fld v 16 12
  let d := fld v 8 4
  let pair := fld v 0 8
  match s.ctx c with
  | none => none
  | some x =>
    let k := s.bindKind c
    let t := s.cN c O.TRIG_TYPE
    let src : Option Nat :=
      if pair = 0 then (if t = 7 then none else some (s.cN c O.TRIG_SOURCE))
      else if pair = 1 then (if k = 2 then some (s.cN c O.SEQ_B_SOURCE) else none)
      else if pair ≤ 9 ∧ k = 1 ∧ (s.watched c).contains (pair - 2) ∧ ¬ (t = 8 ∧ s.cN c O.TRIG_SOURCE = pair - 2)
        then some (pair - 2) else none
    let dst := x.evals.getD (if pair = 1 then 1 else 0) 0 / 8
    match src with
    | none => none
    | some n =>
      if x.bound && decide (n < 8) && (s.senders n dst).contains d && x.streams.any (fun q => q.src == d && q.dst == dst) then
        some { ctx := c, die := d, src := n, second := pair == 1, dst }
      else none

/-- A write of CAP_CMD: 1 start, 2 cancel (R545). -/
def capCmd (s : State) (p : Nat) (v : Slot) : Acc :=
  stewardOnly s p fun s => need (v == 1 || v == 2) .range s fun s =>
    if v = 1 then
      need (s.num O.CAP_STATE == 0 || s.num O.CAP_STATE == 3 || s.num O.CAP_STATE == 4) .presentState s fun s =>
        let s := { s.setBlob 0 O.CAP_DATA [] with faults := { s.faults with capture := s.capStream } }
        .ok (s.put O.CAP_STATE (if s.faults.capture.isSome then 1 else 4))
    else .ok ({ s.setBlob 0 O.CAP_DATA [] with faults := { s.faults with capture := none } }.put O.CAP_STATE 0)

/-- CAP_START (R545). -/
def execCapStart (p : Nat) (s : State) : Host.Outcome State Fault Refusal :=
  done (access s p O.CAP_CMD fun s => capCmd s p 1)

/-- CAP_CANCEL (R545). -/
def execCapCancel (p : Nat) (s : State) : Host.Outcome State Fault Refusal :=
  done (access s p O.CAP_CMD fun s => capCmd s p 2)

/-- Samples of the next sheet of a stream that lie before the first core-cycle boundary within it at which a byte begins, none
where there is no such boundary: with `phase` trits in the incomplete byte a byte begins with the sheet, or, for a Half-rate
stream of 24 trits a core cycle, with the sheet's second core cycle (R30, R158). -/
def capSkip (half : Bool) (phase : Nat) : Option Nat :=
  if phase = 0 then some 0 else if half ∧ (phase + 24) % 5 = 0 then some 24 else none

/-- The instant of the first trit captured, in grains (R545). -/
def State.capFirst (s : State) (k : Capture) (skip : Nat) : Nat :=
  s.nextLine k.src * 480 + (48 * ((s.input k.src).members.findIdx? (· == k.die)).getD 0 + skip) * s.period k.src

/-- CAP_BEGIN (R30, R545): the next core cycle at which a byte of the stream begins. A void first sample repeats the last trit of
the stream (R29). -/
def execCapBegin (s : State) : Host.Outcome State Fault Refusal :=
  done (match s.faults.capture with
    | some k =>
      match s.ctx k.ctx with
      | some x =>
        match capSkip (s.halfRate k.src) ((kvGet x.phase (linkKey k.die k.dst)).getD 0) with
        | some skip =>
          if s.num O.CAP_STATE = 1 ∧ s.capLive k = true then
            let last := (kvGet x.recv (streamKey (if k.second then 16 + k.src else k.src) k.die)).getD 1
            let t := s.capFirst k skip
            let s := { s with faults := { s.faults with capture := some { k with running := true, last, skip } } }
            ((s.put O.CAP_STATE 2).put O.CAP_TM (tmOfGrains t)).put O.CAP_WRAP (ofN (wrapOfGrains t))
          else s
        | none => s
      | none => s
    | none => s)

/-- The bytes of a stream that ends: the last one completed with trit 1, and idle fill of a free length before it (R30,
log 3). -/
def capLast (s : State) (k : Capture) : List Byte × State :=
  if k.trits = [] then (k.bytes, s)
  else
    let (v, s) := s.free
    (k.bytes ++ List.replicate (v.toNat % 4097) 0xFF#8 ++ [packTrits k.trits], s)

/-- CAP_END (R30, R545): 4,096 bytes are recorded, or the stream was released and its last byte is completed; a capture that
still waits when its stream is released ends with none. -/
def execCapEnd (s : State) : Host.Outcome State Fault Refusal :=
  done (match s.faults.capture with
    | some k =>
      if (s.num O.CAP_STATE = 1 ∨ s.num O.CAP_STATE = 2) ∧ (4096 ≤ k.bytes.length ∨ !s.capLive k) then
        let (bs, s) := if 4096 ≤ k.bytes.length then (k.bytes, s) else capLast s k
        let s := s.setBlob 0 O.CAP_DATA (bs.take 4096)
        { s with faults := { s.faults with capture := none } }.put O.CAP_STATE 3
      else s
    | none => s)

end Sys2Proof.Machine
end

