-- ==== Sys2Proof/Machine/Boot.lean ====
section
/-!
DEFINITION. Starts and what they reset, firmware banks and update, measurements, the hallmark's reports and SPDM
(R96 to R105, R424 to R426, R442, R547 to R572).
-/
namespace Sys2Proof.Machine

/-! ## Banks and images (R549 to R551, R566) -/

/-- Bank `i`. -/
def State.bank (s : State) (i : Nat) : FwBank := s.fw.banks.getD i {}

/-- The fused rollback counter of a KIND. -/
def State.rollbackOf (s : State) (k : Nat) : Nat := s.fw.rollback.getD (k - 1) 0

/-- Whether every image of a bank is still valid by R550: complete, its root slot not revoked, its ROLLBACK not below
the fused counter. -/
def State.bankValid (s : State) (i : Nat) : Bool :=
  let b := s.bank i
  b.valid && b.images.length == 6 &&
    b.images.all fun x => !s.fw.revoked.contains x.slot && decide (s.rollbackOf x.kind ≤ x.rollback)

/-- An image of the bank in force. -/
def State.image (s : State) (k : Nat) : FwImage :=
  ((s.bank s.fw.inForce).images.find? fun x => x.kind == k).getD
    { kind := k, slot := 0, rollback := 0, version := 0, digest := [] }

/-- ROLLBACK_PENDING (R566, R568). -/
def State.rollbackPending (s : State) : Bool :=
  !s.fw.fallback && (s.bank s.fw.inForce).images.any fun x => decide (s.rollbackOf x.kind < x.rollback)

/-! ## Measurements (R559, R560) -/

/-- The values of 2901:01 to 2901:0A. -/
def State.versions (s : State) : List Nat :=
  (s.bank s.fw.inForce).release :: (List.range 6).map (fun k => (s.image (k + 1)).version) ++ [0x4103, 0x4202, 0x4300]

/-- ROOT_REVOKED. -/
def State.rootRevoked (s : State) : Nat := maskOf s.fw.revoked

/-- Measurement `i`, 1 to 9 (R559). -/
def State.measure (s : State) (i : Nat) : List Byte :=
  if i ≤ 6 then (s.image i).digest
  else if i = 7 then
    if s.astore.image = [] then List.replicate 64 0#8 else Config.sha3 s.astore.image
  else if i = 8 then Config.sha3 (s.versions.flatMap (leBytes 8))
  else Config.sha3 (([s.fw.inForce, (s.image 1).slot] ++ s.fw.rollback ++ [s.rootRevoked, s.num O.SEC_LOCKS]).flatMap
    (leBytes 8))

/-- The nine measurements. -/
def State.measures (s : State) : List (List Byte) := (List.range 9).map fun i => s.measure (i + 1)

/-- ATTEST_MEAS (R559). -/
def State.aggregate (s : State) : List Byte := Config.sha3 (s.measures.flatMap id)

/-- ATTEST_GEN rises where a measurement changed (R560). -/
def measured (old s : State) : State :=
  if old.measures = s.measures then s else s.countWrap 0 O.ATTEST_GEN 32

/-! ## Packages (R549, R550, R562, R564) -/

/-- Bytes `a` to `a + n − 1` of a byte string. -/
def slice (b : List Byte) (a n : Nat) : List Byte := (b.drop a).take n

/-- An image of a package, before it is checked: its header, its payload as it stands, and its plaintext. -/
structure PkgImage where
  head : List Byte
  payload : List Byte
  deriving DecidableEq, Repr

/-- The images of a package from offset `o`, each padded to a multiple of 64 bytes (R562). -/
def pkgImages (b : List Byte) : Nat → Nat → List PkgImage
  | 0, _ => []
  | n + 1, o =>
    let head := slice b o 7296
    let len := leNat (slice head 12 4)
    { head, payload := slice b (o + 7296) len } :: pkgImages b n (o + (7296 + len + 63) / 64 * 64)

/-- Field of one byte of an image header. -/
def PkgImage.byte (x : PkgImage) (k : Nat) : Nat := leNat (slice x.head k 1)

/-- The plaintext of an image: of a privileged one under K_DEL, none where its tag fails (R551, R562). -/
def PkgImage.plain (x : PkgImage) : Option (List Byte) :=
  if x.byte 4 = 2 ∨ x.byte 4 = 3 then
    Config.gcmOpen Config.deliveryKey (slice x.head 0 16 ++ slice x.head 16 28 ++ x.payload)
  else some x.payload

/-- The signed message of an image (R550). -/
def PkgImage.message (x : PkgImage) : List Byte :=
  slice x.head 0 16 ++ slice x.head 44 2612 ++ Config.sha3 (x.plain.getD [])

/-- Whether an image is well formed by the header rules: magic, length, its payload inside the package (R549). -/
def PkgImage.framed (x : PkgImage) : Bool :=
  let n := leNat (slice x.head 12 4)
  leNat (slice x.head 0 4) == 0x4D495A53 && decide (64 ≤ n ∧ n ≤ 8388608) && x.payload.length == n

/-- The package header and CRC of R562. -/
def pkgFrameOk (b : List Byte) (limit : Nat) : Bool :=
  let total := leNat (slice b 12 4)
  leNat (slice b 0 4) == 0x4B505A53 && leNat (slice b 4 2) == 1 && leNat (slice b 6 1) == 6
    && decide (64 ≤ total ∧ total ≤ 0x2000000 ∧ total ≤ limit)
    && (crc32 (slice b 0 60 ++ slice b 64 (total - 64))).toNat == leNat (slice b 60 4)

/-- Verify (R564): the first failing condition, or the package as a bank. -/
def State.pkgCheck (s : State) (b : List Byte) (limit : Nat) : FwBank ⊕ Nat :=
  let xs := pkgImages b 6 64
  if !pkgFrameOk b limit then .inr 1
  else if !(xs.all PkgImage.framed) || xs.map (fun x => x.byte 4) != [1, 2, 3, 4, 5, 6] then .inr 2
  else if xs.any fun x => x.plain.isNone then .inr 3
  else if xs.any fun x => decide (3 < x.byte 5) || s.fw.revoked.contains (x.byte 5)
      || Config.sha3 (slice x.head 64 2592) != Config.rootHash (x.byte 5) then .inr 4
  else if xs.any fun x => !Config.mldsaVerify (slice x.head 64 2592) x.message (slice x.head 2656 4627) then .inr 5
  else if xs.any fun x => decide (x.byte 6 < s.rollbackOf (x.byte 4)) then .inr 6
  else .inl
    { valid := true, release := leNat (slice b 8 4)
      images := xs.map fun x =>
        { kind := x.byte 4, slot := x.byte 5, rollback := x.byte 6, version := leNat (slice x.head 8 4)
          digest := Config.sha3 x.message, revokeLower := x.byte 4 == 1 && x.byte 7 / 2 % 2 == 1 } }

/-! ## Update commands (R563 to R566) -/

/-- Frees the staging buffer. -/
def freeStaging (s : State) : State :=
  (freeBuf s (s.num O.FW_HANDLE)).put O.FW_HANDLE 0xFFFFFFFF

/-- Cancels a pending install (R563). -/
def cancelInstall (s : State) : State :=
  if s.num O.FW_STATE = 5 then
    { s.put O.FW_PENDING 0 with fw := { s.fw with cur := s.fw.inForce, trial := false } }
  else s

/-- Whether the staging buffer stays with an opener that is no longer the steward: the new one may open anew (R568). -/
def State.stagingOfOther (s : State) (p : Nat) : Bool :=
  s.num O.FW_STATE == 1 && (match kvGet s.bufs (s.num O.FW_HANDLE) with | some b => b.owner != ownerOf p | none => false)

/-- Open (R563, R568). -/
def fwOpen (s : State) (p : Nat) : Acc :=
  need (([0, 5, 6].contains (s.num O.FW_STATE) || s.stagingOfOther p) && !bit (s.get O.SEC_LOCKS) 1) .presentState s fun s =>
    let t := freeStaging (cancelInstall s)
    match allocBuf t (ownerOf p) .firmware (s.num O.FW_PKG_BYTES) with
    | none => (s, some .resource)
    | some (h, t) =>
      .ok (((t.put O.FW_HANDLE (ofN h)).put O.FW_ERR 0).put O.FW_STATE 1)

/-- A write of FW_CMD (R563). -/
def fwCmd (s : State) (p : Nat) (v : Slot) : Acc :=
  stewardOnly s p fun s => need (decide (1 ≤ v.toNat ∧ v.toNat ≤ 5)) .range s fun s =>
    let st := s.num O.FW_STATE
    match v.toNat with
    | 1 => fwOpen s p
    | 2 => need (st == 1) .presentState s fun s => .ok (s.put O.FW_STATE 2)
    | 3 => need (st == 3) .presentState s fun s =>
        let k := 1 - s.fw.inForce
        let b := { s.bank k with valid := false }
        .ok ({ s with fw := { s.fw with banks := s.fw.banks.set k b } }.put O.FW_STATE 4 |>.put O.FW_PROGRESS 0)
    | 4 => need ([1, 3, 5, 6].contains st) .presentState s fun s =>
        .ok ({ freeStaging (cancelInstall s) with fw := { (cancelInstall s).fw with pkg := none } }.put O.FW_STATE 0)
    | _ => need (st == 0 && s.rollbackPending) .presentState s fun s =>
        let bank := s.bank s.fw.inForce
        let up (k r : Nat) : Nat := max r ((bank.images.find? fun x => x.kind == k + 1).map FwImage.rollback |>.getD 0)
        let rb := ((List.range 6).zip s.fw.rollback).map fun q => up q.1 q.2
        let boot := s.image 1
        let rev := if boot.revokeLower then sortN (uniq (s.fw.revoked ++ List.range boot.slot)) else s.fw.revoked
        .ok (measured s { s with fw := { s.fw with rollback := rb, revoked := rev } })

/-- FW_OPEN (R563). -/
def execFwOpen (p : Nat) (s : State) : Host.Outcome State Fault Refusal :=
  done (access s p O.FW_CMD fun s => fwCmd s p 1)

/-- FW_VERIFY (R563). -/
def execFwVerify (p : Nat) (s : State) : Host.Outcome State Fault Refusal :=
  done (access s p O.FW_CMD fun s => fwCmd s p 2)

/-- FW_VERIFY_DONE (R564): the package in the staging buffer has been read, each unit with a free outcome of its check (R297,
R298, log 80), and checked. -/
def execFwVerifyDone (s : State) : Host.Outcome State Fault Refusal :=
  done (if s.num O.FW_STATE = 2 ∧ s.awake then
      let n := s.num O.FW_PKG_BYTES
      let size := (s.handleSize (s.num O.FW_HANDLE)).getD 0
      let s := match kvGet s.bufs (s.num O.FW_HANDLE) with
        | some b =>
          let units := spanUnits (capAddr b.die b.off) size
          let (es, s) := freeChecks s units
          (readUnits s units es).2
        | none => s
      match s.pkgCheck (s.handleRead (s.num O.FW_HANDLE) 0 size).1 (min n size) with
      | .inl b => { (s.put O.FW_STATE 3).put O.FW_ERR 0 with fw := { s.fw with pkg := some b } }
      | .inr e => (s.put O.FW_STATE 6).put O.FW_ERR (ofN e)
    else s)

/-- FW_INSTALL (R563). -/
def execFwInstall (p : Nat) (s : State) : Host.Outcome State Fault Refusal :=
  done (access s p O.FW_CMD fun s => fwCmd s p 3)

/-- FW_INSTALL_DONE (R563 to R565): the bank is written, or a flash write failed. -/
def execFwInstallDone (writeOk : Bool) (s : State) : Host.Outcome State Fault Refusal :=
  done (match s.fw.pkg with
    | some b =>
      if s.num O.FW_STATE = 4 ∧ s.awake then
        if writeOk then
          let k := 1 - s.fw.inForce
          let fw := { s.fw with banks := s.fw.banks.set k b, cur := k, trial := true, pkg := none }
          (((freeStaging { s with fw }).put O.FW_STATE 5).put O.FW_PENDING (ofN b.release)).put O.FW_PROGRESS 100
        else (s.put O.FW_STATE 6).put O.FW_ERR 7
      else s
    | none => s)

/-- FW_DISCARD (R563). -/
def execFwDiscard (p : Nat) (s : State) : Host.Outcome State Fault Refusal :=
  done (access s p O.FW_CMD fun s => fwCmd s p 4)

/-- FW_ACCEPT (R566). -/
def execFwAccept (p : Nat) (s : State) : Host.Outcome State Fault Refusal :=
  done (access s p O.FW_CMD fun s => fwCmd s p 5)

/-! ## Reports (R561) -/

/-- ATTEST_NONCE as it stands. -/
def State.nonce (s : State) : List Byte :=
  let b := s.blob 0 O.ATTEST_NONCE
  if b = [] then List.replicate 32 0#8 else b

/-- A write of ATTEST_CMD (R561). -/
def attestWrite (s : State) (p : Nat) (v : Slot) : Acc :=
  need (ObjTy.u8.fits v) .range s fun s => need (s.num O.ATTEST_STATE != 1) .presentState s fun s =>
    .ok (if v = 1 then
      { s.put O.ATTEST_STATE 1 with fw := { s.fw with attest := some { owner := ownerOf p, nonce := s.nonce } } }
    else s)

/-- ATTEST_CMD (R561). -/
def execAttestCmd (p : Nat) (v : Slot) (s : State) : Host.Outcome State Fault Refusal :=
  done (access s p O.ATTEST_CMD fun s => attestWrite s p v)

/-- The signed report (R561). -/
def State.report (s : State) (a : Attest) : List Byte :=
  let body := leBytes 4 0x54415A53 ++ leBytes 2 1 ++ leBytes 1 a.owner ++ leBytes 1 0 ++ leBytes 8 Config.serial.toNat
    ++ leBytes 8 (tmOf s.now).toNat ++ leBytes 2 s.wraps.toNat ++ leBytes 2 0 ++ leBytes 4 (s.num O.ATTEST_GEN)
    ++ a.nonce ++ s.aggregate ++ s.measures.flatMap id
  body ++ Config.mldsaSign body

/-- The report that waits is signed. -/
def reportDone (s : State) : State :=
  match s.fw.attest with
  | some a =>
    ({ s with fw := { s.fw with attest := none } }.setBlob 0 O.ATTEST_REPORT (s.report a)).put O.ATTEST_STATE 2
  | none => s

/-- ATTEST_REPORT_DONE (R561). -/
def execAttestReportDone (s : State) : Host.Outcome State Fault Refusal := done (reportDone s)

/-! ## SPDM (R442, R557 to R559); frames and error codes are those of SPDM 1.2 (log 13) -/

/-- The responder serves one request at a time across all LDs, in arrival order: this one from the instant it is free, for a time
up to 131 ms that no rule states (R442, log 103). -/
def spdmServe (s : State) : State :=
  let (v, s) := s.free
  { s with spdmFree := max s.now s.spdmFree + v.toNat % (131 * msTicks + 1) }

/-- Answers an SPDM request of LD `l` once a report that came before it is done (R442); the exchange joins the
transcript a challenge signs. -/
def spdmAnswer (s : State) (l code : Nat) (request data : List Byte) : State :=
  let s := spdmServe (reportDone s)
  let x := s.ld l
  { s.setLd l { x with transcript := x.transcript ++ request ++ data } with sent := .spdm l code data :: s.sent }

/-- The answer ERROR with an error code. -/
def spdmError (s : State) (l err : Nat) : State :=
  let s := spdmServe (reportDone s)
  { s with sent := .spdm l 0x7F [BitVec.ofNat 8 err] :: s.sent }

/-- Answers where the negotiation has reached the request, else ERROR UnexpectedRequest. -/
def spdmAfter (s : State) (l : Nat) (ok : Bool) (f : State → State) : State :=
  if s.ldAnswers l then if ok then f s else spdmError s l 4 else s

/-- SPDM_GET_VERSION (R442): version 1.2; it starts the negotiation afresh. -/
def execSpdmGetVersion (l : Nat) (s : State) : Host.Outcome State Fault Refusal :=
  done (spdmAfter s l true fun s =>
    let s := s.setLd l { s.ld l with spdmVersion := true, spdmCaps := false, spdmAlgs := false, transcript := [] }
    spdmAnswer s l 0x04 [0x84#8] [0x12#8])

/-- SPDM_GET_CAPABILITIES (R442): CTExponent 17; certificates, challenges and signed measurements, no session. -/
def execSpdmGetCapabilities (l : Nat) (s : State) : Host.Outcome State Fault Refusal :=
  done (spdmAfter s l (s.ld l).spdmVersion fun s =>
    spdmAnswer (s.setLd l { s.ld l with spdmCaps := true }) l 0x61 [0xE1#8] (17#8 :: leBytes 4 0x16))

/-- SPDM_NEGOTIATE_ALGORITHMS (R442, R558): SHA3-512, and ML-DSA-87 as extended algorithm 0x03, 0xA587. -/
def execSpdmNegotiateAlgorithms (l : Nat) (s : State) : Host.Outcome State Fault Refusal :=
  done (spdmAfter s l (s.ld l).spdmCaps fun s =>
    spdmAnswer (s.setLd l { s.ld l with spdmAlgs := true }) l 0x63 [0xE3#8]
      (leBytes 4 0 ++ leBytes 4 0x20 ++ leBytes 1 0x03 ++ leBytes 2 0xA587))

/-- SPDM_GET_DIGESTS (R442, R558): the digest of the chain, slot 0 only. -/
def execSpdmGetDigests (l : Nat) (s : State) : Host.Outcome State Fault Refusal :=
  done (spdmAfter s l (s.ld l).spdmAlgs fun s =>
    spdmAnswer s l 0x01 [0x81#8] (0x01#8 :: Config.sha3 Config.hallmarkChain))

/-- SPDM_GET_CERTIFICATE (R442, R558): a portion of the chain of slot 0 and the length that remains. -/
def execSpdmGetCertificate (l slot off len : Nat) (s : State) : Host.Outcome State Fault Refusal :=
  done (spdmAfter s l (s.ld l).spdmAlgs fun s =>
    if slot = 0 ∧ off ≤ Config.hallmarkChain.length then
      let part := slice Config.hallmarkChain off len
      spdmAnswer s l 0x02 (0x82#8 :: leBytes 2 off ++ leBytes 2 len)
        (leBytes 2 part.length ++ leBytes 2 (Config.hallmarkChain.length - off - part.length) ++ part)
    else spdmError s l 1)

/-- The responder's nonce of 32 bytes, a free value (log 3). -/
def spdmNonce (s : State) : List Byte × State :=
  let (a, s) := s.free
  let (b, s) := s.free
  let (c, s) := s.free
  let (d, s) := s.free
  (leBytes 8 a.toNat ++ leBytes 8 b.toNat ++ leBytes 8 c.toNat ++ leBytes 8 d.toNat, s)

/-- SPDM_CHALLENGE (R442, R557): the hallmark signs the transcript; the responder's nonce is a free value (log 3). -/
def execSpdmChallenge (l slot : Nat) (nonce : List Byte) (s : State) : Host.Outcome State Fault Refusal :=
  done (spdmAfter s l (s.ld l).spdmAlgs fun s =>
    if slot = 0 then
      let (own, s) := spdmNonce (reportDone s)
      let body := Config.sha3 Config.hallmarkChain ++ own ++ s.aggregate
      spdmAnswer s l 0x03 (0x83#8 :: nonce) (body ++ Config.mldsaSign ((s.ld l).transcript ++ nonce ++ body))
    else spdmError s l 1)

/-- The measurement block of index `i` (R559). -/
def State.measBlock (s : State) (i : Nat) : List Byte :=
  [BitVec.ofNat 8 i, if i = 8 then 0x04#8 else if i = 9 then 0x03#8 else 0x01#8] ++ s.measure i

/-- The measurements an index asks for (R559): 0 how many there are, 0xFF all nine. -/
def State.measurements (s : State) (index : Nat) : Option (List Byte) :=
  if index = 0 then some [9#8]
  else if index = 0xFF then some (9#8 :: (List.range 9).flatMap fun i => s.measBlock (i + 1))
  else if index ≤ 9 then some (1#8 :: s.measBlock index)
  else none

/-- SPDM_GET_MEASUREMENTS (R442, R559): with a slot and a nonce the hallmark signs the transcript, slot 0 only. -/
def execSpdmGetMeasurements (l : Nat) (request : MeasRequest) (s : State) : Host.Outcome State Fault Refusal :=
  done (spdmAfter s l (s.ld l).spdmAlgs fun s =>
    let req := [0xE0#8, BitVec.ofNat 8 request.index]
    match s.measurements request.index, request.sign with
    | none, _ => spdmError s l 1
    | some body, none => spdmAnswer s l 0x60 req body
    | some body, some (slot, nonce) =>
      if slot = 0 then
        let (own, s) := spdmNonce (reportDone s)
        spdmAnswer s l 0x60 (req ++ nonce)
          (body ++ own ++ Config.mldsaSign ((s.ld l).transcript ++ req ++ nonce ++ body ++ own))
      else spdmError s l 1)

/-- SPDM_UNSUPPORTED_REQUEST (R442): ERROR UnsupportedRequest. -/
def execSpdmUnsupportedRequest (l _code : Nat) (s : State) : Host.Outcome State Fault Refusal :=
  done (if s.ldAnswers l then spdmError s l 7 else s)

/-! ## What a reset leaves (R424, R425) -/

/-- Whether an object keeps its value over a reset of a kind (R425): flash and fuses always, the always-on domain but
for mains on. -/
def keepsValue (kind : Nat) (key : Nat) : Bool :=
  match findRow (keyIdx key) (key % 256) with
  | some r => (decide (key < 2 ^ 24) || key / 2 ^ 24 == wrapInst 0) && (r.keep == .nv || (r.keep == .aon && kind != 1))
  | none => false

/-- The stored set at a reset: used, not valid, or given up for the defaults (R425, R426). -/
def restoreStored (s : State) (valid older : Bool) : State :=
  let copy := (if valid then s.stored else none).or (if older then s.storedOld else none)
  let s := { s with stored := copy, storedOld := if valid ∧ s.stored.isSome ∧ older then s.storedOld else none }
  let s := if copy.isNone then s.flag 0 O.DEVICE_STATUS 2 else s
  let check (s : State) (kv : Nat × Slot) : State :=
    let ok := match findRow (keyIdx kv.1) (kv.1 % 256) with
      | some r => s.valueOk r (keyIdx kv.1) (kv.1 % 256) kv.2
      | none => false
    if ok then s else (s.put kv.1 (objDefault s.variant kv.1)).flag 0 O.DEVICE_STATUS 4
  if s.storeMarked then s.flag 0 O.DEVICE_STATUS 1
  else match copy with
    -- the values stand together before each is checked: a window's two limits are checked against each other
    | some l => l.foldl check (l.foldl (fun s kv => s.put kv.1 kv.2) s)
    | none => s

/-- Trims a start pass measures: free values (R105, log 3). -/
def startTrims (x : Die) (s : State) : Die × State :=
  x.good.foldl (fun (a : Die × State) sl =>
    let (v, s) := a.2.free
    let t : Trim := { offset := v.toNat % 256, gain := v.toNat / 256 % 256, skew := v.toNat / 65536 % 1024 }
    (a.1.withTrim sl t, s)) (x, s)

/-- Die `d` at a start (R69, R91, R105, R114, R117): its lineup from the failed-slice map, its trims measured afresh. -/
def startDie (s : State) (d : Nat) : State :=
  let x := s.die d
  let y : Die := { failed := x.failed, st := if lineupOf x.f = .none then .retired else .active
                   counterFrom := some s.epochStart, lineupFrom := s.cycle, auditStart := s.now }
  let (y, s) := startTrims (y.deal (lineupOf x.f)) s
  s.setDie d y

/-- Input `n` at a start: Single on its native die, or Dark (R98). -/
def startInput (s : State) (n : Nat) : State := releaseInput (s.setInput n {}) n

/-- A restored alloy is formed where its conditions hold, else its input starts alone and ALLOY_ERR_n holds the reason; size
1 with its native die is no alloy (R98); the die-to-die skew of a formed one is measured (R105). -/
def startAlloy (s : State) (n : Nat) : State :=
  let f := s.num (inObj O.ALLOY_FIRST_n n)
  let m := s.num (inObj O.ALLOY_SIZE_n n)
  if m = 1 ∧ f = n then s
  else match firstErr 1 (s.alloyErrs 0 n f m) with
    | some (e, _) => s.put (inObj O.ALLOY_ERR_n n) (ofN e)
    | none =>
      let s := alloyStart (alloyApply s n (s.span f m)) n
      let ms := (s.input n).members
      let (ts, s) := ms.foldl (fun (a : List Nat × State) _ =>
        let (v, s) := a.2.free
        (a.1 ++ [v.toNat % 1024], s)) ([], s)
      loadSkew { s with skewSets := s.trimSkew ((ms, ts) :: s.skewSets.filter fun q => q.1 != ms) } ms

/-- The integrator image at a start (R556). -/
def startStore (s : State) : State :=
  match s.astore.flash with
  | none => { s with astore := {} }
  | some b =>
    match imgCheck b with
    | none => { s with astore := { ({ flash := some b } : AStore).load b with status := 2 } }
    | some _ => { s.flag 0 O.BOOT_STATUS 4 with astore := { flash := some b, status := 4 } }

/-- Everything that a reset of a kind takes back to its start value (R425); what flash, fuses, the always-on domain and
capture memory keep stays. -/
def resetParts (s : State) (kind : Nat) : State :=
  let lost := kind != 3
  { s with
    objs := s.objs.filter fun o => keepsValue kind o.1
    blobs := []
    mem := if lost then [] else s.mem
    halves := s.halves.map fun h =>
      { poison := if lost then [] else h.poison, spare := h.spare, spared := h.spared, failed := h.failed
        copying := h.copying, written := if lost then [] else h.written
        -- the first scrub pass begins with the start (R309)
        scrubFrom := s.now }
    hbm := s.hbm.map fun _ => {}
    paths := [], mailboxes := [], shadows := [], commits := [], servedAt := none, storeCopy := none, storeAt := 0
    hubRestart := false, missed := [], cal := {}, ctxs := [], turn := 0, allocs := [], cruBufs := []
    skewSets := [], trigOut := [], trigOutEnd := 0, trigOutHigh := false, trigInOld := none, trigInEdges := []
    bufs := [], ports := [], plans := []
    raster := { outs := s.raster.outs.map fun o => { o with trained := none, narrow := false } }
    chans := [], quenched := [], routes := [], reqLines := [], pulsed := [], mvLast := []
    lds := List.replicate 16 {}, aerUncorrectable := false, spdmFree := 0
    can := { storedId := s.can.storedId, stored := s.can.stored, storedFor := s.can.storedFor, marked := s.can.marked }
    test := none, testNext := none, testDue := [], hk := {}, supRestart := false, deferred := []
    faults := { log := s.faults.log, flushed := s.faults.flushed, logSeq := s.faults.logSeq
                openEvents := if kind = 1 then [] else s.faults.openEvents
                suspects := if kind = 1 then [] else s.faults.suspects
                -- evaluators failed since mains on are skipped by the self-test and stay failed (R538)
                hubMismatch := kind != 1 && s.faults.hubMismatch
                evalFailed := if kind = 1 then [] else s.faults.evalFailed
                checkFailed := if kind = 1 then [] else s.faults.checkFailed } }

/-- Power after a start: every domain on, every stack trained and Active, loop A of each pair Active and loop B Standby
(R311, R506, R552). -/
def startPower (s : State) (kind : Nat) : State :=
  let on : List Loop := [{ st := 2 }, { st := 3 }, { st := 2 }, { st := 3 }]
  { s with
    hbm := (List.range 4).map fun k => { st := if k < s.D / 2 then 2 else 0 }
    power := { s.power with
      domains := (List.range 15).map fun x => if s.domainsHeld.contains (x + 1) then 4 else 0
      queue := [], lastAt := 0, lastPeak := 0, waited := false, entry := none, wakeKept := [], wakeReqs := [], wakeList := []
      loops := (List.range 9).map fun x => if x < s.D ∨ x = 8 then on else List.replicate 4 {}
      extValid := if kind = 3 then s.power.extValid else none
      extPresent := kind = 3 && s.power.extPresent, extTaken := true, intFailed := false, noRef := false
      perstReset := false, startHeld := false } }

/-- The start pass measured a correction of a slice out of range: the slice fails with cause 5 and TRIM_LIMIT sets, its
trims stay at midscale (R101, R105). -/
def startTrimLimit (s : State) (q : Nat × Nat) : State :=
  let s := s.setDie q.1 { s.die q.1 with trims := kvDel (s.die q.1).trims q.2 }
  failSlice (s.flag 0 O.CAL_STATUS 1) q.1 q.2 5

/-- What the power-on self-test found anew: elements already recorded as failed are skipped (R538). -/
def State.newFindings (s : State) (r : StartReport) : StartReport :=
  { r with
    failedDies := r.failedDies.filter fun d => (s.die d).st != .retired
    failedSlices := r.failedSlices.filter fun q => decide (q.1 < s.D) && (kvGet (s.die q.1).failed q.2).isNone
    failedEvals := r.failedEvals.filter fun v => !s.faults.evalFailed.contains v
    failedChecks := r.failedChecks.filter fun d => !s.faults.checkFailed.contains d
    failedPcs := r.failedPcs.filter fun q => !(s.half q.1).failed.contains q.2 && (s.half q.1).spared != some q.2 }

/-- What the power-on self-test found is handled as at run time, and POST_FAIL sets on a new failure (R538, R539); then what
the calibration pass of the start found, and the restored alloys (R98, R105). -/
def postFindings (s : State) (r : StartReport) : State :=
  let r := s.newFindings r
  let slices := r.failedSlices
  let new := slices != [] || r.failedDies != [] || r.failedEvals != [] || r.failedChecks != [] || r.failedLanes != []
    || r.failedPcs != [] || r.failedLoops != [] || r.failedInputs != []
  let s := (List.range s.D).foldl (fun s n => s.put (O.PTEST_RESULT_n + n) 1) s
  let s := r.failedDies.foldl dieLost s
  let s := slices.foldl (fun s q => failSlice s q.1 q.2 6) s
  let s := r.failedEvals.foldl evalFail s
  let s := r.failedChecks.foldl (fun s d =>
    tarnish { s with faults := { s.faults with checkFailed := d :: s.faults.checkFailed } } 20 d 0xFF 0xFF 0xFF41) s
  let s := r.failedLanes.foldl laneFail s
  let s := r.failedPcs.foldl (fun s q => failPc s q.1 q.2) s
  let s := r.failedLoops.foldl (fun s q => loopFailed s q.1 q.2 0) s
  let s := r.failedInputs.foldl (fun s q =>
    let (v, s) := s.free
    pathFault (s.put (O.PTEST_RESULT_n + q.1) (ofN (q.2 % 256 * 256 + 2))) 0xFF q.1 (v.toNat % 65536)) s
  -- the calibration pass of the start, then the restored alloys whose conditions still hold (R98, R101, R105), in
  -- ascending input number, so that the first of two that share a die is formed (DESIGN CHOICE, log 90)
  let s := (r.failedTrims.filter fun q => decide (q.1 < s.D)).foldl startTrimLimit s
  -- a stack of which no controller trained is Orphaned (R306)
  let s := (r.noController.filter fun k => decide (k < s.D / 2)).foldl orphan s
  let s := (List.range s.D).foldl startAlloy s
  if new then tarnish s 28 0xFF 0xFF 0 else s

/-- The banks a start may try, in order: the one named current, then the other (R553). -/
def State.bootBanks (s : State) : List Nat := ([s.fw.cur, 1 - s.fw.cur].filter s.bankValid).drop s.fw.attempt

/-- The bank a start comes up on, and what that does to the naming (R553, R568). -/
def startBank (s : State) (k : Nat) : State :=
  let switched := s.fw.trial && k == s.fw.cur
  let fell := s.fw.trial && k != s.fw.cur
  let s := if switched then s.flag 0 O.BOOT_STATUS 2 else s
  let s := if fell then s.flag 0 O.BOOT_STATUS 3 else s
  let s := if s.fw.watchdog then s.flag 0 O.BOOT_STATUS 1 else s
  let s := if s.fw.interrupted then ((s.flag 0 O.BOOT_STATUS 5).put O.FW_STATE 6).put O.FW_ERR 8 else s
  { s with fw := { s.fw with
      inForce := k, cur := if fell then k else s.fw.cur, trial := false, fallback := k != s.fw.cur
      pkg := none, interrupted := false, attempt := 0, watchdog := false, attest := none } }

/-- An Install that a reset meets leaves its bank not valid (R568). -/
def interruptInstall (s : State) : State :=
  if s.num O.FW_STATE = 4 then { s with fw := { s.fw with interrupted := true, pkg := none } } else s

/-- A start reaches Ready on bank `k` (R425, R552). -/
def startReady (s : State) (k : Nat) (r : StartReport) : State :=
  let s := interruptInstall s
  let kind := s.power.startKind
  let old := s
  let bootMs := (s.now - s.power.startFrom) / msTicks
  let absmax := bit (s.get O.TARNISH) 29
  let inUse := s.get O.REF_IN_USE
  let masks := if kind = 3 then s.get O.HASH_ACTIVE
    else ofN ((List.range 4).foldl (fun a k => a + s.num (O.HASH_BANK_k + k) % 16384 * 2 ^ (16 * k)) 0)
  let s := resetParts s kind
  let s := if kind = 1 ∧ absmax then
      { s.flag 0 O.TARNISH 29 with faults := { s.faults with openEvents := [(29, s.cycle)] } } else s
  let s := startBank (restoreStored (s.flag 0 O.DEVICE_STATUS 0) r.storeValid r.storeOlder) k
  let s := startPower s kind
  let s := (List.range s.D).foldl startDie s
  let s := (List.range s.D).foldl startInput s
  let s := startStore s
  let s := { s with modeCfg := s.num O.CXL_MODE_CFG, smbusAddr := s.num O.CXL_SMBUS_ADDR
                    starting := false, dev := .off }
  let s := if kind = 1 then { s with power := { s.power with deepFrom := 0 } } else s
  -- the objects that describe the start
  let (slack, s) := if kind = 1 then s.free else (0, s)
  let s := (s.put O.BOOT_KIND (ofN kind)).put O.BOOT_TIME_MS (ofN (bootMs + slack.toNat % 101))
  let s := (s.countSat 0 O.BOOT_COUNT 32).put O.HASH_ACTIVE masks
  let s := if kind = 2 then s.flag 0 O.POWER_STATUS 0 else s
  -- CXL is released: the link can train, and WAKE# is driven after a wake from Deep other than by PERST# (R499, R500)
  let s := if kind = 2 ∧ s.power.startCause ≠ 5 then
      { s with sent := .wakePin true :: s.sent, power := { s.power with wakePin := true } } else s
  let t := (s.power.wakeAt + 24) / 48 * 48
  let s := ((s.put O.WAKE_CAUSE (ofN s.power.startCause)).put O.WAKE_TM (tmOf t)).put O.WAKE_WRAP (ofN (t / 2 ^ 55 % 2 ^ 16))
  let s := measured old (s.put O.ATTEST_GEN 0)
  -- the port runs as the module reaches Ready: its boot-up message is sent (R462, R463)
  let s := { initCan { s with dev := .ready } s.can.storedId with dev := s.dev }
  let s := if kind = 2 then devDisc s 1 true s.power.deepExit else s
  let s := enterDev s .ready
  let s := if kind = 3 then s.put O.REF_IN_USE inUse else s
  let s := if s.num O.REF_IN_USE = s.refWanted then s else switchRef s s.refWanted true
  postFindings s r

/-- START_COMPLETE (R552, R553): the report names the bank that verified. -/
def execStartComplete (rep : StartReport) (s : State) : Host.Outcome State Fault Refusal :=
  done (if s.starting ∧ s.power.startHeld = false then
      let ks := s.bootBanks
      match if ks.contains rep.bank then some rep.bank else ks.head? with
      | some k => startReady s k rep
      | none => s
    else s)

/-- BOOT_WATCHDOG (R553): the start has not reached Ready within 2 s of the ROM step. -/
def execBootWatchdog (s : State) : Host.Outcome State Fault Refusal :=
  done (if s.starting ∧ s.power.startHeld = false ∧ s.bootBanks ≠ [] then
      { s with fw := { s.fw with attempt := s.fw.attempt + 1, watchdog := true } }
    else s)

/-- MAINS_ON (R34, R552): the always-on domain starts, and the time counter starts at zero. -/
def execMainsOn (s : State) : Host.Outcome State Fault Refusal :=
  done (if s.dev = .off ∧ s.starting = false then
      beginStart { s with counter := 0, wraps := 0 } 1 7
    else s)

/-- PERST_ASSERT (R554): the link is down; contexts of owner 16 are Suspended; a start in progress is abandoned. -/
def execPerstAssert (s : State) : Host.Outcome State Fault Refusal :=
  done (if s.power.perst then s
    else
      let s := { s with power := { s.power with perst := true } }
      if s.dev = .off ∧ s.starting = false then s
      else if s.starting then { s with power := { s.power with startHeld := true } }
      else if s.dev = .deep then s
      else
        let s := linkLost { s with power := { s.power with perstReset := true } }
        suspendOwner (interruptInstall s) 16)

/-- PERST_DEASSERT (R499, R552, R554): in Deep a wake, `ticks` crystal ticks after entry; while the module ran, a reset. -/
def execPerstDeassert (ticks : Nat) (s : State) : Host.Outcome State Fault Refusal :=
  done (if s.power.perst then
      let held := s.power.startHeld
      let reset := s.power.perstReset
      let s := { s with power := { s.power with perst := false, perstReset := false, startHeld := false } }
      if s.dev = .deep ∧ s.starting = false then deepWake s 5 ticks
      else if held then
        let from_ := s.power.startKind
        beginStart s from_ (if from_ = 3 then 5 else s.power.startCause)
      else if reset then beginStart s 3 5
      else s
    else s)

end Sys2Proof.Machine
end

