-- ==== Sys2Proof/Machine/Hk.lean ====
section
/-!
DEFINITION. The housekeeping converter: the monitor sequence, the sequence table, the reference and the auxiliary
inputs (R573 to R586, R589, R604, R610).
-/
namespace Sys2Proof.Machine

/-! ## Monitor channels (R574 to R578) -/

/-- Whether monitor channel `c` is present (R574). -/
def State.monPresent (s : State) (c : Nat) : Bool :=
  let die (d : Nat) : Bool := decide (d < s.D) && (s.die d).st != .off && (s.die d).st != .lost
  if c < 8 then die c else if c < 16 then die (c - 8)
  else if 18 ≤ c ∧ c < 22 then decide (c - 18 < s.D / 2)
  else decide (c < 43)

/-- Present monitor channels. -/
def State.monChannels (s : State) : List Nat := (List.range 43).filter s.monPresent

/-- Whether a channel is a temperature. -/
def isTemp (c : Nat) : Bool := decide (8 ≤ c ∧ c < 22) || c == 38 || c == 39

/-- The critical limit of a temperature channel in hundredths of a degree (R610). -/
def critLimit (c : Nat) : Option Int :=
  if 8 ≤ c ∧ c < 18 then some 11000 else if 18 ≤ c ∧ c < 22 then some 10000
  else if c = 38 then some 9500 else if c = 39 then some 5800 else none

/-- The window of a channel (R576): the Retention window of a die's rail is fixed. -/
def State.window_ (s : State) (c : Nat) : Int × Int :=
  if c < 8 ∧ (s.die c).st = .retention then (600, 700)
  else ((s.get (O.MON_LOW_c + c)).toInt, (s.get (O.MON_HIGH_c + c)).toInt)

/-- HK_MON_CYCLE_US (R574): the longest monitor cycle of the last second; before one has ended, that of the present
channels. -/
def State.monCycleUs (s : State) : Nat :=
  let ns := (s.hk.cycles.filter fun e => decide (s.now ≤ e.1 + 1000 * msTicks)).map Prod.snd
  2 * (if ns = [] then s.monChannels.length else ns.foldl max 0)

/-- How far inside its window a channel must lie to return: 1 % of nominal, up to the next whole unit, or 100 units; a channel
with no stated nominal takes an amount no rule states (R577, log 3). -/
def monMargin (c : Nat) : Int :=
  if isTemp c then 100
  else if c < 8 ∨ c = 25 then 8
  else match c with
    | 22 => 120 | 23 => 33 | 24 => 18 | 26 => 11 | 27 => 18 | 28 => 4 | 29 => 12 | 30 => 18 | 31 => 33 | 32 => 12
    | 34 => 5 | 35 => 5 | 36 => 21 | 41 => 10 | 42 => 0
    | _ => ((Config.sensor 3 c).toNat % 100 : Nat)

/-- What a value makes of a channel (R577, R578): 0 In window, 1 Out low, 2 Out high, 3 Critical. -/
def State.judgeMon (s : State) (c : Nat) (v : Int) : Nat :=
  let (lo, hi) := s.window_ c
  let crit : Bool := match critLimit c with | some k => decide (k < v) | none => false
  if c = 37 then 0 else if crit then 3 else if v < lo then 1 else if hi < v then 2 else 0

/-- The tarnish bit and emergency of a channel (R575, R577); none for the channels that set none. -/
def monTarnish (c : Nat) : Option (Nat × Nat) :=
  if c = 33 ∨ c = 37 then none else if isTemp c then some (19, 0x4200) else some (18, 0x3200)

/-- An excursion's entry and emergency; they wait for a restart of either pair to end (R577, R589). -/
def monEntry (s : State) (c : Nat) : State :=
  match monTarnish c with
  | none => s
  | some (b, code) =>
    let die := if 8 ≤ c ∧ c < 16 then c - 8 else 0xFF
    if s.restarting then
      { s with faults := { s.faults with held := s.faults.held ++ [(b, die, 0xFF, c, code)] } }
    else tarnish s b die 0xFF c code

/-- A repeat confirms that channel `c` is outside (R577, R578). -/
def monConfirm (s : State) (c st : Nat) : State :=
  let old := s.num (O.MON_STATUS_c + c)
  let s := s.put (O.MON_STATUS_c + c) (ofN st)
  let s := if old = 0 then monEntry (s.flag 0 O.HK_STATUS 0) c else s
  if st = 3 ∧ old ≠ 3 ∧ s.num O.THERMAL_ACTION = 1 then enterWatch s else s

/-- A conversion inside the window: the channel returns where it lies inside by the margin (R577). -/
def monInside (s : State) (c : Nat) (v : Int) : State :=
  let (lo, hi) := s.window_ c
  if s.num (O.MON_STATUS_c + c) ≠ 0 ∧ lo + monMargin c ≤ v ∧ v ≤ hi - monMargin c then s.put (O.MON_STATUS_c + c) 0
  else s

/-- A monitor conversion of channel `c` (R577, R581). -/
def monConvert (s : State) (c : Nat) (repeat_ : Bool) (v : Int) : State :=
  let s := s.put (O.MON_VALUE_c + c) (ofI v)
  let s := if c = 33 ∧ s.num O.HK_REF_SELECT = 1 ∧ ¬ (1000 ≤ v ∧ v ≤ 3000) then s.flag 0 O.HK_STATUS 2 else s
  let st := s.judgeMon c v
  if st = 0 then monInside s c v
  else if repeat_ then monConfirm s c st
  else { s with hk := { s.hk with again := some c } }

/-- A monitor slot begins; where the scan starts again, the cycle that ended is kept while it is the longest of the last
second (R574). -/
def monSlot (s : State) (wraps : Bool) : State :=
  if wraps then
    let live := s.hk.cycles.filter fun e => decide (s.now ≤ e.1 + 1000 * msTicks) && decide (s.hk.slots < e.2)
    { s with hk := { s.hk with slots := 1, cycles := (s.now, s.hk.slots) :: live } }
  else { s with hk := { s.hk with slots := s.hk.slots + 1 } }

/-- HK_MONITOR_CONVERSION (R573, R577): the next monitor slot: the repeat that is due, or the next channel of the scan. -/
def execHkMonitorConversion (value : Int) (s : State) : Host.Outcome State Fault Refusal :=
  done (if s.awake then
      match s.hk.again with
      | some c =>
        let s := monSlot s false
        monConvert { s with hk := { s.hk with again := none } } c true value
      | none =>
        let cs := s.monChannels
        let ahead := cs.find? fun c => decide (s.hk.scan ≤ c)
        let c := ahead.getD (cs.headD 17)
        let s := monSlot s ahead.isNone
        monConvert { s with hk := { s.hk with scan := c + 1 } } c false value
    else s)

/-- ABSMAX_EXCEEDED (R534, R604): a temperature of acquisition die `unit`, or of the front die or the hub at 8 and 9 (src 0),
the network of input `unit` (1), or the mains (2). -/
def execAbsmaxExceeded (src unit : Nat) (s : State) : Host.Outcome State Fault Refusal :=
  let die := if src = 0 ∧ unit < s.D then unit else 0xFF
  let inp := if src = 1 then unit else 0xFF
  done (if s.awake ∧ (src = 2 ∨ (src < 2 ∧ unit < s.D) ∨ (src = 0 ∧ (unit = 8 ∨ unit = 9))) then tarnish s 29 die inp 0 0
    -- the supply controller sees the mains in Deep and in a start too, where no event router runs
    else if src = 2 ∧ (s.starting ∨ s.dev = .deep) then tarnishEntry s 29 0xFF 0xFF 0 0
    else s)

/-! ## Correction and span (R579 to R582) -/

/-- The corrected value of a raw value in 1/16 code under a correction word (R579). -/
def corrected (corr : Slot) (r : Nat) : Nat :=
  let ofs := sfld corr 0 16
  (clampI 0 65535 (roundAway (((r : Int) - ofs) * fld corr 16 16) 32768)).toNat

/-- Vref of the odd slots in µV (R580, R581). -/
def State.vrefUv (s : State) : Int :=
  match s.num O.HK_REF_SELECT with
  | 0 => 2500000
  | 1 => (s.get (O.MON_VALUE_c + 33)).toInt * 1000
  | _ => (s.get (O.MON_VALUE_c + 31)).toInt * 1000

/-- Whether table results carry REF_BAD (R581). -/
def State.refBad (s : State) : Bool :=
  let v := (s.get (O.MON_VALUE_c + 33)).toInt
  s.num O.HK_REF_SELECT == 1 && decide (¬ (1000 ≤ v ∧ v ≤ 3000))

/-- A calibration in hand fails because its range or reference changed (R584, R589). -/
def auxChanged (s : State) (k : Nat) : State :=
  let hit : Bool := (match s.hk.aux with | some (j, _) => j == k | none => false)
    || (match s.hk.zero with | some (j, _) => j == k | none => false)
  if hit then
    let s := { s with hk := { s.hk with aux := none, zero := none } }
    let s := (s.put O.AUX_CAL_STATE 4).put O.AUX_CAL_ERR 3
    if s.hk.restart then restartTable s else s
  else s

/-- CAL_VALID of AUX `k` clears, and a calibration of it fails (R582, R589). -/
def auxInvalid (s : State) (k : Nat) : State := (auxChanged s k).unflag 0 (O.AUX_CFG_k + k) 8

/-- A write of HK_REF_SELECT (R580, R582). -/
def hkRefWrite (s : State) (p : Nat) (v : Slot) : Acc :=
  stewardOnly s p fun s => need (decide (v.toNat ≤ 2)) .range s fun s =>
    .ok (if s.get O.HK_REF_SELECT = v then s
      else
        let s := (List.range 4).foldl auxInvalid (s.put O.HK_REF_SELECT v)
        let s := if s.refBad then s.flag 0 O.HK_STATUS 2 else s
        { s with hk := { s.hk with settleAt := some (s.now + 8000000) } })

/-- HK_REF_SELECT_WRITE (R580). -/
def execHkRefSelectWrite (p : Nat) (v : Slot) (s : State) : Host.Outcome State Fault Refusal :=
  done (access s p O.HK_REF_SELECT fun s => hkRefWrite s p v)

/-- HK_REF_SETTLED (R580): 200 µs after the change. -/
def execHkRefSettled (s : State) : Host.Outcome State Fault Refusal :=
  done (match s.hk.settleAt with
    | some t => { s.runTo t with hk := { s.hk with settleAt := none } }
    | none => s)

/-! ## The sequence table (R585, R586) -/

/-- Enabled entries of the table. -/
def State.tableEntries (s : State) : List Nat := (List.range 32).filter fun k => bit (s.get (O.SEQ_ENTRY_k + k)) 31

/-- Writes the result of entry `k` (R579, R586, R594). -/
def tableResult (s : State) (k : Nat) : State :=
  let e := s.get (O.SEQ_ENTRY_k + k)
  let c := fld e 0 6
  let r := (roundAway (16 * s.hk.sum) (2 ^ fld e 8 3)).toNat
  let v := corrected (s.get (O.HK_CORR_c + c)) r
  s.put (O.SEQ_RESULT_k + k) (ofN (v + s.num O.HK_SWEEP_COUNT % 4096 * 2 ^ 16 + b2n s.hk.clip * 2 ^ 28
    + b2n s.refBad * 2 ^ 29 + b2n (!s.hk.settled) * 2 ^ 30 + 2 ^ 31))

/-- HK_SEQUENCE_CONVERSION (R585, R586): an odd slot of the table converts a raw code; a calibration pauses the table. -/
def execHkSequenceConversion (raw : BitVec 12) (s : State) : Host.Outcome State Fault Refusal :=
  let es := s.tableEntries
  done (if s.awake ∧ s.hk.aux.isNone then
      match es.head? with
      | none => s
      | some first =>
        let k := (es.find? fun k => decide (s.hk.entry ≤ k)).getD first
        let fresh := k != s.hk.entry
        let h := if fresh then { s.hk with entry := k, taken := 0, sum := 0, clip := false, settled := true } else s.hk
        let h : Hk := { h with
          taken := h.taken + 1, sum := h.sum + raw.toNat
          clip := h.clip || raw == 0#12 || raw == 4095#12, settled := h.settled && s.hk.settleAt.isNone }
        let s := { s with hk := h }
        if h.taken < 2 ^ fld (s.get (O.SEQ_ENTRY_k + k)) 8 3 then s
        else
          let s := tableResult s k
          let next := es.find? fun j => decide (k < j)
          let s := { s with hk := { s.hk with
            entry := next.getD 0, taken := 0, sum := 0, clip := false, settled := true } }
          if next.isSome then s
          else sweepEnd s
    else s)

/-! ## Auxiliary inputs (R582, R584) -/

/-- A write of AUX_CFG_k (R582): only RANGE is reached. -/
def auxRangeWrite (s : State) (p k : Nat) (v : Slot) : Acc :=
  stewardOnly s p fun s => need (ObjTy.u32.fits v) .range s fun s =>
    let old := s.get (O.AUX_CFG_k + k)
    .ok (if bit old 0 = bit v 0 then s
      else auxInvalid (s.put (O.AUX_CFG_k + k) (putBit old 0 (bit v 0))) k)

/-- AUX_RANGE_WRITE (R582). -/
def execAuxRangeWrite (p k : Nat) (v : Slot) (s : State) : Host.Outcome State Fault Refusal :=
  done (if k < 4 then access s p (O.AUX_CFG_k + k) fun s => auxRangeWrite s p k v else s)

/-- A write of AUX_CAL_CMD (R584): INPUT in [9:8], STEP in [1:0]; step 0 asks for nothing (log 16). -/
def auxCmd (s : State) (p : Nat) (v : Slot) : Acc :=
  let k := fld v 8 2
  stewardOnly s p fun s => need (ObjTy.u16.fits v) .range s fun s =>
    let busy := s.hk.aux.isSome
    let zeroed : Bool := match s.hk.zero with | some (j, _) => j == k | none => false
    match fld v 0 2 with
    | 1 => need (!busy) .presentState s fun s =>
        .ok ({ s with hk := { s.hk with aux := some (k, 1), zero := none } }.put O.AUX_CAL_STATE 1 |>.put O.AUX_CAL_ERR 0)
    | 2 => need (!busy && zeroed) .presentState s fun s =>
        .ok ({ s with hk := { s.hk with aux := some (k, 2) } }.put O.AUX_CAL_STATE 1)
    | 3 => .ok ((s.put (O.HK_CORR_AUX_k + k) 0x80000000).unflag 0 (O.AUX_CFG_k + k) 8)
    | _ => .ok s

/-- The command word of a step on AUX `k`. -/
def auxWord (k step : Nat) : Slot := ofN (k % 4 * 256 + step)

/-- AUX_CAL_ZERO (R584). -/
def execAuxCalZero (p k : Nat) (s : State) : Host.Outcome State Fault Refusal :=
  done (access s p O.AUX_CAL_CMD fun s => auxCmd s p (auxWord k 1))

/-- AUX_CAL_SPAN (R584). -/
def execAuxCalSpan (p k : Nat) (s : State) : Host.Outcome State Fault Refusal :=
  done (access s p O.AUX_CAL_CMD fun s => auxCmd s p (auxWord k 2))

/-- AUX_CAL_RESET (R584). -/
def execAuxCalReset (p k : Nat) (s : State) : Host.Outcome State Fault Refusal :=
  done (access s p O.AUX_CAL_CMD fun s => auxCmd s p (auxWord k 3))

/-- The outcome of the span step of AUX `k` from `r0` and `r1` (R584): the correction word, or its AUX_CAL_ERR. -/
def State.auxSpan (s : State) (k r0 r1 : Nat) : Nat ⊕ Nat :=
  let full := s.vrefUv * (if bit (s.get (O.AUX_CFG_k + k)) 0 then 4 else 1)
  let diff : Int := (r1 : Int) - r0
  if diff < 4096 then .inr 1
  else if full ≤ 0 then .inr 2
  else
    let t := roundAway (65536 * (s.num (O.AUX_CAL_UV_k + k) : Int)) full.toNat
    let g := roundAway (32768 * t) diff.toNat
    if 16384 ≤ g ∧ g ≤ 65535 then .inl (g.toNat * 65536 + r0 % 65536) else .inr 2

/-- AUX_CAL_MEASURE_DONE (R584): `rawSum` is the sum of the 256 conversions. -/
def execAuxCalMeasureDone (rawSum : Nat) (s : State) : Host.Outcome State Fault Refusal :=
  let r := (roundAway (16 * rawSum) 256).toNat
  done (match s.hk.aux with
    | none => s
    | some (k, step) =>
      let zero := s.hk.zero
      let s := { s with hk := { s.hk with aux := none } }
      let s :=
        if step = 1 then { s with hk := { s.hk with zero := some (k, r) } }.put O.AUX_CAL_STATE 2
        else
          let s := { s with hk := { s.hk with zero := none } }
          match s.auxSpan k ((zero.map Prod.snd).getD 0) r with
          | .inl w => ((s.put (O.HK_CORR_AUX_k + k) (ofN w)).flag 0 (O.AUX_CFG_k + k) 8).put O.AUX_CAL_STATE 3
          | .inr e => (s.put O.AUX_CAL_STATE 4).put O.AUX_CAL_ERR (ofN e)
      if s.hk.restart then restartTable s else s)

end Sys2Proof.Machine
end

