-- ==== Sys2Proof/Machine/Read.lean ====
section
/-!
DEFINITION. Reading the dictionary: which objects exist (R3, R405), which instance an access reaches (R409, R410), the
objects that show what the structures of State hold, and the bytes of DOMAIN and VISIBLE_STRING objects.
-/
namespace Sys2Proof.Machine

/-! ## Existence and instances -/

/-- The object and subindex checks of an access (R405, R420). -/
def State.absent (s : State) (i sub : Nat) : Option Abort :=
  if i < 0x1000 ∨ 0x6000 ≤ i ∨ indexKnown i = false then some .noObject
  else match s.missing i sub with
    | some a => some a
    | none => if (findRow i sub).isNone then some .noSubindex else none

/-- The instance of object `k` (index × 256 + subindex) that an access of path `p` reaches, with context `c` (R409, R410,
R324, R345, R374). -/
def State.instOf (s : State) (p c k : Nat) : Nat :=
  let i := k / 256
  if isPathObj k then p
  else if isCtxObj k ∨ i = 0x2501 then c
  else if i = 0x2504 then ownerOf p
  else if i = 0x2511 ∨ i = 0x2512 then s.mvSel p
  else if i = 0x2521 then s.evSel p
  else if i = 0x2601 ∨ i = 0x2602 then s.plSel p
  else 0

/-! ## Objects that show structures, by chapter -/

/-- DIE_STATE_d (R94). A die in Retention produces no sheets and reads as serving nothing (DEDUCED, log 63). -/
def State.dieState (s : State) (d : Nat) : Nat :=
  let x := s.die d
  let n := if x.st = .active then s.inputOfDie d else none
  let ms := match n with | some n => (s.input n).members | none => []
  (match n with | some n => ms.findIdx (· == d) * 2 ^ 24 + ms.length * 2 ^ 20 + n * 2 ^ 16 | none => 0xF0F0000)
    + x.lineup.num * 2 ^ 10 + min 4 x.spares.length * 16 + x.st.num

/-- ALLOY_STATUS_n (R97). -/
def State.alloyStatus (s : State) (n : Nat) : Nat :=
  let x := s.input n
  let ms := if x.st = .absorbed ∨ x.st = .dark then [] else x.members
  maskOf ms * 256 + ms.length * 16 + b2n x.regrouped * 2 + b2n (s.skewValid n)

/-- The slice that converts position `q` of die `d`: while the slice in it is measured, the first spare (R103, R130); where
there is no spare, so that the position is void, the slice that is out (DESIGN CHOICE, log 64). -/
def Die.positionSlice (x : Die) (q : Nat) : Nat :=
  if x.lineup = .none ∨ x.lineup.k ≤ q then 0xFF
  else
    let sl := x.positions.getD q 0xFF
    if x.measuring ∧ x.calQueue.head? = some sl then x.spares.headD sl else sl

/-- The spare that shadows for the audit: the first, or for the repeat of a failed window a second one (R111, R112). -/
def Die.shadow (x : Die) : Option Nat :=
  match x.spares with
  | _ :: t :: _ => if x.auditCause.isSome then some t else x.spares.head?
  | l => l.head?

/-- SLICE_HEALTH_s_n (R133). -/
def State.sliceHealth (s : State) (d sl : Nat) : Nat :=
  let x := s.die d
  let role :=
    if (kvGet x.failed sl).isSome then 5
    else if x.measuring ∧ x.calQueue.head? = some sl then 4
    else if x.substituted.contains sl then 2
    else if x.positions.contains sl then 0
    else if s.audits d ∧ x.shadow = some sl then 3
    else 1
  b2n (kvGet x.pending sl).isSome * 2 ^ 31 + (kvGet x.auditDev sl).getD 0 * 2 ^ 16
    + (kvGet x.failed sl).getD 0 * 256 + role

/-- Chapters 3 and 4: object `i`:`sub` of input or die `n` (R93, R95, R126, R130). -/
def State.frontValue (s : State) (i n sub : Nat) : Option Slot :=
  let x := s.input n
  let d := s.die n
  let k := i * 256 + sub
  if i = 0x2B00 ∧ 1 ≤ sub then some (ofN (s.dieState (sub - 1)))
  else if k = O.FE_CODE_UV_n then some (codeUv x.rangeNow)
  else if k = O.FE_BW_n then some (ofN (s.feBw n))
  else if k = O.FE_OFFSET_APPLIED_n then some (ofI (stepUv x.stepNow))
  else if k = O.FE_PERIOD_n then some (ofN (s.fePeriod n))
  else if k = O.FE_STATUS_n then
    some (ofN (fld (s.get (inObj k n)) 0 2 + 4 * b2n x.settling.isSome + 8 * b2n (x.st == .dark)
      + 16 * b2n (x.st == .absorbed)))
  else if k = O.ALLOY_STATUS_n then some (ofN (s.alloyStatus n))
  else if k = O.ALLOY_HOST_n then some (ofN (x.host.getD 0xFF))
  else if k = O.ALLOY_ORDER_n then
    some (ofN (orderNibbles (if x.st = .absorbed ∨ x.st = .dark then [] else x.members)))
  else if k = O.ALLOY_STATE_n then some (ofN x.st.num)
  else if k = O.CAL_STATE then
    some (match s.cal.st with | .idle => 0 | .measuring => 1 | .pending => 2 | .ramping => 3)
  else if k = O.CAL_ACTIVE_MASK then some (ofN (maskOf ((List.range s.D).filter fun e => (s.die e).measuring)))
  else if k = O.CAL_PENDING_MASK then
    some (ofN (maskOf ((List.range s.D).filter fun e => !(s.die e).pending.isEmpty || (s.die e).bankPending.isSome)))
  else if k = O.SKEWSET_COUNT then some (ofN s.skewSets.length)
  else if k = O.SLICE_FAILED_n then some (ofN d.f)
  else if k = O.SLICE_FAILMAP_LO_n then some (ofN (maskOf (d.failed.map Prod.fst)))
  else if k = O.SLICE_FAILMAP_HI_n then
    some (ofN (maskOf ((d.failed.filter fun e => decide (64 ≤ e.1)).map fun e => e.1 - 64)))
  else if k = O.SPARES_AVAIL_n then some (ofN d.spares.length)
  else if k = O.WEAR_STATUS_n then some (ofN (b2n d.lineupPending * 256 + d.stage))
  else if k = O.DIE_SKEW_n then some (ofN d.bankSkew)
  else if i = 0x3081 ∧ 1 ≤ sub then some (ofN (d.positionSlice (sub - 1)))
  else if i = 0x3082 ∧ 1 ≤ sub then
    let t := d.trim (sub - 1)
    some (ofN (t.skew * 2 ^ 16 + t.gain * 256 + t.offset))
  else if i = 0x3083 ∧ 1 ≤ sub then some (ofN (s.sliceHealth n (sub - 1)))
  else if k = O.RING_LINES_n then
    some (ofN (s.ringLines n))
  else if k = O.RING_STATE_n then some (match x.ring with | .idle => 0 | .writing => 1 | .paused => 2)
  else if k = O.RING_WRITE_SLOT_n then some (ofN (if x.members = [] then x.slot else s.nextSlot n))
  else if k = O.RING_EPOCH_n then some (ofN ((x.epochs.head?.map Epoch.number).getD 0))
  else if k = O.RING_PINNED_LINES_n then some (ofN (s.pinnedLines n))
  else if k = O.RING_POOL_FREE_MIB_n then some (ofN (s.poolFree n / mib))
  else none

/-- A byte of an evaluator in TRIG_EVAL_BOUND, 0xFF for none (R174). -/
def evalByte (l : List Nat) (i : Nat) : Nat := l.getD i 0xFF

/-- The held segment SEG_SELECT or ASSAY_SELECT of path `p` names in context `c`. -/
def State.selSegment (s : State) (p c k : Nat) : Option Segment := s.held c (s.obj p k).toNat

/-- HOLDOFF_ACTIVE of R173, by the holdoff mode in force. -/
def State.holdingOff (s : State) (c : Nat) (x : Ctx) : Bool :=
  if s.cN c O.HOLDOFF_MODE = 0 then decide (s.now * 480 < x.holdUntil) else x.holdEvents != 0

/-- Chapters 5 to 8: objects of context `c` (R171, R213, R215, R242, R277). -/
def State.ctxValue (s : State) (c k : Nat) : Option Slot :=
  let i := k / 256
  let sub := k % 256
  let x := s.ctx c
  let y := x.getD { owner := 0xFF }
  if k = O.CTX_STATE then some (match x with | none => 0 | some y => ofN (match y.st with
    | .empty => 0 | .defined => 1 | .armed => 2 | .held => 3 | .suspended => 4))
  else if k = O.CTX_OWNER then some (ofN (s.ctxOwner c))
  else if k = O.CTX_STATUS then some (ofN (fld (s.obj c k) 0 8 + 256 * b2n y.isBusy))
  else if k = O.CTX_FIRST_EMPTY then
    some (ofN (((List.range 4096).find? fun e => (s.ctx e).isNone).getD 0xFFFF))
  else if k = O.CTX_BOUND_COUNT then
    some (ofN (s.ctxs.countP fun e => e.2.st == .armed || e.2.st == .held))
  else if k = O.TRIG_EVAL_BOUND then
    some (ofN (evalByte y.evals 0 + evalByte y.evals 1 * 2 ^ 8 + evalByte y.partners 0 * 2 ^ 16
      + evalByte y.partners 1 * 2 ^ 24))
  else if k = O.TRIG_STREAMS then some (ofN y.streams.length)
  else if k = O.TRIG_STATUS then
    some (ofN (fld (s.obj c k) 0 6 + 64 * b2n y.levelsWait + 128 * b2n (s.holdingOff c y)
      + 256 * b2n y.ev.seqA.isSome))
  else if i = 0x4150 ∧ 1 ≤ sub then
    let n := s.cN c O.TRIG_SOURCE
    if 8 ≤ n ∨ !s.fitted n ∨ (s.input n).st = .absorbed ∨ (s.input n).st = .dark then some 0
    else some ((Config.resid (if s.halfRate n then 0 else (s.input n).members.length) (sub - 1)).signExtend 64)
  else if k = O.DEC_PER_SHEET then some (ofN (perSheet (s.cN c O.DEC_MODE)))
  else if k = O.DEC_PERIOD then
    some (if s.cN c O.DEC_MODE = 0 then 0 else durOf (s.cN c O.DEC_FACTOR * s.period (s.cN c O.CTX_INPUT)))
  else if k = O.DEC_WRITE_RATE then
    -- bytes per core cycle of 1.2 ns on each member, over all members, in MB/s to the nearest, halves up
    let r : Rat := s.decRate c * (s.input (s.cN c O.CTX_INPUT)).members.length * 2500 / 3
    some (ofI (r + 1 / 2).floor)
  else if k = O.FILT_HALF_SUPPORT then
    some (if s.cN c O.DEC_MODE = 4 then ofN (halfSupport (stagesOf (s.cN c O.DEC_FACTOR))) else 0)
  else if k = O.SEG_HELD_COUNT then some (ofN y.inUse)
  else if k = O.SEG_OLDEST_SEQ then
    some (ofN ((y.table.head?.map Segment.seq).getD 0))
  else if k = O.SEG_PENDING then some (ofN y.pending.length)
  else if k = O.CRU_STATE then some (ofN (y.cru.stAt s.now).num)
  else if k = O.CRU_ACTIVE then some (ofN (y.cru.folding s.now).length)
  else if i = 0x4310 ∧ 1 ≤ sub then some (ofN (s.cruFree (sub - 1) / 1024))
  else if k = O.ASTORE_INT_VERSION then some (ofN s.astore.version)
  else if k = O.ASTORE_STATUS then some (ofN s.astore.status)
  else if k = O.ASTORE_FREE_WORDS then
    some (ofN (2048 - (s.astore.progs.map AProg.len).foldl (· + ·) 0))
  else if k = O.ASTORE_PROGRAMS then some (ofN (maskOf (s.aProgs.map AProg.num)))
  else if i = 0x44F1 ∧ 1 ≤ sub then
    some (match s.aProg (sub - 1) with
      | some q => ofN (q.slots * 2 ^ 32 + q.len * 2 ^ 16 + q.start)
      | none => 0)
  else none

/-- A word of the selected descriptor or assay block (R196, R215, R275). -/
def State.selWord (s : State) (p c k : Nat) : Except Abort Slot :=
  let w := k % 256 - 2
  if k / 256 = 0x4222 then
    match s.selSegment p c O.SEG_SELECT with
    | some g => .ok (ofN (leNat (((descriptor c g).drop (8 * w)).take 8)))
    | none => .error .presentState
  else match s.selSegment p c O.ASSAY_SELECT with
    | some g => if g.assay = [] then .error .presentState else .ok (ofN (leNat ((g.assay.drop (8 * w)).take 8)))
    | none => .error .presentState

/-- Chapter 9 (R309 to R312). -/
def State.memValue (s : State) (i sub : Nat) : Option Slot :=
  if i = 0x2401 ∧ 1 ≤ sub then
    let st := s.stack (sub - 1)
    let t := s.stackTemp (sub - 1)
    some (ofN (t * 2 ^ 24 + b2n (decide (85 < t)) * 2 ^ 19 + st.st * 2 ^ 16 + maskOf st.selfRefresh))
  else if i = 0x2405 ∧ 1 ≤ sub then
    let h := s.half (sub - 1)
    some (ofN (h.spared.getD 15 * 2 ^ 24 + h.spare * 2 ^ 22 + h.failed.headD 15 * 2 ^ 16 + h.poison.length))
  else none

/-- Chapter 10, but for the data ports: channel, route and device objects (R345, R348). -/
def State.moveValue (s : State) (x k : Nat) : Option Slot :=
  let ch := s.chan x
  let y := ch.getD { owner := 0xFF }
  let r := kvGet s.routes x
  if k = O.MV_CH_STATE then some (match ch with | none => 0 | some c => ofN c.st.num)
  else if k = O.MV_CH_OWNER then some (ofN (s.chanOwner x))
  else if k = O.MV_CH_CUR then some (ofN y.cur)
  else if k = O.MV_CH_DONE then some (ofN y.done)
  else if k = O.MV_CH_CREDITS then some (ofN y.credits)
  else if k = O.MV_CH_STATUS then some (putBit (s.obj x k) 3 (y.byPower && y.st == .parked))
  else if k = O.DP_STATUS then some (putBit (s.obj x k) 4 (kvGet s.ports x).isSome)
  else if k = O.CDP_STATUS then some (putBit (s.obj x k) 4 (kvGet s.ports (100 + x)).isSome)
  else if k = O.EV_FREE_ROUTES then some (ofN (256 - s.routes.length))
  else if k = O.EV_OWNER then some (ofN (s.routeOwner x))
  else if k = O.EV_SOURCE then some (match r with | some r => r.source | none => 0)
  else if k = O.EV_DEST then some (match r with | some r => r.dest | none => 0)
  else if k = O.EV_ENABLE then some (match r with | some r => ofN (b2n r.enable) | none => 0)
  else if k = O.EV_COUNT then some (match r with | some r => ofN r.count | none => 0)
  else if k = O.EV_STATUS then some (match r with | some r => ofN (b2n r.gone) | none => 0)
  else none

/-- Chapter 11: planisher `x` (R374). -/
def State.plValue (s : State) (x k : Nat) : Option Slot :=
  let q := kvGet s.plans x
  let j := (q.map Plan.job).getD {}
  if k = O.PL_STATE then some (match q with | some q => ofN q.st | none => 0)
  else if k = O.PL_OWNER then some (match q with | some q => ofN q.owner | none => 0xFF)
  else if k = O.PL_IN_SYMBOLS then some (ofN j.inSyms)
  else if k = O.PL_OUT_BYTES then some (ofN j.outBytes)
  else if k = O.PL_RUN_BYTES then some (ofN j.runBytes)
  else if k = O.PL_PEND_BITS then some (ofN j.accBits)
  else if k = O.PL_BLOCKS then some (ofN j.blocks)
  else if k = O.PL_ERR_OFFSET then some (ofN j.errAt)
  else if k = O.PL_DICT_NEXT then some (ofN j.next)
  else if k = O.PL_CLEARS then some (ofN j.clears)
  else none

/-- The demand in force in MB/s (R390). -/
def State.fetchMbs (s : State) : Nat :=
  if s.raster.st = 0 then 0
  else
    let b := ((s.raster.layers.map fun l => s.demand l.shown).foldl (· + ·) 0)
    let t := s.timing
    if t.ht * t.vt = 0 then 0 else b * t.khz * 1000 / (t.ht * t.vt) / 1000000

/-- The capture address, size, references and state of a buffer that RBUF_TARGET names (R401). -/
def State.rbuf (s : State) (h : Nat) : Option HubBuf :=
  match kvGet s.bufs h with
  | some b => if b.kind = .raster then some b else none
  | none => none

/-- Chapter 12: path `p`, layer `l` (R401 to R404). -/
def State.rasterValue (s : State) (p l i sub : Nat) : Option Slot :=
  let k := i * 256 + sub
  let y := s.layer l
  let b := s.rbuf (s.obj p O.RBUF_TARGET).toNat
  if k = O.RASTER_STATE then some (ofN s.raster.st)
  else if k = O.RASTER_LINE then some (ofN s.raster.line)
  else if k = O.RASTER_FETCH_MBS then some (ofN s.fetchMbs)
  else if k = O.RBUF_ADDR then some (match b with | some b => ofN (capAddr b.die b.off) | none => 0)
  else if k = O.RBUF_SIZE then some (match b with | some b => ofN b.size | none => 0)
  else if k = O.RBUF_REFS then
    some (match b with | some b => ofN (b2n b.held + s.layerRefs (s.obj p O.RBUF_TARGET).toNat) | none => 0)
  else if k = O.RBUF_STATE then some (match b with | some b => if b.held then 1 else 2 | none => 0)
  else if k = O.LAYER_OWNER_l then some (ofN (y.owner.getD 0xFF))
  else if k = O.LAYER_STATUS_l then
    let q := y.shown
    let clipped := q.kind != 0 && decide (s.timing.ha < q.x + q.w ∨ s.timing.va < q.y + q.h)
    some (ofN (b2n y.pending.isSome + 2 * b2n (q.kind != 0) + 4 * b2n (!y.ready) + 8 * b2n clipped))
  else if i = 0x2750 ∧ (sub = 1 ∨ sub = 2) then
    let o := s.out (sub - 1)
    let t := o.trained.getD (0, 0)
    some (ofN (t.1 * 2 ^ 16 + t.2 * 256 + 8 * b2n (bit (s.get (O.OUT_STATE_o + (sub - 1))) 3) + 4 * b2n o.present
      + o.state))
  else none

/-- LD_STATE_l (R456). -/
def Ld.stateWord (x : Ld) : Nat :=
  x.alloc % 65536 * 65536 + b2n x.bme * 128 + b2n x.mse * 64 + b2n x.decoder.isSome * 32 + x.st.num

/-- Shadows of an owner code that are pending (R422, R427). -/
def State.pendingOf (s : State) (o : Nat) : Nat := s.shadows.countP fun h => h.owner == o

/-- Chapters 2, 13, 14 and 15 (R56, R427, R454, R485). -/
def State.hubValue (s : State) (p i sub : Nat) : Option Slot :=
  let k := i * 256 + sub
  if k = O.TB_NOW then some (tmOf s.now)
  else if k = O.TB_WRAP then some (ofN s.wraps.toNat)
  else if k = O.DEVICE_STATE then some (ofN s.dev.num)
  else if k = O.PATH_ID then some (ofN p)
  else if k = O.PATH_OWNER then some (ofN (ownerOf p))
  else if k = O.DICT_PENDING then some (ofN (s.pendingOf (ownerOf p)))
  else if k = O.CXL_STATUS then some (putBit (s.get k) 6 (decide (s.now < s.spdmFree)))
  else if i = 0x2801 ∧ 1 ≤ sub then some (ofN (s.ld (sub - 1)).stateWord)
  else if i = 0x2504 ∧ p = 32 ∧ 1 ≤ sub then some 0
  else if k = O.ERROR_REGISTER then some (ofN s.errorRegister)
  else if k = O.FB_NODE_ID then some (ofN s.can.nodeId)
  else if k = O.FB_NMT_STATE then some (ofN s.can.nmt.num)
  else if k = O.FB_STATUS then some (putBit (s.get k) 2 s.can.errorPassive)
  else if (i = 0x1010 ∨ i = 0x1011) ∧ 1 ≤ sub then some 1
  else none

/-- The four loop states of die `x`, 8 for the hub (R517). -/
def State.loopWord (s : State) (x : Nat) : Nat :=
  (List.range 4).foldl (fun a j => a + (((s.power.loops.getD x []).getD j {}).st) * 8 ^ j) 0

/-- LINK_STATE_k (R544). -/
def State.linkState (s : State) (k : Nat) : Nat :=
  let n := (kvGet s.faults.linkFail k).getD 0
  let streams := s.ringLoad.countP fun e => e == (k / 2, k % 2 == 1)
  streams * 256 + 128 * b2n (s.faults.downLinks.contains (k / 2)) + 64 * b2n (n == 2) + 32 * b2n (decide (1 ≤ n))
    + (6 - max 1 (min 6 n))

/-- EVAL_HEALTH_d (R543). -/
def State.evalHealth (s : State) (d : Nat) : Nat :=
  maskOf ((s.faults.evalFailed.filter fun v => v / 8 == d).map (· % 8)) + 256 * b2n (s.faults.checkFailed.contains d)

/-- Chapters 16 to 19 (R511, R541, R543, R569, R590). FW_PROGRESS while an install runs is a free value (DEDUCED, log 104). -/
def State.systemValue (s : State) (i sub : Nat) : Option Slot :=
  let k := i * 256 + sub
  let first := (s.faults.openEvents.head?.map Prod.snd).getD 0
  if k = O.SEQ_PROJECTED_MA then some (ofN s.projected)
  else if k = O.SEQ_QUEUE then some (ofN s.power.queue.length)
  else if i = 0x2105 ∧ 1 ≤ sub then some (ofN (s.domain sub))
  else if i = 0x2112 ∧ 1 ≤ sub then some (ofN (s.loopWord (sub - 1)))
  else if k = O.REF_STATUS then
    some (ofN (fld (s.get k) 0 4 + 16 * b2n s.power.extPresent + 32 * b2n s.power.extValid.isSome))
  else if k = O.REF_EXT_OFFSET then
    some (if s.power.extPresent then (Config.sensor 300 s.now).signExtend 64 else 0)
  else if k = O.TARNISH_FIRST_TM then some (tmOf first)
  else if k = O.TARNISH_FIRST_WRAP then some (ofN (first / 2 ^ 55 % 2 ^ 16))
  else if k = O.GUARANTEE then some (ofN s.guarantee)
  else if k = O.FAULTS_OPEN then some (ofN s.faultsOpen)
  else if k = O.FLOG_SEQ then some (ofN s.faults.logSeq)
  else if k = O.FLOG_COUNT then some (ofN s.faults.log.length)
  else if i = 0x5F01 ∧ 1 ≤ sub then some (ofN (s.linkState (sub - 1)))
  else if i = 0x5F04 ∧ 1 ≤ sub then some (ofN (s.evalHealth (sub - 1)))
  else if k = O.BOOT_BANK then some (ofN s.fw.inForce)
  else if k = O.BOOT_STATUS then some (putBit (s.get k) 0 s.rollbackPending)
  else if k = O.BOOT_ROOT_SLOT then some (ofN (s.image 1).slot)
  else if k = O.FW_RELEASE then some (ofN (s.bank s.fw.inForce).release)
  else if i = 0x2901 ∧ 2 ≤ sub ∧ sub ≤ 7 then some (ofN (s.image (sub - 1)).version)
  else if i = 0x2902 ∧ 1 ≤ sub ∧ sub ≤ 6 then some (ofN (s.rollbackOf sub))
  else if k = O.ROOT_REVOKED then some (ofN s.rootRevoked)
  else if k = O.FW_PROGRESS ∧ s.num O.FW_STATE = 4 then some (ofN ((Config.sensor 301 s.now).toNat % 101))
  else if k = O.HK_STATUS then some (putBit (s.get k) 1 s.hk.settleAt.isSome)
  else if k = O.HK_EXT_REF_MV then some (s.get (O.MON_VALUE_c + 33))
  else if k = O.HK_MON_CYCLE_US then some (ofN s.monCycleUs)
  else if i = 0x2333 ∧ 1 ≤ sub then some (if s.monPresent (sub - 1) then s.get k else 4)
  else if k = O.PTEST_STATE then
    some (match s.test with | none => 0 | some t => if t.commanded then 2 else 1)
  else none

/-! ## The active value of a scalar object -/

/-- Entries of a PDO's mapping: up to the first zero entry or 16 (R475). -/
def State.pdoEntries (s : State) (i : Nat) : List Nat :=
  ((List.range 16).map fun j => s.num (i * 256 + 1 + j)).takeWhile (· != 0)

/-- The active value of a scalar object for path `p` with context `c`. -/
def State.scalar (s : State) (p c i sub : Nat) : Except Abort Slot :=
  let j := normIdx i
  let n := digitOf i
  let k := j * 256 + sub
  let inst := s.instOf p c k
  let stored := s.obj inst (i * 256 + sub)
  if (j = 0x4222 ∨ j = 0x4410) ∧ 2 ≤ sub then s.selWord p c k
  else if (j = 0x1600 ∨ j = 0x1A00) ∧ sub = 0 then .ok (ofN (s.pdoEntries i).length)
  else .ok ((match j / 256 with
    | 0x2B | 0x2A | 0x30 => s.frontValue j n sub
    | 0x40 | 0x41 | 0x42 | 0x43 | 0x44 => s.ctxValue c k
    | 0x24 => s.memValue j sub
    | 0x25 => if j = 0x2504 then s.hubValue p j sub else s.moveValue inst k
    | 0x26 => s.plValue inst k
    | 0x27 => s.rasterValue p n j sub
    | 0x20 | 0x22 | 0x28 => s.hubValue p j sub
    | 0x21 | 0x23 | 0x29 | 0x50 | 0x5F => s.systemValue j sub
    | _ => if j < 0x2000 then s.hubValue p j sub else none).getD stored)

/-! ## Strings and domains -/

/-- ASCII bytes of a string. -/
def ascii (t : String) : List Byte := t.toList.map fun ch => BitVec.ofNat 8 ch.toNat

/-- ID_PRODUCT (R427). -/
def Variant.product : Variant → List Byte
  | .sz2 => ascii "Septaz SZ480-2"
  | .sz4 => ascii "Septaz SZ480-4"
  | .sz8 => ascii "Septaz SZ480-8"

/-- The coefficients of a decimation stage, 16 bits each (R205). -/
def coefBytes (q n : Nat) : List Byte := (List.range n).flatMap fun i => leBytes 2 (Config.filterCoef q i).toNat

/-- The grey ramp of a layer's colour map (R384). -/
def greyRamp : List Byte := (List.range 256).flatMap fun i =>
  leBytes 4 (if i = 0 then 0 else 0xFF000000 + i * 0x10101)

/-- The active bytes of a DOMAIN or VISIBLE_STRING object. -/
def State.bytesOf (s : State) (i sub : Nat) : List Byte :=
  let j := normIdx i
  let k := j * 256 + sub
  if k = 0x200001 then ascii "Amiorn"
  else if k = 0x200002 ∨ k = O.DEVICE_NAME then s.variant.product
  else if k = O.HW_VERSION then ascii "A3/B2/C0"
  else if k = O.SW_VERSION then ascii "4.1"
  else if k = 0x420101 then coefBytes 2 47
  else if k = 0x420102 then coefBytes 3 71
  else if k = 0x420103 then coefBytes 5 119
  else if k = O.MEM_POISON_LIST then s.poisonAddrs.flatMap (leBytes 8)
  else if k = O.FLOG then s.faults.log.flatMap LogEntry.bytes
  else if k = O.SUSPECT_LIST then s.faults.suspects.flatten
  else if k = O.HALLMARK_PUB then Config.hallmarkPub
  else if k = O.HALLMARK_CHAIN then Config.hallmarkChain
  else if k = O.ATTEST_MEAS then s.aggregate
  else if k = O.ATTEST_NONCE then s.nonce
  else if k = O.CMAP_l then
    let b := s.blob 0 (i * 256 + sub)
    if b = [] then greyRamp else b
  else s.blob 0 (i * 256 + sub)

/-! ## The value a path reads -/

/-- The shadow of an object, where the path reads shadows and one is pending (R422). -/
def State.shadowOf (s : State) (p key : Nat) : Option Shadow :=
  if (s.obj p O.PATH_SHADOW_READ) = 1 then s.shadows.find? fun h => h.key == key else none

/-- What path `p` reads of a scalar object, or the length of a DOMAIN (R406, R413, R422); write-only objects read zero
(R13). -/
def State.readScalar (s : State) (p c i sub : Nat) : Except Abort Slot :=
  match s.absent i sub with
  | some a => .error a
  | none =>
    match findRow i sub with
    | none => .error .noSubindex
    | some r =>
      let h := if r.shadow then s.shadowOf p (i * 256 + sub) else none
      if r.acc = .wo then .ok 0
      else if r.ty.isBlob then
        .ok (ofN (match h with | some h => h.bytes.length | none => (s.bytesOf i sub).length))
      else match h with
        | some h => .ok h.value
        | none => s.scalar p c i sub

/-- What path `p` reads whole of a DOMAIN or VISIBLE_STRING object. -/
def State.readBytes (s : State) (p i sub : Nat) : List Byte :=
  match findRow i sub with
  | some r =>
    if r.acc = .wo then []
    else match (if r.shadow then s.shadowOf p (i * 256 + sub) else none) with
      | some h => h.bytes
      | none => s.bytesOf i sub
  | none => []

/-! ## Touchmarks and their wrap counts (R40, R58) -/

/-- The wrap companion that the row of a leading object names (R56, R414). -/
def companionOf (k : Nat) : Option Nat :=
  if k = O.TB_NOW then some O.TB_WRAP
  else if k = O.DEVICE_STATE_TM then some O.DEVICE_STATE_WRAP
  else if k = O.SYNC_TM then some O.SYNC_WRAP
  else if k = O.WAKE_TM then some O.WAKE_WRAP
  else if k = O.TARNISH_FIRST_TM then some O.TARNISH_FIRST_WRAP
  else if k = O.CAP_TM then some O.CAP_WRAP
  else none

/-- TOUCHMARK objects that hold a duration (R42, R58). -/
def holdsDuration (k : Nat) : Bool := [O.TRIG_T1, O.TRIG_T2, O.SEQ_RESET, O.DEC_PERIOD].contains k

/-- The wrap count of the instant a read of TOUCHMARK object `k` returned (R58). -/
def State.wrapOf (s : State) (p c i sub : Nat) : Slot :=
  let k := normIdx i * 256 + sub
  if holdsDuration k then 0
  else match companionOf k with
    | some w => (s.readScalar p c (w / 256) (w % 256)).toOption.getD 0
    | none => s.obj (wrapInst (s.instOf p c k)) (i * 256 + sub)

/-- A read of a TOUCHMARK sets the path's TM_WRAP (R58). -/
def noteWrap (s : State) (p c i sub : Nat) : State :=
  match findRow i sub with
  | some r => if r.ty = .touchmark then s.setObj p O.TM_WRAP (s.wrapOf p c i sub) else s
  | none => s

end Sys2Proof.Machine
end

