-- ==== Sys2Proof/Machine/DataPort.lean ====
section
/-!
DEFINITION. Who may write an object (R14, R482), DOMAIN values written whole (R407, R418), and the data ports with their
burst apertures (R315 to R323, R343, R481).
-/
namespace Sys2Proof.Machine

/-! ## Ownership (R14) -/

/-- The owner code that an object of owner column "owner" belongs to, 0xFF for none. -/
def State.objOwner (s : State) (p c i : Nat) : Nat :=
  if i = 0x2511 ∨ i = 0x2512 then s.chanOwner (s.mvSel p)
  else if i = 0x2521 then s.routeOwner (s.evSel p)
  else if i = 0x2601 ∨ i = 0x2602 then (match kvGet s.plans (s.plSel p) with | some q => q.owner | none => 0xFF)
  else if normIdx i = 0x2720 ∨ normIdx i = 0x2730 then (s.layer (digitOf i)).owner.getD 0xFF
  else s.ctxOwner c

/-- Whether path `p` may write an object by its Owner column (R14); communication objects of the steward may also be
written by path 32 (R482). WAKE_CTX has its own rule (R510). -/
def State.admits (s : State) (p c i sub : Nat) (r : ObjRow) : Bool :=
  let o := ownerOf p
  match r.own with
  | .any => true
  | .steward => o == s.steward || (decide (i < 0x2000) && p == 32)
  | .claimant => o == s.claimant (if i = 0x2102 then sub - 1 else digitOf i)
  | .owner => i == 0x2103 || o == s.objOwner p c i

/-- Whether the access code admits writes (R13). -/
def ObjRow.writable (r : ObjRow) : Bool := r.acc == .rw || r.acc == .rwp || r.acc == .wo

/-! ## DOMAIN values (R407, R418, R420) -/

/-- A write of a whole DOMAIN value, as its object takes it: ATTEST_NONCE 32 bytes and not while Busy (R561), a colour map
into its shadow (R422), where a submission checks its length (R397), others as they are. -/
def blobWrite (s : State) (p c i sub : Nat) (bs : List Byte) : Acc :=
  match s.absent i sub, findRow i sub with
  | some a, _ => (s, some a)
  | none, none => (s, some .noSubindex)
  | none, some r =>
    need r.writable .notWritable s fun s => need (s.admits p c i sub r) .noPermission s fun s =>
    need r.ty.isBlob .length s fun s =>
      let key := i * 256 + sub
      if key = O.ATTEST_NONCE then
        need (bs.length == 32) .length s fun s => need (s.num O.ATTEST_STATE != 1) .presentState s fun s =>
          .ok (s.setBlob 0 key bs)
      else if r.shadow then .ok (putShadow s (ownerOf p) key (ofN bs.length) bs)
      else .ok (s.setBlob 0 key bs)

/-! ## Ports (R315, R316) -/

/-- Where a port's state stands: its key in `ports`, the instance and the first subindex of its objects. -/
structure DpId where
  key : Nat
  inst : Nat
  base : Nat
  deriving DecidableEq, Repr

/-- The device port of path `p`, or the port of context `c`. -/
def dpId (p c : Nat) (ctxPort : Bool) : DpId :=
  if ctxPort then { key := 100 + c, inst := c, base := 0x250100 } else { key := p, inst := p, base := 0x250000 }

/-- Object `sub` of a port. -/
def State.dp (s : State) (q : DpId) (sub : Nat) : Nat := (s.obj q.inst (q.base + sub)).toNat

/-- Sets object `sub` of a port. -/
def State.setDp (s : State) (q : DpId) (sub v : Nat) : State := s.setObj q.inst (q.base + sub) (ofN v)

/-- Subindexes of R345. -/
abbrev dpOffset : Nat := 5
abbrev dpLength : Nat := 6
abbrev dpStatus : Nat := 8
abbrev dpErr : Nat := 9
abbrev dpPoison : Nat := 10

/-- The reasons of R343 that apply to an open of a port by path `p`, ascending. -/
def State.dpErrs (s : State) (p c : Nat) (q : DpId) (ctxPort : Bool) : List Nat :=
  let t := s.dp q 2
  let sel := s.dp q 3
  let fmt := s.dp q 4
  let g := if sel < 2 ^ 32 then s.held c sel else none
  let i := sel / 256 % 65536
  let row := if (s.absent i (sel % 256)).isNone then (findRow i (sel % 256)).filter fun r => r.ty.isBlob else none
  let wo := match row with | some r => r.acc == .wo && !s.admits p c i (sel % 256) r | none => false
  let e1 := if ctxPort then decide (t < 4 ∨ 7 < t) else decide (t < 1 ∨ 3 < t)
  let e2 := if t = 4 then decide (1 < fmt) || (fmt == 0 && (match g with | some g => g.dec | none => false)) else fmt != 0
  let e3 := match t with
    | 1 => row.isNone
    | 2 => sel % 64 != 0
    | 3 => (s.handleSize sel).isNone
    | 4 | 5 => g.isNone
    | _ => false
  let e4 := match t with
    | 1 => wo
    | 2 => (s.capWindow (ownerOf p) sel 1 false).isNone
    | 3 => !s.holds (ownerOf p) sel
    | _ => false
  let e5 := match t with
    | 5 => (match g with | some g => g.assay == [] | none => false)
    | 7 => (match s.ctx c with | some x => x.cru.handle.isNone | none => true)
    | _ => false
  if e1 then [1] else [(2, e2), (3, e3), (4, e4), (5, e5)].filterMap fun (k, b) => if b then some k else none

/-- The abort code of a reason (R343). -/
def dpAbort : Nat → Abort
  | 2 => .incompatible
  | 4 => .noPermission
  | 5 => .presentState
  | _ => .range

/-- DP_LENGTH at open (R316), and the port. -/
def State.dpTarget (s : State) (p c : Nat) (q : DpId) : Nat × Port :=
  let t := s.dp q 2
  let sel := s.dp q 3
  let fmt := s.dp q 4
  let port : Port := { target := t, select := sel, format := fmt, write := false }
  let i := sel / 256 % 65536
  match t with
  | 1 =>
    let w := match findRow i (sel % 256) with | some r => r.writable && s.admits p c i (sel % 256) r | none => false
    (match findRow i (sel % 256) with
      | some r => if r.acc = .wo then 0 else (s.readBytes p i (sel % 256)).length
      | none => 0, { port with write := w })
  | 2 =>
    (match s.capWindow (ownerOf p) sel 1 false with | some w => w.2 - sel | none => 0,
      { port with write := (s.capWindow (ownerOf p) sel 1 true).isSome })
  | 3 => ((s.handleSize sel).getD 0, { port with write := s.handleWritable sel })
  | 4 => (match s.held c sel with | some g => s.segBytesLen c g (fmt == 1) | none => 0, port)
  | 5 => ((s.obj c O.ASSAY_RECORDS).toNat * 64, port)
  | 6 =>
    let seqs := match s.ctx c with
      | some x => x.table.map Segment.seq
      | none => []
    (seqs.length * 64, { port with seqs })
  | _ =>
    let h := match s.ctx c with | some x => x.cru.handle.getD 0 | none => 0
    ((s.handleSize h).getD 0, { port with select := h })

/-- Closes a port; a written DOMAIN value is replaced by what was staged (R319). -/
def dpClosePort (s : State) (p c : Nat) (q : DpId) : Acc :=
  match kvGet s.ports q.key with
  | none => .ok s
  | some x =>
    let s := { s with ports := kvDel s.ports q.key }
    if x.target = 1 ∧ x.wrote then blobWrite s p c (x.select / 256 % 65536) (x.select % 256) x.staged else .ok s

/-- Opens a port on the target its objects name (R316, R343). -/
def dpOpenPort (s : State) (p c : Nat) (q : DpId) (ctxPort : Bool) : Acc :=
  match s.dpErrs p c q ctxPort with
  | e :: _ => (s.setDp q dpErr e, some (dpAbort e))
  | [] =>
    let (len, x) := s.dpTarget p c q
    let s := { s with ports := kvPut s.ports q.key x }
    .ok ((((s.setDp q dpErr 0).setDp q dpOffset 0).setDp q dpLength len).setObj q.inst (q.base + dpPoison)
      0xFFFFFFFFFFFFFFFF)

/-- A write of DP_CMD (R316): 1 opens, closing the port first, 2 closes. -/
def dpCmd (s : State) (p c : Nat) (ctxPort : Bool) (v : Slot) : Acc :=
  let q := dpId p c ctxPort
  need (!ctxPort || ownerOf p == s.ctxOwner c) .noPermission s fun s =>
  need (v == 1 || v == 2) .range s fun s =>
    match dpClosePort s p c q with
    | (s, some a) => (s, some a)
    | (s, none) => if v = 1 then dpOpenPort s p c q ctxPort else .ok s

/-- DP_OPEN (R316). -/
def execDpOpen (p : Nat) (ctxPort : Bool) (s : State) : Host.Outcome State Fault Refusal :=
  let c := s.selected p
  done (access s p ((dpId p c ctxPort).base + 1) fun s => dpCmd s p c ctxPort 1)

/-- DP_CLOSE (R319). -/
def execDpClose (p : Nat) (ctxPort : Bool) (s : State) : Host.Outcome State Fault Refusal :=
  let c := s.selected p
  done (access s p ((dpId p c ctxPort).base + 1) fun s => dpCmd s p c ctxPort 2)

/-! ## Data (R317, R318, R321) -/

/-- The capture addresses that byte `o` of a crucible buffer is merged from where its parts are spilled (R229, R233). -/
def State.cruAddrs (s : State) (h o : Nat) : List Nat :=
  match kvGet s.cruBufs h with
  | some b => if o < 64 then [] else b.members.filterMap fun d => s.spillUnit h b d ((o - 64) / cruElemBytes b.mode)
  | none => []

/-- The capture addresses that byte `o` of an open port's target is read from, none where it stands in no half (R282, R316,
R317). -/
def State.dpAddrs (s : State) (c : Nat) (x : Port) (o : Nat) : List Nat :=
  match x.target with
  | 2 => [x.select + o]
  | 3 => (match kvGet s.bufs x.select with
    | some b => if o < b.size then [capAddr b.die (b.off + o)] else []
    | none => s.cruAddrs x.select o)
  | 4 => ((s.held c x.select).bind fun g => s.segAddr c g (x.format == 1) o).toList
  | 5 => ((s.held c x.select).bind fun g => s.entryAddr c .assay g (64 * s.cN c O.ASSAY_RECORDS)).toList.map (· + o)
  | 6 => ((s.held c (x.seqs.getD (o / 64) 0)).bind fun g => s.entryAddr c .table g 64).toList.map (· + o % 64)
  | 7 => s.cruAddrs x.select o
  | _ => []

/-- Byte `o` of an open port's target, with its poison (R317, R321). -/
def State.dpByte (s : State) (p c : Nat) (x : Port) (o : Nat) : Byte × Bool :=
  match x.target with
  | 1 => ((s.readBytes p (x.select / 256 % 65536) (x.select % 256)).getD o 0#8, false)
  | 2 =>
    match s.resolve (x.select + o) with
    | some (a, _) => (s.peek a, s.poisoned a)
    | none => (0xFF#8, true)
  | 4 => (match s.held c x.select with | some g => s.segByte c g (x.format == 1) o | none => (0#8, false))
  | 5 => ((match s.held c x.select with | some g => g.assay.getD o 0#8 | none => 0#8), (s.dpAddrs c x o).any s.poisoned)
  | 6 =>
    (match s.held c (x.seqs.getD (o / 64) 0) with
      | some g => ((descriptor c g).getD (o % 64) 0#8, (s.dpAddrs c x o).any s.poisoned)
      | none => (0#8, false))
  | _ =>
    let r := s.handleRead x.select o 1
    (r.1.headD 0#8, r.2)

/-- What stops an access of `n` bytes at a port's cursor: the code, and whether the target is gone (R191, R321 to R323). -/
def State.dpStop (s : State) (p c : Nat) (q : DpId) (x : Port) (n : Nat) : Option (Abort × Bool) :=
  match x.target with
  | 2 =>
    let o := s.dp q dpOffset
    let n := min n (s.dp q dpLength - o)
    if n = 0 ∨ (s.capWindow (ownerOf p) (x.select + o) n false).isSome then none else some (.noPermission, false)
  | 3 => if s.holds (ownerOf p) x.select then none else some (.presentState, true)
  | 4 | 5 =>
    match s.held c x.select with
    | none => some (.presentState, true)
    | some g => if x.target = 4 ∧ g.revoked then some (.presentState, false) else none
  | 7 =>
    let cur := match s.ctx c with | some y => y.cru.handle | none => none
    if cur = some x.select then none else some (.presentState, true)
  | _ => none

/-- Moves the cursor on by `n`, stopping at DP_LENGTH with END (R318). -/
def dpAdvance (s : State) (q : DpId) (n : Nat) : State :=
  let o := s.dp q dpOffset + n
  let l := s.dp q dpLength
  if l ≤ o then (s.setDp q dpOffset l).flag q.inst (q.base + dpStatus) 0 else s.setDp q dpOffset o


/-- Reads `n` bytes at the cursor of a port, each unit with the outcome of its check, a free value where the command names none
(R298, R318, R321; log 80): the bytes, and whether any is poisoned. -/
def dpRead (s : State) (p c : Nat) (ctxPort : Bool) (n : Nat) (checks : Option (List Ecc)) :
    State × Except Abort (List Byte × Bool) :=
  let q := dpId p c ctxPort
  if ctxPort ∧ ownerOf p ≠ s.ctxOwner c then (s, .error .noPermission)
  else match kvGet s.ports q.key with
    | none => (s, .error .presentState)
    | some x =>
      match s.dpStop p c q x n with
      | some (a, gone) => (if gone then s.flag q.inst (q.base + dpStatus) 2 else s, .error a)
      | none =>
        let o := s.dp q dpOffset
        let l := s.dp q dpLength
        let at_ (i : Nat) : List Nat := if o + i < l then (s.dpAddrs c x (o + i)).map fun a => a / 64 * 64 else []
        let units := uniq ((List.range n).flatMap at_)
        let (es, s) := match checks with | some es => (es, s) | none => freeChecks s units
        let (bad, s) := readUnits s units es
        let failed (i : Nat) : Bool := (at_ i).any bad.contains
        let bs := (List.range n).map fun i =>
          if o + i < l then ((s.dpByte p c x (o + i)).1, (s.dpByte p c x (o + i)).2 || failed i) else (0#8, false)
        let s := match bs.findIdx? Prod.snd with
          | some i =>
            let s := s.flag q.inst (q.base + dpStatus) 1
            if s.obj q.inst (q.base + dpPoison) = 0xFFFFFFFFFFFFFFFF then s.setDp q dpPoison (o + i) else s
          | none => s
        (dpAdvance s q n, .ok (bs.map Prod.fst, bs.any Prod.snd))

/-- Writes `bs` into a list of bytes from offset `o`, zeros filling what was never written (R319). -/
def overlay (old : List Byte) (o : Nat) (bs : List Byte) : List Byte :=
  let pad := old ++ List.replicate (o + bs.length - old.length) 0#8
  pad.take o ++ bs ++ pad.drop (o + bs.length)

/-- Writes bytes at the cursor of a port (R318, R319, R322, R323). -/
def dpWrite (s : State) (p c : Nat) (ctxPort : Bool) (bs : List Byte) : Acc :=
  let q := dpId p c ctxPort
  need (!ctxPort || ownerOf p == s.ctxOwner c) .noPermission s fun s =>
    match kvGet s.ports q.key with
    | none => (s, some .presentState)
    | some x =>
      let o := s.dp q dpOffset
      let l := s.dp q dpLength
      let fit := bs.take (l - o)
      match s.dpStop p c q x bs.length with
      | some (a, gone) => (if gone then s.flag q.inst (q.base + dpStatus) 2 else s, some a)
      | none =>
        match x.target with
        | 1 => need x.write .notWritable s fun s =>
            let staged := overlay x.staged o bs
            let s := { s with ports := kvPut s.ports q.key { x with staged, wrote := true } }
            .ok ((s.setDp q dpLength staged.length).setDp q dpOffset (o + bs.length))
        | 2 =>
          need (fit == [] || (s.capWindow (ownerOf p) (x.select + o) fit.length true).isSome) .notWritable s fun s =>
            .ok (dpAdvance (if fit = [] then s else writeMem s (x.select + o) fit) q bs.length)
        | 3 => need x.write .notWritable s fun s => .ok (dpAdvance (handleWrite s x.select o fit) q bs.length)
        | _ => (s, some .notWritable)

/-! ## Reads and their answers (R412, R416, R424) -/

/-- All ones: what a window read that aborts returns (R416). -/
def allOnes : Slot := 0xFFFFFFFFFFFFFFFF

/-- The answer a path's last read got. -/
def setResp (s : State) (p : Nat) (v : Slot) : State := s.setPath p { s.path p with resp := v }

/-- A window read of path `p` at object `k`: aborts are recorded and return all ones; during a hub controller restart it
returns all ones and is recorded once the restart ends (R416, R424). -/
def readAccess (s : State) (p k : Nat) (f : State → State × Except Abort Slot) : State :=
  if s.serves p then
    if s.hubRestart then setResp { s with missed := s.missed ++ [(p, k, 1)] } p allOnes
    else match f (takeTurn s) with
      | (s, .ok v) => setResp s p v
      | (s, .error a) => setResp (recordAbort s p k 1 a) p allOnes
  else s

/-- An 8-byte read of DP_DATA. -/
def dpDataRead (s : State) (p c : Nat) (ctxPort : Bool) (checks : Option (List Ecc)) :
    State × Except Abort Slot :=
  match dpRead s p c ctxPort 8 checks with
  | (s, .ok r) => (s, .ok (ofN (leNat r.1)))
  | (s, .error a) => (s, .error a)

/-- DP_DATA_READ (R318). -/
def execDpDataRead (p : Nat) (port : PortRead) (s : State) : Host.Outcome State Fault Refusal :=
  let c := s.selected p
  done (readAccess s p ((dpId p c port.ctx).base + 7) fun s => dpDataRead s p c port.ctx (some port.checks))

/-- DP_DATA_WRITE (R318). -/
def execDpDataWrite (p : Nat) (ctxPort : Bool) (v : Slot) (s : State) : Host.Outcome State Fault Refusal :=
  let c := s.selected p
  done (access s p ((dpId p c ctxPort).base + 7) fun s => dpWrite s p c ctxPort (leBytes 8 v.toNat))

/-! ## Burst apertures (R320) -/

/-- An access of LD `l` completes with Unsupported Request and has no effect (R320, R412). -/
def refuseAccess (s : State) (l : Nat) : State := { s with sent := .unsupported l :: s.sent }

/-- Whether an aperture access is one that R320 admits. -/
def apertureOk (off n : Nat) : Bool := off % 8 == 0 && n % 8 == 0 && decide (8 ≤ n) && decide (n ≤ 512)

/-- APERTURE_READ (R320, R321): what cannot be read returns all ones; another access is an Unsupported Request. -/
def execApertureRead (l : Nat) (port : PortRead) (off n : Nat) (s : State) : Host.Outcome State Fault Refusal :=
  done (if l < 16 ∧ s.serves l then
    if apertureOk off n = false then refuseAccess s l
    else
      let c := s.selected l
      let ones := List.replicate n 0xFF#8
      if s.hubRestart then
        { s with missed := s.missed ++ [(l, (dpId l c port.ctx).base + 7, 1)], sent := .completion l ones false :: s.sent }
      else match dpRead s l c port.ctx n (some port.checks) with
        | (s, .ok r) => { s with sent := .completion l r.1 r.2 :: s.sent }
        | (s, .error _) => { s with sent := .completion l ones false :: s.sent }
    else s)

/-- APERTURE_WRITE (R320, R346): a write to a target that cannot be written is discarded and WRITE_REFUSED sets. -/
def execApertureWrite (l : Nat) (ctxPort : Bool) (off : Nat) (data : List Byte) (s : State) :
    Host.Outcome State Fault Refusal :=
  done (if l < 16 ∧ s.serves l then
    if apertureOk off data.length = false then refuseAccess s l
    else
      let c := s.selected l
      let q := dpId l c ctxPort
      if s.hubRestart then { s with missed := s.missed ++ [(l, q.base + 7, 2)] }
      else match dpWrite s l c ctxPort data with
        | (s, some .notWritable) => s.flag q.inst (q.base + dpStatus) 3
        | (s, _) => s
    else s)

end Sys2Proof.Machine
end

