-- ==== Sys2Proof/Machine/Access.lean ====
section
/-!
DEFINITION. Accesses to the dictionary: writes checked in the order of R420 and led to the object's own operation, whole
and half reads with snapshots and companions (R58, R413, R414), half writes with the stage (R415), the dictionary mailbox
(R417, R418), and the check of a PDO mapping (R475, R476).
-/
namespace Sys2Proof.Machine

/-! ## PDO mappings (R475, R476) -/

/-- Size in bits a mapping entry must state of a type; none where the type is not scalar. -/
def ObjTy.mapBits : ObjTy → Option Nat
  | .bool => some 1
  | .str | .domain => none
  | t => some (8 * t.bytes)

/-- Whether a mapping entry is a dummy of an RPDO. -/
def isDummy (e : Nat) : Bool := [0x00050008, 0x00060010, 0x00070020].contains e

/-- Whether an entry of a transmit or receive mapping is admitted (R476); path 32 writes no host window (R324). -/
def State.mapEntryOk (s : State) (tx : Bool) (e : Nat) : Bool :=
  let i := e / 2 ^ 16 % 2 ^ 16
  let sub := e / 256 % 256
  if !tx && isDummy e then true
  else (s.absent i sub).isNone && (match findRow i sub with
    | some r => r.ty.mapBits == some (e % 256) &&
        (if tx then r.acc != .wo && i * 256 + sub != O.DP_DATA && i * 256 + sub != O.CDP_DATA
        else r.writable && i != 0x2504)
    | none => false)

/-- The check of a PDO's mapping when bit 31 of its COB-ID is cleared (R475): `i` is its communication index. -/
def State.mapOk (s : State) (i : Nat) : Bool :=
  let es := s.pdoEntries (i + 0x200)
  es.all (s.mapEntryOk (decide (0x1800 ≤ i))) && decide ((es.map (· % 256)).foldl (· + ·) 0 ≤ 512)

/-- The event timer of TPDO `k` starts again (R477). -/
def startTpdoTimer (s : State) (k : Nat) : State :=
  let ms := s.num (O.TPDO_TIMER + k * 256)
  { s with can := { s.can with
    tpdoTimer := if ms = 0 then kvDel s.can.tpdoTimer k else kvPut s.can.tpdoTimer k (s.now + ms * msTicks) } }

/-- The time-out of RPDO `k` starts again (R478). -/
def startRpdoTimer (s : State) (k : Nat) : State :=
  let ms := s.num (O.RPDO_TIMEOUT + k * 256)
  { s with can := { s.can with
    rpdoTimer := if ms = 0 then kvDel s.can.rpdoTimer k else kvPut s.can.rpdoTimer k (s.now + ms * msTicks) } }

/-- A checked write of a PDO's COB-ID, 14pp:01 or 18pp:01 (R475). -/
def pdoCobid (s : State) (i : Nat) (v : Slot) : Acc :=
  need (bit v 31 || s.mapOk i) .incompatible s fun s =>
    let k := i % 16
    let s := s.put (i * 256 + 1) v
    let s := if i < 0x1800 then { s with can := { s.can with rpdoHeld := kvDel s.can.rpdoHeld k } }
      else { s with can := { s.can with tpdoDue := s.can.tpdoDue.filter fun j => j != k, tpdoSync := kvDel s.can.tpdoSync k, tpdoHeld := kvDel s.can.tpdoHeld k } }
    .ok (if i < 0x1800 then startRpdoTimer s k else startTpdoTimer s k)

/-- A write of a PDO's COB-ID by path `p`, checked in the order of R420. -/
def pdoCobidWrite (s : State) (p i : Nat) (v : Slot) : Acc :=
  commOnly s p fun s => need (ObjTy.u32.fits v) .range s fun s => pdoCobid s i v

/-- PDO_COBID_WRITE (R475): `idx` is 1400 to 1403 or 1800 to 1803. -/
def execPdoCobidWrite (p idx : Nat) (v : Slot) (s : State) : Host.Outcome State Fault Refusal :=
  done (if normIdx idx = 0x1400 ∨ normIdx idx = 0x1800 then
    access s p (idx * 256 + 1) fun s => pdoCobidWrite s p idx v else s)

/-! ## Writes with an operation of their own -/

/-- The operation a command value names, 1 the first of the list; other values abort (R419). -/
def pickCmd (s : State) (v : Slot) (l : List (State → Acc)) : Acc :=
  if v.toNat = 0 then (s, some .range)
  else match l.drop (v.toNat - 1) with
    | f :: _ => f s
    | [] => (s, some .range)

/-- A write of a WAKE_CTX entry (R496, R510, R515). Its reserved bits are ignored (R7), so CONTEXT, 12 bits wide, is never
above 4,095 and R510's range condition never holds (DEDUCED, log 75). -/
def wakeCtxWrite (s : State) (p k : Nat) (v : Slot) : Acc :=
  let o := ownerOf p
  let old := s.get k
  let keep : Nat := fld v 0 12 + b2n (bit v 15) * 2 ^ 15
  if bit v 15 then
    need (o == s.ctxOwner (fld v 0 12)) .noPermission s fun s =>
    need (ObjTy.u32.fits v) .range s fun s => .ok (s.put k (ofN (o * 2 ^ 24 + keep)))
  else
    need (!bit old 15 || o == fld old 24 8 || o == s.steward) .noPermission s fun s =>
    need (ObjTy.u32.fits v) .range s fun s => .ok (s.put k (ofN (0xFF000000 + keep)))

/-- Polish of EV_STATUS of route `r` (R341). -/
def routePolish (s : State) (p r : Nat) (v : Slot) : Acc :=
  match kvGet s.routes r with
  | none => (s, some .noPermission)
  | some x => need (ownerOf p == x.owner) .noPermission s fun s => need (ObjTy.u32.fits v) .range s fun s =>
      .ok { s with routes := kvPut s.routes r { x with gone := x.gone && !bit v 0 } }

/-- Device, calibration and input objects with an operation of their own: `k` as the object names, `n` the digit. -/
def deviceWrite (s : State) (p n k : Nat) (v : Slot) : Option Acc :=
  if k = O.DICT_COMMIT then some (dictCommit s p v)
  else if k = O.DICT_STORE then some (dictStore s p v)
  else if k = O.DICT_RESTORE then some (dictRestore s p v)
  else if k = O.EPOCH_SOURCE then some (epochSourceWrite s p v)
  else if k = O.CAL_START then some (calStart s p v)
  else if k = O.CAL_COMMIT then some (calCommit s p v)
  else if k = O.SLICE_RETEST then some (sliceRetest s p v)
  else if k = O.SKEWSET_CLEAR then some (skewsetClear s p v)
  else if k = O.FE_RANGE_n then some (feWrite s p n 1 v)
  else if k = O.FE_OFFSET_n then some (feWrite s p n 2 v)
  else if k = O.FE_FILTER_n then some (feWrite s p n 3 v)
  else if k = O.ALLOY_COMMIT_n then some (alloyCommitWrite s p n v)
  else if k = O.RING_POLICY_n then some (ringPolicyWrite s p n v)
  else if k = O.RING_MIB_n then some (ringMibWrite s p n v)
  else none

/-- Context and microcode-store objects with an operation of their own. -/
def contextWrite (s : State) (p c k : Nat) (v : Slot) : Option Acc :=
  if k = O.CTX_CMD then some (pickCmd s v [(ctxClaim · p c), (ctxArm · p c), (ctxHold · p c), (ctxResume · p c),
    (ctxDisarm · p c), (ctxFree · p c)])
  else if k = O.TRIG_FORCE then some (trigForceWrite s p c v)
  else if isLevelObj k then some (ctxOwnerOnly s p c fun s => need (levelRange k v) .range s fun s => levelWrite s c k v)
  else if k = O.SEG_RELEASE_SEQ then some (releaseSeq s p c v)
  else if k = O.SEG_RELEASE_UPTO then some (releaseUpto s p c v)
  else if k = O.SEG_RELEASE_ALL then some (releaseAllWrite s p c v)
  else if k = O.CRU_CMD then some (cruCmdWrite s p c v)
  else if k = O.ASTORE_LOAD then some (astoreWrite s p v)
  else none

/-- Memory, port, mover, router, planisher and raster objects with an operation of their own. -/
def moveWrite (s : State) (p c n k : Nat) (v : Slot) : Option Acc :=
  if k = O.MEM_SPARE_CMD then some (memSpareWrite s p v)
  else if k = O.DP_CMD then some (dpCmd s p c false v)
  else if k = O.CDP_CMD then some (dpCmd s p c true v)
  else if k = O.DP_DATA then some (dpWrite s p c false (leBytes 8 v.toNat))
  else if k = O.CDP_DATA then some (dpWrite s p c true (leBytes 8 v.toNat))
  else if k = O.MV_CH_CMD then
    let x := s.mvSel p
    some (pickCmd s v [(mvClaim · p x), (mvStart · p x), (mvPause · p x), (mvResume · p x), (mvStop · p x),
      (mvRelease · p x)])
  else if k = O.EV_CMD then some (pickCmd s v [(evClaim · p (s.evSel p)), (evRelease · p (s.evSel p))])
  else if k = O.EV_SOURCE ∨ k = O.EV_DEST ∨ k = O.EV_ENABLE then some (routeWrite s p (s.evSel p) k v)
  else if k = O.EV_STATUS then some (routePolish s p (s.evSel p) v)
  else if k = O.PL_CMD then
    let x := s.plSel p
    some (pickCmd s v [(plClaim · p x), (plStart · p x), (plFinish · p x), (plContinue · p x), (plAbort · p x),
      (plRelease · p x)])
  else if k = O.RASTER_CMD then some (rasterCmdWrite s p v)
  else if k = O.RASTER_COMMIT then some (rasterCommitWrite s p v)
  else if k = O.RBUF_CMD then some (pickCmd s v [(rbufAllocate · p), (rbufFree · p)])
  else if k = O.LAYER_CMD_l then some (pickCmd s v [(layerClaim · p n), (layerRelease · p n)])
  else none

/-- Host, field-bus, power, fault, security and housekeeping objects with an operation of their own; `i` is the index. -/
def systemWrite (s : State) (p i sub k : Nat) (v : Slot) : Option Acc :=
  if k = O.CLAIM_CMD then some (claimWrite s p v)
  else if k = O.ERR_HIST_CLEAR then some (errHistClear s p v)
  else if k = O.STORE_ALL then some (storeAll s p v)
  else if k = O.STORE_COMM then some (storeComm s p v)
  else if k = O.RESTORE_ALL ∨ k = O.RESTORE_COMM then some (restoreComm s p sub v)
  else if k = O.RPDO_COBID ∨ k = O.TPDO_COBID then some (pdoCobidWrite s p i v)
  else if k = O.POWER_CMD then some (powerCmd s p v)
  else if k = O.REF_SELECT then some (refSelect s p v)
  else if i = 0x2103 then some (wakeCtxWrite s p k v)
  else if k = O.TARNISH then some (tarnishPolish s p v)
  else if k = O.CAP_CMD then some (capCmd s p v)
  else if k = O.FW_CMD then some (fwCmd s p v)
  else if k = O.ATTEST_CMD then some (attestWrite s p v)
  else if k = O.HK_REF_SELECT then some (hkRefWrite s p v)
  else if i = 0x2302 then some (auxRangeWrite s p (sub - 1) v)
  else if k = O.AUX_CAL_CMD then some (auxCmd s p v)
  else if k = O.PTEST_CMD then some (ptestWrite s p v)
  else none

/-- The operation of its own of a writable object, none where the object is only stored. -/
def ownWrite (s : State) (p c i sub : Nat) (v : Slot) : Option Acc :=
  let n := digitOf i
  let k := normIdx i * 256 + sub
  match i / 256 with
  | 0x20 | 0x22 | 0x2A => deviceWrite s p n k v
  | 0x30 | 0x31 | 0x32 | 0x33 | 0x34 | 0x35 | 0x36 | 0x37 => deviceWrite s p n k v
  | 0x40 | 0x41 | 0x42 | 0x43 | 0x44 => contextWrite s p c k v
  | 0x24 | 0x25 | 0x26 | 0x27 => moveWrite s p c n k v
  | _ => systemWrite s p i sub k v

/-! ## Stored objects -/

/-- Objects of a context that are written in Defined and Suspended only (R168, R202, R213, R215, R242, R254). -/
def isArmObj (k : Nat) : Bool :=
  let i := k / 256
  k == O.CTX_INPUT || (decide (0x4100 ≤ i ∧ i ≤ 0x4104)) || i == 0x4200 || (i == 0x4210 && decide (k % 256 ≤ 3))
    || i == 0x4300 || i == 0x4301 || k == O.ASSAY_PROGRAM || i == 0x4401 || i == 0x4402

/-- The range of a value that depends on what the path has selected (R215, R275, R345). -/
def State.pathRange (s : State) (p c k : Nat) (v : Slot) : Bool :=
  if k = O.SEG_SELECT ∨ k = O.ASSAY_SELECT then (s.held c v.toNat).isSome
  else if k = O.DP_OFFSET then decide (v.toNat ≤ s.dp (dpId p c false) dpLength)
  else if k = O.CDP_OFFSET then decide (v.toNat ≤ s.dp (dpId p c true) dpLength)
  else true

/-- Whether a stored object may be written in the present state (R51, R168, R215, R324, R328, R373, R401, R475). -/
def State.writableNow (s : State) (p c i sub : Nat) : Bool :=
  let k := normIdx i * 256 + sub
  if isArmObj k then
    (match s.ctx c with
      | some x => x.st != .armed && x.st != .held && (k != O.SEG_TABLE_SIZE || x.inUse == 0)
      | none => true)
  else if epochKeys.contains k then s.num O.EPOCH_SOURCE == 1
  else if i = 0x2504 then p != 32
  else if i = 0x2512 then
    (match s.chan (s.mvSel p) with
      | some x => x.st != .running && x.st != .parked
      | none => true)
  else if i = 0x2601 ∧ 4 ≤ sub ∧ sub ≤ 7 then s.plWritable (s.plSel p) k
  else if k = O.RASTER_MODE ∨ k = O.RASTER_LINES_AHEAD ∨ i = 0x2701 then s.raster.st == 0
  else if normIdx i = 0x1600 ∨ normIdx i = 0x1A00 then bit (s.get ((i - 0x200) * 256 + 1)) 31
  else true

/-- A heartbeat consumer is set anew: it watches from the node's next heartbeat on (R467). -/
def resetConsumer (s : State) (k : Nat) : State :=
  let was := s.can.lost.contains k
  let s := { s with can := { s.can with
    heard := kvDel s.can.heard k, lost := s.can.lost.filter fun j => j != k } }
  if was ∧ s.can.lost.isEmpty ∧ s.can.active.contains 0x8130 then commEnd s 0x8130 else s

/-- What else a stored write does: measurement 9 (R560, R567), the latch's count (R55), the old trigger-in threshold (R172),
and the timers of the field-bus port (R467, R477, R478). A write of TRUE to LATCH_ENABLE zeroes the count also where it is
TRUE already (log 72). -/
def afterWrite (old s : State) (i sub : Nat) (v : Slot) : State :=
  let k := normIdx i * 256 + sub
  if k = O.SEC_LOCKS then measured old s
  else if k = O.LATCH_ENABLE ∧ v = 1 then s.put O.LATCH_COUNT 0
  else if (k = O.TRIGIN_LEVEL ∨ k = O.TRIGIN_HYST) ∧ old.get k ≠ v then { s with trigInOld := some (s.now + 400000) }
  else if k = O.HB_PRODUCER then { s with can := { s.can with nextBeat := s.now + v.toNat * msTicks } }
  else if i = 0x1016 then resetConsumer s (sub - 1)
  else if k = O.TPDO_TIMER then startTpdoTimer s (i % 16)
  else if k = O.RPDO_TIMEOUT then startRpdoTimer s (i % 16)
  else s

/-- The bits of an object that a write sets: those of its row; FLAGS[7:3] of a descriptor is reserved (R7, R331). -/
def ObjRow.writeMask (r : ObjRow) (i sub : Nat) : Slot :=
  if i = 0x2512 ∧ (sub - 1) % 4 = 3 then ofN r.mask &&& ~~~ 0xF80000#64 else ofN r.mask

/-- Stores a checked value: a polish clears bits (R13), bits outside the row's mask keep their value (R7), a shadow waits
for its hand-over (R422). -/
def storeScalar (s : State) (p c i sub : Nat) (r : ObjRow) (v : Slot) : State :=
  let inst := s.instOf p c (normIdx i * 256 + sub)
  let k := i * 256 + sub
  let old := s.obj inst k
  let mask := r.writeMask i sub
  let new := (old &&& ~~~ mask) ||| (v &&& mask)
  if r.acc = .rwp then s.setObj inst k (polish old v r.mask)
  else if r.shadow then putShadow s (ownerOf p) (objKey inst k) new
  else afterWrite s (s.setObj inst k new) i sub v

/-- A write of the whole slot of object `i`:`sub` by path `p`, with context `c` (R420). -/
def writeObj (s : State) (p c i sub : Nat) (v : Slot) : Acc :=
  match s.absent i sub, findRow i sub with
  | some a, _ => (s, some a)
  | none, none => (s, some .noSubindex)
  | none, some r =>
    need r.writable .notWritable s fun s =>
    match ownWrite s p c i sub v with
    | some a => a
    | none =>
      need (s.admits p c i sub r) .noPermission s fun s =>
      need (!r.ty.isBlob) .length s fun s =>
      need (s.valueOk r i sub v && s.pathRange p c (normIdx i * 256 + sub) v) .range s fun s =>
      need (s.writableNow p c i sub) .presentState s fun s => .ok (storeScalar s p c i sub r v)

/-- OBJECT_WRITE (R413, R420): an 8-byte write of path `p`. -/
def execObjectWrite (p idx sub : Nat) (v : Slot) (s : State) : Host.Outcome State Fault Refusal :=
  done (access s p (idx * 256 + sub) fun s => writeObj s p (s.selected p) idx sub v)

/-! ## Reads (R58, R413, R414) -/

/-- A read of a leading object snapshots its companion for the path (R414). -/
def noteCompanion (s : State) (p c i sub : Nat) : State :=
  match companionOf (i * 256 + sub) with
  | some w =>
    match s.readScalar p c (w / 256) (w % 256) with
    | .ok v => s.setPath p { s.path p with companions := kvPut (s.path p).companions (objKey (s.instOf p c w) w) v }
    | .error _ => s
  | none => s

/-- A read of the whole slot of object `i`:`sub` by path `p` with context `c`. -/
def readValue (s : State) (p c i sub : Nat) : State × Except Abort Slot :=
  let k := i * 256 + sub
  if k = O.DP_DATA ∨ k = O.CDP_DATA then dpDataRead s p c (k == O.CDP_DATA) none
  else
    let held := kvGet (s.path p).companions (objKey (s.instOf p c (normIdx i * 256 + sub)) k)
    match s.readScalar p c i sub with
    | .error a => (s, .error a)
    | .ok v => (noteCompanion (noteWrap s p c i sub) p c i sub, .ok (held.getD v))

/-- TOUCHMARK_READ (R58, R414): an 8-byte read. -/
def execTouchmarkRead (p idx sub : Nat) (s : State) : Host.Outcome State Fault Refusal :=
  done (readAccess s p (idx * 256 + sub) fun s => readValue s p (s.selected p) idx sub)

/-- Whether the object moves in halves with a snapshot and a stage: a 64-bit scalar. -/
def isWide (i sub : Nat) : Bool :=
  match findRow i sub with
  | some r => !r.ty.isBlob && r.ty.bytes == 8
  | none => false

/-- A low-half read (R413, R414). -/
def readLow (s : State) (p c i sub : Nat) : State × Except Abort Slot :=
  match readValue s p c i sub with
  | (s, .ok v) =>
    let s := if isWide i sub then s.setPath p { s.path p with snapshot := some (i * 256 + sub, v) } else s
    (s, .ok (ofN (fld v 0 32)))
  | r => r

/-- A high-half read (R413, R414). -/
def readHigh (s : State) (p c i sub : Nat) : State × Except Abort Slot :=
  let k := i * 256 + sub
  if isWide i sub ∧ (s.absent i sub).isNone then
    match (s.path p).snapshot with
    | some (k', v) =>
      if k' = k then (s.setPath p { s.path p with snapshot := none }, .ok (ofN (fld v 32 32)))
      else readLive s p c i sub k
    | none => readLive s p c i sub k
  else match s.readScalar p c i sub with
    | .ok v => (s, .ok (ofN (fld v 32 32)))
    | .error a => (s, .error a)
where
  /-- The high half of the live value, with TEAR; an object whose read has a side effect returns zero. -/
  readLive (s : State) (p c i sub k : Nat) : State × Except Abort Slot :=
    if k = O.DP_DATA ∨ k = O.CDP_DATA then (s, .ok 0)
    else match s.readScalar p c i sub with
      | .ok v => (s.flag p O.PATH_STATUS 1, .ok (ofN (fld v 32 32)))
      | .error a => (s, .error a)

/-- A 4-byte window read: what aborts returns all ones. -/
def halfAccess (s : State) (p k : Nat) (f : State → State × Except Abort Slot) : State :=
  let s' := readAccess s p k f
  setResp s' p (ofN (fld (s'.path p).resp 0 32))

/-! ## The BAR 2 window (R412) -/

/-- The object key of the slot that byte offset `off` of the window lies in: index × 256 + subindex. -/
def winKey (off : Nat) : Nat := off / 8

/-- Whether the window admits an access of `n` bytes at byte offset `off`: 4 or 8 bytes, naturally aligned, in its 64 MiB. -/
def winOk (off n : Nat) : Bool := (n == 4 || n == 8) && off % n == 0 && decide (off < 2 ^ 26)

/-- A read of `n` bytes at byte offset `off` of LD `p`'s window (R412 to R414). -/
def windowRead (s : State) (p off n : Nat) : State :=
  let k := winKey off
  let i := k / 256
  let sub := k % 256
  if p < 16 ∧ s.serves p then
    if winOk off n = false then refuseAccess s p
    else if n = 8 then readAccess s p k fun s => readValue s p (s.selected p) i sub
    else if off % 8 = 0 then halfAccess s p k fun s => readLow s p (s.selected p) i sub
    else halfAccess s p k fun s => readHigh s p (s.selected p) i sub
  else s

/-- WINDOW_READ_LOW_HALF (R412, R414). -/
def execWindowReadLowHalf (p off n : Nat) (s : State) : Host.Outcome State Fault Refusal := done (windowRead s p off n)

/-- WINDOW_READ_HIGH_HALF (R412, R414). -/
def execWindowReadHighHalf (p off n : Nat) (s : State) : Host.Outcome State Fault Refusal := done (windowRead s p off n)

/-! ## Half writes (R413, R415) -/

/-- The checks of a low-half write: object, subindex, access code and ownership (R415, R420). -/
def State.stageErr (s : State) (p c i sub : Nat) : Option Abort :=
  match s.absent i sub, findRow i sub with
  | some a, _ => some a
  | none, none => some .noSubindex
  | none, some r =>
    if !r.writable then some .notWritable
    else if !s.admits p c i sub r then some .noPermission
    else none

/-- The slot a 4-byte value stands for in a type of 4 bytes or less (R406, R413). -/
def slotOf32 (t : ObjTy) (v : BitVec 32) : Slot := if t.signed then v.signExtend 64 else v.zeroExtend 64

/-- A low-half write (R413, R415). -/
def writeLow (s : State) (p c i sub : Nat) (v : BitVec 32) : Acc :=
  match findRow i sub with
  | some r =>
    if r.ty.isBlob ∨ r.ty.bytes = 8 then
      match s.stageErr p c i sub with
      | some a => (s, some a)
      | none =>
        if r.ty.isBlob then (s, some .length)
        else
          let s := if (s.path p).stage.isSome then s.flag p O.PATH_STATUS 2 else s
          .ok (s.setPath p { s.path p with stage := some (i * 256 + sub, v) })
    else writeObj s p c i sub (slotOf32 r.ty v)
  | none => writeObj s p c i sub 0

/-- The high half that the extension of an object of 4 bytes or less gives (R406); a write-only object reads zero (R13). -/
def State.extension (s : State) (p c i sub : Nat) : Nat :=
  match s.readScalar p c i sub with
  | .ok v => fld v 32 32
  | .error _ => 0

/-- A high-half write (R413, R415). -/
def writeHigh (s : State) (p c i sub : Nat) (v : BitVec 32) : Acc :=
  match s.stageErr p c i sub with
  | some a => (if (s.path p).stage.any (·.1 == i * 256 + sub) then s.setPath p { s.path p with stage := none } else s, some a)
  | none =>
    if isWide i sub then
      match (s.path p).stage with
      | some (k, lo) =>
        if k = i * 256 + sub then
          writeObj (s.setPath p { s.path p with stage := none }) p c i sub (v ++ lo)
        else (s, some .length)
      | none => (s, some .length)
    else match findRow i sub with
      | some r => if r.ty.isBlob then (s, some .length)
        else need (v.toNat == s.extension p c i sub) .range s Acc.ok
      | none => (s, some .noSubindex)

/-- A write of `n` bytes at byte offset `off` of LD `p`'s window, of the low `n` bytes of `v` (R412, R413, R415). -/
def windowWrite (s : State) (p off n : Nat) (v : Slot) : State :=
  let k := winKey off
  let i := k / 256
  let sub := k % 256
  if p < 16 ∧ s.serves p then
    if winOk off n = false then refuseAccess s p
    else if n = 8 then access s p k fun s => writeObj s p (s.selected p) i sub v
    else if off % 8 = 0 then access s p k fun s => writeLow s p (s.selected p) i sub (v.setWidth 32)
    else access s p k fun s => writeHigh s p (s.selected p) i sub (v.setWidth 32)
  else s

/-- WINDOW_WRITE_LOW_HALF (R412, R415). -/
def execWindowWriteLowHalf (p off n : Nat) (v : Slot) (s : State) : Host.Outcome State Fault Refusal :=
  done (windowWrite s p off n v)

/-- WINDOW_WRITE_HIGH_HALF (R412, R415). -/
def execWindowWriteHighHalf (p off n : Nat) (v : Slot) (s : State) : Host.Outcome State Fault Refusal :=
  done (windowWrite s p off n v)

/-! ## Whole values, by the mailbox and USDO (R407, R418, R480) -/

/-- A whole write of `bs` to an object: 8 bytes for a scalar, 0 to 2,048 for a DOMAIN (R418, R480). The checks before the
length come first (R420). -/
def writeWhole (s : State) (p c i sub : Nat) (bs : List Byte) : Acc :=
  match s.stageErr p c i sub, findRow i sub with
  | some a, _ => (s, some a)
  | none, none => (s, some .noSubindex)
  | none, some r =>
    if r.ty.isBlob then need (decide (bs.length ≤ 2048)) .length s fun s => blobWrite s p c i sub bs
    else need (bs.length == 8) .length s fun s => writeObj s p c i sub (ofN (leNat bs))

/-- A whole read: the slot of a scalar, or a DOMAIN of at most 2,048 bytes (R418, R480). -/
def readWhole (s : State) (p c i sub : Nat) : State × Except Abort (List Byte) :=
  match s.absent i sub, findRow i sub with
  | some a, _ => (s, .error a)
  | none, none => (s, .error .noSubindex)
  | none, some r =>
    if r.ty.isBlob ∧ r.acc ≠ .wo then
      let bs := s.readBytes p i sub
      (s, if 2048 < bs.length then .error .length else .ok bs)
    else match readValue s p c i sub with
      | (s, .ok v) => (s, .ok (leBytes 8 v.toNat))
      | (s, .error a) => (s, .error a)

/-- The mailbox of LD `l`. -/
def State.mailbox (s : State) (l : Nat) : Mailbox := (kvGet s.mailboxes l).getD {}

/-- Replaces the mailbox of LD `l`. -/
def State.setMailbox (s : State) (l : Nat) (m : Mailbox) : State := { s with mailboxes := kvSet {} s.mailboxes l m }

/-- MB_DOORBELL_SUBMIT (R417): MB_REQUEST, MB_DATA and the doorbell; discarded while a request runs (R418). -/
def execMbDoorbellSubmit (l : Nat) (req : Slot) (data : List Byte) (s : State) : Host.Outcome State Fault Refusal :=
  done (if l < 16 ∧ s.serves (16 + l) ∧ (s.mailbox l).busy = false then
    let m := s.mailbox l
    s.setMailbox l { m with
      busy := true, request := req, data := data.take 2048 ++ m.data.drop (data.take 2048).length } else s)

/-- The effect of a mailbox request (R417, R418): the bytes returned, or the abort. -/
def mailboxRun (s : State) (p : Nat) (req : Slot) (data : List Byte) : State × Except Abort (List Byte) :=
  let c := s.selected p
  let i := fld req 40 16
  let sub := fld req 32 8
  let n := fld req 0 12
  match fld req 56 8 with
  | 1 => readWhole s p c i sub
  | 2 =>
    match writeWhole s p c i sub ((data ++ List.replicate (n - data.length) 0#8).take n) with
    | (s, none) => (s, .ok [])
    | (s, some a) => (s, .error a)
  | _ => (s, .error .range)

/-- MAILBOX_REQUEST_DONE (R418): the request completes; one that meets a restart completes after it (R424). -/
def execMailboxRequestDone (l : Nat) (s : State) : Host.Outcome State Fault Refusal :=
  let m := s.mailbox l
  done (if l < 16 ∧ m.busy ∧ s.serves (16 + l) ∧ s.hubRestart = false then
    let key := fld m.request 32 24
    match mailboxRun (takeTurn s) (16 + l) m.request m.data with
    | (s, .ok bs) =>
      s.setMailbox l { m with busy := false, data := bs ++ m.data.drop bs.length, result := ofN (bs.length * 2 ^ 32) }
    | (s, .error a) =>
      let s := recordAbort s (16 + l) key (fld m.request 56 8) a
      s.setMailbox l { m with busy := false, result := ofN a.code.toNat }
  else s)

end Sys2Proof.Machine
end

