-- ==== Sys2Proof/Machine/Panel.lean ====
section
/-!
DEFINITION. What the connector face shows as a function of the state: the supply of the DisplayPort receptacles (R602),
reference out (R597), and the four status indicators (R613).
-/
namespace Sys2Proof.Machine

/-- Whether the module is Off or in Deep with no start in progress. -/
def State.dark_ (s : State) : Bool := !s.starting && (s.dev == .off || s.dev == .deep)

/-! ## Supplies and outputs (R597, R602) -/

/-- Whether DP_PWR of a DisplayPort receptacle is on: in Ready and Armed, off in Off, Deep and Watch (R602); off until a start
has reached Ready. -/
def State.dpPower (s : State) : Bool := s.running && !s.starting

/-- MHz at reference out, 0 for off: 2110:05 but in Off and Deep (R504, R597). -/
def State.refOut (s : State) : Nat := if s.dark_ then 0 else s.num O.REF_OUT_FREQ

/-- The level at trigger out: driven low in Off and Deep, else by the pulse in force (R166, R597). -/
def State.trigOutPin (s : State) : Bool := if s.dark_ then false else s.trigOutLevel s.trigOutHigh

/-! ## Status indicators (R613) -/

/-- A pattern of one colour; the flashes are those of CiA 303-3. -/
inductive Blink where
  | off | steady | slow | fast | flicker | single | double
  deriving DecidableEq, Repr

/-- An indicator: its green and its red pattern; amber is both at once. `alternating` marks the boot-failure pattern. -/
structure Lamp where
  green : Blink := .off
  red : Blink := .off
  alternating : Bool := false
  deriving DecidableEq, Repr

/-- A green indicator. -/
def Lamp.green_ (b : Blink) : Lamp := { green := b }

/-- A red indicator. -/
def Lamp.red_ (b : Blink) : Lamp := { red := b }

/-- An amber indicator. -/
def Lamp.amber (b : Blink) : Lamp := { green := b, red := b }

/-- The four indicators. -/
structure Lamps where
  state : Lamp := {}
  fault : Lamp := {}
  host : Lamp := {}
  bus : Lamp := {}
  deriving DecidableEq, Repr

/-- Both banks have failed: the start has no bank left to try and stays in Boot (R553). -/
def State.bootFailed (s : State) : Bool := s.starting && s.bootBanks.isEmpty

/-- STATE, but for the boot-failure pattern. -/
def State.stateLamp (s : State) : Lamp :=
  if s.starting then .amber .steady
  else match s.dev with
    | .armed => .green_ .fast
    | .ready => .green_ .steady
    | .watch => .green_ .slow
    | .off | .deep => {}

/-- FAULT. -/
def State.faultLamp (s : State) : Lamp :=
  let t := s.get O.TARNISH
  if bit t 29 ∨ bit t 28 then .red_ .slow
  else if 0 < s.faultsOpen then .red_ .steady
  else if (List.range 30).any fun b => !faultBits.contains b && bit t b then .amber .steady
  else {}

/-- HOST. -/
def State.hostLamp (s : State) : Lamp :=
  let c := s.get O.CXL_STATUS
  if bit c 3 then .amber .slow
  else if bit c 0 ∧ bit c 2 then .amber .steady
  else if bit c 0 then .green_ .steady
  else {}

/-- BUS in Watch, Ready and Armed: the combined run and error indicator of CiA 303-3, green for the NMT state and red for the
errors (PRESUMED, log 78). -/
def State.busLamp (s : State) : Lamp :=
  if s.awake then
    { green := match s.can.nmt with
        | .unconfigured => .flicker
        | .initialisation => .off
        | .preOperational => .slow
        | .operational => .steady
        | .stopped => .single
      red := if s.can.busOff then .steady else if s.can.lost ≠ [] then .double
        else if s.can.errorPassive then .single else .off }
  else {}

/-- What the four indicators show (R613): the boot-failure pattern overrides every row of all four; in Off and Deep they draw
nothing. -/
def State.lamps (s : State) : Lamps :=
  if s.bootFailed then
    { state := { red := .fast, alternating := true }, fault := { red := .fast, alternating := true } }
  else if s.dark_ then {}
  else { state := s.stateLamp, fault := s.faultLamp, host := s.hostLamp, bus := s.busLamp }

end Sys2Proof.Machine
end

