-- ==== Sys2Proof/Machine/Pdo.lean ====
section
/-!
DEFINITION. The field-bus port's process data and USDO server: SYNC (R470), TPDOs (R477), RPDOs (R478) and USDO transfers
(R480, R481). COB-IDs and command bytes of USDO frames are those of CiA 1301 (log 14).
-/
namespace Sys2Proof.Machine

/-! ## TPDOs (R475 to R477) -/

/-- The bits of a mapping's entries, packed from bit 0 (R475): their number and their count. -/
structure Packed where
  value : Nat := 0
  bits : Nat := 0
  deriving DecidableEq, Repr

/-- Samples one mapped entry for path 32 with context `c`; an entry that cannot be read sends a free value (log 3). -/
def sampleEntry (c : Nat) (r : State × Packed) (e : Nat) : State × Packed :=
  let w := e % 256
  let (s, v) := match readValue r.1 32 c (e / 2 ^ 16 % 2 ^ 16) (e / 256 % 256) with
    | (s, .ok v) => (s, v)
    | (s, .error _) => (s.free.2, s.free.1)
  (s, { r.2 with value := r.2.value + v.toNat % 2 ^ w * 2 ^ r.2.bits, bits := r.2.bits + w })

/-- TPDO `k` samples its entries in subindex order in one core cycle: its payload (R475, R477). -/
def sampleTpdo (s : State) (k : Nat) : State × List Byte :=
  let (s, q) := (s.pdoEntries (0x1A00 + k)).foldl (sampleEntry (s.num (O.TPDO_CONTEXT + k * 256))) (s, {})
  (s, leBytes ((q.bits + 7) / 8) q.value)

/-- TPDO `k` is sent with a payload; its inhibit time begins (R477). -/
def putTpdo (s : State) (k : Nat) (bs : List Byte) : State :=
  let s := canSend s (fld (s.get (O.TPDO_COBID + k * 256)) 0 11) bs
  let s := { s with can := { s.can with
    tpdoDue := s.can.tpdoDue.filter fun j => j != k
    tpdoHeld := kvDel s.can.tpdoHeld k
    tpdoFree := kvPut s.can.tpdoFree k (s.now + s.num (O.TPDO_INHIBIT + k * 256) * tenthTicks) } }
  startTpdoTimer s k

/-- TPDO `k` is sampled and sent. -/
def sendTpdo (s : State) (k : Nat) : State :=
  let (s, bs) := sampleTpdo s k
  putTpdo s k bs

/-- The instant until which TPDO `k` is inhibited. -/
def State.tpdoFreeAt (s : State) (k : Nat) : Nat := (kvGet s.can.tpdoFree k).getD 0

/-- TPDO `k` becomes due. -/
def dueTpdo (s : State) (k : Nat) : State :=
  if s.can.tpdoDue.contains k then s else { s with can := { s.can with tpdoDue := s.can.tpdoDue ++ [k] } }

/-- Type of TPDO `k`. -/
def State.tpdoType (s : State) (k : Nat) : Nat := s.num (O.TPDO_TYPE + k * 256)

/-- Whether TPDO `k` is due to be sent by itself: event-driven, or held up by its inhibit time at a SYNC (R477). -/
def State.tpdoReady (s : State) (k : Nat) : Bool :=
  decide (k < 4) && s.tpdoValid k && s.canServes && !s.hubRestart && s.can.tpdoDue.contains k &&
    (decide (254 ≤ s.tpdoType k) || (kvGet s.can.tpdoHeld k).isSome)

/-- TPDO_TRANSMIT (R477): a due TPDO is sent, at the end of its inhibit time where that still runs. -/
def execTpdoTransmit (k : Nat) (s : State) : Host.Outcome State Fault Refusal :=
  done (if s.tpdoReady k then
      let s := s.runTo (s.tpdoFreeAt k)
      match kvGet s.can.tpdoHeld k with
      | some bs => putTpdo s k bs
      | none => sendTpdo s k
    else s)

/-- TPDO_EVENT_TIMER (R477): the event timer of an event-driven TPDO expires and starts again. -/
def execTpdoEventTimer (k : Nat) (s : State) : Host.Outcome State Fault Refusal :=
  done (match kvGet s.can.tpdoTimer k with
    | some t =>
      if k < 4 ∧ s.tpdoValid k ∧ s.canServes ∧ 254 ≤ s.tpdoType k then
        let s := s.runTo t
        startTpdoTimer (dueTpdo s k) k
      else s
    | none => s)

/-- A SYNC at a synchronous TPDO: sampled, and sent at once unless its inhibit time runs (R470, R477). -/
def syncSend (s : State) (k : Nat) : State :=
  let (s, bs) := sampleTpdo s k
  if s.now < s.tpdoFreeAt k then
    let s := dueTpdo s k
    { s with can := { s.can with tpdoHeld := kvPut s.can.tpdoHeld k bs } }
  else putTpdo s k bs

/-- The SYNCs TPDO `k` has counted, this one among them: the first is the one whose counter equals SYNC_START, where that
is not 0 and the frame carries a counter (R470, R477). -/
def State.syncCount (s : State) (k : Nat) (counter : Option Nat) : Nat :=
  match kvGet s.can.tpdoSync k with
  | some n => n + 1
  | none =>
    let start := s.num (O.SYNC_START + k * 256)
    match counter with
    | some n => if start = 0 ∨ start = n then 1 else 0
    | none => 1

/-- A SYNC at TPDO `k` (R477). -/
def syncTpdo (counter : Option Nat) (s : State) (k : Nat) : State :=
  let n := s.tpdoType k
  if s.tpdoValid k = false ∨ 240 < n then s
  else if n = 0 then (if s.can.tpdoDue.contains k then syncSend s k else s)
  else
    let m := s.syncCount k counter
    if m = 0 then s
    else
      let put (m : Nat) : State := { s with can := { s.can with tpdoSync := kvPut s.can.tpdoSync k m } }
      if n ≤ m then syncSend (put 0) k else put m

/-! ## RPDOs (R478) -/

/-- Whether RPDO `k` is valid and may be written (R462). -/
def State.rpdoValid (s : State) (k : Nat) : Bool :=
  s.can.nmt == .operational && s.canServes && !s.hubRestart && !bit (s.get (O.RPDO_COBID + k * 256)) 31

/-- The value of a mapped entry taken from the payload: sign-extended for signed types, one bit for a BOOLEAN. -/
def entryValue (t : ObjTy) (w n : Nat) : Slot := if w = 1 then ofN (n % 2) else t.extend n

/-- Writes one mapped entry as a write of path 32 with context `c`, in its own turn at the server (R411, R478). -/
def writeEntry (c : Nat) (r : State × Packed) (e : Nat) : State × Packed :=
  let s := if isDummy e then r.1 else takeTurn r.1
  let w := e % 256
  let i := e / 2 ^ 16 % 2 ^ 16
  let sub := e / 256 % 256
  let next : Packed := { value := r.2.value / 2 ^ w, bits := r.2.bits + w }
  if isDummy e then (s, next)
  else match findRow i sub with
    | none => (s, next)
    | some row =>
      match writeObj s 32 c i sub (entryValue row.ty w r.2.value) with
      | (s, none) => (s, next)
      | (s, some a) =>
        let s := recordAbort s 32 (i * 256 + sub) 2 a
        let s := (s.countSat 0 O.FB_RPDO_ABORTS 32).flag 0 O.FB_STATUS 5
        (emcy s 0xFF60 0xFF 0xFF i, next)

/-- RPDO `k` is written from a payload. -/
def writeRpdo (s : State) (k : Nat) (data : List Byte) : State :=
  ((s.pdoEntries (0x1600 + k)).foldl (writeEntry (s.num (O.RPDO_CONTEXT + k * 256))) (s, { value := leNat data })).1

/-- The key of a condition of RPDO `k` among the active ones: its code and the RPDO's number. -/
def rpdoCondition (code k : Nat) : Nat := code + (k + 1) * 65536

/-- A condition of RPDO `k` begins, with its emergency (R473, R474). -/
def rpdoFault (s : State) (code k : Nat) : State :=
  let s := emcy s code 0xFF 0xFF (k + 1)
  let c := rpdoCondition code k
  { s with can := { s.can with active := c :: s.can.active.filter fun d => d != c } }

/-- A condition of RPDO `k` ends, where it is active. -/
def rpdoEnd (s : State) (code k : Nat) : State :=
  if s.can.active.contains (rpdoCondition code k) then commEnd s (rpdoCondition code k) else s

/-- RPDO `k` receives a frame (R478). -/
def receiveRpdo (data : List Byte) (s : State) (k : Nat) : State :=
  let s := rpdoEnd (startRpdoTimer s k) 0x8250 k
  let bits := ((s.pdoEntries (0x1600 + k)).map (· % 256)).foldl (· + ·) 0
  if data.length < (bits + 7) / 8 then rpdoFault (s.flag 0 O.FB_STATUS 0) 0x8210 k
  else
    let s := rpdoEnd s 0x8210 k
    if 254 ≤ s.num (O.RPDO_TYPE + k * 256) then writeRpdo s k data
    else { s with can := { s.can with rpdoHeld := kvPut s.can.rpdoHeld k data } }

/-- RPDO_RECEIVE (R478). -/
def execRpdoReceive (cobId : Nat) (data : List Byte) (s : State) : Host.Outcome State Fault Refusal :=
  let mine := (List.range 4).filter fun k => s.rpdoValid k && fld (s.get (O.RPDO_COBID + k * 256)) 0 11 == cobId
  done (mine.foldl (receiveRpdo data) s)

/-- RPDO_TIMEOUT (R468, R478): no frame of RPDO `k` for the time set; it ends with the next frame. -/
def execRpdoTimeout (k : Nat) (s : State) : Host.Outcome State Fault Refusal :=
  done (match kvGet s.can.rpdoTimer k with
    | some t =>
      if k < 4 ∧ s.rpdoValid k then
        let s := s.runTo t
        let s := { s with can := { s.can with rpdoTimer := kvDel s.can.rpdoTimer k } }
        applyErrComm (rpdoFault s 0x8250 k)
      else s
    | none => s)

/-! ## SYNC (R470) -/

/-- SYNC_FRAME (R470, R477, R478): latched and counted; synchronous TPDOs sample and are sent, then the RPDOs that wait
are written. -/
def execSyncFrame (cobId : Nat) (counter : Option Nat) (s : State) : Host.Outcome State Fault Refusal :=
  done (if s.canServes ∧ s.hubRestart = false ∧ fld (s.get O.COB_ID_SYNC) 0 11 = cobId then
      let s := (s.put O.SYNC_TM (tmOf s.now)).put O.SYNC_WRAP (ofN s.wraps.toNat)
      let s := s.countWrap 0 O.SYNC_COUNT 32
      let s := (List.range 4).foldl (syncTpdo counter) s
      let held := s.can.rpdoHeld
      let s := { s with can := { s.can with rpdoHeld := [] } }
      held.foldl (fun s h => if s.rpdoValid h.1 then writeRpdo s h.1 h.2 else s) s
    else s)

/-! ## USDO (R480, R481) -/

/-- Whether the USDO server takes a request (R462). -/
def State.usdoServes (s : State) : Bool := s.canServes

/-- Answers a USDO request. -/
def usdoReply (s : State) (cs : Nat) (bs : List Byte) : State :=
  canSend s (0x580 + s.can.nodeId) (leBytes 1 cs ++ bs)

/-- A USDO request is aborted: the code is recorded for path 32 and sent (R416, R480). -/
def usdoFail (s : State) (key op : Nat) (a : Abort) : State :=
  usdoReply (recordAbort s 32 key op a) 0x80 (leBytes 4 a.code.toNat)

/-- The object key of DP_DATA that a transfer moves as a run, and whether it is the context port's (R481). -/
def dpRun (key : Nat) : Option Bool :=
  if key = O.DP_DATA then some false else if key = O.CDP_DATA then some true else none

/-- The write of a complete download (R480, R481). -/
def usdoWrite (s : State) (key : Nat) (bs : List Byte) : Acc :=
  let c := s.selected 32
  match dpRun key with
  | some ctxPort =>
    match s.stageErr 32 c (key / 256) (key % 256) with
    | some a => (s, some a)
    | none =>
    need (bs.length % 8 == 0 && decide (8 ≤ bs.length) && decide (bs.length ≤ 2048)) .length s fun s =>
      dpWrite s 32 c ctxPort bs
  | none => writeWhole s 32 c (key / 256) (key % 256) bs

/-- A download is complete: written and answered. -/
def usdoFinish (s : State) (key : Nat) (bs : List Byte) : State :=
  match usdoWrite (takeTurn s) key bs with
  | (s, none) => usdoReply s 0x60 []
  | (s, some a) => usdoFail s key 2 a

/-- A request that would open a session: during a restart it is aborted once the restart ends (R469), while another
session is open with the present-state code (R480). -/
def usdoOpen (s : State) (key op : Nat) (f : State → State) : State :=
  if s.usdoServes then
    if s.hubRestart then { s with missed := s.missed ++ [(32, key, op)] }
    else if s.can.usdo.isSome then usdoFail s key op .presentState
    else f s
  else s

/-- Replaces the session. -/
def setUsdo (s : State) (u : Option Usdo) : State := { s with can := { s.can with usdo := u } }

/-- A segment that meets a restart: the session is aborted once the restart ends (R424, R469). -/
def usdoMissed (s : State) (u : Usdo) : State :=
  { setUsdo s none with missed := s.missed ++ [(32, u.key, if u.download then 2 else 1)] }

/-- USDO_DOWNLOAD_INITIATE (R480): expedited where the request carries every byte, else the session opens. -/
def execUsdoDownloadInitiate (idx sub size : Nat) (data : List Byte) (s : State) : Host.Outcome State Fault Refusal :=
  let key := idx * 256 + sub
  done (usdoOpen s key 2 fun s =>
    if 2048 < size then usdoFail s key 2 ((s.stageErr 32 (s.selected 32) idx sub).getD .length)
    else if size ≤ data.length then usdoFinish s key (data.take size)
    else usdoReply (setUsdo s (some { key, download := true, size, data, last := s.now })) 0x60 [])

/-- USDO_DOWNLOAD_SEGMENT (R480): the last one writes the value; a length other than the announced one aborts. -/
def execUsdoDownloadSegment (data : List Byte) (last : Bool) (s : State) : Host.Outcome State Fault Refusal :=
  done (match s.can.usdo with
    | some u =>
      if s.usdoServes ∧ s.hubRestart then usdoMissed s u
      else if s.usdoServes ∧ u.download then
        let bs := u.data ++ data
        if u.size < bs.length ∨ (last ∧ bs.length ≠ u.size) then
          -- object, subindex, access and ownership come before the length (R420)
          usdoFail (setUsdo s none) u.key 2 ((s.stageErr 32 (s.selected 32) (u.key / 256) (u.key % 256)).getD .length)
        else if last then usdoFinish (setUsdo s none) u.key bs
        else usdoReply (setUsdo s (some { u with data := bs, last := s.now })) 0x20 []
      else s
    | none => s)

/-- Bytes of DP_DATA an upload returns (R481). -/
def State.dpUpload (s : State) (q : DpId) : Nat :=
  min 2048 (max 8 ((s.dp q dpLength - s.dp q dpOffset + 7) / 8 * 8))

/-- The bytes of an upload (R480, R481). -/
def usdoRead (s : State) (key : Nat) : State × Except Abort (List Byte) :=
  let c := s.selected 32
  match dpRun key with
  | some ctxPort =>
    match dpRead s 32 c ctxPort (s.dpUpload (dpId 32 c ctxPort)) none with
    | (s, .ok r) => (s, .ok r.1)
    | (s, .error a) => (s, .error a)
  | none => readWhole s 32 c (key / 256) (key % 256)

/-- Bytes of value in one USDO frame. -/
def usdoChunk : Nat := 56

/-- USDO_UPLOAD_INITIATE (R480): answered in one frame, or the session opens with the size. -/
def execUsdoUploadInitiate (idx sub : Nat) (s : State) : Host.Outcome State Fault Refusal :=
  let key := idx * 256 + sub
  done (usdoOpen s key 1 fun s =>
    match usdoRead (takeTurn s) key with
    | (s, .ok bs) =>
      if bs.length ≤ usdoChunk then usdoReply s 0x42 bs
      else
        let u : Usdo := { key, download := false, size := bs.length, data := bs, last := s.now }
        usdoReply (setUsdo s (some u)) 0x41 (leBytes 4 bs.length)
    | (s, .error a) => usdoFail s key 1 a)

/-- USDO_UPLOAD_SEGMENT (R480): the next bytes; the last of them end the session. -/
def execUsdoUploadSegment (s : State) : Host.Outcome State Fault Refusal :=
  done (match s.can.usdo with
    | some u =>
      if s.usdoServes ∧ s.hubRestart then usdoMissed s u
      else if s.usdoServes ∧ u.download = false then
        let rest := u.data.drop usdoChunk
        let s := setUsdo s (if rest = [] then none else some { u with data := rest, last := s.now })
        usdoReply s (if rest = [] then 1 else 0) (u.data.take usdoChunk)
      else s
    | none => s)

/-- USDO_ABORT_RECEIVED (R480): the session ends. -/
def execUsdoAbortReceived (s : State) : Host.Outcome State Fault Refusal :=
  done (if s.usdoServes then setUsdo s none else s)

/-- USDO_SESSION_TIMEOUT (R480): a session idle for 1 s is aborted with 0x0504_0000. -/
def execUsdoSessionTimeout (s : State) : Host.Outcome State Fault Refusal :=
  done (match s.can.usdo with
    | some u => usdoAbort (s.runTo (u.last + 1000 * msTicks)) 0x05040000
    | none => s)

end Sys2Proof.Machine
end

