-- ==== Sys2Proof/Machine/Dispatch.lean ====
section
/-!
DEFINITION. One arm per command, each a direct call of its meaning.
-/
namespace Sys2Proof.Machine

def exec (i : Instr) (s : State) : Host.Outcome State Fault Refusal :=
  match i with
  | .mainsOn => Sys2Proof.Machine.execMainsOn s
  | .timeCounterWrap => Sys2Proof.Machine.execTimeCounterWrap s
  | .epochSourceWrite p v => Sys2Proof.Machine.execEpochSourceWrite p v s
  | .timeFrame cobId days ms => Sys2Proof.Machine.execTimeFrame cobId days ms s
  | .trigInEdge rising at' => Sys2Proof.Machine.execTrigInEdge rising at' s
  | .touchmarkRead p idx sub => Sys2Proof.Machine.execTouchmarkRead p idx sub s
  | .windowReadLowHalf p off n => Sys2Proof.Machine.execWindowReadLowHalf p off n s
  | .windowReadHighHalf p off n => Sys2Proof.Machine.execWindowReadHighHalf p off n s
  | .windowWriteLowHalf p off n v => Sys2Proof.Machine.execWindowWriteLowHalf p off n v s
  | .windowWriteHighHalf p off n v => Sys2Proof.Machine.execWindowWriteHighHalf p off n v s
  | .objectWrite p idx sub v => Sys2Proof.Machine.execObjectWrite p idx sub v s
  | .mbDoorbellSubmit l req data => Sys2Proof.Machine.execMbDoorbellSubmit l req data s
  | .mailboxRequestDone l => Sys2Proof.Machine.execMailboxRequestDone l s
  | .feSettingWrite p n sub v => Sys2Proof.Machine.execFeSettingWrite p n sub v s
  | .feSettled n => Sys2Proof.Machine.execFeSettled n s
  | .inputOverload n => Sys2Proof.Machine.execInputOverload n s
  | .absmaxExceeded src unit => Sys2Proof.Machine.execAbsmaxExceeded src unit s
  | .alloyCommit p n v => Sys2Proof.Machine.execAlloyCommit p n v s
  | .alloyStreamStart n => Sys2Proof.Machine.execAlloyStreamStart n s
  | .dieLost d => Sys2Proof.Machine.execDieLost d s
  | .regroupGapEnd n => Sys2Proof.Machine.execRegroupGapEnd n s
  | .calStart p v => Sys2Proof.Machine.execCalStart p v s
  | .calSliceMeasured d m => Sys2Proof.Machine.execCalSliceMeasured d m s
  | .calSkewMeasured n skews => Sys2Proof.Machine.execCalSkewMeasured n skews s
  | .calTrimsComputed => Sys2Proof.Machine.execCalTrimsComputed s
  | .calRampStep => Sys2Proof.Machine.execCalRampStep s
  | .calTrimsApply => Sys2Proof.Machine.execCalTrimsApply s
  | .calCommit p v => Sys2Proof.Machine.execCalCommit p v s
  | .calAutoStart d => Sys2Proof.Machine.execCalAutoStart d s
  | .auditWindowEnd d a => Sys2Proof.Machine.execAuditWindowEnd d a s
  | .auditConfirmEnd d a => Sys2Proof.Machine.execAuditConfirmEnd d a s
  | .wearoutBoundary d => Sys2Proof.Machine.execWearoutBoundary d s
  | .lineupGapEnd d => Sys2Proof.Machine.execLineupGapEnd d s
  | .sliceRetest p v => Sys2Proof.Machine.execSliceRetest p v s
  | .sliceRetestDone ws => Sys2Proof.Machine.execSliceRetestDone ws s
  | .skewsetClear p v => Sys2Proof.Machine.execSkewsetClear p v s
  | .triggerAccept c => Sys2Proof.Machine.execTriggerAccept c s
  | .tapFetchDeadline c => Sys2Proof.Machine.execTapFetchDeadline c s
  | .holdoffExpiry c => Sys2Proof.Machine.execHoldoffExpiry c s
  | .trigForce p v => Sys2Proof.Machine.execTrigForce p v s
  | .forcedEvent c => Sys2Proof.Machine.execForcedEvent c s
  | .trigAutoExpiry c => Sys2Proof.Machine.execTrigAutoExpiry c s
  | .pairEventCompare c partner => Sys2Proof.Machine.execPairEventCompare c partner s
  | .trigoutPulseStart => Sys2Proof.Machine.execTrigoutPulseStart s
  | .trigoutPulseEnd => Sys2Proof.Machine.execTrigoutPulseEnd s
  | .trigLevelWrite p idx sub v => Sys2Proof.Machine.execTrigLevelWrite p idx sub v s
  | .trigLevelInForce c => Sys2Proof.Machine.execTrigLevelInForce c s
  | .triginThresholdSettled => Sys2Proof.Machine.execTriginThresholdSettled s
  | .ctxClaim p => Sys2Proof.Machine.execCtxClaim p s
  | .ctxArm p => Sys2Proof.Machine.execCtxArm p s
  | .ctxArmEffective c => Sys2Proof.Machine.execCtxArmEffective c s
  | .ctxHold p => Sys2Proof.Machine.execCtxHold p s
  | .ctxResume p => Sys2Proof.Machine.execCtxResume p s
  | .ctxDisarm p => Sys2Proof.Machine.execCtxDisarm p s
  | .ctxFree p => Sys2Proof.Machine.execCtxFree p s
  | .ctxStateChangeDone c => Sys2Proof.Machine.execCtxStateChangeDone c s
  | .eventReachesContext c => Sys2Proof.Machine.execEventReachesContext c s
  | .segmentClose c => Sys2Proof.Machine.execSegmentClose c s
  | .segmentPublish => Sys2Proof.Machine.execSegmentPublish s
  | .segmentRevoke n => Sys2Proof.Machine.execSegmentRevoke n s
  | .ringPause n => Sys2Proof.Machine.execRingPause n s
  | .ringResume n => Sys2Proof.Machine.execRingResume n s
  | .ringMibWrite p n v => Sys2Proof.Machine.execRingMibWrite p n v s
  | .ringPolicyWrite p n v => Sys2Proof.Machine.execRingPolicyWrite p n v s
  | .stopTimeExpiry c => Sys2Proof.Machine.execStopTimeExpiry c s
  | .stopActionApply c => Sys2Proof.Machine.execStopActionApply c s
  | .segReleaseSeq p v => Sys2Proof.Machine.execSegReleaseSeq p v s
  | .segReleaseUpto p v => Sys2Proof.Machine.execSegReleaseUpto p v s
  | .segReleaseAll p v => Sys2Proof.Machine.execSegReleaseAll p v s
  | .segmentReleaseEffective c seq => Sys2Proof.Machine.execSegmentReleaseEffective c seq s
  | .cruClear p => Sys2Proof.Machine.execCruClear p s
  | .cruFreeze p => Sys2Proof.Machine.execCruFreeze p s
  | .cruThaw p => Sys2Proof.Machine.execCruThaw p s
  | .cruClearDone c => Sys2Proof.Machine.execCruClearDone c s
  | .cruRecordDone fold => Sys2Proof.Machine.execCruRecordDone fold s
  | .wNop d l w => Sys2Proof.Machine.execWNop d l w s
  | .wMov d l w => Sys2Proof.Machine.execWMov d l w s
  | .wLdi d l w => Sys2Proof.Machine.execWLdi d l w s
  | .wLds d l w => Sys2Proof.Machine.execWLds d l w s
  | .wSts d l w => Sys2Proof.Machine.execWSts d l w s
  | .wAdd d l w => Sys2Proof.Machine.execWAdd d l w s
  | .wSub d l w => Sys2Proof.Machine.execWSub d l w s
  | .wMul d l w => Sys2Proof.Machine.execWMul d l w s
  | .wDiv d l w => Sys2Proof.Machine.execWDiv d l w s
  | .wDivr d l w => Sys2Proof.Machine.execWDivr d l w s
  | .wMuldiv d l w => Sys2Proof.Machine.execWMuldiv d l w s
  | .wAddi d l w => Sys2Proof.Machine.execWAddi d l w s
  | .wShl d l w => Sys2Proof.Machine.execWShl d l w s
  | .wSar d l w => Sys2Proof.Machine.execWSar d l w s
  | .wAnd d l w => Sys2Proof.Machine.execWAnd d l w s
  | .wOr d l w => Sys2Proof.Machine.execWOr d l w s
  | .wXor d l w => Sys2Proof.Machine.execWXor d l w s
  | .wMin d l w => Sys2Proof.Machine.execWMin d l w s
  | .wMax d l w => Sys2Proof.Machine.execWMax d l w s
  | .wAbs d l w => Sys2Proof.Machine.execWAbs d l w s
  | .wSqrt d l w => Sys2Proof.Machine.execWSqrt d l w s
  | .wCmp d l w => Sys2Proof.Machine.execWCmp d l w s
  | .wCmpi d l w => Sys2Proof.Machine.execWCmpi d l w s
  | .wJmp d l w => Sys2Proof.Machine.execWJmp d l w s
  | .wHcnt d l w => Sys2Proof.Machine.execWHcnt d l w s
  | .wHmode d l w => Sys2Proof.Machine.execWHmode d l w s
  | .wHbin d l w => Sys2Proof.Machine.execWHbin d l w s
  | .wPass2 d l w => Sys2Proof.Machine.execWPass2 d l w s
  | .wNextx d l w => Sys2Proof.Machine.execWNextx d l w s
  | .pass2EventReady d l => Sys2Proof.Machine.execPass2EventReady d l s
  | .wPut d l w => Sys2Proof.Machine.execWPut d l w s
  | .wPutv d l w => Sys2Proof.Machine.execWPutv d l w s
  | .wEnd d l w => Sys2Proof.Machine.execWEnd d l w s
  | .assayStepLimit d l => Sys2Proof.Machine.execAssayStepLimit d l s
  | .assayBlockPublish c => Sys2Proof.Machine.execAssayBlockPublish c s
  | .astoreLoadImage p => Sys2Proof.Machine.execAstoreLoadImage p s
  | .astoreLoadAndStore p => Sys2Proof.Machine.execAstoreLoadAndStore p s
  | .astoreEmpty p => Sys2Proof.Machine.execAstoreEmpty p s
  | .astoreLoadDone => Sys2Proof.Machine.execAstoreLoadDone s
  | .refreshDue d pc rtQueued => Sys2Proof.Machine.execRefreshDue d pc rtQueued s
  | .postponedRefreshIssue d pc => Sys2Proof.Machine.execPostponedRefreshIssue d pc s
  | .selfRefreshEntry st ch => Sys2Proof.Machine.execSelfRefreshEntry st ch s
  | .selfRefreshExit st ch => Sys2Proof.Machine.execSelfRefreshExit st ch s
  | .retrainStep d ch bad => Sys2Proof.Machine.execRetrainStep d ch bad s
  | .parityError d pc error => Sys2Proof.Machine.execParityError d pc error s
  | .cxlmemRead l hpa => Sys2Proof.Machine.execCxlmemRead l hpa s
  | .cxlmemReadComplete l e => Sys2Proof.Machine.execCxlmemReadComplete l e s
  | .cxlmemWrite l hpa mask line => Sys2Proof.Machine.execCxlmemWrite l hpa mask line s
  | .scrubRead d e => Sys2Proof.Machine.execScrubRead d e s
  | .stagingStall d stall => Sys2Proof.Machine.execStagingStall d stall s
  | .memSpareCmd p v => Sys2Proof.Machine.execMemSpareCmd p v s
  | .spareCopyDone copy => Sys2Proof.Machine.execSpareCopyDone copy s
  | .memTakeover d => Sys2Proof.Machine.execMemTakeover d s
  | .dpOpen p ctxPort => Sys2Proof.Machine.execDpOpen p ctxPort s
  | .dpClose p ctxPort => Sys2Proof.Machine.execDpClose p ctxPort s
  | .dpDataRead p port => Sys2Proof.Machine.execDpDataRead p port s
  | .dpDataWrite p ctxPort v => Sys2Proof.Machine.execDpDataWrite p ctxPort v s
  | .apertureRead l port off n => Sys2Proof.Machine.execApertureRead l port off n s
  | .apertureWrite l ctxPort off data => Sys2Proof.Machine.execApertureWrite l ctxPort off data s
  | .mvClaim p => Sys2Proof.Machine.execMvClaim p s
  | .mvStart p => Sys2Proof.Machine.execMvStart p s
  | .mvPause p => Sys2Proof.Machine.execMvPause p s
  | .mvResume p => Sys2Proof.Machine.execMvResume p s
  | .mvStop p => Sys2Proof.Machine.execMvStop p s
  | .mvRelease p => Sys2Proof.Machine.execMvRelease p s
  | .mvRequestPulse mover line => Sys2Proof.Machine.execMvRequestPulse mover line s
  | .mvTimerTick ch => Sys2Proof.Machine.execMvTimerTick ch s
  | .mvBurstDone ch burst => Sys2Proof.Machine.execMvBurstDone ch burst s
  | .mvBusError x kind addr => Sys2Proof.Machine.execMvBusError x kind addr s
  | .mvQuenchRecovery x => Sys2Proof.Machine.execMvQuenchRecovery x s
  | .evClaim p => Sys2Proof.Machine.execEvClaim p s
  | .evRelease p => Sys2Proof.Machine.execEvRelease p s
  | .plClaim p => Sys2Proof.Machine.execPlClaim p s
  | .plStart p => Sys2Proof.Machine.execPlStart p s
  | .plFinish p => Sys2Proof.Machine.execPlFinish p s
  | .plContinue p => Sys2Proof.Machine.execPlContinue p s
  | .plAbort p => Sys2Proof.Machine.execPlAbort p s
  | .plRelease p => Sys2Proof.Machine.execPlRelease p s
  | .plJobDone x => Sys2Proof.Machine.execPlJobDone x s
  | .rasterStart p => Sys2Proof.Machine.execRasterStart p s
  | .rasterStop p => Sys2Proof.Machine.execRasterStop p s
  | .rasterLineStart fetched => Sys2Proof.Machine.execRasterLineStart fetched s
  | .rasterFrameDone => Sys2Proof.Machine.execRasterFrameDone s
  | .frameCrcCompare o crc => Sys2Proof.Machine.execFrameCrcCompare o crc s
  | .rasterCommit p v => Sys2Proof.Machine.execRasterCommit p v s
  | .layerClaim p l => Sys2Proof.Machine.execLayerClaim p l s
  | .layerRelease p l => Sys2Proof.Machine.execLayerRelease p l s
  | .vectorRasterDone layer => Sys2Proof.Machine.execVectorRasterDone layer s
  | .rbufAllocate p => Sys2Proof.Machine.execRbufAllocate p s
  | .rbufFree p => Sys2Proof.Machine.execRbufFree p s
  | .dpHotplug o present => Sys2Proof.Machine.execDpHotplug o present s
  | .dpLinkTrained o maxRate maxLanes edid => Sys2Proof.Machine.execDpLinkTrained o maxRate maxLanes edid s
  | .dictCommit p v => Sys2Proof.Machine.execDictCommit p v s
  | .dictHandover => Sys2Proof.Machine.execDictHandover s
  | .dictStore p v => Sys2Proof.Machine.execDictStore p v s
  | .dictStoreDone ok => Sys2Proof.Machine.execDictStoreDone ok s
  | .dictRestore p v => Sys2Proof.Machine.execDictRestore p v s
  | .fmIdentify => Sys2Proof.Machine.execFmIdentify s
  | .fmGetLdInfo => Sys2Proof.Machine.execFmGetLdInfo s
  | .fmGetLdAllocations => Sys2Proof.Machine.execFmGetLdAllocations s
  | .fmSetLdAllocations first units => Sys2Proof.Machine.execFmSetLdAllocations first units s
  | .fmGetSteward => Sys2Proof.Machine.execFmGetSteward s
  | .fmSetSteward b => Sys2Proof.Machine.execFmSetSteward b s
  | .fmDisableLd request => Sys2Proof.Machine.execFmDisableLd request s
  | .identifyMemoryDevice request => Sys2Proof.Machine.execIdentifyMemoryDevice request s
  | .getHealthInfo l => Sys2Proof.Machine.execGetHealthInfo l s
  | .getPoisonList l => Sys2Proof.Machine.execGetPoisonList l s
  | .getEventRecords l => Sys2Proof.Machine.execGetEventRecords l s
  | .clearEventRecords l handles => Sys2Proof.Machine.execClearEventRecords l handles s
  | .getSupportedLogs l => Sys2Proof.Machine.execGetSupportedLogs l s
  | .getLog l => Sys2Proof.Machine.execGetLog l s
  | .spdmGetVersion l => Sys2Proof.Machine.execSpdmGetVersion l s
  | .spdmGetCapabilities l => Sys2Proof.Machine.execSpdmGetCapabilities l s
  | .spdmNegotiateAlgorithms l => Sys2Proof.Machine.execSpdmNegotiateAlgorithms l s
  | .spdmGetDigests l => Sys2Proof.Machine.execSpdmGetDigests l s
  | .spdmGetCertificate l slot off len => Sys2Proof.Machine.execSpdmGetCertificate l slot off len s
  | .spdmChallenge l slot nonce => Sys2Proof.Machine.execSpdmChallenge l slot nonce s
  | .spdmGetMeasurements l request => Sys2Proof.Machine.execSpdmGetMeasurements l request s
  | .spdmUnsupportedRequest l code => Sys2Proof.Machine.execSpdmUnsupportedRequest l code s
  | .cxlLinkUp width gts sris mldSwitch => Sys2Proof.Machine.execCxlLinkUp width gts sris mldSwitch s
  | .cxlLinkDown => Sys2Proof.Machine.execCxlLinkDown s
  | .cxlCorrectableError => Sys2Proof.Machine.execCxlCorrectableError s
  | .cxlUncorrectableError => Sys2Proof.Machine.execCxlUncorrectableError s
  | .cxlLinkRecovery => Sys2Proof.Machine.execCxlLinkRecovery s
  | .functionLevelReset l => Sys2Proof.Machine.execFunctionLevelReset l s
  | .ldResetTrigger reset => Sys2Proof.Machine.execLdResetTrigger reset s
  | .ldDisableDone l => Sys2Proof.Machine.execLdDisableDone l s
  | .ldEnable l mse rest => Sys2Proof.Machine.execLdEnable l mse rest s
  | .inputClaim p n => Sys2Proof.Machine.execInputClaim p n s
  | .inputRelease p n => Sys2Proof.Machine.execInputRelease p n s
  | .inputSubscribe p n => Sys2Proof.Machine.execInputSubscribe p n s
  | .inputUnsubscribe p n => Sys2Proof.Machine.execInputUnsubscribe p n s
  | .inputRevoke p n => Sys2Proof.Machine.execInputRevoke p n s
  | .nmtStart node => Sys2Proof.Machine.execNmtStart node s
  | .nmtStop node => Sys2Proof.Machine.execNmtStop node s
  | .nmtEnterPreoperational node => Sys2Proof.Machine.execNmtEnterPreoperational node s
  | .nmtResetNode node => Sys2Proof.Machine.execNmtResetNode node s
  | .nmtResetCommunication node => Sys2Proof.Machine.execNmtResetCommunication node s
  | .lssSwitchStateGlobal config => Sys2Proof.Machine.execLssSwitchStateGlobal config s
  | .lssSwitchStateSelective vendor product revision serial => Sys2Proof.Machine.execLssSwitchStateSelective vendor product revision serial s
  | .lssConfigureNodeId id => Sys2Proof.Machine.execLssConfigureNodeId id s
  | .lssConfigureBitTiming table' index => Sys2Proof.Machine.execLssConfigureBitTiming table' index s
  | .lssStoreConfiguration => Sys2Proof.Machine.execLssStoreConfiguration s
  | .lssInquireIdentity k => Sys2Proof.Machine.execLssInquireIdentity k s
  | .lssInquireNodeId => Sys2Proof.Machine.execLssInquireNodeId s
  | .lssFastscan idNumber bitCheck lssSub lssNext => Sys2Proof.Machine.execLssFastscan idNumber bitCheck lssSub lssNext s
  | .heartbeatProduce => Sys2Proof.Machine.execHeartbeatProduce s
  | .heartbeatReceived node => Sys2Proof.Machine.execHeartbeatReceived node s
  | .heartbeatLost k => Sys2Proof.Machine.execHeartbeatLost k s
  | .canBusOff => Sys2Proof.Machine.execCanBusOff s
  | .canBusOffRecovery => Sys2Proof.Machine.execCanBusOffRecovery s
  | .canErrorPassive tec => Sys2Proof.Machine.execCanErrorPassive tec s
  | .canRxOverrun lost => Sys2Proof.Machine.execCanRxOverrun lost s
  | .syncFrame cobId counter => Sys2Proof.Machine.execSyncFrame cobId counter s
  | .emcySend => Sys2Proof.Machine.execEmcySend s
  | .errHistClear p v => Sys2Proof.Machine.execErrHistClear p v s
  | .pdoCobidWrite p idx v => Sys2Proof.Machine.execPdoCobidWrite p idx v s
  | .tpdoEventTimer k => Sys2Proof.Machine.execTpdoEventTimer k s
  | .tpdoTransmit k => Sys2Proof.Machine.execTpdoTransmit k s
  | .rpdoReceive cobId data => Sys2Proof.Machine.execRpdoReceive cobId data s
  | .rpdoTimeout k => Sys2Proof.Machine.execRpdoTimeout k s
  | .usdoDownloadInitiate idx sub size data => Sys2Proof.Machine.execUsdoDownloadInitiate idx sub size data s
  | .usdoDownloadSegment data last => Sys2Proof.Machine.execUsdoDownloadSegment data last s
  | .usdoUploadInitiate idx sub => Sys2Proof.Machine.execUsdoUploadInitiate idx sub s
  | .usdoUploadSegment => Sys2Proof.Machine.execUsdoUploadSegment s
  | .usdoAbortReceived => Sys2Proof.Machine.execUsdoAbortReceived s
  | .usdoSessionTimeout => Sys2Proof.Machine.execUsdoSessionTimeout s
  | .storeAll p v => Sys2Proof.Machine.execStoreAll p v s
  | .storeComm p v => Sys2Proof.Machine.execStoreComm p v s
  | .restoreDefaultsComm p sub v => Sys2Proof.Machine.execRestoreDefaultsComm p sub v s
  | .enterDeep p => Sys2Proof.Machine.execEnterDeep p s
  | .enterWatch p => Sys2Proof.Machine.execEnterWatch p s
  | .leaveWatch p => Sys2Proof.Machine.execLeaveWatch p s
  | .watchEntryDone => Sys2Proof.Machine.execWatchEntryDone s
  | .deepEntryDone => Sys2Proof.Machine.execDeepEntryDone s
  | .wakeEdge n rising => Sys2Proof.Machine.execWakeEdge n rising s
  | .wakeTimerExpiry => Sys2Proof.Machine.execWakeTimerExpiry s
  | .domainStartAdmit => Sys2Proof.Machine.execDomainStartAdmit s
  | .domainStarted x => Sys2Proof.Machine.execDomainStarted x s
  | .deepTimerExpiry => Sys2Proof.Machine.execDeepTimerExpiry s
  | .deepTriginWake ticks => Sys2Proof.Machine.execDeepTriginWake ticks s
  | .canDominantWake ticks => Sys2Proof.Machine.execCanDominantWake ticks s
  | .wakePinRelease => Sys2Proof.Machine.execWakePinRelease s
  | .perstAssert => Sys2Proof.Machine.execPerstAssert s
  | .perstDeassert ticks => Sys2Proof.Machine.execPerstDeassert ticks s
  | .startComplete rep => Sys2Proof.Machine.execStartComplete rep s
  | .bootWatchdog => Sys2Proof.Machine.execBootWatchdog s
  | .mainsDipEnd ms => Sys2Proof.Machine.execMainsDipEnd ms s
  | .holdupEnd => Sys2Proof.Machine.execHoldupEnd s
  | .supplyShutdown => Sys2Proof.Machine.execSupplyShutdown s
  | .refSelectWrite p v => Sys2Proof.Machine.execRefSelectWrite p v s
  | .extRefLoss offFreq => Sys2Proof.Machine.execExtRefLoss offFreq s
  | .extRefValidated mhz => Sys2Proof.Machine.execExtRefValidated mhz s
  | .loopLockDeclared x loop => Sys2Proof.Machine.execLoopLockDeclared x loop s
  | .loopStandbyReady x loop => Sys2Proof.Machine.execLoopStandbyReady x loop s
  | .loopLockLoss x loop => Sys2Proof.Machine.execLoopLockLoss x loop s
  | .loopRestart x loop => Sys2Proof.Machine.execLoopRestart x loop s
  | .loopLockTimeout x loop => Sys2Proof.Machine.execLoopLockTimeout x loop s
  | .internalOscFail => Sys2Proof.Machine.execInternalOscFail s
  | .flitCrcFail k lane => Sys2Proof.Machine.execFlitCrcFail k lane s
  | .evalTestWindowEnd d e agree checkOk => Sys2Proof.Machine.execEvalTestWindowEnd d e agree checkOk s
  | .lockstepMismatch supervisor => Sys2Proof.Machine.execLockstepMismatch supervisor s
  | .hubRestartDone => Sys2Proof.Machine.execHubRestartDone s
  | .powerPhaseFail phase => Sys2Proof.Machine.execPowerPhaseFail phase s
  | .phaseAuditWindowEnd d a => Sys2Proof.Machine.execPhaseAuditWindowEnd d a s
  | .inputTestDue n => Sys2Proof.Machine.execInputTestDue n s
  | .inputTestDone failStep => Sys2Proof.Machine.execInputTestDone failStep s
  | .tarnishPolish p v => Sys2Proof.Machine.execTarnishPolish p v s
  | .flogFlush => Sys2Proof.Machine.execFlogFlush s
  | .capStart p => Sys2Proof.Machine.execCapStart p s
  | .capCancel p => Sys2Proof.Machine.execCapCancel p s
  | .capBegin => Sys2Proof.Machine.execCapBegin s
  | .capEnd => Sys2Proof.Machine.execCapEnd s
  | .fwOpen p => Sys2Proof.Machine.execFwOpen p s
  | .fwVerify p => Sys2Proof.Machine.execFwVerify p s
  | .fwVerifyDone => Sys2Proof.Machine.execFwVerifyDone s
  | .fwInstall p => Sys2Proof.Machine.execFwInstall p s
  | .fwInstallDone writeOk => Sys2Proof.Machine.execFwInstallDone writeOk s
  | .fwDiscard p => Sys2Proof.Machine.execFwDiscard p s
  | .fwAccept p => Sys2Proof.Machine.execFwAccept p s
  | .attestCmd p v => Sys2Proof.Machine.execAttestCmd p v s
  | .attestReportDone => Sys2Proof.Machine.execAttestReportDone s
  | .hkMonitorConversion value => Sys2Proof.Machine.execHkMonitorConversion value s
  | .hkSequenceConversion raw => Sys2Proof.Machine.execHkSequenceConversion raw s
  | .hkRefSelectWrite p v => Sys2Proof.Machine.execHkRefSelectWrite p v s
  | .hkRefSettled => Sys2Proof.Machine.execHkRefSettled s
  | .auxRangeWrite p k v => Sys2Proof.Machine.execAuxRangeWrite p k v s
  | .auxCalZero p k => Sys2Proof.Machine.execAuxCalZero p k s
  | .auxCalSpan p k => Sys2Proof.Machine.execAuxCalSpan p k s
  | .auxCalReset p k => Sys2Proof.Machine.execAuxCalReset p k s
  | .auxCalMeasureDone rawSum => Sys2Proof.Machine.execAuxCalMeasureDone rawSum s
  | .ptestCmd p v => Sys2Proof.Machine.execPtestCmd p v s
  | .sheetWrite n volts => Sys2Proof.Machine.execSheetWrite n volts s
  | .doeDiscovery l index => Sys2Proof.Machine.execDoeDiscovery l index s
  | .cdatTableAccess l entry => Sys2Proof.Machine.execCdatTableAccess l entry s
  | .hdmDecoderCommit l base size => Sys2Proof.Machine.execHdmDecoderCommit l base size s
  | .canErrorPassiveEnd => Sys2Proof.Machine.execCanErrorPassiveEnd s

end Sys2Proof.Machine
end

