-- ==== Sys2Proof/Machine/Step.lean ====
section
/-!
DEFINITION. The block: one step takes the command at the front of the queue. On an empty queue one hub core cycle passes
(log 17), so a command that follows meets a later device time.
-/
namespace Sys2Proof.Machine

/-- Device time is counted while the module runs or starts; a module that is Off or in Deep keeps it (R34, R38). -/
def State.counts (s : State) : Bool := s.awake || s.starting

/-- What happens when no command waits: one hub core cycle of 48 base periods (R37) passes. -/
def tick (s : State) : State := if s.counts then s.runTo (s.cycle + 48) else s

/-- One step: the command at the front of the queue, or a core cycle. -/
def step (s : State) : Host.Outcome State Fault Refusal :=
  match s.pending with
  | [] => .next (tick s)
  | c :: rest => exec c { s with pending := rest }

/-- The state with the command a word spells in front: no word spells one. -/
def State.withFetchWord (s : State) (nbits w : Nat) : State :=
  match decodeTableWord nbits w with
  | some c => { s with pending := c :: s.pending }
  | none => s

end Sys2Proof.Machine
end

