-- ==== Sys2Proof/Safety.lean ====
section
/-!
DEFINITION. What claims about runs are made of: a command that answers a next state with a property, a step that does not
stop, and the invariants of the block.
-/
namespace Sys2Proof.Machine

/-- Command `i` answers a next state, and `P` holds of it. -/
def Answers (i : Instr) (s : State) (P : State → Prop) : Prop := ∃ t, exec i s = .next t ∧ P t

/-- The step goes on: it answers neither a fault nor a refusal. -/
def Safe (s : State) : Prop := ∃ t, step s = .next t

/-- The steward in force is the one R437 names. -/
abbrev State.StewardOk (s : State) : Prop := s.steward = s.stewardDue

/-- The module is in Armed exactly while at least one context is Armed, and in Ready otherwise, in the two states that
depend on it (R31). -/
abbrev State.ArmedOk (s : State) : Prop :=
  (s.dev = .ready → s.anyArmed = false) ∧ (s.dev = .armed → s.anyArmed = true)

/-- What every command restores (R31, R437). -/
abbrev State.Inv (s : State) : Prop := s.StewardOk ∧ s.ArmedOk

/-- An LD without the pending bits of its masked vectors. -/
def Ld.bare (l : Ld) : Ld := { l with pba := [] }

/-- A route without its count. -/
def Route.bare (r : Nat × Route) : Nat × Route := (r.1, { r.2 with count := 0 })

/-- The field-bus port without the TPDOs that are due. -/
def Can.bare (c : Can) : Can := { c with tpdoDue := [] }

/-- All of the block but what the pulses of a device event and the end of a command may touch: the device state, the
objects, pending bits of masked vectors, delivered messages, edges, request lines and TPDOs, the counts of routes,
the free values drawn and the turn last taken at the server. -/
def State.body (s : State) : State :=
  { s with
    dev := .ready, objs := [], sent := [], trigOut := [], reqLines := [], pulsed := [], freeCtr := 0, servedAt := none
    lds := s.lds.map Ld.bare
    can := s.can.bare
    routes := s.routes.map Route.bare }

/-- The objects that the end of a command or a device event may change: STEWARD_ACTIVE, STEWARD_TM with its wrap count,
DEVICE_STATE_TM, DEVICE_STATE_WRAP, CXL_STATUS and FB_FLAGS (R31, R437, R439, R477). -/
def settleKeys : List Nat :=
  [objKey 0 O.STEWARD_ACTIVE, objKey 0 O.STEWARD_TM, objKey (wrapInst 0) O.STEWARD_TM, objKey 0 O.DEVICE_STATE_TM
    , objKey 0 O.DEVICE_STATE_WRAP, objKey 0 O.CXL_STATUS, objKey 0 O.FB_FLAGS]

/-- Between `s` and `t` every object outside `ks` is unchanged, but for those of `settleKeys`. -/
def ObjsBut (ks : List Nat) (s t : State) : Prop :=
  ∀ i k, objKey i k ∉ ks → objKey i k ∉ settleKeys → t.obj i k = s.obj i k

/-- Between `s` and `t` nothing but the objects in `ks` changes, what `State.body` leaves aside apart. -/
def OnlyObjs (ks : List Nat) (s t : State) : Prop := t.body = s.body ∧ ObjsBut ks s t

/-- Path `p` is served in this core cycle: its owner's LD is Enabled, or it is the field-bus port of a running module, no hub
controller restart runs, and the server has served no other access in this core cycle (R408, R411, R424, R434). -/
abbrev Served (s : State) (p : Nat) : Prop := s.serves p = true ∧ s.hubRestart = false ∧ s.turnFree = true

/-- An access of path `p` aborted with `a`, as its copy of 2003 shows (R416, R421). -/
def Aborted (s t : State) (p k op : Nat) (a : Abort) : Prop :=
  t.obj p O.PATH_LAST_ABORT = ofN (k * 2 ^ 40 + op * 2 ^ 32 + a.code.toNat) ∧
    (t.obj p O.PATH_ABORTS).toNat = satN 32 ((s.obj p O.PATH_ABORTS).toNat + 1) ∧ bit (t.obj p O.PATH_STATUS) 0 = true

/-- The access path of a command that is an access of it. -/
def accessPath : Instr → Option Nat
  | .epochSourceWrite p _ | .touchmarkRead p _ _ | .windowReadLowHalf p _ _ | .windowReadHighHalf p _ _
  | .windowWriteLowHalf p _ _ _ | .windowWriteHighHalf p _ _ _ | .objectWrite p _ _ _ | .feSettingWrite p _ _ _
  | .alloyCommit p _ _ | .calStart p _ | .calCommit p _ | .sliceRetest p _ | .skewsetClear p _ | .trigForce p _
  | .trigLevelWrite p _ _ _ | .ctxClaim p | .ctxArm p | .ctxHold p | .ctxResume p | .ctxDisarm p | .ctxFree p
  | .ringMibWrite p _ _ | .ringPolicyWrite p _ _ | .segReleaseSeq p _ | .segReleaseUpto p _ | .segReleaseAll p _
  | .cruClear p | .cruFreeze p | .cruThaw p | .astoreLoadImage p | .astoreLoadAndStore p | .astoreEmpty p
  | .memSpareCmd p _ | .dpOpen p _ | .dpClose p _ | .dpDataRead p _ | .dpDataWrite p _ _ | .mvClaim p | .mvStart p
  | .mvPause p | .mvResume p | .mvStop p | .mvRelease p | .evClaim p | .evRelease p | .plClaim p | .plStart p
  | .plFinish p | .plContinue p | .plAbort p | .plRelease p | .rasterStart p | .rasterStop p | .rasterCommit p _
  | .layerClaim p _ | .layerRelease p _ | .rbufAllocate p | .rbufFree p | .dictCommit p _ | .dictStore p _
  | .dictRestore p _ | .inputClaim p _ | .inputRelease p _ | .inputSubscribe p _ | .inputUnsubscribe p _
  | .inputRevoke p _ | .errHistClear p _ | .pdoCobidWrite p _ _ | .storeAll p _ | .storeComm p _
  | .restoreDefaultsComm p _ _ | .enterDeep p | .enterWatch p | .leaveWatch p | .refSelectWrite p _
  | .tarnishPolish p _ | .capStart p | .capCancel p | .fwOpen p | .fwVerify p | .fwInstall p | .fwDiscard p
  | .fwAccept p | .attestCmd p _ | .hkRefSelectWrite p _ | .auxRangeWrite p _ _ | .auxCalZero p _
  | .auxCalSpan p _ | .auxCalReset p _ | .ptestCmd p _ => some p
  | _ => none

/-- The keys of path `p`'s copy of 2003:03 to 2003:05, where an abort is recorded (R416). -/
def abortKeys (p : Nat) : List Nat := [objKey p O.PATH_LAST_ABORT, objKey p O.PATH_ABORTS, objKey p O.PATH_STATUS]

/-- An access of path `p` to object `k` that aborts with `a` and changes nothing else (R416, R420, R421). -/
def Rejected (s t : State) (p k op : Nat) (a : Abort) : Prop := Aborted s t p k op a ∧ OnlyObjs (abortKeys p) s t

/-- Which edges fire at each sample of a stream of trits, rising and falling (R139). -/
def edgesOf : EdgeArm → List Nat → List (Bool × Bool)
  | _, [] => []
  | a, t :: ts => ((edgeStep a t).2.1, (edgeStep a t).2.2) :: edgesOf (edgeStep a t).1 ts

/-- The records of every context but `c` are the same in `s` and `t`. -/
def CtxsBut (c : Nat) (s t : State) : Prop := ∀ d, d ≠ c → t.ctx d = s.ctx d

/-- Lane, opcode (R269) and fields of a word command: die, lane, opcode, word. -/
def wordOf : Instr → Option (Nat × Nat × Nat × AWord)
  | .wNop d l w => some (d, l, 0x00, w)
  | .wMov d l w => some (d, l, 0x01, w)
  | .wLdi d l w => some (d, l, 0x02, w)
  | .wLds d l w => some (d, l, 0x03, w)
  | .wSts d l w => some (d, l, 0x04, w)
  | .wAdd d l w => some (d, l, 0x08, w)
  | .wSub d l w => some (d, l, 0x09, w)
  | .wMul d l w => some (d, l, 0x0A, w)
  | .wDiv d l w => some (d, l, 0x0B, w)
  | .wDivr d l w => some (d, l, 0x0C, w)
  | .wMuldiv d l w => some (d, l, 0x0D, w)
  | .wAddi d l w => some (d, l, 0x0E, w)
  | .wShl d l w => some (d, l, 0x10, w)
  | .wSar d l w => some (d, l, 0x11, w)
  | .wAnd d l w => some (d, l, 0x12, w)
  | .wOr d l w => some (d, l, 0x13, w)
  | .wXor d l w => some (d, l, 0x14, w)
  | .wMin d l w => some (d, l, 0x15, w)
  | .wMax d l w => some (d, l, 0x16, w)
  | .wAbs d l w => some (d, l, 0x17, w)
  | .wSqrt d l w => some (d, l, 0x18, w)
  | .wCmp d l w => some (d, l, 0x20, w)
  | .wCmpi d l w => some (d, l, 0x21, w)
  | .wJmp d l w => some (d, l, 0x28, w)
  | .wHcnt d l w => some (d, l, 0x30, w)
  | .wHmode d l w => some (d, l, 0x31, w)
  | .wHbin d l w => some (d, l, 0x32, w)
  | .wPass2 d l w => some (d, l, 0x38, w)
  | .wNextx d l w => some (d, l, 0x39, w)
  | .wPut d l w => some (d, l, 0x3C, w)
  | .wPutv d l w => some (d, l, 0x3D, w)
  | .wEnd d l w => some (d, l, 0x3F, w)
  | _ => none

/-- Lane `l` of die `d` runs the program of record `r` of context `c`, held as `x`, and fetches this very word next
(R265, R267, R270). -/
abbrev State.Runs (s : State) (d l op : Nat) (w : AWord) (c : Nat) (x : Ctx) (r : ARec) : Prop :=
  s.laneRec d l = some (c, r) ∧ s.ctx c = some x ∧ r.waiting = false ∧ r.steps < 2 ^ 20 ∧ s.fetch r = some (op, w)

/-- A record whose program has taken one step to the next word (R265). -/
def ARec.stepped (r : ARec) : ARec := { r with steps := r.steps + 1, pc := r.pc + 1 }

/-- Between `s` and `t` nothing changed but the record of `r`'s event in context `c`, now `r'`. -/
def RecordIs (c : Nat) (x : Ctx) (r r' : ARec) (s t : State) : Prop :=
  t.ctx c = some { x with assays := x.assays.map fun q => if q.tm = r.tm then r' else q } ∧ CtxsBut c s t ∧
    OnlyObjs [] { s with ctxs := t.ctxs } t

/-- A context that is Armed or Held and that no suspension has reached before is Suspended in `t`, or leaves its state for it
with its work in flight (R180, R211). -/
def SuspendsIt (c : Nat) (x : Ctx) (t : State) : Prop :=
  (x.st = .armed ∨ x.st = .held) → x.arming = false → x.armCause = none →
    ∃ y, t.ctx c = some y ∧ (y.st = .suspended ∨ y.armCause.isSome = true)

/-- Contexts of owner code `o` that are Armed or Held are Suspended; any other keeps its state, and its arm where one is not yet in
force (R450, R465, R554; log 69). -/
def Suspends (o : Nat) (s t : State) : Prop :=
  ∀ c x, s.ctx c = some x → x.owner = o → SuspendsIt c x t ∧
    (x.st ≠ .armed → x.st ≠ .held →
      ∃ y, t.ctx c = some y ∧ y.st = x.st ∧ y.arming = x.arming ∧ y.armCause = x.armCause)

/-- Every context that is Armed or Held is Suspended, and one whose arm is not yet in force keeps a cause that suspends it then
(R493, R504, R508; log 69). -/
def SuspendsAll (s t : State) : Prop :=
  ∀ c x, s.ctx c = some x → SuspendsIt c x t ∧ (x.arming = true → ∃ y, t.ctx c = some y ∧ y.armCause.isSome = true)

/-- Between `s` and `t` every byte of memory outside the ranges of `rs` (address and length, where the units of `t` stand) reads as
before. -/
def MemBut (rs : List (Nat × Nat)) (s t : State) : Prop :=
  ∀ a, (∀ r ∈ rs, a < t.phys r.1 ∨ t.phys r.1 + r.2 ≤ a) → Memory.read t.mem a = Memory.read s.mem a

/-- The bytes of the descriptor of segment `g` of context `c` in the segment table (R198, R199). -/
def State.entryRange (s : State) (c : Nat) (g : Segment) : List (Nat × Nat) :=
  (s.entryAddr c .table g 64).toList.map fun a => (a, 64)

/-- Every segment table in capture memory begins on a unit. -/
def State.TablesAligned (s : State) : Prop := ∀ a ∈ s.allocs, a.kind = .table → a.off % 64 = 0

/-- LD `l` begins to be disabled, and no other LD changes its state (R450). -/
def LdDisabled (l : Nat) (s t : State) : Prop :=
  (t.ld l).st = .disabling ∧ (∀ m, m ≠ l → (t.ld m).st = (s.ld m).st) ∧ Suspends l s t

/-- The order in which the domains of a start queue (R499, R552). -/
def State.startOrder (s : State) : List Nat :=
  [1, 3] ++ (List.range (s.D / 2)).map (· + 12) ++ [2] ++ (List.range s.D).map (· + 4)

/-- Frames that the port sends leave it: the controller runs and no restart of the hub does (R468, R469). -/
abbrev State.Sends (s : State) : Prop := s.canRuns = true ∧ s.hubRestart = false ∧ s.can.busOff = false

/-- An emergency with this code and detail waits (R472). -/
def Waits (code detail : Nat) (t : State) : Prop := ∃ e ∈ t.can.queue, e.code = code ∧ e.detail = detail

end Sys2Proof.Machine
end

