-- ==== Sys2Proof/Certificates/Slice0/Obligations.lean ====
section
/-!
DEFINITION. The statements about the block, in the order of the specification's chapters. Each docstring says what is stated
and names the rules it rests on. `Answers` says that the command completes and what holds of the next state; `Rejected` that
it is turned away with its abort code and that nothing but the record of the abort changes; `OnlyObjs` that nothing but the
named objects (and what the pulses at a command's end touch) changes.
-/
open Sys2Proof Sys2Proof.Machine

/-- O1. A step takes the command at the front of the queue and is exec of it with the queue's rest. -/
def Obligations.StepRunsFront : Prop :=
  ∀ (c : Instr) (rest : List Instr) (s : State),
    step { s with pending := c :: rest } = exec c { s with pending := rest }

/-- O2. With no command waiting, device time runs on to the next core cycle where it is counted, and nothing changes where it is
not: the model's choice (log 17). -/
def Obligations.StepIdles : Prop :=
  ∀ s : State, s.pending = [] → step s = .next (if s.awake || s.starting then s.runTo (s.now / 48 * 48 + 48) else s)

/-- O3. No command stops the block: each answers a next state, and in it the steward in force and the Ready and Armed states
are those of O4. -/
def Obligations.EveryCommandAnswers : Prop := ∀ (c : Instr) (s : State), Answers c s fun t => t.Inv

/-- O4. Every step restores the steward in force of R437 and the Ready and Armed states of R31. -/
def Obligations.InvKept : Prop := ∀ s t : State, s.Inv → step s = .next t → t.Inv

/-- O5. The invariants hold right after reset. -/
def Obligations.InvAtReset : Prop := State.reset.Inv

/-- O6. Right after the start that State.reset stands for (log 1): Ready, no context, no input, channel, route or planisher
claimed, every path with its objects at their defaults, no shadow, no buffer, the bench controller's steward, capture memory
that reads zero in canonical form, device time from 0. -/
def Obligations.ResetValues : Prop :=
  State.reset.dev = .ready ∧ State.reset.counter = 0 ∧ State.reset.wraps = 0 ∧
    (∀ c, State.reset.ctx c = none) ∧ (∀ p, State.reset.path p = {}) ∧ (∀ x, State.reset.chan x = none) ∧
    (∀ p k, p < 33 → isPathObj k = true → State.reset.obj p k = objDefault State.reset.variant k) ∧
    State.reset.routes = [] ∧ State.reset.plans = [] ∧
    (∀ n, n < 8 → State.reset.claimant n = 0xFF ∧ (State.reset.input n).members = [n]) ∧
    State.reset.shadows = [] ∧ State.reset.bufs = [] ∧ State.reset.steward = 16 ∧
    (∀ a, Memory.read State.reset.mem a = 0) ∧ Memory.wf State.reset.mem = true

/-- O7. Device time: the counter's wrap counts and sets its bit, a die's copy stands where the counter does at each core cycle,
the epoch's source is the steward's to write and a new source drops the shadows of the mapping, a TIME frame under source 2
sets the mapping and its generation, and another frame or another source leaves it (R35, R36, R51 to R53). -/
def Obligations.DeviceTime : Prop :=
  (∀ s : State, Answers .timeCounterWrap s fun t =>
      t.counter = 0 ∧ t.wraps = s.wraps + 1 ∧ bit (t.get O.TB_STATUS) 0 = true ∧
        OnlyObjs [objKey 0 O.TB_STATUS] { s with counter := t.counter, wraps := t.wraps } t) ∧
  (∀ (s : State) (d t : Nat), (s.die d).counterFrom = some t → t % 48 = 0 → t ≤ s.now →
      s.dieCounter d = some (BitVec.ofNat 55 s.cycle)) ∧
  (∀ (s : State) (p : Nat) (v : Slot), Served s p → ownerOf p = s.steward → v.toNat ≤ 2 →
      Answers (.epochSourceWrite p v) s fun t =>
        t.get O.EPOCH_SOURCE = v ∧
        t.shadows = (if s.get O.EPOCH_SOURCE = v then s.shadows
          else s.shadows.filter fun h => decide (h.key ∉ [O.EPOCH_TM, O.EPOCH_WRAP, O.EPOCH_NS])) ∧
        OnlyObjs [objKey 0 O.EPOCH_SOURCE] { s with shadows := t.shadows } t) ∧
  (∀ (s : State) (p : Nat) (v : Slot), Served s p →
    (ownerOf p ≠ s.steward → Answers (.epochSourceWrite p v) s fun t => Rejected s t p O.EPOCH_SOURCE 2 .noPermission) ∧
    (ownerOf p = s.steward → 2 < v.toNat → Answers (.epochSourceWrite p v) s fun t =>
      Rejected s t p O.EPOCH_SOURCE 2 .range)) ∧
  (∀ (s : State) (id days ms : Nat), s.canServes = true → bit (s.get O.COB_ID_TIME) 31 = true →
      fld (s.get O.COB_ID_TIME) 0 29 = id → s.num O.EPOCH_SOURCE = 2 →
      Answers (.timeFrame id days ms) s fun t =>
        t.get O.EPOCH_TM = tmOf s.now ∧ t.num O.EPOCH_WRAP = s.wraps.toNat ∧
        t.get O.EPOCH_NS = ofN (((days + 5113) * 86400000 + ms) * 1000000) ∧
        t.num O.EPOCH_GEN = (s.num O.EPOCH_GEN + 1) % 2 ^ 32 ∧
        bit (t.get O.TB_STATUS) 1 = true ∧ bit (t.get O.TB_STATUS) 2 = false ∧
        OnlyObjs [objKey 0 O.EPOCH_TM, objKey 0 O.EPOCH_WRAP, objKey 0 O.EPOCH_NS, objKey 0 O.EPOCH_GEN,
          objKey 0 O.TB_STATUS] s t) ∧
  (∀ (s : State) (id days ms : Nat), (bit (s.get O.COB_ID_TIME) 31 = false ∨ fld (s.get O.COB_ID_TIME) 0 29 ≠ id ∨
      s.num O.EPOCH_SOURCE ≠ 2) → Answers (.timeFrame id days ms) s fun t => OnlyObjs [] s t)

/-- O8. An access of a path that serves nothing has no effect; during a hub controller restart a write is discarded and a read
answers all ones, and both are kept to be recorded once the restart ends; a write or read that meets a core cycle in which
the server is taken is that of the next free one (R411, R424, R434). -/
def Obligations.PathsNotServed : Prop :=
  (∀ (i : Instr) (p : Nat) (s : State), accessPath i = some p → s.serves p = false →
      Answers i s fun t => OnlyObjs [] s t) ∧
  (∀ (s : State) (p i sub : Nat) (v : Slot), s.serves p = true → s.hubRestart = true →
      Answers (.objectWrite p i sub v) s fun t =>
        t.missed = s.missed ++ [(p, i * 256 + sub, 2)] ∧ OnlyObjs [] { s with missed := t.missed } t) ∧
  (∀ (s : State) (p i sub : Nat), s.serves p = true → s.hubRestart = true →
      Answers (.touchmarkRead p i sub) s fun t =>
        t.missed = s.missed ++ [(p, i * 256 + sub, 1)] ∧ (t.path p).resp = 0xFFFFFFFFFFFFFFFF ∧
        OnlyObjs [] { s with missed := t.missed, paths := t.paths } t) ∧
  (∀ (s : State) (p i sub t₀ : Nat) (v : Slot), s.commits = [] → s.servedAt = some t₀ → t₀ % 48 = 0 → s.cycle ≤ t₀ →
      let u : State := { s.runTo (t₀ + 48) with servedAt := none }
      s.serves p = true → s.hubRestart = false → u.serves p = true →
      (Answers (.objectWrite p i sub v) s fun t => exec (.objectWrite p i sub v) u = .next t) ∧
      (Answers (.touchmarkRead p i sub) s fun t => exec (.touchmarkRead p i sub) u = .next t))

/-- O9. A write to an object that no operation of its own serves is checked for object, subindex, access code, ownership, length,
value range and present state in that order, and aborts with the first code that applies (R13, R14, R407, R420). -/
def Obligations.WriteCheckOrder : Prop :=
  ∀ (s : State) (p i sub : Nat) (v : Slot), Served s p →
    (∀ a, s.absent i sub = some a → Answers (.objectWrite p i sub v) s fun t => Rejected s t p (i * 256 + sub) 2 a) ∧
    (∀ r, s.absent i sub = none → findRow i sub = some r →
      (r.writable = false →
        Answers (.objectWrite p i sub v) s fun t => Rejected s t p (i * 256 + sub) 2 .notWritable) ∧
      (r.writable = true → ownWrite s p (s.selected p) i sub v = none →
        (s.admits p (s.selected p) i sub r = false →
          Answers (.objectWrite p i sub v) s fun t => Rejected s t p (i * 256 + sub) 2 .noPermission) ∧
        (s.admits p (s.selected p) i sub r = true → r.ty.isBlob = true →
          Answers (.objectWrite p i sub v) s fun t => Rejected s t p (i * 256 + sub) 2 .length) ∧
        (s.admits p (s.selected p) i sub r = true → r.ty.isBlob = false →
          (s.valueOk r i sub v = false ∨ s.pathRange p (s.selected p) (normIdx i * 256 + sub) v = false) →
          Answers (.objectWrite p i sub v) s fun t => Rejected s t p (i * 256 + sub) 2 .range) ∧
        (s.admits p (s.selected p) i sub r = true → r.ty.isBlob = false → s.valueOk r i sub v = true →
          s.pathRange p (s.selected p) (normIdx i * 256 + sub) v = true →
          s.writableNow p (s.selected p) i sub = false →
          Answers (.objectWrite p i sub v) s fun t => Rejected s t p (i * 256 + sub) 2 .presentState)))

/-- O10. A write that passes the checks of O9: an rwp object loses the bits written as one (R13), a shadow is filled and the
active value stays (R422), any other object takes the value in the bits a write reaches (R7). -/
def Obligations.WriteStores : Prop :=
  ∀ (s : State) (p i sub : Nat) (v : Slot) (r : ObjRow), Served s p → sub < 256 → s.absent i sub = none →
    findRow i sub = some r → r.writable = true → ownWrite s p (s.selected p) i sub v = none →
    s.admits p (s.selected p) i sub r = true → r.ty.isBlob = false → s.valueOk r i sub v = true →
    s.pathRange p (s.selected p) (normIdx i * 256 + sub) v = true → s.writableNow p (s.selected p) i sub = true →
    (i * 256 + sub ∈ [O.CXL_STATUS, O.FB_FLAGS] → s.Inv) →
    let inst := s.instOf p (s.selected p) (normIdx i * 256 + sub)
    let old := s.obj inst (i * 256 + sub)
    (r.acc = .rwp → Answers (.objectWrite p i sub v) s fun t =>
      t.obj inst (i * 256 + sub) = old &&& ~~~ (v &&& ofN r.mask) ∧ OnlyObjs [objKey inst (i * 256 + sub)] s t) ∧
    (r.acc ≠ .rwp → r.shadow = true → Answers (.objectWrite p i sub v) s fun t =>
      (∃ h ∈ t.shadows, h.key = objKey inst (i * 256 + sub) ∧ h.owner = ownerOf p ∧ h.written = s.cycle ∧
        h.value = (old &&& ~~~ r.writeMask i sub) ||| (v &&& r.writeMask i sub)) ∧
      (∀ h ∈ t.shadows, h.key ≠ objKey inst (i * 256 + sub) → h ∈ s.shadows) ∧
      OnlyObjs [] { s with shadows := t.shadows } t) ∧
    (r.acc ≠ .rwp → r.shadow = false → Answers (.objectWrite p i sub v) s fun t =>
      t.obj inst (i * 256 + sub) = (old &&& ~~~ r.writeMask i sub) ||| (v &&& r.writeMask i sub) ∧
      OnlyObjs [objKey inst (i * 256 + sub), objKey 0 O.LATCH_COUNT, objKey 0 O.ATTEST_GEN]
        { s with can := t.can, trigInOld := t.trigInOld } t)

/-- O11. Reads: an 8-byte read answers the value; in the window, whose byte offset names the slot, a low half takes the snapshot
and a high half consumes it; a high half without a snapshot is live and sets TEAR; a read that aborts returns all ones and is
recorded; an access that is not 4 or 8 bytes, naturally aligned, is an Unsupported Request (R412 to R414, R416). -/
def Obligations.Reads : Prop :=
  (∀ (s : State) (p i sub : Nat) (v : Slot), Served s p → i * 256 + sub ≠ O.DP_DATA → i * 256 + sub ≠ O.CDP_DATA →
      (s.path p).companions = [] → s.readScalar p (s.selected p) i sub = .ok v →
      (Answers (.touchmarkRead p i sub) s fun t =>
        (t.path p).resp = v ∧ (t.path p).snapshot = (s.path p).snapshot ∧
        OnlyObjs [objKey p O.TM_WRAP] { s with paths := t.paths } t) ∧
      (p < 16 → isWide i sub = true → i < 2 ^ 15 → sub < 256 → Answers (.windowReadLowHalf p (i * 2048 + sub * 8) 4) s fun t =>
        (t.path p).resp = ofN (v.toNat % 2 ^ 32) ∧ (t.path p).snapshot = some (i * 256 + sub, v) ∧
        OnlyObjs [objKey p O.TM_WRAP] { s with paths := t.paths } t) ∧
      (p < 16 → isWide i sub = true → i < 2 ^ 15 → sub < 256 → s.absent i sub = none →
        (∀ k w, (s.path p).snapshot = some (k, w) → k ≠ i * 256 + sub) →
        Answers (.windowReadHighHalf p (i * 2048 + sub * 8 + 4) 4) s fun t =>
          (t.path p).resp = ofN (v.toNat / 2 ^ 32) ∧ bit (t.obj p O.PATH_STATUS) 1 = true ∧
          OnlyObjs [objKey p O.PATH_STATUS] { s with paths := t.paths } t)) ∧
  (∀ (s : State) (p i sub : Nat) (v : Slot), Served s p → p < 16 → isWide i sub = true → i < 2 ^ 15 → sub < 256 →
      s.absent i sub = none → (s.path p).snapshot = some (i * 256 + sub, v) →
      Answers (.windowReadHighHalf p (i * 2048 + sub * 8 + 4) 4) s fun t =>
        (t.path p).resp = ofN (v.toNat / 2 ^ 32) ∧ (t.path p).snapshot = none ∧
        OnlyObjs [] { s with paths := t.paths } t) ∧
  (∀ (s : State) (p i sub : Nat) (a : Abort), Served s p → i * 256 + sub ≠ O.DP_DATA → i * 256 + sub ≠ O.CDP_DATA →
      s.readScalar p (s.selected p) i sub = .error a →
      Answers (.touchmarkRead p i sub) s fun t =>
        (t.path p).resp = 0xFFFFFFFFFFFFFFFF ∧ Aborted s t p (i * 256 + sub) 1 a ∧
        OnlyObjs (abortKeys p) { s with paths := t.paths } t) ∧
  (∀ (s : State) (p off n : Nat) (v : Slot), p < 16 → s.serves p = true → winOk off n = false →
      ∀ c ∈ [Instr.windowReadLowHalf p off n, .windowReadHighHalf p off n, .windowWriteLowHalf p off n v,
          .windowWriteHighHalf p off n v],
        Answers c s fun t => .unsupported p ∈ t.sent ∧ OnlyObjs [] s t)

/-- O12. Half writes of a 64-bit object: the low half is checked for object, subindex, access code and ownership, staged and
changes nothing else, a second one sets STAGE_LOST, the high half writes both as one 8-byte write, with its checks, and
clears the stage, and aborts without one (R415). -/
def Obligations.HalfWrites : Prop :=
  ∀ (s : State) (p i sub : Nat) (v : BitVec 32), Served s p → p < 16 → isWide i sub = true → i < 2 ^ 15 →
    sub < 256 →
    (∀ a, s.stageErr p (s.selected p) i sub = some a → Answers (.windowWriteLowHalf p (i * 2048 + sub * 8) 4 (v.zeroExtend 64)) s fun t =>
      (t.path p).stage = (s.path p).stage ∧ Rejected s t p (i * 256 + sub) 2 a) ∧
    (s.stageErr p (s.selected p) i sub = none →
      (Answers (.windowWriteLowHalf p (i * 2048 + sub * 8) 4 (v.zeroExtend 64)) s fun t =>
        (t.path p).stage = some (i * 256 + sub, v) ∧
        ((s.path p).stage.isSome = true → bit (t.obj p O.PATH_STATUS) 2 = true) ∧
        ((s.path p).stage = none → t.obj p O.PATH_STATUS = s.obj p O.PATH_STATUS) ∧
        OnlyObjs [objKey p O.PATH_STATUS] { s with paths := t.paths } t) ∧
      (∀ lo, (s.path p).stage = some (i * 256 + sub, lo) →
        Answers (.windowWriteHighHalf p (i * 2048 + sub * 8 + 4) 4 (v.zeroExtend 64)) s fun t =>
          exec (.objectWrite p i sub (v ++ lo)) (s.setPath p { s.path p with stage := none }) = .next t ∧
          (t.path p).stage = none) ∧
      (∀ lo a, (s.path p).stage = some (i * 256 + sub, lo) →
        let u := (takeTurn s).setPath p { s.path p with stage := none }
        ownWrite u p (u.selected p) i sub (v ++ lo) = none →
        (writeObj u p (u.selected p) i sub (v ++ lo)).2 = some a →
        Answers (.windowWriteHighHalf p (i * 2048 + sub * 8 + 4) 4 (v.zeroExtend 64)) s fun t =>
          (t.path p).stage = none ∧ Rejected u t p (i * 256 + sub) 2 a) ∧
      ((∀ k lo, (s.path p).stage = some (k, lo) → k ≠ i * 256 + sub) →
        Answers (.windowWriteHighHalf p (i * 2048 + sub * 8 + 4) 4 (v.zeroExtend 64)) s fun t => Rejected s t p (i * 256 + sub) 2 .length))

/-- O13. The mailbox of an LD: a submission is taken where no request runs; a read request completes with the eight bytes of
a scalar, a write request as the write of the slot, an unknown operation aborts (R417, R418). -/
def Obligations.MailboxRequests : Prop :=
  (∀ (s : State) (l : Nat) (req : Slot) (data : List Byte), l < 16 → s.serves (16 + l) = true →
      (s.mailbox l).busy = false →
      Answers (.mbDoorbellSubmit l req data) s fun t =>
        (t.mailbox l).busy = true ∧ (t.mailbox l).request = req ∧ 
        (t.mailbox l).data = data.take 2048 ++ (s.mailbox l).data.drop (data.take 2048).length ∧
        OnlyObjs [] { s with mailboxes := t.mailboxes } t) ∧
  (∀ (s : State) (l : Nat) (req : Slot) (data : List Byte), (s.mailbox l).busy = true →
      Answers (.mbDoorbellSubmit l req data) s fun t => OnlyObjs [] s t) ∧
  (∀ (s : State) (l i sub : Nat) (v : Slot) (r : ObjRow), l < 16 → Served s (16 + l) → (s.mailbox l).busy = true →
      fld (s.mailbox l).request 56 8 = 1 → fld (s.mailbox l).request 40 16 = i →
      fld (s.mailbox l).request 32 8 = sub → i * 256 + sub ≠ O.DP_DATA → i * 256 + sub ≠ O.CDP_DATA →
      s.absent i sub = none → findRow i sub = some r → r.ty.isBlob = false → (s.path (16 + l)).companions = [] →
      s.readScalar (16 + l) (s.selected (16 + l)) i sub = .ok v →
      Answers (.mailboxRequestDone l) s fun t =>
        (t.mailbox l).busy = false ∧ (t.mailbox l).result = ofN (8 * 2 ^ 32) ∧
        (t.mailbox l).data.take 8 = leBytes 8 v.toNat ∧
        OnlyObjs [objKey (16 + l) O.TM_WRAP] { s with mailboxes := t.mailboxes, paths := t.paths } t) ∧
  (∀ (s u : State) (l i sub : Nat) (r : ObjRow), l < 16 → Served s (16 + l) → (s.mailbox l).busy = true →
      fld (s.mailbox l).request 56 8 = 2 → fld (s.mailbox l).request 40 16 = i →
      fld (s.mailbox l).request 32 8 = sub → fld (s.mailbox l).request 0 12 = 8 → 8 ≤ (s.mailbox l).data.length →
      s.stageErr (16 + l) (s.selected (16 + l)) i sub = none → findRow i sub = some r → r.ty.isBlob = false →
      writeObj (takeTurn s) (16 + l) (s.selected (16 + l)) i sub (ofN (leNat ((s.mailbox l).data.take 8))) = (u, none) →
      Answers (.mailboxRequestDone l) s fun t =>
        (t.mailbox l).busy = false ∧ (t.mailbox l).result = 0 ∧ OnlyObjs [] { u with mailboxes := t.mailboxes } t) ∧
  (∀ (s : State) (l : Nat), l < 16 → Served s (16 + l) → (s.mailbox l).busy = true →
      fld (s.mailbox l).request 56 8 ∉ [1, 2] →
      Answers (.mailboxRequestDone l) s fun t =>
        (t.mailbox l).busy = false ∧ (t.mailbox l).result = 0x06090030 ∧
        OnlyObjs (abortKeys (16 + l)) { s with mailboxes := t.mailboxes } t)

/-- O14. DICT_COMMIT: with shadows of the owner pending a hand-over falls due four core cycles later and the path reads
0xFFFFFFFF until then; a later commit of the same owner joins it; with nothing pending the path reads the generation in
force; other values do nothing (R423). -/
def Obligations.Commits : Prop :=
  ∀ (s : State) (p : Nat), Served s p →
    (∀ v : Slot, v.toNat < 256 → v ≠ 1 → Answers (.dictCommit p v) s fun t => OnlyObjs [] s t) ∧
    ((∀ c ∈ s.commits, c.owner ≠ ownerOf p) →
      (∃ h ∈ s.shadows, h.owner = ownerOf p ∧ isLayerKey h.key = false) →
      Answers (.dictCommit p 1) s fun t =>
        t.commits = s.commits ++ [{ owner := ownerOf p, due := s.cycle + 192, paths := [p] }] ∧
        t.obj p O.PATH_COMMIT_GEN = 0xFFFFFFFF ∧
        OnlyObjs [objKey p O.PATH_COMMIT_GEN] { s with commits := t.commits } t) ∧
    ((∀ c ∈ s.commits, c.owner ≠ ownerOf p) →
      (∀ h ∈ s.shadows, h.owner = ownerOf p → isLayerKey h.key = true) →
      Answers (.dictCommit p 1) s fun t =>
        t.obj p O.PATH_COMMIT_GEN = s.get O.DICT_GEN ∧ OnlyObjs [objKey p O.PATH_COMMIT_GEN] s t) ∧
    (∀ c ∈ s.commits, c.owner = ownerOf p → Answers (.dictCommit p 1) s fun t =>
      t.commits.map Commit.due = s.commits.map Commit.due ∧
      (∃ c' ∈ t.commits, c'.owner = ownerOf p ∧ c'.due = c.due ∧ p ∈ c'.paths) ∧
      t.obj p O.PATH_COMMIT_GEN = 0xFFFFFFFF ∧
      OnlyObjs [objKey p O.PATH_COMMIT_GEN] { s with commits := t.commits } t)

/-- O15. DICT_HANDOVER: in core cycle H every shadow pending for a committing owner that was written before H comes into
force, no other does, the generation rises by one, and each committing path reads it (R423). -/
def Obligations.HandOvers : Prop :=
  ∀ (s : State) (hc : Nat), (s.commits.map Commit.due).min? = some hc →
    (s.shadows.map Shadow.key).Nodup →
    (∀ h ∈ s.shadows, ∃ r, findRow (keyIdx h.key) (h.key % 256) = some r ∧ r.shadow = true) →
    Answers .dictHandover s fun t =>
      (∀ h ∈ s.shadows, (∃ c ∈ s.commits, c.due = hc ∧ c.owner = h.owner) → h.written < hc →
        isLayerKey h.key = false →
        t.obj (h.key / 2 ^ 24) (h.key % 2 ^ 24) = h.value ∧ h ∉ t.shadows) ∧
      (∀ h ∈ s.shadows, ((∀ c ∈ s.commits, c.due = hc → c.owner ≠ h.owner) ∨ hc ≤ h.written ∨
        isLayerKey h.key = true) → h ∈ t.shadows) ∧
      t.num O.DICT_GEN = (s.num O.DICT_GEN + 1) % 2 ^ 32 ∧ t.get O.DICT_GEN_TM = tmOf hc ∧
      (∀ c ∈ s.commits, c.due = hc → ∀ p ∈ c.paths, t.obj p O.PATH_COMMIT_GEN = t.get O.DICT_GEN) ∧
      t.commits = s.commits.filter (fun c => decide (c.due ≠ hc)) ∧ t.mem = s.mem ∧ t.ctxs = s.ctxs

/-- O16. The stored set: DICT_STORE copies the active values of the stored class and is busy until DICT_STORE_DONE puts the
copy in force, beside the copy before it, or leaves the previous one; DICT_RESTORE marks the set; any other value is out of range, and both abort
while a store runs (R426). -/
def Obligations.StoredSet : Prop :=
  (∀ (s : State) (p : Nat), Served s p → ownerOf p = s.steward → s.storeBusy = false →
      (Answers (.dictStore p 0x65766173) s fun t =>
        t.storeBusy = true ∧ t.storeCopy = some s.storedNow ∧ t.storeAt = s.cycle ∧
        OnlyObjs [objKey 0 O.DEVICE_STATUS]
          { s with storeCopy := t.storeCopy, storeAt := t.storeAt, storedOld := none } t) ∧
      (Answers (.dictRestore p 0x64616F6C) s fun t =>
        t.storeMarked = true ∧ OnlyObjs [] { s with storeMarked := true } t)) ∧
  (∀ (s : State) (p : Nat) (v : Slot), Served s p → ownerOf p = s.steward →
      (v ≠ 0x65766173 → Answers (.dictStore p v) s fun t => Rejected s t p O.DICT_STORE 2 .range) ∧
      (v ≠ 0x64616F6C → Answers (.dictRestore p v) s fun t => Rejected s t p O.DICT_RESTORE 2 .range) ∧
      (s.storeBusy = true →
        (Answers (.dictStore p 0x65766173) s fun t => Rejected s t p O.DICT_STORE 2 .presentState) ∧
        (Answers (.dictRestore p 0x64616F6C) s fun t => Rejected s t p O.DICT_RESTORE 2 .presentState))) ∧
  (∀ (s : State) (c : List (Nat × Slot)), s.storeCopy = some c →
      (Answers (.dictStoreDone true) s fun t =>
        t.stored = some c ∧ t.storedOld = s.stored ∧ t.storeMarked = false ∧ t.storeBusy = false ∧ t.storeCopy = none ∧
        t.num O.DICT_STORE_COUNT = satN 32 (s.num O.DICT_STORE_COUNT + 1) ∧ t.get O.DICT_STORE_TM = tmOf s.storeAt) ∧
      (Answers (.dictStoreDone false) s fun t =>
        t.stored = s.stored ∧ t.storeMarked = s.storeMarked ∧ t.storeBusy = false ∧ t.storeCopy = none ∧
        bit (t.get O.DEVICE_STATUS) 3 = true ∧
        OnlyObjs [objKey 0 O.DEVICE_STATUS] { s with storeCopy := none } t))

/-- O17. Front ends: a checked setting is stored and settles within 50 µs, FE_SETTLED puts it in force, a setting by an owner
that is not the claimant, out of range, of a busy, Absorbed or Regrouping input, or of an input the variant lacks aborts and
changes nothing (R3, R61 to R66). -/
def Obligations.FrontEnds : Prop :=
  (∀ (s : State) (p n sub : Nat) (v : Slot), Served s p → n < s.D → n < s.inputs.length → 1 ≤ sub → sub ≤ 3 →
      ownerOf p = s.claimant n → feRangeOk sub v = true →
      (s.busyInput n = false → (s.input n).st ≠ .absorbed → (s.input n).st ≠ .regrouping →
        Answers (.feSettingWrite p n sub v) s fun t =>
          t.get (0x300000 + n * 0x10000 + sub) = v ∧ (t.input n).settling = some (s.now + 2000000) ∧
          (∀ m, m ≠ n → t.input m = s.input m) ∧
          OnlyObjs [objKey 0 (0x300000 + n * 0x10000 + sub)] { s with inputs := t.inputs } t) ∧
      ((s.busyInput n = true ∨ (s.input n).st = .absorbed ∨ (s.input n).st = .regrouping) →
        Answers (.feSettingWrite p n sub v) s fun t =>
          Rejected s t p (0x300000 + n * 0x10000 + sub) 2 .presentState)) ∧
  (∀ (s : State) (p n sub : Nat) (v : Slot), Served s p → 1 ≤ sub → sub ≤ 3 →
      (n < s.D → ownerOf p ≠ s.claimant n → Answers (.feSettingWrite p n sub v) s fun t =>
        Rejected s t p (0x300000 + n * 0x10000 + sub) 2 .noPermission) ∧
      (n < s.D → ownerOf p = s.claimant n → feRangeOk sub v = false → Answers (.feSettingWrite p n sub v) s fun t =>
        Rejected s t p (0x300000 + n * 0x10000 + sub) 2 .range) ∧
      (s.D ≤ n → n < 8 → Answers (.feSettingWrite p n sub v) s fun t =>
        Rejected s t p (0x300000 + n * 0x10000 + sub) 2 .noObject)) ∧
  (∀ (s : State) (n : Nat), n < s.D → n < s.inputs.length → (s.input n).settling.isSome = true →
      Answers (.feSettled n) s fun t =>
        (t.input n).settling = none ∧ (t.input n).rangeNow = s.num (0x300001 + n * 0x10000) ∧
        (t.input n).stepNow = offsetStep (s.get (0x300002 + n * 0x10000)).toInt ∧
        (t.input n).filterNow = s.num (0x300003 + n * 0x10000) ∧
        (∀ m, m ≠ n → t.input m = s.input m) ∧ OnlyObjs [] { s with inputs := t.inputs } t)

/-- O18. An overload and an absolute maximum set their bits and are logged, the mains one in a start and in Deep too, and an overload is also an emergency (R64, R534 to
R536, R604). -/
def Obligations.Overloads : Prop :=
  (∀ (s : State) (n : Nat), n < s.D → (s.dev = .watch ∨ s.dev = .ready ∨ s.dev = .armed) →
      Answers (.inputOverload n) s fun t =>
        bit (t.get (0x300101 + n * 0x10000)) 1 = true ∧ bit (t.get O.TARNISH) 26 = true ∧
        (∃ e ∈ t.faults.log, e.bit = 26 ∧ e.input = n ∧ e.fault = false ∧ e.emcy = 0xFF52) ∧
        (∃ e ∈ t.can.queue, e.code = 0xFF52 ∧ e.b1 = n) ∧ t.mem = s.mem ∧ t.inputs = s.inputs ∧ t.ctxs = s.ctxs) ∧
  (∀ (s : State) (src unit : Nat), s.awake = true → (src = 2 ∨ (src < 2 ∧ unit < s.D) ∨ (src = 0 ∧ (unit = 8 ∨ unit = 9))) →
      Answers (.absmaxExceeded src unit) s fun t =>
        bit (t.get O.TARNISH) 29 = true ∧
        (∃ e ∈ t.faults.log, e.bit = 29 ∧ e.fault = true ∧ e.die = (if src = 0 ∧ unit < s.D then unit else 0xFF) ∧
          e.input = (if src = 1 then unit else 0xFF)) ∧
        t.mem = s.mem ∧ t.inputs = s.inputs ∧ t.ctxs = s.ctxs) ∧
  (∀ (s : State) (unit : Nat), s.awake = false → (s.starting = true ∨ s.dev = .deep) →
      Answers (.absmaxExceeded 2 unit) s fun t =>
        bit (t.get O.TARNISH) 29 = true ∧ (∃ e ∈ t.faults.log, e.bit = 29 ∧ e.fault = true) ∧ t.mem = s.mem)

/-- O19. An alloy commit that passes its checks leaves the input Changing to its sorted member set and the other members'
native inputs Absorbed; one that fails records the reason and aborts; the stream that starts puts the set in force; other
values do nothing (R77 to R83, R92). -/
def Obligations.AlloyCommits : Prop :=
  (∀ (s : State) (p n : Nat), Served s p → n < s.D → s.inputs.length = 8 → s.dies.length = 8 →
      ownerOf p = s.claimant n →
      let f := s.num (0x301001 + n * 0x10000)
      let m := s.num (0x301002 + n * 0x10000)
      (firstErr 1 (s.alloyErrs p n f m) = none → Answers (.alloyCommit p n 1) s fun t =>
        (t.input n).st = .changing ∧ (t.input n).next = some (sortN (s.span f m), false) ∧
        (∀ k ∈ s.span f m, k ≠ n → (t.input k).st = .absorbed ∧ (t.input k).host = some n ∧
          (t.input k).members = []) ∧
        t.get (0x301005 + n * 0x10000) = 0 ∧ t.mem = s.mem ∧ t.ctxs = s.ctxs) ∧
      (∀ e a, firstErr 1 (s.alloyErrs p n f m) = some (e, a) → Answers (.alloyCommit p n 1) s fun t =>
        t.num (0x301005 + n * 0x10000) = e ∧ Aborted s t p (0x301003 + n * 0x10000) 2 a ∧
        OnlyObjs (objKey 0 (0x301005 + n * 0x10000) :: abortKeys p) s t) ∧
      (∀ v : Slot, v.toNat < 256 → v ≠ 1 → Answers (.alloyCommit p n v) s fun t => OnlyObjs [] s t)) ∧
  (∀ (s : State) (n : Nat) (ms : List Nat) (g : Bool), n < s.inputs.length → (s.input n).st = .changing →
      (s.input n).next = some (ms, g) →
      Answers (.alloyStreamStart n) s fun t =>
        (t.input n).members = ms ∧ (t.input n).st = (if ms = [n] then .single else .alloyed) ∧
        (t.input n).next = none ∧ (t.input n).served = true ∧ (∀ k, k ≠ n → t.input k = s.input k) ∧
        t.mem = s.mem ∧ t.ctxs = s.ctxs)

/-- O20. The loss of a die: it is Lost, DIE_LOST sets, the six missing heartbeats of a die that sends them count, the Single
input it serves goes Dark, an alloy with an eligible member regroups to the window R84 selects, one with REGROUP_ENABLE FALSE
goes on with void positions, and during a supervisor restart the action waits; the end of a regroup gap puts the smaller
alloy in force, counts it and leaves the members outside it Reserve (R84, R86, R87, R89, R522, R528). That the count rises by
six at the declaration is the model's reading of R522 (log 43). -/
def Obligations.DieLosses : Prop :=
  (∀ (s : State) (d : Nat), d < s.D → s.dies.length = 8 →
      ((s.die d).st = .active ∨ (s.die d).st = .reserve ∨ (s.die d).st = .retention) →
      (s.restarting = false → Answers (.dieLost d) s fun t =>
        (t.die d).st = .lost ∧ bit (t.get O.TARNISH) 2 = true ∧
        t.num (O.HB_MISSES_d + d) = (if (s.die d).st = .retention then s.num (O.HB_MISSES_d + d)
          else satN 32 (s.num (O.HB_MISSES_d + d) + 6))) ∧
      (s.restarting = true → Answers (.dieLost d) s fun t =>
        t.deferred = s.deferred ++ [.dieLost d] ∧
        OnlyObjs [objKey 0 (O.HB_MISSES_d + d)] { s with deferred := t.deferred } t)) ∧
  (∀ (s : State) (d n : Nat), d < s.D → s.dies.length = 8 → s.inputs.length = 8 → (s.die d).st = .active →
      s.restarting = false → s.servedBy d = some n →
      ((s.input n).st = .single → Answers (.dieLost d) s fun t =>
        (t.input n).st = .dark ∧ (t.input n).members = []) ∧
      ((s.input n).st = .alloyed → (s.input n).members ≠ [d] → s.num O.REGROUP_ENABLE = 0 →
        Answers (.dieLost d) s fun t =>
          (t.input n).st = .alloyed ∧ (t.input n).members = (s.input n).members ∧ d ∈ (t.input n).voidDies) ∧
      (∀ w, (s.input n).st = .alloyed → (s.input n).members ≠ [d] → s.num O.REGROUP_ENABLE ≠ 0 →
        (s.setDie d { s.die d with st := .lost }).regroupWindow n d = some w → Answers (.dieLost d) s fun t =>
          (t.input n).st = .regrouping ∧ (t.input n).next = some (sortN w, true))) ∧
  (∀ (s : State) (n : Nat) (ms : List Nat) (g : Bool), n < s.inputs.length → n < s.D → (s.input n).st = .regrouping →
      (s.input n).next = some (ms, g) →
      Answers (.regroupGapEnd n) s fun t =>
        (t.input n).members = ms ∧ (t.input n).st = .alloyed ∧ (t.input n).regrouped = true ∧ (t.input n).next = none ∧
        t.num O.REGROUP_COUNT = satN 32 (s.num O.REGROUP_COUNT + 1) ∧ bit (t.get O.TARNISH) 3 = true ∧
        t.num (0x301001 + n * 0x10000) = (s.input n).nextFirst % 2 ^ 64 ∧
        t.num (0x301002 + n * 0x10000) = ms.length % 2 ^ 64 ∧
        ∀ d ∈ (s.input n).gapReserve, d < s.dies.length → (t.die d).st = .reserve)

/-- O21. A calibration pass, from CAL_START or after a lineup change to its computed trims (R101 to R107, R123): it measures every
slice of the Active and Reserve dies of its mask, spares first, records the others as skipped and lists the alloys whose
die-to-die skew it measures; another value or state, or another writer than the steward, aborts. A slice's measurement gives
the pending trim of a position or the trim of a spare at once, or, out of range, fails the slice with cause 5 and TRIM_LIMIT,
which waits for a supervisor restart to end. The skews of an alloy become the pending trims of its member banks and are stored
with its member set. The computed trims wait (sz8) or ramp, and the pass counts. -/
def Obligations.CalPass : Prop :=
  (∀ (s : State) (p : Nat) (v : Slot), Served s p →
      (ownerOf p ≠ s.steward → Answers (.calStart p v) s fun t => Rejected s t p O.CAL_START 2 .noPermission) ∧
      (ownerOf p = s.steward → (fld v 0 8 = 0 ∨ 2 ^ s.D ≤ fld v 0 8 ∨ 2 ^ 32 ≤ v.toNat) →
        Answers (.calStart p v) s fun t => Rejected s t p O.CAL_START 2 .range)) ∧
  (∀ (s : State) (p : Nat) (v : Slot), Served s p → ownerOf p = s.steward → v.toNat < 2 ^ 32 → fld v 0 8 ≠ 0 →
      fld v 0 8 < 2 ^ s.D →
      (s.running = true → (s.cal.st = .idle ∨ s.cal.st = .pending) → Answers (.calStart p v) s fun t =>
        t.cal.st = .measuring ∧
        t.cal.dies = (unmask 8 (fld v 0 8)).filter (fun d => (s.die d).st == .active || (s.die d).st == .reserve) ∧
        fld (t.get O.CAL_STATUS) 16 8 =
          maskOf ((unmask 8 (fld v 0 8)).filter fun d => !((s.die d).st == .active || (s.die d).st == .reserve)) ∧
        t.cal.skew = bit v 8 ∧ bit (t.get O.CAL_STATUS) 4 = false ∧
        (∀ n, n ∈ t.cal.alloys ↔ bit v 8 = true ∧ n < s.D ∧ 2 ≤ (s.input n).members.length ∧
          ∃ d ∈ (s.input n).members, d ∈ t.cal.dies) ∧
        (∀ d ∈ t.cal.dies, d < s.dies.length →
          (t.die d).measuring = true ∧ (t.die d).calQueue = (s.die d).spares ++ (s.die d).positions) ∧
        OnlyObjs [objKey 0 O.CAL_STATUS] { s with cal := t.cal, dies := t.dies } t) ∧
      ((s.running = false ∨ s.cal.st = .measuring ∨ s.cal.st = .ramping) → Answers (.calStart p v) s fun t =>
        Rejected s t p O.CAL_START 2 .presentState)) ∧
  (∀ (s : State) (d : Nat), d < s.D → d < s.dies.length → (s.die d).autoPass = true → s.running = true →
      (s.cal.st = .idle ∨ s.cal.st = .pending) → Answers (.calAutoStart d) s fun t =>
        t.cal.st = .measuring ∧ bit (t.get O.CAL_STATUS) 4 = true ∧ (t.die d).autoPass = false ∧
        (((s.die d).st = .active ∨ (s.die d).st = .reserve) → t.cal.dies = [d] ∧
          (t.die d).measuring = true ∧ (t.die d).calQueue = (s.die d).spares ++ (s.die d).positions) ∧
        OnlyObjs [objKey 0 O.CAL_STATUS] { s with cal := t.cal, dies := t.dies } t) ∧
  (∀ (s : State) (d : Nat) (m : SliceMeasure), d < s.D → d < s.dies.length → (s.die d).measuring = true →
      (s.die d).calQueue.head? = some m.slice →
      (∀ tr, trimOf m = some tr → Answers (.calSliceMeasured d m) s fun t =>
        (t.die d).calQueue = (s.die d).calQueue.tail ∧
        (m.slice ∈ (s.die d).positions → kvGet (t.die d).pending m.slice = some tr ∧ (t.die d).trims = (s.die d).trims) ∧
        (m.slice ∉ (s.die d).positions → (t.die d).trim m.slice = tr ∧ (t.die d).pending = (s.die d).pending) ∧
        OnlyObjs [] { s with dies := t.dies } t) ∧
      (trimOf m = none → s.restarting = false → kvGet (s.die d).failed m.slice = none →
        Answers (.calSliceMeasured d m) s fun t =>
          kvGet (t.die d).failed m.slice = some 5 ∧ bit (t.get O.CAL_STATUS) 1 = true ∧
          t.num O.AUDIT_FAIL_COUNT = satN 32 (s.num O.AUDIT_FAIL_COUNT + 1) ∧
          t.num O.AUDIT_LAST_FAIL = (d * 256 + m.slice) % 2 ^ 64) ∧
      (trimOf m = none → s.restarting = true → Answers (.calSliceMeasured d m) s fun t =>
        t.deferred = s.deferred ++ [.calSliceMeasured d m] ∧ OnlyObjs [] { s with deferred := t.deferred } t)) ∧
  (∀ (s : State) (n : Nat) (skews : List Int), n < s.inputs.length → s.cal.st = .measuring → s.slicesDone = true →
      n ∈ s.cal.alloys → skews.length = (s.input n).members.length →
      let ts := ((s.input n).members.zip skews).map fun q => bankTrim (s.die q.1).bankSkew q.2
      Answers (.calSkewMeasured n skews) s fun t =>
        t.skewSets.head? = some ((s.input n).members, ts) ∧ n ∉ t.cal.alloys ∧
        ((s.input n).members.Nodup → ∀ q ∈ (s.input n).members.zip ts, q.1 < s.dies.length →
          (t.die q.1).bankPending = some q.2) ∧
        OnlyObjs [] { s with dies := t.dies, skewSets := t.skewSets, cal := t.cal } t) ∧
  (∀ s : State, s.cal.st = .measuring → s.slicesDone = true → s.cal.alloys = [] →
      Answers .calTrimsComputed s fun t =>
        t.cal.st = (if s.variant = .sz8 then .pending else .ramping) ∧
        t.num O.CAL_PASS_COUNT = satN 32 (s.num O.CAL_PASS_COUNT + 1) ∧ t.get O.CAL_DONE_TM = tmOf s.cycle ∧
        (∀ d ∈ s.cal.dies, d < s.dies.length → (t.die d).measuring = false) ∧
        t.mem = s.mem ∧ t.ctxs = s.ctxs ∧ t.inputs = s.inputs)

/-- O22. Trims take force: a ramp moves every pending trim of every die one step towards its target each 2 µs, in offset,
gain, skew and bank skew alike, and ends, with DONE and CAL_APPLY_TM, when all have reached their targets; a boundary, or an
idle input where CAL_APPLY_MODE admits it, applies all that wait in one core cycle; CAL_COMMIT, the steward's, makes the next
core cycle such a boundary, and is a wear-out boundary of every die with a change pending (R107, R108, R118). -/
def Obligations.CalTrims : Prop :=
  (∀ s : State, s.cal.st = .ramping → s.dies.length = 8 → (∀ d, d < s.D → ((s.die d).pending.map Prod.fst).Nodup) →
      Answers .calRampStep s fun t =>
        (∀ d, d < s.D →
          (∀ q ∈ (s.die d).pending, (t.die d).trim q.1 = ((s.die d).trim q.1).step q.2 ∧
            (q ∈ (t.die d).pending ↔ (t.die d).trim q.1 ≠ q.2)) ∧
          (∀ sl, (∀ q ∈ (s.die d).pending, q.1 ≠ sl) → (t.die d).trim sl = (s.die d).trim sl) ∧
          (∀ b, (s.die d).bankPending = some b → (t.die d).bankSkew = stepTo (s.die d).bankSkew b ∧
            (t.die d).bankPending = if (t.die d).bankSkew = b then none else some b)) ∧
        (t.cal.st = .idle ↔ ∀ d, d < s.D → (t.die d).pending = [] ∧ (t.die d).bankPending = none) ∧
        (t.cal.st = .idle → bit (t.get O.CAL_STATUS) 0 = true ∧
          t.get O.CAL_APPLY_TM = tmOf ((s.cal.rampFrom + 80000) / 48 * 48 + 48)) ∧
        (t.cal.st ≠ .idle → t.cal.st = .ramping ∧ t.cal.rampFrom = s.cal.rampFrom + 80000) ∧
        t.mem = s.mem ∧ t.ctxs = s.ctxs ∧ t.inputs = s.inputs) ∧
  (∀ s : State, s.cal.st = .pending → s.dies.length = 8 →
      (s.cal.boundary.isSome = true ∨ (s.num O.CAL_APPLY_MODE ≤ 1 ∧ s.trimsIdle = true)) →
      Answers .calTrimsApply s fun t =>
        t.cal.st = .idle ∧ bit (t.get O.CAL_STATUS) 0 = true ∧ t.get O.CAL_APPLY_TM = tmOf t.cycle ∧
        (∀ d, d < s.D → (s.die d).gap = false → (t.die d).pending = [] ∧ (t.die d).bankPending = none ∧
          (((s.die d).pending.map Prod.fst).Nodup → ∀ q ∈ (s.die d).pending, (t.die d).trim q.1 = q.2) ∧
          (t.die d).bankSkew = (s.die d).bankPending.getD (s.die d).bankSkew) ∧
        t.mem = s.mem ∧ t.ctxs = s.ctxs ∧ t.inputs = s.inputs) ∧
  (∀ (s : State) (p : Nat), Served s p → ownerOf p = s.steward → s.dies.length = 8 →
      (Answers (.calCommit p 1) s fun t =>
        t.cal.boundary = (if s.cal.st = .pending then some (s.cycle + 48) else s.cal.boundary) ∧
        (∀ d, d < s.D → (t.die d).wearNow = ((s.die d).lineupPending || (s.die d).wearNow)) ∧
        OnlyObjs [] { s with cal := t.cal, dies := t.dies } t) ∧
      (∀ v : Slot, v.toNat < 256 → v ≠ 1 → Answers (.calCommit p v) s fun t => OnlyObjs [] s t) ∧
      (∀ v : Slot, 256 ≤ v.toNat → Answers (.calCommit p v) s fun t => Rejected s t p O.CAL_COMMIT 2 .range)) ∧
  (∀ (s : State) (p : Nat) (v : Slot), Served s p → ownerOf p ≠ s.steward → Answers (.calCommit p v) s fun t =>
      Rejected s t p O.CAL_COMMIT 2 .noPermission)

/-- O23. The audit: a window that shows no fault moves on to the next position; with a spare as reference a window that shows a
fault is repeated, a fault confirmed by the repeat fails the slice, and one the repeat does not confirm fails the first spare;
with no spare the statistics of one window fail the slice at once (R110 to R116). -/
def Obligations.Audits : Prop :=
  (∀ (s : State) (d : Nat) (a : AuditWindow), s.audits d = true → d < s.dies.length → (s.die d).auditCause = none →
      let next := if (s.die d).positions.length ≤ (s.die d).auditPos + 1 then 0 else (s.die d).auditPos + 1
      (((s.die d).spares ≠ [] ∧ shadowCause a = none ∨ (s.die d).spares = [] ∧ statCause a = none) →
        Answers (.auditWindowEnd d a) s fun t =>
          (t.die d).auditPos = next ∧ (t.die d).auditCause = none ∧ (t.die d).failed = (s.die d).failed ∧
          OnlyObjs [objKey 0 O.AUDIT_CYCLE_US] { s with dies := t.dies } t) ∧
      (∀ c, (s.die d).spares ≠ [] → shadowCause a = some c → Answers (.auditWindowEnd d a) s fun t =>
        (t.die d).auditCause = some c ∧ (t.die d).auditPos = (s.die d).auditPos ∧
        (t.die d).failed = (s.die d).failed ∧ OnlyObjs [] { s with dies := t.dies } t) ∧
      (∀ c, (s.die d).spares = [] → statCause a = some c → kvGet (s.die d).failed (s.die d).audited = none →
        Answers (.auditWindowEnd d a) s fun t =>
          kvGet (t.die d).failed (s.die d).audited = some c ∧
          t.num O.AUDIT_FAIL_COUNT = satN 32 (s.num O.AUDIT_FAIL_COUNT + 1))) ∧
  (∀ (s : State) (d : Nat) (a : AuditWindow) (c : Nat), s.audits d = true → d < s.dies.length →
      (s.die d).auditCause = some c →
      ((shadowCause a).isSome = true → kvGet (s.die d).failed (s.die d).audited = none →
        Answers (.auditConfirmEnd d a) s fun t =>
          kvGet (t.die d).failed (s.die d).audited = some c ∧
          t.num O.AUDIT_FAIL_COUNT = satN 32 (s.num O.AUDIT_FAIL_COUNT + 1) ∧
          t.num O.AUDIT_LAST_FAIL = (d * 256 + (s.die d).audited) % 2 ^ 64) ∧
      (∀ sp, shadowCause a = none → (s.die d).spares.head? = some sp → Answers (.auditConfirmEnd d a) s fun t =>
        kvGet (t.die d).failed sp = some c ∧
        t.num O.AUDIT_FAIL_COUNT = satN 32 (s.num O.AUDIT_FAIL_COUNT + 1) ∧
        t.num O.AUDIT_LAST_FAIL = (d * 256 + sp) % 2 ^ 64))

/-- O24. Wear-out: at the boundary of a change that does not end in Half rate the die that serves an input stops for its gap,
one that serves none changes lineup at once, and the end of the gap deals its positions afresh from the good slices in
ascending number, in no wider lineup (R116 to R119). -/
def Obligations.WearOut : Prop :=
  (∀ (s : State) (d n : Nat), d < s.D → d < s.dies.length → (s.die d).lineupPending = true → s.restarting = false →
      lineupOf (s.die d).f ≠ .half → s.servedBy d = some n → (s.die d).st = .active →
      Answers (.wearoutBoundary d) s fun t =>
        (t.die d).gap = true ∧ (t.die d).lineupPending = false ∧ (t.die d).failed = (s.die d).failed) ∧
  (∀ (s : State) (d : Nat), d < s.D → d < s.dies.length → (s.die d).lineupPending = true → s.restarting = false →
      (s.servedBy d = none ∨ (s.die d).st ≠ .active) → Answers (.wearoutBoundary d) s fun t =>
        (t.die d).lineupPending = false ∧
        (t.die d).lineup = (s.die d).lineup.narrower (lineupOf (s.die d).f) ∧
        (t.die d).positions = (s.die d).good.take (t.die d).lineup.k ∧ (t.die d).subs = 0 ∧
        (t.die d).failed = (s.die d).failed) ∧
  (∀ (s : State) (d : Nat), d < s.D → d < s.dies.length → (s.die d).gap = true → Answers (.lineupGapEnd d) s fun t =>
        (t.die d).gap = false ∧ (t.die d).lineup = (s.die d).lineup.narrower (lineupOf (s.die d).f) ∧
        (t.die d).positions = (s.die d).good.take (t.die d).lineup.k ∧ (t.die d).subs = 0 ∧
        (t.die d).failed = (s.die d).failed)

/-- O25. Retests and stored skew sets: a failed slice is retested, passes only with three good windows and then becomes a
spare, and SKEWSET_CLEAR keeps only the sets of alloys in force (R122, R126). -/
def Obligations.Retests : Prop :=
  (∀ (s : State) (p d sl : Nat), Served s p → ownerOf p = s.steward → d < s.D → sl ≤ 67 →
      (kvGet (s.die d).failed sl).isSome = true → ((s.die d).st = .active ∨ (s.die d).st = .reserve) →
      (s.die d).measuring = false → s.cal.retest = none →
      Answers (.sliceRetest p (ofN (d * 256 + sl))) s fun t =>
        t.cal.retest = some (d, sl) ∧ t.get O.RETEST_RESULT = 1 ∧
        OnlyObjs [objKey 0 O.RETEST_RESULT] { s with cal := t.cal } t) ∧
  (∀ (s : State) (d sl : Nat) (ws : List AuditWindow), s.cal.retest = some (d, sl) → d < s.dies.length →
      (ws.length = 3 → (∀ a ∈ ws, shadowCause a = none) → Answers (.sliceRetestDone ws) s fun t =>
        t.cal.retest = none ∧ kvGet (t.die d).failed sl = none ∧ t.get O.RETEST_RESULT = 2 ∧
        (sl ≤ 67 → sl ∉ (s.die d).positions → (s.die d).lineup ≠ .none → sl ∈ (t.die d).spares)) ∧
      ((ws.length ≠ 3 ∨ ∃ a ∈ ws, (shadowCause a).isSome = true) → Answers (.sliceRetestDone ws) s fun t =>
        t.cal.retest = none ∧ t.dies = s.dies ∧ t.get O.RETEST_RESULT = 3 ∧
        OnlyObjs [objKey 0 O.RETEST_RESULT] { s with cal := t.cal } t)) ∧
  (∀ (s : State) (p : Nat), Served s p → ownerOf p = s.steward → Answers (.skewsetClear p 1) s fun t =>
      t.skewSets = s.skewSets.filter (fun q => s.inputs.any fun x => x.members == q.1) ∧
      OnlyObjs [] { s with skewSets := t.skewSets } t)

/-- O26. Edges on the trits: a rising edge is armed by a trit 0 and fires at the first later trit 2, trits 1 between them
change nothing, and a falling edge is the mirror (R139). -/
def Obligations.EdgesOnTrits : Prop :=
  ∀ (ts : List Nat) (i : Nat) (r f : Bool), (∀ t ∈ ts, t ≤ 2) → (edgesOf {} ts)[i]? = some (r, f) →
    (r = true ↔ ts[i]? = some 2 ∧ ∃ j, j < i ∧ ts[j]? = some 0 ∧ ∀ k, j < k → k < i → ts[k]? = some 1) ∧
    (f = true ↔ ts[i]? = some 0 ∧ ∃ j, j < i ∧ ts[j]? = some 2 ∧ ∀ k, j < k → k < i → ts[k]? = some 1) ∧
    slopeSel 0 r f = r ∧ slopeSel 1 r f = f ∧ slopeSel 2 r f = (r || f)

/-- O27. TRIGGER_ACCEPT judges the samples of a complete core cycle: a detection that holdoff admits is accepted with its
counter, its touchmark, its holdoff and its reserved segment; one that holdoff by time or by events blocks is only counted;
without one nothing is accepted (R145, R146, R148, R195). -/
def Obligations.TriggerAccepts : Prop :=
  ∀ (s : State) (c cyc : Nat) (x : Ctx) (e : EvalSt) (ds : List Detection), s.ctx c = some x → x.st = .armed →
    x.busy = none → x.armAt ≤ cyc * 48 → x.ev.waiting ≠ [] →
    (∀ j ∈ x.ev.waiting, j.at_ / 23040 = cyc ∧ j.src ≠ forceSrc) →
    (cyc + 1) * 23040 ≤ s.horizon c x.late →
    judgeAll (s.trigCfg c (cyc * 48)) x.ev.waiting.length { x.ev with waiting := [] } x.ev.waiting = (e, ds) →
    (ds = [] → Answers (.triggerAccept c) s fun t =>
      t.ctx c = some { x with ev := e } ∧ CtxsBut c s t ∧ OnlyObjs [] { s with ctxs := t.ctxs } t) ∧
    (∀ d g fb, ds = [d] → s.locate (s.firingDie c x) x.late d = (g, fb) → x.armAt * 480 ≤ g →
      x.lastCycle ≠ some (cyc * 48) → s.acceptEnded c x (cyc * 48) = false →
      (x.pending.length < 16 → x.inUse < s.cN c O.SEG_TABLE_SIZE →
        ((s.cN c O.HOLDOFF_MODE = 0 ∧ x.holdUntil ≤ g) ∨ (s.cN c O.HOLDOFF_MODE ≠ 0 ∧ x.holdEvents = 0)) →
        Answers (.triggerAccept c) s fun t =>
          (t.obj c O.TRIG_EVENTS).toNat = ((s.obj c O.TRIG_EVENTS).toNat + 1) % 2 ^ 64 ∧
          t.obj c O.TRIG_LAST_TM = tmOfGrains g ∧ bit (t.obj c O.TRIG_STATUS) 0 = true ∧
          (∃ y, t.ctx c = some y ∧ y.holdUntil = g + s.cN c O.HOLDOFF_TIME * 480 ∧
            y.holdEvents = s.cN c O.HOLDOFF_EVENTS ∧ y.sinceArm = x.sinceArm + 1 ∧
            (y.pending.map Segment.tm) = x.pending.map Segment.tm ++ [g] ∧
            (x.partners ≠ [] → y.toCompare = x.toCompare ++ [(d.fire, g, fb)])) ∧
          CtxsBut c s t ∧ t.mem = s.mem ∧ t.inputs = s.inputs ∧ t.dies = s.dies) ∧
      (s.cN c O.HOLDOFF_MODE = 0 → g < x.holdUntil → Answers (.triggerAccept c) s fun t =>
        (t.obj c O.TRIG_HELD_OFF).toNat = ((s.obj c O.TRIG_HELD_OFF).toNat + 1) % 2 ^ 64 ∧
        t.obj c O.TRIG_EVENTS = s.obj c O.TRIG_EVENTS ∧ CtxsBut c s t ∧
        OnlyObjs [objKey c O.TRIG_HELD_OFF] { s with ctxs := t.ctxs } t) ∧
      (s.cN c O.HOLDOFF_MODE ≠ 0 → x.holdEvents ≠ 0 → Answers (.triggerAccept c) s fun t =>
        (∃ y, t.ctx c = some y ∧ y.holdEvents + 1 = x.holdEvents) ∧
        (t.obj c O.TRIG_HELD_OFF).toNat = ((s.obj c O.TRIG_HELD_OFF).toNat + 1) % 2 ^ 64 ∧ CtxsBut c s t ∧
        OnlyObjs [objKey c O.TRIG_HELD_OFF] { s with ctxs := t.ctxs } t))

/-- O28. What else an evaluator meets. A tap that misses its deadline: the next event of that context is located from the
samples its own die holds; an evaluator that fetches no tap misses none. The end of the time holdoff: HOLDOFF_ACTIVE reads FALSE. The comparison of paired evaluators: a
match changes nothing but that the event is compared; an event of the home evaluator alone, of the partner alone (which marks
the context's next record) or of both with a difference is counted, marked and has the evaluators tested (R146, R156, R162,
R525). -/
def Obligations.EvaluatorEvents : Prop :=
  (∀ (s : State) (c : Nat) (x : Ctx), s.ctx c = some x →
      (x.bound = true → x.evals ≠ [] → s.fetchesTaps c x = true → Answers (.tapFetchDeadline c) s fun t =>
        t.ctx c = some { x with late := true } ∧ CtxsBut c s t ∧ OnlyObjs [] { s with ctxs := t.ctxs } t) ∧
      ((∀ n ∈ s.located c, ∀ d ∈ (s.input n).members, d = s.firingDie c x) → Answers (.tapFetchDeadline c) s fun t =>
        OnlyObjs [] s t)) ∧
  (∀ (s : State) (n ed at_ : Nat), s.tapDie n at_ ≠ ed → s.tapValid ed true n at_ = none) ∧
  (∀ (s : State) (c : Nat) (x : Ctx), s.ctx c = some x → x.bound = true → s.cN c O.HOLDOFF_MODE = 0 →
      x.holdUntil < 480 * 2 ^ 70 →
      Answers (.holdoffExpiry c) s fun t =>
        t.ctx c = some x ∧ x.holdUntil ≤ t.now * 480 ∧ t.holdingOff c x = false ∧
        OnlyObjs [objKey 0 O.TB_STATUS] { s with counter := t.counter, wraps := t.wraps } t) ∧
  (∀ (s : State) (c : Nat) (x : Ctx), s.ctx c = some x → x.bound = true → x.partners ≠ [] →
      (∀ h r, x.toCompare = h :: r → Answers (.pairEventCompare c none) s fun t =>
        t.ctx c = some (markMismatch h.2.1 { x with toCompare := r }) ∧
        (t.obj c O.TRIG_MISMATCHES).toNat = satN 32 ((s.obj c O.TRIG_MISMATCHES).toNat + 1) ∧
        bit (t.obj c O.TRIG_STATUS) 2 = true ∧ t.faults.pairTest.length = s.faults.pairTest.length + 1 ∧
        CtxsBut c s t ∧
        OnlyObjs [objKey c O.TRIG_MISMATCHES, objKey c O.TRIG_STATUS] { s with ctxs := t.ctxs, faults := t.faults } t) ∧
      (∀ v, (∀ h ∈ x.toCompare, h.1 / 23040 ≠ v.fire / 23040) → Answers (.pairEventCompare c (some v)) s fun t =>
        t.ctx c = some { x with mismatchNext := true } ∧
        (t.obj c O.TRIG_MISMATCHES).toNat = satN 32 ((s.obj c O.TRIG_MISMATCHES).toNat + 1) ∧
        bit (t.obj c O.TRIG_STATUS) 2 = true ∧ t.faults.pairTest.length = s.faults.pairTest.length + 1 ∧
        CtxsBut c s t ∧
        OnlyObjs [objKey c O.TRIG_MISMATCHES, objKey c O.TRIG_STATUS] { s with ctxs := t.ctxs, faults := t.faults } t) ∧
      (∀ v h r, x.toCompare = h :: r → h.1 / 23040 = v.fire / 23040 →
        (pairMatches h (s.cN c O.TRIG_PAIR_TOL) v = true → Answers (.pairEventCompare c (some v)) s fun t =>
          t.ctx c = some { x with toCompare := r } ∧ CtxsBut c s t ∧ OnlyObjs [] { s with ctxs := t.ctxs } t) ∧
        (pairMatches h (s.cN c O.TRIG_PAIR_TOL) v = false → Answers (.pairEventCompare c (some v)) s fun t =>
          t.ctx c = some (markMismatch h.2.1 { x with toCompare := r }) ∧
          (t.obj c O.TRIG_MISMATCHES).toNat = satN 32 ((s.obj c O.TRIG_MISMATCHES).toNat + 1) ∧
          bit (t.obj c O.TRIG_STATUS) 2 = true ∧ t.faults.pairTest.length = s.faults.pairTest.length + 1 ∧
          CtxsBut c s t ∧
          OnlyObjs [objKey c O.TRIG_MISMATCHES, objKey c O.TRIG_STATUS]
            { s with ctxs := t.ctxs, faults := t.faults } t))) ∧
  (∀ (g : Nat) (x : Ctx), ∀ h ∈ (markMismatch g x).pending, h.tm = g → h.mismatch = true) ∧
  (∀ (s : State) (c : Nat) (x : Ctx) (g : Segment), s.ctx c = some x → x.pending.length < 16 →
      x.inUse < s.cN c O.SEG_TABLE_SIZE →
      ∃ y, (reserve s c g).ctx c = some y ∧ y.pending = x.pending ++ [{ g with mismatch := x.mismatchNext }] ∧
        y.mismatchNext = false)

/-- O29. Forced events: a write of 1 while Armed makes one at the next core cycle, an expiry of TRIG_AUTO one at its
boundary; each is counted, carries GRAIN 0 and ignores the holdoff in force, and one whose earlier samples are still to be
judged takes its place among them, where TRIGGER_ACCEPT takes it (R145, R149; the order is log 6). -/
def Obligations.ForcedEvents : Prop :=
  (∀ (s : State) (p : Nat) (x : Ctx), Served s p → s.ctx (s.selected p) = some x → ownerOf p = x.owner →
      Answers (.trigForce p 1) s fun t =>
        (x.st = .armed → x.forceAt = none →
          t.ctx (s.selected p) = some { x with forceAt := some (s.cycle + 48) }) ∧
        ((x.st ≠ .armed ∨ x.forceAt.isSome = true) → t.ctx (s.selected p) = some x) ∧
        CtxsBut (s.selected p) s t ∧ OnlyObjs [] { s with ctxs := t.ctxs } t) ∧
  (∀ (s : State) (c T : Nat) (x : Ctx), s.ctx c = some x → x.forceAt = some T → x.st = .armed →
      (s.behind c T = false → x.accepting T = true → s.acceptEnded c x T = false → x.lastCycle ≠ some T →
        Answers (.forcedEvent c) s fun t =>
          (t.obj c O.TRIG_EVENTS).toNat = ((s.obj c O.TRIG_EVENTS).toNat + 1) % 2 ^ 64 ∧
          t.obj c O.TRIG_LAST_TM = tmOfGrains (T * 480) ∧ bit (t.obj c O.TRIG_STATUS) 5 = true ∧
          (∃ y, t.ctx c = some y ∧ y.forceAt = none ∧ y.holdUntil = T * 480 + s.cN c O.HOLDOFF_TIME * 480) ∧
          CtxsBut c s t ∧ t.mem = s.mem ∧ t.inputs = s.inputs) ∧
      (s.behind c T = true → Answers (.forcedEvent c) s fun t =>
        (∃ y, t.ctx c = some y ∧ y.forceAt = none ∧ { at_ := T * 480, src := forceSrc, trit := 5 } ∈ y.ev.waiting) ∧
        CtxsBut c s t ∧ t.obj c O.TRIG_EVENTS = s.obj c O.TRIG_EVENTS ∧ t.mem = s.mem ∧ t.inputs = s.inputs)) ∧
  (∀ (s : State) (c T b : Nat) (x : Ctx) (r : List Judged), s.ctx c = some x → x.st = .armed → T % 48 = 0 →
      x.ev.waiting = { at_ := T * 480, src := forceSrc, trit := b } :: r → T * 480 ≤ s.horizon c x.late → b = 5 →
      x.accepting T = true → s.acceptEnded c x T = false → x.lastCycle ≠ some T →
      Answers (.triggerAccept c) s fun t =>
        (t.obj c O.TRIG_EVENTS).toNat = ((s.obj c O.TRIG_EVENTS).toNat + 1) % 2 ^ 64 ∧
        t.obj c O.TRIG_LAST_TM = tmOfGrains (T * 480) ∧ bit (t.obj c O.TRIG_STATUS) 5 = true ∧
        CtxsBut c s t ∧ t.mem = s.mem ∧ t.inputs = s.inputs) ∧
  (∀ (s : State) (c : Nat) (x : Ctx), s.ctx c = some x → x.st = .armed → s.cN c O.TRIG_AUTO ≠ 0 →
      s.behind c (s.autoDue c x) = false → x.accepting (s.autoDue c x) = true →
      s.acceptEnded c x (s.autoDue c x) = false → x.lastCycle ≠ some (s.autoDue c x) →
      Answers (.trigAutoExpiry c) s fun t =>
        (t.obj c O.TRIG_EVENTS).toNat = ((s.obj c O.TRIG_EVENTS).toNat + 1) % 2 ^ 64 ∧
        t.obj c O.TRIG_LAST_TM = tmOfGrains ((x.autoFrom + s.cN c O.TRIG_AUTO + 47) / 48 * 48 * 480) ∧
        bit (t.obj c O.TRIG_STATUS) 4 = true ∧ CtxsBut c s t ∧ t.mem = s.mem ∧ t.inputs = s.inputs)

/-- O30. Level writes: while the context is Armed or Held the value in force stays so until the core cycle that begins at least
eight core cycles later, also where an earlier write still waits, else the new value is in force at once; TRIG_LEVEL_TM takes
the in-force cycle; a level of an input the variant lacks aborts (R3, R168). -/
def Obligations.LevelWrites : Prop :=
  (∀ (s : State) (p i sub : Nat) (v : Slot) (x : Ctx), Served s p → sub < 256 → isLevelObj (i * 256 + sub) = true →
      (∀ a, s.missing i sub = some a → Answers (.trigLevelWrite p i sub v) s fun t =>
        Rejected s t p (i * 256 + sub) 2 a) ∧
      (s.missing i sub = none → s.ctx (s.selected p) = some x → ownerOf p = x.owner →
        levelRange (i * 256 + sub) v = true →
        (∀ l ∈ x.levels, s.now < l.1 → x.levelsWait = true ∧ l.1 = x.levelsAt) →
        Answers (.trigLevelWrite p i sub v) s fun t =>
          t.obj (s.selected p) (i * 256 + sub) = v ∧
          (x.bound = true → ∃ y, t.ctx (s.selected p) = some y ∧ s.now + 384 ≤ y.levelsAt ∧
            y.levelsAt < s.now + 384 + 48 ∧ y.levelsAt % 48 = 0 ∧
            (∀ u, s.now ≤ u → u < y.levelsAt → t.lvl (s.selected p) (i * 256 + sub) u = s.lvl (s.selected p) (i * 256 + sub) s.now) ∧
            ∀ u, y.levelsAt ≤ u → t.lvl (s.selected p) (i * 256 + sub) u = v) ∧
          (x.bound = false → t.ctx (s.selected p) = some x) ∧ CtxsBut (s.selected p) s t ∧
          ((x.levelsWait = false ∨ s.now < x.levelsAt) →
            t.obj (s.selected p) O.TRIG_LEVEL_TM = s.obj (s.selected p) O.TRIG_LEVEL_TM) ∧
          OnlyObjs [objKey (s.selected p) (i * 256 + sub), objKey (s.selected p) O.TRIG_LEVEL_TM,
            objKey (wrapInst (s.selected p)) O.TRIG_LEVEL_TM] { s with ctxs := t.ctxs } t)) ∧
  (∀ (s : State) (c : Nat) (x : Ctx), s.ctx c = some x → x.levelsWait = true →
      (∀ l ∈ x.levels, l.1 ≤ x.levelsAt) →
      Answers (.trigLevelInForce c) s fun t =>
        t.ctx c = some { x with levelsWait := false } ∧ t.obj c O.TRIG_LEVEL_TM = tmOf x.levelsAt ∧
        (∀ k u, x.levelsAt ≤ u → t.lvl c k u = t.obj c k) ∧ CtxsBut c s t ∧ t.mem = s.mem ∧ t.inputs = s.inputs)

/-- O31. Trigger in and trigger out: the first edge of each direction in a core cycle is stamped to 24 grains and latched, a
changed threshold settles, and pulses combine by OR and are counted (R55, R163, R166, R172). -/
def Obligations.TriggerPins : Prop :=
  (∀ (s : State) (up : Bool) (g : Nat), s.now ≤ g / 480 → g / 480 / 2 ^ 55 = s.now / 2 ^ 55 →
      (s.awake = true → (g / 480 / 48 * 48, up) ∉ s.trigInEdges → s.num O.LATCH_ENABLE = 1 →
        latchTakes (s.num O.TRIGIN_LATCH_SLOPE) up = true →
        Answers (.trigInEdge up g) s fun t =>
          t.get O.LATCH_TM = tmOfGrains ((2 * g + 23) / 48 * 24) ∧
          t.num O.LATCH_COUNT = (s.num O.LATCH_COUNT + 1) % 2 ^ 32 ∧
          (g / 480 / 48 * 48, up) ∈ t.trigInEdges ∧ t.mem = s.mem ∧ t.inputs = s.inputs) ∧
      ((g / 480 / 48 * 48, up) ∈ s.trigInEdges → Answers (.trigInEdge up g) s fun t =>
        t.get O.LATCH_COUNT = s.get O.LATCH_COUNT ∧ t.ctxs = s.ctxs ∧ t.mem = s.mem ∧ t.inputs = s.inputs)) ∧
  (∀ (s : State) (at_ : Nat), s.trigInOld = some at_ → Answers .triginThresholdSettled s fun t =>
      t.trigInOld = none ∧ t.mem = s.mem ∧ t.ctxs = s.ctxs ∧ t.inputs = s.inputs) ∧
  (∀ (s : State) (g : Nat) (r : List Nat), sortN s.trigOut = g :: r → Answers .trigoutPulseStart s fun t =>
      t.trigOutHigh = true ∧ t.trigOutEnd = max (g + s.num O.TRIGOUT_WIDTH * 23040) s.trigOutEnd ∧
      t.num O.TRIGOUT_COUNT = (s.num O.TRIGOUT_COUNT + 1) % 2 ^ 32 ∧ t.mem = s.mem ∧ t.ctxs = s.ctxs) ∧
  (∀ s : State, s.trigOutHigh = true → Answers .trigoutPulseEnd s fun t =>
      t.trigOutHigh = false ∧ .trigOut (s.trigOutLevel false) s.trigOutEnd ∈ t.sent ∧ t.mem = s.mem ∧
      t.ctxs = s.ctxs ∧ t.inputs = s.inputs)

/-- O32. Context commands: Claim makes an owner and defaults, Hold ends acceptance, Resume restarts it and its stop
count, Disarm and Free close what is open and start their change, and what R177 does not allow aborts (R177 to R180, R210,
R211, R274). -/
def Obligations.ContextCommands : Prop :=
  ∀ (s : State) (p c : Nat), Served s p → s.selected p = c →
    (s.ctx c = none → Answers (.ctxClaim p) s fun t =>
      t.ctx c = some { owner := ownerOf p } ∧ t.obj c O.CTX_STATE_TM = tmOf (s.cycle + 48) ∧
      (∀ k, isCtxObj k = true → k ≠ O.CTX_STATE_TM → t.obj c k = objDefault s.variant k) ∧
      (∀ d k, d ≠ c → d ≠ wrapInst c → k < 2 ^ 24 → objKey d k ∉ settleKeys → t.obj d k = s.obj d k) ∧
      CtxsBut c s t ∧ t.mem = s.mem ∧ t.inputs = s.inputs ∧ t.dies = s.dies) ∧
    (∀ x, s.ctx c = some x → Answers (.ctxClaim p) s fun t => Rejected s t p O.CTX_CMD 2 .presentState) ∧
    (∀ x, s.ctx c = some x → ownerOf p = x.owner → x.isBusy = false →
      (x.st = .armed → Answers (.ctxHold p) s fun t =>
        t.ctx c = some { x with pending := x.pending.filter (fun g => g.reached || g.closed),
                                busy := some (.held, s.now) } ∧
        CtxsBut c s t ∧ OnlyObjs [] { s with ctxs := t.ctxs } t) ∧
      (x.st = .held → Answers (.ctxResume p) s fun t =>
        (∃ y, t.ctx c = some y ∧ y.st = .armed ∧ y.armAt = s.cycle + 48 ∧ y.sinceArm = 0 ∧ y.stopMet = false ∧
          y.stopFrom = s.cycle + 48 ∧ y.pending = x.pending ∧ y.table = x.table ∧ y.evals = x.evals) ∧
        t.obj c O.CTX_STATE_TM = tmOf (s.cycle + 48) ∧ CtxsBut c s t ∧
        OnlyObjs [objKey c O.CTX_STATE_TM, objKey (wrapInst c) O.CTX_STATE_TM] { s with ctxs := t.ctxs } t) ∧
      (x.st = .suspended → Answers (.ctxDisarm p) s fun t =>
        t.ctx c = some { x with busy := some (.defined, s.now) } ∧
        CtxsBut c s t ∧ OnlyObjs [] { s with ctxs := t.ctxs } t) ∧
      ((x.st = .armed ∨ x.st = .held) → Answers (.ctxDisarm p) s fun t =>
        (∃ y, t.ctx c = some y ∧ y.st = x.st ∧ y.busy = some (.defined, s.now) ∧ y.evals = x.evals ∧
          (∀ g ∈ y.pending, g.closed = true) ∧ (∀ r ∈ y.assays, r.ended = true ∨ r.lanes = []) ∧
          ((∀ e ∈ x.dec.epochs, e.open_ = false) → y.table = x.table)) ∧
        CtxsBut c s t ∧ t.inputs = s.inputs ∧ (∀ d, (t.die d).st = (s.die d).st) ∧
        ((∀ e ∈ x.dec.epochs, e.open_ = false) → t.mem = s.mem)) ∧
      ((x.st = .armed ∨ x.st = .held) → Answers (.ctxFree p) s fun t =>
        (∃ y, t.ctx c = some y ∧ y.st = x.st ∧ y.busy = some (.empty, s.now) ∧
          (∀ g ∈ y.pending, g.closed = true) ∧ (∀ r ∈ y.assays, r.ended = true ∨ r.lanes = [])) ∧
        CtxsBut c s t ∧ t.inputs = s.inputs ∧ (∀ d, (t.die d).st = (s.die d).st)) ∧
      ((x.st = .defined ∨ x.st = .suspended) → x.table = [] → Answers (.ctxFree p) s fun t =>
        t.ctx c = some { x with busy := some (.empty, s.now) } ∧
        CtxsBut c s t ∧ OnlyObjs [] { s with ctxs := t.ctxs } t) ∧
      (x.st ≠ .armed → Answers (.ctxHold p) s fun t => Rejected s t p O.CTX_CMD 2 .presentState) ∧
      (x.st ≠ .held → Answers (.ctxResume p) s fun t => Rejected s t p O.CTX_CMD 2 .presentState) ∧
      (x.st = .defined → Answers (.ctxDisarm p) s fun t => Rejected s t p O.CTX_CMD 2 .presentState)) ∧
    (∀ x i, s.ctx c = some x → ownerOf p = x.owner → x.isBusy = true →
      i ∈ [Instr.ctxHold p, .ctxResume p, .ctxDisarm p, .ctxFree p] →
      Answers i s fun t => Rejected s t p O.CTX_CMD 2 .presentState) ∧
    (s.ctx c = none → ownerOf p = s.steward → Answers (.ctxFree p) s fun t =>
      Rejected s t p O.CTX_CMD 2 .presentState) ∧
    (∀ x, s.ctx c = some x → ownerOf p ≠ x.owner →
      (∀ i, i = Instr.ctxHold p ∨ i = .ctxResume p ∨ i = .ctxDisarm p ∨ i = .ctxArm p →
        Answers i s fun t => Rejected s t p O.CTX_CMD 2 .noPermission) ∧
      (ownerOf p ≠ s.steward → Answers (.ctxFree p) s fun t => Rejected s t p O.CTX_CMD 2 .noPermission))

/-- O33. Arming and the ends of state changes: an arm, here of a context without crucible, assay and
decimation, that R182 does not refuse binds its evaluators and clears the reasons, one that it refuses records the first, the context is Armed at its first core cycle, Hold, Disarm, Free and a
suspension complete once their segments are published, and stop conditions act (R177, R180 to R182, R210, R241, R276). -/
def Obligations.ContextChanges : Prop :=
  (∀ (s : State) (p c : Nat) (x : Ctx), Served s p → s.selected p = c → s.ctx c = some x → ownerOf p = x.owner →
      (∀ k ∈ s.cN c O.CTX_INPUT :: s.watched c, s.subscribed k (ownerOf p) = true) →
      (x.st = .defined ∨ x.st = .suspended) → x.isBusy = false → s.num O.POWER_PHASE = 0 → s.dev ≠ .watch →
      s.noReference = false →
      (∀ e a, firstErr 1 (s.armErrs c (s.trigArm c)) = some (e, a) → e ≠ 7 → Answers (.ctxArm p) s fun t =>
        (t.obj c O.CTX_ERR).toNat = e % 2 ^ 64 ∧ Aborted s t p O.CTX_CMD 2 a ∧
        OnlyObjs (objKey c O.CTX_ERR :: objKey c O.CRU_PRE_MAX :: abortKeys p) s t) ∧
      (∀ a k b, firstErr 1 (s.armErrs c (s.trigArm c)) = some (7, a) → s.trigArm c = .inr (k, b) →
        Answers (.ctxArm p) s fun t =>
          t.obj c O.CTX_ERR = 7 ∧ (t.obj c O.TRIG_ERR).toNat = k % 2 ^ 64 ∧ Aborted s t p O.CTX_CMD 2 a ∧
          OnlyObjs (objKey c O.CTX_ERR :: objKey c O.TRIG_ERR :: objKey c O.CRU_PRE_MAX :: abortKeys p) s t) ∧
      (∀ b, s.trigArm c = .inl b → firstErr 1 (s.armErrs c (s.trigArm c)) = none → s.cN c O.CRU_MODE = 0 →
        x.cru.handle = none → s.cN c O.ASSAY_PROGRAM = 0 → s.cN c O.DEC_MODE = 0 →
        Answers (.ctxArm p) s fun t =>
          (∃ y, t.ctx c = some y ∧ y.arming = true ∧ y.st = x.st ∧ y.armAt = (s.now + 3119) / 48 * 48 ∧
            y.evals = b.evals ∧ y.partners = b.partners ∧ y.streams = b.streams ∧ y.table = x.table) ∧
          t.obj c O.CTX_ERR = 0 ∧ t.obj c O.TRIG_ERR = 0 ∧
          CtxsBut c s t ∧ t.mem = s.mem ∧ t.inputs = s.inputs ∧ t.dies = s.dies)) ∧
  (∀ (s : State) (c : Nat) (x : Ctx), s.ctx c = some x → x.arming = true → s.cycle ≤ x.armAt →
      (x.armCause = none → Answers (.ctxArmEffective c) s fun t =>
        (∃ y, t.ctx c = some y ∧ y.st = .armed ∧ y.arming = false ∧ y.armAt = x.armAt ∧ y.sinceArm = 0 ∧
          y.evals = x.evals) ∧
        t.obj c O.CTX_STATE_TM = tmOf x.armAt ∧ t.obj c O.CTX_SUSPEND_CAUSE = 0 ∧ CtxsBut c s t ∧ t.mem = s.mem ∧
        ∀ d, t.die d = { s.die d with discNext := (t.die d).discNext }) ∧
      (∀ k, x.armCause = some k → x.pending = [] → Answers (.ctxArmEffective c) s fun t =>
        (∃ y, t.ctx c = some y ∧ y.st = .suspended ∧ y.evals = []) ∧
        (t.obj c O.CTX_SUSPEND_CAUSE).toNat = k % 2 ^ 64 ∧ bit (t.obj c O.CTX_STATUS) 1 = true)) ∧
  (∀ (s : State) (c T : Nat) (x : Ctx), s.ctx c = some x → x.busy = some (.held, T) → x.armCause = none →
      Answers (.ctxStateChangeDone c) s fun t =>
        t.ctx c = some { x with st := .held, busy := none, arming := false, changedIn := none, forceAt := none } ∧
        t.obj c O.CTX_STATE_TM = tmOf (s.stateFrom x) ∧ CtxsBut c s t ∧
        OnlyObjs [objKey c O.CTX_STATE_TM, objKey (wrapInst c) O.CTX_STATE_TM] { s with ctxs := t.ctxs } t) ∧
  (∀ (s : State) (c T : Nat) (x : Ctx) (b : CtxSt), s.ctx c = some x → x.busy = some (b, T) → b ≠ .held →
      x.pending ≠ [] → Answers (.ctxStateChangeDone c) s fun t => OnlyObjs [] s t) ∧
  (∀ (s : State) (c T : Nat) (x : Ctx), s.ctx c = some x → x.busy = some (.defined, T) → x.pending = [] →
      x.armCause = none →
      Answers (.ctxStateChangeDone c) s fun t =>
        (∃ y, t.ctx c = some y ∧ y.st = .defined ∧ y.busy = none ∧ y.evals = [] ∧ y.partners = [] ∧ y.streams = [] ∧
          y.table = x.table) ∧
        t.obj c O.CTX_STATE_TM = tmOf (s.stateFrom x) ∧ t.obj c O.TRIG_LATENCY = 0 ∧ CtxsBut c s t ∧
        t.mem = s.mem ∧ t.dies = s.dies) ∧
  (∀ (s : State) (c T : Nat) (x : Ctx), s.ctx c = some x → x.busy = some (.empty, T) → x.pending = [] → x.table = [] →
      x.armCause = none →
      Answers (.ctxStateChangeDone c) s fun t =>
        t.ctx c = none ∧ (∀ a ∈ t.allocs, a.ctx = c → ∃ h, a.kind = .cru h) ∧ t.mem = s.mem ∧ t.dies = s.dies) ∧
  (∀ (s : State) (c k T : Nat) (x : Ctx), s.ctx c = some x → x.busy = some (.suspended, T) → x.armCause = some k →
      x.pending = [] → Answers (.ctxStateChangeDone c) s fun t =>
        (∃ y, t.ctx c = some y ∧ y.st = .suspended ∧ y.busy = none ∧ y.armCause = none ∧ y.table = x.table) ∧
        (t.obj c O.CTX_SUSPEND_CAUSE).toNat = k % 2 ^ 64 ∧ bit (t.obj c O.CTX_STATUS) 1 = true ∧ CtxsBut c s t ∧
        t.mem = s.mem ∧ t.dies = s.dies) ∧
  (∀ (s : State) (c : Nat) (x : Ctx), s.ctx c = some x → x.st = .armed → (s.obj c O.STOP_TIME).toNat ≠ 0 →
      Answers (.stopTimeExpiry c) s fun t =>
        t.ctx c = some { x with
          stopMet := true, stopAt := if x.stopAt.isNone then s.stopTimeAt c x else x.stopAt } ∧
        CtxsBut c s t ∧ t.mem = s.mem ∧ t.inputs = s.inputs ∧ t.dies = s.dies) ∧
  (∀ (s : State) (c : Nat) (x : Ctx), s.ctx c = some x → x.st = .armed → x.busy = none → x.stopMet = true →
      x.pending = [] → x.judgedUp = true →
      Answers (.stopActionApply c) s fun t =>
        bit (t.obj c O.CTX_STATUS) 7 = true ∧
        (∃ y, t.ctx c = some y ∧ y.st = (if s.cN c O.STOP_ACTION = 1 then .defined else .held) ∧
          (s.cN c O.STOP_ACTION = 1 → y.evals = []) ∧
          ((∀ e ∈ x.dec.epochs, e.open_ = false) → y.table = x.table)) ∧
        t.obj c O.CTX_STATE_TM = tmOf s.cycleUp ∧ t.dies = s.dies ∧
        ((∀ e ∈ x.dec.epochs, e.open_ = false) → t.mem = s.mem))

/-- O34. Segments: an event reaches its context, the oldest complete segment closes with the next SEQ, the context whose turn
it is publishes its oldest closed segment into the lowest free entry of its table, and releases free the entries they name,
those with bursts running once these have ended (R194, R195, R199, R200, R215; the entry is log 99). -/
def Obligations.Segments : Prop :=
  (∀ (s : State) (c : Nat) (x : Ctx) (g : Segment), s.ctx c = some x → x.pending.find? (fun h => !h.reached) = some g →
      Answers (.eventReachesContext c) s fun t =>
        (∃ y, t.ctx c = some y ∧ y.pending = x.pending.map (fun h => if h = g then { g with reached := true } else h) ∧
          (s.cN c O.ASSAY_PROGRAM = 0 → y.assays = x.assays) ∧
          (s.cN c O.ASSAY_PROGRAM ≠ 0 → y.assays.length = x.assays.length + 1) ∧
          (x.cru.stAt t.now ≠ .opened → y.cru = x.cru) ∧ y.table = x.table ∧ y.st = x.st) ∧
        CtxsBut c s t ∧ t.mem = s.mem ∧ t.inputs = s.inputs ∧ t.dies = s.dies) ∧
  (∀ (s : State) (c : Nat) (x : Ctx) (g : Segment), s.ctx c = some x →
      x.pending.find? (fun h => !h.closed && h.reached && s.segComplete c h) = some g →
      Answers (.segmentClose c) s fun t =>
        (∃ y, t.ctx c = some y ∧ y.nextSeq = (x.nextSeq + 1) % 2 ^ 32 ∧ y.pending.length = x.pending.length ∧
          (∃ h ∈ y.pending, h.closed = true ∧ h.cut = false ∧ h.seq = x.nextSeq ∧ h.tm = g.tm) ∧
          y.table = x.table ∧ y.st = x.st) ∧
        CtxsBut c s t ∧ t.mem = s.mem ∧ t.inputs = s.inputs) ∧
  (∀ (s : State) (c : Nat) (x : Ctx) (g : Segment), s.publisher = some c → s.ctx c = some x →
      x.pending.find? Segment.closed = some g → Answers .segmentPublish s fun t =>
        (∃ y, t.ctx c = some y ∧ y.table = x.table ++ [{ g with entry := freeEntry x.table }] ∧
          y.pending = x.pending.erase g ∧ (x.tableFull = false → y.st = x.st) ∧
          (x.tableFull = true → x.pending = [g] → x.st = .armed →
            bit (t.obj c O.CTX_STATUS) 6 = true ∧ (x.stopMet = false → x.busy = none → y.st = .held) ∧
            (x.stopMet = true ∨ x.busy.isSome = true → y.st = .armed))) ∧
        t.turn = (c + 1) % 4096 ∧ t.obj c O.SEG_NEWEST_SEQ = ofN g.seq ∧
        (t.obj c O.SEG_CLOSED).toNat = ((s.obj c O.SEG_CLOSED).toNat + 1) % 2 ^ 64 ∧
        bit (t.obj c O.CTX_STATUS) 0 = true ∧ CtxsBut c s t ∧ t.inputs = s.inputs ∧ t.dies = s.dies ∧
        (s.TablesAligned → MemBut (s.entryRange c { g with entry := freeEntry x.table }) s t)) ∧
  (∀ x : Ctx, (∀ g ∈ x.table, g.entry ≠ freeEntry x.table) ∧
      ∀ e, e < freeEntry x.table → ∃ g ∈ x.table, g.entry = e) ∧
  (∀ (s : State) (p c : Nat) (v : Slot) (x : Ctx), Served s p → s.selected p = c → s.ctx c = some x →
      ownerOf p = x.owner → v.toNat < 2 ^ 32 →
      (∀ g, s.held c v.toNat = some g → g.bursts = 0 → Answers (.segReleaseSeq p v) s fun t =>
        (∃ y, t.ctx c = some y ∧ y.table = x.table.filter (fun h => h.seq != v.toNat) ∧ y.pending = x.pending) ∧
        CtxsBut c s t ∧ t.mem = s.mem ∧ t.inputs = s.inputs) ∧
      (∀ g, s.held c v.toNat = some g → g.bursts ≠ 0 → Answers (.segReleaseSeq p v) s fun t =>
        t.ctx c = some { x with table := x.table.map fun h => if h.seq = v.toNat then { h with released := true } else h } ∧
        CtxsBut c s t ∧ OnlyObjs [] { s with ctxs := t.ctxs } t) ∧
      (s.held c v.toNat = none → Answers (.segReleaseSeq p v) s fun t => Rejected s t p O.SEG_RELEASE_SEQ 2 .range) ∧
      ((s.held c v.toNat).isSome = true → (∀ g ∈ x.table, g.bursts = 0) → Answers (.segReleaseUpto p v) s fun t =>
        (∃ y, t.ctx c = some y ∧ y.table = x.table.filter (fun h => !(seqsUpto x.table v.toNat).contains h.seq) ∧
          y.pending = x.pending) ∧
        CtxsBut c s t ∧ t.mem = s.mem ∧ t.inputs = s.inputs) ∧
      ((∀ g ∈ x.table, g.bursts = 0) → Answers (.segReleaseAll p 1) s fun t =>
        (∃ y, t.ctx c = some y ∧ y.table = [] ∧ y.pending = x.pending) ∧
        CtxsBut c s t ∧ t.mem = s.mem ∧ t.inputs = s.inputs) ∧
      (v.toNat < 256 → v ≠ 1 → Answers (.segReleaseAll p v) s fun t => OnlyObjs [] s t)) ∧
  (∀ (s : State) (p : Nat) (v : Slot), Served s p → ownerOf p ≠ s.ctxOwner (s.selected p) →
      Answers (.segReleaseSeq p v) s fun t => Rejected s t p O.SEG_RELEASE_SEQ 2 .noPermission) ∧
  (∀ (s : State) (c seq : Nat) (x : Ctx) (g : Segment), s.ctx c = some x → s.held c seq = some g →
      (g.released = true → g.bursts = 0 → Answers (.segmentReleaseEffective c seq) s fun t =>
        (∃ y, t.ctx c = some y ∧ y.table = x.table.filter (fun h => h.seq != seq) ∧ y.pending = x.pending) ∧
        CtxsBut c s t ∧ t.mem = s.mem ∧ t.inputs = s.inputs) ∧
      (g.bursts ≠ 0 → Answers (.segmentReleaseEffective c seq) s fun t => OnlyObjs [] s t))

/-- O35. Rings. SHEET_WRITE on a Writing ring whose line is free stores one sheet per member, advances the line and changes no
other byte; on any other ring it writes nothing. A segment pins only lines that hold an item of it. Under Keep captured a pin
pauses the ring and ends its epoch, Keep newest revokes the pins of its own input that no release of the same core cycle frees (log 70), a pause ends in a new epoch, and RING_MIB
and RING_POLICY are checked writes (R3, R73, R74, R183 to R190). -/
def Obligations.Rings : Prop :=
  (∀ (s : State) (n : Nat) (volts : List Int) (e : Epoch) (es : List Epoch), n < s.inputs.length →
      s.converts n = true → (s.input n).ring = .writing → (s.input n).epochs = e :: es → e.perLine ≠ 0 →
      s.blockers n = [] → (∀ q ∈ s.ctxs, s.cN q.1 O.CTX_INPUT = n → s.cN q.1 O.DEC_MODE = 0) →
      e.members.Nodup → (∀ d ∈ e.members, d < 8) → (s.input n).slot * 64 + 64 ≤ halfBytes →
      let b := (e.t0 + e.count * e.period) / 480
      Answers (.sheetWrite n volts) s fun t =>
        (t.input n).slot = ((s.input n).slot + 1) % e.lines ∧ (t.input n).served = true ∧
        (∃ f, (t.input n).epochs = f :: es ∧ f.count = e.count + e.perLine ∧ f.number = e.number ∧ f.open_ = e.open_) ∧
        (∀ q ∈ dealt e.members, s.lostUnit (capAddr q.2 ((s.input n).slot * 64)) = false →
          t.peekN (capAddr q.2 ((s.input n).slot * 64)) 64 =
            if (s.input n).voidDies.contains q.2 then voidSheet
            else sampleSheet (s.sheetCodes n b q.1 q.2 volts) (s.die q.2).sparesInUse
              ((s.input n).discNext || (s.die q.2).discNext) (s.calMark q.2 b (e.perLine * e.period / 480))) ∧
        (∀ a, (∀ d ∈ e.members, a < t.phys (capAddr d ((s.input n).slot * 64)) ∨
            t.phys (capAddr d ((s.input n).slot * 64)) + 64 ≤ a) →
          Memory.read t.mem a = Memory.read s.mem a) ∧
        (∀ m, m ≠ n → t.input m = s.input m)) ∧
  (∀ (s : State) (n : Nat) (volts : List Int), n < s.inputs.length →
      (s.converts n = false → Answers (.sheetWrite n volts) s fun t => OnlyObjs [] s t) ∧
      ((s.input n).ring = .paused ∨ ((s.input n).ring = .idle ∧ s.busyInput n = false) →
        Answers (.sheetWrite n volts) s fun t => OnlyObjs [objKey 0 (inObj O.FE_STATUS_n n)] s t)) ∧
  (∀ (e : Epoch) (a b d slot : Nat), e.perLine = 48 * e.members.length → e.pins a b d slot = true →
      ∃ i, a ≤ i ∧ i < b ∧ (e.slot + i / e.perLine) % e.lines = slot ∧ e.members[i % e.perLine / 48]? = some d) ∧
  (∀ (s : State) (n : Nat), n < s.D → n < s.inputs.length → (s.input n).ring = .writing →
      (∃ b ∈ s.blockers n, s.revocable n b.2 = false) → Answers (.ringPause n) s fun t =>
        (t.input n).ring = .paused ∧ (t.input n).pauseAt = s.now ∧
        (∀ e, (t.input n).epochs.head? = some e → e.open_ = false) ∧
        t.num (inObj O.RING_PAUSES_n n) = satN 32 (s.num (inObj O.RING_PAUSES_n n) + 1) ∧
        bit (t.get (inObj O.RING_STATUS_n n)) 1 = true ∧ (∀ m, m ≠ n → t.input m = s.input m) ∧ t.dies = s.dies ∧
        ((∀ c, s.cN c O.DEC_MODE = 0) → t.mem = s.mem)) ∧
  (∀ (s : State) (n T : Nat), n < s.D → n < s.inputs.length → (s.input n).ring = .paused → s.blockers n = [] →
      T = s.boundary n (s.now + 96) → Answers (.ringResume n) s fun t =>
        (t.input n).ring = .writing ∧ (t.input n).discNext = true ∧
        (∃ e, (t.input n).epochs = e :: (s.input n).epochs ∧ e.t0 = T * 480 ∧ e.open_ = true ∧ e.count = 0 ∧
          e.members = (s.input n).members) ∧
        t.num (inObj O.RING_PAUSE_NS_n n) = (s.num (inObj O.RING_PAUSE_NS_n n) + (T - (s.input n).pauseAt) / 40) % 2 ^ 64 ∧
        t.mem = s.mem ∧ t.ctxs = s.ctxs ∧ t.dies = s.dies ∧ (∀ m, m ≠ n → t.input m = s.input m)) ∧
  (∀ (s : State) (n : Nat), n < s.D → (s.input n).ring = .writing → Answers (.segmentRevoke n) s fun t =>
        (∀ c x g, s.ctx c = some x → g ∈ x.segments → (c, g) ∈ s.toRevoke n →
          ∃ y h, t.ctx c = some y ∧ h ∈ y.segments ∧ h.revoked = true ∧ h.tm = g.tm ∧ h.seq = g.seq ∧ h.entry = g.entry) ∧
        (s.toRevoke n ≠ [] → bit (t.get (inObj O.RING_STATUS_n n)) 0 = true) ∧
        t.inputs = s.inputs ∧ t.dies = s.dies ∧
        (s.TablesAligned → MemBut ((s.toRevoke n).flatMap fun b => s.entryRange b.1 b.2) s t)) ∧
  (∀ (s : State) (n : Nat), (∀ i ∈ s.pending.head?, waitingRelease s i = none) → s.num (inObj O.RING_POLICY_n n) = 0 →
      ∀ b, b ∈ s.toRevoke n ↔ b ∈ s.blockers n ∧ b.2.input = n) ∧
  (∀ (s : State) (n : Nat), n < s.D → (s.input n).ring ≠ .writing →
      Answers (.segmentRevoke n) s fun t => OnlyObjs [] s t) ∧
  (∀ (s : State) (p n : Nat) (v : Slot), Served s p → n < s.D → n < s.inputs.length → ownerOf p = s.claimant n →
      (v.toNat % 64 = 0 → 64 ≤ v.toNat → v.toNat ≤ 11008 → (s.input n).st = .single → s.runsOn n = false →
        s.regionPinned n = false → s.allocsOf n = [] → Answers (.ringMibWrite p n v) s fun t =>
          t.get (inObj O.RING_MIB_n n) = v ∧ t.input n = { s.input n with fresh := true, slot := 0 } ∧
          (∀ m, m ≠ n → t.input m = s.input m) ∧
          OnlyObjs [objKey 0 (inObj O.RING_MIB_n n)] { s with inputs := t.inputs } t) ∧
      ((v.toNat % 64 ≠ 0 ∨ v.toNat < 64 ∨ 11008 < v.toNat) → Answers (.ringMibWrite p n v) s fun t =>
        Rejected s t p (inObj O.RING_MIB_n n) 2 .range) ∧
      (v.toNat % 64 = 0 → 64 ≤ v.toNat → v.toNat ≤ 11008 →
        ((s.input n).st ≠ .single ∨ s.runsOn n = true ∨ s.regionPinned n = true) →
        Answers (.ringMibWrite p n v) s fun t => Rejected s t p (inObj O.RING_MIB_n n) 2 .presentState) ∧
      (v.toNat ≤ 1 → (s.input n).ring ≠ .paused → (v = 1 ∨ ∀ c x, s.ctx c = some x → x.dec.paused = false) →
        Answers (.ringPolicyWrite p n v) s fun t =>
          t.get (inObj O.RING_POLICY_n n) = v ∧ OnlyObjs [objKey 0 (inObj O.RING_POLICY_n n)] s t) ∧
      ((s.input n).ring = .paused → Answers (.ringPolicyWrite p n 0) s fun t =>
        t.get (inObj O.RING_POLICY_n n) = 0 ∧
        ((∃ b ∈ s.blockers n, b.2.input = n) → bit (t.get (inObj O.RING_STATUS_n n)) 0 = true) ∧
        t.inputs = s.inputs ∧ t.dies = s.dies) ∧
      (1 < v.toNat → Answers (.ringPolicyWrite p n v) s fun t => Rejected s t p (inObj O.RING_POLICY_n n) 2 .range)) ∧
  (∀ (s : State) (p n : Nat) (v : Slot), Served s p → s.D ≤ n → n < 8 →
      (Answers (.ringMibWrite p n v) s fun t => Rejected s t p (inObj O.RING_MIB_n n) 2 .noObject) ∧
      (Answers (.ringPolicyWrite p n v) s fun t => Rejected s t p (inObj O.RING_POLICY_n n) 2 .noObject))

/-- O36. The crucible: a Clear abandons the records in folding from the next core cycle on and, once done, has reset the elements
and begun a generation; Freeze and Thaw move between Open and Frozen from the next core cycle on; a record whose segment has
closed folds once and gives back its lanes, or is skipped and counted, with Clear and continue in a new generation after
skipped transition records (R219, R231, R235 to R238). -/
def Obligations.Crucibles : Prop :=
  (∀ (s : State) (p c : Nat) (x : Ctx), Served s p → s.selected p = c → s.ctx c = some x → ownerOf p = x.owner →
      ((x.cru.st = .opened ∨ x.cru.st = .frozen ∨ x.cru.st = .complete) → Answers (.cruClear p) s fun t =>
        (∃ k, t.ctx c = some { x with cru := k } ∧ k.stAt s.now = x.cru.stAt s.now ∧ k.stAt (s.cycle + 48) = .clearing ∧
          k.freeze = false ∧ k.handle = x.cru.handle ∧ k.folding (s.cycle + 48) = []) ∧
        CtxsBut c s t ∧ OnlyObjs [] { s with ctxs := t.ctxs } t) ∧
      (x.cru.st = .clearing → Answers (.cruClear p) s fun t => OnlyObjs [] s t) ∧
      (x.cru.st = .opened → Answers (.cruFreeze p) s fun t =>
        (∃ k, t.ctx c = some { x with cru := k } ∧ k.stAt s.now = x.cru.stAt s.now ∧ k.stAt (s.cycle + 48) = .frozen ∧
          k.active = x.cru.active ∧ k.admitted = x.cru.admitted) ∧ CtxsBut c s t ∧
        OnlyObjs [] { s with ctxs := t.ctxs } t) ∧
      (x.cru.st = .clearing → Answers (.cruFreeze p) s fun t =>
        t.ctx c = some { x with cru := { x.cru with freeze := true } } ∧ CtxsBut c s t ∧
        OnlyObjs [] { s with ctxs := t.ctxs } t) ∧
      (x.cru.st = .frozen → (s.cN c O.CRU_TARGET = 0 ∨ x.cru.active ≠ [] ∨ x.cru.admitted < s.cN c O.CRU_TARGET) →
        Answers (.cruThaw p) s fun t =>
          (∃ k, t.ctx c = some { x with cru := k } ∧ k.stAt s.now = x.cru.stAt s.now ∧ k.stAt (s.cycle + 48) = .opened ∧
            k.active = x.cru.active ∧ k.admitted = x.cru.admitted) ∧ CtxsBut c s t ∧
          OnlyObjs [] { s with ctxs := t.ctxs } t) ∧
      (x.cru.st = .opened → Answers (.cruThaw p) s fun t => OnlyObjs [] s t) ∧
      ((x.cru.st = .clearing ∨ x.cru.st = .complete) → Answers (.cruThaw p) s fun t =>
        Rejected s t p O.CRU_CMD 2 .presentState) ∧
      (x.cru.st = .none → ∀ i, i = Instr.cruClear p ∨ i = .cruFreeze p ∨ i = .cruThaw p →
        Answers i s fun t => Rejected s t p O.CRU_CMD 2 .presentState)) ∧
  (∀ (s : State) (c : Nat) (x : Ctx), s.ctx c = some x →
      (∀ h b, x.cru.handle = some h → kvGet s.cruBufs h = some b → x.cru.st = .clearing →
        Answers (.cruClearDone c) s fun t =>
          t.ctx c = some { x with cru := { x.cru with st := if x.cru.freeze then .frozen else .opened, active := [],
                                                      admitted := 0, freeze := false, from_ := 0 } } ∧
          (∃ b', kvGet t.cruBufs h = some b' ∧ (∀ k, b'.elem k = { b with parts := b.parts.map fun _ => [] }.elem k) ∧
            b'.records = 0 ∧ b'.first = [] ∧ b'.last = b.last ∧ b'.gen = (s.cN c O.CRU_GEN + 1) % 2 ^ 32) ∧
          t.obj c O.CRU_RECORDS = 0 ∧ t.obj c O.CRU_OUTSIDE = 0 ∧
          (t.obj c O.CRU_GEN).toNat = ((s.obj c O.CRU_GEN).toNat + 1) % 2 ^ 32 ∧ CtxsBut c s t ∧
          OnlyObjs [objKey c O.CRU_RECORDS, objKey c O.CRU_OUTSIDE, objKey c O.CRU_GEN]
            { s with ctxs := t.ctxs, cruBufs := t.cruBufs } t) ∧
      (∀ checks, (x.cru.folding s.now).find? CruRec.ready = none →
        Answers (.cruRecordDone ⟨c, checks⟩) s fun t => OnlyObjs [] s t) ∧
      (∀ r checks, (x.cru.folding s.now).find? CruRec.ready = some r →
        (r.transition = true → s.cN c O.CRU_CAL_POLICY ≠ 0 → Answers (.cruRecordDone ⟨c, checks⟩) s fun t =>
          (∃ y, t.ctx c = some y ∧ y.cru.active = x.cru.active.erase r ∧ y.cru.admitted = x.cru.admitted - 1 ∧
            y.cru.sawTransition = decide (s.cN c O.CRU_CAL_POLICY = 2)) ∧
          (t.obj c O.CRU_SKIPPED).toNat = satN 32 ((s.obj c O.CRU_SKIPPED).toNat + 1) ∧
          bit (t.obj c O.CRU_STATUS) 1 = true ∧ CtxsBut c s t ∧
          OnlyObjs [objKey c O.CRU_SKIPPED, objKey c O.CRU_STATUS] { s with ctxs := t.ctxs } t) ∧
        (r.transition = false → x.cru.sawTransition = true → s.cN c O.CRU_CAL_POLICY = 2 → x.cru.st ≠ .clearing →
          Answers (.cruRecordDone ⟨c, checks⟩) s fun t =>
          (∃ y, t.ctx c = some y ∧ y.cru.active = x.cru.active.erase r ∧ y.cru.st = .clearing ∧
            y.cru.folding s.now = []) ∧
          (t.obj c O.CRU_SKIPPED).toNat = satN 32 ((s.obj c O.CRU_SKIPPED).toNat + 1) ∧
          bit (t.obj c O.CRU_STATUS) 1 = true ∧ CtxsBut c s t ∧
          OnlyObjs [objKey c O.CRU_SKIPPED, objKey c O.CRU_STATUS] { s with ctxs := t.ctxs } t) ∧
        (r.head = true → s.cN c O.CRU_PARTIAL = 0 → r.transition = false → x.cru.sawTransition = false →
          Answers (.cruRecordDone ⟨c, checks⟩) s fun t =>
          t.ctx c = some { x with cru := { x.cru with active := x.cru.active.erase r, admitted := x.cru.admitted - 1 } } ∧
          (t.obj c O.CRU_SKIPPED).toNat = satN 32 ((s.obj c O.CRU_SKIPPED).toNat + 1) ∧
          bit (t.obj c O.CRU_STATUS) 1 = true ∧ CtxsBut c s t ∧
          OnlyObjs [objKey c O.CRU_SKIPPED, objKey c O.CRU_STATUS] { s with ctxs := t.ctxs } t) ∧
        (∀ h b, x.cru.handle = some h → kvGet s.cruBufs h = some b → (r.head = false ∨ s.cN c O.CRU_PARTIAL ≠ 0) →
          (r.transition = false ∨ s.cN c O.CRU_CAL_POLICY = 0) → x.cru.sawTransition = false → checks = [] →
          (∀ u ∈ s.spillUnits h b r.items, s.poisoned u = false) → Answers (.cruRecordDone ⟨c, checks⟩) s fun t =>
          (∃ y, t.ctx c = some y ∧ y.cru.active = x.cru.active.erase r ∧ y.cru.admitted = x.cru.admitted) ∧
          (t.obj c O.CRU_RECORDS).toNat = ((s.obj c O.CRU_RECORDS).toNat + 1) % 2 ^ 32 ∧
          bit (t.obj c O.CRU_STATUS) 0 = true ∧
          (∃ b', kvGet t.cruBufs h = some b' ∧ b'.last = r.record ∧
            b'.parts = (r.items.foldl foldItem (b, {})).1.parts) ∧
          CtxsBut c s t ∧ t.mem = s.mem ∧ t.inputs = s.inputs)))

/-- O37. The arithmetic words: each takes its operands from SRCA, SRCB, IMM and AUX, writes DST and sets the flags R269 names;
a division by 0 gives 0 and D, a quotient R269 does not place is a free value (log 3) (R265, R268, R269). -/
def Obligations.ArithmeticWords : Prop :=
  ∀ (s : State) (d l c : Nat) (w : AWord) (x : Ctx) (r : ARec), r.holds w.cond.toNat = true →
    let a := r.reg w.srcA
    let b := r.reg w.srcB
    (s.Runs d l 0x08 w c x r → Answers (.wAdd d l w) s
      (RecordIs c x r { r.stepped.result w.dst (a + b) with v := over64 (a.toInt + b.toInt) } s)) ∧
    (s.Runs d l 0x09 w c x r → Answers (.wSub d l w) s
      (RecordIs c x r { r.stepped.result w.dst (a - b) with v := over64 (a.toInt - b.toInt) } s)) ∧
    (s.Runs d l 0x0A w c x r → Answers (.wMul d l w) s
      (RecordIs c x r { r.stepped.result w.dst (a * b) with v := over64 (a.toInt * b.toInt) } s)) ∧
    (s.Runs d l 0x0B w c x r →
      (b = 0 → Answers (.wDiv d l w) s (RecordIs c x r { r.stepped.result w.dst 0 with d := true } s)) ∧
      (b ≠ 0 → (a.toInt ≠ -(2 ^ 63) ∨ b.toInt ≠ -1) → Answers (.wDiv d l w) s
        (RecordIs c x r (r.stepped.result w.dst (ofI (a.toInt.tdiv b.toInt))) s)) ∧
      (b ≠ 0 → Answers (.wDiv d l w) s fun t => ∃ v, RecordIs c x r (r.stepped.result w.dst v) s t)) ∧
    (s.Runs d l 0x0C w c x r →
      (b = 0 → Answers (.wDivr d l w) s (RecordIs c x r { r.stepped.result w.dst 0 with d := true } s)) ∧
      (b ≠ 0 → Answers (.wDivr d l w) s fun t => ∃ v, RecordIs c x r (r.stepped.result w.dst v) s t) ∧
      (∀ q : Int, b ≠ 0 → -(2 ^ 63) ≤ q → q < 2 ^ 63 →
        (2 * (a.toInt - q * b.toInt).natAbs < b.toInt.natAbs ∨
          (2 * (a.toInt - q * b.toInt).natAbs = b.toInt.natAbs ∧ a.toInt.natAbs < (q * b.toInt).natAbs)) →
        Answers (.wDivr d l w) s (RecordIs c x r (r.stepped.result w.dst (ofI q)) s))) ∧
    (s.Runs d l 0x0D w c x r →
      (b = 0 → Answers (.wMuldiv d l w) s (RecordIs c x r { r.stepped.result w.dst 0 with d := true } s)) ∧
      (∀ q : Int, b ≠ 0 →
        (2 * (a.toInt * w.imm.toInt - q * b.toInt).natAbs < b.toInt.natAbs ∨
          (2 * (a.toInt * w.imm.toInt - q * b.toInt).natAbs = b.toInt.natAbs ∧
            (a.toInt * w.imm.toInt).natAbs < (q * b.toInt).natAbs)) →
        (q.natAbs < 2 ^ 63 → Answers (.wMuldiv d l w) s (RecordIs c x r (r.stepped.result w.dst (ofI q)) s)) ∧
        (2 ^ 63 ≤ q → Answers (.wMuldiv d l w) s
          (RecordIs c x r { r.stepped.result w.dst (ofI (2 ^ 63 - 1)) with v := true } s)) ∧
        (q ≤ -(2 ^ 63) → Answers (.wMuldiv d l w) s
          (RecordIs c x r { r.stepped.result w.dst (ofI (-(2 ^ 63 - 1))) with v := true } s)))) ∧
    (s.Runs d l 0x0E w c x r → Answers (.wAddi d l w) s (RecordIs c x r (r.stepped.result w.dst (a + w.imm)) s)) ∧
    (s.Runs d l 0x10 w c x r → Answers (.wShl d l w) s
      (RecordIs c x r (r.stepped.result w.dst (a <<< (w.aux.toNat % 64))) s)) ∧
    (s.Runs d l 0x11 w c x r → Answers (.wSar d l w) s
      (RecordIs c x r (r.stepped.result w.dst (a.sshiftRight (w.aux.toNat % 64))) s)) ∧
    (s.Runs d l 0x12 w c x r → Answers (.wAnd d l w) s (RecordIs c x r (r.stepped.result w.dst (a &&& b)) s)) ∧
    (s.Runs d l 0x13 w c x r → Answers (.wOr d l w) s (RecordIs c x r (r.stepped.result w.dst (a ||| b)) s)) ∧
    (s.Runs d l 0x14 w c x r → Answers (.wXor d l w) s (RecordIs c x r (r.stepped.result w.dst (a ^^^ b)) s)) ∧
    (s.Runs d l 0x15 w c x r → Answers (.wMin d l w) s
      (RecordIs c x r (r.stepped.result w.dst (if a.toInt ≤ b.toInt then a else b)) s)) ∧
    (s.Runs d l 0x16 w c x r → Answers (.wMax d l w) s
      (RecordIs c x r (r.stepped.result w.dst (if b.toInt ≤ a.toInt then a else b)) s)) ∧
    (s.Runs d l 0x17 w c x r →
      (a.toInt ≠ -(2 ^ 63) → Answers (.wAbs d l w) s
        (RecordIs c x r (r.stepped.result w.dst (ofI (if a.toInt < 0 then -a.toInt else a.toInt))) s)) ∧
      (a.toInt = -(2 ^ 63) → Answers (.wAbs d l w) s
        (RecordIs c x r { r.stepped.result w.dst (ofI (2 ^ 63 - 1)) with v := true } s))) ∧
    (s.Runs d l 0x18 w c x r → ∀ q : Nat, q * q ≤ a.toNat → a.toNat < (q + 1) * (q + 1) →
      Answers (.wSqrt d l w) s (RecordIs c x r (r.stepped.result w.dst (ofN q)) s)) ∧
    (s.Runs d l 0x20 w c x r → Answers (.wCmp d l w) s
      (RecordIs c x r { r.stepped with z := decide (a = b), n := decide (a.toInt < b.toInt) } s)) ∧
    (s.Runs d l 0x21 w c x r → Answers (.wCmpi d l w) s
      (RecordIs c x r { r.stepped with z := decide (a = w.imm), n := decide (a.toInt < w.imm.toInt) } s))

/-- O38. The other words: moves, special registers, jumps, bins, the events of pass 2 (none but the last without pass 2) and
block slots; a word whose condition fails only
steps, and the step limit or a word outside the program's own ends it with reason 6 (R247, R265 to R270). -/
def Obligations.ControlWords : Prop :=
  (∀ (s : State) (i : Instr) (d l op c : Nat) (w : AWord) (x : Ctx) (r : ARec), wordOf i = some (d, l, op, w) →
      s.Runs d l op w c x r → r.holds w.cond.toNat = false → Answers i s (RecordIs c x r r.stepped s)) ∧
  (∀ (s : State) (d l c : Nat) (w : AWord) (x : Ctx) (r : ARec), r.holds w.cond.toNat = true →
    let a := r.reg w.srcA
    let b := r.reg w.srcB
    let m := r.stepped
    (s.Runs d l 0x00 w c x r → Answers (.wNop d l w) s (RecordIs c x r m s)) ∧
    (s.Runs d l 0x01 w c x r → Answers (.wMov d l w) s (RecordIs c x r (m.setReg w.dst a) s)) ∧
    (s.Runs d l 0x02 w c x r → Answers (.wLdi d l w) s (RecordIs c x r (m.setReg w.dst w.imm) s)) ∧
    (s.Runs d l 0x03 w c x r →
      (r.stated w.aux.toNat = true → Answers (.wLds d l w) s
        (RecordIs c x r (m.setReg w.dst (s.special c r w.aux.toNat)) s)) ∧
      (r.stated w.aux.toNat = false → Answers (.wLds d l w) s fun t => ∃ v, RecordIs c x r (m.setReg w.dst v) s t)) ∧
    (s.Runs d l 0x04 w c x r →
      (w.aux = 0x10 → Answers (.wSts d l w) s (RecordIs c x r { m with lo := a } s)) ∧
      (w.aux = 0x11 → Answers (.wSts d l w) s (RecordIs c x r { m with mid := a } s)) ∧
      (w.aux = 0x12 → Answers (.wSts d l w) s (RecordIs c x r { m with hi := a } s))) ∧
    (s.Runs d l 0x28 w c x r → Answers (.wJmp d l w) s (RecordIs c x r { m with pc := w.target.toNat } s)) ∧
    (s.Runs d l 0x30 w c x r →
      (0 ≤ a.toInt → a.toInt ≤ 1023 → Answers (.wHcnt d l w) s (RecordIs c x r (m.setReg w.dst
        (ofN (((validItems r.items).map Prod.snd).countP fun v => decide (v / 64 + 512 = a.toInt)))) s)) ∧
      ((a.toInt < 0 ∨ 1023 < a.toInt) → Answers (.wHcnt d l w) s (RecordIs c x r (m.setReg w.dst 0) s))) ∧
    (s.Runs d l 0x31 w c x r →
      (a.toInt ≤ b.toInt → Answers (.wHmode d l w) s fun t => ∃ k : Int, a.toInt ≤ k ∧ k ≤ b.toInt ∧
        (∀ j, a.toInt ≤ j → j ≤ b.toInt → r.bin j ≤ r.bin k ∧
          (w.aux.getLsbD 0 = false → k < j → r.bin j < r.bin k) ∧
          (w.aux.getLsbD 0 = true → j < k → r.bin j < r.bin k)) ∧
        RecordIs c x r (m.setReg w.dst (ofI k)) s t) ∧
      (b.toInt < a.toInt → Answers (.wHmode d l w) s fun t => ∃ v, RecordIs c x r (m.setReg w.dst v) s t)) ∧
    (s.Runs d l 0x32 w c x r → Answers (.wHbin d l w) s
      (RecordIs c x r (m.setReg w.dst (ofI (max 0 (min 1023 (a.toInt / 64 + 512))))) s)) ∧
    (s.Runs d l 0x38 w c x r →
      (r.passes < 4 → r.long = false → Answers (.wPass2 d l w) s (RecordIs c x r { m with
        passes := r.passes + 1, e := false, ready := []
        coming := pass2Events r.pitem r.items r.lo.toInt r.mid.toInt r.hi.toInt } s)) ∧
      (r.passes < 4 → r.long = true → Answers (.wPass2 d l w) s (RecordIs c x r { m with
        passes := r.passes + 1, e := false, ready := [], coming := [{ dir := 2 }] } s)) ∧
      (4 ≤ r.passes → Answers (.wPass2 d l w) s (RecordIs c x r m s))) ∧
    (s.Runs d l 0x39 w c x r →
      (∀ ev q, r.ready = ev :: q → Answers (.wNextx d l w) s (RecordIs c x r { m with cur := ev, ready := q } s)) ∧
      (r.ready = [] → r.coming ≠ [] → Answers (.wNextx d l w) s (RecordIs c x r { m with waiting := true } s)) ∧
      (r.ready = [] → r.coming = [] → Answers (.wNextx d l w) s (RecordIs c x r { m with e := true } s))) ∧
    (s.Runs d l 0x3C w c x r → Answers (.wPut d l w) s
      (RecordIs c x r { m with out := r.out ++ [(w.aux.toNat, true, a)] } s)) ∧
    (s.Runs d l 0x3D w c x r → Answers (.wPutv d l w) s
      (RecordIs c x r { m with out := r.out ++ [(w.aux.toNat, false, ofN (w.imm.toNat % 256))] } s)) ∧
    (s.Runs d l 0x3F w c x r → Answers (.wEnd d l w) s
      (RecordIs c x r { m with ended := true, lanes := [], reason := 8, waiting := false } s))) ∧
  (∀ (s : State) (d l c : Nat) (x : Ctx) (r : ARec), s.laneRec d l = some (c, r) → s.ctx c = some x →
    (∀ ev q, r.coming = ev :: q → r.waiting = true → Answers (.pass2EventReady d l) s
      (RecordIs c x r { r with coming := q, cur := ev, waiting := false } s)) ∧
    (∀ ev q, r.coming = ev :: q → r.waiting = false → Answers (.pass2EventReady d l) s
      (RecordIs c x r { r with coming := q, ready := r.ready ++ [ev] } s)) ∧
    (r.waiting = false → (2 ^ 20 ≤ r.steps ∨ s.fetch r = none) → Answers (.assayStepLimit d l) s fun t =>
      t.ctx c = some { x with assays := x.assays.map fun q => if q.tm = r.tm then
        { r with ended := true, lanes := [], reason := 6, waiting := false } else q } ∧
      (t.obj c O.ASSAY_STEP_LIMIT).toNat = satN 32 ((s.obj c O.ASSAY_STEP_LIMIT).toNat + 1) ∧
      bit (t.obj c O.ASSAY_STATUS) 2 = true ∧ CtxsBut c s t ∧
      OnlyObjs [objKey c O.ASSAY_STEP_LIMIT, objKey c O.ASSAY_STATUS] { s with ctxs := t.ctxs } t))

/-- O39. Assay blocks and the store: the oldest record's block, once its program has ended, goes to its held segment and that
segment's entry of the assay table, and its slots to the LAST objects; a checked image loads and is named, a failing one
leaves its status, and the store in use, locked or busy aborts (R249, R251 to R253, R271 to R273, R560). -/
def Obligations.AssayBlocks : Prop :=
  (∀ (s : State) (c : Nat) (x : Ctx) (r : ARec) (rest : List ARec), s.ctx c = some x → x.assays = r :: rest →
    (r.ended = false → Answers (.assayBlockPublish c) s fun t => OnlyObjs [] s t) ∧
    (r.ended = true → s.held c r.seq = none → Answers (.assayBlockPublish c) s fun t =>
      t.ctx c = some { x with assays := rest } ∧ CtxsBut c s t ∧ OnlyObjs [] { s with ctxs := t.ctxs } t) ∧
    (∀ g, r.ended = true → s.held c r.seq = some g → Answers (.assayBlockPublish c) s fun t =>
      (∀ a, s.entryAddr c .assay g (64 * recordsOf r.slots) = some a → a % 64 = 0 →
        (recordsOf r.slots = 1 → s.lostUnit a = false → t.peekN a 64 = r.block c) ∧
        MemBut ((List.range (recordsOf r.slots)).map fun i => (a + 64 * i, 64)) s t) ∧
      t.ctx c = some { x with
        assays := rest
        table := x.table.map fun g => if g.seq = r.seq then { g with assay := r.block c } else g } ∧
      t.obj c O.ASSAY_LAST_HDR = ofN (r.header c 0) ∧ t.obj c O.ASSAY_LAST_SEQ = ofN r.seq ∧
      (∀ k, k < 28 → k < 7 * recordsOf r.slots → t.obj c (O.ASSAY_LAST_SLOT_k + k) = (r.slot k).2) ∧
      (∀ k, k < 28 → 7 * recordsOf r.slots ≤ k → t.obj c (O.ASSAY_LAST_SLOT_k + k) = 0) ∧
      (t.obj c O.ASSAY_WRITTEN).toNat = ((s.obj c O.ASSAY_WRITTEN).toNat + 1) % 2 ^ 64 ∧
      bit (t.obj c O.ASSAY_STATUS) 0 = true ∧ CtxsBut c s t ∧
      OnlyObjs ([objKey c O.ASSAY_LAST_HDR, objKey c O.ASSAY_LAST_SEQ, objKey c O.ASSAY_WRITTEN,
        objKey c O.ASSAY_STATUS] ++ (List.range 28).map fun k => objKey c (O.ASSAY_LAST_SLOT_k + k))
        { putEntry s c .assay g (64 * recordsOf r.slots) (r.block c) with ctxs := t.ctxs } t)) ∧
  (∀ (s : State) (p : Nat), Served s p → ownerOf p = s.steward →
    (s.ctxs.all (fun c => !c.2.bound || decide (s.cN c.1 O.ASSAY_PROGRAM < 32)) = true →
      bit (s.get O.SEC_LOCKS) 0 = false → s.astore.job = none →
      (imgCheck (s.blob 0 O.ASTORE_IMAGE) = none →
        (Answers (.astoreLoadImage p) s fun t =>
          t.astore = { s.astore with status := 1, job := some (1, s.blob 0 O.ASTORE_IMAGE) } ∧
          OnlyObjs [] { s with astore := t.astore } t) ∧
        (Answers (.astoreLoadAndStore p) s fun t =>
          t.astore = { s.astore with status := 1, job := some (2, s.blob 0 O.ASTORE_IMAGE) } ∧
          OnlyObjs [] { s with astore := t.astore } t)) ∧
      (∀ k, imgCheck (s.blob 0 O.ASTORE_IMAGE) = some k →
        ∀ i, i = Instr.astoreLoadImage p ∨ i = .astoreLoadAndStore p → Answers i s fun t =>
          t.astore = { s.astore with status := k } ∧ Aborted s t p O.ASTORE_LOAD 2 .incompatible ∧
          OnlyObjs (abortKeys p) { s with astore := t.astore } t) ∧
      (Answers (.astoreEmpty p) s fun t =>
        t.astore = { s.astore with status := 1, job := some (3, []) } ∧ OnlyObjs [] { s with astore := t.astore } t)) ∧
    ((bit (s.get O.SEC_LOCKS) 0 = true ∨ s.astore.job.isSome = true ∨
        ∃ q ∈ s.ctxs, q.2.bound = true ∧ 32 ≤ s.cN q.1 O.ASSAY_PROGRAM) →
      ∀ i, i = Instr.astoreLoadImage p ∨ i = .astoreLoadAndStore p ∨ i = .astoreEmpty p →
        Answers i s fun t => Rejected s t p O.ASTORE_LOAD 2 .presentState)) ∧
  (∀ (s : State) (v : Nat) (b : List Byte), s.astore.job = some (v, b) → Answers .astoreLoadDone s fun t =>
      t.astore.job = none ∧ t.num O.ATTEST_GEN = satN 32 (s.num O.ATTEST_GEN + 1) % 2 ^ 64 ∧
      (v = 3 → t.astore.words = [] ∧ t.astore.progs = [] ∧ t.astore.image = [] ∧ t.astore.version = 0 ∧
        t.astore.status = 8 ∧ t.astore.flash = none) ∧
      (v ≠ 3 → t.astore.words = (List.range (imgWords b)).map (imgWord b) ∧ t.astore.image = b ∧
        t.astore.status = 2 ∧ t.astore.flash = (if v = 2 then some b else s.astore.flash)) ∧
      OnlyObjs [objKey 0 O.ATTEST_GEN] { s with astore := t.astore } t)

/-- O40. The memory controllers: refreshes are postponed up to the limit and issued, idle channels enter and leave self-refresh,
retraining steps follow each other after 2 µs and behind a refresh, parity errors and stalls are counted and spare a
pseudo-channel, whose units stand each in a unit of its own of the reserve and read as before once they are copied, a write
that had not reached it among them, scrubbing waits for its pseudo-channel and walks the units, a takeover
keeps the content and an orphaned stack loses it (R288, R290, R292 to R306, R308). -/
def Obligations.MemoryControl : Prop :=
  (∀ (s : State) (d pc : Nat), s.served d = true → d < s.halves.length → pc < 16 →
      (s.stack (d / 2)).selfRefresh.contains (chanOf d pc) = false →
      ((s.half d).owed pc < s.num O.MEM_POSTPONE_MAX → Answers (.refreshDue d pc true) s fun t =>
        (t.half d).owed pc = (s.half d).owed pc + 1 ∧ (∀ q, q ≠ pc → (t.half d).owed q = (s.half d).owed q) ∧
        pc ∈ (t.half d).rtWaits ∧ (∀ e, e ≠ d → t.half e = s.half e) ∧
        t.num O.MEM_POSTPONED = (s.num O.MEM_POSTPONED + 1) % 2 ^ 64 ∧
        OnlyObjs [objKey 0 O.MEM_POSTPONED] { s with halves := t.halves } t) ∧
      (s.num O.MEM_POSTPONE_MAX ≤ (s.half d).owed pc → Answers (.refreshDue d pc true) s fun t =>
        (t.half d).owed pc = 0 ∧ (∀ q, q ≠ pc → (t.half d).owed q = (s.half d).owed q) ∧
        (∀ e, e ≠ d → t.half e = s.half e) ∧ OnlyObjs [] { s with halves := t.halves } t) ∧
      (Answers (.refreshDue d pc false) s fun t =>
        t.half d = { (s.half d).setWaits pc false with
          refreshAt := kvPut (s.half d).refreshAt (pc / 2) s.cycle } ∧ (∀ e, e ≠ d → t.half e = s.half e) ∧
        OnlyObjs [] { s with halves := t.halves } t) ∧
      ((s.half d).owed pc ≠ 0 → Answers (.postponedRefreshIssue d pc) s fun t =>
        (t.half d).owed pc + 1 = (s.half d).owed pc ∧ (∀ e, e ≠ d → t.half e = s.half e) ∧
        OnlyObjs [] { s with halves := t.halves } t)) ∧
  (∀ (s : State) (st ch : Nat), st < s.D / 2 → st < s.hbm.length → ch < 16 →
      (s.served (2 * st + ch / 8) = true → s.srAllowed = true → s.chanOwes st ch = false →
        s.chanBusy st ch = false → (s.stack st).selfRefresh.contains ch = false → Answers (.selfRefreshEntry st ch) s fun t =>
          (∀ k, k ∈ (t.stack st).selfRefresh ↔ k = ch ∨ k ∈ (s.stack st).selfRefresh) ∧
          (∀ e, e ≠ st → t.stack e = s.stack e) ∧ OnlyObjs [] { s with hbm := t.hbm } t) ∧
      (s.chanOwes st ch = true ∨ s.chanBusy st ch = true ∨ s.served (2 * st + ch / 8) = false →
        Answers (.selfRefreshEntry st ch) s fun t => OnlyObjs [] s t) ∧
      ((s.stack st).selfRefresh.contains ch = true → s.served (2 * st + ch / 8) = true →
        Answers (.selfRefreshExit st ch) s fun t =>
        t.stack st = { s.stack st with selfRefresh := (s.stack st).selfRefresh.erase ch } ∧
        (∀ e, e ≠ st → t.stack e = s.stack e) ∧
        OnlyObjs [] { holdSteps s (2 * st + ch / 8) (ch % 8) with hbm := t.hbm } t)) ∧
  (∀ (s : State) (d ch k : Nat), s.served d = true → d < s.halves.length → ch < 8 →
      (s.stack (d / 2)).selfRefresh.contains (8 * (d % 2) + ch) = false →
      (kvGet (s.half d).stepFrom ch).getD 0 ≤ s.now → kvGet (s.half d).refreshAt ch ≠ some s.cycle →
      (∀ r bad, (s.half d).retrain = some (ch, k, r) → (∀ pc ∈ bad, pc / 2 ≠ ch) →
        Answers (.retrainStep d ch bad) s fun t =>
          (t.half d).retrain = (if k + 1 < 32 then some (ch, k + 1, false) else none) ∧
          kvGet (t.half d).stepFrom ch = some (s.now + 80000) ∧ OnlyObjs [] { s with halves := t.halves } t) ∧
      (∀ bad, (s.half d).retrain = some (ch, k, false) → (∃ pc ∈ bad, pc / 2 = ch) →
        Answers (.retrainStep d ch bad) s fun t =>
          (t.half d).retrain = some (ch, k, true) ∧ kvGet (t.half d).stepFrom ch = some (s.now + 80000) ∧
          OnlyObjs [] { s with halves := t.halves } t) ∧
      (∀ bad, (s.half d).retrain = some (ch, k, true) → s.restarting = false →
        ((s.half d).spare = 0 → (s.half d).spared = none) → Answers (.retrainStep d ch bad) s fun t =>
          (t.half d).retrain = (if k + 1 < 32 then some (ch, k + 1, false) else none) ∧
          ∀ pc ∈ bad, pc / 2 = ch → (t.half d).spared = some pc ∨ pc ∈ (t.half d).failed) ∧
      ((s.half d).retrain = none → Answers (.retrainStep d ch []) s fun t =>
        (t.half d).retrain = some (ch, 1, false) ∧ kvGet (t.half d).stepFrom ch = some (s.now + 80000) ∧
        OnlyObjs [] { s with halves := t.halves } t)) ∧
  (∀ (s : State) (d ch : Nat) (bad : List Nat), s.mayStep d ch = true → d < s.halves.length →
      kvGet (s.half d).refreshAt ch = some s.cycle → Answers (.retrainStep d ch bad) s fun t =>
        (t.half d).retrain = (s.half d).retrain ∧ kvGet (t.half d).stepFrom ch = some (s.now + 80000) ∧
        OnlyObjs [] { s with halves := t.halves } t) ∧
  (∀ (s : State) (d ch : Nat) (bad : List Nat), s.now < (kvGet (s.half d).stepFrom ch).getD 0 →
      Answers (.retrainStep d ch bad) s fun t => OnlyObjs [] s t) ∧
  (∀ (s : State) (d pc : Nat), s.served d = true → d < s.halves.length → pc < 16 →
      (∀ w, Answers (.parityError d pc ⟨false, w⟩) s fun t =>
        t.num O.MEM_PARITY_COUNT = satN 32 (s.num O.MEM_PARITY_COUNT + 1) ∧ bit (t.get O.TARNISH) 8 = true ∧
        t.mem = s.mem ∧ t.halves = s.halves) ∧
      (Answers (.parityError d pc ⟨true, none⟩) s fun t =>
        t.num O.MEM_PARITY_COUNT = satN 32 (s.num O.MEM_PARITY_COUNT + 1) ∧ bit (t.get O.MEM_STATUS) 2 = true ∧
        t.mem = s.mem) ∧
      ((s.half d).spared ≠ some pc → pc ∉ (s.half d).failed →
        (s.restarting = false → (s.half d).spare = 0 → Answers (.stagingStall d ⟨pc, []⟩) s fun t =>
          t.half d = { s.half d with spare := 1, spared := some pc, copying := true } ∧
          bit (t.get O.MEM_STATUS) 6 = true ∧ bit (t.get O.MEM_STATUS) 3 = true ∧ bit (t.get O.TARNISH) 9 = true ∧
          t.mem = s.mem) ∧
        (s.restarting = false → (s.half d).spare = 0 → (s.half d).written = [] →
          (∀ q, (s.half d).queue.find? (fun r => r.pc == pc) = some q → Answers (.parityError d pc ⟨true, none⟩) s fun t =>
            (t.half d).spared = some pc ∧
            (t.half d).queue = (s.half d).queue.map fun r => if r = q then { r with onSpare := true } else r) ∧
          (∀ us, Answers (.stagingStall d ⟨pc, us⟩) s fun t =>
            (t.half d).spared = some pc ∧
            (∀ u ∈ us, unitPc u = pc → u < reserveUnit → u ∈ (t.half d).written) ∧
            ∀ o, o / 64 < reserveUnit → t.peek (capAddr d o) = s.peek (capAddr d o)) ∧
          (∀ u, unitPc u = pc → u < reserveUnit → Answers (.parityError d pc ⟨true, some u⟩) s fun t =>
            (t.half d).spared = some pc ∧ u ∈ (t.half d).written ∧
            ∀ o, o / 64 < reserveUnit → t.peek (capAddr d o) = s.peek (capAddr d o))) ∧
        (s.restarting = false → (s.half d).spare ≠ 0 → Answers (.stagingStall d ⟨pc, []⟩) s fun t =>
          t.half d = { s.half d with spare := 3, failed := pc :: (s.half d).failed } ∧
          bit (t.get O.MEM_STATUS) 6 = true ∧ bit (t.get O.TARNISH) 9 = true ∧ t.mem = s.mem) ∧
        (s.restarting = true → Answers (.stagingStall d ⟨pc, []⟩) s fun t =>
          t.deferred = s.deferred ++ [.stagingStall d ⟨pc, []⟩] ∧ t.halves = s.halves ∧ t.mem = s.mem))) ∧
  (∀ (s : State) (d : Nat), d < s.halves.length → (s.half d).copying = true → s.served d = true →
      (Answers (.spareCopyDone ⟨d, []⟩) s fun t =>
        t.half d = { s.half d with
          copying := false, written := [], spare := if (s.half d).spare = 1 then 2 else (s.half d).spare } ∧
        (Memory.wf s.mem = true → (∀ f, (s.half d).spared = some f → f < 16) →
          ∀ o, o / 64 < reserveUnit → t.peek (capAddr d o) = s.peek (capAddr d o)) ∧
        OnlyObjs [] { s with halves := t.halves, mem := t.mem } t) ∧
      (∀ u, (s.half d).redirects u = true → (s.half d).uncopied u = true → (s.half d).poison.length < 4096 →
        Answers (.spareCopyDone ⟨d, [(u, .failed)]⟩) s fun t =>
          u ∈ (t.half d).poison ∧ (t.half d).copying = false ∧
          t.num O.MEM_UE_COUNT = satN 32 (s.num O.MEM_UE_COUNT + 1) ∧ bit (t.get O.MEM_STATUS) 1 = true)) ∧
  (∀ (h : HalfCtl) (f u : Nat), h.spared = some f → f < 16 → unitPc u = f → u < reserveUnit →
      reserveUnit ≤ h.writeUnit u ∧ h.writeUnit u < unitsOfHalf ∧ unitPc (h.writeUnit u) ≠ f ∧
        spareSource f (h.writeUnit u) = some u) ∧
  (∀ (s : State) (p d pc : Nat), Served s p → d < s.D → d < s.halves.length → pc < 16 →
      (ownerOf p = s.steward → (s.half d).spare = 0 → (s.die d).st ≠ .off → (s.die d).st ≠ .lost →
        s.restarting = false → (s.half d).spared ≠ some pc → pc ∉ (s.half d).failed →
        Answers (.memSpareCmd p (ofN (d * 16 + pc))) s fun t =>
          t.half d = { s.half d with spare := 1, spared := some pc, copying := true } ∧
          bit (t.get O.MEM_STATUS) 3 = true ∧ bit (t.get O.TARNISH) 9 = true ∧ t.mem = s.mem) ∧
      (ownerOf p = s.steward → (s.half d).spare ≠ 0 → Answers (.memSpareCmd p (ofN (d * 16 + pc))) s fun t =>
        Rejected s t p O.MEM_SPARE_CMD 2 .presentState) ∧
      (ownerOf p ≠ s.steward → Answers (.memSpareCmd p (ofN (d * 16 + pc))) s fun t =>
        Rejected s t p O.MEM_SPARE_CMD 2 .noPermission)) ∧
  (∀ (s : State) (d : Nat), s.served d = true → d < s.halves.length → s.working = true → s.num O.MEM_SCRUB_ENABLE = 1 →
      (s.half d).scrub + 1 < unitsOfHalf →
      ((s.half d).queuesEmpty (unitPc (s.physUnit d (s.half d).scrub)) = true →
        (Answers (.scrubRead d .clean) s fun t =>
          (t.half d).scrub = (s.half d).scrub + 1 ∧ (t.half d).scrubAt = none ∧
          (∀ e, e ≠ d → t.half e = s.half e) ∧ OnlyObjs [] { s with halves := t.halves, hbm := t.hbm } t) ∧
        (Answers (.scrubRead d .corrected) s fun t =>
          (t.half d).scrub = (s.half d).scrub + 1 ∧ (t.half d).scrubAt = none ∧
          t.num O.MEM_CE_COUNT = (s.num O.MEM_CE_COUNT + 1) % 2 ^ 64 ∧ bit (t.get O.MEM_STATUS) 0 = true ∧
          bit (t.get O.TARNISH) 6 = true ∧ t.mem = s.mem) ∧
        ((s.half d).poison.length < 4096 → Answers (.scrubRead d .failed) s fun t =>
          (t.half d).scrub = (s.half d).scrub + 1 ∧ (s.half d).scrub ∈ (t.half d).poison ∧
          t.num O.MEM_UE_COUNT = satN 32 (s.num O.MEM_UE_COUNT + 1) ∧ bit (t.get O.MEM_STATUS) 1 = true ∧
          bit (t.get O.TARNISH) 7 = true ∧ t.mem = s.mem)) ∧
      ((s.half d).queuesEmpty (unitPc (s.physUnit d (s.half d).scrub)) = false →
        s.agedAt ((s.half d).scrubAt.getD s.now) 10000 = false → ∀ e, Answers (.scrubRead d e) s fun t =>
          t.half d = { s.half d with scrubAt := some ((s.half d).scrubAt.getD s.now) } ∧
          OnlyObjs [] { s with halves := t.halves } t)) ∧
  (∀ (s : State) (d o : Nat), d < s.D → d < s.dies.length → d / 2 < s.hbm.length → (s.stack (d / 2)).st = 2 →
      o = (if d % 2 = 0 then d + 1 else d - 1) →
      ((s.die o).st ≠ .lost → (s.die o).st ≠ .off → Answers (.memTakeover d) s fun t =>
        (t.stack (d / 2)).st = 3 ∧ (t.die d).silentAt = some (s.now - 160000) ∧ (t.die d).fillDue = none ∧ bit (t.get O.MEM_STATUS) 4 = true ∧
        bit (t.get O.TARNISH) 10 = true ∧ ((s.die d).fillDue = none → t.mem = s.mem)) ∧
      (((s.die o).st = .lost ∨ (s.die o).st = .off) → Answers (.memTakeover d) s fun t =>
        (t.stack (d / 2)).st = 4 ∧ (t.stack (d / 2)).selfRefresh = [] ∧
        (∀ a, (a < capAddr (2 * (d / 2)) 0 ∨ capAddr (2 * (d / 2) + 2) 0 ≤ a) →
          Memory.read t.mem a = Memory.read s.mem a) ∧
        (∀ a, capAddr (2 * (d / 2)) 0 ≤ a → a < capAddr (2 * (d / 2) + 2) 0 → Memory.read t.mem a = 0) ∧
        OnlyObjs [] { s with mem := t.mem, hbm := t.hbm } t))

/-- O41. CXL.mem and the burst apertures: reads are taken under the decoder and the extents in force, wait in the queue of their
pseudo-channel and complete in its turn, on the spare reserve where a failed replay sent them there, a failed check poisons the
unit, a write changes the bytes its mask names and no other, what no decoder or extent reaches is dropped, and aperture
accesses answer R320, others an Unsupported Request (R283, R288, R295, R296, R298, R320, R321, R443 to R445). -/
def Obligations.CxlMemory : Prop :=
  (∀ (s : State) (l hpa : Nat), l < 16 → l < s.lds.length →
      ((s.ld l).st = .enabled →
        let a := (s.hpaMap l (hpa / 64 * 64)).map Prod.fst
        Answers (.cxlmemRead l hpa) s fun t =>
          t.ld l = { s.ld l with
            reads := (s.ld l).reads ++ [hpa / 64 * 64], readsAddr := (s.ld l).readsAddr ++ [a]
            readsReq := (s.ld l).readsReq ++ [s.readReq l a] } ∧
          (∀ d r, s.readReq l a = some (d, r) → d < s.halves.length →
            (t.half d).queue = (s.half d).queue ++ [r]) ∧
          OnlyObjs [] { s with lds := t.lds, halves := t.halves } t) ∧
      ((s.ld l).st = .disabling → Answers (.cxlmemRead l hpa) s fun t =>
        .completion l (List.replicate 64 0xFF#8) true ∈ t.sent ∧ OnlyObjs [] s t) ∧
      ((s.ld l).st = .allocated ∨ (s.ld l).st = .unallocated → Answers (.cxlmemRead l hpa) s fun t => OnlyObjs [] s t)) ∧
  (∀ (s : State) (l r : Nat) (rs : List Nat) (a : Option Nat) (as : List (Option Nat)) (q : Option (Nat × MemReq))
      (qs : List (Option (Nat × MemReq))), l < 16 → l < s.lds.length → (s.ld l).reads = r :: rs →
      (s.ld l).readsAddr = a :: as → (s.ld l).readsReq = q :: qs →
      (∀ x c, a = some x → s.resolve x = some (c, false) → (∀ d y, q = some (d, y) → s.bulkTurn d y = true) →
        (s.poisoned c = false → (∀ d y, q = some (d, y) → y.onSpare = false) →
          Answers (.cxlmemReadComplete l .clean) s fun t =>
            .completion l (s.peekN c 64) false ∈ t.sent ∧ (t.ld l).reads = rs ∧ (t.ld l).readsAddr = as ∧
            (t.ld l).readsReq = qs ∧ OnlyObjs [] { s with lds := t.lds, halves := t.halves, hbm := t.hbm } t) ∧
        (∀ d y, s.poisoned c = false → q = some (d, y) → y.onSpare = true →
          Answers (.cxlmemReadComplete l .clean) s fun t =>
            .completion l (Memory.readN s.mem (capAddr (c / halfBytes)
              ((s.half (c / halfBytes)).writeUnit (c % halfBytes / 64) * 64)) 64) false ∈ t.sent ∧
            (t.ld l).reads = rs ∧ OnlyObjs [] { s with lds := t.lds, halves := t.halves, hbm := t.hbm } t) ∧
        (s.served (c / halfBytes) = true → c / halfBytes < s.halves.length →
          (s.half (c / halfBytes)).poison.length < 4096 → Answers (.cxlmemReadComplete l .failed) s fun t =>
            (∃ bs, .completion l bs true ∈ t.sent) ∧ (t.ld l).reads = rs ∧
            c % halfBytes / 64 ∈ (t.half (c / halfBytes)).poison ∧
            t.num (O.LD_POISON_READS_l + l) = satN 32 (s.num (O.LD_POISON_READS_l + l) + 1) ∧ t.mem = s.mem)) ∧
      (a = none → (∀ d y, q = some (d, y) → s.bulkTurn d y = true) → ∀ e, Answers (.cxlmemReadComplete l e) s fun t =>
          .completion l (List.replicate 64 0xFF#8) true ∈ t.sent ∧ (t.ld l).reads = rs ∧
          t.num (O.LD_POISON_READS_l + l) = satN 32 (s.num (O.LD_POISON_READS_l + l) + 1) ∧
          OnlyObjs [objKey 0 (O.LD_POISON_READS_l + l)] { s with lds := t.lds, halves := t.halves } t) ∧
      (∀ d y e, q = some (d, y) → s.bulkTurn d y = false → Answers (.cxlmemReadComplete l e) s fun t =>
          OnlyObjs [] s t)) ∧
  (∀ (s : State) (l hpa : Nat) (mask : List Bool) (data : List Byte) (e : Ecc), l < 16 → (s.ld l).st = .enabled →
      data.length = 64 → mask.length = 64 →
      (∀ c, s.hpaMap l (hpa / 64 * 64) = some (c, true) → s.inHalf c = true → c % 64 = 0 → s.lostUnit c = false →
        (mask.all id = true ∨ (s.poisoned c = false ∧ e = .clean)) → Answers (.cxlmemWrite l hpa mask ⟨data, e⟩) s fun t =>
          (∀ i, i < 64 → t.peek (c + i) = if mask.getD i false then data.getD i 0 else s.peek (c + i)) ∧
          (∀ a, a < t.phys c ∨ t.phys c + 64 ≤ a → Memory.read t.mem a = Memory.read s.mem a) ∧
          OnlyObjs [] { s with mem := t.mem, halves := t.halves, hbm := t.hbm } t) ∧
      (∀ c, s.hpaMap l (hpa / 64 * 64) = some (c, true) → s.inHalf c = true → mask.all id = false →
        (s.poisoned c = true → e = .clean → Answers (.cxlmemWrite l hpa mask ⟨data, e⟩) s fun t =>
          t.num (O.LD_WRITE_DROPS_l + l) = satN 32 (s.num (O.LD_WRITE_DROPS_l + l) + 1) ∧
          OnlyObjs [objKey 0 (O.LD_WRITE_DROPS_l + l)] { s with halves := t.halves, hbm := t.hbm } t) ∧
        (e = .failed → Answers (.cxlmemWrite l hpa mask ⟨data, e⟩) s fun t =>
          t.num (O.LD_WRITE_DROPS_l + l) = satN 32 (s.num (O.LD_WRITE_DROPS_l + l) + 1) ∧ t.mem = s.mem)) ∧
      ((∀ c, s.hpaMap l (hpa / 64 * 64) ≠ some (c, true)) → Answers (.cxlmemWrite l hpa mask ⟨data, e⟩) s fun t =>
        t.num (O.LD_WRITE_DROPS_l + l) = satN 32 (s.num (O.LD_WRITE_DROPS_l + l) + 1) ∧
        OnlyObjs [objKey 0 (O.LD_WRITE_DROPS_l + l)] s t)) ∧
  (∀ (s : State) (l off n : Nat) (k : Bool), l < 16 → Served s l → apertureOk off n = true →
      (kvGet s.ports (dpId l (s.selected l) k).key = none → ∀ es, Answers (.apertureRead l ⟨k, es⟩ off n) s fun t =>
        .completion l (List.replicate n 0xFF#8) false ∈ t.sent ∧ OnlyObjs [] s t) ∧
      (∀ x, k = false → kvGet s.ports l = some x → s.dpStop l (s.selected l) (dpId l (s.selected l) false) x n = none →
        (∀ i, i < (s.obj l O.DP_LENGTH).toNat → (s.dpByte l (s.selected l) x i).2 = false) →
        (∀ i, ∀ a ∈ s.dpAddrs (s.selected l) x i, (s.resolve (a / 64 * 64)).isSome = true) →
        let o := (s.obj l O.DP_OFFSET).toNat
        let m := (s.obj l O.DP_LENGTH).toNat
        Answers (.apertureRead l ⟨false, []⟩ off n) s fun t =>
          (∃ bs, .completion l bs false ∈ t.sent ∧ bs.length = n ∧
            ∀ i, i < n → bs[i]? = some (if o + i < m then (s.dpByte l (s.selected l) x (o + i)).1 else 0)) ∧
          (t.obj l O.DP_OFFSET).toNat = min (o + n) m % 2 ^ 64 ∧
          OnlyObjs [objKey l O.DP_OFFSET, objKey l O.DP_STATUS] { s with halves := t.halves, hbm := t.hbm } t) ∧
      (∀ x data, k = false → kvGet s.ports l = some x → 4 ≤ x.target →
        s.dpStop l (s.selected l) (dpId l (s.selected l) false) x data.length = none → data.length = n →
        Answers (.apertureWrite l false off data) s fun t =>
          bit (t.obj l O.DP_STATUS) 3 = true ∧ OnlyObjs [objKey l O.DP_STATUS] s t)) ∧
  (∀ (s : State) (l off n : Nat) (k : Bool) (data : List Byte), data.length = n →
      (l < 16 → s.serves l = true → (off % 8 ≠ 0 ∨ n % 8 ≠ 0 ∨ n < 8 ∨ 512 < n) →
        (∀ es, Answers (.apertureRead l ⟨k, es⟩ off n) s fun t => .unsupported l ∈ t.sent ∧ OnlyObjs [] s t) ∧
        (Answers (.apertureWrite l k off data) s fun t => .unsupported l ∈ t.sent ∧ OnlyObjs [] s t)) ∧
      (s.serves l = false →
        (∀ es, Answers (.apertureRead l ⟨k, es⟩ off n) s fun t => OnlyObjs [] s t) ∧
        (Answers (.apertureWrite l k off data) s fun t => OnlyObjs [] s t)))

/-- O42. Data ports: an open checks its target and starts at offset 0, a close ends the port, reads and writes move the
cursor, and a write changes the eight bytes at the cursor and no other (R315, R316, R318, R319, R322, R343). -/
def Obligations.DataPorts : Prop :=
  (∀ (s : State) (p : Nat) (k : Bool), Served s p →
      let c := s.selected p
      let q := dpId p c k
      (k = true → ownerOf p = s.ctxOwner c) →
      (kvGet s.ports q.key = none →
        (s.dpErrs p c q k = [] → Answers (.dpOpen p k) s fun t =>
          kvGet t.ports q.key = some (s.dpTarget p c q).2 ∧ t.obj q.inst (q.base + dpErr) = 0 ∧
          t.obj q.inst (q.base + dpOffset) = 0 ∧ t.obj q.inst (q.base + dpLength) = ofN (s.dpTarget p c q).1 ∧
          t.obj q.inst (q.base + dpPoison) = 0xFFFFFFFFFFFFFFFF ∧ (∀ j, j ≠ q.key → kvGet t.ports j = kvGet s.ports j) ∧
          OnlyObjs [objKey q.inst (q.base + dpErr), objKey q.inst (q.base + dpOffset), objKey q.inst (q.base + dpLength),
            objKey q.inst (q.base + dpPoison)] { s with ports := t.ports } t) ∧
        (∀ e es, s.dpErrs p c q k = e :: es → Answers (.dpOpen p k) s fun t =>
          t.obj q.inst (q.base + dpErr) = ofN e ∧ Aborted s t p (q.base + 1) 2 (dpAbort e) ∧
          OnlyObjs (objKey q.inst (q.base + dpErr) :: abortKeys p) s t) ∧
        (Answers (.dpClose p k) s fun t => OnlyObjs [] s t) ∧
        (∀ v, Answers (.dpDataWrite p k v) s fun t => Rejected s t p (q.base + 7) 2 .presentState) ∧
        (∀ es, Answers (.dpDataRead p ⟨k, es⟩) s fun t =>
          (t.path p).resp = allOnes ∧ Aborted s t p (q.base + 7) 1 .presentState ∧
          OnlyObjs (abortKeys p) { s with paths := t.paths } t)) ∧
      (∀ x, kvGet s.ports q.key = some x → (x.target ≠ 1 ∨ x.wrote = false) → Answers (.dpClose p k) s fun t =>
        t.ports = kvDel s.ports q.key ∧ kvGet t.ports q.key = none ∧ OnlyObjs [] { s with ports := t.ports } t) ∧
      (∀ x v, kvGet s.ports q.key = some x → 4 ≤ x.target → s.dpStop p c q x 8 = none →
        Answers (.dpDataWrite p k v) s fun t => Rejected s t p (q.base + 7) 2 .notWritable)) ∧
  (∀ (s : State) (p : Nat) (k : Bool), Served s p → k = true → ownerOf p ≠ s.ctxOwner (s.selected p) →
      (Answers (.dpOpen p k) s fun t => Rejected s t p O.CDP_CMD 2 .noPermission) ∧
      (Answers (.dpClose p k) s fun t => Rejected s t p O.CDP_CMD 2 .noPermission)) ∧
  (∀ (s : State) (p : Nat) (x : Port), Served s p → kvGet s.ports p = some x →
      let c := s.selected p
      let o := (s.obj p O.DP_OFFSET).toNat
      let m := (s.obj p O.DP_LENGTH).toNat
      s.dpStop p c (dpId p c false) x 8 = none → o + 8 < m →
      ((∀ i, i < m → (s.dpByte p c x i).2 = false) →
        (∀ i, ∀ a ∈ s.dpAddrs c x i, (s.resolve (a / 64 * 64)).isSome = true) →
        Answers (.dpDataRead p ⟨false, []⟩) s fun t =>
          (t.path p).resp = ofN (leNat ((List.range 8).map fun i => (s.dpByte p c x (o + i)).1)) ∧
          t.obj p O.DP_OFFSET = ofN (o + 8) ∧
          OnlyObjs [objKey p O.DP_OFFSET] { s with paths := t.paths, halves := t.halves, hbm := t.hbm } t) ∧
      (∀ v a, x.target = 2 → (s.capWindow (ownerOf p) (x.select + o) 8 true).isSome = true →
        s.resolve (x.select + o) = some (a, false) → a % 64 ≤ 56 → s.lostUnit a = false →
        Answers (.dpDataWrite p false v) s fun t =>
          t.peekN a 8 = leBytes 8 v.toNat ∧
          (∀ b, b / 64 ≠ t.phys a / 64 → Memory.read t.mem b = Memory.read s.mem b) ∧
          (∀ b, b / 64 = a / 64 → (b < a ∨ a + 8 ≤ b) → t.peek b = s.peek b) ∧
          t.obj p O.DP_OFFSET = ofN (o + 8) ∧
          OnlyObjs [objKey p O.DP_OFFSET] { s with mem := t.mem, halves := t.halves, hbm := t.hbm } t) ∧
      (∀ v, x.target = 1 → x.write = true → Answers (.dpDataWrite p false v) s fun t =>
        kvGet t.ports p = some { x with staged := overlay x.staged o (leBytes 8 v.toNat), wrote := true } ∧
        t.obj p O.DP_OFFSET = ofN (o + 8) ∧ t.mem = s.mem ∧
        OnlyObjs [objKey p O.DP_OFFSET, objKey p O.DP_LENGTH] { s with ports := t.ports } t))

/-- O43. Mover channels: Claim, Start, Pause, Resume, Stop and Release move a channel between its states, a Stop or Release
accepted while a burst is in flight stays, no burst is issued during a power-down, requests and its timer give credits, a burst
moves its bytes and counts them, a bus error quenches the mover, and Resume repeats the burst that it abandoned (R325 to R335,
R337, R344). -/
def Obligations.Movers : Prop :=
  (∀ (s : State) (p x : Nat), Served s p → s.mvSel p = x →
      (s.chan x = none → s.moverLost x = false → Answers (.mvClaim p) s fun t =>
        t.chan x = some { owner := ownerOf p } ∧ (∀ y, y ≠ x → t.chan y = s.chan y) ∧
        (∀ k, (k / 256 = 0x2511 ∨ k / 256 = 0x2512) → t.obj x k = objDefault s.variant k) ∧
        t.mem = s.mem ∧ t.ctxs = s.ctxs) ∧
      ((s.chan x).isSome = true → Answers (.mvClaim p) s fun t => Rejected s t p O.MV_CH_CMD 2 .presentState)) ∧
  (∀ (s : State) (p x : Nat) (c : Chan), Served s p → s.mvSel p = x → s.chan x = some c → ownerOf p = c.owner →
      let i := (s.obj x O.MV_CH_FIRST).toNat
      ((c.st = .idle ∨ c.st = .failed) → s.moverLost x = false →
        (s.descErr x i = 0 → ((s.desc x i).req ≠ 0xFF ∨ s.get O.POWER_PHASE = 1 ∨ s.get O.POWER_PHASE = 3) →
          Answers (.mvStart p) s fun t =>
          t.chan x = some { c with
            st := .running, cur := i, done := 0, credits := 0, inFlight := false, after := none, byPower := false
            again := false, nextTick := s.now + (s.obj x O.MV_CH_TICK_NS).toNat * 40 } ∧
          (∀ y, y ≠ x → t.chan y = s.chan y) ∧ OnlyObjs [] { s with chans := t.chans } t) ∧
        (s.descErr x i ≠ 0 → Answers (.mvStart p) s fun t =>
          (∃ y, t.chan x = some y ∧ y.st = .failed ∧ y.owner = c.owner) ∧
          t.obj x O.MV_CH_ERR = ofN (s.descErr x i) ∧ bit (t.obj x O.MV_CH_STATUS) 1 = true ∧
          OnlyObjs [objKey x O.MV_CH_ERR, objKey x O.MV_CH_STATUS] { s with chans := t.chans } t)) ∧
      (c.st = .running → Answers (.mvPause p) s fun t =>
        t.chan x = some (if c.inFlight then { c with
            after := some (if c.after = some .free then .free else if c.after = some .idle then .idle else .parked)
            byPower := false }
          else { c with st := .parked, byPower := false, pausedIn := some (s.now / 48) }) ∧
        (∀ y, y ≠ x → t.chan y = s.chan y) ∧ OnlyObjs [] { s with chans := t.chans } t) ∧
      ((c.st = .parked ∨ c.st = .quenched) → c.credits = 0 → c.again = false → (s.desc x c.cur).req ≠ 0xFF →
        Answers (.mvResume p) s fun t =>
          t.chan x = some { c with st := .running, byPower := false } ∧
          (∀ y, y ≠ x → t.chan y = s.chan y) ∧ OnlyObjs [] { s with chans := t.chans } t) ∧
      (c.st = .quenched → c.again = true → c.inFlight = false → s.flying (moverOf x) < 8 →
        s.quenched.contains (moverOf x) = false → s.moverOn (moverOf x) = true →
        let d := s.desc x c.cur
        let n := min d.burst (d.len - c.done)
        d.sk ≠ 3 → s.descForm x d = 0 → s.sideErr x d d.sk (d.src + c.done) n true = 0 →
        s.sideErr x d d.dk (d.dst + c.done) n false = 0 → Answers (.mvResume p) s fun t =>
          t.chan x = some { c with st := .running, byPower := false, inFlight := true, again := false } ∧
          (∀ y, y ≠ x → t.chan y = s.chan y) ∧ OnlyObjs [] { s with chans := t.chans, mvLast := t.mvLast } t) ∧
      ((c.st = .running ∨ c.st = .parked ∨ c.st = .quenched ∨ c.st = .failed) → Answers (.mvStop p) s fun t =>
        t.chan x = some (if c.inFlight then { c with
            after := some (if c.after = some .free then .free else .idle), byPower := false }
          else { c with st := .idle, byPower := false, again := false, credits := 0, pausedIn := none }) ∧
        (∀ y, y ≠ x → t.chan y = s.chan y) ∧ OnlyObjs [] { s with chans := t.chans } t) ∧
      (c.st ≠ .free → c.inFlight = false → Answers (.mvRelease p) s fun t =>
        t.chan x = none ∧ (∀ y, y ≠ x → t.chan y = s.chan y) ∧ t.mem = s.mem ∧ t.ctxs = s.ctxs) ∧
      (c.st ≠ .free → c.inFlight = true → Answers (.mvRelease p) s fun t =>
        t.chan x = some { c with after := some .free } ∧ OnlyObjs [] { s with chans := t.chans } t) ∧
      (c.st ≠ .running → Answers (.mvPause p) s fun t => Rejected s t p O.MV_CH_CMD 2 .presentState)) ∧
  (∀ (s : State) (p x : Nat) (c : Chan), Served s p → s.mvSel p = x → s.chan x = some c → ownerOf p ≠ c.owner →
      ∀ i, i = Instr.mvStart p ∨ i = .mvPause p ∨ i = .mvResume p ∨ i = .mvStop p →
        Answers i s fun t => Rejected s t p O.MV_CH_CMD 2 .noPermission) ∧
  (∀ (s : State) (m line x : Nat) (c : Chan), line < 18 → s.chan x = some c → (line < 16 ∨ moverOf x = m) →
      (s.desc x c.cur).req = line → (c.st = .parked ∨ c.st = .quenched) → c.credits < 255 →
      kvGet s.pulsed (2 ^ 32 + line + (if line < 16 then 0 else 256 * m)) ≠ some (s.now / 48) →
      Answers (.mvRequestPulse m line) s fun t =>
        t.chan x = some { c with credits := c.credits + 1 } ∧ t.mem = s.mem ∧ t.dies = s.dies ∧ t.inputs = s.inputs) ∧
  (∀ (s : State) (x : Nat) (c : Chan), s.chan x = some c → (s.desc x c.cur).req ≠ 18 →
      Answers (.mvTimerTick x) s fun t =>
        t.chan x = some { c with nextTick := c.nextTick + (s.obj x O.MV_CH_TICK_NS).toNat * 40 } ∧
        (∀ y, y ≠ x → t.chan y = s.chan y) ∧ t.mem = s.mem ∧ t.ctxs = s.ctxs) ∧
  (∀ (s : State) (x : Nat) (c : Chan), s.chan x = some c → (s.desc x c.cur).req = 18 →
      (c.st = .parked ∨ c.st = .quenched) → c.credits < 255 → Answers (.mvTimerTick x) s fun t =>
        t.chan x = some { c with credits := c.credits + 1
                                 nextTick := c.nextTick + (s.obj x O.MV_CH_TICK_NS).toNat * 40 } ∧
        (∀ y, y ≠ x → t.chan y = s.chan y) ∧ t.mem = s.mem ∧ t.ctxs = s.ctxs) ∧
  (∀ (s : State) (m line : Nat), kvGet s.pulsed (2 ^ 32 + line + (if line < 16 then 0 else 256 * m)) = some (s.now / 48) →
      Answers (.mvRequestPulse m line) s fun t => OnlyObjs [] { s with reqLines := t.reqLines } t) ∧
  (∀ (s : State) (x : Nat) (c : Chan) (host : List Byte) (u : Option Nat), s.chan x = some c → c.inFlight = true →
      c.st = .running → c.after = none → c.credits = 0 → c.again = false →
      (∀ y b, y ≠ x → s.chan y = some b → b.st = .running → b.inFlight = true) →
      let d := s.desc x c.cur
      let n := min d.burst (d.len - c.done)
      let a := d.dst + c.done
      d.req ≠ 0xFF → d.sk = 1 → d.dk = 0 → c.done + n < d.len → a % 64 = 0 → n % 64 = 0 →
      (∀ i, i < n → s.inHalf (a + i) = true ∧ s.lostUnit (a + i) = false ∧ (a + i) % halfBytes / 64 < reserveUnit) →
      Answers (.mvBurstDone x ⟨host, [], u⟩) s fun t =>
        t.chan x = some { c with done := c.done + n, inFlight := false } ∧
        (t.obj x O.MV_CH_BYTES).toNat = ((s.obj x O.MV_CH_BYTES).toNat + n) % 2 ^ 64 ∧
        (∀ i, i < n → t.peek (a + i) = host.getD i 0) ∧
        (∀ b, (∀ i, i < n → b ≠ t.phys (a + i)) → Memory.read t.mem b = Memory.read s.mem b) ∧
        (∀ y, y ≠ x → t.chan y = s.chan y) ∧
        OnlyObjs [objKey x O.MV_CH_BYTES] { s with mem := t.mem, halves := t.halves, hbm := t.hbm, chans := t.chans } t) ∧
  (∀ (s : State) (m kind addr : Nat), m ≤ s.D → (∃ q ∈ s.chans, moverOf q.1 = m ∧ s.chan q.1 = some q.2 ∧ q.2.inFlight = true) →
      Answers (.mvBusError m kind addr) s fun t =>
        t.num (O.MV_QUENCHES_x + m) = satN 32 (s.num (O.MV_QUENCHES_x + m) + 1) ∧ m ∈ t.quenched ∧
        t.get (O.MV_QUENCH_CAUSE_x + m) = ofN (kind % 16 * 2 ^ 60 + addr % 2 ^ 60) ∧
        (∀ x c, s.chan x = some c → moverOf x = m → c.st = .running →
          ∃ y, t.chan x = some y ∧ y.st = .quenched ∧ y.inFlight = false ∧ y.again = (c.again || c.inFlight))) ∧
  (∀ (s : State) (m kind addr : Nat), (∀ q ∈ s.chans, moverOf q.1 = m → q.2.inFlight = false) →
      Answers (.mvBusError m kind addr) s fun t => OnlyObjs [] s t) ∧
  (∀ (s : State) (m : Nat), Answers (.mvQuenchRecovery m) s fun t =>
      t.quenched = s.quenched.filter (· ≠ m) ∧ t.mem = s.mem ∧ t.dies = s.dies ∧ t.inputs = s.inputs)

/-- O44. Routes and planishers: a route is claimed empty and released, a planisher is claimed Idle and started with a fresh
job, Finish, Continue, Abort, Release and the end of a job move its state, a code that does not decode to the input it stands
for stops the job with error 2, and other states abort (R338, R345, R351, R363, R365 to R373). -/
def Obligations.RoutesPlanishers : Prop :=
  (∀ (s : State) (p r : Nat), Served s p → s.evSel p = r →
      (kvGet s.routes r = none → Answers (.evClaim p) s fun t =>
        (∃ y, kvGet t.routes r = some y ∧ y.owner = ownerOf p ∧ y.enable = false ∧ y.source = 0 ∧ y.dest = 0) ∧
        OnlyObjs [] { s with routes := t.routes } t) ∧
      ((kvGet s.routes r).isSome = true → Answers (.evClaim p) s fun t => Rejected s t p O.EV_CMD 2 .presentState) ∧
      (∀ x, kvGet s.routes r = some x → (ownerOf p = x.owner ∨ ownerOf p = s.steward) → Answers (.evRelease p) s fun t =>
        kvGet t.routes r = none ∧ OnlyObjs [] { s with routes := kvDel s.routes r } t) ∧
      (∀ x, kvGet s.routes r = some x → ownerOf p ≠ x.owner → ownerOf p ≠ s.steward → Answers (.evRelease p) s fun t =>
        Rejected s t p O.EV_CMD 2 .noPermission)) ∧
  (∀ (s : State) (p x : Nat), Served s p → s.plSel p = x →
      (s.plan x = none → (x = 0 ∨ (s.die (x - 1)).st ≠ .lost) → Answers (.plClaim p) s fun t =>
        t.plan x = some { owner := ownerOf p } ∧ (∀ y, y ≠ x → t.plan y = s.plan y) ∧
        OnlyObjs [] { s with plans := t.plans } t) ∧
      ((s.plan x).isSome = true → Answers (.plClaim p) s fun t => Rejected s t p O.PL_CMD 2 .presentState) ∧
      (∀ q, s.plan x = some q → ownerOf p ≠ q.owner →
        ∀ i, i = Instr.plStart p ∨ i = .plFinish p ∨ i = .plContinue p ∨ i = .plAbort p →
          Answers i s fun t => Rejected s t p O.PL_CMD 2 .noPermission) ∧
      (∀ q, s.plan x = some q → ownerOf p = q.owner → q.lost = false →
        ((q.st = 1 ∨ q.st = 4) → s.plBit x 5 = false → (s.plBit x 1 = false ∨ s.plBit x 2 = false) →
          Answers (.plStart p) s fun t =>
            t.plan x = some { q with st := 2, job := startJob s x } ∧ t.obj x O.PL_ERR = 0 ∧
            t.obj x O.PL_OUT_HANDLE = ofN (q.buf.getD 0xFFFFFFFF) ∧ (∀ y, y ≠ x → t.plan y = s.plan y) ∧
            OnlyObjs [objKey x O.PL_ERR, objKey x O.PL_OUT_HANDLE] { s with plans := t.plans } t) ∧
        ((q.st = 1 ∨ q.st = 4) → s.plBit x 1 = true → s.plBit x 2 = true → Answers (.plStart p) s fun t =>
          t.obj x O.PL_ERR = 9 ∧ Aborted s t p O.PL_CMD 2 .incompatible ∧
          OnlyObjs (objKey x O.PL_ERR :: abortKeys p) s t) ∧
        ((q.st = 2 ∨ q.st = 3) → Answers (.plFinish p) s fun t =>
          t.plan x = some { q with job := { q.job with finish := true } } ∧
          (∀ y, y ≠ x → t.plan y = s.plan y) ∧ OnlyObjs [] { s with plans := t.plans } t) ∧
        (∀ j, q.st = 3 → s.plBit x 5 = false → q.job.resume (s.obj x O.PL_OUT_LIMIT).toNat = j →
          (j.err = 2 → q.job.err = 2) → Answers (.plContinue p) s fun t =>
          t.plan x = some { q with job := j, st := if j.err ≠ 0 then 5 else if j.full then 3 else 2 } ∧
          (∀ y, y ≠ x → t.plan y = s.plan y) ∧
          OnlyObjs [objKey x O.PL_STATUS, objKey x O.PL_ERR] { s with plans := t.plans } t) ∧
        ((q.st = 2 ∨ q.st = 3 ∨ q.st = 5) → Answers (.plAbort p) s fun t =>
          t.plan x = some { q with st := 1, job := q.job.dropped } ∧ (∀ y, y ≠ x → t.plan y = s.plan y) ∧
          OnlyObjs [] { s with plans := t.plans } t) ∧
        ((q.st = 1 ∨ q.st = 4 ∨ q.st = 5) → q.buf = none → Answers (.plRelease p) s fun t =>
          t.plan x = none ∧ t.obj x O.PL_OUT_HANDLE = 0xFFFFFFFF ∧ (∀ y, y ≠ x → t.plan y = s.plan y) ∧
          OnlyObjs [objKey x O.PL_OUT_HANDLE] { s with plans := t.plans } t) ∧
        (q.st ≠ 3 → Answers (.plContinue p) s fun t => Rejected s t p O.PL_CMD 2 .presentState))) ∧
  (∀ (s : State) (x : Nat) (q : Plan) (j : Job), s.plan x = some q → q.st = 2 → q.job.finish = true →
      s.plBit x 5 = false → q.job.conclude = j →
      ((j.err = 2 → q.job.err = 2) → Answers (.plJobDone x) s fun t =>
        t.plan x = some { q with job := j, st := if j.err ≠ 0 then 5 else if j.full then 3 else 4 } ∧
        (j.err = 0 → j.full = false → bit (t.obj x O.PL_STATUS) 0 = true) ∧
        (j.err ≠ 0 → t.obj x O.PL_ERR = ofN j.err ∧ bit (t.obj x O.PL_STATUS) 2 = true) ∧
        (∀ y, y ≠ x → t.plan y = s.plan y) ∧
        OnlyObjs [objKey x O.PL_STATUS, objKey x O.PL_ERR] { s with plans := t.plans } t) ∧
      (j.err = 2 → q.job.err ≠ 2 → Answers (.plJobDone x) s fun t =>
        t.plan x = some { q with job := j, st := 5 } ∧ t.obj x O.PL_ERR = 2 ∧ bit (t.obj x O.PL_STATUS) 2 = true ∧
        (t.obj x O.PL_VERIFY_FAILS).toNat = satN 32 ((s.obj x O.PL_VERIFY_FAILS).toNat + 1) ∧
        bit (t.get O.TARNISH) 25 = true ∧ t.mem = s.mem)) ∧
  (∀ (j : Job) (x : Nat) (ss : List Nat), j.err = 0 → j.upset = none → x ≠ j.clear → x ≠ j.endCode →
      if j.decodes j.ver x = some ss then
        (j.emit x (some ss)).err = 0 ∧ (j.emit x (some ss)).inSyms = j.inSyms + ss.length
      else (j.emit x (some ss)).err = 2 ∧ (j.emit x (some ss)).out = j.out) ∧
  (∀ (s : State) (x : Nat) (q : Plan), s.plan x = some q → (q.st ≠ 2 ∨ q.job.finish = false) →
      Answers (.plJobDone x) s fun t => OnlyObjs [] s t)

/-- O45. The raster engine: Start and Stop, lines and frames with their counters and CRC, commits of the writer's layers,
the coverage planes of vector layers, which take the pixels their lines cover, claims and releases of layers, raster buffers,
and the outputs (R379 to R382, R386, R391 to R400, R404). -/
def Obligations.RasterEngine : Prop :=
  (∀ (s : State) (p : Nat), Served s p → ownerOf p = s.steward →
      (s.raster.st = 0 → s.startErr = 0 → Answers (.rasterStart p) s fun t =>
        t.raster = { s.raster with
          st := if s.dev = .watch then 2 else 1, stopping := false, begun := false, rows := [], done := true
          bg := s.num O.RASTER_BG, commitLine := s.num O.RASTER_COMMIT_LINE
          outs := s.raster.outs.map fun o => { o with trained := none, narrow := false } } ∧
        t.obj p O.RASTER_ERR = 0 ∧
        OnlyObjs [objKey p O.RASTER_ERR, objKey 0 O.RASTER_TOLERANCE_NS, objKey 0 O.MEM_RT_TOLERANCE_NS]
          { s with raster := t.raster } t) ∧
      (s.raster.st = 0 → s.startErr ≠ 0 → Answers (.rasterStart p) s fun t =>
        t.obj p O.RASTER_ERR = ofN s.startErr ∧ Aborted s t p O.RASTER_CMD 2 (rasterAbort s.startErr) ∧
        OnlyObjs (objKey p O.RASTER_ERR :: abortKeys p) s t) ∧
      (s.raster.st ≠ 0 → Answers (.rasterStart p) s fun t => OnlyObjs [] s t) ∧
      (s.raster.st = 1 → Answers (.rasterStop p) s fun t =>
        t.raster = { s.raster with stopping := true } ∧ OnlyObjs [] { s with raster := t.raster } t) ∧
      (s.raster.st = 2 → Answers (.rasterStop p) s fun t =>
        t.raster.st = 0 ∧ t.raster.begun = false ∧ t.mem = s.mem ∧ t.ctxs = s.ctxs) ∧
      (s.raster.st = 0 → Answers (.rasterStop p) s fun t => OnlyObjs [] s t)) ∧
  (∀ (s : State) (p : Nat), Served s p → ownerOf p ≠ s.steward →
      ∀ i, i = Instr.rasterStart p ∨ i = .rasterStop p → Answers i s fun t => Rejected s t p O.RASTER_CMD 2 .noPermission) ∧
  (∀ (s : State) (m : List (Nat × Nat)) (es : List Ecc) (l : Nat), s.raster.st = 1 → s.running = true →
      (s.raster.begun = true → l = (s.raster.line + 1) % s.timing.vt → l ≠ 0 → Answers (.rasterLineStart ⟨m, es⟩) s fun t =>
        t.raster.line = l ∧ t.raster.begun = true ∧ t.raster.st = 1 ∧
        t.num O.RASTER_FRAME = s.num O.RASTER_FRAME ∧ t.mem = s.mem ∧ t.ctxs = s.ctxs) ∧
      (s.raster.begun = true → (s.raster.line + 1) % s.timing.vt = 0 → s.raster.stopping = false →
        Answers (.rasterLineStart ⟨m, es⟩) s fun t =>
          t.raster.line = 0 ∧ t.raster.begun = true ∧ t.raster.done = false ∧
          t.num O.RASTER_FRAME = (s.num O.RASTER_FRAME + 1) % 2 ^ 32 ∧ t.get O.RASTER_FRAME_TM = ofN (s.cycle % 2 ^ 55 * 512) ∧
          t.mem = s.mem ∧ t.ctxs = s.ctxs) ∧
      (s.raster.begun = true → (s.raster.line + 1) % s.timing.vt = 0 → s.raster.stopping = true →
        Answers (.rasterLineStart ⟨m, es⟩) s fun t =>
          t.raster.st = 0 ∧ t.raster.begun = false ∧ t.raster.stopping = false ∧ t.mem = s.mem ∧ t.ctxs = s.ctxs)) ∧
  (∀ s : State, s.raster.st = 1 → s.raster.begun = true → s.raster.done = false →
      s.timing.va ≤ s.raster.line + 1 → Answers .rasterFrameDone s fun t =>
        t.get O.RASTER_CRC_EXPECTED = ofN (~~~ s.raster.crc).toNat ∧ bit (t.get O.RASTER_STATUS) 0 = true ∧
        t.raster.done = true ∧ t.raster.line = s.raster.line ∧ t.mem = s.mem ∧ t.ctxs = s.ctxs) ∧
  (∀ (s : State) (o : Nat) (crc : BitVec 32), o < 2 → (s.out o).state = 1 → s.raster.st = 1 → s.raster.done = true →
      s.raster.begun = true →
      (crc.toNat = s.num O.RASTER_CRC_EXPECTED → Answers (.frameCrcCompare o crc) s fun t =>
        t.num (O.OUT_CRC_READ_o + o) = crc.toNat ∧ OnlyObjs [objKey 0 (O.OUT_CRC_READ_o + o)] s t) ∧
      (crc.toNat ≠ s.num O.RASTER_CRC_EXPECTED → Answers (.frameCrcCompare o crc) s fun t =>
        t.num (O.OUT_CRC_READ_o + o) = crc.toNat ∧
        t.num (O.OUT_CRC_FAILS_o + o) = satN 32 (s.num (O.OUT_CRC_FAILS_o + o) + 1) ∧
        bit (t.get (O.OUT_STATE_o + o)) 3 = true ∧ bit (t.get O.RASTER_STATUS) 2 = true ∧
        bit (t.get O.TARNISH) 24 = true ∧ t.raster = s.raster ∧ t.mem = s.mem ∧ t.ctxs = s.ctxs)) ∧
  (∀ (s : State) (p : Nat), Served s p →
      let mine := (List.range 8).filter fun l => (s.layer l).owner == some (ownerOf p) && !(s.layer l).leaving
      (mine = [] → Answers (.rasterCommit p 1) s fun t => Rejected s t p O.RASTER_COMMIT 2 .presentState) ∧
      (mine ≠ [] → (∀ l ∈ mine, s.draftErr (ownerOf p) l (s.draft l) = 0) →
        s.demandOver (s.nextSets mine) 8000000000 = false → s.raster.st = 1 → s.raster.layers.length = 8 →
        Answers (.rasterCommit p 1) s fun t =>
          (∀ l ∈ mine, ∃ q, (t.layer l).pending = some q ∧ q.kind = (s.draft l).kind ∧ q.handle = (s.draft l).handle ∧
            q.x = (s.draft l).x ∧ q.y = (s.draft l).y ∧ q.w = (s.draft l).w ∧ q.h = (s.draft l).h ∧
            (t.layer l).since = s.cycle ∧ (t.layer l).latched = (s.layer l).latched ∧
            (t.layer l).ready = decide ((s.draft l).kind ≠ 4)) ∧
          (∀ l, l ∉ mine → t.layer l = s.layer l) ∧ t.obj p O.RASTER_ERR = 0 ∧
          t.obj p O.RASTER_COMMIT_FRAME = 0xFFFFFFFF ∧
          ((∀ d f, (s.half d).spared = some f → f < 16) →
            ∀ a, (∀ l ∈ mine, ∀ q, (t.layer l).pending = some q → ∀ g, q.plane = some g →
              ∀ i, i < g.2.2 → a ≠ s.phys (capAddr g.1 g.2.1 + i)) → Memory.read t.mem a = Memory.read s.mem a) ∧
          ((∀ l ∈ mine, (s.draft l).kind ≠ 4) → t.mem = s.mem ∧ t.halves = s.halves) ∧
          OnlyObjs [objKey p O.RASTER_ERR, objKey p O.RASTER_COMMIT_FRAME]
            { s with raster := t.raster, mem := t.mem, halves := t.halves } t) ∧
      (∀ v : Slot, v.toNat < 256 → v ≠ 1 → Answers (.rasterCommit p v) s fun t => OnlyObjs [] s t)) ∧
  (∀ (s : State) (p l : Nat), Served s p → l < 8 → s.raster.layers.length = 8 →
      ((s.layer l).owner = none → Answers (.layerClaim p l) s fun t =>
        t.layer l = { s.layer l with owner := some (ownerOf p) } ∧ (∀ m, m ≠ l → t.layer m = s.layer m) ∧
        OnlyObjs [] { s with raster := t.raster } t) ∧
      ((s.layer l).owner.isSome = true → Answers (.layerClaim p l) s fun t =>
        Rejected s t p (layKey O.LAYER_CMD_l l) 2 .presentState) ∧
      (((s.layer l).owner = some (ownerOf p) ∨ (s.layer l).owner.isSome = true ∧ ownerOf p = s.steward) → s.raster.st = 1 →
        Answers (.layerRelease p l) s fun t =>
        (t.layer l).leaving = true ∧ (∃ q, (t.layer l).pending = some q ∧ q.kind = 0) ∧
        (t.layer l).latched = (s.layer l).latched ∧ (∀ m, m ≠ l → t.layer m = s.layer m) ∧
        t.obj p O.RASTER_COMMIT_FRAME = 0xFFFFFFFF ∧ t.obj p O.RASTER_ERR = 0 ∧
        OnlyObjs [objKey p O.RASTER_ERR, objKey p O.RASTER_COMMIT_FRAME] { s with raster := t.raster } t) ∧
      ((s.layer l).owner ≠ some (ownerOf p) → ownerOf p ≠ s.steward → Answers (.layerRelease p l) s fun t =>
        Rejected s t p (layKey O.LAYER_CMD_l l) 2 .noPermission)) ∧
  (∀ (s : State) (l : Nat) (q : LayerSet), l < s.raster.layers.length → (s.layer l).pending = some q →
      (s.layer l).ready = false → s.raster.st = 1 →
      (∀ es, Answers (.vectorRasterDone ⟨l, es⟩) s fun t =>
        t.layer l = { s.layer l with ready := true } ∧ (∀ m, m ≠ l → t.layer m = s.layer m) ∧
        t.raster.st = 1 ∧ t.raster.line = s.raster.line ∧ t.ctxs = s.ctxs ∧ t.dies = s.dies ∧ t.inputs = s.inputs ∧
        ∀ a, (∀ g, q.plane = some g → ∀ i, i < g.2.2 → a / 64 ≠ t.phys (capAddr g.1 g.2.1 + i) / 64) →
          Memory.read t.mem a = Memory.read s.mem a) ∧
      (∀ d o n, q.kind = 4 → q.plane = some (d, o, n) → d < 8 → o + n ≤ halfBytes → q.planeSize.1 * q.planeSize.2 ≤ n →
        (s.half d).spared = none → (s.half d).failed = [] → (s.stack (d / 2)).st ≠ 4 →
        Answers (.vectorRasterDone ⟨l, []⟩) s fun t =>
          ∀ x y, x < q.w → x / 8 < q.planeSize.1 → y < q.planeSize.2 →
            (t.peek (capAddr d (o + y * q.planeSize.1 + x / 8))).getLsbD (x % 8) =
              ((s.peek (capAddr d (o + y * q.planeSize.1 + x / 8))).getLsbD (x % 8) ||
                (penLines q.points).any fun c => (lineCells c.1 c.2).contains (x, y)))) ∧
  (∀ (s : State) (p : Nat), Served s p →
      let n := (s.obj p O.RBUF_BYTES).toNat
      (allocBuf s (ownerOf p) .raster n = none → Answers (.rbufAllocate p) s fun t =>
        Rejected s t p O.RBUF_CMD 2 .resource) ∧
      ((allocBuf s (ownerOf p) .raster n).isSome = true → (∀ d f, (s.half d).spared = some f → f < 16) → Answers (.rbufAllocate p) s fun t =>
        t.obj p O.RBUF_HANDLE = ofN s.nextHandle ∧ t.nextHandle = s.nextHandle + 1 ∧
        (∃ b, kvGet t.bufs s.nextHandle = some b ∧ b.owner = ownerOf p ∧ b.kind = .raster ∧ b.size = n ∧ b.held = true ∧
          (∀ i, i < n → t.peek (capAddr b.die b.off + i) = 0) ∧
          (∀ a, (∀ i, i < n → a ≠ s.phys (capAddr b.die b.off + i)) → Memory.read t.mem a = Memory.read s.mem a)) ∧
        (∀ h, h ≠ s.nextHandle → kvGet t.bufs h = kvGet s.bufs h) ∧
        OnlyObjs [objKey p O.RBUF_HANDLE]
          { s with mem := t.mem, halves := t.halves, bufs := t.bufs, nextHandle := t.nextHandle } t) ∧
      (∀ b, kvGet s.bufs (s.obj p O.RBUF_TARGET).toNat = some b → b.kind = .raster → b.held = true →
        (b.owner = ownerOf p ∨ ownerOf p = s.steward) → s.layerRefs (s.obj p O.RBUF_TARGET).toNat = 0 →
        Answers (.rbufFree p) s fun t =>
          kvGet t.bufs (s.obj p O.RBUF_TARGET).toNat = none ∧
          OnlyObjs [] { s with bufs := t.bufs, cruBufs := t.cruBufs, allocs := t.allocs } t) ∧
      (kvGet s.bufs (s.obj p O.RBUF_TARGET).toNat = none → Answers (.rbufFree p) s fun t =>
        Rejected s t p O.RBUF_CMD 2 .noPermission)) ∧
  (∀ (s : State) (o : Nat), o < 2 → o < s.raster.outs.length →
      (∀ h, (s.out o).present ≠ h → Answers (.dpHotplug o h) s fun t =>
        t.out o = { present := h } ∧ bit (t.get O.RASTER_STATUS) 4 = true ∧ t.blob 0 (O.OUT_EDID_o + o) = [] ∧
        (∀ u, u ≠ o → t.out u = s.out u) ∧
        OnlyObjs [objKey 0 O.RASTER_STATUS] { s with raster := t.raster, blobs := t.blobs } t) ∧
      (∀ rate lanes edid, (s.out o).present = true → (rate = 6 ∨ rate = 10 ∨ rate = 20 ∨ rate = 30) →
        (lanes = 1 ∨ lanes = 2 ∨ lanes = 4) → Answers (.dpLinkTrained o rate lanes edid) s fun t =>
          (t.out o).trained = some (rate, lanes) ∧ (t.out o).present = true ∧
          ((t.out o).narrow = false ↔ s.timing.khz * 24 ≤ rate * 216000 * lanes) ∧
          t.blob 0 (O.OUT_EDID_o + o) = edid ∧ (∀ u, u ≠ o → t.out u = s.out u) ∧
          OnlyObjs [] { s with raster := t.raster, blobs := t.blobs } t) ∧
      (∀ h, (s.out o).present = h → Answers (.dpHotplug o h) s fun t => OnlyObjs [] s t))

/-- O46. Requests of the fabric manager and of the memory-device mailbox: each is answered with what it asks for, an opcode
that is not served with Unsupported, Set commands change the allocations, the named steward or the LD, and nothing else
changes (R430, R433 to R437, R440; the identifiers, codes and forms are those of log 13). -/
def Obligations.ManagerRequests : Prop :=
  (∀ s : State, s.awake = true →
    (Answers .fmIdentify s fun t =>
      .fm 0 ((List.range 6).map fun k => (Config.pciId k).toNat) ∈ t.sent ∧ OnlyObjs [] s t) ∧
    (∀ op l k, fmOpcodes.contains op = false → Answers (.fmDisableLd ⟨op, l, k⟩) s fun t =>
      .fm 3 [] ∈ t.sent ∧ OnlyObjs [] s t) ∧
    (Answers .fmGetLdInfo s fun t =>
      .fm 0 [48 * s.D * 2 ^ 28, if s.num O.CXL_MODE_ACTIVE = 1 then 1 else 16, 0] ∈ t.sent ∧ OnlyObjs [] s t) ∧
    (s.lds.length = 16 → Answers .fmGetLdAllocations s fun t =>
      (∃ r, .fm 0 ([s.ldCount, 0, 0, s.ldCount] ++ r) ∈ t.sent ∧ r.length = 2 * s.ldCount ∧
        ∀ i, i < s.ldCount → r[2 * i]? = some (s.ld i).alloc) ∧ OnlyObjs [] s t) ∧
    (Answers .fmGetSteward s fun t => .fm 0 [s.num O.STEWARD_NAMED] ∈ t.sent ∧ OnlyObjs [] s t) ∧
    (∀ b : Byte, (b.toNat < 16 ∨ b = 0xFF#8) → Answers (.fmSetSteward b) s fun t =>
      t.num O.STEWARD_NAMED = b.toNat ∧ .fm 0 [] ∈ t.sent ∧
      ((s.ld b.toNat).st = .enabled → b.toNat < 16 → t.steward = b.toNat) ∧
      OnlyObjs [objKey 0 O.STEWARD_NAMED] s t) ∧
    (∀ b : Byte, 16 ≤ b.toNat → b ≠ 0xFF#8 → Answers (.fmSetSteward b) s fun t =>
      .fm 2 [] ∈ t.sent ∧ OnlyObjs [] s t) ∧
    (∀ l, l < 16 → (s.ld l).st ≠ .enabled → Answers (.fmDisableLd ⟨0xC002, l, 0⟩) s fun t =>
      .fm 0 [] ∈ t.sent ∧ OnlyObjs [] s t) ∧
    (∀ l, l < 16 → (s.ld l).st = .enabled → Answers (.fmDisableLd ⟨0xC002, l, 0⟩) s fun t =>
      .fm 0 [] ∈ t.sent ∧ LdDisabled l s t) ∧
    (∀ l k, (16 ≤ l ∨ k ≠ 0) → Answers (.fmDisableLd ⟨0xC002, l, k⟩) s fun t => .fm 2 [] ∈ t.sent ∧ OnlyObjs [] s t) ∧
    (∀ first units, first + units.length ≤ s.ldCount → s.lds.length = 16 →
      (s.allocsAfter first units).foldl (· + ·) 0 ≤ 48 * s.D → Answers (.fmSetLdAllocations first units) s fun t =>
        .fm 0 [] ∈ t.sent ∧ (∀ l, l < 16 → (t.ld l).alloc = (s.allocsAfter first units).getD l 0)) ∧
    (∀ first units, (s.ldCount < first + units.length ∨ 48 * s.D < (s.allocsAfter first units).foldl (· + ·) 0) →
      Answers (.fmSetLdAllocations first units) s fun t => .fm 2 [] ∈ t.sent ∧ OnlyObjs [] s t)) ∧
  (∀ (s : State) (l : Nat), s.ldAnswers l = true →
    (Answers (.identifyMemoryDevice ⟨l, 0x4000⟩) s fun t =>
      .mailboxRsp l 0x4000 0 [(s.ld l).alloc * 2 ^ 28, 0] ∈ t.sent ∧ OnlyObjs [] s t) ∧
    (∀ op, mbOpcodes.contains op = false → Answers (.identifyMemoryDevice ⟨l, op⟩) s fun t =>
      .mailboxRsp l op 3 [] ∈ t.sent ∧ OnlyObjs [] s t) ∧
    (Answers (.getHealthInfo l) s fun t =>
      (∃ h, h < 256 ∧ .mailboxRsp l 0x4200 0 [h, (s.halves.map fun h => h.poison.length).foldl (· + ·) 0] ∈ t.sent) ∧
      OnlyObjs [] s t) ∧
    (Answers (.getPoisonList l) s fun t =>
      .mailboxRsp l 0x4300 0 (s.poisonAddrs.flatMap (s.dpas l)) ∈ t.sent ∧ OnlyObjs [] s t) ∧
    (Answers (.getEventRecords l) s fun t =>
      .mailboxRsp l 0x0100 0 ((s.ld l).events.flatMap fun e => [e.1, e.2.1, e.2.2]) ∈ t.sent ∧ OnlyObjs [] s t) ∧
    (∀ hs : List Nat, Answers (.clearEventRecords l hs) s fun t =>
      (t.ld l).events = (s.ld l).events.filter (fun e => !hs.contains e.1) ∧ .mailboxRsp l 0x0101 0 [] ∈ t.sent ∧
      (∀ m, m ≠ l → (t.ld m).events = (s.ld m).events) ∧ OnlyObjs [] { s with lds := t.lds } t) ∧
    (Answers (.getSupportedLogs l) s fun t => .mailboxRsp l 0x0400 0 [1] ∈ t.sent ∧ OnlyObjs [] s t) ∧
    (Answers (.getLog l) s fun t =>
      .mailboxRsp l 0x0401 0 [0x0100, 0x0101, 0x0400, 0x0401, 0x4000, 0x4200, 0x4300] ∈ t.sent ∧ OnlyObjs [] s t))

/-- O47. SPDM and DOE: each request is answered in its place of the negotiation, an earlier one with the error
UnexpectedRequest, a slot or index that does not exist with InvalidRequest, an unknown request with UnsupportedRequest,
measurements with a nonce are signed, and each takes its time after the one before it (log 103); discovery and the CDAT tables
answer their entries (R430, R441, R442, R557 to R559). -/
def Obligations.SecurityRequests : Prop :=
  (∀ (s : State) (l : Nat), s.ldAnswers l = true →
    let Frame (t : State) : Prop := t.fw.attest = none ∧ t.mem = s.mem ∧ t.ctxs = s.ctxs ∧ t.dies = s.dies ∧
      (∀ m, m ≠ l → (t.ld m).bare = (s.ld m).bare)
    (Answers (.spdmGetVersion l) s fun t =>
      .spdm l 0x04 [0x12#8] ∈ t.sent ∧ (t.ld l).spdmVersion = true ∧ (t.ld l).spdmCaps = false ∧
      (t.ld l).spdmAlgs = false ∧ (t.ld l).transcript = [0x84#8, 0x12#8] ∧ Frame t) ∧
    ((s.ld l).spdmVersion = true → Answers (.spdmGetCapabilities l) s fun t =>
      .spdm l 0x61 [17#8, 0x16#8, 0#8, 0#8, 0#8] ∈ t.sent ∧ (t.ld l).spdmCaps = true ∧ Frame t) ∧
    ((s.ld l).spdmVersion = false → Answers (.spdmGetCapabilities l) s fun t =>
      .spdm l 0x7F [4#8] ∈ t.sent ∧ (t.ld l).bare = (s.ld l).bare ∧ Frame t) ∧
    ((s.ld l).spdmCaps = true → Answers (.spdmNegotiateAlgorithms l) s fun t =>
      (∃ b, .spdm l 0x63 b ∈ t.sent) ∧ (t.ld l).spdmAlgs = true ∧ Frame t) ∧
    ((s.ld l).spdmCaps = false → Answers (.spdmNegotiateAlgorithms l) s fun t =>
      .spdm l 0x7F [4#8] ∈ t.sent ∧ (t.ld l).bare = (s.ld l).bare ∧ Frame t) ∧
    ((s.ld l).spdmAlgs = true →
      (Answers (.spdmGetDigests l) s fun t =>
        .spdm l 0x01 (0x01#8 :: Config.sha3 Config.hallmarkChain) ∈ t.sent ∧ Frame t) ∧
      (∀ off len, off ≤ Config.hallmarkChain.length → Answers (.spdmGetCertificate l 0 off len) s fun t =>
        let part := slice Config.hallmarkChain off len
        .spdm l 0x02 (leBytes 2 part.length ++ leBytes 2 (Config.hallmarkChain.length - off - part.length) ++ part)
          ∈ t.sent ∧ Frame t) ∧
      (∀ slot off len, slot ≠ 0 → Answers (.spdmGetCertificate l slot off len) s fun t =>
        .spdm l 0x7F [1#8] ∈ t.sent ∧ (t.ld l).bare = (s.ld l).bare ∧ Frame t) ∧
      (∀ off len, Config.hallmarkChain.length < off → Answers (.spdmGetCertificate l 0 off len) s fun t =>
        .spdm l 0x7F [1#8] ∈ t.sent ∧ (t.ld l).bare = (s.ld l).bare ∧ Frame t) ∧
      (∀ nonce, Answers (.spdmChallenge l 0 nonce) s fun t =>
        (∃ own, own.length = 32 ∧
          .spdm l 0x03 (Config.sha3 Config.hallmarkChain ++ own ++ s.aggregate ++ Config.mldsaSign ((s.ld l).transcript
            ++ nonce ++ (Config.sha3 Config.hallmarkChain ++ own ++ s.aggregate))) ∈ t.sent) ∧ Frame t) ∧
      (∀ slot nonce, slot ≠ 0 → Answers (.spdmChallenge l slot nonce) s fun t =>
        .spdm l 0x7F [1#8] ∈ t.sent ∧ (t.ld l).bare = (s.ld l).bare ∧ Frame t) ∧
      (Answers (.spdmGetMeasurements l ⟨0, none⟩) s fun t => .spdm l 0x60 [9#8] ∈ t.sent ∧ Frame t) ∧
      (∀ i, 1 ≤ i → i ≤ 9 → Answers (.spdmGetMeasurements l ⟨i, none⟩) s fun t =>
        .spdm l 0x60 (1#8 :: s.measBlock i) ∈ t.sent ∧ Frame t) ∧
      (Answers (.spdmGetMeasurements l ⟨0xFF, none⟩) s fun t =>
        .spdm l 0x60 (9#8 :: (List.range 9).flatMap fun i => s.measBlock (i + 1)) ∈ t.sent ∧ Frame t) ∧
      (∀ i nonce, 1 ≤ i → i ≤ 9 → Answers (.spdmGetMeasurements l ⟨i, some (0, nonce)⟩) s fun t =>
        (∃ own, own.length = 32 ∧ .spdm l 0x60 (1#8 :: s.measBlock i ++ own ++ Config.mldsaSign ((s.ld l).transcript
          ++ [0xE0#8, BitVec.ofNat 8 i] ++ nonce ++ (1#8 :: s.measBlock i) ++ own)) ∈ t.sent) ∧ Frame t) ∧
      (∀ i slot nonce, slot ≠ 0 → Answers (.spdmGetMeasurements l ⟨i, some (slot, nonce)⟩) s fun t =>
        .spdm l 0x7F [1#8] ∈ t.sent ∧ (t.ld l).bare = (s.ld l).bare ∧ Frame t) ∧
      (∀ i g, 9 < i → i ≠ 0xFF → Answers (.spdmGetMeasurements l ⟨i, g⟩) s fun t =>
        .spdm l 0x7F [1#8] ∈ t.sent ∧ (t.ld l).bare = (s.ld l).bare ∧ Frame t)) ∧
    ((s.ld l).spdmAlgs = false → ∀ i, i = Instr.spdmGetDigests l ∨ (∃ k o n, i = .spdmGetCertificate l k o n) ∨
        (∃ k n, i = .spdmChallenge l k n) ∨ (∃ g, i = .spdmGetMeasurements l g) →
      Answers i s fun t => .spdm l 0x7F [4#8] ∈ t.sent ∧ (t.ld l).bare = (s.ld l).bare ∧ Frame t) ∧
    (∀ code, Answers (.spdmUnsupportedRequest l code) s fun t =>
      .spdm l 0x7F [7#8] ∈ t.sent ∧ (t.ld l).bare = (s.ld l).bare ∧ Frame t ∧
      max s.now s.spdmFree ≤ t.spdmFree ∧ t.spdmFree ≤ max s.now s.spdmFree + 131 * msTicks) ∧
    (∀ i, i < 3 → Answers (.doeDiscovery l i) s fun t =>
      .doe l [i, if i < 2 then i + 1 else 0] ∈ t.sent ∧ OnlyObjs [] s t) ∧
    (Answers (.cdatTableAccess l 0) s fun t => .doe l [0, 0, (s.ld l).alloc * 2 ^ 28, 1, 1] ∈ t.sent ∧ OnlyObjs [] s t) ∧
    (∀ i, (i = 1 ∨ i = 2) → Answers (.cdatTableAccess l i) s fun t => .doe l [i, 1200] ∈ t.sent ∧ OnlyObjs [] s t) ∧
    (∀ i, (i = 3 ∨ i = 4) → Answers (.cdatTableAccess l i) s fun t =>
      .doe l [i, 30000] ∈ t.sent ∧ OnlyObjs [] s t)) ∧
  (∀ (s : State) (l : Nat), s.ldAnswers l = false → ∀ i, i = Instr.spdmGetVersion l ∨ i = .doeDiscovery l 0 ∨
      i = .cdatTableAccess l 0 ∨ i = .identifyMemoryDevice ⟨l, 0x4000⟩ → Answers i s fun t => OnlyObjs [] s t)

/-- O48. The CXL link and its logical devices: training and loss of the link, its error counts, function level reset, disabling
an LD, which turns away the reads of its core cycle, resets of the link in each mode, enabling an LD, which sends the pending
messages it unmasks, and its committed decoder (R324, R409, R430, R431, R433, R434, R439, R443, R449 to R452). -/
def Obligations.LinkAndDevices : Prop :=
  (∀ (s : State) (width gts : Nat) (sris sw : Bool), s.awake = true → s.power.perst = false →
    bit (s.get O.CXL_STATUS) 0 = false →
    (trainsTo width gts = false → Answers (.cxlLinkUp width gts sris sw) s fun t => OnlyObjs [] s t) ∧
    ((width = 1 ∨ width = 2 ∨ width = 4 ∨ width = 8) → (gts < 8 ∨ gts = 8 ∨ gts = 16 ∨ gts = 32) →
    (gts < 8 → Answers (.cxlLinkUp width gts sris sw) s fun t =>
      t.get O.CXL_LINK_WIDTH = ofN width ∧ t.get O.CXL_CLOCKING = ofN (b2n sris) ∧ t.get O.CXL_LINK_GTS = 0 ∧
      t.get O.CXL_MODE_ACTIVE = 0 ∧ bit (t.get O.CXL_STATUS) 3 = true ∧ bit (t.get O.CXL_STATUS) 2 = true ∧
      OnlyObjs [objKey 0 O.CXL_LINK_WIDTH, objKey 0 O.CXL_CLOCKING, objKey 0 O.CXL_LINK_GTS, objKey 0 O.CXL_MODE_ACTIVE]
        s t) ∧
    (8 ≤ gts → sw = true → s.modeCfg = 0 → Answers (.cxlLinkUp width gts sris sw) s fun t =>
      t.get O.CXL_LINK_WIDTH = ofN width ∧ t.get O.CXL_CLOCKING = ofN (b2n sris) ∧ t.get O.CXL_LINK_GTS = ofN gts ∧
      t.get O.CXL_MODE_ACTIVE = 2 ∧ bit (t.get O.CXL_STATUS) 0 = true ∧
      ((width < 8 ∨ gts < 32) → bit (t.get O.CXL_STATUS) 2 = true) ∧ t.power.wakePin = false ∧
      (s.power.wakePin = true → .wakePin false ∈ t.sent) ∧
      OnlyObjs [objKey 0 O.CXL_LINK_WIDTH, objKey 0 O.CXL_CLOCKING, objKey 0 O.CXL_LINK_GTS, objKey 0 O.CXL_MODE_ACTIVE]
        { s with power := { s.power with wakePin := false } } t) ∧
    (8 ≤ gts → (sw = false ∨ s.modeCfg ≠ 0) → s.lds.length = 16 → Answers (.cxlLinkUp width gts sris sw) s fun t =>
      t.get O.CXL_LINK_GTS = ofN gts ∧ t.get O.CXL_MODE_ACTIVE = 1 ∧ bit (t.get O.CXL_STATUS) 0 = true ∧
      t.get O.STEWARD_NAMED = 0 ∧ (t.ld 0).alloc = 48 * s.D ∧ ((s.ld 0).st = .unallocated → (t.ld 0).st = .allocated) ∧
      t.num O.CXL_LINK_WIDTH = width % 2 ^ 64 ∧
      (∀ l, l ≠ 0 → l < 16 → (t.ld l).alloc = 0 ∧ (t.ld l).st ≠ .enabled ∧ ((s.ld l).st = .allocated → (t.ld l).st = .unallocated)) ∧
      t.power.wakePin = false ∧ t.mem = s.mem ∧ t.dies = s.dies ∧
      ((∀ l, (s.ld l).st ≠ .enabled) →
      OnlyObjs [objKey 0 O.CXL_LINK_WIDTH, objKey 0 O.CXL_CLOCKING, objKey 0 O.CXL_LINK_GTS, objKey 0 O.CXL_MODE_ACTIVE
        , objKey 0 O.STEWARD_NAMED] { s with power := t.power, lds := t.lds } t)))) ∧
  (∀ s : State, s.num O.CXL_LINK_WIDTH ≠ 0 → s.lds.length = 16 →
    (Answers .cxlLinkDown s fun t =>
      t.num O.CXL_LINK_DOWNS = satN 32 (s.num O.CXL_LINK_DOWNS + 1) ∧ t.get O.CXL_MODE_ACTIVE = 0 ∧
      t.get O.CXL_LINK_WIDTH = 0 ∧ t.get O.CXL_LINK_GTS = 0 ∧ bit (t.get O.CXL_STATUS) 0 = false ∧
      bit (t.get O.CXL_STATUS) 1 = true ∧ bit (t.get O.TARNISH) 23 = true ∧
      (∀ l, l < 16 → (s.ld l).st = .enabled → (t.ld l).st = .disabling ∧ Suspends l s t)) ∧
    (Answers .cxlCorrectableError s fun t =>
      t.num O.CXL_CE_COUNT = satN 32 (s.num O.CXL_CE_COUNT + 1) ∧ OnlyObjs [objKey 0 O.CXL_CE_COUNT] s t) ∧
    (Answers .cxlUncorrectableError s fun t =>
      t.num O.CXL_UE_COUNT = satN 32 (s.num O.CXL_UE_COUNT + 1) ∧ .linkEvent 1 ∈ t.sent ∧
      OnlyObjs [objKey 0 O.CXL_UE_COUNT] { s with aerUncorrectable := true } t) ∧
    (Answers .cxlLinkRecovery s fun t =>
      t.num O.CXL_RECOVERIES = satN 32 (s.num O.CXL_RECOVERIES + 1) ∧ OnlyObjs [objKey 0 O.CXL_RECOVERIES] s t)) ∧
  (∀ s : State, s.num O.CXL_LINK_WIDTH = 0 →
    ∀ i, i = Instr.cxlLinkDown ∨ i = .cxlCorrectableError ∨ i = .cxlUncorrectableError ∨ i = .cxlLinkRecovery →
      Answers i s fun t => OnlyObjs [] s t) ∧
  (∀ (s : State) (l : Nat), l < 16 → Answers (.functionLevelReset l) s fun t =>
    (∀ k, isPathObj k = true → t.obj l k = objDefault s.variant k ∧ t.obj (16 + l) k = objDefault s.variant k) ∧
    t.path l = {} ∧ t.path (16 + l) = {} ∧ kvGet t.ports l = none ∧ kvGet t.ports (16 + l) = none ∧
    (∀ w, w < 4 → t.obj l (O.HOSTWIN_BASE_0 + 2 * w + 1) = 0) ∧
    t.ctxs = s.ctxs ∧ t.chans = s.chans ∧ t.mem = s.mem ∧ (∀ m, (t.ld m).bare = (s.ld m).bare)) ∧
  (∀ (s : State) (l : Nat), l < 16 →
    (s.num O.CXL_MODE_ACTIVE ≠ 1 → (s.ld l).st = .enabled → l < s.lds.length → Answers (.ldResetTrigger ⟨l, false⟩) s fun t =>
      LdDisabled l s t ∧ ∀ d r, some (d, r) ∈ (t.ld l).readsReq → r.arrived / 48 * 48 ≠ s.cycle) ∧
    (s.num O.CXL_MODE_ACTIVE ≠ 1 → (s.ld l).st ≠ .enabled → Answers (.ldResetTrigger ⟨l, false⟩) s fun t => OnlyObjs [] s t) ∧
    (∀ port, s.num O.CXL_MODE_ACTIVE = 1 → (s.ld 0).st = .enabled → 0 < s.lds.length →
      Answers (.ldResetTrigger ⟨l, port⟩) s fun t => LdDisabled 0 s t) ∧
    (s.num O.CXL_MODE_ACTIVE ≠ 1 → s.lds.length = 16 → Answers (.ldResetTrigger ⟨l, true⟩) s fun t =>
      ∀ m, m < 16 → (s.ld m).st = .enabled → (t.ld m).st = .disabling ∧ Suspends m s t) ∧
    ((s.ld l).st = .disabling → (s.ld l).reads = [] → (∀ c ∈ s.chans, c.2.owner = l → c.2.inFlight = false) →
      s.ownerSuspends l = false → Answers (.ldDisableDone l) s fun t =>
        (t.ld l).st = restSt (s.ld l).alloc ∧ (t.ld l).mse = false ∧ (t.ld l).bme = false ∧ (t.ld l).decoder = none ∧
        t.num (O.LD_DISABLES_l + l) = satN 32 (s.num (O.LD_DISABLES_l + l) + 1) ∧
        (∀ m, m ≠ l → (t.ld m).bare = (s.ld m).bare) ∧
        (∀ w, w < 4 → t.obj l (O.HOSTWIN_BASE_0 + 2 * w + 1) = 0) ∧ t.path l = {} ∧ t.path (16 + l) = {} ∧
        t.ctxs = s.ctxs ∧ t.mem = s.mem) ∧
    ((s.ld l).reads ≠ [] ∨ s.ownerSuspends l = true → Answers (.ldDisableDone l) s fun t => OnlyObjs [] s t) ∧
    (∀ (mse bme : Bool) (ms : List Nat), bit (s.get O.CXL_STATUS) 0 = true → (s.num O.CXL_MODE_ACTIVE = 2 ∨ l = 0) →
      (s.ld l).st = .allocated → (mse || bme) = true →
      Answers (.ldEnable l mse ⟨bme, ms⟩) s fun t =>
        (t.ld l).bare = { s.ld l with st := .enabled, mse, bme, masked := ms.filter (· < 64), pba := [] } ∧
        (bme = true → ∀ v ∈ (s.ld l).pba, v ∉ ms → .msix l v ∈ t.sent) ∧
        (∀ m, m ≠ l → (t.ld m).bare = (s.ld m).bare) ∧ OnlyObjs [] { s with lds := t.lds } t) ∧
    (∀ (mse bme : Bool) (ms : List Nat), bit (s.get O.CXL_STATUS) 0 = true → (s.num O.CXL_MODE_ACTIVE = 2 ∨ l = 0) →
      (s.ld l).st = .enabled → Answers (.ldEnable l mse ⟨bme, ms⟩) s fun t =>
      (t.ld l).bare = { s.ld l with mse, bme, masked := ms.filter (· < 64), pba := [] } ∧
      (bme = true → ∀ v ∈ (s.ld l).pba, v ∉ ms → .msix l v ∈ t.sent) ∧
      (∀ m, m ≠ l → (t.ld m).bare = (s.ld m).bare) ∧ OnlyObjs [] { s with lds := t.lds } t) ∧
    (∀ base size, bit (s.get O.CXL_STATUS) 0 = true → ((s.ld l).st = .allocated ∨ (s.ld l).st = .enabled) →
      Answers (.hdmDecoderCommit l base size) s fun t =>
        (t.ld l).bare = { s.ld l with decoder := some (base, size), pba := [] } ∧
        (∀ m, m ≠ l → (t.ld m).bare = (s.ld m).bare) ∧ OnlyObjs [] { s with lds := t.lds } t))

/-- O49. Claims and subscriptions: Claim takes an unclaimed input and subscribes, Release and the steward's Revoke give it
up, Subscribe and Unsubscribe change one bit, and what R446 does not allow aborts (R446). -/
def Obligations.InputClaims : Prop :=
  ∀ (s : State) (p n : Nat), Served s p → p ≤ 32 →
    (n < s.D →
      (s.claimant n = 0xFF → Answers (.inputClaim p n) s fun t =>
        t.claimant n = ownerOf p ∧ t.subscribed n (ownerOf p) = true ∧
        (∀ o, o ≠ ownerOf p → t.subscribed n o = s.subscribed n o) ∧
        OnlyObjs [objKey 0 (O.CLAIM_OWNER_n + n), objKey 0 (O.SUBSCRIBERS_n + n)] s t) ∧
      (s.claimant n ≠ 0xFF → Answers (.inputClaim p n) s fun t => Rejected s t p O.CLAIM_CMD 2 .presentState) ∧
      (s.claimant n = ownerOf p → Answers (.inputRelease p n) s fun t =>
        t.claimant n = 0xFF ∧ OnlyObjs [objKey 0 (O.CLAIM_OWNER_n + n)] s t) ∧
      (s.claimant n ≠ ownerOf p → Answers (.inputRelease p n) s fun t => Rejected s t p O.CLAIM_CMD 2 .noPermission) ∧
      (Answers (.inputSubscribe p n) s fun t =>
        t.subscribed n (ownerOf p) = true ∧ (∀ o, o ≠ ownerOf p → t.subscribed n o = s.subscribed n o) ∧
        OnlyObjs [objKey 0 (O.SUBSCRIBERS_n + n)] s t) ∧
      (s.claimant n ≠ ownerOf p → s.usesInput (ownerOf p) n = false → Answers (.inputUnsubscribe p n) s fun t =>
        t.subscribed n (ownerOf p) = false ∧ (∀ o, o ≠ ownerOf p → t.subscribed n o = s.subscribed n o) ∧
        OnlyObjs [objKey 0 (O.SUBSCRIBERS_n + n)] s t) ∧
      ((s.claimant n = ownerOf p ∨ s.usesInput (ownerOf p) n = true) → Answers (.inputUnsubscribe p n) s fun t =>
        Rejected s t p O.CLAIM_CMD 2 .presentState) ∧
      (ownerOf p = s.steward → s.claimant n ≠ 0xFF → Answers (.inputRevoke p n) s fun t =>
        t.claimant n = 0xFF ∧ OnlyObjs [objKey 0 (O.CLAIM_OWNER_n + n)] s t) ∧
      (ownerOf p = s.steward → s.claimant n = 0xFF → Answers (.inputRevoke p n) s fun t =>
        Rejected s t p O.CLAIM_CMD 2 .presentState) ∧
      (ownerOf p ≠ s.steward → Answers (.inputRevoke p n) s fun t => Rejected s t p O.CLAIM_CMD 2 .noPermission)) ∧
    (s.D ≤ n → n < 16 → ∀ i, i = Instr.inputClaim p n ∨ i = .inputRelease p n ∨ i = .inputSubscribe p n ∨
        i = .inputUnsubscribe p n ∨ i = .inputRevoke p n →
      Answers i s fun t => Rejected s t p O.CLAIM_CMD 2 .range) ∧
    (∀ v : Slot, (fld v 0 8 = 0 ∨ 5 < fld v 0 8) → Answers (.objectWrite p 0x2821 1 v) s fun t =>
      Rejected s t p O.CLAIM_CMD 2 .range)

/-- O50. NMT and LSS: NMT commands for this node lead between their states, the resets bring the assigned node-ID into force
with its boot-up message, abort an open session, which path 32 records, and leave the conditions of the controller that last,
and LSS requests in the configuration state are answered (R462, R464 to R466, R474, R480). -/
def Obligations.NetworkManagement : Prop :=
  (∀ (s : State) (node : Nat), s.canRuns = true → (node = 0 ∨ node = s.can.nodeId) →
    ((s.can.nmt = .preOperational ∨ s.can.nmt = .stopped) → Answers (.nmtStart node) s fun t =>
      OnlyObjs [] { s with can := { s.can with nmt := .operational } } t) ∧
    ((s.can.nmt = .operational ∨ s.can.nmt = .stopped) → Answers (.nmtEnterPreoperational node) s fun t =>
      OnlyObjs [] { s with can := { s.can with nmt := .preOperational } } t) ∧
    ((s.can.nmt = .operational ∨ s.can.nmt = .preOperational) → s.can.usdo = none → Answers (.nmtStop node) s fun t =>
      OnlyObjs [] { s with can := { s.can with nmt := .stopped } } t) ∧
    (∀ u, (s.can.nmt = .operational ∨ s.can.nmt = .preOperational) → s.can.usdo = some u →
      Answers (.nmtStop node) s fun t =>
        t.obj 32 O.PATH_LAST_ABORT = ofN (u.key * 2 ^ 40 + (if u.download then 2 else 1) * 2 ^ 32
          + Abort.presentState.code.toNat) ∧
        OnlyObjs (abortKeys 32) { s with can := { s.can with nmt := .stopped, usdo := none } } t) ∧
    (s.can.nmt = .unconfigured → ∀ i, i = Instr.nmtStart node ∨ i = .nmtStop node ∨ i = .nmtEnterPreoperational node ∨
        i = .nmtResetNode node → Answers i s fun t => OnlyObjs [] s t) ∧
    ((s.can.nmt ≠ .unconfigured ∨ s.can.pendingId ≠ 0xFF) → Answers (.nmtResetCommunication node) s fun t =>
      t.can.nodeId = s.can.pendingId ∧ t.can.usdo = none ∧ t.can.rpdoHeld = [] ∧
      (∀ c, c ∈ t.can.active ↔ c ∈ s.can.active ∧
        ((c = 0x8120 ∧ s.can.errorPassive = true) ∨ (c = 0x8140 ∧ s.can.busOff = true))) ∧
      (∀ u, s.can.usdo = some u → t.obj 32 O.PATH_LAST_ABORT = ofN (u.key * 2 ^ 40
        + (if u.download then 2 else 1) * 2 ^ 32 + Abort.presentState.code.toNat)) ∧
      (s.can.pendingId = 0xFF → t.can.nmt = .unconfigured) ∧
      (s.can.pendingId ≠ 0xFF → (t.can.nmt = .preOperational ∨ t.can.nmt = .operational) ∧
        (s.Sends → .canFrame (0x700 + s.can.pendingId) [0#8] ∈ t.sent)) ∧
      t.ctxs = s.ctxs ∧ t.mem = s.mem ∧ t.dies = s.dies ∧ t.inputs = s.inputs) ∧
    (s.can.nmt ≠ .unconfigured → Answers (.nmtResetNode node) s fun t =>
      t.can.nodeId = s.can.pendingId ∧ t.can.usdo = none ∧
      (∀ c, c ∈ t.can.active ↔ c ∈ s.can.active ∧
        ((c = 0x8120 ∧ s.can.errorPassive = true) ∨ (c = 0x8140 ∧ s.can.busOff = true))) ∧
      (s.can.pendingId = 0xFF → t.can.nmt = .unconfigured) ∧
      (s.can.pendingId ≠ 0xFF → t.can.nmt = .preOperational ∨ t.can.nmt = .operational) ∧ Suspends 16 s t)) ∧
  (∀ s : State, s.canRuns = true → ∀ node, node ≠ 0 → node ≠ s.can.nodeId →
    ∀ i, i = Instr.nmtStart node ∨ i = .nmtStop node ∨ i = .nmtEnterPreoperational node ∨ i = .nmtResetNode node ∨
        i = .nmtResetCommunication node → Answers i s fun t => OnlyObjs [] s t) ∧
  (∀ s : State, s.Sends →
    let Reply (bs : List Byte) (t : State) : Prop := Out.canFrame 0x7E4 bs ∈ t.sent
    let Zeros (n : Nat) : List Byte := List.replicate n 0#8
    (∀ config, Answers (.lssSwitchStateGlobal config) s fun t =>
      OnlyObjs [] { s with can := { s.can with lssConfig := config } } t) ∧
    (Answers (.lssSwitchStateSelective (s.lssId 0) (s.lssId 1) (s.lssId 2) (s.lssId 3)) s fun t =>
      Reply (0x44#8 :: Zeros 7) t ∧ OnlyObjs [] { s with can := { s.can with lssConfig := true } } t) ∧
    (∀ a b c d, (a ≠ s.lssId 0 ∨ b ≠ s.lssId 1 ∨ c ≠ s.lssId 2 ∨ d ≠ s.lssId 3) →
      Answers (.lssSwitchStateSelective a b c d) s fun t => OnlyObjs [] s t) ∧
    (s.can.lssConfig = true →
      (∀ id : Byte, ((1 ≤ id.toNat ∧ id.toNat ≤ 127) ∨ id = 0xFF#8) → Answers (.lssConfigureNodeId id) s fun t =>
        Reply (0x11#8 :: Zeros 7) t ∧ OnlyObjs [] { s with can := { s.can with pendingId := id.toNat } } t) ∧
      (∀ id : Byte, (id.toNat = 0 ∨ 128 ≤ id.toNat) → id ≠ 0xFF#8 → Answers (.lssConfigureNodeId id) s fun t =>
        Reply (0x11#8 :: 1#8 :: Zeros 6) t ∧ OnlyObjs [] s t) ∧
      (Answers (.lssConfigureBitTiming 0 0) s fun t => Reply (0x13#8 :: Zeros 7) t ∧ OnlyObjs [] s t) ∧
      (∀ a b, (a ≠ 0 ∨ b ≠ 0) → Answers (.lssConfigureBitTiming a b) s fun t =>
        Reply (0x13#8 :: 1#8 :: Zeros 6) t ∧ OnlyObjs [] s t) ∧
      (Answers .lssStoreConfiguration s fun t =>
        Reply (0x17#8 :: Zeros 7) t ∧ OnlyObjs [] { s with can := { s.can with storedId := s.can.pendingId } } t) ∧
      (∀ k, k < 4 → Answers (.lssInquireIdentity k) s fun t =>
        Reply (BitVec.ofNat 8 (0x5A + k) :: leBytes 4 (s.lssId k).toNat ++ Zeros 3) t ∧ OnlyObjs [] s t) ∧
      (Answers .lssInquireNodeId s fun t =>
        Reply (0x5E#8 :: BitVec.ofNat 8 s.can.nodeId :: Zeros 6) t ∧ OnlyObjs [] s t)) ∧
    (s.can.nodeId = 0xFF → s.can.lssConfig = false →
      (∀ v a b, Answers (.lssFastscan v 0x80 a b) s fun t =>
        Reply (0x4F#8 :: Zeros 7) t ∧ OnlyObjs [] { s with can := { s.can with fastscan := 0 } } t) ∧
      (∀ (v : BitVec 32) k a b, a = s.can.fastscan → a < 4 → 1 ≤ k → k < 32 →
        v.toNat / 2 ^ k = (s.lssId a).toNat / 2 ^ k → Answers (.lssFastscan v k a b) s fun t =>
          Reply (0x4F#8 :: Zeros 7) t ∧ OnlyObjs [] s t) ∧
      (∀ a b, a = s.can.fastscan → a < 4 → Answers (.lssFastscan (s.lssId a) 0 a b) s fun t =>
        Reply (0x4F#8 :: Zeros 7) t ∧
        OnlyObjs [] { s with can := { s.can with fastscan := b, lssConfig := decide (b < a) } } t) ∧
      (∀ (v : BitVec 32) k a b, k < 32 → (a ≠ s.can.fastscan ∨ v.toNat / 2 ^ k ≠ (s.lssId a).toNat / 2 ^ k) →
        Answers (.lssFastscan v k a b) s fun t => OnlyObjs [] s t)))

/-- O51. Heartbeats and errors of the field-bus port: a heartbeat is produced with the NMT state and due again after its
time, one received or lost in a state that has the service marks its consumer, and bus-off, error passive and overrun raise and end their conditions with
their emergencies (R462, R467, R468, R472 to R474). -/
def Obligations.FieldBusHealth : Prop :=
  (∀ s : State, s.Sends → s.num O.HB_PRODUCER ≠ 0 →
    (s.can.nmt = .preOperational ∨ s.can.nmt = .operational ∨ s.can.nmt = .stopped) → Answers .heartbeatProduce s fun t =>
      .canFrame (0x700 + s.can.nodeId) [BitVec.ofNat 8 s.can.nmt.beat] ∈ t.sent ∧
      t.can.nextBeat = t.now + s.num O.HB_PRODUCER * msTicks ∧ t.can.nmt = s.can.nmt ∧ t.can.nodeId = s.can.nodeId ∧
      t.ctxs = s.ctxs ∧ t.mem = s.mem) ∧
  (∀ (s : State) (node k : Nat), s.hearsBeats = true → s.watcher node = some k →
    Answers (.heartbeatReceived node) s fun t =>
      kvGet t.can.heard k = some s.now ∧ k ∉ t.can.lost ∧ (∀ j, j ≠ k → (j ∈ t.can.lost ↔ j ∈ s.can.lost)) ∧
      ((∀ j ∈ s.can.lost, j = k) → 0x8130 ∉ t.can.active) ∧ t.can.nmt = s.can.nmt ∧
      OnlyObjs [] { s with can := t.can } t) ∧
  (∀ (s : State) (node : Nat), s.hearsBeats = true → s.watcher node = none → Answers (.heartbeatReceived node) s fun t =>
      OnlyObjs [] s t) ∧
  (∀ s : State, (s.can.nmt = .unconfigured ∨ s.can.nmt = .initialisation) → ∀ k,
    (Answers (.heartbeatReceived k) s fun t => OnlyObjs [] s t) ∧
    (Answers (.heartbeatLost k) s fun t => OnlyObjs [] s t)) ∧
  (∀ (s : State) (k : Nat), s.hearsBeats = true → k < 4 →
    s.watcher (fld (s.get (O.HB_CONSUMER_k + k)) 16 8) = some k → k ∉ s.can.lost → Answers (.heartbeatLost k) s fun t =>
      k ∈ t.can.lost ∧ 0x8130 ∈ t.can.active ∧ bit (t.get O.FB_STATUS) 4 = true ∧
      Waits 0x8130 (fld (s.get (O.HB_CONSUMER_k + k)) 16 8) t ∧
      ((s.can.nmt = .preOperational ∨ s.can.nmt = .operational ∨ s.can.nmt = .stopped) →
        (s.num O.ERR_COMM = 0 → t.can.nmt = .preOperational) ∧ (s.num O.ERR_COMM = 1 → t.can.nmt = s.can.nmt) ∧
        (s.num O.ERR_COMM = 2 → t.can.nmt = .stopped)) ∧ t.ctxs = s.ctxs ∧ t.mem = s.mem) ∧
  (∀ s : State, s.canRuns = true → s.can.busOff = false → Answers .canBusOff s fun t =>
      t.can.busOff = true ∧ t.can.queue = [] ∧ 0x8140 ∈ t.can.active ∧ bit (t.get O.FB_STATUS) 3 = true ∧
      t.ctxs = s.ctxs ∧ t.mem = s.mem) ∧
  (∀ s : State, s.can.busOff = true → Answers .canBusOffRecovery s fun t =>
      t.can.busOff = false ∧ 0x8140 ∉ t.can.active ∧
      t.num O.FB_BUSOFF_COUNT = satN 32 (s.num O.FB_BUSOFF_COUNT + 1) ∧
      Waits 0x8140 (satN 32 (s.num O.FB_BUSOFF_COUNT + 1) % 65536) t ∧
      OnlyObjs [objKey 0 O.FB_BUSOFF_COUNT] { s with can := t.can } t) ∧
  (∀ (s : State) (tec : Nat), s.canRuns = true → Answers (.canErrorPassive tec) s fun t =>
      t.can.errorPassive = true ∧ 0x8120 ∈ t.can.active ∧ bit (t.get O.FB_STATUS) 2 = true ∧
      Waits 0x8120 (tec % 65536) t ∧ OnlyObjs [objKey 0 O.FB_STATUS] { s with can := t.can } t) ∧
  (∀ s : State, s.can.errorPassive = true → Answers .canErrorPassiveEnd s fun t =>
      t.can.errorPassive = false ∧ 0x8120 ∉ t.can.active ∧ bit (t.get O.FB_STATUS) 2 = false ∧
      OnlyObjs [objKey 0 O.FB_STATUS] { s with can := t.can } t) ∧
  (∀ (s : State) (lost : Nat), s.canRuns = true → Answers (.canRxOverrun lost) s fun t =>
      0x8110 ∉ t.can.active ∧ bit (t.get O.FB_STATUS) 1 = true ∧ Waits 0x8110 (lost % 65536) t ∧
      OnlyObjs [objKey 0 O.FB_STATUS] { s with can := t.can } t) ∧
  (∀ s : State, s.can.busOff = false → Answers .canBusOffRecovery s fun t => OnlyObjs [] s t) ∧
  (∀ s : State, s.can.errorPassive = false → Answers .canErrorPassiveEnd s fun t => OnlyObjs [] s t)

/-- O52. Emergencies, PDOs and SYNC: the oldest emergency is sent and kept in the history, a COB-ID is checked and stored,
TPDOs fall due and are sent with their inhibit time, RPDOs wait or fail, and a SYNC is stamped and counted (R470, R472,
R474, R475, R477, R478, R485). -/
def Obligations.ProcessData : Prop :=
  (∀ (s : State) (e : Emcy) (r : List Emcy), s.can.queue = e :: r → s.canServes = true → s.hubRestart = false →
    bit (s.get O.COB_ID_EMCY) 31 = false → Answers .emcySend s fun t =>
      t.can.queue = r ∧ t.can.emcyFree = t.now + s.num O.INHIBIT_EMCY * tenthTicks ∧
      .canFrame (fld (s.get O.COB_ID_EMCY) 0 11) (leBytes 2 e.code ++ leBytes 1 s.errorRegister ++ leBytes 1 e.b0
        ++ leBytes 1 e.b1 ++ leBytes 2 e.detail ++ leBytes 1 0) ∈ t.sent ∧
      t.get O.ERR_HIST_k = ofN (e.code % 65536 + e.b0 % 256 * 2 ^ 16 + e.b1 % 256 * 2 ^ 24) ∧
      (∀ k, k < 7 → t.get (O.ERR_HIST_k + k + 1) = s.get (O.ERR_HIST_k + k)) ∧
      t.ctxs = s.ctxs ∧ t.mem = s.mem ∧ t.can.nmt = s.can.nmt) ∧
  (∀ s : State, s.can.queue = [] → Answers .emcySend s fun t => OnlyObjs [] s t) ∧
  (∀ (s : State) (p : Nat), Served s p →
    ((ownerOf p = s.steward ∨ p = 32) → Answers (.errHistClear p 1) s fun t =>
      (∀ k, k < 256 → t.get (0x100300 + k) = objDefault s.variant (0x100300 + k)) ∧
      OnlyObjs ((List.range 256).map fun k => objKey 0 (0x100300 + k)) s t) ∧
    (ownerOf p ≠ s.steward → p ≠ 32 → ∀ v, Answers (.errHistClear p v) s fun t =>
      Rejected s t p O.ERR_HIST_CLEAR 2 .noPermission) ∧
    (∀ i v, i ∈ [0x1400, 0x1401, 0x1402, 0x1403, 0x1800, 0x1801, 0x1802, 0x1803] →
      ((ownerOf p = s.steward ∨ p = 32) → v.toNat < 2 ^ 32 → (bit v 31 = true ∨ s.mapOk i = true) →
        Answers (.pdoCobidWrite p i v) s fun t =>
          t.get (i * 256 + 1) = v ∧ t.can.nmt = s.can.nmt ∧ t.can.queue = s.can.queue ∧
          OnlyObjs [objKey 0 (i * 256 + 1)] { s with can := t.can } t) ∧
      ((ownerOf p = s.steward ∨ p = 32) → v.toNat < 2 ^ 32 → bit v 31 = false → s.mapOk i = false →
        Answers (.pdoCobidWrite p i v) s fun t => Rejected s t p (i * 256 + 1) 2 .incompatible) ∧
      (ownerOf p ≠ s.steward → p ≠ 32 → Answers (.pdoCobidWrite p i v) s fun t =>
        Rejected s t p (i * 256 + 1) 2 .noPermission))) ∧
  (∀ (s : State) (k a : Nat), kvGet s.can.tpdoTimer k = some a → k < 4 → s.tpdoValid k = true → s.canServes = true →
    254 ≤ s.tpdoType k → Answers (.tpdoEventTimer k) s fun t =>
      k ∈ t.can.tpdoDue ∧ (∀ j ∈ s.can.tpdoDue, j ∈ t.can.tpdoDue) ∧
      (s.num (O.TPDO_TIMER + k * 256) ≠ 0 →
        kvGet t.can.tpdoTimer k = some (t.now + s.num (O.TPDO_TIMER + k * 256) * msTicks)) ∧
      t.ctxs = s.ctxs ∧ t.mem = s.mem) ∧
  (∀ (s : State) (k : Nat), s.tpdoReady k = true →
    (∀ e ∈ s.pdoEntries (0x1A00 + k), e / 2 ^ 16 % 2 ^ 16 * 256 + e / 256 % 256 ≠ O.DP_DATA ∧
      e / 2 ^ 16 % 2 ^ 16 * 256 + e / 256 % 256 ≠ O.CDP_DATA) → Answers (.tpdoTransmit k) s fun t =>
      (∃ bs, .canFrame (fld (s.get (O.TPDO_COBID + k * 256)) 0 11) bs ∈ t.sent) ∧
      kvGet t.can.tpdoFree k = some (t.now + s.num (O.TPDO_INHIBIT + k * 256) * tenthTicks) ∧
      t.ctxs = s.ctxs ∧ t.mem = s.mem) ∧
  (∀ (s : State) (k e : Nat) (v : Slot), s.tpdoReady k = true → s.pdoEntries (0x1A00 + k) = [e] →
    s.tpdoFreeAt k ≤ s.now → (s.path 32).companions = [] →
    e / 2 ^ 16 % 2 ^ 16 * 256 + e / 256 % 256 ≠ O.DP_DATA → e / 2 ^ 16 % 2 ^ 16 * 256 + e / 256 % 256 ≠ O.CDP_DATA →
    kvGet s.can.tpdoHeld k = none →
    s.readScalar 32 (s.num (O.TPDO_CONTEXT + k * 256)) (e / 2 ^ 16 % 2 ^ 16) (e / 256 % 256) = .ok v →
    Answers (.tpdoTransmit k) s fun t =>
      .canFrame (fld (s.get (O.TPDO_COBID + k * 256)) 0 11)
        (padFd (leBytes ((e % 256 + 7) / 8) (v.toNat % 2 ^ (e % 256)))) ∈ t.sent) ∧
  (∀ (s : State) (k cob : Nat) (data : List Byte), k < 4 → (∀ j, j < 4 → (j = k ↔ (s.rpdoValid j = true ∧
      fld (s.get (O.RPDO_COBID + j * 256)) 0 11 = cob))) →
    (∀ c ∈ s.can.active, c < 65536) →
    let bits := ((s.pdoEntries (0x1600 + k)).map (· % 256)).foldl (· + ·) 0
    ((bits + 7) / 8 ≤ data.length → s.num (O.RPDO_TYPE + k * 256) < 254 → Answers (.rpdoReceive cob data) s fun t =>
      kvGet t.can.rpdoHeld k = some data ∧ t.can.queue = s.can.queue ∧ OnlyObjs [] { s with can := t.can } t) ∧
    (data.length < (bits + 7) / 8 → Answers (.rpdoReceive cob data) s fun t =>
      bit (t.get O.FB_STATUS) 0 = true ∧ Waits 0x8210 (k + 1) t ∧ t.can.rpdoHeld = s.can.rpdoHeld ∧
      OnlyObjs [objKey 0 O.FB_STATUS] { s with can := t.can } t) ∧
    ((bits + 7) / 8 ≤ data.length → 254 ≤ s.num (O.RPDO_TYPE + k * 256) →
      (∀ e ∈ s.pdoEntries (0x1600 + k), isDummy e = true) → Answers (.rpdoReceive cob data) s fun t =>
        t.can.rpdoHeld = s.can.rpdoHeld ∧ t.can.queue = s.can.queue ∧ OnlyObjs [] { s with can := t.can } t)) ∧
  (∀ (s : State) (cob : Nat) (data : List Byte), (∀ j, j < 4 → s.rpdoValid j = false ∨
      fld (s.get (O.RPDO_COBID + j * 256)) 0 11 ≠ cob) → Answers (.rpdoReceive cob data) s fun t => OnlyObjs [] s t) ∧
  (∀ (s : State) (k a : Nat), kvGet s.can.rpdoTimer k = some a → k < 4 → s.rpdoValid k = true →
    Answers (.rpdoTimeout k) s fun t =>
      rpdoCondition 0x8250 k ∈ t.can.active ∧ kvGet t.can.rpdoTimer k = none ∧ Waits 0x8250 (k + 1) t ∧
      (s.num O.ERR_COMM = 0 → t.can.nmt = .preOperational) ∧ (s.num O.ERR_COMM = 1 → t.can.nmt = .operational) ∧
      (s.num O.ERR_COMM = 2 → t.can.nmt = .stopped) ∧ t.ctxs = s.ctxs ∧ t.mem = s.mem) ∧
  (∀ (s : State) (counter : Option Nat), s.canServes = true → s.hubRestart = false → s.can.rpdoHeld = [] →
    ((∀ k, k < 4 → s.tpdoValid k = false ∨ 240 < s.tpdoType k) →
      Answers (.syncFrame (fld (s.get O.COB_ID_SYNC) 0 11) counter) s fun t =>
        t.get O.SYNC_TM = tmOf s.now ∧ t.get O.SYNC_WRAP = ofN s.wraps.toNat ∧
        t.num O.SYNC_COUNT = (s.num O.SYNC_COUNT + 1) % 2 ^ 32 ∧
        OnlyObjs [objKey 0 O.SYNC_TM, objKey 0 O.SYNC_WRAP, objKey 0 O.SYNC_COUNT] s t) ∧
    (∀ k, k < 4 → (∀ j, j < 4 → j ≠ k → s.tpdoValid j = false ∨ 240 < s.tpdoType j) → s.tpdoValid k = true →
      1 ≤ s.syncCount k counter → s.syncCount k counter < s.tpdoType k → s.tpdoType k ≤ 240 →
      Answers (.syncFrame (fld (s.get O.COB_ID_SYNC) 0 11) counter) s fun t =>
        kvGet t.can.tpdoSync k = some (s.syncCount k counter) ∧
        t.num O.SYNC_COUNT = (s.num O.SYNC_COUNT + 1) % 2 ^ 32 ∧
        OnlyObjs [objKey 0 O.SYNC_TM, objKey 0 O.SYNC_WRAP, objKey 0 O.SYNC_COUNT]
          { s with can := t.can } t) ∧
    (∀ k, k < 4 → (∀ j, j < 4 → j ≠ k → s.tpdoValid j = false ∨ 240 < s.tpdoType j) → s.tpdoValid k = true →
      1 ≤ s.tpdoType k → s.tpdoType k ≤ s.syncCount k counter → s.tpdoType k ≤ 240 → s.tpdoFreeAt k ≤ s.now →
      s.pdoEntries (0x1A00 + k) = [] → Answers (.syncFrame (fld (s.get O.COB_ID_SYNC) 0 11) counter) s fun t =>
        .canFrame (fld (s.get (O.TPDO_COBID + k * 256)) 0 11) [] ∈ t.sent ∧ kvGet t.can.tpdoSync k = some 0 ∧
        kvGet t.can.tpdoFree k = some (s.now + s.num (O.TPDO_INHIBIT + k * 256) * tenthTicks) ∧
        OnlyObjs [objKey 0 O.SYNC_TM, objKey 0 O.SYNC_WRAP, objKey 0 O.SYNC_COUNT]
          { s with can := t.can } t)) ∧
  (∀ (s : State) (cob : Nat) (counter : Option Nat), cob ≠ fld (s.get O.COB_ID_SYNC) 0 11 →
    Answers (.syncFrame cob counter) s fun t => OnlyObjs [] s t)

/-- O53. USDO transfers and the stored communication objects: initiates open a session or transfer at once, segments go on
with it, aborts and the time-out end it, and stores and restores mark the flash; a session that meets a hub controller restart ends and is recorded after it (R411, R416,
R418, R420, R424, R469, R480 to R482). -/
def Obligations.Transfers : Prop :=
  (∀ (s : State) (i sub : Nat), s.canServes = true →
    let key := i * 256 + sub
    let Abort_ (a : Abort) (op : Nat) (t : State) : Prop := Rejected s t 32 key op a ∧
      .canFrame (0x580 + s.can.nodeId) (0x80#8 :: leBytes 4 a.code.toNat) ∈ t.sent
    (s.hubRestart = true → ∀ size data, Answers (.usdoDownloadInitiate i sub size data) s fun t =>
      t.missed = s.missed ++ [(32, key, 2)] ∧ OnlyObjs [] { s with missed := t.missed } t) ∧
    (s.hubRestart = true → Answers (.usdoUploadInitiate i sub) s fun t =>
      t.missed = s.missed ++ [(32, key, 1)] ∧ OnlyObjs [] { s with missed := t.missed } t) ∧
    (s.hubRestart = false → s.can.usdo.isSome = true →
      (∀ size data, Answers (.usdoDownloadInitiate i sub size data) s fun t => Abort_ .presentState 2 t) ∧
      Answers (.usdoUploadInitiate i sub) s fun t => Abort_ .presentState 1 t) ∧
    (s.hubRestart = false → s.can.usdo = none →
      (∀ size data, 2048 < size → Answers (.usdoDownloadInitiate i sub size data) s fun t =>
        Abort_ ((s.stageErr 32 (s.selected 32) i sub).getD .length) 2 t) ∧
      (∀ size data, size ≤ 2048 → data.length < size → Answers (.usdoDownloadInitiate i sub size data) s fun t =>
        t.can.usdo = some { key, download := true, size, data, last := s.now } ∧
        .canFrame (0x580 + s.can.nodeId) [0x60#8] ∈ t.sent ∧ OnlyObjs [] { s with can := t.can } t) ∧
      (∀ size data u, size ≤ 2048 → size ≤ data.length → usdoWrite (takeTurn s) key (data.take size) = (u, none) →
        Answers (.usdoDownloadInitiate i sub size data) s fun t => OnlyObjs [] u t) ∧
      (∀ size data u a, size ≤ 2048 → size ≤ data.length → usdoWrite (takeTurn s) key (data.take size) = (u, some a) →
        Answers (.usdoDownloadInitiate i sub size data) s fun t => Rejected u t 32 key 2 a) ∧
      (∀ u bs, usdoRead (takeTurn s) key = (u, .ok bs) → bs.length ≤ 56 → Answers (.usdoUploadInitiate i sub) s fun t =>
        OnlyObjs [] u t ∧ (u.Sends → .canFrame (0x580 + u.can.nodeId) (padFd (0x42#8 :: bs)) ∈ t.sent)) ∧
      (∀ u bs, usdoRead (takeTurn s) key = (u, .ok bs) → 56 < bs.length → Answers (.usdoUploadInitiate i sub) s fun t =>
        t.can.usdo = some { key, download := false, size := bs.length, data := bs, last := u.now } ∧
        OnlyObjs [] { u with can := t.can } t) ∧
      (∀ u a, usdoRead (takeTurn s) key = (u, .error a) → Answers (.usdoUploadInitiate i sub) s fun t =>
        Rejected u t 32 key 1 a))) ∧
  (∀ (s : State) (u : Usdo), s.can.usdo = some u → s.canServes = true → s.hubRestart = false →
    (∀ data, u.download = true → (u.data ++ data).length ≤ u.size → Answers (.usdoDownloadSegment data false) s fun t =>
      t.can.usdo = some { u with data := u.data ++ data, last := s.now } ∧
      .canFrame (0x580 + s.can.nodeId) [0x20#8] ∈ t.sent ∧ OnlyObjs [] { s with can := t.can } t) ∧
    (∀ data last, u.download = true → (u.size < (u.data ++ data).length ∨ (last = true ∧ (u.data ++ data).length ≠ u.size)) →
      Answers (.usdoDownloadSegment data last) s fun t =>
        Rejected { s with can := { s.can with usdo := none } } t 32 u.key 2
          ((s.stageErr 32 (s.selected 32) (u.key / 256) (u.key % 256)).getD .length)) ∧
    (∀ data v, u.download = true → (u.data ++ data).length = u.size →
      usdoWrite (takeTurn { s with can := { s.can with usdo := none } }) u.key (u.data ++ data) = (v, none) →
      Answers (.usdoDownloadSegment data true) s fun t => OnlyObjs [] v t) ∧
    (u.download = false → u.data.drop 56 ≠ [] → Answers .usdoUploadSegment s fun t =>
      t.can.usdo = some { u with data := u.data.drop 56, last := s.now } ∧
      .canFrame (0x580 + s.can.nodeId) (padFd (0#8 :: u.data.take 56)) ∈ t.sent ∧ OnlyObjs [] { s with can := t.can } t) ∧
    (u.download = false → u.data.drop 56 = [] → Answers .usdoUploadSegment s fun t =>
      t.can.usdo = none ∧ .canFrame (0x580 + s.can.nodeId) (padFd (1#8 :: u.data.take 56)) ∈ t.sent ∧
      OnlyObjs [] { s with can := t.can } t) ∧
    (Answers .usdoAbortReceived s fun t => OnlyObjs [] { s with can := { s.can with usdo := none } } t) ∧
    (Answers .usdoSessionTimeout s fun t =>
      t.can.usdo = none ∧
      t.obj 32 O.PATH_LAST_ABORT = ofN (u.key * 2 ^ 40 + (if u.download then 2 else 1) * 2 ^ 32 + 0x05040000) ∧
      t.ctxs = s.ctxs ∧ t.mem = s.mem)) ∧
  (∀ (s : State) (u : Usdo), s.can.usdo = some u → s.canServes = true → s.hubRestart = true →
    ∀ i, i = Instr.usdoUploadSegment ∨ (∃ d l, i = .usdoDownloadSegment d l) → Answers i s fun t =>
      t.can.usdo = none ∧ t.missed = s.missed ++ [(32, u.key, if u.download then 2 else 1)] ∧
      OnlyObjs [] { s with can := { s.can with usdo := none }, missed := t.missed } t) ∧
  (∀ s : State, s.can.usdo = none → ∀ i, i = Instr.usdoUploadSegment ∨ i = .usdoSessionTimeout ∨
      (∃ d l, i = .usdoDownloadSegment d l) → Answers i s fun t => OnlyObjs [] s t) ∧
  (∀ (s : State) (p : Nat), Served s p →
    (ownerOf p = s.steward → s.storeBusy = false → Answers (.storeAll p 0x65766173) s fun t =>
      t.can.stored = some s.commNow ∧ t.can.storedFor = s.can.nodeId ∧ t.can.marked = false ∧
      t.storeCopy.isSome = true ∧ t.storeAt = s.cycle ∧ bit (t.get O.DEVICE_STATUS) 6 = true ∧
      OnlyObjs [objKey 0 O.DEVICE_STATUS] { s with can := t.can, storedOld := none, storeCopy := t.storeCopy, storeAt := t.storeAt } t) ∧
    (ownerOf p = s.steward → s.storeBusy = true → Answers (.storeAll p 0x65766173) s fun t =>
      Rejected s t p O.STORE_ALL 2 .presentState) ∧
    (ownerOf p ≠ s.steward → ∀ v, Answers (.storeAll p v) s fun t => Rejected s t p O.STORE_ALL 2 .noPermission) ∧
    (ownerOf p = s.steward → ∀ v, v ≠ 0x65766173 → Answers (.storeAll p v) s fun t =>
      Rejected s t p O.STORE_ALL 2 .range) ∧
    ((ownerOf p = s.steward ∨ p = 32) →
      (Answers (.storeComm p 0x65766173) s fun t =>
        OnlyObjs [] { s with can := { s.can with
          stored := some s.commNow, storedFor := s.can.nodeId, marked := false } } t) ∧
      (∀ v, v ≠ 0x65766173 → Answers (.storeComm p v) s fun t => Rejected s t p O.STORE_COMM 2 .range) ∧
      (Answers (.restoreDefaultsComm p 2 0x64616F6C) s fun t =>
        OnlyObjs [] { s with can := { s.can with marked := true } } t) ∧
      (∀ v, v ≠ 0x64616F6C → Answers (.restoreDefaultsComm p 2 v) s fun t => Rejected s t p (0x101100 + 2) 2 .range)) ∧
    (ownerOf p ≠ s.steward → p ≠ 32 →
      (∀ v, Answers (.storeComm p v) s fun t => Rejected s t p O.STORE_COMM 2 .noPermission) ∧
      ∀ k v, (k = 1 ∨ k = 2) → Answers (.restoreDefaultsComm p k v) s fun t =>
        Rejected s t p (0x101100 + k) 2 .noPermission) ∧
    ((ownerOf p = s.steward ∨ p = 32) →
      (s.storeBusy = false → Answers (.restoreDefaultsComm p 1 0x64616F6C) s fun t =>
        OnlyObjs [] { s with can := { s.can with marked := true }, storeMarked := true } t) ∧
      (s.storeBusy = true → Answers (.restoreDefaultsComm p 1 0x64616F6C) s fun t =>
        Rejected s t p (0x101100 + 1) 2 .presentState)))

/-- O54. Watch and Deep: the steward's commands begin an entry or a wake, an entry waits for a commit or regroup for at most
2.4 ms and suspends every context at its time zero, entries end with dies in Retention or capture memory lost, and the
enabled requests wake from Watch or Deep with their cause, one that comes during the entry after it (R211, R491, R493, R495
to R500, R509). -/
def Obligations.PowerTransitions : Prop :=
  (∀ (s : State) (p : Nat), Served s p →
    (ownerOf p = s.steward → s.get O.POWER_PHASE = 0 →
      (s.alloyMoves = true → Answers (.enterDeep p) s fun t =>
        OnlyObjs [] { s with power := { s.power with
          wakeKept := [], entryAt := s.now / 48
          entry := some (3, (s.power.entry.map Prod.snd).getD (s.now + 96000000)) } } t) ∧
      (s.alloyMoves = false → Answers (.enterDeep p) s fun t =>
        t.get O.POWER_PHASE = 3 ∧ t.power.entry = none ∧ t.power.entryAt = s.now / 48 ∧ t.test = none ∧
        t.testNext = none ∧ t.testDue = [] ∧ SuspendsAll s t) ∧
      (s.dev ≠ .watch → s.alloyMoves = true → Answers (.enterWatch p) s fun t =>
        OnlyObjs [] { s with power := { s.power with
          wakeKept := [], entryAt := s.now / 48
          entry := some (1, (s.power.entry.map Prod.snd).getD (s.now + 96000000)) } } t) ∧
      (s.dev ≠ .watch → s.alloyMoves = false → Answers (.enterWatch p) s fun t =>
        t.get O.POWER_PHASE = 1 ∧ t.power.entry = none ∧ t.power.entryAt = s.now / 48 ∧ t.test = none ∧
        t.testNext = none ∧ t.testDue = [] ∧ SuspendsAll s t) ∧
      (s.dev = .watch → Answers (.enterWatch p) s fun t => OnlyObjs [] s t) ∧
      (s.dev = .watch → Answers (.leaveWatch p) s fun t =>
        t.get O.POWER_PHASE = 2 ∧ t.get O.WAKE_CAUSE = 1 ∧ t.get O.WAKE_INPUT = 0xFF ∧ t.power.wakeAt = s.now ∧
        t.get O.WAKE_TM = tmOf ((s.now + 24) / 48 * 48) ∧
        OnlyObjs [objKey 0 O.POWER_PHASE, objKey 0 O.WAKE_CAUSE, objKey 0 O.WAKE_INPUT, objKey 0 O.WAKE_TM
          , objKey 0 O.WAKE_WRAP] { s with power := t.power } t) ∧
      (s.dev ≠ .watch → Answers (.leaveWatch p) s fun t => Rejected s t p O.POWER_CMD 2 .presentState)) ∧
    (ownerOf p = s.steward → s.get O.POWER_PHASE ≠ 0 →
      ∀ i, i = Instr.enterDeep p ∨ i = .enterWatch p ∨ i = .leaveWatch p →
        Answers i s fun t => Rejected s t p O.POWER_CMD 2 .presentState) ∧
    (ownerOf p ≠ s.steward → ∀ i, i = Instr.enterDeep p ∨ i = .enterWatch p ∨ i = .leaveWatch p →
        Answers i s fun t => Rejected s t p O.POWER_CMD 2 .noPermission)) ∧
  (∀ s : State, s.power.entry = none → s.starting = false → s.bursting = false → s.suspending = false →
    (s.get O.POWER_PHASE = 1 → s.power.wakeKept = [] → Answers .watchEntryDone s fun t =>
      t.dev = .watch ∧ t.get O.POWER_PHASE = 0 ∧ t.power.watchAt = s.now ∧
      (∀ d, d < s.D → d < s.dies.length → ((s.die d).st = .active ∨ (s.die d).st = .reserve) →
        (t.die d).st = .retention ∧ (t.die d).counterFrom = none ∧ (t.die d).failed = (s.die d).failed) ∧
      (2 ≤ s.power.domains.length → t.domain 2 = 0) ∧ t.mem = s.mem ∧ t.raster.st ≠ 1 ∧
      (s.cal.st ≠ .ramping → t.ctxs = s.ctxs) ∧
      (∀ ch c, s.chan ch = some c → ∃ c', t.chan ch = some c' ∧
        c'.st = (if c.st = .running ∧ moverOf ch ≤ s.D then .parked else c.st))) ∧
    (s.get O.POWER_PHASE = 3 → Answers .deepEntryDone s fun t =>
      t.dev = .deep ∧ t.mem = [] ∧ t.chans = [] ∧ t.plans = [] ∧ t.bufs = [] ∧ t.ports = [] ∧
      t.num O.DEEP_ENTRIES = satN 32 (s.num O.DEEP_ENTRIES + 1) ∧ t.power.deepFrom = s.now ∧
      (∀ h ∈ t.halves, h.poison = []) ∧ (∀ d ∈ t.dies, d.st ≠ .active ∧ d.st ≠ .reserve ∧ d.st ≠ .retention) ∧
      (s.num O.CXL_LINK_WIDTH = 0 → t.faults.flushed = t.faults.log.length ∧
        ∃ e, t.faults.log.getLast? = some e ∧ e.bit = 0xFD)) ∧
    (s.get O.POWER_PHASE ≠ 1 → Answers .watchEntryDone s fun t => OnlyObjs [] s t) ∧
    (s.get O.POWER_PHASE ≠ 3 → Answers .deepEntryDone s fun t => OnlyObjs [] s t)) ∧
  (∀ s : State, s.power.entry = none → (s.bursting = true ∨ s.suspending = true) →
    Answers .watchEntryDone s (fun t => OnlyObjs [] s t) ∧ Answers .deepEntryDone s (fun t => OnlyObjs [] s t)) ∧
  (∀ (s : State) (n : Nat) (rising : Bool), s.starting = false → n < s.D → bit (s.get (O.WAKE_EDGE_n + n)) 31 = true →
    (fld (s.get (O.WAKE_EDGE_n + n)) 24 2 = 2 ∨ fld (s.get (O.WAKE_EDGE_n + n)) 24 2 = (if rising then 0 else 1)) →
    (s.dev = .watch → s.get O.POWER_PHASE = 0 → Answers (.wakeEdge n rising) s fun t =>
      t.get O.POWER_PHASE = 2 ∧ t.get O.WAKE_CAUSE = 2 ∧ t.num O.WAKE_INPUT = n ∧ t.ctxs = s.ctxs ∧ t.mem = s.mem) ∧
    (s.get O.POWER_PHASE = 1 → Answers (.wakeEdge n rising) s fun t =>
      OnlyObjs [] { s with power := { s.power with wakeKept := s.power.wakeKept ++
        [{ at_ := s.now, cause := 2, input := n }] } } t) ∧
    (s.get O.POWER_PHASE = 3 → Answers (.wakeEdge n rising) s fun t => OnlyObjs [] s t)) ∧
  (∀ (s : State) (n : Nat) (rising : Bool), bit (s.get (O.WAKE_EDGE_n + n)) 31 = false →
    Answers (.wakeEdge n rising) s fun t => OnlyObjs [] s t) ∧
  (∀ s : State, s.starting = false → s.dev = .watch → s.get O.POWER_PHASE = 0 → s.num O.WAKE_TIMER_MS ≠ 0 →
    Answers .wakeTimerExpiry s fun t =>
      t.get O.POWER_PHASE = 2 ∧ t.get O.WAKE_CAUSE = 4 ∧ t.get O.WAKE_INPUT = 0xFF ∧ t.ctxs = s.ctxs ∧ t.mem = s.mem ∧
      t.dies = s.dies) ∧
  (∀ (s : State) (ticks cause : Nat) (i : Instr), s.dev = .deep → s.starting = false →
    (i = .deepTimerExpiry ∧ cause = 4 ∧ ticks = s.num O.DEEP_TIMER_S * 32768 ∧ s.num O.DEEP_TIMER_S ≠ 0 ∧
        bit (s.get O.DEEP_WAKE_MASK) 1 = true ∨
      i = .deepTriginWake ticks ∧ cause = 3 ∧ bit (s.get O.DEEP_WAKE_MASK) 2 = true ∨
      i = .canDominantWake ticks ∧ cause = 6 ∧ bit (s.get O.DEEP_WAKE_MASK) 3 = true) →
    Answers i s fun t =>
      t.starting = true ∧ t.power.startKind = 2 ∧ t.power.startCause = cause ∧ t.dev = .deep ∧
      t.counter = BitVec.ofNat 55 (s.afterDeep ticks) ∧ t.wraps = BitVec.ofNat 16 (s.afterDeep ticks / 2 ^ 55) ∧
      t.power.deepExit = s.afterDeep ticks ∧ t.power.wakePin = s.power.wakePin ∧
      (s.power.domains = List.replicate 15 0 → t.power.queue = s.startOrder) ∧
      t.mem = s.mem ∧ t.ctxs = s.ctxs ∧ t.dies = s.dies) ∧
  (∀ (s : State) (ticks : Nat), s.dev ≠ .deep → s.get O.POWER_PHASE = 3 → s.now / 48 ≠ s.power.entryAt →
    (bit (s.get O.DEEP_WAKE_MASK) 2 = true → Answers (.deepTriginWake ticks) s fun t =>
      OnlyObjs [] { s with power := { s.power with wakeKept := s.power.wakeKept ++
        [{ at_ := s.now, cause := 3, input := 0xFF }] } } t) ∧
    (bit (s.get O.DEEP_WAKE_MASK) 3 = true → Answers (.canDominantWake ticks) s fun t =>
      OnlyObjs [] { s with power := { s.power with wakeKept := s.power.wakeKept ++
        [{ at_ := s.now, cause := 6, input := 0xFF }] } } t)) ∧
  (∀ s : State, ∀ i, (i = Instr.deepTimerExpiry ∧ bit (s.get O.DEEP_WAKE_MASK) 1 = false ∨
      (∃ n, i = .deepTriginWake n) ∧ bit (s.get O.DEEP_WAKE_MASK) 2 = false ∨
      (∃ n, i = .canDominantWake n) ∧ bit (s.get O.DEEP_WAKE_MASK) 3 = false) → Answers i s fun t => OnlyObjs [] s t) ∧
  (∀ s : State,
    (s.power.wakePin = true → Answers .wakePinRelease s fun t =>
      .wakePin false ∈ t.sent ∧ OnlyObjs [] { s with power := { s.power with wakePin := false } } t) ∧
    (s.power.wakePin = false → Answers .wakePinRelease s fun t => OnlyObjs [] s t))

/-- O55. Starts and the mains: mains on and PERST# begin starts, domains are admitted under the budget and come up, a
start completes on a valid bank, and dips, the hold-up's end and the supply's shutdown are recorded (R34, R488, R489,
R497, R501, R552 to R554). -/
def Obligations.StartsAndMains : Prop :=
  (∀ s : State, s.starting = false → s.dev = .off → Answers .mainsOn s fun t =>
    t.starting = true ∧ t.power.startKind = 1 ∧ t.power.startCause = 7 ∧ t.counter = 0 ∧ t.wraps = 0 ∧
    t.power.startFrom = 0 ∧ (s.power.domains = List.replicate 15 0 → t.power.queue = s.startOrder) ∧
    OnlyObjs [] { s with
      starting := true, counter := 0, wraps := 0, power := t.power
      fw := { s.fw with attempt := 0, watchdog := false } } t) ∧
  (∀ s : State, (s.dev ≠ .off ∨ s.starting = true) → Answers .mainsOn s fun t => OnlyObjs [] s t) ∧
  (∀ (s : State) (x : Nat) (r : List Nat), s.power.queue = x :: r → 1 ≤ x → x ≤ 15 → s.power.domains.length = 15 →
    (s.projected + (domainMa x).2.1 + (domainMa x).2.2 ≤ s.num O.SEQ_BUDGET_MA → Answers .domainStartAdmit s fun t =>
      t.power.queue = r ∧ t.domain x = 3 ∧ t.power.lastPeak = (domainMa x).2.1 ∧ t.power.lastAt = t.now ∧
      t.power.waited = false ∧ (∀ y, 1 ≤ y → y ≠ x → t.domain y = s.domain y) ∧ t.ctxs = s.ctxs ∧ t.mem = s.mem ∧
      t.dies = s.dies) ∧
    (s.num O.SEQ_BUDGET_MA < s.projected + (domainMa x).2.1 + (domainMa x).2.2 → s.power.waited = false →
      Answers .domainStartAdmit s fun t =>
        t.power.queue = x :: r ∧ t.power.waited = true ∧ bit (t.get O.POWER_STATUS) 5 = true ∧
        t.num O.SEQ_BUDGET_WAITS = satN 32 (s.num O.SEQ_BUDGET_WAITS + 1) ∧ t.power.domains = s.power.domains ∧
        t.ctxs = s.ctxs ∧ t.mem = s.mem) ∧
    (s.num O.SEQ_BUDGET_MA < s.projected + (domainMa x).2.1 + (domainMa x).2.2 → s.power.waited = true →
      s.power.lastPeak = 0 → Answers .domainStartAdmit s fun t => OnlyObjs [] s t)) ∧
  (∀ s : State, s.power.queue = [] → Answers .domainStartAdmit s fun t => OnlyObjs [] s t) ∧
  (∀ (s : State) (x : Nat), x ∈ s.domainsHeld → s.domain x = 3 → s.power.domains.length = 15 →
    (s.get O.POWER_PHASE ≠ 2 →
      (x < 4 → Answers (.domainStarted x) s fun t =>
        t.domain x = 4 ∧ (∀ y, 1 ≤ y → y ≠ x → t.domain y = s.domain y) ∧
        OnlyObjs [] { s with power := t.power } t) ∧
      (12 ≤ x → x - 12 < s.hbm.length → Answers (.domainStarted x) s fun t =>
        t.domain x = 4 ∧ (∀ y, 1 ≤ y → y ≠ x → t.domain y = s.domain y) ∧ (t.stack (x - 12)).st = 2 ∧
        (∀ k, k ≠ x - 12 → t.stack k = s.stack k) ∧ OnlyObjs [] { s with power := t.power, hbm := t.hbm } t) ∧
      (4 ≤ x → x < 12 → x - 4 < s.dies.length → ((s.die (x - 4)).st = .retention ∨ (s.die (x - 4)).st = .off) →
        Answers (.domainStarted x) s fun t =>
          t.domain x = 4 ∧ (t.die (x - 4)).st = .active ∧ (t.die (x - 4)).counterFrom = some s.epochStart ∧
          (∀ e, e ≠ x - 4 → t.die e = s.die e) ∧ t.inputs = s.inputs ∧
          ((∀ q ∈ s.chans, moverOf q.1 = x - 3 → q.2.byPower = false ∧ q.2.st ≠ .running) → t.ctxs = s.ctxs))) ∧
    (s.get O.POWER_PHASE = 2 → s.dev = .watch → s.power.queue = [] →
      (∀ y, 1 ≤ y → y ≤ 15 → y ≠ x → s.domain y ≠ 3) → Answers (.domainStarted x) s fun t =>
        t.get O.POWER_PHASE = 0 ∧ t.domain x = 4 ∧ bit (t.get O.POWER_STATUS) 1 = true ∧ t.dev ≠ .watch)) ∧
  (∀ (s : State) (rep : StartReport), s.starting = true → s.power.startHeld = false →
    let Up (k : Nat) (t : State) : Prop :=
      t.starting = false ∧ t.fw.inForce = k ∧
      (s.power.startKind = 2 → s.power.startCause ≠ 5 → t.power.wakePin = true ∧ .wakePin true ∈ t.sent) ∧
      (rep = { rep with failedDies := [], failedSlices := [], failedEvals := [], failedChecks := [], failedLanes := []
                        failedPcs := [], failedLoops := [], failedInputs := [], failedTrims := []
                        noController := [] } →
        t.dev = .ready ∧ t.ctxs = [] ∧ t.chans = [] ∧ t.bufs = [] ∧ t.num O.BOOT_KIND = s.power.startKind % 2 ^ 64 ∧
        t.mem = (if s.power.startKind = 3 then s.mem else []))
    (rep.bank ∈ s.bootBanks → Answers (.startComplete rep) s fun t => Up rep.bank t) ∧
    (∀ k, rep.bank ∉ s.bootBanks → s.bootBanks.head? = some k → Answers (.startComplete rep) s fun t => Up k t) ∧
    (s.bootBanks = [] → Answers (.startComplete rep) s fun t => OnlyObjs [] s t) ∧
    (s.bootBanks ≠ [] → Answers .bootWatchdog s fun t =>
      OnlyObjs [] { s with fw := { s.fw with attempt := s.fw.attempt + 1, watchdog := true } } t)) ∧
  (∀ s : State, s.starting = false → (∀ rep, Answers (.startComplete rep) s fun t => OnlyObjs [] s t) ∧
    Answers .bootWatchdog s fun t => OnlyObjs [] s t) ∧
  (∀ (s : State) (ms : Nat), (s.dev ≠ .off ∨ s.starting = true) →
    (s.power.failing = false → 2 ≤ ms → Answers (.mainsDipEnd ms) s fun t =>
      t.num O.MAINS_DIPS = satN 32 (s.num O.MAINS_DIPS + 1) ∧
      t.num O.MAINS_LONGEST_MS = satN 16 (max ms (s.num O.MAINS_LONGEST_MS)) ∧
      bit (t.get O.POWER_STATUS) 4 = true ∧ bit (t.get O.TARNISH) 27 = true ∧ t.ctxs = s.ctxs ∧ t.mem = s.mem) ∧
    (ms < 2 → Answers (.mainsDipEnd ms) s fun t => OnlyObjs [] s t) ∧
    (Answers .holdupEnd s fun t =>
      t.power.failing = true ∧ t.faults.flushed = t.faults.log.length ∧
      (∃ e, t.faults.log.getLast? = some e ∧ e.bit = 0xFE) ∧
      OnlyObjs [] { s with power := { s.power with failing := true }, faults := t.faults } t)) ∧
  (∀ s : State, s.power.failing = true → Answers .supplyShutdown s fun t =>
    t.dev = .off ∧ t.starting = false ∧ t.ctxs = [] ∧ t.mem = [] ∧ t.chans = [] ∧ t.bufs = [] ∧
    t.power.failing = false ∧ (∀ d ∈ t.dies, d.st = .off ∨ d.st = .retired) ∧
    t.faults.log = s.faults.log.take s.faults.flushed ∧ t.stored = s.stored) ∧
  (∀ s : State, s.power.failing = false → Answers .supplyShutdown s fun t => OnlyObjs [] s t) ∧
  (∀ s : State,
    (s.power.perst = true → Answers .perstAssert s fun t => OnlyObjs [] s t) ∧
    (s.power.perst = false → s.starting = true → Answers .perstAssert s fun t =>
      OnlyObjs [] { s with power := { s.power with perst := true, startHeld := true } } t) ∧
    (s.power.perst = false → s.starting = false → (s.dev = .deep ∨ s.dev = .off) → Answers .perstAssert s fun t =>
      OnlyObjs [] { s with power := { s.power with perst := true } } t) ∧
    (s.power.perst = false → s.starting = false → s.dev ≠ .deep → s.dev ≠ .off → Answers .perstAssert s fun t =>
      t.power.perst = true ∧ t.power.perstReset = true ∧ Suspends 16 s t ∧
      (s.num O.CXL_LINK_WIDTH ≠ 0 → bit (t.get O.CXL_STATUS) 0 = false ∧
        ∀ l, l < 16 → (s.ld l).st = .enabled → (t.ld l).st = .disabling ∧ Suspends l s t))) ∧
  (∀ (s : State) (ticks : Nat), s.power.perst = true →
    (s.dev = .deep → s.starting = false → Answers (.perstDeassert ticks) s fun t =>
      t.starting = true ∧ t.power.startKind = 2 ∧ t.power.startCause = 5 ∧ t.power.perst = false ∧
      t.counter = BitVec.ofNat 55 (s.afterDeep ticks) ∧ t.mem = s.mem) ∧
    ((s.dev ≠ .deep ∨ s.starting = true) → s.power.startHeld = true → Answers (.perstDeassert ticks) s fun t =>
      t.starting = true ∧ t.power.startKind = s.power.startKind ∧ t.power.perst = false ∧ t.power.startHeld = false ∧
      t.mem = s.mem) ∧
    (s.dev ≠ .deep → s.power.startHeld = false → s.power.perstReset = true → Answers (.perstDeassert ticks) s fun t =>
      OnlyObjs [] { s with
        starting := true, power := t.power, fw := { s.fw with attempt := 0, watchdog := false } } t ∧
      t.power.startKind = 3 ∧ t.power.startCause = 5 ∧ t.power.perst = false ∧
      (∀ x, (s.domain x = 3 ∨ s.domain x = 4) → t.domain x = s.domain x)) ∧
    (s.dev ≠ .deep → s.power.startHeld = false → s.power.perstReset = false → Answers (.perstDeassert ticks) s fun t =>
      OnlyObjs [] { s with power := { s.power with perst := false } } t)) ∧
  (∀ (s : State) (k : Nat) (rep : StartReport), s.starting = true → s.power.startHeld = false → rep.bank = k →
    k ∈ s.bootBanks → rep.noController = [0] → rep.failedDies = [] → 2 ≤ s.D → s.halves.length = 8 →
    s.hbm.length = 4 → Answers (.startComplete rep) s fun t => t.starting = false ∧ (t.stack 0).st = 4) ∧
  (∀ (s : State) (ticks : Nat), s.power.perst = false → Answers (.perstDeassert ticks) s fun t => OnlyObjs [] s t)

/-- O56. References and clock loops: a reference is chosen, lost and validated with its switch, a loss gates both reference
loops whether it is in use or not, the internal oscillator's failure is recorded, and loops lock, stand by, restart, fail and hand over (R502 to R509, R522, R526). -/
def Obligations.ReferencesAndLoops : Prop :=
  (∀ (s : State) (p : Nat) (v : Slot), Served s p →
    let u : State := { s.put O.REF_SELECT v with power := { s.power with extTaken := true } }
    (ownerOf p = s.steward → v.toNat ≤ 3 →
      (s.num O.REF_IN_USE = u.refWanted → s.power.noRef = false → Answers (.refSelectWrite p v) s fun t =>
        t.get O.REF_SELECT = v ∧
        OnlyObjs [objKey 0 O.REF_SELECT] { s with power := { s.power with extTaken := true } } t) ∧
      (s.awake = true → s.num O.REF_IN_USE ≠ u.refWanted → (u.refWanted ≠ 0 ∨ s.power.intFailed = false) →
        Answers (.refSelectWrite p v) s fun t =>
          t.get O.REF_SELECT = v ∧ t.num O.REF_IN_USE = u.refWanted ∧ bit (t.get O.REF_STATUS) 0 = true ∧
          t.power.noRef = false ∧ t.mem = s.mem)) ∧
    (ownerOf p = s.steward → 3 < v.toNat → Answers (.refSelectWrite p v) s fun t =>
      Rejected s t p O.REF_SELECT 2 .range) ∧
    (ownerOf p ≠ s.steward → Answers (.refSelectWrite p v) s fun t => Rejected s t p O.REF_SELECT 2 .noPermission)) ∧
  (∀ (s : State) (off : Bool) (m : Nat), s.awake = true → s.power.extValid = some m →
    (s.num O.REF_IN_USE = 0 → Answers (.extRefLoss off) s fun t =>
      bit (t.get O.REF_STATUS) (if off then 2 else 1) = true ∧ t.power.extValid = none ∧ t.power.extPresent = off ∧
      t.num O.REF_LOSSES = satN 32 (s.num O.REF_LOSSES + 1) ∧ bit (t.get O.TARNISH) 14 = true ∧
      t.can.queue = s.can.queue ∧ t.num O.REF_IN_USE = 0 ∧ t.ctxs = s.ctxs ∧ t.mem = s.mem) ∧
    (8 < s.power.loops.length → 2 ≤ (s.loops 8).length → Answers (.extRefLoss off) s fun t =>
      ∀ l, l < 2 → (t.loop 8 l).st = (if (s.loop 8 l).st = 5 then 5 else 4)) ∧
    (s.num O.REF_IN_USE ≠ 0 → Answers (.extRefLoss off) s fun t =>
      t.power.extValid = none ∧ t.power.extTaken = false ∧ t.num O.REF_IN_USE = 0 ∧
      t.num O.REF_LOSSES = satN 32 (s.num O.REF_LOSSES + 1) ∧ bit (t.get O.REF_STATUS) 3 = true ∧
      bit (t.get O.TARNISH) 14 = true ∧ (s.power.intFailed = true → t.power.noRef = true ∧
        (s.restarting = false → SuspendsAll s t)))) ∧
  (∀ (s : State) (off : Bool), s.power.extValid = none → Answers (.extRefLoss off) s fun t => OnlyObjs [] s t) ∧
  (∀ (s : State) (m : Nat), s.awake = true → (m = 10 ∨ m = 100) →
    let u : State := { s with power := { s.power with extValid := some m, extPresent := true } }
    (u.refWanted = 0 → Answers (.extRefValidated m) s fun t => OnlyObjs [] u t) ∧
    (u.refWanted ≠ 0 → s.num O.REF_IN_USE ≠ u.refWanted → Answers (.extRefValidated m) s fun t =>
      t.num O.REF_IN_USE = u.refWanted ∧ t.power.extValid = some m ∧ t.power.noRef = false ∧
      bit (t.get O.REF_STATUS) 0 = true) ∧
    (u.refWanted ≠ 0 → s.num O.REF_IN_USE = u.refWanted → Answers (.extRefValidated m) s fun t =>
      OnlyObjs [] { s with power := { s.power with extValid := some m, extPresent := true, noRef := false } } t)) ∧
  (∀ s : State, s.awake = true → s.num O.REF_IN_USE = 0 → s.power.noRef = false → Answers .internalOscFail s fun t =>
    t.power.intFailed = true ∧ bit (t.get O.TARNISH) 15 = true ∧
    (s.power.extValid = none → t.power.noRef = true ∧ (s.restarting = false → SuspendsAll s t)) ∧
    (∀ m, s.power.extValid = some m → t.num O.REF_IN_USE = (if m = 10 then 1 else 2))) ∧
  (∀ (s : State) (x l : Nat), s.loopUnit x l = true → x < s.power.loops.length → l < (s.loops x).length →
    let v := s.loop x l
    let w := s.loop x (loopPartner l)
    (v.st = 1 → w.st ≠ 2 → Answers (.loopLockDeclared x l) s fun t => OnlyObjs [] (s.setLoop x l { v with st := 2 }) t) ∧
    (v.st = 1 → w.st = 2 → Answers (.loopStandbyReady x l) s fun t => OnlyObjs [] (s.setLoop x l { v with st := 3 }) t) ∧
    (v.st = 4 → (x ≠ 8 ∨ 2 ≤ l ∨ s.power.extValid.isSome = true) → Answers (.loopRestart x l) s fun t =>
      OnlyObjs [] (s.setLoop x l { v with st := 1 }) t) ∧
    (v.st = 1 → Answers (.loopLockTimeout x l) s fun t =>
      (t.loop x l).st = 5 ∧ (t.loop x l).losses = v.losses ∧ bit (t.get O.TARNISH) 13 = true ∧
      (w.st = 2 → bit (t.get O.POWER_STATUS) 3 = true) ∧ t.ctxs = s.ctxs ∧ t.mem = s.mem) ∧
    (v.st = 3 → v.losses < 2 → Answers (.loopLockLoss x l) s fun t =>
      OnlyObjs [] (s.setLoop x l { st := 4, losses := v.losses + 1 }) t) ∧
    (v.st = 3 → 2 ≤ v.losses → Answers (.loopLockLoss x l) s fun t =>
      (t.loop x l).st = 5 ∧ bit (t.get O.TARNISH) 13 = true ∧ t.ctxs = s.ctxs ∧ t.mem = s.mem) ∧
    (v.st = 2 → w.st = 3 → loopPartner l < (s.loops x).length → Answers (.loopLockLoss x l) s fun t =>
      (t.loop x (loopPartner l)).st = 2 ∧ (t.loop x l).st = (if v.losses < 2 then 4 else 5) ∧
      t.num O.LOOP_HANDOVERS = satN 32 (s.num O.LOOP_HANDOVERS + 1) ∧ bit (t.get O.POWER_STATUS) 2 = true ∧
      bit (t.get O.TARNISH) (if l < 2 then 11 else 12) = true ∧
      (∃ e ∈ t.can.queue, e.code = 0xFF30 ∧ e.b0 = (if x = 8 then 0xFF else x) ∧ e.b1 = 0xFF ∧
        e.detail = (if l < 2 then 0 else 1)) ∧ t.ctxs = s.ctxs ∧ t.mem = s.mem) ∧
    (v.st = 2 → w.st ≠ 3 → x = 8 → Answers (.loopLockLoss x l) s fun t =>
      OnlyObjs [] (s.setLoop x l { st := if v.losses < 2 then 4 else 5, losses := v.losses + 1 }) t) ∧
    (v.st = 2 → w.st ≠ 3 → x < s.D → x < s.dies.length → (s.die x).st = .active → s.restarting = false →
      Answers (.loopLockLoss x l) s fun t => (t.die x).st = .lost) ∧
    (v.st ≠ 1 → ∀ i, i = Instr.loopLockDeclared x l ∨ i = .loopStandbyReady x l ∨ i = .loopLockTimeout x l →
      Answers i s fun t => OnlyObjs [] s t) ∧
    (v.st ≠ 4 → Answers (.loopRestart x l) s fun t => OnlyObjs [] s t))

/-- O57. The fault supervisor: CRC failures reach lane failures, evaluator tests pass or fail an evaluator, lockstep
mismatches restart a pair and the restart's end answers what it met, and faults and polishes change the tarnish word and
its log, a polish no bit that sets in its core cycle (R473, R523 to R525, R528 to R530, R534 to R536, R540). -/
def Obligations.FaultSupervisor : Prop :=
  (∀ (s : State) (k lane : Nat), k < 2 * s.D → lane < 6 → s.running = true → k / 2 ∉ s.faults.downLinks →
    let live := s.faults.lanes.filter fun e => decide (s.now ≤ e.2.2 + msTicks)
    let hits := (live ++ [(k, lane, s.now)]).countP fun e => e.1 == k && e.2.1 == lane
    let n := (kvGet s.faults.linkFail k).getD 0
    (hits < s.num O.LANE_FAIL_LIMIT → Answers (.flitCrcFail k lane) s fun t =>
      t.num (O.LINK_CRC_k + k) = satN 32 (s.num (O.LINK_CRC_k + k) + 1) ∧
      t.num (O.LINK_REPLAYS_k + k) = satN 32 (s.num (O.LINK_REPLAYS_k + k) + 1) ∧
      OnlyObjs [objKey 0 (O.LINK_CRC_k + k), objKey 0 (O.LINK_REPLAYS_k + k)]
        { s with faults := { s.faults with lanes := live ++ [(k, lane, s.now)] } } t) ∧
    (s.num O.LANE_FAIL_LIMIT ≤ hits → Answers (.flitCrcFail k lane) s fun t =>
      kvGet t.faults.linkFail k = some (n + 1) ∧ (n < 2 → bit (t.get O.TARNISH) 4 = true) ∧
      (2 ≤ n → bit (t.get O.TARNISH) 5 = true ∧ k / 2 ∈ t.faults.downLinks))) ∧
  (∀ (s : State) (d e : Nat) (agree ok : Bool), d < s.D → e < 8 → s.running = true →
    (s.num O.SELFTEST_ENABLE = 1 ∨ ∃ g ∈ s.faults.pairTest, 8 * d + e ∈ g.2) →
    ((s.die d).st = .active ∨ (s.die d).st = .reserve) → d ∉ s.faults.checkFailed → 8 * d + e ∉ s.faults.evalFailed →
    (agree = true → (∀ g ∈ s.faults.pairTest, g.2.filter (· ≠ 8 * d + e) ≠ []) → Answers (.evalTestWindowEnd d e agree ok) s fun t =>
      kvGet t.faults.lastPass (8 * d + e) = some (s.now - s.num O.EVAL_TEST_MS * msTicks / 8) ∧
      OnlyObjs [] { s with faults := t.faults } t) ∧
    (agree = false → s.restarting = true → Answers (.evalTestWindowEnd d e agree ok) s fun t =>
      OnlyObjs [] { s with faults := { s.faults with evalHeld := s.faults.evalHeld ++ [(d, e, ok)] } } t) ∧
    (agree = false → s.restarting = false → ok = true → Answers (.evalTestWindowEnd d e agree ok) s fun t =>
      8 * d + e ∈ t.faults.evalFailed ∧ bit (t.get O.TARNISH) 20 = true) ∧
    (agree = false → s.restarting = false → ok = false → Answers (.evalTestWindowEnd d e agree ok) s fun t =>
      d ∈ t.faults.checkFailed ∧ bit (t.get O.TARNISH) 20 = true ∧ t.ctxs = s.ctxs ∧ t.mem = s.mem)) ∧
  (∀ (s : State) (d e : Nat) (agree ok : Bool), s.num O.SELFTEST_ENABLE ≠ 1 →
    (∀ g ∈ s.faults.pairTest, 8 * d + e ∉ g.2) →
    Answers (.evalTestWindowEnd d e agree ok) s fun t => OnlyObjs [] s t) ∧
  (∀ s : State, s.awake = true →
    (Answers (.lockstepMismatch false) s fun t =>
      t.hubRestart = true ∧ t.supRestart = s.supRestart ∧ t.faults.hubMismatch = true ∧ bit (t.get O.DEVICE_STATUS) 5 = true ∧
      bit (t.get O.TARNISH) 16 = true ∧ (∃ e, t.faults.log.getLast? = some e ∧ e.bit = 16) ∧
      t.can.queue = s.can.queue ∧ t.ctxs = s.ctxs ∧ t.mem = s.mem) ∧
    (Answers (.lockstepMismatch true) s fun t =>
      t.supRestart = true ∧ t.hubRestart = s.hubRestart ∧ t.faults.hubMismatch = s.faults.hubMismatch ∧ bit (t.get O.TARNISH) 16 = true ∧
      t.can.queue = s.can.queue ∧ t.ctxs = s.ctxs ∧ t.mem = s.mem) ∧
    (∀ phase, Answers (.powerPhaseFail phase) s fun t =>
      bit (t.get O.TARNISH) 17 = true ∧ (∃ e, t.faults.log.getLast? = some e ∧ e.bit = 17 ∧ e.fault = true) ∧
      t.faults.openEvents = s.faults.openEvents ++ [(17, s.cycle)] ∧
      OnlyObjs [objKey 0 O.TARNISH] { s with faults := t.faults } t)) ∧
  (∀ s : State, s.restarting = true → s.deferred = [] → s.faults.evalHeld = [] → Answers .hubRestartDone s fun t =>
    t.hubRestart = false ∧ t.supRestart = false ∧ t.missed = []) ∧
  (∀ (s : State) (p k op : Nat), s.hubRestart = true → s.missed = [(p, k, op)] → s.deferred = [] → s.mailboxes = [] →
    s.faults.held = [] → s.faults.evalHeld = [] → (∀ i b, s.dirLoad i b ≤ s.dirCap i b) → Answers .hubRestartDone s fun t =>
      Aborted s t p k op .service ∧ Waits 0xFF40 0 t ∧ t.missed = [] ∧
      OnlyObjs (abortKeys p) { s with hubRestart := false, supRestart := false, missed := [], can := t.can } t) ∧
  (∀ s : State, s.restarting = false → Answers .hubRestartDone s fun t => OnlyObjs [] s t) ∧
  (∀ (s : State) (d n : Nat) (a : AuditWindow), d < s.D → s.running = true → s.num O.SELFTEST_ENABLE = 1 →
    ((s.die d).st = .active ∨ (s.die d).st = .reserve) → (s.die d).measuring = false → (s.die d).gap = false →
    (s.die d).spares ≠ [] → s.inputOfDie d = some n →
    (shadowCause a = none → Answers (.phaseAuditWindowEnd d a) s fun t =>
      kvGet t.faults.inputPass n = some (s.now - 3000000) ∧
      kvGet t.faults.phases d = some (((kvGet s.faults.phases d).getD 0 + 1) % 8) ∧
      OnlyObjs [] { s with faults := t.faults } t) ∧
    ((shadowCause a).isSome = true → Answers (.phaseAuditWindowEnd d a) s fun t =>
      kvGet t.faults.phases d = some (((kvGet s.faults.phases d).getD 0 + 1) % 8) ∧
      bit (t.get O.TARNISH) 22 = true ∧ t.num O.SUSPECT_COUNT = (s.num O.SUSPECT_COUNT + 1) % 2 ^ 32 ∧
      t.ctxs = s.ctxs ∧ t.mem = s.mem)) ∧
  (∀ (s : State) (p : Nat) (v : Slot), Served s p →
    (ownerOf p = s.steward → Answers (.tarnishPolish p v) s fun t =>
      (∀ b, b < 64 → (bit (t.get O.TARNISH) b = true ↔ bit (s.get O.TARNISH) b = true ∧
        (bit (v &&& ofN tarnishMask) b = false ∨ kvGet s.faults.setIn b = some s.cycle))) ∧
      (∀ e ∈ s.faults.openEvents, bit (v &&& ofN tarnishMask) e.1 = false → e ∈ t.faults.openEvents) ∧
      (∀ e ∈ t.faults.openEvents, e ∈ s.faults.openEvents ∧
        (bit (v &&& ofN tarnishMask) e.1 = true → kvGet s.faults.setIn e.1 = some s.cycle ∧ e.2 = s.cycle)) ∧
      (t.faults.hubMismatch = true ↔ s.faults.hubMismatch = true ∧
        (bit (v &&& ofN tarnishMask) 16 = false ∨ kvGet s.faults.setIn 16 = some s.cycle)) ∧
      t.faults.log = s.faults.log ∧
      OnlyObjs [objKey 0 O.TARNISH] { s with faults := t.faults, can := t.can } t) ∧
    (ownerOf p ≠ s.steward → Answers (.tarnishPolish p v) s fun t => Rejected s t p O.TARNISH 2 .noPermission)) ∧
  (∀ s : State, s.dev ≠ .off → s.dev ≠ .deep → Answers .flogFlush s fun t =>
    OnlyObjs [] { s with faults := { s.faults with flushed := s.faults.log.length } } t)

/-- O58. Input-path tests and ternary capture: a test that falls due starts or waits, its end records the result and
starts the next, and a capture is set up, begun where a byte of its stream begins, ended or cancelled (R30, R529, R530, R540, R545, R587 to R589). -/
def Obligations.TestsAndCapture : Prop :=
  (∀ (s : State) (n : Nat), n < s.D → s.running = true → s.num O.SELFTEST_ENABLE = 1 →
    (s.test = none → s.testNext = none →
      (((s.input n).st = .absorbed ∨ (s.input n).st = .dark ∨ (s.input n).st = .changing) →
        Answers (.inputTestDue n) s fun t =>
          t.num (O.PTEST_RESULT_n + n) = 3 ∧ OnlyObjs [objKey 0 (O.PTEST_RESULT_n + n)] s t) ∧
      ((s.input n).st ≠ .absorbed → (s.input n).st ≠ .dark → (s.input n).st ≠ .changing → s.busyInput n = false →
        Answers (.inputTestDue n) s fun t =>
          OnlyObjs [] { s with test := some { input := n, commanded := false } } t) ∧
      ((s.input n).st ≠ .absorbed → (s.input n).st ≠ .dark → (s.input n).st ≠ .changing → s.busyInput n = true →
        Answers (.inputTestDue n) s fun t => OnlyObjs [] s t)) ∧
    ((s.test.isSome = true ∨ s.testNext.isSome = true) → n ∉ s.testDue → Answers (.inputTestDue n) s fun t =>
      OnlyObjs [] { s with testDue := s.testDue ++ [n] } t)) ∧
  (∀ (s : State) (n : Nat), s.num O.SELFTEST_ENABLE ≠ 1 → Answers (.inputTestDue n) s fun t => OnlyObjs [] s t) ∧
  (∀ (s : State) (x : InputTest), s.test = some x → x.input < 8 → s.testNext = none → s.testDue = [] →
    (Answers (.inputTestDone none) s fun t =>
      t.test = none ∧ t.num (O.PTEST_RESULT_n + x.input) = 1 ∧
      kvGet t.faults.inputPass x.input = some (s.now - 80000000) ∧
      OnlyObjs [objKey 0 (O.PTEST_RESULT_n + x.input)] { s with test := none, faults := t.faults } t) ∧
    (∀ k, Answers (.inputTestDone (some k)) s fun t =>
      t.test = none ∧ t.num (O.PTEST_RESULT_n + x.input) = k % 256 * 256 + 2 ∧ bit (t.get O.TARNISH) 22 = true ∧
      t.num O.SUSPECT_COUNT = (s.num O.SUSPECT_COUNT + 1) % 2 ^ 32 ∧ t.ctxs = s.ctxs ∧ t.mem = s.mem ∧
      t.inputs = s.inputs)) ∧
  (∀ (s : State) (x : InputTest) (m : Nat), s.test = some x → x.input < 8 → s.testNext = some m → s.testDue = [] →
    (s.input m).st = .single → s.busyInput m = false → Answers (.inputTestDone none) s fun t =>
      t.test = some { input := m, commanded := true } ∧ t.testNext = none) ∧
  (∀ (s : State) (f : Option Nat), s.test = none → Answers (.inputTestDone f) s fun t => OnlyObjs [] s t) ∧
  (∀ (s : State) (p n : Nat), Served s p →
    (ownerOf p = s.steward → n < s.D → s.busyInput n = false → s.testNext = none → s.running = true →
      (s.test = none → (s.input n).st = .single → Answers (.ptestCmd p (ofN n)) s fun t =>
        OnlyObjs [] { s with test := some { input := n, commanded := true } } t) ∧
      (∀ x, s.test = some x → x.commanded = false → Answers (.ptestCmd p (ofN n)) s fun t =>
        OnlyObjs [] { s with testNext := some n } t) ∧
      (∀ x, s.test = some x → x.commanded = true → Answers (.ptestCmd p (ofN n)) s fun t =>
        Rejected s t p O.PTEST_CMD 2 .presentState)) ∧
    (ownerOf p = s.steward → n < s.D → (s.busyInput n = true ∨ s.running = false) → Answers (.ptestCmd p (ofN n)) s fun t =>
      Rejected s t p O.PTEST_CMD 2 .presentState) ∧
    (∀ v : Slot, ownerOf p = s.steward → s.D ≤ v.toNat → Answers (.ptestCmd p v) s fun t =>
      Rejected s t p O.PTEST_CMD 2 .range) ∧
    (∀ v : Slot, ownerOf p ≠ s.steward → Answers (.ptestCmd p v) s fun t => Rejected s t p O.PTEST_CMD 2 .noPermission)) ∧
  (∀ (s : State) (p : Nat), Served s p →
    (ownerOf p = s.steward →
      ((s.num O.CAP_STATE = 0 ∨ s.num O.CAP_STATE = 3 ∨ s.num O.CAP_STATE = 4) → Answers (.capStart p) s fun t =>
        t.faults.capture = s.capStream ∧ t.num O.CAP_STATE = (if s.capStream.isSome then 1 else 4) ∧
        t.blob 0 O.CAP_DATA = [] ∧
        OnlyObjs [objKey 0 O.CAP_STATE] { s with faults := t.faults, blobs := t.blobs } t) ∧
      ((s.num O.CAP_STATE = 1 ∨ s.num O.CAP_STATE = 2) → Answers (.capStart p) s fun t =>
        Rejected s t p O.CAP_CMD 2 .presentState) ∧
      (Answers (.capCancel p) s fun t =>
        t.faults.capture = none ∧ t.num O.CAP_STATE = 0 ∧ t.blob 0 O.CAP_DATA = [] ∧
        OnlyObjs [objKey 0 O.CAP_STATE] { s with faults := t.faults, blobs := t.blobs } t)) ∧
    (ownerOf p ≠ s.steward → ∀ i, i = Instr.capStart p ∨ i = .capCancel p → Answers i s fun t =>
      Rejected s t p O.CAP_CMD 2 .noPermission)) ∧
  (∀ (s : State) (k : Capture), s.faults.capture = some k →
    (∀ x, s.num O.CAP_STATE = 1 → s.ctx k.ctx = some x → s.capLive k = true →
      let ph := (kvGet x.phase (linkKey k.die k.dst)).getD 0
      (∀ skip, capSkip (s.halfRate k.src) ph = some skip → Answers .capBegin s fun t =>
        t.faults.capture = some { k with
          running := true, skip
          last := (kvGet x.recv (streamKey (if k.second then 16 + k.src else k.src) k.die)).getD 1 } ∧
        t.num O.CAP_STATE = 2 ∧ t.get O.CAP_TM = tmOfGrains (s.capFirst k skip) ∧
        t.get O.CAP_WRAP = ofN (wrapOfGrains (s.capFirst k skip)) ∧
        OnlyObjs [objKey 0 O.CAP_STATE, objKey 0 O.CAP_TM, objKey 0 O.CAP_WRAP] { s with faults := t.faults } t) ∧
      (capSkip (s.halfRate k.src) ph = none → Answers .capBegin s fun t => OnlyObjs [] s t)) ∧
    (s.capLive k = false → Answers .capBegin s fun t => OnlyObjs [] s t) ∧
    ((s.num O.CAP_STATE = 1 ∨ s.num O.CAP_STATE = 2) → (4096 ≤ k.bytes.length ∨ s.capLive k = false) →
      Answers .capEnd s fun t =>
        t.faults.capture = none ∧ t.num O.CAP_STATE = 3 ∧ (t.blob 0 O.CAP_DATA).length ≤ 4096 ∧
        (t.blob 0 O.CAP_DATA).take k.bytes.length = k.bytes.take 4096 ∧
        (k.trits = [] → t.blob 0 O.CAP_DATA = k.bytes.take 4096) ∧
        (k.trits ≠ [] → k.bytes.length < 4096 →
          (∃ n, t.blob 0 O.CAP_DATA = (k.bytes ++ List.replicate n 0xFF#8 ++ [packTrits k.trits]).take 4096)) ∧
        OnlyObjs [objKey 0 O.CAP_STATE] { s with faults := t.faults, blobs := t.blobs } t) ∧
    (s.num O.CAP_STATE ≠ 1 → Answers .capBegin s fun t => OnlyObjs [] s t) ∧
    (s.num O.CAP_STATE ≠ 1 → s.num O.CAP_STATE ≠ 2 → Answers .capEnd s fun t => OnlyObjs [] s t))

/-- O59. Firmware update and reports: Open (also over the staging of a former steward), Verify, Install, Discard and Accept move the update through its states for the
steward, their ends record the package, the bank or the error, and a report is asked for and signed (R560 to R566). -/
def Obligations.FirmwareAndReports : Prop :=
  (∀ (s : State) (p : Nat), Served s p → ownerOf p = s.steward →
    ((s.num O.FW_STATE = 0 ∨ s.num O.FW_STATE = 6) → bit (s.get O.SEC_LOCKS) 1 = false → ∀ h u,
      allocBuf (freeStaging s) (ownerOf p) .firmware (s.num O.FW_PKG_BYTES) = some (h, u) → Answers (.fwOpen p) s fun t =>
        t.num O.FW_STATE = 1 ∧ t.num O.FW_HANDLE = h % 2 ^ 64 ∧ t.num O.FW_ERR = 0 ∧ t.bufs = u.bufs ∧ t.fw = s.fw ∧
        t.ctxs = s.ctxs) ∧
    ((s.num O.FW_STATE = 0 ∨ s.num O.FW_STATE = 6) → bit (s.get O.SEC_LOCKS) 1 = false →
      allocBuf (freeStaging s) (ownerOf p) .firmware (s.num O.FW_PKG_BYTES) = none → Answers (.fwOpen p) s fun t =>
        Rejected s t p O.FW_CMD 2 .resource) ∧
    (s.num O.FW_STATE = 5 → bit (s.get O.SEC_LOCKS) 1 = false → ∀ h u,
      allocBuf (freeStaging (cancelInstall s)) (ownerOf p) .firmware (s.num O.FW_PKG_BYTES) = some (h, u) →
      Answers (.fwOpen p) s fun t =>
        t.num O.FW_STATE = 1 ∧ t.num O.FW_HANDLE = h % 2 ^ 64 ∧ t.fw.cur = s.fw.inForce ∧ t.fw.trial = false ∧
        t.num O.FW_PENDING = 0) ∧
    (s.num O.FW_STATE = 1 → bit (s.get O.SEC_LOCKS) 1 = false → ∀ b h u,
      kvGet s.bufs (s.num O.FW_HANDLE) = some b → b.owner ≠ ownerOf p →
      allocBuf (freeStaging s) (ownerOf p) .firmware (s.num O.FW_PKG_BYTES) = some (h, u) → Answers (.fwOpen p) s fun t =>
        t.num O.FW_STATE = 1 ∧ t.num O.FW_HANDLE = h % 2 ^ 64 ∧ t.bufs = u.bufs) ∧
    ((bit (s.get O.SEC_LOCKS) 1 = true ∨ (s.num O.FW_STATE ≠ 0 ∧ s.num O.FW_STATE ≠ 5 ∧ s.num O.FW_STATE ≠ 6 ∧
        s.stagingOfOther p = false)) →
      Answers (.fwOpen p) s fun t => Rejected s t p O.FW_CMD 2 .presentState) ∧
    (s.num O.FW_STATE = 1 → Answers (.fwVerify p) s fun t =>
      t.num O.FW_STATE = 2 ∧ OnlyObjs [objKey 0 O.FW_STATE] s t) ∧
    (s.num O.FW_STATE ≠ 1 → Answers (.fwVerify p) s fun t => Rejected s t p O.FW_CMD 2 .presentState) ∧
    (s.num O.FW_STATE = 3 → s.fw.banks.length = 2 → s.fw.inForce < 2 → Answers (.fwInstall p) s fun t =>
      t.num O.FW_STATE = 4 ∧ (t.bank (1 - s.fw.inForce)).valid = false ∧
      t.bank s.fw.inForce = s.bank s.fw.inForce ∧
      OnlyObjs [objKey 0 O.FW_STATE, objKey 0 O.FW_PROGRESS] { s with fw := t.fw } t) ∧
    (s.num O.FW_STATE ≠ 3 → Answers (.fwInstall p) s fun t => Rejected s t p O.FW_CMD 2 .presentState) ∧
    ((s.num O.FW_STATE = 1 ∨ s.num O.FW_STATE = 3 ∨ s.num O.FW_STATE = 5 ∨ s.num O.FW_STATE = 6) →
      Answers (.fwDiscard p) s fun t =>
        t.num O.FW_STATE = 0 ∧ t.num O.FW_HANDLE = 0xFFFFFFFF ∧ t.fw.pkg = none ∧ t.fw.banks = s.fw.banks ∧
        (s.num O.FW_STATE = 5 → t.fw.cur = s.fw.inForce ∧ t.fw.trial = false ∧ t.num O.FW_PENDING = 0)) ∧
    ((s.num O.FW_STATE = 0 ∨ s.num O.FW_STATE = 2 ∨ s.num O.FW_STATE = 4) → Answers (.fwDiscard p) s fun t =>
      Rejected s t p O.FW_CMD 2 .presentState) ∧
    (s.num O.FW_STATE = 0 → s.rollbackPending = true → s.fw.rollback.length = 6 → Answers (.fwAccept p) s fun t =>
      (∀ k, k < 6 → s.rollbackOf (k + 1) ≤ t.rollbackOf (k + 1)) ∧
      (∀ k, k < 6 → ∀ x, ((s.bank s.fw.inForce).images.find? fun x => x.kind == k + 1) = some x →
        t.rollbackOf (k + 1) = max (s.rollbackOf (k + 1)) x.rollback) ∧
      (∀ r ∈ s.fw.revoked, (s.image 1).revokeLower = false → r ∈ t.fw.revoked) ∧
      t.fw.banks = s.fw.banks ∧ t.fw.inForce = s.fw.inForce ∧
      OnlyObjs [objKey 0 O.ATTEST_GEN] { s with fw := t.fw } t) ∧
    ((s.num O.FW_STATE ≠ 0 ∨ s.rollbackPending = false) → Answers (.fwAccept p) s fun t =>
      Rejected s t p O.FW_CMD 2 .presentState)) ∧
  (∀ (s : State) (p : Nat), Served s p → ownerOf p ≠ s.steward →
    ∀ i, i = Instr.fwOpen p ∨ i = .fwVerify p ∨ i = .fwInstall p ∨ i = .fwDiscard p ∨ i = .fwAccept p →
      Answers i s fun t => Rejected s t p O.FW_CMD 2 .noPermission) ∧
  (∀ s : State, s.awake = true →
    let size := (s.handleSize (s.num O.FW_HANDLE)).getD 0
    let r := s.pkgCheck (s.handleRead (s.num O.FW_HANDLE) 0 size).1 (min (s.num O.FW_PKG_BYTES) size)
    (s.num O.FW_STATE = 2 → Answers .fwVerifyDone s fun t =>
      (∀ b, r = .inl b → t.num O.FW_STATE = 3 ∧ t.num O.FW_ERR = 0 ∧ t.fw = { s.fw with pkg := some b }) ∧
      (∀ e, r = .inr e → t.num O.FW_STATE = 6 ∧ t.get O.FW_ERR = ofN e ∧ t.fw = s.fw) ∧
      t.ctxs = s.ctxs ∧ t.bufs = s.bufs ∧ t.inputs = s.inputs ∧ t.lds = s.lds ∧
      (kvGet s.bufs (s.num O.FW_HANDLE) = none →
        OnlyObjs [objKey 0 O.FW_STATE, objKey 0 O.FW_ERR] { s with fw := t.fw } t)) ∧
    (∀ b, s.fw.pkg = some b → s.num O.FW_STATE = 4 →
      (s.fw.banks.length = 2 → s.fw.inForce < 2 → Answers (.fwInstallDone true) s fun t =>
        t.num O.FW_STATE = 5 ∧ t.get O.FW_PENDING = ofN b.release ∧ t.num O.FW_PROGRESS = 100 ∧
        t.bank (1 - s.fw.inForce) = b ∧ t.bank s.fw.inForce = s.bank s.fw.inForce ∧ t.fw.cur = 1 - s.fw.inForce ∧
        t.fw.trial = true ∧ t.num O.FW_HANDLE = 0xFFFFFFFF ∧ t.ctxs = s.ctxs) ∧
      Answers (.fwInstallDone false) s fun t =>
        t.num O.FW_STATE = 6 ∧ t.num O.FW_ERR = 7 ∧ OnlyObjs [objKey 0 O.FW_STATE, objKey 0 O.FW_ERR] s t)) ∧
  (∀ s : State, s.num O.FW_STATE ≠ 2 → Answers .fwVerifyDone s fun t => OnlyObjs [] s t) ∧
  (∀ (s : State) (ok : Bool), s.num O.FW_STATE ≠ 4 → Answers (.fwInstallDone ok) s fun t => OnlyObjs [] s t) ∧
  (∀ (s : State) (p : Nat), Served s p →
    (s.num O.ATTEST_STATE ≠ 1 → Answers (.attestCmd p 1) s fun t =>
      t.num O.ATTEST_STATE = 1 ∧
      OnlyObjs [objKey 0 O.ATTEST_STATE]
        { s with fw := { s.fw with attest := some { owner := ownerOf p, nonce := s.nonce } } } t) ∧
    (s.num O.ATTEST_STATE = 1 → Answers (.attestCmd p 1) s fun t => Rejected s t p O.ATTEST_CMD 2 .presentState) ∧
    (∀ v : Slot, v ≠ 1 → v.toNat < 256 → s.num O.ATTEST_STATE ≠ 1 → Answers (.attestCmd p v) s fun t =>
      OnlyObjs [] s t)) ∧
  (∀ (s : State) (a : Attest), s.fw.attest = some a → Answers .attestReportDone s fun t =>
    t.num O.ATTEST_STATE = 2 ∧ t.blob 0 O.ATTEST_REPORT = s.report a ∧
    OnlyObjs [objKey 0 O.ATTEST_STATE] { s with fw := { s.fw with attest := none }, blobs := t.blobs } t) ∧
  (∀ s : State, s.fw.attest = none → Answers .attestReportDone s fun t => OnlyObjs [] s t)

/-- O60. The housekeeping converter: monitor conversions follow the scan and repeat once before an excursion, table
conversions sum up to a corrected result, the reference settles, and auxiliary ranges and calibrations go through their
steps (R573, R576 to R582, R584 to R586, R589). -/
def Obligations.Housekeeping : Prop :=
  (∀ (s : State) (v : Int), s.awake = true →
    (∀ c, s.hk.again = some c → s.judgeMon c v ≠ 0 → (c = 33 → s.num O.HK_REF_SELECT ≠ 1) →
      s.num (O.MON_STATUS_c + c) ≠ 0 → s.judgeMon c v ≠ 3 → c < 43 → Answers (.hkMonitorConversion v) s fun t =>
        t.get (O.MON_VALUE_c + c) = ofI v ∧ t.num (O.MON_STATUS_c + c) = s.judgeMon c v ∧ t.hk.again = none ∧
        OnlyObjs [objKey 0 (O.MON_VALUE_c + c), objKey 0 (O.MON_STATUS_c + c)] { s with hk := t.hk } t) ∧
    (∀ c, s.hk.again = some c → s.judgeMon c v ≠ 0 → s.num (O.MON_STATUS_c + c) = 0 → c < 43 →
      (s.judgeMon c v ≠ 3 ∨ s.num O.THERMAL_ACTION ≠ 1) → Answers (.hkMonitorConversion v) s fun t =>
        t.get (O.MON_VALUE_c + c) = ofI v ∧ t.num (O.MON_STATUS_c + c) = s.judgeMon c v ∧
        bit (t.get O.HK_STATUS) 0 = true ∧
        (∀ b code, monTarnish c = some (b, code) → s.restarting = false → bit (t.get O.TARNISH) b = true)) ∧
    (∀ c, s.hk.again = some c → s.judgeMon c v = 3 → s.num (O.MON_STATUS_c + c) ≠ 3 → c < 43 →
      s.num O.THERMAL_ACTION = 1 → s.running = true → s.get O.POWER_PHASE = 0 →
      Answers (.hkMonitorConversion v) s fun t =>
        if s.alloyMoves then t.power.entry.isSome = true else t.get O.POWER_PHASE = 1) ∧
    (∀ c, s.hk.again = none → (s.monChannels.find? fun c => decide (s.hk.scan ≤ c)) = some c →
      (c = 33 → s.num O.HK_REF_SELECT ≠ 1) →
      (s.judgeMon c v ≠ 0 → Answers (.hkMonitorConversion v) s fun t =>
        t.get (O.MON_VALUE_c + c) = ofI v ∧ t.hk.again = some c ∧ t.hk.scan = c + 1 ∧
        OnlyObjs [objKey 0 (O.MON_VALUE_c + c)] { s with hk := t.hk } t) ∧
      (s.judgeMon c v = 0 → s.num (O.MON_STATUS_c + c) = 0 → Answers (.hkMonitorConversion v) s fun t =>
        t.get (O.MON_VALUE_c + c) = ofI v ∧ t.hk.again = none ∧ t.hk.scan = c + 1 ∧
        OnlyObjs [objKey 0 (O.MON_VALUE_c + c)] { s with hk := t.hk } t))) ∧
  (∀ (s : State) (raw : BitVec 12) (k : Nat), s.awake = true → s.hk.aux = none → s.hk.settleAt = none →
    s.hk.entry = k → k ∈ s.tableEntries → k < 32 →
    let e := s.get (O.SEQ_ENTRY_k + k)
    let sum := s.hk.sum + raw.toNat
    (s.hk.taken + 1 < 2 ^ fld e 8 3 → Answers (.hkSequenceConversion raw) s fun t =>
      t.hk.taken = s.hk.taken + 1 ∧ t.hk.sum = sum ∧ t.hk.entry = k ∧
      (t.hk.clip = true ↔ s.hk.clip = true ∨ raw = 0#12 ∨ raw = 4095#12) ∧ OnlyObjs [] { s with hk := t.hk } t) ∧
    (2 ^ fld e 8 3 ≤ s.hk.taken + 1 → Answers (.hkSequenceConversion raw) s fun t =>
      fld (t.get (O.SEQ_RESULT_k + k)) 0 16 =
        corrected (s.get (O.HK_CORR_c + fld e 0 6)) (roundAway (16 * sum) (2 ^ fld e 8 3)).toNat ∧
      bit (t.get (O.SEQ_RESULT_k + k)) 31 = true ∧ t.hk.taken = 0 ∧ t.hk.sum = 0 ∧
      ((∀ j ∈ s.tableEntries, j ≤ k) →
        t.num O.HK_SWEEP_COUNT = (s.num O.HK_SWEEP_COUNT + 1) % 2 ^ 32 ∧ t.get O.HK_SWEEP_TM = s.cycleTm ∧
        t.hk.entry = 0) ∧ t.ctxs = s.ctxs ∧ t.mem = s.mem)) ∧
  (∀ (s : State) (raw : BitVec 12), (s.tableEntries = [] ∨ s.hk.aux.isSome = true) →
    Answers (.hkSequenceConversion raw) s fun t => OnlyObjs [] s t) ∧
  (∀ (s : State) (p : Nat), Served s p → ownerOf p = s.steward →
    (∀ v : Slot, v.toNat ≤ 2 → s.get O.HK_REF_SELECT ≠ v → Answers (.hkRefSelectWrite p v) s fun t =>
      t.get O.HK_REF_SELECT = v ∧ t.hk.settleAt = some (s.now + 8000000) ∧
      (∀ k, k < 4 → bit (t.get (O.AUX_CFG_k + k)) 8 = false) ∧ (∀ j n, s.hk.aux = some (j, n) → j < 4 → t.hk.aux = none) ∧ t.ctxs = s.ctxs ∧ t.mem = s.mem) ∧
    ((s.get O.HK_REF_SELECT).toNat ≤ 2 → Answers (.hkRefSelectWrite p (s.get O.HK_REF_SELECT)) s fun t =>
      OnlyObjs [] s t) ∧
    (∀ v : Slot, 2 < v.toNat → Answers (.hkRefSelectWrite p v) s fun t => Rejected s t p O.HK_REF_SELECT 2 .range) ∧
    (∀ (k : Nat) (v : Slot), k < 4 → v.toNat < 2 ^ 32 →
      (bit (s.get (O.AUX_CFG_k + k)) 0 = bit v 0 → Answers (.auxRangeWrite p k v) s fun t => OnlyObjs [] s t) ∧
      (bit (s.get (O.AUX_CFG_k + k)) 0 ≠ bit v 0 → Answers (.auxRangeWrite p k v) s fun t =>
        bit (t.get (O.AUX_CFG_k + k)) 0 = bit v 0 ∧ bit (t.get (O.AUX_CFG_k + k)) 8 = false ∧ t.ctxs = s.ctxs ∧
        t.mem = s.mem)) ∧
    (∀ k, k < 4 →
      (s.hk.aux = none → Answers (.auxCalZero p k) s fun t =>
        t.num O.AUX_CAL_STATE = 1 ∧ t.num O.AUX_CAL_ERR = 0 ∧
        OnlyObjs [objKey 0 O.AUX_CAL_STATE, objKey 0 O.AUX_CAL_ERR]
          { s with hk := { s.hk with aux := some (k, 1), zero := none } } t) ∧
      (∀ r, s.hk.aux = none → s.hk.zero = some (k, r) → Answers (.auxCalSpan p k) s fun t =>
        t.num O.AUX_CAL_STATE = 1 ∧ OnlyObjs [objKey 0 O.AUX_CAL_STATE] { s with hk := { s.hk with aux := some (k, 2) } } t) ∧
      (s.hk.zero = none → Answers (.auxCalSpan p k) s fun t => Rejected s t p O.AUX_CAL_CMD 2 .presentState) ∧
      (s.hk.aux.isSome = true → ∀ i, i = Instr.auxCalZero p k ∨ i = .auxCalSpan p k → Answers i s fun t =>
        Rejected s t p O.AUX_CAL_CMD 2 .presentState) ∧
      (Answers (.auxCalReset p k) s fun t =>
        t.num (O.HK_CORR_AUX_k + k) = 0x80000000 ∧ bit (t.get (O.AUX_CFG_k + k)) 8 = false ∧
        OnlyObjs [objKey 0 (O.HK_CORR_AUX_k + k), objKey 0 (O.AUX_CFG_k + k)] s t))) ∧
  (∀ (s : State) (p : Nat), Served s p → ownerOf p ≠ s.steward →
    (∀ v, Answers (.hkRefSelectWrite p v) s fun t => Rejected s t p O.HK_REF_SELECT 2 .noPermission) ∧
    (∀ k v, k < 4 → Answers (.auxRangeWrite p k v) s fun t => Rejected s t p (O.AUX_CFG_k + k) 2 .noPermission) ∧
    (∀ k i, i = Instr.auxCalZero p k ∨ i = .auxCalSpan p k ∨ i = .auxCalReset p k → Answers i s fun t =>
      Rejected s t p O.AUX_CAL_CMD 2 .noPermission)) ∧
  (∀ (s : State) (a : Nat), s.hk.settleAt = some a → Answers .hkRefSettled s fun t =>
    t.hk = { s.hk with settleAt := none } ∧ t.ctxs = s.ctxs ∧ t.mem = s.mem) ∧
  (∀ s : State, s.hk.settleAt = none → Answers .hkRefSettled s fun t => OnlyObjs [] s t) ∧
  (∀ (s : State) (sum k : Nat), s.hk.restart = false → k < 4 →
    let r := (roundAway (16 * sum) 256).toNat
    (s.hk.aux = some (k, 1) → Answers (.auxCalMeasureDone sum) s fun t =>
      t.num O.AUX_CAL_STATE = 2 ∧
      OnlyObjs [objKey 0 O.AUX_CAL_STATE] { s with hk := { s.hk with aux := none, zero := some (k, r) } } t) ∧
    (∀ r0 w, s.hk.aux = some (k, 2) → s.hk.zero = some (k, r0) → s.auxSpan k r0 r = .inl w →
      Answers (.auxCalMeasureDone sum) s fun t =>
        t.get (O.HK_CORR_AUX_k + k) = ofN w ∧ bit (t.get (O.AUX_CFG_k + k)) 8 = true ∧ t.num O.AUX_CAL_STATE = 3 ∧
        OnlyObjs [objKey 0 (O.HK_CORR_AUX_k + k), objKey 0 (O.AUX_CFG_k + k), objKey 0 O.AUX_CAL_STATE]
          { s with hk := { s.hk with aux := none, zero := none } } t) ∧
    (∀ r0 e, s.hk.aux = some (k, 2) → s.hk.zero = some (k, r0) → s.auxSpan k r0 r = .inr e →
      Answers (.auxCalMeasureDone sum) s fun t =>
        t.num O.AUX_CAL_STATE = 4 ∧ t.get O.AUX_CAL_ERR = ofN e ∧
        OnlyObjs [objKey 0 O.AUX_CAL_STATE, objKey 0 O.AUX_CAL_ERR]
          { s with hk := { s.hk with aux := none, zero := none } } t)) ∧
  (∀ (s : State) (sum : Nat), s.hk.aux = none → Answers (.auxCalMeasureDone sum) s fun t => OnlyObjs [] s t)
end

