-- ==== Sys2Proof/Laws/Flags.lean ====
section
/-!
SUPPORT. The bits of status words and the numbers slots hold.
-/
namespace Sys2Proof.Machine

theorem bit_eq (x : Slot) (b : Nat) : bit x b = x.getLsbD b := rfl

theorem getLsbD_ofN (n b : Nat) : (ofN n).getLsbD b = (decide (b < 64) && n.testBit b) := by
  simp [ofN, BitVec.getLsbD_ofNat]

/-- The bits of a word with bit `b` set. -/
theorem bit_setBit (x : Slot) (b c : Nat) (h : b < 64) : bit (setBit x b) c = (bit x c || decide (c = b)) := by
  simp only [bit_eq, setBit, BitVec.getLsbD_or, getLsbD_ofN, Nat.testBit_two_pow]
  by_cases hc : c = b
  · subst hc; simp [h]
  · have hc' : ¬ b = c := fun h => hc h.symm
    simp [hc, hc']

/-- The bits of a word with bit `b` clear. -/
theorem bit_clearBit (x : Slot) (b c : Nat) (h : b < 64) : bit (clearBit x b) c = (bit x c && decide (c ≠ b)) := by
  simp only [bit_eq, clearBit, BitVec.getLsbD_and, BitVec.getLsbD_not, getLsbD_ofN, Nat.testBit_two_pow]
  by_cases hc : c = b
  · subst hc; simp [h]
  · have hc' : ¬ b = c := fun h => hc h.symm
    by_cases h64 : c < 64
    · simp [h64, hc, hc']
    · rw [BitVec.getLsbD_of_ge x c (by omega)]; simp

/-- A slot holds a number below 2^64 as it is. -/
theorem ofN_toNat (n : Nat) (h : n < 2 ^ 64) : (ofN n).toNat = n := by
  simp only [ofN, BitVec.toNat_ofNat]; exact Nat.mod_eq_of_lt h

end Sys2Proof.Machine
end

