-- ==== Sys2Proof/Laws/Lists.lean ====
section
/-!
SUPPORT. The laws of the sorted association lists and of capture memory: a read after a write, a write beside it, and
the canonical form every write keeps.
-/
namespace Sys2Proof.Machine

variable {α : Type}

theorem kvGet_kvPut (l : List (Nat × α)) (k k' : Nat) (v : α) :
    kvGet (kvPut l k v) k' = if k' = k then some v else kvGet l k' := by
  induction l with
  | nil => simp [kvPut, kvGet, eq_comm]
  | cons x r ih =>
    obtain ⟨a, b⟩ := x
    unfold kvPut
    split
    · simp [kvGet, eq_comm]
    · split
      · subst_vars; by_cases h : k' = a <;> simp [kvGet, h, eq_comm]
      · by_cases h : a = k'
        · subst h; have : ¬ a = k := fun h => by omega
          simp [kvGet, this]
        · simp [kvGet, ih, h]

@[simp] theorem kvGet_kvPut_self (l : List (Nat × α)) (k : Nat) (v : α) : kvGet (kvPut l k v) k = some v := by
  simp [kvGet_kvPut]

theorem kvGet_kvDel (l : List (Nat × α)) (k k' : Nat) :
    kvGet (kvDel l k) k' = if k' = k then none else kvGet l k' := by
  induction l with
  | nil => simp [kvDel, kvGet]
  | cons x r ih =>
    obtain ⟨a, b⟩ := x
    unfold kvDel
    split
    · rw [ih]; by_cases h : k' = k
      · simp [h]
      · have : ¬ a = k' := fun h' => by omega
        simp [h, kvGet, this]
    · by_cases h : a = k'
      · subst h; have : ¬ a = k := fun h => by omega
        simp [kvGet, this]
      · simp [kvGet, ih, h]

/-- A list that holds no entry equal to the default reads a key that was set as the value set, every other as before. -/
theorem kvGet_kvSet [DecidableEq α] (d : α) (l : List (Nat × α)) (k k' : Nat) (v : α) :
    (kvGet (kvSet d l k v) k').getD d = if k' = k then v else (kvGet l k').getD d := by
  unfold kvSet
  split
  · rw [kvGet_kvDel]; split <;> simp_all
  · rw [kvGet_kvPut]; split <;> simp_all

/-- The same where the reader's default may differ for other keys. -/
theorem kvGet_kvSet_ne [DecidableEq α] (d : α) (l : List (Nat × α)) (k k' : Nat) (v : α) (h : k' ≠ k) :
    kvGet (kvSet d l k v) k' = kvGet l k' := by
  unfold kvSet
  split
  · rw [kvGet_kvDel, if_neg h]
  · rw [kvGet_kvPut, if_neg h]

/-! ## Canonical form -/

/-- Keys of a list all above `a`. -/
def kvAbove (a : Nat) (l : List (Nat × α)) : Prop := ∀ x ∈ l, a < x.1

theorem kvSorted_cons (k : Nat) (v : α) (l : List (Nat × α)) :
    kvSorted ((k, v) :: l) = true ↔ kvAbove k l ∧ kvSorted l = true := by
  induction l generalizing k v with
  | nil => simp [kvSorted, kvAbove]
  | cons x r ih =>
    obtain ⟨a, b⟩ := x
    simp only [kvSorted, Bool.and_eq_true, decide_eq_true_eq]
    rw [ih]
    constructor
    · rintro ⟨h1, h2, h3⟩
      refine ⟨?_, h2, h3⟩
      intro x hx
      rcases List.mem_cons.1 hx with rfl | hx
      · exact h1
      · exact lt_trans h1 (h2 x hx)
    · rintro ⟨h1, h2, h3⟩
      exact ⟨h1 (a, b) (by simp), h2, h3⟩

theorem mem_kvPut {l : List (Nat × α)} {k : Nat} {v : α} {x : Nat × α} (h : x ∈ kvPut l k v) :
    x = (k, v) ∨ x ∈ l := by
  induction l with
  | nil => simpa [kvPut] using h
  | cons y r ih =>
    obtain ⟨a, b⟩ := y
    unfold kvPut at h
    split at h
    · simpa using h
    · split at h
      · rcases List.mem_cons.1 h with h | h
        · exact .inl h
        · exact .inr (by simp [h])
      · rcases List.mem_cons.1 h with h | h
        · exact .inr (by simp [h])
        · rcases ih h with h | h
          · exact .inl h
          · exact .inr (by simp [h])

theorem mem_kvDel {l : List (Nat × α)} {k : Nat} {x : Nat × α} (h : x ∈ kvDel l k) : x ∈ l := by
  induction l with
  | nil => simp [kvDel] at h
  | cons y r ih =>
    obtain ⟨a, b⟩ := y
    unfold kvDel at h
    split at h
    · simp [ih h]
    · rcases List.mem_cons.1 h with h | h
      · simp [h]
      · simp [ih h]

theorem kvSorted_kvPut (l : List (Nat × α)) (k : Nat) (v : α) (h : kvSorted l = true) :
    kvSorted (kvPut l k v) = true := by
  induction l with
  | nil => simp [kvPut, kvSorted]
  | cons x r ih =>
    obtain ⟨a, b⟩ := x
    have h' := (kvSorted_cons a b r).1 h
    unfold kvPut
    split
    · rename_i hk
      rw [kvSorted_cons]
      refine ⟨fun x hx => ?_, h⟩
      rcases List.mem_cons.1 hx with rfl | hx
      · exact hk
      · exact lt_trans hk (h'.1 x hx)
    · split
      · rename_i hk; subst hk
        rw [kvSorted_cons]; exact h'
      · rw [kvSorted_cons]
        refine ⟨fun x hx => ?_, ih h'.2⟩
        rcases mem_kvPut hx with rfl | hx
        · show a < k; omega
        · exact h'.1 x hx

theorem kvSorted_kvDel (l : List (Nat × α)) (k : Nat) (h : kvSorted l = true) : kvSorted (kvDel l k) = true := by
  induction l with
  | nil => rfl
  | cons x r ih =>
    obtain ⟨a, b⟩ := x
    have h' := (kvSorted_cons a b r).1 h
    unfold kvDel
    split
    · exact ih h'.2
    · rw [kvSorted_cons]
      exact ⟨fun x hx => h'.1 x (mem_kvDel hx), ih h'.2⟩

theorem kvSorted_kvSet [DecidableEq α] (d : α) (l : List (Nat × α)) (k : Nat) (v : α) (h : kvSorted l = true) :
    kvSorted (kvSet d l k v) = true := by
  unfold kvSet
  split
  · exact kvSorted_kvDel l k h
  · exact kvSorted_kvPut l k v h

/-! ## Capture memory -/

/-- A byte reads as written, every other byte as before. -/
theorem Memory.read_write (m : List Host.Cell) (a a' : Nat) (b : Byte) :
    Memory.read (Memory.write m a b) a' = if a' = a then b else Memory.read m a' :=
  kvGet_kvSet 0#8 m a a' b

/-- A write keeps the canonical form. -/
theorem Memory.write_wf (m : List Host.Cell) (a : Nat) (b : Byte) (h : Memory.wf m = true) :
    Memory.wf (Memory.write m a b) = true := by
  simp only [Memory.wf, Bool.and_eq_true, List.all_eq_true] at h ⊢
  refine ⟨kvSorted_kvSet _ _ _ _ h.1, fun x hx => ?_⟩
  unfold Memory.write kvSet at hx
  split at hx
  · exact h.2 x (mem_kvDel hx)
  · rcases mem_kvPut hx with rfl | hx
    · simpa using ‹¬ b = 0#8›
    · exact h.2 x hx

/-- A write of a byte string keeps the canonical form. -/
theorem Memory.writeN_wf (bs : List Byte) (m : List Host.Cell) (a : Nat) (h : Memory.wf m = true) :
    Memory.wf (Memory.writeN m a bs) = true := by
  induction bs generalizing m a with
  | nil => exact h
  | cons b bs ih => exact ih _ _ (Memory.write_wf m a b h)

/-- Bytes beside a written string read as before. -/
theorem Memory.read_writeN_ne (bs : List Byte) (m : List Host.Cell) (a x : Nat) (h : x < a ∨ a + bs.length ≤ x) :
    Memory.read (Memory.writeN m a bs) x = Memory.read m x := by
  induction bs generalizing m a with
  | nil => rfl
  | cons b bs ih =>
    simp only [List.length_cons] at h
    rw [Memory.writeN, ih _ _ (by omega), Memory.read_write, if_neg (by omega)]

/-- A written string reads back. -/
theorem Memory.readN_writeN (bs : List Byte) (m : List Host.Cell) (a : Nat) :
    Memory.readN (Memory.writeN m a bs) a bs.length = bs := by
  induction bs generalizing m a with
  | nil => rfl
  | cons b bs ih =>
    simp only [List.length_cons, Memory.readN, Memory.writeN]
    rw [ih, Memory.read_writeN_ne _ _ _ _ (by omega), Memory.read_write, if_pos rfl]

/-- Clearing a range of addresses keeps the canonical form. -/
theorem Memory.filter_wf (m : List Host.Cell) (f : Host.Cell → Bool) (h : Memory.wf m = true) :
    Memory.wf (m.filter f) = true := by
  simp only [Memory.wf, Bool.and_eq_true, List.all_eq_true] at h ⊢
  refine ⟨?_, fun x hx => h.2 x (List.mem_filter.1 hx).1⟩
  have h1 := h.1
  clear h
  induction m with
  | nil => rfl
  | cons x r ih =>
    have h' := (kvSorted_cons x.1 x.2 r).1 h1
    rw [List.filter_cons]
    split
    · exact (kvSorted_cons x.1 x.2 _).2 ⟨fun y hy => h'.1 y (List.mem_filter.1 hy).1, ih h'.2⟩
    · exact ih h'.2

end Sys2Proof.Machine
end

