-- ==== Sys2Proof/Laws/State.lean ====
section
/-!
SUPPORT. One lemma per field per update of the state, and the laws of the dictionary's objects.
-/
namespace Sys2Proof.Machine

variable (s : State)

/-! ## State.setNow -/

@[simp] theorem State.setNow_variant (t : Nat) : (s.setNow t).variant = s.variant := (rfl)
@[simp] theorem State.setNow_pending (t : Nat) : (s.setNow t).pending = s.pending := (rfl)
@[simp] theorem State.setNow_dev (t : Nat) : (s.setNow t).dev = s.dev := (rfl)
@[simp] theorem State.setNow_starting (t : Nat) : (s.setNow t).starting = s.starting := (rfl)
@[simp] theorem State.setNow_objs (t : Nat) : (s.setNow t).objs = s.objs := (rfl)
@[simp] theorem State.setNow_blobs (t : Nat) : (s.setNow t).blobs = s.blobs := (rfl)
@[simp] theorem State.setNow_mem (t : Nat) : (s.setNow t).mem = s.mem := (rfl)
@[simp] theorem State.setNow_halves (t : Nat) : (s.setNow t).halves = s.halves := (rfl)
@[simp] theorem State.setNow_hbm (t : Nat) : (s.setNow t).hbm = s.hbm := (rfl)
@[simp] theorem State.setNow_paths (t : Nat) : (s.setNow t).paths = s.paths := (rfl)
@[simp] theorem State.setNow_mailboxes (t : Nat) : (s.setNow t).mailboxes = s.mailboxes := (rfl)
@[simp] theorem State.setNow_shadows (t : Nat) : (s.setNow t).shadows = s.shadows := (rfl)
@[simp] theorem State.setNow_commits (t : Nat) : (s.setNow t).commits = s.commits := (rfl)
@[simp] theorem State.setNow_servedAt (t : Nat) : (s.setNow t).servedAt = s.servedAt := (rfl)
@[simp] theorem State.setNow_stored (t : Nat) : (s.setNow t).stored = s.stored := (rfl)
@[simp] theorem State.setNow_storedOld (t : Nat) : (s.setNow t).storedOld = s.storedOld := (rfl)
@[simp] theorem State.setNow_storeMarked (t : Nat) : (s.setNow t).storeMarked = s.storeMarked := (rfl)
@[simp] theorem State.setNow_storeCopy (t : Nat) : (s.setNow t).storeCopy = s.storeCopy := (rfl)
@[simp] theorem State.setNow_storeAt (t : Nat) : (s.setNow t).storeAt = s.storeAt := (rfl)
@[simp] theorem State.setNow_hubRestart (t : Nat) : (s.setNow t).hubRestart = s.hubRestart := (rfl)
@[simp] theorem State.setNow_missed (t : Nat) : (s.setNow t).missed = s.missed := (rfl)
@[simp] theorem State.setNow_dies (t : Nat) : (s.setNow t).dies = s.dies := (rfl)
@[simp] theorem State.setNow_inputs (t : Nat) : (s.setNow t).inputs = s.inputs := (rfl)
@[simp] theorem State.setNow_cal (t : Nat) : (s.setNow t).cal = s.cal := (rfl)
@[simp] theorem State.setNow_skewSets (t : Nat) : (s.setNow t).skewSets = s.skewSets := (rfl)
@[simp] theorem State.setNow_ctxs (t : Nat) : (s.setNow t).ctxs = s.ctxs := (rfl)
@[simp] theorem State.setNow_turn (t : Nat) : (s.setNow t).turn = s.turn := (rfl)
@[simp] theorem State.setNow_allocs (t : Nat) : (s.setNow t).allocs = s.allocs := (rfl)
@[simp] theorem State.setNow_cruBufs (t : Nat) : (s.setNow t).cruBufs = s.cruBufs := (rfl)
@[simp] theorem State.setNow_nextHandle (t : Nat) : (s.setNow t).nextHandle = s.nextHandle := (rfl)
@[simp] theorem State.setNow_astore (t : Nat) : (s.setNow t).astore = s.astore := (rfl)
@[simp] theorem State.setNow_trigOut (t : Nat) : (s.setNow t).trigOut = s.trigOut := (rfl)
@[simp] theorem State.setNow_trigOutEnd (t : Nat) : (s.setNow t).trigOutEnd = s.trigOutEnd := (rfl)
@[simp] theorem State.setNow_trigOutHigh (t : Nat) : (s.setNow t).trigOutHigh = s.trigOutHigh := (rfl)
@[simp] theorem State.setNow_trigInOld (t : Nat) : (s.setNow t).trigInOld = s.trigInOld := (rfl)
@[simp] theorem State.setNow_trigInEdges (t : Nat) : (s.setNow t).trigInEdges = s.trigInEdges := (rfl)
@[simp] theorem State.setNow_bufs (t : Nat) : (s.setNow t).bufs = s.bufs := (rfl)
@[simp] theorem State.setNow_ports (t : Nat) : (s.setNow t).ports = s.ports := (rfl)
@[simp] theorem State.setNow_plans (t : Nat) : (s.setNow t).plans = s.plans := (rfl)
@[simp] theorem State.setNow_raster (t : Nat) : (s.setNow t).raster = s.raster := (rfl)
@[simp] theorem State.setNow_chans (t : Nat) : (s.setNow t).chans = s.chans := (rfl)
@[simp] theorem State.setNow_quenched (t : Nat) : (s.setNow t).quenched = s.quenched := (rfl)
@[simp] theorem State.setNow_routes (t : Nat) : (s.setNow t).routes = s.routes := (rfl)
@[simp] theorem State.setNow_reqLines (t : Nat) : (s.setNow t).reqLines = s.reqLines := (rfl)
@[simp] theorem State.setNow_pulsed (t : Nat) : (s.setNow t).pulsed = s.pulsed := (rfl)
@[simp] theorem State.setNow_mvLast (t : Nat) : (s.setNow t).mvLast = s.mvLast := (rfl)
@[simp] theorem State.setNow_lds (t : Nat) : (s.setNow t).lds = s.lds := (rfl)
@[simp] theorem State.setNow_modeCfg (t : Nat) : (s.setNow t).modeCfg = s.modeCfg := (rfl)
@[simp] theorem State.setNow_aerUncorrectable (t : Nat) : (s.setNow t).aerUncorrectable = s.aerUncorrectable := (rfl)
@[simp] theorem State.setNow_spdmFree (t : Nat) : (s.setNow t).spdmFree = s.spdmFree := (rfl)
@[simp] theorem State.setNow_smbusAddr (t : Nat) : (s.setNow t).smbusAddr = s.smbusAddr := (rfl)
@[simp] theorem State.setNow_can (t : Nat) : (s.setNow t).can = s.can := (rfl)
@[simp] theorem State.setNow_power (t : Nat) : (s.setNow t).power = s.power := (rfl)
@[simp] theorem State.setNow_test (t : Nat) : (s.setNow t).test = s.test := (rfl)
@[simp] theorem State.setNow_testNext (t : Nat) : (s.setNow t).testNext = s.testNext := (rfl)
@[simp] theorem State.setNow_testDue (t : Nat) : (s.setNow t).testDue = s.testDue := (rfl)
@[simp] theorem State.setNow_hk (t : Nat) : (s.setNow t).hk = s.hk := (rfl)
@[simp] theorem State.setNow_supRestart (t : Nat) : (s.setNow t).supRestart = s.supRestart := (rfl)
@[simp] theorem State.setNow_deferred (t : Nat) : (s.setNow t).deferred = s.deferred := (rfl)
@[simp] theorem State.setNow_fw (t : Nat) : (s.setNow t).fw = s.fw := (rfl)
@[simp] theorem State.setNow_faults (t : Nat) : (s.setNow t).faults = s.faults := (rfl)
@[simp] theorem State.setNow_sent (t : Nat) : (s.setNow t).sent = s.sent := (rfl)
@[simp] theorem State.setNow_freeCtr (t : Nat) : (s.setNow t).freeCtr = s.freeCtr := (rfl)

/-! ## State.setObj -/

@[simp] theorem State.setObj_variant (i k : Nat) (v : Slot) : (s.setObj i k v).variant = s.variant := (rfl)
@[simp] theorem State.setObj_pending (i k : Nat) (v : Slot) : (s.setObj i k v).pending = s.pending := (rfl)
@[simp] theorem State.setObj_counter (i k : Nat) (v : Slot) : (s.setObj i k v).counter = s.counter := (rfl)
@[simp] theorem State.setObj_wraps (i k : Nat) (v : Slot) : (s.setObj i k v).wraps = s.wraps := (rfl)
@[simp] theorem State.setObj_dev (i k : Nat) (v : Slot) : (s.setObj i k v).dev = s.dev := (rfl)
@[simp] theorem State.setObj_starting (i k : Nat) (v : Slot) : (s.setObj i k v).starting = s.starting := (rfl)
@[simp] theorem State.setObj_blobs (i k : Nat) (v : Slot) : (s.setObj i k v).blobs = s.blobs := (rfl)
@[simp] theorem State.setObj_mem (i k : Nat) (v : Slot) : (s.setObj i k v).mem = s.mem := (rfl)
@[simp] theorem State.setObj_halves (i k : Nat) (v : Slot) : (s.setObj i k v).halves = s.halves := (rfl)
@[simp] theorem State.setObj_hbm (i k : Nat) (v : Slot) : (s.setObj i k v).hbm = s.hbm := (rfl)
@[simp] theorem State.setObj_paths (i k : Nat) (v : Slot) : (s.setObj i k v).paths = s.paths := (rfl)
@[simp] theorem State.setObj_mailboxes (i k : Nat) (v : Slot) : (s.setObj i k v).mailboxes = s.mailboxes := (rfl)
@[simp] theorem State.setObj_shadows (i k : Nat) (v : Slot) : (s.setObj i k v).shadows = s.shadows := (rfl)
@[simp] theorem State.setObj_commits (i k : Nat) (v : Slot) : (s.setObj i k v).commits = s.commits := (rfl)
@[simp] theorem State.setObj_servedAt (i k : Nat) (v : Slot) : (s.setObj i k v).servedAt = s.servedAt := (rfl)
@[simp] theorem State.setObj_stored (i k : Nat) (v : Slot) : (s.setObj i k v).stored = s.stored := (rfl)
@[simp] theorem State.setObj_storedOld (i k : Nat) (v : Slot) : (s.setObj i k v).storedOld = s.storedOld := (rfl)
@[simp] theorem State.setObj_storeMarked (i k : Nat) (v : Slot) : (s.setObj i k v).storeMarked = s.storeMarked := (rfl)
@[simp] theorem State.setObj_storeCopy (i k : Nat) (v : Slot) : (s.setObj i k v).storeCopy = s.storeCopy := (rfl)
@[simp] theorem State.setObj_storeAt (i k : Nat) (v : Slot) : (s.setObj i k v).storeAt = s.storeAt := (rfl)
@[simp] theorem State.setObj_hubRestart (i k : Nat) (v : Slot) : (s.setObj i k v).hubRestart = s.hubRestart := (rfl)
@[simp] theorem State.setObj_missed (i k : Nat) (v : Slot) : (s.setObj i k v).missed = s.missed := (rfl)
@[simp] theorem State.setObj_dies (i k : Nat) (v : Slot) : (s.setObj i k v).dies = s.dies := (rfl)
@[simp] theorem State.setObj_inputs (i k : Nat) (v : Slot) : (s.setObj i k v).inputs = s.inputs := (rfl)
@[simp] theorem State.setObj_cal (i k : Nat) (v : Slot) : (s.setObj i k v).cal = s.cal := (rfl)
@[simp] theorem State.setObj_skewSets (i k : Nat) (v : Slot) : (s.setObj i k v).skewSets = s.skewSets := (rfl)
@[simp] theorem State.setObj_ctxs (i k : Nat) (v : Slot) : (s.setObj i k v).ctxs = s.ctxs := (rfl)
@[simp] theorem State.setObj_turn (i k : Nat) (v : Slot) : (s.setObj i k v).turn = s.turn := (rfl)
@[simp] theorem State.setObj_allocs (i k : Nat) (v : Slot) : (s.setObj i k v).allocs = s.allocs := (rfl)
@[simp] theorem State.setObj_cruBufs (i k : Nat) (v : Slot) : (s.setObj i k v).cruBufs = s.cruBufs := (rfl)
@[simp] theorem State.setObj_nextHandle (i k : Nat) (v : Slot) : (s.setObj i k v).nextHandle = s.nextHandle := (rfl)
@[simp] theorem State.setObj_astore (i k : Nat) (v : Slot) : (s.setObj i k v).astore = s.astore := (rfl)
@[simp] theorem State.setObj_trigOut (i k : Nat) (v : Slot) : (s.setObj i k v).trigOut = s.trigOut := (rfl)
@[simp] theorem State.setObj_trigOutEnd (i k : Nat) (v : Slot) : (s.setObj i k v).trigOutEnd = s.trigOutEnd := (rfl)
@[simp] theorem State.setObj_trigOutHigh (i k : Nat) (v : Slot) : (s.setObj i k v).trigOutHigh = s.trigOutHigh := (rfl)
@[simp] theorem State.setObj_trigInOld (i k : Nat) (v : Slot) : (s.setObj i k v).trigInOld = s.trigInOld := (rfl)
@[simp] theorem State.setObj_trigInEdges (i k : Nat) (v : Slot) : (s.setObj i k v).trigInEdges = s.trigInEdges := (rfl)
@[simp] theorem State.setObj_bufs (i k : Nat) (v : Slot) : (s.setObj i k v).bufs = s.bufs := (rfl)
@[simp] theorem State.setObj_ports (i k : Nat) (v : Slot) : (s.setObj i k v).ports = s.ports := (rfl)
@[simp] theorem State.setObj_plans (i k : Nat) (v : Slot) : (s.setObj i k v).plans = s.plans := (rfl)
@[simp] theorem State.setObj_raster (i k : Nat) (v : Slot) : (s.setObj i k v).raster = s.raster := (rfl)
@[simp] theorem State.setObj_chans (i k : Nat) (v : Slot) : (s.setObj i k v).chans = s.chans := (rfl)
@[simp] theorem State.setObj_quenched (i k : Nat) (v : Slot) : (s.setObj i k v).quenched = s.quenched := (rfl)
@[simp] theorem State.setObj_routes (i k : Nat) (v : Slot) : (s.setObj i k v).routes = s.routes := (rfl)
@[simp] theorem State.setObj_reqLines (i k : Nat) (v : Slot) : (s.setObj i k v).reqLines = s.reqLines := (rfl)
@[simp] theorem State.setObj_pulsed (i k : Nat) (v : Slot) : (s.setObj i k v).pulsed = s.pulsed := (rfl)
@[simp] theorem State.setObj_mvLast (i k : Nat) (v : Slot) : (s.setObj i k v).mvLast = s.mvLast := (rfl)
@[simp] theorem State.setObj_lds (i k : Nat) (v : Slot) : (s.setObj i k v).lds = s.lds := (rfl)
@[simp] theorem State.setObj_modeCfg (i k : Nat) (v : Slot) : (s.setObj i k v).modeCfg = s.modeCfg := (rfl)
@[simp] theorem State.setObj_aerUncorrectable (i k : Nat) (v : Slot) : (s.setObj i k v).aerUncorrectable = s.aerUncorrectable := (rfl)
@[simp] theorem State.setObj_spdmFree (i k : Nat) (v : Slot) : (s.setObj i k v).spdmFree = s.spdmFree := (rfl)
@[simp] theorem State.setObj_smbusAddr (i k : Nat) (v : Slot) : (s.setObj i k v).smbusAddr = s.smbusAddr := (rfl)
@[simp] theorem State.setObj_can (i k : Nat) (v : Slot) : (s.setObj i k v).can = s.can := (rfl)
@[simp] theorem State.setObj_power (i k : Nat) (v : Slot) : (s.setObj i k v).power = s.power := (rfl)
@[simp] theorem State.setObj_test (i k : Nat) (v : Slot) : (s.setObj i k v).test = s.test := (rfl)
@[simp] theorem State.setObj_testNext (i k : Nat) (v : Slot) : (s.setObj i k v).testNext = s.testNext := (rfl)
@[simp] theorem State.setObj_testDue (i k : Nat) (v : Slot) : (s.setObj i k v).testDue = s.testDue := (rfl)
@[simp] theorem State.setObj_hk (i k : Nat) (v : Slot) : (s.setObj i k v).hk = s.hk := (rfl)
@[simp] theorem State.setObj_supRestart (i k : Nat) (v : Slot) : (s.setObj i k v).supRestart = s.supRestart := (rfl)
@[simp] theorem State.setObj_deferred (i k : Nat) (v : Slot) : (s.setObj i k v).deferred = s.deferred := (rfl)
@[simp] theorem State.setObj_fw (i k : Nat) (v : Slot) : (s.setObj i k v).fw = s.fw := (rfl)
@[simp] theorem State.setObj_faults (i k : Nat) (v : Slot) : (s.setObj i k v).faults = s.faults := (rfl)
@[simp] theorem State.setObj_sent (i k : Nat) (v : Slot) : (s.setObj i k v).sent = s.sent := (rfl)
@[simp] theorem State.setObj_freeCtr (i k : Nat) (v : Slot) : (s.setObj i k v).freeCtr = s.freeCtr := (rfl)

/-! ## State.setBlob -/

@[simp] theorem State.setBlob_variant (i k : Nat) (b : List Byte) : (s.setBlob i k b).variant = s.variant := (rfl)
@[simp] theorem State.setBlob_pending (i k : Nat) (b : List Byte) : (s.setBlob i k b).pending = s.pending := (rfl)
@[simp] theorem State.setBlob_counter (i k : Nat) (b : List Byte) : (s.setBlob i k b).counter = s.counter := (rfl)
@[simp] theorem State.setBlob_wraps (i k : Nat) (b : List Byte) : (s.setBlob i k b).wraps = s.wraps := (rfl)
@[simp] theorem State.setBlob_dev (i k : Nat) (b : List Byte) : (s.setBlob i k b).dev = s.dev := (rfl)
@[simp] theorem State.setBlob_starting (i k : Nat) (b : List Byte) : (s.setBlob i k b).starting = s.starting := (rfl)
@[simp] theorem State.setBlob_objs (i k : Nat) (b : List Byte) : (s.setBlob i k b).objs = s.objs := (rfl)
@[simp] theorem State.setBlob_mem (i k : Nat) (b : List Byte) : (s.setBlob i k b).mem = s.mem := (rfl)
@[simp] theorem State.setBlob_halves (i k : Nat) (b : List Byte) : (s.setBlob i k b).halves = s.halves := (rfl)
@[simp] theorem State.setBlob_hbm (i k : Nat) (b : List Byte) : (s.setBlob i k b).hbm = s.hbm := (rfl)
@[simp] theorem State.setBlob_paths (i k : Nat) (b : List Byte) : (s.setBlob i k b).paths = s.paths := (rfl)
@[simp] theorem State.setBlob_mailboxes (i k : Nat) (b : List Byte) : (s.setBlob i k b).mailboxes = s.mailboxes := (rfl)
@[simp] theorem State.setBlob_shadows (i k : Nat) (b : List Byte) : (s.setBlob i k b).shadows = s.shadows := (rfl)
@[simp] theorem State.setBlob_commits (i k : Nat) (b : List Byte) : (s.setBlob i k b).commits = s.commits := (rfl)
@[simp] theorem State.setBlob_servedAt (i k : Nat) (b : List Byte) : (s.setBlob i k b).servedAt = s.servedAt := (rfl)
@[simp] theorem State.setBlob_stored (i k : Nat) (b : List Byte) : (s.setBlob i k b).stored = s.stored := (rfl)
@[simp] theorem State.setBlob_storedOld (i k : Nat) (b : List Byte) : (s.setBlob i k b).storedOld = s.storedOld := (rfl)
@[simp] theorem State.setBlob_storeMarked (i k : Nat) (b : List Byte) : (s.setBlob i k b).storeMarked = s.storeMarked := (rfl)
@[simp] theorem State.setBlob_storeCopy (i k : Nat) (b : List Byte) : (s.setBlob i k b).storeCopy = s.storeCopy := (rfl)
@[simp] theorem State.setBlob_storeAt (i k : Nat) (b : List Byte) : (s.setBlob i k b).storeAt = s.storeAt := (rfl)
@[simp] theorem State.setBlob_hubRestart (i k : Nat) (b : List Byte) : (s.setBlob i k b).hubRestart = s.hubRestart := (rfl)
@[simp] theorem State.setBlob_missed (i k : Nat) (b : List Byte) : (s.setBlob i k b).missed = s.missed := (rfl)
@[simp] theorem State.setBlob_dies (i k : Nat) (b : List Byte) : (s.setBlob i k b).dies = s.dies := (rfl)
@[simp] theorem State.setBlob_inputs (i k : Nat) (b : List Byte) : (s.setBlob i k b).inputs = s.inputs := (rfl)
@[simp] theorem State.setBlob_cal (i k : Nat) (b : List Byte) : (s.setBlob i k b).cal = s.cal := (rfl)
@[simp] theorem State.setBlob_skewSets (i k : Nat) (b : List Byte) : (s.setBlob i k b).skewSets = s.skewSets := (rfl)
@[simp] theorem State.setBlob_ctxs (i k : Nat) (b : List Byte) : (s.setBlob i k b).ctxs = s.ctxs := (rfl)
@[simp] theorem State.setBlob_turn (i k : Nat) (b : List Byte) : (s.setBlob i k b).turn = s.turn := (rfl)
@[simp] theorem State.setBlob_allocs (i k : Nat) (b : List Byte) : (s.setBlob i k b).allocs = s.allocs := (rfl)
@[simp] theorem State.setBlob_cruBufs (i k : Nat) (b : List Byte) : (s.setBlob i k b).cruBufs = s.cruBufs := (rfl)
@[simp] theorem State.setBlob_nextHandle (i k : Nat) (b : List Byte) : (s.setBlob i k b).nextHandle = s.nextHandle := (rfl)
@[simp] theorem State.setBlob_astore (i k : Nat) (b : List Byte) : (s.setBlob i k b).astore = s.astore := (rfl)
@[simp] theorem State.setBlob_trigOut (i k : Nat) (b : List Byte) : (s.setBlob i k b).trigOut = s.trigOut := (rfl)
@[simp] theorem State.setBlob_trigOutEnd (i k : Nat) (b : List Byte) : (s.setBlob i k b).trigOutEnd = s.trigOutEnd := (rfl)
@[simp] theorem State.setBlob_trigOutHigh (i k : Nat) (b : List Byte) : (s.setBlob i k b).trigOutHigh = s.trigOutHigh := (rfl)
@[simp] theorem State.setBlob_trigInOld (i k : Nat) (b : List Byte) : (s.setBlob i k b).trigInOld = s.trigInOld := (rfl)
@[simp] theorem State.setBlob_trigInEdges (i k : Nat) (b : List Byte) : (s.setBlob i k b).trigInEdges = s.trigInEdges := (rfl)
@[simp] theorem State.setBlob_bufs (i k : Nat) (b : List Byte) : (s.setBlob i k b).bufs = s.bufs := (rfl)
@[simp] theorem State.setBlob_ports (i k : Nat) (b : List Byte) : (s.setBlob i k b).ports = s.ports := (rfl)
@[simp] theorem State.setBlob_plans (i k : Nat) (b : List Byte) : (s.setBlob i k b).plans = s.plans := (rfl)
@[simp] theorem State.setBlob_raster (i k : Nat) (b : List Byte) : (s.setBlob i k b).raster = s.raster := (rfl)
@[simp] theorem State.setBlob_chans (i k : Nat) (b : List Byte) : (s.setBlob i k b).chans = s.chans := (rfl)
@[simp] theorem State.setBlob_quenched (i k : Nat) (b : List Byte) : (s.setBlob i k b).quenched = s.quenched := (rfl)
@[simp] theorem State.setBlob_routes (i k : Nat) (b : List Byte) : (s.setBlob i k b).routes = s.routes := (rfl)
@[simp] theorem State.setBlob_reqLines (i k : Nat) (b : List Byte) : (s.setBlob i k b).reqLines = s.reqLines := (rfl)
@[simp] theorem State.setBlob_pulsed (i k : Nat) (b : List Byte) : (s.setBlob i k b).pulsed = s.pulsed := (rfl)
@[simp] theorem State.setBlob_mvLast (i k : Nat) (b : List Byte) : (s.setBlob i k b).mvLast = s.mvLast := (rfl)
@[simp] theorem State.setBlob_lds (i k : Nat) (b : List Byte) : (s.setBlob i k b).lds = s.lds := (rfl)
@[simp] theorem State.setBlob_modeCfg (i k : Nat) (b : List Byte) : (s.setBlob i k b).modeCfg = s.modeCfg := (rfl)
@[simp] theorem State.setBlob_aerUncorrectable (i k : Nat) (b : List Byte) : (s.setBlob i k b).aerUncorrectable = s.aerUncorrectable := (rfl)
@[simp] theorem State.setBlob_spdmFree (i k : Nat) (b : List Byte) : (s.setBlob i k b).spdmFree = s.spdmFree := (rfl)
@[simp] theorem State.setBlob_smbusAddr (i k : Nat) (b : List Byte) : (s.setBlob i k b).smbusAddr = s.smbusAddr := (rfl)
@[simp] theorem State.setBlob_can (i k : Nat) (b : List Byte) : (s.setBlob i k b).can = s.can := (rfl)
@[simp] theorem State.setBlob_power (i k : Nat) (b : List Byte) : (s.setBlob i k b).power = s.power := (rfl)
@[simp] theorem State.setBlob_test (i k : Nat) (b : List Byte) : (s.setBlob i k b).test = s.test := (rfl)
@[simp] theorem State.setBlob_testNext (i k : Nat) (b : List Byte) : (s.setBlob i k b).testNext = s.testNext := (rfl)
@[simp] theorem State.setBlob_testDue (i k : Nat) (b : List Byte) : (s.setBlob i k b).testDue = s.testDue := (rfl)
@[simp] theorem State.setBlob_hk (i k : Nat) (b : List Byte) : (s.setBlob i k b).hk = s.hk := (rfl)
@[simp] theorem State.setBlob_supRestart (i k : Nat) (b : List Byte) : (s.setBlob i k b).supRestart = s.supRestart := (rfl)
@[simp] theorem State.setBlob_deferred (i k : Nat) (b : List Byte) : (s.setBlob i k b).deferred = s.deferred := (rfl)
@[simp] theorem State.setBlob_fw (i k : Nat) (b : List Byte) : (s.setBlob i k b).fw = s.fw := (rfl)
@[simp] theorem State.setBlob_faults (i k : Nat) (b : List Byte) : (s.setBlob i k b).faults = s.faults := (rfl)
@[simp] theorem State.setBlob_sent (i k : Nat) (b : List Byte) : (s.setBlob i k b).sent = s.sent := (rfl)
@[simp] theorem State.setBlob_freeCtr (i k : Nat) (b : List Byte) : (s.setBlob i k b).freeCtr = s.freeCtr := (rfl)

/-! ## State.setDie -/

@[simp] theorem State.setDie_variant (d : Nat) (x : Die) : (s.setDie d x).variant = s.variant := (rfl)
@[simp] theorem State.setDie_pending (d : Nat) (x : Die) : (s.setDie d x).pending = s.pending := (rfl)
@[simp] theorem State.setDie_counter (d : Nat) (x : Die) : (s.setDie d x).counter = s.counter := (rfl)
@[simp] theorem State.setDie_wraps (d : Nat) (x : Die) : (s.setDie d x).wraps = s.wraps := (rfl)
@[simp] theorem State.setDie_dev (d : Nat) (x : Die) : (s.setDie d x).dev = s.dev := (rfl)
@[simp] theorem State.setDie_starting (d : Nat) (x : Die) : (s.setDie d x).starting = s.starting := (rfl)
@[simp] theorem State.setDie_objs (d : Nat) (x : Die) : (s.setDie d x).objs = s.objs := (rfl)
@[simp] theorem State.setDie_blobs (d : Nat) (x : Die) : (s.setDie d x).blobs = s.blobs := (rfl)
@[simp] theorem State.setDie_mem (d : Nat) (x : Die) : (s.setDie d x).mem = s.mem := (rfl)
@[simp] theorem State.setDie_halves (d : Nat) (x : Die) : (s.setDie d x).halves = s.halves := (rfl)
@[simp] theorem State.setDie_hbm (d : Nat) (x : Die) : (s.setDie d x).hbm = s.hbm := (rfl)
@[simp] theorem State.setDie_paths (d : Nat) (x : Die) : (s.setDie d x).paths = s.paths := (rfl)
@[simp] theorem State.setDie_mailboxes (d : Nat) (x : Die) : (s.setDie d x).mailboxes = s.mailboxes := (rfl)
@[simp] theorem State.setDie_shadows (d : Nat) (x : Die) : (s.setDie d x).shadows = s.shadows := (rfl)
@[simp] theorem State.setDie_commits (d : Nat) (x : Die) : (s.setDie d x).commits = s.commits := (rfl)
@[simp] theorem State.setDie_servedAt (d : Nat) (x : Die) : (s.setDie d x).servedAt = s.servedAt := (rfl)
@[simp] theorem State.setDie_stored (d : Nat) (x : Die) : (s.setDie d x).stored = s.stored := (rfl)
@[simp] theorem State.setDie_storedOld (d : Nat) (x : Die) : (s.setDie d x).storedOld = s.storedOld := (rfl)
@[simp] theorem State.setDie_storeMarked (d : Nat) (x : Die) : (s.setDie d x).storeMarked = s.storeMarked := (rfl)
@[simp] theorem State.setDie_storeCopy (d : Nat) (x : Die) : (s.setDie d x).storeCopy = s.storeCopy := (rfl)
@[simp] theorem State.setDie_storeAt (d : Nat) (x : Die) : (s.setDie d x).storeAt = s.storeAt := (rfl)
@[simp] theorem State.setDie_hubRestart (d : Nat) (x : Die) : (s.setDie d x).hubRestart = s.hubRestart := (rfl)
@[simp] theorem State.setDie_missed (d : Nat) (x : Die) : (s.setDie d x).missed = s.missed := (rfl)
@[simp] theorem State.setDie_inputs (d : Nat) (x : Die) : (s.setDie d x).inputs = s.inputs := (rfl)
@[simp] theorem State.setDie_cal (d : Nat) (x : Die) : (s.setDie d x).cal = s.cal := (rfl)
@[simp] theorem State.setDie_skewSets (d : Nat) (x : Die) : (s.setDie d x).skewSets = s.skewSets := (rfl)
@[simp] theorem State.setDie_ctxs (d : Nat) (x : Die) : (s.setDie d x).ctxs = s.ctxs := (rfl)
@[simp] theorem State.setDie_turn (d : Nat) (x : Die) : (s.setDie d x).turn = s.turn := (rfl)
@[simp] theorem State.setDie_allocs (d : Nat) (x : Die) : (s.setDie d x).allocs = s.allocs := (rfl)
@[simp] theorem State.setDie_cruBufs (d : Nat) (x : Die) : (s.setDie d x).cruBufs = s.cruBufs := (rfl)
@[simp] theorem State.setDie_nextHandle (d : Nat) (x : Die) : (s.setDie d x).nextHandle = s.nextHandle := (rfl)
@[simp] theorem State.setDie_astore (d : Nat) (x : Die) : (s.setDie d x).astore = s.astore := (rfl)
@[simp] theorem State.setDie_trigOut (d : Nat) (x : Die) : (s.setDie d x).trigOut = s.trigOut := (rfl)
@[simp] theorem State.setDie_trigOutEnd (d : Nat) (x : Die) : (s.setDie d x).trigOutEnd = s.trigOutEnd := (rfl)
@[simp] theorem State.setDie_trigOutHigh (d : Nat) (x : Die) : (s.setDie d x).trigOutHigh = s.trigOutHigh := (rfl)
@[simp] theorem State.setDie_trigInOld (d : Nat) (x : Die) : (s.setDie d x).trigInOld = s.trigInOld := (rfl)
@[simp] theorem State.setDie_trigInEdges (d : Nat) (x : Die) : (s.setDie d x).trigInEdges = s.trigInEdges := (rfl)
@[simp] theorem State.setDie_bufs (d : Nat) (x : Die) : (s.setDie d x).bufs = s.bufs := (rfl)
@[simp] theorem State.setDie_ports (d : Nat) (x : Die) : (s.setDie d x).ports = s.ports := (rfl)
@[simp] theorem State.setDie_plans (d : Nat) (x : Die) : (s.setDie d x).plans = s.plans := (rfl)
@[simp] theorem State.setDie_raster (d : Nat) (x : Die) : (s.setDie d x).raster = s.raster := (rfl)
@[simp] theorem State.setDie_chans (d : Nat) (x : Die) : (s.setDie d x).chans = s.chans := (rfl)
@[simp] theorem State.setDie_quenched (d : Nat) (x : Die) : (s.setDie d x).quenched = s.quenched := (rfl)
@[simp] theorem State.setDie_routes (d : Nat) (x : Die) : (s.setDie d x).routes = s.routes := (rfl)
@[simp] theorem State.setDie_reqLines (d : Nat) (x : Die) : (s.setDie d x).reqLines = s.reqLines := (rfl)
@[simp] theorem State.setDie_pulsed (d : Nat) (x : Die) : (s.setDie d x).pulsed = s.pulsed := (rfl)
@[simp] theorem State.setDie_mvLast (d : Nat) (x : Die) : (s.setDie d x).mvLast = s.mvLast := (rfl)
@[simp] theorem State.setDie_lds (d : Nat) (x : Die) : (s.setDie d x).lds = s.lds := (rfl)
@[simp] theorem State.setDie_modeCfg (d : Nat) (x : Die) : (s.setDie d x).modeCfg = s.modeCfg := (rfl)
@[simp] theorem State.setDie_aerUncorrectable (d : Nat) (x : Die) : (s.setDie d x).aerUncorrectable = s.aerUncorrectable := (rfl)
@[simp] theorem State.setDie_spdmFree (d : Nat) (x : Die) : (s.setDie d x).spdmFree = s.spdmFree := (rfl)
@[simp] theorem State.setDie_smbusAddr (d : Nat) (x : Die) : (s.setDie d x).smbusAddr = s.smbusAddr := (rfl)
@[simp] theorem State.setDie_can (d : Nat) (x : Die) : (s.setDie d x).can = s.can := (rfl)
@[simp] theorem State.setDie_power (d : Nat) (x : Die) : (s.setDie d x).power = s.power := (rfl)
@[simp] theorem State.setDie_test (d : Nat) (x : Die) : (s.setDie d x).test = s.test := (rfl)
@[simp] theorem State.setDie_testNext (d : Nat) (x : Die) : (s.setDie d x).testNext = s.testNext := (rfl)
@[simp] theorem State.setDie_testDue (d : Nat) (x : Die) : (s.setDie d x).testDue = s.testDue := (rfl)
@[simp] theorem State.setDie_hk (d : Nat) (x : Die) : (s.setDie d x).hk = s.hk := (rfl)
@[simp] theorem State.setDie_supRestart (d : Nat) (x : Die) : (s.setDie d x).supRestart = s.supRestart := (rfl)
@[simp] theorem State.setDie_deferred (d : Nat) (x : Die) : (s.setDie d x).deferred = s.deferred := (rfl)
@[simp] theorem State.setDie_fw (d : Nat) (x : Die) : (s.setDie d x).fw = s.fw := (rfl)
@[simp] theorem State.setDie_faults (d : Nat) (x : Die) : (s.setDie d x).faults = s.faults := (rfl)
@[simp] theorem State.setDie_sent (d : Nat) (x : Die) : (s.setDie d x).sent = s.sent := (rfl)
@[simp] theorem State.setDie_freeCtr (d : Nat) (x : Die) : (s.setDie d x).freeCtr = s.freeCtr := (rfl)

/-! ## State.setInput -/

@[simp] theorem State.setInput_variant (n : Nat) (x : Input) : (s.setInput n x).variant = s.variant := (rfl)
@[simp] theorem State.setInput_pending (n : Nat) (x : Input) : (s.setInput n x).pending = s.pending := (rfl)
@[simp] theorem State.setInput_counter (n : Nat) (x : Input) : (s.setInput n x).counter = s.counter := (rfl)
@[simp] theorem State.setInput_wraps (n : Nat) (x : Input) : (s.setInput n x).wraps = s.wraps := (rfl)
@[simp] theorem State.setInput_dev (n : Nat) (x : Input) : (s.setInput n x).dev = s.dev := (rfl)
@[simp] theorem State.setInput_starting (n : Nat) (x : Input) : (s.setInput n x).starting = s.starting := (rfl)
@[simp] theorem State.setInput_objs (n : Nat) (x : Input) : (s.setInput n x).objs = s.objs := (rfl)
@[simp] theorem State.setInput_blobs (n : Nat) (x : Input) : (s.setInput n x).blobs = s.blobs := (rfl)
@[simp] theorem State.setInput_mem (n : Nat) (x : Input) : (s.setInput n x).mem = s.mem := (rfl)
@[simp] theorem State.setInput_halves (n : Nat) (x : Input) : (s.setInput n x).halves = s.halves := (rfl)
@[simp] theorem State.setInput_hbm (n : Nat) (x : Input) : (s.setInput n x).hbm = s.hbm := (rfl)
@[simp] theorem State.setInput_paths (n : Nat) (x : Input) : (s.setInput n x).paths = s.paths := (rfl)
@[simp] theorem State.setInput_mailboxes (n : Nat) (x : Input) : (s.setInput n x).mailboxes = s.mailboxes := (rfl)
@[simp] theorem State.setInput_shadows (n : Nat) (x : Input) : (s.setInput n x).shadows = s.shadows := (rfl)
@[simp] theorem State.setInput_commits (n : Nat) (x : Input) : (s.setInput n x).commits = s.commits := (rfl)
@[simp] theorem State.setInput_servedAt (n : Nat) (x : Input) : (s.setInput n x).servedAt = s.servedAt := (rfl)
@[simp] theorem State.setInput_stored (n : Nat) (x : Input) : (s.setInput n x).stored = s.stored := (rfl)
@[simp] theorem State.setInput_storedOld (n : Nat) (x : Input) : (s.setInput n x).storedOld = s.storedOld := (rfl)
@[simp] theorem State.setInput_storeMarked (n : Nat) (x : Input) : (s.setInput n x).storeMarked = s.storeMarked := (rfl)
@[simp] theorem State.setInput_storeCopy (n : Nat) (x : Input) : (s.setInput n x).storeCopy = s.storeCopy := (rfl)
@[simp] theorem State.setInput_storeAt (n : Nat) (x : Input) : (s.setInput n x).storeAt = s.storeAt := (rfl)
@[simp] theorem State.setInput_hubRestart (n : Nat) (x : Input) : (s.setInput n x).hubRestart = s.hubRestart := (rfl)
@[simp] theorem State.setInput_missed (n : Nat) (x : Input) : (s.setInput n x).missed = s.missed := (rfl)
@[simp] theorem State.setInput_dies (n : Nat) (x : Input) : (s.setInput n x).dies = s.dies := (rfl)
@[simp] theorem State.setInput_cal (n : Nat) (x : Input) : (s.setInput n x).cal = s.cal := (rfl)
@[simp] theorem State.setInput_skewSets (n : Nat) (x : Input) : (s.setInput n x).skewSets = s.skewSets := (rfl)
@[simp] theorem State.setInput_ctxs (n : Nat) (x : Input) : (s.setInput n x).ctxs = s.ctxs := (rfl)
@[simp] theorem State.setInput_turn (n : Nat) (x : Input) : (s.setInput n x).turn = s.turn := (rfl)
@[simp] theorem State.setInput_allocs (n : Nat) (x : Input) : (s.setInput n x).allocs = s.allocs := (rfl)
@[simp] theorem State.setInput_cruBufs (n : Nat) (x : Input) : (s.setInput n x).cruBufs = s.cruBufs := (rfl)
@[simp] theorem State.setInput_nextHandle (n : Nat) (x : Input) : (s.setInput n x).nextHandle = s.nextHandle := (rfl)
@[simp] theorem State.setInput_astore (n : Nat) (x : Input) : (s.setInput n x).astore = s.astore := (rfl)
@[simp] theorem State.setInput_trigOut (n : Nat) (x : Input) : (s.setInput n x).trigOut = s.trigOut := (rfl)
@[simp] theorem State.setInput_trigOutEnd (n : Nat) (x : Input) : (s.setInput n x).trigOutEnd = s.trigOutEnd := (rfl)
@[simp] theorem State.setInput_trigOutHigh (n : Nat) (x : Input) : (s.setInput n x).trigOutHigh = s.trigOutHigh := (rfl)
@[simp] theorem State.setInput_trigInOld (n : Nat) (x : Input) : (s.setInput n x).trigInOld = s.trigInOld := (rfl)
@[simp] theorem State.setInput_trigInEdges (n : Nat) (x : Input) : (s.setInput n x).trigInEdges = s.trigInEdges := (rfl)
@[simp] theorem State.setInput_bufs (n : Nat) (x : Input) : (s.setInput n x).bufs = s.bufs := (rfl)
@[simp] theorem State.setInput_ports (n : Nat) (x : Input) : (s.setInput n x).ports = s.ports := (rfl)
@[simp] theorem State.setInput_plans (n : Nat) (x : Input) : (s.setInput n x).plans = s.plans := (rfl)
@[simp] theorem State.setInput_raster (n : Nat) (x : Input) : (s.setInput n x).raster = s.raster := (rfl)
@[simp] theorem State.setInput_chans (n : Nat) (x : Input) : (s.setInput n x).chans = s.chans := (rfl)
@[simp] theorem State.setInput_quenched (n : Nat) (x : Input) : (s.setInput n x).quenched = s.quenched := (rfl)
@[simp] theorem State.setInput_routes (n : Nat) (x : Input) : (s.setInput n x).routes = s.routes := (rfl)
@[simp] theorem State.setInput_reqLines (n : Nat) (x : Input) : (s.setInput n x).reqLines = s.reqLines := (rfl)
@[simp] theorem State.setInput_pulsed (n : Nat) (x : Input) : (s.setInput n x).pulsed = s.pulsed := (rfl)
@[simp] theorem State.setInput_mvLast (n : Nat) (x : Input) : (s.setInput n x).mvLast = s.mvLast := (rfl)
@[simp] theorem State.setInput_lds (n : Nat) (x : Input) : (s.setInput n x).lds = s.lds := (rfl)
@[simp] theorem State.setInput_modeCfg (n : Nat) (x : Input) : (s.setInput n x).modeCfg = s.modeCfg := (rfl)
@[simp] theorem State.setInput_aerUncorrectable (n : Nat) (x : Input) : (s.setInput n x).aerUncorrectable = s.aerUncorrectable := (rfl)
@[simp] theorem State.setInput_spdmFree (n : Nat) (x : Input) : (s.setInput n x).spdmFree = s.spdmFree := (rfl)
@[simp] theorem State.setInput_smbusAddr (n : Nat) (x : Input) : (s.setInput n x).smbusAddr = s.smbusAddr := (rfl)
@[simp] theorem State.setInput_can (n : Nat) (x : Input) : (s.setInput n x).can = s.can := (rfl)
@[simp] theorem State.setInput_power (n : Nat) (x : Input) : (s.setInput n x).power = s.power := (rfl)
@[simp] theorem State.setInput_test (n : Nat) (x : Input) : (s.setInput n x).test = s.test := (rfl)
@[simp] theorem State.setInput_testNext (n : Nat) (x : Input) : (s.setInput n x).testNext = s.testNext := (rfl)
@[simp] theorem State.setInput_testDue (n : Nat) (x : Input) : (s.setInput n x).testDue = s.testDue := (rfl)
@[simp] theorem State.setInput_hk (n : Nat) (x : Input) : (s.setInput n x).hk = s.hk := (rfl)
@[simp] theorem State.setInput_supRestart (n : Nat) (x : Input) : (s.setInput n x).supRestart = s.supRestart := (rfl)
@[simp] theorem State.setInput_deferred (n : Nat) (x : Input) : (s.setInput n x).deferred = s.deferred := (rfl)
@[simp] theorem State.setInput_fw (n : Nat) (x : Input) : (s.setInput n x).fw = s.fw := (rfl)
@[simp] theorem State.setInput_faults (n : Nat) (x : Input) : (s.setInput n x).faults = s.faults := (rfl)
@[simp] theorem State.setInput_sent (n : Nat) (x : Input) : (s.setInput n x).sent = s.sent := (rfl)
@[simp] theorem State.setInput_freeCtr (n : Nat) (x : Input) : (s.setInput n x).freeCtr = s.freeCtr := (rfl)

/-! ## State.setCtx -/

@[simp] theorem State.setCtx_variant (c : Nat) (x : Ctx) : (s.setCtx c x).variant = s.variant := (rfl)
@[simp] theorem State.setCtx_pending (c : Nat) (x : Ctx) : (s.setCtx c x).pending = s.pending := (rfl)
@[simp] theorem State.setCtx_counter (c : Nat) (x : Ctx) : (s.setCtx c x).counter = s.counter := (rfl)
@[simp] theorem State.setCtx_wraps (c : Nat) (x : Ctx) : (s.setCtx c x).wraps = s.wraps := (rfl)
@[simp] theorem State.setCtx_dev (c : Nat) (x : Ctx) : (s.setCtx c x).dev = s.dev := (rfl)
@[simp] theorem State.setCtx_starting (c : Nat) (x : Ctx) : (s.setCtx c x).starting = s.starting := (rfl)
@[simp] theorem State.setCtx_objs (c : Nat) (x : Ctx) : (s.setCtx c x).objs = s.objs := (rfl)
@[simp] theorem State.setCtx_blobs (c : Nat) (x : Ctx) : (s.setCtx c x).blobs = s.blobs := (rfl)
@[simp] theorem State.setCtx_mem (c : Nat) (x : Ctx) : (s.setCtx c x).mem = s.mem := (rfl)
@[simp] theorem State.setCtx_halves (c : Nat) (x : Ctx) : (s.setCtx c x).halves = s.halves := (rfl)
@[simp] theorem State.setCtx_hbm (c : Nat) (x : Ctx) : (s.setCtx c x).hbm = s.hbm := (rfl)
@[simp] theorem State.setCtx_paths (c : Nat) (x : Ctx) : (s.setCtx c x).paths = s.paths := (rfl)
@[simp] theorem State.setCtx_mailboxes (c : Nat) (x : Ctx) : (s.setCtx c x).mailboxes = s.mailboxes := (rfl)
@[simp] theorem State.setCtx_shadows (c : Nat) (x : Ctx) : (s.setCtx c x).shadows = s.shadows := (rfl)
@[simp] theorem State.setCtx_commits (c : Nat) (x : Ctx) : (s.setCtx c x).commits = s.commits := (rfl)
@[simp] theorem State.setCtx_servedAt (c : Nat) (x : Ctx) : (s.setCtx c x).servedAt = s.servedAt := (rfl)
@[simp] theorem State.setCtx_stored (c : Nat) (x : Ctx) : (s.setCtx c x).stored = s.stored := (rfl)
@[simp] theorem State.setCtx_storedOld (c : Nat) (x : Ctx) : (s.setCtx c x).storedOld = s.storedOld := (rfl)
@[simp] theorem State.setCtx_storeMarked (c : Nat) (x : Ctx) : (s.setCtx c x).storeMarked = s.storeMarked := (rfl)
@[simp] theorem State.setCtx_storeCopy (c : Nat) (x : Ctx) : (s.setCtx c x).storeCopy = s.storeCopy := (rfl)
@[simp] theorem State.setCtx_storeAt (c : Nat) (x : Ctx) : (s.setCtx c x).storeAt = s.storeAt := (rfl)
@[simp] theorem State.setCtx_hubRestart (c : Nat) (x : Ctx) : (s.setCtx c x).hubRestart = s.hubRestart := (rfl)
@[simp] theorem State.setCtx_missed (c : Nat) (x : Ctx) : (s.setCtx c x).missed = s.missed := (rfl)
@[simp] theorem State.setCtx_dies (c : Nat) (x : Ctx) : (s.setCtx c x).dies = s.dies := (rfl)
@[simp] theorem State.setCtx_inputs (c : Nat) (x : Ctx) : (s.setCtx c x).inputs = s.inputs := (rfl)
@[simp] theorem State.setCtx_cal (c : Nat) (x : Ctx) : (s.setCtx c x).cal = s.cal := (rfl)
@[simp] theorem State.setCtx_skewSets (c : Nat) (x : Ctx) : (s.setCtx c x).skewSets = s.skewSets := (rfl)
@[simp] theorem State.setCtx_turn (c : Nat) (x : Ctx) : (s.setCtx c x).turn = s.turn := (rfl)
@[simp] theorem State.setCtx_allocs (c : Nat) (x : Ctx) : (s.setCtx c x).allocs = s.allocs := (rfl)
@[simp] theorem State.setCtx_cruBufs (c : Nat) (x : Ctx) : (s.setCtx c x).cruBufs = s.cruBufs := (rfl)
@[simp] theorem State.setCtx_nextHandle (c : Nat) (x : Ctx) : (s.setCtx c x).nextHandle = s.nextHandle := (rfl)
@[simp] theorem State.setCtx_astore (c : Nat) (x : Ctx) : (s.setCtx c x).astore = s.astore := (rfl)
@[simp] theorem State.setCtx_trigOut (c : Nat) (x : Ctx) : (s.setCtx c x).trigOut = s.trigOut := (rfl)
@[simp] theorem State.setCtx_trigOutEnd (c : Nat) (x : Ctx) : (s.setCtx c x).trigOutEnd = s.trigOutEnd := (rfl)
@[simp] theorem State.setCtx_trigOutHigh (c : Nat) (x : Ctx) : (s.setCtx c x).trigOutHigh = s.trigOutHigh := (rfl)
@[simp] theorem State.setCtx_trigInOld (c : Nat) (x : Ctx) : (s.setCtx c x).trigInOld = s.trigInOld := (rfl)
@[simp] theorem State.setCtx_trigInEdges (c : Nat) (x : Ctx) : (s.setCtx c x).trigInEdges = s.trigInEdges := (rfl)
@[simp] theorem State.setCtx_bufs (c : Nat) (x : Ctx) : (s.setCtx c x).bufs = s.bufs := (rfl)
@[simp] theorem State.setCtx_ports (c : Nat) (x : Ctx) : (s.setCtx c x).ports = s.ports := (rfl)
@[simp] theorem State.setCtx_plans (c : Nat) (x : Ctx) : (s.setCtx c x).plans = s.plans := (rfl)
@[simp] theorem State.setCtx_raster (c : Nat) (x : Ctx) : (s.setCtx c x).raster = s.raster := (rfl)
@[simp] theorem State.setCtx_chans (c : Nat) (x : Ctx) : (s.setCtx c x).chans = s.chans := (rfl)
@[simp] theorem State.setCtx_quenched (c : Nat) (x : Ctx) : (s.setCtx c x).quenched = s.quenched := (rfl)
@[simp] theorem State.setCtx_routes (c : Nat) (x : Ctx) : (s.setCtx c x).routes = s.routes := (rfl)
@[simp] theorem State.setCtx_reqLines (c : Nat) (x : Ctx) : (s.setCtx c x).reqLines = s.reqLines := (rfl)
@[simp] theorem State.setCtx_pulsed (c : Nat) (x : Ctx) : (s.setCtx c x).pulsed = s.pulsed := (rfl)
@[simp] theorem State.setCtx_mvLast (c : Nat) (x : Ctx) : (s.setCtx c x).mvLast = s.mvLast := (rfl)
@[simp] theorem State.setCtx_lds (c : Nat) (x : Ctx) : (s.setCtx c x).lds = s.lds := (rfl)
@[simp] theorem State.setCtx_modeCfg (c : Nat) (x : Ctx) : (s.setCtx c x).modeCfg = s.modeCfg := (rfl)
@[simp] theorem State.setCtx_aerUncorrectable (c : Nat) (x : Ctx) : (s.setCtx c x).aerUncorrectable = s.aerUncorrectable := (rfl)
@[simp] theorem State.setCtx_spdmFree (c : Nat) (x : Ctx) : (s.setCtx c x).spdmFree = s.spdmFree := (rfl)
@[simp] theorem State.setCtx_smbusAddr (c : Nat) (x : Ctx) : (s.setCtx c x).smbusAddr = s.smbusAddr := (rfl)
@[simp] theorem State.setCtx_can (c : Nat) (x : Ctx) : (s.setCtx c x).can = s.can := (rfl)
@[simp] theorem State.setCtx_power (c : Nat) (x : Ctx) : (s.setCtx c x).power = s.power := (rfl)
@[simp] theorem State.setCtx_test (c : Nat) (x : Ctx) : (s.setCtx c x).test = s.test := (rfl)
@[simp] theorem State.setCtx_testNext (c : Nat) (x : Ctx) : (s.setCtx c x).testNext = s.testNext := (rfl)
@[simp] theorem State.setCtx_testDue (c : Nat) (x : Ctx) : (s.setCtx c x).testDue = s.testDue := (rfl)
@[simp] theorem State.setCtx_hk (c : Nat) (x : Ctx) : (s.setCtx c x).hk = s.hk := (rfl)
@[simp] theorem State.setCtx_supRestart (c : Nat) (x : Ctx) : (s.setCtx c x).supRestart = s.supRestart := (rfl)
@[simp] theorem State.setCtx_deferred (c : Nat) (x : Ctx) : (s.setCtx c x).deferred = s.deferred := (rfl)
@[simp] theorem State.setCtx_fw (c : Nat) (x : Ctx) : (s.setCtx c x).fw = s.fw := (rfl)
@[simp] theorem State.setCtx_faults (c : Nat) (x : Ctx) : (s.setCtx c x).faults = s.faults := (rfl)
@[simp] theorem State.setCtx_sent (c : Nat) (x : Ctx) : (s.setCtx c x).sent = s.sent := (rfl)
@[simp] theorem State.setCtx_freeCtr (c : Nat) (x : Ctx) : (s.setCtx c x).freeCtr = s.freeCtr := (rfl)

/-! ## State.setChan -/

@[simp] theorem State.setChan_variant (c : Nat) (x : Chan) : (s.setChan c x).variant = s.variant := (rfl)
@[simp] theorem State.setChan_pending (c : Nat) (x : Chan) : (s.setChan c x).pending = s.pending := (rfl)
@[simp] theorem State.setChan_counter (c : Nat) (x : Chan) : (s.setChan c x).counter = s.counter := (rfl)
@[simp] theorem State.setChan_wraps (c : Nat) (x : Chan) : (s.setChan c x).wraps = s.wraps := (rfl)
@[simp] theorem State.setChan_dev (c : Nat) (x : Chan) : (s.setChan c x).dev = s.dev := (rfl)
@[simp] theorem State.setChan_starting (c : Nat) (x : Chan) : (s.setChan c x).starting = s.starting := (rfl)
@[simp] theorem State.setChan_objs (c : Nat) (x : Chan) : (s.setChan c x).objs = s.objs := (rfl)
@[simp] theorem State.setChan_blobs (c : Nat) (x : Chan) : (s.setChan c x).blobs = s.blobs := (rfl)
@[simp] theorem State.setChan_mem (c : Nat) (x : Chan) : (s.setChan c x).mem = s.mem := (rfl)
@[simp] theorem State.setChan_halves (c : Nat) (x : Chan) : (s.setChan c x).halves = s.halves := (rfl)
@[simp] theorem State.setChan_hbm (c : Nat) (x : Chan) : (s.setChan c x).hbm = s.hbm := (rfl)
@[simp] theorem State.setChan_paths (c : Nat) (x : Chan) : (s.setChan c x).paths = s.paths := (rfl)
@[simp] theorem State.setChan_mailboxes (c : Nat) (x : Chan) : (s.setChan c x).mailboxes = s.mailboxes := (rfl)
@[simp] theorem State.setChan_shadows (c : Nat) (x : Chan) : (s.setChan c x).shadows = s.shadows := (rfl)
@[simp] theorem State.setChan_commits (c : Nat) (x : Chan) : (s.setChan c x).commits = s.commits := (rfl)
@[simp] theorem State.setChan_servedAt (c : Nat) (x : Chan) : (s.setChan c x).servedAt = s.servedAt := (rfl)
@[simp] theorem State.setChan_stored (c : Nat) (x : Chan) : (s.setChan c x).stored = s.stored := (rfl)
@[simp] theorem State.setChan_storedOld (c : Nat) (x : Chan) : (s.setChan c x).storedOld = s.storedOld := (rfl)
@[simp] theorem State.setChan_storeMarked (c : Nat) (x : Chan) : (s.setChan c x).storeMarked = s.storeMarked := (rfl)
@[simp] theorem State.setChan_storeCopy (c : Nat) (x : Chan) : (s.setChan c x).storeCopy = s.storeCopy := (rfl)
@[simp] theorem State.setChan_storeAt (c : Nat) (x : Chan) : (s.setChan c x).storeAt = s.storeAt := (rfl)
@[simp] theorem State.setChan_hubRestart (c : Nat) (x : Chan) : (s.setChan c x).hubRestart = s.hubRestart := (rfl)
@[simp] theorem State.setChan_missed (c : Nat) (x : Chan) : (s.setChan c x).missed = s.missed := (rfl)
@[simp] theorem State.setChan_dies (c : Nat) (x : Chan) : (s.setChan c x).dies = s.dies := (rfl)
@[simp] theorem State.setChan_inputs (c : Nat) (x : Chan) : (s.setChan c x).inputs = s.inputs := (rfl)
@[simp] theorem State.setChan_cal (c : Nat) (x : Chan) : (s.setChan c x).cal = s.cal := (rfl)
@[simp] theorem State.setChan_skewSets (c : Nat) (x : Chan) : (s.setChan c x).skewSets = s.skewSets := (rfl)
@[simp] theorem State.setChan_ctxs (c : Nat) (x : Chan) : (s.setChan c x).ctxs = s.ctxs := (rfl)
@[simp] theorem State.setChan_turn (c : Nat) (x : Chan) : (s.setChan c x).turn = s.turn := (rfl)
@[simp] theorem State.setChan_allocs (c : Nat) (x : Chan) : (s.setChan c x).allocs = s.allocs := (rfl)
@[simp] theorem State.setChan_cruBufs (c : Nat) (x : Chan) : (s.setChan c x).cruBufs = s.cruBufs := (rfl)
@[simp] theorem State.setChan_nextHandle (c : Nat) (x : Chan) : (s.setChan c x).nextHandle = s.nextHandle := (rfl)
@[simp] theorem State.setChan_astore (c : Nat) (x : Chan) : (s.setChan c x).astore = s.astore := (rfl)
@[simp] theorem State.setChan_trigOut (c : Nat) (x : Chan) : (s.setChan c x).trigOut = s.trigOut := (rfl)
@[simp] theorem State.setChan_trigOutEnd (c : Nat) (x : Chan) : (s.setChan c x).trigOutEnd = s.trigOutEnd := (rfl)
@[simp] theorem State.setChan_trigOutHigh (c : Nat) (x : Chan) : (s.setChan c x).trigOutHigh = s.trigOutHigh := (rfl)
@[simp] theorem State.setChan_trigInOld (c : Nat) (x : Chan) : (s.setChan c x).trigInOld = s.trigInOld := (rfl)
@[simp] theorem State.setChan_trigInEdges (c : Nat) (x : Chan) : (s.setChan c x).trigInEdges = s.trigInEdges := (rfl)
@[simp] theorem State.setChan_bufs (c : Nat) (x : Chan) : (s.setChan c x).bufs = s.bufs := (rfl)
@[simp] theorem State.setChan_ports (c : Nat) (x : Chan) : (s.setChan c x).ports = s.ports := (rfl)
@[simp] theorem State.setChan_plans (c : Nat) (x : Chan) : (s.setChan c x).plans = s.plans := (rfl)
@[simp] theorem State.setChan_raster (c : Nat) (x : Chan) : (s.setChan c x).raster = s.raster := (rfl)
@[simp] theorem State.setChan_quenched (c : Nat) (x : Chan) : (s.setChan c x).quenched = s.quenched := (rfl)
@[simp] theorem State.setChan_routes (c : Nat) (x : Chan) : (s.setChan c x).routes = s.routes := (rfl)
@[simp] theorem State.setChan_reqLines (c : Nat) (x : Chan) : (s.setChan c x).reqLines = s.reqLines := (rfl)
@[simp] theorem State.setChan_pulsed (c : Nat) (x : Chan) : (s.setChan c x).pulsed = s.pulsed := (rfl)
@[simp] theorem State.setChan_mvLast (c : Nat) (x : Chan) : (s.setChan c x).mvLast = s.mvLast := (rfl)
@[simp] theorem State.setChan_lds (c : Nat) (x : Chan) : (s.setChan c x).lds = s.lds := (rfl)
@[simp] theorem State.setChan_modeCfg (c : Nat) (x : Chan) : (s.setChan c x).modeCfg = s.modeCfg := (rfl)
@[simp] theorem State.setChan_aerUncorrectable (c : Nat) (x : Chan) : (s.setChan c x).aerUncorrectable = s.aerUncorrectable := (rfl)
@[simp] theorem State.setChan_spdmFree (c : Nat) (x : Chan) : (s.setChan c x).spdmFree = s.spdmFree := (rfl)
@[simp] theorem State.setChan_smbusAddr (c : Nat) (x : Chan) : (s.setChan c x).smbusAddr = s.smbusAddr := (rfl)
@[simp] theorem State.setChan_can (c : Nat) (x : Chan) : (s.setChan c x).can = s.can := (rfl)
@[simp] theorem State.setChan_power (c : Nat) (x : Chan) : (s.setChan c x).power = s.power := (rfl)
@[simp] theorem State.setChan_test (c : Nat) (x : Chan) : (s.setChan c x).test = s.test := (rfl)
@[simp] theorem State.setChan_testNext (c : Nat) (x : Chan) : (s.setChan c x).testNext = s.testNext := (rfl)
@[simp] theorem State.setChan_testDue (c : Nat) (x : Chan) : (s.setChan c x).testDue = s.testDue := (rfl)
@[simp] theorem State.setChan_hk (c : Nat) (x : Chan) : (s.setChan c x).hk = s.hk := (rfl)
@[simp] theorem State.setChan_supRestart (c : Nat) (x : Chan) : (s.setChan c x).supRestart = s.supRestart := (rfl)
@[simp] theorem State.setChan_deferred (c : Nat) (x : Chan) : (s.setChan c x).deferred = s.deferred := (rfl)
@[simp] theorem State.setChan_fw (c : Nat) (x : Chan) : (s.setChan c x).fw = s.fw := (rfl)
@[simp] theorem State.setChan_faults (c : Nat) (x : Chan) : (s.setChan c x).faults = s.faults := (rfl)
@[simp] theorem State.setChan_sent (c : Nat) (x : Chan) : (s.setChan c x).sent = s.sent := (rfl)
@[simp] theorem State.setChan_freeCtr (c : Nat) (x : Chan) : (s.setChan c x).freeCtr = s.freeCtr := (rfl)

/-! ## State.setLd -/

@[simp] theorem State.setLd_variant (l : Nat) (x : Ld) : (s.setLd l x).variant = s.variant := (rfl)
@[simp] theorem State.setLd_pending (l : Nat) (x : Ld) : (s.setLd l x).pending = s.pending := (rfl)
@[simp] theorem State.setLd_counter (l : Nat) (x : Ld) : (s.setLd l x).counter = s.counter := (rfl)
@[simp] theorem State.setLd_wraps (l : Nat) (x : Ld) : (s.setLd l x).wraps = s.wraps := (rfl)
@[simp] theorem State.setLd_dev (l : Nat) (x : Ld) : (s.setLd l x).dev = s.dev := (rfl)
@[simp] theorem State.setLd_starting (l : Nat) (x : Ld) : (s.setLd l x).starting = s.starting := (rfl)
@[simp] theorem State.setLd_objs (l : Nat) (x : Ld) : (s.setLd l x).objs = s.objs := (rfl)
@[simp] theorem State.setLd_blobs (l : Nat) (x : Ld) : (s.setLd l x).blobs = s.blobs := (rfl)
@[simp] theorem State.setLd_mem (l : Nat) (x : Ld) : (s.setLd l x).mem = s.mem := (rfl)
@[simp] theorem State.setLd_halves (l : Nat) (x : Ld) : (s.setLd l x).halves = s.halves := (rfl)
@[simp] theorem State.setLd_hbm (l : Nat) (x : Ld) : (s.setLd l x).hbm = s.hbm := (rfl)
@[simp] theorem State.setLd_paths (l : Nat) (x : Ld) : (s.setLd l x).paths = s.paths := (rfl)
@[simp] theorem State.setLd_mailboxes (l : Nat) (x : Ld) : (s.setLd l x).mailboxes = s.mailboxes := (rfl)
@[simp] theorem State.setLd_shadows (l : Nat) (x : Ld) : (s.setLd l x).shadows = s.shadows := (rfl)
@[simp] theorem State.setLd_commits (l : Nat) (x : Ld) : (s.setLd l x).commits = s.commits := (rfl)
@[simp] theorem State.setLd_servedAt (l : Nat) (x : Ld) : (s.setLd l x).servedAt = s.servedAt := (rfl)
@[simp] theorem State.setLd_stored (l : Nat) (x : Ld) : (s.setLd l x).stored = s.stored := (rfl)
@[simp] theorem State.setLd_storedOld (l : Nat) (x : Ld) : (s.setLd l x).storedOld = s.storedOld := (rfl)
@[simp] theorem State.setLd_storeMarked (l : Nat) (x : Ld) : (s.setLd l x).storeMarked = s.storeMarked := (rfl)
@[simp] theorem State.setLd_storeCopy (l : Nat) (x : Ld) : (s.setLd l x).storeCopy = s.storeCopy := (rfl)
@[simp] theorem State.setLd_storeAt (l : Nat) (x : Ld) : (s.setLd l x).storeAt = s.storeAt := (rfl)
@[simp] theorem State.setLd_hubRestart (l : Nat) (x : Ld) : (s.setLd l x).hubRestart = s.hubRestart := (rfl)
@[simp] theorem State.setLd_missed (l : Nat) (x : Ld) : (s.setLd l x).missed = s.missed := (rfl)
@[simp] theorem State.setLd_dies (l : Nat) (x : Ld) : (s.setLd l x).dies = s.dies := (rfl)
@[simp] theorem State.setLd_inputs (l : Nat) (x : Ld) : (s.setLd l x).inputs = s.inputs := (rfl)
@[simp] theorem State.setLd_cal (l : Nat) (x : Ld) : (s.setLd l x).cal = s.cal := (rfl)
@[simp] theorem State.setLd_skewSets (l : Nat) (x : Ld) : (s.setLd l x).skewSets = s.skewSets := (rfl)
@[simp] theorem State.setLd_ctxs (l : Nat) (x : Ld) : (s.setLd l x).ctxs = s.ctxs := (rfl)
@[simp] theorem State.setLd_turn (l : Nat) (x : Ld) : (s.setLd l x).turn = s.turn := (rfl)
@[simp] theorem State.setLd_allocs (l : Nat) (x : Ld) : (s.setLd l x).allocs = s.allocs := (rfl)
@[simp] theorem State.setLd_cruBufs (l : Nat) (x : Ld) : (s.setLd l x).cruBufs = s.cruBufs := (rfl)
@[simp] theorem State.setLd_nextHandle (l : Nat) (x : Ld) : (s.setLd l x).nextHandle = s.nextHandle := (rfl)
@[simp] theorem State.setLd_astore (l : Nat) (x : Ld) : (s.setLd l x).astore = s.astore := (rfl)
@[simp] theorem State.setLd_trigOut (l : Nat) (x : Ld) : (s.setLd l x).trigOut = s.trigOut := (rfl)
@[simp] theorem State.setLd_trigOutEnd (l : Nat) (x : Ld) : (s.setLd l x).trigOutEnd = s.trigOutEnd := (rfl)
@[simp] theorem State.setLd_trigOutHigh (l : Nat) (x : Ld) : (s.setLd l x).trigOutHigh = s.trigOutHigh := (rfl)
@[simp] theorem State.setLd_trigInOld (l : Nat) (x : Ld) : (s.setLd l x).trigInOld = s.trigInOld := (rfl)
@[simp] theorem State.setLd_trigInEdges (l : Nat) (x : Ld) : (s.setLd l x).trigInEdges = s.trigInEdges := (rfl)
@[simp] theorem State.setLd_bufs (l : Nat) (x : Ld) : (s.setLd l x).bufs = s.bufs := (rfl)
@[simp] theorem State.setLd_ports (l : Nat) (x : Ld) : (s.setLd l x).ports = s.ports := (rfl)
@[simp] theorem State.setLd_plans (l : Nat) (x : Ld) : (s.setLd l x).plans = s.plans := (rfl)
@[simp] theorem State.setLd_raster (l : Nat) (x : Ld) : (s.setLd l x).raster = s.raster := (rfl)
@[simp] theorem State.setLd_chans (l : Nat) (x : Ld) : (s.setLd l x).chans = s.chans := (rfl)
@[simp] theorem State.setLd_quenched (l : Nat) (x : Ld) : (s.setLd l x).quenched = s.quenched := (rfl)
@[simp] theorem State.setLd_routes (l : Nat) (x : Ld) : (s.setLd l x).routes = s.routes := (rfl)
@[simp] theorem State.setLd_reqLines (l : Nat) (x : Ld) : (s.setLd l x).reqLines = s.reqLines := (rfl)
@[simp] theorem State.setLd_pulsed (l : Nat) (x : Ld) : (s.setLd l x).pulsed = s.pulsed := (rfl)
@[simp] theorem State.setLd_mvLast (l : Nat) (x : Ld) : (s.setLd l x).mvLast = s.mvLast := (rfl)
@[simp] theorem State.setLd_modeCfg (l : Nat) (x : Ld) : (s.setLd l x).modeCfg = s.modeCfg := (rfl)
@[simp] theorem State.setLd_aerUncorrectable (l : Nat) (x : Ld) : (s.setLd l x).aerUncorrectable = s.aerUncorrectable := (rfl)
@[simp] theorem State.setLd_spdmFree (l : Nat) (x : Ld) : (s.setLd l x).spdmFree = s.spdmFree := (rfl)
@[simp] theorem State.setLd_smbusAddr (l : Nat) (x : Ld) : (s.setLd l x).smbusAddr = s.smbusAddr := (rfl)
@[simp] theorem State.setLd_can (l : Nat) (x : Ld) : (s.setLd l x).can = s.can := (rfl)
@[simp] theorem State.setLd_power (l : Nat) (x : Ld) : (s.setLd l x).power = s.power := (rfl)
@[simp] theorem State.setLd_test (l : Nat) (x : Ld) : (s.setLd l x).test = s.test := (rfl)
@[simp] theorem State.setLd_testNext (l : Nat) (x : Ld) : (s.setLd l x).testNext = s.testNext := (rfl)
@[simp] theorem State.setLd_testDue (l : Nat) (x : Ld) : (s.setLd l x).testDue = s.testDue := (rfl)
@[simp] theorem State.setLd_hk (l : Nat) (x : Ld) : (s.setLd l x).hk = s.hk := (rfl)
@[simp] theorem State.setLd_supRestart (l : Nat) (x : Ld) : (s.setLd l x).supRestart = s.supRestart := (rfl)
@[simp] theorem State.setLd_deferred (l : Nat) (x : Ld) : (s.setLd l x).deferred = s.deferred := (rfl)
@[simp] theorem State.setLd_fw (l : Nat) (x : Ld) : (s.setLd l x).fw = s.fw := (rfl)
@[simp] theorem State.setLd_faults (l : Nat) (x : Ld) : (s.setLd l x).faults = s.faults := (rfl)
@[simp] theorem State.setLd_sent (l : Nat) (x : Ld) : (s.setLd l x).sent = s.sent := (rfl)
@[simp] theorem State.setLd_freeCtr (l : Nat) (x : Ld) : (s.setLd l x).freeCtr = s.freeCtr := (rfl)

/-! ## State.setPath -/

@[simp] theorem State.setPath_variant (p : Nat) (x : Path) : (s.setPath p x).variant = s.variant := (rfl)
@[simp] theorem State.setPath_pending (p : Nat) (x : Path) : (s.setPath p x).pending = s.pending := (rfl)
@[simp] theorem State.setPath_counter (p : Nat) (x : Path) : (s.setPath p x).counter = s.counter := (rfl)
@[simp] theorem State.setPath_wraps (p : Nat) (x : Path) : (s.setPath p x).wraps = s.wraps := (rfl)
@[simp] theorem State.setPath_dev (p : Nat) (x : Path) : (s.setPath p x).dev = s.dev := (rfl)
@[simp] theorem State.setPath_starting (p : Nat) (x : Path) : (s.setPath p x).starting = s.starting := (rfl)
@[simp] theorem State.setPath_objs (p : Nat) (x : Path) : (s.setPath p x).objs = s.objs := (rfl)
@[simp] theorem State.setPath_blobs (p : Nat) (x : Path) : (s.setPath p x).blobs = s.blobs := (rfl)
@[simp] theorem State.setPath_mem (p : Nat) (x : Path) : (s.setPath p x).mem = s.mem := (rfl)
@[simp] theorem State.setPath_halves (p : Nat) (x : Path) : (s.setPath p x).halves = s.halves := (rfl)
@[simp] theorem State.setPath_hbm (p : Nat) (x : Path) : (s.setPath p x).hbm = s.hbm := (rfl)
@[simp] theorem State.setPath_mailboxes (p : Nat) (x : Path) : (s.setPath p x).mailboxes = s.mailboxes := (rfl)
@[simp] theorem State.setPath_shadows (p : Nat) (x : Path) : (s.setPath p x).shadows = s.shadows := (rfl)
@[simp] theorem State.setPath_commits (p : Nat) (x : Path) : (s.setPath p x).commits = s.commits := (rfl)
@[simp] theorem State.setPath_servedAt (p : Nat) (x : Path) : (s.setPath p x).servedAt = s.servedAt := (rfl)
@[simp] theorem State.setPath_stored (p : Nat) (x : Path) : (s.setPath p x).stored = s.stored := (rfl)
@[simp] theorem State.setPath_storedOld (p : Nat) (x : Path) : (s.setPath p x).storedOld = s.storedOld := (rfl)
@[simp] theorem State.setPath_storeMarked (p : Nat) (x : Path) : (s.setPath p x).storeMarked = s.storeMarked := (rfl)
@[simp] theorem State.setPath_storeCopy (p : Nat) (x : Path) : (s.setPath p x).storeCopy = s.storeCopy := (rfl)
@[simp] theorem State.setPath_storeAt (p : Nat) (x : Path) : (s.setPath p x).storeAt = s.storeAt := (rfl)
@[simp] theorem State.setPath_hubRestart (p : Nat) (x : Path) : (s.setPath p x).hubRestart = s.hubRestart := (rfl)
@[simp] theorem State.setPath_missed (p : Nat) (x : Path) : (s.setPath p x).missed = s.missed := (rfl)
@[simp] theorem State.setPath_dies (p : Nat) (x : Path) : (s.setPath p x).dies = s.dies := (rfl)
@[simp] theorem State.setPath_inputs (p : Nat) (x : Path) : (s.setPath p x).inputs = s.inputs := (rfl)
@[simp] theorem State.setPath_cal (p : Nat) (x : Path) : (s.setPath p x).cal = s.cal := (rfl)
@[simp] theorem State.setPath_skewSets (p : Nat) (x : Path) : (s.setPath p x).skewSets = s.skewSets := (rfl)
@[simp] theorem State.setPath_ctxs (p : Nat) (x : Path) : (s.setPath p x).ctxs = s.ctxs := (rfl)
@[simp] theorem State.setPath_turn (p : Nat) (x : Path) : (s.setPath p x).turn = s.turn := (rfl)
@[simp] theorem State.setPath_allocs (p : Nat) (x : Path) : (s.setPath p x).allocs = s.allocs := (rfl)
@[simp] theorem State.setPath_cruBufs (p : Nat) (x : Path) : (s.setPath p x).cruBufs = s.cruBufs := (rfl)
@[simp] theorem State.setPath_nextHandle (p : Nat) (x : Path) : (s.setPath p x).nextHandle = s.nextHandle := (rfl)
@[simp] theorem State.setPath_astore (p : Nat) (x : Path) : (s.setPath p x).astore = s.astore := (rfl)
@[simp] theorem State.setPath_trigOut (p : Nat) (x : Path) : (s.setPath p x).trigOut = s.trigOut := (rfl)
@[simp] theorem State.setPath_trigOutEnd (p : Nat) (x : Path) : (s.setPath p x).trigOutEnd = s.trigOutEnd := (rfl)
@[simp] theorem State.setPath_trigOutHigh (p : Nat) (x : Path) : (s.setPath p x).trigOutHigh = s.trigOutHigh := (rfl)
@[simp] theorem State.setPath_trigInOld (p : Nat) (x : Path) : (s.setPath p x).trigInOld = s.trigInOld := (rfl)
@[simp] theorem State.setPath_trigInEdges (p : Nat) (x : Path) : (s.setPath p x).trigInEdges = s.trigInEdges := (rfl)
@[simp] theorem State.setPath_bufs (p : Nat) (x : Path) : (s.setPath p x).bufs = s.bufs := (rfl)
@[simp] theorem State.setPath_ports (p : Nat) (x : Path) : (s.setPath p x).ports = s.ports := (rfl)
@[simp] theorem State.setPath_plans (p : Nat) (x : Path) : (s.setPath p x).plans = s.plans := (rfl)
@[simp] theorem State.setPath_raster (p : Nat) (x : Path) : (s.setPath p x).raster = s.raster := (rfl)
@[simp] theorem State.setPath_chans (p : Nat) (x : Path) : (s.setPath p x).chans = s.chans := (rfl)
@[simp] theorem State.setPath_quenched (p : Nat) (x : Path) : (s.setPath p x).quenched = s.quenched := (rfl)
@[simp] theorem State.setPath_routes (p : Nat) (x : Path) : (s.setPath p x).routes = s.routes := (rfl)
@[simp] theorem State.setPath_reqLines (p : Nat) (x : Path) : (s.setPath p x).reqLines = s.reqLines := (rfl)
@[simp] theorem State.setPath_pulsed (p : Nat) (x : Path) : (s.setPath p x).pulsed = s.pulsed := (rfl)
@[simp] theorem State.setPath_mvLast (p : Nat) (x : Path) : (s.setPath p x).mvLast = s.mvLast := (rfl)
@[simp] theorem State.setPath_lds (p : Nat) (x : Path) : (s.setPath p x).lds = s.lds := (rfl)
@[simp] theorem State.setPath_modeCfg (p : Nat) (x : Path) : (s.setPath p x).modeCfg = s.modeCfg := (rfl)
@[simp] theorem State.setPath_aerUncorrectable (p : Nat) (x : Path) : (s.setPath p x).aerUncorrectable = s.aerUncorrectable := (rfl)
@[simp] theorem State.setPath_spdmFree (p : Nat) (x : Path) : (s.setPath p x).spdmFree = s.spdmFree := (rfl)
@[simp] theorem State.setPath_smbusAddr (p : Nat) (x : Path) : (s.setPath p x).smbusAddr = s.smbusAddr := (rfl)
@[simp] theorem State.setPath_can (p : Nat) (x : Path) : (s.setPath p x).can = s.can := (rfl)
@[simp] theorem State.setPath_power (p : Nat) (x : Path) : (s.setPath p x).power = s.power := (rfl)
@[simp] theorem State.setPath_test (p : Nat) (x : Path) : (s.setPath p x).test = s.test := (rfl)
@[simp] theorem State.setPath_testNext (p : Nat) (x : Path) : (s.setPath p x).testNext = s.testNext := (rfl)
@[simp] theorem State.setPath_testDue (p : Nat) (x : Path) : (s.setPath p x).testDue = s.testDue := (rfl)
@[simp] theorem State.setPath_hk (p : Nat) (x : Path) : (s.setPath p x).hk = s.hk := (rfl)
@[simp] theorem State.setPath_supRestart (p : Nat) (x : Path) : (s.setPath p x).supRestart = s.supRestart := (rfl)
@[simp] theorem State.setPath_deferred (p : Nat) (x : Path) : (s.setPath p x).deferred = s.deferred := (rfl)
@[simp] theorem State.setPath_fw (p : Nat) (x : Path) : (s.setPath p x).fw = s.fw := (rfl)
@[simp] theorem State.setPath_faults (p : Nat) (x : Path) : (s.setPath p x).faults = s.faults := (rfl)
@[simp] theorem State.setPath_sent (p : Nat) (x : Path) : (s.setPath p x).sent = s.sent := (rfl)
@[simp] theorem State.setPath_freeCtr (p : Nat) (x : Path) : (s.setPath p x).freeCtr = s.freeCtr := (rfl)

/-! ## A free value -/

@[simp] theorem State.free_variant : s.free.2.variant = s.variant := (rfl)
@[simp] theorem State.free_pending : s.free.2.pending = s.pending := (rfl)
@[simp] theorem State.free_counter : s.free.2.counter = s.counter := (rfl)
@[simp] theorem State.free_wraps : s.free.2.wraps = s.wraps := (rfl)
@[simp] theorem State.free_dev : s.free.2.dev = s.dev := (rfl)
@[simp] theorem State.free_starting : s.free.2.starting = s.starting := (rfl)
@[simp] theorem State.free_objs : s.free.2.objs = s.objs := (rfl)
@[simp] theorem State.free_blobs : s.free.2.blobs = s.blobs := (rfl)
@[simp] theorem State.free_mem : s.free.2.mem = s.mem := (rfl)
@[simp] theorem State.free_halves : s.free.2.halves = s.halves := (rfl)
@[simp] theorem State.free_hbm : s.free.2.hbm = s.hbm := (rfl)
@[simp] theorem State.free_paths : s.free.2.paths = s.paths := (rfl)
@[simp] theorem State.free_mailboxes : s.free.2.mailboxes = s.mailboxes := (rfl)
@[simp] theorem State.free_shadows : s.free.2.shadows = s.shadows := (rfl)
@[simp] theorem State.free_commits : s.free.2.commits = s.commits := (rfl)
@[simp] theorem State.free_servedAt : s.free.2.servedAt = s.servedAt := (rfl)
@[simp] theorem State.free_stored : s.free.2.stored = s.stored := (rfl)
@[simp] theorem State.free_storedOld : s.free.2.storedOld = s.storedOld := (rfl)
@[simp] theorem State.free_storeMarked : s.free.2.storeMarked = s.storeMarked := (rfl)
@[simp] theorem State.free_storeCopy : s.free.2.storeCopy = s.storeCopy := (rfl)
@[simp] theorem State.free_storeAt : s.free.2.storeAt = s.storeAt := (rfl)
@[simp] theorem State.free_hubRestart : s.free.2.hubRestart = s.hubRestart := (rfl)
@[simp] theorem State.free_missed : s.free.2.missed = s.missed := (rfl)
@[simp] theorem State.free_dies : s.free.2.dies = s.dies := (rfl)
@[simp] theorem State.free_inputs : s.free.2.inputs = s.inputs := (rfl)
@[simp] theorem State.free_cal : s.free.2.cal = s.cal := (rfl)
@[simp] theorem State.free_skewSets : s.free.2.skewSets = s.skewSets := (rfl)
@[simp] theorem State.free_ctxs : s.free.2.ctxs = s.ctxs := (rfl)
@[simp] theorem State.free_turn : s.free.2.turn = s.turn := (rfl)
@[simp] theorem State.free_allocs : s.free.2.allocs = s.allocs := (rfl)
@[simp] theorem State.free_cruBufs : s.free.2.cruBufs = s.cruBufs := (rfl)
@[simp] theorem State.free_nextHandle : s.free.2.nextHandle = s.nextHandle := (rfl)
@[simp] theorem State.free_astore : s.free.2.astore = s.astore := (rfl)
@[simp] theorem State.free_trigOut : s.free.2.trigOut = s.trigOut := (rfl)
@[simp] theorem State.free_trigOutEnd : s.free.2.trigOutEnd = s.trigOutEnd := (rfl)
@[simp] theorem State.free_trigOutHigh : s.free.2.trigOutHigh = s.trigOutHigh := (rfl)
@[simp] theorem State.free_trigInOld : s.free.2.trigInOld = s.trigInOld := (rfl)
@[simp] theorem State.free_trigInEdges : s.free.2.trigInEdges = s.trigInEdges := (rfl)
@[simp] theorem State.free_bufs : s.free.2.bufs = s.bufs := (rfl)
@[simp] theorem State.free_ports : s.free.2.ports = s.ports := (rfl)
@[simp] theorem State.free_plans : s.free.2.plans = s.plans := (rfl)
@[simp] theorem State.free_raster : s.free.2.raster = s.raster := (rfl)
@[simp] theorem State.free_chans : s.free.2.chans = s.chans := (rfl)
@[simp] theorem State.free_quenched : s.free.2.quenched = s.quenched := (rfl)
@[simp] theorem State.free_routes : s.free.2.routes = s.routes := (rfl)
@[simp] theorem State.free_reqLines : s.free.2.reqLines = s.reqLines := (rfl)
@[simp] theorem State.free_pulsed : s.free.2.pulsed = s.pulsed := (rfl)
@[simp] theorem State.free_mvLast : s.free.2.mvLast = s.mvLast := (rfl)
@[simp] theorem State.free_lds : s.free.2.lds = s.lds := (rfl)
@[simp] theorem State.free_modeCfg : s.free.2.modeCfg = s.modeCfg := (rfl)
@[simp] theorem State.free_aerUncorrectable : s.free.2.aerUncorrectable = s.aerUncorrectable := (rfl)
@[simp] theorem State.free_spdmFree : s.free.2.spdmFree = s.spdmFree := (rfl)
@[simp] theorem State.free_smbusAddr : s.free.2.smbusAddr = s.smbusAddr := (rfl)
@[simp] theorem State.free_can : s.free.2.can = s.can := (rfl)
@[simp] theorem State.free_power : s.free.2.power = s.power := (rfl)
@[simp] theorem State.free_test : s.free.2.test = s.test := (rfl)
@[simp] theorem State.free_testNext : s.free.2.testNext = s.testNext := (rfl)
@[simp] theorem State.free_testDue : s.free.2.testDue = s.testDue := (rfl)
@[simp] theorem State.free_hk : s.free.2.hk = s.hk := (rfl)
@[simp] theorem State.free_supRestart : s.free.2.supRestart = s.supRestart := (rfl)
@[simp] theorem State.free_deferred : s.free.2.deferred = s.deferred := (rfl)
@[simp] theorem State.free_fw : s.free.2.fw = s.fw := (rfl)
@[simp] theorem State.free_faults : s.free.2.faults = s.faults := (rfl)
@[simp] theorem State.free_sent : s.free.2.sent = s.sent := (rfl)
@[simp] theorem State.free_freeCtr : s.free.2.freeCtr = s.freeCtr + 1 := (rfl)
@[simp] theorem State.free_value : s.free.1 = Config.freeBits s.freeCtr := (rfl)

/-! ## What the readers of one part see of an update of another -/

@[simp] theorem State.setNow_obj (t : Nat) (i0 k0 : Nat) : (s.setNow t).obj i0 k0 = s.obj i0 k0 := (rfl)
@[simp] theorem State.setNow_blob (t : Nat) (i0 k0 : Nat) : (s.setNow t).blob i0 k0 = s.blob i0 k0 := (rfl)
@[simp] theorem State.setNow_die (t : Nat) (d0 : Nat) : (s.setNow t).die d0 = s.die d0 := (rfl)
@[simp] theorem State.setNow_input (t : Nat) (n0 : Nat) : (s.setNow t).input n0 = s.input n0 := (rfl)
@[simp] theorem State.setNow_ctx (t : Nat) (c0 : Nat) : (s.setNow t).ctx c0 = s.ctx c0 := (rfl)
@[simp] theorem State.setNow_chan (t : Nat) (c0 : Nat) : (s.setNow t).chan c0 = s.chan c0 := (rfl)
@[simp] theorem State.setNow_ld (t : Nat) (l0 : Nat) : (s.setNow t).ld l0 = s.ld l0 := (rfl)
@[simp] theorem State.setNow_path (t : Nat) (p0 : Nat) : (s.setNow t).path p0 = s.path p0 := (rfl)
@[simp] theorem State.setObj_blob (i k : Nat) (v : Slot) (i0 k0 : Nat) : (s.setObj i k v).blob i0 k0 = s.blob i0 k0 := (rfl)
@[simp] theorem State.setObj_die (i k : Nat) (v : Slot) (d0 : Nat) : (s.setObj i k v).die d0 = s.die d0 := (rfl)
@[simp] theorem State.setObj_input (i k : Nat) (v : Slot) (n0 : Nat) : (s.setObj i k v).input n0 = s.input n0 := (rfl)
@[simp] theorem State.setObj_ctx (i k : Nat) (v : Slot) (c0 : Nat) : (s.setObj i k v).ctx c0 = s.ctx c0 := (rfl)
@[simp] theorem State.setObj_chan (i k : Nat) (v : Slot) (c0 : Nat) : (s.setObj i k v).chan c0 = s.chan c0 := (rfl)
@[simp] theorem State.setObj_ld (i k : Nat) (v : Slot) (l0 : Nat) : (s.setObj i k v).ld l0 = s.ld l0 := (rfl)
@[simp] theorem State.setObj_path (i k : Nat) (v : Slot) (p0 : Nat) : (s.setObj i k v).path p0 = s.path p0 := (rfl)
@[simp] theorem State.setBlob_obj (i k : Nat) (b : List Byte) (i0 k0 : Nat) : (s.setBlob i k b).obj i0 k0 = s.obj i0 k0 := (rfl)
@[simp] theorem State.setBlob_die (i k : Nat) (b : List Byte) (d0 : Nat) : (s.setBlob i k b).die d0 = s.die d0 := (rfl)
@[simp] theorem State.setBlob_input (i k : Nat) (b : List Byte) (n0 : Nat) : (s.setBlob i k b).input n0 = s.input n0 := (rfl)
@[simp] theorem State.setBlob_ctx (i k : Nat) (b : List Byte) (c0 : Nat) : (s.setBlob i k b).ctx c0 = s.ctx c0 := (rfl)
@[simp] theorem State.setBlob_chan (i k : Nat) (b : List Byte) (c0 : Nat) : (s.setBlob i k b).chan c0 = s.chan c0 := (rfl)
@[simp] theorem State.setBlob_ld (i k : Nat) (b : List Byte) (l0 : Nat) : (s.setBlob i k b).ld l0 = s.ld l0 := (rfl)
@[simp] theorem State.setBlob_path (i k : Nat) (b : List Byte) (p0 : Nat) : (s.setBlob i k b).path p0 = s.path p0 := (rfl)
@[simp] theorem State.setDie_obj (d : Nat) (x : Die) (i0 k0 : Nat) : (s.setDie d x).obj i0 k0 = s.obj i0 k0 := (rfl)
@[simp] theorem State.setDie_blob (d : Nat) (x : Die) (i0 k0 : Nat) : (s.setDie d x).blob i0 k0 = s.blob i0 k0 := (rfl)
@[simp] theorem State.setDie_input (d : Nat) (x : Die) (n0 : Nat) : (s.setDie d x).input n0 = s.input n0 := (rfl)
@[simp] theorem State.setDie_ctx (d : Nat) (x : Die) (c0 : Nat) : (s.setDie d x).ctx c0 = s.ctx c0 := (rfl)
@[simp] theorem State.setDie_chan (d : Nat) (x : Die) (c0 : Nat) : (s.setDie d x).chan c0 = s.chan c0 := (rfl)
@[simp] theorem State.setDie_ld (d : Nat) (x : Die) (l0 : Nat) : (s.setDie d x).ld l0 = s.ld l0 := (rfl)
@[simp] theorem State.setDie_path (d : Nat) (x : Die) (p0 : Nat) : (s.setDie d x).path p0 = s.path p0 := (rfl)
@[simp] theorem State.setInput_obj (n : Nat) (x : Input) (i0 k0 : Nat) : (s.setInput n x).obj i0 k0 = s.obj i0 k0 := (rfl)
@[simp] theorem State.setInput_blob (n : Nat) (x : Input) (i0 k0 : Nat) : (s.setInput n x).blob i0 k0 = s.blob i0 k0 := (rfl)
@[simp] theorem State.setInput_die (n : Nat) (x : Input) (d0 : Nat) : (s.setInput n x).die d0 = s.die d0 := (rfl)
@[simp] theorem State.setInput_ctx (n : Nat) (x : Input) (c0 : Nat) : (s.setInput n x).ctx c0 = s.ctx c0 := (rfl)
@[simp] theorem State.setInput_chan (n : Nat) (x : Input) (c0 : Nat) : (s.setInput n x).chan c0 = s.chan c0 := (rfl)
@[simp] theorem State.setInput_ld (n : Nat) (x : Input) (l0 : Nat) : (s.setInput n x).ld l0 = s.ld l0 := (rfl)
@[simp] theorem State.setInput_path (n : Nat) (x : Input) (p0 : Nat) : (s.setInput n x).path p0 = s.path p0 := (rfl)
@[simp] theorem State.setCtx_obj (c : Nat) (x : Ctx) (i0 k0 : Nat) : (s.setCtx c x).obj i0 k0 = s.obj i0 k0 := (rfl)
@[simp] theorem State.setCtx_blob (c : Nat) (x : Ctx) (i0 k0 : Nat) : (s.setCtx c x).blob i0 k0 = s.blob i0 k0 := (rfl)
@[simp] theorem State.setCtx_die (c : Nat) (x : Ctx) (d0 : Nat) : (s.setCtx c x).die d0 = s.die d0 := (rfl)
@[simp] theorem State.setCtx_input (c : Nat) (x : Ctx) (n0 : Nat) : (s.setCtx c x).input n0 = s.input n0 := (rfl)
@[simp] theorem State.setCtx_chan (c : Nat) (x : Ctx) (c0 : Nat) : (s.setCtx c x).chan c0 = s.chan c0 := (rfl)
@[simp] theorem State.setCtx_ld (c : Nat) (x : Ctx) (l0 : Nat) : (s.setCtx c x).ld l0 = s.ld l0 := (rfl)
@[simp] theorem State.setCtx_path (c : Nat) (x : Ctx) (p0 : Nat) : (s.setCtx c x).path p0 = s.path p0 := (rfl)
@[simp] theorem State.setChan_obj (c : Nat) (x : Chan) (i0 k0 : Nat) : (s.setChan c x).obj i0 k0 = s.obj i0 k0 := (rfl)
@[simp] theorem State.setChan_blob (c : Nat) (x : Chan) (i0 k0 : Nat) : (s.setChan c x).blob i0 k0 = s.blob i0 k0 := (rfl)
@[simp] theorem State.setChan_die (c : Nat) (x : Chan) (d0 : Nat) : (s.setChan c x).die d0 = s.die d0 := (rfl)
@[simp] theorem State.setChan_input (c : Nat) (x : Chan) (n0 : Nat) : (s.setChan c x).input n0 = s.input n0 := (rfl)
@[simp] theorem State.setChan_ctx (c : Nat) (x : Chan) (c0 : Nat) : (s.setChan c x).ctx c0 = s.ctx c0 := (rfl)
@[simp] theorem State.setChan_ld (c : Nat) (x : Chan) (l0 : Nat) : (s.setChan c x).ld l0 = s.ld l0 := (rfl)
@[simp] theorem State.setChan_path (c : Nat) (x : Chan) (p0 : Nat) : (s.setChan c x).path p0 = s.path p0 := (rfl)
@[simp] theorem State.setLd_obj (l : Nat) (x : Ld) (i0 k0 : Nat) : (s.setLd l x).obj i0 k0 = s.obj i0 k0 := (rfl)
@[simp] theorem State.setLd_blob (l : Nat) (x : Ld) (i0 k0 : Nat) : (s.setLd l x).blob i0 k0 = s.blob i0 k0 := (rfl)
@[simp] theorem State.setLd_die (l : Nat) (x : Ld) (d0 : Nat) : (s.setLd l x).die d0 = s.die d0 := (rfl)
@[simp] theorem State.setLd_input (l : Nat) (x : Ld) (n0 : Nat) : (s.setLd l x).input n0 = s.input n0 := (rfl)
@[simp] theorem State.setLd_ctx (l : Nat) (x : Ld) (c0 : Nat) : (s.setLd l x).ctx c0 = s.ctx c0 := (rfl)
@[simp] theorem State.setLd_chan (l : Nat) (x : Ld) (c0 : Nat) : (s.setLd l x).chan c0 = s.chan c0 := (rfl)
@[simp] theorem State.setLd_path (l : Nat) (x : Ld) (p0 : Nat) : (s.setLd l x).path p0 = s.path p0 := (rfl)
@[simp] theorem State.setPath_obj (p : Nat) (x : Path) (i0 k0 : Nat) : (s.setPath p x).obj i0 k0 = s.obj i0 k0 := (rfl)
@[simp] theorem State.setPath_blob (p : Nat) (x : Path) (i0 k0 : Nat) : (s.setPath p x).blob i0 k0 = s.blob i0 k0 := (rfl)
@[simp] theorem State.setPath_die (p : Nat) (x : Path) (d0 : Nat) : (s.setPath p x).die d0 = s.die d0 := (rfl)
@[simp] theorem State.setPath_input (p : Nat) (x : Path) (n0 : Nat) : (s.setPath p x).input n0 = s.input n0 := (rfl)
@[simp] theorem State.setPath_ctx (p : Nat) (x : Path) (c0 : Nat) : (s.setPath p x).ctx c0 = s.ctx c0 := (rfl)
@[simp] theorem State.setPath_chan (p : Nat) (x : Path) (c0 : Nat) : (s.setPath p x).chan c0 = s.chan c0 := (rfl)
@[simp] theorem State.setPath_ld (p : Nat) (x : Path) (l0 : Nat) : (s.setPath p x).ld l0 = s.ld l0 := (rfl)
@[simp] theorem State.free_obj (i0 k0 : Nat) : s.free.2.obj i0 k0 = s.obj i0 k0 := (rfl)
@[simp] theorem State.free_blob (i0 k0 : Nat) : s.free.2.blob i0 k0 = s.blob i0 k0 := (rfl)
@[simp] theorem State.free_die (d0 : Nat) : s.free.2.die d0 = s.die d0 := (rfl)
@[simp] theorem State.free_input (n0 : Nat) : s.free.2.input n0 = s.input n0 := (rfl)
@[simp] theorem State.free_ctx (c0 : Nat) : s.free.2.ctx c0 = s.ctx c0 := (rfl)
@[simp] theorem State.free_chan (c0 : Nat) : s.free.2.chan c0 = s.chan c0 := (rfl)
@[simp] theorem State.free_ld (l0 : Nat) : s.free.2.ld l0 = s.ld l0 := (rfl)
@[simp] theorem State.free_path (p0 : Nat) : s.free.2.path p0 = s.path p0 := (rfl)

/-! ## Short forms -/

@[simp] theorem State.get_eq (k : Nat) : s.get k = s.obj 0 k := (rfl)
@[simp] theorem State.put_eq (k : Nat) (v : Slot) : s.put k v = s.setObj 0 k v := (rfl)
@[simp] theorem State.num_eq (k : Nat) : s.num k = (s.obj 0 k).toNat := (rfl)
@[simp] theorem State.flag_eq (i k b : Nat) : s.flag i k b = s.setObj i k (setBit (s.obj i k) b) := (rfl)
@[simp] theorem State.unflag_eq (i k b : Nat) : s.unflag i k b = s.setObj i k (clearBit (s.obj i k) b) := (rfl)
@[simp] theorem State.countSat_eq (i k w n : Nat) :
    s.countSat i k w n = s.setObj i k (ofN (satN w ((s.obj i k).toNat + n))) := (rfl)
@[simp] theorem State.countWrap_eq (i k w n : Nat) :
    s.countWrap i k w n = s.setObj i k (ofN (((s.obj i k).toNat + n) % 2 ^ w)) := (rfl)
@[simp] theorem State.putTm_eq (i k t : Nat) :
    s.putTm i k t = (s.setObj i k (ofN (t % 2 ^ 55 * 512))).setObj (wrapInst i) k (ofN (t / 2 ^ 55 % 2 ^ 16)) := (rfl)

/-! ## Objects -/

/-- An object reads as set. -/
@[simp] theorem State.obj_setObj_self (i k : Nat) (v : Slot) : (s.setObj i k v).obj i k = v := by
  simp only [State.obj, State.setObj]
  rw [kvGet_kvSet, if_pos rfl]

/-- Every other object reads as before. -/
theorem State.obj_setObj_ne (i k i' k' : Nat) (v : Slot) (h : objKey i' k' ≠ objKey i k) :
    (s.setObj i k v).obj i' k' = s.obj i' k' := by
  simp only [State.obj, State.setObj]
  rw [kvGet_kvSet_ne _ _ _ _ _ h]

/-- An object after a write, within the keys of the dictionary. -/
theorem State.obj_setObj (i k i' k' : Nat) (v : Slot) (hk : k < 2 ^ 24) (hk' : k' < 2 ^ 24) :
    (s.setObj i k v).obj i' k' = if i' = i ∧ k' = k then v else s.obj i' k' := by
  split
  · rename_i h; rw [h.1, h.2, State.obj_setObj_self]
  · rename_i h
    refine State.obj_setObj_ne s _ _ _ _ _ fun he => h ?_
    simp only [objKey] at he
    omega

/-- A state with the same objects and variant reads them the same. -/
theorem State.obj_congr {s t : State} (ho : t.objs = s.objs) (hv : t.variant = s.variant) (i k : Nat) :
    t.obj i k = s.obj i k := by simp [State.obj, ho, hv]

/-- Setting an object keeps the list sorted. -/
theorem State.setObj_sorted (i k : Nat) (v : Slot) (h : kvSorted s.objs = true) :
    kvSorted (s.setObj i k v).objs = true := kvSorted_kvSet _ _ _ _ h

/-! ## Records -/

@[simp] theorem State.ctx_setCtx (c c' : Nat) (x : Ctx) :
    (s.setCtx c x).ctx c' = if c' = c then some x else s.ctx c' := kvGet_kvPut _ _ _ _

@[simp] theorem State.chan_setChan (c c' : Nat) (x : Chan) :
    (s.setChan c x).chan c' = if c' = c then some x else s.chan c' := kvGet_kvPut _ _ _ _

@[simp] theorem State.path_setPath (p p' : Nat) (x : Path) :
    (s.setPath p x).path p' = if p' = p then x else s.path p' := kvGet_kvSet _ _ _ _ _

theorem State.die_setDie (d d' : Nat) (x : Die) (h : d < s.dies.length) :
    (s.setDie d x).die d' = if d' = d then x else s.die d' := by
  simp only [State.die, State.setDie, List.getD_eq_getElem?_getD, List.getElem?_set]
  split
  · rename_i he; subst he; simp
  · rename_i he; rw [if_neg (fun h' => he h'.symm)]

theorem State.input_setInput (n n' : Nat) (x : Input) (h : n < s.inputs.length) :
    (s.setInput n x).input n' = if n' = n then x else s.input n' := by
  simp only [State.input, State.setInput, List.getD_eq_getElem?_getD, List.getElem?_set]
  split
  · rename_i he; subst he; simp
  · rename_i he; rw [if_neg (fun h' => he h'.symm)]

theorem State.ld_setLd (n n' : Nat) (x : Ld) (h : n < s.lds.length) :
    (s.setLd n x).ld n' = if n' = n then x else s.ld n' := by
  simp only [State.ld, State.setLd, List.getD_eq_getElem?_getD, List.getElem?_set]
  split
  · rename_i he; subst he; simp
  · rename_i he; rw [if_neg (fun h' => he h'.symm)]

end Sys2Proof.Machine
end

