-- ==== Sys2Proof/Laws/Events.lean ====
section
/-!
SUPPORT. What the shared operations of Machine/Events.lean can do: pulses and the end of a command keep the body of the
state and every object outside `settleKeys`; the end of a command restores the invariants.
-/
namespace Sys2Proof.Machine

variable (s : State)

/-! ## The body -/

/-- States that differ only in what the body leaves aside have the same body. -/
@[simp] theorem body_setObj (i k : Nat) (v : Slot) : (s.setObj i k v).body = s.body := (rfl)

@[simp] theorem body_setDev (d : DevSt) : State.body { s with dev := d } = s.body := (rfl)

theorem map_set_same {α β : Type} (f : α → β) (l : List α) (n : Nat) (d x : α) (h : f x = f (l.getD n d)) :
    (l.set n x).map f = l.map f := by
  rw [List.map_set]
  by_cases hn : n < l.length
  · rw [h]
    apply List.ext_getElem (by simp)
    intro m h1 h2
    rw [List.getElem_set]
    split
    · rename_i he; subst he; simp [List.getD_eq_getElem?_getD, hn]
    · rfl
  · rw [List.set_eq_of_length_le (by simpa using hn)]

theorem kvMod_map {α β : Type} (g : Nat × α → β) (f : α → α) (l : List (Nat × α)) (k : Nat)
    (h : ∀ a b, g (a, f b) = g (a, b)) : (kvMod f l k).map g = l.map g := by
  induction l with
  | nil => rfl
  | cons x r ih =>
    obtain ⟨a, b⟩ := x
    unfold kvMod
    split
    · simp [h]
    · simp [ih]

theorem body_setLd (l : Nat) (x : Ld) (h : x.bare = (s.ld l).bare) : (s.setLd l x).body = s.body := by
  simp only [State.body, State.setLd]
  rw [map_set_same Ld.bare s.lds l {} x h]

theorem msix_body (l v : Nat) : (msix s l v).body = s.body := by
  unfold msix
  simp only []
  split
  · split
    · split
      · rfl
      · exact body_setLd s l _ rfl
    · rfl
  · rfl

theorem flagPulse_body (f : Nat) : (flagPulse s f).body = s.body := (rfl)

theorem deliver_body (d : Slot) (e : Option Nat) : (deliver s d e).body = s.body := by
  unfold deliver
  split
  · exact msix_body _ _ _
  · split <;> rfl
  · split <;> rfl
  · exact flagPulse_body _ _
  · rfl

theorem routes_body (f : Route → Route) (h : ∀ x, { f x with count := 0 } = ({ x with count := 0 } : Route)) (r : Nat) :
    ({ s with routes := kvMod f s.routes r } : State).body = s.body := by
  simp only [State.body]
  rw [kvMod_map Route.bare]
  intro y b
  simp only [Route.bare, h]

theorem routePulse_body (w : Slot) (e : Option Nat) (cyc r : Nat) : (routePulse w e cyc s r).body = s.body := by
  unfold routePulse
  split
  · simp only []
    split
    · split
      · split
        · exact routes_body s (fun y => { y with count := (y.count + 1) % 2 ^ 64 }) (fun _ => rfl) r
        · rw [deliver_body]; exact routes_body s (fun y => { y with count := (y.count + 1) % 2 ^ 64 }) (fun _ => rfl) r
      · rw [deliver_body]; exact routes_body s (fun y => { y with count := (y.count + 1) % 2 ^ 64 }) (fun _ => rfl) r
    · rfl
  · rfl

theorem foldl_body (l : List Nat) (f : State → Nat → State) (h : ∀ s n, (f s n).body = s.body) (s : State) :
    (l.foldl f s).body = s.body := by
  induction l generalizing s with
  | nil => rfl
  | cons a l ih => rw [List.foldl_cons, ih, h]

theorem pulseIn_body (a b c : Nat) (e : Option Nat) (cyc : Nat) : (pulseIn s a b c e cyc).body = s.body := by
  unfold pulseIn
  simp only []
  split
  · rfl
  · rw [foldl_body _ _ (fun s n => routePulse_body s _ _ _ n)]; rfl

theorem pulseAt_body (a b c : Nat) (e : Option Nat) : (pulseAt s a b c e).body = s.body := pulseIn_body s a b c e _

theorem pulse_body (a b c : Nat) : (pulse s a b c).body = s.body := pulseAt_body s a b c none

theorem enterDev_body (d : DevSt) : (enterDev s d).body = s.body := by
  unfold enterDev
  split
  · rfl
  · rw [pulse_body]; simp only [State.put_eq, body_setObj, body_setDev]

theorem settleSteward_body : (settleSteward s).body = s.body := by
  unfold settleSteward
  split
  · rfl
  · rw [pulse_body]; simp only [State.put_eq, State.putTm_eq, body_setObj]

theorem settle_body : (settle s).body = s.body := by
  unfold settle settleDev
  split
  · rw [enterDev_body, settleSteward_body]
  · rw [settleSteward_body]

/-! ## The objects -/

/-- `t` reads every object outside `settleKeys` as `s` does. -/
theorem objsBut_refl (ks : List Nat) : ObjsBut ks s s := fun _ _ _ _ => rfl

theorem ObjsBut.trans {ks : List Nat} {s t u : State} (h : ObjsBut ks s t) (h' : ObjsBut ks t u) : ObjsBut ks s u :=
  fun i k a b => (h' i k a b).trans (h i k a b)

theorem ObjsBut.mono {ks ks' : List Nat} {s t : State} (h : ObjsBut ks s t) (hs : ∀ x ∈ ks, x ∈ ks') :
    ObjsBut ks' s t := fun i k a b => h i k (fun hx => a (hs _ hx)) b

/-- Setting an object among `ks` or `settleKeys`. -/
theorem objsBut_setObj (ks : List Nat) (i k : Nat) (v : Slot) (h : objKey i k ∈ ks ++ settleKeys) :
    ObjsBut ks s (s.setObj i k v) := by
  intro i' k' a b
  refine State.obj_setObj_ne s _ _ _ _ _ fun he => ?_
  rw [he] at a b
  rcases List.mem_append.1 h with h | h
  · exact a h
  · exact b h

theorem objsBut_congr (ks : List Nat) {s t : State} (ho : t.objs = s.objs) (hv : t.variant = s.variant) :
    ObjsBut ks s t := fun _ _ _ _ => State.obj_congr ho hv _ _

/-- Between `s` and `t` every object outside `ks` is unchanged. -/
def Keeps (ks : List Nat) (s t : State) : Prop := ∀ i k, objKey i k ∉ ks → t.obj i k = s.obj i k

/-- The objects a pulse may change: CXL_STATUS (R439) and FB_FLAGS (R477). -/
def pulseKeys : List Nat := [objKey 0 O.CXL_STATUS, objKey 0 O.FB_FLAGS]

theorem keeps_refl (ks : List Nat) : Keeps ks s s := fun _ _ _ => rfl

theorem Keeps.trans {ks : List Nat} {s t u : State} (h : Keeps ks s t) (h' : Keeps ks t u) : Keeps ks s u :=
  fun i k a => (h' i k a).trans (h i k a)

theorem keeps_congr (ks : List Nat) {s t : State} (ho : t.objs = s.objs) (hv : t.variant = s.variant) : Keeps ks s t :=
  fun _ _ _ => State.obj_congr ho hv _ _

theorem keeps_setObj (ks : List Nat) (i k : Nat) (v : Slot) (h : objKey i k ∈ ks) : Keeps ks s (s.setObj i k v) :=
  fun _ _ a => State.obj_setObj_ne s _ _ _ _ _ fun he => a (by rw [he]; exact h)

theorem Keeps.mono {ks ks' : List Nat} {s t : State} (h : Keeps ks s t) (hs : ∀ x ∈ ks, x ∈ ks') : Keeps ks' s t :=
  fun i k a => h i k (fun hx => a (hs _ hx))

theorem Keeps.objsBut {s t : State} (ks : List Nat) (h : Keeps pulseKeys s t) : ObjsBut ks s t :=
  fun i k _ b => h i k fun hx => b (by revert hx; simp [pulseKeys, settleKeys]; omega)

theorem msix_keeps (l v : Nat) : Keeps pulseKeys s (msix s l v) := by
  unfold msix
  simp only []
  split
  · split
    · split
      · exact keeps_setObj _ _ _ _ _ (by decide)
      · exact keeps_congr _ rfl rfl
    · exact keeps_congr _ rfl rfl
  · exact keeps_setObj _ _ _ _ _ (by decide)

theorem flagPulse_keeps (f : Nat) : Keeps pulseKeys s (flagPulse s f) :=
  (keeps_setObj _ _ _ _ _ (by decide)).trans (keeps_congr _ rfl rfl)

theorem deliver_keeps (d : Slot) (e : Option Nat) : Keeps pulseKeys s (deliver s d e) := by
  unfold deliver
  split
  · exact msix_keeps _ _ _
  · split <;> exact keeps_congr _ rfl rfl
  · split <;> exact keeps_congr _ rfl rfl
  · exact flagPulse_keeps _ _
  · exact keeps_congr _ rfl rfl

theorem routePulse_keeps (w : Slot) (e : Option Nat) (cyc r : Nat) : Keeps pulseKeys s (routePulse w e cyc s r) := by
  unfold routePulse
  split
  · simp only []
    split
    · split
      · split
        · exact keeps_congr pulseKeys rfl rfl
        · exact (keeps_congr pulseKeys rfl rfl).trans (deliver_keeps _ _ _)
      · exact (keeps_congr pulseKeys rfl rfl).trans (deliver_keeps _ _ _)
    · exact keeps_refl _ _
  · exact keeps_refl _ _

theorem foldl_keeps (l : List Nat) (f : State → Nat → State) (h : ∀ s n, Keeps pulseKeys s (f s n)) (s : State) :
    Keeps pulseKeys s (l.foldl f s) := by
  induction l generalizing s with
  | nil => exact keeps_refl _ _
  | cons a l ih => exact (h s a).trans (ih _)

theorem pulseIn_keeps (a b c : Nat) (e : Option Nat) (cyc : Nat) : Keeps pulseKeys s (pulseIn s a b c e cyc) := by
  unfold pulseIn
  simp only []
  split
  · exact keeps_refl _ _
  · exact (keeps_congr _ rfl rfl).trans (foldl_keeps _ _ (fun s n => routePulse_keeps s _ _ _ n) _)

theorem pulseAt_keeps (a b c : Nat) (e : Option Nat) : Keeps pulseKeys s (pulseAt s a b c e) := pulseIn_keeps s a b c e _

theorem pulse_keeps (a b c : Nat) : Keeps pulseKeys s (pulse s a b c) := pulseAt_keeps s a b c none

theorem enterDev_objs (d : DevSt) : ObjsBut [] s (enterDev s d) := by
  unfold enterDev
  split
  · exact objsBut_refl _ _
  · refine ObjsBut.trans ?_ ((pulse_keeps _ _ _ _).objsBut _)
    exact ((objsBut_congr [] (t := { s with dev := d }) rfl rfl).trans (objsBut_setObj _ _ _ _ _ (by decide))).trans
      (objsBut_setObj _ _ _ _ _ (by decide))

theorem settleSteward_objs : ObjsBut [] s (settleSteward s) := by
  unfold settleSteward
  split
  · exact objsBut_refl _ _
  · refine ObjsBut.trans ?_ ((pulse_keeps _ _ _ _).objsBut _)
    exact ((objsBut_setObj _ _ _ _ _ (by decide)).trans (objsBut_setObj _ _ _ _ _ (by decide))).trans
      (objsBut_setObj _ _ _ _ _ (by decide))

theorem settle_objs : ObjsBut [] s (settle s) := by
  unfold settle settleDev
  split
  · exact (settleSteward_objs s).trans (enterDev_objs _ _)
  · exact settleSteward_objs s

/-- An object outside `settleKeys` after a pulse. -/
theorem obj_pulse (a b c i k : Nat) (h : objKey i k ∉ settleKeys) : (pulse s a b c).obj i k = s.obj i k :=
  (pulse_keeps s a b c).objsBut [] i k (by simp) h

/-- An object outside `settleKeys` at the end of a command. -/
theorem obj_settle (i k : Nat) (h : objKey i k ∉ settleKeys) : (settle s).obj i k = s.obj i k :=
  settle_objs s i k (by simp) h

/-- A command that ends in `u` keeps all of the body and every object outside `ks` that `u` keeps. -/
theorem onlyObjs_settle {ks : List Nat} {s u : State} (hb : u.body = s.body) (ho : ObjsBut ks s u) :
    OnlyObjs ks s (settle u) :=
  ⟨(settle_body u).trans hb, ho.trans ((settle_objs u).mono (by simp))⟩

/-! ## What pulse leaves alone -/

@[simp] theorem pulse_variant (a b c : Nat) : (pulse s a b c).variant = s.variant :=
  (congrArg State.variant (pulse_body s a b c) :)
@[simp] theorem pulse_pending (a b c : Nat) : (pulse s a b c).pending = s.pending :=
  (congrArg State.pending (pulse_body s a b c) :)
@[simp] theorem pulse_counter (a b c : Nat) : (pulse s a b c).counter = s.counter :=
  (congrArg State.counter (pulse_body s a b c) :)
@[simp] theorem pulse_wraps (a b c : Nat) : (pulse s a b c).wraps = s.wraps :=
  (congrArg State.wraps (pulse_body s a b c) :)
@[simp] theorem pulse_starting (a b c : Nat) : (pulse s a b c).starting = s.starting :=
  (congrArg State.starting (pulse_body s a b c) :)
@[simp] theorem pulse_blobs (a b c : Nat) : (pulse s a b c).blobs = s.blobs :=
  (congrArg State.blobs (pulse_body s a b c) :)
@[simp] theorem pulse_mem (a b c : Nat) : (pulse s a b c).mem = s.mem :=
  (congrArg State.mem (pulse_body s a b c) :)
@[simp] theorem pulse_halves (a b c : Nat) : (pulse s a b c).halves = s.halves :=
  (congrArg State.halves (pulse_body s a b c) :)
@[simp] theorem pulse_hbm (a b c : Nat) : (pulse s a b c).hbm = s.hbm :=
  (congrArg State.hbm (pulse_body s a b c) :)
@[simp] theorem pulse_paths (a b c : Nat) : (pulse s a b c).paths = s.paths :=
  (congrArg State.paths (pulse_body s a b c) :)
@[simp] theorem pulse_mailboxes (a b c : Nat) : (pulse s a b c).mailboxes = s.mailboxes :=
  (congrArg State.mailboxes (pulse_body s a b c) :)
@[simp] theorem pulse_shadows (a b c : Nat) : (pulse s a b c).shadows = s.shadows :=
  (congrArg State.shadows (pulse_body s a b c) :)
@[simp] theorem pulse_commits (a b c : Nat) : (pulse s a b c).commits = s.commits :=
  (congrArg State.commits (pulse_body s a b c) :)
@[simp] theorem pulse_stored (a b c : Nat) : (pulse s a b c).stored = s.stored :=
  (congrArg State.stored (pulse_body s a b c) :)
@[simp] theorem pulse_storedOld (a b c : Nat) : (pulse s a b c).storedOld = s.storedOld :=
  (congrArg State.storedOld (pulse_body s a b c) :)
@[simp] theorem pulse_storeMarked (a b c : Nat) : (pulse s a b c).storeMarked = s.storeMarked :=
  (congrArg State.storeMarked (pulse_body s a b c) :)
@[simp] theorem pulse_storeCopy (a b c : Nat) : (pulse s a b c).storeCopy = s.storeCopy :=
  (congrArg State.storeCopy (pulse_body s a b c) :)
@[simp] theorem pulse_storeAt (a b c : Nat) : (pulse s a b c).storeAt = s.storeAt :=
  (congrArg State.storeAt (pulse_body s a b c) :)
@[simp] theorem pulse_hubRestart (a b c : Nat) : (pulse s a b c).hubRestart = s.hubRestart :=
  (congrArg State.hubRestart (pulse_body s a b c) :)
@[simp] theorem pulse_missed (a b c : Nat) : (pulse s a b c).missed = s.missed :=
  (congrArg State.missed (pulse_body s a b c) :)
@[simp] theorem pulse_dies (a b c : Nat) : (pulse s a b c).dies = s.dies :=
  (congrArg State.dies (pulse_body s a b c) :)
@[simp] theorem pulse_inputs (a b c : Nat) : (pulse s a b c).inputs = s.inputs :=
  (congrArg State.inputs (pulse_body s a b c) :)
@[simp] theorem pulse_cal (a b c : Nat) : (pulse s a b c).cal = s.cal :=
  (congrArg State.cal (pulse_body s a b c) :)
@[simp] theorem pulse_skewSets (a b c : Nat) : (pulse s a b c).skewSets = s.skewSets :=
  (congrArg State.skewSets (pulse_body s a b c) :)
@[simp] theorem pulse_ctxs (a b c : Nat) : (pulse s a b c).ctxs = s.ctxs :=
  (congrArg State.ctxs (pulse_body s a b c) :)
@[simp] theorem pulse_turn (a b c : Nat) : (pulse s a b c).turn = s.turn :=
  (congrArg State.turn (pulse_body s a b c) :)
@[simp] theorem pulse_allocs (a b c : Nat) : (pulse s a b c).allocs = s.allocs :=
  (congrArg State.allocs (pulse_body s a b c) :)
@[simp] theorem pulse_cruBufs (a b c : Nat) : (pulse s a b c).cruBufs = s.cruBufs :=
  (congrArg State.cruBufs (pulse_body s a b c) :)
@[simp] theorem pulse_nextHandle (a b c : Nat) : (pulse s a b c).nextHandle = s.nextHandle :=
  (congrArg State.nextHandle (pulse_body s a b c) :)
@[simp] theorem pulse_astore (a b c : Nat) : (pulse s a b c).astore = s.astore :=
  (congrArg State.astore (pulse_body s a b c) :)
@[simp] theorem pulse_trigOutEnd (a b c : Nat) : (pulse s a b c).trigOutEnd = s.trigOutEnd :=
  (congrArg State.trigOutEnd (pulse_body s a b c) :)
@[simp] theorem pulse_trigOutHigh (a b c : Nat) : (pulse s a b c).trigOutHigh = s.trigOutHigh :=
  (congrArg State.trigOutHigh (pulse_body s a b c) :)
@[simp] theorem pulse_trigInOld (a b c : Nat) : (pulse s a b c).trigInOld = s.trigInOld :=
  (congrArg State.trigInOld (pulse_body s a b c) :)
@[simp] theorem pulse_trigInEdges (a b c : Nat) : (pulse s a b c).trigInEdges = s.trigInEdges :=
  (congrArg State.trigInEdges (pulse_body s a b c) :)
@[simp] theorem pulse_bufs (a b c : Nat) : (pulse s a b c).bufs = s.bufs :=
  (congrArg State.bufs (pulse_body s a b c) :)
@[simp] theorem pulse_ports (a b c : Nat) : (pulse s a b c).ports = s.ports :=
  (congrArg State.ports (pulse_body s a b c) :)
@[simp] theorem pulse_plans (a b c : Nat) : (pulse s a b c).plans = s.plans :=
  (congrArg State.plans (pulse_body s a b c) :)
@[simp] theorem pulse_raster (a b c : Nat) : (pulse s a b c).raster = s.raster :=
  (congrArg State.raster (pulse_body s a b c) :)
@[simp] theorem pulse_chans (a b c : Nat) : (pulse s a b c).chans = s.chans :=
  (congrArg State.chans (pulse_body s a b c) :)
@[simp] theorem pulse_quenched (a b c : Nat) : (pulse s a b c).quenched = s.quenched :=
  (congrArg State.quenched (pulse_body s a b c) :)
@[simp] theorem pulse_mvLast (a b c : Nat) : (pulse s a b c).mvLast = s.mvLast :=
  (congrArg State.mvLast (pulse_body s a b c) :)
@[simp] theorem pulse_modeCfg (a b c : Nat) : (pulse s a b c).modeCfg = s.modeCfg :=
  (congrArg State.modeCfg (pulse_body s a b c) :)
@[simp] theorem pulse_aerUncorrectable (a b c : Nat) : (pulse s a b c).aerUncorrectable = s.aerUncorrectable :=
  (congrArg State.aerUncorrectable (pulse_body s a b c) :)
@[simp] theorem pulse_spdmFree (a b c : Nat) : (pulse s a b c).spdmFree = s.spdmFree :=
  (congrArg State.spdmFree (pulse_body s a b c) :)
@[simp] theorem pulse_smbusAddr (a b c : Nat) : (pulse s a b c).smbusAddr = s.smbusAddr :=
  (congrArg State.smbusAddr (pulse_body s a b c) :)
@[simp] theorem pulse_power (a b c : Nat) : (pulse s a b c).power = s.power :=
  (congrArg State.power (pulse_body s a b c) :)
@[simp] theorem pulse_test (a b c : Nat) : (pulse s a b c).test = s.test :=
  (congrArg State.test (pulse_body s a b c) :)
@[simp] theorem pulse_testNext (a b c : Nat) : (pulse s a b c).testNext = s.testNext :=
  (congrArg State.testNext (pulse_body s a b c) :)
@[simp] theorem pulse_testDue (a b c : Nat) : (pulse s a b c).testDue = s.testDue :=
  (congrArg State.testDue (pulse_body s a b c) :)
@[simp] theorem pulse_hk (a b c : Nat) : (pulse s a b c).hk = s.hk :=
  (congrArg State.hk (pulse_body s a b c) :)
@[simp] theorem pulse_supRestart (a b c : Nat) : (pulse s a b c).supRestart = s.supRestart :=
  (congrArg State.supRestart (pulse_body s a b c) :)
@[simp] theorem pulse_deferred (a b c : Nat) : (pulse s a b c).deferred = s.deferred :=
  (congrArg State.deferred (pulse_body s a b c) :)
@[simp] theorem pulse_fw (a b c : Nat) : (pulse s a b c).fw = s.fw :=
  (congrArg State.fw (pulse_body s a b c) :)
@[simp] theorem pulse_faults (a b c : Nat) : (pulse s a b c).faults = s.faults :=
  (congrArg State.faults (pulse_body s a b c) :)

/-! ## What settle leaves alone -/

@[simp] theorem settle_variant  : (settle s).variant = s.variant :=
  (congrArg State.variant (settle_body s) :)
@[simp] theorem settle_pending  : (settle s).pending = s.pending :=
  (congrArg State.pending (settle_body s) :)
@[simp] theorem settle_counter  : (settle s).counter = s.counter :=
  (congrArg State.counter (settle_body s) :)
@[simp] theorem settle_wraps  : (settle s).wraps = s.wraps :=
  (congrArg State.wraps (settle_body s) :)
@[simp] theorem settle_starting  : (settle s).starting = s.starting :=
  (congrArg State.starting (settle_body s) :)
@[simp] theorem settle_blobs  : (settle s).blobs = s.blobs :=
  (congrArg State.blobs (settle_body s) :)
@[simp] theorem settle_mem  : (settle s).mem = s.mem :=
  (congrArg State.mem (settle_body s) :)
@[simp] theorem settle_halves  : (settle s).halves = s.halves :=
  (congrArg State.halves (settle_body s) :)
@[simp] theorem settle_hbm  : (settle s).hbm = s.hbm :=
  (congrArg State.hbm (settle_body s) :)
@[simp] theorem settle_paths  : (settle s).paths = s.paths :=
  (congrArg State.paths (settle_body s) :)
@[simp] theorem settle_mailboxes  : (settle s).mailboxes = s.mailboxes :=
  (congrArg State.mailboxes (settle_body s) :)
@[simp] theorem settle_shadows  : (settle s).shadows = s.shadows :=
  (congrArg State.shadows (settle_body s) :)
@[simp] theorem settle_commits  : (settle s).commits = s.commits :=
  (congrArg State.commits (settle_body s) :)
@[simp] theorem settle_stored  : (settle s).stored = s.stored :=
  (congrArg State.stored (settle_body s) :)
@[simp] theorem settle_storedOld  : (settle s).storedOld = s.storedOld :=
  (congrArg State.storedOld (settle_body s) :)
@[simp] theorem settle_storeMarked  : (settle s).storeMarked = s.storeMarked :=
  (congrArg State.storeMarked (settle_body s) :)
@[simp] theorem settle_storeCopy  : (settle s).storeCopy = s.storeCopy :=
  (congrArg State.storeCopy (settle_body s) :)
@[simp] theorem settle_storeAt  : (settle s).storeAt = s.storeAt :=
  (congrArg State.storeAt (settle_body s) :)
@[simp] theorem settle_hubRestart  : (settle s).hubRestart = s.hubRestart :=
  (congrArg State.hubRestart (settle_body s) :)
@[simp] theorem settle_missed  : (settle s).missed = s.missed :=
  (congrArg State.missed (settle_body s) :)
@[simp] theorem settle_dies  : (settle s).dies = s.dies :=
  (congrArg State.dies (settle_body s) :)
@[simp] theorem settle_inputs  : (settle s).inputs = s.inputs :=
  (congrArg State.inputs (settle_body s) :)
@[simp] theorem settle_cal  : (settle s).cal = s.cal :=
  (congrArg State.cal (settle_body s) :)
@[simp] theorem settle_skewSets  : (settle s).skewSets = s.skewSets :=
  (congrArg State.skewSets (settle_body s) :)
@[simp] theorem settle_ctxs  : (settle s).ctxs = s.ctxs :=
  (congrArg State.ctxs (settle_body s) :)
@[simp] theorem settle_turn  : (settle s).turn = s.turn :=
  (congrArg State.turn (settle_body s) :)
@[simp] theorem settle_allocs  : (settle s).allocs = s.allocs :=
  (congrArg State.allocs (settle_body s) :)
@[simp] theorem settle_cruBufs  : (settle s).cruBufs = s.cruBufs :=
  (congrArg State.cruBufs (settle_body s) :)
@[simp] theorem settle_nextHandle  : (settle s).nextHandle = s.nextHandle :=
  (congrArg State.nextHandle (settle_body s) :)
@[simp] theorem settle_astore  : (settle s).astore = s.astore :=
  (congrArg State.astore (settle_body s) :)
@[simp] theorem settle_trigOutEnd  : (settle s).trigOutEnd = s.trigOutEnd :=
  (congrArg State.trigOutEnd (settle_body s) :)
@[simp] theorem settle_trigOutHigh  : (settle s).trigOutHigh = s.trigOutHigh :=
  (congrArg State.trigOutHigh (settle_body s) :)
@[simp] theorem settle_trigInOld  : (settle s).trigInOld = s.trigInOld :=
  (congrArg State.trigInOld (settle_body s) :)
@[simp] theorem settle_trigInEdges  : (settle s).trigInEdges = s.trigInEdges :=
  (congrArg State.trigInEdges (settle_body s) :)
@[simp] theorem settle_bufs  : (settle s).bufs = s.bufs :=
  (congrArg State.bufs (settle_body s) :)
@[simp] theorem settle_ports  : (settle s).ports = s.ports :=
  (congrArg State.ports (settle_body s) :)
@[simp] theorem settle_plans  : (settle s).plans = s.plans :=
  (congrArg State.plans (settle_body s) :)
@[simp] theorem settle_raster  : (settle s).raster = s.raster :=
  (congrArg State.raster (settle_body s) :)
@[simp] theorem settle_chans  : (settle s).chans = s.chans :=
  (congrArg State.chans (settle_body s) :)
@[simp] theorem settle_quenched  : (settle s).quenched = s.quenched :=
  (congrArg State.quenched (settle_body s) :)
@[simp] theorem settle_mvLast  : (settle s).mvLast = s.mvLast :=
  (congrArg State.mvLast (settle_body s) :)
@[simp] theorem settle_modeCfg  : (settle s).modeCfg = s.modeCfg :=
  (congrArg State.modeCfg (settle_body s) :)
@[simp] theorem settle_aerUncorrectable  : (settle s).aerUncorrectable = s.aerUncorrectable :=
  (congrArg State.aerUncorrectable (settle_body s) :)
@[simp] theorem settle_spdmFree  : (settle s).spdmFree = s.spdmFree :=
  (congrArg State.spdmFree (settle_body s) :)
@[simp] theorem settle_smbusAddr  : (settle s).smbusAddr = s.smbusAddr :=
  (congrArg State.smbusAddr (settle_body s) :)
@[simp] theorem settle_power  : (settle s).power = s.power :=
  (congrArg State.power (settle_body s) :)
@[simp] theorem settle_test  : (settle s).test = s.test :=
  (congrArg State.test (settle_body s) :)
@[simp] theorem settle_testNext  : (settle s).testNext = s.testNext :=
  (congrArg State.testNext (settle_body s) :)
@[simp] theorem settle_testDue  : (settle s).testDue = s.testDue :=
  (congrArg State.testDue (settle_body s) :)
@[simp] theorem settle_hk  : (settle s).hk = s.hk :=
  (congrArg State.hk (settle_body s) :)
@[simp] theorem settle_supRestart  : (settle s).supRestart = s.supRestart :=
  (congrArg State.supRestart (settle_body s) :)
@[simp] theorem settle_deferred  : (settle s).deferred = s.deferred :=
  (congrArg State.deferred (settle_body s) :)
@[simp] theorem settle_fw  : (settle s).fw = s.fw :=
  (congrArg State.fw (settle_body s) :)
@[simp] theorem settle_faults  : (settle s).faults = s.faults :=
  (congrArg State.faults (settle_body s) :)

/-! ## The device state, the steward and the invariants -/

theorem body_ld {s t : State} (h : t.body = s.body) (l : Nat) : (t.ld l).bare = (s.ld l).bare := by
  have h' : t.lds.map Ld.bare = s.lds.map Ld.bare := congrArg State.lds h
  have hl : ∀ u : State, (u.lds.map Ld.bare).getD l {} = (u.ld l).bare := by
    intro u
    simp only [State.ld, List.getD_eq_getElem?_getD, List.getElem?_map]
    cases u.lds[l]? <;> rfl
  exact (hl t).symm.trans ((congrArg (fun x => x.getD l {}) h').trans (hl s))

theorem body_ldSt {s t : State} (h : t.body = s.body) (l : Nat) : (t.ld l).st = (s.ld l).st :=
  (congrArg Ld.st (body_ld h l) :)

theorem msix_dev (l v : Nat) : (msix s l v).dev = s.dev := by
  unfold msix
  simp only []
  split <;> [split; skip] <;> [split; skip; skip] <;> rfl

theorem deliver_dev (d : Slot) (e : Option Nat) : (deliver s d e).dev = s.dev := by
  unfold deliver
  split
  · exact msix_dev _ _ _
  · split <;> rfl
  · split <;> rfl
  · rfl
  · rfl

theorem routePulse_dev (w : Slot) (e : Option Nat) (cyc r : Nat) : (routePulse w e cyc s r).dev = s.dev := by
  unfold routePulse
  split
  · simp only []
    split
    · split
      · split
        · rfl
        · exact deliver_dev _ _ _
      · exact deliver_dev _ _ _
    · rfl
  · rfl

theorem foldl_dev (l : List Nat) (f : State → Nat → State) (h : ∀ s n, (f s n).dev = s.dev) (s : State) :
    (l.foldl f s).dev = s.dev := by
  induction l generalizing s with
  | nil => rfl
  | cons a l ih => rw [List.foldl_cons, ih, h]

@[simp] theorem pulse_dev (a b c : Nat) : (pulse s a b c).dev = s.dev := by
  unfold pulse pulseAt pulseIn
  simp only []
  split
  · rfl
  · rw [foldl_dev _ _ (fun s n => routePulse_dev s _ _ _ n)]

theorem enterDev_dev (d : DevSt) : (enterDev s d).dev = d := by
  unfold enterDev
  split
  · assumption
  · rw [pulse_dev]; simp only [State.put_eq, State.setObj_dev]

theorem settleSteward_dev : (settleSteward s).dev = s.dev := by
  unfold settleSteward
  split
  · rfl
  · rw [pulse_dev]; simp only [State.put_eq, State.putTm_eq, State.setObj_dev]

theorem anyArmed_congr {s t : State} (h : t.ctxs = s.ctxs) : t.anyArmed = s.anyArmed := by simp [State.anyArmed, h]

theorem enterDev_ctxs (d : DevSt) : (enterDev s d).ctxs = s.ctxs :=
  (congrArg State.ctxs (enterDev_body s d) :)

theorem settle_ctxs' : (settleSteward s).ctxs = s.ctxs :=
  (congrArg State.ctxs (settleSteward_body s) :)

/-- The end of a command puts the module into Armed or Ready (R31). -/
theorem settle_dev : (settle s).dev =
    if s.dev = .ready ∨ s.dev = .armed then (if s.anyArmed then .armed else .ready) else s.dev := by
  unfold settle settleDev
  rw [settleSteward_dev, anyArmed_congr (settle_ctxs' s)]
  split
  · rw [enterDev_dev]
  · exact settleSteward_dev s

/-- The steward R437 names follows the naming and the LDs alone. -/
theorem stewardDue_congr {s t : State} (hb : t.body = s.body) (ho : t.num O.STEWARD_NAMED = s.num O.STEWARD_NAMED) :
    t.stewardDue = s.stewardDue := by
  simp only [State.stewardDue, ho, body_ldSt hb]

theorem stewardDue_le : s.stewardDue ≤ 16 := by
  unfold State.stewardDue
  simp only []
  split <;> omega

theorem settleSteward_ok : (settleSteward s).StewardOk := by
  unfold State.StewardOk settleSteward
  split
  · assumption
  · have hk := fun k hk => pulse_keeps ((s.put O.STEWARD_ACTIVE (ofN s.stewardDue)).putTm 0 O.STEWARD_TM s.cycle)
      7 1 0 0 k hk
    have e : (pulse ((s.put O.STEWARD_ACTIVE (ofN s.stewardDue)).putTm 0 O.STEWARD_TM s.cycle) 7 1 0).stewardDue
        = s.stewardDue := by
      refine stewardDue_congr ?_ ?_
      · rw [pulse_body]; simp only [State.put_eq, State.putTm_eq, body_setObj]
      · simp only [State.num]
        rw [hk O.STEWARD_NAMED (by decide), State.putTm_eq, State.obj_setObj_ne _ _ _ _ _ _ (by decide),
          State.obj_setObj_ne _ _ _ _ _ _ (by decide), State.put_eq, State.obj_setObj_ne _ _ _ _ _ _ (by decide)]
    rw [e]
    simp only [State.steward, State.num]
    rw [hk O.STEWARD_ACTIVE (by decide), State.putTm_eq, State.obj_setObj_ne _ _ _ _ _ _ (by decide),
      State.obj_setObj_ne _ _ _ _ _ _ (by decide), State.put_eq, State.obj_setObj_self]
    have h2 := stewardDue_le s
    simp only [ofN, BitVec.toNat_ofNat]
    omega

theorem enterDev_stewardOk (d : DevSt) (h : s.StewardOk) : (enterDev s d).StewardOk := by
  have hk : Keeps [objKey 0 O.DEVICE_STATE_TM, objKey 0 O.DEVICE_STATE_WRAP, objKey 0 O.CXL_STATUS,
      objKey 0 O.FB_FLAGS] s (enterDev s d) := by
    unfold enterDev
    split
    · exact keeps_refl _ _
    · refine Keeps.trans ?_ ((pulse_keeps _ _ _ _).mono (by simp [pulseKeys]))
      exact ((keeps_congr _ (t := { s with dev := d }) rfl rfl).trans (keeps_setObj _ _ _ _ _ (by decide))).trans
        (keeps_setObj _ _ _ _ _ (by decide))
  unfold State.StewardOk at h ⊢
  rw [stewardDue_congr (enterDev_body s d) (congrArg BitVec.toNat (hk 0 O.STEWARD_NAMED (by decide))), ← h]
  exact congrArg BitVec.toNat (hk 0 O.STEWARD_ACTIVE (by decide))

theorem settleDev_stewardOk (h : s.StewardOk) : (settleDev s).StewardOk := by
  unfold settleDev
  split
  · exact enterDev_stewardOk s _ h
  · exact h

theorem settle_anyArmed : (settle s).anyArmed = s.anyArmed := anyArmed_congr (congrArg State.ctxs (settle_body s) :)

/-- The end of a command restores the steward in force and the device state (R31, R437). -/
theorem settle_inv : (settle s).Inv := by
  refine ⟨settleDev_stewardOk _ (settleSteward_ok s), ?_⟩
  unfold State.ArmedOk
  rw [settle_dev, settle_anyArmed]
  cases h : s.anyArmed <;> cases h' : s.dev <;> simp

/-! ## Accesses -/

/-- The state in which the server serves an access at once. -/
abbrev State.turned (s : State) : State := { s with servedAt := some s.cycle }

/-- Where the server is free and no hand-over is due, an access is served at once and changes nothing by its turn (R411). -/
theorem takeTurn_free (h : s.turnFree = true) : takeTurn s = s.turned := by
  unfold State.turnFree at h
  have h1 := (Bool.and_eq_true_iff.mp h).1
  have h2 := (Bool.and_eq_true_iff.mp h).2
  have ht : s.turnCycle = s.cycle := by
    unfold State.turnCycle
    revert h1
    cases s.servedAt with
    | none => intro _; rfl
    | some t => intro h1; simp only [decide_eq_true_eq] at h1; simp [h1]
  have hb : handOverBy s.cycle s = s := by
    unfold handOverBy
    split
    · next hc hm =>
      obtain ⟨c, hcm, hce⟩ := List.mem_map.mp (List.min?_mem hm)
      have := of_decide_eq_true (List.all_eq_true.mp h2 c hcm)
      rw [if_neg (by omega)]
    · rfl
  have hf : ∀ l : List Nat, l.foldl (fun s' _ => handOverBy s.cycle s') s = s := by
    intro l
    induction l with
    | nil => rfl
    | cons a l ih => rw [List.foldl_cons, hb, ih]
  have hr : s.runTo s.cycle = s := by
    unfold State.runTo State.cycle
    rw [if_pos (by omega)]
  unfold takeTurn
  simp only [ht, hf, hr]

/-- A write access of a path that is served to an object the variant has runs its operation; an abort is recorded (R3,
R416). -/
theorem access_served {s : State} {p : Nat} (h : Served s p) (k : Nat) (hk : s.missing (k / 256) (k % 256) = none)
    (f : State → Acc) : access s p k f = finish p k 2 (f s.turned) := by
  have hk' : s.turned.missing (k / 256) (k % 256) = none := hk
  simp only [access, h.1, h.2.1, takeTurn_free s h.2.2, hk', if_true]
  simp

/-- An access of a path that is served to an object the variant lacks records its abort and does nothing else (R3). -/
theorem access_missing {s : State} {p : Nat} (h : Served s p) (k : Nat) (a : Abort)
    (hk : s.missing (k / 256) (k % 256) = some a) (f : State → Acc) : access s p k f = recordAbort s.turned p k 2 a := by
  have hk' : s.turned.missing (k / 256) (k % 256) = some a := hk
  simp only [access, h.1, h.2.1, takeTurn_free s h.2.2, hk', if_true]
  simp

/-- Subindex 00 of an object that belongs to no input exists in every variant (R3). -/
theorem missing_scalar (i : Nat) (h : i < 0x3000 ∨ 0x3800 ≤ i) : s.missing i 0 = none := by
  unfold State.missing
  rw [if_neg (by omega)]
  simp [State.elementAbsent]

/-- An object of a fitted input exists (R3). -/
theorem missing_input (n i sub : Nat) (hn : n < s.D) (h : digitOf i = n) (hi : 0x3000 ≤ i) (hi' : i < 0x3800) :
    s.missing i sub = none := by
  unfold State.missing
  rw [if_neg (by omega), if_neg]
  unfold State.elementAbsent
  simp only []
  split
  · simp
  · split <;> first | omega | simp

/-- A path that serves nothing changes nothing (R434). -/
theorem access_unserved {s : State} {p : Nat} (h : s.serves p = false) (k : Nat) (f : State → Acc) :
    access s p k f = s := by simp [access, h]

/-- An access that meets a hub controller restart is recorded once it ends (R424). -/
theorem access_restart {s : State} {p : Nat} (h : s.serves p = true) (h' : s.hubRestart = true) (k : Nat)
    (f : State → Acc) : access s p k f = { s with missed := s.missed ++ [(p, k, 2)] } := by simp [access, h, h']

@[simp] theorem need_true (a : Abort) (f : State → Acc) : need true a s f = f s := (rfl)
@[simp] theorem need_false (a : Abort) (f : State → Acc) : need false a s f = (s, some a) := (rfl)
@[simp] theorem finish_ok (p k op : Nat) : finish p k op (Acc.ok s) = s := (rfl)
@[simp] theorem finish_none (p k op : Nat) : finish p k op (s, none) = s := (rfl)
@[simp] theorem finish_some (p k op : Nat) (a : Abort) : finish p k op (s, some a) = recordAbort s p k op a := (rfl)

theorem need_pos {c : Bool} (h : c = true) (a : Abort) (f : State → Acc) : need c a s f = f s := by simp [h]

/-- A command that ends in `u` answers what holds of the settled `u`. -/
theorem answers_done {i : Instr} {s u : State} {P : State → Prop} (h : exec i s = done u) (hp : P (settle u)) :
    Answers i s P := ⟨settle u, h, hp⟩

/-- Different objects of one instance have different keys. -/
theorem objKey_ne (p : Nat) {k k' : Nat} (h : k ≠ k') : objKey p k ≠ objKey p k' := fun he => h (Nat.add_left_cancel he)

/-- The record of an aborted access (R416, R421). -/
theorem recordAbort_aborted (p k op : Nat) (a : Abort) : Aborted s (recordAbort s p k op a) p k op a := by
  have h1 : objKey p O.PATH_LAST_ABORT ≠ objKey p O.PATH_ABORTS := objKey_ne p (by decide)
  have h2 : objKey p O.PATH_LAST_ABORT ≠ objKey p O.PATH_STATUS := objKey_ne p (by decide)
  have h3 : objKey p O.PATH_ABORTS ≠ objKey p O.PATH_STATUS := objKey_ne p (by decide)
  unfold Aborted recordAbort recordCode
  simp only [State.flag_eq, State.countSat_eq]
  rw [State.obj_setObj_ne _ _ _ _ _ _ h2, State.obj_setObj_ne _ _ _ _ _ _ h1, State.obj_setObj_self,
    State.obj_setObj_ne _ _ _ _ _ _ h3, State.obj_setObj_self, State.obj_setObj_ne _ _ _ _ _ _ h1.symm,
    State.obj_setObj_self]
  have : satN 32 ((s.obj p O.PATH_ABORTS).toNat + 1) < 2 ^ 64 := by unfold satN; split <;> omega
  refine ⟨rfl, ofN_toNat _ this, ?_⟩
  rw [bit_setBit _ _ _ (by decide)]; simp

/-- The record of an aborted access changes only the path's own copy of 2003. -/
theorem recordAbort_onlyObjs (p k op : Nat) (a : Abort) :
    OnlyObjs [objKey p O.PATH_LAST_ABORT, objKey p O.PATH_ABORTS, objKey p O.PATH_STATUS] s (recordAbort s p k op a) := by
  unfold recordAbort recordCode
  simp only [State.flag_eq, State.countSat_eq]
  refine ⟨by simp only [body_setObj], ?_⟩
  exact ((objsBut_setObj _ _ _ _ _ (by simp)).trans (objsBut_setObj _ _ _ _ _ (by simp))).trans
    (objsBut_setObj _ _ _ _ _ (by simp))

/-! ## Only objects change -/

theorem onlyObjs_refl (ks : List Nat) : OnlyObjs ks s s := ⟨rfl, objsBut_refl s ks⟩

theorem OnlyObjs.trans {ks : List Nat} {s t u : State} (h : OnlyObjs ks s t) (h' : OnlyObjs ks t u) : OnlyObjs ks s u :=
  ⟨h'.1.trans h.1, h.2.trans h'.2⟩

theorem OnlyObjs.set {ks : List Nat} {s t : State} (h : OnlyObjs ks s t) (i k : Nat) (v : Slot)
    (hk : objKey i k ∈ ks ++ settleKeys) : OnlyObjs ks s (t.setObj i k v) :=
  h.trans ⟨by simp only [body_setObj], objsBut_setObj t ks i k v hk⟩

theorem OnlyObjs.settled {ks : List Nat} {s t : State} (h : OnlyObjs ks s t) : OnlyObjs ks s (settle t) :=
  onlyObjs_settle h.1 h.2

theorem OnlyObjs.pulsed {ks : List Nat} {s t : State} (h : OnlyObjs ks s t) (a b c : Nat) :
    OnlyObjs ks s (pulse t a b c) :=
  h.trans ⟨pulse_body _ _ _ _, (pulse_keeps _ _ _ _).objsBut _⟩

theorem onlyObjs_congr (ks : List Nat) {s t : State} (hb : t.body = s.body) (ho : t.objs = s.objs)
    (hv : t.variant = s.variant) : OnlyObjs ks s t := ⟨hb, objsBut_congr ks ho hv⟩

theorem OnlyObjs.mono {ks ks' : List Nat} {s t : State} (h : OnlyObjs ks s t) (hs : ∀ x ∈ ks, x ∈ ks') :
    OnlyObjs ks' s t := ⟨h.1, h.2.mono hs⟩

/-- The objects of `settleKeys`, without instances. -/
def settleObjs : List Nat :=
  [O.STEWARD_ACTIVE, O.STEWARD_TM, O.DEVICE_STATE_TM, O.DEVICE_STATE_WRAP, O.CXL_STATUS, O.FB_FLAGS]

/-- In whichever instance, an object outside `settleObjs` is outside `settleKeys`. -/
theorem objKey_settle (i k : Nat) (hk : k < 2 ^ 24) (h : k ∉ settleObjs) : objKey i k ∉ settleKeys := by
  have hm : ∀ j k', k' < 2 ^ 24 → objKey i k = objKey j k' → k = k' := by
    intro j k' hk' he
    simp only [objKey] at he
    omega
  intro hx
  simp only [settleKeys, List.mem_cons, List.not_mem_nil, or_false] at hx
  refine h ?_
  rcases hx with hx | hx | hx | hx | hx | hx | hx <;> rw [hm _ _ (by decide) hx] <;> decide

/-- An object outside `settleObjs` at the end of a command. -/
theorem obj_settle_of (i k : Nat) (hk : k < 2 ^ 24) (h : k ∉ settleObjs) : (settle s).obj i k = s.obj i k :=
  obj_settle s i k (objKey_settle i k hk h)

/-- A rejected access: its record and nothing else (R416, R420). -/
theorem rejected_settle (p k op : Nat) (a : Abort) : Rejected s (settle (recordAbort s p k op a)) p k op a := by
  obtain ⟨h1, h2, h3⟩ := recordAbort_aborted s p k op a
  refine ⟨⟨?_, ?_, ?_⟩, (recordAbort_onlyObjs s p k op a).settled⟩
  · rw [obj_settle_of _ _ _ (by decide) (by decide)]; exact h1
  · rw [obj_settle_of _ _ _ (by decide) (by decide)]; exact h2
  · rw [obj_settle_of _ _ _ (by decide) (by decide)]; exact h3

end Sys2Proof.Machine
end

