-- ==== Sys2Proof/Laws/Exec.lean ====
section
/-!
SUPPORT. What `exec` answers for each command: the meaning its arm calls.
-/
namespace Sys2Proof.Machine

variable (s : State)

theorem exec_mainsOn : exec (.mainsOn) s = execMainsOn s := (rfl)
theorem exec_timeCounterWrap : exec (.timeCounterWrap) s = execTimeCounterWrap s := (rfl)
theorem exec_epochSourceWrite (p : Nat) (v : Slot) : exec (.epochSourceWrite p v) s = execEpochSourceWrite p v s := (rfl)
theorem exec_timeFrame (cobId days ms : Nat) : exec (.timeFrame cobId days ms) s = execTimeFrame cobId days ms s := (rfl)
theorem exec_trigInEdge (rising : Bool) (at' : Nat) : exec (.trigInEdge rising at') s = execTrigInEdge rising at' s := (rfl)
theorem exec_touchmarkRead (p idx sub : Nat) : exec (.touchmarkRead p idx sub) s = execTouchmarkRead p idx sub s := (rfl)
theorem exec_windowReadLowHalf (p off n : Nat) : exec (.windowReadLowHalf p off n) s = execWindowReadLowHalf p off n s := (rfl)
theorem exec_windowReadHighHalf (p off n : Nat) : exec (.windowReadHighHalf p off n) s = execWindowReadHighHalf p off n s := (rfl)
theorem exec_windowWriteLowHalf (p off n : Nat) (v : Slot) : exec (.windowWriteLowHalf p off n v) s = execWindowWriteLowHalf p off n v s := (rfl)
theorem exec_windowWriteHighHalf (p off n : Nat) (v : Slot) : exec (.windowWriteHighHalf p off n v) s = execWindowWriteHighHalf p off n v s := (rfl)
theorem exec_objectWrite (p idx sub : Nat) (v : Slot) : exec (.objectWrite p idx sub v) s = execObjectWrite p idx sub v s := (rfl)
theorem exec_mbDoorbellSubmit (l : Nat) (req : Slot) (data : List Byte) : exec (.mbDoorbellSubmit l req data) s = execMbDoorbellSubmit l req data s := (rfl)
theorem exec_mailboxRequestDone (l : Nat) : exec (.mailboxRequestDone l) s = execMailboxRequestDone l s := (rfl)
theorem exec_feSettingWrite (p n sub : Nat) (v : Slot) : exec (.feSettingWrite p n sub v) s = execFeSettingWrite p n sub v s := (rfl)
theorem exec_feSettled (n : Nat) : exec (.feSettled n) s = execFeSettled n s := (rfl)
theorem exec_inputOverload (n : Nat) : exec (.inputOverload n) s = execInputOverload n s := (rfl)
theorem exec_absmaxExceeded (src unit : Nat) : exec (.absmaxExceeded src unit) s = execAbsmaxExceeded src unit s := (rfl)
theorem exec_alloyCommit (p n : Nat) (v : Slot) : exec (.alloyCommit p n v) s = execAlloyCommit p n v s := (rfl)
theorem exec_alloyStreamStart (n : Nat) : exec (.alloyStreamStart n) s = execAlloyStreamStart n s := (rfl)
theorem exec_dieLost (d : Nat) : exec (.dieLost d) s = execDieLost d s := (rfl)
theorem exec_regroupGapEnd (n : Nat) : exec (.regroupGapEnd n) s = execRegroupGapEnd n s := (rfl)
theorem exec_calStart (p : Nat) (v : Slot) : exec (.calStart p v) s = execCalStart p v s := (rfl)
theorem exec_calSliceMeasured (d : Nat) (m : SliceMeasure) : exec (.calSliceMeasured d m) s = execCalSliceMeasured d m s := (rfl)
theorem exec_calSkewMeasured (n : Nat) (skews : List Int) : exec (.calSkewMeasured n skews) s = execCalSkewMeasured n skews s := (rfl)
theorem exec_calTrimsComputed : exec (.calTrimsComputed) s = execCalTrimsComputed s := (rfl)
theorem exec_calRampStep : exec (.calRampStep) s = execCalRampStep s := (rfl)
theorem exec_calTrimsApply : exec (.calTrimsApply) s = execCalTrimsApply s := (rfl)
theorem exec_calCommit (p : Nat) (v : Slot) : exec (.calCommit p v) s = execCalCommit p v s := (rfl)
theorem exec_calAutoStart (d : Nat) : exec (.calAutoStart d) s = execCalAutoStart d s := (rfl)
theorem exec_auditWindowEnd (d : Nat) (a : AuditWindow) : exec (.auditWindowEnd d a) s = execAuditWindowEnd d a s := (rfl)
theorem exec_auditConfirmEnd (d : Nat) (a : AuditWindow) : exec (.auditConfirmEnd d a) s = execAuditConfirmEnd d a s := (rfl)
theorem exec_wearoutBoundary (d : Nat) : exec (.wearoutBoundary d) s = execWearoutBoundary d s := (rfl)
theorem exec_lineupGapEnd (d : Nat) : exec (.lineupGapEnd d) s = execLineupGapEnd d s := (rfl)
theorem exec_sliceRetest (p : Nat) (v : Slot) : exec (.sliceRetest p v) s = execSliceRetest p v s := (rfl)
theorem exec_sliceRetestDone (ws : List AuditWindow) : exec (.sliceRetestDone ws) s = execSliceRetestDone ws s := (rfl)
theorem exec_skewsetClear (p : Nat) (v : Slot) : exec (.skewsetClear p v) s = execSkewsetClear p v s := (rfl)
theorem exec_triggerAccept (c : Nat) : exec (.triggerAccept c) s = execTriggerAccept c s := (rfl)
theorem exec_tapFetchDeadline (c : Nat) : exec (.tapFetchDeadline c) s = execTapFetchDeadline c s := (rfl)
theorem exec_holdoffExpiry (c : Nat) : exec (.holdoffExpiry c) s = execHoldoffExpiry c s := (rfl)
theorem exec_trigForce (p : Nat) (v : Slot) : exec (.trigForce p v) s = execTrigForce p v s := (rfl)
theorem exec_forcedEvent (c : Nat) : exec (.forcedEvent c) s = execForcedEvent c s := (rfl)
theorem exec_trigAutoExpiry (c : Nat) : exec (.trigAutoExpiry c) s = execTrigAutoExpiry c s := (rfl)
theorem exec_pairEventCompare (c : Nat) (partner : Option PairEvent) : exec (.pairEventCompare c partner) s = execPairEventCompare c partner s := (rfl)
theorem exec_trigoutPulseStart : exec (.trigoutPulseStart) s = execTrigoutPulseStart s := (rfl)
theorem exec_trigoutPulseEnd : exec (.trigoutPulseEnd) s = execTrigoutPulseEnd s := (rfl)
theorem exec_trigLevelWrite (p idx sub : Nat) (v : Slot) : exec (.trigLevelWrite p idx sub v) s = execTrigLevelWrite p idx sub v s := (rfl)
theorem exec_trigLevelInForce (c : Nat) : exec (.trigLevelInForce c) s = execTrigLevelInForce c s := (rfl)
theorem exec_triginThresholdSettled : exec (.triginThresholdSettled) s = execTriginThresholdSettled s := (rfl)
theorem exec_ctxClaim (p : Nat) : exec (.ctxClaim p) s = execCtxClaim p s := (rfl)
theorem exec_ctxArm (p : Nat) : exec (.ctxArm p) s = execCtxArm p s := (rfl)
theorem exec_ctxArmEffective (c : Nat) : exec (.ctxArmEffective c) s = execCtxArmEffective c s := (rfl)
theorem exec_ctxHold (p : Nat) : exec (.ctxHold p) s = execCtxHold p s := (rfl)
theorem exec_ctxResume (p : Nat) : exec (.ctxResume p) s = execCtxResume p s := (rfl)
theorem exec_ctxDisarm (p : Nat) : exec (.ctxDisarm p) s = execCtxDisarm p s := (rfl)
theorem exec_ctxFree (p : Nat) : exec (.ctxFree p) s = execCtxFree p s := (rfl)
theorem exec_ctxStateChangeDone (c : Nat) : exec (.ctxStateChangeDone c) s = execCtxStateChangeDone c s := (rfl)
theorem exec_eventReachesContext (c : Nat) : exec (.eventReachesContext c) s = execEventReachesContext c s := (rfl)
theorem exec_segmentClose (c : Nat) : exec (.segmentClose c) s = execSegmentClose c s := (rfl)
theorem exec_segmentPublish : exec (.segmentPublish) s = execSegmentPublish s := (rfl)
theorem exec_segmentRevoke (n : Nat) : exec (.segmentRevoke n) s = execSegmentRevoke n s := (rfl)
theorem exec_ringPause (n : Nat) : exec (.ringPause n) s = execRingPause n s := (rfl)
theorem exec_ringResume (n : Nat) : exec (.ringResume n) s = execRingResume n s := (rfl)
theorem exec_ringMibWrite (p n : Nat) (v : Slot) : exec (.ringMibWrite p n v) s = execRingMibWrite p n v s := (rfl)
theorem exec_ringPolicyWrite (p n : Nat) (v : Slot) : exec (.ringPolicyWrite p n v) s = execRingPolicyWrite p n v s := (rfl)
theorem exec_stopTimeExpiry (c : Nat) : exec (.stopTimeExpiry c) s = execStopTimeExpiry c s := (rfl)
theorem exec_stopActionApply (c : Nat) : exec (.stopActionApply c) s = execStopActionApply c s := (rfl)
theorem exec_segReleaseSeq (p : Nat) (v : Slot) : exec (.segReleaseSeq p v) s = execSegReleaseSeq p v s := (rfl)
theorem exec_segReleaseUpto (p : Nat) (v : Slot) : exec (.segReleaseUpto p v) s = execSegReleaseUpto p v s := (rfl)
theorem exec_segReleaseAll (p : Nat) (v : Slot) : exec (.segReleaseAll p v) s = execSegReleaseAll p v s := (rfl)
theorem exec_segmentReleaseEffective (c seq : Nat) : exec (.segmentReleaseEffective c seq) s = execSegmentReleaseEffective c seq s := (rfl)
theorem exec_cruClear (p : Nat) : exec (.cruClear p) s = execCruClear p s := (rfl)
theorem exec_cruFreeze (p : Nat) : exec (.cruFreeze p) s = execCruFreeze p s := (rfl)
theorem exec_cruThaw (p : Nat) : exec (.cruThaw p) s = execCruThaw p s := (rfl)
theorem exec_cruClearDone (c : Nat) : exec (.cruClearDone c) s = execCruClearDone c s := (rfl)
theorem exec_cruRecordDone (fold : Checked) : exec (.cruRecordDone fold) s = execCruRecordDone fold s := (rfl)
theorem exec_wNop (d l : Nat) (w : AWord) : exec (.wNop d l w) s = execWNop d l w s := (rfl)
theorem exec_wMov (d l : Nat) (w : AWord) : exec (.wMov d l w) s = execWMov d l w s := (rfl)
theorem exec_wLdi (d l : Nat) (w : AWord) : exec (.wLdi d l w) s = execWLdi d l w s := (rfl)
theorem exec_wLds (d l : Nat) (w : AWord) : exec (.wLds d l w) s = execWLds d l w s := (rfl)
theorem exec_wSts (d l : Nat) (w : AWord) : exec (.wSts d l w) s = execWSts d l w s := (rfl)
theorem exec_wAdd (d l : Nat) (w : AWord) : exec (.wAdd d l w) s = execWAdd d l w s := (rfl)
theorem exec_wSub (d l : Nat) (w : AWord) : exec (.wSub d l w) s = execWSub d l w s := (rfl)
theorem exec_wMul (d l : Nat) (w : AWord) : exec (.wMul d l w) s = execWMul d l w s := (rfl)
theorem exec_wDiv (d l : Nat) (w : AWord) : exec (.wDiv d l w) s = execWDiv d l w s := (rfl)
theorem exec_wDivr (d l : Nat) (w : AWord) : exec (.wDivr d l w) s = execWDivr d l w s := (rfl)
theorem exec_wMuldiv (d l : Nat) (w : AWord) : exec (.wMuldiv d l w) s = execWMuldiv d l w s := (rfl)
theorem exec_wAddi (d l : Nat) (w : AWord) : exec (.wAddi d l w) s = execWAddi d l w s := (rfl)
theorem exec_wShl (d l : Nat) (w : AWord) : exec (.wShl d l w) s = execWShl d l w s := (rfl)
theorem exec_wSar (d l : Nat) (w : AWord) : exec (.wSar d l w) s = execWSar d l w s := (rfl)
theorem exec_wAnd (d l : Nat) (w : AWord) : exec (.wAnd d l w) s = execWAnd d l w s := (rfl)
theorem exec_wOr (d l : Nat) (w : AWord) : exec (.wOr d l w) s = execWOr d l w s := (rfl)
theorem exec_wXor (d l : Nat) (w : AWord) : exec (.wXor d l w) s = execWXor d l w s := (rfl)
theorem exec_wMin (d l : Nat) (w : AWord) : exec (.wMin d l w) s = execWMin d l w s := (rfl)
theorem exec_wMax (d l : Nat) (w : AWord) : exec (.wMax d l w) s = execWMax d l w s := (rfl)
theorem exec_wAbs (d l : Nat) (w : AWord) : exec (.wAbs d l w) s = execWAbs d l w s := (rfl)
theorem exec_wSqrt (d l : Nat) (w : AWord) : exec (.wSqrt d l w) s = execWSqrt d l w s := (rfl)
theorem exec_wCmp (d l : Nat) (w : AWord) : exec (.wCmp d l w) s = execWCmp d l w s := (rfl)
theorem exec_wCmpi (d l : Nat) (w : AWord) : exec (.wCmpi d l w) s = execWCmpi d l w s := (rfl)
theorem exec_wJmp (d l : Nat) (w : AWord) : exec (.wJmp d l w) s = execWJmp d l w s := (rfl)
theorem exec_wHcnt (d l : Nat) (w : AWord) : exec (.wHcnt d l w) s = execWHcnt d l w s := (rfl)
theorem exec_wHmode (d l : Nat) (w : AWord) : exec (.wHmode d l w) s = execWHmode d l w s := (rfl)
theorem exec_wHbin (d l : Nat) (w : AWord) : exec (.wHbin d l w) s = execWHbin d l w s := (rfl)
theorem exec_wPass2 (d l : Nat) (w : AWord) : exec (.wPass2 d l w) s = execWPass2 d l w s := (rfl)
theorem exec_wNextx (d l : Nat) (w : AWord) : exec (.wNextx d l w) s = execWNextx d l w s := (rfl)
theorem exec_pass2EventReady (d l : Nat) : exec (.pass2EventReady d l) s = execPass2EventReady d l s := (rfl)
theorem exec_wPut (d l : Nat) (w : AWord) : exec (.wPut d l w) s = execWPut d l w s := (rfl)
theorem exec_wPutv (d l : Nat) (w : AWord) : exec (.wPutv d l w) s = execWPutv d l w s := (rfl)
theorem exec_wEnd (d l : Nat) (w : AWord) : exec (.wEnd d l w) s = execWEnd d l w s := (rfl)
theorem exec_assayStepLimit (d l : Nat) : exec (.assayStepLimit d l) s = execAssayStepLimit d l s := (rfl)
theorem exec_assayBlockPublish (c : Nat) : exec (.assayBlockPublish c) s = execAssayBlockPublish c s := (rfl)
theorem exec_astoreLoadImage (p : Nat) : exec (.astoreLoadImage p) s = execAstoreLoadImage p s := (rfl)
theorem exec_astoreLoadAndStore (p : Nat) : exec (.astoreLoadAndStore p) s = execAstoreLoadAndStore p s := (rfl)
theorem exec_astoreEmpty (p : Nat) : exec (.astoreEmpty p) s = execAstoreEmpty p s := (rfl)
theorem exec_astoreLoadDone : exec (.astoreLoadDone) s = execAstoreLoadDone s := (rfl)
theorem exec_refreshDue (d pc : Nat) (rtQueued : Bool) : exec (.refreshDue d pc rtQueued) s = execRefreshDue d pc rtQueued s := (rfl)
theorem exec_postponedRefreshIssue (d pc : Nat) : exec (.postponedRefreshIssue d pc) s = execPostponedRefreshIssue d pc s := (rfl)
theorem exec_selfRefreshEntry (st ch : Nat) : exec (.selfRefreshEntry st ch) s = execSelfRefreshEntry st ch s := (rfl)
theorem exec_selfRefreshExit (st ch : Nat) : exec (.selfRefreshExit st ch) s = execSelfRefreshExit st ch s := (rfl)
theorem exec_retrainStep (d ch : Nat) (bad : List Nat) : exec (.retrainStep d ch bad) s = execRetrainStep d ch bad s := (rfl)
theorem exec_parityError (d pc : Nat) (error : ParityIn) : exec (.parityError d pc error) s = execParityError d pc error s := (rfl)
theorem exec_cxlmemRead (l hpa : Nat) : exec (.cxlmemRead l hpa) s = execCxlmemRead l hpa s := (rfl)
theorem exec_cxlmemReadComplete (l : Nat) (e : Ecc) : exec (.cxlmemReadComplete l e) s = execCxlmemReadComplete l e s := (rfl)
theorem exec_cxlmemWrite (l hpa : Nat) (mask : List Bool) (line : LineWrite) : exec (.cxlmemWrite l hpa mask line) s = execCxlmemWrite l hpa mask line s := (rfl)
theorem exec_scrubRead (d : Nat) (e : Ecc) : exec (.scrubRead d e) s = execScrubRead d e s := (rfl)
theorem exec_stagingStall (d : Nat) (stall : StallIn) : exec (.stagingStall d stall) s = execStagingStall d stall s := (rfl)
theorem exec_memSpareCmd (p : Nat) (v : Slot) : exec (.memSpareCmd p v) s = execMemSpareCmd p v s := (rfl)
theorem exec_spareCopyDone (copy : CopyIn) : exec (.spareCopyDone copy) s = execSpareCopyDone copy s := (rfl)
theorem exec_memTakeover (d : Nat) : exec (.memTakeover d) s = execMemTakeover d s := (rfl)
theorem exec_dpOpen (p : Nat) (ctxPort : Bool) : exec (.dpOpen p ctxPort) s = execDpOpen p ctxPort s := (rfl)
theorem exec_dpClose (p : Nat) (ctxPort : Bool) : exec (.dpClose p ctxPort) s = execDpClose p ctxPort s := (rfl)
theorem exec_dpDataRead (p : Nat) (port : PortRead) : exec (.dpDataRead p port) s = execDpDataRead p port s := (rfl)
theorem exec_dpDataWrite (p : Nat) (ctxPort : Bool) (v : Slot) : exec (.dpDataWrite p ctxPort v) s = execDpDataWrite p ctxPort v s := (rfl)
theorem exec_apertureRead (l : Nat) (port : PortRead) (off n : Nat) : exec (.apertureRead l port off n) s = execApertureRead l port off n s := (rfl)
theorem exec_apertureWrite (l : Nat) (ctxPort : Bool) (off : Nat) (data : List Byte) : exec (.apertureWrite l ctxPort off data) s = execApertureWrite l ctxPort off data s := (rfl)
theorem exec_mvClaim (p : Nat) : exec (.mvClaim p) s = execMvClaim p s := (rfl)
theorem exec_mvStart (p : Nat) : exec (.mvStart p) s = execMvStart p s := (rfl)
theorem exec_mvPause (p : Nat) : exec (.mvPause p) s = execMvPause p s := (rfl)
theorem exec_mvResume (p : Nat) : exec (.mvResume p) s = execMvResume p s := (rfl)
theorem exec_mvStop (p : Nat) : exec (.mvStop p) s = execMvStop p s := (rfl)
theorem exec_mvRelease (p : Nat) : exec (.mvRelease p) s = execMvRelease p s := (rfl)
theorem exec_mvRequestPulse (mover line : Nat) : exec (.mvRequestPulse mover line) s = execMvRequestPulse mover line s := (rfl)
theorem exec_mvTimerTick (ch : Nat) : exec (.mvTimerTick ch) s = execMvTimerTick ch s := (rfl)
theorem exec_mvBurstDone (ch : Nat) (burst : BurstIn) : exec (.mvBurstDone ch burst) s = execMvBurstDone ch burst s := (rfl)
theorem exec_mvBusError (x kind addr : Nat) : exec (.mvBusError x kind addr) s = execMvBusError x kind addr s := (rfl)
theorem exec_mvQuenchRecovery (x : Nat) : exec (.mvQuenchRecovery x) s = execMvQuenchRecovery x s := (rfl)
theorem exec_evClaim (p : Nat) : exec (.evClaim p) s = execEvClaim p s := (rfl)
theorem exec_evRelease (p : Nat) : exec (.evRelease p) s = execEvRelease p s := (rfl)
theorem exec_plClaim (p : Nat) : exec (.plClaim p) s = execPlClaim p s := (rfl)
theorem exec_plStart (p : Nat) : exec (.plStart p) s = execPlStart p s := (rfl)
theorem exec_plFinish (p : Nat) : exec (.plFinish p) s = execPlFinish p s := (rfl)
theorem exec_plContinue (p : Nat) : exec (.plContinue p) s = execPlContinue p s := (rfl)
theorem exec_plAbort (p : Nat) : exec (.plAbort p) s = execPlAbort p s := (rfl)
theorem exec_plRelease (p : Nat) : exec (.plRelease p) s = execPlRelease p s := (rfl)
theorem exec_plJobDone (x : Nat) : exec (.plJobDone x) s = execPlJobDone x s := (rfl)
theorem exec_rasterStart (p : Nat) : exec (.rasterStart p) s = execRasterStart p s := (rfl)
theorem exec_rasterStop (p : Nat) : exec (.rasterStop p) s = execRasterStop p s := (rfl)
theorem exec_rasterLineStart (fetched : LineIn) : exec (.rasterLineStart fetched) s = execRasterLineStart fetched s := (rfl)
theorem exec_rasterFrameDone : exec (.rasterFrameDone) s = execRasterFrameDone s := (rfl)
theorem exec_frameCrcCompare (o : Nat) (crc : BitVec 32) : exec (.frameCrcCompare o crc) s = execFrameCrcCompare o crc s := (rfl)
theorem exec_rasterCommit (p : Nat) (v : Slot) : exec (.rasterCommit p v) s = execRasterCommit p v s := (rfl)
theorem exec_layerClaim (p l : Nat) : exec (.layerClaim p l) s = execLayerClaim p l s := (rfl)
theorem exec_layerRelease (p l : Nat) : exec (.layerRelease p l) s = execLayerRelease p l s := (rfl)
theorem exec_vectorRasterDone (layer : Checked) : exec (.vectorRasterDone layer) s = execVectorRasterDone layer s := (rfl)
theorem exec_rbufAllocate (p : Nat) : exec (.rbufAllocate p) s = execRbufAllocate p s := (rfl)
theorem exec_rbufFree (p : Nat) : exec (.rbufFree p) s = execRbufFree p s := (rfl)
theorem exec_dpHotplug (o : Nat) (present : Bool) : exec (.dpHotplug o present) s = execDpHotplug o present s := (rfl)
theorem exec_dpLinkTrained (o maxRate maxLanes : Nat) (edid : List Byte) : exec (.dpLinkTrained o maxRate maxLanes edid) s = execDpLinkTrained o maxRate maxLanes edid s := (rfl)
theorem exec_dictCommit (p : Nat) (v : Slot) : exec (.dictCommit p v) s = execDictCommit p v s := (rfl)
theorem exec_dictHandover : exec (.dictHandover) s = execDictHandover s := (rfl)
theorem exec_dictStore (p : Nat) (v : Slot) : exec (.dictStore p v) s = execDictStore p v s := (rfl)
theorem exec_dictStoreDone (ok : Bool) : exec (.dictStoreDone ok) s = execDictStoreDone ok s := (rfl)
theorem exec_dictRestore (p : Nat) (v : Slot) : exec (.dictRestore p v) s = execDictRestore p v s := (rfl)
theorem exec_fmIdentify : exec (.fmIdentify) s = execFmIdentify s := (rfl)
theorem exec_fmGetLdInfo : exec (.fmGetLdInfo) s = execFmGetLdInfo s := (rfl)
theorem exec_fmGetLdAllocations : exec (.fmGetLdAllocations) s = execFmGetLdAllocations s := (rfl)
theorem exec_fmSetLdAllocations (first : Nat) (units : List Nat) : exec (.fmSetLdAllocations first units) s = execFmSetLdAllocations first units s := (rfl)
theorem exec_fmGetSteward : exec (.fmGetSteward) s = execFmGetSteward s := (rfl)
theorem exec_fmSetSteward (b : Byte) : exec (.fmSetSteward b) s = execFmSetSteward b s := (rfl)
theorem exec_fmDisableLd (request : FmRequest) : exec (.fmDisableLd request) s = execFmDisableLd request s := (rfl)
theorem exec_identifyMemoryDevice (request : MailboxRequest) : exec (.identifyMemoryDevice request) s = execIdentifyMemoryDevice request s := (rfl)
theorem exec_getHealthInfo (l : Nat) : exec (.getHealthInfo l) s = execGetHealthInfo l s := (rfl)
theorem exec_getPoisonList (l : Nat) : exec (.getPoisonList l) s = execGetPoisonList l s := (rfl)
theorem exec_getEventRecords (l : Nat) : exec (.getEventRecords l) s = execGetEventRecords l s := (rfl)
theorem exec_clearEventRecords (l : Nat) (handles : List Nat) : exec (.clearEventRecords l handles) s = execClearEventRecords l handles s := (rfl)
theorem exec_getSupportedLogs (l : Nat) : exec (.getSupportedLogs l) s = execGetSupportedLogs l s := (rfl)
theorem exec_getLog (l : Nat) : exec (.getLog l) s = execGetLog l s := (rfl)
theorem exec_spdmGetVersion (l : Nat) : exec (.spdmGetVersion l) s = execSpdmGetVersion l s := (rfl)
theorem exec_spdmGetCapabilities (l : Nat) : exec (.spdmGetCapabilities l) s = execSpdmGetCapabilities l s := (rfl)
theorem exec_spdmNegotiateAlgorithms (l : Nat) : exec (.spdmNegotiateAlgorithms l) s = execSpdmNegotiateAlgorithms l s := (rfl)
theorem exec_spdmGetDigests (l : Nat) : exec (.spdmGetDigests l) s = execSpdmGetDigests l s := (rfl)
theorem exec_spdmGetCertificate (l slot off len : Nat) : exec (.spdmGetCertificate l slot off len) s = execSpdmGetCertificate l slot off len s := (rfl)
theorem exec_spdmChallenge (l slot : Nat) (nonce : List Byte) : exec (.spdmChallenge l slot nonce) s = execSpdmChallenge l slot nonce s := (rfl)
theorem exec_spdmGetMeasurements (l : Nat) (request : MeasRequest) : exec (.spdmGetMeasurements l request) s = execSpdmGetMeasurements l request s := (rfl)
theorem exec_spdmUnsupportedRequest (l code : Nat) : exec (.spdmUnsupportedRequest l code) s = execSpdmUnsupportedRequest l code s := (rfl)
theorem exec_cxlLinkUp (width gts : Nat) (sris mldSwitch : Bool) : exec (.cxlLinkUp width gts sris mldSwitch) s = execCxlLinkUp width gts sris mldSwitch s := (rfl)
theorem exec_cxlLinkDown : exec (.cxlLinkDown) s = execCxlLinkDown s := (rfl)
theorem exec_cxlCorrectableError : exec (.cxlCorrectableError) s = execCxlCorrectableError s := (rfl)
theorem exec_cxlUncorrectableError : exec (.cxlUncorrectableError) s = execCxlUncorrectableError s := (rfl)
theorem exec_cxlLinkRecovery : exec (.cxlLinkRecovery) s = execCxlLinkRecovery s := (rfl)
theorem exec_functionLevelReset (l : Nat) : exec (.functionLevelReset l) s = execFunctionLevelReset l s := (rfl)
theorem exec_ldResetTrigger (reset : LinkReset) : exec (.ldResetTrigger reset) s = execLdResetTrigger reset s := (rfl)
theorem exec_ldDisableDone (l : Nat) : exec (.ldDisableDone l) s = execLdDisableDone l s := (rfl)
theorem exec_ldEnable (l : Nat) (mse : Bool) (rest : LdControls) : exec (.ldEnable l mse rest) s = execLdEnable l mse rest s := (rfl)
theorem exec_inputClaim (p n : Nat) : exec (.inputClaim p n) s = execInputClaim p n s := (rfl)
theorem exec_inputRelease (p n : Nat) : exec (.inputRelease p n) s = execInputRelease p n s := (rfl)
theorem exec_inputSubscribe (p n : Nat) : exec (.inputSubscribe p n) s = execInputSubscribe p n s := (rfl)
theorem exec_inputUnsubscribe (p n : Nat) : exec (.inputUnsubscribe p n) s = execInputUnsubscribe p n s := (rfl)
theorem exec_inputRevoke (p n : Nat) : exec (.inputRevoke p n) s = execInputRevoke p n s := (rfl)
theorem exec_nmtStart (node : Nat) : exec (.nmtStart node) s = execNmtStart node s := (rfl)
theorem exec_nmtStop (node : Nat) : exec (.nmtStop node) s = execNmtStop node s := (rfl)
theorem exec_nmtEnterPreoperational (node : Nat) : exec (.nmtEnterPreoperational node) s = execNmtEnterPreoperational node s := (rfl)
theorem exec_nmtResetNode (node : Nat) : exec (.nmtResetNode node) s = execNmtResetNode node s := (rfl)
theorem exec_nmtResetCommunication (node : Nat) : exec (.nmtResetCommunication node) s = execNmtResetCommunication node s := (rfl)
theorem exec_lssSwitchStateGlobal (config : Bool) : exec (.lssSwitchStateGlobal config) s = execLssSwitchStateGlobal config s := (rfl)
theorem exec_lssSwitchStateSelective (vendor product revision serial : BitVec 32) : exec (.lssSwitchStateSelective vendor product revision serial) s = execLssSwitchStateSelective vendor product revision serial s := (rfl)
theorem exec_lssConfigureNodeId (id : Byte) : exec (.lssConfigureNodeId id) s = execLssConfigureNodeId id s := (rfl)
theorem exec_lssConfigureBitTiming (table' index : Nat) : exec (.lssConfigureBitTiming table' index) s = execLssConfigureBitTiming table' index s := (rfl)
theorem exec_lssStoreConfiguration : exec (.lssStoreConfiguration) s = execLssStoreConfiguration s := (rfl)
theorem exec_lssInquireIdentity (k : Nat) : exec (.lssInquireIdentity k) s = execLssInquireIdentity k s := (rfl)
theorem exec_lssInquireNodeId : exec (.lssInquireNodeId) s = execLssInquireNodeId s := (rfl)
theorem exec_lssFastscan (idNumber : BitVec 32) (bitCheck lssSub lssNext : Nat) : exec (.lssFastscan idNumber bitCheck lssSub lssNext) s = execLssFastscan idNumber bitCheck lssSub lssNext s := (rfl)
theorem exec_heartbeatProduce : exec (.heartbeatProduce) s = execHeartbeatProduce s := (rfl)
theorem exec_heartbeatReceived (node : Nat) : exec (.heartbeatReceived node) s = execHeartbeatReceived node s := (rfl)
theorem exec_heartbeatLost (k : Nat) : exec (.heartbeatLost k) s = execHeartbeatLost k s := (rfl)
theorem exec_canBusOff : exec (.canBusOff) s = execCanBusOff s := (rfl)
theorem exec_canBusOffRecovery : exec (.canBusOffRecovery) s = execCanBusOffRecovery s := (rfl)
theorem exec_canErrorPassive (tec : Nat) : exec (.canErrorPassive tec) s = execCanErrorPassive tec s := (rfl)
theorem exec_canRxOverrun (lost : Nat) : exec (.canRxOverrun lost) s = execCanRxOverrun lost s := (rfl)
theorem exec_syncFrame (cobId : Nat) (counter : Option Nat) : exec (.syncFrame cobId counter) s = execSyncFrame cobId counter s := (rfl)
theorem exec_emcySend : exec (.emcySend) s = execEmcySend s := (rfl)
theorem exec_errHistClear (p : Nat) (v : Slot) : exec (.errHistClear p v) s = execErrHistClear p v s := (rfl)
theorem exec_pdoCobidWrite (p idx : Nat) (v : Slot) : exec (.pdoCobidWrite p idx v) s = execPdoCobidWrite p idx v s := (rfl)
theorem exec_tpdoEventTimer (k : Nat) : exec (.tpdoEventTimer k) s = execTpdoEventTimer k s := (rfl)
theorem exec_tpdoTransmit (k : Nat) : exec (.tpdoTransmit k) s = execTpdoTransmit k s := (rfl)
theorem exec_rpdoReceive (cobId : Nat) (data : List Byte) : exec (.rpdoReceive cobId data) s = execRpdoReceive cobId data s := (rfl)
theorem exec_rpdoTimeout (k : Nat) : exec (.rpdoTimeout k) s = execRpdoTimeout k s := (rfl)
theorem exec_usdoDownloadInitiate (idx sub size : Nat) (data : List Byte) : exec (.usdoDownloadInitiate idx sub size data) s = execUsdoDownloadInitiate idx sub size data s := (rfl)
theorem exec_usdoDownloadSegment (data : List Byte) (last : Bool) : exec (.usdoDownloadSegment data last) s = execUsdoDownloadSegment data last s := (rfl)
theorem exec_usdoUploadInitiate (idx sub : Nat) : exec (.usdoUploadInitiate idx sub) s = execUsdoUploadInitiate idx sub s := (rfl)
theorem exec_usdoUploadSegment : exec (.usdoUploadSegment) s = execUsdoUploadSegment s := (rfl)
theorem exec_usdoAbortReceived : exec (.usdoAbortReceived) s = execUsdoAbortReceived s := (rfl)
theorem exec_usdoSessionTimeout : exec (.usdoSessionTimeout) s = execUsdoSessionTimeout s := (rfl)
theorem exec_storeAll (p : Nat) (v : Slot) : exec (.storeAll p v) s = execStoreAll p v s := (rfl)
theorem exec_storeComm (p : Nat) (v : Slot) : exec (.storeComm p v) s = execStoreComm p v s := (rfl)
theorem exec_restoreDefaultsComm (p sub : Nat) (v : Slot) : exec (.restoreDefaultsComm p sub v) s = execRestoreDefaultsComm p sub v s := (rfl)
theorem exec_enterDeep (p : Nat) : exec (.enterDeep p) s = execEnterDeep p s := (rfl)
theorem exec_enterWatch (p : Nat) : exec (.enterWatch p) s = execEnterWatch p s := (rfl)
theorem exec_leaveWatch (p : Nat) : exec (.leaveWatch p) s = execLeaveWatch p s := (rfl)
theorem exec_watchEntryDone : exec (.watchEntryDone) s = execWatchEntryDone s := (rfl)
theorem exec_deepEntryDone : exec (.deepEntryDone) s = execDeepEntryDone s := (rfl)
theorem exec_wakeEdge (n : Nat) (rising : Bool) : exec (.wakeEdge n rising) s = execWakeEdge n rising s := (rfl)
theorem exec_wakeTimerExpiry : exec (.wakeTimerExpiry) s = execWakeTimerExpiry s := (rfl)
theorem exec_domainStartAdmit : exec (.domainStartAdmit) s = execDomainStartAdmit s := (rfl)
theorem exec_domainStarted (x : Nat) : exec (.domainStarted x) s = execDomainStarted x s := (rfl)
theorem exec_deepTimerExpiry : exec (.deepTimerExpiry) s = execDeepTimerExpiry s := (rfl)
theorem exec_deepTriginWake (ticks : Nat) : exec (.deepTriginWake ticks) s = execDeepTriginWake ticks s := (rfl)
theorem exec_canDominantWake (ticks : Nat) : exec (.canDominantWake ticks) s = execCanDominantWake ticks s := (rfl)
theorem exec_wakePinRelease : exec (.wakePinRelease) s = execWakePinRelease s := (rfl)
theorem exec_perstAssert : exec (.perstAssert) s = execPerstAssert s := (rfl)
theorem exec_perstDeassert (ticks : Nat) : exec (.perstDeassert ticks) s = execPerstDeassert ticks s := (rfl)
theorem exec_startComplete (rep : StartReport) : exec (.startComplete rep) s = execStartComplete rep s := (rfl)
theorem exec_bootWatchdog : exec (.bootWatchdog) s = execBootWatchdog s := (rfl)
theorem exec_mainsDipEnd (ms : Nat) : exec (.mainsDipEnd ms) s = execMainsDipEnd ms s := (rfl)
theorem exec_holdupEnd : exec (.holdupEnd) s = execHoldupEnd s := (rfl)
theorem exec_supplyShutdown : exec (.supplyShutdown) s = execSupplyShutdown s := (rfl)
theorem exec_refSelectWrite (p : Nat) (v : Slot) : exec (.refSelectWrite p v) s = execRefSelectWrite p v s := (rfl)
theorem exec_extRefLoss (offFreq : Bool) : exec (.extRefLoss offFreq) s = execExtRefLoss offFreq s := (rfl)
theorem exec_extRefValidated (mhz : Nat) : exec (.extRefValidated mhz) s = execExtRefValidated mhz s := (rfl)
theorem exec_loopLockDeclared (x loop : Nat) : exec (.loopLockDeclared x loop) s = execLoopLockDeclared x loop s := (rfl)
theorem exec_loopStandbyReady (x loop : Nat) : exec (.loopStandbyReady x loop) s = execLoopStandbyReady x loop s := (rfl)
theorem exec_loopLockLoss (x loop : Nat) : exec (.loopLockLoss x loop) s = execLoopLockLoss x loop s := (rfl)
theorem exec_loopRestart (x loop : Nat) : exec (.loopRestart x loop) s = execLoopRestart x loop s := (rfl)
theorem exec_loopLockTimeout (x loop : Nat) : exec (.loopLockTimeout x loop) s = execLoopLockTimeout x loop s := (rfl)
theorem exec_internalOscFail : exec (.internalOscFail) s = execInternalOscFail s := (rfl)
theorem exec_flitCrcFail (k lane : Nat) : exec (.flitCrcFail k lane) s = execFlitCrcFail k lane s := (rfl)
theorem exec_evalTestWindowEnd (d e : Nat) (agree checkOk : Bool) : exec (.evalTestWindowEnd d e agree checkOk) s = execEvalTestWindowEnd d e agree checkOk s := (rfl)
theorem exec_lockstepMismatch (supervisor : Bool) : exec (.lockstepMismatch supervisor) s = execLockstepMismatch supervisor s := (rfl)
theorem exec_hubRestartDone : exec (.hubRestartDone) s = execHubRestartDone s := (rfl)
theorem exec_powerPhaseFail (phase : Nat) : exec (.powerPhaseFail phase) s = execPowerPhaseFail phase s := (rfl)
theorem exec_phaseAuditWindowEnd (d : Nat) (a : AuditWindow) : exec (.phaseAuditWindowEnd d a) s = execPhaseAuditWindowEnd d a s := (rfl)
theorem exec_inputTestDue (n : Nat) : exec (.inputTestDue n) s = execInputTestDue n s := (rfl)
theorem exec_inputTestDone (failStep : Option Nat) : exec (.inputTestDone failStep) s = execInputTestDone failStep s := (rfl)
theorem exec_tarnishPolish (p : Nat) (v : Slot) : exec (.tarnishPolish p v) s = execTarnishPolish p v s := (rfl)
theorem exec_flogFlush : exec (.flogFlush) s = execFlogFlush s := (rfl)
theorem exec_capStart (p : Nat) : exec (.capStart p) s = execCapStart p s := (rfl)
theorem exec_capCancel (p : Nat) : exec (.capCancel p) s = execCapCancel p s := (rfl)
theorem exec_capBegin : exec (.capBegin) s = execCapBegin s := (rfl)
theorem exec_capEnd : exec (.capEnd) s = execCapEnd s := (rfl)
theorem exec_fwOpen (p : Nat) : exec (.fwOpen p) s = execFwOpen p s := (rfl)
theorem exec_fwVerify (p : Nat) : exec (.fwVerify p) s = execFwVerify p s := (rfl)
theorem exec_fwVerifyDone : exec (.fwVerifyDone) s = execFwVerifyDone s := (rfl)
theorem exec_fwInstall (p : Nat) : exec (.fwInstall p) s = execFwInstall p s := (rfl)
theorem exec_fwInstallDone (writeOk : Bool) : exec (.fwInstallDone writeOk) s = execFwInstallDone writeOk s := (rfl)
theorem exec_fwDiscard (p : Nat) : exec (.fwDiscard p) s = execFwDiscard p s := (rfl)
theorem exec_fwAccept (p : Nat) : exec (.fwAccept p) s = execFwAccept p s := (rfl)
theorem exec_attestCmd (p : Nat) (v : Slot) : exec (.attestCmd p v) s = execAttestCmd p v s := (rfl)
theorem exec_attestReportDone : exec (.attestReportDone) s = execAttestReportDone s := (rfl)
theorem exec_hkMonitorConversion (value : Int) : exec (.hkMonitorConversion value) s = execHkMonitorConversion value s := (rfl)
theorem exec_hkSequenceConversion (raw : BitVec 12) : exec (.hkSequenceConversion raw) s = execHkSequenceConversion raw s := (rfl)
theorem exec_hkRefSelectWrite (p : Nat) (v : Slot) : exec (.hkRefSelectWrite p v) s = execHkRefSelectWrite p v s := (rfl)
theorem exec_hkRefSettled : exec (.hkRefSettled) s = execHkRefSettled s := (rfl)
theorem exec_auxRangeWrite (p k : Nat) (v : Slot) : exec (.auxRangeWrite p k v) s = execAuxRangeWrite p k v s := (rfl)
theorem exec_auxCalZero (p k : Nat) : exec (.auxCalZero p k) s = execAuxCalZero p k s := (rfl)
theorem exec_auxCalSpan (p k : Nat) : exec (.auxCalSpan p k) s = execAuxCalSpan p k s := (rfl)
theorem exec_auxCalReset (p k : Nat) : exec (.auxCalReset p k) s = execAuxCalReset p k s := (rfl)
theorem exec_auxCalMeasureDone (rawSum : Nat) : exec (.auxCalMeasureDone rawSum) s = execAuxCalMeasureDone rawSum s := (rfl)
theorem exec_ptestCmd (p : Nat) (v : Slot) : exec (.ptestCmd p v) s = execPtestCmd p v s := (rfl)
theorem exec_sheetWrite (n : Nat) (volts : List Int) : exec (.sheetWrite n volts) s = execSheetWrite n volts s := (rfl)
theorem exec_doeDiscovery (l index : Nat) : exec (.doeDiscovery l index) s = execDoeDiscovery l index s := (rfl)
theorem exec_cdatTableAccess (l entry : Nat) : exec (.cdatTableAccess l entry) s = execCdatTableAccess l entry s := (rfl)
theorem exec_hdmDecoderCommit (l base size : Nat) : exec (.hdmDecoderCommit l base size) s = execHdmDecoderCommit l base size s := (rfl)
theorem exec_canErrorPassiveEnd : exec (.canErrorPassiveEnd) s = execCanErrorPassiveEnd s := (rfl)

end Sys2Proof.Machine
end

