-- ==== Sys2Proof/Laws/Step.lean ====
section
/-!
SUPPORT. What the passing of device time can do, and the step on an empty queue.
-/
namespace Sys2Proof.Machine

variable (s : State)

/-- Device time that does not pass a wrap (R34). -/
theorem runTo_within {t : Nat} (h : ¬ t ≤ s.now) (h' : t / 2 ^ 55 = s.now / 2 ^ 55) : s.runTo t = s.setNow t := by
  rw [State.runTo, if_neg h]
  simp only []
  rw [if_pos h']

/-- Device time that passes a wrap sets WRAPPED (R35, R57). -/
theorem runTo_wrapped {t : Nat} (h : ¬ t ≤ s.now) (h' : ¬ t / 2 ^ 55 = s.now / 2 ^ 55) :
    s.runTo t = (s.setNow t).flag 0 O.TB_STATUS 0 := by
  rw [State.runTo, if_neg h]
  simp only []
  rw [if_neg h']

theorem setNow_inv (t : Nat) (h : s.Inv) : (s.setNow t).Inv := h

theorem flag_tbStatus_inv (h : s.Inv) : (s.flag 0 O.TB_STATUS 0).Inv := by
  refine ⟨?_, h.2⟩
  have h1 := h.1
  unfold State.StewardOk State.steward State.stewardDue State.num at h1 ⊢
  simp only [State.flag_eq]
  rw [State.obj_setObj_ne _ _ _ _ _ _ (by decide), State.obj_setObj_ne _ _ _ _ _ _ (by decide)]
  exact h1

/-- Device time keeps the invariants. -/
theorem runTo_inv (t : Nat) (h : s.Inv) : (s.runTo t).Inv := by
  by_cases h1 : t ≤ s.now
  · rw [State.runTo, if_pos h1]; exact h
  · by_cases h2 : t / 2 ^ 55 = s.now / 2 ^ 55
    · rw [runTo_within s h1 h2]; exact setNow_inv s t h
    · rw [runTo_wrapped s h1 h2]; exact flag_tbStatus_inv _ (setNow_inv s t h)

/-- A core cycle keeps the invariants. -/
theorem tick_inv (h : s.Inv) : (tick s).Inv := by
  unfold tick
  split
  · exact runTo_inv s _ h
  · exact h

end Sys2Proof.Machine
end

