-- ==== Sys2Proof/Tests/Slice0.lean ====
section
/-!
SUPPORT. Tests: ill-formed terms refused; the worked examples of the specification; and, for every statement with
hypotheses, concrete states and operands that meet the hypotheses of each of its clauses together.
-/
namespace Sys2Proof.Tests
open Sys2Proof.Machine

-- The tests elaborate one after another: side by side they would take more threads than the
-- memory limit of a check has room for.
set_option Elab.async false

/-! ## States for the tests -/

/-- The state after reset. -/
abbrev tR : State := State.reset

/-- Sets objects: instance, key, value. -/
def tObj (s : State) (l : List (Nat × Nat × Nat)) : State := l.foldl (fun s q => s.setObj q.1 q.2.1 (ofN q.2.2)) s

/-- A state with one context in the given state, of owner code 16. -/
def tCtx (c : Nat) (x : Ctx) (s : State := tR) : State := { s with ctxs := kvPut s.ctxs c x }

/-- A context of owner code 16. -/
def tX (st : CtxSt) : Ctx := { owner := 16, st := st }

/-- LD 0 Enabled, with memory allocated, and its link up. -/
def tL : State := tObj { tR with lds := tR.lds.set 0 { st := .enabled, alloc := 4, mse := true, bme := true } } [(0, O.CXL_STATUS, 1)]

/-- A row of the object tables. -/
def tRow (i sub : Nat) : ObjRow := (findRow i sub).getD (obj 0 0 0 .bool .ro .any 0)

/-- The same with LD 0 named steward. -/
def tS : State := tObj tL [(0, O.STEWARD_NAMED, 0), (0, O.STEWARD_ACTIVE, 0)]

/-- A state with one die replaced. -/
def tDie (d : Nat) (x : Die) (s : State := tR) : State := { s with dies := s.dies.set d x }

/-- A state with one input replaced. -/
def tIn (n : Nat) (x : Input) (s : State := tR) : State := { s with inputs := s.inputs.set n x }

/-- An audit window that shows no fault. -/
def tA : AuditWindow :=
  { n := 64, sumS := 0, sumS2 := 0, refN := 64, refSum := 0, refSum2 := 0, sumD := 0, sumD2 := 0, span := 20, refSpan := 20
    missing := false }

/-- A context armed on trigger in, its evaluator with a rising edge of core cycle 10 to judge. -/
def tXin : Ctx :=
  { owner := 16, st := .armed, armAt := 48, evals := [0], ev := { waiting := [{ at_ := 230448, src := 8, trit := 2 }] } }

/-- The settings of trigger in, and a device time after that core cycle. -/
def tSin (x : Ctx) : State :=
  tObj { tR with counter := 600, dev := .armed, ctxs := [(1, x)] }
    [(1, O.TRIG_TYPE, 1), (1, O.TRIG_SOURCE, 8), (1, O.SEG_TABLE_SIZE, 16)]

/-- Two contexts: 0 as given and 5 Held. -/
def t0 (x : Ctx) : State :=
  { tR with dev := if x.st = .armed then .armed else .ready, ctxs := [(0, x), (5, tX .held)] }

/-- The evaluators that an Arm of context 0 binds. -/
def tB (s : State) : Binding := match s.trigArm 0 with | .inl b => b | .inr _ => ⟨[], [], []⟩

/-- An epoch of the ring of input 0 with a hundred lines. -/
def tE : Epoch :=
  { number := 0, t0 := 0, period := 480, slot := 0, lines := 16384, perLine := 48, members := [0], count := 4800, endT := 2304000 }

/-- A segment of the epoch, reached by its event. -/
def tG : Segment := { tm := 48000, pre := 10, len := 100, reached := true }

/-- The same, closed and published with SEQ 3. -/
def tH : Segment := { tG with closed := true, seq := 3, ep := some tE, first := 90, count := 100 }

/-- Input 0 writes its ring. -/
def tW (s : State) : State := tIn 0 { members := [0], ring := .writing, fresh := false, slot := 100, epochs := [tE] } s

/-- A crucible buffer of context 0. -/
def tBuf : CruBuf :=
  { ctx := 0, owner := 16, mode := 1, unit := 0, n := 64, cols := 64, rows := 1, low := 0, high := 0, place := 0, partBytes := 1024
    members := [0], parts := [[(3, 9)]], gen := 1, records := 4 }

/-- A context with a crucible. -/
def tXc (st : CruSt) : Ctx := { tX .armed with cru := { st := st, handle := some 7, active := [{ tm := 9, members := [0] }] } }

/-- Its state. -/
def tCru (st : CruSt) : State := { t0 (tXc st) with cruBufs := [(7, tBuf)] }

/-- A context whose crucible folds a record. -/
def tXr (r : CruRec) : Ctx := { tX .armed with cru := { st := .opened, handle := some 7, active := [r] } }

/-- Its state. -/
def tCruR (r : CruRec) : State := { t0 (tXr r) with cruBufs := [(7, tBuf)] }

/-- A word with its opcode, in the layout of R267. -/
def tWord (op : Nat) (w : AWord) : BitVec 128 :=
  BitVec.ofNat 128 (op * 2 ^ 120 + w.cond.toNat * 2 ^ 116 + w.dst.toNat * 2 ^ 111 + w.srcA.toNat * 2 ^ 106
    + w.srcB.toNat * 2 ^ 101 + w.target.toNat * 2 ^ 80 + w.aux.toNat * 2 ^ 64 + w.imm.toNat)

/-- A word on g5 from g3 and g4. -/
def tw (cond : Nat := 0) (imm : Nat := 7) (aux : Nat := 1) : AWord :=
  { cond := BitVec.ofNat 4 cond, dst := 5, srcA := 3, srcB := 4, target := 0x801, aux := BitVec.ofNat 16 aux, imm := BitVec.ofNat 64 imm }

/-- A record whose program, one word and the next, runs on lane 2 of die 0, with g3 and g4 as given. -/
def tr (a b : Int) : ARec :=
  { tm := 480, prog := 1, slots := 3, lanes := [(0, 2)], closed := true, started := true, seq := 3, pc := 0x800, first := 0x800
    stop := 0x802, items := [some 100, none, some (-200), some 300, some 310], regs := [(3, ofI a), (4, ofI b)] }

/-- The context of the record. -/
def tQ (r : ARec) : Ctx := { tX .armed with assays := [r, { r with tm := 960, lanes := [] }] }

/-- The state that runs it, with the word in the store. -/
def tRun (op : Nat) (w : AWord) (r : ARec) : State :=
  { t0 (tQ r) with astore := { words := [tWord op w, 0], progs := [{ num := 1, slots := 3, start := 0x800, len := 2 }] } }

/-- A microcode image of R272: program 32, one slot, the one word END. -/
def tImg : List Byte :=
  leBytes 60 (0x53415A53 + 2 ^ 32 + 2 ^ 48 + 2 ^ 64 + 9 * 2 ^ 96) ++ leBytes 4 0x847705a1
    ++ leBytes 16 (32 + 256 + 2 ^ 32 + 0x41 * 2 ^ 64) ++ leBytes 16 (0x3F * 2 ^ 120)

/-- The image stands in ASTORE_IMAGE. -/
def tAst (b : List Byte) : State := { tR with blobs := [(O.ASTORE_IMAGE, b)] }

/-- Stack 1 Active. -/
def tM : State := { tR with hbm := List.replicate 4 { st := 2 } }

/-- The half of die 2 replaced. -/
def tH2 (h : HalfCtl) : State := { tM with halves := tM.halves.set 2 h }

/-- LD 0 Enabled with its decoder committed from address 0, one writable extent at capture address 3 × 2^28 and stack 0 to 3 Active. -/
def tX0 : State :=
  { tObj { tL with lds := tL.lds.set 0 { tL.ld 0 with decoder := some (0, 2 ^ 30) } }
      [(0, O.HDM_EXT_e_l, 2 ^ 63 + 2 ^ 62 + 2 ^ 24 + 3)] with mem := [(0x30000040, 7), (0x30000041, 8), (0x30000080, 9)] }

/-- A bulk request of pseudo-channel `pc`, arrived at `t`. -/
def tMq (pc t : Nat) : MemReq := { pc := pc, arrived := t, ld := 0 }

/-- The same with the unit of capture address 0x30000040 poisoned. -/
def tX0p : State :=
  { tX0 with halves := tX0.halves.set (0x30000040 / halfBytes) { poison := [0x30000040 % halfBytes / 64] } }

/-- A data port of path 0 on an assay block or another target, `len` bytes long. -/
def tPort (x : Port) (off len : Nat) (s : State) : State :=
  tObj { s with ports := [(0, x)] } [(0, O.DP_OFFSET, off), (0, O.DP_LENGTH, len)]

/-- A context with a published assay block. -/
def tBlk : State := t0 { tX .armed with table := [{ tH with assay := (List.range 24).map fun i => BitVec.ofNat 8 (i + 1) }] }

/-- LD 0 Enabled in it. -/
def tBlkL : State := { tBlk with lds := tL.lds }

/-- Channel 2, of owner code 16, with one descriptor of 128 bytes from kind `sk` to kind `dk` on request line `req`. -/
def tCh (c : Chan) (sk dk req dst : Nat) : State :=
  tObj { tR with chans := [(2, c), (3, { owner := 5 })] }
    [(32, O.MV_SELECT, 2), (2, O.MV_DESC_i_w + 1, dst), (2, O.MV_DESC_i_w + 2, 128 + 64 * 2 ^ 48),
      (2, O.MV_DESC_i_w + 3, sk + 16 * dk + 256 * req + 0xFF * 2 ^ 24)]

/-- A channel of owner code 16. -/
def tc (st : ChanSt) : Chan := { owner := 16, st := st }

/-- Planisher 2 as given. -/
def tPl (q : Plan) (cfg : Nat := 0) : State :=
  tObj { tR with plans := [(2, q), (3, { owner := 5 })] } [(32, O.PL_SELECT, 2), (2, O.PL_CONFIG, cfg)]

/-- The raster engine in a state. -/
def tRs (st : Nat) : State := { tR with raster := { st := st, begun := decide (st ≠ 0), done := decide (st = 0) } }

/-- The raster engine on line `n` of a frame, with layer 3 as given. -/
def tRl (n : Nat) (y : Layer) : State :=
  { tR with raster := { st := 1, begun := true, done := false, line := n, layers := (List.replicate 8 {}).set 3 y } }

/-- Output 1 with a trained sink. -/
def tRo : State := { tR with raster := { outs := [{}, { present := true, trained := some (20, 4) }] } }

/-- LD 2 in a state, the link up. -/
def tLd (x : Ld) (s : State := tR) : State := tObj { s with lds := s.lds.set 2 x } [(0, O.CXL_STATUS, 1)]

/-- The field-bus port in a state, node 5. -/
def tCan (x : Can) : State := { tR with can := x }

/-- Node 5 in NMT state `st`. -/
def tN (st : NmtSt) : Can := { nmt := st, nodeId := 5, pendingId := 6, storedId := 5 }

/-- Node 5 in Operational, with all PDOs invalid but those objects set. -/
def tP (l : List (Nat × Nat × Nat)) (x : Can := tN .operational) : State :=
  tObj (tCan x) (([0, 1, 2, 3].flatMap fun k => [(0, O.TPDO_COBID + k * 256, 0x80000000), (0, O.RPDO_COBID + k * 256, 0x80000000)]) ++ l)

/-- The module in Watch. -/
def tWatch : State := { tR with dev := .watch, dies := List.replicate 8 { Die.reset with st := .retention } }

/-- The module in Deep, its domains off. -/
def tDeep : State := { tR with dev := .deep, power := { deepFrom := 4800 } }

/-- A start that runs, of a kind. -/
def tStart (kind : Nat) : State := { tR with dev := .off, starting := true, power := { startKind := kind } }

/-- A start's report without findings. -/
def tRep (bank : Nat) : StartReport := {
  bank, storeValid := true, failedDies := [], failedSlices := [], failedEvals := [], failedChecks := [], failedLanes := []
  failedPcs := [], failedLoops := [], failedInputs := [] }


/-- What holds of what an option holds. -/
theorem all_some {α : Type} {o : Option α} {P : α → Prop} [DecidablePred P] (h : o.all (fun x => decide (P x)) = true) :
    ∀ x, o = some x → P x := by
  rintro x rfl; simpa using h

/-- The same for a pair. -/
theorem all_some2 {α β : Type} {o : Option (α × β)} {P : α → β → Prop} [∀ a b, Decidable (P a b)]
    (h : o.all (fun x => decide (P x.1 x.2)) = true) : ∀ a b, o = some (a, b) → P a b := by
  rintro a b rfl; simpa using h

/-! ## Well-formed commands -/

/-- Every check of a command's form refuses a term that breaks it. -/
theorem test_ill_formed_refused :
    Instr.wf (.ctxArm 33) = false ∧ Instr.wf (.windowReadLowHalf 16 0x1000008 4) = false ∧ Instr.wf (.windowReadHighHalf 0 0x1000008 4) = false ∧
      Instr.wf (.windowReadLowHalf 0 0x100000C 4) = false ∧ Instr.wf (.getLog 16) = false ∧
      Instr.wf (.dieLost 8) = false ∧ Instr.wf (.feSettled 8) = false ∧ Instr.wf (.triggerAccept 4096) = false ∧
      Instr.wf (.objectWrite 0 0x10000 1 0) = false ∧ Instr.wf (.objectWrite 0 0x2000 256 0) = false ∧
      Instr.wf (.assayStepLimit 0 4) = false ∧ Instr.wf (.vectorRasterDone ⟨8, []⟩) = false ∧
      Instr.wf (.selfRefreshEntry 0 16) = false ∧ Instr.wf (.lssInquireIdentity 4) = false ∧
      Instr.wf (.flitCrcFail 16 0) = false ∧ Instr.wf (.plJobDone 9) = false ∧ Instr.wf (.domainStarted 0) = false ∧
      Instr.wf (.dpHotplug 2 true) = false ∧ Instr.wf (.nmtStart 128) = false ∧ Instr.wf (.syncFrame 2048 none) = false ∧
      Instr.wf (.mbDoorbellSubmit 0 0 (List.replicate 2049 0)) = false ∧
      Instr.wf (.rpdoReceive 0x200 (List.replicate 65 0)) = false ∧
      Instr.wf (.cxlmemWrite 0 0 [] ⟨List.replicate 64 0, .clean⟩) = false := by decide +kernel

/-- Terms at the ends of the ranges are well formed. -/
theorem test_well_formed_accepted :
    Instr.wf (.ctxArm 32) = true ∧ Instr.wf (.windowReadLowHalf 15 0x1000008 4) = true ∧ Instr.wf (.dieLost 7) = true ∧
      Instr.wf (.triggerAccept 4095) = true ∧ Instr.wf (.objectWrite 32 0xFFFF 255 0) = true ∧
      Instr.wf (.domainStarted 15) = true ∧ Instr.wf .mainsOn = true := by decide +kernel

/-! ## Examples of the specification -/

/-- R29 and R30, the example of the architecture chapter: thresholds −60 and +60. -/
theorem test_trits_of_example :
    ((tritsOf 0 (fun _ => (-60, 60)) []
      [(0, 0, -100), (0, 1, 10), (0, 2, 75), (0, 3, 200), (0, 4, -61), (0, 5, -60), (0, 6, 60), (0, 7, 61), (0, 8, voidCode), (0, 9, 0)]).1.map
      Prod.snd) = [0, 1, 2, 2, 0, 1, 1, 2, 2, 1] := by decide +kernel

/-- The two bytes of that example. -/
theorem test_trits_packed : packTrits [0, 1, 2, 2, 0] = 0x4B#8 ∧ packTrits [1, 1, 2, 2, 1] = 0x9D#8 := by decide +kernel

/-- R41 and R43, the example of the time chapter: sample 100 and point 20. -/
theorem test_touchmarks_of_example :
    tmOfGrains 46096000 = 0x02EE42A0#64 ∧ tmOfGrains 46096320 = 0x02EE4400#64 ∧ tmOfGrains 480000300 = 0x1E84812C#64 := by
  decide +kernel

/-- R53, the second example of the time chapter. -/
theorem test_time_frame :
    Answers (.timeFrame 0x100 15000 43200000)
      (tObj { tR with can := { nmt := .operational } } [(0, O.COB_ID_TIME, 0x80000100), (0, O.EPOCH_SOURCE, 2)])
      fun t => t.get O.EPOCH_NS = 1737806400000000000#64 := ⟨_, rfl, by decide +kernel⟩

/-- R60, the example of the front-end chapter: range 3, offset +500,000 µV. -/
theorem test_codes_of_example :
    codeOf 3 500000 620000000 = 360 ∧ codeOf 3 500000 668000000 = 504 ∧ codeOf 3 500000 700000000 = 511 ∧
      codeOf 3 500000 310000000 = -511 := by decide +kernel

/-- R84, the second example of that chapter: die 5 of an alloy of eight is lost. -/
theorem test_regroup_window :
    (tIn 0 { members := [0, 1, 2, 3, 4, 5, 6, 7] }).regroupWindow 0 5 = some [6, 7, 0, 1, 2, 3] := by decide +kernel

/-- R104, the example of the calibration chapter. -/
theorem test_trims_of_example :
    trimOf { slice := 23, offset := -900, gain := -300, skew := 3100 } = some { offset := 135, gain := 143, skew := 500 } := by
  decide +kernel

/-- R281, the example of the memory chapter: capture address and physical bank with the default masks. -/
theorem test_capture_address : capAddr 1 0x1FFFFFDC0 = 0x4FFFFFDC0 ∧ physBank (fun k => fld (tR.get O.HASH_ACTIVE) (16 * k) 14) 0x7FFFFF7 = 0 := by decide +kernel

/-- R267, word 0x802 of the second example of the assay chapter. -/
theorem test_word_of_example :
    wordFields 0x09018440000000000000000000000000#128 =
      (0x09, { cond := 0, dst := 3, srcA := 1, srcB := 2, target := 0, aux := 0, imm := 0 }) := by decide +kernel

/-- R582 and R584, the example of the housekeeping chapter. -/
theorem test_aux_calibration :
    (tObj tR [(0, O.AUX_CFG_k + 2, 1), (0, O.AUX_CAL_UV_k + 2, 9000000)]).auxSpan 2 198 58744 = .inl 0x80F400C6 ∧
      corrected 0x80F400C6 32724 = 32768 := by decide +kernel

/-- R446: LD 0 claims input 3 and then a second claim by path 32 aborts. -/
theorem test_claim :
    Answers (.inputClaim 0 3) tL fun t => t.claimant 3 = 0 ∧ t.subscribed 3 0 = true ∧
      Answers (.inputClaim 32 3) t fun u => u.claimant 3 = 0 ∧ bit (u.obj 32 O.PATH_STATUS) 0 = true :=
  ⟨_, rfl, by decide +kernel, by decide +kernel, _, rfl, by decide +kernel⟩

/-- R34: device time passes by a core cycle when no command waits (log 17). -/
theorem test_tick : (tick tR).now = 48 := by decide +kernel

/-! ## The hypotheses of the statements can be met -/

/-- The hypotheses of O2 can be met, clause by clause. -/
theorem witness_StepIdles :
    (∃ (s : State), s.pending = []) :=
  ⟨tR, by decide +kernel⟩

/-- The hypotheses of O4 can be met, clause by clause. -/
theorem witness_InvKept :
    (∃ (s : State) (t : State), s.Inv ∧ step s = .next t) :=
  ⟨tR, tick tR, ⟨by decide +kernel, rfl⟩⟩

/-- The hypotheses of O6 can be met, clause by clause. -/
theorem witness_ResetValues :
    (∃ (p : Nat) (k : Nat), p < 33 ∧ isPathObj k = true) ∧
    (∃ (n : Nat), n < 8) :=
  ⟨⟨32, 0x200301, by decide +kernel⟩,
   ⟨0, by decide +kernel⟩⟩

/-- The hypotheses of O7 can be met, clause by clause. -/
theorem witness_DeviceTime :
    (∃ (s : State) (d : Nat) (t : Nat), (s.die d).counterFrom = some t ∧ t % 48 = 0 ∧ t ≤ s.now) ∧
    (∃ (s : State) (p : Nat) (v : Slot), Served s p ∧ ownerOf p = s.steward ∧ v.toNat ≤ 2) ∧
    (∃ (s : State) (p : Nat), Served s p ∧ ownerOf p ≠ s.steward) ∧
    (∃ (s : State) (p : Nat) (v : Slot), Served s p ∧ ownerOf p = s.steward ∧ 2 < v.toNat) ∧
    (∃ (s : State) (id : Nat), s.canServes = true ∧ bit (s.get O.COB_ID_TIME) 31 = true ∧ fld (s.get O.COB_ID_TIME) 0 29 = id ∧ s.num O.EPOCH_SOURCE = 2) ∧
    (∃ (s : State) (id : Nat), (bit (s.get O.COB_ID_TIME) 31 = false ∨ fld (s.get O.COB_ID_TIME) 0 29 ≠ id ∨ s.num O.EPOCH_SOURCE ≠ 2)) :=
  ⟨⟨tR, 0, 0, by decide +kernel⟩,
   ⟨tObj tR [(0, O.EPOCH_SOURCE, 1)], 32, 2, by decide +kernel⟩,
   ⟨tL, 0, by decide +kernel⟩,
   ⟨tR, 32, 3, by decide +kernel⟩,
   ⟨tObj { tR with can := { nmt := .operational } } [(0, O.COB_ID_TIME, 0x80000100), (0, O.EPOCH_SOURCE, 2)], 0x100, by decide +kernel⟩,
   ⟨tR, 0x100, by decide +kernel⟩⟩

/-- The hypotheses of O8 can be met, clause by clause. -/
theorem witness_PathsNotServed :
    (∃ (i : Instr) (p : Nat) (s : State), accessPath i = some p ∧ s.serves p = false) ∧
    (∃ (s : State) (p : Nat), s.serves p = true ∧ s.hubRestart = true) ∧
    (∃ (s : State) (p : Nat), s.serves p = true ∧ s.hubRestart = true) ∧
    (∃ (s : State) (p : Nat) (t₀ : Nat), let u : State := { s.runTo (t₀ + 48) with servedAt := none }; s.commits = [] ∧ s.servedAt = some t₀ ∧ t₀ % 48 = 0 ∧ s.cycle ≤ t₀ ∧ s.serves p = true ∧ s.hubRestart = false ∧ u.serves p = true) :=
  ⟨⟨.ctxClaim 3, 3, tR, by decide +kernel⟩,
   ⟨{ tR with hubRestart := true }, 32, by decide +kernel⟩,
   ⟨{ tR with hubRestart := true }, 32, by decide +kernel⟩,
   ⟨{ tR with servedAt := some 0 }, 32, 0, by dsimp only; decide +kernel⟩⟩

/-- The hypotheses of O9 can be met, clause by clause. -/
theorem witness_WriteCheckOrder :
    (∃ (s : State) (p : Nat) (i : Nat) (sub : Nat) (a : Abort), Served s p ∧ s.absent i sub = some a) ∧
    (∃ (s : State) (p : Nat) (i : Nat) (sub : Nat) (r : ObjRow), Served s p ∧ s.absent i sub = none ∧ findRow i sub = some r ∧ r.writable = false) ∧
    (∃ (s : State) (p : Nat) (i : Nat) (sub : Nat) (v : Slot) (r : ObjRow), Served s p ∧ s.absent i sub = none ∧ findRow i sub = some r ∧ r.writable = true ∧ ownWrite s p (s.selected p) i sub v = none ∧ s.admits p (s.selected p) i sub r = false) ∧
    (∃ (s : State) (p : Nat) (i : Nat) (sub : Nat) (v : Slot) (r : ObjRow), Served s p ∧ s.absent i sub = none ∧ findRow i sub = some r ∧ r.writable = true ∧ ownWrite s p (s.selected p) i sub v = none ∧ s.admits p (s.selected p) i sub r = true ∧ r.ty.isBlob = true) ∧
    (∃ (s : State) (p : Nat) (i : Nat) (sub : Nat) (v : Slot) (r : ObjRow), Served s p ∧ s.absent i sub = none ∧ findRow i sub = some r ∧ r.writable = true ∧ ownWrite s p (s.selected p) i sub v = none ∧ s.admits p (s.selected p) i sub r = true ∧ r.ty.isBlob = false ∧ (s.valueOk r i sub v = false ∨ s.pathRange p (s.selected p) (normIdx i * 256 + sub) v = false)) ∧
    (∃ (s : State) (p : Nat) (i : Nat) (sub : Nat) (v : Slot) (r : ObjRow), Served s p ∧ s.absent i sub = none ∧ findRow i sub = some r ∧ r.writable = true ∧ ownWrite s p (s.selected p) i sub v = none ∧ s.admits p (s.selected p) i sub r = true ∧ r.ty.isBlob = false ∧ s.valueOk r i sub v = true ∧ s.pathRange p (s.selected p) (normIdx i * 256 + sub) v = true ∧ s.writableNow p (s.selected p) i sub = false) :=
  ⟨⟨tR, 32, 0x2001, 0xFE, .noSubindex, by decide +kernel⟩,
   ⟨tR, 32, 0x2001, 1, tRow 0x2001 1, by decide +kernel⟩,
   ⟨tObj tR [(0, O.CLAIM_OWNER_n, 3)], 32, 0x3001, 1, 0, tRow 0x3001 1, by decide +kernel⟩,
   ⟨tR, 32, 0x44F0, 2, 0, tRow 0x44F0 2, by decide +kernel⟩,
   ⟨tR, 32, 0x41F1, 1, 0, tRow 0x41F1 1, by decide +kernel⟩,
   ⟨tR, 32, 0x2201, 2, 0, tRow 0x2201 2, by decide +kernel⟩⟩

/-- The hypotheses of O10 can be met, clause by clause. -/
theorem witness_WriteStores :
    (∃ (s : State) (p : Nat) (i : Nat) (sub : Nat) (v : Slot) (r : ObjRow), Served s p ∧ sub < 256 ∧ s.absent i sub = none ∧ findRow i sub = some r ∧ r.writable = true ∧ ownWrite s p (s.selected p) i sub v = none ∧ s.admits p (s.selected p) i sub r = true ∧ r.ty.isBlob = false ∧ s.valueOk r i sub v = true ∧ s.pathRange p (s.selected p) (normIdx i * 256 + sub) v = true ∧ s.writableNow p (s.selected p) i sub = true ∧ (i * 256 + sub ∈ [O.CXL_STATUS, O.FB_FLAGS] → s.Inv) ∧ r.acc = .rwp) ∧
    (∃ (s : State) (p : Nat) (i : Nat) (sub : Nat) (v : Slot) (r : ObjRow), Served s p ∧ sub < 256 ∧ s.absent i sub = none ∧ findRow i sub = some r ∧ r.writable = true ∧ ownWrite s p (s.selected p) i sub v = none ∧ s.admits p (s.selected p) i sub r = true ∧ r.ty.isBlob = false ∧ s.valueOk r i sub v = true ∧ s.pathRange p (s.selected p) (normIdx i * 256 + sub) v = true ∧ s.writableNow p (s.selected p) i sub = true ∧ (i * 256 + sub ∈ [O.CXL_STATUS, O.FB_FLAGS] → s.Inv) ∧ r.acc ≠ .rwp ∧ r.shadow = true) ∧
    (∃ (s : State) (p : Nat) (i : Nat) (sub : Nat) (v : Slot) (r : ObjRow), Served s p ∧ sub < 256 ∧ s.absent i sub = none ∧ findRow i sub = some r ∧ r.writable = true ∧ ownWrite s p (s.selected p) i sub v = none ∧ s.admits p (s.selected p) i sub r = true ∧ r.ty.isBlob = false ∧ s.valueOk r i sub v = true ∧ s.pathRange p (s.selected p) (normIdx i * 256 + sub) v = true ∧ s.writableNow p (s.selected p) i sub = true ∧ (i * 256 + sub ∈ [O.CXL_STATUS, O.FB_FLAGS] → s.Inv) ∧ r.acc ≠ .rwp ∧ r.shadow = false) :=
  ⟨⟨tObj tR [(0, O.TB_STATUS, 7)], 32, 0x2200, 3, 1, tRow 0x2200 3, by decide +kernel⟩,
   ⟨tObj tR [(0, O.EPOCH_SOURCE, 1)], 32, 0x2201, 4, 77, tRow 0x2201 4, by decide +kernel⟩,
   ⟨tR, 32, 0x41F1, 1, 200, tRow 0x41F1 1, by decide +kernel⟩⟩

/-- The hypotheses of O11 can be met, clause by clause. -/
theorem witness_Reads :
    (∃ (s : State) (p : Nat) (i : Nat) (sub : Nat) (v : Slot), Served s p ∧ i * 256 + sub ≠ O.DP_DATA ∧ i * 256 + sub ≠ O.CDP_DATA ∧ (s.path p).companions = [] ∧ s.readScalar p (s.selected p) i sub = .ok v) ∧
    (∃ (s : State) (p : Nat) (i : Nat) (sub : Nat) (v : Slot), Served s p ∧ i * 256 + sub ≠ O.DP_DATA ∧ i * 256 + sub ≠ O.CDP_DATA ∧ (s.path p).companions = [] ∧ s.readScalar p (s.selected p) i sub = .ok v ∧ p < 16 ∧ isWide i sub = true ∧ i < 2 ^ 15 ∧ sub < 256) ∧
    (∃ (s : State) (p : Nat) (i : Nat) (sub : Nat) (v : Slot), Served s p ∧ i * 256 + sub ≠ O.DP_DATA ∧ i * 256 + sub ≠ O.CDP_DATA ∧ (s.path p).companions = [] ∧ s.readScalar p (s.selected p) i sub = .ok v ∧ p < 16 ∧ isWide i sub = true ∧ i < 2 ^ 15 ∧ sub < 256 ∧ s.absent i sub = none ∧ (∀ k w, (s.path p).snapshot = some (k, w) → k ≠ i * 256 + sub)) ∧
    (∃ (s : State) (p : Nat) (i : Nat) (sub : Nat) (v : Slot), Served s p ∧ p < 16 ∧ isWide i sub = true ∧ i < 2 ^ 15 ∧ sub < 256 ∧ s.absent i sub = none ∧ (s.path p).snapshot = some (i * 256 + sub, v)) ∧
    (∃ (s : State) (p : Nat) (i : Nat) (sub : Nat) (a : Abort), Served s p ∧ i * 256 + sub ≠ O.DP_DATA ∧ i * 256 + sub ≠ O.CDP_DATA ∧ s.readScalar p (s.selected p) i sub = .error a) ∧
    (∃ (s : State) (p : Nat) (off : Nat) (n : Nat) (v : Slot) (c : Instr), p < 16 ∧ s.serves p = true ∧ winOk off n = false ∧ c ∈ [Instr.windowReadLowHalf p off n, .windowReadHighHalf p off n, .windowWriteLowHalf p off n v, .windowWriteHighHalf p off n v]) :=
  ⟨⟨tR, 32, 0x2001, 1, 3, by decide +kernel⟩,
   ⟨tL, 0, 0x2002, 3, 0, by decide +kernel⟩,
   ⟨tL.setPath 0 { snapshot := some (O.DEVICE_STATE_TM, 5) }, 0, 0x2002, 3, 0, by and_intros <;> first | decide +kernel | exact all_some (by decide +kernel) | exact all_some2 (by decide +kernel) | rfl⟩,
   ⟨tL.setPath 0 { snapshot := some (0x200203, 0x123456789A) }, 0, 0x2002, 3, 0x123456789A, by decide +kernel⟩,
   ⟨tR, 32, 0x2001, 0xFE, .noSubindex, by decide +kernel⟩,
   ⟨tL, 0, 3, 4, 0, .windowReadLowHalf 0 3 4, by decide +kernel⟩⟩

/-- The hypotheses of O12 can be met, clause by clause. -/
theorem witness_HalfWrites :
    (∃ (s : State) (p : Nat) (i : Nat) (sub : Nat) (a : Abort), Served s p ∧ p < 16 ∧ isWide i sub = true ∧ i < 2 ^ 15 ∧ sub < 256 ∧ s.stageErr p (s.selected p) i sub = some a) ∧
    (∃ (s : State) (p : Nat) (i : Nat) (sub : Nat), Served s p ∧ p < 16 ∧ isWide i sub = true ∧ i < 2 ^ 15 ∧ sub < 256 ∧ s.stageErr p (s.selected p) i sub = none) ∧
    (∃ (s : State) (p : Nat) (i : Nat) (sub : Nat) (lo : BitVec 32), Served s p ∧ p < 16 ∧ isWide i sub = true ∧ i < 2 ^ 15 ∧ sub < 256 ∧ s.stageErr p (s.selected p) i sub = none ∧ (s.path p).stage = some (i * 256 + sub, lo)) ∧
    (∃ (s : State) (p : Nat) (i : Nat) (sub : Nat) (v : BitVec 32) (lo : BitVec 32) (a : Abort), let u := (takeTurn s).setPath p { s.path p with stage := none }; Served s p ∧ p < 16 ∧ isWide i sub = true ∧ i < 2 ^ 15 ∧ sub < 256 ∧ s.stageErr p (s.selected p) i sub = none ∧ (s.path p).stage = some (i * 256 + sub, lo) ∧ ownWrite u p (u.selected p) i sub (v ++ lo) = none ∧ (writeObj u p (u.selected p) i sub (v ++ lo)).2 = some a) ∧
    (∃ (s : State) (p : Nat) (i : Nat) (sub : Nat), Served s p ∧ p < 16 ∧ isWide i sub = true ∧ i < 2 ^ 15 ∧ sub < 256 ∧ s.stageErr p (s.selected p) i sub = none ∧ (∀ k lo, (s.path p).stage = some (k, lo) → k ≠ i * 256 + sub)) :=
  ⟨⟨tL, 0, 0x2002, 3, .notWritable, by decide +kernel⟩,
   ⟨tS.setPath 0 { stage := some (5, 6) }, 0, 0x2201, 4, by decide +kernel⟩,
   ⟨tS.setPath 0 { stage := some (0x220104, 0x77) }, 0, 0x2201, 4, 0x77, by decide +kernel⟩,
   ⟨tS.setPath 0 { stage := some (0x250005, 0x77) }, 0, 0x2500, 5, 1, 0x77, .range, by dsimp only; decide +kernel⟩,
   ⟨tS.setPath 0 { stage := some (5, 6) }, 0, 0x2201, 4, by and_intros <;> first | decide +kernel | exact all_some (by decide +kernel) | exact all_some2 (by decide +kernel) | rfl⟩⟩

/-- The hypotheses of O13 can be met, clause by clause. -/
theorem witness_MailboxRequests :
    (∃ (s : State) (l : Nat), l < 16 ∧ s.serves (16 + l) = true ∧ (s.mailbox l).busy = false) ∧
    (∃ (s : State) (l : Nat), (s.mailbox l).busy = true) ∧
    (∃ (s : State) (l : Nat) (i : Nat) (sub : Nat) (v : Slot) (r : ObjRow), l < 16 ∧ Served s (16 + l) ∧ (s.mailbox l).busy = true ∧ fld (s.mailbox l).request 56 8 = 1 ∧ fld (s.mailbox l).request 40 16 = i ∧ fld (s.mailbox l).request 32 8 = sub ∧ i * 256 + sub ≠ O.DP_DATA ∧ i * 256 + sub ≠ O.CDP_DATA ∧ s.absent i sub = none ∧ findRow i sub = some r ∧ r.ty.isBlob = false ∧ (s.path (16 + l)).companions = [] ∧ s.readScalar (16 + l) (s.selected (16 + l)) i sub = .ok v) ∧
    (∃ (s : State) (u : State) (l : Nat) (i : Nat) (sub : Nat) (r : ObjRow), l < 16 ∧ Served s (16 + l) ∧ (s.mailbox l).busy = true ∧ fld (s.mailbox l).request 56 8 = 2 ∧ fld (s.mailbox l).request 40 16 = i ∧ fld (s.mailbox l).request 32 8 = sub ∧ fld (s.mailbox l).request 0 12 = 8 ∧ 8 ≤ (s.mailbox l).data.length ∧ s.stageErr (16 + l) (s.selected (16 + l)) i sub = none ∧ findRow i sub = some r ∧ r.ty.isBlob = false ∧ writeObj (takeTurn s) (16 + l) (s.selected (16 + l)) i sub (ofN (leNat ((s.mailbox l).data.take 8))) = (u, none)) ∧
    (∃ (s : State) (l : Nat), l < 16 ∧ Served s (16 + l) ∧ (s.mailbox l).busy = true ∧ fld (s.mailbox l).request 56 8 ∉ [1, 2]) :=
  ⟨⟨tL, 0, by decide +kernel⟩,
   ⟨{ tL with mailboxes := [(0, { busy := true })] }, 0, by decide +kernel⟩,
   ⟨{ tL with mailboxes := [(0, { busy := true, request := 0x0120010100000000 })] }, 0, 0x2001, 1, 3, tRow 0x2001 1, by decide +kernel⟩,
   ⟨{ tL with mailboxes := [(0, { busy := true, request := 0x0220030600000008, data := [1, 0, 0, 0, 0, 0, 0, 0] })] }, (writeObj (takeTurn { tL with mailboxes := [(0, { busy := true, request := 0x0220030600000008, data := [1, 0, 0, 0, 0, 0, 0, 0] })] }) 16 0 0x2003 6 1).1, 0, 0x2003, 6, tRow 0x2003 6, by and_intros <;> first | decide +kernel | exact all_some (by decide +kernel) | exact all_some2 (by decide +kernel) | rfl⟩,
   ⟨{ tL with mailboxes := [(0, { busy := true, request := 0x0520030600000008 })] }, 0, by decide +kernel⟩⟩

/-- The hypotheses of O14 can be met, clause by clause. -/
theorem witness_Commits :
    (∃ (s : State) (p : Nat) (v : Slot), Served s p ∧ v.toNat < 256 ∧ v ≠ 1) ∧
    (∃ (s : State) (p : Nat), Served s p ∧ (∀ c ∈ s.commits, c.owner ≠ ownerOf p) ∧ (∃ h ∈ s.shadows, h.owner = ownerOf p ∧ isLayerKey h.key = false)) ∧
    (∃ (s : State) (p : Nat), Served s p ∧ (∀ c ∈ s.commits, c.owner ≠ ownerOf p) ∧ (∀ h ∈ s.shadows, h.owner = ownerOf p → isLayerKey h.key = true)) ∧
    (∃ (s : State) (p : Nat) (c : Commit), Served s p ∧ c ∈ s.commits ∧ c.owner = ownerOf p) :=
  ⟨⟨tR, 32, 2, by decide +kernel⟩,
   ⟨{ tR with shadows := [{ key := 0x220104, value := 5, owner := 16, written := 0 }] }, 32, by decide +kernel⟩,
   ⟨tObj tR [(0, O.DICT_GEN, 9)], 32, by decide +kernel⟩,
   ⟨{ tR with commits := [{ owner := 16, due := 192, paths := [16] }] }, 32, { owner := 16, due := 192, paths := [16] }, by decide +kernel⟩⟩

/-- The hypotheses of O15 can be met, clause by clause. -/
theorem witness_HandOvers :
    (∃ (s : State) (hc : Nat), (s.commits.map Commit.due).min? = some hc ∧ (s.shadows.map Shadow.key).Nodup ∧ (∀ h ∈ s.shadows, ∃ r, findRow (keyIdx h.key) (h.key % 256) = some r ∧ r.shadow = true)) :=
  ⟨{ tR with commits := [{ owner := 16, due := 192, paths := [16, 32] }, { owner := 3, due := 288, paths := [3] }], shadows := [{ key := 0x220104, value := 5, owner := 16, written := 10 }, { key := 0x220103, value := 6, owner := 3, written := 10 }, { key := 0x220102, value := 7, owner := 16, written := 192 }] }, 192, by decide +kernel⟩

/-- The hypotheses of O16 can be met, clause by clause. -/
theorem witness_StoredSet :
    (∃ (s : State) (p : Nat), Served s p ∧ ownerOf p = s.steward ∧ s.storeBusy = false) ∧
    (∃ (s : State) (p : Nat) (v : Slot), Served s p ∧ ownerOf p = s.steward ∧ v ≠ 0x65766173) ∧
    (∃ (s : State) (p : Nat) (v : Slot), Served s p ∧ ownerOf p = s.steward ∧ v ≠ 0x64616F6C) ∧
    (∃ (s : State) (p : Nat), Served s p ∧ ownerOf p = s.steward ∧ s.storeBusy = true) ∧
    (∃ (s : State) (c : List (Nat × Slot)), s.storeCopy = some c) :=
  ⟨⟨tR, 32, by decide +kernel⟩,
   ⟨tR, 32, 5, by decide +kernel⟩,
   ⟨tR, 32, 6, by decide +kernel⟩,
   ⟨tObj { tR with storeCopy := some [(5, 6)] } [(0, O.DEVICE_STATUS, 0x40)], 32, by decide +kernel⟩,
   ⟨tObj { tR with storeCopy := some [(5, 6)], stored := some [], storeMarked := true } [(0, O.DEVICE_STATUS, 0x40)], [(5, 6)], by decide +kernel⟩⟩

/-- The hypotheses of O17 can be met, clause by clause. -/
theorem witness_FrontEnds :
    (∃ (s : State) (p : Nat) (n : Nat) (sub : Nat) (v : Slot), Served s p ∧ n < s.D ∧ n < s.inputs.length ∧ 1 ≤ sub ∧ sub ≤ 3 ∧ ownerOf p = s.claimant n ∧ feRangeOk sub v = true ∧ s.busyInput n = false ∧ (s.input n).st ≠ .absorbed ∧ (s.input n).st ≠ .regrouping) ∧
    (∃ (s : State) (p : Nat) (n : Nat) (sub : Nat) (v : Slot), Served s p ∧ n < s.D ∧ n < s.inputs.length ∧ 1 ≤ sub ∧ sub ≤ 3 ∧ ownerOf p = s.claimant n ∧ feRangeOk sub v = true ∧ (s.busyInput n = true ∨ (s.input n).st = .absorbed ∨ (s.input n).st = .regrouping)) ∧
    (∃ (s : State) (p : Nat) (n : Nat) (sub : Nat), Served s p ∧ 1 ≤ sub ∧ sub ≤ 3 ∧ n < s.D ∧ ownerOf p ≠ s.claimant n) ∧
    (∃ (s : State) (p : Nat) (n : Nat) (sub : Nat) (v : Slot), Served s p ∧ 1 ≤ sub ∧ sub ≤ 3 ∧ n < s.D ∧ ownerOf p = s.claimant n ∧ feRangeOk sub v = false) ∧
    (∃ (s : State) (p : Nat) (n : Nat) (sub : Nat), Served s p ∧ 1 ≤ sub ∧ sub ≤ 3 ∧ s.D ≤ n ∧ n < 8) ∧
    (∃ (s : State) (n : Nat), n < s.D ∧ n < s.inputs.length ∧ (s.input n).settling.isSome = true) :=
  ⟨⟨tObj tR [(0, O.CLAIM_OWNER_n + 2, 16)], 32, 2, 1, 3, by decide +kernel⟩,
   ⟨tObj { tR with inputs := tR.inputs.set 2 { members := [2], st := .absorbed, host := some 1 } } [(0, O.CLAIM_OWNER_n + 2, 16)], 32, 2, 2, 0, by decide +kernel⟩,
   ⟨tR, 32, 2, 1, by decide +kernel⟩,
   ⟨tObj tR [(0, O.CLAIM_OWNER_n + 2, 16)], 32, 2, 3, 99, by decide +kernel⟩,
   ⟨{ tR with variant := .sz4 }, 32, 4, 2, by decide +kernel⟩,
   ⟨tObj { tR with inputs := tR.inputs.set 2 { members := [2], settling := some 50 } } [(0, 0x320001, 3)], 2, by decide +kernel⟩⟩

/-- The hypotheses of O18 can be met, clause by clause. -/
theorem witness_Overloads :
    (∃ (s : State) (n : Nat), n < s.D ∧ (s.dev = .watch ∨ s.dev = .ready ∨ s.dev = .armed)) ∧
    (∃ (s : State) (src : Nat) (unit : Nat), s.awake = true ∧ (src = 2 ∨ (src < 2 ∧ unit < s.D) ∨ (src = 0 ∧ (unit = 8 ∨ unit = 9)))) ∧
    (∃ (s : State), s.awake = false ∧ (s.starting = true ∨ s.dev = .deep)) :=
  ⟨⟨tR, 2, by decide +kernel⟩,
   ⟨tR, 1, 3, by decide +kernel⟩,
   ⟨tDeep, by decide +kernel⟩⟩

/-- The hypotheses of O19 can be met, clause by clause. -/
theorem witness_AlloyCommits :
    (∃ (s : State) (p : Nat) (n : Nat), let f := s.num (0x301001 + n * 0x10000); let m := s.num (0x301002 + n * 0x10000); Served s p ∧ n < s.D ∧ s.inputs.length = 8 ∧ s.dies.length = 8 ∧ ownerOf p = s.claimant n ∧ firstErr 1 (s.alloyErrs p n f m) = none) ∧
    (∃ (s : State) (p : Nat) (n : Nat) (e : Nat) (a : Abort), let f := s.num (0x301001 + n * 0x10000); let m := s.num (0x301002 + n * 0x10000); Served s p ∧ n < s.D ∧ s.inputs.length = 8 ∧ s.dies.length = 8 ∧ ownerOf p = s.claimant n ∧ firstErr 1 (s.alloyErrs p n f m) = some (e, a)) ∧
    (∃ (s : State) (p : Nat) (n : Nat) (v : Slot), Served s p ∧ n < s.D ∧ s.inputs.length = 8 ∧ s.dies.length = 8 ∧ ownerOf p = s.claimant n ∧ v.toNat < 256 ∧ v ≠ 1) ∧
    (∃ (s : State) (n : Nat) (ms : List Nat) (g : Bool), n < s.inputs.length ∧ (s.input n).st = .changing ∧ (s.input n).next = some (ms, g)) :=
  ⟨⟨tObj tR [(0, 0x321001, 2), (0, 0x321002, 2), (0, O.CLAIM_OWNER_n + 2, 16)], 32, 2, by dsimp only; decide +kernel⟩,
   ⟨tObj tR [(0, 0x321001, 2), (0, 0x321002, 9), (0, O.CLAIM_OWNER_n + 2, 16)], 32, 2, 1, .range, by dsimp only; decide +kernel⟩,
   ⟨tObj tR [(0, O.CLAIM_OWNER_n + 2, 16)], 32, 2, 3, by decide +kernel⟩,
   ⟨tIn 2 { members := [2], st := .changing, next := some ([2, 3], false) } (tIn 3 { members := [2], st := .absorbed, host := some 2 }), 2, [2, 3], false, by decide +kernel⟩⟩

/-- The hypotheses of O20 can be met, clause by clause. -/
theorem witness_DieLosses :
    (∃ (s : State) (d : Nat), d < s.D ∧ s.dies.length = 8 ∧ ((s.die d).st = .active ∨ (s.die d).st = .reserve ∨ (s.die d).st = .retention) ∧ s.restarting = false) ∧
    (∃ (s : State) (d : Nat), d < s.D ∧ s.dies.length = 8 ∧ ((s.die d).st = .active ∨ (s.die d).st = .reserve ∨ (s.die d).st = .retention) ∧ s.restarting = true) ∧
    (∃ (s : State) (d : Nat) (n : Nat), d < s.D ∧ s.dies.length = 8 ∧ s.inputs.length = 8 ∧ (s.die d).st = .active ∧ s.restarting = false ∧ s.servedBy d = some n ∧ (s.input n).st = .single) ∧
    (∃ (s : State) (d : Nat) (n : Nat), d < s.D ∧ s.dies.length = 8 ∧ s.inputs.length = 8 ∧ (s.die d).st = .active ∧ s.restarting = false ∧ s.servedBy d = some n ∧ (s.input n).st = .alloyed ∧ (s.input n).members ≠ [d] ∧ s.num O.REGROUP_ENABLE = 0) ∧
    (∃ (s : State) (d : Nat) (n : Nat) (w : List Nat), d < s.D ∧ s.dies.length = 8 ∧ s.inputs.length = 8 ∧ (s.die d).st = .active ∧ s.restarting = false ∧ s.servedBy d = some n ∧ (s.input n).st = .alloyed ∧ (s.input n).members ≠ [d] ∧ s.num O.REGROUP_ENABLE ≠ 0 ∧ (s.setDie d { s.die d with st := .lost }).regroupWindow n d = some w) ∧
    (∃ (s : State) (n : Nat) (ms : List Nat) (g : Bool), n < s.inputs.length ∧ n < s.D ∧ (s.input n).st = .regrouping ∧ (s.input n).next = some (ms, g)) :=
  ⟨⟨tIn 2 { members := [2, 3], st := .alloyed } (tIn 3 { members := [2], st := .absorbed, host := some 2 }), 3, by decide +kernel⟩,
   ⟨{ tR with supRestart := true }, 3, by decide +kernel⟩,
   ⟨tR, 3, 3, by decide +kernel⟩,
   ⟨tObj (tIn 2 { members := [2, 3], st := .alloyed } (tIn 3 { members := [2], st := .absorbed, host := some 2 })) [(0, O.REGROUP_ENABLE, 0)], 3, 2, by decide +kernel⟩,
   ⟨tIn 2 { members := [2, 3], st := .alloyed } (tIn 3 { members := [2], st := .absorbed, host := some 2 }), 3, 2, [2], by decide +kernel⟩,
   ⟨tIn 2 { members := [2, 3], st := .regrouping, next := some ([2], true) } (tIn 3 { members := [2], st := .absorbed, host := some 2 }), 2, [2], true, by decide +kernel⟩⟩

/-- The hypotheses of O21 can be met, clause by clause. -/
theorem witness_CalPass :
    (∃ (s : State) (p : Nat), Served s p ∧ ownerOf p ≠ s.steward) ∧
    (∃ (s : State) (p : Nat) (v : Slot), Served s p ∧ ownerOf p = s.steward ∧ (fld v 0 8 = 0 ∨ 2 ^ s.D ≤ fld v 0 8 ∨ 2 ^ 32 ≤ v.toNat)) ∧
    (∃ (s : State) (p : Nat) (v : Slot), Served s p ∧ ownerOf p = s.steward ∧ v.toNat < 2 ^ 32 ∧ fld v 0 8 ≠ 0 ∧ fld v 0 8 < 2 ^ s.D ∧ s.running = true ∧ (s.cal.st = .idle ∨ s.cal.st = .pending)) ∧
    (∃ (s : State) (p : Nat) (v : Slot), Served s p ∧ ownerOf p = s.steward ∧ v.toNat < 2 ^ 32 ∧ fld v 0 8 ≠ 0 ∧ fld v 0 8 < 2 ^ s.D ∧ (s.running = false ∨ s.cal.st = .measuring ∨ s.cal.st = .ramping)) ∧
    (∃ (s : State) (d : Nat), d < s.D ∧ d < s.dies.length ∧ (s.die d).autoPass = true ∧ s.running = true ∧ (s.cal.st = .idle ∨ s.cal.st = .pending)) ∧
    (∃ (s : State) (d : Nat) (m : SliceMeasure) (tr : Trim), d < s.D ∧ d < s.dies.length ∧ (s.die d).measuring = true ∧ (s.die d).calQueue.head? = some m.slice ∧ trimOf m = some tr) ∧
    (∃ (s : State) (d : Nat) (m : SliceMeasure), d < s.D ∧ d < s.dies.length ∧ (s.die d).measuring = true ∧ (s.die d).calQueue.head? = some m.slice ∧ trimOf m = none ∧ s.restarting = false ∧ kvGet (s.die d).failed m.slice = none) ∧
    (∃ (s : State) (d : Nat) (m : SliceMeasure), d < s.D ∧ d < s.dies.length ∧ (s.die d).measuring = true ∧ (s.die d).calQueue.head? = some m.slice ∧ trimOf m = none ∧ s.restarting = true) ∧
    (∃ (s : State) (n : Nat) (skews : List Int), n < s.inputs.length ∧ s.cal.st = .measuring ∧ s.slicesDone = true ∧ n ∈ s.cal.alloys ∧ skews.length = (s.input n).members.length) ∧
    (∃ (s : State), s.cal.st = .measuring ∧ s.slicesDone = true ∧ s.cal.alloys = []) :=
  ⟨⟨tS, 32, by decide +kernel⟩,
   ⟨tR, 32, 0, by decide +kernel⟩,
   ⟨tR, 32, 0x103, by decide +kernel⟩,
   ⟨{ tR with cal := { st := .measuring } }, 32, 0x103, by decide +kernel⟩,
   ⟨tDie 2 { Die.reset with autoPass := true }, 2, by decide +kernel⟩,
   ⟨tDie 2 { Die.reset with measuring := true, calQueue := [5, 6] } { tR with cal := { st := .measuring, dies := [2] } }, 2, { slice := 5, offset := -500, gain := 40, skew := 1000 }, { offset := 132, gain := 126, skew := 508 }, by decide +kernel⟩,
   ⟨tDie 2 { Die.reset with measuring := true, calQueue := [5, 6] } { tR with cal := { st := .measuring, dies := [2] } }, 2, { slice := 5, offset := -50000, gain := 40, skew := 1000 }, by decide +kernel⟩,
   ⟨tDie 2 { Die.reset with measuring := true, calQueue := [5, 6] } { tR with cal := { st := .measuring, dies := [2] }, supRestart := true }, 2, { slice := 5, offset := -50000, gain := 40, skew := 1000 }, by decide +kernel⟩,
   ⟨tIn 2 { members := [2, 3], st := .alloyed } { tR with cal := { st := .measuring, dies := [2, 3], skew := true, alloys := [2] } }, 2, [0, 500], by decide +kernel⟩,
   ⟨tDie 2 { Die.reset with pending := [(5, { offset := 132 })] } { tR with cal := { st := .measuring, dies := [2] } }, by decide +kernel⟩⟩

/-- The hypotheses of O22 can be met, clause by clause. -/
theorem witness_CalTrims :
    (∃ (s : State), s.cal.st = .ramping ∧ s.dies.length = 8 ∧ (∀ d, d < s.D → ((s.die d).pending.map Prod.fst).Nodup)) ∧
    (∃ (s : State), s.cal.st = .pending ∧ s.dies.length = 8 ∧ (s.cal.boundary.isSome = true ∨ (s.num O.CAL_APPLY_MODE ≤ 1 ∧ s.trimsIdle = true))) ∧
    (∃ (s : State) (p : Nat), Served s p ∧ ownerOf p = s.steward ∧ s.dies.length = 8) ∧
    (∃ (s : State) (p : Nat) (v : Slot), Served s p ∧ ownerOf p = s.steward ∧ s.dies.length = 8 ∧ v.toNat < 256 ∧ v ≠ 1) ∧
    (∃ (s : State) (p : Nat) (v : Slot), Served s p ∧ ownerOf p = s.steward ∧ s.dies.length = 8 ∧ 256 ≤ v.toNat) ∧
    (∃ (s : State) (p : Nat), Served s p ∧ ownerOf p ≠ s.steward) :=
  ⟨⟨tDie 2 { Die.reset with pending := [(5, { offset := 132 })], trims := [(6, { skew := 3 })] } { tR with cal := { st := .ramping, dies := [2] } }, by decide +kernel⟩,
   ⟨tDie 2 { Die.reset with pending := [(5, { offset := 132 })], trims := [(6, { skew := 3 })], bankPending := some 9 } { tR with cal := { st := .pending, dies := [2] } }, by decide +kernel⟩,
   ⟨tDie 2 { Die.reset with pending := [(5, { offset := 132 })], trims := [(6, { skew := 3 })], bankPending := some 9 } { tR with cal := { st := .pending, dies := [2] } }, 32, by decide +kernel⟩,
   ⟨tR, 32, 2, by decide +kernel⟩,
   ⟨tR, 32, 256, by decide +kernel⟩,
   ⟨tL, 0, by decide +kernel⟩⟩

/-- The hypotheses of O23 can be met, clause by clause. -/
theorem witness_Audits :
    (∃ (s : State) (d : Nat) (a : AuditWindow), s.audits d = true ∧ d < s.dies.length ∧ (s.die d).auditCause = none ∧ ((s.die d).spares ≠ [] ∧ shadowCause a = none ∨ (s.die d).spares = [] ∧ statCause a = none)) ∧
    (∃ (s : State) (d : Nat) (a : AuditWindow) (c : Nat), s.audits d = true ∧ d < s.dies.length ∧ (s.die d).auditCause = none ∧ (s.die d).spares ≠ [] ∧ shadowCause a = some c) ∧
    (∃ (s : State) (d : Nat) (a : AuditWindow) (c : Nat), s.audits d = true ∧ d < s.dies.length ∧ (s.die d).auditCause = none ∧ (s.die d).spares = [] ∧ statCause a = some c ∧ kvGet (s.die d).failed (s.die d).audited = none) ∧
    (∃ (s : State) (d : Nat) (a : AuditWindow) (c : Nat), s.audits d = true ∧ d < s.dies.length ∧ (s.die d).auditCause = some c ∧ (shadowCause a).isSome = true ∧ kvGet (s.die d).failed (s.die d).audited = none) ∧
    (∃ (s : State) (d : Nat) (a : AuditWindow) (c : Nat) (sp : Nat), s.audits d = true ∧ d < s.dies.length ∧ (s.die d).auditCause = some c ∧ shadowCause a = none ∧ (s.die d).spares.head? = some sp) :=
  ⟨⟨tR, 2, tA, by decide +kernel⟩,
   ⟨tR, 2, { tA with missing := true }, 4, by decide +kernel⟩,
   ⟨tDie 2 { Die.reset with lineup := .none }, 2, { tA with span := 0 }, 1, by decide +kernel⟩,
   ⟨tDie 2 { Die.reset with auditCause := some 1, auditPos := 5 }, 2, { tA with missing := true }, 1, by decide +kernel⟩,
   ⟨tDie 2 { Die.reset with auditCause := some 1 }, 2, tA, 1, Die.reset.spares.headD 0, by decide +kernel⟩⟩

/-- The hypotheses of O24 can be met, clause by clause. -/
theorem witness_WearOut :
    (∃ (s : State) (d : Nat) (n : Nat), d < s.D ∧ d < s.dies.length ∧ (s.die d).lineupPending = true ∧ s.restarting = false ∧ lineupOf (s.die d).f ≠ .half ∧ s.servedBy d = some n ∧ (s.die d).st = .active) ∧
    (∃ (s : State) (d : Nat), d < s.D ∧ d < s.dies.length ∧ (s.die d).lineupPending = true ∧ s.restarting = false ∧ (s.servedBy d = none ∨ (s.die d).st ≠ .active)) ∧
    (∃ (s : State) (d : Nat), d < s.D ∧ d < s.dies.length ∧ (s.die d).gap = true) :=
  ⟨⟨tDie 2 { Die.reset with lineupPending := true, failed := (List.range 5).map fun k => (k, 1) }, 2, 2, by decide +kernel⟩,
   ⟨tDie 2 { Die.reset with st := .reserve, lineupPending := true, failed := (List.range 5).map fun k => (k, 1) }, 2, by decide +kernel⟩,
   ⟨tDie 2 { Die.reset with gap := true, failed := (List.range 5).map fun k => (k, 1) }, 2, by decide +kernel⟩⟩

/-- The hypotheses of O25 can be met, clause by clause. -/
theorem witness_Retests :
    (∃ (s : State) (p : Nat) (d : Nat) (sl : Nat), Served s p ∧ ownerOf p = s.steward ∧ d < s.D ∧ sl ≤ 67 ∧ (kvGet (s.die d).failed sl).isSome = true ∧ ((s.die d).st = .active ∨ (s.die d).st = .reserve) ∧ (s.die d).measuring = false ∧ s.cal.retest = none) ∧
    (∃ (s : State) (d : Nat) (sl : Nat) (ws : List AuditWindow), s.cal.retest = some (d, sl) ∧ d < s.dies.length ∧ ws.length = 3 ∧ (∀ a ∈ ws, shadowCause a = none)) ∧
    (∃ (s : State) (d : Nat) (sl : Nat) (ws : List AuditWindow), s.cal.retest = some (d, sl) ∧ d < s.dies.length ∧ (ws.length ≠ 3 ∨ ∃ a ∈ ws, (shadowCause a).isSome = true)) ∧
    (∃ (s : State) (p : Nat), Served s p ∧ ownerOf p = s.steward) :=
  ⟨⟨tDie 2 { Die.reset with failed := [(5, 1), (6, 2)] }, 32, 2, 5, by decide +kernel⟩,
   ⟨tDie 2 { Die.reset with failed := [(5, 1), (6, 2)] } { tR with cal := { retest := some (2, 5) } }, 2, 5, [tA, tA, tA], by decide +kernel⟩,
   ⟨tDie 2 { Die.reset with failed := [(5, 1), (6, 2)] } { tR with cal := { retest := some (2, 5) } }, 2, 5, [tA, { tA with missing := true }, tA], by decide +kernel⟩,
   ⟨{ tR with skewSets := [([2, 3], [512, 512]), ([4, 5], [1, 2])] }, 32, by decide +kernel⟩⟩

/-- The hypotheses of O26 can be met, clause by clause. -/
theorem witness_EdgesOnTrits :
    (∃ (ts : List Nat) (i : Nat) (r : Bool) (f : Bool), (∀ t ∈ ts, t ≤ 2) ∧ (edgesOf {} ts)[i]? = some (r, f)) :=
  ⟨[0, 1, 2, 0], 2, true, false, by decide +kernel⟩

/-- The hypotheses of O27 can be met, clause by clause. -/
theorem witness_TriggerAccepts :
    (∃ (s : State) (c : Nat) (cyc : Nat) (x : Ctx) (e : EvalSt) (ds : List Detection), s.ctx c = some x ∧ x.st = .armed ∧ x.busy = none ∧ x.armAt ≤ cyc * 48 ∧ x.ev.waiting ≠ [] ∧ (∀ j ∈ x.ev.waiting, j.at_ / 23040 = cyc ∧ j.src ≠ forceSrc) ∧ (cyc + 1) * 23040 ≤ s.horizon c x.late ∧ judgeAll (s.trigCfg c (cyc * 48)) x.ev.waiting.length { x.ev with waiting := [] } x.ev.waiting = (e, ds) ∧ ds = []) ∧
    (∃ (s : State) (c : Nat) (cyc : Nat) (x : Ctx) (e : EvalSt) (ds : List Detection) (d : Detection) (g : Nat) (fb : Bool), s.ctx c = some x ∧ x.st = .armed ∧ x.busy = none ∧ x.armAt ≤ cyc * 48 ∧ x.ev.waiting ≠ [] ∧ (∀ j ∈ x.ev.waiting, j.at_ / 23040 = cyc ∧ j.src ≠ forceSrc) ∧ (cyc + 1) * 23040 ≤ s.horizon c x.late ∧ judgeAll (s.trigCfg c (cyc * 48)) x.ev.waiting.length { x.ev with waiting := [] } x.ev.waiting = (e, ds) ∧ ds = [d] ∧ s.locate (s.firingDie c x) x.late d = (g, fb) ∧ x.armAt * 480 ≤ g ∧ x.lastCycle ≠ some (cyc * 48) ∧ s.acceptEnded c x (cyc * 48) = false ∧ x.pending.length < 16 ∧ x.inUse < s.cN c O.SEG_TABLE_SIZE ∧ ((s.cN c O.HOLDOFF_MODE = 0 ∧ x.holdUntil ≤ g) ∨ (s.cN c O.HOLDOFF_MODE ≠ 0 ∧ x.holdEvents = 0))) ∧
    (∃ (s : State) (c : Nat) (cyc : Nat) (x : Ctx) (e : EvalSt) (ds : List Detection) (d : Detection) (g : Nat) (fb : Bool), s.ctx c = some x ∧ x.st = .armed ∧ x.busy = none ∧ x.armAt ≤ cyc * 48 ∧ x.ev.waiting ≠ [] ∧ (∀ j ∈ x.ev.waiting, j.at_ / 23040 = cyc ∧ j.src ≠ forceSrc) ∧ (cyc + 1) * 23040 ≤ s.horizon c x.late ∧ judgeAll (s.trigCfg c (cyc * 48)) x.ev.waiting.length { x.ev with waiting := [] } x.ev.waiting = (e, ds) ∧ ds = [d] ∧ s.locate (s.firingDie c x) x.late d = (g, fb) ∧ x.armAt * 480 ≤ g ∧ x.lastCycle ≠ some (cyc * 48) ∧ s.acceptEnded c x (cyc * 48) = false ∧ s.cN c O.HOLDOFF_MODE = 0 ∧ g < x.holdUntil) ∧
    (∃ (s : State) (c : Nat) (cyc : Nat) (x : Ctx) (e : EvalSt) (ds : List Detection) (d : Detection) (g : Nat) (fb : Bool), s.ctx c = some x ∧ x.st = .armed ∧ x.busy = none ∧ x.armAt ≤ cyc * 48 ∧ x.ev.waiting ≠ [] ∧ (∀ j ∈ x.ev.waiting, j.at_ / 23040 = cyc ∧ j.src ≠ forceSrc) ∧ (cyc + 1) * 23040 ≤ s.horizon c x.late ∧ judgeAll (s.trigCfg c (cyc * 48)) x.ev.waiting.length { x.ev with waiting := [] } x.ev.waiting = (e, ds) ∧ ds = [d] ∧ s.locate (s.firingDie c x) x.late d = (g, fb) ∧ x.armAt * 480 ≤ g ∧ x.lastCycle ≠ some (cyc * 48) ∧ s.acceptEnded c x (cyc * 48) = false ∧ s.cN c O.HOLDOFF_MODE ≠ 0 ∧ x.holdEvents ≠ 0) :=
  ⟨⟨tSin { tXin with ev := { waiting := [{ at_ := 230448, src := 8, trit := 0 }] } }, 1, 10, { tXin with ev := { waiting := [{ at_ := 230448, src := 8, trit := 0 }] } }, (judgeAll ((tSin tXin).trigCfg 1 480) 1 {} [{ at_ := 230448, src := 8, trit := 0 }]).1, [], by decide +kernel⟩,
   ⟨tSin tXin, 1, 10, tXin, (judgeAll ((tSin tXin).trigCfg 1 480) 1 {} [{ at_ := 230448, src := 8, trit := 2 }]).1, [{ fire := 230448, src := 8, level := 0, rising := true }], { fire := 230448, src := 8, level := 0, rising := true }, 230448, false, by decide +kernel⟩,
   ⟨tSin { tXin with holdUntil := 300000 }, 1, 10, { tXin with holdUntil := 300000 }, (judgeAll ((tSin tXin).trigCfg 1 480) 1 {} [{ at_ := 230448, src := 8, trit := 2 }]).1, [{ fire := 230448, src := 8, level := 0, rising := true }], { fire := 230448, src := 8, level := 0, rising := true }, 230448, false, by decide +kernel⟩,
   ⟨tObj (tSin { tXin with holdEvents := 3 }) [(1, O.HOLDOFF_MODE, 1)], 1, 10, { tXin with holdEvents := 3 }, (judgeAll ((tSin tXin).trigCfg 1 480) 1 {} [{ at_ := 230448, src := 8, trit := 2 }]).1, [{ fire := 230448, src := 8, level := 0, rising := true }], { fire := 230448, src := 8, level := 0, rising := true }, 230448, false, by decide +kernel⟩⟩

/-- The hypotheses of O28 can be met, clause by clause. -/
theorem witness_EvaluatorEvents :
    (∃ (s : State) (c : Nat) (x : Ctx), s.ctx c = some x ∧ x.bound = true ∧ x.evals ≠ [] ∧ s.fetchesTaps c x = true) ∧
    (∃ (s : State) (c : Nat) (x : Ctx), s.ctx c = some x ∧ (∀ n ∈ s.located c, ∀ d ∈ (s.input n).members, d = s.firingDie c x)) ∧
    (∃ (s : State) (n : Nat) (ed : Nat) (at_ : Nat), s.tapDie n at_ ≠ ed) ∧
    (∃ (s : State) (c : Nat) (x : Ctx), s.ctx c = some x ∧ x.bound = true ∧ s.cN c O.HOLDOFF_MODE = 0 ∧ x.holdUntil < 480 * 2 ^ 70) ∧
    (∃ (s : State) (c : Nat) (x : Ctx) (h : Nat × Nat × Bool) (r : List (Nat × Nat × Bool)), s.ctx c = some x ∧ x.bound = true ∧ x.partners ≠ [] ∧ x.toCompare = h :: r) ∧
    (∃ (s : State) (c : Nat) (x : Ctx) (v : PairEvent), s.ctx c = some x ∧ x.bound = true ∧ x.partners ≠ [] ∧ (∀ h ∈ x.toCompare, h.1 / 23040 ≠ v.fire / 23040)) ∧
    (∃ (s : State) (c : Nat) (x : Ctx) (v : PairEvent) (h : Nat × Nat × Bool) (r : List (Nat × Nat × Bool)), s.ctx c = some x ∧ x.bound = true ∧ x.partners ≠ [] ∧ x.toCompare = h :: r ∧ h.1 / 23040 = v.fire / 23040 ∧ pairMatches h (s.cN c O.TRIG_PAIR_TOL) v = true) ∧
    (∃ (s : State) (c : Nat) (x : Ctx) (v : PairEvent) (h : Nat × Nat × Bool) (r : List (Nat × Nat × Bool)), s.ctx c = some x ∧ x.bound = true ∧ x.partners ≠ [] ∧ x.toCompare = h :: r ∧ h.1 / 23040 = v.fire / 23040 ∧ pairMatches h (s.cN c O.TRIG_PAIR_TOL) v = false) ∧
    (∃ (g : Nat) (x : Ctx) (h : Segment), h ∈ (markMismatch g x).pending ∧ h.tm = g) ∧
    (∃ (s : State) (c : Nat) (x : Ctx), s.ctx c = some x ∧ x.pending.length < 16 ∧ x.inUse < s.cN c O.SEG_TABLE_SIZE) :=
  ⟨⟨tCtx 1 { tX .armed with evals := [16], homeDie := 2, streams := [⟨0, 2, false⟩] } { tR with dev := .armed }, 1, { tX .armed with evals := [16], homeDie := 2, streams := [⟨0, 2, false⟩] }, by decide +kernel⟩,
   ⟨tCtx 1 (tX .armed) { tR with dev := .armed }, 1, tX .armed, by decide +kernel⟩,
   ⟨tR, 0, 5, 480, by decide +kernel⟩,
   ⟨tCtx 1 { tX .armed with holdUntil := 480000 } { tR with dev := .armed }, 1, { tX .armed with holdUntil := 480000 }, by decide +kernel⟩,
   ⟨tCtx 1 { tX .armed with partners := [2], toCompare := [(960, 970, false)] } { tR with dev := .armed }, 1, { tX .armed with partners := [2], toCompare := [(960, 970, false)] }, (960, 970, false), [], by decide +kernel⟩,
   ⟨tCtx 1 { tX .armed with partners := [2], toCompare := [(960, 970, false)] } { tR with dev := .armed }, 1, { tX .armed with partners := [2], toCompare := [(960, 970, false)] }, ⟨46080, 46090, false⟩, by decide +kernel⟩,
   ⟨tCtx 1 { tX .armed with partners := [2], toCompare := [(960, 970, false)] } { tR with dev := .armed }, 1, { tX .armed with partners := [2], toCompare := [(960, 970, false)] }, ⟨960, 0, true⟩, (960, 970, false), [], by decide +kernel⟩,
   ⟨tCtx 1 { tX .armed with partners := [2], toCompare := [(960, 970, false)] } { tR with dev := .armed }, 1, { tX .armed with partners := [2], toCompare := [(960, 970, false)] }, ⟨480, 480, false⟩, (960, 970, false), [], by decide +kernel⟩,
   ⟨9, { tX .armed with pending := [{ tG with tm := 9 }] }, { tG with tm := 9, mismatch := true }, by decide +kernel⟩,
   ⟨tObj (tCtx 1 { tX .armed with mismatchNext := true } { tR with dev := .armed }) [(1, O.SEG_TABLE_SIZE, 16)], 1, { tX .armed with mismatchNext := true }, by decide +kernel⟩⟩

/-- The hypotheses of O29 can be met, clause by clause. -/
theorem witness_ForcedEvents :
    (∃ (s : State) (p : Nat) (x : Ctx), Served s p ∧ s.ctx (s.selected p) = some x ∧ ownerOf p = x.owner) ∧
    (∃ (s : State) (c : Nat) (T : Nat) (x : Ctx), s.ctx c = some x ∧ x.forceAt = some T ∧ x.st = .armed ∧ s.behind c T = false ∧ x.accepting T = true ∧ s.acceptEnded c x T = false ∧ x.lastCycle ≠ some T) ∧
    (∃ (s : State) (c : Nat) (T : Nat) (x : Ctx), s.ctx c = some x ∧ x.forceAt = some T ∧ x.st = .armed ∧ s.behind c T = true) ∧
    (∃ (s : State) (c : Nat) (T : Nat) (b : Nat) (x : Ctx) (r : List Judged), s.ctx c = some x ∧ x.st = .armed ∧ T % 48 = 0 ∧ x.ev.waiting = { at_ := T * 480, src := forceSrc, trit := b } :: r ∧ T * 480 ≤ s.horizon c x.late ∧ b = 5 ∧ x.accepting T = true ∧ s.acceptEnded c x T = false ∧ x.lastCycle ≠ some T) ∧
    (∃ (s : State) (c : Nat) (x : Ctx), s.ctx c = some x ∧ x.st = .armed ∧ s.cN c O.TRIG_AUTO ≠ 0 ∧ s.behind c (s.autoDue c x) = false ∧ x.accepting (s.autoDue c x) = true ∧ s.acceptEnded c x (s.autoDue c x) = false ∧ x.lastCycle ≠ some (s.autoDue c x)) :=
  ⟨⟨tCtx 0 (tX .armed) { tR with dev := .armed }, 32, tX .armed, by decide +kernel⟩,
   ⟨tObj (tCtx 1 { tX .armed with forceAt := some 96 } { tR with dev := .armed }) [(1, O.SEG_TABLE_SIZE, 16), (1, O.HOLDOFF_TIME, 5)], 1, 96, { tX .armed with forceAt := some 96 }, by decide +kernel⟩,
   ⟨tCtx 1 { tX .armed with forceAt := some 96, ev := { waiting := [{ at_ := 100, src := 8, trit := 1 }] } } { tR with dev := .armed }, 1, 96, { tX .armed with forceAt := some 96, ev := { waiting := [{ at_ := 100, src := 8, trit := 1 }] } }, by decide +kernel⟩,
   ⟨tObj (tCtx 1 { tX .armed with ev := { waiting := [{ at_ := 46080, src := forceSrc, trit := 5 }] } } { tR with dev := .armed, counter := 200 }) [(1, O.SEG_TABLE_SIZE, 16)], 1, 96, 5, { tX .armed with ev := { waiting := [{ at_ := 46080, src := forceSrc, trit := 5 }] } }, [], by decide +kernel⟩,
   ⟨tObj (tCtx 1 (tX .armed) { tR with dev := .armed }) [(1, O.SEG_TABLE_SIZE, 16), (1, O.TRIG_AUTO, 500)], 1, tX .armed, by decide +kernel⟩⟩

/-- The hypotheses of O30 can be met, clause by clause. -/
theorem witness_LevelWrites :
    (∃ (s : State) (p : Nat) (i : Nat) (sub : Nat) (a : Abort), Served s p ∧ sub < 256 ∧ isLevelObj (i * 256 + sub) = true ∧ s.missing i sub = some a) ∧
    (∃ (s : State) (p : Nat) (i : Nat) (sub : Nat) (v : Slot) (x : Ctx), Served s p ∧ sub < 256 ∧ isLevelObj (i * 256 + sub) = true ∧ s.missing i sub = none ∧ s.ctx (s.selected p) = some x ∧ ownerOf p = x.owner ∧ levelRange (i * 256 + sub) v = true ∧ (∀ l ∈ x.levels, s.now < l.1 → x.levelsWait = true ∧ l.1 = x.levelsAt)) ∧
    (∃ (s : State) (c : Nat) (x : Ctx), s.ctx c = some x ∧ x.levelsWait = true ∧ (∀ l ∈ x.levels, l.1 ≤ x.levelsAt)) :=
  ⟨⟨{ tR with variant := .sz4 }, 32, O.PAT_LEVEL_k / 256, (O.PAT_LEVEL_k + 12) % 256, .noSubindex, by decide +kernel⟩,
   ⟨tCtx 0 (tX .armed) { tR with dev := .armed }, 32, O.TRIG_LEVEL / 256, O.TRIG_LEVEL % 256, 100, tX .armed, by decide +kernel⟩,
   ⟨tCtx 1 { tX .armed with levels := [(480, O.TRIG_LEVEL, 7)], levelsAt := 480, levelsWait := true } { tR with dev := .armed }, 1, { tX .armed with levels := [(480, O.TRIG_LEVEL, 7)], levelsAt := 480, levelsWait := true }, by decide +kernel⟩⟩

/-- The hypotheses of O31 can be met, clause by clause. -/
theorem witness_TriggerPins :
    (∃ (s : State) (up : Bool) (g : Nat), s.now ≤ g / 480 ∧ g / 480 / 2 ^ 55 = s.now / 2 ^ 55 ∧ s.awake = true ∧ (g / 480 / 48 * 48, up) ∉ s.trigInEdges ∧ s.num O.LATCH_ENABLE = 1 ∧ latchTakes (s.num O.TRIGIN_LATCH_SLOPE) up = true) ∧
    (∃ (s : State) (up : Bool) (g : Nat), s.now ≤ g / 480 ∧ g / 480 / 2 ^ 55 = s.now / 2 ^ 55 ∧ (g / 480 / 48 * 48, up) ∈ s.trigInEdges) ∧
    (∃ (s : State) (at_ : Nat), s.trigInOld = some at_) ∧
    (∃ (s : State) (g : Nat) (r : List Nat), sortN s.trigOut = g :: r) ∧
    (∃ (s : State), s.trigOutHigh = true) :=
  ⟨⟨tObj tR [(0, O.LATCH_ENABLE, 1)], true, 480100, by decide +kernel⟩,
   ⟨tObj { tR with trigInEdges := [(960, true)] } [(0, O.LATCH_ENABLE, 1)], true, 480100, by decide +kernel⟩,
   ⟨{ tR with trigInOld := some 5 }, 5, by decide +kernel⟩,
   ⟨{ tR with trigOut := [9600, 4800] }, 4800, [9600], by decide +kernel⟩,
   ⟨{ tR with trigOutHigh := true, trigOutEnd := 480000 }, by decide +kernel⟩⟩

/-- The hypotheses of O32 can be met, clause by clause. -/
theorem witness_ContextCommands :
    (∃ (s : State) (p : Nat) (c : Nat), Served s p ∧ s.selected p = c ∧ s.ctx c = none) ∧
    (∃ (s : State) (p : Nat) (c : Nat) (x : Ctx), Served s p ∧ s.selected p = c ∧ s.ctx c = some x) ∧
    (∃ (s : State) (p : Nat) (c : Nat) (x : Ctx), Served s p ∧ s.selected p = c ∧ s.ctx c = some x ∧ ownerOf p = x.owner ∧ x.isBusy = false ∧ x.st = .armed) ∧
    (∃ (s : State) (p : Nat) (c : Nat) (x : Ctx), Served s p ∧ s.selected p = c ∧ s.ctx c = some x ∧ ownerOf p = x.owner ∧ x.isBusy = false ∧ x.st = .held) ∧
    (∃ (s : State) (p : Nat) (c : Nat) (x : Ctx), Served s p ∧ s.selected p = c ∧ s.ctx c = some x ∧ ownerOf p = x.owner ∧ x.isBusy = false ∧ x.st = .suspended) ∧
    (∃ (s : State) (p : Nat) (c : Nat) (x : Ctx), Served s p ∧ s.selected p = c ∧ s.ctx c = some x ∧ ownerOf p = x.owner ∧ x.isBusy = false ∧ (x.st = .armed ∨ x.st = .held)) ∧
    (∃ (s : State) (p : Nat) (c : Nat) (x : Ctx), Served s p ∧ s.selected p = c ∧ s.ctx c = some x ∧ ownerOf p = x.owner ∧ x.isBusy = false ∧ (x.st = .defined ∨ x.st = .suspended) ∧ x.table = []) ∧
    (∃ (s : State) (p : Nat) (c : Nat) (x : Ctx), Served s p ∧ s.selected p = c ∧ s.ctx c = some x ∧ ownerOf p = x.owner ∧ x.isBusy = false ∧ x.st ≠ .armed) ∧
    (∃ (s : State) (p : Nat) (c : Nat) (x : Ctx), Served s p ∧ s.selected p = c ∧ s.ctx c = some x ∧ ownerOf p = x.owner ∧ x.isBusy = false ∧ x.st ≠ .held) ∧
    (∃ (s : State) (p : Nat) (c : Nat) (x : Ctx), Served s p ∧ s.selected p = c ∧ s.ctx c = some x ∧ ownerOf p = x.owner ∧ x.isBusy = false ∧ x.st = .defined) ∧
    (∃ (s : State) (p : Nat) (c : Nat) (x : Ctx) (i : Instr), Served s p ∧ s.selected p = c ∧ s.ctx c = some x ∧ ownerOf p = x.owner ∧ x.isBusy = true ∧ i ∈ [Instr.ctxHold p, .ctxResume p, .ctxDisarm p, .ctxFree p]) ∧
    (∃ (s : State) (p : Nat) (c : Nat), Served s p ∧ s.selected p = c ∧ s.ctx c = none ∧ ownerOf p = s.steward) ∧
    (∃ (s : State) (p : Nat) (c : Nat) (x : Ctx) (i : Instr), Served s p ∧ s.selected p = c ∧ s.ctx c = some x ∧ ownerOf p ≠ x.owner ∧ (i = Instr.ctxHold p ∨ i = .ctxResume p ∨ i = .ctxDisarm p ∨ i = .ctxArm p)) ∧
    (∃ (s : State) (p : Nat) (c : Nat) (x : Ctx), Served s p ∧ s.selected p = c ∧ s.ctx c = some x ∧ ownerOf p ≠ x.owner ∧ ownerOf p ≠ s.steward) :=
  ⟨⟨t0 (tX .defined) |> fun s => { s with ctxs := [(5, tX .held)] }, 32, 0, by decide +kernel⟩,
   ⟨t0 (tX .defined), 32, 0, tX .defined, by decide +kernel⟩,
   ⟨t0 (tX .armed), 32, 0, tX .armed, by decide +kernel⟩,
   ⟨t0 (tX .held), 32, 0, tX .held, by decide +kernel⟩,
   ⟨t0 (tX .suspended), 32, 0, tX .suspended, by decide +kernel⟩,
   ⟨t0 (tX .held), 32, 0, tX .held, by decide +kernel⟩,
   ⟨t0 (tX .defined), 32, 0, tX .defined, by decide +kernel⟩,
   ⟨t0 (tX .held), 32, 0, tX .held, by decide +kernel⟩,
   ⟨t0 (tX .armed), 32, 0, tX .armed, by decide +kernel⟩,
   ⟨t0 (tX .defined), 32, 0, tX .defined, by decide +kernel⟩,
   ⟨t0 { tX .held with busy := some (.defined, 0) }, 32, 0, { tX .held with busy := some (.defined, 0) }, .ctxHold 32, by decide +kernel⟩,
   ⟨{ tS with ctxs := [(5, tX .held)] }, 0, 0, by decide +kernel⟩,
   ⟨t0 { owner := 3 }, 32, 0, { owner := 3 }, .ctxArm 32, by decide +kernel⟩,
   ⟨tS |> tCtx 0 { owner := 3 }, 32, 0, { owner := 3 }, by decide +kernel⟩⟩

/-- The hypotheses of O33 can be met, clause by clause. -/
theorem witness_ContextChanges :
    (∃ (s : State) (p : Nat) (c : Nat) (x : Ctx) (e : Nat) (a : Abort), Served s p ∧ s.selected p = c ∧ s.ctx c = some x ∧ ownerOf p = x.owner ∧ (∀ k ∈ s.cN c O.CTX_INPUT :: s.watched c, s.subscribed k (ownerOf p) = true) ∧ (x.st = .defined ∨ x.st = .suspended) ∧ x.isBusy = false ∧ s.num O.POWER_PHASE = 0 ∧ s.dev ≠ .watch ∧ s.noReference = false ∧ firstErr 1 (s.armErrs c (s.trigArm c)) = some (e, a) ∧ e ≠ 7) ∧
    (∃ (s : State) (p : Nat) (c : Nat) (x : Ctx) (a : Abort) (k : Nat) (b : Abort), Served s p ∧ s.selected p = c ∧ s.ctx c = some x ∧ ownerOf p = x.owner ∧ (∀ k ∈ s.cN c O.CTX_INPUT :: s.watched c, s.subscribed k (ownerOf p) = true) ∧ (x.st = .defined ∨ x.st = .suspended) ∧ x.isBusy = false ∧ s.num O.POWER_PHASE = 0 ∧ s.dev ≠ .watch ∧ s.noReference = false ∧ firstErr 1 (s.armErrs c (s.trigArm c)) = some (7, a) ∧ s.trigArm c = .inr (k, b)) ∧
    (∃ (s : State) (p : Nat) (c : Nat) (x : Ctx) (b : Binding), Served s p ∧ s.selected p = c ∧ s.ctx c = some x ∧ ownerOf p = x.owner ∧ (∀ k ∈ s.cN c O.CTX_INPUT :: s.watched c, s.subscribed k (ownerOf p) = true) ∧ (x.st = .defined ∨ x.st = .suspended) ∧ x.isBusy = false ∧ s.num O.POWER_PHASE = 0 ∧ s.dev ≠ .watch ∧ s.noReference = false ∧ s.trigArm c = .inl b ∧ firstErr 1 (s.armErrs c (s.trigArm c)) = none ∧ s.cN c O.CRU_MODE = 0 ∧ x.cru.handle = none ∧ s.cN c O.ASSAY_PROGRAM = 0 ∧ s.cN c O.DEC_MODE = 0) ∧
    (∃ (s : State) (c : Nat) (x : Ctx), s.ctx c = some x ∧ x.arming = true ∧ s.cycle ≤ x.armAt ∧ x.armCause = none) ∧
    (∃ (s : State) (c : Nat) (x : Ctx) (k : Nat), s.ctx c = some x ∧ x.arming = true ∧ s.cycle ≤ x.armAt ∧ x.armCause = some k ∧ x.pending = []) ∧
    (∃ (s : State) (c : Nat) (T : Nat) (x : Ctx), s.ctx c = some x ∧ x.busy = some (.held, T) ∧ x.armCause = none) ∧
    (∃ (s : State) (c : Nat) (T : Nat) (x : Ctx) (b : CtxSt), s.ctx c = some x ∧ x.busy = some (b, T) ∧ b ≠ .held ∧ x.pending ≠ []) ∧
    (∃ (s : State) (c : Nat) (T : Nat) (x : Ctx), s.ctx c = some x ∧ x.busy = some (.defined, T) ∧ x.pending = [] ∧ x.armCause = none) ∧
    (∃ (s : State) (c : Nat) (T : Nat) (x : Ctx), s.ctx c = some x ∧ x.busy = some (.empty, T) ∧ x.pending = [] ∧ x.table = [] ∧ x.armCause = none) ∧
    (∃ (s : State) (c : Nat) (k : Nat) (T : Nat) (x : Ctx), s.ctx c = some x ∧ x.busy = some (.suspended, T) ∧ x.armCause = some k ∧ x.pending = []) ∧
    (∃ (s : State) (c : Nat) (x : Ctx), s.ctx c = some x ∧ x.st = .armed ∧ (s.obj c O.STOP_TIME).toNat ≠ 0) ∧
    (∃ (s : State) (c : Nat) (x : Ctx), s.ctx c = some x ∧ x.st = .armed ∧ x.busy = none ∧ x.stopMet = true ∧ x.pending = [] ∧ x.judgedUp = true) :=
  ⟨⟨tObj (tIn 0 { members := [0], st := .dark } (t0 (tX .defined))) [(0, O.SUBSCRIBERS_n, 0x10000)], 32, 0, tX .defined, 1, .presentState, by decide +kernel⟩,
   ⟨tObj (t0 (tX .defined)) [(0, O.SUBSCRIBERS_n, 0x10000), (0, O.TRIG_TYPE, 0), (0, O.TRIG_SOURCE, 8)], 32, 0, tX .defined, .incompatible, 5, .incompatible, by decide +kernel⟩,
   ⟨tObj (t0 (tX .defined)) [(0, O.SUBSCRIBERS_n, 0x10000)], 32, 0, tX .defined, tB (tObj (t0 (tX .defined)) [(0, O.SUBSCRIBERS_n, 0x10000)]), by decide +kernel⟩,
   ⟨t0 { tX .defined with arming := true, armAt := 96 }, 0, { tX .defined with arming := true, armAt := 96 }, by decide +kernel⟩,
   ⟨t0 { tX .defined with arming := true, armAt := 96, armCause := some 2 }, 0, { tX .defined with arming := true, armAt := 96, armCause := some 2 }, 2, by decide +kernel⟩,
   ⟨t0 { tX .armed with busy := some (.held, 48) }, 0, 48, { tX .armed with busy := some (.held, 48) }, by decide +kernel⟩,
   ⟨t0 { tX .armed with busy := some (.defined, 48), pending := [{ tm := 5 }] }, 0, 48, { tX .armed with busy := some (.defined, 48), pending := [{ tm := 5 }] }, .defined, by decide +kernel⟩,
   ⟨t0 { tX .armed with busy := some (.defined, 48) }, 0, 48, { tX .armed with busy := some (.defined, 48) }, by decide +kernel⟩,
   ⟨t0 { tX .armed with busy := some (.empty, 48) }, 0, 48, { tX .armed with busy := some (.empty, 48) }, by decide +kernel⟩,
   ⟨t0 { tX .armed with busy := some (.suspended, 48), armCause := some 3 }, 0, 3, 48, { tX .armed with busy := some (.suspended, 48), armCause := some 3 }, by decide +kernel⟩,
   ⟨tObj (t0 (tX .armed)) [(0, O.STOP_TIME, 480)], 0, tX .armed, by decide +kernel⟩,
   ⟨t0 { tX .armed with stopMet := true }, 0, { tX .armed with stopMet := true }, by decide +kernel⟩⟩

/-- The hypotheses of O34 can be met, clause by clause. -/
theorem witness_Segments :
    (∃ (s : State) (c : Nat) (x : Ctx) (g : Segment), s.ctx c = some x ∧ x.pending.find? (fun h => !h.reached) = some g) ∧
    (∃ (s : State) (c : Nat) (x : Ctx) (g : Segment), s.ctx c = some x ∧ x.pending.find? (fun h => !h.closed && h.reached && s.segComplete c h) = some g) ∧
    (∃ (s : State) (c : Nat) (x : Ctx) (g : Segment), s.publisher = some c ∧ s.ctx c = some x ∧ x.pending.find? Segment.closed = some g) ∧
    (∃ (x : Ctx) (g : Segment), g ∈ x.table) ∧
    (∃ (x : Ctx) (e : Nat), e < freeEntry x.table) ∧
    (∃ (s : State) (p : Nat) (c : Nat) (v : Slot) (x : Ctx) (g : Segment), Served s p ∧ s.selected p = c ∧ s.ctx c = some x ∧ ownerOf p = x.owner ∧ v.toNat < 2 ^ 32 ∧ s.held c v.toNat = some g ∧ g.bursts = 0) ∧
    (∃ (s : State) (p : Nat) (c : Nat) (v : Slot) (x : Ctx) (g : Segment), Served s p ∧ s.selected p = c ∧ s.ctx c = some x ∧ ownerOf p = x.owner ∧ v.toNat < 2 ^ 32 ∧ s.held c v.toNat = some g ∧ g.bursts ≠ 0) ∧
    (∃ (s : State) (p : Nat) (c : Nat) (v : Slot) (x : Ctx), Served s p ∧ s.selected p = c ∧ s.ctx c = some x ∧ ownerOf p = x.owner ∧ v.toNat < 2 ^ 32 ∧ s.held c v.toNat = none) ∧
    (∃ (s : State) (p : Nat) (c : Nat) (v : Slot) (x : Ctx), Served s p ∧ s.selected p = c ∧ s.ctx c = some x ∧ ownerOf p = x.owner ∧ v.toNat < 2 ^ 32 ∧ (s.held c v.toNat).isSome = true ∧ (∀ g ∈ x.table, g.bursts = 0)) ∧
    (∃ (s : State) (p : Nat) (c : Nat) (v : Slot) (x : Ctx), Served s p ∧ s.selected p = c ∧ s.ctx c = some x ∧ ownerOf p = x.owner ∧ v.toNat < 2 ^ 32 ∧ (∀ g ∈ x.table, g.bursts = 0)) ∧
    (∃ (s : State) (p : Nat) (c : Nat) (v : Slot) (x : Ctx), Served s p ∧ s.selected p = c ∧ s.ctx c = some x ∧ ownerOf p = x.owner ∧ v.toNat < 2 ^ 32 ∧ v.toNat < 256 ∧ v ≠ 1) ∧
    (∃ (s : State) (p : Nat), Served s p ∧ ownerOf p ≠ s.ctxOwner (s.selected p)) ∧
    (∃ (s : State) (c : Nat) (seq : Nat) (x : Ctx) (g : Segment), s.ctx c = some x ∧ s.held c seq = some g ∧ g.released = true ∧ g.bursts = 0) ∧
    (∃ (s : State) (c : Nat) (seq : Nat) (x : Ctx) (g : Segment), s.ctx c = some x ∧ s.held c seq = some g ∧ g.bursts ≠ 0) :=
  ⟨⟨tW (t0 { tX .armed with pending := [{ tG with reached := false }] }), 0, { tX .armed with pending := [{ tG with reached := false }] }, { tG with reached := false }, by decide +kernel⟩,
   ⟨tW (t0 { tX .armed with pending := [tG] }), 0, { tX .armed with pending := [tG] }, tG, by decide +kernel⟩,
   ⟨tW (t0 { tX .armed with pending := [{ tH with seq := 0 }] }), 0, { tX .armed with pending := [{ tH with seq := 0 }] }, { tH with seq := 0 }, by decide +kernel⟩,
   ⟨{ tX .armed with table := [tH] }, tH, by decide +kernel⟩,
   ⟨{ tX .armed with table := [tH] }, 0, by decide +kernel⟩,
   ⟨tW (t0 { tX .armed with table := [tH, { tH with seq := 4 }] }), 32, 0, 3, { tX .armed with table := [tH, { tH with seq := 4 }] }, tH, by decide +kernel⟩,
   ⟨tW (t0 { tX .armed with table := [{ tH with bursts := 1 }] }), 32, 0, 3, { tX .armed with table := [{ tH with bursts := 1 }] }, { tH with bursts := 1 }, by decide +kernel⟩,
   ⟨tW (t0 { tX .armed with table := [tH, { tH with seq := 4 }] }), 32, 0, 7, { tX .armed with table := [tH, { tH with seq := 4 }] }, by decide +kernel⟩,
   ⟨tW (t0 { tX .armed with table := [tH, { tH with seq := 4 }] }), 32, 0, 4, { tX .armed with table := [tH, { tH with seq := 4 }] }, by decide +kernel⟩,
   ⟨tW (t0 { tX .armed with table := [tH, { tH with seq := 4 }] }), 32, 0, 3, { tX .armed with table := [tH, { tH with seq := 4 }] }, by decide +kernel⟩,
   ⟨tW (t0 { tX .armed with table := [tH, { tH with seq := 4 }] }), 32, 0, 2, { tX .armed with table := [tH, { tH with seq := 4 }] }, by decide +kernel⟩,
   ⟨tCtx 0 { owner := 3 }, 32, by decide +kernel⟩,
   ⟨tW (t0 { tX .armed with table := [{ tH with released := true }] }), 0, 3, { tX .armed with table := [{ tH with released := true }] }, { tH with released := true }, by decide +kernel⟩,
   ⟨tW (t0 { tX .armed with table := [{ tH with released := true, bursts := 2 }] }), 0, 3, { tX .armed with table := [{ tH with released := true, bursts := 2 }] }, { tH with released := true, bursts := 2 }, by decide +kernel⟩⟩

/-- The hypotheses of O35 can be met, clause by clause. -/
theorem witness_Rings :
    (∃ (s : State) (n : Nat) (e : Epoch) (es : List Epoch), n < s.inputs.length ∧ s.converts n = true ∧ (s.input n).ring = .writing ∧ (s.input n).epochs = e :: es ∧ e.perLine ≠ 0 ∧ s.blockers n = [] ∧ (∀ q ∈ s.ctxs, s.cN q.1 O.CTX_INPUT = n → s.cN q.1 O.DEC_MODE = 0) ∧ e.members.Nodup ∧ (∀ d ∈ e.members, d < 8) ∧ (s.input n).slot * 64 + 64 ≤ halfBytes) ∧
    (∃ (s : State) (n : Nat), n < s.inputs.length ∧ s.converts n = false) ∧
    (∃ (s : State) (n : Nat), n < s.inputs.length ∧ ((s.input n).ring = .paused ∨ ((s.input n).ring = .idle ∧ s.busyInput n = false))) ∧
    (∃ (e : Epoch) (a : Nat) (b : Nat) (d : Nat) (slot : Nat), e.perLine = 48 * e.members.length ∧ e.pins a b d slot = true) ∧
    (∃ (s : State) (n : Nat), n < s.D ∧ n < s.inputs.length ∧ (s.input n).ring = .writing ∧ (∃ b ∈ s.blockers n, s.revocable n b.2 = false)) ∧
    (∃ (s : State) (n : Nat) (T : Nat), n < s.D ∧ n < s.inputs.length ∧ (s.input n).ring = .paused ∧ s.blockers n = [] ∧ T = s.boundary n (s.now + 96)) ∧
    (∃ (s : State) (n : Nat), n < s.D ∧ (s.input n).ring = .writing) ∧
    (∃ (s : State) (n : Nat), (∀ i ∈ s.pending.head?, waitingRelease s i = none) ∧ s.num (inObj O.RING_POLICY_n n) = 0) ∧
    (∃ (s : State) (n : Nat), n < s.D ∧ (s.input n).ring ≠ .writing) ∧
    (∃ (s : State) (p : Nat) (n : Nat) (v : Slot), Served s p ∧ n < s.D ∧ n < s.inputs.length ∧ ownerOf p = s.claimant n ∧ v.toNat % 64 = 0 ∧ 64 ≤ v.toNat ∧ v.toNat ≤ 11008 ∧ (s.input n).st = .single ∧ s.runsOn n = false ∧ s.regionPinned n = false ∧ s.allocsOf n = []) ∧
    (∃ (s : State) (p : Nat) (n : Nat) (v : Slot), Served s p ∧ n < s.D ∧ n < s.inputs.length ∧ ownerOf p = s.claimant n ∧ (v.toNat % 64 ≠ 0 ∨ v.toNat < 64 ∨ 11008 < v.toNat)) ∧
    (∃ (s : State) (p : Nat) (n : Nat) (v : Slot), Served s p ∧ n < s.D ∧ n < s.inputs.length ∧ ownerOf p = s.claimant n ∧ v.toNat % 64 = 0 ∧ 64 ≤ v.toNat ∧ v.toNat ≤ 11008 ∧ ((s.input n).st ≠ .single ∨ s.runsOn n = true ∨ s.regionPinned n = true)) ∧
    (∃ (s : State) (p : Nat) (n : Nat) (v : Slot), Served s p ∧ n < s.D ∧ n < s.inputs.length ∧ ownerOf p = s.claimant n ∧ v.toNat ≤ 1 ∧ (s.input n).ring ≠ .paused ∧ (v = 1 ∨ ∀ c x, s.ctx c = some x → x.dec.paused = false)) ∧
    (∃ (s : State) (p : Nat) (n : Nat), Served s p ∧ n < s.D ∧ n < s.inputs.length ∧ ownerOf p = s.claimant n ∧ (s.input n).ring = .paused) ∧
    (∃ (s : State) (p : Nat) (n : Nat) (v : Slot), Served s p ∧ n < s.D ∧ n < s.inputs.length ∧ ownerOf p = s.claimant n ∧ 1 < v.toNat) ∧
    (∃ (s : State) (p : Nat) (n : Nat), Served s p ∧ s.D ≤ n ∧ n < 8) :=
  ⟨⟨tW tR, 0, tE, [], by decide +kernel⟩,
   ⟨tIn 0 { members := [0], st := .dark } tR, 0, by decide +kernel⟩,
   ⟨tIn 0 { members := [0], ring := .paused, fresh := false, slot := 100, epochs := [{ tE with open_ := false }] } tR, 0, by decide +kernel⟩,
   ⟨tE, 10, 60, 0, 1, by decide +kernel⟩,
   ⟨tObj (tIn 0 { members := [0], ring := .writing, fresh := false, slot := 1, epochs := [tE] } (t0 { tX .armed with table := [{ tH with first := 10 }] })) [(0, O.RING_POLICY_n, 1)], 0, by decide +kernel⟩,
   ⟨tIn 0 { members := [0], ring := .paused, fresh := false, slot := 100, epochs := [{ tE with open_ := false }] }, 0, State.boundary (tIn 0 { members := [0], ring := .paused, fresh := false, slot := 100, epochs := [{ tE with open_ := false }] }) 0 96, by decide +kernel⟩,
   ⟨tIn 0 { members := [0], ring := .writing, fresh := false, slot := 1, epochs := [tE] } (t0 { tX .armed with table := [tH] }), 0, by decide +kernel⟩,
   ⟨tW (t0 { tX .armed with table := [{ tH with first := 10 }] }), 0, by decide +kernel⟩,
   ⟨tR, 1, by decide +kernel⟩,
   ⟨tObj tR [(0, O.CLAIM_OWNER_n, 16)], 32, 0, 128, by decide +kernel⟩,
   ⟨tObj tR [(0, O.CLAIM_OWNER_n, 16)], 32, 0, 100, by decide +kernel⟩,
   ⟨tObj (tW (t0 { tX .armed with table := [tH] })) [(0, O.CLAIM_OWNER_n, 16)], 32, 0, 128, by decide +kernel⟩,
   ⟨tObj tR [(0, O.CLAIM_OWNER_n, 16)], 32, 0, 1, by and_intros <;> first | decide +kernel | exact Or.inl rfl⟩,
   ⟨tObj (tIn 0 { members := [0], ring := .paused, fresh := false, slot := 100, epochs := [{ tE with open_ := false }] }) [(0, O.CLAIM_OWNER_n, 16)], 32, 0, by decide +kernel⟩,
   ⟨tObj tR [(0, O.CLAIM_OWNER_n, 16)], 32, 0, 2, by decide +kernel⟩,
   ⟨{ tR with variant := .sz4 }, 32, 7, by decide +kernel⟩⟩

/-- The hypotheses of O36 can be met, clause by clause. -/
theorem witness_Crucibles :
    (∃ (s : State) (p : Nat) (c : Nat) (x : Ctx), Served s p ∧ s.selected p = c ∧ s.ctx c = some x ∧ ownerOf p = x.owner ∧ (x.cru.st = .opened ∨ x.cru.st = .frozen ∨ x.cru.st = .complete)) ∧
    (∃ (s : State) (p : Nat) (c : Nat) (x : Ctx), Served s p ∧ s.selected p = c ∧ s.ctx c = some x ∧ ownerOf p = x.owner ∧ x.cru.st = .clearing) ∧
    (∃ (s : State) (p : Nat) (c : Nat) (x : Ctx), Served s p ∧ s.selected p = c ∧ s.ctx c = some x ∧ ownerOf p = x.owner ∧ x.cru.st = .opened) ∧
    (∃ (s : State) (p : Nat) (c : Nat) (x : Ctx), Served s p ∧ s.selected p = c ∧ s.ctx c = some x ∧ ownerOf p = x.owner ∧ x.cru.st = .frozen ∧ (s.cN c O.CRU_TARGET = 0 ∨ x.cru.active ≠ [] ∨ x.cru.admitted < s.cN c O.CRU_TARGET)) ∧
    (∃ (s : State) (p : Nat) (c : Nat) (x : Ctx), Served s p ∧ s.selected p = c ∧ s.ctx c = some x ∧ ownerOf p = x.owner ∧ (x.cru.st = .clearing ∨ x.cru.st = .complete)) ∧
    (∃ (s : State) (p : Nat) (c : Nat) (x : Ctx) (i : Instr), Served s p ∧ s.selected p = c ∧ s.ctx c = some x ∧ ownerOf p = x.owner ∧ x.cru.st = .none ∧ (i = Instr.cruClear p ∨ i = .cruFreeze p ∨ i = .cruThaw p)) ∧
    (∃ (s : State) (c : Nat) (x : Ctx) (h : Nat) (b : CruBuf), s.ctx c = some x ∧ x.cru.handle = some h ∧ kvGet s.cruBufs h = some b ∧ x.cru.st = .clearing) ∧
    (∃ (s : State) (c : Nat) (x : Ctx), s.ctx c = some x ∧ (x.cru.folding s.now).find? CruRec.ready = none) ∧
    (∃ (s : State) (c : Nat) (x : Ctx) (r : CruRec), s.ctx c = some x ∧ (x.cru.folding s.now).find? CruRec.ready = some r ∧ r.transition = true ∧ s.cN c O.CRU_CAL_POLICY ≠ 0) ∧
    (∃ (s : State) (c : Nat) (x : Ctx) (r : CruRec), s.ctx c = some x ∧ (x.cru.folding s.now).find? CruRec.ready = some r ∧ r.transition = false ∧ x.cru.sawTransition = true ∧ s.cN c O.CRU_CAL_POLICY = 2 ∧ x.cru.st ≠ .clearing) ∧
    (∃ (s : State) (c : Nat) (x : Ctx) (r : CruRec), s.ctx c = some x ∧ (x.cru.folding s.now).find? CruRec.ready = some r ∧ r.head = true ∧ s.cN c O.CRU_PARTIAL = 0 ∧ r.transition = false ∧ x.cru.sawTransition = false) ∧
    (∃ (s : State) (c : Nat) (x : Ctx) (r : CruRec) (checks : List Ecc) (h : Nat) (b : CruBuf), s.ctx c = some x ∧ (x.cru.folding s.now).find? CruRec.ready = some r ∧ x.cru.handle = some h ∧ kvGet s.cruBufs h = some b ∧ (r.head = false ∨ s.cN c O.CRU_PARTIAL ≠ 0) ∧ (r.transition = false ∨ s.cN c O.CRU_CAL_POLICY = 0) ∧ x.cru.sawTransition = false ∧ checks = [] ∧ (∀ u ∈ s.spillUnits h b r.items, s.poisoned u = false)) :=
  ⟨⟨tCru .frozen, 32, 0, tXc .frozen, by decide +kernel⟩,
   ⟨tCru .clearing, 32, 0, tXc .clearing, by decide +kernel⟩,
   ⟨tCru .opened, 32, 0, tXc .opened, by decide +kernel⟩,
   ⟨tCru .frozen, 32, 0, tXc .frozen, by decide +kernel⟩,
   ⟨tCru .complete, 32, 0, tXc .complete, by decide +kernel⟩,
   ⟨t0 (tX .defined), 32, 0, tX .defined, .cruThaw 32, by decide +kernel⟩,
   ⟨tCru .clearing, 0, tXc .clearing, 7, tBuf, by decide +kernel⟩,
   ⟨tCru .clearing, 0, tXc .clearing, by decide +kernel⟩,
   ⟨tObj (tCruR { tm := 48000, members := [0], ready := true, transition := true }) [(0, O.CRU_CAL_POLICY, 1)], 0, tXr { tm := 48000, members := [0], ready := true, transition := true }, { tm := 48000, members := [0], ready := true, transition := true }, by decide +kernel⟩,
   ⟨tObj ({ t0 ({ tX .armed with cru := { st := .opened, handle := some 7, active := [{ tm := 48000, members := [0], ready := true }], sawTransition := true } }) with cruBufs := [(7, tBuf)] }) [(0, O.CRU_CAL_POLICY, 2)], 0, { tX .armed with cru := { st := .opened, handle := some 7, active := [{ tm := 48000, members := [0], ready := true }], sawTransition := true } }, { tm := 48000, members := [0], ready := true }, by decide +kernel⟩,
   ⟨tCruR { tm := 48000, members := [0], ready := true, head := true }, 0, tXr { tm := 48000, members := [0], ready := true, head := true }, { tm := 48000, members := [0], ready := true, head := true }, by decide +kernel⟩,
   ⟨tCruR { tm := 48000, members := [0], ready := true, items := [(0, 0, 5), (1, 0, 9)], record := [1, 2] }, 0, tXr { tm := 48000, members := [0], ready := true, items := [(0, 0, 5), (1, 0, 9)], record := [1, 2] }, { tm := 48000, members := [0], ready := true, items := [(0, 0, 5), (1, 0, 9)], record := [1, 2] }, [], 7, tBuf, by decide +kernel⟩⟩

/-- The hypotheses of O37 can be met, clause by clause. -/
theorem witness_ArithmeticWords :
    (∃ (s : State) (d : Nat) (l : Nat) (c : Nat) (w : AWord) (x : Ctx) (r : ARec), r.holds w.cond.toNat = true ∧ s.Runs d l 0x08 w c x r) ∧
    (∃ (s : State) (d : Nat) (l : Nat) (c : Nat) (w : AWord) (x : Ctx) (r : ARec), r.holds w.cond.toNat = true ∧ s.Runs d l 0x09 w c x r) ∧
    (∃ (s : State) (d : Nat) (l : Nat) (c : Nat) (w : AWord) (x : Ctx) (r : ARec), r.holds w.cond.toNat = true ∧ s.Runs d l 0x0A w c x r) ∧
    (∃ (s : State) (d : Nat) (l : Nat) (c : Nat) (w : AWord) (x : Ctx) (r : ARec), let b := r.reg w.srcB; r.holds w.cond.toNat = true ∧ s.Runs d l 0x0B w c x r ∧ b = 0) ∧
    (∃ (s : State) (d : Nat) (l : Nat) (c : Nat) (w : AWord) (x : Ctx) (r : ARec), let a := r.reg w.srcA; let b := r.reg w.srcB; r.holds w.cond.toNat = true ∧ s.Runs d l 0x0B w c x r ∧ b ≠ 0 ∧ (a.toInt ≠ -(2 ^ 63) ∨ b.toInt ≠ -1)) ∧
    (∃ (s : State) (d : Nat) (l : Nat) (c : Nat) (w : AWord) (x : Ctx) (r : ARec), let b := r.reg w.srcB; r.holds w.cond.toNat = true ∧ s.Runs d l 0x0B w c x r ∧ b ≠ 0) ∧
    (∃ (s : State) (d : Nat) (l : Nat) (c : Nat) (w : AWord) (x : Ctx) (r : ARec), let b := r.reg w.srcB; r.holds w.cond.toNat = true ∧ s.Runs d l 0x0C w c x r ∧ b = 0) ∧
    (∃ (s : State) (d : Nat) (l : Nat) (c : Nat) (w : AWord) (x : Ctx) (r : ARec), let b := r.reg w.srcB; r.holds w.cond.toNat = true ∧ s.Runs d l 0x0C w c x r ∧ b ≠ 0) ∧
    (∃ (s : State) (d : Nat) (l : Nat) (c : Nat) (w : AWord) (x : Ctx) (r : ARec) (q : Int), let a := r.reg w.srcA; let b := r.reg w.srcB; r.holds w.cond.toNat = true ∧ s.Runs d l 0x0C w c x r ∧ b ≠ 0 ∧ -(2 ^ 63) ≤ q ∧ q < 2 ^ 63 ∧ (2 * (a.toInt - q * b.toInt).natAbs < b.toInt.natAbs ∨ (2 * (a.toInt - q * b.toInt).natAbs = b.toInt.natAbs ∧ a.toInt.natAbs < (q * b.toInt).natAbs))) ∧
    (∃ (s : State) (d : Nat) (l : Nat) (c : Nat) (w : AWord) (x : Ctx) (r : ARec), let b := r.reg w.srcB; r.holds w.cond.toNat = true ∧ s.Runs d l 0x0D w c x r ∧ b = 0) ∧
    (∃ (s : State) (d : Nat) (l : Nat) (c : Nat) (w : AWord) (x : Ctx) (r : ARec) (q : Int), let a := r.reg w.srcA; let b := r.reg w.srcB; r.holds w.cond.toNat = true ∧ s.Runs d l 0x0D w c x r ∧ b ≠ 0 ∧ (2 * (a.toInt * w.imm.toInt - q * b.toInt).natAbs < b.toInt.natAbs ∨ (2 * (a.toInt * w.imm.toInt - q * b.toInt).natAbs = b.toInt.natAbs ∧ (a.toInt * w.imm.toInt).natAbs < (q * b.toInt).natAbs)) ∧ q.natAbs < 2 ^ 63) ∧
    (∃ (s : State) (d : Nat) (l : Nat) (c : Nat) (w : AWord) (x : Ctx) (r : ARec) (q : Int), let a := r.reg w.srcA; let b := r.reg w.srcB; r.holds w.cond.toNat = true ∧ s.Runs d l 0x0D w c x r ∧ b ≠ 0 ∧ (2 * (a.toInt * w.imm.toInt - q * b.toInt).natAbs < b.toInt.natAbs ∨ (2 * (a.toInt * w.imm.toInt - q * b.toInt).natAbs = b.toInt.natAbs ∧ (a.toInt * w.imm.toInt).natAbs < (q * b.toInt).natAbs)) ∧ 2 ^ 63 ≤ q) ∧
    (∃ (s : State) (d : Nat) (l : Nat) (c : Nat) (w : AWord) (x : Ctx) (r : ARec) (q : Int), let a := r.reg w.srcA; let b := r.reg w.srcB; r.holds w.cond.toNat = true ∧ s.Runs d l 0x0D w c x r ∧ b ≠ 0 ∧ (2 * (a.toInt * w.imm.toInt - q * b.toInt).natAbs < b.toInt.natAbs ∨ (2 * (a.toInt * w.imm.toInt - q * b.toInt).natAbs = b.toInt.natAbs ∧ (a.toInt * w.imm.toInt).natAbs < (q * b.toInt).natAbs)) ∧ q ≤ -(2 ^ 63)) ∧
    (∃ (s : State) (d : Nat) (l : Nat) (c : Nat) (w : AWord) (x : Ctx) (r : ARec), r.holds w.cond.toNat = true ∧ s.Runs d l 0x0E w c x r) ∧
    (∃ (s : State) (d : Nat) (l : Nat) (c : Nat) (w : AWord) (x : Ctx) (r : ARec), r.holds w.cond.toNat = true ∧ s.Runs d l 0x10 w c x r) ∧
    (∃ (s : State) (d : Nat) (l : Nat) (c : Nat) (w : AWord) (x : Ctx) (r : ARec), r.holds w.cond.toNat = true ∧ s.Runs d l 0x11 w c x r) ∧
    (∃ (s : State) (d : Nat) (l : Nat) (c : Nat) (w : AWord) (x : Ctx) (r : ARec), r.holds w.cond.toNat = true ∧ s.Runs d l 0x12 w c x r) ∧
    (∃ (s : State) (d : Nat) (l : Nat) (c : Nat) (w : AWord) (x : Ctx) (r : ARec), r.holds w.cond.toNat = true ∧ s.Runs d l 0x13 w c x r) ∧
    (∃ (s : State) (d : Nat) (l : Nat) (c : Nat) (w : AWord) (x : Ctx) (r : ARec), r.holds w.cond.toNat = true ∧ s.Runs d l 0x14 w c x r) ∧
    (∃ (s : State) (d : Nat) (l : Nat) (c : Nat) (w : AWord) (x : Ctx) (r : ARec), r.holds w.cond.toNat = true ∧ s.Runs d l 0x15 w c x r) ∧
    (∃ (s : State) (d : Nat) (l : Nat) (c : Nat) (w : AWord) (x : Ctx) (r : ARec), r.holds w.cond.toNat = true ∧ s.Runs d l 0x16 w c x r) ∧
    (∃ (s : State) (d : Nat) (l : Nat) (c : Nat) (w : AWord) (x : Ctx) (r : ARec), let a := r.reg w.srcA; r.holds w.cond.toNat = true ∧ s.Runs d l 0x17 w c x r ∧ a.toInt ≠ -(2 ^ 63)) ∧
    (∃ (s : State) (d : Nat) (l : Nat) (c : Nat) (w : AWord) (x : Ctx) (r : ARec), let a := r.reg w.srcA; r.holds w.cond.toNat = true ∧ s.Runs d l 0x17 w c x r ∧ a.toInt = -(2 ^ 63)) ∧
    (∃ (s : State) (d : Nat) (l : Nat) (c : Nat) (w : AWord) (x : Ctx) (r : ARec) (q : Nat), let a := r.reg w.srcA; r.holds w.cond.toNat = true ∧ s.Runs d l 0x18 w c x r ∧ q * q ≤ a.toNat ∧ a.toNat < (q + 1) * (q + 1)) ∧
    (∃ (s : State) (d : Nat) (l : Nat) (c : Nat) (w : AWord) (x : Ctx) (r : ARec), r.holds w.cond.toNat = true ∧ s.Runs d l 0x20 w c x r) ∧
    (∃ (s : State) (d : Nat) (l : Nat) (c : Nat) (w : AWord) (x : Ctx) (r : ARec), r.holds w.cond.toNat = true ∧ s.Runs d l 0x21 w c x r) :=
  ⟨⟨tRun 0x08 (tw) (tr (2 ^ 63 - 1) 5), 0, 2, 0, tw, tQ (tr (2 ^ 63 - 1) 5), tr (2 ^ 63 - 1) 5, by decide +kernel⟩,
   ⟨tRun 0x09 (tw) (tr (-9) 5), 0, 2, 0, tw, tQ (tr (-9) 5), tr (-9) 5, by decide +kernel⟩,
   ⟨tRun 0x0A (tw) (tr (-(2 ^ 40)) (2 ^ 40)), 0, 2, 0, tw, tQ (tr (-(2 ^ 40)) (2 ^ 40)), tr (-(2 ^ 40)) (2 ^ 40), by decide +kernel⟩,
   ⟨tRun 0x0B (tw) (tr 9 0), 0, 2, 0, tw, tQ (tr 9 0), tr 9 0, by dsimp only; decide +kernel⟩,
   ⟨tRun 0x0B (tw) (tr (-9) 4), 0, 2, 0, tw, tQ (tr (-9) 4), tr (-9) 4, by dsimp only; decide +kernel⟩,
   ⟨tRun 0x0B (tw) (tr (-(2 ^ 63)) (-1)), 0, 2, 0, tw, tQ (tr (-(2 ^ 63)) (-1)), tr (-(2 ^ 63)) (-1), by dsimp only; decide +kernel⟩,
   ⟨tRun 0x0C (tw) (tr 9 0), 0, 2, 0, tw, tQ (tr 9 0), tr 9 0, by dsimp only; decide +kernel⟩,
   ⟨tRun 0x0C (tw) (tr 9 2), 0, 2, 0, tw, tQ (tr 9 2), tr 9 2, by dsimp only; decide +kernel⟩,
   ⟨tRun 0x0C (tw) (tr (-9) 4), 0, 2, 0, tw, tQ (tr (-9) 4), tr (-9) 4, -2, by dsimp only; decide +kernel⟩,
   ⟨tRun 0x0D (tw) (tr 9 0), 0, 2, 0, tw, tQ (tr 9 0), tr 9 0, by dsimp only; decide +kernel⟩,
   ⟨tRun 0x0D (tw) (tr 10 4), 0, 2, 0, tw, tQ (tr 10 4), tr 10 4, 18, by dsimp only; decide +kernel⟩,
   ⟨tRun 0x0D (tw) (tr (2 ^ 62) 1), 0, 2, 0, tw, tQ (tr (2 ^ 62) 1), tr (2 ^ 62) 1, 7 * 2 ^ 62, by dsimp only; decide +kernel⟩,
   ⟨tRun 0x0D (tw) (tr (-(2 ^ 62)) 1), 0, 2, 0, tw, tQ (tr (-(2 ^ 62)) 1), tr (-(2 ^ 62)) 1, -(7 * 2 ^ 62), by dsimp only; decide +kernel⟩,
   ⟨tRun 0x0E (tw) (tr 9 0), 0, 2, 0, tw, tQ (tr 9 0), tr 9 0, by decide +kernel⟩,
   ⟨tRun 0x10 (tw) (tr (-9) 0), 0, 2, 0, tw, tQ (tr (-9) 0), tr (-9) 0, by decide +kernel⟩,
   ⟨tRun 0x11 (tw) (tr (-9) 0), 0, 2, 0, tw, tQ (tr (-9) 0), tr (-9) 0, by decide +kernel⟩,
   ⟨tRun 0x12 (tw) (tr (-9) 5), 0, 2, 0, tw, tQ (tr (-9) 5), tr (-9) 5, by decide +kernel⟩,
   ⟨tRun 0x13 (tw) (tr (-9) 5), 0, 2, 0, tw, tQ (tr (-9) 5), tr (-9) 5, by decide +kernel⟩,
   ⟨tRun 0x14 (tw) (tr (-9) 5), 0, 2, 0, tw, tQ (tr (-9) 5), tr (-9) 5, by decide +kernel⟩,
   ⟨tRun 0x15 (tw) (tr (-9) 5), 0, 2, 0, tw, tQ (tr (-9) 5), tr (-9) 5, by decide +kernel⟩,
   ⟨tRun 0x16 (tw) (tr (-9) 5), 0, 2, 0, tw, tQ (tr (-9) 5), tr (-9) 5, by decide +kernel⟩,
   ⟨tRun 0x17 (tw) (tr (-9) 5), 0, 2, 0, tw, tQ (tr (-9) 5), tr (-9) 5, by dsimp only; decide +kernel⟩,
   ⟨tRun 0x17 (tw) (tr (-(2 ^ 63)) 5), 0, 2, 0, tw, tQ (tr (-(2 ^ 63)) 5), tr (-(2 ^ 63)) 5, by dsimp only; decide +kernel⟩,
   ⟨tRun 0x18 (tw) (tr 170 5), 0, 2, 0, tw, tQ (tr 170 5), tr 170 5, 13, by dsimp only; decide +kernel⟩,
   ⟨tRun 0x20 (tw) (tr (-9) 5), 0, 2, 0, tw, tQ (tr (-9) 5), tr (-9) 5, by decide +kernel⟩,
   ⟨tRun 0x21 (tw) (tr (-9) 5), 0, 2, 0, tw, tQ (tr (-9) 5), tr (-9) 5, by decide +kernel⟩⟩

/-- The hypotheses of O38 can be met, clause by clause. -/
theorem witness_ControlWords :
    (∃ (s : State) (i : Instr) (d : Nat) (l : Nat) (op : Nat) (c : Nat) (w : AWord) (x : Ctx) (r : ARec), wordOf i = some (d, l, op, w) ∧ s.Runs d l op w c x r ∧ r.holds w.cond.toNat = false) ∧
    (∃ (s : State) (d : Nat) (l : Nat) (c : Nat) (w : AWord) (x : Ctx) (r : ARec), r.holds w.cond.toNat = true ∧ s.Runs d l 0x00 w c x r) ∧
    (∃ (s : State) (d : Nat) (l : Nat) (c : Nat) (w : AWord) (x : Ctx) (r : ARec), r.holds w.cond.toNat = true ∧ s.Runs d l 0x01 w c x r) ∧
    (∃ (s : State) (d : Nat) (l : Nat) (c : Nat) (w : AWord) (x : Ctx) (r : ARec), r.holds w.cond.toNat = true ∧ s.Runs d l 0x02 w c x r) ∧
    (∃ (s : State) (d : Nat) (l : Nat) (c : Nat) (w : AWord) (x : Ctx) (r : ARec), r.holds w.cond.toNat = true ∧ s.Runs d l 0x03 w c x r ∧ r.stated w.aux.toNat = true) ∧
    (∃ (s : State) (d : Nat) (l : Nat) (c : Nat) (w : AWord) (x : Ctx) (r : ARec), r.holds w.cond.toNat = true ∧ s.Runs d l 0x03 w c x r ∧ r.stated w.aux.toNat = false) ∧
    (∃ (s : State) (d : Nat) (l : Nat) (c : Nat) (w : AWord) (x : Ctx) (r : ARec), r.holds w.cond.toNat = true ∧ s.Runs d l 0x04 w c x r ∧ w.aux = 0x10) ∧
    (∃ (s : State) (d : Nat) (l : Nat) (c : Nat) (w : AWord) (x : Ctx) (r : ARec), r.holds w.cond.toNat = true ∧ s.Runs d l 0x04 w c x r ∧ w.aux = 0x11) ∧
    (∃ (s : State) (d : Nat) (l : Nat) (c : Nat) (w : AWord) (x : Ctx) (r : ARec), r.holds w.cond.toNat = true ∧ s.Runs d l 0x04 w c x r ∧ w.aux = 0x12) ∧
    (∃ (s : State) (d : Nat) (l : Nat) (c : Nat) (w : AWord) (x : Ctx) (r : ARec), r.holds w.cond.toNat = true ∧ s.Runs d l 0x28 w c x r) ∧
    (∃ (s : State) (d : Nat) (l : Nat) (c : Nat) (w : AWord) (x : Ctx) (r : ARec), let a := r.reg w.srcA; r.holds w.cond.toNat = true ∧ s.Runs d l 0x30 w c x r ∧ 0 ≤ a.toInt ∧ a.toInt ≤ 1023) ∧
    (∃ (s : State) (d : Nat) (l : Nat) (c : Nat) (w : AWord) (x : Ctx) (r : ARec), let a := r.reg w.srcA; r.holds w.cond.toNat = true ∧ s.Runs d l 0x30 w c x r ∧ (a.toInt < 0 ∨ 1023 < a.toInt)) ∧
    (∃ (s : State) (d : Nat) (l : Nat) (c : Nat) (w : AWord) (x : Ctx) (r : ARec), let a := r.reg w.srcA; let b := r.reg w.srcB; r.holds w.cond.toNat = true ∧ s.Runs d l 0x31 w c x r ∧ a.toInt ≤ b.toInt) ∧
    (∃ (s : State) (d : Nat) (l : Nat) (c : Nat) (w : AWord) (x : Ctx) (r : ARec), let a := r.reg w.srcA; let b := r.reg w.srcB; r.holds w.cond.toNat = true ∧ s.Runs d l 0x31 w c x r ∧ b.toInt < a.toInt) ∧
    (∃ (s : State) (d : Nat) (l : Nat) (c : Nat) (w : AWord) (x : Ctx) (r : ARec), r.holds w.cond.toNat = true ∧ s.Runs d l 0x32 w c x r) ∧
    (∃ (s : State) (d : Nat) (l : Nat) (c : Nat) (w : AWord) (x : Ctx) (r : ARec), r.holds w.cond.toNat = true ∧ s.Runs d l 0x38 w c x r ∧ r.passes < 4 ∧ r.long = false) ∧
    (∃ (s : State) (d : Nat) (l : Nat) (c : Nat) (w : AWord) (x : Ctx) (r : ARec), r.holds w.cond.toNat = true ∧ s.Runs d l 0x38 w c x r ∧ r.passes < 4 ∧ r.long = true) ∧
    (∃ (s : State) (d : Nat) (l : Nat) (c : Nat) (w : AWord) (x : Ctx) (r : ARec), r.holds w.cond.toNat = true ∧ s.Runs d l 0x38 w c x r ∧ 4 ≤ r.passes) ∧
    (∃ (s : State) (d : Nat) (l : Nat) (c : Nat) (w : AWord) (x : Ctx) (r : ARec) (ev : XEvent) (q : List XEvent), r.holds w.cond.toNat = true ∧ s.Runs d l 0x39 w c x r ∧ r.ready = ev :: q) ∧
    (∃ (s : State) (d : Nat) (l : Nat) (c : Nat) (w : AWord) (x : Ctx) (r : ARec), r.holds w.cond.toNat = true ∧ s.Runs d l 0x39 w c x r ∧ r.ready = [] ∧ r.coming ≠ []) ∧
    (∃ (s : State) (d : Nat) (l : Nat) (c : Nat) (w : AWord) (x : Ctx) (r : ARec), r.holds w.cond.toNat = true ∧ s.Runs d l 0x39 w c x r ∧ r.ready = [] ∧ r.coming = []) ∧
    (∃ (s : State) (d : Nat) (l : Nat) (c : Nat) (w : AWord) (x : Ctx) (r : ARec), r.holds w.cond.toNat = true ∧ s.Runs d l 0x3C w c x r) ∧
    (∃ (s : State) (d : Nat) (l : Nat) (c : Nat) (w : AWord) (x : Ctx) (r : ARec), r.holds w.cond.toNat = true ∧ s.Runs d l 0x3D w c x r) ∧
    (∃ (s : State) (d : Nat) (l : Nat) (c : Nat) (w : AWord) (x : Ctx) (r : ARec), r.holds w.cond.toNat = true ∧ s.Runs d l 0x3F w c x r) ∧
    (∃ (s : State) (d : Nat) (l : Nat) (c : Nat) (x : Ctx) (r : ARec) (ev : XEvent) (q : List XEvent), s.laneRec d l = some (c, r) ∧ s.ctx c = some x ∧ r.coming = ev :: q ∧ r.waiting = true) ∧
    (∃ (s : State) (d : Nat) (l : Nat) (c : Nat) (x : Ctx) (r : ARec) (ev : XEvent) (q : List XEvent), s.laneRec d l = some (c, r) ∧ s.ctx c = some x ∧ r.coming = ev :: q ∧ r.waiting = false) ∧
    (∃ (s : State) (d : Nat) (l : Nat) (c : Nat) (x : Ctx) (r : ARec), s.laneRec d l = some (c, r) ∧ s.ctx c = some x ∧ r.waiting = false ∧ (2 ^ 20 ≤ r.steps ∨ s.fetch r = none)) :=
  ⟨⟨tRun 0x08 (tw 1) (tr 5 6), .wAdd 0 2 (tw 1), 0, 2, 0x08, 0, tw 1, tQ (tr 5 6), tr 5 6, by decide +kernel⟩,
   ⟨tRun 0x00 (tw) (tr 5 6), 0, 2, 0, tw, tQ (tr 5 6), tr 5 6, by decide +kernel⟩,
   ⟨tRun 0x01 (tw) (tr 5 6), 0, 2, 0, tw, tQ (tr 5 6), tr 5 6, by decide +kernel⟩,
   ⟨tRun 0x02 (tw) (tr 5 6), 0, 2, 0, tw, tQ (tr 5 6), tr 5 6, by decide +kernel⟩,
   ⟨tRun 0x03 (tw 0 7 2) (tr 5 6), 0, 2, 0, tw 0 7 2, tQ (tr 5 6), tr 5 6, by decide +kernel⟩,
   ⟨tRun 0x03 (tw 0 7 2) ({ tr 5 6 with items := [] }), 0, 2, 0, tw 0 7 2, tQ ({ tr 5 6 with items := [] }), { tr 5 6 with items := [] }, by decide +kernel⟩,
   ⟨tRun 0x04 (tw 0 7 0x10) (tr 5 6), 0, 2, 0, tw 0 7 0x10, tQ (tr 5 6), tr 5 6, by decide +kernel⟩,
   ⟨tRun 0x04 (tw 0 7 0x11) (tr 5 6), 0, 2, 0, tw 0 7 0x11, tQ (tr 5 6), tr 5 6, by decide +kernel⟩,
   ⟨tRun 0x04 (tw 0 7 0x12) (tr 5 6), 0, 2, 0, tw 0 7 0x12, tQ (tr 5 6), tr 5 6, by decide +kernel⟩,
   ⟨tRun 0x28 (tw) (tr 5 6), 0, 2, 0, tw, tQ (tr 5 6), tr 5 6, by decide +kernel⟩,
   ⟨tRun 0x30 (tw) (tr 513 6), 0, 2, 0, tw, tQ (tr 513 6), tr 513 6, by dsimp only; decide +kernel⟩,
   ⟨tRun 0x30 (tw) (tr (-1) 6), 0, 2, 0, tw, tQ (tr (-1) 6), tr (-1) 6, by dsimp only; decide +kernel⟩,
   ⟨tRun 0x31 (tw) (tr 500 520), 0, 2, 0, tw, tQ (tr 500 520), tr 500 520, by dsimp only; decide +kernel⟩,
   ⟨tRun 0x31 (tw) (tr 520 500), 0, 2, 0, tw, tQ (tr 520 500), tr 520 500, by dsimp only; decide +kernel⟩,
   ⟨tRun 0x32 (tw) (tr (-6400) 3), 0, 2, 0, tw, tQ (tr (-6400) 3), tr (-6400) 3, by decide +kernel⟩,
   ⟨tRun 0x38 (tw) (tr 5 6), 0, 2, 0, tw, tQ (tr 5 6), tr 5 6, by decide +kernel⟩,
   ⟨tRun 0x38 (tw) ({ tr 5 6 with long := true }), 0, 2, 0, tw, tQ ({ tr 5 6 with long := true }), { tr 5 6 with long := true }, by decide +kernel⟩,
   ⟨tRun 0x38 (tw) ({ tr 5 6 with passes := 4 }), 0, 2, 0, tw, tQ ({ tr 5 6 with passes := 4 }), { tr 5 6 with passes := 4 }, by decide +kernel⟩,
   ⟨tRun 0x39 (tw) ({ tr 5 6 with ready := [{ dir := 1, xlo := 2, xmid := 3, xhi := 4 }, {}] }), 0, 2, 0, tw, tQ ({ tr 5 6 with ready := [{ dir := 1, xlo := 2, xmid := 3, xhi := 4 }, {}] }), { tr 5 6 with ready := [{ dir := 1, xlo := 2, xmid := 3, xhi := 4 }, {}] }, { dir := 1, xlo := 2, xmid := 3, xhi := 4 }, [{}], by decide +kernel⟩,
   ⟨tRun 0x39 (tw) ({ tr 5 6 with coming := [{ dir := 1, xlo := 2, xmid := 3, xhi := 4 }] }), 0, 2, 0, tw, tQ ({ tr 5 6 with coming := [{ dir := 1, xlo := 2, xmid := 3, xhi := 4 }] }), { tr 5 6 with coming := [{ dir := 1, xlo := 2, xmid := 3, xhi := 4 }] }, by decide +kernel⟩,
   ⟨tRun 0x39 (tw) (tr 5 6), 0, 2, 0, tw, tQ (tr 5 6), tr 5 6, by decide +kernel⟩,
   ⟨tRun 0x3C (tw) (tr 5 6), 0, 2, 0, tw, tQ (tr 5 6), tr 5 6, by decide +kernel⟩,
   ⟨tRun 0x3D (tw 0 0x1234) (tr 5 6), 0, 2, 0, tw 0 0x1234, tQ (tr 5 6), tr 5 6, by decide +kernel⟩,
   ⟨tRun 0x3F (tw) (tr 5 6), 0, 2, 0, tw, tQ (tr 5 6), tr 5 6, by decide +kernel⟩,
   ⟨tRun 0x00 (tw) ({ tr 5 6 with coming := [{ dir := 1, xlo := 2, xmid := 3, xhi := 4 }, {}], waiting := true }), 0, 2, 0, tQ ({ tr 5 6 with coming := [{ dir := 1, xlo := 2, xmid := 3, xhi := 4 }, {}], waiting := true }), { tr 5 6 with coming := [{ dir := 1, xlo := 2, xmid := 3, xhi := 4 }, {}], waiting := true }, { dir := 1, xlo := 2, xmid := 3, xhi := 4 }, [{}], by decide +kernel⟩,
   ⟨tRun 0x00 (tw) ({ tr 5 6 with coming := [{ dir := 1, xlo := 2, xmid := 3, xhi := 4 }, {}] }), 0, 2, 0, tQ ({ tr 5 6 with coming := [{ dir := 1, xlo := 2, xmid := 3, xhi := 4 }, {}] }), { tr 5 6 with coming := [{ dir := 1, xlo := 2, xmid := 3, xhi := 4 }, {}] }, { dir := 1, xlo := 2, xmid := 3, xhi := 4 }, [{}], by decide +kernel⟩,
   ⟨tRun 0x00 (tw) ({ tr 5 6 with steps := 2 ^ 20 }), 0, 2, 0, tQ ({ tr 5 6 with steps := 2 ^ 20 }), { tr 5 6 with steps := 2 ^ 20 }, by decide +kernel⟩⟩

set_option maxRecDepth 100000 in
/-- The hypotheses of O39 can be met, clause by clause. -/
theorem witness_AssayBlocks :
    (∃ (s : State) (c : Nat) (x : Ctx) (r : ARec) (rest : List ARec), s.ctx c = some x ∧ x.assays = r :: rest ∧ r.ended = false) ∧
    (∃ (s : State) (c : Nat) (x : Ctx) (r : ARec) (rest : List ARec), s.ctx c = some x ∧ x.assays = r :: rest ∧ r.ended = true ∧ s.held c r.seq = none) ∧
    (∃ (s : State) (c : Nat) (x : Ctx) (r : ARec) (rest : List ARec) (g : Segment), s.ctx c = some x ∧ x.assays = r :: rest ∧ r.ended = true ∧ s.held c r.seq = some g) ∧
    (∃ (s : State) (p : Nat), Served s p ∧ ownerOf p = s.steward ∧ s.ctxs.all (fun c => !c.2.bound || decide (s.cN c.1 O.ASSAY_PROGRAM < 32)) = true ∧ bit (s.get O.SEC_LOCKS) 0 = false ∧ s.astore.job = none ∧ imgCheck (s.blob 0 O.ASTORE_IMAGE) = none) ∧
    (∃ (s : State) (p : Nat) (k : Nat) (i : Instr), Served s p ∧ ownerOf p = s.steward ∧ s.ctxs.all (fun c => !c.2.bound || decide (s.cN c.1 O.ASSAY_PROGRAM < 32)) = true ∧ bit (s.get O.SEC_LOCKS) 0 = false ∧ s.astore.job = none ∧ imgCheck (s.blob 0 O.ASTORE_IMAGE) = some k ∧ (i = Instr.astoreLoadImage p ∨ i = .astoreLoadAndStore p)) ∧
    (∃ (s : State) (p : Nat), Served s p ∧ ownerOf p = s.steward ∧ s.ctxs.all (fun c => !c.2.bound || decide (s.cN c.1 O.ASSAY_PROGRAM < 32)) = true ∧ bit (s.get O.SEC_LOCKS) 0 = false ∧ s.astore.job = none) ∧
    (∃ (s : State) (p : Nat) (i : Instr), Served s p ∧ ownerOf p = s.steward ∧ (bit (s.get O.SEC_LOCKS) 0 = true ∨ s.astore.job.isSome = true ∨ ∃ q ∈ s.ctxs, q.2.bound = true ∧ 32 ≤ s.cN q.1 O.ASSAY_PROGRAM) ∧ (i = Instr.astoreLoadImage p ∨ i = .astoreLoadAndStore p ∨ i = .astoreEmpty p)) ∧
    (∃ (s : State) (v : Nat) (b : List Byte), s.astore.job = some (v, b)) :=
  ⟨⟨t0 (tQ (tr 5 6)), 0, tQ (tr 5 6), tr 5 6, [{ tr 5 6 with tm := 960, lanes := [] }], by decide +kernel⟩,
   ⟨t0 (tQ { tr 5 6 with ended := true }), 0, tQ { tr 5 6 with ended := true }, { tr 5 6 with ended := true }, [{ tr 5 6 with ended := true, tm := 960, lanes := [] }], by decide +kernel⟩,
   ⟨t0 { tQ { tr 5 6 with ended := true } with table := [tH] }, 0, { tQ { tr 5 6 with ended := true } with table := [tH] }, { tr 5 6 with ended := true }, [{ tr 5 6 with ended := true, tm := 960, lanes := [] }], tH, by decide +kernel⟩,
   ⟨tAst tImg, 32, by decide +kernel⟩,
   ⟨tAst (tImg ++ [1]), 32, 4, .astoreLoadImage 32, by decide +kernel⟩,
   ⟨tAst [], 32, by decide +kernel⟩,
   ⟨tObj tR [(0, O.SEC_LOCKS, 1)], 32, .astoreEmpty 32, by decide +kernel⟩,
   ⟨{ tR with astore := { job := some (2, tImg) } }, 2, tImg, by decide +kernel⟩⟩

/-- The hypotheses of O40 can be met, clause by clause. -/
theorem witness_MemoryControl :
    (∃ (s : State) (d : Nat) (pc : Nat), s.served d = true ∧ d < s.halves.length ∧ pc < 16 ∧ (s.stack (d / 2)).selfRefresh.contains (chanOf d pc) = false ∧ (s.half d).owed pc < s.num O.MEM_POSTPONE_MAX) ∧
    (∃ (s : State) (d : Nat) (pc : Nat), s.served d = true ∧ d < s.halves.length ∧ pc < 16 ∧ (s.stack (d / 2)).selfRefresh.contains (chanOf d pc) = false ∧ s.num O.MEM_POSTPONE_MAX ≤ (s.half d).owed pc) ∧
    (∃ (s : State) (d : Nat) (pc : Nat), s.served d = true ∧ d < s.halves.length ∧ pc < 16 ∧ (s.stack (d / 2)).selfRefresh.contains (chanOf d pc) = false) ∧
    (∃ (s : State) (d : Nat) (pc : Nat), s.served d = true ∧ d < s.halves.length ∧ pc < 16 ∧ (s.stack (d / 2)).selfRefresh.contains (chanOf d pc) = false ∧ (s.half d).owed pc ≠ 0) ∧
    (∃ (s : State) (st : Nat) (ch : Nat), st < s.D / 2 ∧ st < s.hbm.length ∧ ch < 16 ∧ s.served (2 * st + ch / 8) = true ∧ s.srAllowed = true ∧ s.chanOwes st ch = false ∧ s.chanBusy st ch = false ∧ (s.stack st).selfRefresh.contains ch = false) ∧
    (∃ (s : State) (st : Nat) (ch : Nat), st < s.D / 2 ∧ st < s.hbm.length ∧ ch < 16 ∧ (s.chanOwes st ch = true ∨ s.chanBusy st ch = true ∨ s.served (2 * st + ch / 8) = false)) ∧
    (∃ (s : State) (st : Nat) (ch : Nat), st < s.D / 2 ∧ st < s.hbm.length ∧ ch < 16 ∧ (s.stack st).selfRefresh.contains ch = true ∧ s.served (2 * st + ch / 8) = true) ∧
    (∃ (s : State) (d : Nat) (ch : Nat) (k : Nat) (r : Bool) (bad : List Nat), s.served d = true ∧ d < s.halves.length ∧ ch < 8 ∧ (s.stack (d / 2)).selfRefresh.contains (8 * (d % 2) + ch) = false ∧ (kvGet (s.half d).stepFrom ch).getD 0 ≤ s.now ∧ kvGet (s.half d).refreshAt ch ≠ some s.cycle ∧ (s.half d).retrain = some (ch, k, r) ∧ (∀ pc ∈ bad, pc / 2 ≠ ch)) ∧
    (∃ (s : State) (d : Nat) (ch : Nat) (k : Nat) (bad : List Nat), s.served d = true ∧ d < s.halves.length ∧ ch < 8 ∧ (s.stack (d / 2)).selfRefresh.contains (8 * (d % 2) + ch) = false ∧ (kvGet (s.half d).stepFrom ch).getD 0 ≤ s.now ∧ kvGet (s.half d).refreshAt ch ≠ some s.cycle ∧ (s.half d).retrain = some (ch, k, false) ∧ (∃ pc ∈ bad, pc / 2 = ch)) ∧
    (∃ (s : State) (d : Nat) (ch : Nat) (k : Nat), s.served d = true ∧ d < s.halves.length ∧ ch < 8 ∧ (s.stack (d / 2)).selfRefresh.contains (8 * (d % 2) + ch) = false ∧ (kvGet (s.half d).stepFrom ch).getD 0 ≤ s.now ∧ kvGet (s.half d).refreshAt ch ≠ some s.cycle ∧ (s.half d).retrain = some (ch, k, true) ∧ s.restarting = false ∧ ((s.half d).spare = 0 → (s.half d).spared = none)) ∧
    (∃ (s : State) (d : Nat) (ch : Nat), s.served d = true ∧ d < s.halves.length ∧ ch < 8 ∧ (s.stack (d / 2)).selfRefresh.contains (8 * (d % 2) + ch) = false ∧ (kvGet (s.half d).stepFrom ch).getD 0 ≤ s.now ∧ kvGet (s.half d).refreshAt ch ≠ some s.cycle ∧ (s.half d).retrain = none) ∧
    (∃ (s : State) (d : Nat) (ch : Nat), s.mayStep d ch = true ∧ d < s.halves.length ∧ kvGet (s.half d).refreshAt ch = some s.cycle) ∧
    (∃ (s : State) (d : Nat) (ch : Nat), s.now < (kvGet (s.half d).stepFrom ch).getD 0) ∧
    (∃ (s : State) (d : Nat) (pc : Nat), s.served d = true ∧ d < s.halves.length ∧ pc < 16) ∧
    (∃ (s : State) (d : Nat) (pc : Nat), s.served d = true ∧ d < s.halves.length ∧ pc < 16) ∧
    (∃ (s : State) (d : Nat) (pc : Nat), s.served d = true ∧ d < s.halves.length ∧ pc < 16 ∧ (s.half d).spared ≠ some pc ∧ pc ∉ (s.half d).failed ∧ s.restarting = false ∧ (s.half d).spare = 0) ∧
    (∃ (s : State) (d : Nat) (pc : Nat) (q : MemReq), s.served d = true ∧ d < s.halves.length ∧ pc < 16 ∧ (s.half d).spared ≠ some pc ∧ pc ∉ (s.half d).failed ∧ s.restarting = false ∧ (s.half d).spare = 0 ∧ (s.half d).written = [] ∧ (s.half d).queue.find? (fun r => r.pc == pc) = some q) ∧
    (∃ (s : State) (d : Nat) (pc : Nat), s.served d = true ∧ d < s.halves.length ∧ pc < 16 ∧ (s.half d).spared ≠ some pc ∧ pc ∉ (s.half d).failed ∧ s.restarting = false ∧ (s.half d).spare = 0 ∧ (s.half d).written = []) ∧
    (∃ (s : State) (d : Nat) (pc : Nat) (u : Nat), s.served d = true ∧ d < s.halves.length ∧ pc < 16 ∧ (s.half d).spared ≠ some pc ∧ pc ∉ (s.half d).failed ∧ s.restarting = false ∧ (s.half d).spare = 0 ∧ (s.half d).written = [] ∧ unitPc u = pc ∧ u < reserveUnit) ∧
    (∃ (s : State) (d : Nat) (pc : Nat), s.served d = true ∧ d < s.halves.length ∧ pc < 16 ∧ (s.half d).spared ≠ some pc ∧ pc ∉ (s.half d).failed ∧ s.restarting = false ∧ (s.half d).spare ≠ 0) ∧
    (∃ (s : State) (d : Nat) (pc : Nat), s.served d = true ∧ d < s.halves.length ∧ pc < 16 ∧ (s.half d).spared ≠ some pc ∧ pc ∉ (s.half d).failed ∧ s.restarting = true) ∧
    (∃ (s : State) (d : Nat), d < s.halves.length ∧ (s.half d).copying = true ∧ s.served d = true) ∧
    (∃ (s : State) (d : Nat) (u : Nat), d < s.halves.length ∧ (s.half d).copying = true ∧ s.served d = true ∧ (s.half d).redirects u = true ∧ (s.half d).uncopied u = true ∧ (s.half d).poison.length < 4096) ∧
    (∃ (h : HalfCtl) (f : Nat) (u : Nat), h.spared = some f ∧ f < 16 ∧ unitPc u = f ∧ u < reserveUnit) ∧
    (∃ (s : State) (p : Nat) (d : Nat) (pc : Nat), Served s p ∧ d < s.D ∧ d < s.halves.length ∧ pc < 16 ∧ ownerOf p = s.steward ∧ (s.half d).spare = 0 ∧ (s.die d).st ≠ .off ∧ (s.die d).st ≠ .lost ∧ s.restarting = false ∧ (s.half d).spared ≠ some pc ∧ pc ∉ (s.half d).failed) ∧
    (∃ (s : State) (p : Nat) (d : Nat) (pc : Nat), Served s p ∧ d < s.D ∧ d < s.halves.length ∧ pc < 16 ∧ ownerOf p = s.steward ∧ (s.half d).spare ≠ 0) ∧
    (∃ (s : State) (p : Nat) (d : Nat) (pc : Nat), Served s p ∧ d < s.D ∧ d < s.halves.length ∧ pc < 16 ∧ ownerOf p ≠ s.steward) ∧
    (∃ (s : State) (d : Nat), s.served d = true ∧ d < s.halves.length ∧ s.working = true ∧ s.num O.MEM_SCRUB_ENABLE = 1 ∧ (s.half d).scrub + 1 < unitsOfHalf ∧ (s.half d).queuesEmpty (unitPc (s.physUnit d (s.half d).scrub)) = true) ∧
    (∃ (s : State) (d : Nat), s.served d = true ∧ d < s.halves.length ∧ s.working = true ∧ s.num O.MEM_SCRUB_ENABLE = 1 ∧ (s.half d).scrub + 1 < unitsOfHalf ∧ (s.half d).queuesEmpty (unitPc (s.physUnit d (s.half d).scrub)) = true ∧ (s.half d).poison.length < 4096) ∧
    (∃ (s : State) (d : Nat), s.served d = true ∧ d < s.halves.length ∧ s.working = true ∧ s.num O.MEM_SCRUB_ENABLE = 1 ∧ (s.half d).scrub + 1 < unitsOfHalf ∧ (s.half d).queuesEmpty (unitPc (s.physUnit d (s.half d).scrub)) = false ∧ s.agedAt ((s.half d).scrubAt.getD s.now) 10000 = false) ∧
    (∃ (s : State) (d : Nat) (o : Nat), d < s.D ∧ d < s.dies.length ∧ d / 2 < s.hbm.length ∧ (s.stack (d / 2)).st = 2 ∧ o = (if d % 2 = 0 then d + 1 else d - 1) ∧ (s.die o).st ≠ .lost ∧ (s.die o).st ≠ .off) ∧
    (∃ (s : State) (d : Nat) (o : Nat), d < s.D ∧ d < s.dies.length ∧ d / 2 < s.hbm.length ∧ (s.stack (d / 2)).st = 2 ∧ o = (if d % 2 = 0 then d + 1 else d - 1) ∧ ((s.die o).st = .lost ∨ (s.die o).st = .off)) :=
  ⟨⟨tM, 2, 3, by decide +kernel⟩,
   ⟨tH2 { postponed := [(3, 100)] }, 2, 3, by decide +kernel⟩,
   ⟨tH2 { postponed := [(3, 100)] }, 2, 3, by decide +kernel⟩,
   ⟨tH2 { postponed := [(3, 2)] }, 2, 3, by decide +kernel⟩,
   ⟨tObj tM [(0, O.MEM_IDLE_SR_US, 100)], 1, 3, by decide +kernel⟩,
   ⟨tH2 { postponed := [(6, 2)] }, 1, 3, by decide +kernel⟩,
   ⟨{ tM with hbm := List.replicate 4 { st := 3, selfRefresh := [3, 4] } }, 1, 3, by decide +kernel⟩,
   ⟨tH2 { retrain := some (3, 1, true) }, 2, 3, 1, true, [5], by decide +kernel⟩,
   ⟨tH2 { retrain := some (3, 1, false) }, 2, 3, 1, [6, 7], by decide +kernel⟩,
   ⟨tH2 { retrain := some (3, 1, true) }, 2, 3, 1, by decide +kernel⟩,
   ⟨tM, 2, 3, by decide +kernel⟩,
   ⟨tH2 { refreshAt := [(3, 0)] }, 2, 3, by decide +kernel⟩,
   ⟨tH2 { stepFrom := [(3, 80000)] }, 2, 3, by decide +kernel⟩,
   ⟨tM, 2, 3, by decide +kernel⟩,
   ⟨tM, 2, 3, by decide +kernel⟩,
   ⟨tM, 2, 15, by decide +kernel⟩,
   ⟨tH2 { queue := [tMq 3 0, tMq 5 0] }, 2, 3, tMq 3 0, by decide +kernel⟩,
   ⟨tM, 2, 3, by decide +kernel⟩,
   ⟨tM, 2, 3, 3, by decide +kernel⟩,
   ⟨tH2 { spare := 2, spared := some 5 }, 2, 3, by decide +kernel⟩,
   ⟨{ tM with hubRestart := true }, 2, 3, by decide +kernel⟩,
   ⟨tH2 { spare := 1, spared := some 5, copying := true }, 2, by decide +kernel⟩,
   ⟨tH2 { spare := 1, spared := some 5, copying := true }, 2, 5, by decide +kernel⟩,
   ⟨{ spare := 1, spared := some 3, copying := true }, 3, 3, by decide +kernel⟩,
   ⟨{ tS with hbm := List.replicate 4 { st := 2 } }, 0, 2, 3, by decide +kernel⟩,
   ⟨tObj (tH2 { spare := 2, spared := some 5 }) [(0, O.STEWARD_NAMED, 0x10)], 32, 2, 3, by decide +kernel⟩,
   ⟨{ tS with hbm := List.replicate 4 { st := 2 } }, 32, 2, 3, by decide +kernel⟩,
   ⟨tObj tM [(0, O.MEM_SCRUB_ENABLE, 1)], 2, by decide +kernel⟩,
   ⟨tObj tM [(0, O.MEM_SCRUB_ENABLE, 1)], 2, by decide +kernel⟩,
   ⟨tObj (tH2 { rtWaits := [0] }) [(0, O.MEM_SCRUB_ENABLE, 1)], 2, by decide +kernel⟩,
   ⟨tM, 2, 3, by decide +kernel⟩,
   ⟨tDie 3 { Die.reset with st := .lost } tM, 2, 3, by decide +kernel⟩⟩

/-- The hypotheses of O41 can be met, clause by clause. -/
theorem witness_CxlMemory :
    (∃ (s : State) (l : Nat), l < 16 ∧ l < s.lds.length ∧ (s.ld l).st = .enabled) ∧
    (∃ (s : State) (l : Nat), l < 16 ∧ l < s.lds.length ∧ (s.ld l).st = .disabling) ∧
    (∃ (s : State) (l : Nat), l < 16 ∧ l < s.lds.length ∧ ((s.ld l).st = .allocated ∨ (s.ld l).st = .unallocated)) ∧
    (∃ (s : State) (l : Nat) (r : Nat) (rs : List Nat) (a : Option Nat) (as : List (Option Nat)) (q : Option (Nat × MemReq)) (qs : List (Option (Nat × MemReq))) (x : Nat) (c : Nat), l < 16 ∧ l < s.lds.length ∧ (s.ld l).reads = r :: rs ∧ (s.ld l).readsAddr = a :: as ∧ (s.ld l).readsReq = q :: qs ∧ a = some x ∧ s.resolve x = some (c, false) ∧ (∀ d y, q = some (d, y) → s.bulkTurn d y = true) ∧ s.poisoned c = false ∧ (∀ d y, q = some (d, y) → y.onSpare = false)) ∧
    (∃ (s : State) (l : Nat) (r : Nat) (rs : List Nat) (a : Option Nat) (as : List (Option Nat)) (q : Option (Nat × MemReq)) (qs : List (Option (Nat × MemReq))) (x : Nat) (c : Nat) (d : Nat) (y : MemReq), l < 16 ∧ l < s.lds.length ∧ (s.ld l).reads = r :: rs ∧ (s.ld l).readsAddr = a :: as ∧ (s.ld l).readsReq = q :: qs ∧ a = some x ∧ s.resolve x = some (c, false) ∧ (∀ d y, q = some (d, y) → s.bulkTurn d y = true) ∧ s.poisoned c = false ∧ q = some (d, y) ∧ y.onSpare = true) ∧
    (∃ (s : State) (l : Nat) (r : Nat) (rs : List Nat) (a : Option Nat) (as : List (Option Nat)) (q : Option (Nat × MemReq)) (qs : List (Option (Nat × MemReq))) (x : Nat) (c : Nat), l < 16 ∧ l < s.lds.length ∧ (s.ld l).reads = r :: rs ∧ (s.ld l).readsAddr = a :: as ∧ (s.ld l).readsReq = q :: qs ∧ a = some x ∧ s.resolve x = some (c, false) ∧ (∀ d y, q = some (d, y) → s.bulkTurn d y = true) ∧ s.served (c / halfBytes) = true ∧ c / halfBytes < s.halves.length ∧ (s.half (c / halfBytes)).poison.length < 4096) ∧
    (∃ (s : State) (l : Nat) (r : Nat) (rs : List Nat) (a : Option Nat) (as : List (Option Nat)) (q : Option (Nat × MemReq)) (qs : List (Option (Nat × MemReq))), l < 16 ∧ l < s.lds.length ∧ (s.ld l).reads = r :: rs ∧ (s.ld l).readsAddr = a :: as ∧ (s.ld l).readsReq = q :: qs ∧ a = none ∧ (∀ d y, q = some (d, y) → s.bulkTurn d y = true)) ∧
    (∃ (s : State) (l : Nat) (r : Nat) (rs : List Nat) (a : Option Nat) (as : List (Option Nat)) (q : Option (Nat × MemReq)) (qs : List (Option (Nat × MemReq))) (d : Nat) (y : MemReq), l < 16 ∧ l < s.lds.length ∧ (s.ld l).reads = r :: rs ∧ (s.ld l).readsAddr = a :: as ∧ (s.ld l).readsReq = q :: qs ∧ q = some (d, y) ∧ s.bulkTurn d y = false) ∧
    (∃ (s : State) (l : Nat) (hpa : Nat) (mask : List Bool) (data : List Byte) (e : Ecc) (c : Nat), l < 16 ∧ (s.ld l).st = .enabled ∧ data.length = 64 ∧ mask.length = 64 ∧ s.hpaMap l (hpa / 64 * 64) = some (c, true) ∧ s.inHalf c = true ∧ c % 64 = 0 ∧ s.lostUnit c = false ∧ (mask.all id = true ∨ (s.poisoned c = false ∧ e = .clean))) ∧
    (∃ (s : State) (l : Nat) (hpa : Nat) (mask : List Bool) (data : List Byte) (e : Ecc) (c : Nat), l < 16 ∧ (s.ld l).st = .enabled ∧ data.length = 64 ∧ mask.length = 64 ∧ s.hpaMap l (hpa / 64 * 64) = some (c, true) ∧ s.inHalf c = true ∧ mask.all id = false ∧ s.poisoned c = true ∧ e = .clean) ∧
    (∃ (s : State) (l : Nat) (hpa : Nat) (mask : List Bool) (data : List Byte) (e : Ecc) (c : Nat), l < 16 ∧ (s.ld l).st = .enabled ∧ data.length = 64 ∧ mask.length = 64 ∧ s.hpaMap l (hpa / 64 * 64) = some (c, true) ∧ s.inHalf c = true ∧ mask.all id = false ∧ e = .failed) ∧
    (∃ (s : State) (l : Nat) (hpa : Nat) (mask : List Bool) (data : List Byte), l < 16 ∧ (s.ld l).st = .enabled ∧ data.length = 64 ∧ mask.length = 64 ∧ (∀ c, s.hpaMap l (hpa / 64 * 64) ≠ some (c, true))) ∧
    (∃ (s : State) (l : Nat) (off : Nat) (n : Nat) (k : Bool), l < 16 ∧ Served s l ∧ apertureOk off n = true ∧ kvGet s.ports (dpId l (s.selected l) k).key = none) ∧
    (∃ (s : State) (l : Nat) (off : Nat) (n : Nat) (k : Bool) (x : Port), l < 16 ∧ Served s l ∧ apertureOk off n = true ∧ k = false ∧ kvGet s.ports l = some x ∧ s.dpStop l (s.selected l) (dpId l (s.selected l) false) x n = none ∧ (∀ i, i < (s.obj l O.DP_LENGTH).toNat → (s.dpByte l (s.selected l) x i).2 = false) ∧ (∀ i, ∀ a ∈ s.dpAddrs (s.selected l) x i, (s.resolve (a / 64 * 64)).isSome = true)) ∧
    (∃ (s : State) (l : Nat) (off : Nat) (n : Nat) (k : Bool) (x : Port) (data : List Byte), l < 16 ∧ Served s l ∧ apertureOk off n = true ∧ k = false ∧ kvGet s.ports l = some x ∧ 4 ≤ x.target ∧ s.dpStop l (s.selected l) (dpId l (s.selected l) false) x data.length = none ∧ data.length = n) ∧
    (∃ (s : State) (l : Nat) (off : Nat) (n : Nat) (data : List Byte), data.length = n ∧ l < 16 ∧ s.serves l = true ∧ (off % 8 ≠ 0 ∨ n % 8 ≠ 0 ∨ n < 8 ∨ 512 < n)) ∧
    (∃ (s : State) (l : Nat) (off : Nat) (n : Nat) (data : List Byte), data.length = n ∧ l < 16 ∧ s.serves l = true ∧ (off % 8 ≠ 0 ∨ n % 8 ≠ 0 ∨ n < 8 ∨ 512 < n)) ∧
    (∃ (s : State) (l : Nat) (n : Nat) (data : List Byte), data.length = n ∧ s.serves l = false) ∧
    (∃ (s : State) (l : Nat) (n : Nat) (data : List Byte), data.length = n ∧ s.serves l = false) :=
  ⟨⟨tX0, 0, by decide +kernel⟩,
   ⟨{ tX0 with lds := tX0.lds.set 0 { st := .disabling } }, 0, by decide +kernel⟩,
   ⟨tX0, 1, by decide +kernel⟩,
   ⟨{ tX0 with lds := tX0.lds.set 0 { st := .enabled, alloc := 4, reads := [0x40, 0x80], readsAddr := [some 0x30000040, some 0x30000080], readsReq := [none, none] } }, 0, 0x40, [0x80], some 0x30000040, [some 0x30000080], none, [none], 0x30000040, 0x30000040, by and_intros <;> first | decide +kernel | exact nofun⟩,
   ⟨{ tX0 with lds := tX0.lds.set 0 { st := .enabled, alloc := 4, reads := [0x40, 0x80], readsAddr := [some 0x30000040, some 0x30000080], readsReq := [some (0, { pc := unitPc (0x30000040 / 64), arrived := 0, ld := 0, onSpare := true }), none] }, halves := tX0.halves.set 0 { queue := [{ pc := unitPc (0x30000040 / 64), arrived := 0, ld := 0, onSpare := true }] } }, 0, 0x40, [0x80], some 0x30000040, [some 0x30000080], some (0, { pc := unitPc (0x30000040 / 64), arrived := 0, ld := 0, onSpare := true }), [none], 0x30000040, 0x30000040, 0, { pc := unitPc (0x30000040 / 64), arrived := 0, ld := 0, onSpare := true }, by and_intros <;> first | decide +kernel | exact all_some (by decide +kernel) | exact all_some2 (by decide +kernel) | rfl⟩,
   ⟨{ tX0 with hbm := List.replicate 4 { st := 2 }, lds := tX0.lds.set 0 { st := .enabled, alloc := 4, reads := [0x40, 0x80], readsAddr := [some 0x30000040, some 0x30000080], readsReq := [none, none] } }, 0, 0x40, [0x80], some 0x30000040, [some 0x30000080], none, [none], 0x30000040, 0x30000040, by and_intros <;> first | decide +kernel | exact nofun⟩,
   ⟨{ tX0 with lds := tX0.lds.set 0 { st := .enabled, alloc := 4, reads := [0x40, 0x80], readsAddr := [none, some 0x30000080], readsReq := [none, none] } }, 0, 0x40, [0x80], none, [some 0x30000080], none, [none], by and_intros <;> first | decide +kernel | exact nofun⟩,
   ⟨{ tX0 with lds := tX0.lds.set 0 { st := .enabled, alloc := 4, reads := [0x40, 0x80], readsAddr := [none, some 0x30000080], readsReq := [some (1, tMq 3 0), none] }, halves := tX0.halves.set 1 { queue := [tMq 3 1, tMq 3 0] } }, 0, 0x40, [0x80], none, [some 0x30000080], some (1, tMq 3 0), [none], 1, tMq 3 0, by decide +kernel⟩,
   ⟨tX0, 0, 0x45, (List.range 64).map fun i => decide (i % 2 = 0), (List.range 64).map fun i => BitVec.ofNat 8 (i + 1), .clean, 0x30000040, by decide +kernel⟩,
   ⟨tX0p, 0, 0x45, (List.range 64).map fun i => decide (i % 2 = 0), List.replicate 64 5, .clean, 0x30000040, by decide +kernel⟩,
   ⟨tX0, 0, 0x45, (List.range 64).map fun i => decide (i % 2 = 0), List.replicate 64 5, .failed, 0x30000040, by decide +kernel⟩,
   ⟨tX0, 0, 0x10000045, List.replicate 64 true, List.replicate 64 5, ⟨by decide, by decide +kernel, by decide +kernel, by decide +kernel, by have h : tX0.hpaMap 0 (0x10000045 / 64 * 64) = none := (by decide +kernel); intro c; rw [h]; exact nofun⟩⟩,
   ⟨tL, 0, 8, 16, false, by decide +kernel⟩,
   ⟨tPort { target := 5, select := 3 } 8 24 tBlkL, 0, 8, 8, false, { target := 5, select := 3 }, by and_intros <;> first | decide +kernel | exact nofun⟩,
   ⟨tPort { target := 5, select := 3 } 8 24 tBlkL, 0, 8, 8, false, { target := 5, select := 3 }, List.replicate 8 1, by decide +kernel⟩,
   ⟨tL, 0, 4, 8, List.replicate 8 1, by decide +kernel⟩,
   ⟨tL, 0, 4, 8, List.replicate 8 1, by decide +kernel⟩,
   ⟨tR, 0, 8, List.replicate 8 1, by decide +kernel⟩,
   ⟨tR, 0, 8, List.replicate 8 1, by decide +kernel⟩⟩

/-- The hypotheses of O42 can be met, clause by clause. -/
theorem witness_DataPorts :
    (∃ (s : State) (p : Nat) (k : Bool), let c := s.selected p; let q := dpId p c k; Served s p ∧ (k = true → ownerOf p = s.ctxOwner c) ∧ kvGet s.ports q.key = none ∧ s.dpErrs p c q k = []) ∧
    (∃ (s : State) (p : Nat) (k : Bool) (e : Nat) (es : List Nat), let c := s.selected p; let q := dpId p c k; Served s p ∧ (k = true → ownerOf p = s.ctxOwner c) ∧ kvGet s.ports q.key = none ∧ s.dpErrs p c q k = e :: es) ∧
    (∃ (s : State) (p : Nat) (k : Bool), let c := s.selected p; let q := dpId p c k; Served s p ∧ (k = true → ownerOf p = s.ctxOwner c) ∧ kvGet s.ports q.key = none) ∧
    (∃ (s : State) (p : Nat) (k : Bool), let c := s.selected p; let q := dpId p c k; Served s p ∧ (k = true → ownerOf p = s.ctxOwner c) ∧ kvGet s.ports q.key = none) ∧
    (∃ (s : State) (p : Nat) (k : Bool), let c := s.selected p; let q := dpId p c k; Served s p ∧ (k = true → ownerOf p = s.ctxOwner c) ∧ kvGet s.ports q.key = none) ∧
    (∃ (s : State) (p : Nat) (k : Bool) (x : Port), let c := s.selected p; let q := dpId p c k; Served s p ∧ (k = true → ownerOf p = s.ctxOwner c) ∧ kvGet s.ports q.key = some x ∧ (x.target ≠ 1 ∨ x.wrote = false)) ∧
    (∃ (s : State) (p : Nat) (k : Bool) (x : Port), let c := s.selected p; let q := dpId p c k; Served s p ∧ (k = true → ownerOf p = s.ctxOwner c) ∧ kvGet s.ports q.key = some x ∧ 4 ≤ x.target ∧ s.dpStop p c q x 8 = none) ∧
    (∃ (s : State) (p : Nat) (k : Bool), Served s p ∧ k = true ∧ ownerOf p ≠ s.ctxOwner (s.selected p)) ∧
    (∃ (s : State) (p : Nat) (x : Port), let c := s.selected p; let o := (s.obj p O.DP_OFFSET).toNat; let m := (s.obj p O.DP_LENGTH).toNat; Served s p ∧ kvGet s.ports p = some x ∧ s.dpStop p c (dpId p c false) x 8 = none ∧ o + 8 < m ∧ (∀ i, i < m → (s.dpByte p c x i).2 = false) ∧ (∀ i, ∀ a ∈ s.dpAddrs c x i, (s.resolve (a / 64 * 64)).isSome = true)) ∧
    (∃ (s : State) (p : Nat) (x : Port) (a : Nat), let c := s.selected p; let o := (s.obj p O.DP_OFFSET).toNat; let m := (s.obj p O.DP_LENGTH).toNat; Served s p ∧ kvGet s.ports p = some x ∧ s.dpStop p c (dpId p c false) x 8 = none ∧ o + 8 < m ∧ x.target = 2 ∧ (s.capWindow (ownerOf p) (x.select + o) 8 true).isSome = true ∧ s.resolve (x.select + o) = some (a, false) ∧ a % 64 ≤ 56 ∧ s.lostUnit a = false) ∧
    (∃ (s : State) (p : Nat) (x : Port), let c := s.selected p; let o := (s.obj p O.DP_OFFSET).toNat; let m := (s.obj p O.DP_LENGTH).toNat; Served s p ∧ kvGet s.ports p = some x ∧ s.dpStop p c (dpId p c false) x 8 = none ∧ o + 8 < m ∧ x.target = 1 ∧ x.write = true) :=
  ⟨⟨tObj tBlk [(0, O.CDP_TARGET, 5), (0, O.CDP_SELECT, 3), (0, O.CDP_OFFSET, 9)], 32, true, by dsimp only; decide +kernel⟩,
   ⟨tObj tR [(32, O.DP_TARGET, 9)], 32, false, 1, [], by dsimp only; decide +kernel⟩,
   ⟨tR, 32, false, by dsimp only; decide +kernel⟩,
   ⟨tR, 32, false, by dsimp only; decide +kernel⟩,
   ⟨tR, 32, false, by dsimp only; decide +kernel⟩,
   ⟨{ tBlk with ports := [(32, { target := 5, select := 3 }), (100, { target := 5, select := 3 })] }, 32, false, { target := 5, select := 3 }, by dsimp only; decide +kernel⟩,
   ⟨{ tBlk with ports := [(32, { target := 5, select := 3 }), (100, { target := 5, select := 3 })] }, 32, true, { target := 5, select := 3 }, by dsimp only; decide +kernel⟩,
   ⟨tCtx 0 { owner := 3 }, 32, true, by decide +kernel⟩,
   ⟨tPort { target := 5, select := 3 } 8 24 tBlkL, 0, { target := 5, select := 3 }, by dsimp only; and_intros <;> first | decide +kernel | exact nofun⟩,
   ⟨tPort { target := 2, select := 0x100040 } 8 24 (tObj { tX0 with mem := [(0x100049, 9), (0x100050, 8)] } [(0, O.CAPWIN_o_w, 2 ^ 63 + 2 ^ 62 + 2 ^ 32 + 1)]), 0, { target := 2, select := 0x100040 }, 0x100048, by dsimp only; decide +kernel⟩,
   ⟨tPort { target := 1, select := 0x27100100, write := true } 8 24 tL, 0, { target := 1, select := 0x27100100, write := true }, by dsimp only; decide +kernel⟩⟩

/-- The hypotheses of O43 can be met, clause by clause. -/
theorem witness_Movers :
    (∃ (s : State) (p : Nat) (x : Nat), Served s p ∧ s.mvSel p = x ∧ s.chan x = none ∧ s.moverLost x = false) ∧
    (∃ (s : State) (p : Nat) (x : Nat), Served s p ∧ s.mvSel p = x ∧ (s.chan x).isSome = true) ∧
    (∃ (s : State) (p : Nat) (x : Nat) (c : Chan), let i := (s.obj x O.MV_CH_FIRST).toNat; Served s p ∧ s.mvSel p = x ∧ s.chan x = some c ∧ ownerOf p = c.owner ∧ (c.st = .idle ∨ c.st = .failed) ∧ s.moverLost x = false ∧ s.descErr x i = 0 ∧ ((s.desc x i).req ≠ 0xFF ∨ s.get O.POWER_PHASE = 1 ∨ s.get O.POWER_PHASE = 3)) ∧
    (∃ (s : State) (p : Nat) (x : Nat) (c : Chan), let i := (s.obj x O.MV_CH_FIRST).toNat; Served s p ∧ s.mvSel p = x ∧ s.chan x = some c ∧ ownerOf p = c.owner ∧ (c.st = .idle ∨ c.st = .failed) ∧ s.moverLost x = false ∧ s.descErr x i ≠ 0) ∧
    (∃ (s : State) (p : Nat) (x : Nat) (c : Chan), Served s p ∧ s.mvSel p = x ∧ s.chan x = some c ∧ ownerOf p = c.owner ∧ c.st = .running) ∧
    (∃ (s : State) (p : Nat) (x : Nat) (c : Chan), Served s p ∧ s.mvSel p = x ∧ s.chan x = some c ∧ ownerOf p = c.owner ∧ (c.st = .parked ∨ c.st = .quenched) ∧ c.credits = 0 ∧ c.again = false ∧ (s.desc x c.cur).req ≠ 0xFF) ∧
    (∃ (s : State) (p : Nat) (x : Nat) (c : Chan), let d := s.desc x c.cur; let n := min d.burst (d.len - c.done); Served s p ∧ s.mvSel p = x ∧ s.chan x = some c ∧ ownerOf p = c.owner ∧ c.st = .quenched ∧ c.again = true ∧ c.inFlight = false ∧ s.flying (moverOf x) < 8 ∧ s.quenched.contains (moverOf x) = false ∧ s.moverOn (moverOf x) = true ∧ d.sk ≠ 3 ∧ s.descForm x d = 0 ∧ s.sideErr x d d.sk (d.src + c.done) n true = 0 ∧ s.sideErr x d d.dk (d.dst + c.done) n false = 0) ∧
    (∃ (s : State) (p : Nat) (x : Nat) (c : Chan), Served s p ∧ s.mvSel p = x ∧ s.chan x = some c ∧ ownerOf p = c.owner ∧ (c.st = .running ∨ c.st = .parked ∨ c.st = .quenched ∨ c.st = .failed)) ∧
    (∃ (s : State) (p : Nat) (x : Nat) (c : Chan), Served s p ∧ s.mvSel p = x ∧ s.chan x = some c ∧ ownerOf p = c.owner ∧ c.st ≠ .free ∧ c.inFlight = false) ∧
    (∃ (s : State) (p : Nat) (x : Nat) (c : Chan), Served s p ∧ s.mvSel p = x ∧ s.chan x = some c ∧ ownerOf p = c.owner ∧ c.st ≠ .free ∧ c.inFlight = true) ∧
    (∃ (s : State) (p : Nat) (x : Nat) (c : Chan), Served s p ∧ s.mvSel p = x ∧ s.chan x = some c ∧ ownerOf p = c.owner ∧ c.st ≠ .running) ∧
    (∃ (s : State) (p : Nat) (x : Nat) (c : Chan) (i : Instr), Served s p ∧ s.mvSel p = x ∧ s.chan x = some c ∧ ownerOf p ≠ c.owner ∧ (i = Instr.mvStart p ∨ i = .mvPause p ∨ i = .mvResume p ∨ i = .mvStop p)) ∧
    (∃ (s : State) (m : Nat) (line : Nat) (x : Nat) (c : Chan), line < 18 ∧ s.chan x = some c ∧ (line < 16 ∨ moverOf x = m) ∧ (s.desc x c.cur).req = line ∧ (c.st = .parked ∨ c.st = .quenched) ∧ c.credits < 255 ∧ kvGet s.pulsed (2 ^ 32 + line + (if line < 16 then 0 else 256 * m)) ≠ some (s.now / 48)) ∧
    (∃ (s : State) (x : Nat) (c : Chan), s.chan x = some c ∧ (s.desc x c.cur).req ≠ 18) ∧
    (∃ (s : State) (x : Nat) (c : Chan), s.chan x = some c ∧ (s.desc x c.cur).req = 18 ∧ (c.st = .parked ∨ c.st = .quenched) ∧ c.credits < 255) ∧
    (∃ (s : State) (m : Nat) (line : Nat), kvGet s.pulsed (2 ^ 32 + line + (if line < 16 then 0 else 256 * m)) = some (s.now / 48)) ∧
    (∃ (s : State) (x : Nat) (c : Chan), let d := s.desc x c.cur; let n := min d.burst (d.len - c.done); let a := d.dst + c.done; s.chan x = some c ∧ c.inFlight = true ∧ c.st = .running ∧ c.after = none ∧ c.credits = 0 ∧ c.again = false ∧ (∀ y b, y ≠ x → s.chan y = some b → b.st = .running → b.inFlight = true) ∧ d.req ≠ 0xFF ∧ d.sk = 1 ∧ d.dk = 0 ∧ c.done + n < d.len ∧ a % 64 = 0 ∧ n % 64 = 0 ∧ (∀ i, i < n → s.inHalf (a + i) = true ∧ s.lostUnit (a + i) = false ∧ (a + i) % halfBytes / 64 < reserveUnit)) ∧
    (∃ (s : State) (m : Nat), m ≤ s.D ∧ (∃ q ∈ s.chans, moverOf q.1 = m ∧ s.chan q.1 = some q.2 ∧ q.2.inFlight = true)) ∧
    (∃ (s : State) (m : Nat), (∀ q ∈ s.chans, moverOf q.1 = m → q.2.inFlight = false)) :=
  ⟨⟨tObj tR [(32, O.MV_SELECT, 2)], 32, 2, by decide +kernel⟩,
   ⟨tCh (tc .idle) 5 4 3 0, 32, 2, by decide +kernel⟩,
   ⟨tCh (tc .idle) 5 4 3 0, 32, 2, tc .idle, by dsimp only; decide +kernel⟩,
   ⟨tCh (tc .idle) 4 5 3 0, 32, 2, tc .idle, by dsimp only; decide +kernel⟩,
   ⟨tCh (tc .running) 5 4 3 0, 32, 2, tc .running, by decide +kernel⟩,
   ⟨tCh (tc .parked) 5 4 3 0, 32, 2, tc .parked, by decide +kernel⟩,
   ⟨tCh { tc .quenched with again := true } 5 4 3 0, 32, 2, { tc .quenched with again := true }, by dsimp only; decide +kernel⟩,
   ⟨tCh (tc .quenched) 5 4 3 0, 32, 2, tc .quenched, by decide +kernel⟩,
   ⟨tCh (tc .idle) 5 4 3 0, 32, 2, tc .idle, by decide +kernel⟩,
   ⟨tCh { tc .running with inFlight := true } 5 4 3 0, 32, 2, { tc .running with inFlight := true }, by decide +kernel⟩,
   ⟨tCh (tc .idle) 5 4 3 0, 32, 2, tc .idle, by decide +kernel⟩,
   ⟨tCh { owner := 3 } 5 4 3 0, 32, 2, { owner := 3 }, .mvStop 32, by decide +kernel⟩,
   ⟨tCh (tc .parked) 5 4 3 0, 0, 3, 2, tc .parked, by decide +kernel⟩,
   ⟨tCh (tc .parked) 5 4 3 0, 2, tc .parked, by decide +kernel⟩,
   ⟨tCh { tc .parked with credits := 2 } 5 4 18 0, 2, { tc .parked with credits := 2 }, by decide +kernel⟩,
   ⟨{ tR with pulsed := [(2 ^ 32 + 3, 0)] }, 0, 3, by decide +kernel⟩,
   ⟨tCh { tc .running with inFlight := true } 1 0 3 0x40, 2, { tc .running with inFlight := true }, by dsimp only; and_intros <;> first | decide +kernel | (intro y b h1 h2 h3; change kvGet [(2, { tc .running with inFlight := true }), (3, ({ owner := 5 } : Chan))] y = some b at h2; simp only [kvGet] at h2; rw [if_neg (Ne.symm h1)] at h2; split at h2 <;> cases h2; cases h3)⟩,
   ⟨tCh { tc .running with inFlight := true } 5 4 3 0, 0, by decide +kernel⟩,
   ⟨tCh (tc .running) 5 4 3 0, 0, by decide +kernel⟩⟩

/-- The hypotheses of O44 can be met, clause by clause. -/
theorem witness_RoutesPlanishers :
    (∃ (s : State) (p : Nat) (r : Nat), Served s p ∧ s.evSel p = r ∧ kvGet s.routes r = none) ∧
    (∃ (s : State) (p : Nat) (r : Nat), Served s p ∧ s.evSel p = r ∧ (kvGet s.routes r).isSome = true) ∧
    (∃ (s : State) (p : Nat) (r : Nat) (x : Route), Served s p ∧ s.evSel p = r ∧ kvGet s.routes r = some x ∧ (ownerOf p = x.owner ∨ ownerOf p = s.steward)) ∧
    (∃ (s : State) (p : Nat) (r : Nat) (x : Route), Served s p ∧ s.evSel p = r ∧ kvGet s.routes r = some x ∧ ownerOf p ≠ x.owner ∧ ownerOf p ≠ s.steward) ∧
    (∃ (s : State) (p : Nat) (x : Nat), Served s p ∧ s.plSel p = x ∧ s.plan x = none ∧ (x = 0 ∨ (s.die (x - 1)).st ≠ .lost)) ∧
    (∃ (s : State) (p : Nat) (x : Nat), Served s p ∧ s.plSel p = x ∧ (s.plan x).isSome = true) ∧
    (∃ (s : State) (p : Nat) (x : Nat) (q : Plan) (i : Instr), Served s p ∧ s.plSel p = x ∧ s.plan x = some q ∧ ownerOf p ≠ q.owner ∧ (i = Instr.plStart p ∨ i = .plFinish p ∨ i = .plContinue p ∨ i = .plAbort p)) ∧
    (∃ (s : State) (p : Nat) (x : Nat) (q : Plan), Served s p ∧ s.plSel p = x ∧ s.plan x = some q ∧ ownerOf p = q.owner ∧ q.lost = false ∧ (q.st = 1 ∨ q.st = 4) ∧ s.plBit x 5 = false ∧ (s.plBit x 1 = false ∨ s.plBit x 2 = false)) ∧
    (∃ (s : State) (p : Nat) (x : Nat) (q : Plan), Served s p ∧ s.plSel p = x ∧ s.plan x = some q ∧ ownerOf p = q.owner ∧ q.lost = false ∧ (q.st = 1 ∨ q.st = 4) ∧ s.plBit x 1 = true ∧ s.plBit x 2 = true) ∧
    (∃ (s : State) (p : Nat) (x : Nat) (q : Plan), Served s p ∧ s.plSel p = x ∧ s.plan x = some q ∧ ownerOf p = q.owner ∧ q.lost = false ∧ (q.st = 2 ∨ q.st = 3)) ∧
    (∃ (s : State) (p : Nat) (x : Nat) (q : Plan) (j : Job), Served s p ∧ s.plSel p = x ∧ s.plan x = some q ∧ ownerOf p = q.owner ∧ q.lost = false ∧ q.st = 3 ∧ s.plBit x 5 = false ∧ q.job.resume (s.obj x O.PL_OUT_LIMIT).toNat = j ∧ (j.err = 2 → q.job.err = 2)) ∧
    (∃ (s : State) (p : Nat) (x : Nat) (q : Plan), Served s p ∧ s.plSel p = x ∧ s.plan x = some q ∧ ownerOf p = q.owner ∧ q.lost = false ∧ (q.st = 2 ∨ q.st = 3 ∨ q.st = 5)) ∧
    (∃ (s : State) (p : Nat) (x : Nat) (q : Plan), Served s p ∧ s.plSel p = x ∧ s.plan x = some q ∧ ownerOf p = q.owner ∧ q.lost = false ∧ (q.st = 1 ∨ q.st = 4 ∨ q.st = 5) ∧ q.buf = none) ∧
    (∃ (s : State) (p : Nat) (x : Nat) (q : Plan), Served s p ∧ s.plSel p = x ∧ s.plan x = some q ∧ ownerOf p = q.owner ∧ q.lost = false ∧ q.st ≠ 3) ∧
    (∃ (s : State) (x : Nat) (q : Plan) (j : Job), s.plan x = some q ∧ q.st = 2 ∧ q.job.finish = true ∧ s.plBit x 5 = false ∧ q.job.conclude = j ∧ (j.err = 2 → q.job.err = 2)) ∧
    (∃ (s : State) (x : Nat) (q : Plan) (j : Job), s.plan x = some q ∧ q.st = 2 ∧ q.job.finish = true ∧ s.plBit x 5 = false ∧ q.job.conclude = j ∧ j.err = 2 ∧ q.job.err ≠ 2) ∧
    (∃ (j : Job) (x : Nat), j.err = 0 ∧ j.upset = none ∧ x ≠ j.clear ∧ x ≠ j.endCode) ∧
    (∃ (s : State) (x : Nat) (q : Plan), s.plan x = some q ∧ (q.st ≠ 2 ∨ q.job.finish = false)) :=
  ⟨⟨tObj tR [(32, O.EV_SELECT, 2)], 32, 2, by decide +kernel⟩,
   ⟨tObj { tR with routes := [(2, { owner := 16 })] } [(32, O.EV_SELECT, 2)], 32, 2, by decide +kernel⟩,
   ⟨tObj { tR with routes := [(2, { owner := 16, enable := true })] } [(32, O.EV_SELECT, 2)], 32, 2, { owner := 16, enable := true }, by decide +kernel⟩,
   ⟨tObj { tS with routes := [(2, { owner := 3 })] } [(32, O.EV_SELECT, 2)], 32, 2, { owner := 3 }, by decide +kernel⟩,
   ⟨tObj tR [(32, O.PL_SELECT, 2)], 32, 2, by decide +kernel⟩,
   ⟨tPl { owner := 16 }, 32, 2, by decide +kernel⟩,
   ⟨tPl { owner := 3 }, 32, 2, { owner := 3 }, .plFinish 32, by decide +kernel⟩,
   ⟨tPl { owner := 16, st := 4, job := { inBytes := 5 } }, 32, 2, { owner := 16, st := 4, job := { inBytes := 5 } }, by decide +kernel⟩,
   ⟨tPl { owner := 16 } 6, 32, 2, { owner := 16 }, by decide +kernel⟩,
   ⟨tPl { owner := 16, st := 2 }, 32, 2, { owner := 16, st := 2 }, by decide +kernel⟩,
   ⟨tPl { owner := 16, st := 3, job := { full := true, limit := 64, runBytes := 64 } }, 32, 2, { owner := 16, st := 3, job := { full := true, limit := 64, runBytes := 64 } }, Job.resume { full := true, limit := 64, runBytes := 64 } ((tPl { owner := 16 }).obj 2 O.PL_OUT_LIMIT).toNat, by decide +kernel⟩,
   ⟨tPl { owner := 16, st := 5, job := { err := 2 } }, 32, 2, { owner := 16, st := 5, job := { err := 2 } }, by decide +kernel⟩,
   ⟨tPl { owner := 16 }, 32, 2, { owner := 16 }, by decide +kernel⟩,
   ⟨tPl { owner := 16, st := 2 }, 32, 2, { owner := 16, st := 2 }, by decide +kernel⟩,
   ⟨tPl { owner := 16, st := 2, job := { finish := true } }, 2, { owner := 16, st := 2, job := { finish := true } }, Job.conclude { finish := true }, by decide +kernel⟩,
   ⟨tPl { owner := 16, st := 2, job := { ({} : Job).fresh with header := true, limit := 64, finish := true, w := some 65, wlen := 1, kept := [65], upset := some 0 } }, 2, { owner := 16, st := 2, job := { ({} : Job).fresh with header := true, limit := 64, finish := true, w := some 65, wlen := 1, kept := [65], upset := some 0 } }, Job.conclude { ({} : Job).fresh with header := true, limit := 64, finish := true, w := some 65, wlen := 1, kept := [65], upset := some 0 }, by decide +kernel⟩,
   ⟨({} : Job).fresh, 65, by decide +kernel⟩,
   ⟨tPl { owner := 16, st := 2 }, 2, { owner := 16, st := 2 }, by decide +kernel⟩⟩

/-- The hypotheses of O45 can be met, clause by clause. -/
theorem witness_RasterEngine :
    (∃ (s : State) (p : Nat), Served s p ∧ ownerOf p = s.steward ∧ s.raster.st = 0 ∧ s.startErr = 0) ∧
    (∃ (s : State) (p : Nat), Served s p ∧ ownerOf p = s.steward ∧ s.raster.st = 0 ∧ s.startErr ≠ 0) ∧
    (∃ (s : State) (p : Nat), Served s p ∧ ownerOf p = s.steward ∧ s.raster.st ≠ 0) ∧
    (∃ (s : State) (p : Nat), Served s p ∧ ownerOf p = s.steward ∧ s.raster.st = 1) ∧
    (∃ (s : State) (p : Nat), Served s p ∧ ownerOf p = s.steward ∧ s.raster.st = 2) ∧
    (∃ (s : State) (p : Nat), Served s p ∧ ownerOf p = s.steward ∧ s.raster.st = 0) ∧
    (∃ (s : State) (p : Nat) (i : Instr), Served s p ∧ ownerOf p ≠ s.steward ∧ (i = Instr.rasterStart p ∨ i = .rasterStop p)) ∧
    (∃ (s : State) (l : Nat), s.raster.st = 1 ∧ s.running = true ∧ s.raster.begun = true ∧ l = (s.raster.line + 1) % s.timing.vt ∧ l ≠ 0) ∧
    (∃ (s : State), s.raster.st = 1 ∧ s.running = true ∧ s.raster.begun = true ∧ (s.raster.line + 1) % s.timing.vt = 0 ∧ s.raster.stopping = false) ∧
    (∃ (s : State), s.raster.st = 1 ∧ s.running = true ∧ s.raster.begun = true ∧ (s.raster.line + 1) % s.timing.vt = 0 ∧ s.raster.stopping = true) ∧
    (∃ (s : State), s.raster.st = 1 ∧ s.raster.begun = true ∧ s.raster.done = false ∧ s.timing.va ≤ s.raster.line + 1) ∧
    (∃ (s : State) (o : Nat) (crc : BitVec 32), o < 2 ∧ (s.out o).state = 1 ∧ s.raster.st = 1 ∧ s.raster.done = true ∧ s.raster.begun = true ∧ crc.toNat = s.num O.RASTER_CRC_EXPECTED) ∧
    (∃ (s : State) (o : Nat) (crc : BitVec 32), o < 2 ∧ (s.out o).state = 1 ∧ s.raster.st = 1 ∧ s.raster.done = true ∧ s.raster.begun = true ∧ crc.toNat ≠ s.num O.RASTER_CRC_EXPECTED) ∧
    (∃ (s : State) (p : Nat), let mine := (List.range 8).filter fun l => (s.layer l).owner == some (ownerOf p) && !(s.layer l).leaving; Served s p ∧ mine = []) ∧
    (∃ (s : State) (p : Nat), let mine := (List.range 8).filter fun l => (s.layer l).owner == some (ownerOf p) && !(s.layer l).leaving; Served s p ∧ mine ≠ [] ∧ (∀ l ∈ mine, s.draftErr (ownerOf p) l (s.draft l) = 0) ∧ s.demandOver (s.nextSets mine) 8000000000 = false ∧ s.raster.st = 1 ∧ s.raster.layers.length = 8) ∧
    (∃ (s : State) (p : Nat) (v : Slot), Served s p ∧ v.toNat < 256 ∧ v ≠ 1) ∧
    (∃ (s : State) (p : Nat) (l : Nat), Served s p ∧ l < 8 ∧ s.raster.layers.length = 8 ∧ (s.layer l).owner = none) ∧
    (∃ (s : State) (p : Nat) (l : Nat), Served s p ∧ l < 8 ∧ s.raster.layers.length = 8 ∧ (s.layer l).owner.isSome = true) ∧
    (∃ (s : State) (p : Nat) (l : Nat), Served s p ∧ l < 8 ∧ s.raster.layers.length = 8 ∧ ((s.layer l).owner = some (ownerOf p) ∨ (s.layer l).owner.isSome = true ∧ ownerOf p = s.steward) ∧ s.raster.st = 1) ∧
    (∃ (s : State) (p : Nat) (l : Nat), Served s p ∧ l < 8 ∧ s.raster.layers.length = 8 ∧ (s.layer l).owner ≠ some (ownerOf p) ∧ ownerOf p ≠ s.steward) ∧
    (∃ (s : State) (l : Nat) (q : LayerSet), l < s.raster.layers.length ∧ (s.layer l).pending = some q ∧ (s.layer l).ready = false ∧ s.raster.st = 1) ∧
    (∃ (s : State) (l : Nat) (q : LayerSet) (d : Nat) (o : Nat) (n : Nat), l < s.raster.layers.length ∧ (s.layer l).pending = some q ∧ (s.layer l).ready = false ∧ s.raster.st = 1 ∧ q.kind = 4 ∧ q.plane = some (d, o, n) ∧ d < 8 ∧ o + n ≤ halfBytes ∧ q.planeSize.1 * q.planeSize.2 ≤ n ∧ (s.half d).spared = none ∧ (s.half d).failed = [] ∧ (s.stack (d / 2)).st ≠ 4) ∧
    (∃ (s : State) (p : Nat), let n := (s.obj p O.RBUF_BYTES).toNat; Served s p ∧ allocBuf s (ownerOf p) .raster n = none) ∧
    (∃ (s : State) (p : Nat), let n := (s.obj p O.RBUF_BYTES).toNat; Served s p ∧ (allocBuf s (ownerOf p) .raster n).isSome = true ∧ (∀ d f, (s.half d).spared = some f → f < 16)) ∧
    (∃ (s : State) (p : Nat) (b : HubBuf), Served s p ∧ kvGet s.bufs (s.obj p O.RBUF_TARGET).toNat = some b ∧ b.kind = .raster ∧ b.held = true ∧ (b.owner = ownerOf p ∨ ownerOf p = s.steward) ∧ s.layerRefs (s.obj p O.RBUF_TARGET).toNat = 0) ∧
    (∃ (s : State) (p : Nat), Served s p ∧ kvGet s.bufs (s.obj p O.RBUF_TARGET).toNat = none) ∧
    (∃ (s : State) (o : Nat) (h : Bool), o < 2 ∧ o < s.raster.outs.length ∧ (s.out o).present ≠ h) ∧
    (∃ (s : State) (o : Nat) (rate : Nat) (lanes : Nat), o < 2 ∧ o < s.raster.outs.length ∧ (s.out o).present = true ∧ (rate = 6 ∨ rate = 10 ∨ rate = 20 ∨ rate = 30) ∧ (lanes = 1 ∨ lanes = 2 ∨ lanes = 4)) ∧
    (∃ (s : State) (o : Nat) (h : Bool), o < 2 ∧ o < s.raster.outs.length ∧ (s.out o).present = h) :=
  ⟨⟨tRs 0, 32, by decide +kernel⟩,
   ⟨tObj (tRs 0) [(0, O.RASTER_COMMIT_LINE, 5000)], 32, by decide +kernel⟩,
   ⟨tRs 1, 32, by decide +kernel⟩,
   ⟨tRs 1, 32, by decide +kernel⟩,
   ⟨tRs 2, 32, by decide +kernel⟩,
   ⟨tRs 0, 32, by decide +kernel⟩,
   ⟨tS, 32, .rasterStart 32, by decide +kernel⟩,
   ⟨tRl 5 {}, 6, by decide +kernel⟩,
   ⟨tRl (tR.timing.vt - 1) {}, by decide +kernel⟩,
   ⟨{ tRl (tR.timing.vt - 1) {} with raster := { (tRl (tR.timing.vt - 1) {}).raster with stopping := true } }, by decide +kernel⟩,
   ⟨tRl (tR.timing.va) {}, by decide +kernel⟩,
   ⟨tObj { tRo with raster := { tRo.raster with st := 1, begun := true, done := true } } [(0, O.RASTER_CRC_EXPECTED, 0x12345678)], 1, 0x12345678, by decide +kernel⟩,
   ⟨tObj { tRo with raster := { tRo.raster with st := 1, begun := true, done := true } } [(0, O.RASTER_CRC_EXPECTED, 0x12345678)], 1, 5, by decide +kernel⟩,
   ⟨tRl 5 {}, 32, by dsimp only; decide +kernel⟩,
   ⟨tRl 5 { owner := some 16 }, 32, by dsimp only; decide +kernel⟩,
   ⟨tR, 32, 2, by decide +kernel⟩,
   ⟨tR, 32, 3, by decide +kernel⟩,
   ⟨tRl 5 { owner := some 3 }, 32, 3, by decide +kernel⟩,
   ⟨tRl 5 { owner := some 16 }, 32, 3, by decide +kernel⟩,
   ⟨{ tS with raster := (tRl 5 { owner := some 3 }).raster }, 32, 3, by decide +kernel⟩,
   ⟨tRl 5 { owner := some 16, pending := some {}, ready := false }, 3, {}, by decide +kernel⟩,
   ⟨{ tRl 5 { owner := some 16, pending := some { kind := 4, w := 16, h := 8, points := [0], plane := some (2, 0, 4096) }, ready := false } with hbm := List.replicate 4 { st := 2 } }, 3, { kind := 4, w := 16, h := 8, points := [0], plane := some (2, 0, 4096) }, 2, 0, 4096, by decide +kernel⟩,
   ⟨tObj tR [(32, O.RBUF_BYTES, 0xFFFFFFFF)], 32, by dsimp only; decide +kernel⟩,
   ⟨tObj tR [(32, O.RBUF_BYTES, 65536)], 32, by dsimp only; and_intros <;> first | decide +kernel | (intro d f h; change ((List.replicate 8 ({} : HalfCtl)).getD d {}).spared = some f at h; have e : ∀ n d : Nat, ((List.replicate n ({} : HalfCtl)).getD d {}).spared = none := fun n => n.rec (fun _ => rfl) (fun n ih d => d.rec (ih 0 |> fun _ => rfl) (fun d _ => ih d)); rw [e] at h; cases h)⟩,
   ⟨tObj { tR with bufs := [(7, { owner := 16, kind := .raster, die := 2, off := 0, size := 65536 })] } [(32, O.RBUF_TARGET, 7)], 32, { owner := 16, kind := .raster, die := 2, off := 0, size := 65536 }, by decide +kernel⟩,
   ⟨tObj tR [(32, O.RBUF_TARGET, 7)], 32, by decide +kernel⟩,
   ⟨tR, 1, true, by decide +kernel⟩,
   ⟨tRo, 1, 20, 4, by decide +kernel⟩,
   ⟨tR, 1, false, by decide +kernel⟩⟩

/-- The hypotheses of O46 can be met, clause by clause. -/
theorem witness_ManagerRequests :
    (∃ (s : State), s.awake = true) ∧
    (∃ (s : State) (op : Nat), s.awake = true ∧ fmOpcodes.contains op = false) ∧
    (∃ (s : State), s.awake = true ∧ s.lds.length = 16) ∧
    (∃ (s : State) (b : Byte), s.awake = true ∧ (b.toNat < 16 ∨ b = 0xFF#8)) ∧
    (∃ (s : State) (b : Byte), s.awake = true ∧ 16 ≤ b.toNat ∧ b ≠ 0xFF#8) ∧
    (∃ (s : State) (l : Nat), s.awake = true ∧ l < 16 ∧ (s.ld l).st ≠ .enabled) ∧
    (∃ (s : State) (l : Nat), s.awake = true ∧ l < 16 ∧ (s.ld l).st = .enabled) ∧
    (∃ (s : State) (l : Nat) (k : Nat), s.awake = true ∧ (16 ≤ l ∨ k ≠ 0)) ∧
    (∃ (s : State) (first : Nat) (units : List Nat), s.awake = true ∧ first + units.length ≤ s.ldCount ∧ s.lds.length = 16 ∧ (s.allocsAfter first units).foldl (· + ·) 0 ≤ 48 * s.D) ∧
    (∃ (s : State) (first : Nat) (units : List Nat), s.awake = true ∧ (s.ldCount < first + units.length ∨ 48 * s.D < (s.allocsAfter first units).foldl (· + ·) 0)) ∧
    (∃ (s : State) (l : Nat), s.ldAnswers l = true) ∧
    (∃ (s : State) (l : Nat) (op : Nat), s.ldAnswers l = true ∧ mbOpcodes.contains op = false) ∧
    (∃ (s : State) (l : Nat), s.ldAnswers l = true) :=
  ⟨⟨tR, by decide +kernel⟩,
   ⟨tR, 0x1234, by decide +kernel⟩,
   ⟨tR, by decide +kernel⟩,
   ⟨tLd { st := .enabled }, 2, by decide +kernel⟩,
   ⟨tR, 16, by decide +kernel⟩,
   ⟨tR, 3, by decide +kernel⟩,
   ⟨tCtx 4 { tX .armed with owner := 2 } (tLd { st := .enabled }), 2, by decide +kernel⟩,
   ⟨tR, 16, 0, by decide +kernel⟩,
   ⟨tR, 3, [4, 0, 5], by decide +kernel⟩,
   ⟨tR, 15, [4, 0, 5], by decide +kernel⟩,
   ⟨tLd { st := .enabled, alloc := 4 }, 2, by decide +kernel⟩,
   ⟨tLd { st := .enabled, alloc := 4 }, 2, 0x1234, by decide +kernel⟩,
   ⟨tLd { st := .enabled, alloc := 4, events := [(1, 2, 3), (2, 3, 4)] }, 2, by decide +kernel⟩⟩

/-- The hypotheses of O47 can be met, clause by clause. -/
theorem witness_SecurityRequests :
    (∃ (s : State) (l : Nat), s.ldAnswers l = true) ∧
    (∃ (s : State) (l : Nat), s.ldAnswers l = true ∧ (s.ld l).spdmVersion = true) ∧
    (∃ (s : State) (l : Nat), s.ldAnswers l = true ∧ (s.ld l).spdmVersion = false) ∧
    (∃ (s : State) (l : Nat), s.ldAnswers l = true ∧ (s.ld l).spdmCaps = true) ∧
    (∃ (s : State) (l : Nat), s.ldAnswers l = true ∧ (s.ld l).spdmCaps = false) ∧
    (∃ (s : State) (l : Nat), s.ldAnswers l = true ∧ (s.ld l).spdmAlgs = true) ∧
    (∃ (s : State) (l : Nat) (off : Nat), s.ldAnswers l = true ∧ (s.ld l).spdmAlgs = true ∧ off ≤ Config.hallmarkChain.length) ∧
    (∃ (s : State) (l : Nat) (slot : Nat), s.ldAnswers l = true ∧ (s.ld l).spdmAlgs = true ∧ slot ≠ 0) ∧
    (∃ (s : State) (l : Nat) (off : Nat), s.ldAnswers l = true ∧ (s.ld l).spdmAlgs = true ∧ Config.hallmarkChain.length < off) ∧
    (∃ (s : State) (l : Nat), s.ldAnswers l = true ∧ (s.ld l).spdmAlgs = true) ∧
    (∃ (s : State) (l : Nat) (slot : Nat), s.ldAnswers l = true ∧ (s.ld l).spdmAlgs = true ∧ slot ≠ 0) ∧
    (∃ (s : State) (l : Nat) (i : Nat), s.ldAnswers l = true ∧ (s.ld l).spdmAlgs = true ∧ 1 ≤ i ∧ i ≤ 9) ∧
    (∃ (s : State) (l : Nat) (i : Nat), s.ldAnswers l = true ∧ (s.ld l).spdmAlgs = true ∧ 1 ≤ i ∧ i ≤ 9) ∧
    (∃ (s : State) (l : Nat) (slot : Nat), s.ldAnswers l = true ∧ (s.ld l).spdmAlgs = true ∧ slot ≠ 0) ∧
    (∃ (s : State) (l : Nat) (i : Nat), s.ldAnswers l = true ∧ (s.ld l).spdmAlgs = true ∧ 9 < i ∧ i ≠ 0xFF) ∧
    (∃ (s : State) (l : Nat) (i : Instr), s.ldAnswers l = true ∧ (s.ld l).spdmAlgs = false ∧ (i = Instr.spdmGetDigests l ∨ (∃ k o n, i = .spdmGetCertificate l k o n) ∨ (∃ k n, i = .spdmChallenge l k n) ∨ (∃ g, i = .spdmGetMeasurements l g))) ∧
    (∃ (s : State) (l : Nat), s.ldAnswers l = true) ∧
    (∃ (s : State) (l : Nat) (i : Nat), s.ldAnswers l = true ∧ i < 3) ∧
    (∃ (s : State) (l : Nat) (i : Nat), s.ldAnswers l = true ∧ (i = 1 ∨ i = 2)) ∧
    (∃ (s : State) (l : Nat) (i : Nat), s.ldAnswers l = true ∧ (i = 3 ∨ i = 4)) ∧
    (∃ (s : State) (l : Nat) (i : Instr), s.ldAnswers l = false ∧ (i = Instr.spdmGetVersion l ∨ i = .doeDiscovery l 0 ∨ i = .cdatTableAccess l 0 ∨ i = .identifyMemoryDevice ⟨l, 0x4000⟩)) :=
  ⟨⟨tLd { st := .enabled }, 2, by decide +kernel⟩,
   ⟨tLd { st := .enabled, spdmVersion := true }, 2, by decide +kernel⟩,
   ⟨tLd { st := .enabled }, 2, by decide +kernel⟩,
   ⟨tLd { st := .enabled, spdmCaps := true }, 2, by decide +kernel⟩,
   ⟨tLd { st := .enabled }, 2, by decide +kernel⟩,
   ⟨tLd { st := .enabled, spdmAlgs := true }, 2, by decide +kernel⟩,
   ⟨tLd { st := .enabled, spdmAlgs := true }, 2, 0, ⟨by decide +kernel, by decide +kernel, Nat.zero_le _⟩⟩,
   ⟨tLd { st := .enabled, spdmAlgs := true }, 2, 1, by decide +kernel⟩,
   ⟨tLd { st := .enabled, spdmAlgs := true }, 2, Config.hallmarkChain.length + 1, ⟨by decide +kernel, by decide +kernel, Nat.lt_succ_self _⟩⟩,
   ⟨tLd { st := .enabled, spdmAlgs := true }, 2, by decide +kernel⟩,
   ⟨tLd { st := .enabled, spdmAlgs := true }, 2, 1, by decide +kernel⟩,
   ⟨tLd { st := .enabled, spdmAlgs := true }, 2, 9, by decide +kernel⟩,
   ⟨tLd { st := .enabled, spdmAlgs := true }, 2, 9, by decide +kernel⟩,
   ⟨tLd { st := .enabled, spdmAlgs := true }, 2, 1, by decide +kernel⟩,
   ⟨tLd { st := .enabled, spdmAlgs := true }, 2, 10, by decide +kernel⟩,
   ⟨tLd { st := .enabled }, 2, .spdmGetDigests 2, ⟨by decide +kernel, by decide +kernel, Or.inl rfl⟩⟩,
   ⟨tLd { st := .enabled }, 2, by decide +kernel⟩,
   ⟨tLd { st := .enabled }, 2, 2, by decide +kernel⟩,
   ⟨tLd { st := .enabled }, 2, 2, by decide +kernel⟩,
   ⟨tLd { st := .enabled }, 2, 4, by decide +kernel⟩,
   ⟨tR, 2, .identifyMemoryDevice ⟨2, 0x4000⟩, by decide +kernel⟩⟩

/-- The hypotheses of O48 can be met, clause by clause. -/
theorem witness_LinkAndDevices :
    (∃ (s : State) (width : Nat) (gts : Nat), s.awake = true ∧ s.power.perst = false ∧ bit (s.get O.CXL_STATUS) 0 = false ∧ trainsTo width gts = false) ∧
    (∃ (s : State) (width : Nat) (gts : Nat), s.awake = true ∧ s.power.perst = false ∧ bit (s.get O.CXL_STATUS) 0 = false ∧ (width = 1 ∨ width = 2 ∨ width = 4 ∨ width = 8) ∧ (gts < 8 ∨ gts = 8 ∨ gts = 16 ∨ gts = 32) ∧ gts < 8) ∧
    (∃ (s : State) (width : Nat) (gts : Nat) (sw : Bool), s.awake = true ∧ s.power.perst = false ∧ bit (s.get O.CXL_STATUS) 0 = false ∧ (width = 1 ∨ width = 2 ∨ width = 4 ∨ width = 8) ∧ (gts < 8 ∨ gts = 8 ∨ gts = 16 ∨ gts = 32) ∧ 8 ≤ gts ∧ sw = true ∧ s.modeCfg = 0) ∧
    (∃ (s : State) (width : Nat) (gts : Nat) (sw : Bool), s.awake = true ∧ s.power.perst = false ∧ bit (s.get O.CXL_STATUS) 0 = false ∧ (width = 1 ∨ width = 2 ∨ width = 4 ∨ width = 8) ∧ (gts < 8 ∨ gts = 8 ∨ gts = 16 ∨ gts = 32) ∧ 8 ≤ gts ∧ (sw = false ∨ s.modeCfg ≠ 0) ∧ s.lds.length = 16) ∧
    (∃ (s : State), s.num O.CXL_LINK_WIDTH ≠ 0 ∧ s.lds.length = 16) ∧
    (∃ (s : State) (i : Instr), s.num O.CXL_LINK_WIDTH = 0 ∧ (i = Instr.cxlLinkDown ∨ i = .cxlCorrectableError ∨ i = .cxlUncorrectableError ∨ i = .cxlLinkRecovery)) ∧
    (∃ (l : Nat), l < 16) ∧
    (∃ (s : State) (l : Nat), l < 16 ∧ s.num O.CXL_MODE_ACTIVE ≠ 1 ∧ (s.ld l).st = .enabled ∧ l < s.lds.length) ∧
    (∃ (s : State) (l : Nat), l < 16 ∧ s.num O.CXL_MODE_ACTIVE ≠ 1 ∧ (s.ld l).st ≠ .enabled) ∧
    (∃ (s : State) (l : Nat), l < 16 ∧ s.num O.CXL_MODE_ACTIVE = 1 ∧ (s.ld 0).st = .enabled ∧ 0 < s.lds.length) ∧
    (∃ (s : State) (l : Nat), l < 16 ∧ s.num O.CXL_MODE_ACTIVE ≠ 1 ∧ s.lds.length = 16) ∧
    (∃ (s : State) (l : Nat), l < 16 ∧ (s.ld l).st = .disabling ∧ (s.ld l).reads = [] ∧ (∀ c ∈ s.chans, c.2.owner = l → c.2.inFlight = false) ∧ s.ownerSuspends l = false) ∧
    (∃ (s : State) (l : Nat), l < 16 ∧ ((s.ld l).reads ≠ [] ∨ s.ownerSuspends l = true)) ∧
    (∃ (s : State) (l : Nat) (mse : Bool) (bme : Bool), l < 16 ∧ bit (s.get O.CXL_STATUS) 0 = true ∧ (s.num O.CXL_MODE_ACTIVE = 2 ∨ l = 0) ∧ (s.ld l).st = .allocated ∧ (mse || bme) = true) ∧
    (∃ (s : State) (l : Nat), l < 16 ∧ bit (s.get O.CXL_STATUS) 0 = true ∧ (s.num O.CXL_MODE_ACTIVE = 2 ∨ l = 0) ∧ (s.ld l).st = .enabled) ∧
    (∃ (s : State) (l : Nat), l < 16 ∧ bit (s.get O.CXL_STATUS) 0 = true ∧ ((s.ld l).st = .allocated ∨ (s.ld l).st = .enabled)) :=
  ⟨⟨tR, 16, 32, by decide +kernel⟩,
   ⟨tR, 8, 5, by decide +kernel⟩,
   ⟨{ tR with power := { tR.power with wakePin := true } }, 4, 32, true, by decide +kernel⟩,
   ⟨tR, 8, 32, false, by decide +kernel⟩,
   ⟨tObj (tCtx 4 { tX .armed with owner := 2 } (tLd { st := .enabled })) [(0, O.CXL_LINK_WIDTH, 8)], by decide +kernel⟩,
   ⟨tR, .cxlLinkDown, by decide +kernel⟩,
   ⟨0, by decide +kernel⟩,
   ⟨tObj (tCtx 4 { tX .armed with owner := 2 } (tLd { st := .enabled, reads := [5], readsAddr := [none], readsReq := [none] })) [(0, O.CXL_MODE_ACTIVE, 2)], 2, by decide +kernel⟩,
   ⟨tLd { st := .disabling }, 2, by decide +kernel⟩,
   ⟨tObj { tLd { st := .disabling } with lds := tR.lds.set 0 { st := .enabled } } [(0, O.CXL_MODE_ACTIVE, 1)], 2, by decide +kernel⟩,
   ⟨tObj (tLd { st := .enabled }) [(0, O.CXL_MODE_ACTIVE, 2)], 2, by decide +kernel⟩,
   ⟨tLd { st := .disabling, alloc := 3, mse := true }, 2, by decide +kernel⟩,
   ⟨tLd { st := .disabling, reads := [5] }, 2, by decide +kernel⟩,
   ⟨tObj (tLd { st := .allocated, alloc := 3 }) [(0, O.CXL_MODE_ACTIVE, 2)], 2, true, false, by decide +kernel⟩,
   ⟨tObj (tLd { st := .enabled, alloc := 3 }) [(0, O.CXL_MODE_ACTIVE, 2)], 2, by decide +kernel⟩,
   ⟨tLd { st := .allocated, alloc := 3 }, 2, by decide +kernel⟩⟩

/-- The hypotheses of O49 can be met, clause by clause. -/
theorem witness_InputClaims :
    (∃ (s : State) (p : Nat) (n : Nat), Served s p ∧ p ≤ 32 ∧ n < s.D ∧ s.claimant n = 0xFF) ∧
    (∃ (s : State) (p : Nat) (n : Nat), Served s p ∧ p ≤ 32 ∧ n < s.D ∧ s.claimant n ≠ 0xFF) ∧
    (∃ (s : State) (p : Nat) (n : Nat), Served s p ∧ p ≤ 32 ∧ n < s.D ∧ s.claimant n = ownerOf p) ∧
    (∃ (s : State) (p : Nat) (n : Nat), Served s p ∧ p ≤ 32 ∧ n < s.D ∧ s.claimant n ≠ ownerOf p) ∧
    (∃ (s : State) (p : Nat) (n : Nat), Served s p ∧ p ≤ 32 ∧ n < s.D) ∧
    (∃ (s : State) (p : Nat) (n : Nat), Served s p ∧ p ≤ 32 ∧ n < s.D ∧ s.claimant n ≠ ownerOf p ∧ s.usesInput (ownerOf p) n = false) ∧
    (∃ (s : State) (p : Nat) (n : Nat), Served s p ∧ p ≤ 32 ∧ n < s.D ∧ (s.claimant n = ownerOf p ∨ s.usesInput (ownerOf p) n = true)) ∧
    (∃ (s : State) (p : Nat) (n : Nat), Served s p ∧ p ≤ 32 ∧ n < s.D ∧ ownerOf p = s.steward ∧ s.claimant n ≠ 0xFF) ∧
    (∃ (s : State) (p : Nat) (n : Nat), Served s p ∧ p ≤ 32 ∧ n < s.D ∧ ownerOf p = s.steward ∧ s.claimant n = 0xFF) ∧
    (∃ (s : State) (p : Nat) (n : Nat), Served s p ∧ p ≤ 32 ∧ n < s.D ∧ ownerOf p ≠ s.steward) ∧
    (∃ (s : State) (p : Nat) (n : Nat) (i : Instr), Served s p ∧ p ≤ 32 ∧ s.D ≤ n ∧ n < 16 ∧ (i = Instr.inputClaim p n ∨ i = .inputRelease p n ∨ i = .inputSubscribe p n ∨ i = .inputUnsubscribe p n ∨ i = .inputRevoke p n)) ∧
    (∃ (s : State) (p : Nat) (v : Slot), Served s p ∧ p ≤ 32 ∧ (fld v 0 8 = 0 ∨ 5 < fld v 0 8)) :=
  ⟨⟨tR, 32, 2, by decide +kernel⟩,
   ⟨tObj tR [(0, O.CLAIM_OWNER_n + 2, 3)], 32, 2, by decide +kernel⟩,
   ⟨tObj tR [(0, O.CLAIM_OWNER_n + 2, 16)], 32, 2, by decide +kernel⟩,
   ⟨tObj tR [(0, O.CLAIM_OWNER_n + 2, 3)], 32, 2, by decide +kernel⟩,
   ⟨tObj tR [(0, O.SUBSCRIBERS_n + 2, 9)], 32, 2, by decide +kernel⟩,
   ⟨tObj tR [(0, O.SUBSCRIBERS_n + 2, 0x10009)], 32, 2, by decide +kernel⟩,
   ⟨tObj tR [(0, O.CLAIM_OWNER_n + 2, 16)], 32, 2, by decide +kernel⟩,
   ⟨tObj tR [(0, O.CLAIM_OWNER_n + 2, 3)], 32, 2, by decide +kernel⟩,
   ⟨tR, 32, 2, by decide +kernel⟩,
   ⟨tS, 32, 2, by decide +kernel⟩,
   ⟨tR, 32, 8, .inputClaim 32 8, by decide +kernel⟩,
   ⟨tR, 32, 6, by decide +kernel⟩⟩

/-- The hypotheses of O50 can be met, clause by clause. -/
theorem witness_NetworkManagement :
    (∃ (s : State) (node : Nat), s.canRuns = true ∧ (node = 0 ∨ node = s.can.nodeId) ∧ (s.can.nmt = .preOperational ∨ s.can.nmt = .stopped)) ∧
    (∃ (s : State) (node : Nat), s.canRuns = true ∧ (node = 0 ∨ node = s.can.nodeId) ∧ (s.can.nmt = .operational ∨ s.can.nmt = .stopped)) ∧
    (∃ (s : State) (node : Nat), s.canRuns = true ∧ (node = 0 ∨ node = s.can.nodeId) ∧ (s.can.nmt = .operational ∨ s.can.nmt = .preOperational) ∧ s.can.usdo = none) ∧
    (∃ (s : State) (node : Nat) (u : Usdo), s.canRuns = true ∧ (node = 0 ∨ node = s.can.nodeId) ∧ (s.can.nmt = .operational ∨ s.can.nmt = .preOperational) ∧ s.can.usdo = some u) ∧
    (∃ (s : State) (node : Nat) (i : Instr), s.canRuns = true ∧ (node = 0 ∨ node = s.can.nodeId) ∧ s.can.nmt = .unconfigured ∧ (i = Instr.nmtStart node ∨ i = .nmtStop node ∨ i = .nmtEnterPreoperational node ∨ i = .nmtResetNode node)) ∧
    (∃ (s : State) (node : Nat), s.canRuns = true ∧ (node = 0 ∨ node = s.can.nodeId) ∧ (s.can.nmt ≠ .unconfigured ∨ s.can.pendingId ≠ 0xFF)) ∧
    (∃ (s : State) (node : Nat), s.canRuns = true ∧ (node = 0 ∨ node = s.can.nodeId) ∧ s.can.nmt ≠ .unconfigured) ∧
    (∃ (s : State) (node : Nat) (i : Instr), s.canRuns = true ∧ node ≠ 0 ∧ node ≠ s.can.nodeId ∧ (i = Instr.nmtStart node ∨ i = .nmtStop node ∨ i = .nmtEnterPreoperational node ∨ i = .nmtResetNode node ∨ i = .nmtResetCommunication node)) ∧
    (∃ (s : State), s.Sends) ∧
    (∃ (s : State), s.Sends) ∧
    (∃ (s : State) (a : BitVec 32) (b : BitVec 32) (c : BitVec 32) (d : BitVec 32), s.Sends ∧ (a ≠ s.lssId 0 ∨ b ≠ s.lssId 1 ∨ c ≠ s.lssId 2 ∨ d ≠ s.lssId 3)) ∧
    (∃ (s : State) (id : Byte), s.Sends ∧ s.can.lssConfig = true ∧ ((1 ≤ id.toNat ∧ id.toNat ≤ 127) ∨ id = 0xFF#8)) ∧
    (∃ (s : State) (id : Byte), s.Sends ∧ s.can.lssConfig = true ∧ (id.toNat = 0 ∨ 128 ≤ id.toNat) ∧ id ≠ 0xFF#8) ∧
    (∃ (s : State), s.Sends ∧ s.can.lssConfig = true) ∧
    (∃ (s : State) (a : Nat) (b : Nat), s.Sends ∧ s.can.lssConfig = true ∧ (a ≠ 0 ∨ b ≠ 0)) ∧
    (∃ (s : State) (k : Nat), s.Sends ∧ s.can.lssConfig = true ∧ k < 4) ∧
    (∃ (s : State), s.Sends ∧ s.can.nodeId = 0xFF ∧ s.can.lssConfig = false) ∧
    (∃ (s : State) (v : BitVec 32) (k : Nat) (a : Nat), s.Sends ∧ s.can.nodeId = 0xFF ∧ s.can.lssConfig = false ∧ a = s.can.fastscan ∧ a < 4 ∧ 1 ≤ k ∧ k < 32 ∧ v.toNat / 2 ^ k = (s.lssId a).toNat / 2 ^ k) ∧
    (∃ (s : State) (a : Nat), s.Sends ∧ s.can.nodeId = 0xFF ∧ s.can.lssConfig = false ∧ a = s.can.fastscan ∧ a < 4) ∧
    (∃ (s : State) (v : BitVec 32) (k : Nat) (a : Nat), s.Sends ∧ s.can.nodeId = 0xFF ∧ s.can.lssConfig = false ∧ k < 32 ∧ (a ≠ s.can.fastscan ∨ v.toNat / 2 ^ k ≠ (s.lssId a).toNat / 2 ^ k)) :=
  ⟨⟨tCan (tN .preOperational), 5, by decide +kernel⟩,
   ⟨tCan (tN .operational), 0, by decide +kernel⟩,
   ⟨tCan (tN .operational), 5, by decide +kernel⟩,
   ⟨tCan { tN .operational with usdo := some ⟨0x200101, true, 8, [1], 5⟩ }, 5, ⟨0x200101, true, 8, [1], 5⟩, by decide +kernel⟩,
   ⟨tR, 0, .nmtStop 0, by decide +kernel⟩,
   ⟨tCtx 4 { owner := 16, st := .armed } (tCan { tN .operational with active := [0x8130], rpdoHeld := [(1, [2])] }), 5, by decide +kernel⟩,
   ⟨tCtx 4 { owner := 16, st := .armed } (tCan { tN .operational with active := [0x8130] }), 5, by decide +kernel⟩,
   ⟨tCan (tN .operational), 7, .nmtStart 7, by decide +kernel⟩,
   ⟨tR, by decide +kernel⟩,
   ⟨tR, by decide +kernel⟩,
   ⟨tR, 1, 2, 3, 4, ⟨by decide +kernel, by decide +kernel⟩⟩,
   ⟨tCan { lssConfig := true }, 7, by decide +kernel⟩,
   ⟨tCan { lssConfig := true }, 200, by decide +kernel⟩,
   ⟨tCan { lssConfig := true, pendingId := 9 }, by decide +kernel⟩,
   ⟨tCan { lssConfig := true }, 0, 3, by decide +kernel⟩,
   ⟨tCan { lssConfig := true }, 3, by decide +kernel⟩,
   ⟨tR, by decide +kernel⟩,
   ⟨tCan { fastscan := 2 }, tR.lssId 2, 5, 2, by decide +kernel⟩,
   ⟨tCan { fastscan := 2 }, 2, by decide +kernel⟩,
   ⟨tCan { fastscan := 2 }, 0, 5, 1, by decide +kernel⟩⟩

/-- The hypotheses of O51 can be met, clause by clause. -/
theorem witness_FieldBusHealth :
    (∃ (s : State), s.Sends ∧ s.num O.HB_PRODUCER ≠ 0 ∧ (s.can.nmt = .preOperational ∨ s.can.nmt = .operational ∨ s.can.nmt = .stopped)) ∧
    (∃ (s : State) (node : Nat) (k : Nat), s.hearsBeats = true ∧ s.watcher node = some k) ∧
    (∃ (s : State) (node : Nat), s.hearsBeats = true ∧ s.watcher node = none) ∧
    (∃ (s : State), (s.can.nmt = .unconfigured ∨ s.can.nmt = .initialisation)) ∧
    (∃ (s : State) (k : Nat), s.hearsBeats = true ∧ k < 4 ∧ s.watcher (fld (s.get (O.HB_CONSUMER_k + k)) 16 8) = some k ∧ k ∉ s.can.lost) ∧
    (∃ (s : State), s.canRuns = true ∧ s.can.busOff = false) ∧
    (∃ (s : State), s.can.busOff = true) ∧
    (∃ (s : State), s.canRuns = true) ∧
    (∃ (s : State), s.can.errorPassive = true) ∧
    (∃ (s : State), s.canRuns = true) ∧
    (∃ (s : State), s.can.busOff = false) ∧
    (∃ (s : State), s.can.errorPassive = false) :=
  ⟨⟨tObj (tCan (tN .operational)) [(0, O.HB_PRODUCER, 100)], by decide +kernel⟩,
   ⟨tObj (tCan { tN .operational with lost := [1], active := [0x8130] }) [(0, O.HB_CONSUMER_k + 1, 0x70064)], 7, 1, by decide +kernel⟩,
   ⟨tCan (tN .operational), 7, by decide +kernel⟩,
   ⟨tCan { nmt := .unconfigured }, by decide +kernel⟩,
   ⟨tObj (tCan (tN .operational)) [(0, O.HB_CONSUMER_k + 1, 0x70064)], 1, by decide +kernel⟩,
   ⟨tCan { tN .operational with queue := [{ code := 5 }] }, by decide +kernel⟩,
   ⟨tCan { tN .operational with busOff := true, active := [0x8140] }, by decide +kernel⟩,
   ⟨tCan (tN .operational), by decide +kernel⟩,
   ⟨tCan { tN .operational with errorPassive := true, active := [0x8120] }, by decide +kernel⟩,
   ⟨tCan (tN .operational), by decide +kernel⟩,
   ⟨tR, by decide +kernel⟩,
   ⟨tR, by decide +kernel⟩⟩

/-- The hypotheses of O52 can be met, clause by clause. -/
theorem witness_ProcessData :
    (∃ (s : State) (e : Emcy) (r : List Emcy), s.can.queue = e :: r ∧ s.canServes = true ∧ s.hubRestart = false ∧ bit (s.get O.COB_ID_EMCY) 31 = false) ∧
    (∃ (s : State), s.can.queue = []) ∧
    (∃ (s : State) (p : Nat), Served s p ∧ (ownerOf p = s.steward ∨ p = 32)) ∧
    (∃ (s : State) (p : Nat), Served s p ∧ ownerOf p ≠ s.steward ∧ p ≠ 32) ∧
    (∃ (s : State) (p : Nat) (i : Nat) (v : Slot), Served s p ∧ i ∈ [0x1400, 0x1401, 0x1402, 0x1403, 0x1800, 0x1801, 0x1802, 0x1803] ∧ (ownerOf p = s.steward ∨ p = 32) ∧ v.toNat < 2 ^ 32 ∧ (bit v 31 = true ∨ s.mapOk i = true)) ∧
    (∃ (s : State) (p : Nat) (i : Nat) (v : Slot), Served s p ∧ i ∈ [0x1400, 0x1401, 0x1402, 0x1403, 0x1800, 0x1801, 0x1802, 0x1803] ∧ (ownerOf p = s.steward ∨ p = 32) ∧ v.toNat < 2 ^ 32 ∧ bit v 31 = false ∧ s.mapOk i = false) ∧
    (∃ (s : State) (p : Nat) (i : Nat), Served s p ∧ i ∈ [0x1400, 0x1401, 0x1402, 0x1403, 0x1800, 0x1801, 0x1802, 0x1803] ∧ ownerOf p ≠ s.steward ∧ p ≠ 32) ∧
    (∃ (s : State) (k : Nat) (a : Nat), kvGet s.can.tpdoTimer k = some a ∧ k < 4 ∧ s.tpdoValid k = true ∧ s.canServes = true ∧ 254 ≤ s.tpdoType k) ∧
    (∃ (s : State) (k : Nat), s.tpdoReady k = true ∧ (∀ e ∈ s.pdoEntries (0x1A00 + k), e / 2 ^ 16 % 2 ^ 16 * 256 + e / 256 % 256 ≠ O.DP_DATA ∧ e / 2 ^ 16 % 2 ^ 16 * 256 + e / 256 % 256 ≠ O.CDP_DATA)) ∧
    (∃ (s : State) (k : Nat) (e : Nat) (v : Slot), s.tpdoReady k = true ∧ s.pdoEntries (0x1A00 + k) = [e] ∧ s.tpdoFreeAt k ≤ s.now ∧ (s.path 32).companions = [] ∧ e / 2 ^ 16 % 2 ^ 16 * 256 + e / 256 % 256 ≠ O.DP_DATA ∧ e / 2 ^ 16 % 2 ^ 16 * 256 + e / 256 % 256 ≠ O.CDP_DATA ∧ kvGet s.can.tpdoHeld k = none ∧ s.readScalar 32 (s.num (O.TPDO_CONTEXT + k * 256)) (e / 2 ^ 16 % 2 ^ 16) (e / 256 % 256) = .ok v) ∧
    (∃ (s : State) (k : Nat) (cob : Nat) (data : List Byte), let bits := ((s.pdoEntries (0x1600 + k)).map (· % 256)).foldl (· + ·) 0; k < 4 ∧ (∀ j, j < 4 → (j = k ↔ (s.rpdoValid j = true ∧ fld (s.get (O.RPDO_COBID + j * 256)) 0 11 = cob))) ∧ (∀ c ∈ s.can.active, c < 65536) ∧ (bits + 7) / 8 ≤ data.length ∧ s.num (O.RPDO_TYPE + k * 256) < 254) ∧
    (∃ (s : State) (k : Nat) (cob : Nat) (data : List Byte), let bits := ((s.pdoEntries (0x1600 + k)).map (· % 256)).foldl (· + ·) 0; k < 4 ∧ (∀ j, j < 4 → (j = k ↔ (s.rpdoValid j = true ∧ fld (s.get (O.RPDO_COBID + j * 256)) 0 11 = cob))) ∧ (∀ c ∈ s.can.active, c < 65536) ∧ data.length < (bits + 7) / 8) ∧
    (∃ (s : State) (k : Nat) (cob : Nat) (data : List Byte), let bits := ((s.pdoEntries (0x1600 + k)).map (· % 256)).foldl (· + ·) 0; k < 4 ∧ (∀ j, j < 4 → (j = k ↔ (s.rpdoValid j = true ∧ fld (s.get (O.RPDO_COBID + j * 256)) 0 11 = cob))) ∧ (∀ c ∈ s.can.active, c < 65536) ∧ (bits + 7) / 8 ≤ data.length ∧ 254 ≤ s.num (O.RPDO_TYPE + k * 256) ∧ (∀ e ∈ s.pdoEntries (0x1600 + k), isDummy e = true)) ∧
    (∃ (s : State) (cob : Nat), (∀ j, j < 4 → s.rpdoValid j = false ∨ fld (s.get (O.RPDO_COBID + j * 256)) 0 11 ≠ cob)) ∧
    (∃ (s : State) (k : Nat) (a : Nat), kvGet s.can.rpdoTimer k = some a ∧ k < 4 ∧ s.rpdoValid k = true) ∧
    (∃ (s : State), s.canServes = true ∧ s.hubRestart = false ∧ s.can.rpdoHeld = [] ∧ (∀ k, k < 4 → s.tpdoValid k = false ∨ 240 < s.tpdoType k)) ∧
    (∃ (s : State) (counter : Option Nat) (k : Nat), s.canServes = true ∧ s.hubRestart = false ∧ s.can.rpdoHeld = [] ∧ k < 4 ∧ (∀ j, j < 4 → j ≠ k → s.tpdoValid j = false ∨ 240 < s.tpdoType j) ∧ s.tpdoValid k = true ∧ 1 ≤ s.syncCount k counter ∧ s.syncCount k counter < s.tpdoType k ∧ s.tpdoType k ≤ 240) ∧
    (∃ (s : State) (counter : Option Nat) (k : Nat), s.canServes = true ∧ s.hubRestart = false ∧ s.can.rpdoHeld = [] ∧ k < 4 ∧ (∀ j, j < 4 → j ≠ k → s.tpdoValid j = false ∨ 240 < s.tpdoType j) ∧ s.tpdoValid k = true ∧ 1 ≤ s.tpdoType k ∧ s.tpdoType k ≤ s.syncCount k counter ∧ s.tpdoType k ≤ 240 ∧ s.tpdoFreeAt k ≤ s.now ∧ s.pdoEntries (0x1A00 + k) = []) ∧
    (∃ (s : State) (cob : Nat), cob ≠ fld (s.get O.COB_ID_SYNC) 0 11) :=
  ⟨⟨tObj (tCan { tN .operational with queue := [{ code := 0x8130, b0 := 1, b1 := 2, detail := 7 }, { code := 5 }] }) [(0, O.COB_ID_EMCY, 0x85), (0, O.INHIBIT_EMCY, 3), (0, O.ERR_HIST_k, 9)], { code := 0x8130, b0 := 1, b1 := 2, detail := 7 }, [{ code := 5 }], by decide +kernel⟩,
   ⟨tR, by decide +kernel⟩,
   ⟨tObj tR [(0, O.ERR_HIST_k, 9)], 32, by decide +kernel⟩,
   ⟨tL, 0, by decide +kernel⟩,
   ⟨tR, 32, 0x1801, 0x80000181, by decide +kernel⟩,
   ⟨tObj tR [(0, 0x1A0101, 0x2001FE08)], 32, 0x1801, 0x181, by decide +kernel⟩,
   ⟨tL, 0, 0x1801, by decide +kernel⟩,
   ⟨tP [(0, O.TPDO_COBID + 256, 0x181), (0, O.TPDO_TYPE + 256, 254), (0, O.TPDO_TIMER + 256, 20)] { tN .operational with tpdoTimer := [(1, 7)], tpdoDue := [3] }, 1, 7, by decide +kernel⟩,
   ⟨tP [(0, O.TPDO_COBID + 256, 0x181), (0, O.TPDO_TYPE + 256, 254), (0, O.TPDO_INHIBIT + 256, 20), (0, 0x1A0101, 0x20010108), (0, 0x1A0102, 0)] { tN .operational with tpdoDue := [1] }, 1, by decide +kernel⟩,
   ⟨tP [(0, O.TPDO_COBID + 256, 0x181), (0, O.TPDO_TYPE + 256, 254), (0, 0x1A0101, 0x20010108), (0, 0x1A0102, 0)] { tN .operational with tpdoDue := [1] }, 1, 0x20010108, 3, by decide +kernel⟩,
   ⟨tP [(0, O.RPDO_COBID + 256, 0x201), (0, 0x160101, 0x00060010), (0, 0x160102, 0x00050008), (0, O.RPDO_TYPE + 256, 1)], 1, 0x201, [1, 2, 3], by dsimp only; decide +kernel⟩,
   ⟨tP [(0, O.RPDO_COBID + 256, 0x201), (0, 0x160101, 0x00060010), (0, 0x160102, 0x00050008)], 1, 0x201, [1, 2], by dsimp only; decide +kernel⟩,
   ⟨tP [(0, O.RPDO_COBID + 256, 0x201), (0, 0x160101, 0x00060010), (0, 0x160102, 0x00050008)], 1, 0x201, [1, 2, 3], by dsimp only; decide +kernel⟩,
   ⟨tP [], 0x201, by decide +kernel⟩,
   ⟨tP [(0, O.RPDO_COBID + 256, 0x201), (0, 0x160101, 0x00060010), (0, 0x160102, 0x00050008)] { tN .operational with rpdoTimer := [(1, 9)] }, 1, 9, by decide +kernel⟩,
   ⟨tP [(0, O.SYNC_COUNT, 0xFFFFFFFF)], by decide +kernel⟩,
   ⟨tP [(0, O.TPDO_COBID + 256, 0x181), (0, O.TPDO_TYPE + 256, 3)], none, 1, by decide +kernel⟩,
   ⟨tP [(0, O.TPDO_COBID + 256, 0x181), (0, O.TPDO_TYPE + 256, 3), (0, 0x1A0101, 0)] { tN .operational with tpdoSync := [(1, 2)] }, none, 1, by decide +kernel⟩,
   ⟨tP [], 0x99, by decide +kernel⟩⟩

/-- The hypotheses of O53 can be met, clause by clause. -/
theorem witness_Transfers :
    (∃ (s : State), s.canServes = true ∧ s.hubRestart = true) ∧
    (∃ (s : State), s.canServes = true ∧ s.hubRestart = true) ∧
    (∃ (s : State), s.canServes = true ∧ s.hubRestart = false ∧ s.can.usdo.isSome = true) ∧
    (∃ (s : State), s.canServes = true ∧ s.hubRestart = false ∧ s.can.usdo.isSome = true) ∧
    (∃ (s : State) (size : Nat), s.canServes = true ∧ s.hubRestart = false ∧ s.can.usdo = none ∧ 2048 < size) ∧
    (∃ (s : State) (size : Nat) (data : List Byte), s.canServes = true ∧ s.hubRestart = false ∧ s.can.usdo = none ∧ size ≤ 2048 ∧ data.length < size) ∧
    (∃ (s : State) (i : Nat) (sub : Nat) (size : Nat) (data : List Byte) (u : State), let key := i * 256 + sub; s.canServes = true ∧ s.hubRestart = false ∧ s.can.usdo = none ∧ size ≤ 2048 ∧ size ≤ data.length ∧ usdoWrite (takeTurn s) key (data.take size) = (u, none)) ∧
    (∃ (s : State) (i : Nat) (sub : Nat) (size : Nat) (data : List Byte) (u : State) (a : Abort), let key := i * 256 + sub; s.canServes = true ∧ s.hubRestart = false ∧ s.can.usdo = none ∧ size ≤ 2048 ∧ size ≤ data.length ∧ usdoWrite (takeTurn s) key (data.take size) = (u, some a)) ∧
    (∃ (s : State) (i : Nat) (sub : Nat) (u : State) (bs : List Byte), let key := i * 256 + sub; s.canServes = true ∧ s.hubRestart = false ∧ s.can.usdo = none ∧ usdoRead (takeTurn s) key = (u, .ok bs) ∧ bs.length ≤ 56) ∧
    (∃ (s : State) (i : Nat) (sub : Nat) (u : State) (bs : List Byte), let key := i * 256 + sub; s.canServes = true ∧ s.hubRestart = false ∧ s.can.usdo = none ∧ usdoRead (takeTurn s) key = (u, .ok bs) ∧ 56 < bs.length) ∧
    (∃ (s : State) (i : Nat) (sub : Nat) (u : State) (a : Abort), let key := i * 256 + sub; s.canServes = true ∧ s.hubRestart = false ∧ s.can.usdo = none ∧ usdoRead (takeTurn s) key = (u, .error a)) ∧
    (∃ (s : State) (u : Usdo) (data : List Byte), s.can.usdo = some u ∧ s.canServes = true ∧ s.hubRestart = false ∧ u.download = true ∧ (u.data ++ data).length ≤ u.size) ∧
    (∃ (s : State) (u : Usdo) (data : List Byte) (last : Bool), s.can.usdo = some u ∧ s.canServes = true ∧ s.hubRestart = false ∧ u.download = true ∧ (u.size < (u.data ++ data).length ∨ (last = true ∧ (u.data ++ data).length ≠ u.size))) ∧
    (∃ (s : State) (u : Usdo) (data : List Byte) (v : State), s.can.usdo = some u ∧ s.canServes = true ∧ s.hubRestart = false ∧ u.download = true ∧ (u.data ++ data).length = u.size ∧ usdoWrite (takeTurn { s with can := { s.can with usdo := none } }) u.key (u.data ++ data) = (v, none)) ∧
    (∃ (s : State) (u : Usdo), s.can.usdo = some u ∧ s.canServes = true ∧ s.hubRestart = false ∧ u.download = false ∧ u.data.drop 56 ≠ []) ∧
    (∃ (s : State) (u : Usdo), s.can.usdo = some u ∧ s.canServes = true ∧ s.hubRestart = false ∧ u.download = false ∧ u.data.drop 56 = []) ∧
    (∃ (s : State) (u : Usdo), s.can.usdo = some u ∧ s.canServes = true ∧ s.hubRestart = false) ∧
    (∃ (s : State) (u : Usdo) (i : Instr), s.can.usdo = some u ∧ s.canServes = true ∧ s.hubRestart = true ∧ (i = Instr.usdoUploadSegment ∨ (∃ d l, i = .usdoDownloadSegment d l))) ∧
    (∃ (s : State) (i : Instr), s.can.usdo = none ∧ (i = Instr.usdoUploadSegment ∨ i = .usdoSessionTimeout ∨ (∃ d l, i = .usdoDownloadSegment d l))) ∧
    (∃ (s : State) (p : Nat), Served s p ∧ ownerOf p = s.steward ∧ s.storeBusy = false) ∧
    (∃ (s : State) (p : Nat), Served s p ∧ ownerOf p = s.steward ∧ s.storeBusy = true) ∧
    (∃ (s : State) (p : Nat), Served s p ∧ ownerOf p ≠ s.steward) ∧
    (∃ (s : State) (p : Nat) (v : Slot), Served s p ∧ ownerOf p = s.steward ∧ v ≠ 0x65766173) ∧
    (∃ (s : State) (p : Nat), Served s p ∧ (ownerOf p = s.steward ∨ p = 32)) ∧
    (∃ (s : State) (p : Nat) (v : Slot), Served s p ∧ (ownerOf p = s.steward ∨ p = 32) ∧ v ≠ 0x65766173) ∧
    (∃ (s : State) (p : Nat) (v : Slot), Served s p ∧ (ownerOf p = s.steward ∨ p = 32) ∧ v ≠ 0x64616F6C) ∧
    (∃ (s : State) (p : Nat), Served s p ∧ ownerOf p ≠ s.steward ∧ p ≠ 32) ∧
    (∃ (s : State) (p : Nat) (k : Nat), Served s p ∧ ownerOf p ≠ s.steward ∧ p ≠ 32 ∧ (k = 1 ∨ k = 2)) ∧
    (∃ (s : State) (p : Nat), Served s p ∧ (ownerOf p = s.steward ∨ p = 32) ∧ s.storeBusy = false) ∧
    (∃ (s : State) (p : Nat), Served s p ∧ (ownerOf p = s.steward ∨ p = 32) ∧ s.storeBusy = true) :=
  ⟨⟨{ tCan (tN .operational) with hubRestart := true }, by decide +kernel⟩,
   ⟨{ tCan (tN .operational) with hubRestart := true }, by decide +kernel⟩,
   ⟨tCan { tN .operational with usdo := some ⟨0x200301, true, 3, [1], 5⟩ }, by decide +kernel⟩,
   ⟨tCan { tN .operational with usdo := some ⟨0x200301, true, 3, [1], 5⟩ }, by decide +kernel⟩,
   ⟨tCan (tN .operational), 3000, by decide +kernel⟩,
   ⟨tCan (tN .operational), 3, [1, 2], by decide +kernel⟩,
   ⟨tCan (tN .operational), 0x2003, 6, 8, [1, 0, 0, 0, 0, 0, 0, 0], (usdoWrite (takeTurn (tCan (tN .operational))) 0x200306 [1, 0, 0, 0, 0, 0, 0, 0]).1, by and_intros <;> first | decide +kernel | exact all_some (by decide +kernel) | exact all_some2 (by decide +kernel) | rfl⟩,
   ⟨tCan (tN .operational), 0x2001, 1, 1, [1], takeTurn (tCan (tN .operational)), .notWritable, by and_intros <;> first | decide +kernel | exact all_some (by decide +kernel) | exact all_some2 (by decide +kernel) | rfl⟩,
   ⟨tCan (tN .operational), 0x2001, 1, (usdoRead (takeTurn (tCan (tN .operational))) 0x200101).1, [3, 0, 0, 0, 0, 0, 0, 0], by and_intros <;> first | decide +kernel | exact all_some (by decide +kernel) | exact all_some2 (by decide +kernel) | rfl⟩,
   ⟨{ tCan (tN .operational) with blobs := [(0x250203, []), (O.OUT_EDID_o, List.replicate 60 7)] }, 0x2750, 8, (usdoRead (takeTurn { tCan (tN .operational) with blobs := [(0x250203, []), (O.OUT_EDID_o, List.replicate 60 7)] }) 0x275008).1, List.replicate 60 7, by and_intros <;> first | decide +kernel | exact all_some (by decide +kernel) | exact all_some2 (by decide +kernel) | rfl⟩,
   ⟨tCan (tN .operational), 0x2001, 0xFE, takeTurn (tCan (tN .operational)), .noSubindex, by and_intros <;> first | decide +kernel | exact all_some (by decide +kernel) | exact all_some2 (by decide +kernel) | rfl⟩,
   ⟨tCan { tN .operational with usdo := some ⟨0x200301, true, 3, [1], 5⟩ }, ⟨0x200301, true, 3, [1], 5⟩, [2], by decide +kernel⟩,
   ⟨tCan { tN .operational with usdo := some ⟨0x200301, true, 3, [1], 5⟩ }, ⟨0x200301, true, 3, [1], 5⟩, [2], true, by decide +kernel⟩,
   ⟨tCan { tN .operational with usdo := some ⟨0x200306, true, 8, [1, 0, 0, 0], 5⟩ }, ⟨0x200306, true, 8, [1, 0, 0, 0], 5⟩, [0, 0, 0, 0], (usdoWrite (takeTurn (tCan (tN .operational))) 0x200306 [1, 0, 0, 0, 0, 0, 0, 0]).1, by and_intros <;> first | decide +kernel | exact all_some (by decide +kernel) | exact all_some2 (by decide +kernel) | rfl⟩,
   ⟨tCan { tN .operational with usdo := some ⟨0x275008, false, 60, List.replicate 60 7, 5⟩ }, ⟨0x275008, false, 60, List.replicate 60 7, 5⟩, by decide +kernel⟩,
   ⟨tCan { tN .operational with usdo := some ⟨0x275008, false, 60, [7, 7], 5⟩ }, ⟨0x275008, false, 60, [7, 7], 5⟩, by decide +kernel⟩,
   ⟨tCan { tN .operational with usdo := some ⟨0x200301, true, 3, [1], 5⟩ }, ⟨0x200301, true, 3, [1], 5⟩, by decide +kernel⟩,
   ⟨{ tCan { tN .operational with usdo := some ⟨0x200301, true, 3, [1], 5⟩ } with hubRestart := true }, ⟨0x200301, true, 3, [1], 5⟩, .usdoUploadSegment, ⟨by decide +kernel, by decide +kernel, by decide +kernel, Or.inl rfl⟩⟩,
   ⟨tR, .usdoUploadSegment, ⟨by decide +kernel, Or.inl rfl⟩⟩,
   ⟨tObj (tCan (tN .operational)) [(0, O.HB_PRODUCER, 100)], 32, by decide +kernel⟩,
   ⟨tObj tR [(0, O.DEVICE_STATUS, 0x40)], 32, by decide +kernel⟩,
   ⟨tL, 0, by decide +kernel⟩,
   ⟨tR, 32, 1, by decide +kernel⟩,
   ⟨tObj (tCan (tN .operational)) [(0, O.HB_PRODUCER, 100)], 32, by decide +kernel⟩,
   ⟨tR, 32, 1, by decide +kernel⟩,
   ⟨tR, 32, 1, by decide +kernel⟩,
   ⟨tL, 0, by decide +kernel⟩,
   ⟨tL, 0, 2, by decide +kernel⟩,
   ⟨tR, 32, by decide +kernel⟩,
   ⟨tObj tR [(0, O.DEVICE_STATUS, 0x40)], 32, by decide +kernel⟩⟩

/-- The hypotheses of O54 can be met, clause by clause. -/
theorem witness_PowerTransitions :
    (∃ (s : State) (p : Nat), Served s p ∧ ownerOf p = s.steward ∧ s.get O.POWER_PHASE = 0 ∧ s.alloyMoves = true) ∧
    (∃ (s : State) (p : Nat), Served s p ∧ ownerOf p = s.steward ∧ s.get O.POWER_PHASE = 0 ∧ s.alloyMoves = false) ∧
    (∃ (s : State) (p : Nat), Served s p ∧ ownerOf p = s.steward ∧ s.get O.POWER_PHASE = 0 ∧ s.dev ≠ .watch ∧ s.alloyMoves = true) ∧
    (∃ (s : State) (p : Nat), Served s p ∧ ownerOf p = s.steward ∧ s.get O.POWER_PHASE = 0 ∧ s.dev ≠ .watch ∧ s.alloyMoves = false) ∧
    (∃ (s : State) (p : Nat), Served s p ∧ ownerOf p = s.steward ∧ s.get O.POWER_PHASE = 0 ∧ s.dev = .watch) ∧
    (∃ (s : State) (p : Nat), Served s p ∧ ownerOf p = s.steward ∧ s.get O.POWER_PHASE = 0 ∧ s.dev ≠ .watch) ∧
    (∃ (s : State) (p : Nat) (i : Instr), Served s p ∧ ownerOf p = s.steward ∧ s.get O.POWER_PHASE ≠ 0 ∧ (i = Instr.enterDeep p ∨ i = .enterWatch p ∨ i = .leaveWatch p)) ∧
    (∃ (s : State) (p : Nat) (i : Instr), Served s p ∧ ownerOf p ≠ s.steward ∧ (i = Instr.enterDeep p ∨ i = .enterWatch p ∨ i = .leaveWatch p)) ∧
    (∃ (s : State), s.power.entry = none ∧ s.starting = false ∧ s.bursting = false ∧ s.suspending = false ∧ s.get O.POWER_PHASE = 1 ∧ s.power.wakeKept = []) ∧
    (∃ (s : State), s.power.entry = none ∧ s.starting = false ∧ s.bursting = false ∧ s.suspending = false ∧ s.get O.POWER_PHASE = 3) ∧
    (∃ (s : State), s.power.entry = none ∧ s.starting = false ∧ s.bursting = false ∧ s.suspending = false ∧ s.get O.POWER_PHASE ≠ 1) ∧
    (∃ (s : State), s.power.entry = none ∧ s.starting = false ∧ s.bursting = false ∧ s.suspending = false ∧ s.get O.POWER_PHASE ≠ 3) ∧
    (∃ (s : State), s.power.entry = none ∧ (s.bursting = true ∨ s.suspending = true)) ∧
    (∃ (s : State) (n : Nat) (rising : Bool), s.starting = false ∧ n < s.D ∧ bit (s.get (O.WAKE_EDGE_n + n)) 31 = true ∧ (fld (s.get (O.WAKE_EDGE_n + n)) 24 2 = 2 ∨ fld (s.get (O.WAKE_EDGE_n + n)) 24 2 = (if rising then 0 else 1)) ∧ s.dev = .watch ∧ s.get O.POWER_PHASE = 0) ∧
    (∃ (s : State) (n : Nat) (rising : Bool), s.starting = false ∧ n < s.D ∧ bit (s.get (O.WAKE_EDGE_n + n)) 31 = true ∧ (fld (s.get (O.WAKE_EDGE_n + n)) 24 2 = 2 ∨ fld (s.get (O.WAKE_EDGE_n + n)) 24 2 = (if rising then 0 else 1)) ∧ s.get O.POWER_PHASE = 1) ∧
    (∃ (s : State) (n : Nat) (rising : Bool), s.starting = false ∧ n < s.D ∧ bit (s.get (O.WAKE_EDGE_n + n)) 31 = true ∧ (fld (s.get (O.WAKE_EDGE_n + n)) 24 2 = 2 ∨ fld (s.get (O.WAKE_EDGE_n + n)) 24 2 = (if rising then 0 else 1)) ∧ s.get O.POWER_PHASE = 3) ∧
    (∃ (s : State) (n : Nat), bit (s.get (O.WAKE_EDGE_n + n)) 31 = false) ∧
    (∃ (s : State), s.starting = false ∧ s.dev = .watch ∧ s.get O.POWER_PHASE = 0 ∧ s.num O.WAKE_TIMER_MS ≠ 0) ∧
    (∃ (s : State) (ticks : Nat) (cause : Nat) (i : Instr), s.dev = .deep ∧ s.starting = false ∧ (i = .deepTimerExpiry ∧ cause = 4 ∧ ticks = s.num O.DEEP_TIMER_S * 32768 ∧ s.num O.DEEP_TIMER_S ≠ 0 ∧ bit (s.get O.DEEP_WAKE_MASK) 1 = true ∨ i = .deepTriginWake ticks ∧ cause = 3 ∧ bit (s.get O.DEEP_WAKE_MASK) 2 = true ∨ i = .canDominantWake ticks ∧ cause = 6 ∧ bit (s.get O.DEEP_WAKE_MASK) 3 = true)) ∧
    (∃ (s : State), s.dev ≠ .deep ∧ s.get O.POWER_PHASE = 3 ∧ s.now / 48 ≠ s.power.entryAt ∧ bit (s.get O.DEEP_WAKE_MASK) 2 = true) ∧
    (∃ (s : State), s.dev ≠ .deep ∧ s.get O.POWER_PHASE = 3 ∧ s.now / 48 ≠ s.power.entryAt ∧ bit (s.get O.DEEP_WAKE_MASK) 3 = true) ∧
    (∃ (s : State) (i : Instr), (i = Instr.deepTimerExpiry ∧ bit (s.get O.DEEP_WAKE_MASK) 1 = false ∨ (∃ n, i = .deepTriginWake n) ∧ bit (s.get O.DEEP_WAKE_MASK) 2 = false ∨ (∃ n, i = .canDominantWake n) ∧ bit (s.get O.DEEP_WAKE_MASK) 3 = false)) ∧
    (∃ (s : State), s.power.wakePin = true) ∧
    (∃ (s : State), s.power.wakePin = false) :=
  ⟨⟨tIn 2 { members := [2], st := .changing, next := some ([2], false) } tR, 32, by decide +kernel⟩,
   ⟨tCtx 1 (tX .armed) { tR with dev := .armed }, 32, by decide +kernel⟩,
   ⟨tIn 2 { members := [2], st := .changing, next := some ([2], false) } tR, 32, by decide +kernel⟩,
   ⟨tCtx 1 (tX .armed) { tR with dev := .armed }, 32, by decide +kernel⟩,
   ⟨tWatch, 32, by decide +kernel⟩,
   ⟨tR, 32, by decide +kernel⟩,
   ⟨tObj tR [(0, O.POWER_PHASE, 1)], 32, .enterDeep 32, by decide +kernel⟩,
   ⟨tS, 32, .enterDeep 32, by decide +kernel⟩,
   ⟨tObj tR [(0, O.POWER_PHASE, 1)], by decide +kernel⟩,
   ⟨tObj { tX0 with power := { tX0.power with domains := List.replicate 15 4 } } [(0, O.POWER_PHASE, 3)], by decide +kernel⟩,
   ⟨tObj tR [(0, O.POWER_PHASE, 3)], by decide +kernel⟩,
   ⟨tObj tR [(0, O.POWER_PHASE, 1)], by decide +kernel⟩,
   ⟨{ tR with chans := [(2, { owner := 16, st := .running, inFlight := true })] }, by decide +kernel⟩,
   ⟨tObj tWatch [(0, O.WAKE_EDGE_n + 2, 0x82000000)], 2, false, by decide +kernel⟩,
   ⟨tObj tR [(0, O.WAKE_EDGE_n + 2, 0x82000000), (0, O.POWER_PHASE, 1)], 2, false, by decide +kernel⟩,
   ⟨tObj tR [(0, O.WAKE_EDGE_n + 2, 0x82000000), (0, O.POWER_PHASE, 3)], 2, false, by decide +kernel⟩,
   ⟨tWatch, 2, by decide +kernel⟩,
   ⟨tObj tWatch [(0, O.WAKE_TIMER_MS, 50)], by decide +kernel⟩,
   ⟨tObj tDeep [(0, O.DEEP_WAKE_MASK, 4)], 32768, 3, .deepTriginWake 32768, by decide +kernel⟩,
   ⟨tObj { tR with counter := 4800 } [(0, O.POWER_PHASE, 3), (0, O.DEEP_WAKE_MASK, 12)], by decide +kernel⟩,
   ⟨tObj { tR with counter := 4800 } [(0, O.POWER_PHASE, 3), (0, O.DEEP_WAKE_MASK, 12)], by decide +kernel⟩,
   ⟨tDeep, .deepTimerExpiry, Or.inl ⟨rfl, by decide +kernel⟩⟩,
   ⟨{ tR with power := { tR.power with wakePin := true } }, by decide +kernel⟩,
   ⟨tR, by decide +kernel⟩⟩

/-- The hypotheses of O55 can be met, clause by clause. -/
theorem witness_StartsAndMains :
    (∃ (s : State), s.starting = false ∧ s.dev = .off) ∧
    (∃ (s : State), (s.dev ≠ .off ∨ s.starting = true)) ∧
    (∃ (s : State) (x : Nat) (r : List Nat), s.power.queue = x :: r ∧ 1 ≤ x ∧ x ≤ 15 ∧ s.power.domains.length = 15 ∧ s.projected + (domainMa x).2.1 + (domainMa x).2.2 ≤ s.num O.SEQ_BUDGET_MA) ∧
    (∃ (s : State) (x : Nat) (r : List Nat), s.power.queue = x :: r ∧ 1 ≤ x ∧ x ≤ 15 ∧ s.power.domains.length = 15 ∧ s.num O.SEQ_BUDGET_MA < s.projected + (domainMa x).2.1 + (domainMa x).2.2 ∧ s.power.waited = false) ∧
    (∃ (s : State) (x : Nat) (r : List Nat), s.power.queue = x :: r ∧ 1 ≤ x ∧ x ≤ 15 ∧ s.power.domains.length = 15 ∧ s.num O.SEQ_BUDGET_MA < s.projected + (domainMa x).2.1 + (domainMa x).2.2 ∧ s.power.waited = true ∧ s.power.lastPeak = 0) ∧
    (∃ (s : State), s.power.queue = []) ∧
    (∃ (s : State) (x : Nat), x ∈ s.domainsHeld ∧ s.domain x = 3 ∧ s.power.domains.length = 15 ∧ s.get O.POWER_PHASE ≠ 2 ∧ x < 4) ∧
    (∃ (s : State) (x : Nat), x ∈ s.domainsHeld ∧ s.domain x = 3 ∧ s.power.domains.length = 15 ∧ s.get O.POWER_PHASE ≠ 2 ∧ 12 ≤ x ∧ x - 12 < s.hbm.length) ∧
    (∃ (s : State) (x : Nat), x ∈ s.domainsHeld ∧ s.domain x = 3 ∧ s.power.domains.length = 15 ∧ s.get O.POWER_PHASE ≠ 2 ∧ 4 ≤ x ∧ x < 12 ∧ x - 4 < s.dies.length ∧ ((s.die (x - 4)).st = .retention ∨ (s.die (x - 4)).st = .off)) ∧
    (∃ (s : State) (x : Nat), x ∈ s.domainsHeld ∧ s.domain x = 3 ∧ s.power.domains.length = 15 ∧ s.get O.POWER_PHASE = 2 ∧ s.dev = .watch ∧ s.power.queue = [] ∧ (∀ y, 1 ≤ y → y ≤ 15 → y ≠ x → s.domain y ≠ 3)) ∧
    (∃ (s : State) (rep : StartReport), s.starting = true ∧ s.power.startHeld = false ∧ rep.bank ∈ s.bootBanks) ∧
    (∃ (s : State) (rep : StartReport) (k : Nat), s.starting = true ∧ s.power.startHeld = false ∧ rep.bank ∉ s.bootBanks ∧ s.bootBanks.head? = some k) ∧
    (∃ (s : State), s.starting = true ∧ s.power.startHeld = false ∧ s.bootBanks = []) ∧
    (∃ (s : State), s.starting = true ∧ s.power.startHeld = false ∧ s.bootBanks ≠ []) ∧
    (∃ (s : State), s.starting = false) ∧
    (∃ (s : State), s.starting = false) ∧
    (∃ (s : State) (ms : Nat), (s.dev ≠ .off ∨ s.starting = true) ∧ s.power.failing = false ∧ 2 ≤ ms) ∧
    (∃ (s : State) (ms : Nat), (s.dev ≠ .off ∨ s.starting = true) ∧ ms < 2) ∧
    (∃ (s : State), (s.dev ≠ .off ∨ s.starting = true)) ∧
    (∃ (s : State), s.power.failing = true) ∧
    (∃ (s : State), s.power.failing = false) ∧
    (∃ (s : State), s.power.perst = true) ∧
    (∃ (s : State), s.power.perst = false ∧ s.starting = true) ∧
    (∃ (s : State), s.power.perst = false ∧ s.starting = false ∧ (s.dev = .deep ∨ s.dev = .off)) ∧
    (∃ (s : State), s.power.perst = false ∧ s.starting = false ∧ s.dev ≠ .deep ∧ s.dev ≠ .off) ∧
    (∃ (s : State), s.power.perst = true ∧ s.dev = .deep ∧ s.starting = false) ∧
    (∃ (s : State), s.power.perst = true ∧ (s.dev ≠ .deep ∨ s.starting = true) ∧ s.power.startHeld = true) ∧
    (∃ (s : State), s.power.perst = true ∧ s.dev ≠ .deep ∧ s.power.startHeld = false ∧ s.power.perstReset = true) ∧
    (∃ (s : State), s.power.perst = true ∧ s.dev ≠ .deep ∧ s.power.startHeld = false ∧ s.power.perstReset = false) ∧
    (∃ (s : State) (k : Nat) (rep : StartReport), s.starting = true ∧ s.power.startHeld = false ∧ rep.bank = k ∧ k ∈ s.bootBanks ∧ rep.noController = [0] ∧ rep.failedDies = [] ∧ 2 ≤ s.D ∧ s.halves.length = 8 ∧ s.hbm.length = 4) ∧
    (∃ (s : State), s.power.perst = false) :=
  ⟨⟨{ tR with dev := .off, power := {}, counter := 5 }, by decide +kernel⟩,
   ⟨tR, by decide +kernel⟩,
   ⟨{ tR with power := { domains := (List.replicate 15 0).set 0 4, queue := [12, 2], lastPeak := 1200 } }, 12, [2], by decide +kernel⟩,
   ⟨tObj { tR with power := { domains := List.replicate 15 4, queue := [4, 2] } } [(0, O.SEQ_BUDGET_MA, 20000)], 4, [2], by decide +kernel⟩,
   ⟨tObj { tR with power := { domains := List.replicate 15 4, queue := [4, 2], waited := true } } [(0, O.SEQ_BUDGET_MA, 20000)], 4, [2], by decide +kernel⟩,
   ⟨tR, by decide +kernel⟩,
   ⟨{ tR with power := { tR.power with domains := (List.replicate 15 4).set 1 3 } }, 2, by decide +kernel⟩,
   ⟨{ tR with hbm := [{}, { st := 1, selfRefresh := [3] }, {}, {}], power := { tR.power with domains := (List.replicate 15 4).set 12 3 } }, 13, by decide +kernel⟩,
   ⟨{ tWatch with power := { tR.power with domains := (List.replicate 15 4).set 5 3 } }, 6, by decide +kernel⟩,
   ⟨tObj { tWatch with power := { tR.power with domains := (List.replicate 15 4).set 5 3 } } [(0, O.POWER_PHASE, 2)], 6, by decide +kernel⟩,
   ⟨{ tStart 3 with mem := [(5, 6)] }, tRep 0, by decide +kernel⟩,
   ⟨tStart 1, tRep 1, 0, by decide +kernel⟩,
   ⟨{ tStart 1 with fw := {} }, by decide +kernel⟩,
   ⟨tStart 1, by decide +kernel⟩,
   ⟨tR, by decide +kernel⟩,
   ⟨tR, by decide +kernel⟩,
   ⟨tR, 3, by decide +kernel⟩,
   ⟨tR, 1, by decide +kernel⟩,
   ⟨tR, by decide +kernel⟩,
   ⟨{ tX0 with power := { tR.power with failing := true } }, by decide +kernel⟩,
   ⟨tR, by decide +kernel⟩,
   ⟨{ tR with power := { tR.power with perst := true } }, by decide +kernel⟩,
   ⟨tStart 2, by decide +kernel⟩,
   ⟨tDeep, by decide +kernel⟩,
   ⟨tObj (tLd { st := .enabled } (tCtx 4 { owner := 2, st := .armed } (tCtx 1 (tX .armed) { tR with dev := .armed }))) [(0, O.CXL_LINK_WIDTH, 8)], by decide +kernel⟩,
   ⟨{ tDeep with power := { deepFrom := 4800, perst := true } }, by decide +kernel⟩,
   ⟨{ tStart 2 with power := { startKind := 2, perst := true, startHeld := true } }, by decide +kernel⟩,
   ⟨{ tR with power := { tR.power with perst := true, perstReset := true } }, by decide +kernel⟩,
   ⟨{ tR with power := { tR.power with perst := true } }, by decide +kernel⟩,
   ⟨tStart 1, 0, { tRep 0 with noController := [0] }, by decide +kernel⟩,
   ⟨tR, by decide +kernel⟩⟩

/-- The hypotheses of O56 can be met, clause by clause. -/
theorem witness_ReferencesAndLoops :
    (∃ (s : State) (p : Nat) (v : Slot), let u : State := { s.put O.REF_SELECT v with power := { s.power with extTaken := true } }; Served s p ∧ ownerOf p = s.steward ∧ v.toNat ≤ 3 ∧ s.num O.REF_IN_USE = u.refWanted ∧ s.power.noRef = false) ∧
    (∃ (s : State) (p : Nat) (v : Slot), let u : State := { s.put O.REF_SELECT v with power := { s.power with extTaken := true } }; Served s p ∧ ownerOf p = s.steward ∧ v.toNat ≤ 3 ∧ s.awake = true ∧ s.num O.REF_IN_USE ≠ u.refWanted ∧ (u.refWanted ≠ 0 ∨ s.power.intFailed = false)) ∧
    (∃ (s : State) (p : Nat) (v : Slot), Served s p ∧ ownerOf p = s.steward ∧ 3 < v.toNat) ∧
    (∃ (s : State) (p : Nat), Served s p ∧ ownerOf p ≠ s.steward) ∧
    (∃ (s : State) (m : Nat), s.awake = true ∧ s.power.extValid = some m ∧ s.num O.REF_IN_USE = 0) ∧
    (∃ (s : State) (m : Nat), s.awake = true ∧ s.power.extValid = some m ∧ 8 < s.power.loops.length ∧ 2 ≤ (s.loops 8).length) ∧
    (∃ (s : State) (m : Nat), s.awake = true ∧ s.power.extValid = some m ∧ s.num O.REF_IN_USE ≠ 0) ∧
    (∃ (s : State), s.power.extValid = none) ∧
    (∃ (s : State) (m : Nat), let u : State := { s with power := { s.power with extValid := some m, extPresent := true } }; s.awake = true ∧ (m = 10 ∨ m = 100) ∧ u.refWanted = 0) ∧
    (∃ (s : State) (m : Nat), let u : State := { s with power := { s.power with extValid := some m, extPresent := true } }; s.awake = true ∧ (m = 10 ∨ m = 100) ∧ u.refWanted ≠ 0 ∧ s.num O.REF_IN_USE ≠ u.refWanted) ∧
    (∃ (s : State) (m : Nat), let u : State := { s with power := { s.power with extValid := some m, extPresent := true } }; s.awake = true ∧ (m = 10 ∨ m = 100) ∧ u.refWanted ≠ 0 ∧ s.num O.REF_IN_USE = u.refWanted) ∧
    (∃ (s : State), s.awake = true ∧ s.num O.REF_IN_USE = 0 ∧ s.power.noRef = false) ∧
    (∃ (s : State) (x : Nat) (l : Nat), let v := s.loop x l; let w := s.loop x (loopPartner l); s.loopUnit x l = true ∧ x < s.power.loops.length ∧ l < (s.loops x).length ∧ v.st = 1 ∧ w.st ≠ 2) ∧
    (∃ (s : State) (x : Nat) (l : Nat), let v := s.loop x l; let w := s.loop x (loopPartner l); s.loopUnit x l = true ∧ x < s.power.loops.length ∧ l < (s.loops x).length ∧ v.st = 1 ∧ w.st = 2) ∧
    (∃ (s : State) (x : Nat) (l : Nat), let v := s.loop x l; s.loopUnit x l = true ∧ x < s.power.loops.length ∧ l < (s.loops x).length ∧ v.st = 4 ∧ (x ≠ 8 ∨ 2 ≤ l ∨ s.power.extValid.isSome = true)) ∧
    (∃ (s : State) (x : Nat) (l : Nat), let v := s.loop x l; s.loopUnit x l = true ∧ x < s.power.loops.length ∧ l < (s.loops x).length ∧ v.st = 1) ∧
    (∃ (s : State) (x : Nat) (l : Nat), let v := s.loop x l; s.loopUnit x l = true ∧ x < s.power.loops.length ∧ l < (s.loops x).length ∧ v.st = 3 ∧ v.losses < 2) ∧
    (∃ (s : State) (x : Nat) (l : Nat), let v := s.loop x l; s.loopUnit x l = true ∧ x < s.power.loops.length ∧ l < (s.loops x).length ∧ v.st = 3 ∧ 2 ≤ v.losses) ∧
    (∃ (s : State) (x : Nat) (l : Nat), let v := s.loop x l; let w := s.loop x (loopPartner l); s.loopUnit x l = true ∧ x < s.power.loops.length ∧ l < (s.loops x).length ∧ v.st = 2 ∧ w.st = 3 ∧ loopPartner l < (s.loops x).length) ∧
    (∃ (s : State) (x : Nat) (l : Nat), let v := s.loop x l; let w := s.loop x (loopPartner l); s.loopUnit x l = true ∧ x < s.power.loops.length ∧ l < (s.loops x).length ∧ v.st = 2 ∧ w.st ≠ 3 ∧ x = 8) ∧
    (∃ (s : State) (x : Nat) (l : Nat), let v := s.loop x l; let w := s.loop x (loopPartner l); s.loopUnit x l = true ∧ x < s.power.loops.length ∧ l < (s.loops x).length ∧ v.st = 2 ∧ w.st ≠ 3 ∧ x < s.D ∧ x < s.dies.length ∧ (s.die x).st = .active ∧ s.restarting = false) ∧
    (∃ (s : State) (x : Nat) (l : Nat) (i : Instr), let v := s.loop x l; s.loopUnit x l = true ∧ x < s.power.loops.length ∧ l < (s.loops x).length ∧ v.st ≠ 1 ∧ (i = Instr.loopLockDeclared x l ∨ i = .loopStandbyReady x l ∨ i = .loopLockTimeout x l)) ∧
    (∃ (s : State) (x : Nat) (l : Nat), let v := s.loop x l; s.loopUnit x l = true ∧ x < s.power.loops.length ∧ l < (s.loops x).length ∧ v.st ≠ 4) :=
  ⟨⟨tR, 32, 0, by dsimp only; decide +kernel⟩,
   ⟨{ tR with power := { tR.power with extValid := some 10 } }, 32, 1, by dsimp only; decide +kernel⟩,
   ⟨tR, 32, 4, by decide +kernel⟩,
   ⟨tL, 0, by decide +kernel⟩,
   ⟨{ tR with power := { tR.power with extValid := some 10 } }, 10, by decide +kernel⟩,
   ⟨{ tR with power := { tR.power with extValid := some 10 } }, 10, by decide +kernel⟩,
   ⟨tObj { tR with power := { tR.power with extValid := some 10, intFailed := true } } [(0, O.REF_IN_USE, 1)], 10, by decide +kernel⟩,
   ⟨tR, by decide +kernel⟩,
   ⟨tObj tR [(0, O.REF_SELECT, 0)], 10, by dsimp only; decide +kernel⟩,
   ⟨tObj tR [(0, O.REF_SELECT, 3)], 100, by dsimp only; decide +kernel⟩,
   ⟨tObj tR [(0, O.REF_SELECT, 2), (0, O.REF_IN_USE, 2)], 100, by dsimp only; decide +kernel⟩,
   ⟨{ tR with power := { tR.power with extValid := some 100 } }, by decide +kernel⟩,
   ⟨{ tR with power := { tR.power with loops := tR.power.loops.set 3 [{ st := 1 }, { st := 1 }, { st := 2 }, { st := 3 }] } }, 3, 0, by dsimp only; decide +kernel⟩,
   ⟨{ tR with power := { tR.power with loops := tR.power.loops.set 3 [{ st := 2 }, { st := 1 }, { st := 2 }, { st := 3 }] } }, 3, 1, by dsimp only; decide +kernel⟩,
   ⟨{ tR with power := { tR.power with loops := tR.power.loops.set 3 [{ st := 2 }, { st := 4, losses := 1 }, { st := 2 }, { st := 3 }] } }, 3, 1, by dsimp only; decide +kernel⟩,
   ⟨{ tR with power := { tR.power with loops := tR.power.loops.set 3 [{ st := 2 }, { st := 1 }, { st := 2 }, { st := 3 }] } }, 3, 1, by dsimp only; decide +kernel⟩,
   ⟨tR, 3, 1, by dsimp only; decide +kernel⟩,
   ⟨{ tR with power := { tR.power with loops := tR.power.loops.set 3 [{ st := 2 }, { st := 3, losses := 2 }, { st := 2 }, { st := 3 }] } }, 3, 1, by dsimp only; decide +kernel⟩,
   ⟨tR, 3, 0, by dsimp only; decide +kernel⟩,
   ⟨{ tR with power := { tR.power with loops := tR.power.loops.set 8 [{ st := 2 }, { st := 4 }, { st := 2 }, { st := 3 }] } }, 8, 0, by dsimp only; decide +kernel⟩,
   ⟨{ tR with power := { tR.power with loops := tR.power.loops.set 3 [{ st := 2 }, { st := 4 }, { st := 2 }, { st := 3 }] } }, 3, 0, by dsimp only; decide +kernel⟩,
   ⟨tR, 3, 0, .loopLockTimeout 3 0, by dsimp only; decide +kernel⟩,
   ⟨tR, 3, 0, by dsimp only; decide +kernel⟩⟩

/-- The hypotheses of O57 can be met, clause by clause. -/
theorem witness_FaultSupervisor :
    (∃ (s : State) (k : Nat) (lane : Nat), let live := s.faults.lanes.filter fun e => decide (s.now ≤ e.2.2 + msTicks); let hits := (live ++ [(k, lane, s.now)]).countP fun e => e.1 == k && e.2.1 == lane; k < 2 * s.D ∧ lane < 6 ∧ s.running = true ∧ k / 2 ∉ s.faults.downLinks ∧ hits < s.num O.LANE_FAIL_LIMIT) ∧
    (∃ (s : State) (k : Nat) (lane : Nat), let live := s.faults.lanes.filter fun e => decide (s.now ≤ e.2.2 + msTicks); let hits := (live ++ [(k, lane, s.now)]).countP fun e => e.1 == k && e.2.1 == lane; k < 2 * s.D ∧ lane < 6 ∧ s.running = true ∧ k / 2 ∉ s.faults.downLinks ∧ s.num O.LANE_FAIL_LIMIT ≤ hits) ∧
    (∃ (s : State) (d : Nat) (e : Nat) (agree : Bool), d < s.D ∧ e < 8 ∧ s.running = true ∧ (s.num O.SELFTEST_ENABLE = 1 ∨ ∃ g ∈ s.faults.pairTest, 8 * d + e ∈ g.2) ∧ ((s.die d).st = .active ∨ (s.die d).st = .reserve) ∧ d ∉ s.faults.checkFailed ∧ 8 * d + e ∉ s.faults.evalFailed ∧ agree = true ∧ (∀ g ∈ s.faults.pairTest, g.2.filter (· ≠ 8 * d + e) ≠ [])) ∧
    (∃ (s : State) (d : Nat) (e : Nat) (agree : Bool), d < s.D ∧ e < 8 ∧ s.running = true ∧ (s.num O.SELFTEST_ENABLE = 1 ∨ ∃ g ∈ s.faults.pairTest, 8 * d + e ∈ g.2) ∧ ((s.die d).st = .active ∨ (s.die d).st = .reserve) ∧ d ∉ s.faults.checkFailed ∧ 8 * d + e ∉ s.faults.evalFailed ∧ agree = false ∧ s.restarting = true) ∧
    (∃ (s : State) (d : Nat) (e : Nat) (agree : Bool) (ok : Bool), d < s.D ∧ e < 8 ∧ s.running = true ∧ (s.num O.SELFTEST_ENABLE = 1 ∨ ∃ g ∈ s.faults.pairTest, 8 * d + e ∈ g.2) ∧ ((s.die d).st = .active ∨ (s.die d).st = .reserve) ∧ d ∉ s.faults.checkFailed ∧ 8 * d + e ∉ s.faults.evalFailed ∧ agree = false ∧ s.restarting = false ∧ ok = true) ∧
    (∃ (s : State) (d : Nat) (e : Nat) (agree : Bool) (ok : Bool), d < s.D ∧ e < 8 ∧ s.running = true ∧ (s.num O.SELFTEST_ENABLE = 1 ∨ ∃ g ∈ s.faults.pairTest, 8 * d + e ∈ g.2) ∧ ((s.die d).st = .active ∨ (s.die d).st = .reserve) ∧ d ∉ s.faults.checkFailed ∧ 8 * d + e ∉ s.faults.evalFailed ∧ agree = false ∧ s.restarting = false ∧ ok = false) ∧
    (∃ (s : State) (d : Nat) (e : Nat), s.num O.SELFTEST_ENABLE ≠ 1 ∧ (∀ g ∈ s.faults.pairTest, 8 * d + e ∉ g.2)) ∧
    (∃ (s : State), s.awake = true) ∧
    (∃ (s : State), s.awake = true) ∧
    (∃ (s : State), s.restarting = true ∧ s.deferred = [] ∧ s.faults.evalHeld = []) ∧
    (∃ (s : State) (p : Nat) (k : Nat) (op : Nat), s.hubRestart = true ∧ s.missed = [(p, k, op)] ∧ s.deferred = [] ∧ s.mailboxes = [] ∧ s.faults.held = [] ∧ s.faults.evalHeld = [] ∧ (∀ i b, s.dirLoad i b ≤ s.dirCap i b)) ∧
    (∃ (s : State), s.restarting = false) ∧
    (∃ (s : State) (d : Nat) (n : Nat) (a : AuditWindow), d < s.D ∧ s.running = true ∧ s.num O.SELFTEST_ENABLE = 1 ∧ ((s.die d).st = .active ∨ (s.die d).st = .reserve) ∧ (s.die d).measuring = false ∧ (s.die d).gap = false ∧ (s.die d).spares ≠ [] ∧ s.inputOfDie d = some n ∧ shadowCause a = none) ∧
    (∃ (s : State) (d : Nat) (n : Nat) (a : AuditWindow), d < s.D ∧ s.running = true ∧ s.num O.SELFTEST_ENABLE = 1 ∧ ((s.die d).st = .active ∨ (s.die d).st = .reserve) ∧ (s.die d).measuring = false ∧ (s.die d).gap = false ∧ (s.die d).spares ≠ [] ∧ s.inputOfDie d = some n ∧ (shadowCause a).isSome = true) ∧
    (∃ (s : State) (p : Nat), Served s p ∧ ownerOf p = s.steward) ∧
    (∃ (s : State) (p : Nat), Served s p ∧ ownerOf p ≠ s.steward) ∧
    (∃ (s : State), s.dev ≠ .off ∧ s.dev ≠ .deep) :=
  ⟨⟨{ tR with counter := 5 }, 5, 3, by dsimp only; decide +kernel⟩,
   ⟨{ tR with faults := { tR.faults with lanes := (List.replicate 2000 (5, 3, 0)), linkFail := [(5, 2)] } }, 5, 3, by dsimp only; decide +kernel⟩,
   ⟨tR, 2, 3, true, by decide +kernel⟩,
   ⟨{ tR with supRestart := true }, 2, 3, false, by decide +kernel⟩,
   ⟨tR, 2, 3, false, true, by decide +kernel⟩,
   ⟨tR, 2, 3, false, false, by decide +kernel⟩,
   ⟨tObj tR [(0, O.SELFTEST_ENABLE, 0)], 2, 3, by decide +kernel⟩,
   ⟨tR, by decide +kernel⟩,
   ⟨tR, by decide +kernel⟩,
   ⟨{ tR with supRestart := true, missed := [(32, 5, 6)] }, by decide +kernel⟩,
   ⟨{ tR with hubRestart := true, missed := [(32, 5, 6)] }, 32, 5, 6, by and_intros <;> first | decide +kernel | (intro i b; have h : tR.ringLoad = [] := (by decide +kernel); exact Nat.le_trans (Nat.le_of_eq (congrArg (List.count (i, b)) h)) (Nat.zero_le _))⟩,
   ⟨tR, by decide +kernel⟩,
   ⟨tR, 2, 2, tA, by decide +kernel⟩,
   ⟨tR, 2, 2, { tA with missing := true }, by decide +kernel⟩,
   ⟨tObj { tR with faults := { tR.faults with openEvents := [(4, 9), (5, 9)] } } [(0, O.TARNISH, 0x30)], 32, by decide +kernel⟩,
   ⟨tL, 0, by decide +kernel⟩,
   ⟨tR, by decide +kernel⟩⟩

/-- The hypotheses of O58 can be met, clause by clause. -/
theorem witness_TestsAndCapture :
    (∃ (s : State) (n : Nat), n < s.D ∧ s.running = true ∧ s.num O.SELFTEST_ENABLE = 1 ∧ s.test = none ∧ s.testNext = none ∧ ((s.input n).st = .absorbed ∨ (s.input n).st = .dark ∨ (s.input n).st = .changing)) ∧
    (∃ (s : State) (n : Nat), n < s.D ∧ s.running = true ∧ s.num O.SELFTEST_ENABLE = 1 ∧ s.test = none ∧ s.testNext = none ∧ (s.input n).st ≠ .absorbed ∧ (s.input n).st ≠ .dark ∧ (s.input n).st ≠ .changing ∧ s.busyInput n = false) ∧
    (∃ (s : State) (n : Nat), n < s.D ∧ s.running = true ∧ s.num O.SELFTEST_ENABLE = 1 ∧ s.test = none ∧ s.testNext = none ∧ (s.input n).st ≠ .absorbed ∧ (s.input n).st ≠ .dark ∧ (s.input n).st ≠ .changing ∧ s.busyInput n = true) ∧
    (∃ (s : State) (n : Nat), n < s.D ∧ s.running = true ∧ s.num O.SELFTEST_ENABLE = 1 ∧ (s.test.isSome = true ∨ s.testNext.isSome = true) ∧ n ∉ s.testDue) ∧
    (∃ (s : State), s.num O.SELFTEST_ENABLE ≠ 1) ∧
    (∃ (s : State) (x : InputTest), s.test = some x ∧ x.input < 8 ∧ s.testNext = none ∧ s.testDue = []) ∧
    (∃ (s : State) (x : InputTest), s.test = some x ∧ x.input < 8 ∧ s.testNext = none ∧ s.testDue = []) ∧
    (∃ (s : State) (x : InputTest) (m : Nat), s.test = some x ∧ x.input < 8 ∧ s.testNext = some m ∧ s.testDue = [] ∧ (s.input m).st = .single ∧ s.busyInput m = false) ∧
    (∃ (s : State), s.test = none) ∧
    (∃ (s : State) (p : Nat) (n : Nat), Served s p ∧ ownerOf p = s.steward ∧ n < s.D ∧ s.busyInput n = false ∧ s.testNext = none ∧ s.running = true ∧ s.test = none ∧ (s.input n).st = .single) ∧
    (∃ (s : State) (p : Nat) (n : Nat) (x : InputTest), Served s p ∧ ownerOf p = s.steward ∧ n < s.D ∧ s.busyInput n = false ∧ s.testNext = none ∧ s.running = true ∧ s.test = some x ∧ x.commanded = false) ∧
    (∃ (s : State) (p : Nat) (n : Nat) (x : InputTest), Served s p ∧ ownerOf p = s.steward ∧ n < s.D ∧ s.busyInput n = false ∧ s.testNext = none ∧ s.running = true ∧ s.test = some x ∧ x.commanded = true) ∧
    (∃ (s : State) (p : Nat) (n : Nat), Served s p ∧ ownerOf p = s.steward ∧ n < s.D ∧ (s.busyInput n = true ∨ s.running = false)) ∧
    (∃ (s : State) (p : Nat) (v : Slot), Served s p ∧ ownerOf p = s.steward ∧ s.D ≤ v.toNat) ∧
    (∃ (s : State) (p : Nat), Served s p ∧ ownerOf p ≠ s.steward) ∧
    (∃ (s : State) (p : Nat), Served s p ∧ ownerOf p = s.steward ∧ (s.num O.CAP_STATE = 0 ∨ s.num O.CAP_STATE = 3 ∨ s.num O.CAP_STATE = 4)) ∧
    (∃ (s : State) (p : Nat), Served s p ∧ ownerOf p = s.steward ∧ (s.num O.CAP_STATE = 1 ∨ s.num O.CAP_STATE = 2)) ∧
    (∃ (s : State) (p : Nat), Served s p ∧ ownerOf p = s.steward) ∧
    (∃ (s : State) (p : Nat) (i : Instr), Served s p ∧ ownerOf p ≠ s.steward ∧ (i = Instr.capStart p ∨ i = .capCancel p)) ∧
    (∃ (s : State) (k : Capture) (x : Ctx) (skip : Nat), let ph := (kvGet x.phase (linkKey k.die k.dst)).getD 0; s.faults.capture = some k ∧ s.num O.CAP_STATE = 1 ∧ s.ctx k.ctx = some x ∧ s.capLive k = true ∧ capSkip (s.halfRate k.src) ph = some skip) ∧
    (∃ (s : State) (k : Capture) (x : Ctx), let ph := (kvGet x.phase (linkKey k.die k.dst)).getD 0; s.faults.capture = some k ∧ s.num O.CAP_STATE = 1 ∧ s.ctx k.ctx = some x ∧ s.capLive k = true ∧ capSkip (s.halfRate k.src) ph = none) ∧
    (∃ (s : State) (k : Capture), s.faults.capture = some k ∧ s.capLive k = false) ∧
    (∃ (s : State) (k : Capture), s.faults.capture = some k ∧ (s.num O.CAP_STATE = 1 ∨ s.num O.CAP_STATE = 2) ∧ (4096 ≤ k.bytes.length ∨ s.capLive k = false)) ∧
    (∃ (s : State) (k : Capture), s.faults.capture = some k ∧ s.num O.CAP_STATE ≠ 1) ∧
    (∃ (s : State) (k : Capture), s.faults.capture = some k ∧ s.num O.CAP_STATE ≠ 1 ∧ s.num O.CAP_STATE ≠ 2) :=
  ⟨⟨tIn 2 { members := [], st := .absorbed }, 2, by decide +kernel⟩,
   ⟨tR, 2, by decide +kernel⟩,
   ⟨tCtx 1 { owner := 16, st := .armed } (tObj { tR with dev := .armed } [(1, O.TRIG_TYPE, 1), (1, O.TRIG_SOURCE, 2)]), 2, by decide +kernel⟩,
   ⟨{ tR with test := some { input := 1, commanded := false } }, 2, by decide +kernel⟩,
   ⟨tObj tR [(0, O.SELFTEST_ENABLE, 0)], by decide +kernel⟩,
   ⟨{ tR with test := some { input := 1, commanded := false } }, { input := 1, commanded := false }, by decide +kernel⟩,
   ⟨{ tR with test := some { input := 1, commanded := false } }, { input := 1, commanded := false }, by decide +kernel⟩,
   ⟨{ tR with test := some { input := 1, commanded := false }, testNext := some 3 }, { input := 1, commanded := false }, 3, by decide +kernel⟩,
   ⟨tR, by decide +kernel⟩,
   ⟨tR, 32, 2, by decide +kernel⟩,
   ⟨{ tR with test := some { input := 1, commanded := false } }, 32, 2, { input := 1, commanded := false }, by decide +kernel⟩,
   ⟨{ tR with test := some { input := 1, commanded := true } }, 32, 2, { input := 1, commanded := true }, by decide +kernel⟩,
   ⟨tCtx 1 { owner := 16, st := .armed } (tObj { tR with dev := .armed } [(1, O.TRIG_TYPE, 1), (1, O.TRIG_SOURCE, 2)]), 32, 2, by decide +kernel⟩,
   ⟨tR, 32, 8, by decide +kernel⟩,
   ⟨tL, 0, by decide +kernel⟩,
   ⟨tR, 32, by decide +kernel⟩,
   ⟨tObj tR [(0, O.CAP_STATE, 1)], 32, by decide +kernel⟩,
   ⟨tObj { tR with faults := { tR.faults with capture := some { ctx := 1, die := 2, src := 3, second := false, dst := 1 } } } [(0, O.CAP_STATE, 1)], 32, by decide +kernel⟩,
   ⟨tL, 0, .capStart 0, by decide +kernel⟩,
   ⟨tObj { tR with ctxs := [(1, { tX .armed with streams := [⟨2, 1, false⟩] })], faults := { tR.faults with capture := some { ctx := 1, die := 2, src := 3, second := false, dst := 1 } } } [(0, O.CAP_STATE, 1)], { ctx := 1, die := 2, src := 3, second := false, dst := 1 }, { tX .armed with streams := [⟨2, 1, false⟩] }, 0, by dsimp only; decide +kernel⟩,
   ⟨tObj { tR with ctxs := [(1, { tX .armed with streams := [⟨2, 1, false⟩], phase := [(linkKey 2 1, 3)] })], faults := { tR.faults with capture := some { ctx := 1, die := 2, src := 3, second := false, dst := 1 } } } [(0, O.CAP_STATE, 1)], { ctx := 1, die := 2, src := 3, second := false, dst := 1 }, { tX .armed with streams := [⟨2, 1, false⟩], phase := [(linkKey 2 1, 3)] }, by dsimp only; decide +kernel⟩,
   ⟨tObj { tR with faults := { tR.faults with capture := some { ctx := 1, die := 2, src := 3, second := false, dst := 1 } } } [(0, O.CAP_STATE, 1)], { ctx := 1, die := 2, src := 3, second := false, dst := 1 }, by decide +kernel⟩,
   ⟨tObj { tR with faults := { tR.faults with capture := some { ctx := 1, die := 2, src := 3, second := false, dst := 1, running := true, trits := [1, 2], bytes := [7] } } } [(0, O.CAP_STATE, 2)], { ctx := 1, die := 2, src := 3, second := false, dst := 1, running := true, trits := [1, 2], bytes := [7] }, by decide +kernel⟩,
   ⟨{ tR with faults := { tR.faults with capture := some { ctx := 1, die := 2, src := 3, second := false, dst := 1 } } }, { ctx := 1, die := 2, src := 3, second := false, dst := 1 }, by decide +kernel⟩,
   ⟨{ tR with faults := { tR.faults with capture := some { ctx := 1, die := 2, src := 3, second := false, dst := 1 } } }, { ctx := 1, die := 2, src := 3, second := false, dst := 1 }, by decide +kernel⟩⟩

/-- The hypotheses of O59 can be met, clause by clause. -/
theorem witness_FirmwareAndReports :
    (∃ (s : State) (p : Nat) (h : Nat) (u : State), Served s p ∧ ownerOf p = s.steward ∧ (s.num O.FW_STATE = 0 ∨ s.num O.FW_STATE = 6) ∧ bit (s.get O.SEC_LOCKS) 1 = false ∧ allocBuf (freeStaging s) (ownerOf p) .firmware (s.num O.FW_PKG_BYTES) = some (h, u)) ∧
    (∃ (s : State) (p : Nat), Served s p ∧ ownerOf p = s.steward ∧ (s.num O.FW_STATE = 0 ∨ s.num O.FW_STATE = 6) ∧ bit (s.get O.SEC_LOCKS) 1 = false ∧ allocBuf (freeStaging s) (ownerOf p) .firmware (s.num O.FW_PKG_BYTES) = none) ∧
    (∃ (s : State) (p : Nat) (h : Nat) (u : State), Served s p ∧ ownerOf p = s.steward ∧ s.num O.FW_STATE = 5 ∧ bit (s.get O.SEC_LOCKS) 1 = false ∧ allocBuf (freeStaging (cancelInstall s)) (ownerOf p) .firmware (s.num O.FW_PKG_BYTES) = some (h, u)) ∧
    (∃ (s : State) (p : Nat) (b : HubBuf) (h : Nat) (u : State), Served s p ∧ ownerOf p = s.steward ∧ s.num O.FW_STATE = 1 ∧ bit (s.get O.SEC_LOCKS) 1 = false ∧ kvGet s.bufs (s.num O.FW_HANDLE) = some b ∧ b.owner ≠ ownerOf p ∧ allocBuf (freeStaging s) (ownerOf p) .firmware (s.num O.FW_PKG_BYTES) = some (h, u)) ∧
    (∃ (s : State) (p : Nat), Served s p ∧ ownerOf p = s.steward ∧ (bit (s.get O.SEC_LOCKS) 1 = true ∨ (s.num O.FW_STATE ≠ 0 ∧ s.num O.FW_STATE ≠ 5 ∧ s.num O.FW_STATE ≠ 6 ∧ s.stagingOfOther p = false))) ∧
    (∃ (s : State) (p : Nat), Served s p ∧ ownerOf p = s.steward ∧ s.num O.FW_STATE = 1) ∧
    (∃ (s : State) (p : Nat), Served s p ∧ ownerOf p = s.steward ∧ s.num O.FW_STATE ≠ 1) ∧
    (∃ (s : State) (p : Nat), Served s p ∧ ownerOf p = s.steward ∧ s.num O.FW_STATE = 3 ∧ s.fw.banks.length = 2 ∧ s.fw.inForce < 2) ∧
    (∃ (s : State) (p : Nat), Served s p ∧ ownerOf p = s.steward ∧ s.num O.FW_STATE ≠ 3) ∧
    (∃ (s : State) (p : Nat), Served s p ∧ ownerOf p = s.steward ∧ (s.num O.FW_STATE = 1 ∨ s.num O.FW_STATE = 3 ∨ s.num O.FW_STATE = 5 ∨ s.num O.FW_STATE = 6)) ∧
    (∃ (s : State) (p : Nat), Served s p ∧ ownerOf p = s.steward ∧ (s.num O.FW_STATE = 0 ∨ s.num O.FW_STATE = 2 ∨ s.num O.FW_STATE = 4)) ∧
    (∃ (s : State) (p : Nat), Served s p ∧ ownerOf p = s.steward ∧ s.num O.FW_STATE = 0 ∧ s.rollbackPending = true ∧ s.fw.rollback.length = 6) ∧
    (∃ (s : State) (p : Nat), Served s p ∧ ownerOf p = s.steward ∧ (s.num O.FW_STATE ≠ 0 ∨ s.rollbackPending = false)) ∧
    (∃ (s : State) (p : Nat) (i : Instr), Served s p ∧ ownerOf p ≠ s.steward ∧ (i = Instr.fwOpen p ∨ i = .fwVerify p ∨ i = .fwInstall p ∨ i = .fwDiscard p ∨ i = .fwAccept p)) ∧
    (∃ (s : State), s.awake = true ∧ s.num O.FW_STATE = 2) ∧
    (∃ (s : State) (b : FwBank), s.awake = true ∧ s.fw.pkg = some b ∧ s.num O.FW_STATE = 4 ∧ s.fw.banks.length = 2 ∧ s.fw.inForce < 2) ∧
    (∃ (s : State) (b : FwBank), s.awake = true ∧ s.fw.pkg = some b ∧ s.num O.FW_STATE = 4) ∧
    (∃ (s : State), s.num O.FW_STATE ≠ 2) ∧
    (∃ (s : State), s.num O.FW_STATE ≠ 4) ∧
    (∃ (s : State) (p : Nat), Served s p ∧ s.num O.ATTEST_STATE ≠ 1) ∧
    (∃ (s : State) (p : Nat), Served s p ∧ s.num O.ATTEST_STATE = 1) ∧
    (∃ (s : State) (p : Nat) (v : Slot), Served s p ∧ v ≠ 1 ∧ v.toNat < 256 ∧ s.num O.ATTEST_STATE ≠ 1) ∧
    (∃ (s : State) (a : Attest), s.fw.attest = some a) ∧
    (∃ (s : State), s.fw.attest = none) :=
  ⟨⟨tObj tR [(0, O.FW_PKG_BYTES, 4096)], 32, ((allocBuf (freeStaging (tObj tR [(0, O.FW_PKG_BYTES, 4096)])) (ownerOf 32) .firmware 4096).getD (0, tR)).1, ((allocBuf (freeStaging (tObj tR [(0, O.FW_PKG_BYTES, 4096)])) (ownerOf 32) .firmware 4096).getD (0, tR)).2, by and_intros <;> first | decide +kernel | exact all_some (by decide +kernel) | exact all_some2 (by decide +kernel) | rfl⟩,
   ⟨tObj tR [(0, O.FW_PKG_BYTES, 0xFFFFFFFF)], 32, by decide +kernel⟩,
   ⟨tObj tR [(0, O.FW_PKG_BYTES, 4096), (0, O.FW_STATE, 5)], 32, ((allocBuf (freeStaging (cancelInstall (tObj tR [(0, O.FW_PKG_BYTES, 4096), (0, O.FW_STATE, 5)]))) (ownerOf 32) .firmware 4096).getD (0, tR)).1, ((allocBuf (freeStaging (cancelInstall (tObj tR [(0, O.FW_PKG_BYTES, 4096), (0, O.FW_STATE, 5)]))) (ownerOf 32) .firmware 4096).getD (0, tR)).2, by and_intros <;> first | decide +kernel | exact all_some (by decide +kernel) | exact all_some2 (by decide +kernel) | rfl⟩,
   ⟨tObj { tR with bufs := [(7, { owner := 5, kind := .firmware, die := 0, off := 0, size := 64 })] } [(0, O.FW_PKG_BYTES, 4096), (0, O.FW_STATE, 1), (0, O.FW_HANDLE, 7)], 32, { owner := 5, kind := .firmware, die := 0, off := 0, size := 64 }, ((allocBuf (freeStaging (tObj { tR with bufs := [(7, { owner := 5, kind := .firmware, die := 0, off := 0, size := 64 })] } [(0, O.FW_PKG_BYTES, 4096), (0, O.FW_STATE, 1), (0, O.FW_HANDLE, 7)])) (ownerOf 32) .firmware 4096).getD (0, tR)).1, ((allocBuf (freeStaging (tObj { tR with bufs := [(7, { owner := 5, kind := .firmware, die := 0, off := 0, size := 64 })] } [(0, O.FW_PKG_BYTES, 4096), (0, O.FW_STATE, 1), (0, O.FW_HANDLE, 7)])) (ownerOf 32) .firmware 4096).getD (0, tR)).2, by and_intros <;> first | decide +kernel | exact all_some (by decide +kernel) | exact all_some2 (by decide +kernel) | rfl⟩,
   ⟨tObj tR [(0, O.FW_STATE, 2)], 32, by decide +kernel⟩,
   ⟨tObj tR [(0, O.FW_STATE, 1)], 32, by decide +kernel⟩,
   ⟨tR, 32, by decide +kernel⟩,
   ⟨tObj tR [(0, O.FW_STATE, 3)], 32, by decide +kernel⟩,
   ⟨tR, 32, by decide +kernel⟩,
   ⟨tObj tR [(0, O.FW_STATE, 5)], 32, by decide +kernel⟩,
   ⟨tObj tR [(0, O.FW_STATE, 4)], 32, by decide +kernel⟩,
   ⟨{ tR with fw := { tR.fw with rollback := [0, 0, 0, 0, 0, 0], revoked := [0], banks := [{ valid := true, images := [{ kind := 1, slot := 1, rollback := 3, version := 2, digest := [], revokeLower := true }] }, {}] } }, 32, by decide +kernel⟩,
   ⟨tObj tR [(0, O.FW_STATE, 1)], 32, by decide +kernel⟩,
   ⟨tL, 0, .fwAccept 0, by decide +kernel⟩,
   ⟨tObj tR [(0, O.FW_STATE, 2)], by decide +kernel⟩,
   ⟨{ tObj tR [(0, O.FW_STATE, 4)] with fw := { tR.fw with pkg := some { valid := true, release := 9 } } }, { valid := true, release := 9 }, by decide +kernel⟩,
   ⟨{ tObj tR [(0, O.FW_STATE, 4)] with fw := { tR.fw with pkg := some { valid := true, release := 9 } } }, { valid := true, release := 9 }, by decide +kernel⟩,
   ⟨tR, by decide +kernel⟩,
   ⟨tR, by decide +kernel⟩,
   ⟨tR, 32, by decide +kernel⟩,
   ⟨tObj tR [(0, O.ATTEST_STATE, 1)], 32, by decide +kernel⟩,
   ⟨tR, 32, 2, by decide +kernel⟩,
   ⟨{ tR with fw := { tR.fw with attest := some { owner := 16, nonce := [1] } } }, { owner := 16, nonce := [1] }, by decide +kernel⟩,
   ⟨tR, by decide +kernel⟩⟩

/-- The hypotheses of O60 can be met, clause by clause. -/
theorem witness_Housekeeping :
    (∃ (s : State) (v : Int) (c : Nat), s.awake = true ∧ s.hk.again = some c ∧ s.judgeMon c v ≠ 0 ∧ (c = 33 → s.num O.HK_REF_SELECT ≠ 1) ∧ s.num (O.MON_STATUS_c + c) ≠ 0 ∧ s.judgeMon c v ≠ 3 ∧ c < 43) ∧
    (∃ (s : State) (v : Int) (c : Nat), s.awake = true ∧ s.hk.again = some c ∧ s.judgeMon c v ≠ 0 ∧ s.num (O.MON_STATUS_c + c) = 0 ∧ c < 43 ∧ (s.judgeMon c v ≠ 3 ∨ s.num O.THERMAL_ACTION ≠ 1)) ∧
    (∃ (s : State) (v : Int) (c : Nat), s.awake = true ∧ s.hk.again = some c ∧ s.judgeMon c v = 3 ∧ s.num (O.MON_STATUS_c + c) ≠ 3 ∧ c < 43 ∧ s.num O.THERMAL_ACTION = 1 ∧ s.running = true ∧ s.get O.POWER_PHASE = 0) ∧
    (∃ (s : State) (v : Int) (c : Nat), s.awake = true ∧ s.hk.again = none ∧ (s.monChannels.find? fun c => decide (s.hk.scan ≤ c)) = some c ∧ (c = 33 → s.num O.HK_REF_SELECT ≠ 1) ∧ s.judgeMon c v ≠ 0) ∧
    (∃ (s : State) (v : Int) (c : Nat), s.awake = true ∧ s.hk.again = none ∧ (s.monChannels.find? fun c => decide (s.hk.scan ≤ c)) = some c ∧ (c = 33 → s.num O.HK_REF_SELECT ≠ 1) ∧ s.judgeMon c v = 0 ∧ s.num (O.MON_STATUS_c + c) = 0) ∧
    (∃ (s : State) (k : Nat), let e := s.get (O.SEQ_ENTRY_k + k); s.awake = true ∧ s.hk.aux = none ∧ s.hk.settleAt = none ∧ s.hk.entry = k ∧ k ∈ s.tableEntries ∧ k < 32 ∧ s.hk.taken + 1 < 2 ^ fld e 8 3) ∧
    (∃ (s : State) (k : Nat), let e := s.get (O.SEQ_ENTRY_k + k); s.awake = true ∧ s.hk.aux = none ∧ s.hk.settleAt = none ∧ s.hk.entry = k ∧ k ∈ s.tableEntries ∧ k < 32 ∧ 2 ^ fld e 8 3 ≤ s.hk.taken + 1) ∧
    (∃ (s : State), (s.tableEntries = [] ∨ s.hk.aux.isSome = true)) ∧
    (∃ (s : State) (p : Nat) (v : Slot), Served s p ∧ ownerOf p = s.steward ∧ v.toNat ≤ 2 ∧ s.get O.HK_REF_SELECT ≠ v) ∧
    (∃ (s : State) (p : Nat), Served s p ∧ ownerOf p = s.steward ∧ (s.get O.HK_REF_SELECT).toNat ≤ 2) ∧
    (∃ (s : State) (p : Nat) (v : Slot), Served s p ∧ ownerOf p = s.steward ∧ 2 < v.toNat) ∧
    (∃ (s : State) (p : Nat) (k : Nat) (v : Slot), Served s p ∧ ownerOf p = s.steward ∧ k < 4 ∧ v.toNat < 2 ^ 32 ∧ bit (s.get (O.AUX_CFG_k + k)) 0 = bit v 0) ∧
    (∃ (s : State) (p : Nat) (k : Nat) (v : Slot), Served s p ∧ ownerOf p = s.steward ∧ k < 4 ∧ v.toNat < 2 ^ 32 ∧ bit (s.get (O.AUX_CFG_k + k)) 0 ≠ bit v 0) ∧
    (∃ (s : State) (p : Nat) (k : Nat), Served s p ∧ ownerOf p = s.steward ∧ k < 4 ∧ s.hk.aux = none) ∧
    (∃ (s : State) (p : Nat) (k : Nat) (r : Nat), Served s p ∧ ownerOf p = s.steward ∧ k < 4 ∧ s.hk.aux = none ∧ s.hk.zero = some (k, r)) ∧
    (∃ (s : State) (p : Nat) (k : Nat), Served s p ∧ ownerOf p = s.steward ∧ k < 4 ∧ s.hk.zero = none) ∧
    (∃ (s : State) (p : Nat) (k : Nat) (i : Instr), Served s p ∧ ownerOf p = s.steward ∧ k < 4 ∧ s.hk.aux.isSome = true ∧ (i = Instr.auxCalZero p k ∨ i = .auxCalSpan p k)) ∧
    (∃ (s : State) (p : Nat) (k : Nat), Served s p ∧ ownerOf p = s.steward ∧ k < 4) ∧
    (∃ (s : State) (p : Nat), Served s p ∧ ownerOf p ≠ s.steward) ∧
    (∃ (s : State) (p : Nat) (k : Nat), Served s p ∧ ownerOf p ≠ s.steward ∧ k < 4) ∧
    (∃ (s : State) (p : Nat) (k : Nat) (i : Instr), Served s p ∧ ownerOf p ≠ s.steward ∧ (i = Instr.auxCalZero p k ∨ i = .auxCalSpan p k ∨ i = .auxCalReset p k)) ∧
    (∃ (s : State) (a : Nat), s.hk.settleAt = some a) ∧
    (∃ (s : State), s.hk.settleAt = none) ∧
    (∃ (s : State) (k : Nat), s.hk.restart = false ∧ k < 4 ∧ s.hk.aux = some (k, 1)) ∧
    (∃ (s : State) (sum : Nat) (k : Nat) (r0 : Nat) (w : Nat), let r := (roundAway (16 * sum) 256).toNat; s.hk.restart = false ∧ k < 4 ∧ s.hk.aux = some (k, 2) ∧ s.hk.zero = some (k, r0) ∧ s.auxSpan k r0 r = .inl w) ∧
    (∃ (s : State) (sum : Nat) (k : Nat) (r0 : Nat) (e : Nat), let r := (roundAway (16 * sum) 256).toNat; s.hk.restart = false ∧ k < 4 ∧ s.hk.aux = some (k, 2) ∧ s.hk.zero = some (k, r0) ∧ s.auxSpan k r0 r = .inr e) ∧
    (∃ (s : State), s.hk.aux = none) :=
  ⟨⟨tObj { tR with hk := { again := some 8 } } [(0, O.MON_STATUS_c + 8, 1), (0, O.MON_HIGH_c + 8, 900)], 1000, 8, by decide +kernel⟩,
   ⟨tObj { tR with hk := { again := some 8 } } [(0, O.MON_HIGH_c + 8, 900)], 1000, 8, by decide +kernel⟩,
   ⟨tObj { tR with hk := { again := some 8 } } [(0, O.THERMAL_ACTION, 1)], 12000, 8, by decide +kernel⟩,
   ⟨tObj { tR with hk := { scan := 18 } } [(0, O.MON_HIGH_c + 18, 900)], 1000, 18, by decide +kernel⟩,
   ⟨tObj { tR with hk := { scan := 18 } } [(0, O.MON_HIGH_c + 18, 9000)], 1000, 18, by decide +kernel⟩,
   ⟨tObj { tR with hk := { entry := 2 } } [(0, O.SEQ_ENTRY_k + 2, 0x80000300), (0, O.SEQ_ENTRY_k + 9, 0x80000000)], 2, by dsimp only; decide +kernel⟩,
   ⟨tObj { tR with hk := { entry := 9, taken := 7, sum := 8000 } } [(0, O.SEQ_ENTRY_k + 2, 0x80000300), (0, O.SEQ_ENTRY_k + 9, 0x80000305)], 9, by dsimp only; decide +kernel⟩,
   ⟨tR, by decide +kernel⟩,
   ⟨tObj { tR with hk := { aux := some (2, 1) } } [(0, O.AUX_CFG_k + 2, 0x100)], 32, 2, by decide +kernel⟩,
   ⟨tR, 32, by decide +kernel⟩,
   ⟨tR, 32, 3, by decide +kernel⟩,
   ⟨tR, 32, 2, 2, by decide +kernel⟩,
   ⟨tObj tR [(0, O.AUX_CFG_k + 2, 0x100)], 32, 2, 1, by decide +kernel⟩,
   ⟨tR, 32, 2, by decide +kernel⟩,
   ⟨{ tR with hk := { zero := some (2, 100) } }, 32, 2, 100, by decide +kernel⟩,
   ⟨tR, 32, 2, by decide +kernel⟩,
   ⟨{ tR with hk := { aux := some (2, 1) } }, 32, 2, .auxCalSpan 32 2, by decide +kernel⟩,
   ⟨tR, 32, 2, by decide +kernel⟩,
   ⟨tL, 0, by decide +kernel⟩,
   ⟨tL, 0, 1, by decide +kernel⟩,
   ⟨tL, 0, 1, .auxCalSpan 0 1, by decide +kernel⟩,
   ⟨{ tR with hk := { settleAt := some 5 } }, 5, by decide +kernel⟩,
   ⟨tR, by decide +kernel⟩,
   ⟨{ tR with hk := { aux := some (2, 1) } }, 2, by decide +kernel⟩,
   ⟨tObj { tR with hk := { aux := some (2, 2), zero := some (2, 100) } } [(0, O.AUX_CAL_UV_k + 2, 2000000)], 838400, 2, 100, (((tObj { tR with hk := { aux := some (2, 2), zero := some (2, 100) } } [(0, O.AUX_CAL_UV_k + 2, 2000000)]).auxSpan 2 100 52400).getLeft?).getD 0, by dsimp only; decide +kernel⟩,
   ⟨{ tR with hk := { aux := some (2, 2), zero := some (2, 100) } }, 3200, 2, 100, 1, by dsimp only; decide +kernel⟩,
   ⟨tR, by decide +kernel⟩⟩

end Sys2Proof.Tests
end

section
/-! ## Edges on the trits (R139) -/

namespace Sys2Proof.Machine

/-- A sample with trit 0 arms the rising edge and fires an armed falling one (R139). -/
@[simp] theorem edgeStep_zero (a : EdgeArm) : edgeStep a 0 = ({ rise := true, fall := false }, false, a.fall) := by
  simp [edgeStep]

/-- A sample with trit 1 changes nothing (R139). -/
@[simp] theorem edgeStep_one (a : EdgeArm) : edgeStep a 1 = (a, false, false) := by
  simp [edgeStep]

/-- A sample with trit 2 arms the falling edge and fires an armed rising one (R139). -/
@[simp] theorem edgeStep_two (a : EdgeArm) : edgeStep a 2 = ({ rise := false, fall := true }, a.rise, false) := by
  simp [edgeStep]

/-- An armed rising edge fires at a trit 2 and an armed falling one at a trit 0 (R139). -/
theorem edgeStep_fires (a : EdgeArm) (t : Nat) : (edgeStep a t).2 = (a.rise && t == 2, a.fall && t == 0) := rfl

/-- The edge arming left by the first `i` samples of a stream. -/
def armBefore (a : EdgeArm) (ts : List Nat) (i : Nat) : EdgeArm :=
  (ts.take i).foldl (fun b t => (edgeStep b t).1) a

@[simp] theorem armBefore_zero (a : EdgeArm) (ts : List Nat) : armBefore a ts 0 = a := rfl

@[simp] theorem armBefore_cons_succ (a : EdgeArm) (t : Nat) (ts : List Nat) (i : Nat) :
    armBefore a (t :: ts) (i + 1) = armBefore (edgeStep a t).1 ts i := rfl

theorem armBefore_succ {a : EdgeArm} {ts : List Nat} {i t : Nat} (ht : ts[i]? = some t) :
    armBefore a ts (i + 1) = (edgeStep (armBefore a ts i) t).1 := by
  simp [armBefore, List.take_add_one, ht]

/-- Sample `i` fires what one `edgeStep` fires from the arming the samples before it left. -/
theorem edgesOf_getElem? (a : EdgeArm) (ts : List Nat) (i : Nat) :
    (edgesOf a ts)[i]? = ts[i]?.map fun t => (edgeStep (armBefore a ts i) t).2 := by
  induction ts generalizing a i with
  | nil => rfl
  | cons t ts ih =>
    cases i with
    | zero => rfl
    | succ i => simpa [edgesOf] using ih (edgeStep a t).1 i

/-- Some sample before `i` has trit `m`, and only trits 1 stand between it and sample `i`. -/
def MarkedBefore (m : Nat) (ts : List Nat) (i : Nat) : Prop :=
  ∃ j, j < i ∧ ts[j]? = some m ∧ ∀ k, j < k → k < i → ts[k]? = some 1

theorem not_markedBefore_zero (m : Nat) (ts : List Nat) : ¬ MarkedBefore m ts 0 :=
  fun ⟨_, hj, _⟩ => Nat.not_lt_zero _ hj

/-- The marking sample is the latest one, or it stands further back and the latest one has trit 1. -/
theorem markedBefore_succ (m : Nat) (ts : List Nat) (i : Nat) :
    MarkedBefore m ts (i + 1) ↔ ts[i]? = some m ∨ (MarkedBefore m ts i ∧ ts[i]? = some 1) := by
  constructor
  · rintro ⟨j, hj, hm, hbetween⟩
    obtain rfl | hlt : j = i ∨ j < i := by omega
    · exact .inl hm
    · exact .inr ⟨⟨j, hlt, hm, fun k hjk hki => hbetween k hjk (by omega)⟩, hbetween i hlt (by omega)⟩
  · rintro (hm | ⟨⟨j, hj, hm, hbetween⟩, hone⟩)
    · exact ⟨i, by omega, hm, fun k _ _ => by omega⟩
    · refine ⟨j, by omega, hm, fun k hjk hki => ?_⟩
      obtain rfl | hlt : k = i ∨ k < i := by omega
      · exact hone
      · exact hbetween k hjk hlt

/-- From the unarmed state, a rising edge is armed exactly by a trit 0 followed by trits 1 only, and a falling edge
exactly by a trit 2 followed by trits 1 only: the invariant of a stream of trits (R139). -/
theorem armBefore_iff {ts : List Nat} (hts : ∀ t ∈ ts, t ≤ 2) {i : Nat} (hi : i ≤ ts.length) :
    ((armBefore {} ts i).rise = true ↔ MarkedBefore 0 ts i) ∧
    ((armBefore {} ts i).fall = true ↔ MarkedBefore 2 ts i) := by
  induction i with
  | zero => simp [not_markedBefore_zero]
  | succ i ih =>
    obtain ⟨ihRise, ihFall⟩ := ih (by omega)
    have ht : ts[i]? = some ts[i] := List.getElem?_eq_getElem hi
    have hle : ts[i] ≤ 2 := hts _ (List.getElem_mem hi)
    rw [armBefore_succ ht, markedBefore_succ, markedBefore_succ, ht]
    obtain h | h | h : ts[i] = 0 ∨ ts[i] = 1 ∨ ts[i] = 2 := by omega
    · simp [h]
    · simp [h, ihRise, ihFall]
    · simp [h]

/-- Settles O26: sample `i` fires from the arming left before it (`edgesOf_getElem?`), and the invariant
`armBefore_iff` says which samples left it. -/
theorem edgesOnTrits : Obligations.EdgesOnTrits := by
  unfold Obligations.EdgesOnTrits
  intro ts i r f hts hfires
  rw [edgesOf_getElem?, Option.map_eq_some_iff] at hfires
  obtain ⟨t, ht, hstep⟩ := hfires
  obtain ⟨hr, hf⟩ := Prod.mk.inj (hstep.symm.trans (edgeStep_fires _ t))
  obtain ⟨hi, -⟩ := List.getElem?_eq_some_iff.mp ht
  obtain ⟨hrise, hfall⟩ := armBefore_iff hts hi.le
  refine ⟨?_, ?_, rfl, rfl, rfl⟩
  · change _ ↔ _ ∧ MarkedBefore 0 ts i
    simp [hr, ht, hrise, and_comm]
  · change _ ↔ _ ∧ MarkedBefore 2 ts i
    simp [hf, ht, hfall, and_comm]

end Sys2Proof.Machine
end

section
/-! ## What a dictionary write leaves of the access paths

The access paths hold the write stages, so an operation that keeps them stages nothing (R415). -/

namespace Sys2Proof.Machine

variable {s t u : State}

/-- The access paths of `t` hold what those of `s` do. A relation of states, not an equation of their paths, so that no
check evaluates the operation that leads from `s` to `t` down to its addresses. -/
def SamePaths (s t : State) : Prop := t.paths = s.paths

theorem SamePaths.trans (h : SamePaths s t) (h' : SamePaths t u) : SamePaths s u := Eq.trans h' h

theorem SamePaths.path (h : SamePaths s t) (p : Nat) : t.path p = s.path p := by
  unfold State.path
  rw [h]

variable (s)

theorem samePaths_refl : SamePaths s s := rfl

theorem samePaths_setObj (i k : Nat) (v : Slot) : SamePaths s (s.setObj i k v) := State.setObj_paths s i k v

theorem samePaths_ite {b : Prop} [Decidable b] (ht : SamePaths s t) (hu : SamePaths s u) :
    SamePaths s (if b then t else u) := by
  split
  · exact ht
  · exact hu

/-- A fold keeps the paths where each of its steps does. -/
theorem samePaths_foldl {α : Type} (l : List α) (f : State → α → State) (hf : ∀ t x, SamePaths t (f t x)) :
    SamePaths s (l.foldl f s) := by
  induction l generalizing s with
  | nil => exact samePaths_refl s
  | cons x l ih => exact (hf s x).trans (ih (f s x))

/-- A checked write that fails changes nothing. -/
theorem samePaths_need (b : Bool) (a : Abort) {f : State → Acc} (hf : SamePaths s (f s).1) :
    SamePaths s (need b a s f).1 := by
  cases b
  · exact samePaths_refl s
  · exact hf

/-! ### Capture memory -/

theorem samePaths_wakePc (d pc : Nat) : SamePaths s (wakePc s d pc) :=
  samePaths_ite s (samePaths_ite s rfl (samePaths_refl s)) (samePaths_refl s)

theorem samePaths_markWritten (d u : Nat) : SamePaths s (markWritten s d u) :=
  samePaths_ite s rfl (samePaths_refl s)

theorem samePaths_unpoison (a : Nat) : SamePaths s (unpoison s a) :=
  samePaths_ite s rfl (samePaths_refl s)

theorem samePaths_storePart (x : Nat × List Byte) : SamePaths s (storePart s x) := by
  unfold storePart
  split
  · exact samePaths_refl s
  · have hmark (d pc u : Nat) : SamePaths s (markWritten (wakePc s d pc) d u) :=
      (samePaths_wakePc s d pc).trans (samePaths_markWritten _ d u)
    dsimp only
    split
    · exact (hmark _ _ _).trans (samePaths_unpoison _ _)
    · exact hmark _ _ _

theorem samePaths_writeMem (a : Nat) (bs : List Byte) : SamePaths s (writeMem s a bs) := by
  unfold writeMem
  refine samePaths_foldl s _ _ fun t x => ?_
  split
  · exact samePaths_storePart _ _
  · exact samePaths_setObj _ _ _ _

theorem samePaths_handleWrite (h o : Nat) (bs : List Byte) : SamePaths s (handleWrite s h o bs) := by
  unfold handleWrite
  split
  · exact samePaths_foldl s _ _ samePaths_storePart
  · exact samePaths_refl s

/-! ### Data ports and TARNISH -/

theorem samePaths_dpAdvance (q : DpId) (n : Nat) : SamePaths s (dpAdvance s q n) :=
  samePaths_ite s rfl rfl

/-- A write at a port's cursor reaches memory, a buffer or the port's own staged bytes, never an access path (R318). -/
theorem samePaths_dpWrite (p c : Nat) (ctxPort : Bool) (bs : List Byte) :
    SamePaths s (dpWrite s p c ctxPort bs).1 := by
  refine samePaths_need s _ _ ?_
  split
  · exact samePaths_refl s
  · dsimp only
    split
    · exact samePaths_ite s (samePaths_setObj s _ _ _) (samePaths_refl s)
    · split
      · exact samePaths_need s _ _ rfl
      · exact samePaths_need s _ _
          ((samePaths_ite s (samePaths_refl s) (samePaths_writeMem s _ _)).trans (samePaths_dpAdvance _ _ _))
      · exact samePaths_need s _ _ ((samePaths_handleWrite s _ _ _).trans (samePaths_dpAdvance _ _ _))
      · exact samePaths_refl s

theorem samePaths_emcyEnd (before : Nat) : SamePaths s (emcyEnd before s) :=
  samePaths_ite s rfl (samePaths_refl s)

theorem samePaths_tarnishPolish (p : Nat) (v : Slot) : SamePaths s (tarnishPolish s p v).1 :=
  samePaths_need s _ _ (samePaths_emcyEnd _ _)

/-! ### Stored objects -/

theorem samePaths_resetConsumer (k : Nat) : SamePaths s (resetConsumer s k) := by
  unfold resetConsumer
  dsimp only
  split
  · exact samePaths_emcyEnd _ _
  · rfl

theorem samePaths_measured (old : State) : SamePaths s (measured old s) :=
  samePaths_ite s (samePaths_refl s) (samePaths_setObj s _ _ _)

theorem samePaths_afterWrite (old : State) (i sub : Nat) (v : Slot) : SamePaths s (afterWrite old s i sub v) := by
  unfold afterWrite
  dsimp only
  split_ifs
  · exact samePaths_measured s old
  · exact samePaths_setObj s _ _ _
  · rfl
  · rfl
  · exact samePaths_resetConsumer s _
  · rfl
  · rfl
  · rfl

theorem samePaths_storeScalar (p c i sub : Nat) (r : ObjRow) (v : Slot) :
    SamePaths s (storeScalar s p c i sub r v) := by
  unfold storeScalar
  dsimp only
  split
  · exact samePaths_setObj s _ _ _
  · split
    · rfl
    · exact samePaths_afterWrite _ _ _ _ _

end Sys2Proof.Machine
end

section
/-! ## Wide objects: the 64-bit scalars, whose halves are staged (R413, R415) -/

namespace Sys2Proof.Machine

/-- The row of a wide object. -/
def ObjRow.isWide (r : ObjRow) : Bool := !r.ty.isBlob && r.ty.bytes == 8

theorem isWide_iff (i sub : Nat) : isWide i sub = true ↔ ∃ r, findRow i sub = some r ∧ r.isWide = true := by
  unfold isWide ObjRow.isWide
  cases findRow i sub <;> simp

theorem ObjRow.isWide_iff (r : ObjRow) : r.isWide = true ↔ r.ty.isBlob = false ∧ r.ty.bytes = 8 := by
  simp [ObjRow.isWide]

/-- What the search for a row finds. -/
theorem findRow_some {i sub : Nat} {r : ObjRow} (h : findRow i sub = some r) :
    r ∈ objRowsOf (normIdx i) ∧ r.idx = normIdx i ∧ r.lo ≤ sub ∧ sub ≤ r.hi := by
  have hp := List.find?_some h
  simp only [Bool.and_eq_true, beq_iff_eq, decide_eq_true_eq] at hp
  exact ⟨List.mem_of_find?_eq_some h, hp.1.1, hp.1.2, hp.2⟩

/-- Indices below 1000 and from 6000 on have no rows. -/
theorem objRowsOf_outside {j : Nat} (hj : ¬ (0x1000 ≤ j ∧ j < 0x6000)) : objRowsOf j = [] := by
  have hn : ¬ (0x10 ≤ j / 256 ∧ j / 256 < 0x60) := by omega
  unfold objRowsOf
  split
  case h_22 => exact if_neg fun h => hn ⟨h.1, h.2.trans (by decide)⟩
  all_goals exfalso; omega

theorem normIdx_range (i : Nat) : 0x1000 ≤ normIdx i ∧ normIdx i < 0x6000 ↔ 0x1000 ≤ i ∧ i < 0x6000 := by
  unfold normIdx
  split_ifs <;> omega

theorem indexKnown_of_findRow {i sub : Nat} {r : ObjRow} (h : findRow i sub = some r) : indexKnown i = true := by
  obtain ⟨hmem, hidx, -, -⟩ := findRow_some h
  exact List.any_eq_true.mpr ⟨r, hmem, beq_iff_eq.mpr hidx⟩

/-- An object with a row is absent exactly where the variant lacks it (R3, R405). -/
theorem absent_of_findRow (s : State) {i sub : Nat} {r : ObjRow} (h : findRow i sub = some r) :
    s.absent i sub = s.missing i sub := by
  obtain ⟨hmem, -, -, -⟩ := findRow_some h
  have hrange : 0x1000 ≤ i ∧ i < 0x6000 := by
    by_contra hi
    rw [objRowsOf_outside (mt (normIdx_range i).mp hi)] at hmem
    exact List.not_mem_nil hmem
  unfold State.absent
  rw [indexKnown_of_findRow h, if_neg (by simp; omega), h]
  cases s.missing i sub <;> rfl

/-! ### Objects with an operation of their own -/

/-- The keys of the objects that `deviceWrite` gives an operation. -/
def deviceKeys : List Nat :=
  [O.DICT_COMMIT, O.DICT_STORE, O.DICT_RESTORE, O.EPOCH_SOURCE, O.CAL_START, O.CAL_COMMIT, O.SLICE_RETEST,
    O.SKEWSET_CLEAR, O.FE_RANGE_n, O.FE_OFFSET_n, O.FE_FILTER_n, O.ALLOY_COMMIT_n, O.RING_POLICY_n, O.RING_MIB_n]

/-- The keys of the objects that `contextWrite` gives an operation. -/
def contextKeys : List Nat :=
  [O.CTX_CMD, O.TRIG_FORCE, O.TRIG_LEVEL, O.TRIG_HYST, O.TRIG_LEVEL_B, O.SEQ_B_LEVEL, O.SEQ_B_HYST, O.SEG_RELEASE_SEQ,
    O.SEG_RELEASE_UPTO, O.SEG_RELEASE_ALL, O.CRU_CMD, O.ASTORE_LOAD] ++ (List.range 16).map (O.PAT_LEVEL_k + ·)

/-- The keys of the objects that `moveWrite` gives an operation. -/
def moveKeys : List Nat :=
  [O.MEM_SPARE_CMD, O.DP_CMD, O.CDP_CMD, O.DP_DATA, O.CDP_DATA, O.MV_CH_CMD, O.EV_CMD, O.EV_SOURCE, O.EV_DEST,
    O.EV_ENABLE, O.EV_STATUS, O.PL_CMD, O.RASTER_CMD, O.RASTER_COMMIT, O.RBUF_CMD, O.LAYER_CMD_l]

/-- The keys of the objects that `systemWrite` gives an operation by their key. -/
def systemKeys : List Nat :=
  [O.CLAIM_CMD, O.ERR_HIST_CLEAR, O.STORE_ALL, O.STORE_COMM, O.RESTORE_ALL, O.RESTORE_COMM, O.RPDO_COBID, O.TPDO_COBID,
    O.POWER_CMD, O.REF_SELECT, O.TARNISH, O.CAP_CMD, O.FW_CMD, O.ATTEST_CMD, O.HK_REF_SELECT, O.AUX_CAL_CMD,
    O.PTEST_CMD]

/-- The indices that `systemWrite` gives an operation whole: WAKE_CTX and AUX_RANGE. -/
def systemIdxs : List Nat := [0x2103, 0x2302]

variable (s : State)

theorem deviceWrite_none {k : Nat} (p n : Nat) (v : Slot) (hk : k ∉ deviceKeys) : deviceWrite s p n k v = none := by
  simp only [deviceKeys, List.mem_cons, List.not_mem_nil, or_false, not_or] at hk
  simp only [deviceWrite, hk, if_false]

theorem isLevelObj_mem {k : Nat} (h : isLevelObj k = true) : k ∈ contextKeys := by
  simp only [isLevelObj, Bool.or_eq_true, Bool.and_eq_true, beq_iff_eq, decide_eq_true_eq] at h
  obtain ((((rfl | rfl) | rfl) | rfl) | rfl) | ⟨hlo, hhi⟩ := h
  iterate 5 exact List.mem_append_left _ (by decide)
  exact List.mem_append_right _
    (List.mem_map.mpr ⟨k - O.PAT_LEVEL_k, List.mem_range.mpr (by omega), Nat.add_sub_cancel' hlo⟩)

theorem contextWrite_none {k : Nat} (p c : Nat) (v : Slot) (hk : k ∉ contextKeys) :
    contextWrite s p c k v = none := by
  have hlevel : isLevelObj k = false := Bool.eq_false_iff.mpr fun h => hk (isLevelObj_mem h)
  simp only [contextKeys, List.mem_append, List.mem_cons, List.not_mem_nil, or_false, not_or] at hk
  simp only [contextWrite, hk, hlevel, if_false, Bool.false_eq_true]

theorem moveWrite_none {k : Nat} (p c n : Nat) (v : Slot) (hk : k ∉ moveKeys) : moveWrite s p c n k v = none := by
  simp only [moveKeys, List.mem_cons, List.not_mem_nil, or_false, not_or] at hk
  simp only [moveWrite, hk, or_self, if_false]

theorem systemWrite_none {i k : Nat} (p sub : Nat) (v : Slot) (hk : k ∉ systemKeys) (hi : i ∉ systemIdxs) :
    systemWrite s p i sub k v = none := by
  simp only [systemKeys, List.mem_cons, List.not_mem_nil, or_false, not_or] at hk
  simp only [systemIdxs, List.mem_cons, List.not_mem_nil, or_false, not_or] at hi
  simp only [systemWrite, hk, hi, or_self, if_false]

/-- An object none of the four groups names is only stored. -/
theorem ownWrite_none {i sub : Nat} (p c : Nat) (v : Slot)
    (hk : normIdx i * 256 + sub ∉ deviceKeys ++ contextKeys ++ moveKeys ++ systemKeys) (hi : i ∉ systemIdxs) :
    ownWrite s p c i sub v = none := by
  simp only [List.mem_append, not_or] at hk
  obtain ⟨⟨⟨hdev, hctx⟩, hmove⟩, hsys⟩ := hk
  unfold ownWrite
  dsimp only
  split
  iterate 11 exact deviceWrite_none s p _ v hdev
  iterate 5 exact contextWrite_none s p c v hctx
  iterate 4 exact moveWrite_none s p c _ v hmove
  exact systemWrite_none s p sub v hsys hi

end Sys2Proof.Machine
end

section
/-! ## Writes of wide objects (R415, R420) -/

namespace Sys2Proof.Machine

/-- The object rows, chapter by chapter. -/
def chapters : List (List ObjRow) :=
  [objRows02, objRows03, objRows04, objRows05, objRows06, objRows07, objRows08, objRows09, objRows10, objRows11,
    objRows12, objRows13, objRows14, objRows15, objRows16, objRows17, objRows18, objRows19]

theorem objRowsOf_chapters (j : Nat) : objRowsOf j ∈ chapters ∨ objRowsOf j = [] := by
  unfold objRowsOf
  split
  all_goals try split_ifs
  all_goals simp only [chapters, List.mem_cons, true_or, or_true]

/-- Of the wide objects only the two data ports and TARNISH have an operation of their own. -/
theorem wide_rows_own : ∀ l ∈ chapters, ∀ r ∈ l, r.isWide = true → r.writable = true →
    r.idx ∉ systemIdxs ∧ ∀ k ∈ deviceKeys ++ contextKeys ++ moveKeys ++ systemKeys,
      r.idx * 256 + r.lo ≤ k → k ≤ r.idx * 256 + r.hi → k ∈ [O.DP_DATA, O.CDP_DATA, O.TARNISH] := by
  decide +kernel

theorem normIdx_eq_self {i : Nat} (h : normIdx i = 0x2500 ∨ normIdx i = 0x2501 ∨ normIdx i = 0x5000) :
    i = normIdx i := by
  revert h
  unfold normIdx
  split_ifs <;> omega

theorem normIdx_systemIdxs {i : Nat} (h : i ∈ systemIdxs) : normIdx i ∈ systemIdxs := by
  simp only [systemIdxs, List.mem_cons, List.not_mem_nil, or_false] at h
  obtain rfl | rfl := h <;> decide

variable {s : State} {p c i sub : Nat} {r : ObjRow}

theorem ownWrite_dpData (v : Slot) : ownWrite s p c 0x2500 7 v = some (dpWrite s p c false (leBytes 8 v.toNat)) := (rfl)

theorem ownWrite_cdpData (v : Slot) : ownWrite s p c 0x2501 7 v = some (dpWrite s p c true (leBytes 8 v.toNat)) := (rfl)

theorem ownWrite_tarnish (v : Slot) : ownWrite s p c 0x5000 1 v = some (tarnishPolish s p v) := (rfl)

/-- A writable wide object with an operation of its own is DP_DATA, CDP_DATA or TARNISH. -/
theorem wide_own (hrow : findRow i sub = some r) (hwide : r.isWide = true) (hw : r.writable = true) (hsub : sub < 256)
    {v : Slot} {a : Acc} (h : ownWrite s p c i sub v = some a) :
    i = 0x2500 ∧ sub = 7 ∨ i = 0x2501 ∧ sub = 7 ∨ i = 0x5000 ∧ sub = 1 := by
  obtain ⟨hmem, hidx, hlo, hhi⟩ := findRow_some hrow
  obtain hch | hnil := objRowsOf_chapters (normIdx i)
  case inr => rw [hnil] at hmem; exact absurd hmem List.not_mem_nil
  obtain ⟨hsys, hown⟩ := wide_rows_own _ hch r hmem hwide hw
  rw [hidx] at hsys hown
  have hkey : normIdx i * 256 + sub ∈ deviceKeys ++ contextKeys ++ moveKeys ++ systemKeys := by
    by_contra hk
    rw [ownWrite_none s p c v hk (mt normIdx_systemIdxs hsys)] at h
    cases h
  have hthree := hown _ hkey (by omega) (by omega)
  simp only [O.DP_DATA, O.CDP_DATA, O.TARNISH, List.mem_cons, List.not_mem_nil, or_false] at hthree
  have hn : normIdx i = 0x2500 ∨ normIdx i = 0x2501 ∨ normIdx i = 0x5000 := by omega
  have hi := normIdx_eq_self hn
  omega

/-- The operation of its own of a wide object stages nothing. -/
theorem samePaths_ownWrite (hrow : findRow i sub = some r) (hwide : r.isWide = true) (hw : r.writable = true)
    (hsub : sub < 256) {v : Slot} {a : Acc} (h : ownWrite s p c i sub v = some a) : SamePaths s a.1 := by
  obtain ⟨rfl, rfl⟩ | ⟨rfl, rfl⟩ | ⟨rfl, rfl⟩ := wide_own hrow hwide hw hsub h
  · obtain rfl := Option.some.inj ((ownWrite_dpData v).symm.trans h)
    exact samePaths_dpWrite _ _ _ _ _
  · obtain rfl := Option.some.inj ((ownWrite_cdpData v).symm.trans h)
    exact samePaths_dpWrite _ _ _ _ _
  · obtain rfl := Option.some.inj ((ownWrite_tarnish v).symm.trans h)
    exact samePaths_tarnishPolish _ _ _

/-! ### The checks of a low half (R415, R420) -/

theorem stageErr_of_missing (hrow : findRow i sub = some r) {a : Abort} (h : s.missing i sub = some a) :
    s.stageErr p c i sub = some a := by
  simp only [State.stageErr, absent_of_findRow s hrow, h]

/-- The checks hold: the variant has the object, its access code admits writes and the path may write it. -/
theorem stageErr_none (hrow : findRow i sub = some r) (h : s.stageErr p c i sub = none) :
    s.missing i sub = none ∧ r.writable = true := by
  cases hm : s.missing i sub with
  | some a => rw [stageErr_of_missing hrow hm] at h; cases h
  | none =>
    refine ⟨rfl, ?_⟩
    by_contra hw
    simp [State.stageErr, absent_of_findRow s hrow, hm, hrow, Bool.eq_false_iff.mpr hw] at h

/-! ### Whole writes -/

/-- The writes of an object that is there and writable: its own operation, a code, or the store. -/
theorem writeObj_cases (hrow : findRow i sub = some r) (hm : s.missing i sub = none) (hw : r.writable = true)
    (v : Slot) : ownWrite s p c i sub v = some (writeObj s p c i sub v) ∨
    ownWrite s p c i sub v = none ∧ ((∃ a, writeObj s p c i sub v = (s, some a)) ∨
      writeObj s p c i sub v = .ok (storeScalar s p c i sub r v)) := by
  simp only [writeObj, absent_of_findRow s hrow, hm, hrow, need_pos s hw]
  cases ownWrite s p c i sub v with
  | some a => exact .inl rfl
  | none =>
    refine .inr ⟨rfl, ?_⟩
    simp only [need]
    split_ifs
    · exact .inr rfl
    all_goals exact .inl ⟨_, rfl⟩

/-- A stored object whose write aborts leaves the state as it was (R420). -/
theorem writeObj_aborts (hrow : findRow i sub = some r) (hm : s.missing i sub = none) (hw : r.writable = true)
    {v : Slot} {a : Abort} (hown : ownWrite s p c i sub v = none) (h : (writeObj s p c i sub v).2 = some a) :
    writeObj s p c i sub v = (s, some a) := by
  obtain hsome | ⟨-, ⟨b, hb⟩ | hok⟩ := writeObj_cases hrow hm hw (p := p) (c := c) v
  · rw [hown] at hsome; cases hsome
  · rw [hb] at h ⊢
    exact congrArg (Prod.mk s) h
  · rw [hok] at h; cases h

/-- A write of a wide object stages nothing. -/
theorem samePaths_writeObj (hrow : findRow i sub = some r) (hwide : r.isWide = true) (hm : s.missing i sub = none)
    (hw : r.writable = true) (hsub : sub < 256) (v : Slot) : SamePaths s (writeObj s p c i sub v).1 := by
  obtain hown | ⟨-, ⟨a, ha⟩ | hok⟩ := writeObj_cases hrow hm hw (p := p) (c := c) v
  · exact samePaths_ownWrite hrow hwide hw hsub hown
  · rw [ha]; exact samePaths_refl s
  · rw [hok]; exact samePaths_storeScalar s _ _ _ _ _ _

theorem samePaths_recordAbort (k op : Nat) (a : Abort) : SamePaths s (recordAbort s p k op a) :=
  ((samePaths_setObj s _ _ _).trans (samePaths_setObj _ _ _ _)).trans (samePaths_setObj _ _ _ _)

theorem samePaths_settle : SamePaths s (settle s) := settle_paths s

theorem samePaths_finish (k op : Nat) {x : Acc} (h : SamePaths s x.1) : SamePaths s (finish p k op x) := by
  unfold finish
  split
  · exact h
  · exact h.trans (samePaths_recordAbort _ _ _)

end Sys2Proof.Machine
end

section
/-! ## Half writes of wide objects through the window (R412, R415) -/

namespace Sys2Proof.Machine

/-! ### The offsets of the two halves -/

theorem winKey_low (i sub : Nat) : winKey (i * 2048 + sub * 8) = i * 256 + sub := by
  unfold winKey
  omega

theorem winKey_high (i sub : Nat) : winKey (i * 2048 + sub * 8 + 4) = i * 256 + sub := by
  unfold winKey
  omega

theorem key_idx {i sub : Nat} (_ : sub < 256) : (i * 256 + sub) / 256 = i := by omega

theorem key_sub {i sub : Nat} (_ : sub < 256) : (i * 256 + sub) % 256 = sub := by omega

theorem winOk_half {off : Nat} (halign : off % 4 = 0) (hoff : off < 2 ^ 26) : winOk off 4 = true := by
  simp only [winOk, halign, hoff]
  rfl

variable {s : State} {p i sub : Nat} {r : ObjRow}

/-- A 4-byte write at the low half of a slot is a low-half write of its object. -/
theorem windowWrite_low (hp : p < 16) (hs : s.serves p = true) (hi : i < 2 ^ 15) (hsub : sub < 256) (v : BitVec 32) :
    windowWrite s p (i * 2048 + sub * 8) 4 (v.zeroExtend 64) =
      access s p (i * 256 + sub) fun t => writeLow t p (t.selected p) i sub v := by
  have hok : winOk (i * 2048 + sub * 8) 4 = true := winOk_half (by omega) (by omega)
  have hlow : (i * 2048 + sub * 8) % 8 = 0 := by omega
  simp only [windowWrite, hp, hs, hok, hlow, winKey_low, key_idx hsub, key_sub hsub,
    BitVec.setWidth_setWidth_of_le v (by decide : 32 ≤ 64), BitVec.setWidth_eq]
  rfl

/-- A 4-byte write at the high half of a slot is a high-half write of its object. -/
theorem windowWrite_high (hp : p < 16) (hs : s.serves p = true) (hi : i < 2 ^ 15) (hsub : sub < 256) (v : BitVec 32) :
    windowWrite s p (i * 2048 + sub * 8 + 4) 4 (v.zeroExtend 64) =
      access s p (i * 256 + sub) fun t => writeHigh t p (t.selected p) i sub v := by
  have hok : winOk (i * 2048 + sub * 8 + 4) 4 = true := winOk_half (by omega) (by omega)
  have hhigh : (i * 2048 + sub * 8 + 4) % 8 = 4 := by omega
  simp only [windowWrite, hp, hs, hok, hhigh, winKey_high, key_idx hsub, key_sub hsub,
    BitVec.setWidth_setWidth_of_le v (by decide : 32 ≤ 64), BitVec.setWidth_eq]
  rfl

/-! ### What a half write does to the stage -/

variable {c : Nat}

/-- A low half that fails a check stages nothing and keeps an earlier stage. -/
theorem writeLow_refused (hrow : findRow i sub = some r) (hwide : r.isWide = true) {a : Abort}
    (h : s.stageErr p c i sub = some a) (v : BitVec 32) : writeLow s p c i sub v = (s, some a) := by
  obtain ⟨-, hbytes⟩ := r.isWide_iff.mp hwide
  simp only [writeLow, hrow, hbytes, or_true, if_true, h]

/-- STAGE_LOST is set where a stage is held that a low half is about to replace. -/
def markLost (s : State) (p : Nat) : State :=
  if (s.path p).stage.isSome then s.flag p O.PATH_STATUS 2 else s

/-- A low half that passes the checks is staged. -/
theorem writeLow_staged (hrow : findRow i sub = some r) (hwide : r.isWide = true) (h : s.stageErr p c i sub = none)
    (v : BitVec 32) : writeLow s p c i sub v =
      .ok ((markLost s p).setPath p { (markLost s p).path p with stage := some (i * 256 + sub, v) }) := by
  obtain ⟨hblob, hbytes⟩ := r.isWide_iff.mp hwide
  simp only [writeLow, hrow, hbytes, hblob, or_true, if_true, h, Bool.false_eq_true, if_false, markLost]

/-- The state without path `p`'s stage. -/
abbrev unstage (s : State) (p : Nat) : State := s.setPath p { s.path p with stage := none }

theorem unstage_stage (s : State) (p : Nat) : ((unstage s p).path p).stage = none := by
  rw [State.path_setPath, if_pos rfl]

/-- A high half writes both halves of its slot's stage and clears the stage. -/
theorem writeHigh_staged (hwide : isWide i sub = true) (h : s.stageErr p c i sub = none) {lo : BitVec 32}
    (hst : (s.path p).stage = some (i * 256 + sub, lo)) (v : BitVec 32) :
    writeHigh s p c i sub v = writeObj (unstage s p) p c i sub (v ++ lo) := by
  simp only [writeHigh, h, hwide, if_true, hst]

/-- A high half without a stage of its slot aborts. -/
theorem writeHigh_unstaged (hwide : isWide i sub = true) (h : s.stageErr p c i sub = none)
    (hst : ∀ k lo, (s.path p).stage = some (k, lo) → k ≠ i * 256 + sub) (v : BitVec 32) :
    writeHigh s p c i sub v = (s, some .length) := by
  simp only [writeHigh, h, hwide, if_true]
  split
  · next k lo hk => exact if_neg (hst k lo hk)
  · rfl

/-! ### Half-write commands -/

theorem answers_lowHalf {off : Nat} {v : Slot} {u : State} {P : State → Prop} (h : windowWrite s p off 4 v = u)
    (hP : P (settle u)) : Answers (.windowWriteLowHalf p off 4 v) s P :=
  answers_done (by rw [exec_windowWriteLowHalf, execWindowWriteLowHalf, h]) hP

theorem answers_highHalf {off : Nat} {v : Slot} {u : State} {P : State → Prop} (h : windowWrite s p off 4 v = u)
    (hP : P (settle u)) : Answers (.windowWriteHighHalf p off 4 v) s P :=
  answers_done (by rw [exec_windowWriteHighHalf, execWindowWriteHighHalf, h]) hP

/-- The write access of a served path to an object the variant has. -/
theorem access_key (h : Served s p) (hsub : sub < 256) (hm : s.missing i sub = none) (f : State → Acc) :
    access s p (i * 256 + sub) f = finish p (i * 256 + sub) 2 (f s.turned) :=
  access_served h _ (by rw [key_idx hsub, key_sub hsub, hm]) f

/-- A low half that fails a check aborts with its code, by the variant's check or the row's (R3, R415). -/
theorem access_writeLow_refused (h : Served s p) (hsub : sub < 256) (hrow : findRow i sub = some r)
    (hwide : r.isWide = true) {a : Abort} (he : s.stageErr p (s.selected p) i sub = some a) (v : BitVec 32) :
    access s p (i * 256 + sub) (fun t => writeLow t p (t.selected p) i sub v) =
      recordAbort s.turned p (i * 256 + sub) 2 a := by
  cases hm : s.missing i sub with
  | some b =>
    obtain rfl : b = a := Option.some.inj ((stageErr_of_missing hrow hm).symm.trans he)
    exact access_missing h _ b (by rw [key_idx hsub, key_sub hsub, hm]) _
  | none =>
    have he' : s.turned.stageErr p (s.turned.selected p) i sub = some a := he
    rw [access_key h hsub hm, writeLow_refused hrow hwide he', finish_some]

/-! ### STAGE_LOST -/

theorem markLost_sets (h : (s.path p).stage.isSome = true) : bit ((markLost s p).obj p O.PATH_STATUS) 2 = true := by
  rw [markLost, if_pos h, State.flag_eq, State.obj_setObj_self, bit_setBit _ _ _ (by decide)]
  simp

theorem markLost_none (h : (s.path p).stage = none) : markLost s p = s := by
  simp [markLost, h]

theorem markLost_onlyObjs : OnlyObjs [objKey p O.PATH_STATUS] s (markLost s p) := by
  unfold markLost
  split
  · exact (onlyObjs_refl s _).set p O.PATH_STATUS _ (by simp)
  · exact onlyObjs_refl s _

/-- Two states that differ in objects only still do after the same change of their access paths. -/
theorem OnlyObjs.withPaths {ks : List Nat} {t : State} (h : OnlyObjs ks s t) (ps : List (Nat × Path)) :
    OnlyObjs ks { s with paths := ps } { t with paths := ps } :=
  ⟨congrArg (fun b : State => { b with paths := ps }) h.1, h.2⟩

/-- The end of a command leaves PATH_STATUS alone. -/
theorem obj_settle_pathStatus : (settle s).obj p O.PATH_STATUS = s.obj p O.PATH_STATUS :=
  obj_settle_of s p O.PATH_STATUS (by decide) (by decide)

end Sys2Proof.Machine
end

section
/-! ## The clauses of R415 -/

namespace Sys2Proof.Machine

variable {s : State} {p i sub : Nat} {r : ObjRow} (h : Served s p) (hp : p < 16) (hrow : findRow i sub = some r)
  (hwide : r.isWide = true) (hi : i < 2 ^ 15) (hsub : sub < 256)
include h hp hrow hwide hi hsub

/-- A refused low half: its abort is recorded, and the stage stays. -/
theorem lowHalf_refused {a : Abort} (he : s.stageErr p (s.selected p) i sub = some a) (v : BitVec 32) :
    Answers (.windowWriteLowHalf p (i * 2048 + sub * 8) 4 (v.zeroExtend 64)) s fun t =>
      (t.path p).stage = (s.path p).stage ∧ Rejected s t p (i * 256 + sub) 2 a := by
  refine answers_lowHalf ((windowWrite_low hp h.1 hi hsub v).trans
    (access_writeLow_refused h hsub hrow hwide he v)) ⟨?_, rejected_settle s.turned p _ 2 a⟩
  exact congrArg Path.stage (((samePaths_recordAbort _ _ _).trans samePaths_settle).path p)

/-- A staged low half: it holds the slot and its half, STAGE_LOST tells of the stage it replaces, and nothing else
changes. -/
theorem lowHalf_staged (he : s.stageErr p (s.selected p) i sub = none) (v : BitVec 32) :
    Answers (.windowWriteLowHalf p (i * 2048 + sub * 8) 4 (v.zeroExtend 64)) s fun t =>
      (t.path p).stage = some (i * 256 + sub, v) ∧
      ((s.path p).stage.isSome = true → bit (t.obj p O.PATH_STATUS) 2 = true) ∧
      ((s.path p).stage = none → t.obj p O.PATH_STATUS = s.obj p O.PATH_STATUS) ∧
      OnlyObjs [objKey p O.PATH_STATUS] { s with paths := t.paths } t := by
  obtain ⟨hm, -⟩ := stageErr_none hrow he
  have he' : s.turned.stageErr p (s.turned.selected p) i sub = none := he
  refine answers_lowHalf ((windowWrite_low hp h.1 hi hsub v).trans ((access_key h hsub hm _).trans
    (congrArg _ (writeLow_staged hrow hwide he' v)))) ⟨?_, fun hst => ?_, fun hst => ?_, ?_⟩
  · rw [samePaths_settle.path, finish_ok, State.path_setPath, if_pos rfl]
  · rw [obj_settle_pathStatus]
    exact markLost_sets (s := s.turned) hst
  · rw [obj_settle_pathStatus, markLost_none (s := s.turned) hst]
    rfl
  · rw [settle_paths, finish_ok]
    exact ((markLost_onlyObjs (s := s.turned)).withPaths _).settled

/-- A high half with a stage of its slot is the 8-byte write of both halves, from the state without the stage. -/
theorem windowWrite_high_staged (he : s.stageErr p (s.selected p) i sub = none) {lo : BitVec 32}
    (hst : (s.path p).stage = some (i * 256 + sub, lo)) (v : BitVec 32) :
    windowWrite s p (i * 2048 + sub * 8 + 4) 4 (v.zeroExtend 64) =
      finish p (i * 256 + sub) 2 (writeObj (unstage s.turned p) p (s.selected p) i sub (v ++ lo)) := by
  obtain ⟨hm, -⟩ := stageErr_none hrow he
  have he' : s.turned.stageErr p (s.turned.selected p) i sub = none := he
  have hst' : (s.turned.path p).stage = some (i * 256 + sub, lo) := hst
  rw [windowWrite_high hp h.1 hi hsub, access_key h hsub hm,
    writeHigh_staged ((isWide_iff i sub).mpr ⟨r, hrow, hwide⟩) he' hst']
  rfl

/-- A high half with a stage of its slot answers as the 8-byte write does, and the stage is gone. -/
theorem highHalf_writes (he : s.stageErr p (s.selected p) i sub = none) {lo : BitVec 32}
    (hst : (s.path p).stage = some (i * 256 + sub, lo)) (v : BitVec 32) :
    Answers (.windowWriteHighHalf p (i * 2048 + sub * 8 + 4) 4 (v.zeroExtend 64)) s fun t =>
      exec (.objectWrite p i sub (v ++ lo)) (unstage s p) = .next t ∧ (t.path p).stage = none := by
  obtain ⟨hm, hw⟩ := stageErr_none hrow he
  have hm' : (unstage s.turned p).missing i sub = none := hm
  have hserved : Served (unstage s p) p := h
  refine answers_highHalf (windowWrite_high_staged h hp hrow hwide hi hsub he hst v) ⟨?_, ?_⟩
  · rw [exec_objectWrite, execObjectWrite, done, access_key hserved hsub hm]
    rfl
  · have hkept := samePaths_finish (i * 256 + sub) 2 (p := p)
      (samePaths_writeObj (p := p) (c := s.selected p) hrow hwide hm' hw hsub (v ++ lo))
    rw [samePaths_settle.path, hkept.path, unstage_stage]

/-- A high half whose combined value fails a check: the abort is recorded, and only the stage is cleared. -/
theorem highHalf_aborts (he : s.stageErr p (s.selected p) i sub = none) {lo : BitVec 32}
    (hst : (s.path p).stage = some (i * 256 + sub, lo)) {v : BitVec 32} {a : Abort}
    (hown : ownWrite (unstage s.turned p) p (s.selected p) i sub (v ++ lo) = none)
    (ha : (writeObj (unstage s.turned p) p (s.selected p) i sub (v ++ lo)).2 = some a) :
    Answers (.windowWriteHighHalf p (i * 2048 + sub * 8 + 4) 4 (v.zeroExtend 64)) s fun t =>
      (t.path p).stage = none ∧ Rejected (unstage s.turned p) t p (i * 256 + sub) 2 a := by
  obtain ⟨hm, hw⟩ := stageErr_none hrow he
  have hm' : (unstage s.turned p).missing i sub = none := hm
  have habort := writeObj_aborts hrow hm' hw hown ha
  refine answers_highHalf ((windowWrite_high_staged h hp hrow hwide hi hsub he hst v).trans
    (congrArg _ habort)) ⟨?_, rejected_settle _ p _ 2 a⟩
  rw [samePaths_settle.path, finish_some, (samePaths_recordAbort _ _ _).path, unstage_stage]

/-- A high half without a stage of its slot aborts with the length-mismatch code and changes nothing. -/
theorem highHalf_unstaged (he : s.stageErr p (s.selected p) i sub = none)
    (hst : ∀ k lo, (s.path p).stage = some (k, lo) → k ≠ i * 256 + sub) (v : BitVec 32) :
    Answers (.windowWriteHighHalf p (i * 2048 + sub * 8 + 4) 4 (v.zeroExtend 64)) s fun t =>
      Rejected s t p (i * 256 + sub) 2 .length := by
  obtain ⟨hm, -⟩ := stageErr_none hrow he
  have he' : s.turned.stageErr p (s.turned.selected p) i sub = none := he
  have hhigh := writeHigh_unstaged (s := s.turned) ((isWide_iff i sub).mpr ⟨r, hrow, hwide⟩) he' hst v
  exact answers_highHalf ((windowWrite_high hp h.1 hi hsub v).trans
    ((access_key h hsub hm _).trans (congrArg _ hhigh))) (rejected_settle s.turned p _ 2 .length)

end Sys2Proof.Machine
end

section
namespace Sys2Proof.Machine

/-- Settles O12, clause by clause: a low half is refused (`lowHalf_refused`) or staged (`lowHalf_staged`); a high half
with its stage is the 8-byte write (`highHalf_writes`), which may abort (`highHalf_aborts`), and one without aborts
(`highHalf_unstaged`). -/
theorem halfWrites : Obligations.HalfWrites := by
  unfold Obligations.HalfWrites
  intro s p i sub v h hp hw hi hsub
  obtain ⟨r, hrow, hwide⟩ := (isWide_iff i sub).mp hw
  refine ⟨fun a he => lowHalf_refused h hp hrow hwide hi hsub he v, fun he => ⟨?_, ?_, ?_, ?_⟩⟩
  · exact lowHalf_staged h hp hrow hwide hi hsub he v
  · exact fun lo hst => highHalf_writes h hp hrow hwide hi hsub he hst v
  · intro lo a hst u hown ha
    have hu : u = unstage s.turned p := congrArg (State.setPath · p _) (takeTurn_free s h.2.2)
    clear_value u
    subst hu
    exact highHalf_aborts h hp hrow hwide hi hsub he hst hown ha
  · exact fun hst => highHalf_unstaged h hp hrow hwide hi hsub he hst v

end Sys2Proof.Machine
end

section
/-! ## Commands of CLAIM_CMD (R446)

Every claim instruction is one write of CLAIM_CMD, so it is settled by what that write does. -/

namespace Sys2Proof.Machine

variable {s : State} {p n cmd o : Nat}

/-! ### The word written -/

theorem claimWord_toNat (hn : n < 16) (hcmd : cmd < 256) : (claimWord n cmd).toNat = n * 256 + cmd := by
  rw [claimWord, ofN_toNat _ (by omega)]
  omega

theorem fld_claimWord_input (hn : n < 16) (hcmd : cmd < 256) : fld (claimWord n cmd) 8 4 = n := by
  rw [fld, claimWord_toNat hn hcmd]
  omega

theorem fld_claimWord_cmd (hn : n < 16) (hcmd : cmd < 256) : fld (claimWord n cmd) 0 8 = cmd := by
  rw [fld, claimWord_toNat hn hcmd]
  omega

theorem claimWord_fits (hn : n < 16) (hcmd : cmd < 256) : ObjTy.u16.fits (claimWord n cmd) = true := by
  simp only [ObjTy.fits, claimWord_toNat hn hcmd, decide_eq_true_eq]
  omega

theorem fitted_lt (hn : n < s.D) : n < 8 := by
  have hD : s.D ≤ 8 := by
    unfold State.D
    cases s.variant <;> decide
  omega

/-- A word that names a fitted input and a command runs the command for the path's owner code. -/
theorem claimWrite_fitted (hn : n < s.D) (hcmd : 1 ≤ cmd ∧ cmd ≤ 5) :
    claimWrite s p (claimWord n cmd) = claimCommand s (ownerOf p) n cmd := by
  have hn16 : n < 16 := (fitted_lt hn).trans (by decide)
  have hcmd256 : cmd < 256 := by omega
  simp only [claimWrite, fld_claimWord_input hn16 hcmd256, fld_claimWord_cmd hn16 hcmd256]
  exact need_pos s (by simp [claimWord_fits hn16 hcmd256, State.fitted, hn, hcmd]) _ _

/-- A word that names no fitted input is out of range. -/
theorem claimWrite_unfitted (hD : s.D ≤ n) (hn : n < 16) (hcmd : cmd < 256) :
    claimWrite s p (claimWord n cmd) = (s, some .range) := by
  simp only [claimWrite, fld_claimWord_input hn hcmd]
  simp [State.fitted, Nat.not_lt.mpr hD]

/-- A word that names no command of R446's table is out of range. -/
theorem claimWrite_unknown {v : Slot} (hv : fld v 0 8 = 0 ∨ 5 < fld v 0 8) :
    claimWrite s p v = (s, some .range) := by
  have hcmd : ¬ (1 ≤ fld v 0 8 ∧ fld v 0 8 ≤ 5) := by omega
  simp [claimWrite, hcmd]

/-! ### The table of commands -/

/-- The state in which input `n` belongs to `v`: an owner code, or 0xFF for none. -/
abbrev setClaimant (s : State) (n : Nat) (v : Slot) : State := s.put (O.CLAIM_OWNER_n + n) v

theorem claim_free (h : s.claimant n = 0xFF) :
    claimCommand s o n 1 = .ok (subscribe (setClaimant s n (ofN o)) n o true) := by
  simp only [claimCommand, h, beq_self_eq_true, need_true]

theorem claim_taken (h : s.claimant n ≠ 0xFF) : claimCommand s o n 1 = (s, some .presentState) := by
  simp only [claimCommand, beq_false_of_ne h, need_false]

theorem release_own (h : s.claimant n = o) : claimCommand s o n 2 = .ok (setClaimant s n 0xFF) := by
  simp only [claimCommand, h, beq_self_eq_true, need_true]

theorem release_foreign (h : s.claimant n ≠ o) : claimCommand s o n 2 = (s, some .noPermission) := by
  simp only [claimCommand, beq_false_of_ne h, need_false]

theorem unsubscribe_unused (h : s.claimant n ≠ o) (hu : s.usesInput o n = false) :
    claimCommand s o n 4 = .ok (subscribe s n o false) := by
  simp only [claimCommand, bne_iff_ne.mpr h, hu, Bool.not_false, Bool.and_self, need_true]

theorem unsubscribe_used (h : s.claimant n = o ∨ s.usesInput o n = true) :
    claimCommand s o n 4 = (s, some .presentState) := by
  obtain h | h := h <;> simp [claimCommand, h]

theorem revoke_claimed (ho : o = s.steward) (h : s.claimant n ≠ 0xFF) :
    claimCommand s o n 5 = .ok (setClaimant s n 0xFF) := by
  simp only [claimCommand, ho, beq_self_eq_true, beq_false_of_ne h, Bool.not_false, need_true]

theorem revoke_unclaimed (ho : o = s.steward) (h : s.claimant n = 0xFF) :
    claimCommand s o n 5 = (s, some .presentState) := by
  simp only [claimCommand, ho, h, beq_self_eq_true, Bool.not_true, need_true, need_false]

theorem revoke_foreign (ho : o ≠ s.steward) : claimCommand s o n 5 = (s, some .noPermission) := by
  simp only [claimCommand, beq_false_of_ne ho, need_false]

/-! ### What claims and subscriptions read -/

theorem ownerOf_le (p : Nat) : ownerOf p ≤ 16 := by
  unfold ownerOf
  split_ifs <;> omega

theorem bit_putBit (x : Slot) {b : Nat} (hb : b < 64) (v : Bool) (c : Nat) :
    bit (putBit x b v) c = if c = b then v else bit x c := by
  cases v <;> by_cases hc : c = b <;> simp [putBit, bit_setBit, bit_clearBit, hb, hc]

theorem claimant_setClaimant (v : Slot) : (setClaimant s n v).claimant n = v.toNat := by
  simp only [State.claimant, State.num_eq, State.put_eq, State.obj_setObj_self]

theorem claimant_subscribe (on : Bool) : (subscribe s n o on).claimant n = s.claimant n := by
  have hne : objKey 0 (O.CLAIM_OWNER_n + n) ≠ objKey 0 (O.SUBSCRIBERS_n + n) :=
    objKey_ne 0 (by simp only [O.CLAIM_OWNER_n, O.SUBSCRIBERS_n]; omega)
  simp only [State.claimant, State.num_eq, subscribe, State.put_eq, State.obj_setObj_ne _ _ _ _ _ _ hne]

theorem subscribed_setClaimant (v : Slot) (o : Nat) : (setClaimant s n v).subscribed n o = s.subscribed n o := by
  have hne : objKey 0 (O.SUBSCRIBERS_n + n) ≠ objKey 0 (O.CLAIM_OWNER_n + n) :=
    objKey_ne 0 (by simp only [O.CLAIM_OWNER_n, O.SUBSCRIBERS_n]; omega)
  simp only [State.subscribed, State.get_eq, State.put_eq, State.obj_setObj_ne _ _ _ _ _ _ hne]

/-- A subscription is one bit: that of the owner code. -/
theorem subscribed_subscribe (ho : o < 64) (on : Bool) (o' : Nat) :
    (subscribe s n o on).subscribed n o' = if o' = o then on else s.subscribed n o' := by
  simp only [State.subscribed, subscribe, State.get_eq, State.put_eq, State.obj_setObj_self, bit_putBit _ ho]

/-- The end of a command leaves 2820:01 to 2820:10 alone: CLAIM_OWNER_n and SUBSCRIBERS_n. -/
theorem obj_settle_sharing {k : Nat} (hlo : 0x282001 ≤ k) (hhi : k ≤ 0x282010) : (settle s).obj 0 k = s.obj 0 k := by
  have hout : ∀ x ∈ settleObjs, x < 0x282001 ∨ 0x282010 < x := by decide
  exact obj_settle_of s 0 k (by omega) fun hk => by have := hout k hk; omega

theorem claimant_settle (hn : n < 8) : (settle s).claimant n = s.claimant n :=
  congrArg BitVec.toNat (obj_settle_sharing (Nat.le_add_right _ n) (by simp only [O.CLAIM_OWNER_n]; omega))

theorem subscribed_settle (hn : n < 8) (o : Nat) : (settle s).subscribed n o = s.subscribed n o :=
  congrArg (bit · o) (obj_settle_sharing (by simp only [O.SUBSCRIBERS_n]; omega)
    (by simp only [O.SUBSCRIBERS_n]; omega))

theorem OnlyObjs.setClaimant {ks : List Nat} {t : State} (h : OnlyObjs ks s t)
    (hk : objKey 0 (O.CLAIM_OWNER_n + n) ∈ ks) (v : Slot) : OnlyObjs ks s (setClaimant t n v) :=
  h.set 0 _ v (List.mem_append_left _ hk)

theorem OnlyObjs.subscribe {ks : List Nat} {t : State} (h : OnlyObjs ks s t)
    (hk : objKey 0 (O.SUBSCRIBERS_n + n) ∈ ks) (o : Nat) (on : Bool) : OnlyObjs ks s (subscribe t n o on) :=
  h.set 0 _ _ (List.mem_append_left _ hk)

/-- Taking the server's turn changes no object. -/
theorem onlyObjs_turned (ks : List Nat) : OnlyObjs ks s s.turned := onlyObjs_congr ks rfl rfl rfl

/-- After a command that ends in a subscription, the subscribers are those before but for its bit. -/
theorem settle_subscribe {t : State} (hn : n < 8) (ho : o < 64) (on : Bool)
    (hsub : ∀ o', t.subscribed n o' = s.subscribed n o') :
    (settle (subscribe t n o on)).subscribed n o = on ∧
      ∀ o', o' ≠ o → (settle (subscribe t n o on)).subscribed n o' = s.subscribed n o' := by
  refine ⟨?_, fun o' ho' => ?_⟩
  · rw [subscribed_settle hn, subscribed_subscribe ho, if_pos rfl]
  · rw [subscribed_settle hn, subscribed_subscribe ho, if_neg ho', hsub]

/-- After a command that gives the input up, it is unclaimed and nothing else changed. -/
theorem settle_giveUp (hn : n < 8) :
    (settle (setClaimant s.turned n 0xFF)).claimant n = 0xFF ∧
      OnlyObjs [objKey 0 (O.CLAIM_OWNER_n + n)] s (settle (setClaimant s.turned n 0xFF)) := by
  refine ⟨?_, ((onlyObjs_turned _).setClaimant (by simp) _).settled⟩
  rw [claimant_settle hn, claimant_setClaimant]
  rfl

/-! ### The instructions -/

/-- The instruction is a write of CLAIM_CMD for input `n` with command `cmd` by path `p`. -/
def WritesClaim (i : Instr) (p n cmd : Nat) : Prop :=
  ∀ s, exec i s = done (access s p O.CLAIM_CMD fun s => claimWrite s p (claimWord n cmd))

theorem inputClaim_writes (p n : Nat) : WritesClaim (.inputClaim p n) p n 1 := fun s => exec_inputClaim s p n

theorem inputRelease_writes (p n : Nat) : WritesClaim (.inputRelease p n) p n 2 := fun s => exec_inputRelease s p n

theorem inputSubscribe_writes (p n : Nat) : WritesClaim (.inputSubscribe p n) p n 3 :=
  fun s => exec_inputSubscribe s p n

theorem inputUnsubscribe_writes (p n : Nat) : WritesClaim (.inputUnsubscribe p n) p n 4 :=
  fun s => exec_inputUnsubscribe s p n

theorem inputRevoke_writes (p n : Nat) : WritesClaim (.inputRevoke p n) p n 5 := fun s => exec_inputRevoke s p n

/-- CLAIM_CMD exists in every variant (R3). -/
theorem missing_claimCmd (s : State) : s.missing 0x2821 1 = none := by
  simp [State.missing, State.elementAbsent]

/-- A served claim instruction is CLAIM_CMD's write, and an abort of it is recorded. -/
theorem exec_writesClaim {i : Instr} (hi : WritesClaim i p n cmd) (h : Served s p) :
    exec i s = done (finish p O.CLAIM_CMD 2 (claimWrite s.turned p (claimWord n cmd))) := by
  rw [hi, access_served h O.CLAIM_CMD (missing_claimCmd s)]

/-- A claim instruction for a fitted input that its command accepts. -/
theorem claim_accepted {i : Instr} (hi : WritesClaim i p n cmd) (h : Served s p) (hn : n < s.D)
    (hcmd : 1 ≤ cmd ∧ cmd ≤ 5) {u : State} (hu : claimCommand s.turned (ownerOf p) n cmd = .ok u)
    {P : State → Prop} (hP : P (settle u)) : Answers i s P := by
  refine answers_done (u := u) ?_ hP
  rw [exec_writesClaim hi h, claimWrite_fitted (s := s.turned) hn hcmd, hu, finish_ok]

/-- A claim instruction that aborts changes nothing but the path's record of it. -/
theorem claimWrite_rejected {i : Instr} (hi : WritesClaim i p n cmd) (h : Served s p) {a : Abort}
    (ha : claimWrite s.turned p (claimWord n cmd) = (s.turned, some a)) :
    Answers i s fun t => Rejected s t p O.CLAIM_CMD 2 a := by
  refine answers_done ?_ (rejected_settle s.turned p O.CLAIM_CMD 2 a)
  rw [exec_writesClaim hi h, ha, finish_some]

/-- A claim instruction for a fitted input whose command refuses it. -/
theorem claim_refused {i : Instr} (hi : WritesClaim i p n cmd) (h : Served s p) (hn : n < s.D)
    (hcmd : 1 ≤ cmd ∧ cmd ≤ 5) {a : Abort}
    (ha : claimCommand s.turned (ownerOf p) n cmd = (s.turned, some a)) :
    Answers i s fun t => Rejected s t p O.CLAIM_CMD 2 a :=
  claimWrite_rejected hi h ((claimWrite_fitted (s := s.turned) hn hcmd).trans ha)

/-- An object with an operation of its own is written by it. -/
theorem writeObj_own {c i sub : Nat} {r : ObjRow} (hrow : findRow i sub = some r) (hm : s.missing i sub = none)
    (hw : r.writable = true) {v : Slot} {a : Acc} (hown : ownWrite s p c i sub v = some a) :
    writeObj s p c i sub v = a := by
  obtain h | ⟨h, -⟩ := writeObj_cases hrow hm hw (p := p) (c := c) v
  · exact Option.some.inj (h.symm.trans hown)
  · rw [h] at hown; cases hown

theorem writeObj_claimCmd (s : State) (p c : Nat) (v : Slot) : writeObj s p c 0x2821 1 v = claimWrite s p v := by
  obtain ⟨r, hrow, hw⟩ : ∃ r, findRow 0x2821 1 = some r ∧ r.writable = true := ⟨_, rfl, rfl⟩
  exact writeObj_own hrow (missing_claimCmd s) hw rfl

end Sys2Proof.Machine
end

section
/-! ## The clauses of R446 -/

namespace Sys2Proof.Machine

variable {s : State} {p n : Nat}

theorem inputClaim_free (h : Served s p) (hn : n < s.D) (hc : s.claimant n = 0xFF) :
    Answers (.inputClaim p n) s fun t =>
      t.claimant n = ownerOf p ∧ t.subscribed n (ownerOf p) = true ∧
      (∀ o, o ≠ ownerOf p → t.subscribed n o = s.subscribed n o) ∧
      OnlyObjs [objKey 0 (O.CLAIM_OWNER_n + n), objKey 0 (O.SUBSCRIBERS_n + n)] s t := by
  have hn8 := fitted_lt hn
  have ho := ownerOf_le p
  obtain ⟨hon, hothers⟩ := settle_subscribe (s := s) (t := setClaimant s.turned n (ofN (ownerOf p)))
    (o := ownerOf p) hn8 (by omega) true (subscribed_setClaimant (s := s.turned) _)
  refine claim_accepted (inputClaim_writes p n) h hn (by decide) (claim_free (s := s.turned) hc)
    ⟨?_, hon, hothers, ?_⟩
  · rw [claimant_settle hn8, claimant_subscribe, claimant_setClaimant, ofN_toNat _ (by omega)]
  · exact (((onlyObjs_turned _).setClaimant (by simp) _).subscribe (by simp) _ _).settled

/-- A claim instruction that only sets or clears the writer's subscription. -/
theorem subscription_changes {i : Instr} {cmd : Nat} (hi : WritesClaim i p n cmd) (h : Served s p) (hn : n < s.D)
    (hcmd : 1 ≤ cmd ∧ cmd ≤ 5) (on : Bool)
    (hu : claimCommand s.turned (ownerOf p) n cmd = .ok (subscribe s.turned n (ownerOf p) on)) :
    Answers i s fun t => t.subscribed n (ownerOf p) = on ∧
      (∀ o, o ≠ ownerOf p → t.subscribed n o = s.subscribed n o) ∧
      OnlyObjs [objKey 0 (O.SUBSCRIBERS_n + n)] s t := by
  have ho := ownerOf_le p
  obtain ⟨hon, hothers⟩ := settle_subscribe (s := s) (t := s.turned) (o := ownerOf p) (fitted_lt hn)
    (by omega) on fun _ => rfl
  exact claim_accepted hi h hn hcmd hu
    ⟨hon, hothers, ((onlyObjs_turned _).subscribe (by simp) _ _).settled⟩

/-- A claim instruction that gives the input up. -/
theorem claim_givenUp {i : Instr} {cmd : Nat} (hi : WritesClaim i p n cmd) (h : Served s p) (hn : n < s.D)
    (hcmd : 1 ≤ cmd ∧ cmd ≤ 5)
    (hu : claimCommand s.turned (ownerOf p) n cmd = .ok (setClaimant s.turned n 0xFF)) :
    Answers i s fun t => t.claimant n = 0xFF ∧ OnlyObjs [objKey 0 (O.CLAIM_OWNER_n + n)] s t :=
  claim_accepted hi h hn hcmd hu (settle_giveUp (fitted_lt hn))

/-- A claim instruction for an INPUT that is not fitted. -/
theorem claim_unfitted {i : Instr} {cmd : Nat} (hi : WritesClaim i p n cmd) (h : Served s p) (hD : s.D ≤ n)
    (hn : n < 16) (hcmd : cmd < 256) : Answers i s fun t => Rejected s t p O.CLAIM_CMD 2 .range :=
  claimWrite_rejected hi h (claimWrite_unfitted (s := s.turned) hD hn hcmd)

/-- A write of CLAIM_CMD whose CMD is not in the table. -/
theorem claimCmd_unknown (h : Served s p) {v : Slot} (hv : fld v 0 8 = 0 ∨ 5 < fld v 0 8) :
    Answers (.objectWrite p 0x2821 1 v) s fun t => Rejected s t p O.CLAIM_CMD 2 .range := by
  refine answers_done ?_ (rejected_settle s.turned p O.CLAIM_CMD 2 .range)
  rw [exec_objectWrite, execObjectWrite, access_key h (by decide) (missing_claimCmd s), writeObj_claimCmd,
    claimWrite_unknown hv, finish_some]

/-- Settles O49, clause by clause: each instruction is a write of CLAIM_CMD (`WritesClaim`), whose command accepts it
(`inputClaim_free`, `claim_givenUp`, `subscription_changes`) or refuses it (`claim_refused`); an input that is not fitted
and a CMD outside the table abort before (`claim_unfitted`, `claimCmd_unknown`). -/
theorem inputClaims : Obligations.InputClaims := by
  unfold Obligations.InputClaims
  intro s p n h _
  refine ⟨fun hn => ⟨?_, ?_, ?_, ?_, ?_, ?_, ?_, ?_, ?_, ?_⟩, ?_, fun v hv => claimCmd_unknown h hv⟩
  · exact inputClaim_free h hn
  · exact fun hc => claim_refused (inputClaim_writes p n) h hn (by decide) (claim_taken (s := s.turned) hc)
  · exact fun hc => claim_givenUp (inputRelease_writes p n) h hn (by decide) (release_own (s := s.turned) hc)
  · exact fun hc => claim_refused (inputRelease_writes p n) h hn (by decide) (release_foreign (s := s.turned) hc)
  · exact subscription_changes (inputSubscribe_writes p n) h hn (by decide) true rfl
  · exact fun hc hu => subscription_changes (inputUnsubscribe_writes p n) h hn (by decide) false
      (unsubscribe_unused (s := s.turned) hc hu)
  · exact fun hc => claim_refused (inputUnsubscribe_writes p n) h hn (by decide)
      (unsubscribe_used (s := s.turned) hc)
  · exact fun ho hc => claim_givenUp (inputRevoke_writes p n) h hn (by decide)
      (revoke_claimed (s := s.turned) ho hc)
  · exact fun ho hc => claim_refused (inputRevoke_writes p n) h hn (by decide)
      (revoke_unclaimed (s := s.turned) ho hc)
  · exact fun ho => claim_refused (inputRevoke_writes p n) h hn (by decide) (revoke_foreign (s := s.turned) ho)
  · rintro hD hn i (rfl | rfl | rfl | rfl | rfl)
    · exact claim_unfitted (inputClaim_writes p n) h hD hn (by decide)
    · exact claim_unfitted (inputRelease_writes p n) h hD hn (by decide)
    · exact claim_unfitted (inputSubscribe_writes p n) h hD hn (by decide)
    · exact claim_unfitted (inputUnsubscribe_writes p n) h hD hn (by decide)
    · exact claim_unfitted (inputRevoke_writes p n) h hD hn (by decide)

end Sys2Proof.Machine
end

section
/-! ## Every command answers, and every step restores the invariants (R31, R437) -/

namespace Sys2Proof.Machine

variable {c : Instr} {s t : State}

/-- Every command ends as `done` ends it: the meanings of all commands are `done` of a state. -/
theorem exec_ends (c : Instr) (s : State) : ∃ u, exec c s = done u := by
  cases c
  all_goals exact ⟨_, rfl⟩

theorem exec_answers (c : Instr) (s : State) : Answers c s fun t => t.Inv := by
  obtain ⟨u, hu⟩ := exec_ends c s
  exact answers_done hu (settle_inv u)

theorem Answers.of_next {P : State → Prop} (h : Answers c s P) (ht : exec c s = .next t) : P t := by
  obtain ⟨u, hu, hP⟩ := h
  obtain rfl : u = t := Host.Outcome.next.inj (hu.symm.trans ht)
  exact hP

theorem step_cons (c : Instr) (rest : List Instr) (s : State) :
    step { s with pending := c :: rest } = exec c { s with pending := rest } := rfl

theorem step_nil (h : s.pending = []) : step s = .next (tick s) := by
  simp only [step, h]

/-- Settles O1: the queue's front is the command that `step` matches on. -/
theorem stepRunsFront : Obligations.StepRunsFront := by
  unfold Obligations.StepRunsFront
  exact step_cons

/-- Settles O2: on an empty queue a step is `tick`. -/
theorem stepIdles : Obligations.StepIdles := by
  unfold Obligations.StepIdles
  exact fun s h => step_nil h

/-- Settles O3: every command is `done` of a state (`exec_ends`), and `settle_inv` holds at its end. -/
theorem everyCommandAnswers : Obligations.EveryCommandAnswers := by
  unfold Obligations.EveryCommandAnswers
  exact exec_answers

/-- Settles O4: a step on an empty queue is a core cycle, which keeps the invariants (`tick_inv`); any other step is a
command, which restores them (`exec_answers`). -/
theorem invKept : Obligations.InvKept := by
  unfold Obligations.InvKept
  intro s t hinv hstep
  cases hq : s.pending with
  | nil =>
    obtain rfl : tick s = t := Host.Outcome.next.inj ((step_nil hq).symm.trans hstep)
    exact tick_inv s hinv
  | cons c rest =>
    have hexec : exec c { s with pending := rest } = .next t := by
      rw [← hstep, step, hq]
    exact (exec_answers c _).of_next hexec

/-- Settles O5: the reset state is concrete. -/
theorem invAtReset : Obligations.InvAtReset := by
  unfold Obligations.InvAtReset
  decide

theorem kvGet_eq_none {α : Type} {l : List (Nat × α)} {k : Nat} (h : ∀ x ∈ l, x.1 ≠ k) : kvGet l k = none := by
  induction l with
  | nil => rfl
  | cons x r ih =>
    obtain ⟨a, b⟩ := x
    rw [kvGet, if_neg (h (a, b) List.mem_cons_self), ih fun y hy => h y (List.mem_cons_of_mem _ hy)]

/-- The indices of the objects that each access path holds for itself (R409). -/
def pathIdxs : List Nat :=
  [0x2003, 0x2200, 0x2500, 0x2510, 0x2520, 0x2600, 0x2700, 0x2702, 0x2710, 0x4000, 0x4222, 0x4410]

theorem isPathObj_idx {k : Nat} (hk : isPathObj k = true) : k / 256 ∈ pathIdxs := by
  simp only [isPathObj, Bool.or_eq_true, List.contains_iff_mem, List.mem_cons, List.not_mem_nil, or_false] at hk
  obtain (h | h | h) | h | h | h | h | h | h | h | h | h := hk <;> rw [h] <;> decide

/-- The objects that differ from their defaults at reset are none of a path's own. -/
theorem reset_pathObj (p : Nat) {k : Nat} (hk : isPathObj k = true) :
    State.reset.obj p k = objDefault State.reset.variant k := by
  have hidx := isPathObj_idx hk
  have hreset : ∀ x ∈ State.reset.objs, x.1 % 2 ^ 24 / 256 ∉ pathIdxs := by decide
  have hkey : objKey p k % 2 ^ 24 / 256 = k / 256 := by
    have hlt : k / 256 < 65536 := by
      revert hidx
      generalize k / 256 = i
      revert i
      decide
    simp only [objKey]
    omega
  rw [State.obj, kvGet_eq_none fun x hx he => hreset x hx (by rw [he, hkey]; exact hidx)]
  rfl

/-- Settles O6: the reset state is concrete; for the objects of the paths, `reset_pathObj`. -/
theorem resetValues : Obligations.ResetValues := by
  unfold Obligations.ResetValues
  exact ⟨rfl, rfl, rfl, fun _ => rfl, fun _ => rfl, fun _ => rfl, fun p _ _ hk => reset_pathObj p hk, rfl, rfl,
    by decide, rfl, rfl, rfl, fun _ => rfl, rfl⟩

end Sys2Proof.Machine
end

section
/-! ## Accesses and reads, stated once for every command

The commands that are accesses of a path end in `answers_access` or `rejected_access`; what a later command reads of an
object goes through `obj_setObj` and the two lemmas about the end of a command and a pulse. -/

namespace Sys2Proof.Machine

variable {s u : State} {i : Instr} {p k : Nat} {f : State → Acc} {P : State → Prop}

/-- A served access whose operation succeeds in `u`. -/
theorem answers_access (hi : exec i s = done (access s p k f)) (h : Served s p)
    (hm : s.missing (k / 256) (k % 256) = none) (hf : f s.turned = .ok u) (hP : P (settle u)) : Answers i s P :=
  answers_done (hi.trans (by rw [access_served h k hm, hf, finish_ok])) hP

/-- A served access whose operation aborts and changes nothing. -/
theorem rejected_access (hi : exec i s = done (access s p k f)) (h : Served s p)
    (hm : s.missing (k / 256) (k % 256) = none) {a : Abort} (hf : f s.turned = (s.turned, some a)) :
    Answers i s fun t => Rejected s t p k 2 a :=
  answers_done (hi.trans (by rw [access_served h k hm, hf, finish_some])) (rejected_settle s.turned p k 2 a)

/-- A served access to an object that the variant lacks. -/
theorem rejected_missing (hi : exec i s = done (access s p k f)) (h : Served s p) {a : Abort}
    (hm : s.missing (k / 256) (k % 256) = some a) : Answers i s fun t => Rejected s t p k 2 a :=
  answers_done (hi.trans (by rw [access_missing h k a hm])) (rejected_settle s.turned p k 2 a)

/-- A command that leaves the state as it is. -/
theorem answers_idle (hi : exec i s = done s) {ks : List Nat} : Answers i s fun t => OnlyObjs ks s t :=
  answers_done hi (onlyObjs_refl s ks).settled

theorem Answers.mono {P Q : State → Prop} (h : Answers i s P) (hPQ : ∀ t, P t → Q t) : Answers i s Q := by
  obtain ⟨t, ht, hP⟩ := h
  exact ⟨t, ht, hPQ t hP⟩

theorem need_neg {c : Bool} (h : c = false) (a : Abort) (f : State → Acc) : need c a s f = (s, some a) := by simp [h]

theorem stewardOnly_pos (h : ownerOf p = s.steward) (f : State → Acc) : stewardOnly s p f = f s :=
  need_pos s (beq_iff_eq.mpr h) _ f

theorem stewardOnly_neg (h : ownerOf p ≠ s.steward) (f : State → Acc) :
    stewardOnly s p f = (s, some .noPermission) := need_neg (beq_false_of_ne h) _ f

theorem claimantOnly_pos {n : Nat} (h : ownerOf p = s.claimant n) (f : State → Acc) : claimantOnly s p n f = f s :=
  need_pos s (beq_iff_eq.mpr h) _ f

theorem claimantOnly_neg {n : Nat} (h : ownerOf p ≠ s.claimant n) (f : State → Acc) :
    claimantOnly s p n f = (s, some .noPermission) := need_neg (beq_false_of_ne h) _ f

theorem ctxOwnerOnly_pos {c : Nat} (h : ownerOf p = s.ctxOwner c) (f : State → Acc) : ctxOwnerOnly s p c f = f s :=
  need_pos s (beq_iff_eq.mpr h) _ f

theorem ctxOwnerOnly_neg {c : Nat} (h : ownerOf p ≠ s.ctxOwner c) (f : State → Acc) :
    ctxOwnerOnly s p c f = (s, some .noPermission) := need_neg (beq_false_of_ne h) _ f

/-- An object outside `settleObjs` after a pulse. -/
theorem obj_pulse_of (s : State) (a b c i k : Nat) (hk : k < 2 ^ 24) (h : k ∉ settleObjs) :
    (pulse s a b c).obj i k = s.obj i k := obj_pulse s a b c i k (objKey_settle i k hk h)

/-- Setting one of the objects listed. -/
theorem OnlyObjs.put {ks : List Nat} {s t : State} (h : OnlyObjs ks s t) {j k : Nat} (hk : objKey j k ∈ ks) (v : Slot) :
    OnlyObjs ks s (t.setObj j k v) := h.set j k v (List.mem_append_left _ hk)

theorem now_div (s : State) : s.now / 2 ^ 55 = s.wraps.toNat := by
  have := s.counter.isLt
  unfold State.now
  omega

end Sys2Proof.Machine
end

section
/-! ## Device time (R35, R36, R51 to R53) -/

namespace Sys2Proof.Machine

variable {s : State} {p d t : Nat} {v : Slot}

/-- The instant of the counter's next wrap. -/
def State.nextWrap (s : State) : Nat := (s.now / 2 ^ 55 + 1) * 2 ^ 55

theorem runTo_nextWrap (s : State) : s.runTo s.nextWrap = (s.setNow s.nextWrap).flag 0 O.TB_STATUS 0 :=
  runTo_wrapped s (by unfold State.nextWrap; omega) (by unfold State.nextWrap; omega)

theorem setNow_nextWrap_counter (s : State) : (s.setNow s.nextWrap).counter = 0 := by
  apply BitVec.eq_of_toNat_eq
  simp [State.setNow, State.nextWrap]

theorem setNow_nextWrap_wraps (s : State) : (s.setNow s.nextWrap).wraps = s.wraps + 1 := by
  have h : s.nextWrap / 2 ^ 55 = s.wraps.toNat + 1 := by
    rw [State.nextWrap, now_div]
    omega
  apply BitVec.eq_of_toNat_eq
  simp only [State.setNow, h, BitVec.toNat_ofNat]
  rfl

theorem timeCounterWrap_answers (s : State) : Answers .timeCounterWrap s fun t =>
    t.counter = 0 ∧ t.wraps = s.wraps + 1 ∧ bit (t.get O.TB_STATUS) 0 = true ∧
      OnlyObjs [objKey 0 O.TB_STATUS] { s with counter := t.counter, wraps := t.wraps } t := by
  refine answers_done (u := (s.setNow s.nextWrap).flag 0 O.TB_STATUS 0)
    ((exec_timeCounterWrap s).trans (congrArg done (runTo_nextWrap s))) ⟨?_, ?_, ?_, ?_⟩
  · rw [settle_counter]; exact setNow_nextWrap_counter s
  · rw [settle_wraps]; exact setNow_nextWrap_wraps s
  · rw [State.get_eq, obj_settle_of _ _ _ (by decide) (by decide), State.flag_eq, State.obj_setObj_self,
      bit_setBit _ _ _ (by decide)]
    simp
  · rw [settle_counter, settle_wraps]
    exact ((onlyObjs_refl (s.setNow s.nextWrap) _).put (by simp) _).settled

/-- A copy aligned on a core cycle shows the core cycle in force (R36). -/
theorem dieCounter_cycle (h : (s.die d).counterFrom = some t) (ht : t % 48 = 0) (hle : t ≤ s.now) :
    s.dieCounter d = some (BitVec.ofNat 55 s.cycle) := by
  have hcycle : t + (s.now - t) / 48 * 48 = s.cycle := by unfold State.cycle; omega
  rw [State.dieCounter, h, Option.map_some, hcycle]

theorem missing_epochSource (s : State) : s.missing (O.EPOCH_SOURCE / 256) (O.EPOCH_SOURCE % 256) = none :=
  rfl

/-- The state in which the shadows of the mapping are dropped where its source changes (R52). -/
def dropEpochShadows (s : State) (v : Slot) : State :=
  if s.get O.EPOCH_SOURCE = v then s else { s with shadows := s.shadows.filter fun h => !epochKeys.contains h.key }

theorem dropEpochShadows_shadows (s : State) (v : Slot) : (dropEpochShadows s v).shadows =
    if s.get O.EPOCH_SOURCE = v then s.shadows
    else s.shadows.filter fun h => decide (h.key ∉ [O.EPOCH_TM, O.EPOCH_WRAP, O.EPOCH_NS]) := by
  unfold dropEpochShadows
  split
  · rfl
  · exact List.filter_congr fun h _ => by simp [epochKeys]

theorem dropEpochShadows_onlyObjs (ks : List Nat) (s : State) (v : Slot) :
    OnlyObjs ks { s with shadows := (dropEpochShadows s v).shadows } (dropEpochShadows s v) := by
  unfold dropEpochShadows
  split <;> exact onlyObjs_refl _ _

theorem epochSource_answers (h : Served s p) (ho : ownerOf p = s.steward) (hv : v.toNat ≤ 2) :
    Answers (.epochSourceWrite p v) s fun t =>
      t.get O.EPOCH_SOURCE = v ∧
      t.shadows = (if s.get O.EPOCH_SOURCE = v then s.shadows
        else s.shadows.filter fun h => decide (h.key ∉ [O.EPOCH_TM, O.EPOCH_WRAP, O.EPOCH_NS])) ∧
      OnlyObjs [objKey 0 O.EPOCH_SOURCE] { s with shadows := t.shadows } t := by
  have hf : epochSourceWrite s.turned p v = .ok ((dropEpochShadows s.turned v).setObj 0 O.EPOCH_SOURCE v) := by
    unfold epochSourceWrite
    rw [stewardOnly_pos (s := s.turned) ho, need_pos _ (decide_eq_true hv)]
    rfl
  refine answers_access (exec_epochSourceWrite s p v) h (missing_epochSource s) hf ⟨?_, ?_, ?_⟩
  · rw [State.get_eq, obj_settle_of _ _ _ (by decide) (by decide), State.obj_setObj_self]
  · rw [settle_shadows]; exact dropEpochShadows_shadows s.turned v
  · rw [settle_shadows]
    exact ((dropEpochShadows_onlyObjs _ s.turned v).put (by simp) _).settled

theorem epochSource_refused (h : Served s p) (ho : ownerOf p ≠ s.steward) :
    Answers (.epochSourceWrite p v) s fun t => Rejected s t p O.EPOCH_SOURCE 2 .noPermission :=
  rejected_access (exec_epochSourceWrite s p v) h (missing_epochSource s) (stewardOnly_neg (s := s.turned) ho _)

theorem epochSource_range (h : Served s p) (ho : ownerOf p = s.steward) (hv : 2 < v.toNat) :
    Answers (.epochSourceWrite p v) s fun t => Rejected s t p O.EPOCH_SOURCE 2 .range :=
  rejected_access (exec_epochSourceWrite s p v) h (missing_epochSource s) <|
    (stewardOnly_pos (s := s.turned) ho _).trans (need_neg (decide_eq_false (by omega)) _ _)

/-- The state in which a TIME frame has set the mapping (R53). -/
def timeSet (s : State) (days ms : Nat) : State :=
  epochSet (((s.put O.EPOCH_TM (tmOf s.now)).put O.EPOCH_WRAP (ofN s.wraps.toNat)).put O.EPOCH_NS
    (ofN (((days + 5113) * 86400000 + ms) * 1000000)))

theorem exec_timeFrame_taken {id days ms : Nat} (hc : s.canServes = true) (hb : bit (s.get O.COB_ID_TIME) 31 = true)
    (hid : fld (s.get O.COB_ID_TIME) 0 29 = id) (hsrc : s.num O.EPOCH_SOURCE = 2) :
    exec (.timeFrame id days ms) s = done (timeSet s days ms) := by
  rw [exec_timeFrame, execTimeFrame]
  simp only [hc, hb, hid, hsrc]
  rfl

theorem timeSet_onlyObjs (days ms : Nat) :
    OnlyObjs [objKey 0 O.EPOCH_TM, objKey 0 O.EPOCH_WRAP, objKey 0 O.EPOCH_NS, objKey 0 O.EPOCH_GEN,
      objKey 0 O.TB_STATUS] s (timeSet s days ms) := by
  unfold timeSet epochSet
  simp only [State.put_eq, State.countWrap_eq, State.flag_eq, State.unflag_eq]
  refine ((((((onlyObjs_refl s _).put ?_ _).put ?_ _).put ?_ _).put ?_ _).put ?_ _).put ?_ _ <;> simp

theorem timeFrame_taken {id days ms : Nat} (hc : s.canServes = true) (hb : bit (s.get O.COB_ID_TIME) 31 = true)
    (hid : fld (s.get O.COB_ID_TIME) 0 29 = id) (hsrc : s.num O.EPOCH_SOURCE = 2) :
    Answers (.timeFrame id days ms) s fun t =>
      t.get O.EPOCH_TM = tmOf s.now ∧ t.num O.EPOCH_WRAP = s.wraps.toNat ∧
      t.get O.EPOCH_NS = ofN (((days + 5113) * 86400000 + ms) * 1000000) ∧
      t.num O.EPOCH_GEN = (s.num O.EPOCH_GEN + 1) % 2 ^ 32 ∧
      bit (t.get O.TB_STATUS) 1 = true ∧ bit (t.get O.TB_STATUS) 2 = false ∧
      OnlyObjs [objKey 0 O.EPOCH_TM, objKey 0 O.EPOCH_WRAP, objKey 0 O.EPOCH_NS, objKey 0 O.EPOCH_GEN,
        objKey 0 O.TB_STATUS] s t := by
  refine answers_done (exec_timeFrame_taken hc hb hid hsrc) ?_
  have hw := s.wraps.isLt
  simp (disch := decide) only [State.get_eq, State.num_eq, obj_settle_of]
  refine ⟨?_, ?_, ?_, ?_, ?_, ?_, (timeSet_onlyObjs days ms).settled⟩ <;>
    simp (disch := decide) only [timeSet, epochSet, State.put_eq, State.countWrap_eq, State.flag_eq, State.unflag_eq,
      State.obj_setObj]
  · simp
  · simp [ofN_toNat _ (show s.wraps.toNat < 2 ^ 64 by omega)]
  · simp
  · simp only [and_true, if_true]
    exact ofN_toNat _ (by omega)
  · simp [bit_clearBit, bit_setBit]
  · simp [bit_clearBit]

theorem timeFrame_ignored {id days ms : Nat} (hno : bit (s.get O.COB_ID_TIME) 31 = false ∨
    fld (s.get O.COB_ID_TIME) 0 29 ≠ id ∨ s.num O.EPOCH_SOURCE ≠ 2) :
    Answers (.timeFrame id days ms) s fun t => OnlyObjs [] s t := by
  refine answers_idle ((exec_timeFrame s id days ms).trans (congrArg done (if_neg ?_)))
  rintro ⟨-, hb, hid, hsrc⟩
  obtain h | h | h := hno
  · rw [h] at hb; cases hb
  · exact h hid
  · exact h hsrc

/-- Settles O7, clause by clause. -/
theorem deviceTime : Obligations.DeviceTime := by
  unfold Obligations.DeviceTime
  exact ⟨timeCounterWrap_answers, fun s d t => dieCounter_cycle, fun s p v => epochSource_answers,
    fun s p v h => ⟨epochSource_refused h, epochSource_range h⟩, fun s id days ms => timeFrame_taken,
    fun s id days ms => timeFrame_ignored⟩

end Sys2Proof.Machine
end

section
/-! ## Accesses that wait beyond the end of device time (R34, R411)

Device time counts 2^71 base periods. Where the server's last access is held at a later instant, the core cycle after it
is not one that `runTo` reaches: it wraps, and the turn that is then taken at the reached instant is another one. -/

namespace Sys2Proof.Machine

/-- The core cycle of the server's last access in the state that a command answers. -/
def servedAfter (i : Instr) (s : State) : Option Nat :=
  match exec i s with
  | .next t => t.servedAt
  | _ => none

theorem servedAfter_of_next {i : Instr} {s t : State} (h : exec i s = .next t) : servedAfter i s = t.servedAt := by
  rw [servedAfter, h]

/-- The reset state with the server's last access at 48 · 2^71. -/
def servedBeyondTime : State := { State.reset with servedAt := some (48 * 2 ^ 71) }

/-- What O8 takes for the same access in the next free core cycle. -/
abbrev freedBeyondTime : State := { servedBeyondTime.runTo (48 * 2 ^ 71 + 48) with servedAt := none }

theorem servedAfter_waiting : servedAfter (.objectWrite 32 0 0 0) servedBeyondTime = some (48 * 2 ^ 71 + 48) := by
  decide

theorem servedAfter_freed : servedAfter (.objectWrite 32 0 0 0) freedBeyondTime = some 48 := by
  decide

/-- Refutes O8: `servedBeyondTime` meets the last clause's hypotheses for path 32, and the write leaves the server's last
access at 48 · 2^71 + 48, where the write in the state run on to that core cycle leaves it at 48, because device time
wraps at 2^71. -/
theorem not_pathsNotServed : ¬ Obligations.PathsNotServed := by
  unfold Obligations.PathsNotServed
  rintro ⟨-, -, -, hqueue⟩
  obtain ⟨hwrite, -⟩ := hqueue servedBeyondTime 32 0 0 (48 * 2 ^ 71) 0 rfl rfl (by decide) (by decide) (by decide) rfl
    (by decide)
  obtain ⟨t, ht, hfreed⟩ := hwrite
  have h : some (48 * 2 ^ 71 + 48) = some 48 :=
    calc some (48 * 2 ^ 71 + 48)
      _ = t.servedAt := servedAfter_waiting.symm.trans (servedAfter_of_next ht)
      _ = some 48 := (servedAfter_of_next hfreed).symm.trans servedAfter_freed
  revert h
  decide

end Sys2Proof.Machine
end

section
/-! ## Writes that no operation of its own serves (R420) -/

namespace Sys2Proof.Machine

/-- The code recorded last on path `p` in the state that a command answers. -/
def abortAfter (i : Instr) (p : Nat) (s : State) : Slot :=
  match exec i s with
  | .next t => t.obj p O.PATH_LAST_ABORT
  | _ => 0

theorem abortAfter_of_next {i : Instr} {p : Nat} {s t : State} (h : exec i s = .next t) :
    abortAfter i p s = t.obj p O.PATH_LAST_ABORT := by
  rw [abortAfter, h]

/-- An sz2 module after reset. -/
abbrev smallReset : State := { State.reset with variant := .sz2 }

theorem absent_wideSub : smallReset.absent 0x1000 0x270000 = some .noSubindex := by decide

theorem abort_wideSub :
    abortAfter (.objectWrite 32 0x1000 0x270000 0) 32 smallReset = ofN (0x370000 * 2 ^ 40 + 2 * 2 ^ 32 + 0x06020000) := by
  decide

/-- Refutes O9: its subindex is any number, and one above 255 carries into the index of the key that the access names. On
an sz2 a write of subindex 0x270000 of index 0x1000 is an access to 3700:00, an object of input 7, which the variant
lacks: it aborts with object not found, where the first clause demands subindex not found. -/
theorem not_writeCheckOrder : ¬ Obligations.WriteCheckOrder := by
  unfold Obligations.WriteCheckOrder
  intro h
  obtain ⟨habsent, -⟩ := h smallReset 32 0x1000 0x270000 0 ⟨by decide, rfl, by decide⟩
  obtain ⟨t, ht, ⟨hcode, -, -⟩, -⟩ := habsent _ absent_wideSub
  have hcodes := (abort_wideSub.symm.trans (abortAfter_of_next ht)).trans hcode
  revert hcodes
  decide

end Sys2Proof.Machine
end

section
/-! ## What a checked write stores (R7, R13, R422) -/

namespace Sys2Proof.Machine

variable {s : State} {p c i sub : Nat} {v : Slot} {r : ObjRow}

theorem deviceWrite_isNone (s u : State) {n k : Nat} :
    (deviceWrite s p n k v).isNone = (deviceWrite u p n k v).isNone := by
  simp only [deviceWrite, apply_ite Option.isNone, Option.isNone_some]

theorem contextWrite_isNone (s u : State) {k : Nat} (c c' : Nat) :
    (contextWrite s p c k v).isNone = (contextWrite u p c' k v).isNone := by
  simp only [contextWrite, apply_ite Option.isNone, Option.isNone_some]

theorem moveWrite_isNone (s u : State) {n k : Nat} (c c' : Nat) :
    (moveWrite s p c n k v).isNone = (moveWrite u p c' n k v).isNone := by
  simp only [moveWrite, apply_ite Option.isNone, Option.isNone_some]

theorem systemWrite_isNone (s u : State) {k : Nat} :
    (systemWrite s p i sub k v).isNone = (systemWrite u p i sub k v).isNone := by
  simp only [systemWrite, apply_ite Option.isNone, Option.isNone_some]

/-- Whether an object has an operation of its own depends on the object alone. -/
theorem ownWrite_isNone (s u : State) (c c' : Nat) :
    (ownWrite s p c i sub v).isNone = (ownWrite u p c' i sub v).isNone := by
  unfold ownWrite
  dsimp only
  split
  all_goals simp only [deviceWrite_isNone s u, contextWrite_isNone s u c c', moveWrite_isNone s u c c', systemWrite_isNone s u]

theorem ownWrite_none_congr {s : State} (u : State) (c' : Nat) (h : ownWrite s p c i sub v = none) :
    ownWrite u p c' i sub v = none :=
  Option.isNone_iff_eq_none.mp ((ownWrite_isNone u s c' c).trans (Option.isNone_iff_eq_none.mpr h))

theorem writeObj_stored (habs : s.absent i sub = none) (hrow : findRow i sub = some r) (hw : r.writable = true)
    (hown : ownWrite s p c i sub v = none) (hadm : s.admits p c i sub r = true) (hblob : r.ty.isBlob = false)
    (hok : s.valueOk r i sub v = true) (hrange : s.pathRange p c (normIdx i * 256 + sub) v = true)
    (hnow : s.writableNow p c i sub = true) : writeObj s p c i sub v = .ok (storeScalar s p c i sub r v) := by
  simp only [writeObj, habs, hrow, need_pos s hw, hown, hadm, hblob, hok, hrange, hnow, Bool.not_false, Bool.and_self,
    need_true]

theorem missing_of_absent (h : s.absent i sub = none) : s.missing i sub = none := by
  unfold State.absent at h
  split at h
  · cases h
  · cases hm : s.missing i sub with
    | none => rfl
    | some a => rw [hm] at h; cases h

theorem idx_lt_of_absent (h : s.absent i sub = none) : i < 0x6000 := by
  unfold State.absent at h
  split at h
  · cases h
  · omega

/-- Of the objects that the end of a command may change, a path writes only two, and both it polishes. -/
theorem writable_settleObjs (hsub : sub < 256) (hrow : findRow i sub = some r) (hw : r.writable = true)
    (hk : i * 256 + sub ∈ settleObjs) : i * 256 + sub ∈ [O.CXL_STATUS, O.FB_FLAGS] ∧ r.acc = .rwp := by
  have hrows : ∀ k ∈ settleObjs, ∀ r, findRow (k / 256) (k % 256) = some r → r.writable = true →
      k ∈ [O.CXL_STATUS, O.FB_FLAGS] ∧ r.acc = .rwp := by
    decide
  exact hrows _ hk r (by rw [key_idx hsub, key_sub hsub, hrow]) hw

/-- Where the invariants hold already, the end of a command changes nothing. -/
theorem settle_of_inv {u : State} (h : u.Inv) : settle u = u := by
  obtain ⟨hst, hready, harmed⟩ := h
  have hs : settleSteward u = u := if_pos hst
  rw [settle, hs, settleDev]
  split
  · next hdev =>
    obtain hdev | hdev := hdev
    · rw [hready hdev]; exact if_pos hdev
    · rw [harmed hdev]; exact if_pos hdev
  · rfl

theorem setObj_inv {u : State} (h : u.Inv) {inst k : Nat} (hk : k < 2 ^ 24)
    (hne : k ∉ [O.STEWARD_ACTIVE, O.STEWARD_NAMED]) (w : Slot) : (u.setObj inst k w).Inv := by
  have hread (j : Nat) (hj : j < 2 ^ 24) (hjk : j ≠ k) : (u.setObj inst k w).obj 0 j = u.obj 0 j := by
    rw [State.obj_setObj _ _ _ _ _ _ hk hj, if_neg fun he => hjk he.2]
  simp only [List.mem_cons, List.not_mem_nil, or_false, not_or] at hne
  refine ⟨?_, h.2⟩
  have hst := h.1
  unfold State.StewardOk State.steward State.stewardDue State.num at hst ⊢
  rw [hread _ (by decide) (Ne.symm hne.1), hread _ (by decide) (Ne.symm hne.2)]
  exact hst

/-- An object that is set last reads as set at the end of the command, where the end does not change it. -/
theorem obj_settle_setObj {u : State} {inst k : Nat} (hk : k < 2 ^ 24)
    (h : k ∈ settleObjs → k ∈ [O.CXL_STATUS, O.FB_FLAGS] ∧ u.Inv) (w : Slot) :
    (settle (u.setObj inst k w)).obj inst k = w := by
  by_cases hmem : k ∈ settleObjs
  · obtain ⟨htwo, hinv⟩ := h hmem
    have hne : k ∉ [O.STEWARD_ACTIVE, O.STEWARD_NAMED] := by
      revert htwo
      generalize k = x
      revert x
      decide
    rw [settle_of_inv (setObj_inv hinv hk hne w), State.obj_setObj_self]
  · rw [obj_settle_of _ _ _ hk hmem, State.obj_setObj_self]

/-! ### The frame of a state whose field-bus port is left open -/

/-- Of the field-bus port a frame fixes all but the TPDOs that are due. -/
theorem OnlyObjs.withCan {ks : List Nat} {s t : State} {x y : Can} (hxy : x.bare = y.bare)
    (h : OnlyObjs ks { s with can := x } t) : OnlyObjs ks { s with can := y } t :=
  ⟨h.1.trans (congrArg (fun z : Can => ({ s.body with can := z } : State)) hxy), h.2⟩

theorem settle_canBare (u : State) : u.can.bare = (settle u).can.bare := (congrArg State.can (settle_body u)).symm

theorem OnlyObjs.settledCan {ks : List Nat} {s u : State} (h : OnlyObjs ks { s with can := u.can } u) :
    OnlyObjs ks { s with can := (settle u).can } (settle u) := h.settled.withCan (settle_canBare u)

/-! ### What else a stored write does -/

/-- The objects do not show the field-bus port's record. Stated for any record, so that no check evaluates its timers. -/
theorem obj_withCan (u : State) (x : Can) (i k : Nat) : State.obj { u with can := x } i k = u.obj i k := rfl

theorem startTpdoTimer_obj (u : State) (j i k : Nat) : (startTpdoTimer u j).obj i k = u.obj i k := obj_withCan u _ i k

theorem startRpdoTimer_obj (u : State) (j i k : Nat) : (startRpdoTimer u j).obj i k = u.obj i k := obj_withCan u _ i k

theorem onlyObjs_resetConsumer (ks : List Nat) (u : State) (k : Nat) :
    OnlyObjs ks { u with can := (resetConsumer u k).can } (resetConsumer u k) := by
  unfold resetConsumer commEnd emcyEnd emcy
  dsimp only
  split_ifs <;> exact onlyObjs_refl _ _

theorem onlyObjs_measured (old u : State) : OnlyObjs [objKey 0 O.ATTEST_GEN] u (measured old u) := by
  unfold measured
  split
  · exact onlyObjs_refl _ _
  · exact (onlyObjs_refl u _).put (by simp) _

theorem measured_can (old u : State) : (measured old u).can = u.can := by
  unfold measured
  split <;> rfl

theorem measured_trigInOld (old u : State) : (measured old u).trigInOld = u.trigInOld := by
  unfold measured
  split <;> rfl

theorem resetConsumer_trigInOld (u : State) (k : Nat) : (resetConsumer u k).trigInOld = u.trigInOld := by
  unfold resetConsumer commEnd emcyEnd emcy
  dsimp only
  split_ifs <;> rfl

theorem resetConsumer_obj (u : State) (k i j : Nat) : (resetConsumer u k).obj i j = u.obj i j := by
  unfold resetConsumer commEnd emcyEnd emcy
  dsimp only
  split_ifs <;> rfl

theorem measured_obj (old u : State) {i k : Nat} (hk : k < 2 ^ 24) (hne : k ≠ O.ATTEST_GEN) :
    (measured old u).obj i k = u.obj i k := by
  unfold measured
  split
  · rfl
  · rw [State.countWrap_eq, State.obj_setObj _ _ _ _ _ _ (by decide) hk, if_neg fun he => hne he.2]

/-- Beside the object written, a stored write changes the count of the latch or ATTEST_GEN, and timers. -/
theorem onlyObjs_afterWrite (old u : State) (i sub : Nat) (v : Slot) :
    OnlyObjs [objKey 0 O.LATCH_COUNT, objKey 0 O.ATTEST_GEN]
      { u with can := (afterWrite old u i sub v).can, trigInOld := (afterWrite old u i sub v).trigInOld }
      (afterWrite old u i sub v) := by
  unfold afterWrite
  dsimp only
  split_ifs
  · rw [measured_can, measured_trigInOld]
    exact (onlyObjs_measured old u).mono (by simp)
  · exact (onlyObjs_refl u _).put (by simp) _
  · exact onlyObjs_refl _ _
  · exact onlyObjs_refl _ _
  · rw [resetConsumer_trigInOld]
    exact onlyObjs_resetConsumer _ u _
  · exact onlyObjs_refl _ _
  · exact onlyObjs_refl _ _
  · exact onlyObjs_refl _ _

/-- The frame of a stored write: the object, then what `afterWrite` changes beside it, to the end of the command. -/
theorem OnlyObjs.afterStore {s u₀ u : State} {k : Nat} (h : OnlyObjs [k] s u₀)
    (h' : OnlyObjs [objKey 0 O.LATCH_COUNT, objKey 0 O.ATTEST_GEN]
      { u₀ with can := u.can, trigInOld := u.trigInOld } u) :
    OnlyObjs [k, objKey 0 O.LATCH_COUNT, objKey 0 O.ATTEST_GEN]
      { s with can := (settle u).can, trigInOld := (settle u).trigInOld } (settle u) := by
  have hset : OnlyObjs [k] { s with can := u.can, trigInOld := u.trigInOld }
      { u₀ with can := u.can, trigInOld := u.trigInOld } :=
    ⟨congrArg (fun b : State => { b with can := u.can.bare, trigInOld := u.trigInOld }) h.1, h.2⟩
  rw [settle_trigInOld]
  exact OnlyObjs.settledCan (s := { s with trigInOld := u.trigInOld })
    ((hset.mono fun x hx => List.mem_cons.mpr (.inl (List.mem_singleton.mp hx))).trans
      (h'.mono fun x hx => List.mem_cons_of_mem k hx))

/-- The object written is not one that the write changes beside it. -/
theorem obj_afterWrite (old u : State) (inst : Nat) (v : Slot) (hi : i < 0x6000) (hsub : sub < 256) :
    (afterWrite old u i sub v).obj inst (i * 256 + sub) = u.obj inst (i * 256 + sub) := by
  have hother {k : Nat} (h : normIdx i * 256 + sub ≠ normIdx (k / 256) * 256 + k % 256) : i * 256 + sub ≠ k := by
    rintro rfl
    rw [key_idx hsub, key_sub hsub] at h
    exact h rfl
  unfold afterWrite
  dsimp only
  split_ifs with hlocks hlatch
  · exact measured_obj old u (by omega) (hother (by rw [hlocks]; decide))
  · rw [State.put_eq, State.obj_setObj _ _ _ _ _ _ (by decide) (by omega),
      if_neg fun he => hother (k := O.LATCH_COUNT) (by rw [hlatch.1]; decide) he.2]
  · rfl
  · exact obj_withCan u _ _ _
  · exact resetConsumer_obj u _ _ _
  · exact startTpdoTimer_obj u _ _ _
  · exact startRpdoTimer_obj u _ _ _
  · rfl

/-- Settles O10: a write that passes the checks stores its value (`writeObj_stored`); the three cases are those of
`storeScalar`. -/
theorem writeStores : Obligations.WriteStores := by
  unfold Obligations.WriteStores
  intro s p i sub v r h hsub habs hrow hw hown hadm hblob hok hrange hnow hinv inst old
  have hi := idx_lt_of_absent habs
  have hk : i * 256 + sub < 2 ^ 24 := by omega
  have hm : s.missing ((i * 256 + sub) / 256) ((i * 256 + sub) % 256) = none := by
    rw [key_idx hsub, key_sub hsub, missing_of_absent habs]
  have hf : writeObj s.turned p (s.turned.selected p) i sub v =
      .ok (storeScalar s.turned p (s.selected p) i sub r v) :=
    writeObj_stored (s := s.turned) habs hrow hw (ownWrite_none_congr s.turned _ hown) hadm hblob hok hrange hnow
  have hsettle : i * 256 + sub ∈ settleObjs → i * 256 + sub ∈ [O.CXL_STATUS, O.FB_FLAGS] ∧ s.turned.Inv := by
    intro hmem
    obtain ⟨htwo, -⟩ := writable_settleObjs hsub hrow hw hmem
    exact ⟨htwo, hinv htwo⟩
  refine ⟨fun hacc => ?_, fun hacc hsh => ?_, fun hacc hsh => ?_⟩
  · have hst : storeScalar s.turned p (s.selected p) i sub r v =
        s.turned.setObj inst (i * 256 + sub) (old &&& ~~~ (v &&& ofN r.mask)) := if_pos hacc
    refine answers_access (exec_objectWrite s p i sub v) h hm (hf.trans (congrArg _ hst)) ⟨?_, ?_⟩
    · exact obj_settle_setObj hk hsettle _
    · exact ((onlyObjs_turned _).put (by simp) _).settled
  · have hst : storeScalar s.turned p (s.selected p) i sub r v = putShadow s.turned (ownerOf p)
        (objKey inst (i * 256 + sub)) ((old &&& ~~~ r.writeMask i sub) ||| (v &&& r.writeMask i sub)) :=
      (if_neg hacc).trans (if_pos hsh)
    refine answers_access (exec_objectWrite s p i sub v) h hm (hf.trans (congrArg _ hst)) ⟨?_, ?_, ?_⟩
    · rw [settle_shadows]
      exact ⟨_, List.mem_append_right _ (List.mem_singleton_self _), rfl, rfl, rfl, rfl⟩
    · rw [settle_shadows]
      intro x hx hne
      obtain hx | hx := List.mem_append.mp hx
      · exact (List.mem_filter.mp hx).1
      · rw [List.mem_singleton.mp hx] at hne
        exact absurd rfl hne
    · rw [settle_shadows]
      exact (onlyObjs_refl _ _).settled
  · have hst : storeScalar s.turned p (s.selected p) i sub r v = afterWrite s.turned
        (s.turned.setObj inst (i * 256 + sub) ((old &&& ~~~ r.writeMask i sub) ||| (v &&& r.writeMask i sub))) i sub v :=
      (if_neg hacc).trans (if_neg (by rw [hsh]; exact Bool.false_ne_true))
    refine answers_access (exec_objectWrite s p i sub v) h hm (hf.trans (congrArg _ hst)) ⟨?_, ?_⟩
    · have hmem : i * 256 + sub ∉ settleObjs := fun hmem => hacc (writable_settleObjs hsub hrow hw hmem).2
      rw [obj_settle_of _ _ _ hk hmem, obj_afterWrite _ _ _ _ hi hsub, State.obj_setObj_self]
    · exact ((onlyObjs_turned _).put (by simp) _).afterStore (onlyObjs_afterWrite _ _ _ _ _)

end Sys2Proof.Machine
end

section
/-! ## What the block has sent stays sent

A pulse and the end of a command only put messages in front of those in `State.sent`. -/

namespace Sys2Proof.Machine

variable {s t u : State}

/-- `t` has sent what `s` had, and what follows it. -/
def Sent (s t : State) : Prop := s.sent <:+ t.sent

theorem sent_refl (s : State) : Sent s s := List.suffix_rfl

theorem Sent.trans (h : Sent s t) (h' : Sent t u) : Sent s u := List.IsSuffix.trans h h'

theorem Sent.mem (h : Sent s t) {x : Out} (hx : x ∈ s.sent) : x ∈ t.sent := h.subset hx

/-- A step that first changes what is not sent. -/
theorem Sent.after (h' : Sent t u) (h : t.sent = s.sent) : Sent s u := by
  rw [Sent, ← h]
  exact h'

theorem sent_congr (h : t.sent = s.sent) : Sent s t := by
  rw [Sent, h]

variable (s)

theorem sent_msix (l v : Nat) : Sent s (msix s l v) := by
  unfold msix
  dsimp only
  split_ifs
  · exact sent_congr rfl
  · exact sent_congr rfl
  · exact List.suffix_cons _ _
  · exact sent_congr rfl

theorem sent_deliver (d : Slot) (e : Option Nat) : Sent s (deliver s d e) := by
  unfold deliver
  split
  · exact sent_msix _ _ _
  · split <;> exact sent_congr rfl
  · split <;> exact sent_congr rfl
  · exact sent_congr rfl
  · exact sent_refl s

theorem sent_routePulse (w : Slot) (e : Option Nat) (cyc r : Nat) : Sent s (routePulse w e cyc s r) := by
  unfold routePulse
  split
  · dsimp only
    split
    · split
      · split
        · exact sent_congr rfl
        · exact (sent_deliver _ _ _).after rfl
      · exact (sent_deliver _ _ _).after rfl
    · exact sent_refl s
  · exact sent_refl s

/-- A fold keeps what was sent where each of its steps does. -/
theorem sent_foldl {α : Type} (l : List α) (f : State → α → State) (hf : ∀ t x, Sent t (f t x)) :
    Sent s (l.foldl f s) := by
  induction l generalizing s with
  | nil => exact sent_refl s
  | cons x l ih => exact (hf s x).trans (ih (f s x))

theorem sent_pulseIn (a b c : Nat) (e : Option Nat) (cyc : Nat) : Sent s (pulseIn s a b c e cyc) := by
  unfold pulseIn
  dsimp only
  split
  · exact sent_refl s
  · exact (sent_foldl _ _ _ fun t => sent_routePulse t _ _ _).after rfl

theorem sent_pulse (a b c : Nat) : Sent s (pulse s a b c) := sent_pulseIn s a b c none _

theorem sent_enterDev (d : DevSt) : Sent s (enterDev s d) := by
  unfold enterDev
  split
  · exact sent_refl s
  · exact (sent_pulse _ _ _ _).after (by simp only [State.put_eq, State.setObj_sent])

theorem sent_settleSteward : Sent s (settleSteward s) := by
  unfold settleSteward
  split
  · exact sent_refl s
  · exact (sent_pulse _ _ _ _).after (by simp only [State.put_eq, State.putTm_eq, State.setObj_sent])

/-- The end of a command keeps what was sent. -/
theorem sent_settle : Sent s (settle s) := by
  refine (sent_settleSteward s).trans ?_
  unfold settle settleDev
  split
  · exact sent_enterDev _ _
  · exact sent_refl _

end Sys2Proof.Machine
end

section
/-! ## Reads (R412 to R414, R416) -/

namespace Sys2Proof.Machine

variable {s t u : State} {p c i sub k : Nat} {v : Slot} {ks : List Nat}

/-- Between `s` and `t` the objects in `ks` and the access paths change, what `State.body` leaves aside apart. -/
def PathFrame (ks : List Nat) (s t : State) : Prop := OnlyObjs ks { s with paths := t.paths } t

theorem pathFrame_refl (ks : List Nat) (s : State) : PathFrame ks s s := onlyObjs_refl s ks

theorem OnlyObjs.pathFrame (h : OnlyObjs ks s t) (hp : t.paths = s.paths) : PathFrame ks s t := by
  rw [PathFrame, hp]
  exact h

theorem PathFrame.trans (h : PathFrame ks s t) (h' : PathFrame ks t u) : PathFrame ks s u :=
  (OnlyObjs.withPaths h u.paths).trans h'

theorem PathFrame.mono {ks' : List Nat} (h : PathFrame ks s t) (hs : ∀ x ∈ ks, x ∈ ks') : PathFrame ks' s t :=
  OnlyObjs.mono h hs

theorem PathFrame.setPath (h : PathFrame ks s t) (q : Nat) (x : Path) : PathFrame ks s (t.setPath q x) :=
  OnlyObjs.withPaths h _

theorem PathFrame.settled (h : PathFrame ks s t) : PathFrame ks s (settle t) := by
  rw [PathFrame, settle_paths]
  exact OnlyObjs.settled h

theorem path_setPath_self (s : State) (p : Nat) (x : Path) : (s.setPath p x).path p = x := by
  rw [State.path_setPath, if_pos rfl]

theorem path_settle (s : State) (p : Nat) : (settle s).path p = s.path p := samePaths_settle.path p

/-! ### The read of a whole slot -/

/-- The server's turn changes nothing that a read shows. -/
theorem readScalar_turned (s : State) (p c i sub : Nat) : s.turned.readScalar p c i sub = s.readScalar p c i sub := rfl

theorem noteWrap_frame (s : State) (p c i sub : Nat) : PathFrame [objKey p O.TM_WRAP] s (noteWrap s p c i sub) := by
  unfold noteWrap
  split
  · split
    · exact ((onlyObjs_refl s _).put (by simp) _).pathFrame rfl
    · exact pathFrame_refl _ _
  · exact pathFrame_refl _ _

theorem noteWrap_path (s : State) (p c i sub : Nat) : (noteWrap s p c i sub).path p = s.path p := by
  unfold noteWrap
  split
  · split <;> rfl
  · rfl

theorem noteCompanion_frame (s : State) (p c i sub : Nat) : PathFrame [] s (noteCompanion s p c i sub) := by
  unfold noteCompanion
  split
  · split
    · exact (pathFrame_refl _ _).setPath _ _
    · exact pathFrame_refl _ _
  · exact pathFrame_refl _ _

theorem noteCompanion_snapshot (s : State) (p c i sub : Nat) :
    ((noteCompanion s p c i sub).path p).snapshot = (s.path p).snapshot := by
  unfold noteCompanion
  split
  · split
    · rw [path_setPath_self]
    · rfl
  · rfl

/-- The state after a read of a slot that answers: the path's TM_WRAP and companion are noted. -/
abbrev noted (s : State) (p c i sub : Nat) : State := noteCompanion (noteWrap s p c i sub) p c i sub

theorem noted_frame (s : State) (p c i sub : Nat) : PathFrame [objKey p O.TM_WRAP] s (noted s p c i sub) :=
  (noteWrap_frame s p c i sub).trans ((noteCompanion_frame _ p c i sub).mono (by simp))

theorem noted_snapshot (s : State) (p c i sub : Nat) : ((noted s p c i sub).path p).snapshot = (s.path p).snapshot := by
  rw [noteCompanion_snapshot, noteWrap_path]

theorem readValue_ok (hdp : i * 256 + sub ≠ O.DP_DATA) (hcdp : i * 256 + sub ≠ O.CDP_DATA)
    (hc : (s.path p).companions = []) (hv : s.readScalar p c i sub = .ok v) :
    readValue s p c i sub = (noted s p c i sub, .ok v) := by
  simp only [readValue, hdp, hcdp, or_self, if_false, hv, hc]
  rfl

theorem readValue_error (hdp : i * 256 + sub ≠ O.DP_DATA) (hcdp : i * 256 + sub ≠ O.CDP_DATA) {a : Abort}
    (hv : s.readScalar p c i sub = .error a) : readValue s p c i sub = (s, .error a) := by
  simp only [readValue, hdp, hcdp, or_self, if_false, hv]

/-! ### Read accesses -/

variable {f : State → State × Except Abort Slot}

theorem readAccess_ok (h : Served s p) (hf : f s.turned = (u, .ok v)) : readAccess s p k f = setResp u p v := by
  simp only [readAccess, h.1, h.2.1, takeTurn_free s h.2.2, hf, if_true, Bool.false_eq_true, if_false]

theorem readAccess_error (h : Served s p) {a : Abort} (hf : f s.turned = (u, .error a)) :
    readAccess s p k f = setResp (recordAbort u p k 1 a) p allOnes := by
  simp only [readAccess, h.1, h.2.1, takeTurn_free s h.2.2, hf, if_true, Bool.false_eq_true, if_false]

theorem setResp_resp (s : State) (p : Nat) (v : Slot) : ((setResp s p v).path p).resp = v := by
  rw [setResp, path_setPath_self]

theorem setResp_snapshot (s : State) (p : Nat) (v : Slot) : ((setResp s p v).path p).snapshot = (s.path p).snapshot := by
  rw [setResp, path_setPath_self]

theorem PathFrame.setResp (h : PathFrame ks s t) (q : Nat) (x : Slot) : PathFrame ks s (setResp t q x) := h.setPath _ _

theorem turned_frame (ks : List Nat) (s : State) : PathFrame ks s s.turned := (onlyObjs_turned ks).pathFrame rfl

/-! ### Half reads -/

theorem fld_low (v : Slot) : ofN (fld (ofN (fld v 0 32)) 0 32) = ofN (v.toNat % 2 ^ 32) := by
  have h : v.toNat / 2 ^ 0 % 2 ^ 32 = v.toNat % 2 ^ 32 := by omega
  simp only [fld, h]
  rw [ofN_toNat _ (by omega)]
  exact congrArg ofN (by omega)

theorem fld_high (v : Slot) : ofN (fld (ofN (fld v 32 32)) 0 32) = ofN (v.toNat / 2 ^ 32) := by
  have hv := v.isLt
  have h : v.toNat / 2 ^ 32 % 2 ^ 32 = v.toNat / 2 ^ 32 := by omega
  simp only [fld, h]
  rw [ofN_toNat _ (by omega)]
  exact congrArg ofN (by omega)

/-- A half access that answers: the response is the low word of what was read. -/
theorem halfAccess_ok (h : Served s p) (hf : f s.turned = (u, .ok v)) :
    halfAccess s p k f = setResp (setResp u p v) p (ofN (fld v 0 32)) := by
  simp only [halfAccess, readAccess_ok h hf, setResp_resp]

/-- The snapshot of a low-half read of a wide object. -/
abbrev snapped (s : State) (p k : Nat) (v : Slot) : State := s.setPath p { s.path p with snapshot := some (k, v) }

theorem readLow_wide (hwide : isWide i sub = true) (h : readValue s p c i sub = (u, .ok v)) :
    readLow s p c i sub = (snapped u p (i * 256 + sub) v, .ok (ofN (fld v 0 32))) := by
  simp only [readLow, h, hwide, if_true]

theorem readHigh_snapped (hwide : isWide i sub = true) (ha : s.absent i sub = none)
    (hs : (s.path p).snapshot = some (i * 256 + sub, v)) : readHigh s p c i sub =
      (s.setPath p { s.path p with snapshot := none }, .ok (ofN (fld v 32 32))) := by
  simp only [readHigh, hwide, ha, hs]
  rfl

theorem readHigh_live (hwide : isWide i sub = true) (ha : s.absent i sub = none) (hdp : i * 256 + sub ≠ O.DP_DATA)
    (hcdp : i * 256 + sub ≠ O.CDP_DATA) (hv : s.readScalar p c i sub = .ok v)
    (hs : ∀ k w, (s.path p).snapshot = some (k, w) → k ≠ i * 256 + sub) :
    readHigh s p c i sub = (s.flag p O.PATH_STATUS 1, .ok (ofN (fld v 32 32))) := by
  have hlive : readHigh.readLive s p c i sub (i * 256 + sub) = (s.flag p O.PATH_STATUS 1, .ok (ofN (fld v 32 32))) := by
    simp only [readHigh.readLive, hdp, hcdp, or_self, if_false, hv]
  rw [← hlive, readHigh, if_pos ⟨hwide, by rw [ha]; rfl⟩]
  dsimp only
  split
  · next k w hk => rw [if_neg (hs k w hk)]
  · rfl

/-! ### The window (R412) -/

theorem windowRead_low (hp : p < 16) (hs : s.serves p = true) (hi : i < 2 ^ 15) (hsub : sub < 256) :
    windowRead s p (i * 2048 + sub * 8) 4 =
      halfAccess s p (i * 256 + sub) fun t => readLow t p (t.selected p) i sub := by
  have hok : winOk (i * 2048 + sub * 8) 4 = true := winOk_half (by omega) (by omega)
  have hlow : (i * 2048 + sub * 8) % 8 = 0 := by omega
  simp only [windowRead, hp, hs, hok, hlow, winKey_low, key_idx hsub, key_sub hsub]
  rfl

theorem windowRead_high (hp : p < 16) (hs : s.serves p = true) (hi : i < 2 ^ 15) (hsub : sub < 256) :
    windowRead s p (i * 2048 + sub * 8 + 4) 4 =
      halfAccess s p (i * 256 + sub) fun t => readHigh t p (t.selected p) i sub := by
  have hok : winOk (i * 2048 + sub * 8 + 4) 4 = true := winOk_half (by omega) (by omega)
  have hhigh : (i * 2048 + sub * 8 + 4) % 8 = 4 := by omega
  simp only [windowRead, hp, hs, hok, hhigh, winKey_high, key_idx hsub, key_sub hsub]
  rfl

theorem windowRead_refused {off n : Nat} (hp : p < 16) (hs : s.serves p = true) (hno : winOk off n = false) :
    windowRead s p off n = refuseAccess s p := by
  simp only [windowRead, hp, hs, hno, and_self, if_true]

theorem windowWrite_refused {off n : Nat} (hp : p < 16) (hs : s.serves p = true) (hno : winOk off n = false) :
    windowWrite s p off n v = refuseAccess s p := by
  simp only [windowWrite, hp, hs, hno, and_self, if_true]

end Sys2Proof.Machine
end

section
/-! ## The clauses of R412 to R416 -/

namespace Sys2Proof.Machine

variable {s : State} {p i sub : Nat} {v : Slot}

theorem touchmarkRead_ok (h : Served s p) (hdp : i * 256 + sub ≠ O.DP_DATA) (hcdp : i * 256 + sub ≠ O.CDP_DATA)
    (hc : (s.path p).companions = []) (hv : s.readScalar p (s.selected p) i sub = .ok v) :
    Answers (.touchmarkRead p i sub) s fun t =>
      (t.path p).resp = v ∧ (t.path p).snapshot = (s.path p).snapshot ∧
      OnlyObjs [objKey p O.TM_WRAP] { s with paths := t.paths } t := by
  have hread : readValue s.turned p (s.turned.selected p) i sub =
      (noted s.turned p (s.turned.selected p) i sub, .ok v) :=
    readValue_ok hdp hcdp hc ((readScalar_turned s p _ i sub).trans hv)
  refine answers_done ((exec_touchmarkRead s p i sub).trans (congrArg done (readAccess_ok h hread))) ⟨?_, ?_, ?_⟩
  · rw [path_settle, setResp_resp]
  · rw [path_settle, setResp_snapshot, noted_snapshot]
    rfl
  · exact (((turned_frame _ s).trans (noted_frame _ _ _ _ _)).setResp _ _).settled

theorem readLowHalf_ok (h : Served s p) (hdp : i * 256 + sub ≠ O.DP_DATA) (hcdp : i * 256 + sub ≠ O.CDP_DATA)
    (hc : (s.path p).companions = []) (hv : s.readScalar p (s.selected p) i sub = .ok v) (hp : p < 16)
    (hwide : isWide i sub = true) (hi : i < 2 ^ 15) (hsub : sub < 256) :
    Answers (.windowReadLowHalf p (i * 2048 + sub * 8) 4) s fun t =>
      (t.path p).resp = ofN (v.toNat % 2 ^ 32) ∧ (t.path p).snapshot = some (i * 256 + sub, v) ∧
      OnlyObjs [objKey p O.TM_WRAP] { s with paths := t.paths } t := by
  have hread : readValue s.turned p (s.turned.selected p) i sub =
      (noted s.turned p (s.turned.selected p) i sub, .ok v) :=
    readValue_ok hdp hcdp hc ((readScalar_turned s p _ i sub).trans hv)
  refine answers_done ((exec_windowReadLowHalf s p _ 4).trans (congrArg done ((windowRead_low hp h.1 hi hsub).trans
    (halfAccess_ok h (readLow_wide hwide hread))))) ⟨?_, ?_, ?_⟩
  · rw [path_settle, setResp_resp, fld_low]
  · rw [path_settle, setResp_snapshot, setResp_snapshot, path_setPath_self]
  · exact (((((turned_frame _ s).trans (noted_frame _ _ _ _ _)).setPath _ _).setResp _ _).setResp _ _).settled

theorem readHighHalf_live (h : Served s p) (hdp : i * 256 + sub ≠ O.DP_DATA) (hcdp : i * 256 + sub ≠ O.CDP_DATA)
    (hv : s.readScalar p (s.selected p) i sub = .ok v) (hp : p < 16) (hwide : isWide i sub = true) (hi : i < 2 ^ 15)
    (hsub : sub < 256) (ha : s.absent i sub = none)
    (hs : ∀ k w, (s.path p).snapshot = some (k, w) → k ≠ i * 256 + sub) :
    Answers (.windowReadHighHalf p (i * 2048 + sub * 8 + 4) 4) s fun t =>
      (t.path p).resp = ofN (v.toNat / 2 ^ 32) ∧ bit (t.obj p O.PATH_STATUS) 1 = true ∧
      OnlyObjs [objKey p O.PATH_STATUS] { s with paths := t.paths } t := by
  have hread : readHigh s.turned p (s.turned.selected p) i sub =
      (s.turned.flag p O.PATH_STATUS 1, .ok (ofN (fld v 32 32))) :=
    readHigh_live hwide ha hdp hcdp ((readScalar_turned s p _ i sub).trans hv) hs
  refine answers_done ((exec_windowReadHighHalf s p _ 4).trans (congrArg done ((windowRead_high hp h.1 hi hsub).trans
    (halfAccess_ok h hread)))) ⟨?_, ?_, ?_⟩
  · rw [path_settle, setResp_resp, fld_high]
  · rw [obj_settle_pathStatus]
    change bit ((s.turned.flag p O.PATH_STATUS 1).obj p O.PATH_STATUS) 1 = true
    rw [State.flag_eq, State.obj_setObj_self, bit_setBit _ _ _ (by decide)]
    simp
  · have hflag : PathFrame [objKey p O.PATH_STATUS] s (s.turned.flag p O.PATH_STATUS 1) :=
      ((onlyObjs_turned _).put (by simp) _).pathFrame rfl
    exact ((hflag.setResp _ _).setResp _ _).settled

theorem readHighHalf_snapped (h : Served s p) (hp : p < 16) (hwide : isWide i sub = true) (hi : i < 2 ^ 15)
    (hsub : sub < 256) (ha : s.absent i sub = none) (hs : (s.path p).snapshot = some (i * 256 + sub, v)) :
    Answers (.windowReadHighHalf p (i * 2048 + sub * 8 + 4) 4) s fun t =>
      (t.path p).resp = ofN (v.toNat / 2 ^ 32) ∧ (t.path p).snapshot = none ∧
      OnlyObjs [] { s with paths := t.paths } t := by
  have hread := readHigh_snapped (s := s.turned) (p := p) (c := s.turned.selected p) hwide ha hs
  refine answers_done ((exec_windowReadHighHalf s p _ 4).trans (congrArg done ((windowRead_high hp h.1 hi hsub).trans
    (halfAccess_ok h hread)))) ⟨?_, ?_, ?_⟩
  · rw [path_settle, setResp_resp, fld_high]
  · rw [path_settle, setResp_snapshot, setResp_snapshot, path_setPath_self]
  · exact ((((turned_frame _ s).setPath _ _).setResp _ _).setResp _ _).settled

/-- The record of an abort at the end of the command, whatever answer the path then holds. -/
theorem aborted_settle_setResp (s : State) (p k op : Nat) (a : Abort) (v : Slot) :
    Aborted s (settle (setResp (recordAbort s p k op a) p v)) p k op a := by
  obtain ⟨h1, h2, h3⟩ := recordAbort_aborted s p k op a
  refine ⟨?_, ?_, ?_⟩
  · rw [obj_settle_of _ _ _ (by decide) (by decide), setResp, State.setPath_obj]; exact h1
  · rw [obj_settle_of _ _ _ (by decide) (by decide), setResp, State.setPath_obj]; exact h2
  · rw [obj_settle_of _ _ _ (by decide) (by decide), setResp, State.setPath_obj]; exact h3

theorem touchmarkRead_error {a : Abort} (h : Served s p) (hdp : i * 256 + sub ≠ O.DP_DATA)
    (hcdp : i * 256 + sub ≠ O.CDP_DATA) (hv : s.readScalar p (s.selected p) i sub = .error a) :
    Answers (.touchmarkRead p i sub) s fun t =>
      (t.path p).resp = 0xFFFFFFFFFFFFFFFF ∧ Aborted s t p (i * 256 + sub) 1 a ∧
      OnlyObjs (abortKeys p) { s with paths := t.paths } t := by
  have hread : readValue s.turned p (s.turned.selected p) i sub = (s.turned, .error a) :=
    readValue_error hdp hcdp ((readScalar_turned s p _ i sub).trans hv)
  refine answers_done ((exec_touchmarkRead s p i sub).trans (congrArg done (readAccess_error h hread))) ⟨?_, ?_, ?_⟩
  · rw [path_settle, setResp_resp]
    rfl
  · exact aborted_settle_setResp s.turned p _ 1 a allOnes
  · have hrecord := (recordAbort_onlyObjs s.turned p (i * 256 + sub) 1 a).pathFrame (samePaths_recordAbort _ _ _)
    exact (((turned_frame _ s).trans hrecord).setResp _ _).settled

theorem refuseAccess_answers {c : Instr} (hc : exec c s = done (refuseAccess s p)) :
    Answers c s fun t => .unsupported p ∈ t.sent ∧ OnlyObjs [] s t :=
  answers_done hc ⟨(sent_settle _).mem List.mem_cons_self, (onlyObjs_congr [] (t := refuseAccess s p) rfl rfl rfl).settled⟩

/-- Settles O11, clause by clause. -/
theorem reads : Obligations.Reads := by
  unfold Obligations.Reads
  refine ⟨fun s p i sub v h hdp hcdp hc hv => ⟨?_, ?_, ?_⟩, ?_, ?_, ?_⟩
  · exact touchmarkRead_ok h hdp hcdp hc hv
  · exact fun hp hw hi hsub => readLowHalf_ok h hdp hcdp hc hv hp hw hi hsub
  · exact fun hp hw hi hsub ha hs => readHighHalf_live h hdp hcdp hv hp hw hi hsub ha hs
  · exact fun s p i sub v h hp hw hi hsub ha hs => readHighHalf_snapped h hp hw hi hsub ha hs
  · exact fun s p i sub a h hdp hcdp hv => touchmarkRead_error h hdp hcdp hv
  · intro s p off n v hp hs hno c hc
    have hread := windowRead_refused hp hs hno
    have hwrite := windowWrite_refused (v := v) hp hs hno
    simp only [List.mem_cons, List.not_mem_nil, or_false] at hc
    obtain rfl | rfl | rfl | rfl := hc
    · exact refuseAccess_answers ((exec_windowReadLowHalf s p off n).trans (congrArg done hread))
    · exact refuseAccess_answers ((exec_windowReadHighHalf s p off n).trans (congrArg done hread))
    · exact refuseAccess_answers ((exec_windowWriteLowHalf s p off n v).trans (congrArg done hwrite))
    · exact refuseAccess_answers ((exec_windowWriteHighHalf s p off n v).trans (congrArg done hwrite))

end Sys2Proof.Machine
end

section
/-! ## The dictionary mailbox (R417, R418) -/

namespace Sys2Proof.Machine

variable {s t u : State} {l i sub : Nat} {ks : List Nat}

theorem mailbox_setMailbox (s : State) (l : Nat) (m : Mailbox) : (s.setMailbox l m).mailbox l = m := by
  rw [State.mailbox, State.setMailbox, kvGet_kvSet, if_pos rfl]

theorem mailbox_settle (s : State) (l : Nat) : (settle s).mailbox l = s.mailbox l := by
  rw [State.mailbox, settle_mailboxes, State.mailbox]

/-- Two states that differ in objects only still do after the same change of their mailboxes. -/
theorem OnlyObjs.setMailbox (h : OnlyObjs ks s t) (l : Nat) (m : Mailbox) :
    OnlyObjs ks { s with mailboxes := (t.setMailbox l m).mailboxes } (t.setMailbox l m) :=
  ⟨congrArg (fun b : State => { b with mailboxes := (t.setMailbox l m).mailboxes }) h.1, h.2⟩

/-- The end of a command that ends with a mailbox set. -/
theorem OnlyObjs.settledMailbox (h : OnlyObjs ks s t) (l : Nat) (m : Mailbox) :
    OnlyObjs ks { s with mailboxes := (settle (t.setMailbox l m)).mailboxes } (settle (t.setMailbox l m)) := by
  rw [settle_mailboxes]
  exact (h.setMailbox l m).settled

theorem mbSubmit_taken {req : Slot} {data : List Byte} (hl : l < 16) (hs : s.serves (16 + l) = true)
    (hb : (s.mailbox l).busy = false) : Answers (.mbDoorbellSubmit l req data) s fun t =>
      (t.mailbox l).busy = true ∧ (t.mailbox l).request = req ∧
      (t.mailbox l).data = data.take 2048 ++ (s.mailbox l).data.drop (data.take 2048).length ∧
      OnlyObjs [] { s with mailboxes := t.mailboxes } t := by
  refine answers_done ((exec_mbDoorbellSubmit s l req data).trans (congrArg done (if_pos ⟨hl, hs, hb⟩))) ?_
  simp only [mailbox_settle, mailbox_setMailbox]
  exact ⟨trivial, trivial, trivial, (onlyObjs_refl s _).settledMailbox _ _⟩

theorem mbSubmit_discarded {req : Slot} {data : List Byte} (hb : (s.mailbox l).busy = true) :
    Answers (.mbDoorbellSubmit l req data) s fun t => OnlyObjs [] s t := by
  refine answers_idle ((exec_mbDoorbellSubmit s l req data).trans (congrArg done (if_neg ?_)))
  rintro ⟨-, -, hfree⟩
  rw [hb] at hfree
  cases hfree

/-! ### The request that completes -/

/-- The mailbox of a request that completes with bytes. -/
abbrev Mailbox.answered (m : Mailbox) (bs : List Byte) : Mailbox :=
  { m with busy := false, data := bs ++ m.data.drop bs.length, result := ofN (bs.length * 2 ^ 32) }

/-- The mailbox of a request that aborts. -/
abbrev Mailbox.aborted (m : Mailbox) (a : Abort) : Mailbox := { m with busy := false, result := ofN a.code.toNat }

variable (hl : l < 16) (h : Served s (16 + l)) (hb : (s.mailbox l).busy = true)
include hl h hb

theorem exec_mailboxRequestDone_ok {bs : List Byte}
    (hrun : mailboxRun s.turned (16 + l) (s.mailbox l).request (s.mailbox l).data = (u, .ok bs)) :
    exec (.mailboxRequestDone l) s = done (u.setMailbox l ((s.mailbox l).answered bs)) := by
  rw [exec_mailboxRequestDone, execMailboxRequestDone]
  simp only [hl, hb, h.1, h.2.1, takeTurn_free s h.2.2, hrun, and_self, if_true]

theorem exec_mailboxRequestDone_error {a : Abort}
    (hrun : mailboxRun s.turned (16 + l) (s.mailbox l).request (s.mailbox l).data = (u, .error a)) :
    exec (.mailboxRequestDone l) s = done ((recordAbort u (16 + l) (fld (s.mailbox l).request 32 24)
      (fld (s.mailbox l).request 56 8) a).setMailbox l ((s.mailbox l).aborted a)) := by
  rw [exec_mailboxRequestDone, execMailboxRequestDone]
  simp only [hl, hb, h.1, h.2.1, takeTurn_free s h.2.2, hrun, and_self, if_true]

theorem mailboxRead_done {v : Slot} {r : ObjRow} (hop : fld (s.mailbox l).request 56 8 = 1)
    (hi : fld (s.mailbox l).request 40 16 = i) (hsub : fld (s.mailbox l).request 32 8 = sub)
    (hdp : i * 256 + sub ≠ O.DP_DATA) (hcdp : i * 256 + sub ≠ O.CDP_DATA) (habs : s.absent i sub = none)
    (hrow : findRow i sub = some r) (hblob : r.ty.isBlob = false) (hc : (s.path (16 + l)).companions = [])
    (hv : s.readScalar (16 + l) (s.selected (16 + l)) i sub = .ok v) :
    Answers (.mailboxRequestDone l) s fun t =>
      (t.mailbox l).busy = false ∧ (t.mailbox l).result = ofN (8 * 2 ^ 32) ∧
      (t.mailbox l).data.take 8 = leBytes 8 v.toNat ∧
      OnlyObjs [objKey (16 + l) O.TM_WRAP] { s with mailboxes := t.mailboxes, paths := t.paths } t := by
  have habs' : s.turned.absent i sub = none := habs
  have hread : readValue s.turned (16 + l) (s.turned.selected (16 + l)) i sub =
      (noted s.turned (16 + l) (s.turned.selected (16 + l)) i sub, .ok v) :=
    readValue_ok hdp hcdp hc ((readScalar_turned s _ _ i sub).trans hv)
  have hrun : mailboxRun s.turned (16 + l) (s.mailbox l).request (s.mailbox l).data =
      (noted s.turned (16 + l) (s.turned.selected (16 + l)) i sub, .ok (leBytes 8 v.toNat)) := by
    simp only [mailboxRun, hop, hi, hsub, readWhole, habs', hrow, hblob, hread, Bool.false_eq_true, false_and, if_false]
  refine answers_done (exec_mailboxRequestDone_ok hl h hb hrun) ?_
  simp only [mailbox_settle, mailbox_setMailbox]
  refine ⟨trivial, rfl, rfl, ?_⟩
  have hframe := (turned_frame _ s).trans (noted_frame s.turned (16 + l) (s.turned.selected (16 + l)) i sub)
  rw [settle_paths]
  exact OnlyObjs.settledMailbox hframe l _

theorem mailboxWrite_done {r : ObjRow} (hop : fld (s.mailbox l).request 56 8 = 2)
    (hi : fld (s.mailbox l).request 40 16 = i) (hsub : fld (s.mailbox l).request 32 8 = sub)
    (hn : fld (s.mailbox l).request 0 12 = 8) (hlen : 8 ≤ (s.mailbox l).data.length)
    (hst : s.stageErr (16 + l) (s.selected (16 + l)) i sub = none) (hrow : findRow i sub = some r)
    (hblob : r.ty.isBlob = false)
    (hw : writeObj (takeTurn s) (16 + l) (s.selected (16 + l)) i sub (ofN (leNat ((s.mailbox l).data.take 8))) =
      (u, none)) :
    Answers (.mailboxRequestDone l) s fun t =>
      (t.mailbox l).busy = false ∧ (t.mailbox l).result = 0 ∧ OnlyObjs [] { u with mailboxes := t.mailboxes } t := by
  have hst' : s.turned.stageErr (16 + l) (s.turned.selected (16 + l)) i sub = none := hst
  have hw' : writeObj s.turned (16 + l) (s.turned.selected (16 + l)) i sub
      (ofN (leNat ((s.mailbox l).data.take 8))) = (u, none) := by
    rw [← hw, takeTurn_free s h.2.2]
    rfl
  have hbytes : ((s.mailbox l).data ++ List.replicate (8 - (s.mailbox l).data.length) 0#8).take 8 =
      (s.mailbox l).data.take 8 := List.take_append_of_le_length hlen
  have hlen8 : ((s.mailbox l).data.take 8).length = 8 := by
    rw [List.length_take]
    omega
  have hrun : mailboxRun s.turned (16 + l) (s.mailbox l).request (s.mailbox l).data = (u, .ok []) := by
    simp only [mailboxRun, hop, hi, hsub, hn, hbytes, writeWhole, hst', hrow, hblob, hlen8, beq_self_eq_true, need_true,
      Bool.false_eq_true, if_false, hw']
  refine answers_done (exec_mailboxRequestDone_ok hl h hb hrun) ?_
  simp only [mailbox_settle, mailbox_setMailbox]
  exact ⟨trivial, rfl, (onlyObjs_refl u _).settledMailbox _ _⟩

theorem mailboxOther_done (hop : fld (s.mailbox l).request 56 8 ∉ [1, 2]) :
    Answers (.mailboxRequestDone l) s fun t =>
      (t.mailbox l).busy = false ∧ (t.mailbox l).result = 0x06090030 ∧
      OnlyObjs (abortKeys (16 + l)) { s with mailboxes := t.mailboxes } t := by
  have hrun : mailboxRun s.turned (16 + l) (s.mailbox l).request (s.mailbox l).data = (s.turned, .error .range) := by
    simp only [List.mem_cons, List.not_mem_nil, or_false, not_or] at hop
    unfold mailboxRun
    dsimp only
    split
    · next h1 => exact absurd h1 hop.1
    · next h2 => exact absurd h2 hop.2
    · rfl
  refine answers_done (exec_mailboxRequestDone_error hl h hb hrun) ?_
  simp only [mailbox_settle, mailbox_setMailbox]
  exact ⟨trivial, rfl, OnlyObjs.settledMailbox ((onlyObjs_turned _).trans (recordAbort_onlyObjs _ _ _ _ _)) _ _⟩

end Sys2Proof.Machine
end

section
namespace Sys2Proof.Machine

/-- Settles O13, clause by clause. -/
theorem mailboxRequests : Obligations.MailboxRequests := by
  unfold Obligations.MailboxRequests
  exact ⟨fun s l req data hl hs hb => mbSubmit_taken hl hs hb, fun s l req data hb => mbSubmit_discarded hb,
    fun s l i sub v r hl h hb hop hi hsub hdp hcdp habs hrow hblob hc hv =>
      mailboxRead_done hl h hb hop hi hsub hdp hcdp habs hrow hblob hc hv,
    fun s u l i sub r hl h hb hop hi hsub hn hlen hst hrow hblob hw =>
      mailboxWrite_done hl h hb hop hi hsub hn hlen hst hrow hblob hw,
    fun s l hl h hb hop => mailboxOther_done hl h hb hop⟩

end Sys2Proof.Machine
end

section
/-! ## Commits and the stored set (R423, R426) -/

namespace Sys2Proof.Machine

variable {s : State} {p : Nat} {v : Slot}

theorem missing_dictCommit (s : State) : s.missing (O.DICT_COMMIT / 256) (O.DICT_COMMIT % 256) = none := rfl

theorem dictCommit_fits (hv : v.toNat < 256) : dictCommit s p v = .ok (if v = 1 then commitPath s p else s) :=
  need_pos s (by simpa [ObjTy.fits] using hv) _ _

theorem obj_settle_commitGen (u : State) (p : Nat) : (settle u).obj p O.PATH_COMMIT_GEN = u.obj p O.PATH_COMMIT_GEN :=
  obj_settle_of u p _ (by decide) (by decide)

theorem dictCommit_ignored (h : Served s p) (hv : v.toNat < 256) (hne : v ≠ 1) :
    Answers (.dictCommit p v) s fun t => OnlyObjs [] s t :=
  answers_access (exec_dictCommit s p v) h (missing_dictCommit s)
    ((dictCommit_fits (s := s.turned) hv).trans (congrArg Acc.ok (if_neg hne))) (onlyObjs_turned []).settled

theorem answers_commit {P : State → Prop} (h : Served s p) (hP : P (settle (commitPath s.turned p))) :
    Answers (.dictCommit p 1) s P :=
  answers_access (exec_dictCommit s p 1) h (missing_dictCommit s) (dictCommit_fits (s := s.turned) (by decide)) hP

/-- The owner code has no commit that waits. -/
theorem commitPath_first (hno : ∀ c ∈ s.commits, c.owner ≠ ownerOf p) : commitPath s p =
    if s.shadows.any fun h => h.owner == ownerOf p && !isLayerKey h.key then
      ({ s with commits := s.commits ++ [{ owner := ownerOf p, due := s.cycle + 192, paths := [p] }] } : State).setObj p
        O.PATH_COMMIT_GEN 0xFFFFFFFF
    else s.setObj p O.PATH_COMMIT_GEN (s.get O.DICT_GEN) := by
  have hfind : s.commits.find? (fun c : Commit => c.owner == ownerOf p) = none :=
    List.find?_eq_none.mpr fun c hc => by simpa using hno c hc
  rw [commitPath, hfind]
  rfl

theorem dictCommit_falls_due (h : Served s p) (hno : ∀ c ∈ s.commits, c.owner ≠ ownerOf p)
    (hsh : ∃ h ∈ s.shadows, h.owner = ownerOf p ∧ isLayerKey h.key = false) :
    Answers (.dictCommit p 1) s fun t =>
      t.commits = s.commits ++ [{ owner := ownerOf p, due := s.cycle + 192, paths := [p] }] ∧
      t.obj p O.PATH_COMMIT_GEN = 0xFFFFFFFF ∧
      OnlyObjs [objKey p O.PATH_COMMIT_GEN] { s with commits := t.commits } t := by
  have hany : (s.shadows.any fun h => h.owner == ownerOf p && !isLayerKey h.key) = true := by
    obtain ⟨x, hx, ho, hl⟩ := hsh
    exact List.any_eq_true.mpr ⟨x, hx, by simp [ho, hl]⟩
  refine answers_commit h ?_
  rw [(commitPath_first (s := s.turned) hno).trans (if_pos hany), settle_commits, obj_settle_commitGen]
  exact ⟨rfl, State.obj_setObj_self _ _ _ _,
    ((onlyObjs_refl ({ s.turned with commits := _ } : State) _).put (by simp) _).settled⟩

theorem dictCommit_nothing (h : Served s p) (hno : ∀ c ∈ s.commits, c.owner ≠ ownerOf p)
    (hsh : ∀ h ∈ s.shadows, h.owner = ownerOf p → isLayerKey h.key = true) :
    Answers (.dictCommit p 1) s fun t =>
      t.obj p O.PATH_COMMIT_GEN = s.get O.DICT_GEN ∧ OnlyObjs [objKey p O.PATH_COMMIT_GEN] s t := by
  have hany : ¬ (s.shadows.any fun h => h.owner == ownerOf p && !isLayerKey h.key) = true := by
    intro hx
    obtain ⟨x, hx, hb⟩ := List.any_eq_true.mp hx
    simp only [Bool.and_eq_true, beq_iff_eq, Bool.not_eq_true'] at hb
    rw [hsh x hx hb.1] at hb
    cases hb.2
  refine answers_commit h ?_
  rw [(commitPath_first (s := s.turned) hno).trans (if_neg hany), obj_settle_commitGen]
  exact ⟨State.obj_setObj_self s.turned _ _ _, ((onlyObjs_turned _).put (by simp) _).settled⟩

/-- Path `p` joins the commit of its owner code. -/
def Commit.join (p : Nat) (c : Commit) : Commit :=
  if c.owner = ownerOf p then { c with paths := p :: c.paths.filter fun q => q != p } else c

theorem Commit.join_due (p : Nat) (c : Commit) : (c.join p).due = c.due := by
  unfold Commit.join
  split <;> rfl

theorem commitPath_joins {c : Commit} (hc : c ∈ s.commits) (ho : c.owner = ownerOf p) : commitPath s p =
    ({ s with commits := s.commits.map (Commit.join p) } : State).setObj p O.PATH_COMMIT_GEN 0xFFFFFFFF := by
  rw [commitPath]
  split
  · rfl
  · next hnone => exact absurd (beq_iff_eq.mpr ho) (List.find?_eq_none.mp hnone c hc)

theorem dictCommit_joins (h : Served s p) {c : Commit} (hc : c ∈ s.commits) (ho : c.owner = ownerOf p) :
    Answers (.dictCommit p 1) s fun t =>
      t.commits.map Commit.due = s.commits.map Commit.due ∧
      (∃ c' ∈ t.commits, c'.owner = ownerOf p ∧ c'.due = c.due ∧ p ∈ c'.paths) ∧
      t.obj p O.PATH_COMMIT_GEN = 0xFFFFFFFF ∧
      OnlyObjs [objKey p O.PATH_COMMIT_GEN] { s with commits := t.commits } t := by
  refine answers_commit h ?_
  rw [commitPath_joins (s := s.turned) hc ho, settle_commits, obj_settle_commitGen, State.setObj_commits]
  refine ⟨?_, ⟨c.join p, List.mem_map_of_mem hc, ?_, c.join_due p, ?_⟩, State.obj_setObj_self _ _ _ _, ?_⟩
  · exact (List.map_map).trans (List.map_congr_left fun c _ => c.join_due p)
  · rw [Commit.join, if_pos ho]; exact ho
  · rw [Commit.join, if_pos ho]; exact List.mem_cons_self
  · exact ((onlyObjs_refl ({ s.turned with commits := _ } : State) _).put (by simp) _).settled

/-- Settles O14, clause by clause. -/
theorem commits : Obligations.Commits := by
  unfold Obligations.Commits
  exact fun s p h => ⟨fun v => dictCommit_ignored h, dictCommit_falls_due h, dictCommit_nothing h,
    fun c hc ho => dictCommit_joins h hc ho⟩

/-! ### The stored set (R426) -/

theorem missing_dictStore (s : State) : s.missing (O.DICT_STORE / 256) (O.DICT_STORE % 256) = none := rfl

theorem missing_dictRestore (s : State) : s.missing (O.DICT_RESTORE / 256) (O.DICT_RESTORE % 256) = none := rfl

theorem obj_settle_deviceStatus (u : State) : (settle u).obj 0 O.DEVICE_STATUS = u.obj 0 O.DEVICE_STATUS :=
  obj_settle_of u 0 _ (by decide) (by decide)

theorem storeBusy_settle (u : State) : (settle u).storeBusy = u.storeBusy := by
  rw [State.storeBusy, State.get_eq, obj_settle_deviceStatus]
  rfl

theorem storeBusy_beginStore (s : State) : (beginStore s).storeBusy = true := by
  change bit ((s.flag 0 O.DEVICE_STATUS 6).obj 0 O.DEVICE_STATUS) 6 = true
  rw [State.flag_eq, State.obj_setObj_self, bit_setBit _ _ _ (by decide)]
  simp

theorem dictStore_begins (h : Served s p) (ho : ownerOf p = s.steward) (hb : s.storeBusy = false) :
    Answers (.dictStore p 0x65766173) s fun t =>
      t.storeBusy = true ∧ t.storeCopy = some s.storedNow ∧ t.storeAt = s.cycle ∧
      OnlyObjs [objKey 0 O.DEVICE_STATUS]
        { s with storeCopy := t.storeCopy, storeAt := t.storeAt, storedOld := none } t := by
  have hb' : (!s.turned.storeBusy) = true := by
    change (!s.storeBusy) = true
    rw [hb]; rfl
  refine answers_access (exec_dictStore s p _) h (missing_dictStore s) (u := beginStore s.turned)
    ((stewardOnly_pos (s := s.turned) ho _).trans ((need_pos _ (by decide) _ _).trans (need_pos _ hb' _ _))) ?_
  rw [storeBusy_settle, storeBusy_beginStore, settle_storeCopy, settle_storeAt]
  refine ⟨rfl, rfl, rfl, OnlyObjs.settled ?_⟩
  exact (onlyObjs_refl ({ s.turned with storeCopy := _, storeAt := _, storedOld := _ } : State) _).put (by simp) _

theorem dictRestore_marks (h : Served s p) (ho : ownerOf p = s.steward) (hb : s.storeBusy = false) :
    Answers (.dictRestore p 0x64616F6C) s fun t =>
      t.storeMarked = true ∧ OnlyObjs [] { s with storeMarked := true } t := by
  have hb' : (!s.turned.storeBusy) = true := by
    change (!s.storeBusy) = true
    rw [hb]; rfl
  refine answers_access (exec_dictRestore s p _) h (missing_dictRestore s)
    (u := { s.turned with storeMarked := true })
    ((stewardOnly_pos (s := s.turned) ho _).trans ((need_pos _ (by decide) _ _).trans (need_pos _ hb' _ _))) ?_
  rw [settle_storeMarked]
  exact ⟨rfl, (onlyObjs_refl ({ s.turned with storeMarked := true } : State) _).settled⟩

theorem dictStore_range (h : Served s p) (ho : ownerOf p = s.steward) (hv : v ≠ 0x65766173) :
    Answers (.dictStore p v) s fun t => Rejected s t p O.DICT_STORE 2 .range :=
  rejected_access (exec_dictStore s p v) h (missing_dictStore s)
    ((stewardOnly_pos (s := s.turned) ho _).trans (need_neg (beq_false_of_ne hv) _ _))

theorem dictRestore_range (h : Served s p) (ho : ownerOf p = s.steward) (hv : v ≠ 0x64616F6C) :
    Answers (.dictRestore p v) s fun t => Rejected s t p O.DICT_RESTORE 2 .range :=
  rejected_access (exec_dictRestore s p v) h (missing_dictRestore s)
    ((stewardOnly_pos (s := s.turned) ho _).trans (need_neg (beq_false_of_ne hv) _ _))

theorem dictStore_busy (h : Served s p) (ho : ownerOf p = s.steward) (hb : s.storeBusy = true) :
    Answers (.dictStore p 0x65766173) s fun t => Rejected s t p O.DICT_STORE 2 .presentState := by
  have hb' : (!s.turned.storeBusy) = false := by
    change (!s.storeBusy) = false
    rw [hb]; rfl
  exact rejected_access (exec_dictStore s p _) h (missing_dictStore s)
    ((stewardOnly_pos (s := s.turned) ho _).trans ((need_pos _ (by decide) _ _).trans (need_neg hb' _ _)))

theorem dictRestore_busy (h : Served s p) (ho : ownerOf p = s.steward) (hb : s.storeBusy = true) :
    Answers (.dictRestore p 0x64616F6C) s fun t => Rejected s t p O.DICT_RESTORE 2 .presentState := by
  have hb' : (!s.turned.storeBusy) = false := by
    change (!s.storeBusy) = false
    rw [hb]; rfl
  exact rejected_access (exec_dictRestore s p _) h (missing_dictRestore s)
    ((stewardOnly_pos (s := s.turned) ho _).trans ((need_pos _ (by decide) _ _).trans (need_neg hb' _ _)))

variable {c : List (Nat × Slot)}

/-- The objects that a store which is over leaves: no store is busy, and where it has succeeded, its count and instant. -/
def storeOver (s : State) (ok : Bool) : State :=
  if ok then ((s.unflag 0 O.DEVICE_STATUS 6).countSat 0 O.DICT_STORE_COUNT 32).putTm 0 O.DICT_STORE_TM s.storeAt
  else (s.unflag 0 O.DEVICE_STATUS 6).flag 0 O.DEVICE_STATUS 3

theorem storeOver_ok_obj (s : State) : (storeOver s true).storeBusy = false ∧
    (storeOver s true).num O.DICT_STORE_COUNT = satN 32 (s.num O.DICT_STORE_COUNT + 1) ∧
    (storeOver s true).get O.DICT_STORE_TM = tmOf s.storeAt := by
  have hsat : satN 32 ((s.obj 0 O.DICT_STORE_COUNT).toNat + 1) < 2 ^ 64 := by unfold satN; split <;> omega
  simp (disch := decide) only [storeOver, if_true, State.storeBusy, State.get_eq, State.num_eq, State.putTm_eq,
    State.countSat_eq, State.unflag_eq, State.obj_setObj]
  refine ⟨?_, ofN_toNat _ hsat, rfl⟩
  exact (bit_clearBit _ _ _ (by decide)).trans (by simp)

theorem storeOver_fail_obj (s : State) : (storeOver s false).storeBusy = false ∧
    bit ((storeOver s false).get O.DEVICE_STATUS) 3 = true := by
  simp (disch := decide) only [storeOver, Bool.false_eq_true, if_false, State.storeBusy, State.get_eq, State.flag_eq,
    State.unflag_eq, State.obj_setObj_self, bit_setBit, bit_clearBit]
  simp

theorem dictStoreDone_ok (hc : s.storeCopy = some c) : Answers (.dictStoreDone true) s fun t =>
    t.stored = some c ∧ t.storedOld = s.stored ∧ t.storeMarked = false ∧ t.storeBusy = false ∧ t.storeCopy = none ∧
    t.num O.DICT_STORE_COUNT = satN 32 (s.num O.DICT_STORE_COUNT + 1) ∧ t.get O.DICT_STORE_TM = tmOf s.storeAt := by
  have hexec : exec (.dictStoreDone true) s = done { storeOver s true with
      storeCopy := none, stored := some c, storedOld := s.stored, storeMarked := false } := by
    rw [exec_dictStoreDone, execDictStoreDone, hc]
    rfl
  obtain ⟨hbusy, hcount, htm⟩ := storeOver_ok_obj s
  refine answers_done hexec ⟨?_, ?_, ?_, ?_, ?_, ?_, ?_⟩
  · rw [settle_stored]
  · rw [settle_storedOld]
  · rw [settle_storeMarked]
  · rw [storeBusy_settle]; exact hbusy
  · rw [settle_storeCopy]
  · rw [State.num_eq, obj_settle_of _ _ _ (by decide) (by decide)]; exact hcount
  · rw [State.get_eq, obj_settle_of _ _ _ (by decide) (by decide)]; exact htm

theorem dictStoreDone_failed (hc : s.storeCopy = some c) : Answers (.dictStoreDone false) s fun t =>
    t.stored = s.stored ∧ t.storeMarked = s.storeMarked ∧ t.storeBusy = false ∧ t.storeCopy = none ∧
    bit (t.get O.DEVICE_STATUS) 3 = true ∧
    OnlyObjs [objKey 0 O.DEVICE_STATUS] { s with storeCopy := none } t := by
  have hexec : exec (.dictStoreDone false) s = done (storeOver { s with storeCopy := none } false) := by
    rw [exec_dictStoreDone, execDictStoreDone, hc]
    rfl
  obtain ⟨hbusy, hbit⟩ := storeOver_fail_obj { s with storeCopy := none }
  refine answers_done hexec ⟨?_, ?_, ?_, ?_, ?_, OnlyObjs.settled ?_⟩
  · rw [settle_stored]; rfl
  · rw [settle_storeMarked]; rfl
  · rw [storeBusy_settle]; exact hbusy
  · rw [settle_storeCopy]; rfl
  · rw [State.get_eq, obj_settle_deviceStatus]; exact hbit
  · exact ((onlyObjs_refl ({ s with storeCopy := none } : State) _).put (by simp) _).put (by simp) _

/-- Settles O16, clause by clause. -/
theorem storedSet : Obligations.StoredSet := by
  unfold Obligations.StoredSet
  exact ⟨fun s p h ho hb => ⟨dictStore_begins h ho hb, dictRestore_marks h ho hb⟩,
    fun s p v h ho => ⟨dictStore_range h ho, dictRestore_range h ho,
      fun hb => ⟨dictStore_busy h ho hb, dictRestore_busy h ho hb⟩⟩,
    fun s c hc => ⟨dictStoreDone_ok hc, dictStoreDone_failed hc⟩⟩

end Sys2Proof.Machine
end

section
/-! ## The hand-over (R423) -/

namespace Sys2Proof.Machine

variable {s t u : State} {ks : List Nat}

/-- Between `s` and `t` the shadows, the commits, capture memory and the contexts stay, and so does every object but
those of `ks`, under whichever number they stand. -/
structure LeavesBut (ks : List Nat) (s t : State) : Prop where
  shadows : t.shadows = s.shadows
  commits : t.commits = s.commits
  mem : t.mem = s.mem
  ctxs : t.ctxs = s.ctxs
  variant : t.variant = s.variant
  obj : ∀ i k, k < 2 ^ 24 → k ∉ ks → t.obj i k = s.obj i k

theorem leavesBut_refl (ks : List Nat) (s : State) : LeavesBut ks s s := ⟨rfl, rfl, rfl, rfl, rfl, fun _ _ _ _ => rfl⟩

theorem LeavesBut.trans (h : LeavesBut ks s t) (h' : LeavesBut ks t u) : LeavesBut ks s u :=
  ⟨h'.shadows.trans h.shadows, h'.commits.trans h.commits, h'.mem.trans h.mem, h'.ctxs.trans h.ctxs,
    h'.variant.trans h.variant, fun i k hk hn => (h'.obj i k hk hn).trans (h.obj i k hk hn)⟩

theorem LeavesBut.mono {ks' : List Nat} (h : LeavesBut ks s t) (hs : ∀ x ∈ ks, x ∈ ks') : LeavesBut ks' s t :=
  { h with obj := fun i k hk hn => h.obj i k hk fun hx => hn (hs k hx) }

theorem leavesBut_setObj (s : State) (i : Nat) {k : Nat} (v : Slot) (hk : k < 2 ^ 24) (h : k ∈ ks) :
    LeavesBut ks s (s.setObj i k v) := by
  refine ⟨rfl, rfl, rfl, rfl, rfl, fun i' k' hk' hn => ?_⟩
  rw [State.obj_setObj _ _ _ _ _ _ hk hk', if_neg]
  rintro ⟨-, rfl⟩
  exact hn h

theorem LeavesBut.set (h : LeavesBut ks s t) (i : Nat) {k : Nat} (v : Slot) (hk : k < 2 ^ 24) (hm : k ∈ ks) :
    LeavesBut ks s (t.setObj i k v) := h.trans (leavesBut_setObj t i v hk hm)

theorem leavesBut_ite {b : Prop} [Decidable b] (ht : LeavesBut ks s t) (hu : LeavesBut ks s u) :
    LeavesBut ks s (if b then t else u) := by
  split
  · exact ht
  · exact hu

theorem leavesBut_foldl {α : Type} (s : State) (l : List α) (f : State → α → State)
    (hf : ∀ t x, LeavesBut ks t (f t x)) : LeavesBut ks s (l.foldl f s) := by
  induction l generalizing s with
  | nil => exact leavesBut_refl ks s
  | cons x l ih => exact (hf s x).trans (ih (f s x))

theorem leavesBut_settle (s : State) : LeavesBut settleObjs s (settle s) :=
  ⟨settle_shadows s, settle_commits s, settle_mem s, settle_ctxs s, settle_variant s,
    fun i k hk hn => obj_settle_of s i k hk hn⟩

theorem leavesBut_runTo (s : State) (hc : Nat) : LeavesBut [O.TB_STATUS] s (s.runTo hc) := by
  unfold State.runTo
  have hset : LeavesBut [O.TB_STATUS] s (s.setNow hc) := ⟨rfl, rfl, rfl, rfl, rfl, fun i k _ _ => State.setNow_obj s hc i k⟩
  exact leavesBut_ite (leavesBut_refl _ s) (leavesBut_ite hset (hset.set 0 _ (by decide) (by decide)))

theorem leavesBut_epochSet (s : State) : LeavesBut [O.EPOCH_GEN, O.TB_STATUS] s (epochSet s) :=
  (((leavesBut_refl _ s).set 0 _ (by decide) (by decide)).set 0 _ (by decide) (by decide)).set 0 _ (by decide) (by decide)

theorem leavesBut_clipLd (s : State) (l : Nat) : LeavesBut [O.CXL_STATUS] s (clipLd s l) :=
  leavesBut_ite (leavesBut_setObj s 0 _ (by decide) (by decide)) (leavesBut_refl _ s)

theorem leavesBut_sweepEnd (s : State) : LeavesBut [O.HK_SWEEP_TM, O.HK_SWEEP_COUNT] s (sweepEnd s) :=
  (((leavesBut_refl _ s).set 0 _ (by decide) (by decide)).set _ _ (by decide) (by decide)).set 0 _ (by decide) (by decide)

/-- Stated for any record, so that no check evaluates the converter's. -/
theorem leavesBut_withHk (ks : List Nat) (s : State) (x : Hk) : LeavesBut ks s { s with hk := x } :=
  ⟨rfl, rfl, rfl, rfl, rfl, fun _ _ _ _ => rfl⟩

theorem leavesBut_restartTable (s : State) : LeavesBut [O.HK_SWEEP_TM, O.HK_SWEEP_COUNT] s (restartTable s) := by
  unfold restartTable
  refine leavesBut_ite (leavesBut_withHk _ s _) ?_
  exact (leavesBut_ite (leavesBut_sweepEnd s) (leavesBut_refl _ s)).trans (leavesBut_withHk _ _ _)

/-! ### Shadows that become active -/

theorem obj_takeShadow (s : State) (h : Shadow) (i k : Nat) (hk : k < 2 ^ 24) :
    (takeShadow s h).obj i k = if objKey i k = h.key then h.value else s.obj i k := by
  by_cases he : objKey i k = h.key
  · have hd : h.key % 2 ^ 24 = k := by
      rw [← he, objKey]
      omega
    rw [if_pos he, State.obj, takeShadow, he, hd]
    exact (kvGet_kvSet _ _ _ _ _).trans (if_pos rfl)
  · simp only [if_neg he, State.obj, takeShadow]
    rw [kvGet_kvSet_ne _ _ _ _ _ he]

theorem objKey_div_mod (key : Nat) : objKey (key / 2 ^ 24) (key % 2 ^ 24) = key := by
  unfold objKey
  omega

theorem leavesBut_takeShadow (s : State) (h : Shadow) : LeavesBut [h.key % 2 ^ 24] s (takeShadow s h) := by
  refine ⟨rfl, rfl, rfl, rfl, rfl, fun i k hk hn => ?_⟩
  rw [obj_takeShadow s h i k hk, if_neg]
  rintro he
  refine hn (List.mem_singleton.mpr ?_)
  rw [← he, objKey]
  omega

theorem leavesBut_takeShadows (s : State) (l : List Shadow) :
    LeavesBut (l.map fun h => h.key % 2 ^ 24) s (l.foldl takeShadow s) := by
  induction l generalizing s with
  | nil => exact leavesBut_refl _ s
  | cons h l ih =>
    exact ((leavesBut_takeShadow s h).mono (by simp)).trans ((ih (takeShadow s h)).mono fun x hx => List.mem_cons_of_mem _ hx)

/-- A key that no shadow of the list has keeps its value. -/
theorem obj_takeShadows_other (s : State) (l : List Shadow) (key : Nat) (hn : key ∉ l.map Shadow.key) :
    (l.foldl takeShadow s).obj (key / 2 ^ 24) (key % 2 ^ 24) = s.obj (key / 2 ^ 24) (key % 2 ^ 24) := by
  induction l generalizing s with
  | nil => rfl
  | cons x l ih =>
    simp only [List.map_cons, List.mem_cons, not_or] at hn
    rw [List.foldl_cons, ih _ hn.2, obj_takeShadow _ _ _ _ (Nat.mod_lt _ (by decide)), objKey_div_mod, if_neg hn.1]

/-- Shadows of different objects each take force. -/
theorem obj_takeShadows (s : State) {l : List Shadow} (hnd : (l.map Shadow.key).Nodup) {h : Shadow} (hm : h ∈ l) :
    (l.foldl takeShadow s).obj (h.key / 2 ^ 24) (h.key % 2 ^ 24) = h.value := by
  induction l generalizing s with
  | nil => cases hm
  | cons x l ih =>
    obtain ⟨hx, hnd⟩ := List.nodup_cons.mp hnd
    obtain rfl | hm := List.mem_cons.mp hm
    · rw [List.foldl_cons, obj_takeShadows_other _ _ _ hx, obj_takeShadow _ _ _ _ (Nat.mod_lt _ (by decide)),
        objKey_div_mod, if_pos rfl]
    · exact ih _ hnd hm

/-! ### The stages of a hand-over -/

/-- The commits that fall due in core cycle `hc`. -/
def State.dueAt (s : State) (hc : Nat) : List Commit := s.commits.filter fun c => c.due == hc

/-- Whether a hand-over in core cycle `hc` brings a shadow into force. -/
def State.takes (s : State) (hc : Nat) (h : Shadow) : Bool :=
  ((s.dueAt hc).any fun c => c.owner == h.owner) && decide (h.written < hc) && !isLayerKey h.key

/-- The state in which the shadows of the commits due are in force, and these commits are gone. -/
def tookShadows (s : State) (hc : Nat) : State :=
  (s.shadows.filter (s.takes hc)).foldl takeShadow { s with
    shadows := s.shadows.filter fun h => !s.takes hc h, commits := s.commits.filter fun c => c.due != hc }

/-- The state in which the generation has risen in core cycle `hc`. -/
def generated (s : State) (hc : Nat) : State := (s.countWrap 0 O.DICT_GEN 32).putTm 0 O.DICT_GEN_TM hc

/-- The state in which the paths read the generation in force. -/
def shown (s : State) (ps : List Nat) : State := ps.foldl (fun s p => s.setObj p O.PATH_COMMIT_GEN (s.get O.DICT_GEN)) s

/-- What else a hand-over of these shadows does. -/
def handedOn (taken : List Shadow) (s : State) : State :=
  let s := if taken.any fun h => epochKeys.contains h.key then epochSet s else s
  let s := if taken.any fun h => normIdx (keyIdx h.key) == 0x2810 then (List.range 16).foldl clipLd s else s
  if taken.any fun h => keyIdx h.key == 0x2320 then restartTable s else s

theorem handOver_eq (s : State) (hc : Nat) : handOver s hc =
    handedOn ((s.runTo hc).shadows.filter ((s.runTo hc).takes hc)) (shown (generated (tookShadows (s.runTo hc) hc) hc)
      (((s.runTo hc).dueAt hc).flatMap Commit.paths)) := rfl

/-- The objects that a hand-over sets beside those of its shadows. -/
def handKeys : List Nat := [O.EPOCH_GEN, O.TB_STATUS, O.CXL_STATUS, O.HK_SWEEP_TM, O.HK_SWEEP_COUNT]

theorem leavesBut_handedOn (taken : List Shadow) (s : State) : LeavesBut handKeys s (handedOn taken s) := by
  have hepoch (s : State) : LeavesBut handKeys s (epochSet s) := (leavesBut_epochSet s).mono (by decide)
  have hclip (s : State) (l : Nat) : LeavesBut handKeys s (clipLd s l) := (leavesBut_clipLd s l).mono (by decide)
  have htable (s : State) : LeavesBut handKeys s (restartTable s) := (leavesBut_restartTable s).mono (by decide)
  unfold handedOn
  refine LeavesBut.trans ?_ (leavesBut_ite (htable _) (leavesBut_refl _ _))
  refine LeavesBut.trans ?_ (leavesBut_ite (leavesBut_foldl _ _ _ hclip) (leavesBut_refl _ _))
  exact leavesBut_ite (hepoch s) (leavesBut_refl _ _)

theorem leavesBut_shown (s : State) (ps : List Nat) : LeavesBut [O.PATH_COMMIT_GEN] s (shown s ps) :=
  leavesBut_foldl s ps _ fun t p => leavesBut_setObj t p _ (by decide) (by decide)

/-- Each of the paths shows the generation. -/
theorem shown_obj (s : State) (ps : List Nat) (p : Nat) (hp : p ∈ ps) :
    (shown s ps).obj p O.PATH_COMMIT_GEN = s.get O.DICT_GEN := by
  induction ps using List.reverseRecOn with
  | nil => cases hp
  | append_singleton ps q ih =>
    have hlast : shown s (ps ++ [q]) =
        (shown s ps).setObj q O.PATH_COMMIT_GEN ((shown s ps).get O.DICT_GEN) := List.foldl_concat _ _ _ _
    have hgen : (shown s ps).get O.DICT_GEN = s.get O.DICT_GEN :=
      (leavesBut_shown s ps).obj 0 O.DICT_GEN (by decide) (by decide)
    rw [hlast, State.obj_setObj _ _ _ _ _ _ (by decide) (by decide)]
    split
    · exact hgen
    · next hne =>
      obtain hp | hp := List.mem_append.mp hp
      · exact ih hp
      · exact absurd ⟨List.mem_singleton.mp hp, rfl⟩ hne

theorem leavesBut_generated (s : State) (hc : Nat) : LeavesBut [O.DICT_GEN, O.DICT_GEN_TM] s (generated s hc) :=
  (((leavesBut_refl _ s).set 0 _ (by decide) (by decide)).set 0 _ (by decide) (by decide)).set _ _ (by decide) (by decide)

theorem generated_obj (s : State) (hc : Nat) :
    ((generated s hc).obj 0 O.DICT_GEN).toNat = ((s.obj 0 O.DICT_GEN).toNat + 1) % 2 ^ 32 ∧
      (generated s hc).obj 0 O.DICT_GEN_TM = tmOf hc := by
  simp (disch := decide) only [generated, State.countWrap_eq, State.putTm_eq, State.obj_setObj]
  exact ⟨ofN_toNat _ (by omega), rfl⟩

/-- No object that a hand-over sets itself is held in a shadow. -/
theorem shadow_not_set {key : Nat} {r : ObjRow} (hrow : findRow (keyIdx key) (key % 256) = some r)
    (hsh : r.shadow = true) :
    key % 2 ^ 24 ∉ [O.DICT_GEN, O.DICT_GEN_TM, O.PATH_COMMIT_GEN] ++ handKeys ++ settleObjs := by
  have hrows : ∀ k ∈ [O.DICT_GEN, O.DICT_GEN_TM, O.PATH_COMMIT_GEN] ++ handKeys ++ settleObjs,
      ∀ r, findRow (k / 256) (k % 256) = some r → r.shadow = false := by
    decide
  intro hk
  have hmod : key % 2 ^ 24 % 256 = key % 256 := by omega
  rw [hrows _ hk r (by rw [hmod]; exact hrow)] at hsh
  cases hsh

/-- Everything that a hand-over and the end of its command change after the shadows are in force. -/
theorem leavesBut_afterShadows (taken : List Shadow) (ps : List Nat) (s : State) (hc : Nat) :
    LeavesBut ([O.DICT_GEN, O.DICT_GEN_TM, O.PATH_COMMIT_GEN] ++ handKeys ++ settleObjs) s
      (settle (handedOn taken (shown (generated s hc) ps))) :=
  ((((leavesBut_generated s hc).mono (by decide)).trans ((leavesBut_shown _ ps).mono (by decide))).trans
    ((leavesBut_handedOn taken _).mono (by decide))).trans ((leavesBut_settle _).mono (by decide))

/-- What follows the generation's rise leaves it and its instant. -/
theorem leavesBut_afterGenerated (taken : List Shadow) (ps : List Nat) (s : State) :
    LeavesBut (O.PATH_COMMIT_GEN :: handKeys ++ settleObjs) s (settle (handedOn taken (shown s ps))) :=
  (((leavesBut_shown s ps).mono (by decide)).trans ((leavesBut_handedOn taken _).mono (by decide))).trans
    ((leavesBut_settle _).mono (by decide))

/-- What follows the paths' reading the generation leaves them. -/
theorem leavesBut_afterShown (taken : List Shadow) (s : State) :
    LeavesBut (handKeys ++ settleObjs) s (settle (handedOn taken s)) :=
  ((leavesBut_handedOn taken s).mono (by decide)).trans ((leavesBut_settle _).mono (by decide))

end Sys2Proof.Machine
end

section
namespace Sys2Proof.Machine

variable {s : State} {hc : Nat}

theorem exec_dictHandover_due (h : (s.commits.map Commit.due).min? = some hc) :
    exec .dictHandover s = done (handOver s hc) := by
  rw [exec_dictHandover, execDictHandover, h]

theorem mem_dueAt {c : Commit} : c ∈ s.dueAt hc ↔ c ∈ s.commits ∧ c.due = hc := by
  rw [State.dueAt, List.mem_filter, beq_iff_eq]

theorem takes_iff {h : Shadow} : s.takes hc h = true ↔
    (∃ c ∈ s.commits, c.due = hc ∧ c.owner = h.owner) ∧ h.written < hc ∧ isLayerKey h.key = false := by
  simp [State.takes, mem_dueAt, and_assoc]

/-- The shadows that a hand-over of `s` brings into force. -/
def State.takenAt (s : State) (hc : Nat) : List Shadow := s.shadows.filter (s.takes hc)

theorem mem_takenAt {h : Shadow} : h ∈ s.takenAt hc ↔ h ∈ s.shadows ∧ s.takes hc h = true := List.mem_filter

theorem tookShadows_shadows (s : State) (hc : Nat) :
    (tookShadows s hc).shadows = s.shadows.filter fun h => !s.takes hc h := (leavesBut_takeShadows _ _).shadows

theorem tookShadows_commits (s : State) (hc : Nat) :
    (tookShadows s hc).commits = s.commits.filter fun c => decide (c.due ≠ hc) := by
  refine (leavesBut_takeShadows _ _).commits.trans (List.filter_congr fun c _ => ?_)
  rw [bne, decide_not]
  rfl

theorem tookShadows_mem (s : State) (hc : Nat) : (tookShadows s hc).mem = s.mem := (leavesBut_takeShadows _ _).mem

theorem tookShadows_ctxs (s : State) (hc : Nat) : (tookShadows s hc).ctxs = s.ctxs := (leavesBut_takeShadows _ _).ctxs

theorem tookShadows_obj (hnd : (s.shadows.map Shadow.key).Nodup) {h : Shadow} (hm : h ∈ s.takenAt hc) :
    (tookShadows s hc).obj (h.key / 2 ^ 24) (h.key % 2 ^ 24) = h.value :=
  obj_takeShadows _ (hnd.sublist (List.filter_sublist.map _)) hm

theorem tookShadows_obj_other {k : Nat} (hk : k < 2 ^ 24) (hn : ∀ h ∈ s.shadows, h.key % 2 ^ 24 ≠ k) (i : Nat) :
    (tookShadows s hc).obj i k = s.obj i k := by
  refine (leavesBut_takeShadows _ _).obj i k hk fun hx => ?_
  obtain ⟨h, hm, rfl⟩ := List.mem_map.mp hx
  exact hn h (mem_takenAt.mp hm).1 rfl

/-- The hand-over of the state that device time has run on to, to the end of its command: `u` is that state. -/
theorem handedOver {u : State} (hnd : (u.shadows.map Shadow.key).Nodup)
    (hrows : ∀ h ∈ u.shadows, ∃ r, findRow (keyIdx h.key) (h.key % 256) = some r ∧ r.shadow = true)
    {t : State} (ht : t = settle (handedOn (u.takenAt hc) (shown (generated (tookShadows u hc) hc)
      ((u.dueAt hc).flatMap Commit.paths)))) :
    (∀ h ∈ u.takenAt hc, t.obj (h.key / 2 ^ 24) (h.key % 2 ^ 24) = h.value) ∧
    t.shadows = (u.shadows.filter fun h => !u.takes hc h) ∧
    t.num O.DICT_GEN = (u.num O.DICT_GEN + 1) % 2 ^ 32 ∧ t.get O.DICT_GEN_TM = tmOf hc ∧
    (∀ c ∈ u.dueAt hc, ∀ p ∈ c.paths, t.obj p O.PATH_COMMIT_GEN = t.get O.DICT_GEN) ∧
    t.commits = u.commits.filter (fun c => decide (c.due ≠ hc)) ∧ t.mem = u.mem ∧ t.ctxs = u.ctxs := by
  have hafter := leavesBut_afterShadows (u.takenAt hc) ((u.dueAt hc).flatMap Commit.paths) (tookShadows u hc) hc
  have hgen := leavesBut_afterGenerated (u.takenAt hc) ((u.dueAt hc).flatMap Commit.paths)
    (generated (tookShadows u hc) hc)
  have hshown := leavesBut_afterShown (u.takenAt hc) (shown (generated (tookShadows u hc) hc)
    ((u.dueAt hc).flatMap Commit.paths))
  rw [← ht] at hafter hgen hshown
  have hgenT : t.get O.DICT_GEN = (generated (tookShadows u hc) hc).get O.DICT_GEN :=
    hgen.obj 0 O.DICT_GEN (by decide) (by decide)
  have hgenU : (tookShadows u hc).obj 0 O.DICT_GEN = u.obj 0 O.DICT_GEN := by
    refine tookShadows_obj_other (by decide) (fun h hh he => ?_) 0
    obtain ⟨r, hrow, hsh⟩ := hrows h hh
    have hn := shadow_not_set hrow hsh
    rw [he] at hn
    exact hn (by decide)
  refine ⟨fun h hh => ?_, ?_, ?_, ?_, fun c hc' p hp => ?_, ?_, ?_, ?_⟩
  · obtain ⟨r, hrow, hsh⟩ := hrows h (mem_takenAt.mp hh).1
    rw [hafter.obj _ _ (Nat.mod_lt _ (by decide)) (shadow_not_set hrow hsh), tookShadows_obj hnd hh]
  · rw [hafter.shadows, tookShadows_shadows]
  · exact (congrArg BitVec.toNat hgenT).trans ((generated_obj _ hc).1.trans (by rw [hgenU]; rfl))
  · exact (hgen.obj 0 O.DICT_GEN_TM (by decide) (by decide)).trans (generated_obj _ hc).2
  · rw [hgenT, hshown.obj p O.PATH_COMMIT_GEN (by decide) (by decide),
      shown_obj _ _ p (List.mem_flatMap.mpr ⟨c, hc', hp⟩)]
  · rw [hafter.commits, tookShadows_commits]
  · rw [hafter.mem, tookShadows_mem]
  · rw [hafter.ctxs, tookShadows_ctxs]

/-- Settles O15: device time runs on to the core cycle, which leaves shadows and commits, and `handedOver` says what the
stages of the hand-over then leave. -/
theorem handOvers : Obligations.HandOvers := by
  unfold Obligations.HandOvers
  intro s hc hmin hnd hrows
  have hrun := leavesBut_runTo s hc
  have htakes : (s.runTo hc).takes hc = s.takes hc := by
    funext h
    rw [State.takes, State.takes, State.dueAt, State.dueAt, hrun.commits]
  refine answers_done ((exec_dictHandover_due hmin).trans (congrArg done (handOver_eq s hc))) ?_
  generalize ht : settle _ = t
  obtain ⟨hvalue, hshadows, hgen, htm, hpaths, hcommits, hmem, hctxs⟩ :=
    handedOver (u := s.runTo hc) (by rw [hrun.shadows]; exact hnd) (by rw [hrun.shadows]; exact hrows) ht.symm
  rw [hrun.shadows, htakes] at hshadows
  refine ⟨fun h hh hdue hw hl => ⟨hvalue h ?_, ?_⟩, fun h hh hno => ?_, ?_, htm, fun c hc' hdue => hpaths c ?_, ?_,
    hmem.trans hrun.mem, hctxs.trans hrun.ctxs⟩
  · rw [mem_takenAt, hrun.shadows, htakes]
    exact ⟨hh, takes_iff.mpr ⟨hdue, hw, hl⟩⟩
  · rw [hshadows, List.mem_filter, takes_iff.mpr ⟨hdue, hw, hl⟩]
    exact fun hx => Bool.noConfusion hx.2
  · have hnot : ¬ s.takes hc h = true := by
      rw [takes_iff]
      rintro ⟨⟨c, hc', hdue, ho⟩, hw, hl⟩
      obtain hno | hno | hno := hno
      · exact hno c hc' hdue ho
      · omega
      · rw [hl] at hno; cases hno
    rw [hshadows, List.mem_filter, Bool.eq_false_iff.mpr hnot]
    exact ⟨hh, rfl⟩
  · exact hgen.trans (by rw [State.num, hrun.obj 0 O.DICT_GEN (by decide) (by decide)]; rfl)
  · rw [mem_dueAt, hrun.commits]
    exact ⟨hc', hdue⟩
  · exact hcommits.trans (by rw [hrun.commits])

end Sys2Proof.Machine
end

section
/-! ## Emergencies and tarnish bits (R472, R534 to R536) -/

namespace Sys2Proof.Machine

variable {s t : State} {b die input detail code : Nat}

theorem mem_drop_concat {α : Type} (l : List α) (x : α) {n : Nat} (hn : n ≤ l.length) : x ∈ (l ++ [x]).drop n := by
  rw [List.drop_append_of_le_length hn]
  exact List.mem_append_right _ (List.mem_singleton_self x)

/-- The newest emergency waits (R472). -/
theorem emcy_queued (s : State) (code b0 b1 detail : Nat) :
    ({ code, b0, b1, detail } : Emcy) ∈ (emcy s code b0 b1 detail).can.queue := by
  refine mem_drop_concat _ _ ?_
  rw [List.length_append]
  exact Nat.sub_le_of_le_add (by simp)

/-- The newest record of the fault log is the one just made (R536). -/
theorem logFault_logged (s : State) (b die input code detail : Nat) :
    ∃ e ∈ (logFault s b die input code detail).faults.log,
      e.bit = b ∧ e.fault = faultBits.contains b ∧ e.die = die ∧ e.input = input ∧ e.emcy = code := by
  unfold logFault
  dsimp only
  refine ⟨_, mem_drop_concat _ _ ?_, rfl, rfl, rfl, rfl, rfl⟩
  rw [List.length_append]
  exact Nat.sub_le_of_le_add (by simp)

theorem obj_withFaults (s : State) (x : Faults) (i k : Nat) : ({ s with faults := x } : State).obj i k = s.obj i k := rfl

theorem obj_logFault (s : State) (b die input code detail i k : Nat) :
    (logFault s b die input code detail).obj i k = s.obj i k := obj_withFaults _ _ _ _

theorem OnlyObjs.logFault {ks : List Nat} (h : ∀ x : Faults, OnlyObjs ks { s with faults := x } { t with faults := x })
    (b die input code detail : Nat) :
    OnlyObjs ks { s with faults := (logFault t b die input code detail).faults } (logFault t b die input code detail) :=
  h _

/-- The state of a tarnish bit that sets before its record in the log (R534, R536). -/
def tarnishOpened (s : State) (b : Nat) : State :=
  let u : State := { s.flag 0 O.TARNISH b with faults := { s.faults with setIn := kvPut s.faults.setIn b s.cycle } }
  if faultBits.contains b then
    { u with faults := { u.faults with openEvents := u.faults.openEvents ++ [(b, s.cycle)] } } else u

theorem tarnishEntry_eq (s : State) (b die input detail code : Nat) :
    tarnishEntry s b die input detail code =
      if code = 0 ∧ b ≠ 16 then
        logFault (tarnishOpened s b).free.2 b die input 0 (tarnishOpened s b).free.1.toNat
      else logFault (tarnishOpened s b) b die input code detail := rfl

theorem tarnishOpened_frame (s : State) (b : Nat) (x : Faults) :
    OnlyObjs [objKey 0 O.TARNISH] { s with faults := x } { tarnishOpened s b with faults := x } := by
  have hset : OnlyObjs [objKey 0 O.TARNISH] { s with faults := x } { s.flag 0 O.TARNISH b with faults := x } :=
    (onlyObjs_refl ({ s with faults := x } : State) _).put (j := 0) (k := O.TARNISH) (by simp) _
  unfold tarnishOpened
  dsimp only
  split_ifs
  · exact hset
  · exact hset

theorem tarnishOpened_tarnish (s : State) (b : Nat) :
    (tarnishOpened s b).obj 0 O.TARNISH = setBit (s.obj 0 O.TARNISH) b := by
  have hset : (s.flag 0 O.TARNISH b).obj 0 O.TARNISH = setBit (s.obj 0 O.TARNISH) b := State.obj_setObj_self _ _ _ _
  unfold tarnishOpened
  dsimp only
  split_ifs
  · rw [obj_withFaults, obj_withFaults, hset]
  · rw [obj_withFaults, hset]

/-- A tarnish bit's entry changes the bit, the fault supervisor's record and the free values drawn. -/
theorem tarnishEntry_frame (s : State) (b die input detail code : Nat) :
    OnlyObjs [objKey 0 O.TARNISH] { s with faults := (tarnishEntry s b die input detail code).faults }
      (tarnishEntry s b die input detail code) := by
  rw [tarnishEntry_eq]
  split_ifs
  · exact OnlyObjs.logFault (t := (tarnishOpened s b).free.2) (fun x => tarnishOpened_frame s b x) b die input 0 _
  · exact OnlyObjs.logFault (fun x => tarnishOpened_frame s b x) b die input code _

theorem tarnishEntry_tarnish (s : State) (b die input detail code : Nat) :
    (tarnishEntry s b die input detail code).obj 0 O.TARNISH = setBit (s.obj 0 O.TARNISH) b := by
  rw [tarnishEntry_eq]
  split_ifs
  · rw [obj_logFault]
    exact tarnishOpened_tarnish s b
  · rw [obj_logFault]
    exact tarnishOpened_tarnish s b

/-- What the entry of a tarnish bit logs. -/
theorem tarnishEntry_logged (s : State) (b die input detail code : Nat) :
    ∃ e ∈ (tarnishEntry s b die input detail code).faults.log,
      e.bit = b ∧ e.fault = faultBits.contains b ∧ e.die = die ∧ e.input = input ∧ e.emcy = code := by
  rw [tarnishEntry_eq]
  split_ifs with h
  · rw [h.1]
    exact logFault_logged _ _ _ _ _ _
  · exact logFault_logged _ _ _ _ _ _

/-- The state of a tarnish bit that sets before its device event. -/
def tarnishNoted (s : State) (b die input detail code : Nat) : State :=
  if code = 0 then tarnishEntry s b die input detail code
  else emcy (tarnishEntry s b die input detail code) code die input (detail % 65536)

theorem tarnish_eq (s : State) (b die input detail code : Nat) :
    tarnish s b die input detail code = pulse (tarnishNoted s b die input detail code) 7 0 0 := rfl

theorem tarnishNoted_faults (s : State) (b die input detail code : Nat) :
    (tarnishNoted s b die input detail code).faults = (tarnishEntry s b die input detail code).faults := by
  unfold tarnishNoted
  split <;> rfl

theorem tarnishNoted_obj (s : State) (b die input detail code i k : Nat) :
    (tarnishNoted s b die input detail code).obj i k = (tarnishEntry s b die input detail code).obj i k := by
  unfold tarnishNoted
  split
  · rfl
  · exact obj_withCan _ _ _ _

theorem OnlyObjs.canBoth {ks : List Nat} (h : OnlyObjs ks s t) (x : Can) :
    OnlyObjs ks { s with can := x } { t with can := x } :=
  ⟨congrArg (fun b : State => { b with can := x.bare }) h.1, h.2⟩

theorem OnlyObjs.canOf {ks : List Nat} (h : OnlyObjs ks s t) {x : Can} (hx : s.can.bare = x.bare) :
    OnlyObjs ks { s with can := x } t := OnlyObjs.withCan hx h

theorem tarnishNoted_frame (s : State) (b die input detail code : Nat) :
    OnlyObjs [objKey 0 O.TARNISH] { s with
        faults := (tarnishNoted s b die input detail code).faults, can := (tarnishNoted s b die input detail code).can }
      (tarnishNoted s b die input detail code) := by
  have h := tarnishEntry_frame s b die input detail code
  have hcan : (tarnishEntry s b die input detail code).can.bare = s.can.bare := congrArg State.can h.1
  rw [tarnishNoted_faults]
  unfold tarnishNoted
  split
  · exact OnlyObjs.canOf h hcan.symm
  · exact OnlyObjs.canBoth h _

theorem pulse_canBare (s : State) (x y z : Nat) : (pulse s x y z).can.bare = s.can.bare :=
  congrArg State.can (pulse_body s x y z)

/-- A tarnish bit that sets changes its bit, the fault supervisor's record and the field-bus port (R534 to R536). -/
theorem tarnish_frame (s : State) (b die input detail code : Nat) :
    OnlyObjs [objKey 0 O.TARNISH] { s with
        faults := (tarnish s b die input detail code).faults, can := (tarnish s b die input detail code).can }
      (tarnish s b die input detail code) := by
  rw [tarnish_eq, pulse_faults]
  exact ((tarnishNoted_frame s b die input detail code).pulsed 7 0 0).canOf (pulse_canBare (tarnishNoted s b die input detail code) 7 0 0).symm

/-- Emergencies that wait do so until they are sent: a pulse and the end of a command keep them. -/
theorem queue_of_bare {x y : Can} (h : x.bare = y.bare) : x.queue = y.queue := (congrArg Can.queue h :)

theorem settle_queue (s : State) : (settle s).can.queue = s.can.queue := queue_of_bare (settle_canBare s).symm

theorem pulse_queue (s : State) (x y z : Nat) : (pulse s x y z).can.queue = s.can.queue :=
  queue_of_bare (pulse_canBare s x y z)

theorem tarnish_logged (s : State) (b die input detail code : Nat) :
    ∃ e ∈ (tarnish s b die input detail code).faults.log,
      e.bit = b ∧ e.fault = faultBits.contains b ∧ e.die = die ∧ e.input = input ∧ e.emcy = code := by
  rw [tarnish_eq, pulse_faults, tarnishNoted_faults]
  exact tarnishEntry_logged s b die input detail code

theorem tarnish_queued (s : State) (b die input detail : Nat) (h : code ≠ 0) :
    ({ code, b0 := die, b1 := input, detail := detail % 65536 } : Emcy) ∈
      (tarnish s b die input detail code).can.queue := by
  rw [tarnish_eq, pulse_queue, tarnishNoted, if_neg h]
  exact emcy_queued _ _ _ _ _

theorem tarnish_tarnish (s : State) (b die input detail code : Nat) :
    (tarnish s b die input detail code).obj 0 O.TARNISH = setBit (s.obj 0 O.TARNISH) b := by
  rw [tarnish_eq, obj_pulse_of _ _ _ _ _ _ (by decide) (by decide), tarnishNoted_obj, tarnishEntry_tarnish]

/-- Another object after a tarnish bit has set. -/
theorem obj_tarnish_of (s : State) (b die input detail code i k : Nat) (hk : k < 2 ^ 24) (hn : k ∉ settleObjs)
    (hne : k ≠ O.TARNISH) : (tarnish s b die input detail code).obj i k = s.obj i k := by
  refine (tarnish_frame s b die input detail code).2 i k (fun hx => hne ?_) (objKey_settle i k hk hn)
  have he := List.mem_singleton.mp hx
  simp only [objKey, O.TARNISH] at he ⊢
  omega

/-- The bit that has set, at the end of the command. -/
theorem settle_tarnish_bit (s : State) (b die input detail code : Nat) (hb : b < 64) :
    bit ((settle (tarnish s b die input detail code)).get O.TARNISH) b = true := by
  rw [State.get_eq, obj_settle_of _ _ _ (by decide) (by decide), tarnish_tarnish, bit_setBit _ _ _ hb]
  simp

@[simp] theorem tarnish_mem (s : State) (b die input detail code : Nat) :
    (tarnish s b die input detail code).mem = s.mem := (congrArg State.mem (tarnish_frame s b die input detail code).1 :)

@[simp] theorem tarnish_inputs (s : State) (b die input detail code : Nat) :
    (tarnish s b die input detail code).inputs = s.inputs :=
  (congrArg State.inputs (tarnish_frame s b die input detail code).1 :)

@[simp] theorem tarnish_dies (s : State) (b die input detail code : Nat) :
    (tarnish s b die input detail code).dies = s.dies :=
  (congrArg State.dies (tarnish_frame s b die input detail code).1 :)

@[simp] theorem tarnish_ctxs (s : State) (b die input detail code : Nat) :
    (tarnish s b die input detail code).ctxs = s.ctxs :=
  (congrArg State.ctxs (tarnish_frame s b die input detail code).1 :)

end Sys2Proof.Machine
end

section
/-! ## Front ends and overloads (R61 to R66, R64, R535, R604) -/

namespace Sys2Proof.Machine

variable {s : State} {p n sub : Nat} {v : Slot}

theorem inObj_fe (_hs : 1 ≤ sub) : inObj (O.FE_RANGE_n - 1 + sub) n = 0x300000 + n * 0x10000 + sub := by
  simp only [inObj, O.FE_RANGE_n]
  omega

theorem exec_feSetting (hn : n < 8) (h1 : 1 ≤ sub) (h3 : sub ≤ 3) : exec (.feSettingWrite p n sub v) s =
    done (access s p (0x300000 + n * 0x10000 + sub) fun s => feWrite s p n sub v) := by
  rw [exec_feSettingWrite]
  unfold execFeSettingWrite
  rw [if_pos ⟨hn, h1, h3⟩, inObj_fe h1]

theorem missing_feSetting (hn : n < s.D) (h8 : n < 8) (h3 : sub ≤ 3) :
    s.missing ((0x300000 + n * 0x10000 + sub) / 256) ((0x300000 + n * 0x10000 + sub) % 256) = none :=
  missing_input s n _ _ hn (by rw [digitOf, if_pos (by omega)]; omega) (by omega) (by omega)

/-- No input object is one that the end of a command writes. -/
theorem input_settleObjs {k : Nat} (h : 0x300000 ≤ k) (h' : k < 0x400000) : k ∉ settleObjs := by
  simp only [settleObjs, O.STEWARD_ACTIVE, O.STEWARD_TM, O.DEVICE_STATE_TM, O.DEVICE_STATE_WRAP, O.CXL_STATUS, O.FB_FLAGS,
    List.mem_cons, List.not_mem_nil, or_false]
  omega

theorem input_setInput_self (h : n < s.inputs.length) (x : Input) : (s.setInput n x).input n = x := by
  simp [State.input_setInput _ _ _ _ h]

theorem input_setInput_other {m : Nat} (hm : m ≠ n) (h : n < s.inputs.length) (x : Input) :
    (s.setInput n x).input m = s.input m := by
  simp [State.input_setInput _ _ _ _ h, hm]

theorem input_settle (n : Nat) : (settle s).input n = s.input n := by
  unfold State.input
  rw [settle_inputs]

theorem die_settle (d : Nat) : (settle s).die d = s.die d := by
  unfold State.die
  rw [settle_dies]

theorem OnlyObjs.setInput {ks : List Nat} {t : State} (h : OnlyObjs ks s t) (n : Nat) (x : Input) :
    OnlyObjs ks { s with inputs := (t.setInput n x).inputs } (t.setInput n x) :=
  ⟨congrArg (fun b : State => { b with inputs := (t.setInput n x).inputs }) h.1, h.2⟩

theorem OnlyObjs.settledInput {ks : List Nat} {t : State} (h : OnlyObjs ks s t) (n : Nat) (x : Input) :
    OnlyObjs ks { s with inputs := (settle (t.setInput n x)).inputs } (settle (t.setInput n x)) := by
  rw [settle_inputs]
  exact (h.setInput n x).settled

/-- The state after a setting that passes its checks (R63). -/
def feStored (s : State) (n sub : Nat) (v : Slot) : State :=
  (s.put (0x300000 + n * 0x10000 + sub) v).setInput n { s.input n with settling := some (s.now + 2000000) }

theorem feWrite_stored (h1 : 1 ≤ sub) (ho : ownerOf p = s.claimant n) (hv : feRangeOk sub v = true)
    (hb : s.busyInput n = false) (ha : (s.input n).st ≠ .absorbed) (hr : (s.input n).st ≠ .regrouping) :
    feWrite s p n sub v = .ok (feStored s n sub v) := by
  have hopen : (!(s.busyInput n) && (s.input n).st != .absorbed && (s.input n).st != .regrouping) = true := by
    simp [hb, ha, hr]
  rw [feWrite, claimantOnly_pos ho, need_pos s hv, feSetting, need_pos s hopen, inObj_fe h1]
  rfl

theorem feWrite_refused (ho : ownerOf p = s.claimant n) (hv : feRangeOk sub v = true)
    (hb : s.busyInput n = true ∨ (s.input n).st = .absorbed ∨ (s.input n).st = .regrouping) :
    feWrite s p n sub v = (s, some .presentState) := by
  have hshut : (!(s.busyInput n) && (s.input n).st != .absorbed && (s.input n).st != .regrouping) = false := by
    rcases hb with hb | hb | hb <;> simp [hb]
  rw [feWrite, claimantOnly_pos ho, need_pos s hv, feSetting]
  exact need_neg hshut _ _

theorem feSetting_stored (h : Served s p) (hn : n < s.D) (hl : n < s.inputs.length) (h1 : 1 ≤ sub) (h3 : sub ≤ 3)
    (ho : ownerOf p = s.claimant n) (hv : feRangeOk sub v = true) (hb : s.busyInput n = false)
    (ha : (s.input n).st ≠ .absorbed) (hr : (s.input n).st ≠ .regrouping) :
    Answers (.feSettingWrite p n sub v) s fun t =>
      t.get (0x300000 + n * 0x10000 + sub) = v ∧ (t.input n).settling = some (s.now + 2000000) ∧
      (∀ m, m ≠ n → t.input m = s.input m) ∧
      OnlyObjs [objKey 0 (0x300000 + n * 0x10000 + sub)] { s with inputs := t.inputs } t := by
  have h8 : n < 8 := fitted_lt hn
  refine answers_access (exec_feSetting h8 h1 h3) h (missing_feSetting hn h8 h3)
    (feWrite_stored (s := s.turned) h1 ho hv hb ha hr) ⟨?_, ?_, ?_, ?_⟩
  · rw [State.get_eq, obj_settle_of _ _ _ (by omega) (input_settleObjs (by omega) (by omega))]
    exact State.obj_setObj_self _ _ _ _
  · rw [input_settle]
    exact congrArg Input.settling (input_setInput_self hl _)
  · intro m hm
    rw [input_settle]
    exact input_setInput_other hm hl _
  · exact ((onlyObjs_turned _).put (j := 0) (k := 0x300000 + n * 0x10000 + sub) (by simp) v).settledInput n _

theorem feSetting_refused (h : Served s p) (hn : n < s.D) (h1 : 1 ≤ sub) (h3 : sub ≤ 3) (ho : ownerOf p = s.claimant n)
    (hv : feRangeOk sub v = true)
    (hb : s.busyInput n = true ∨ (s.input n).st = .absorbed ∨ (s.input n).st = .regrouping) :
    Answers (.feSettingWrite p n sub v) s fun t =>
      Rejected s t p (0x300000 + n * 0x10000 + sub) 2 .presentState :=
  rejected_access (exec_feSetting (fitted_lt hn) h1 h3) h (missing_feSetting hn (fitted_lt hn) h3)
    (feWrite_refused (s := s.turned) ho hv hb)

theorem feSetting_foreign (h : Served s p) (hn : n < s.D) (h1 : 1 ≤ sub) (h3 : sub ≤ 3) (ho : ownerOf p ≠ s.claimant n) :
    Answers (.feSettingWrite p n sub v) s fun t =>
      Rejected s t p (0x300000 + n * 0x10000 + sub) 2 .noPermission :=
  rejected_access (exec_feSetting (fitted_lt hn) h1 h3) h (missing_feSetting hn (fitted_lt hn) h3)
    (claimantOnly_neg (s := s.turned) ho _)

theorem feSetting_range (h : Served s p) (hn : n < s.D) (h1 : 1 ≤ sub) (h3 : sub ≤ 3) (ho : ownerOf p = s.claimant n)
    (hv : feRangeOk sub v = false) :
    Answers (.feSettingWrite p n sub v) s fun t => Rejected s t p (0x300000 + n * 0x10000 + sub) 2 .range := by
  refine rejected_access (exec_feSetting (fitted_lt hn) h1 h3) h (missing_feSetting hn (fitted_lt hn) h3) ?_
  rw [feWrite, claimantOnly_pos (s := s.turned) ho]
  exact need_neg hv _ _

/-- The objects of an input that the variant lacks (R3). -/
theorem missing_unfitted (hn : s.D ≤ n) (h8 : n < 8) (h3 : sub ≤ 3) :
    s.missing ((0x300000 + n * 0x10000 + sub) / 256) ((0x300000 + n * 0x10000 + sub) % 256) = some .noObject := by
  have hi : (0x300000 + n * 0x10000 + sub) / 256 = 0x3000 + n * 0x100 := by omega
  have hd : digitOf (0x3000 + n * 0x100) = n := by rw [digitOf, if_pos (by omega)]; omega
  rw [hi]
  unfold State.missing
  rw [if_pos ⟨by omega, by omega, hd.symm ▸ hn⟩]

theorem feSetting_unfitted (h : Served s p) (h1 : 1 ≤ sub) (h3 : sub ≤ 3) (hn : s.D ≤ n) (h8 : n < 8) :
    Answers (.feSettingWrite p n sub v) s fun t => Rejected s t p (0x300000 + n * 0x10000 + sub) 2 .noObject :=
  rejected_missing (exec_feSetting h8 h1 h3) h (missing_unfitted hn h8 h3)

theorem feSettled_answers (hn : n < s.D) (hl : n < s.inputs.length) (hs : (s.input n).settling.isSome = true) :
    Answers (.feSettled n) s fun t =>
      (t.input n).settling = none ∧ (t.input n).rangeNow = s.num (0x300001 + n * 0x10000) ∧
      (t.input n).stepNow = offsetStep (s.get (0x300002 + n * 0x10000)).toInt ∧
      (t.input n).filterNow = s.num (0x300003 + n * 0x10000) ∧
      (∀ m, m ≠ n → t.input m = s.input m) ∧ OnlyObjs [] { s with inputs := t.inputs } t := by
  have hgo : s.fitted n = true ∧ (s.input n).settling.isSome = true := ⟨by simpa [State.fitted] using hn, hs⟩
  refine answers_done ((exec_feSettled s n).trans (congrArg done (if_pos hgo))) ?_
  rw [input_settle, input_setInput_self hl]
  refine ⟨rfl, rfl, rfl, rfl, fun m hm => ?_, (onlyObjs_refl s _).settledInput n _⟩
  rw [input_settle, input_setInput_other hm hl]

/-- Settles O17: a setting is checked in the order of R420 and settles later. -/
theorem frontEnds : Obligations.FrontEnds := by
  refine ⟨fun s p n sub v h hn hl h1 h3 ho hv => ⟨feSetting_stored h hn hl h1 h3 ho hv, feSetting_refused h hn h1 h3 ho hv⟩,
    fun s p n sub v h h1 h3 => ⟨fun hn ho => feSetting_foreign h hn h1 h3 ho,
      fun hn ho hv => feSetting_range h hn h1 h3 ho hv, fun hn h8 => feSetting_unfitted h h1 h3 hn h8⟩,
    fun s n hn hl hs => feSettled_answers hn hl hs⟩

/-! ### Overloads -/

/-- What a tarnish bit that sets does to the end of its command. -/
theorem tarnish_settled (s : State) (b die input detail code : Nat) (hb : b < 64) :
    let t := settle (tarnish s b die input detail code)
    bit (t.get O.TARNISH) b = true ∧
    (∃ e ∈ t.faults.log, e.bit = b ∧ e.fault = faultBits.contains b ∧ e.die = die ∧ e.input = input ∧ e.emcy = code) ∧
    t.mem = s.mem ∧ t.inputs = s.inputs ∧ t.ctxs = s.ctxs := by
  refine ⟨settle_tarnish_bit s b die input detail code hb, ?_, ?_, ?_, ?_⟩
  · rw [settle_faults]
    exact tarnish_logged s b die input detail code
  · rw [settle_mem, tarnish_mem]
  · rw [settle_inputs, tarnish_inputs]
  · rw [settle_ctxs, tarnish_ctxs]

theorem inputOverload_answers (hn : n < s.D) (hd : s.dev = .watch ∨ s.dev = .ready ∨ s.dev = .armed) :
    Answers (.inputOverload n) s fun t =>
      bit (t.get (0x300101 + n * 0x10000)) 1 = true ∧ bit (t.get O.TARNISH) 26 = true ∧
      (∃ e ∈ t.faults.log, e.bit = 26 ∧ e.input = n ∧ e.fault = false ∧ e.emcy = 0xFF52) ∧
      (∃ e ∈ t.can.queue, e.code = 0xFF52 ∧ e.b1 = n) ∧ t.mem = s.mem ∧ t.inputs = s.inputs ∧ t.ctxs = s.ctxs := by
  have h8 : n < 8 := fitted_lt hn
  have hgo : s.fitted n = true ∧ (s.dev = .watch ∨ s.dev = .ready ∨ s.dev = .armed) :=
    ⟨by simpa [State.fitted] using hn, hd⟩
  refine answers_done ((exec_inputOverload s n).trans (congrArg done (if_pos hgo))) ?_
  obtain ⟨hbit, ⟨e, he, hb, hf, -, hi, hc⟩, hmem, hin, hctx⟩ :=
    tarnish_settled (s.flag 0 (inObj O.FE_STATUS_n n) 1) 26 0xFF n 0 0xFF52 (by decide)
  refine ⟨?_, hbit, ⟨e, he, hb, hi, hf, hc⟩,
    ⟨{ code := 0xFF52, b0 := 0xFF, b1 := n, detail := 0 % 65536 }, ?_, rfl, rfl⟩, hmem, hin, hctx⟩
  · rw [State.get_eq, obj_settle_of _ _ _ (by omega) (input_settleObjs (by omega) (by omega)),
      obj_tarnish_of _ _ _ _ _ _ _ _ (by omega)
        (input_settleObjs (by omega) (by omega)) (by unfold O.TARNISH; omega)]
    have hk : inObj O.FE_STATUS_n n = 0x300101 + n * 0x10000 := rfl
    rw [hk, State.flag_eq, State.obj_setObj_self, bit_setBit _ _ _ (by decide)]
    simp
  · rw [settle_queue]
    exact tarnish_queued (s.flag 0 (inObj O.FE_STATUS_n n) 1) 26 0xFF n 0 (by decide)

theorem absmax_awake {src unit : Nat} (ha : s.awake = true)
    (hu : src = 2 ∨ (src < 2 ∧ unit < s.D) ∨ (src = 0 ∧ (unit = 8 ∨ unit = 9))) :
    Answers (.absmaxExceeded src unit) s fun t =>
      bit (t.get O.TARNISH) 29 = true ∧
      (∃ e ∈ t.faults.log, e.bit = 29 ∧ e.fault = true ∧ e.die = (if src = 0 ∧ unit < s.D then unit else 0xFF) ∧
        e.input = (if src = 1 then unit else 0xFF)) ∧
      t.mem = s.mem ∧ t.inputs = s.inputs ∧ t.ctxs = s.ctxs := by
  refine answers_done ((exec_absmaxExceeded s src unit).trans (congrArg done (if_pos ⟨ha, hu⟩))) ?_
  obtain ⟨hbit, ⟨e, he, hb, hf, hd, hi, -⟩, hrest⟩ := tarnish_settled s 29 (if src = 0 ∧ unit < s.D then unit else 0xFF)
    (if src = 1 then unit else 0xFF) 0 0 (by decide)
  exact ⟨hbit, ⟨e, he, hb, hf, hd, hi⟩, hrest⟩

theorem absmax_mains {unit : Nat} (ha : s.awake = false) (hs : s.starting = true ∨ s.dev = .deep) :
    Answers (.absmaxExceeded 2 unit) s fun t =>
      bit (t.get O.TARNISH) 29 = true ∧ (∃ e ∈ t.faults.log, e.bit = 29 ∧ e.fault = true) ∧ t.mem = s.mem := by
  have hno : ¬ (s.awake = true ∧ ((2 : Nat) = 2 ∨ ((2 : Nat) < 2 ∧ unit < s.D) ∨ ((2 : Nat) = 0 ∧ (unit = 8 ∨ unit = 9)))) := by
    simp [ha]
  refine answers_done ((exec_absmaxExceeded s 2 unit).trans (congrArg done ((if_neg hno).trans (if_pos ⟨rfl, hs⟩)))) ⟨?_, ?_, ?_⟩
  · rw [State.get_eq, obj_settle_of _ _ _ (by decide) (by decide), tarnishEntry_tarnish, bit_setBit _ _ _ (by decide)]
    simp
  · obtain ⟨e, he, hb, hf, -⟩ := tarnishEntry_logged s 29 0xFF 0xFF 0 0
    rw [settle_faults]
    exact ⟨e, he, hb, hf⟩
  · rw [settle_mem]
    exact (congrArg State.mem (tarnishEntry_frame s 29 0xFF 0xFF 0 0).1 :)

/-- Settles O18: each sets its bit with its log entry; the mains one also where no event router runs. -/
theorem overloads : Obligations.Overloads :=
  ⟨fun _ _ hn hd => inputOverload_answers hn hd, fun _ _ _ ha hu => absmax_awake ha hu,
    fun _ _ ha hs => absmax_mains ha hs⟩

end Sys2Proof.Machine
end

section
/-! ## Alloy commits (R79, R493) -/

namespace Sys2Proof.Machine

/-- What `f` reads in the state that a command answers. -/
def valueAfter {α : Type} (f : State → α) (d : α) (i : Instr) (s : State) : α :=
  match exec i s with
  | .next t => f t
  | _ => d

theorem valueAfter_of_next {α : Type} {f : State → α} {d : α} {i : Instr} {s t : State} (h : exec i s = .next t) :
    valueAfter f d i s = f t := by
  rw [valueAfter, h]

/-- An Armed context while an entry to Watch waits for the alloy commit of input 0. -/
def entryAwaitsCommit : State :=
  { smallReset with
    inputs := smallReset.inputs.set 0 { smallReset.input 0 with st := .changing, next := some ([0], false) }
    ctxs := [(0, { st := .armed, owner := 16 })]
    power := { smallReset.power with entry := some (1, 0) } }

/-- The stream that starts lets the entry go on, and the context is Suspended. -/
theorem streamStart_suspends : valueAfter State.ctxs [] (.alloyStreamStart 0) entryAwaitsCommit ≠ entryAwaitsCommit.ctxs := by
  decide

/-- Refutes O19: ALLOY_STREAM_START ends the last move of an alloy, so that an entry to Watch or Deep that waited for it
begins (R493) and suspends the Armed contexts, where the last clause has every context unchanged. -/
theorem not_alloyCommits : ¬ Obligations.AlloyCommits := by
  unfold Obligations.AlloyCommits
  intro h
  obtain ⟨t, ht, -, -, -, -, -, -, hctxs⟩ := h.2 entryAwaitsCommit 0 [0] false (by decide) rfl rfl
  exact streamStart_suspends ((valueAfter_of_next ht).trans hctxs)

end Sys2Proof.Machine
end

section
/-! ## Retests and stored skew sets (R122, R126) -/

namespace Sys2Proof.Machine

variable {s : State} {p d sl : Nat} {v : Slot}

theorem missing_sliceRetest (s : State) : s.missing (O.SLICE_RETEST / 256) (O.SLICE_RETEST % 256) = none := rfl

theorem missing_skewsetClear (s : State) : s.missing (O.SKEWSET_CLEAR / 256) (O.SKEWSET_CLEAR % 256) = none := rfl

theorem sliceAddr_toNat (hd : d < 8) (hs : sl ≤ 67) : (ofN (d * 256 + sl)).toNat = d * 256 + sl :=
  ofN_toNat _ (by omega)

theorem sliceRetest_ok (ho : ownerOf p = s.steward) (hd : d < s.D) (h8 : d < 8) (hs : sl ≤ 67)
    (hf : (kvGet (s.die d).failed sl).isSome = true) (hst : (s.die d).st = .active ∨ (s.die d).st = .reserve)
    (hm : (s.die d).measuring = false) (hr : s.cal.retest = none) :
    sliceRetest s p (ofN (d * 256 + sl)) =
      .ok (({ s with cal := { s.cal with retest := some (d, sl) } } : State).put O.RETEST_RESULT 1) := by
  have hv := sliceAddr_toNat h8 hs
  have hdie : fld (ofN (d * 256 + sl)) 8 3 = d := by rw [fld, hv]; omega
  have hsl : fld (ofN (d * 256 + sl)) 0 7 = sl := by rw [fld, hv]; omega
  have hfit : (ObjTy.u16.fits (ofN (d * 256 + sl)) && decide (d < s.D ∧ sl ≤ 67)) = true := by
    simp only [ObjTy.fits, hv, hd, hs, and_self, decide_true, Bool.and_true, decide_eq_true_eq]
    omega
  have hopen : ((kvGet (s.die d).failed sl).isSome && ((s.die d).st == .active || (s.die d).st == .reserve) &&
      !(s.die d).measuring && s.cal.retest.isNone) = true := by
    rcases hst with h | h <;> simp [hf, h, hm, hr]
  unfold sliceRetest
  simp only [hdie, hsl]
  rw [stewardOnly_pos ho, need_pos s hfit, need_pos s hopen]

theorem sliceRetest_answers (h : Served s p) (ho : ownerOf p = s.steward) (hd : d < s.D) (hs : sl ≤ 67)
    (hf : (kvGet (s.die d).failed sl).isSome = true) (hst : (s.die d).st = .active ∨ (s.die d).st = .reserve)
    (hm : (s.die d).measuring = false) (hr : s.cal.retest = none) :
    Answers (.sliceRetest p (ofN (d * 256 + sl))) s fun t =>
      t.cal.retest = some (d, sl) ∧ t.get O.RETEST_RESULT = 1 ∧
      OnlyObjs [objKey 0 O.RETEST_RESULT] { s with cal := t.cal } t := by
  refine answers_access (exec_sliceRetest s p _) h (missing_sliceRetest s)
    (sliceRetest_ok (s := s.turned) ho hd (fitted_lt hd) hs hf hst hm hr) ⟨?_, ?_, ?_⟩
  · rw [settle_cal]
    rfl
  · rw [State.get_eq, obj_settle_of _ _ _ (by decide) (by decide)]
    exact State.obj_setObj_self _ _ _ _
  · rw [settle_cal]
    exact ((onlyObjs_turned (s := ({ s with cal := { s.cal with retest := some (d, sl) } } : State)) _).put
      (j := 0) (k := O.RETEST_RESULT) (by simp) _).settled

/-- The slice that passed its retest is failed no more (R122). -/
def Die.mended (x : Die) (sl : Nat) : Die := { x with failed := kvDel x.failed sl }

theorem mem_spares_mended {x : Die} (hs : sl ≤ 67) (hp : sl ∉ x.positions) (hl : x.lineup ≠ .none) :
    sl ∈ (x.mended sl).spares := by
  have hgood : sl ∈ (x.mended sl).good := by
    refine List.mem_filter.mpr ⟨List.mem_range.mpr (by omega), ?_⟩
    simp [Die.mended, kvGet_kvDel]
  unfold Die.spares
  rw [if_neg (show (x.mended sl).lineup ≠ .none from hl)]
  exact List.mem_filter.mpr ⟨hgood, by simpa [Die.mended] using hp⟩

theorem stageChanged_dies (s : State) (d old : Nat) : (stageChanged s d old).dies = s.dies := by
  unfold stageChanged
  split
  · rfl
  · exact tarnish_dies _ _ _ _ _ _

theorem stageChanged_cal (s : State) (d old : Nat) : (stageChanged s d old).cal = s.cal := by
  unfold stageChanged
  split
  · rfl
  · exact (congrArg State.cal (tarnish_frame s 1 d (s.inputByte d) (s.die d).stage 0xFF11).1 :)

theorem obj_stageChanged (s : State) (d old i k : Nat) (hk : k < 2 ^ 24) (hn : k ∉ settleObjs) (hne : k ≠ O.TARNISH) :
    (stageChanged s d old).obj i k = s.obj i k := by
  unfold stageChanged
  split
  · rfl
  · exact obj_tarnish_of _ _ _ _ _ _ _ _ hk hn hne

theorem die_congr {s t : State} (h : t.dies = s.dies) (d : Nat) : t.die d = s.die d := by rw [State.die, State.die, h]

theorem exec_sliceRetestDone_pass {ws : List AuditWindow} (hr : s.cal.retest = some (d, sl)) (hw : ws.length = 3)
    (hall : ∀ a ∈ ws, shadowCause a = none) :
    exec (.sliceRetestDone ws) s = done (stageChanged
      ((({ s with cal := { s.cal with retest := none } } : State).setDie d ((s.die d).mended sl)).put O.RETEST_RESULT 2)
      d (s.die d).stage) := by
  have hgo : ws.length = 3 ∧ (ws.all fun a => (shadowCause a).isNone) = true := by
    refine ⟨hw, List.all_eq_true.mpr fun a ha => ?_⟩
    rw [hall a ha]
    rfl
  rw [exec_sliceRetestDone]
  unfold execSliceRetestDone
  rw [hr]
  simp only []
  rw [if_pos hgo]
  rfl

theorem sliceRetestDone_pass {ws : List AuditWindow} (hr : s.cal.retest = some (d, sl)) (hd : d < s.dies.length)
    (hw : ws.length = 3) (hall : ∀ a ∈ ws, shadowCause a = none) : Answers (.sliceRetestDone ws) s fun t =>
      t.cal.retest = none ∧ kvGet (t.die d).failed sl = none ∧ t.get O.RETEST_RESULT = 2 ∧
      (sl ≤ 67 → sl ∉ (s.die d).positions → (s.die d).lineup ≠ .none → sl ∈ (t.die d).spares) := by
  refine answers_done (exec_sliceRetestDone_pass hr hw hall) ?_
  have hdie : ∀ u : State, u.dies = (s.setDie d ((s.die d).mended sl)).dies → u.die d = (s.die d).mended sl := by
    intro u hu
    rw [die_congr hu, State.die_setDie _ _ _ _ hd, if_pos rfl]
  rw [hdie (settle _) (by rw [settle_dies, stageChanged_dies]; rfl), settle_cal, stageChanged_cal]
  refine ⟨rfl, ?_, ?_, fun hs hp hl => mem_spares_mended hs hp hl⟩
  · simp [Die.mended, kvGet_kvDel]
  · rw [State.get_eq, obj_settle_of _ _ _ (by decide) (by decide),
      obj_stageChanged _ _ _ _ _ (by decide) (by decide) (by decide)]
    exact State.obj_setObj_self _ _ _ _

theorem exec_sliceRetestDone_fail {ws : List AuditWindow} (hr : s.cal.retest = some (d, sl))
    (hw : ws.length ≠ 3 ∨ ∃ a ∈ ws, (shadowCause a).isSome = true) :
    exec (.sliceRetestDone ws) s =
      done (({ s with cal := { s.cal with retest := none } } : State).put O.RETEST_RESULT 3) := by
  have hno : ¬ (ws.length = 3 ∧ (ws.all fun a => (shadowCause a).isNone) = true) := by
    rintro ⟨h3, hall⟩
    rcases hw with h | ⟨a, ha, hs⟩
    · exact h h3
    · have := List.all_eq_true.mp hall a ha
      simp_all
  rw [exec_sliceRetestDone]
  unfold execSliceRetestDone
  rw [hr]
  simp only []
  rw [if_neg hno]

theorem sliceRetestDone_fail {ws : List AuditWindow} (hr : s.cal.retest = some (d, sl))
    (hw : ws.length ≠ 3 ∨ ∃ a ∈ ws, (shadowCause a).isSome = true) : Answers (.sliceRetestDone ws) s fun t =>
      t.cal.retest = none ∧ t.dies = s.dies ∧ t.get O.RETEST_RESULT = 3 ∧
      OnlyObjs [objKey 0 O.RETEST_RESULT] { s with cal := t.cal } t := by
  refine answers_done (exec_sliceRetestDone_fail hr hw) ?_
  rw [settle_cal, settle_dies]
  refine ⟨rfl, rfl, ?_, ?_⟩
  · rw [State.get_eq, obj_settle_of _ _ _ (by decide) (by decide)]
    exact State.obj_setObj_self _ _ _ _
  · exact ((onlyObjs_refl ({ s with cal := { s.cal with retest := none } } : State) _).put
      (j := 0) (k := O.RETEST_RESULT) (by simp) _).settled

theorem skewsetClear_answers (h : Served s p) (ho : ownerOf p = s.steward) : Answers (.skewsetClear p 1) s fun t =>
    t.skewSets = s.skewSets.filter (fun q => s.inputs.any fun x => x.members == q.1) ∧
    OnlyObjs [] { s with skewSets := t.skewSets } t := by
  have hf : skewsetClear s.turned p 1 = .ok { s.turned with
      skewSets := s.skewSets.filter fun q => s.inputs.any fun x => x.members == q.1 } := by
    unfold skewsetClear
    rw [stewardOnly_pos (s := s.turned) ho, need_pos s.turned (by decide), if_pos rfl]
  refine answers_access (exec_skewsetClear s p 1) h (missing_skewsetClear s) hf ?_
  rw [settle_skewSets]
  exact ⟨rfl, (onlyObjs_turned (s := ({ s with
    skewSets := s.skewSets.filter fun q => s.inputs.any fun x => x.members == q.1 } : State)) _).settled⟩

/-- Settles O25: three good windows mend the slice, and the sets of no alloy in force are dropped. -/
theorem retests : Obligations.Retests :=
  ⟨fun _ _ _ _ h ho hd hs hf hst hm hr => sliceRetest_answers h ho hd hs hf hst hm hr,
    fun _ _ _ _ hr hd => ⟨fun hw hall => sliceRetestDone_pass hr hd hw hall, fun hw => sliceRetestDone_fail hr hw⟩,
    fun _ _ h ho => skewsetClear_answers h ho⟩

end Sys2Proof.Machine
end

section
/-! ## Device time (R34), as the other parts of the state see it -/

namespace Sys2Proof.Machine

variable (s : State) (t : Nat)

/-- Device time that runs changes the counter and TB_STATUS (R34, R35). -/
theorem runTo_eq : s.runTo t = { s with
    counter := (s.runTo t).counter, wraps := (s.runTo t).wraps, objs := (s.runTo t).objs } := by
  by_cases h1 : t ≤ s.now
  · rw [State.runTo, if_pos h1]
  · by_cases h2 : t / 2 ^ 55 = s.now / 2 ^ 55
    · rw [runTo_within s h1 h2]
      rfl
    · rw [runTo_wrapped s h1 h2]
      rfl

@[simp] theorem runTo_variant : (s.runTo t).variant = s.variant := by rw [runTo_eq]
@[simp] theorem runTo_mem : (s.runTo t).mem = s.mem := by rw [runTo_eq]
@[simp] theorem runTo_dies : (s.runTo t).dies = s.dies := by rw [runTo_eq]
@[simp] theorem runTo_inputs : (s.runTo t).inputs = s.inputs := by rw [runTo_eq]
@[simp] theorem runTo_ctxs : (s.runTo t).ctxs = s.ctxs := by rw [runTo_eq]
@[simp] theorem runTo_cal : (s.runTo t).cal = s.cal := by rw [runTo_eq]
@[simp] theorem runTo_skewSets : (s.runTo t).skewSets = s.skewSets := by rw [runTo_eq]
@[simp] theorem runTo_chans : (s.runTo t).chans = s.chans := by rw [runTo_eq]
@[simp] theorem runTo_faults : (s.runTo t).faults = s.faults := by rw [runTo_eq]
@[simp] theorem runTo_power : (s.runTo t).power = s.power := by rw [runTo_eq]
@[simp] theorem runTo_dev : (s.runTo t).dev = s.dev := by rw [runTo_eq]
@[simp] theorem runTo_allocs : (s.runTo t).allocs = s.allocs := by rw [runTo_eq]
@[simp] theorem runTo_trigOut : (s.runTo t).trigOut = s.trigOut := by rw [runTo_eq]
@[simp] theorem runTo_trigOutEnd : (s.runTo t).trigOutEnd = s.trigOutEnd := by rw [runTo_eq]
@[simp] theorem runTo_trigOutHigh : (s.runTo t).trigOutHigh = s.trigOutHigh := by rw [runTo_eq]
@[simp] theorem runTo_trigInEdges : (s.runTo t).trigInEdges = s.trigInEdges := by rw [runTo_eq]
@[simp] theorem runTo_sent : (s.runTo t).sent = s.sent := by rw [runTo_eq]
@[simp] theorem runTo_die (d : Nat) : (s.runTo t).die d = s.die d := by rw [runTo_eq]; rfl
@[simp] theorem runTo_input (n : Nat) : (s.runTo t).input n = s.input n := by rw [runTo_eq]; rfl
@[simp] theorem runTo_ctx (c : Nat) : (s.runTo t).ctx c = s.ctx c := by rw [runTo_eq]; rfl

/-- Device time that runs leaves every object but TB_STATUS. -/
theorem obj_runTo_ne (i k : Nat) (h : objKey i k ≠ objKey 0 O.TB_STATUS) : (s.runTo t).obj i k = s.obj i k := by
  by_cases h1 : t ≤ s.now
  · rw [State.runTo, if_pos h1]
  · by_cases h2 : t / 2 ^ 55 = s.now / 2 ^ 55
    · rw [runTo_within s h1 h2]
      rfl
    · rw [runTo_wrapped s h1 h2, State.flag_eq]
      exact State.obj_setObj_ne _ _ _ _ _ _ h

theorem obj_runTo (i k : Nat) (hk : k < 2 ^ 24) (h : k ≠ O.TB_STATUS) : (s.runTo t).obj i k = s.obj i k := by
  refine obj_runTo_ne s t i k fun he => h ?_
  simp only [objKey, O.TB_STATUS] at he ⊢
  omega

/-- The frame of device time that runs. -/
theorem runTo_frame : OnlyObjs [objKey 0 O.TB_STATUS] { s with
    counter := (s.runTo t).counter, wraps := (s.runTo t).wraps } (s.runTo t) := by
  refine ⟨?_, fun i k hk _ => obj_runTo_ne s t i k (List.ne_of_not_mem_cons hk)⟩
  conv_lhs => rw [runTo_eq]
  rfl

/-- The instant that device time runs to, within the range of counter and wraps (R34). -/
theorem now_runTo (h : t < 2 ^ 71) : (s.runTo t).now = max t s.now := by
  have hset : (s.setNow t).now = t := by
    unfold State.now State.setNow
    simp only [BitVec.toNat_ofNat]
    omega
  by_cases h1 : t ≤ s.now
  · rw [State.runTo, if_pos h1]
    omega
  · by_cases h2 : t / 2 ^ 55 = s.now / 2 ^ 55
    · rw [runTo_within s h1 h2, hset]
      omega
    · rw [runTo_wrapped s h1 h2]
      exact (show (s.setNow t).now = max t s.now by rw [hset]; omega)

end Sys2Proof.Machine
end

section
/-! ## Trims that take force (R107, R108, R118) -/

namespace Sys2Proof.Machine

variable {s : State} {p d : Nat} {v : Slot}

/-! ### One update for each of several dies -/

theorem setDie_self (s : State) (d : Nat) : s.setDie d (s.die d) = s := by
  have h : s.dies.set d (s.die d) = s.dies := by
    refine List.ext_getElem? fun i => ?_
    rw [List.getElem?_set]
    split
    · subst i
      split
      · simp [State.die, *]
      · simp [*]
    · rfl
  unfold State.setDie
  rw [h]

/-- Updates of several dies one after another, each by a function of that die alone. -/
theorem foldl_setDie (g : Nat → Die → Die) {f : State → Nat → State} {P : State → Prop}
    (hP : ∀ u d x, P u → P (u.setDie d x)) (hf : ∀ u d, P u → f u d = u.setDie d (g d (u.die d))) :
    ∀ (l : List Nat) (s : State), P s → l.Nodup →
      l.foldl f s = { s with dies := (l.foldl f s).dies } ∧ (l.foldl f s).dies.length = s.dies.length ∧
      (∀ d, d ∉ l → (l.foldl f s).die d = s.die d) ∧
      ∀ d ∈ l, d < s.dies.length → (l.foldl f s).die d = g d (s.die d) := by
  intro l
  induction l with
  | nil => exact fun s _ _ => ⟨rfl, rfl, fun _ _ => rfl, fun _ h => absurd h (List.not_mem_nil)⟩
  | cons a l ih =>
    intro s hs hnd
    obtain ⟨ha, hl⟩ := List.nodup_cons.mp hnd
    have hstep := hf s a hs
    have hlen : (s.setDie a (g a (s.die a))).dies.length = s.dies.length := List.length_set
    obtain ⟨heq, hlen', hout, hin⟩ := ih (s.setDie a (g a (s.die a))) (hP _ _ _ hs) hl
    rw [List.foldl_cons, hstep]
    refine ⟨heq.trans rfl, hlen'.trans hlen, fun d hd => ?_, fun d hd hdl => ?_⟩
    · rw [List.mem_cons, not_or] at hd
      rw [hout d hd.2]
      by_cases hal : a < s.dies.length
      · rw [State.die_setDie _ _ _ _ hal, if_neg hd.1]
      · simp only [State.die, State.setDie, List.set_eq_of_length_le (Nat.le_of_not_lt hal)]
    · rcases List.mem_cons.mp hd with rfl | hd
      · rw [hout _ ha, State.die_setDie _ _ _ _ hdl, if_pos rfl]
      · have hne : d ≠ a := fun h => ha (h ▸ hd)
        rw [hin d hd (hlen ▸ hdl)]
        by_cases hal : a < s.dies.length
        · rw [State.die_setDie _ _ _ _ hal, if_neg hne]
        · simp only [State.die, State.setDie, List.set_eq_of_length_le (Nat.le_of_not_lt hal)]

/-! ### The trims of a die -/

theorem Die.trim_withTrim (x : Die) (sl sl' : Nat) (t : Trim) :
    (x.withTrim sl t).trim sl' = if sl' = sl then t else x.trim sl' := kvGet_kvSet _ _ _ _ _

/-- Trims that take values one slice after another, each from its own trim and target. -/
theorem foldl_withTrim (h : Trim → Trim → Trim) (l : List (Nat × Trim)) : ∀ x : Die, (l.map Prod.fst).Nodup →
    let y := l.foldl (fun x p => x.withTrim p.1 (h (x.trim p.1) p.2)) x
    y = { x with trims := y.trims } ∧ (∀ q ∈ l, y.trim q.1 = h (x.trim q.1) q.2) ∧
      ∀ sl, (∀ q ∈ l, q.1 ≠ sl) → y.trim sl = x.trim sl := by
  induction l with
  | nil => exact fun x _ => ⟨rfl, fun _ h => absurd h (List.not_mem_nil), fun _ _ => rfl⟩
  | cons a l ih =>
    intro x hnd
    obtain ⟨ha, hl⟩ := List.nodup_cons.mp hnd
    obtain ⟨heq, hin, hout⟩ := ih (x.withTrim a.1 (h (x.trim a.1) a.2)) hl
    have hne : ∀ q ∈ l, q.1 ≠ a.1 := fun q hq he => ha (he ▸ List.mem_map_of_mem hq)
    refine ⟨heq.trans rfl, fun q hq => ?_, fun sl hsl => ?_⟩
    · rcases List.mem_cons.mp hq with rfl | hq
      · exact (hout q.1 hne).trans (by rw [Die.trim_withTrim, if_pos rfl])
      · exact (hin q hq).trans (by rw [Die.trim_withTrim, if_neg (hne q hq)])
    · refine (hout sl fun q hq => hsl q (List.mem_cons_of_mem _ hq)).trans ?_
      rw [Die.trim_withTrim, if_neg (Ne.symm (hsl a List.mem_cons_self))]

/-- A trim moved one step towards each pending target (R107). -/
def Die.stepped (x : Die) : Die := x.pending.foldl (fun x p => x.withTrim p.1 ((x.trim p.1).step p.2)) x

/-- The die-to-die skew after a ramp step. -/
def Die.bankStep (x : Die) : Nat :=
  match x.bankPending with
  | some t => stepTo x.bankSkew t
  | none => x.bankSkew

/-- A die after one ramp step whose sheet is that of core cycle `mark`. -/
def Die.ramped (mark : Nat) (x : Die) : Die :=
  { x.stepped with
    pending := x.stepped.pending.filter fun p => x.stepped.trim p.1 != p.2, bankSkew := x.bankStep
    calAt := if x.stepped.trims != x.trims || x.bankStep != x.bankSkew then some mark else x.calAt
    bankPending := if x.bankPending = some x.bankStep then none else x.bankPending }

theorem rampDie_eq (s : State) (d : Nat) : rampDie s d = s.setDie d ((s.die d).ramped (s.cal.rampFrom / 48 * 48)) := rfl

theorem ramped_trims {x : Die} (m : Nat) (hnd : (x.pending.map Prod.fst).Nodup) :
    (∀ q ∈ x.pending, (x.ramped m).trim q.1 = (x.trim q.1).step q.2 ∧
      (q ∈ (x.ramped m).pending ↔ (x.ramped m).trim q.1 ≠ q.2)) ∧
    ∀ sl, (∀ q ∈ x.pending, q.1 ≠ sl) → (x.ramped m).trim sl = x.trim sl := by
  obtain ⟨heq, hin, hout⟩ := foldl_withTrim Trim.step x.pending x hnd
  have hpend : x.stepped.pending = x.pending := (congrArg Die.pending heq :)
  refine ⟨fun q hq => ⟨hin q hq, ?_⟩, hout⟩
  show q ∈ x.stepped.pending.filter (fun p => x.stepped.trim p.1 != p.2) ↔ x.stepped.trim q.1 ≠ q.2
  rw [hpend]
  simp [hq]

theorem ramped_bank {x : Die} (m : Nat) {b : Nat} (hb : x.bankPending = some b) :
    (x.ramped m).bankSkew = stepTo x.bankSkew b ∧
    (x.ramped m).bankPending = if (x.ramped m).bankSkew = b then none else some b := by
  have hs : x.bankStep = stepTo x.bankSkew b := by rw [Die.bankStep, hb]
  refine ⟨hs, ?_⟩
  show (if x.bankPending = some x.bankStep then none else x.bankPending) = if x.bankStep = b then none else some b
  rw [hb]
  simp only [Option.some.injEq, eq_comm]

/-- Trims whose targets are in force at once. -/
theorem applied_trims {x : Die} (hnd : (x.pending.map Prod.fst).Nodup) :
    ∀ q ∈ x.pending, (x.pending.foldl (fun x p => x.withTrim p.1 p.2) x).trim q.1 = q.2 :=
  (foldl_withTrim (fun _ t => t) x.pending x hnd).2.1

/-! ### CAL_RAMP_STEP -/

/-- Trims of a pass come into force with DONE and CAL_APPLY_TM (R107, R108). -/
theorem trimsInForce_settled (s : State) (t : Nat) :
    let u := settle (trimsInForce s t)
    u.cal.st = .idle ∧ bit (u.get O.CAL_STATUS) 0 = true ∧ u.get O.CAL_APPLY_TM = tmOf t ∧ u.dies = s.dies ∧
      u.mem = s.mem ∧ u.ctxs = s.ctxs ∧ u.inputs = s.inputs ∧ u.counter = s.counter ∧ u.wraps = s.wraps := by
  unfold trimsInForce
  dsimp only
  refine ⟨?_, ?_, ?_, ?_, ?_, ?_, ?_, ?_, ?_⟩
  · rw [settle_cal, pulse_cal]
    rfl
  · rw [State.get_eq, obj_settle_of _ _ _ (by decide) (by decide), obj_pulse_of _ _ _ _ _ _ (by decide) (by decide),
      State.flag_eq, State.obj_setObj_self, bit_setBit _ _ _ (by decide)]
    simp
  · rw [State.get_eq, obj_settle_of _ _ _ (by decide) (by decide), obj_pulse_of _ _ _ _ _ _ (by decide) (by decide),
      State.flag_eq, State.obj_setObj_ne _ _ _ _ _ _ (by decide), State.putTm_eq,
      State.obj_setObj_ne _ _ _ _ _ _ (by decide), State.obj_setObj_self]
    rfl
  · rw [settle_dies, pulse_dies]
    rfl
  · rw [settle_mem, pulse_mem]
    rfl
  · rw [settle_ctxs, pulse_ctxs]
    rfl
  · rw [settle_inputs, pulse_inputs]
    rfl
  · rw [settle_counter, pulse_counter]
    rfl
  · rw [settle_wraps, pulse_wraps]
    rfl

/-- Device time and the pass at the ramp step of the instant `T`. -/
def rampAt (s : State) (T : Nat) : State :=
  { s.runTo T with cal := { s.cal with rampFrom := T, stepped := true } }

/-- Every die after the step. -/
def rampedAll (s : State) (T : Nat) : State := (List.range s.D).foldl rampDie (rampAt s T)

/-- Whether every target is reached. -/
def State.reached (s : State) : Bool :=
  (List.range s.D).all fun d => (s.die d).pending.isEmpty && (s.die d).bankPending.isNone

/-- What CAL_RAMP_STEP does at the instant `T`. -/
def rampStepAt (s : State) (T : Nat) : State :=
  if (rampedAll s T).reached then trimsInForce (rampedAll s T) ((rampedAll s T).cal.rampFrom / 48 * 48 + 48)
  else rampedAll s T

theorem rampAt_D (s : State) (T : Nat) : (rampAt s T).D = s.D := by
  unfold State.D rampAt
  rw [runTo_variant]

/-- The die and spare counts follow the variant alone. -/
theorem D_congr {s t : State} (h : t.variant = s.variant) : t.D = s.D := by rw [State.D, State.D, h]

theorem rampStep_body (s : State) (T : Nat) (x : Cal) (hx : x = { s.cal with rampFrom := T, stepped := true }) :
    (let s : State := { s.runTo T with cal := x }
     let s := (List.range s.D).foldl rampDie s
     if (List.range s.D).all fun d => (s.die d).pending.isEmpty && (s.die d).bankPending.isNone then
       trimsInForce s (s.cal.rampFrom / 48 * 48 + 48)
     else s) = rampStepAt s T := by
  subst hx
  unfold rampStepAt rampedAll State.reached
  rw [← rampAt_D s T]
  rfl

theorem exec_calRampStep_ramping (h : s.cal.st = .ramping) :
    exec .calRampStep s = done (rampStepAt s (s.cal.rampFrom + 80000)) := by
  rw [exec_calRampStep]
  unfold execCalRampStep
  rw [if_pos h]
  exact congrArg done (rampStep_body s _ _ (by rw [runTo_cal]))

theorem range_D_nodup (s : State) : (List.range s.D).Nodup := List.nodup_range

theorem reached_iff : s.reached = true ↔ ∀ d, d < s.D → (s.die d).pending = [] ∧ (s.die d).bankPending = none := by
  unfold State.reached
  simp [List.all_eq_true]

/-- Every die takes its step, and nothing else of the dies and the rest of the state changes. -/
theorem rampedAll_eq (hlen : s.dies.length = 8) (T : Nat) :
    rampedAll s T = { rampAt s T with dies := (rampedAll s T).dies } ∧
    ∀ d, d < s.D → (rampedAll s T).die d = (s.die d).ramped (T / 48 * 48) := by
  obtain ⟨heq, -, -, hin⟩ := foldl_setDie (fun _ x => x.ramped (T / 48 * 48)) (f := rampDie)
    (P := fun u => u.cal.rampFrom = T) (fun _ _ _ h => h)
    (fun u d h => by rw [rampDie_eq, h]) (List.range s.D) (rampAt s T) rfl (range_D_nodup s)
  have hdies : (rampAt s T).dies = s.dies := runTo_dies s _
  refine ⟨heq, fun d hd => ?_⟩
  have h8 : d < (rampAt s T).dies.length := by
    rw [hdies, hlen]
    exact fitted_lt hd
  refine (hin d (List.mem_range.mpr hd) h8).trans ?_
  rw [die_congr hdies]

theorem rampedAll_rest (hlen : s.dies.length = 8) (T : Nat) : (rampedAll s T).cal.st = s.cal.st ∧
    (rampedAll s T).cal.rampFrom = T ∧ (rampedAll s T).D = s.D ∧
    (rampedAll s T).mem = s.mem ∧ (rampedAll s T).ctxs = s.ctxs ∧ (rampedAll s T).inputs = s.inputs := by
  have heq := (rampedAll_eq hlen T).1
  refine ⟨?_, ?_, ?_, ?_, ?_, ?_⟩
  · exact (congrArg (fun u => u.cal.st) heq).trans rfl
  · exact (congrArg (fun u => u.cal.rampFrom) heq)
  · exact (congrArg State.D heq).trans (rampAt_D s T)
  · exact (congrArg State.mem heq).trans (runTo_mem s _)
  · exact (congrArg State.ctxs heq).trans (runTo_ctxs s _)
  · exact (congrArg State.inputs heq).trans (runTo_inputs s _)

/-- How the state after a ramp step stands to the dies after it. -/
theorem rampStepAt_settled (h : s.cal.st = .ramping) (hlen : s.dies.length = 8) (T : Nat) :
    let t := settle (rampStepAt s T)
    t.dies = (rampedAll s T).dies ∧
    (t.cal.st = .idle ↔ (rampedAll s T).reached = true) ∧
    (t.cal.st = .idle → bit (t.get O.CAL_STATUS) 0 = true ∧ t.get O.CAL_APPLY_TM = tmOf (T / 48 * 48 + 48)) ∧
    (t.cal.st ≠ .idle → t.cal.st = .ramping ∧ t.cal.rampFrom = T) ∧
    t.mem = s.mem ∧ t.ctxs = s.ctxs ∧ t.inputs = s.inputs := by
  obtain ⟨hst, hfrom, hD, hmem, hctx, hin⟩ := rampedAll_rest hlen T
  unfold rampStepAt
  split
  case isTrue hr =>
    obtain ⟨hidle, hbit, htm, hd, hm, hc, hi, -, -⟩ :=
      trimsInForce_settled (rampedAll s T) ((rampedAll s T).cal.rampFrom / 48 * 48 + 48)
    exact ⟨hd, ⟨fun _ => hr, fun _ => hidle⟩, fun _ => ⟨hbit, htm.trans (by rw [hfrom])⟩, fun hne => absurd hidle hne,
      hm.trans hmem, hc.trans hctx, hi.trans hin⟩
  case isFalse hr =>
    have hramp : (settle (rampedAll s T)).cal.st = .ramping := by rw [settle_cal, hst, h]
    have hno : (settle (rampedAll s T)).cal.st ≠ .idle := by
      rw [hramp]
      decide
    refine ⟨settle_dies _, ⟨fun hi => absurd hi hno, fun hi => absurd hi hr⟩, fun hi => absurd hi hno,
      fun _ => ⟨hramp, by rw [settle_cal, hfrom]⟩, ?_, ?_, ?_⟩
    · rw [settle_mem, hmem]
    · rw [settle_ctxs, hctx]
    · rw [settle_inputs, hin]

theorem calRampStep_answers (h : s.cal.st = .ramping) (hlen : s.dies.length = 8)
    (hnd : ∀ d, d < s.D → ((s.die d).pending.map Prod.fst).Nodup) :
    Answers .calRampStep s fun t =>
      (∀ d, d < s.D →
        (∀ q ∈ (s.die d).pending, (t.die d).trim q.1 = ((s.die d).trim q.1).step q.2 ∧
          (q ∈ (t.die d).pending ↔ (t.die d).trim q.1 ≠ q.2)) ∧
        (∀ sl, (∀ q ∈ (s.die d).pending, q.1 ≠ sl) → (t.die d).trim sl = (s.die d).trim sl) ∧
        (∀ b, (s.die d).bankPending = some b → (t.die d).bankSkew = stepTo (s.die d).bankSkew b ∧
          (t.die d).bankPending = if (t.die d).bankSkew = b then none else some b)) ∧
      (t.cal.st = .idle ↔ ∀ d, d < s.D → (t.die d).pending = [] ∧ (t.die d).bankPending = none) ∧
      (t.cal.st = .idle → bit (t.get O.CAL_STATUS) 0 = true ∧
        t.get O.CAL_APPLY_TM = tmOf ((s.cal.rampFrom + 80000) / 48 * 48 + 48)) ∧
      (t.cal.st ≠ .idle → t.cal.st = .ramping ∧ t.cal.rampFrom = s.cal.rampFrom + 80000) ∧
      t.mem = s.mem ∧ t.ctxs = s.ctxs ∧ t.inputs = s.inputs := by
  refine answers_done (exec_calRampStep_ramping h) ?_
  generalize s.cal.rampFrom + 80000 = T
  obtain ⟨hdies, hidle, hdone, hgo, hrest⟩ := rampStepAt_settled h hlen T
  have hdie (d : Nat) (hd : d < s.D) : (settle (rampStepAt s T)).die d = (s.die d).ramped (T / 48 * 48) :=
    (die_congr hdies d).trans ((rampedAll_eq hlen T).2 d hd)
  refine ⟨fun d hd => ?_, hidle.trans ?_, hdone, hgo, hrest⟩
  · rw [hdie d hd]
    obtain ⟨hin, hout⟩ := ramped_trims (T / 48 * 48) (hnd d hd)
    exact ⟨hin, hout, fun b hb => ramped_bank _ hb⟩
  · rw [reached_iff, (rampedAll_rest hlen T).2.2.1]
    simp only [die_congr hdies]

/-! ### CAL_TRIMS_APPLY -/

/-- A die whose pending trims take force at once (R108). -/
def Die.appliedNow (mark : Option Nat) (x : Die) : Die :=
  if x.pending.isEmpty ∧ x.bankPending.isNone then x
  else
    let y := x.pending.foldl (fun x p => x.withTrim p.1 p.2) x
    { y with pending := [], bankSkew := x.bankPending.getD x.bankSkew, bankPending := none
             calAt := if y.trims != x.trims || x.bankPending.any (· != x.bankSkew) then mark <|> x.calAt else x.calAt }

theorem applyTrims_eq (mark : Option Nat) (s : State) (d : Nat) :
    applyTrims mark s d = s.setDie d ((s.die d).appliedNow mark) := by
  unfold applyTrims Die.appliedNow
  dsimp only
  split
  · exact (setDie_self s d).symm
  · rfl

theorem appliedNow_trims (mark : Option Nat) (x : Die) : (x.appliedNow mark).pending = [] ∧
    (x.appliedNow mark).bankPending = none ∧ (x.appliedNow mark).bankSkew = x.bankPending.getD x.bankSkew ∧
    ((x.pending.map Prod.fst).Nodup → ∀ q ∈ x.pending, (x.appliedNow mark).trim q.1 = q.2) := by
  unfold Die.appliedNow
  split
  case isTrue hno =>
    have hp : x.pending = [] := List.isEmpty_iff.mp hno.1
    have hb : x.bankPending = none := Option.isNone_iff_eq_none.mp hno.2
    refine ⟨hp, hb, by rw [hb]; rfl, fun _ q hq => ?_⟩
    rw [hp] at hq
    exact absurd hq List.not_mem_nil
  case isFalse => exact ⟨rfl, rfl, rfl, fun hnd q hq => applied_trims hnd q hq⟩

/-- Device time at the boundary at which the waiting trims apply. -/
def applyAt (s : State) : State := s.runTo (s.cal.boundary.getD (s.cycle + 48))

/-- The dies that no lineup gap holds, after their trims. -/
def appliedAll (s : State) : State :=
  ((List.range s.D).filter fun d => !(s.die d).gap).foldl (applyTrims (some s.cycle)) s

theorem exec_calTrimsApply_due (h : s.cal.st = .pending)
    (hb : s.cal.boundary.isSome = true ∨ (s.num O.CAL_APPLY_MODE ≤ 1 ∧ s.trimsIdle = true)) :
    exec .calTrimsApply s = done (trimsInForce (appliedAll (applyAt s)) (appliedAll (applyAt s)).cycle) := by
  rw [exec_calTrimsApply]
  unfold execCalTrimsApply
  rw [if_pos ⟨h, hb⟩]
  have hcyc : ∀ (l : List Nat) (u : State) (m : Option Nat), (l.foldl (applyTrims m) u).cycle = u.cycle := by
    intro l
    induction l with
    | nil => exact fun _ _ => rfl
    | cons a l ih =>
      intro u m
      rw [List.foldl_cons, ih, applyTrims_eq]
      rfl
  unfold appliedAll
  rw [hcyc]
  rfl

theorem appliedAll_eq (s : State) : appliedAll s = { s with dies := (appliedAll s).dies } ∧
    ∀ d, d < s.D → d < s.dies.length → (s.die d).gap = false →
      (appliedAll s).die d = (s.die d).appliedNow (some s.cycle) := by
  obtain ⟨heq, -, -, hin⟩ := foldl_setDie (fun _ x => x.appliedNow (some s.cycle)) (f := applyTrims (some s.cycle))
    (P := fun _ => True) (fun _ _ _ h => h) (fun u d _ => applyTrims_eq _ u d)
    ((List.range s.D).filter fun d => !(s.die d).gap) s trivial ((range_D_nodup s).filter _)
  exact ⟨heq, fun d hd hl hg => hin d (List.mem_filter.mpr ⟨List.mem_range.mpr hd, by simp [hg]⟩) hl⟩

theorem calTrimsApply_answers (h : s.cal.st = .pending) (hlen : s.dies.length = 8)
    (hb : s.cal.boundary.isSome = true ∨ (s.num O.CAL_APPLY_MODE ≤ 1 ∧ s.trimsIdle = true)) :
    Answers .calTrimsApply s fun t =>
      t.cal.st = .idle ∧ bit (t.get O.CAL_STATUS) 0 = true ∧ t.get O.CAL_APPLY_TM = tmOf t.cycle ∧
      (∀ d, d < s.D → (s.die d).gap = false → (t.die d).pending = [] ∧ (t.die d).bankPending = none ∧
        (((s.die d).pending.map Prod.fst).Nodup → ∀ q ∈ (s.die d).pending, (t.die d).trim q.1 = q.2) ∧
        (t.die d).bankSkew = (s.die d).bankPending.getD (s.die d).bankSkew) ∧
      t.mem = s.mem ∧ t.ctxs = s.ctxs ∧ t.inputs = s.inputs := by
  refine answers_done (exec_calTrimsApply_due h hb) ?_
  obtain ⟨hidle, hbit, htm, hd, hm, hc, hi, hcnt, hwr⟩ :=
    trimsInForce_settled (appliedAll (applyAt s)) (appliedAll (applyAt s)).cycle
  obtain ⟨heq, hin⟩ := appliedAll_eq (applyAt s)
  have hcyc : ∀ u w : State, u.counter = w.counter → u.wraps = w.wraps → u.cycle = w.cycle := by
    intro u w h1 h2
    rw [State.cycle, State.cycle, State.now, State.now, h1, h2]
  have hdies : (applyAt s).dies = s.dies := runTo_dies s _
  have hD : (applyAt s).D = s.D := D_congr (runTo_variant s _)
  refine ⟨hidle, hbit, htm.trans (by rw [hcyc _ _ hcnt hwr]), fun d hds hg => ?_, ?_, ?_, ?_⟩
  · have hdie : (settle (trimsInForce (appliedAll (applyAt s)) (appliedAll (applyAt s)).cycle)).die d =
        (s.die d).appliedNow (some (applyAt s).cycle) := by
      rw [die_congr hd, hin d (hD ▸ hds) (by rw [hdies, hlen]; exact fitted_lt hds) (by rw [die_congr hdies]; exact hg),
        die_congr hdies]
    rw [hdie]
    obtain ⟨h1, h2, h3, h4⟩ := appliedNow_trims (some (applyAt s).cycle) (s.die d)
    exact ⟨h1, h2, h4, h3⟩
  · exact hm.trans ((congrArg State.mem heq).trans (runTo_mem s _))
  · exact hc.trans ((congrArg State.ctxs heq).trans (runTo_ctxs s _))
  · exact hi.trans ((congrArg State.inputs heq).trans (runTo_inputs s _))

/-! ### CAL_COMMIT -/

theorem missing_calCommit (s : State) : s.missing (O.CAL_COMMIT / 256) (O.CAL_COMMIT % 256) = none := rfl

/-- A die with a lineup change pending has a wear-out boundary (R118). -/
def wearMark (s : State) (d : Nat) : State :=
  if (s.die d).lineupPending then s.setDie d { s.die d with wearNow := true } else s

theorem wearMark_eq (s : State) (d : Nat) : wearMark s d =
    s.setDie d { s.die d with wearNow := (s.die d).lineupPending || (s.die d).wearNow } := by
  unfold wearMark
  cases h : (s.die d).lineupPending with
  | true => rfl
  | false =>
    rw [if_neg (by decide)]
    exact (setDie_self s d).symm

/-- The pass after an explicit commit. -/
def Cal.committed (c : Cal) (cyc : Nat) : Cal :=
  if c.st = .pending then { c with boundary := some (cyc + 48) } else c

/-- The state after an explicit commit (R108). -/
def calCommitted (s : State) : State :=
  (List.range s.D).foldl wearMark { s with cal := s.cal.committed s.cycle }

theorem calCommit_one (ho : ownerOf p = s.steward) : calCommit s p 1 = .ok (calCommitted s) := by
  unfold calCommit
  rw [stewardOnly_pos ho, need_pos s (by decide), if_pos rfl]
  unfold calCommitted Cal.committed
  split
  · rfl
  · rfl

theorem calCommit_other (ho : ownerOf p = s.steward) (hv : v.toNat < 256) (hne : v ≠ 1) : calCommit s p v = .ok s := by
  unfold calCommit
  rw [stewardOnly_pos ho, need_pos s (by simpa [ObjTy.fits] using hv), if_neg hne]

theorem calCommit_range (ho : ownerOf p = s.steward) (hv : 256 ≤ v.toNat) : calCommit s p v = (s, some .range) := by
  unfold calCommit
  rw [stewardOnly_pos ho]
  exact need_neg (by simp [ObjTy.fits]; omega) _ _

theorem calCommit_explicit (h : Served s p) (ho : ownerOf p = s.steward) (hlen : s.dies.length = 8) :
    Answers (.calCommit p 1) s fun t =>
      t.cal.boundary = (if s.cal.st = .pending then some (s.cycle + 48) else s.cal.boundary) ∧
      (∀ d, d < s.D → (t.die d).wearNow = ((s.die d).lineupPending || (s.die d).wearNow)) ∧
      OnlyObjs [] { s with cal := t.cal, dies := t.dies } t := by
  obtain ⟨heq, -, -, hin⟩ := foldl_setDie
    (fun _ x => { x with wearNow := x.lineupPending || x.wearNow }) (f := wearMark)
    (P := fun _ => True) (fun _ _ _ h => h) (fun u d _ => wearMark_eq u d)
    (List.range s.turned.D) { s.turned with cal := s.turned.cal.committed s.turned.cycle } trivial (range_D_nodup s)
  refine answers_access (exec_calCommit s p 1) h (missing_calCommit s) (calCommit_one (s := s.turned) ho) ⟨?_, fun d hd => ?_, ?_⟩
  · rw [settle_cal]
    refine (congrArg (fun u => u.cal.boundary) heq).trans ?_
    show (s.cal.committed s.cycle).boundary = _
    unfold Cal.committed
    split
    · rfl
    · rfl
  · rw [die_settle]
    refine (congrArg Die.wearNow (hin d (List.mem_range.mpr hd) ?_)).trans rfl
    exact hlen.symm ▸ fitted_lt hd
  · have hframe : OnlyObjs [] { s with cal := (calCommitted s.turned).cal, dies := (calCommitted s.turned).dies }
        (calCommitted s.turned) := by
      have hcal : (calCommitted s.turned).cal = s.cal.committed s.cycle := (congrArg State.cal heq :)
      rw [hcal]
      exact onlyObjs_congr _ (congrArg State.body heq :) (congrArg State.objs heq :) (congrArg State.variant heq :)
    rw [settle_cal, settle_dies]
    exact hframe.settled

/-- Settles O22: a ramp steps every pending trim of every die, and a boundary applies those that wait. -/
theorem calTrims : Obligations.CalTrims :=
  ⟨fun _ h hlen hnd => calRampStep_answers h hlen hnd, fun _ h hlen hb => calTrimsApply_answers h hlen hb,
    fun s p h ho hlen => ⟨calCommit_explicit h ho hlen,
      fun v hv hne => answers_access (exec_calCommit s p v) h (missing_calCommit s)
        (calCommit_other (s := s.turned) ho hv hne) (onlyObjs_turned _).settled,
      fun v hv => rejected_access (exec_calCommit s p v) h (missing_calCommit s) (calCommit_range (s := s.turned) ho hv)⟩,
    fun s p v h ho => rejected_access (exec_calCommit s p v) h (missing_calCommit s) (stewardOnly_neg (s := s.turned) ho _)⟩

end Sys2Proof.Machine
end

section
/-! ## What evaluators meet (R146, R156, R162) -/

namespace Sys2Proof.Machine

variable {s t : State} {c : Nat} {x : Ctx}

/-! ### Records of contexts -/

theorem ctx_settle (c : Nat) : (settle s).ctx c = s.ctx c := by
  rw [State.ctx, State.ctx, settle_ctxs]

theorem ctx_congr (h : t.ctxs = s.ctxs) (c : Nat) : t.ctx c = s.ctx c := by rw [State.ctx, State.ctx, h]

theorem ctxsBut_congr (h : t.ctxs = s.ctxs) (c : Nat) : CtxsBut c s t := fun d _ => ctx_congr h d

theorem ctxsBut_setCtx (s : State) (c : Nat) (x : Ctx) : CtxsBut c s (s.setCtx c x) := fun d hd => by
  rw [State.ctx_setCtx, if_neg hd]

theorem CtxsBut.trans {u : State} (h : CtxsBut c s t) (h' : CtxsBut c t u) : CtxsBut c s u :=
  fun d hd => (h' d hd).trans (h d hd)

theorem CtxsBut.settled (h : CtxsBut c s t) : CtxsBut c s (settle t) := fun d hd => (ctx_settle d).trans (h d hd)

theorem ctx_setCtx_self (s : State) (c : Nat) (x : Ctx) : (s.setCtx c x).ctx c = some x := by
  rw [State.ctx_setCtx, if_pos rfl]

theorem modCtx_some {f : Ctx → Ctx} (h : s.ctx c = some x) : s.modCtx c f = s.setCtx c (f x) := by
  rw [State.modCtx, h]

theorem OnlyObjs.setCtx {ks : List Nat} (h : OnlyObjs ks s t) (c : Nat) (x : Ctx) :
    OnlyObjs ks { s with ctxs := (t.setCtx c x).ctxs } (t.setCtx c x) :=
  ⟨congrArg (fun b : State => { b with ctxs := (t.setCtx c x).ctxs }) h.1, h.2⟩

/-- A command that replaces one context's record. -/
theorem answers_setCtx {i : Instr} {y : Ctx} (hi : exec i s = done (s.setCtx c y)) : Answers i s fun t =>
    t.ctx c = some y ∧ CtxsBut c s t ∧ OnlyObjs [] { s with ctxs := t.ctxs } t := by
  refine answers_done hi ⟨?_, (ctxsBut_setCtx s c y).settled, ?_⟩
  · rw [ctx_settle, ctx_setCtx_self]
  · rw [settle_ctxs]
    exact ((onlyObjs_refl s []).setCtx c y).settled

/-! ### Taps -/

theorem tapFetchDeadline_late (hx : s.ctx c = some x) (hb : x.bound = true) (he : x.evals ≠ [])
    (hf : s.fetchesTaps c x = true) : Answers (.tapFetchDeadline c) s fun t =>
      t.ctx c = some { x with late := true } ∧ CtxsBut c s t ∧ OnlyObjs [] { s with ctxs := t.ctxs } t := by
  refine answers_setCtx ((exec_tapFetchDeadline s c).trans ?_)
  unfold execTapFetchDeadline
  rw [hx]
  exact congrArg done (if_pos ⟨hb, he, hf⟩)

theorem tapFetchDeadline_local (hx : s.ctx c = some x)
    (hl : ∀ n ∈ s.located c, ∀ d ∈ (s.input n).members, d = s.firingDie c x) :
    Answers (.tapFetchDeadline c) s fun t => OnlyObjs [] s t := by
  refine answers_idle ((exec_tapFetchDeadline s c).trans ?_)
  unfold execTapFetchDeadline
  rw [hx]
  refine congrArg done (if_neg ?_)
  rintro ⟨-, -, hf⟩
  unfold State.fetchesTaps at hf
  obtain ⟨n, hn, hm⟩ := List.any_eq_true.mp hf
  obtain ⟨d, hd, hne⟩ := List.any_eq_true.mp hm
  exact absurd (hl n hn d hd) (by simpa using hne)

theorem tapValid_late (s : State) (n ed at_ : Nat) (h : s.tapDie n at_ ≠ ed) : s.tapValid ed true n at_ = none := by
  unfold State.tapValid
  rw [if_pos (by simpa using h)]

/-! ### The time holdoff -/

theorem holdoffExpiry_answers (hx : s.ctx c = some x) (hb : x.bound = true) (hm : s.cN c O.HOLDOFF_MODE = 0)
    (hlt : x.holdUntil < 480 * 2 ^ 70) : Answers (.holdoffExpiry c) s fun t =>
      t.ctx c = some x ∧ x.holdUntil ≤ t.now * 480 ∧ t.holdingOff c x = false ∧
      OnlyObjs [objKey 0 O.TB_STATUS] { s with counter := t.counter, wraps := t.wraps } t := by
  have hexec : exec (.holdoffExpiry c) s = done (s.runTo ((x.holdUntil + 479) / 480)) := by
    rw [exec_holdoffExpiry]
    unfold execHoldoffExpiry
    rw [hx]
    exact congrArg done (if_pos ⟨hb, hm⟩)
  refine answers_done hexec ?_
  have hnow : x.holdUntil ≤ (settle (s.runTo ((x.holdUntil + 479) / 480))).now * 480 := by
    have h1 := now_runTo s ((x.holdUntil + 479) / 480) (by omega)
    rw [State.now, settle_counter, settle_wraps, ← State.now, h1]
    omega
  have hmode : (settle (s.runTo ((x.holdUntil + 479) / 480))).cN c O.HOLDOFF_MODE = 0 := by
    rw [State.cN, obj_settle_of _ _ _ (by decide) (by decide), obj_runTo _ _ _ _ (by decide) (by decide)]
    exact hm
  refine ⟨?_, hnow, ?_, ?_⟩
  · rw [ctx_settle, runTo_ctx, hx]
  · unfold State.holdingOff
    rw [if_pos hmode]
    simpa using hnow
  · rw [settle_counter, settle_wraps]
    exact (runTo_frame s _).settled

/-! ### Paired evaluators -/

theorem satN32_lt (n : Nat) : satN 32 n < 2 ^ 64 := by
  unfold satN
  split <;> omega

theorem mismatchSeen_settled {x y : Ctx} (s : State) :
    let t := settle (mismatchSeen (s.setCtx c y) c x)
    t.ctx c = some y ∧
    (t.obj c O.TRIG_MISMATCHES).toNat = satN 32 ((s.obj c O.TRIG_MISMATCHES).toNat + 1) ∧
    bit (t.obj c O.TRIG_STATUS) 2 = true ∧ t.faults.pairTest.length = s.faults.pairTest.length + 1 ∧
    CtxsBut c s t ∧
    OnlyObjs [objKey c O.TRIG_MISMATCHES, objKey c O.TRIG_STATUS] { s with ctxs := t.ctxs, faults := t.faults } t := by
  refine ⟨?_, ?_, ?_, ?_, ?_, ?_⟩
  · rw [ctx_settle]
    exact ctx_setCtx_self s c y
  · rw [obj_settle_of _ _ _ (by decide) (by decide), mismatchSeen, obj_withFaults, State.flag_eq,
      State.obj_setObj _ _ _ _ _ _ (by decide) (by decide), if_neg (fun h => absurd h.2 (by decide)), State.countSat_eq, State.obj_setObj_self,
      ofN_toNat _ (satN32_lt _)]
    rfl
  · rw [obj_settle_of _ _ _ (by decide) (by decide), mismatchSeen, obj_withFaults, State.flag_eq, State.obj_setObj_self,
      bit_setBit _ _ _ (by decide)]
    simp
  · rw [settle_faults]
    exact List.length_append
  · exact CtxsBut.settled (t := mismatchSeen (s.setCtx c y) c x) (ctxsBut_setCtx s c y)
  · rw [settle_ctxs, settle_faults]
    refine OnlyObjs.settled ?_
    have h0 := onlyObjs_refl ({ s with ctxs := (s.setCtx c y).ctxs, faults := (mismatchSeen (s.setCtx c y) c x).faults } : State)
      [objKey c O.TRIG_MISMATCHES, objKey c O.TRIG_STATUS]
    exact (h0.put (j := c) (k := O.TRIG_MISMATCHES) (by simp) _).put (j := c) (k := O.TRIG_STATUS) (by simp) _

theorem exec_pairEvent_bound (hx : s.ctx c = some x) (hb : x.bound = true) (hp : x.partners ≠ []) (v : Option PairEvent) :
    exec (.pairEventCompare c v) s = done (match v with
      | none =>
        match x.toCompare with
        | [] => s
        | h :: r => mismatchSeen (s.setCtx c (markMismatch h.2.1 { x with toCompare := r })) c x
      | some p =>
        match x.toCompare.find? fun h => h.1 / 23040 == p.fire / 23040 with
        | none => mismatchSeen (s.setCtx c { x with mismatchNext := true }) c x
        | some h =>
          let y := { x with toCompare := x.toCompare.erase h }
          if pairMatches h (s.cN c O.TRIG_PAIR_TOL) p then s.setCtx c y
          else mismatchSeen (s.setCtx c (markMismatch h.2.1 y)) c x) := by
  rw [exec_pairEventCompare]
  unfold execPairEventCompare
  rw [hx]
  exact congrArg done (if_pos ⟨hb, hp⟩)

theorem pairEvent_homeAlone (hx : s.ctx c = some x) (hb : x.bound = true) (hp : x.partners ≠ []) {h : Nat × Nat × Bool}
    {r : List (Nat × Nat × Bool)} (hc : x.toCompare = h :: r) :
    exec (.pairEventCompare c none) s =
      done (mismatchSeen (s.setCtx c (markMismatch h.2.1 { x with toCompare := r })) c x) := by
  rw [exec_pairEvent_bound hx hb hp, hc]

theorem pairEvent_partnerAlone (hx : s.ctx c = some x) (hb : x.bound = true) (hp : x.partners ≠ []) {v : PairEvent}
    (hc : ∀ h ∈ x.toCompare, h.1 / 23040 ≠ v.fire / 23040) :
    exec (.pairEventCompare c (some v)) s = done (mismatchSeen (s.setCtx c { x with mismatchNext := true }) c x) := by
  have hno : (x.toCompare.find? fun h => h.1 / 23040 == v.fire / 23040) = none :=
    List.find?_eq_none.mpr fun h hh => by simpa using hc h hh
  rw [exec_pairEvent_bound hx hb hp]
  simp only [hno]

theorem pairEvent_both (hx : s.ctx c = some x) (hb : x.bound = true) (hp : x.partners ≠ []) {v : PairEvent}
    {h : Nat × Nat × Bool} {r : List (Nat × Nat × Bool)} (hc : x.toCompare = h :: r)
    (hv : h.1 / 23040 = v.fire / 23040) :
    exec (.pairEventCompare c (some v)) s = done
      (if pairMatches h (s.cN c O.TRIG_PAIR_TOL) v then s.setCtx c { x with toCompare := r }
        else mismatchSeen (s.setCtx c (markMismatch h.2.1 { x with toCompare := r })) c x) := by
  have hsome : (x.toCompare.find? fun h => h.1 / 23040 == v.fire / 23040) = some h := by
    rw [hc, List.find?_cons_of_pos (by simpa using hv)]
  have herase : x.toCompare.erase h = r := by rw [hc, List.erase_cons_head]
  rw [exec_pairEvent_bound hx hb hp]
  simp only [hsome, herase]

theorem markMismatch_marks (g : Nat) (x : Ctx) : ∀ h ∈ (markMismatch g x).pending, h.tm = g → h.mismatch = true := by
  intro h hh htm
  obtain ⟨q, -, rfl⟩ := List.mem_map.mp hh
  by_cases hq : q.tm = g
  · simp [hq]
  · simp [hq] at htm

/-- A segment that finds room is reserved, and takes a waiting mismatch (R162, R195). -/
theorem reserve_room {g : Segment} (hx : s.ctx c = some x) (hp : x.pending.length < 16)
    (hu : x.inUse < s.cN c O.SEG_TABLE_SIZE) : ∃ y, reserve s c g = s.setCtx c y ∧
      y = { x with pending := x.pending ++ [{ g with mismatch := x.mismatchNext }], mismatchNext := false
                   tableFull := y.tableFull } := by
  unfold reserve
  rw [hx]
  simp only []
  rw [if_neg (by omega), if_pos hu]
  exact ⟨_, rfl, rfl⟩

/-- Settles O28: what each of the evaluator's events does to its context. -/
theorem evaluatorEvents : Obligations.EvaluatorEvents := by
  refine ⟨fun s c x hx => ⟨fun hb he hf => tapFetchDeadline_late hx hb he hf, tapFetchDeadline_local hx⟩,
    tapValid_late, fun s c x hx hb hm hlt => holdoffExpiry_answers hx hb hm hlt, ?_, markMismatch_marks, ?_⟩
  · intro s c x hx hb hp
    refine ⟨fun h r hc => answers_done (pairEvent_homeAlone hx hb hp hc) (mismatchSeen_settled s),
      fun v hc => answers_done (pairEvent_partnerAlone hx hb hp hc) (mismatchSeen_settled s),
      fun v h r hc hv => ⟨fun hm => ?_, fun hm => ?_⟩⟩
    · refine answers_setCtx ((pairEvent_both hx hb hp hc hv).trans ?_)
      rw [if_pos hm]
    · refine answers_done ((pairEvent_both hx hb hp hc hv).trans (congrArg done (if_neg ?_))) (mismatchSeen_settled s)
      simp [hm]
  · intro s c x g hx hp hu
    obtain ⟨y, hr, hy⟩ := reserve_room (g := g) hx hp hu
    exact ⟨y, by rw [hr, ctx_setCtx_self], by rw [hy], by rw [hy]⟩

end Sys2Proof.Machine
end

section
/-! ## Releases (R200, R208): what they leave of a context -/

namespace Sys2Proof.Machine

variable {s t u : State} {c : Nat} {x y : Ctx}

/-- States that differ in the contexts' records and the pools' allocations alone. -/
def CtxFrame (s t : State) : Prop := ∃ cs as, t = { s with ctxs := cs, allocs := as }

theorem ctxFrame_refl (s : State) : CtxFrame s s := ⟨s.ctxs, s.allocs, rfl⟩

theorem CtxFrame.trans (h : CtxFrame s t) (h' : CtxFrame t u) : CtxFrame s u := by
  obtain ⟨cs, as, rfl⟩ := h
  obtain ⟨cs', as', rfl⟩ := h'
  exact ⟨cs', as', rfl⟩

theorem ctxFrame_setCtx (s : State) (c : Nat) (x : Ctx) : CtxFrame s (s.setCtx c x) := ⟨_, s.allocs, rfl⟩

theorem CtxFrame.obj (h : CtxFrame s t) (i k : Nat) : t.obj i k = s.obj i k := by
  obtain ⟨cs, as, rfl⟩ := h
  rfl

theorem CtxFrame.mem (h : CtxFrame s t) : t.mem = s.mem := by
  obtain ⟨cs, as, rfl⟩ := h
  rfl

theorem CtxFrame.inputs (h : CtxFrame s t) : t.inputs = s.inputs := by
  obtain ⟨cs, as, rfl⟩ := h
  rfl

theorem CtxFrame.dies (h : CtxFrame s t) : t.dies = s.dies := by
  obtain ⟨cs, as, rfl⟩ := h
  rfl

/-- Of the contexts only `c` changes, and of it its decimation alone. -/
def DecOnly (c : Nat) (s t : State) : Prop :=
  CtxFrame s t ∧ CtxsBut c s t ∧ (s.ctx c = none → t.ctx c = none) ∧
    ∀ x, s.ctx c = some x → ∃ d, t.ctx c = some { x with dec := d }

theorem decOnly_refl (c : Nat) (s : State) : DecOnly c s s :=
  ⟨ctxFrame_refl s, fun _ _ => rfl, id, fun x hx => ⟨x.dec, hx⟩⟩

theorem DecOnly.trans (h : DecOnly c s t) (h' : DecOnly c t u) : DecOnly c s u := by
  obtain ⟨hf, hb, hn, hs⟩ := h
  obtain ⟨hf', hb', hn', hs'⟩ := h'
  refine ⟨hf.trans hf', hb.trans hb', fun hx => hn' (hn hx), fun x hx => ?_⟩
  obtain ⟨d, hd⟩ := hs x hx
  have h2 := hs' _ hd
  exact h2

theorem decOnly_setDec (hx : s.ctx c = some x) (d : Decimator) : DecOnly c s (s.setCtx c { x with dec := d }) := by
  refine ⟨ctxFrame_setCtx _ _ _, ctxsBut_setCtx _ _ _, fun hn => absurd (hx.symm.trans hn) (by simp), fun y hy => ?_⟩
  rw [Option.some.inj (hy.symm.trans hx)]
  exact ⟨d, ctx_setCtx_self _ _ _⟩

theorem decOnly_modDec (s : State) (c : Nat) (f : Decimator → Decimator) :
    DecOnly c s (s.modCtx c fun y => { y with dec := f y.dec }) := by
  cases hx : s.ctx c with
  | none =>
    rw [State.modCtx, hx]
    exact decOnly_refl c s
  | some x =>
    rw [modCtx_some hx]
    exact decOnly_setDec hx _

theorem decOnly_give (s : State) (c : Nat) (k : AllocKind) : DecOnly c s (s.give c k) :=
  ⟨⟨s.ctxs, _, rfl⟩, fun _ _ => rfl, id, fun x hx => ⟨x.dec, hx⟩⟩

theorem decOnly_foldl {α : Type} (f : State → α → State) (hf : ∀ u a, DecOnly c u (f u a)) (l : List α) :
    ∀ s, DecOnly c s (l.foldl f s) := by
  induction l with
  | nil => exact fun s => decOnly_refl c s
  | cons a l ih => exact fun s => (hf s a).trans (ih _)

theorem decOnly_sweepRings (s : State) (c : Nat) : DecOnly c s (sweepRings s c) := by
  unfold sweepRings
  split
  · exact decOnly_refl c s
  · refine decOnly_foldl _ (fun v r => ?_) _ s
    exact (decOnly_give v c _).trans (decOnly_modDec _ c fun d => { d with rings := d.rings.filter fun q => q.id != r.id })

theorem decOnly_decFreed (s : State) (c : Nat) : DecOnly c s (decFreed s c) := by
  unfold decFreed
  split
  · exact decOnly_refl c s
  · rename_i x hx
    dsimp only
    split
    · split
      · exact decOnly_setDec hx _
      · exact decOnly_refl c s
    · exact decOnly_refl c s

/-- A context without the published segment `seq`. -/
def Ctx.without (x : Ctx) (seq : Nat) : Ctx := { x with table := x.table.filter fun g => g.seq != seq }

/-- A dropped segment leaves its table, and the context's decimation may go on. -/
theorem decOnly_dropSegment (hx : s.ctx c = some x) (seq : Nat) :
    DecOnly c (s.setCtx c (x.without seq)) (dropSegment s c seq) := by
  unfold dropSegment
  rw [modCtx_some hx]
  exact (decOnly_sweepRings _ c).trans (decOnly_decFreed _ c)

/-! ## Reservations (R195, R199) -/

/-- What a reservation may change: of context `c` its segments, and that it dropped one. -/
structure Reserved (c : Nat) (s t : State) : Prop where
  mem : t.mem = s.mem
  inputs : t.inputs = s.inputs
  dies : t.dies = s.dies
  ctxs : CtxsBut c s t
  obj : ∀ i k, k < 2 ^ 24 → k ≠ O.SEG_DROPPED → k ≠ O.CTX_STATUS → t.obj i k = s.obj i k
  ctx : ∀ x, s.ctx c = some x → ∃ pd tb d tf mn, t.ctx c = some { x with
    pending := pd, table := tb, dec := d, tableFull := tf, mismatchNext := mn }

theorem reserved_refl (c : Nat) (s : State) : Reserved c s s :=
  ⟨rfl, rfl, rfl, fun _ _ => rfl, fun _ _ _ _ _ => rfl,
    fun x hx => ⟨x.pending, x.table, x.dec, x.tableFull, x.mismatchNext, hx⟩⟩

theorem Reserved.trans (h : Reserved c s t) (h' : Reserved c t u) : Reserved c s u := by
  refine ⟨h'.mem.trans h.mem, h'.inputs.trans h.inputs, h'.dies.trans h.dies, h.ctxs.trans h'.ctxs,
    fun i k hk h1 h2 => (h'.obj i k hk h1 h2).trans (h.obj i k hk h1 h2), fun x hx => ?_⟩
  obtain ⟨_, _, _, _, _, hy⟩ := h.ctx x hx
  have h2 := h'.ctx _ hy
  exact h2

theorem DecOnly.reserved (h : DecOnly c s t) : Reserved c s t := by
  obtain ⟨hf, hb, -, hs⟩ := h
  refine ⟨hf.mem, hf.inputs, hf.dies, hb, fun i k _ _ _ => hf.obj i k, fun x hx => ?_⟩
  obtain ⟨d, hd⟩ := hs x hx
  exact ⟨x.pending, x.table, d, x.tableFull, x.mismatchNext, hd⟩

theorem reserved_setSegments (hx : s.ctx c = some x) (pd tb : List Segment) (tf mn : Bool) : Reserved c s (s.setCtx c { x with
    pending := pd, table := tb, tableFull := tf, mismatchNext := mn }) := by
  refine ⟨rfl, rfl, rfl, ctxsBut_setCtx _ _ _, fun _ _ _ _ _ => rfl, fun y hy => ?_⟩
  rw [Option.some.inj (hy.symm.trans hx)]
  exact ⟨pd, tb, x.dec, tf, mn, ctx_setCtx_self _ _ _⟩

theorem reserved_setObj (s : State) (c i k : Nat) (v : Slot) (hk : k = O.SEG_DROPPED ∨ k = O.CTX_STATUS) :
    Reserved c s (s.setObj i k v) := by
  refine ⟨rfl, rfl, rfl, fun _ _ => rfl, fun j k' hk' h1 h2 => ?_,
    fun x hx => ⟨x.pending, x.table, x.dec, x.tableFull, x.mismatchNext, hx⟩⟩
  have hlt : k < 2 ^ 24 := by rcases hk with rfl | rfl <;> decide
  rw [State.obj_setObj _ _ _ _ _ _ hlt hk', if_neg]
  rintro ⟨-, rfl⟩
  rcases hk with rfl | rfl
  · exact h1 rfl
  · exact h2 rfl

/-- An event that finds no entry. -/
theorem reserved_drop (s : State) (c : Nat) : Reserved c s ((s.countSat c O.SEG_DROPPED 32).flag c O.CTX_STATUS 5) :=
  (reserved_setObj s c c _ _ (.inl rfl)).trans (reserved_setObj _ c c _ _ (.inr rfl))

theorem reserved_dropSegment (hx : s.ctx c = some x) (seq : Nat) : Reserved c s (dropSegment s c seq) :=
  (reserved_setSegments hx x.pending (x.table.filter fun g => g.seq != seq) x.tableFull x.mismatchNext).trans
    (decOnly_dropSegment hx seq).reserved

theorem reserved_releaseSegment (s : State) (c seq : Nat) : Reserved c s (releaseSegment s c seq) := by
  unfold releaseSegment
  split
  · exact reserved_refl c s
  · rename_i x hx
    split
    · exact reserved_refl c s
    · split
      · exact reserved_dropSegment hx seq
      · exact reserved_setSegments hx x.pending _ x.tableFull x.mismatchNext

theorem reserved_reserve (s : State) (c : Nat) (g : Segment) : Reserved c s (reserve s c g) := by
  unfold reserve
  split
  · exact reserved_refl c s
  · rename_i x hx
    dsimp only
    split_ifs
    · exact reserved_drop s c
    · exact reserved_setSegments hx _ x.table _ false
    · split
      · exact reserved_drop s c
      · split_ifs
        · rename_i q _ _ _
          have hdrop := reserved_dropSegment hx q.seq
          obtain ⟨pd, tb, d, tf, mn, hy⟩ := hdrop.ctx x hx
          rw [modCtx_some hy]
          exact hdrop.trans (reserved_setSegments hy _ _ _ _)
        · exact (reserved_releaseSegment s c _).trans (reserved_drop _ c)

end Sys2Proof.Machine
end

section
/-! ## Acceptance (R145 to R149) -/

namespace Sys2Proof.Machine

variable {s t : State} {c g fire : Nat} {x : Ctx} {forced fb : Bool}

/-! ### An accepted event -/

theorem pulseAt_ctxs (s : State) (a b n : Nat) (e : Option Nat) : (pulseAt s a b n e).ctxs = s.ctxs :=
  (congrArg State.ctxs (pulseAt_body s a b n e) :)

theorem pulseAt_mem (s : State) (a b n : Nat) (e : Option Nat) : (pulseAt s a b n e).mem = s.mem :=
  (congrArg State.mem (pulseAt_body s a b n e) :)

theorem pulseAt_inputs (s : State) (a b n : Nat) (e : Option Nat) : (pulseAt s a b n e).inputs = s.inputs :=
  (congrArg State.inputs (pulseAt_body s a b n e) :)

theorem pulseAt_dies (s : State) (a b n : Nat) (e : Option Nat) : (pulseAt s a b n e).dies = s.dies :=
  (congrArg State.dies (pulseAt_body s a b n e) :)

theorem obj_pulseAt_of (s : State) (a b n : Nat) (e : Option Nat) (i k : Nat) (hk : k < 2 ^ 24) (h : k ∉ settleObjs) :
    (pulseAt s a b n e).obj i k = s.obj i k :=
  (pulseAt_keeps s a b n e).objsBut [] i k (by simp) (objKey_settle i k hk h)

/-- The record of a context after an event whose crossing lies at `g` grains, before its segment (R145, R146, R210). -/
def Ctx.taken (x : Ctx) (s : State) (c g fire : Nat) (fb : Bool) : Ctx :=
  { x with
    holdUntil := g + s.cN c O.HOLDOFF_TIME * 480
    holdEvents := s.cN c O.HOLDOFF_EVENTS
    lastCycle := some (fire / 480 / 48 * 48), autoFrom := fire / 480 / 48 * 48, sinceArm := x.sinceArm + 1, late := false
    stopMet := x.stopMet || (s.cN c O.STOP_COUNT != 0 && decide (s.cN c O.STOP_COUNT ≤ x.sinceArm + 1))
    stopAt := if (s.cN c O.STOP_COUNT != 0 && decide (s.cN c O.STOP_COUNT ≤ x.sinceArm + 1)) && x.stopAt.isNone
      then some (fire / 480 / 48 * 48 + 48) else x.stopAt
    toCompare := if x.partners = [] then [] else x.toCompare ++ [(fire, g, fb)]
    ev := x.ev.accepted fire }

/-- The objects after an event that is counted (R145). -/
def acceptNoted (s : State) (c g : Nat) (fb : Bool) : State :=
  let s := s.countWrap c O.TRIG_EVENTS 64
  let s := (s.setObj c O.TRIG_LAST_TM (tmOfGrains g)).setObj c O.TRIG_LAST_WRAP (ofN (wrapOfGrains g))
  let s := s.flag c O.TRIG_STATUS 0
  if fb then (s.countSat c O.TRIG_FALLBACKS 32).flag c O.TRIG_STATUS 1 else s

/-- The segment that an accepted event reserves (R195). -/
def acceptSegment (s : State) (c g : Nat) (forced fb : Bool) (lat : Nat) (x : Ctx) : Segment :=
  { tm := g, forced, fallback := fb
    input := s.cN c O.CTX_INPUT, pre := s.cI c O.SEG_PRE, len := s.cN c O.SEG_LENGTH
    dec := s.cN c O.DEC_MODE != 0, mode := s.cN c O.DEC_MODE, factor := s.cN c O.DEC_FACTOR, lat
    ring := (x.dec.rings.getLast?.map DecRing.id).getD 0 }

theorem acceptEvent_some (hx : s.ctx c = some x) (forced : Bool) : acceptEvent s c g fire forced fb =
    pulseAt (if x.busy.isSome then acceptNoted (s.setCtx c (x.taken s c g fire fb)) c g fb
      else reserve (acceptNoted (s.setCtx c (x.taken s c g fire fb)) c g fb) c
        (acceptSegment (acceptNoted (s.setCtx c (x.taken s c g fire fb)) c g fb) c g forced fb (s.latencyAt c x fire) x))
      1 0 c (some (trigOutEdge g (s.latencyAt c x fire))) := by
  unfold acceptEvent
  rw [hx]
  rfl

theorem acceptEvent_eq (hx : s.ctx c = some x) (forced : Bool) : ∃ seg edge, seg.tm = g ∧
    acceptEvent s c g fire forced fb =
      pulseAt (if x.busy.isSome then acceptNoted (s.setCtx c (x.taken s c g fire fb)) c g fb
        else reserve (acceptNoted (s.setCtx c (x.taken s c g fire fb)) c g fb) c seg) 1 0 c edge :=
  ⟨acceptSegment (acceptNoted (s.setCtx c (x.taken s c g fire fb)) c g fb) c g forced fb (s.latencyAt c x fire) x,
    some (trigOutEdge g (s.latencyAt c x fire)), rfl, acceptEvent_some hx forced⟩

theorem acceptNoted_ctx (s : State) (c g : Nat) (fb : Bool) (d : Nat) : (acceptNoted s c g fb).ctx d = s.ctx d := by
  unfold acceptNoted
  simp only [State.flag_eq, State.countSat_eq, State.countWrap_eq]
  split <;> simp only [State.setObj_ctx]

theorem acceptNoted_rest (s : State) (c g : Nat) (fb : Bool) : (acceptNoted s c g fb).mem = s.mem ∧
    (acceptNoted s c g fb).inputs = s.inputs ∧ (acceptNoted s c g fb).dies = s.dies := by
  unfold acceptNoted
  simp only [State.flag_eq, State.countSat_eq, State.countWrap_eq]
  split <;> simp only [State.setObj_mem, State.setObj_inputs, State.setObj_dies, and_self]

theorem acceptNoted_events (s : State) (c g : Nat) (fb : Bool) :
    ((acceptNoted s c g fb).obj c O.TRIG_EVENTS).toNat = ((s.obj c O.TRIG_EVENTS).toNat + 1) % 2 ^ 64 ∧
    (acceptNoted s c g fb).obj c O.TRIG_LAST_TM = tmOfGrains g ∧
    bit ((acceptNoted s c g fb).obj c O.TRIG_STATUS) 0 = true := by
  have hnat : (ofN (((s.obj c O.TRIG_EVENTS).toNat + 1) % 2 ^ 64)).toNat = ((s.obj c O.TRIG_EVENTS).toNat + 1) % 2 ^ 64 :=
    ofN_toNat _ (Nat.mod_lt _ (by decide))
  rw [← hnat]
  unfold acceptNoted
  simp only [State.flag_eq, State.countSat_eq, State.countWrap_eq]
  split
  · simp (decide := true) [State.obj_setObj, bit_setBit]
  · simp (decide := true) [State.obj_setObj, bit_setBit]

/-- What the segments of a context may have become. -/
def Ctx.Segmented (x y : Ctx) : Prop := ∃ pd tb d tf mn, y = { x with
  pending := pd, table := tb, dec := d, tableFull := tf, mismatchNext := mn }

/-- What an accepted event leaves. -/
structure Accepted (s t : State) (c g fire : Nat) (fb : Bool) (x : Ctx) : Prop where
  events : (t.obj c O.TRIG_EVENTS).toNat = ((s.obj c O.TRIG_EVENTS).toNat + 1) % 2 ^ 64
  lastTm : t.obj c O.TRIG_LAST_TM = tmOfGrains g
  status : bit (t.obj c O.TRIG_STATUS) 0 = true
  ctx : ∃ y, t.ctx c = some y ∧ (x.taken s c g fire fb).Segmented y
  room : x.busy = none → x.pending.length < 16 → x.inUse < s.cN c O.SEG_TABLE_SIZE →
    ∃ y, t.ctx c = some y ∧ (y.pending.map Segment.tm) = x.pending.map Segment.tm ++ [g]
  ctxs : CtxsBut c s t
  mem : t.mem = s.mem
  inputs : t.inputs = s.inputs
  dies : t.dies = s.dies

/-- The event before its segment. -/
theorem noted_setCtx (s : State) (c : Nat) (x : Ctx) : let u := acceptNoted (s.setCtx c (x.taken s c g fire fb)) c g fb
    u.ctx c = some (x.taken s c g fire fb) ∧ CtxsBut c s u ∧ u.mem = s.mem ∧ u.inputs = s.inputs ∧ u.dies = s.dies := by
  obtain ⟨hm, hi, hd⟩ := acceptNoted_rest (s.setCtx c (x.taken s c g fire fb)) c g fb
  refine ⟨?_, fun d hne => ?_, hm, hi, hd⟩
  · rw [acceptNoted_ctx, ctx_setCtx_self]
  · rw [acceptNoted_ctx]
    exact ctxsBut_setCtx _ _ _ d hne

theorem noted_room (s : State) : (acceptNoted (s.setCtx c x) c g fb).cN c O.SEG_TABLE_SIZE = s.cN c O.SEG_TABLE_SIZE := by
  unfold State.cN acceptNoted
  simp only [State.flag_eq, State.countSat_eq, State.countWrap_eq]
  split
  · simp (decide := true) [State.obj_setObj]
  · simp (decide := true) [State.obj_setObj]

theorem acceptEvent_accepted (hx : s.ctx c = some x) (forced : Bool) :
    Accepted s (acceptEvent s c g fire forced fb) c g fire fb x := by
  obtain ⟨seg, edge, hseg, heq⟩ := acceptEvent_eq (g := g) (fire := fire) (fb := fb) hx forced
  obtain ⟨huc, hub, hum, hui, hud⟩ := noted_setCtx (g := g) (fire := fire) (fb := fb) s c x
  obtain ⟨hev, htm, hst⟩ := acceptNoted_events (s.setCtx c (x.taken s c g fire fb)) c g fb
  have hroom := noted_room (c := c) (x := x.taken s c g fire fb) (g := g) (fb := fb) s
  generalize acceptNoted (s.setCtx c (x.taken s c g fire fb)) c g fb = u at *
  rw [heq]
  have hres : Reserved c u (if x.busy.isSome then u else reserve u c seg) := by
    split
    · exact reserved_refl c u
    · exact reserved_reserve u c seg
  have hobj (k : Nat) (hk : k < 2 ^ 24) (hn : k ∉ settleObjs) (h1 : k ≠ O.SEG_DROPPED) (h2 : k ≠ O.CTX_STATUS) :
      (pulseAt (if x.busy.isSome then u else reserve u c seg) 1 0 c edge).obj c k = u.obj c k := by
    rw [obj_pulseAt_of _ _ _ _ _ _ _ hk hn, hres.obj c k hk h1 h2]
  refine ⟨?_, ?_, ?_, ?_, ?_, ?_, ?_, ?_, ?_⟩
  · rw [hobj _ (by decide) (by decide) (by decide) (by decide)]
    exact hev
  · rw [hobj _ (by decide) (by decide) (by decide) (by decide)]
    exact htm
  · rw [hobj _ (by decide) (by decide) (by decide) (by decide)]
    exact hst
  · obtain ⟨pd, tb, d, tf, mn, hy⟩ := hres.ctx _ huc
    exact ⟨_, (ctx_congr (pulseAt_ctxs _ _ _ _ _) c).trans hy, pd, tb, d, tf, mn, rfl⟩
  · intro hb hp hu
    have hbusy : x.busy.isSome = false := by rw [hb]; rfl
    obtain ⟨y, hr, hy⟩ := reserve_room (g := seg) huc hp (hroom ▸ hu)
    refine ⟨y, ?_, ?_⟩
    · rw [ctx_congr (pulseAt_ctxs _ _ _ _ _), if_neg (by simp [hbusy]), hr, ctx_setCtx_self]
    · rw [hy]
      show ((x.pending ++ [{ seg with mismatch := x.mismatchNext }]).map Segment.tm) = _
      rw [List.map_append]
      exact congrArg (fun n => x.pending.map Segment.tm ++ [n]) hseg
  · exact (hub.trans hres.ctxs).trans (ctxsBut_congr (pulseAt_ctxs _ _ _ _ _) c)
  · rw [pulseAt_mem, hres.mem, hum]
  · rw [pulseAt_inputs, hres.inputs, hui]
  · rw [pulseAt_dies, hres.dies, hud]

/-- The forced event that a context accepts (R149): its bit of TRIG_STATUS beside. -/
theorem forcedEvent_accepted {T b : Nat} (hx : s.ctx c = some x) (hacc : x.accepting T = true)
    (hend : s.acceptEnded c x T = false) (hlast : x.lastCycle ≠ some T)
    (hauto : ¬ (b = 4 ∧ T < x.autoFrom + s.cN c O.TRIG_AUTO)) :
    forcedEvent s c T b = (acceptEvent s c (T * 480) (T * 480) true false).flag c O.TRIG_STATUS b := by
  unfold forcedEvent
  rw [hx]
  simp only [hacc, hend]
  rw [if_neg]
  simp [hauto, hlast]

end Sys2Proof.Machine
end

section
/-! ## Forced events (R149) -/

namespace Sys2Proof.Machine

variable {s t : State} {c p T b : Nat} {x : Ctx}

theorem missing_trigForce (s : State) : s.missing (O.TRIG_FORCE / 256) (O.TRIG_FORCE % 256) = none := rfl

/-- The context after a write of 1 to TRIG_FORCE. -/
def Ctx.forceAsked (x : Ctx) (cyc : Nat) : Ctx :=
  if x.st = .armed ∧ x.forceAt.isNone then { x with forceAt := some (cyc + 48) } else x

theorem trigForceWrite_one (hx : s.ctx c = some x) (ho : ownerOf p = x.owner) :
    trigForceWrite s p c 1 = .ok (s.setCtx c (x.forceAsked s.cycle)) := by
  have ho' : ownerOf p = s.ctxOwner c := by rw [ho, State.ctxOwner, hx]
  unfold trigForceWrite forceWrite
  rw [ctxOwnerOnly_pos ho', need_pos s (by decide), if_pos rfl, modCtx_some hx]
  rfl

theorem trigForce_answers (h : Served s p) (hx : s.ctx (s.selected p) = some x) (ho : ownerOf p = x.owner) :
    Answers (.trigForce p 1) s fun t =>
      (x.st = .armed → x.forceAt = none → t.ctx (s.selected p) = some { x with forceAt := some (s.cycle + 48) }) ∧
      ((x.st ≠ .armed ∨ x.forceAt.isSome = true) → t.ctx (s.selected p) = some x) ∧
      CtxsBut (s.selected p) s t ∧ OnlyObjs [] { s with ctxs := t.ctxs } t := by
  have hself : ∀ y : Ctx, (settle (s.turned.setCtx (s.selected p) y)).ctx (s.selected p) = some y := fun y => by
    rw [ctx_settle, ctx_setCtx_self]
  refine answers_access (exec_trigForce s p 1) h (missing_trigForce s)
    (trigForceWrite_one (s := s.turned) hx ho) ⟨fun ha hn => ?_, fun hno => ?_, ?_, ?_⟩
  · refine (hself _).trans (congrArg some (if_pos ⟨ha, ?_⟩))
    rw [hn]
    rfl
  · refine (hself _).trans (congrArg some (if_neg ?_))
    rintro ⟨ha, hn⟩
    rcases hno with h | h
    · exact h ha
    · rw [Option.isNone_iff_eq_none] at hn
      rw [hn] at h
      exact absurd h (by decide)
  · exact (ctxsBut_setCtx s.turned _ _).settled
  · rw [settle_ctxs]
    exact ((onlyObjs_turned (s := s) []).setCtx _ _).settled

/-! ### What a forced event leaves -/

/-- The event of a command, counted at the instant `T` with its bit of TRIG_STATUS (R149). -/
structure ForcedAt (s t : State) (c T b : Nat) (x : Ctx) : Prop where
  events : (t.obj c O.TRIG_EVENTS).toNat = ((s.obj c O.TRIG_EVENTS).toNat + 1) % 2 ^ 64
  lastTm : t.obj c O.TRIG_LAST_TM = tmOfGrains (T * 480)
  status : bit (t.obj c O.TRIG_STATUS) b = true
  ctx : ∃ y, t.ctx c = some y ∧ y.forceAt = x.forceAt ∧ y.holdUntil = T * 480 + s.cN c O.HOLDOFF_TIME * 480
  ctxs : CtxsBut c s t
  mem : t.mem = s.mem
  inputs : t.inputs = s.inputs

theorem forcedEvent_forced (hb : b < 64) (hx : s.ctx c = some x) (hacc : x.accepting T = true)
    (hend : s.acceptEnded c x T = false) (hlast : x.lastCycle ≠ some T)
    (hauto : ¬ (b = 4 ∧ T < x.autoFrom + s.cN c O.TRIG_AUTO)) : ForcedAt s (settle (forcedEvent s c T b)) c T b x := by
  obtain ⟨hev, htm, -, ⟨y, hy, pd, tb, d, tf, mn, rfl⟩, -, hctxs, hmem, hin, -⟩ :=
    acceptEvent_accepted (g := T * 480) (fire := T * 480) (fb := false) hx true
  rw [forcedEvent_accepted hx hacc hend hlast hauto, State.flag_eq]
  generalize acceptEvent s c (T * 480) (T * 480) true false = u at *
  refine ⟨?_, ?_, ?_, ?_, ?_, ?_, ?_⟩
  · rw [obj_settle_of _ _ _ (by decide) (by decide), State.obj_setObj _ _ _ _ _ _ (by decide) (by decide),
      if_neg (fun h => absurd h.2 (by decide)), hev]
  · rw [obj_settle_of _ _ _ (by decide) (by decide), State.obj_setObj _ _ _ _ _ _ (by decide) (by decide),
      if_neg (fun h => absurd h.2 (by decide)), htm]
  · rw [obj_settle_of _ _ _ (by decide) (by decide), State.obj_setObj_self, bit_setBit _ _ _ hb]
    simp
  · exact ⟨_, (ctx_settle c).trans hy, rfl, rfl⟩
  · exact CtxsBut.settled (t := u.setObj c O.TRIG_STATUS _) hctxs
  · rw [settle_mem, State.setObj_mem, hmem]
  · rw [settle_inputs, State.setObj_inputs, hin]

/-- The forced event of a context whose state differs in what the event does not read. -/
theorem ForcedAt.of {u : State} {x' : Ctx} (h : ForcedAt u t c T b x')
    (hobj : ∀ k, k < 2 ^ 24 → k ≠ O.TB_STATUS → u.obj c k = s.obj c k) (hctxs : CtxsBut c s u) (hmem : u.mem = s.mem)
    (hin : u.inputs = s.inputs) : ForcedAt s t c T b x' := by
  obtain ⟨h1, h2, h3, h4, h5, h6, h7⟩ := h
  refine ⟨by rw [h1, hobj _ (by decide) (by decide)], h2, h3, ?_, hctxs.trans h5, h6.trans hmem, h7.trans hin⟩
  rwa [State.cN, hobj _ (by decide) (by decide), ← State.cN] at h4

/-- What TRIG_FORCE and TRIG_AUTO read stays as device time runs to their core cycle. -/
theorem behind_runTo (s : State) (c t T : Nat) : (s.runTo t).behind c T = s.behind c T := by
  unfold State.behind State.watched State.sources State.patInputs State.patReq State.cN State.stalled
  simp (decide := true) only [runTo_ctx, runTo_input, runTo_die, obj_runTo, ne_eq]

theorem acceptEnded_runTo (s : State) (c t : Nat) (x : Ctx) (cyc : Nat) :
    (s.runTo t).acceptEnded c x cyc = s.acceptEnded c x cyc := by
  unfold State.acceptEnded State.tableUsed State.stopTimeAt State.cN
  simp (decide := true) only [obj_runTo, ne_eq]

theorem forceAtCycle_now (hx : s.ctx c = some x) (hb : b < 64) (hbe : s.behind c T = false) (hacc : x.accepting T = true)
    (hend : s.acceptEnded c x T = false) (hlast : x.lastCycle ≠ some T)
    (hauto : ¬ (b = 4 ∧ T < x.autoFrom + s.cN c O.TRIG_AUTO)) : ForcedAt s (settle (forceAtCycle s c T b)) c T b x := by
  unfold forceAtCycle
  dsimp only
  rw [if_neg (by rw [behind_runTo, hbe]; decide)]
  refine ForcedAt.of (u := s.runTo T) (forcedEvent_forced hb ?_ hacc ?_ hlast ?_) (fun k hk hne => obj_runTo s T c k hk hne)
    (ctxsBut_congr (runTo_ctxs s T) c) (runTo_mem s T) (runTo_inputs s T)
  · rw [runTo_ctx, hx]
  · rw [acceptEnded_runTo, hend]
  · rw [State.cN, obj_runTo _ _ _ _ (by decide) (by decide)]
    exact hauto

theorem exec_forcedEvent_armed (hx : s.ctx c = some x) (hf : x.forceAt = some T) (ha : x.st = .armed) :
    exec (.forcedEvent c) s = done (forceAtCycle (s.setCtx c { x with forceAt := none }) c T 5) := by
  rw [exec_forcedEvent]
  unfold execForcedEvent
  rw [hx]
  simp only [hf, ha, if_true]

theorem forcedEvent_now (hx : s.ctx c = some x) (hf : x.forceAt = some T) (ha : x.st = .armed)
    (hbe : s.behind c T = false) (hacc : x.accepting T = true) (hend : s.acceptEnded c x T = false)
    (hlast : x.lastCycle ≠ some T) : Answers (.forcedEvent c) s fun t => ForcedAt s t c T 5 { x with forceAt := none } := by
  refine answers_done (exec_forcedEvent_armed hx hf ha) ?_
  have hself := ctx_setCtx_self s c { x with forceAt := none }
  have hbe' : (s.setCtx c { x with forceAt := none }).behind c T = false := by
    rw [← hbe, State.behind, State.behind, hself, hx]
    rfl
  refine ForcedAt.of (u := s.setCtx c { x with forceAt := none }) (forceAtCycle_now hself (by decide) hbe' hacc ?_ hlast ?_)
    (fun _ _ _ => rfl) (ctxsBut_setCtx _ _ _) rfl rfl
  · exact hend
  · exact fun h => absurd h.1 (by decide)

/-- The mark of a forced event whose earlier samples are still to be judged. -/
theorem forcedEvent_behind (hx : s.ctx c = some x) (hf : x.forceAt = some T) (ha : x.st = .armed)
    (hbe : s.behind c T = true) : Answers (.forcedEvent c) s fun t =>
      (∃ y, t.ctx c = some y ∧ y.forceAt = none ∧ { at_ := T * 480, src := forceSrc, trit := 5 } ∈ y.ev.waiting) ∧
      CtxsBut c s t ∧ t.obj c O.TRIG_EVENTS = s.obj c O.TRIG_EVENTS ∧ t.mem = s.mem ∧ t.inputs = s.inputs := by
  refine answers_done (exec_forcedEvent_armed hx hf ha) ?_
  have hself := ctx_setCtx_self s c { x with forceAt := none }
  have hbe' : ((s.setCtx c { x with forceAt := none }).runTo T).behind c T = true := by
    rw [behind_runTo, ← hbe, State.behind, State.behind, hself, hx]
    rfl
  unfold forceAtCycle
  dsimp only
  rw [if_pos hbe', modCtx_some ((runTo_ctx _ _ _).trans hself)]
  refine ⟨⟨_, (ctx_settle c).trans (ctx_setCtx_self _ _ _), rfl, ?_⟩, ?_, ?_, ?_, ?_⟩
  · exact List.mem_append_right _ List.mem_cons_self
  · refine CtxsBut.settled (CtxsBut.trans ?_ (ctxsBut_setCtx _ _ _))
    exact (ctxsBut_setCtx s c _).trans (ctxsBut_congr (runTo_ctxs _ _) c)
  · rw [obj_settle_of _ _ _ (by decide) (by decide), State.setCtx_obj, obj_runTo _ _ _ _ (by decide) (by decide),
      State.setCtx_obj]
  · rw [settle_mem, State.setCtx_mem, runTo_mem, State.setCtx_mem]
  · rw [settle_inputs, State.setCtx_inputs, runTo_inputs, State.setCtx_inputs]

/-! ### A mark among the samples -/

theorem exec_triggerAccept_armed (hx : s.ctx c = some x) (ha : x.st = .armed) :
    exec (.triggerAccept c) s = done (acceptLoop c (x.ev.waiting.length + 1) s) := by
  have hb : x.bound = true := by rw [Ctx.bound, ha]; rfl
  rw [exec_triggerAccept]
  unfold execTriggerAccept
  rw [hx]
  exact congrArg done (if_pos hb)

theorem acceptLoop_force {n : Nat} {j : Judged} {r : List Judged} (hx : s.ctx c = some x) (hw : x.ev.waiting = j :: r)
    (hsrc : j.src = forceSrc) (hhor : j.at_ ≤ s.horizon c x.late) :
    acceptLoop c (n + 1) s =
      forcedEvent (s.setCtx c { x with ev := { x.ev with waiting := r } }) c (j.at_ / 23040 * 48) j.trit := by
  unfold acceptLoop
  simp only [hx, hw]
  rw [if_pos hsrc, if_neg (Nat.not_lt_of_le ((Nat.div_mul_le_self _ _).trans hhor))]

theorem triggerAccept_force {r : List Judged} (hx : s.ctx c = some x) (ha : x.st = .armed) (h48 : T % 48 = 0)
    (hw : x.ev.waiting = { at_ := T * 480, src := forceSrc, trit := 5 } :: r) (hhor : T * 480 ≤ s.horizon c x.late)
    (hacc : x.accepting T = true) (hend : s.acceptEnded c x T = false) (hlast : x.lastCycle ≠ some T) :
    Answers (.triggerAccept c) s fun t =>
      ForcedAt s t c T 5 { x with ev := { x.ev with waiting := r } } := by
  have hloop := acceptLoop_force (n := x.ev.waiting.length) hx hw rfl hhor
  have hT : T * 480 / 23040 * 48 = T := by omega
  refine answers_done ((exec_triggerAccept_armed hx ha).trans (congrArg done hloop)) ?_
  show ForcedAt s (settle (forcedEvent _ c (T * 480 / 23040 * 48) 5)) _ _ _ _
  rw [hT]
  refine ForcedAt.of (u := s.setCtx c { x with ev := { x.ev with waiting := r } })
    (forcedEvent_forced (by decide) (ctx_setCtx_self _ _ _) hacc hend hlast fun h => absurd h.1 (by decide))
    (fun _ _ _ => rfl) (ctxsBut_setCtx _ _ _) rfl rfl

theorem exec_trigAutoExpiry_armed (hx : s.ctx c = some x) (ha : x.st = .armed) (hn : s.cN c O.TRIG_AUTO ≠ 0) :
    exec (.trigAutoExpiry c) s = done (forceAtCycle s c (s.autoDue c x) 4) := by
  rw [exec_trigAutoExpiry]
  unfold execTrigAutoExpiry
  rw [hx]
  exact congrArg done (if_pos ⟨ha, hn⟩)

theorem trigAutoExpiry_now (hx : s.ctx c = some x) (ha : x.st = .armed) (hn : s.cN c O.TRIG_AUTO ≠ 0)
    (hbe : s.behind c (s.autoDue c x) = false) (hacc : x.accepting (s.autoDue c x) = true)
    (hend : s.acceptEnded c x (s.autoDue c x) = false) (hlast : x.lastCycle ≠ some (s.autoDue c x)) :
    Answers (.trigAutoExpiry c) s fun t => ForcedAt s t c (s.autoDue c x) 4 x := by
  refine answers_done (exec_trigAutoExpiry_armed hx ha hn) (forceAtCycle_now hx (by decide) hbe hacc hend hlast ?_)
  rintro ⟨-, hlt⟩
  unfold State.autoDue at hlt
  omega

/-- Settles O29: a forced event is counted at its core cycle, or takes its place among the samples still to be judged. -/
theorem forcedEvents : Obligations.ForcedEvents := by
  refine ⟨fun s p x h hx ho => trigForce_answers h hx ho, fun s c T x hx hf ha => ⟨fun hbe hacc hend hlast => ?_,
    fun hbe => forcedEvent_behind hx hf ha hbe⟩, fun s c T b x r hx ha h48 hw hhor hb hacc hend hlast => ?_,
    fun s c x hx ha hn hbe hacc hend hlast => ?_⟩
  · exact (forcedEvent_now hx hf ha hbe hacc hend hlast).mono fun t h =>
      ⟨h.events, h.lastTm, h.status, h.ctx, h.ctxs, h.mem, h.inputs⟩
  · subst hb
    exact (triggerAccept_force hx ha h48 hw hhor hacc hend hlast).mono fun t h =>
      ⟨h.events, h.lastTm, h.status, h.ctxs, h.mem, h.inputs⟩
  · exact (trigAutoExpiry_now hx ha hn hbe hacc hend hlast).mono fun t h =>
      ⟨h.events, h.lastTm, h.status, h.ctxs, h.mem, h.inputs⟩

end Sys2Proof.Machine
end

section
/-! ## TRIGGER_ACCEPT (R145, R146, R148, R195) -/

namespace Sys2Proof.Machine

variable {s t : State} {c cyc g n : Nat} {x : Ctx} {e : EvalSt} {ds : List Detection} {fb : Bool}

/-! ### A judgement leaves what waits -/

theorem stepEdgeType_waiting (g : TrigCfg) (e : EvalSt) (j : Judged) : (stepEdgeType g e j).1.waiting = e.waiting := by
  unfold stepEdgeType
  dsimp only
  split
  · rfl
  · rfl
  · split <;> rfl
  · split
    · split
      · split <;> rfl
      · rfl
    · rfl
  · rfl

theorem stepBandType_waiting (g : TrigCfg) (e : EvalSt) (j : Judged) : (stepBandType g e j).1.waiting = e.waiting := by
  unfold stepBandType
  dsimp only
  split
  · split
    · rfl
    · split <;> rfl
  · rfl
  · rfl
  · rfl

theorem patUpdate_waiting (e : EvalSt) (j : Judged) : (patUpdate e j).waiting = e.waiting := by
  unfold patUpdate
  split <;> rfl

theorem foldl_patUpdate_waiting (js : List Judged) (e : EvalSt) : (js.foldl patUpdate e).waiting = e.waiting := by
  induction js generalizing e with
  | nil => rfl
  | cons j js ih => rw [List.foldl_cons, ih, patUpdate_waiting]

theorem stepPattern_waiting (g : TrigCfg) (e : EvalSt) (js : List Judged) : (stepPattern g e js).1.waiting = e.waiting := by
  unfold stepPattern
  dsimp only
  split
  · exact foldl_patUpdate_waiting js e
  · exact foldl_patUpdate_waiting js e

theorem stepState_waiting (g : TrigCfg) (e : EvalSt) (js : List Judged) : (stepState g e js).1.waiting = e.waiting := by
  unfold stepState
  dsimp only
  split
  · exact foldl_patUpdate_waiting _ e
  · exact foldl_patUpdate_waiting _ e

theorem stepSequence_waiting (g : TrigCfg) (e : EvalSt) (js : List (Judged × Bool)) :
    (stepSequence g e js).1.waiting = e.waiting := by
  unfold stepSequence
  dsimp only
  repeat' split
  all_goals rfl

theorem foldl_steps_waiting {f : EvalSt → Judged → EvalSt × List Detection}
    (hf : ∀ e j, (f e j).1.waiting = e.waiting) (js : List Judged) (a : EvalSt × List Detection) :
    (js.foldl (fun (a : EvalSt × List Detection) j => let r := f a.1 j; (r.1, a.2 ++ r.2)) a).1.waiting = a.1.waiting := by
  induction js generalizing a with
  | nil => rfl
  | cons j js ih =>
    rw [List.foldl_cons, ih]
    exact hf a.1 j

theorem judge_waiting (g : TrigCfg) (e : EvalSt) (js : List Judged) : (judge g e js).1.waiting = e.waiting := by
  unfold judge
  split
  · rfl
  · split
    · rfl
    · exact stepPattern_waiting g e js
    · exact stepState_waiting g e js
    · exact stepSequence_waiting g e _
    · exact foldl_steps_waiting (stepBandType_waiting g) js _
    · exact foldl_steps_waiting (stepBandType_waiting g) js _
    · exact foldl_steps_waiting (stepBandType_waiting g) js _
    · exact foldl_steps_waiting (stepEdgeType_waiting g) js _

theorem judgeAll_waiting (g : TrigCfg) (n : Nat) (e : EvalSt) (js : List Judged) :
    (judgeAll g n e js).1.waiting = e.waiting := by
  induction n generalizing e js with
  | zero => rfl
  | succ n ih =>
    unfold judgeAll
    split
    · rfl
    · exact (ih _ _).trans (judge_waiting g e _)

/-! ### What a judgement reads -/

theorem lvl_setCtx (hx : s.ctx c = some x) {y : Ctx} (hl : y.levels = x.levels) (k a : Nat) :
    (s.setCtx c y).lvl c k a = s.lvl c k a := by
  unfold State.lvl
  rw [ctx_setCtx_self, hx]
  simp only [hl, State.setCtx_obj]

theorem trigCfg_setCtx (hx : s.ctx c = some x) {y : Ctx} (hl : y.levels = x.levels) (a : Nat) :
    (s.setCtx c y).trigCfg c a = s.trigCfg c a := by
  have hp : (s.setCtx c y).patInputs c = s.patInputs c := rfl
  have hq : (s.setCtx c y).patReq c = s.patReq c := rfl
  have hn : (s.setCtx c y).cN c = s.cN c := rfl
  unfold State.trigCfg
  simp only [lvl_setCtx hx hl, State.setCtx_obj, hp, hq, hn]

theorem locate_setCtx (s : State) (c : Nat) (y : Ctx) (ed : Nat) (late : Bool) (d : Detection) :
    (s.setCtx c y).locate ed late d = s.locate ed late d := by
  unfold State.locate
  rfl

theorem kvPut_kvPut {α : Type} (l : List (Nat × α)) (k : Nat) (v w : α) : kvPut (kvPut l k v) k w = kvPut l k w := by
  induction l with
  | nil => simp [kvPut]
  | cons p r ih =>
    obtain ⟨k', v'⟩ := p
    rcases Nat.lt_trichotomy k k' with h | h | h
    · simp [kvPut, h]
    · simp [kvPut, h]
    · simp [kvPut, ih, Nat.not_lt_of_gt h, Nat.ne_of_gt h]

theorem setCtx_setCtx (s : State) (c : Nat) (x y : Ctx) : (s.setCtx c x).setCtx c y = s.setCtx c y :=
  congrArg (fun l => { s with ctxs := l }) (kvPut_kvPut s.ctxs c x y)

/-- The context once the samples of a core cycle are judged. -/
def Ctx.judged (x : Ctx) (e : EvalSt) (ds : List Detection) : Ctx := { x with ev := e, late := x.late && ds.isEmpty }

theorem acceptLoop_empty (hx : s.ctx c = some x) (hw : x.ev.waiting = []) (n : Nat) : acceptLoop c n s = s := by
  cases n with
  | zero => rfl
  | succ n =>
    unfold acceptLoop
    simp only [hx, hw]


/-- The firings of the detections of a core cycle, in order, from the arming on (R146). -/
def firings (s : State) (c : Nat) (x : Ctx) (ds : List Detection) : List (Nat × Bool × Nat) :=
  (sortBy (fun d : Nat × Bool × Nat => d.1) ((List.range ds.length).zip ds |>.map fun (i, d) =>
    let r := s.locate (s.firingDie c x) (x.late && i == 0) d
    (r.1, r.2, d.fire))).filter fun d => decide (x.armAt * 480 ≤ d.1)

theorem firings_one {d : Detection} (hd : s.locate (s.firingDie c x) x.late d = (g, fb)) (hg : x.armAt * 480 ≤ g) :
    firings s c x [d] = [(g, fb, d.fire)] := by
  have hl : s.locate (s.firingDie c x) (x.late && (0 : Nat) == 0) d = (g, fb) := by rw [← hd]; simp
  have hone : ((List.range [d].length).zip [d]) = [(0, d)] := rfl
  unfold firings
  rw [hone]
  simp only [List.map_cons, List.map_nil, hl]
  exact List.filter_cons_of_pos (decide_eq_true hg)

theorem accepting_of (hst : x.st = .armed) (hbusy : x.busy = none) (harm : x.armAt ≤ cyc) : x.accepting cyc = true := by
  unfold Ctx.accepting
  rw [hst, hbusy, decide_eq_true harm]
  rfl

/-- A context, its samples taken out to be judged. -/
def Ctx.emptied (x : Ctx) : Ctx := { x with ev := { x.ev with waiting := [] } }

/-- The samples of the one core cycle that waits, judged. -/
theorem judgeCycle_all (hx : s.ctx c = some x) (hacc : x.accepting cyc = true) (hlast : x.lastCycle ≠ some cyc)
    (hj : judgeAll (s.trigCfg c cyc) x.ev.waiting.length { x.ev with waiting := [] } x.ev.waiting = (e, ds)) :
    (∀ u, admitFirst (s.setCtx c (x.judged e ds)) c cyc (firings s c x ds) = (u, none) →
      judgeCycle (s.setCtx c x.emptied) c x.ev.waiting cyc = (u, false)) ∧
    (∀ u f, admitFirst (s.setCtx c (x.judged e ds)) c cyc (firings s c x ds) = (u, some f) →
      ∃ ev : Ctx → EvalSt, judgeCycle (s.setCtx c x.emptied) c x.ev.waiting cyc =
        (u.modCtx c fun y => { y with ev := ev y }, true)) := by
  have hself := ctx_setCtx_self s c x.emptied
  have hcfg : (s.setCtx c x.emptied).trigCfg c cyc = s.trigCfg c cyc := trigCfg_setCtx (y := x.emptied) hx rfl cyc
  have hset : (s.setCtx c x.emptied).setCtx c (x.judged e ds) = s.setCtx c (x.judged e ds) := setCtx_setCtx _ _ _ _
  have hcross : firings (s.setCtx c x.emptied) c x.emptied ds = firings s c x ds := by
    unfold firings
    simp only [locate_setCtx]
    rfl
  have hj' : judgeAll (s.trigCfg c cyc) x.ev.waiting.length x.emptied.ev x.ev.waiting = (e, ds) := hj
  have hif : x.emptied.accepting cyc = true ∧ x.emptied.lastCycle ≠ some cyc := ⟨hacc, hlast⟩
  unfold judgeCycle
  rw [hself]
  dsimp only
  rw [hcfg, hj']
  dsimp only
  rw [if_pos hif]
  constructor
  · intro u hu
    have hu' : admitFirst ((s.setCtx c x.emptied).setCtx c (x.judged e ds)) c cyc
        (firings (s.setCtx c x.emptied) c x.emptied ds) = (u, none) := by rw [hset, hcross, hu]
    split
    next v heq =>
      have hv : v = u := (congrArg Prod.fst (heq.symm.trans hu') :)
      rw [hv]
    next v f heq => exact absurd (congrArg Prod.snd (heq.symm.trans hu') :) (by simp)
  · intro u f hu
    have hu' : admitFirst ((s.setCtx c x.emptied).setCtx c (x.judged e ds)) c cyc
        (firings (s.setCtx c x.emptied) c x.emptied ds) = (u, some f) := by rw [hset, hcross, hu]
    split
    next v heq => exact absurd (congrArg Prod.snd (heq.symm.trans hu') :) (by simp)
    next v f' heq =>
      have hv : v = u := (congrArg Prod.fst (heq.symm.trans hu') :)
      rw [hv]
      exact ⟨fun y => _, rfl⟩

theorem judgeCycle_nothing (hx : s.ctx c = some x)
    (hj : judgeAll (s.trigCfg c cyc) x.ev.waiting.length { x.ev with waiting := [] } x.ev.waiting = (e, [])) :
    judgeCycle (s.setCtx c x.emptied) c x.ev.waiting cyc = (s.setCtx c { x with ev := e }, false) := by
  have hcfg : (s.setCtx c x.emptied).trigCfg c cyc = s.trigCfg c cyc := trigCfg_setCtx (y := x.emptied) hx rfl cyc
  have hj' : judgeAll (s.trigCfg c cyc) x.ev.waiting.length x.emptied.ev x.ev.waiting = (e, []) := hj
  have hset : (s.setCtx c x.emptied).setCtx c (x.judged e []) = s.setCtx c { x with ev := e } := by
    rw [setCtx_setCtx, Ctx.judged, List.isEmpty_nil, Bool.and_true]
  rw [← hset]
  unfold judgeCycle
  rw [ctx_setCtx_self]
  dsimp only
  rw [hcfg, hj']
  dsimp only
  split <;> rfl

/-! ### The judgement of one core cycle -/

theorem admitFirst_blocked_time (hx : s.ctx c = some x) {f : Nat} (hend : s.acceptEnded c x cyc = false)
    (hm : s.cN c O.HOLDOFF_MODE = 0) (hg : g < x.holdUntil) :
    admitFirst s c cyc [(g, fb, f)] = (s.countWrap c O.TRIG_HELD_OFF 64, none) := by
  unfold admitFirst
  simp only [hx, hend]
  rw [if_neg (by decide), if_pos ⟨hm, hg⟩]
  rfl

theorem admitFirst_blocked_events (hx : s.ctx c = some x) {f : Nat} (hend : s.acceptEnded c x cyc = false)
    (hm : s.cN c O.HOLDOFF_MODE ≠ 0) (he : x.holdEvents ≠ 0) : admitFirst s c cyc [(g, fb, f)] =
      ((s.setCtx c { x with holdEvents := x.holdEvents - 1 }).countWrap c O.TRIG_HELD_OFF 64, none) := by
  unfold admitFirst
  simp only [hx, hend]
  rw [if_neg (by decide), if_neg (fun h => hm h.1), if_pos ⟨hm, he⟩]
  rfl

theorem admitFirst_admitted (hx : s.ctx c = some x) {f : Nat} (hend : s.acceptEnded c x cyc = false)
    (h : (s.cN c O.HOLDOFF_MODE = 0 ∧ x.holdUntil ≤ g) ∨ (s.cN c O.HOLDOFF_MODE ≠ 0 ∧ x.holdEvents = 0)) :
    admitFirst s c cyc [(g, fb, f)] = (acceptEvent s c g f false fb, some f) := by
  unfold admitFirst
  simp only [hx, hend]
  rw [if_neg (by decide), if_neg, if_neg]
  · rintro ⟨h1, h2⟩
    rcases h with h | h
    · exact h1 h.1
    · exact h2 h.2
  · rintro ⟨h1, h2⟩
    rcases h with h | h
    · omega
    · exact h.1 h1

/-- The loop over one core cycle of samples, none of them forced. -/
theorem acceptLoop_cycle {q : Nat} (hx : s.ctx c = some x) (hne : x.ev.waiting ≠ [])
    (hall : ∀ j ∈ x.ev.waiting, j.at_ / 23040 = q ∧ j.src ≠ forceSrc) (hhor : (q + 1) * 23040 ≤ s.horizon c x.late) :
    acceptLoop c (n + 1) s = if (judgeCycle (s.setCtx c x.emptied) c x.ev.waiting (q * 48)).2
      then (judgeCycle (s.setCtx c x.emptied) c x.ev.waiting (q * 48)).1
      else acceptLoop c n (judgeCycle (s.setCtx c x.emptied) c x.ev.waiting (q * 48)).1 := by
  obtain ⟨j, r, hw⟩ := List.exists_cons_of_ne_nil hne
  obtain ⟨hq, hsrc⟩ := hall j (hw ▸ List.mem_cons_self)
  have hin : (j :: r).filter (fun i => i.at_ / 23040 == q) = j :: r :=
    List.filter_eq_self.2 fun i hi => beq_iff_eq.2 (hall i (hw ▸ hi)).1
  have hout : (j :: r).filter (fun i => i.at_ / 23040 != q) = [] :=
    List.filter_eq_nil_iff.2 fun i hi => by simp [(hall i (hw ▸ hi)).1]
  rw [acceptLoop]
  unfold Ctx.emptied
  simp only [hx, hw, hq, hin, hout]
  rw [if_neg hsrc, if_neg (Nat.not_lt_of_le hhor)]
  split
  · rename_i u hj
    rw [hj, if_pos rfl]
  · rename_i u hj
    rw [hj, if_neg Bool.false_ne_true]

theorem acceptLoop_blocked {q : Nat} {u : State} {y : Ctx} (hx : s.ctx c = some x) (hne : x.ev.waiting ≠ [])
    (hall : ∀ j ∈ x.ev.waiting, j.at_ / 23040 = q ∧ j.src ≠ forceSrc) (hhor : (q + 1) * 23040 ≤ s.horizon c x.late)
    (hj : judgeCycle (s.setCtx c x.emptied) c x.ev.waiting (q * 48) = (u, false)) (hy : u.ctx c = some y)
    (hw : y.ev.waiting = []) : acceptLoop c (n + 1) s = u := by
  rw [acceptLoop_cycle hx hne hall hhor, hj, if_neg Bool.false_ne_true]
  exact acceptLoop_empty hy hw n

theorem acceptLoop_taken {q : Nat} {u : State} (hx : s.ctx c = some x) (hne : x.ev.waiting ≠ [])
    (hall : ∀ j ∈ x.ev.waiting, j.at_ / 23040 = q ∧ j.src ≠ forceSrc) (hhor : (q + 1) * 23040 ≤ s.horizon c x.late)
    (hj : judgeCycle (s.setCtx c x.emptied) c x.ev.waiting (q * 48) = (u, true)) : acceptLoop c (n + 1) s = u := by
  rw [acceptLoop_cycle hx hne hall hhor, hj, if_pos rfl]

theorem judged_empty {q : Nat} (hj : judgeAll (s.trigCfg c (q * 48)) x.ev.waiting.length { x.ev with waiting := [] } x.ev.waiting = (e, ds)) :
    e.waiting = [] := by
  have h := judgeAll_waiting (s.trigCfg c (q * 48)) x.ev.waiting.length { x.ev with waiting := [] } x.ev.waiting
  rw [hj] at h
  exact h

/-- The state after an event that holdoff blocks: it is counted. -/
theorem heldOff_left (s : State) (c : Nat) (y : Ctx) : let t := settle ((s.setCtx c y).countWrap c O.TRIG_HELD_OFF 64)
    t.ctx c = some y ∧ (t.obj c O.TRIG_HELD_OFF).toNat = ((s.obj c O.TRIG_HELD_OFF).toNat + 1) % 2 ^ 64 ∧
    t.obj c O.TRIG_EVENTS = s.obj c O.TRIG_EVENTS ∧ CtxsBut c s t ∧
    OnlyObjs [objKey c O.TRIG_HELD_OFF] { s with ctxs := t.ctxs } t := by
  have hnat : (ofN (((s.obj c O.TRIG_HELD_OFF).toNat + 1) % 2 ^ 64)).toNat = ((s.obj c O.TRIG_HELD_OFF).toNat + 1) % 2 ^ 64 :=
    ofN_toNat _ (Nat.mod_lt _ (by decide))
  simp only [State.countWrap_eq, State.setCtx_obj]
  refine ⟨?_, ?_, ?_, ?_, ?_⟩
  · rw [ctx_settle, State.setObj_ctx, ctx_setCtx_self]
  · rw [obj_settle_of _ _ _ (by decide) (by decide), State.obj_setObj_self, hnat]
  · rw [obj_settle_of _ _ _ (by decide) (by decide), State.obj_setObj _ _ _ _ _ _ (by decide) (by decide),
      if_neg (fun h => absurd h.2 (by decide)), State.setCtx_obj]
  · exact CtxsBut.settled (t := (s.setCtx c y).setObj c O.TRIG_HELD_OFF _) (ctxsBut_setCtx s c y)
  · rw [settle_ctxs]
    exact (((onlyObjs_refl s _).setCtx c y).put (j := c) (k := O.TRIG_HELD_OFF) List.mem_cons_self _).settled

section
variable {q : Nat} (hx : s.ctx c = some x) (hst : x.st = .armed) (hbusy : x.busy = none) (harm : x.armAt ≤ q * 48)
  (hne : x.ev.waiting ≠ []) (hall : ∀ j ∈ x.ev.waiting, j.at_ / 23040 = q ∧ j.src ≠ forceSrc)
  (hhor : (q + 1) * 23040 ≤ s.horizon c x.late)
  (hj : judgeAll (s.trigCfg c (q * 48)) x.ev.waiting.length { x.ev with waiting := [] } x.ev.waiting = (e, ds))

include hx hst hne hall hhor hj

theorem triggerAccept_nothing (hds : ds = []) : Answers (.triggerAccept c) s fun t =>
    t.ctx c = some { x with ev := e } ∧ CtxsBut c s t ∧ OnlyObjs [] { s with ctxs := t.ctxs } t := by
  subst hds
  have hw := judged_empty hj
  exact answers_setCtx ((exec_triggerAccept_armed hx hst).trans (congrArg done
    (acceptLoop_blocked hx hne hall hhor (judgeCycle_nothing hx hj) (ctx_setCtx_self _ _ _) hw)))

include hbusy harm

variable {d : Detection} (hd : s.locate (s.firingDie c x) x.late d = (g, fb)) (hg : x.armAt * 480 ≤ g)
  (hlast : x.lastCycle ≠ some (q * 48)) (hend : s.acceptEnded c x (q * 48) = false)
include hd hg hlast hend

/-- A detection that holdoff by time blocks is counted and nothing else. -/
theorem triggerAccept_blocked_time (hds : ds = [d]) (hm : s.cN c O.HOLDOFF_MODE = 0) (hu : g < x.holdUntil) :
    Answers (.triggerAccept c) s fun t =>
      (t.obj c O.TRIG_HELD_OFF).toNat = ((s.obj c O.TRIG_HELD_OFF).toNat + 1) % 2 ^ 64 ∧
      t.obj c O.TRIG_EVENTS = s.obj c O.TRIG_EVENTS ∧ CtxsBut c s t ∧
      OnlyObjs [objKey c O.TRIG_HELD_OFF] { s with ctxs := t.ctxs } t := by
  subst hds
  have hself := ctx_setCtx_self s c (x.judged e [d])
  obtain ⟨hblocked, -⟩ := judgeCycle_all hx (accepting_of hst hbusy harm) hlast hj
  rw [firings_one hd hg] at hblocked
  have hjc := hblocked _ (admitFirst_blocked_time (g := g) (fb := fb) (f := d.fire) hself hend hm hu)
  have hloop := acceptLoop_blocked (n := x.ev.waiting.length) hx hne hall hhor hjc
    ((State.setObj_ctx _ _ _ _ _).trans hself) (judged_empty hj)
  obtain ⟨-, h⟩ := heldOff_left s c (x.judged e [d])
  exact answers_done ((exec_triggerAccept_armed hx hst).trans (congrArg done hloop)) h

/-- A detection that holdoff by events blocks is counted, and so is the event. -/
theorem triggerAccept_blocked_events (hds : ds = [d]) (hm : s.cN c O.HOLDOFF_MODE ≠ 0) (he : x.holdEvents ≠ 0) :
    Answers (.triggerAccept c) s fun t =>
      (∃ y, t.ctx c = some y ∧ y.holdEvents + 1 = x.holdEvents) ∧
      (t.obj c O.TRIG_HELD_OFF).toNat = ((s.obj c O.TRIG_HELD_OFF).toNat + 1) % 2 ^ 64 ∧ CtxsBut c s t ∧
      OnlyObjs [objKey c O.TRIG_HELD_OFF] { s with ctxs := t.ctxs } t := by
  subst hds
  have hself := ctx_setCtx_self s c (x.judged e [d])
  obtain ⟨hblocked, -⟩ := judgeCycle_all hx (accepting_of hst hbusy harm) hlast hj
  rw [firings_one hd hg] at hblocked
  have hjc := hblocked _ (admitFirst_blocked_events (g := g) (fb := fb) (f := d.fire) hself hend hm he)
  rw [setCtx_setCtx] at hjc
  have hloop := acceptLoop_blocked (n := x.ev.waiting.length) hx hne hall hhor hjc
    ((State.setObj_ctx _ _ _ _ _).trans (ctx_setCtx_self _ _ _)) (judged_empty hj)
  obtain ⟨hc, ho, -, hb, hf⟩ := heldOff_left s c { x.judged e [d] with holdEvents := (x.judged e [d]).holdEvents - 1 }
  exact answers_done ((exec_triggerAccept_armed hx hst).trans (congrArg done hloop))
    ⟨⟨_, hc, Nat.succ_pred_eq_of_ne_zero he⟩, ho, hb, hf⟩

/-- A detection that holdoff admits is accepted. -/
theorem triggerAccept_admitted (hds : ds = [d]) (hp : x.pending.length < 16) (huse : x.inUse < s.cN c O.SEG_TABLE_SIZE)
    (hh : (s.cN c O.HOLDOFF_MODE = 0 ∧ x.holdUntil ≤ g) ∨ (s.cN c O.HOLDOFF_MODE ≠ 0 ∧ x.holdEvents = 0)) :
    Answers (.triggerAccept c) s fun t =>
      (t.obj c O.TRIG_EVENTS).toNat = ((s.obj c O.TRIG_EVENTS).toNat + 1) % 2 ^ 64 ∧
      t.obj c O.TRIG_LAST_TM = tmOfGrains g ∧ bit (t.obj c O.TRIG_STATUS) 0 = true ∧
      (∃ y, t.ctx c = some y ∧ y.holdUntil = g + s.cN c O.HOLDOFF_TIME * 480 ∧
        y.holdEvents = s.cN c O.HOLDOFF_EVENTS ∧ y.sinceArm = x.sinceArm + 1 ∧
        (y.pending.map Segment.tm) = x.pending.map Segment.tm ++ [g] ∧
        (x.partners ≠ [] → y.toCompare = x.toCompare ++ [(d.fire, g, fb)])) ∧
      CtxsBut c s t ∧ t.mem = s.mem ∧ t.inputs = s.inputs ∧ t.dies = s.dies := by
  subst hds
  have hself := ctx_setCtx_self s c (x.judged e [d])
  obtain ⟨-, htaken⟩ := judgeCycle_all hx (accepting_of hst hbusy harm) hlast hj
  rw [firings_one hd hg] at htaken
  obtain ⟨ev, hjc⟩ := htaken _ _ (admitFirst_admitted (g := g) (fb := fb) (f := d.fire) hself hend hh)
  obtain ⟨hev, htm, hst', ⟨y, hy, pd, tb, dc, tf, mn, rfl⟩, hroom, hctxs, hmem, hin, hdies⟩ :=
    acceptEvent_accepted (g := g) (fire := d.fire) (fb := fb) hself false
  obtain ⟨y', hy', hpend⟩ := hroom hbusy hp huse
  obtain rfl := Option.some.inj (hy'.symm.trans hy)
  rw [modCtx_some hy] at hjc
  refine answers_done ((exec_triggerAccept_armed hx hst).trans (congrArg done
    (acceptLoop_taken (n := x.ev.waiting.length) hx hne hall hhor hjc))) ?_
  generalize acceptEvent (s.setCtx c (x.judged e [d])) c g d.fire false fb = u at *
  refine ⟨?_, ?_, ?_, ⟨_, (ctx_settle c).trans (ctx_setCtx_self _ _ _), rfl, rfl, rfl, hpend, fun hp => ?_⟩, ?_, ?_, ?_, ?_⟩
  · rw [obj_settle_of _ _ _ (by decide) (by decide), State.setCtx_obj, hev, State.setCtx_obj]
  · rw [obj_settle_of _ _ _ (by decide) (by decide), State.setCtx_obj, htm]
  · rw [obj_settle_of _ _ _ (by decide) (by decide), State.setCtx_obj, hst']
  · exact if_neg hp
  · exact (((ctxsBut_setCtx s c _).trans hctxs).trans (ctxsBut_setCtx _ _ _)).settled
  · rw [settle_mem, State.setCtx_mem, hmem, State.setCtx_mem]
  · rw [settle_inputs, State.setCtx_inputs, hin, State.setCtx_inputs]
  · rw [settle_dies, State.setCtx_dies, hdies, State.setCtx_dies]

end

/-- Settles O27: the one core cycle of samples that waits is judged, and its one detection is accepted or held off. -/
theorem triggerAccepts : Obligations.TriggerAccepts := by
  intro s c q x e ds hx hst hbusy harm hne hall hhor hj
  refine ⟨triggerAccept_nothing hx hst hne hall hhor hj, fun d g fb hds hd hg hlast hend => ⟨?_, ?_, ?_⟩⟩
  · exact triggerAccept_admitted hx hst hbusy harm hne hall hhor hj hd hg hlast hend hds
  · exact triggerAccept_blocked_time hx hst hbusy harm hne hall hhor hj hd hg hlast hend hds
  · exact triggerAccept_blocked_events hx hst hbusy harm hne hall hhor hj hd hg hlast hend hds

end Sys2Proof.Machine
end

section
/-! ## Level writes (R168) -/

namespace Sys2Proof.Machine

variable {s t : State} {c k p i sub u A : Nat} {x : Ctx} {v old : Slot}

/-! ### The levels that wait -/

/-- The level of object `k` that waits at the instant `u`. -/
def liveLevel (k u : Nat) (l : Nat × Nat × Slot) : Bool := decide (u < l.1) && l.2.1 == k

theorem lvl_eq (hx : s.ctx c = some x) (k u : Nat) :
    s.lvl c k u = ((x.levels.find? (liveLevel k u)).map fun l => l.2.2).getD (s.obj c k) := by
  have hf : (x.levels.find? fun l => decide (u < l.1) && l.2.1 == k) = x.levels.find? (liveLevel k u) := rfl
  unfold State.lvl
  rw [hx]
  dsimp only
  rw [hf]
  cases x.levels.find? (liveLevel k u) <;> rfl

/-- The core cycle in which a level written at `now` comes into force (R168). -/
def levelDue (now : Nat) : Nat := (now + 384 + 47) / 48 * 48

/-- A second write moves the one that waits (R168). -/
def Ctx.levelWaits (x : Ctx) (now : Nat) : Bool := x.levelsWait && decide (now < x.levelsAt)

/-- The levels once object `k`, whose value in force is `old`, is written at `now`. -/
def Ctx.levelsWritten (x : Ctx) (now k : Nat) (old : Slot) : List (Nat × Nat × Slot) :=
  let ls := if x.levelWaits now then x.levels.map fun l => if l.1 = x.levelsAt then (levelDue now, l.2) else l else x.levels
  if x.levelWaits now && x.levels.any fun l => l.1 == x.levelsAt && l.2.1 == k then ls
  else ls ++ [(levelDue now, k, old)]

/-- The context after a level write while it is bound. -/
def Ctx.levelWritten (x : Ctx) (now k : Nat) (old : Slot) : Ctx :=
  { x with levels := x.levelsWritten now k old, levelsWait := true, levelsAt := levelDue now }

theorem levelDue_bounds (now : Nat) : now + 384 ≤ levelDue now ∧ levelDue now < now + 384 + 48 ∧ levelDue now % 48 = 0 := by
  unfold levelDue
  omega

/-- Every level in the list waits for the core cycle in which the last write comes into force, or has come into force. -/
def Ctx.OneWaits (x : Ctx) (now : Nat) : Prop := ∀ l ∈ x.levels, now < l.1 → x.levelsWait = true ∧ l.1 = x.levelsAt

theorem levels_stale {now : Nat} (h : x.OneWaits now) (hw : x.levelWaits now = false) : ∀ l ∈ x.levels, l.1 ≤ now := by
  intro l hl
  by_contra hlt
  obtain ⟨hwait, hat⟩ := h l hl (by omega)
  unfold Ctx.levelWaits at hw
  rw [hwait, decide_eq_true (by omega)] at hw
  exact absurd hw (by decide)

theorem find_moved {now : Nat} (h : x.OneWaits now) (hn : now ≤ u) (hu : u < levelDue now) (hlt : now < x.levelsAt) :
    (x.levels.map fun l => if l.1 = x.levelsAt then (levelDue now, l.2) else l).find? (liveLevel k u) =
      (x.levels.find? (liveLevel k now)).map fun l => if l.1 = x.levelsAt then (levelDue now, l.2) else l := by
  rw [List.find?_map]
  congr 1
  refine List.find?_congr fun l hl => ?_
  unfold liveLevel
  rw [Function.comp]
  by_cases he : l.1 = x.levelsAt
  · rw [if_pos he, decide_eq_true hu, he, decide_eq_true hlt]
  · have hle : l.1 ≤ now := by
      by_contra hgt
      exact he (h l hl (by omega)).2
    rw [if_neg he, decide_eq_false (by omega), decide_eq_false (by omega)]

theorem find_stale (h : ∀ l ∈ x.levels, l.1 ≤ u) : x.levels.find? (liveLevel k u) = none :=
  List.find?_eq_none.2 fun l hl => by
    unfold liveLevel
    simp [h l hl]

/-- Until the write comes into force the object reads as at the write. -/
theorem find_written_before {now : Nat} (h : x.OneWaits now) (hn : now ≤ u) (hu : u < levelDue now) (d : Slot) :
    (((x.levelsWritten now k (((x.levels.find? (liveLevel k now)).map fun l => l.2.2).getD d)).find?
      (liveLevel k u)).map fun l => l.2.2) = some (((x.levels.find? (liveLevel k now)).map fun l => l.2.2).getD d) := by
  have hnew (w : Slot) : [(levelDue now, k, w)].find? (liveLevel k u) = some (levelDue now, k, w) :=
    List.find?_cons_of_pos (by simp [liveLevel, hu])
  cases hw : x.levelWaits now with
  | false =>
    have hst := levels_stale h hw
    rw [Ctx.levelsWritten]
    simp only [hw, Bool.false_and]
    rw [if_neg (by decide), if_neg (by decide), List.find?_append, find_stale fun l hl => (hst l hl).trans hn, Option.none_or,
      hnew]
    rfl
  | true =>
    have hlt : now < x.levelsAt := by
      rw [Ctx.levelWaits, Bool.and_eq_true] at hw
      exact of_decide_eq_true hw.2
    rw [Ctx.levelsWritten]
    simp only [hw, Bool.true_and, if_true]
    split
    next hany =>
      obtain ⟨l, hl, hlk⟩ := List.any_eq_true.1 hany
      rw [Bool.and_eq_true, beq_iff_eq, beq_iff_eq] at hlk
      have hsome : (x.levels.find? (liveLevel k now)).isSome = true :=
        List.find?_isSome.2 ⟨l, hl, by simp [liveLevel, hlk.1, hlk.2, hlt]⟩
      obtain ⟨m, hm⟩ := Option.isSome_iff_exists.1 hsome
      rw [find_moved h hn hu hlt, hm]
      simp only [Option.map_some, Option.getD_some]
      split <;> rfl
    next hany =>
      have hnone : x.levels.find? (liveLevel k now) = none := List.find?_eq_none.2 fun l hl hlive => by
        rw [liveLevel, Bool.and_eq_true] at hlive
        obtain ⟨-, hat⟩ := h l hl (of_decide_eq_true hlive.1)
        exact hany (List.any_eq_true.2 ⟨l, hl, by rw [Bool.and_eq_true]; exact ⟨beq_iff_eq.2 hat, hlive.2⟩⟩)
      rw [List.find?_append, find_moved h hn hu hlt, hnone, Option.map_none, Option.none_or, hnew]
      rfl

theorem levelsWritten_le {now : Nat} (h : x.OneWaits now) : ∀ l ∈ x.levelsWritten now k old, l.1 ≤ levelDue now := by
  have hdue := levelDue_bounds now
  have hls : ∀ l ∈ (if x.levelWaits now then x.levels.map fun l => if l.1 = x.levelsAt then (levelDue now, l.2) else l
      else x.levels), l.1 ≤ levelDue now := by
    intro l hl
    split at hl
    next =>
      obtain ⟨m, hm, rfl⟩ := List.mem_map.1 hl
      split
      · exact Nat.le_refl _
      next hne =>
        by_contra hgt
        exact hne (h m hm (by omega)).2
    next hw =>
      have := levels_stale h (Bool.eq_false_iff.2 hw) l hl
      omega
  intro l hl
  rw [Ctx.levelsWritten] at hl
  split at hl
  · exact hls l hl
  · rcases List.mem_append.1 hl with hl | hl
    · exact hls l hl
    · rw [List.mem_singleton.1 hl]

theorem find_written_after {now : Nat} (h : x.OneWaits now) (hu : levelDue now ≤ u) :
    (x.levelsWritten now k old).find? (liveLevel k u) = none :=
  find_stale (x := x.levelWritten now k old) fun l hl => (levelsWritten_le h l hl).trans hu

/-! ### The write -/

/-- A write that came into force before its event was taken gives its time first (R168). -/
def levelNoted (s : State) (c : Nat) (x : Ctx) : State :=
  if x.levelsWait && !(x.levelWaits s.now) then s.putTm c O.TRIG_LEVEL_TM x.levelsAt else s

theorem levelWrite_bound (hx : s.ctx c = some x) (hb : x.bound = true) : levelWrite s c k v =
    .ok ((levelNoted (s.setObj c k v) c x).setCtx c (x.levelWritten s.now k (s.lvl c k s.now))) := by
  unfold levelWrite
  rw [hx]
  exact if_pos hb

theorem levelWrite_unbound (hx : s.ctx c = some x) (hb : x.bound = false) :
    levelWrite s c k v = .ok (s.setObj c k v) := by
  unfold levelWrite
  rw [hx]
  exact if_neg (by rw [hb]; decide)

theorem isLevelObj_bounds (h : isLevelObj k = true) : k < 2 ^ 24 ∧ k ≠ O.TRIG_LEVEL_TM ∧ k ∉ settleObjs := by
  simp only [isLevelObj, O.TRIG_LEVEL, O.TRIG_HYST, O.TRIG_LEVEL_B, O.SEQ_B_LEVEL, O.SEQ_B_HYST, O.PAT_LEVEL_k,
    Bool.or_eq_true, Bool.and_eq_true, beq_iff_eq, decide_eq_true_eq] at h
  simp only [settleObjs, O.TRIG_LEVEL_TM, O.STEWARD_ACTIVE, O.STEWARD_TM, O.DEVICE_STATE_TM, O.DEVICE_STATE_WRAP,
    O.CXL_STATUS, O.FB_FLAGS, List.mem_cons, List.not_mem_nil, or_false]
  omega

/-- The touchmark of the last level change, in its object and its wrap count. -/
def levelKeys (c k : Nat) : List Nat :=
  [objKey c k, objKey c O.TRIG_LEVEL_TM, objKey (wrapInst c) O.TRIG_LEVEL_TM]

theorem levelNoted_frame (s : State) (c k : Nat) (x : Ctx) (v : Slot) :
    OnlyObjs (levelKeys c k) s (levelNoted (s.setObj c k v) c x) := by
  have h := (onlyObjs_refl s (levelKeys c k)).put (j := c) (k := k) List.mem_cons_self v
  unfold levelNoted
  split
  · rw [State.putTm_eq]
    exact (h.put (by simp [levelKeys]) _).put (by simp [levelKeys]) _
  · exact h

theorem levelNoted_obj (hk : k < 2 ^ 24) (hne : k ≠ O.TRIG_LEVEL_TM) :
    (levelNoted (s.setObj c k v) c x).obj c k = v := by
  unfold levelNoted
  split
  · rw [State.putTm_eq, State.obj_setObj _ _ _ _ _ _ (by decide) hk, if_neg fun h => hne h.2,
      State.obj_setObj _ _ _ _ _ _ (by decide) hk, if_neg fun h => hne h.2, State.obj_setObj_self]
  · exact State.obj_setObj_self _ _ _ _

theorem levelNoted_tm (hk : k < 2 ^ 24) (hne : k ≠ O.TRIG_LEVEL_TM) (h : x.levelsWait = false ∨ s.now < x.levelsAt) :
    (levelNoted (s.setObj c k v) c x).obj c O.TRIG_LEVEL_TM = s.obj c O.TRIG_LEVEL_TM := by
  have hno : (x.levelsWait && !(x.levelWaits (s.setObj c k v).now)) = false := by
    have hnow : (s.setObj c k v).now = s.now := rfl
    rw [Ctx.levelWaits, hnow]
    rcases h with h | h
    · rw [h]; rfl
    · rw [decide_eq_true h, Bool.and_true, Bool.and_not_self]
  unfold levelNoted
  rw [hno, if_neg (by decide), State.obj_setObj _ _ _ _ _ _ hk (by decide), if_neg fun h => hne h.2.symm]

theorem levelNoted_ctx (d : Nat) : (levelNoted s c x).ctx d = s.ctx d := by
  unfold levelNoted
  split <;> rfl

theorem lvl_settle (u : Nat) (hk : k < 2 ^ 24) (hn : k ∉ settleObjs) : (settle s).lvl c k u = s.lvl c k u := by
  unfold State.lvl
  rw [ctx_settle, obj_settle_of _ _ _ hk hn]

theorem exec_levelWrite (hl : isLevelObj (i * 256 + sub) = true) : exec (.trigLevelWrite p i sub v) s =
    done (access s p (i * 256 + sub) fun s => ctxOwnerOnly s p (s.selected p) fun s =>
      need (levelRange (i * 256 + sub) v) .range s fun s => levelWrite s (s.selected p) (i * 256 + sub) v) := by
  rw [exec_trigLevelWrite]
  unfold execTrigLevelWrite
  exact congrArg done (if_pos hl)

theorem settle_now (s : State) : (settle s).now = s.now := by
  unfold State.now
  rw [settle_counter, settle_wraps]

/-- What a level write leaves, whether the context is bound or not. -/
structure LevelWritten (s t : State) (c k : Nat) (v : Slot) (x : Ctx) : Prop where
  obj : t.obj c k = v
  bound : x.bound = true → ∃ y, t.ctx c = some y ∧ s.now + 384 ≤ y.levelsAt ∧ y.levelsAt < s.now + 384 + 48 ∧
    y.levelsAt % 48 = 0 ∧ (∀ u, s.now ≤ u → u < y.levelsAt → t.lvl c k u = s.lvl c k s.now) ∧
    ∀ u, y.levelsAt ≤ u → t.lvl c k u = v
  unbound : x.bound = false → t.ctx c = some x
  ctxs : CtxsBut c s t
  tm : x.levelsWait = false ∨ s.now < x.levelsAt → t.obj c O.TRIG_LEVEL_TM = s.obj c O.TRIG_LEVEL_TM
  frame : OnlyObjs (levelKeys c k) { s with ctxs := t.ctxs } t

theorem levelWritten_bound (hx : s.ctx c = some x) (hb : x.bound = true) (hl : isLevelObj k = true)
    (h1 : x.OneWaits s.now) : LevelWritten s (settle ((levelNoted (s.setObj c k v) c x).setCtx c
      (x.levelWritten s.now k (s.lvl c k s.now)))) c k v x := by
  obtain ⟨hk, hne, hn⟩ := isLevelObj_bounds hl
  have hobj := levelNoted_obj (s := s) (c := c) (x := x) (v := v) hk hne
  have htm := levelNoted_tm (s := s) (c := c) (x := x) (v := v) hk hne
  have hframe := levelNoted_frame s c k x v
  have hctx : CtxsBut c s (levelNoted (s.setObj c k v) c x) := fun d _ => levelNoted_ctx d
  have hlvl : s.lvl c k s.now = _ := lvl_eq hx k s.now
  generalize levelNoted (s.setObj c k v) c x = w at *
  have hself := ctx_setCtx_self w c (x.levelWritten s.now k (s.lvl c k s.now))
  obtain ⟨hlo, hhi, h48⟩ := levelDue_bounds s.now
  refine ⟨?_, fun _ => ⟨_, (ctx_settle c).trans hself, hlo, hhi, h48, fun u hn' hu => ?_, fun u hu => ?_⟩,
    fun h => absurd (hb.symm.trans h) (by decide), ?_, fun h => ?_, ?_⟩
  · rw [obj_settle_of _ _ _ hk hn, State.setCtx_obj, hobj]
  · have hf := find_written_before (k := k) h1 hn' hu (s.obj c k)
    rw [← hlvl] at hf
    rw [lvl_settle u hk hn, lvl_eq hself]
    exact congrArg (Option.getD · _) hf
  · rw [lvl_settle u hk hn, lvl_eq hself, State.setCtx_obj, hobj]
    show ((Option.map _ ((x.levelsWritten s.now k (s.lvl c k s.now)).find? (liveLevel k u))).getD v) = v
    rw [find_written_after h1 hu]
    rfl
  · exact (hctx.trans (ctxsBut_setCtx w c _)).settled
  · rw [obj_settle_of _ _ _ (by decide) (by decide), State.setCtx_obj, htm h]
  · rw [settle_ctxs]
    exact (hframe.setCtx c _).settled

theorem levelWritten_unbound (hx : s.ctx c = some x) (hb : x.bound = false) (hl : isLevelObj k = true) :
    LevelWritten s (settle (s.setObj c k v)) c k v x := by
  obtain ⟨hk, hne, hn⟩ := isLevelObj_bounds hl
  refine ⟨?_, fun h => absurd (hb.symm.trans h) (by decide), fun _ => ?_, ?_, fun _ => ?_, ?_⟩
  · rw [obj_settle_of _ _ _ hk hn, State.obj_setObj_self]
  · rw [ctx_settle, State.setObj_ctx, hx]
  · exact CtxsBut.settled (t := s.setObj c k v) fun d _ => State.setObj_ctx _ _ _ _ _
  · rw [obj_settle_of _ _ _ (by decide) (by decide), State.obj_setObj _ _ _ _ _ _ hk (by decide),
      if_neg fun h => hne h.2.symm]
  · rw [settle_ctxs]
    exact ((onlyObjs_refl s _).put (j := c) (k := k) List.mem_cons_self v).settled

theorem ctxOwner_of (hx : s.ctx c = some x) : s.ctxOwner c = x.owner := by rw [State.ctxOwner, hx]

theorem LevelWritten.ofTurned (h : LevelWritten s.turned t c k v x) : LevelWritten s t c k v x :=
  ⟨h.obj, h.bound, h.unbound, h.ctxs, h.tm, h.frame.1, h.frame.2⟩

theorem trigLevelWrite_answers (h : Served s p) (hsub : sub < 256) (hl : isLevelObj (i * 256 + sub) = true)
    (hm : s.missing i sub = none) (hx : s.ctx (s.selected p) = some x) (ho : ownerOf p = x.owner)
    (hr : levelRange (i * 256 + sub) v = true) (h1 : x.OneWaits s.now) :
    Answers (.trigLevelWrite p i sub v) s fun t => LevelWritten s t (s.selected p) (i * 256 + sub) v x := by
  have hm' : s.missing ((i * 256 + sub) / 256) ((i * 256 + sub) % 256) = none := by
    rw [show (i * 256 + sub) / 256 = i by omega, show (i * 256 + sub) % 256 = sub by omega, hm]
  have ho' : ownerOf p = s.turned.ctxOwner (s.selected p) := by
    rw [ho]
    exact (ctxOwner_of (s := s.turned) hx).symm
  have hgo (f : Acc) (hf : levelWrite s.turned (s.selected p) (i * 256 + sub) v = f) :
      (ctxOwnerOnly s.turned p (s.turned.selected p) fun s =>
        need (levelRange (i * 256 + sub) v) .range s fun s => levelWrite s (s.selected p) (i * 256 + sub) v) = f :=
    (ctxOwnerOnly_pos ho' _).trans ((need_pos s.turned hr _ _).trans hf)
  cases hb : x.bound with
  | true =>
    refine answers_access (exec_levelWrite hl) h hm' (hgo _ (levelWrite_bound hx hb)) ?_
    exact (levelWritten_bound (s := s.turned) hx hb hl h1).ofTurned
  | false =>
    refine answers_access (exec_levelWrite hl) h hm' (hgo _ (levelWrite_unbound hx hb)) ?_
    exact (levelWritten_unbound (s := s.turned) hx hb hl).ofTurned

theorem exec_levelInForce (hx : s.ctx c = some x) (hw : x.levelsWait = true) : exec (.trigLevelInForce c) s =
    done (((s.runTo x.levelsAt).setCtx c { x with levelsWait := false }).putTm c O.TRIG_LEVEL_TM x.levelsAt) := by
  rw [exec_trigLevelInForce]
  unfold execTrigLevelInForce
  rw [hx]
  exact congrArg done (if_pos hw)

/-- The core cycle in which a level write comes into force. -/
theorem trigLevelInForce_answers (hx : s.ctx c = some x) (hw : x.levelsWait = true) (hle : ∀ l ∈ x.levels, l.1 ≤ x.levelsAt) :
    Answers (.trigLevelInForce c) s fun t =>
      t.ctx c = some { x with levelsWait := false } ∧ t.obj c O.TRIG_LEVEL_TM = tmOf x.levelsAt ∧
      (∀ k u, x.levelsAt ≤ u → t.lvl c k u = t.obj c k) ∧ CtxsBut c s t ∧ t.mem = s.mem ∧ t.inputs = s.inputs := by
  have hself := ctx_setCtx_self (s.runTo x.levelsAt) c { x with levelsWait := false }
  have hbut : CtxsBut c s ((s.runTo x.levelsAt).setCtx c { x with levelsWait := false }) :=
    (ctxsBut_congr (runTo_ctxs s _) c).trans (ctxsBut_setCtx _ _ _)
  have hmem : ((s.runTo x.levelsAt).setCtx c { x with levelsWait := false }).mem = s.mem := runTo_mem s _
  have hin : ((s.runTo x.levelsAt).setCtx c { x with levelsWait := false }).inputs = s.inputs := runTo_inputs s _
  refine answers_done (exec_levelInForce hx hw) ?_
  generalize (s.runTo x.levelsAt).setCtx c { x with levelsWait := false } = w at *
  have hc : (settle (w.putTm c O.TRIG_LEVEL_TM x.levelsAt)).ctx c = some { x with levelsWait := false } := by
    rw [ctx_settle, State.putTm_eq, State.setObj_ctx, State.setObj_ctx, hself]
  refine ⟨hc, ?_, fun k u hu => ?_, ?_, ?_, ?_⟩
  · rw [obj_settle_of _ _ _ (by decide) (by decide), State.putTm_eq, State.obj_setObj_ne, State.obj_setObj_self]
    · rfl
    · simp only [objKey, wrapInst]
      omega
  · rw [lvl_eq hc, find_stale (x := { x with levelsWait := false }) fun l hl => (hle l hl).trans hu]
    rfl
  · refine CtxsBut.settled (hbut.trans fun d _ => ?_)
    rw [State.putTm_eq, State.setObj_ctx, State.setObj_ctx]
  · rw [settle_mem, State.putTm_eq, State.setObj_mem, State.setObj_mem, hmem]
  · rw [settle_inputs, State.putTm_eq, State.setObj_inputs, State.setObj_inputs, hin]

/-- Settles O30: a level written while its context is bound reads as before until it comes into force. -/
theorem levelWrites : Obligations.LevelWrites := by
  refine ⟨fun s p i sub v x h hsub hl => ⟨fun a ha => ?_, fun hm hx ho hr h1 => ?_⟩,
    fun s c x hx hw hle => trigLevelInForce_answers hx hw hle⟩
  · refine rejected_missing (exec_levelWrite hl) h ?_
    rw [show (i * 256 + sub) / 256 = i by omega, show (i * 256 + sub) % 256 = sub by omega, ha]
  · exact (trigLevelWrite_answers h hsub hl hm hx ho hr h1).mono fun t ⟨h1, h2, h3, h4, h5, h6⟩ => ⟨h1, h2, h3, h4, h5, h6⟩

end Sys2Proof.Machine
end

section
/-! ## Wakes (R491, R495) -/

namespace Sys2Proof.Machine

variable {s t u : State}

/-- The objects of a wake. -/
def wakeKeys : List Nat :=
  [objKey 0 O.WAKE_CAUSE, objKey 0 O.WAKE_INPUT, objKey 0 O.WAKE_TM, objKey 0 O.WAKE_WRAP, objKey 0 O.POWER_PHASE]

/-- Between `s` and `t` only the power state and the objects of a wake change. -/
def WakeOnly (s t : State) : Prop := OnlyObjs wakeKeys { s with power := t.power } t

theorem wakeOnly_refl (s : State) : WakeOnly s s := onlyObjs_refl _ _

theorem WakeOnly.put (h : WakeOnly s t) {k : Nat} (hk : objKey 0 k ∈ wakeKeys) (v : Slot) : WakeOnly s (t.put k v) :=
  OnlyObjs.put (j := 0) (k := k) h hk v

theorem WakeOnly.withPower (h : WakeOnly s t) (pw : Power) : WakeOnly s { t with power := pw } :=
  ⟨congrArg (fun b : State => { b with power := pw }) h.1, h.2⟩

theorem WakeOnly.trans (h : WakeOnly s t) (h' : WakeOnly t u) : WakeOnly s u :=
  ⟨h'.1.trans (congrArg (fun b : State => { b with power := u.power }) h.1), h.2.trans h'.2⟩

theorem WakeOnly.queueStart (h : WakeOnly s t) (x : Nat) : WakeOnly s (queueStart t x) := by
  unfold Machine.queueStart
  split
  · exact h
  · exact h.withPower _

theorem WakeOnly.foldl_queueStart (h : WakeOnly s t) (l : List Nat) : WakeOnly s (l.foldl Machine.queueStart t) := by
  induction l generalizing t with
  | nil => exact h
  | cons x l ih => exact ih (h.queueStart x)

theorem wakeRecord_only (s : State) (r : WakeReq) : WakeOnly s (wakeRecord s r) :=
  ((((wakeOnly_refl s).put (by decide) _).put (by decide) _).put (by decide) _).put (by decide) _

theorem beginWake_only (s : State) (reqs : List WakeReq) : WakeOnly s (beginWake s reqs) := by
  unfold beginWake
  split
  · exact wakeOnly_refl s
  · exact (((wakeRecord_only s _).put (by decide) _).withPower _).foldl_queueStart _

theorem joinWake_only (s : State) (r : WakeReq) : WakeOnly s (joinWake s r) := by
  unfold joinWake
  split
  · exact wakeOnly_refl s
  · exact (wakeRecord_only s _).withPower _

theorem wakeRequest_only (s : State) (cause n : Nat) : WakeOnly s (wakeRequest s cause n) := by
  unfold wakeRequest
  dsimp only
  split
  · exact wakeOnly_refl s
  · split
    · exact beginWake_only s _
    · split
      · exact (wakeOnly_refl s).withPower _
      · split
        · exact joinWake_only s _
        · exact wakeOnly_refl s

theorem wakeOnly_ite {P : Prop} [Decidable P] (s : State) (cause n : Nat) :
    WakeOnly s (if P then wakeRequest s cause n else s) := by
  split
  · exact wakeRequest_only s cause n
  · exact wakeOnly_refl s

theorem WakeOnly.obj (h : WakeOnly s t) {i k : Nat} (hk : k < 2 ^ 24) (hn : k ∉ settleObjs)
    (hw : objKey i k ∉ wakeKeys) : t.obj i k = s.obj i k := h.2 i k hw (objKey_settle i k hk hn)

theorem WakeOnly.mem (h : WakeOnly s t) : t.mem = s.mem := (congrArg State.mem h.1 :)

theorem WakeOnly.inputs (h : WakeOnly s t) : t.inputs = s.inputs := (congrArg State.inputs h.1 :)

theorem WakeOnly.ctxs (h : WakeOnly s t) : t.ctxs = s.ctxs := (congrArg State.ctxs h.1 :)

theorem WakeOnly.trigInEdges (h : WakeOnly s t) : t.trigInEdges = s.trigInEdges := (congrArg State.trigInEdges h.1 :)

theorem WakeOnly.settled (h : WakeOnly s t) : WakeOnly s (settle t) := by
  unfold WakeOnly
  rw [settle_power]
  exact OnlyObjs.settled h

end Sys2Proof.Machine
end

section
/-! ## Trigger in and trigger out (R55, R163, R166, R172) -/

namespace Sys2Proof.Machine

variable {s t : State} {up : Bool} {g : Nat}

theorem latchEdge_fields (s : State) (g : Nat) (up : Bool) : ∃ os, latchEdge s g up = { s with objs := os } := by
  unfold latchEdge
  split
  · exact ⟨_, rfl⟩
  · exact ⟨s.objs, rfl⟩

theorem latchEdge_takes (he : s.num O.LATCH_ENABLE = 1) (hl : latchTakes (s.num O.TRIGIN_LATCH_SLOPE) up = true) :
    (latchEdge s g up).get O.LATCH_TM = tmOfGrains g ∧
    (latchEdge s g up).num O.LATCH_COUNT = (s.num O.LATCH_COUNT + 1) % 2 ^ 32 := by
  have hlt : (s.num O.LATCH_COUNT + 1) % 2 ^ 32 < 2 ^ 64 := (Nat.mod_lt _ (by decide)).trans (by decide)
  have hnat : (ofN ((s.num O.LATCH_COUNT + 1) % 2 ^ 32)).toNat = (s.num O.LATCH_COUNT + 1) % 2 ^ 32 := ofN_toNat _ hlt
  unfold latchEdge
  rw [if_pos ⟨he, hl⟩, State.countWrap_eq, State.num_eq, ← hnat]
  simp (decide := true) [State.get, State.put, State.obj_setObj]

theorem edgeToCtx_fields (g : Nat) (up : Bool) (s : State) (c : Nat) : ∃ cs, edgeToCtx g up s c = { s with ctxs := cs } := by
  unfold edgeToCtx
  split
  · split
    · exact ⟨_, rfl⟩
    · exact ⟨s.ctxs, rfl⟩
  · exact ⟨s.ctxs, rfl⟩

theorem edgesToCtxs_fields (g : Nat) (up : Bool) (l : List Nat) (s : State) :
    ∃ cs, l.foldl (edgeToCtx g up) s = { s with ctxs := cs } := by
  induction l generalizing s with
  | nil => exact ⟨s.ctxs, rfl⟩
  | cons c l ih =>
    obtain ⟨cs, hc⟩ := edgeToCtx_fields g up s c
    obtain ⟨cs', hl⟩ := ih (edgeToCtx g up s c)
    exact ⟨cs', by rw [List.foldl_cons, hl, hc]⟩

/-- The edges stamped in the core cycle of the instant `g` (R163). -/
def edgesSeen (s : State) (g : Nat) : List (Nat × Bool) := s.trigInEdges.filter fun e => e.1 == g / 480 / 48 * 48

theorem runTo_edge (hn : s.now ≤ g / 480) (hd : g / 480 / 2 ^ 55 = s.now / 2 ^ 55) :
    (s.runTo (g / 480)).cycle = g / 480 / 48 * 48 := by
  have hlt : g / 480 < 2 ^ 71 := by
    have hw := s.wraps.isLt
    rw [now_div] at hd
    omega
  rw [State.cycle, now_runTo _ _ hlt, Nat.max_eq_left hn]

theorem trigInEdge_again (hn : s.now ≤ g / 480) (hd : g / 480 / 2 ^ 55 = s.now / 2 ^ 55)
    (h : (g / 480 / 48 * 48, up) ∈ s.trigInEdges) :
    trigInEdge s up g = { s.runTo (g / 480) with trigInEdges := edgesSeen s g } := by
  have hc : (edgesSeen s g).contains (g / 480 / 48 * 48, up) = true :=
    List.contains_iff_mem.2 (List.mem_filter.2 ⟨h, beq_self_eq_true _⟩)
  unfold trigInEdge
  dsimp only
  rw [runTo_edge hn hd, runTo_trigInEdges]
  exact if_pos hc

theorem trigInEdge_first (hn : s.now ≤ g / 480) (hd : g / 480 / 2 ^ 55 = s.now / 2 ^ 55)
    (h : (g / 480 / 48 * 48, up) ∉ s.trigInEdges) : ∃ cs,
    trigInEdge s up g = pulse { latchEdge { s.runTo (g / 480) with
      trigInEdges := (g / 480 / 48 * 48, up) :: edgesSeen s g } (stampOf g) up with ctxs := cs } 5 (if up then 0 else 1) 0 := by
  have hc : ¬ (edgesSeen s g).contains (g / 480 / 48 * 48, up) = true := fun hm =>
    h (List.mem_filter.1 (List.contains_iff_mem.1 hm)).1
  obtain ⟨cs, hcs⟩ := edgesToCtxs_fields (stampOf g) up ((latchEdge { s.runTo (g / 480) with
    trigInEdges := (g / 480 / 48 * 48, up) :: edgesSeen s g } (stampOf g) up).ctxs.map Prod.fst)
    (latchEdge { s.runTo (g / 480) with trigInEdges := (g / 480 / 48 * 48, up) :: edgesSeen s g } (stampOf g) up)
  refine ⟨cs, ?_⟩
  rw [← hcs]
  unfold trigInEdge
  dsimp only
  rw [runTo_edge hn hd, runTo_trigInEdges]
  exact if_neg hc

/-- An edge while the module is awake is that of `trigInEdge`, beside the wake it may ask for. -/
theorem exec_trigInEdge_awake (h : s.awake = true) : ∃ u, exec (.trigInEdge up g) s = done u ∧ WakeOnly (trigInEdge s up g) u := by
  refine ⟨_, (exec_trigInEdge s up g).trans (congrArg done (if_pos h)), ?_⟩
  dsimp only
  split
  · exact wakeOnly_ite _ _ _
  · exact wakeOnly_ite _ _ _

theorem stampOf_eq (g : Nat) : stampOf g = (2 * g + 23) / 48 * 24 := by
  unfold stampOf roundEarlier
  omega

theorem trigInEdge_latched (hn : s.now ≤ g / 480) (hd : g / 480 / 2 ^ 55 = s.now / 2 ^ 55) (ha : s.awake = true)
    (h : (g / 480 / 48 * 48, up) ∉ s.trigInEdges) (he : s.num O.LATCH_ENABLE = 1)
    (hl : latchTakes (s.num O.TRIGIN_LATCH_SLOPE) up = true) : Answers (.trigInEdge up g) s fun t =>
      t.get O.LATCH_TM = tmOfGrains ((2 * g + 23) / 48 * 24) ∧
      t.num O.LATCH_COUNT = (s.num O.LATCH_COUNT + 1) % 2 ^ 32 ∧
      (g / 480 / 48 * 48, up) ∈ t.trigInEdges ∧ t.mem = s.mem ∧ t.inputs = s.inputs := by
  obtain ⟨u, hu, hw⟩ := exec_trigInEdge_awake (up := up) (g := g) ha
  obtain ⟨cs, hcs⟩ := trigInEdge_first hn hd h
  rw [hcs] at hw
  have hnum (k : Nat) (hk : k < 2 ^ 24) (hne : k ≠ O.TB_STATUS) : (s.runTo (g / 480)).num k = s.num k := by
    rw [State.num, obj_runTo _ _ _ _ hk hne, ← State.num]
  obtain ⟨htm, hcount⟩ := latchEdge_takes (g := stampOf g) (up := up)
    (s := { s.runTo (g / 480) with trigInEdges := (g / 480 / 48 * 48, up) :: edgesSeen s g })
    ((hnum _ (by decide) (by decide)).trans he)
    (by rw [← hl]; exact congrArg (latchTakes · up) (hnum _ (by decide) (by decide)))
  obtain ⟨os, hos⟩ := latchEdge_fields { s.runTo (g / 480) with
    trigInEdges := (g / 480 / 48 * 48, up) :: edgesSeen s g } (stampOf g) up
  rw [hos] at hw htm hcount
  have hb := (hw.settled).1
  refine answers_done hu ⟨?_, ?_, ?_, ?_, ?_⟩
  · rw [State.get, hw.settled.obj (by decide) (by decide) (by decide), obj_pulse_of _ _ _ _ _ _ (by decide) (by decide)]
    exact htm.trans (congrArg tmOfGrains (stampOf_eq g))
  · rw [State.num, hw.settled.obj (by decide) (by decide) (by decide), obj_pulse_of _ _ _ _ _ _ (by decide) (by decide)]
    exact hcount.trans (congrArg (fun n => (n + 1) % 2 ^ 32) (hnum _ (by decide) (by decide)))
  · rw [hw.settled.trigInEdges, pulse_trigInEdges]
    exact List.mem_cons_self
  · rw [hw.settled.mem, pulse_mem]
    exact runTo_mem s _
  · rw [hw.settled.inputs, pulse_inputs]
    exact runTo_inputs s _

theorem trigInEdge_repeated (hn : s.now ≤ g / 480) (hd : g / 480 / 2 ^ 55 = s.now / 2 ^ 55)
    (h : (g / 480 / 48 * 48, up) ∈ s.trigInEdges) : Answers (.trigInEdge up g) s fun t =>
      t.get O.LATCH_COUNT = s.get O.LATCH_COUNT ∧ t.ctxs = s.ctxs ∧ t.mem = s.mem ∧ t.inputs = s.inputs := by
  cases ha : s.awake with
  | true =>
    obtain ⟨u, hu, hw⟩ := exec_trigInEdge_awake (up := up) (g := g) ha
    rw [trigInEdge_again hn hd h] at hw
    refine answers_done hu ⟨?_, ?_, ?_, ?_⟩
    · rw [State.get, hw.settled.obj (by decide) (by decide) (by decide)]
      exact obj_runTo s _ _ _ (by decide) (by decide)
    · exact hw.settled.ctxs.trans (runTo_ctxs s _)
    · exact hw.settled.mem.trans (runTo_mem s _)
    · exact hw.settled.inputs.trans (runTo_inputs s _)
  | false =>
    have hexec : exec (.trigInEdge up g) s = done s :=
      (exec_trigInEdge s up g).trans (congrArg done (if_neg (by rw [ha]; decide)))
    refine answers_done hexec ⟨?_, settle_ctxs s, settle_mem s, settle_inputs s⟩
    exact obj_settle_of _ _ _ (by decide) (by decide)

theorem thresholdSettled_answers {at_ : Nat} (h : s.trigInOld = some at_) : Answers .triginThresholdSettled s fun t =>
    t.trigInOld = none ∧ t.mem = s.mem ∧ t.ctxs = s.ctxs ∧ t.inputs = s.inputs := by
  have hexec : exec .triginThresholdSettled s = done { s.runTo at_ with trigInOld := none } := by
    rw [exec_triginThresholdSettled]
    unfold execTriginThresholdSettled
    rw [h]
  refine answers_done hexec ⟨?_, ?_, ?_, ?_⟩
  · rw [settle_trigInOld]
  · rw [settle_mem]
    exact runTo_mem s _
  · rw [settle_ctxs]
    exact runTo_ctxs s _
  · rw [settle_inputs]
    exact runTo_inputs s _

/-- The state in which a pulse of trigger out has been counted. -/
def pulseCounted (s : State) (g : Nat) (r : List Nat) (w : Nat) : State :=
  let s := (s.runTo (g / 480)).countWrap 0 O.TRIGOUT_COUNT 32
  { s with trigOut := r, trigOutEnd := max (g + w * 23040) s.trigOutEnd }

theorem pulseCounted_left (s : State) (g : Nat) (r : List Nat) (w : Nat) :
    (pulseCounted s g r w).num O.TRIGOUT_COUNT = (s.num O.TRIGOUT_COUNT + 1) % 2 ^ 32 ∧
    (pulseCounted s g r w).mem = s.mem ∧ (pulseCounted s g r w).ctxs = s.ctxs ∧
    (pulseCounted s g r w).trigOutHigh = s.trigOutHigh := by
  have hlt : (s.num O.TRIGOUT_COUNT + 1) % 2 ^ 32 < 2 ^ 64 := (Nat.mod_lt _ (by decide)).trans (by decide)
  have hnum : (s.runTo (g / 480)).obj 0 O.TRIGOUT_COUNT = s.obj 0 O.TRIGOUT_COUNT := obj_runTo _ _ _ _ (by decide) (by decide)
  have hobj : (pulseCounted s g r w).obj 0 O.TRIGOUT_COUNT = ofN ((s.num O.TRIGOUT_COUNT + 1) % 2 ^ 32) := by
    show ((s.runTo (g / 480)).countWrap 0 O.TRIGOUT_COUNT 32).obj 0 O.TRIGOUT_COUNT = _
    rw [State.countWrap_eq, State.obj_setObj_self, hnum, State.num]
  refine ⟨?_, runTo_mem s _, runTo_ctxs s _, runTo_trigOutHigh s _⟩
  rw [State.num, hobj, ofN_toNat _ hlt]

theorem exec_pulseStart {r : List Nat} (h : sortN s.trigOut = g :: r) : ∃ o, exec .trigoutPulseStart s =
    done { pulseCounted s g r (s.num O.TRIGOUT_WIDTH) with trigOutHigh := true, sent := o } := by
  cases hh : (pulseCounted s g r (s.num O.TRIGOUT_WIDTH)).trigOutHigh with
  | true =>
    refine ⟨(pulseCounted s g r (s.num O.TRIGOUT_WIDTH)).sent, ?_⟩
    rw [exec_trigoutPulseStart, ← hh]
    unfold execTrigoutPulseStart
    rw [h]
    exact congrArg done (if_pos hh)
  | false =>
    refine ⟨.trigOut ((pulseCounted s g r (s.num O.TRIGOUT_WIDTH)).trigOutLevel true) g ::
      (pulseCounted s g r (s.num O.TRIGOUT_WIDTH)).sent, ?_⟩
    rw [exec_trigoutPulseStart]
    unfold execTrigoutPulseStart
    rw [h]
    exact congrArg done (if_neg (by rw [← Bool.not_eq_true] at hh; exact hh))

theorem pulseStart_answers {r : List Nat} (h : sortN s.trigOut = g :: r) : Answers .trigoutPulseStart s fun t =>
    t.trigOutHigh = true ∧ t.trigOutEnd = max (g + s.num O.TRIGOUT_WIDTH * 23040) s.trigOutEnd ∧
    t.num O.TRIGOUT_COUNT = (s.num O.TRIGOUT_COUNT + 1) % 2 ^ 32 ∧ t.mem = s.mem ∧ t.ctxs = s.ctxs := by
  obtain ⟨o, ho⟩ := exec_pulseStart h
  obtain ⟨hcount, hmem, hctxs, -⟩ := pulseCounted_left s g r (s.num O.TRIGOUT_WIDTH)
  refine answers_done ho ⟨?_, ?_, ?_, ?_, ?_⟩
  · rw [settle_trigOutHigh]
  · rw [settle_trigOutEnd]
    exact congrArg (max (g + s.num O.TRIGOUT_WIDTH * 23040)) (runTo_trigOutEnd s _)
  · rw [State.num, obj_settle_of _ _ _ (by decide) (by decide)]
    exact hcount
  · rw [settle_mem]
    exact hmem
  · rw [settle_ctxs]
    exact hctxs

theorem pulseEnd_answers (h : s.trigOutHigh = true) : Answers .trigoutPulseEnd s fun t =>
    t.trigOutHigh = false ∧ .trigOut (s.trigOutLevel false) s.trigOutEnd ∈ t.sent ∧ t.mem = s.mem ∧
    t.ctxs = s.ctxs ∧ t.inputs = s.inputs := by
  have hexec : exec .trigoutPulseEnd s = done { s.runTo (s.trigOutEnd / 480) with
      trigOutHigh := false, trigOutEnd := 0, sent := .trigOut (s.trigOutLevel false) s.trigOutEnd :: s.sent } := by
    rw [exec_trigoutPulseEnd]
    exact congrArg done (if_pos h)
  refine answers_done hexec ⟨?_, (sent_settle _).mem List.mem_cons_self, ?_, ?_, ?_⟩
  · rw [settle_trigOutHigh]
  · rw [settle_mem]
    exact runTo_mem s _
  · rw [settle_ctxs]
    exact runTo_ctxs s _
  · rw [settle_inputs]
    exact runTo_inputs s _

/-- Settles O31: the edges of trigger in are stamped and latched once a core cycle, the pulses of trigger out combined. -/
theorem triggerPins : Obligations.TriggerPins :=
  ⟨fun _ _ _ hn hd => ⟨fun ha h he hl => trigInEdge_latched hn hd ha h he hl, fun h => trigInEdge_repeated hn hd h⟩,
    fun _ _ h => thresholdSettled_answers h, fun _ _ _ h => pulseStart_answers h, fun _ h => pulseEnd_answers h⟩

end Sys2Proof.Machine
end

section
/-! ## Words of an assay program (R265 to R269) -/

namespace Sys2Proof.Machine

variable {s u : State} {c d l op : Nat} {w : AWord} {x : Ctx} {r r' : ARec} {f : ARec → State → ARec × State}

/-! ### A word and its record -/

/-- A word whose condition holds has its effect on the record after its step. -/
theorem runWord_holds (h : s.Runs d l op w c x r) (hc : r.holds w.cond.toNat = true) :
    runWord s d l op w f = modARec (f r.stepped s).2 c r.tm fun _ => (f r.stepped s).1 := by
  obtain ⟨hl, -, hw, hn, hf⟩ := h
  unfold runWord
  rw [hl]
  dsimp only
  rw [if_pos ⟨hw, hn, hf⟩, hc]
  rfl

/-- A word whose condition fails only steps. -/
theorem runWord_fails (h : s.Runs d l op w c x r) (hc : r.holds w.cond.toNat = false) :
    runWord s d l op w f = modARec s c r.tm fun _ => r.stepped := by
  obtain ⟨hl, -, hw, hn, hf⟩ := h
  unfold runWord
  rw [hl]
  dsimp only
  rw [if_pos ⟨hw, hn, hf⟩, hc]
  rfl

theorem onlyObjs_ctxs {ks : List Nat} (h : OnlyObjs ks s u) : u.ctxs = s.ctxs := (congrArg State.ctxs h.1 :)

/-- A command that replaces one record of a context, beside draws of free values. -/
theorem answers_modARec {i : Instr} (hx : s.ctx c = some x) (hu : OnlyObjs [] s u)
    (hi : exec i s = done (modARec u c r.tm fun _ => r')) : Answers i s (RecordIs c x r r' s) := by
  have hc := onlyObjs_ctxs hu
  unfold modARec at hi
  rw [modCtx_some ((ctx_congr hc c).trans hx)] at hi
  refine answers_done hi ⟨?_, ((ctxsBut_congr hc c).trans (ctxsBut_setCtx u c _)).settled, ?_⟩
  · rw [ctx_settle, ctx_setCtx_self]
  · rw [settle_ctxs]
    exact (hu.setCtx c _).settled

/-- A word whose condition holds, with the effect `f` has of it. -/
theorem answers_runWord {i : Instr} (h : s.Runs d l op w c x r) (hc : r.holds w.cond.toNat = true)
    (hi : exec i s = done (runWord s d l op w f)) (hf : f r.stepped s = (r', u)) (hu : OnlyObjs [] s u) :
    Answers i s (RecordIs c x r r' s) := by
  refine answers_modARec h.2.1 hu (hi.trans ?_)
  rw [runWord_holds h hc, hf]

/-- A word with an effect on its record alone. -/
theorem answers_pureWord {i : Instr} {g : ARec → ARec} (h : s.Runs d l op w c x r) (hc : r.holds w.cond.toNat = true)
    (hi : exec i s = done (pureWord s d l op w g)) (hg : g r.stepped = r') : Answers i s (RecordIs c x r r' s) :=
  answers_runWord h hc hi (congrArg (·, s) hg) (onlyObjs_refl s [])

theorem onlyObjs_free (s : State) : OnlyObjs [] s s.free.2 := onlyObjs_congr [] rfl rfl rfl

/-! ### Quotients -/

/-- The quotient to nearest, halves away from zero, is the only one with its distance: of a numerator that is not negative. -/
theorem roundAway_natCast {n m q : Nat} (hm : 0 < m)
    (h : 2 * ((n : Int) - q * m).natAbs < m ∨ (2 * ((n : Int) - q * m).natAbs = m ∧ n < q * m)) :
    (n * 2 + m) / (2 * m) = q := by
  have hp : ((q * m : Nat) : Int) = q * m := Nat.cast_mul q m
  rw [← hp] at h
  refine Nat.div_eq_of_lt_le ?_ ?_
  · rw [Nat.mul_left_comm]
    omega
  · rw [Nat.mul_left_comm, Nat.add_one_mul q m]
    omega

/-- A quotient of that distance has the sign of its numerator. -/
theorem nearest_nonneg {n q : Int} {m : Nat} (hm : 0 < m) (hn : 0 ≤ n)
    (h : 2 * (n - q * m).natAbs < m ∨ (2 * (n - q * m).natAbs = m ∧ n.natAbs < (q * m).natAbs)) : 0 ≤ q := by
  by_contra hq
  have hle : q * m ≤ -1 * m := Int.mul_le_mul_of_nonneg_right (by omega) (by omega)
  omega

theorem roundAway_of_nonneg {n q : Int} {m : Nat} (hm : 0 < m) (hn : 0 ≤ n)
    (h : 2 * (n - q * m).natAbs < m ∨ (2 * (n - q * m).natAbs = m ∧ n.natAbs < (q * m).natAbs)) :
    ((n.toNat * 2 + m) / (2 * m) : Nat) = q := by
  have hq := nearest_nonneg hm hn h
  lift n to Nat using hn
  lift q to Nat using hq
  have hp : ((q * m : Nat) : Int) = q * m := Nat.cast_mul q m
  refine congrArg Nat.cast (roundAway_natCast hm ?_)
  rw [← hp] at h ⊢
  omega

/-- The quotient to nearest, halves away from zero, is the only one with its distance. -/
theorem roundAway_eq {n q : Int} {m : Nat} (hm : 0 < m)
    (h : 2 * (n - q * m).natAbs < m ∨ (2 * (n - q * m).natAbs = m ∧ n.natAbs < (q * m).natAbs)) :
    roundAway n m = q := by
  unfold roundAway
  split
  next hn =>
    have hneg : -q * m = -(q * m) := Int.neg_mul q m
    rw [roundAway_of_nonneg hm (Int.le_of_lt (Int.neg_pos_of_neg hn)) (q := -q), Int.neg_neg]
    rw [hneg]
    omega
  next hn => exact roundAway_of_nonneg hm (Int.not_lt.1 hn) h

theorem divRound_eq {a b q : Int} (hb : b ≠ 0)
    (h : 2 * (a - q * b).natAbs < b.natAbs ∨ (2 * (a - q * b).natAbs = b.natAbs ∧ a.natAbs < (q * b).natAbs)) :
    divRound a b = q := by
  have hm : 0 < b.natAbs := Int.natAbs_pos.2 hb
  unfold divRound
  split
  next hlt =>
    have hb' : (b.natAbs : Int) = -b := by omega
    refine roundAway_eq hm ?_
    rw [hb', Int.mul_neg]
    omega
  next hge =>
    have hb' : (b.natAbs : Int) = b := by omega
    refine roundAway_eq hm ?_
    rw [hb']
    exact h

theorem over64_false {x : Int} (hl : -(2 ^ 63) ≤ x) (hu : x < 2 ^ 63) : over64 x = false :=
  decide_eq_false fun h => h.elim (fun h => absurd hl (Int.not_le.2 h)) fun h => absurd hu (Int.not_lt.2 h)

/-- Of two 64-bit numbers only −2^63 divided by −1 has a truncated quotient outside 64 bits. -/
theorem over64_tdiv {a b : Slot} (h : a.toInt ≠ -(2 ^ 63) ∨ b.toInt ≠ -1) :
    over64 (a.toInt.tdiv b.toInt) = false := by
  have hq : (a.sdiv b).toInt = a.toInt.tdiv b.toInt :=
    BitVec.toInt_sdiv_of_ne_or_ne a b (h.imp (fun ha he => ha (congrArg BitVec.toInt he)) fun hb he => hb (congrArg BitVec.toInt he))
  rw [← hq]
  exact over64_false (BitVec.le_toInt _) (BitVec.toInt_lt)

/-! ### The words of R269 -/

theorem answers_wrapWord {i : Instr} {g : Int → Int → Int} (h : s.Runs d l op w c x r) (hc : r.holds w.cond.toNat = true)
    (hi : exec i s = done (wrapWord s d l op w g)) {v : Slot}
    (hv : ofI (g (r.reg w.srcA).toInt (r.reg w.srcB).toInt) = v) :
    Answers i s (RecordIs c x r
      { r.stepped.result w.dst v with v := over64 (g (r.reg w.srcA).toInt (r.reg w.srcB).toInt) } s) := by
  subst hv
  exact answers_pureWord h hc hi rfl

theorem answers_aluWord {i : Instr} {g : Slot → Slot → Slot} (h : s.Runs d l op w c x r) (hc : r.holds w.cond.toNat = true)
    (hi : exec i s = done (aluWord s d l op w g)) {v : Slot} (hv : g (r.reg w.srcA) (r.reg w.srcB) = v) :
    Answers i s (RecordIs c x r (r.stepped.result w.dst v) s) := by
  subst hv
  exact answers_pureWord h hc hi rfl

section Division
variable {i : Instr} {g : Int → Int → Int} (h : s.Runs d l op w c x r) (hc : r.holds w.cond.toNat = true)
  (hi : exec i s = done (divWord s d l op w g))
include h hc hi

theorem divWord_by_zero (hb : r.reg w.srcB = 0) :
    Answers i s (RecordIs c x r { r.stepped.result w.dst 0 with d := true } s) := by
  refine answers_runWord h hc hi (if_pos ?_) (onlyObjs_refl s [])
  exact congrArg BitVec.toInt hb

theorem divWord_in_range (hb : r.reg w.srcB ≠ 0) (ho : over64 (g (r.reg w.srcA).toInt (r.reg w.srcB).toInt) = false) :
    Answers i s (RecordIs c x r (r.stepped.result w.dst (ofI (g (r.reg w.srcA).toInt (r.reg w.srcB).toInt))) s) :=
  answers_runWord h hc hi
    ((if_neg fun h0 => hb (BitVec.eq_of_toInt_eq h0)).trans (if_neg fun h1 => Bool.false_ne_true (ho.symm.trans h1)))
    (onlyObjs_refl s [])

theorem divWord_some (hb : r.reg w.srcB ≠ 0) :
    Answers i s fun t => ∃ v, RecordIs c x r (r.stepped.result w.dst v) s t := by
  cases ho : over64 (g (r.reg w.srcA).toInt (r.reg w.srcB).toInt) with
  | false => exact (divWord_in_range h hc hi hb ho).mono fun t ht => ⟨_, ht⟩
  | true =>
    have hf := answers_runWord (r' := r.stepped.result w.dst s.free.1) h hc hi
      ((if_neg fun h0 => hb (BitVec.eq_of_toInt_eq h0)).trans (if_pos ho)) (onlyObjs_free s)
    exact hf.mono fun t ht => ⟨_, ht⟩

end Division

theorem clampI_inside {x : Int} (h : x.natAbs < 2 ^ 63) : clampI (-(2 ^ 63 - 1)) (2 ^ 63 - 1) x = x := by
  unfold clampI
  rw [if_neg (by omega), if_neg (by omega)]

theorem clampI_above {lo hi x : Int} (hlo : lo ≤ hi) (h : hi < x) : clampI lo hi x = hi := by
  unfold clampI
  rw [if_neg (Int.not_lt.2 (Int.le_trans hlo (Int.le_of_lt h))), if_pos h]

theorem clampI_below {lo hi x : Int} (h : x < lo) : clampI lo hi x = lo := if_pos h

/-- MULDIV's result for the rounded quotient `q`: as it is, or the bound it passes with V. -/
theorem muldiv_quotient {q : Int} (h : s.Runs d l 0x0D w c x r) (hc : r.holds w.cond.toNat = true)
    (hb : r.reg w.srcB ≠ 0) (hq : divRound ((r.reg w.srcA).toInt * w.imm.toInt) (r.reg w.srcB).toInt = q)
    {y : Int} (hy : clampI (-(2 ^ 63 - 1)) (2 ^ 63 - 1) q = y) :
    Answers (.wMuldiv d l w) s (RecordIs c x r
      (if q = y then r.stepped.result w.dst (ofI y) else { r.stepped.result w.dst (ofI y) with v := true }) s) := by
  subst hq hy
  exact answers_pureWord h hc (exec_wMuldiv s d l w) (if_neg fun h0 => hb (BitVec.eq_of_toInt_eq h0))

theorem muldiv_by_zero (h : s.Runs d l 0x0D w c x r) (hc : r.holds w.cond.toNat = true) (hb : r.reg w.srcB = 0) :
    Answers (.wMuldiv d l w) s (RecordIs c x r { r.stepped.result w.dst 0 with d := true } s) :=
  answers_pureWord h hc (exec_wMuldiv s d l w) (if_pos (congrArg BitVec.toInt hb))

theorem ite_lt_eq_ite_le (m n : Int) (p q : Slot) : (if m < n then p else q) = if n ≤ m then q else p := by
  simp only [← Int.not_le, ite_not]

theorem abs_word (a : Slot) : ofN a.toInt.natAbs = ofI (if a.toInt < 0 then -a.toInt else a.toInt) := by
  have h : (if a.toInt < 0 then -a.toInt else a.toInt) = (a.toInt.natAbs : Int) := by
    split
    · omega
    · omega
  rw [h, ofI, BitVec.ofInt_natCast, ofN]

/-- The flags of a difference compare its operands. -/
theorem compare_sub (q : ARec) (a b : Slot) :
    q.compare (a.toInt - b.toInt) = { q with z := decide (a = b), n := decide (a.toInt < b.toInt) } := by
  unfold ARec.compare
  have hz : a.toInt - b.toInt = 0 ↔ a = b :=
    ⟨fun h => BitVec.eq_of_toInt_eq (Int.eq_of_sub_eq_zero h), fun h => by rw [h, Int.sub_self]⟩
  have hn : a.toInt - b.toInt < 0 ↔ a.toInt < b.toInt := ⟨Int.lt_of_sub_neg, Int.sub_neg_of_lt⟩
  simp only [hz, hn]

theorem toInt_ne_zero {b : Slot} (hb : b ≠ 0) : b.toInt ≠ 0 := fun h => hb (BitVec.eq_of_toInt_eq h)

/-- Settles O37: each word runs once on its record, and the rounded quotients are the nearest ones. -/
theorem arithmeticWords : Obligations.ArithmeticWords := by
  intro s d l c w x r hc a b
  refine ⟨fun h => ?_, fun h => ?_, fun h => ?_, fun h => ⟨fun hb => ?_, fun hb hab => ?_, fun hb => ?_⟩,
    fun h => ⟨fun hb => ?_, fun hb => ?_, fun q hb hl hu hq => ?_⟩,
    fun h => ⟨fun hb => ?_, fun q hb hq => ⟨fun hs => ?_, fun hs => ?_, fun hs => ?_⟩⟩,
    fun h => ?_, fun h => ?_, fun h => ?_, fun h => ?_, fun h => ?_, fun h => ?_, fun h => ?_, fun h => ?_,
    fun h => ⟨fun ha => ?_, fun ha => ?_⟩, fun h q hl hu => ?_, fun h => ?_, fun h => ?_⟩
  -- ADD, SUB and MUL wrap the exact result
  · exact answers_wrapWord h hc (exec_wAdd s d l w) (BitVec.eq_of_toInt_eq (by rw [ofI, BitVec.toInt_ofInt, BitVec.toInt_add]))
  · exact answers_wrapWord h hc (exec_wSub s d l w) (BitVec.eq_of_toInt_eq (by rw [ofI, BitVec.toInt_ofInt, BitVec.toInt_sub]))
  · exact answers_wrapWord h hc (exec_wMul s d l w) (BitVec.eq_of_toInt_eq (by rw [ofI, BitVec.toInt_ofInt, BitVec.toInt_mul]))
  -- DIV
  · exact divWord_by_zero h hc (exec_wDiv s d l w) hb
  · exact divWord_in_range h hc (exec_wDiv s d l w) hb (over64_tdiv hab)
  · exact divWord_some h hc (exec_wDiv s d l w) hb
  -- DIVR
  · exact divWord_by_zero h hc (exec_wDivr s d l w) hb
  · exact divWord_some h hc (exec_wDivr s d l w) hb
  · have he := divRound_eq (toInt_ne_zero hb) hq
    have ha := divWord_in_range h hc (exec_wDivr s d l w) hb ((congrArg over64 he).trans (over64_false hl hu))
    rwa [he] at ha
  -- MULDIV
  · exact muldiv_by_zero h hc hb
  · have ha := muldiv_quotient h hc hb (divRound_eq (toInt_ne_zero hb) hq) (clampI_inside hs)
    rwa [if_pos rfl] at ha
  · have ha := muldiv_quotient h hc hb (divRound_eq (toInt_ne_zero hb) hq) (clampI_above (by decide) (by omega))
    rwa [if_neg (by omega)] at ha
  · have ha := muldiv_quotient h hc hb (divRound_eq (toInt_ne_zero hb) hq) (clampI_below (by omega))
    rwa [if_neg (by omega)] at ha
  -- ADDI, the shifts and the bitwise words
  · exact answers_aluWord h hc (exec_wAddi s d l w) rfl
  · exact answers_aluWord h hc (exec_wShl s d l w) rfl
  · exact answers_aluWord h hc (exec_wSar s d l w) rfl
  · exact answers_aluWord h hc (exec_wAnd s d l w) rfl
  · exact answers_aluWord h hc (exec_wOr s d l w) rfl
  · exact answers_aluWord h hc (exec_wXor s d l w) rfl
  -- MIN and MAX
  · exact answers_aluWord h hc (exec_wMin s d l w) (ite_lt_eq_ite_le ..)
  · exact answers_aluWord h hc (exec_wMax s d l w) (ite_lt_eq_ite_le ..)
  -- ABS
  · exact answers_pureWord h hc (exec_wAbs s d l w) ((if_neg ha).trans (congrArg _ (abs_word a)))
  · exact answers_pureWord h hc (exec_wAbs s d l w) (if_pos ha)
  -- SQRT
  · exact answers_aluWord h hc (exec_wSqrt s d l w) (congrArg ofN (Nat.eq_sqrt.2 ⟨hl, hu⟩).symm)
  -- CMP and CMPI
  · exact answers_pureWord h hc (exec_wCmp s d l w) (compare_sub _ a b)
  · exact answers_pureWord h hc (exec_wCmpi s d l w) (compare_sub _ a w.imm)

end Sys2Proof.Machine
end

section
/-! ## The other words, pass 2 and the step limit (R247, R265 to R270) -/

namespace Sys2Proof.Machine

variable {s u : State} {c d l op : Nat} {w : AWord} {x : Ctx} {r r' : ARec}

/-! ### A word whose condition fails -/

theorem answers_fails {i : Instr} {f : ARec → State → ARec × State} (h : s.Runs d l op w c x r)
    (hc : r.holds w.cond.toNat = false) (hi : exec i s = done (runWord s d l op w f)) :
    Answers i s (RecordIs c x r r.stepped s) :=
  answers_modARec h.2.1 (onlyObjs_refl s []) (hi.trans (congrArg done (runWord_fails h hc)))

theorem wLds_lds (hl : s.laneRec d l = some (c, r)) :
    exec (.wLds d l w) s = done (runWord s d l 0x03 w fun r s =>
      if r.stated w.aux.toNat then (r.setReg w.dst (s.special c r w.aux.toNat), s)
      else (r.setReg w.dst s.free.1, s.free.2)) := by
  rw [exec_wLds, execWLds, hl]

theorem runs_of_pureWord {i : Instr} {g : ARec → ARec} (hi : exec i s = done (pureWord s d l op w g)) :
    ∃ f, exec i s = done (runWord s d l op w f) := ⟨_, hi⟩

theorem runs_of_aluWord {i : Instr} {g : Slot → Slot → Slot} (hi : exec i s = done (aluWord s d l op w g)) :
    ∃ f, exec i s = done (runWord s d l op w f) := ⟨_, hi⟩

theorem runs_of_wrapWord {i : Instr} {g : Int → Int → Int} (hi : exec i s = done (wrapWord s d l op w g)) :
    ∃ f, exec i s = done (runWord s d l op w f) := ⟨_, hi⟩

/-- Every word is run by `runWord`. -/
theorem exec_wordOf {i : Instr} (hi : wordOf i = some (d, l, op, w)) (hl : s.laneRec d l = some (c, r)) :
    ∃ f, exec i s = done (runWord s d l op w f) := by
  unfold wordOf at hi
  split at hi <;> cases hi
  · exact runs_of_pureWord (exec_wNop s d l w)
  · exact runs_of_pureWord (exec_wMov s d l w)
  · exact runs_of_pureWord (exec_wLdi s d l w)
  · exact ⟨_, wLds_lds hl⟩
  · exact runs_of_pureWord (exec_wSts s d l w)
  · exact runs_of_wrapWord (exec_wAdd s d l w)
  · exact runs_of_wrapWord (exec_wSub s d l w)
  · exact runs_of_wrapWord (exec_wMul s d l w)
  · exact ⟨_, exec_wDiv s d l w⟩
  · exact ⟨_, exec_wDivr s d l w⟩
  · exact runs_of_pureWord (exec_wMuldiv s d l w)
  · exact runs_of_aluWord (exec_wAddi s d l w)
  · exact runs_of_aluWord (exec_wShl s d l w)
  · exact runs_of_aluWord (exec_wSar s d l w)
  · exact runs_of_aluWord (exec_wAnd s d l w)
  · exact runs_of_aluWord (exec_wOr s d l w)
  · exact runs_of_aluWord (exec_wXor s d l w)
  · exact runs_of_aluWord (exec_wMin s d l w)
  · exact runs_of_aluWord (exec_wMax s d l w)
  · exact runs_of_pureWord (exec_wAbs s d l w)
  · exact runs_of_aluWord (exec_wSqrt s d l w)
  · exact runs_of_pureWord (exec_wCmp s d l w)
  · exact runs_of_pureWord (exec_wCmpi s d l w)
  · exact runs_of_pureWord (exec_wJmp s d l w)
  · exact runs_of_pureWord (exec_wHcnt s d l w)
  · exact ⟨_, exec_wHmode s d l w⟩
  · exact runs_of_pureWord (exec_wHbin s d l w)
  · exact runs_of_pureWord (exec_wPass2 s d l w)
  · exact runs_of_pureWord (exec_wNextx s d l w)
  · exact runs_of_pureWord (exec_wPut s d l w)
  · exact runs_of_pureWord (exec_wPutv s d l w)
  · exact runs_of_pureWord (exec_wEnd s d l w)

/-! ### Special registers and bins -/

theorem bin_eq_zero {j : Int} (h : ¬ (0 ≤ j ∧ j ≤ 1023)) : r.bin j = 0 := if_neg h

theorem bin_eq_count {j : Int} (h : 0 ≤ j ∧ j ≤ 1023) : r.bin j = binCount ((validItems r.items).map Prod.snd) j := if_pos h

/-- Bin `k` is a largest one of `lo` to `hi`, and of equal ones the first (`lowest`) or the last. -/
def IsMode (f : Int → Nat) (lowest : Bool) (lo hi k : Int) : Prop :=
  lo ≤ k ∧ k ≤ hi ∧ ∀ j, lo ≤ j → j ≤ hi → f j ≤ f k ∧ (lowest = false → k < j → f j < f k) ∧
    (lowest = true → j < k → f j < f k)

/-- A bin that is at least as good as the best one so far takes its place. -/
def modeStep (f : Int → Nat) (lowest : Bool) (lo : Int) (b : Int) (i : Nat) : Int :=
  if (if lowest then f b < f (lo + i) else f b ≤ f (lo + i)) then lo + i else b

theorem modeStep_lowest (f : Int → Nat) (lo k : Int) (i : Nat) :
    modeStep f true lo k i = if f k < f (lo + i) then lo + i else k := by simp only [modeStep, if_true]

theorem modeStep_highest (f : Int → Nat) (lo k : Int) (i : Nat) :
    modeStep f false lo k i = if f k ≤ f (lo + i) then lo + i else k := by
  simp only [modeStep, Bool.false_eq_true, if_false]

/-- A bin up to the next one is one before it or the next one. -/
theorem bin_cases {lo j : Int} {n : Nat} (h : j ≤ lo + (n + 1 : Nat)) : j ≤ lo + n ∨ j = lo + (n + 1 : Nat) := by omega

theorem IsMode.step {f : Int → Nat} {lowest : Bool} {lo k : Int} {n : Nat} (h : IsMode f lowest lo (lo + n) k) :
    IsMode f lowest lo (lo + (n + 1 : Nat)) (modeStep f lowest lo k (n + 1)) := by
  obtain ⟨hl, hu, hm⟩ := h
  have hn : k < lo + (n + 1 : Nat) := by omega
  cases lowest with
  | true =>
    rw [modeStep_lowest]
    split
    next hb =>
      refine ⟨by omega, le_refl _, fun j hj hj' => ?_⟩
      rcases bin_cases hj' with hold | rfl
      · exact ⟨(hm j hj hold).1.trans hb.le, nofun, fun _ _ => (hm j hj hold).1.trans_lt hb⟩
      · exact ⟨le_refl _, nofun, fun _ h => absurd h (lt_irrefl _)⟩
    next hb =>
      refine ⟨hl, hn.le, fun j hj hj' => ?_⟩
      rcases bin_cases hj' with hold | rfl
      · exact hm j hj hold
      · exact ⟨not_lt.1 hb, nofun, fun _ h => absurd h (not_lt.2 hn.le)⟩
  | false =>
    rw [modeStep_highest]
    split
    next hb =>
      refine ⟨by omega, le_refl _, fun j hj hj' => ?_⟩
      rcases bin_cases hj' with hold | rfl
      · exact ⟨(hm j hj hold).1.trans hb, fun _ h => absurd h (not_lt.2 (hold.trans (by omega))), nofun⟩
      · exact ⟨le_refl _, fun _ h => absurd h (lt_irrefl _), nofun⟩
    next hb =>
      refine ⟨hl, hn.le, fun j hj hj' => ?_⟩
      rcases bin_cases hj' with hold | rfl
      · exact hm j hj hold
      · exact ⟨(not_le.1 hb).le, fun _ _ => not_le.1 hb, nofun⟩

theorem isMode_foldl (f : Int → Nat) (lowest : Bool) (lo : Int) (n : Nat) :
    IsMode f lowest lo (lo + n) ((List.range (n + 1)).foldl (modeStep f lowest lo) lo) := by
  induction n with
  | zero =>
    have h0 : lo + ((0 : Nat) : Int) = lo := Int.add_zero lo
    have hs : (List.range (0 + 1)).foldl (modeStep f lowest lo) lo = lo := by
      show modeStep f lowest lo lo 0 = lo
      unfold modeStep
      rw [h0, ite_self]
    rw [hs, h0]
    refine ⟨le_refl _, le_refl _, fun j hj hj' => ?_⟩
    obtain rfl : j = lo := le_antisymm hj' hj
    exact ⟨le_refl _, fun _ h => absurd h (lt_irrefl _), fun _ h => absurd h (lt_irrefl _)⟩
  | succ n ih =>
    rw [List.range_succ, List.foldl_append]
    exact ih.step

theorem isMode_modeBin (vs : List Int) {lo hi : Int} (lowest : Bool) (h : lo ≤ hi) :
    IsMode (binCount vs) lowest lo hi (modeBin vs lo hi lowest) := by
  obtain ⟨n, rfl⟩ := Int.le.dest h
  have hn : (lo + n - lo + 1).toNat = n + 1 := by omega
  unfold modeBin
  rw [hn]
  exact isMode_foldl (binCount vs) lowest lo n

theorem isMode_of_zero {f : Int → Nat} {a b : Int} (lowest : Bool) (h : a ≤ b) (hf : ∀ j, a ≤ j → j ≤ b → f j = 0) :
    IsMode f lowest a b (if lowest then a else b) := by
  cases lowest with
  | true => exact ⟨le_refl a, h, fun j hj hj' => ⟨by rw [hf j hj hj']; exact Nat.zero_le _, nofun,
      fun _ hlt => absurd hj (not_le.2 hlt)⟩⟩
  | false => exact ⟨h, le_refl b, fun j hj hj' => ⟨by rw [hf j hj hj']; exact Nat.zero_le _,
      fun _ hlt => absurd hj' (not_le.2 hlt), nofun⟩⟩

theorem isMode_mode {a b : Int} (lowest : Bool) (h : a ≤ b) : IsMode r.bin lowest a b (r.mode a b lowest) := by
  have hbins (hr : max a 0 ≤ min b 1023) := isMode_modeBin ((validItems r.items).map Prod.snd) lowest hr
  unfold ARec.mode
  dsimp only
  split
  next hk =>
    obtain ⟨hr, hne⟩ := hk
    obtain ⟨hl, hu, hm⟩ := hbins hr
    have hk := bin_eq_count (r := r) (j := modeBin ((validItems r.items).map Prod.snd) (max a 0) (min b 1023) lowest)
      ⟨by omega, by omega⟩
    refine ⟨by omega, by omega, fun j hj hj' => ?_⟩
    by_cases hin : 0 ≤ j ∧ j ≤ 1023
    · rw [bin_eq_count hin, hk]
      exact hm j (max_le hj hin.1) (le_min hj' hin.2)
    · rw [bin_eq_zero hin]
      exact ⟨Nat.zero_le _, fun _ _ => Nat.pos_of_ne_zero hne, fun _ _ => Nat.pos_of_ne_zero hne⟩
  next hk =>
    refine isMode_of_zero lowest h fun j hj hj' => ?_
    by_cases hin : 0 ≤ j ∧ j ≤ 1023
    · have hr : max a 0 ≤ min b 1023 := (max_le hj hin.1).trans (le_min hj' hin.2)
      obtain ⟨hl, hu, hm⟩ := hbins hr
      have hz : r.bin (modeBin ((validItems r.items).map Prod.snd) (max a 0) (min b 1023) lowest) = 0 := by
        by_contra hne
        exact hk ⟨hr, hne⟩
      have hle := (hm j (max_le hj hin.1) (le_min hj' hin.2)).1
      rw [bin_eq_count ⟨by omega, by omega⟩] at hz
      rw [bin_eq_count hin]
      omega
    · exact bin_eq_zero hin

/-! ### The events of pass 2 and the step limit -/

theorem pass2EventReady_next {ev : XEvent} {q : List XEvent} (hl : s.laneRec d l = some (c, r)) (hx : s.ctx c = some x)
    (hq : r.coming = ev :: q) : Answers (.pass2EventReady d l) s (RecordIs c x r
      (if r.waiting then { r with coming := q, cur := ev, waiting := false }
       else { r with coming := q, ready := r.ready ++ [ev] }) s) := by
  refine answers_modARec hx (onlyObjs_refl s []) ((exec_pass2EventReady s d l).trans ?_)
  rw [execPass2EventReady, hl]
  dsimp only
  rw [hq]

theorem toNat_obj_counted_flagged {k k' b : Nat} (hk : k < 2 ^ 24) (hk' : k' < 2 ^ 24) (hne : k' ≠ k) :
    (((s.countSat c k 32).flag c k' b).obj c k).toNat = satN 32 ((s.obj c k).toNat + 1) := by
  rw [State.flag_eq, State.obj_setObj _ _ _ _ _ _ hk' hk, if_neg fun h => hne h.2.symm, State.countSat_eq,
    State.obj_setObj_self, ofN_toNat _ (satN32_lt _)]

theorem bit_obj_flagged {k b : Nat} (hb : b < 64) : bit ((s.flag c k b).obj c k) b = true := by
  rw [State.flag_eq, State.obj_setObj_self, bit_setBit _ _ _ hb]
  simp

theorem clampI_eq_max_min {lo hi : Int} (x : Int) (h : lo ≤ hi) : clampI lo hi x = max lo (min hi x) := by
  unfold clampI
  split
  · omega
  · omega

theorem assayStepLimit_ends (hl : s.laneRec d l = some (c, r)) (hx : s.ctx c = some x) (hw : r.waiting = false)
    (he : 2 ^ 20 ≤ r.steps ∨ s.fetch r = none) : Answers (.assayStepLimit d l) s fun t =>
      t.ctx c = some { x with assays := x.assays.map fun q => if q.tm = r.tm then r.finish 6 else q } ∧
      (t.obj c O.ASSAY_STEP_LIMIT).toNat = satN 32 ((s.obj c O.ASSAY_STEP_LIMIT).toNat + 1) ∧
      bit (t.obj c O.ASSAY_STATUS) 2 = true ∧ CtxsBut c s t ∧
      OnlyObjs [objKey c O.ASSAY_STEP_LIMIT, objKey c O.ASSAY_STATUS] { s with ctxs := t.ctxs } t := by
  have hu : exec (.assayStepLimit d l) s = done (((s.setCtx c (
      { x with assays := x.assays.map fun q => if q.tm = r.tm then r.finish 6 else q })).countSat c O.ASSAY_STEP_LIMIT 32).flag c O.ASSAY_STATUS 2) := by
    rw [exec_assayStepLimit, execAssayStepLimit, hl]
    dsimp only
    rw [if_pos ⟨hw, he⟩, modARec, modCtx_some hx]
  refine answers_done hu ⟨?_, ?_, ?_, ?_, ?_⟩
  · rw [ctx_settle]
    exact ctx_setCtx_self s c _
  · rw [obj_settle_of _ _ _ (by decide) (by decide)]
    exact toNat_obj_counted_flagged (by decide) (by decide) (by decide)
  · rw [obj_settle_of _ _ _ (by decide) (by decide)]
    exact bit_obj_flagged (by decide)
  · exact CtxsBut.settled (t := ((s.setCtx c _).countSat c O.ASSAY_STEP_LIMIT 32).flag c O.ASSAY_STATUS 2)
      (ctxsBut_setCtx s c _)
  · rw [settle_ctxs]
    refine OnlyObjs.settled ?_
    rw [State.flag_eq, State.countSat_eq]
    exact (((onlyObjs_refl s _).setCtx c _).put (j := c) (k := O.ASSAY_STEP_LIMIT) (by simp) _).put (j := c)
      (k := O.ASSAY_STATUS) (by simp) _

/-- Settles O38: each word has its effect on its record alone; HMODE's bin is a mode, and the step limit counts once. -/
theorem controlWords : Obligations.ControlWords := by
  refine ⟨fun s i d l op c w x r hi h hc => ?_, fun s d l c w x r hc => ?_, fun s d l c x r hl hx => ?_⟩
  · obtain ⟨f, hf⟩ := exec_wordOf hi h.1
    exact answers_fails h hc hf
  · refine ⟨fun h => ?_, fun h => ?_, fun h => ?_, fun h => ⟨fun hs => ?_, fun hs => ?_⟩,
      fun h => ⟨fun ha => ?_, fun ha => ?_, fun ha => ?_⟩, fun h => ?_, fun h => ⟨fun hl hu => ?_, fun ho => ?_⟩,
      fun h => ⟨fun hab => ?_, fun hab => ?_⟩, fun h => ?_,
      fun h => ⟨fun hp hlong => ?_, fun hp hlong => ?_, fun hp => ?_⟩,
      fun h => ⟨fun ev q hq => ?_, fun hr hq => ?_, fun hr hq => ?_⟩, fun h => ?_, fun h => ?_, fun h => ?_⟩
    · exact answers_pureWord h hc (exec_wNop s d l w) rfl
    · exact answers_pureWord h hc (exec_wMov s d l w) rfl
    · exact answers_pureWord h hc (exec_wLdi s d l w) rfl
    -- LDS
    · exact answers_runWord h hc (wLds_lds h.1) (if_pos hs) (onlyObjs_refl s [])
    · exact (answers_runWord h hc (wLds_lds h.1) (if_neg (Bool.eq_false_iff.1 hs)) (onlyObjs_free s)).mono
        fun t ht => ⟨_, ht⟩
    -- STS
    · exact answers_pureWord h hc (exec_wSts s d l w) (by rw [ha]; rfl)
    · exact answers_pureWord h hc (exec_wSts s d l w) (by rw [ha]; rfl)
    · exact answers_pureWord h hc (exec_wSts s d l w) (by rw [ha]; rfl)
    · exact answers_pureWord h hc (exec_wJmp s d l w) rfl
    -- HCNT
    · exact answers_pureWord h hc (exec_wHcnt s d l w) (congrArg _ (congrArg ofN (bin_eq_count ⟨hl, hu⟩)))
    · exact answers_pureWord h hc (exec_wHcnt s d l w) (congrArg _ (congrArg ofN (bin_eq_zero fun hin => ho.elim (not_lt.2 hin.1) (not_lt.2 hin.2))))
    -- HMODE
    · obtain ⟨hl, hu, hm⟩ := isMode_mode (r := r) (w.aux.getLsbD 0) hab
      exact (answers_runWord h hc (exec_wHmode s d l w) (if_pos hab) (onlyObjs_refl s [])).mono
        fun t ht => ⟨_, hl, hu, hm, ht⟩
    · exact (answers_runWord h hc (exec_wHmode s d l w) (if_neg (not_le.2 hab)) (onlyObjs_free s)).mono
        fun t ht => ⟨_, ht⟩
    · exact answers_pureWord h hc (exec_wHbin s d l w) (congrArg _ (congrArg ofI (clampI_eq_max_min _ (by decide))))
    -- PASS2
    · exact answers_pureWord h hc (exec_wPass2 s d l w) ((if_neg (not_le.2 hp)).trans (by simp [ARec.stepped, hlong]))
    · exact answers_pureWord h hc (exec_wPass2 s d l w) ((if_neg (not_le.2 hp)).trans (by simp [ARec.stepped, hlong]))
    · exact answers_pureWord h hc (exec_wPass2 s d l w) (if_pos hp)
    -- NEXTX
    · exact answers_pureWord h hc (exec_wNextx s d l w) (by simp [ARec.stepped, hq])
    · obtain ⟨ev, q, hq⟩ := List.exists_cons_of_ne_nil hq
      exact answers_pureWord h hc (exec_wNextx s d l w) (by simp [ARec.stepped, hr, hq])
    · exact answers_pureWord h hc (exec_wNextx s d l w) (by simp [ARec.stepped, hr, hq])
    · exact answers_pureWord h hc (exec_wPut s d l w) rfl
    · exact answers_pureWord h hc (exec_wPutv s d l w) (by simp [ARec.stepped, fld])
    · exact answers_pureWord h hc (exec_wEnd s d l w) rfl
  · refine ⟨fun ev q hq hw => ?_, fun ev q hq hw => ?_, assayStepLimit_ends hl hx⟩
    · have h := pass2EventReady_next hl hx hq
      rwa [if_pos hw] at h
    · have h := pass2EventReady_next hl hx hq
      rwa [if_neg (Bool.eq_false_iff.1 hw)] at h

end Sys2Proof.Machine
end

section
/-! ## Reads of capture memory whose checks pass (R295, R297) -/

namespace Sys2Proof.Machine

variable {s t u : State} {a d n : Nat}

/-- What a read whose check passes leaves: a channel that leaves self-refresh, a count of addresses that do not exist;
every unit has the contents and the poison it had. -/
structure Awoken (s t : State) : Prop where
  fields : ∃ os h k, t = { s with objs := os, halves := h, hbm := k }
  objs : ∀ i k, objKey i k ≠ objKey 0 O.MEM_BAD_ACCESS → t.obj i k = s.obj i k
  poison : ∀ d, (t.half d).poison = (s.half d).poison
  failed : ∀ d, (t.half d).failed = (s.half d).failed
  phys : ∀ d u, t.physUnit d u = s.physUnit d u
  stack : ∀ i, (t.stack i).st = (s.stack i).st

theorem awoken_refl (s : State) : Awoken s s :=
  ⟨⟨s.objs, s.halves, s.hbm, rfl⟩, fun _ _ _ => rfl, fun _ => rfl, fun _ => rfl, fun _ _ => rfl, fun _ => rfl⟩

theorem Awoken.trans (h : Awoken s t) (h' : Awoken t u) : Awoken s u := by
  refine ⟨?_, fun i k hk => (h'.objs i k hk).trans (h.objs i k hk), fun d => (h'.poison d).trans (h.poison d),
    fun d => (h'.failed d).trans (h.failed d), fun d n => (h'.phys d n).trans (h.phys d n),
    fun i => (h'.stack i).trans (h.stack i)⟩
  obtain ⟨_, _, _, rfl⟩ := h.fields
  obtain ⟨os, hs, k, rfl⟩ := h'.fields
  exact ⟨os, hs, k, rfl⟩

theorem Awoken.poisoned (h : Awoken s t) (a : Nat) : t.poisoned a = s.poisoned a := by
  unfold State.poisoned
  dsimp only
  rw [h.poison, h.failed, h.phys, h.stack]

theorem Awoken.resolve (h : Awoken s t) (a : Nat) : t.resolve a = s.resolve a := by
  obtain ⟨os, hs, k, rfl⟩ := h.fields
  rfl

theorem half_setHalf (s : State) (d e : Nat) (h : HalfCtl) :
    (s.setHalf d h).half e = if e = d ∧ d < s.halves.length then h else s.half e := by
  unfold State.half State.setHalf
  simp only [List.getD_eq_getElem?_getD, List.getElem?_set]
  split
  next he =>
    subst he
    split
    next hlt => rw [if_pos ⟨rfl, hlt⟩]; rfl
    next hlt => rw [if_neg fun h => hlt h.2, List.getElem?_eq_none (Nat.le_of_not_lt hlt)]
  next he => rw [if_neg fun h => he h.1.symm]

theorem stack_setStack (s : State) (i j : Nat) (x : Stack) :
    (s.setStack i x).stack j = if j = i ∧ i < s.hbm.length then x else s.stack j := by
  unfold State.stack State.setStack
  simp only [List.getD_eq_getElem?_getD, List.getElem?_set]
  split
  next he =>
    subst he
    split
    next hlt => rw [if_pos ⟨rfl, hlt⟩]; rfl
    next hlt => rw [if_neg fun h => hlt h.2, List.getElem?_eq_none (Nat.le_of_not_lt hlt)]
  next he => rw [if_neg fun h => he h.1.symm]

/-- A field of every controller is as before where one controller is replaced by one with the same field. -/
theorem half_setHalf_field {α : Type} (f : HalfCtl → α) {h : HalfCtl} (hd : f h = f (s.half d)) (e : Nat) :
    f ((s.setHalf d h).half e) = f (s.half e) := by
  rw [half_setHalf]
  split
  next he => rw [he.1, hd]
  next => rfl

theorem awoken_setHalf_stepFrom (s : State) (d : Nat) (q : List (Nat × Nat)) :
    Awoken s (s.setHalf d { s.half d with stepFrom := q }) := by
  refine ⟨⟨s.objs, _, s.hbm, rfl⟩, fun _ _ _ => rfl, half_setHalf_field HalfCtl.poison rfl,
    half_setHalf_field HalfCtl.failed rfl, fun e n => ?_, fun _ => rfl⟩
  exact half_setHalf_field (h := { s.half d with stepFrom := q }) (fun h => if h.uncopied n then n else h.writeUnit n) rfl e

theorem awoken_setStack (s : State) (i : Nat) (q : List Nat) :
    Awoken s (s.setStack i { s.stack i with selfRefresh := q }) := by
  refine ⟨⟨s.objs, s.halves, _, rfl⟩, fun _ _ _ => rfl, fun _ => rfl, fun _ => rfl, fun _ _ => rfl, fun j => ?_⟩
  rw [stack_setStack]
  split
  next hj => rw [hj.1]
  next => rfl

theorem awoken_wakePc (s : State) (d pc : Nat) : Awoken s (wakePc s d pc) := by
  unfold wakePc exitSelfRefresh holdSteps
  split
  · dsimp only
    split
    · exact (awoken_setStack s _ _).trans (awoken_setHalf_stepFrom _ _ _)
    · exact awoken_refl s
  · exact awoken_refl s

theorem objs_wakePc (s : State) (d pc : Nat) : (wakePc s d pc).objs = s.objs := by
  unfold wakePc exitSelfRefresh holdSteps
  split
  · dsimp only
    split
    · rfl
    · rfl
  · rfl

theorem awoken_badAccess (s : State) : Awoken s (badAccess s) := by
  unfold badAccess
  rw [State.countSat_eq]
  exact ⟨⟨_, s.halves, s.hbm, rfl⟩, fun i k hk => State.obj_setObj_ne _ _ _ _ _ _ hk, fun _ => rfl, fun _ => rfl,
    fun _ _ => rfl, fun _ => rfl⟩

/-! ### The units of a read, one by one -/

/-- The state after a read of the unit at capture address `c` with check `e`. -/
def unitRead (s : State) (c : Nat) (e : Ecc) : State :=
  let w := wakeUnit s (c / halfBytes) (c % halfBytes / 64)
  if w.served (c / halfBytes) then eccRead w (c / halfBytes) (c % halfBytes / 64) e else w

/-- `readUnits` over any map of addresses: the kernel would otherwise evaluate the map, whose bounds are products with
large numerals. -/
def readUnitsBy (resolve : State → Nat → Option (Nat × Bool)) (s : State) : List Nat → List Ecc → List Nat × State
  | [], _ => ([], s)
  | a :: as, es =>
    match resolve s a with
    | none => readUnitsBy resolve (badAccess s) as es.tail
    | some (c, _) =>
      let r := readUnitsBy resolve (unitRead s c (es.headD .clean)) as es.tail
      (if es.headD .clean = .failed then a :: r.1 else r.1, r.2)

theorem readUnits_f_eq : readUnits._f = readUnitsBy._f State.resolve := by
  obtain ⟨resolve, hr⟩ : ∃ r, r = State.resolve := ⟨_, rfl⟩
  delta readUnits._f
  rw [← hr]
  rfl

theorem readUnits_eq_by (s : State) (l : List Nat) (es : List Ecc) : readUnits s l es = readUnitsBy State.resolve s l es := by
  delta readUnits readUnitsBy
  rw [readUnits_f_eq]

theorem readUnits_none {s : State} {a : Nat} (h : s.resolve a = none) (as : List Nat) (es : List Ecc) :
    readUnits s (a :: as) es = readUnits (badAccess s) as es.tail := by
  rw [readUnits_eq_by, readUnits_eq_by, readUnitsBy, h]

theorem readUnits_some {s : State} {a c : Nat} {b : Bool} (h : s.resolve a = some (c, b)) (as : List Nat) (es : List Ecc) :
    readUnits s (a :: as) es =
      (if es.headD .clean = .failed then a :: (readUnits (unitRead s c (es.headD .clean)) as es.tail).1
        else (readUnits (unitRead s c (es.headD .clean)) as es.tail).1,
       (readUnits (unitRead s c (es.headD .clean)) as es.tail).2) := by
  rw [readUnits_eq_by, readUnits_eq_by, readUnitsBy, h]

theorem awoken_unitRead (s : State) (c : Nat) : Awoken s (unitRead s c .clean) ∧ (unitRead s c .clean).objs = s.objs := by
  have hw : Awoken s (wakeUnit s (c / halfBytes) (c % halfBytes / 64)) := awoken_wakePc _ _ _
  have ho : (wakeUnit s (c / halfBytes) (c % halfBytes / 64)).objs = s.objs := objs_wakePc _ _ _
  unfold unitRead
  dsimp only
  split
  · exact ⟨hw, ho⟩
  · exact ⟨hw, ho⟩

theorem awoken_readUnits (as : List Nat) (s : State) :
    (readUnits s as []).1 = [] ∧ Awoken s (readUnits s as []).2 ∧
      ((∀ a ∈ as, (s.resolve a).isSome = true) → (readUnits s as []).2.objs = s.objs) := by
  induction as generalizing s with
  | nil => exact ⟨rfl, awoken_refl s, fun _ => rfl⟩
  | cons a as ih =>
    cases hr : s.resolve a with
    | none =>
      obtain ⟨h1, h2, -⟩ := ih (badAccess s)
      rw [readUnits_none hr]
      refine ⟨h1, (awoken_badAccess s).trans h2, fun h => ?_⟩
      have ha := h a List.mem_cons_self
      rw [hr] at ha
      exact absurd ha Bool.false_ne_true
    | some c =>
      obtain ⟨hw, ho⟩ := awoken_unitRead s c.1
      obtain ⟨h1, h2, h3⟩ := ih (unitRead s c.1 .clean)
      rw [readUnits_some (b := c.2) hr, List.headD_nil, List.tail_nil, if_neg (nofun : ¬ Ecc.clean = Ecc.failed)]
      refine ⟨h1, hw.trans h2, fun h => (h3 fun b hb => ?_).trans ho⟩
      rw [hw.resolve]
      exact h b (List.mem_cons_of_mem a hb)

end Sys2Proof.Machine
end

section
/-! ## The crucible (R219, R231 to R238) -/

namespace Sys2Proof.Machine

variable {s t u : State} {p c : Nat} {x y : Ctx} {i : Instr} {v : Slot}

/-! ### The state of a crucible over time -/

theorem now_lt_next_cycle (s : State) : s.now < s.cycle + 48 := by
  unfold State.cycle
  omega

theorem Crucible.stAt_before {k : Crucible} {n : Nat} (h : n < k.from_) : k.stAt n = k.before := if_pos h

theorem Crucible.stAt_from {k : Crucible} {n : Nat} (h : k.from_ ≤ n) : k.stAt n = k.st := if_neg (Nat.not_lt.2 h)

theorem Crucible.folding_clearing {k : Crucible} {n : Nat} (h : k.stAt n = .clearing) : k.folding n = [] := if_pos h

/-! ### Commands -/

theorem access_cruCmd (hi : exec i s = done (access s p O.CRU_CMD fun s => cruCmdWrite s p (s.selected p) v))
    (hs : Served s p) (hc : s.selected p = c) (hx : s.ctx c = some x) (ho : ownerOf p = x.owner)
    (hv : decide (1 ≤ v.toNat ∧ v.toNat ≤ 3) = true) {P : State → Prop} (hf : cruCommand s.turned c v.toNat = .ok u)
    (hP : P (settle u)) : Answers i s P := by
  subst hc
  have ho' : ownerOf p = s.turned.ctxOwner (s.selected p) := ho.trans (ctxOwner_of (s := s.turned) hx).symm
  exact answers_access hi hs rfl ((ctxOwnerOnly_pos ho' _).trans ((need_pos s.turned hv _ _).trans hf)) hP

theorem rejected_cruCmd (hi : exec i s = done (access s p O.CRU_CMD fun s => cruCmdWrite s p (s.selected p) v))
    (hs : Served s p) (hc : s.selected p = c) (hx : s.ctx c = some x) (ho : ownerOf p = x.owner)
    (hv : decide (1 ≤ v.toNat ∧ v.toNat ≤ 3) = true) {a : Abort} (hf : cruCommand s.turned c v.toNat = (s.turned, some a)) :
    Answers i s fun t => Rejected s t p O.CRU_CMD 2 a := by
  subst hc
  have ho' : ownerOf p = s.turned.ctxOwner (s.selected p) := ho.trans (ctxOwner_of (s := s.turned) hx).symm
  exact rejected_access hi hs rfl ((ctxOwnerOnly_pos ho' _).trans ((need_pos s.turned hv _ _).trans hf))

/-- The context takes a new record and nothing else changes. -/
theorem replaced_settled (s : State) (c : Nat) (y : Ctx) :
    let t := settle (s.turned.setCtx c y)
    t.ctx c = some y ∧ CtxsBut c s t ∧ OnlyObjs [] { s with ctxs := t.ctxs } t := by
  refine ⟨?_, CtxsBut.settled (t := s.turned.setCtx c y) (ctxsBut_setCtx s.turned c y), ?_⟩
  · rw [ctx_settle, ctx_setCtx_self]
  · rw [settle_ctxs]
    exact ((onlyObjs_turned []).setCtx c y).settled

theorem cruCommand_clear (hx : s.ctx c = some x) (h0 : x.cru.st ≠ .none) (h1 : x.cru.st ≠ .clearing) :
    cruCommand s c 1 = .ok (s.setCtx c { x with cru := x.cru.clear s.now (s.cycle + 48) }) := by
  unfold cruCommand
  rw [hx]
  dsimp only
  rw [if_neg h0]
  exact congrArg Acc.ok (if_neg h1)

theorem cruCommand_clear_clearing (hx : s.ctx c = some x) (h : x.cru.st = .clearing) : cruCommand s c 1 = .ok s := by
  unfold cruCommand
  rw [hx]
  dsimp only
  rw [h]
  rfl

theorem cruCommand_freeze_opened (hx : s.ctx c = some x) (h : x.cru.st = .opened) :
    cruCommand s c 2 = .ok (s.setCtx c { x with cru := x.cru.turn .frozen s.now s.cycle }) := by
  unfold cruCommand
  rw [hx]
  dsimp only
  rw [h]
  rfl

theorem cruCommand_freeze_clearing (hx : s.ctx c = some x) (h : x.cru.st = .clearing) :
    cruCommand s c 2 = .ok (s.setCtx c { x with cru := { x.cru with freeze := true } }) := by
  unfold cruCommand
  rw [hx]
  dsimp only
  rw [h]
  rfl

theorem cruCommand_thaw_frozen (hx : s.ctx c = some x) (h : x.cru.st = .frozen) :
    cruCommand s c 3 = .ok (cruCheckDone (s.setCtx c { x with cru := x.cru.turn .opened s.now s.cycle }) c) := by
  unfold cruCommand
  rw [hx]
  dsimp only
  rw [h]
  rfl

theorem cruCommand_thaw_opened (hx : s.ctx c = some x) (h : x.cru.st = .opened) : cruCommand s c 3 = .ok s := by
  unfold cruCommand
  rw [hx]
  dsimp only
  rw [h]
  rfl

theorem cruCommand_thaw_refused (hx : s.ctx c = some x) (h : x.cru.st = .clearing ∨ x.cru.st = .complete) :
    cruCommand s c 3 = (s, some .presentState) := by
  unfold cruCommand
  rw [hx]
  dsimp only
  rcases h with h | h
  · rw [h]
    rfl
  · rw [h]
    rfl

theorem cruCommand_none (hx : s.ctx c = some x) (h : x.cru.st = .none) (n : Nat) :
    cruCommand s c n = (s, some .presentState) := by
  unfold cruCommand
  rw [hx]
  dsimp only
  rw [if_pos h]

/-! ### A crucible with all records it wants -/

theorem cruCheckDone_waits (hx : s.ctx c = some x)
    (h : s.cN c O.CRU_TARGET = 0 ∨ x.cru.active ≠ [] ∨ x.cru.admitted < s.cN c O.CRU_TARGET) : cruCheckDone s c = s := by
  unfold cruCheckDone
  rw [hx]
  dsimp only
  rw [if_neg]
  rintro ⟨-, h0, hle, ha⟩
  rcases h with h | h | h
  · exact h0 h
  · exact h ha
  · exact absurd hle (Nat.not_le.2 h)

/-- What a check for the last record leaves: the context's crucible at most completes. -/
theorem cruCheckDone_frame (hx : s.ctx c = some x) :
    (∃ y, (cruCheckDone s c).ctx c = some y ∧ y.cru.active = x.cru.active ∧ y.cru.admitted = x.cru.admitted) ∧
    CtxsBut c s (cruCheckDone s c) ∧ (cruCheckDone s c).cruBufs = s.cruBufs ∧ (cruCheckDone s c).mem = s.mem ∧
    (cruCheckDone s c).inputs = s.inputs ∧
    ∀ i k, objKey i k ∉ settleKeys → (cruCheckDone s c).obj i k = s.obj i k := by
  unfold cruCheckDone
  rw [hx]
  dsimp only
  split
  · refine ⟨⟨_, (ctx_congr (pulse_ctxs ..) c).trans (ctx_setCtx_self s c _), rfl, rfl⟩, ?_, ?_, ?_, ?_, fun i k hk => ?_⟩
    · exact (ctxsBut_setCtx s c _).trans (ctxsBut_congr (pulse_ctxs ..) c)
    · rw [pulse_cruBufs, State.setCtx_cruBufs]
    · rw [pulse_mem, State.setCtx_mem]
    · rw [pulse_inputs, State.setCtx_inputs]
    · rw [obj_pulse _ _ _ _ _ _ hk]
      rfl
  · exact ⟨⟨x, hx, rfl, rfl⟩, fun _ _ => rfl, rfl, rfl, rfl, fun _ _ _ => rfl⟩

/-! ### The end of a Clear -/

theorem cruBuf_modBuf {h : Nat} {b : CruBuf} {f : CruBuf → CruBuf} (hb : kvGet s.cruBufs h = some b) :
    modBuf s h f = { s with cruBufs := kvPut s.cruBufs h (f b) } := by
  unfold modBuf
  rw [hb]

theorem cruClearDone_reopens {h : Nat} {b : CruBuf} (hx : s.ctx c = some x) (hh : x.cru.handle = some h)
    (hb : kvGet s.cruBufs h = some b) (hst : x.cru.st = .clearing) : Answers (.cruClearDone c) s fun t =>
      t.ctx c = some { x with cru := { x.cru with st := if x.cru.freeze then .frozen else .opened, active := [],
                                                  admitted := 0, freeze := false, from_ := 0 } } ∧
      (∃ b', kvGet t.cruBufs h = some b' ∧ (∀ k, b'.elem k = { b with parts := b.parts.map fun _ => [] }.elem k) ∧
        b'.records = 0 ∧ b'.first = [] ∧ b'.last = b.last ∧ b'.gen = (s.cN c O.CRU_GEN + 1) % 2 ^ 32) ∧
      t.obj c O.CRU_RECORDS = 0 ∧ t.obj c O.CRU_OUTSIDE = 0 ∧
      (t.obj c O.CRU_GEN).toNat = ((s.obj c O.CRU_GEN).toNat + 1) % 2 ^ 32 ∧ CtxsBut c s t ∧
      OnlyObjs [objKey c O.CRU_RECORDS, objKey c O.CRU_OUTSIDE, objKey c O.CRU_GEN]
        { s with ctxs := t.ctxs, cruBufs := t.cruBufs } t := by
  have hi : exec (.cruClearDone c) s = done (cruReopen s c x) := by
    rw [exec_cruClearDone, execCruClearDone, hx]
    dsimp only
    rw [if_pos hst]
  refine answers_done hi ?_
  unfold cruReopen
  dsimp only
  rw [hh, Option.getD_some, cruBuf_modBuf hb]
  refine ⟨?_, ⟨_, (congrArg (kvGet · h) (settle_cruBufs ..)).trans (kvGet_kvPut_self ..), fun _ => rfl, rfl, rfl, rfl, rfl⟩,
    ?_, ?_, ?_, ?_, ?_⟩
  · rw [ctx_settle]
    exact ctx_setCtx_self _ c _
  · rw [obj_settle_of _ _ _ (by decide) (by decide), State.obj_setObj _ _ _ _ _ _ (by decide) (by decide),
      if_neg (fun h => absurd h.2 (by decide)), State.obj_setObj _ _ _ _ _ _ (by decide) (by decide),
      if_neg (fun h => absurd h.2 (by decide)), State.obj_setObj_self]
  · rw [obj_settle_of _ _ _ (by decide) (by decide), State.obj_setObj _ _ _ _ _ _ (by decide) (by decide),
      if_neg (fun h => absurd h.2 (by decide)), State.obj_setObj_self]
  · rw [obj_settle_of _ _ _ (by decide) (by decide), State.obj_setObj_self]
    exact ofN_toNat _ (Nat.lt_trans (Nat.mod_lt _ (by decide)) (by decide))
  · refine CtxsBut.settled ?_
    exact ctxsBut_setCtx { s with cruBufs := _ } c _
  · rw [settle_ctxs, settle_cruBufs]
    refine OnlyObjs.settled ?_
    exact ((((onlyObjs_refl ({ s with cruBufs := _ } : State) _).setCtx c _).put (j := c) (k := O.CRU_RECORDS) (by simp) _).put
      (j := c) (k := O.CRU_OUTSIDE) (by simp) _).put (j := c) (k := O.CRU_GEN) (by simp) _

/-! ### The end of a record that is skipped -/

/-- The context once a record's segment has closed: its lanes are free. -/
abbrev Ctx.unlaned (x : Ctx) (r : CruRec) : Ctx := { x with cru := { x.cru with active := x.cru.active.erase r } }

theorem cruSkip_setCtx (s : State) (c : Nat) (x y : Ctx) : (cruSkip (s.setCtx c x) c).setCtx c y = cruSkip (s.setCtx c y) c :=
  congrArg (fun l => { cruSkip s c with ctxs := l }) (kvPut_kvPut s.ctxs c x y)

theorem modCtx_cruSkip (s : State) (c : Nat) (x : Ctx) (f : Ctx → Ctx) :
    (cruSkip (s.setCtx c x) c).modCtx c f = cruSkip (s.setCtx c (f x)) c := by
  rw [modCtx_some (s := cruSkip (s.setCtx c x) c) (x := x) (ctx_setCtx_self s c x), cruSkip_setCtx]

/-- A record skipped whole, and the context's new record. -/
theorem skipped_settled (s : State) (c : Nat) (y : Ctx) :
    let t := settle (cruSkip (s.setCtx c y) c)
    t.ctx c = some y ∧ (t.obj c O.CRU_SKIPPED).toNat = satN 32 ((s.obj c O.CRU_SKIPPED).toNat + 1) ∧
    bit (t.obj c O.CRU_STATUS) 1 = true ∧ CtxsBut c s t ∧
    OnlyObjs [objKey c O.CRU_SKIPPED, objKey c O.CRU_STATUS] { s with ctxs := t.ctxs } t := by
  unfold cruSkip
  refine ⟨?_, ?_, ?_, ?_, ?_⟩
  · rw [ctx_settle]
    exact ctx_setCtx_self s c y
  · rw [obj_settle_of _ _ _ (by decide) (by decide)]
    exact toNat_obj_counted_flagged (by decide) (by decide) (by decide)
  · rw [obj_settle_of _ _ _ (by decide) (by decide)]
    exact bit_obj_flagged (by decide)
  · exact CtxsBut.settled (t := ((s.setCtx c y).countSat c O.CRU_SKIPPED 32).flag c O.CRU_STATUS 1) (ctxsBut_setCtx s c y)
  · rw [settle_ctxs]
    refine OnlyObjs.settled ?_
    rw [State.flag_eq, State.countSat_eq]
    exact (((onlyObjs_refl s _).setCtx c y).put (j := c) (k := O.CRU_SKIPPED) (by simp) _).put (j := c)
      (k := O.CRU_STATUS) (by simp) _

/-- What becomes of the record `r` whose segment has closed: skipped at a change of trims, with a Clear after it, without
its head, or folded. -/
def recordEnd (s : State) (c : Nat) (r : CruRec) (saw : Bool) (checks : List Ecc) : State :=
  if r.transition ∧ s.cN c O.CRU_CAL_POLICY ≠ 0 then
    (cruUnadmit (cruSkip s c) c).modCtx c fun x =>
      { x with cru := { x.cru with sawTransition := decide (s.cN c O.CRU_CAL_POLICY = 2) } }
  else if !r.transition ∧ saw ∧ s.cN c O.CRU_CAL_POLICY = 2 then
    (cruSkip s c).modCtx c fun x =>
      { x with cru := if x.cru.st = .clearing then x.cru else x.cru.clear s.now s.now }
  else if r.head ∧ s.cN c O.CRU_PARTIAL = 0 then cruUnadmit (cruSkip s c) c
  else cruCheckDone (cruFold s c r checks) c

theorem exec_cruRecordDone_ready {r : CruRec} (hx : s.ctx c = some x)
    (hr : (x.cru.folding s.now).find? CruRec.ready = some r) (checks : List Ecc) :
    exec (.cruRecordDone ⟨c, checks⟩) s = done (recordEnd (s.setCtx c (x.unlaned r)) c r x.cru.sawTransition checks) := by
  -- the kernel is kept from evaluating the time of `folding`
  obtain ⟨folding, hf⟩ : ∃ f, f = Crucible.folding := ⟨_, rfl⟩
  rw [exec_cruRecordDone, execCruRecordDone, ← hf]
  rw [← hf] at hr
  dsimp only
  rw [hx]
  dsimp only
  rw [hr]
  rfl

theorem exec_cruRecordDone_none (hx : s.ctx c = some x) (hr : (x.cru.folding s.now).find? CruRec.ready = none)
    (checks : List Ecc) : exec (.cruRecordDone ⟨c, checks⟩) s = done s := by
  -- the kernel is kept from evaluating the time of `folding`
  obtain ⟨folding, hf⟩ : ∃ f, f = Crucible.folding := ⟨_, rfl⟩
  rw [exec_cruRecordDone, execCruRecordDone, ← hf]
  rw [← hf] at hr
  dsimp only
  rw [hx]
  dsimp only
  rw [hr]

theorem recordEnd_transition {r : CruRec} {saw : Bool} {checks : List Ecc} (ht : r.transition = true)
    (hp : s.cN c O.CRU_CAL_POLICY ≠ 0) : recordEnd (s.setCtx c x) c r saw checks = cruSkip (s.setCtx c { x with cru :=
      { x.cru with admitted := x.cru.admitted - 1, sawTransition := decide (s.cN c O.CRU_CAL_POLICY = 2) } }) c := by
  have hp' : (s.setCtx c x).cN c O.CRU_CAL_POLICY ≠ 0 := hp
  rw [recordEnd, if_pos ⟨ht, hp'⟩, cruUnadmit, modCtx_cruSkip, modCtx_cruSkip]
  rfl

theorem recordEnd_clean {r : CruRec} {saw : Bool} {checks : List Ecc} (ht : r.transition = false) (hs : saw = true)
    (hp : s.cN c O.CRU_CAL_POLICY = 2) (hst : x.cru.st ≠ .clearing) :
    recordEnd (s.setCtx c x) c r saw checks = cruSkip (s.setCtx c { x with cru := x.cru.clear s.now s.now }) c := by
  have hp' : (s.setCtx c x).cN c O.CRU_CAL_POLICY = 2 := hp
  rw [recordEnd, if_neg fun h => Bool.false_ne_true (ht.symm.trans h.1), if_pos ⟨by rw [ht]; rfl, hs, hp'⟩, modCtx_cruSkip]
  exact congrArg (fun k => cruSkip (s.setCtx c { x with cru := k }) c) (if_neg hst)

/-- A record that neither starts nor ends a change of trims goes on to the check for its head and to folding. -/
theorem recordEnd_plain {r : CruRec} {saw : Bool} {checks : List Ecc} (ht : r.transition = false ∨ s.cN c O.CRU_CAL_POLICY = 0)
    (hs : saw = false) : recordEnd s c r saw checks = if r.head ∧ s.cN c O.CRU_PARTIAL = 0
      then cruUnadmit (cruSkip s c) c else cruCheckDone (cruFold s c r checks) c := by
  have h1 : ¬ (r.transition = true ∧ s.cN c O.CRU_CAL_POLICY ≠ 0) := fun h =>
    ht.elim (fun ht => Bool.false_ne_true (ht.symm.trans h.1)) fun hp => h.2 hp
  have h2 : ¬ ((!r.transition) = true ∧ saw = true ∧ s.cN c O.CRU_CAL_POLICY = 2) := fun h =>
    Bool.false_ne_true (hs.symm.trans h.2.1)
  rw [recordEnd, if_neg h1, if_neg h2]

theorem recordEnd_headless {r : CruRec} {saw : Bool} {checks : List Ecc} (hh : r.head = true) (hp : s.cN c O.CRU_PARTIAL = 0)
    (ht : r.transition = false) (hs : saw = false) : recordEnd (s.setCtx c x) c r saw checks =
      cruSkip (s.setCtx c { x with cru := { x.cru with admitted := x.cru.admitted - 1 } }) c := by
  have hp' : (s.setCtx c x).cN c O.CRU_PARTIAL = 0 := hp
  rw [recordEnd_plain (.inl ht) hs, if_pos ⟨hh, hp'⟩, cruUnadmit, modCtx_cruSkip]

/-! ### The end of a record that is folded -/

/-- The buffer with the record `r` in it, one record more. -/
def CruBuf.folded (b : CruBuf) (r : CruRec) (recs : Nat) : CruBuf :=
  let b' := (r.items.foldl foldItem (b, {})).1
  { b' with records := recs, last := r.record, first := if b'.first = [] then r.record else b'.first }

/-- The objects of a crucible once a record is folded. -/
def foldMarks (s : State) (c recs : Nat) (n : FoldNote) (r : CruRec) : State :=
  let s := ((s.setObj c O.CRU_RECORDS (ofN recs)).flag c O.CRU_STATUS 0).countWrap c O.CRU_OUTSIDE 64 n.outside
  let s := if n.sat then s.flag c O.CRU_STATUS 5 else s
  let s := if n.cellSat then s.flag c O.CRU_STATUS 4 else s
  let s := if r.transition then s.flag c O.CRU_STATUS 3 else s
  if r.short then (s.countSat c O.CRU_TRUNCATED 32).flag c O.CRU_STATUS 2 else s

theorem Awoken.ctxs (h : Awoken s t) : t.ctxs = s.ctxs := by
  obtain ⟨os, hs, k, rfl⟩ := h.fields
  rfl

theorem Awoken.mem (h : Awoken s t) : t.mem = s.mem := by
  obtain ⟨os, hs, k, rfl⟩ := h.fields
  rfl

theorem Awoken.inputs (h : Awoken s t) : t.inputs = s.inputs := by
  obtain ⟨os, hs, k, rfl⟩ := h.fields
  rfl

theorem Awoken.spillUnits (h : Awoken s t) (n : Nat) (b : CruBuf) (items : List (Nat × Nat × Nat)) :
    t.spillUnits n b items = s.spillUnits n b items := by
  obtain ⟨os, hs, k, rfl⟩ := h.fields
  rfl

theorem cruFold_clean {h : Nat} {b : CruBuf} {r : CruRec} (hx : s.ctx c = some x) (hh : x.cru.handle = some h)
    (hb : kvGet s.cruBufs h = some b) (hu : ∀ a ∈ s.spillUnits h b r.items, s.poisoned a = false) :
    ∃ u, Awoken s u ∧ cruFold s c r [] = pulse (foldMarks
      { u with cruBufs := kvPut u.cruBufs h (b.folded r ((u.cN c O.CRU_RECORDS + 1) % 2 ^ 32)) } c
      ((u.cN c O.CRU_RECORDS + 1) % 2 ^ 32) (r.items.foldl foldItem (b, {})).2 r) 1 5 c := by
  obtain ⟨h1, h2, -⟩ := awoken_readUnits (s.spillUnits h b r.items) s
  refine ⟨_, h2, ?_⟩
  have hbad : ((readUnits s (s.spillUnits h b r.items) []).2.spillUnits h b r.items).filter (fun a => (readUnits s (s.spillUnits h b r.items) []).2.poisoned a ||
      (readUnits s (s.spillUnits h b r.items) []).1.contains a) = [] := by
    refine List.filter_eq_nil_iff.2 fun a ha => ?_
    rw [h2.spillUnits] at ha
    rw [h2.poisoned, hu a ha, h1, List.contains_nil]
    decide
  unfold cruFold
  rw [hx]
  simp only [hh, hb, hbad, if_true, List.foldl_nil]
  unfold foldMarks CruBuf.folded
  dsimp only

/-- Objects of context `c` change; the count of its records and what has been set in its status stay. -/
structure Marks (c : Nat) (s t : State) : Prop where
  fields : ∃ os, t = { s with objs := os }
  records : t.obj c O.CRU_RECORDS = s.obj c O.CRU_RECORDS
  status : ∀ b, bit (s.obj c O.CRU_STATUS) b = true → bit (t.obj c O.CRU_STATUS) b = true

theorem marks_refl (c : Nat) (s : State) : Marks c s s := ⟨⟨s.objs, rfl⟩, rfl, fun _ h => h⟩

theorem Marks.trans (h : Marks c s t) (h' : Marks c t u) : Marks c s u := by
  refine ⟨?_, h'.records.trans h.records, fun b hb => h'.status b (h.status b hb)⟩
  obtain ⟨_, rfl⟩ := h.fields
  obtain ⟨os, rfl⟩ := h'.fields
  exact ⟨os, rfl⟩

theorem marks_ite {q : Prop} [Decidable q] (h : Marks c s t) : Marks c s (if q then t else s) := by
  split
  · exact h
  · exact marks_refl c s

theorem marks_setObj {k : Nat} (hk : k < 2 ^ 24) (h : O.CRU_RECORDS ≠ k) (h' : O.CRU_STATUS ≠ k) (v : Slot) :
    Marks c s (s.setObj c k v) :=
  ⟨⟨_, rfl⟩, by rw [State.obj_setObj _ _ _ _ _ _ hk (by decide), if_neg fun e => h e.2],
    fun b hb => by rw [State.obj_setObj _ _ _ _ _ _ hk (by decide), if_neg fun e => h' e.2]; exact hb⟩

theorem marks_flag {n : Nat} (hn : n < 64) : Marks c s (s.flag c O.CRU_STATUS n) := by
  rw [State.flag_eq]
  refine ⟨⟨_, rfl⟩, ?_, fun b hb => ?_⟩
  · rw [State.obj_setObj _ _ _ _ _ _ (by decide) (by decide), if_neg fun e => absurd e.2 (by decide)]
  · rw [State.obj_setObj_self, bit_setBit _ _ _ hn, hb, Bool.true_or]

theorem marks_foldMarks (s : State) (c recs : Nat) (n : FoldNote) (r : CruRec) :
    Marks c ((s.setObj c O.CRU_RECORDS (ofN recs)).flag c O.CRU_STATUS 0) (foldMarks s c recs n r) := by
  unfold foldMarks
  dsimp only
  refine Marks.trans ?_ (marks_ite ?_)
  · refine Marks.trans ?_ (marks_ite (marks_flag (by decide)))
    refine Marks.trans ?_ (marks_ite (marks_flag (by decide)))
    refine Marks.trans ?_ (marks_ite (marks_flag (by decide)))
    rw [State.countWrap_eq]
    exact marks_setObj (by decide) (by decide) (by decide) _
  · refine Marks.trans ?_ (marks_flag (by decide))
    rw [State.countSat_eq]
    exact marks_setObj (by decide) (by decide) (by decide) _

theorem foldEnd_settled {recs : Nat} {n : FoldNote} {r : CruRec} (hx : s.ctx c = some x) (hr : recs < 2 ^ 64) :
    let t := settle (cruCheckDone (pulse (foldMarks s c recs n r) 1 5 c) c)
    (∃ y, t.ctx c = some y ∧ y.cru.active = x.cru.active ∧ y.cru.admitted = x.cru.admitted) ∧
    (t.obj c O.CRU_RECORDS).toNat = recs ∧ bit (t.obj c O.CRU_STATUS) 0 = true ∧ t.cruBufs = s.cruBufs ∧
    CtxsBut c s t ∧ t.mem = s.mem ∧ t.inputs = s.inputs := by
  have hm := marks_foldMarks s c recs n r
  have hrec : (foldMarks s c recs n r).obj c O.CRU_RECORDS = ofN recs := by
    rw [hm.records, State.flag_eq, State.obj_setObj _ _ _ _ _ _ (by decide) (by decide),
      if_neg fun e => absurd e.2 (by decide), State.obj_setObj_self]
  have hst : bit ((foldMarks s c recs n r).obj c O.CRU_STATUS) 0 = true := hm.status 0 (bit_obj_flagged (by decide))
  obtain ⟨os, hos⟩ := hm.fields
  generalize foldMarks s c recs n r = m at hos hrec hst
  have hctxs : m.ctxs = s.ctxs := by rw [hos]; rfl
  have hx' : (pulse m 1 5 c).ctx c = some x := (ctx_congr ((pulse_ctxs ..).trans hctxs) c).trans hx
  obtain ⟨⟨y, hy, ha, hd⟩, hbut, hbufs, hmem, hin, hobj⟩ := cruCheckDone_frame hx'
  refine ⟨⟨y, (ctx_settle c).trans hy, ha, hd⟩, ?_, ?_, ?_, ?_, ?_, ?_⟩
  · rw [obj_settle_of _ _ _ (by decide) (by decide), hobj _ _ (objKey_settle _ _ (by decide) (by decide)),
      obj_pulse_of _ _ _ _ _ _ (by decide) (by decide), hrec, ofN_toNat _ hr]
  · rw [obj_settle_of _ _ _ (by decide) (by decide), hobj _ _ (objKey_settle _ _ (by decide) (by decide)),
      obj_pulse_of _ _ _ _ _ _ (by decide) (by decide), hst]
  · rw [settle_cruBufs, hbufs, pulse_cruBufs, hos]
    rfl
  · exact ((ctxsBut_congr ((pulse_ctxs ..).trans hctxs) c).trans hbut).settled
  · rw [settle_mem, hmem, pulse_mem, hos]
    rfl
  · rw [settle_inputs, hin, pulse_inputs, hos]
    rfl

theorem cruRecordDone_folds {h : Nat} {b : CruBuf} {r : CruRec} (hx : s.ctx c = some x)
    (hr : (x.cru.folding s.now).find? CruRec.ready = some r) (hh : x.cru.handle = some h)
    (hb : kvGet s.cruBufs h = some b) (hhead : r.head = false ∨ s.cN c O.CRU_PARTIAL ≠ 0)
    (ht : r.transition = false ∨ s.cN c O.CRU_CAL_POLICY = 0) (hs : x.cru.sawTransition = false)
    (hu : ∀ a ∈ s.spillUnits h b r.items, s.poisoned a = false) : Answers (.cruRecordDone ⟨c, []⟩) s fun t =>
      (∃ y, t.ctx c = some y ∧ y.cru.active = x.cru.active.erase r ∧ y.cru.admitted = x.cru.admitted) ∧
      (t.obj c O.CRU_RECORDS).toNat = ((s.obj c O.CRU_RECORDS).toNat + 1) % 2 ^ 32 ∧
      bit (t.obj c O.CRU_STATUS) 0 = true ∧
      (∃ b', kvGet t.cruBufs h = some b' ∧ b'.last = r.record ∧ b'.parts = (r.items.foldl foldItem (b, {})).1.parts) ∧
      CtxsBut c s t ∧ t.mem = s.mem ∧ t.inputs = s.inputs := by
  have hplain : ¬ (r.head = true ∧ (s.setCtx c (x.unlaned r)).cN c O.CRU_PARTIAL = 0) := fun e =>
    hhead.elim (fun hf => Bool.false_ne_true (hf.symm.trans e.1)) fun hp => hp e.2
  have hi := exec_cruRecordDone_ready hx hr []
  rw [recordEnd_plain (s := s.setCtx c (x.unlaned r)) ht hs, if_neg hplain] at hi
  obtain ⟨u, hw, hfold⟩ := cruFold_clean (s := s.setCtx c (x.unlaned r)) (r := r) (x := x.unlaned r) (ctx_setCtx_self s c _) hh hb hu
  rw [hfold] at hi
  have hobj : u.obj c O.CRU_RECORDS = s.obj c O.CRU_RECORDS := hw.objs c _ fun e => by
    unfold objKey O.CRU_RECORDS O.MEM_BAD_ACCESS at e
    omega
  have hrecs : u.cN c O.CRU_RECORDS = (s.obj c O.CRU_RECORDS).toNat := congrArg BitVec.toNat hobj
  have hx' : ({ u with cruBufs := kvPut u.cruBufs h (b.folded r ((u.cN c O.CRU_RECORDS + 1) % 2 ^ 32)) } : State).ctx c =
      some (x.unlaned r) := (ctx_congr hw.ctxs c).trans (ctx_setCtx_self s c _)
  obtain ⟨hy, hrec, hst, hbufs, hbut, hmem, hin⟩ := foldEnd_settled (recs := (u.cN c O.CRU_RECORDS + 1) % 2 ^ 32)
    (n := (r.items.foldl foldItem (b, {})).2) (r := r) hx' (Nat.lt_trans (Nat.mod_lt _ (by decide)) (by decide))
  refine answers_done hi ⟨hy, hrec.trans (by rw [hrecs]), hst, ⟨b.folded r ((u.cN c O.CRU_RECORDS + 1) % 2 ^ 32), ?_, rfl, rfl⟩,
    ?_, hmem.trans hw.mem, hin.trans hw.inputs⟩
  · rw [hbufs]
    exact kvGet_kvPut_self _ _ _
  · exact ((ctxsBut_setCtx s c _).trans (ctxsBut_congr hw.ctxs c)).trans hbut

/-- A Clear, Freeze or Thaw puts a crucible in place whose state changes with the next core cycle. -/
theorem replaced_from_next {k : Crucible} {st : CruSt} {Q : Crucible → Prop} (hb : k.before = x.cru.stAt s.now)
    (hf : k.from_ = s.cycle + 48) (hst : k.st = st) (hq : Q k) :
    let t := settle (s.turned.setCtx c { x with cru := k })
    (∃ k, t.ctx c = some { x with cru := k } ∧ k.stAt s.now = x.cru.stAt s.now ∧ k.stAt (s.cycle + 48) = st ∧ Q k) ∧
      CtxsBut c s t ∧ OnlyObjs [] { s with ctxs := t.ctxs } t := by
  obtain ⟨hc, hbut, hfr⟩ := replaced_settled s c { x with cru := k }
  refine ⟨⟨k, hc, ?_, ?_, hq⟩, hbut, hfr⟩
  · rw [Crucible.stAt_before (hf ▸ now_lt_next_cycle s), hb]
  · rw [Crucible.stAt_from hf.le, hst]

/-- Settles O36, by the state of the crucible that a command meets and by what becomes of a record. -/
theorem crucibles : Obligations.Crucibles := by
  refine ⟨fun s p c x hs hc hx ho => ?_, fun s c x hx => ?_⟩
  · have hx' : s.turned.ctx c = some x := hx
    refine ⟨fun hst => ?_, fun hst => ?_, fun hst => ?_, fun hst => ?_, fun hst hmore => ?_, fun hst => ?_, fun hst => ?_,
      fun hst i hi => ?_⟩
    -- Clear
    · have h0 : x.cru.st ≠ .none := by rcases hst with h | h | h <;> rw [h] <;> nofun
      have h1 : x.cru.st ≠ .clearing := by rcases hst with h | h | h <;> rw [h] <;> nofun
      refine access_cruCmd (exec_cruClear s p) hs hc hx ho (by decide) (cruCommand_clear hx' h0 h1) ?_
      exact replaced_from_next (k := x.cru.clear s.now (s.cycle + 48)) (st := .clearing)
        (Q := fun k => k.freeze = false ∧ k.handle = x.cru.handle ∧ k.folding (s.cycle + 48) = []) rfl rfl rfl
        ⟨rfl, rfl, Crucible.folding_clearing (Crucible.stAt_from (Nat.le_refl _))⟩
    · exact access_cruCmd (exec_cruClear s p) hs hc hx ho (by decide) (cruCommand_clear_clearing hx' hst)
        (onlyObjs_turned []).settled
    -- Freeze
    · refine access_cruCmd (exec_cruFreeze s p) hs hc hx ho (by decide) (cruCommand_freeze_opened hx' hst) ?_
      exact replaced_from_next (k := x.cru.turn .frozen s.now s.cycle)
        (Q := fun k => k.active = x.cru.active ∧ k.admitted = x.cru.admitted) rfl rfl rfl ⟨rfl, rfl⟩
    · exact access_cruCmd (exec_cruFreeze s p) hs hc hx ho (by decide) (cruCommand_freeze_clearing hx' hst)
        (replaced_settled s c _)
    -- Thaw
    · refine access_cruCmd (exec_cruThaw s p) hs hc hx ho (by decide) ((cruCommand_thaw_frozen hx' hst).trans
        (congrArg Acc.ok (cruCheckDone_waits (ctx_setCtx_self _ _ _) hmore))) ?_
      exact replaced_from_next (k := x.cru.turn .opened s.now s.cycle)
        (Q := fun k => k.active = x.cru.active ∧ k.admitted = x.cru.admitted) rfl rfl rfl ⟨rfl, rfl⟩
    · exact access_cruCmd (exec_cruThaw s p) hs hc hx ho (by decide) (cruCommand_thaw_opened hx' hst)
        (onlyObjs_turned []).settled
    · exact rejected_cruCmd (exec_cruThaw s p) hs hc hx ho (by decide) (cruCommand_thaw_refused hx' hst)
    -- no crucible
    · rcases hi with rfl | rfl | rfl
      · exact rejected_cruCmd (exec_cruClear s p) hs hc hx ho (by decide) (cruCommand_none hx' hst _)
      · exact rejected_cruCmd (exec_cruFreeze s p) hs hc hx ho (by decide) (cruCommand_none hx' hst _)
      · exact rejected_cruCmd (exec_cruThaw s p) hs hc hx ho (by decide) (cruCommand_none hx' hst _)
  · refine ⟨fun h b => cruClearDone_reopens hx, fun checks hr => answers_idle (exec_cruRecordDone_none hx hr checks),
      fun r checks hr => ⟨fun ht hp => ?_, fun ht hsaw hp hst => ?_, fun hh hp ht hsaw => ?_,
        fun h b hh hb hhead ht hsaw hch hu => ?_⟩⟩
    · obtain ⟨hc, h1, h2, h3, h4⟩ := skipped_settled s c { x.unlaned r with cru := { (x.unlaned r).cru with
        admitted := x.cru.admitted - 1, sawTransition := decide (s.cN c O.CRU_CAL_POLICY = 2) } }
      exact answers_done ((exec_cruRecordDone_ready hx hr checks).trans (congrArg done (recordEnd_transition ht hp)))
        ⟨⟨_, hc, rfl, rfl, rfl⟩, h1, h2, h3, h4⟩
    · obtain ⟨hc, h1, h2, h3, h4⟩ := skipped_settled s c { x.unlaned r with cru := (x.unlaned r).cru.clear s.now s.now }
      exact answers_done ((exec_cruRecordDone_ready hx hr checks).trans (congrArg done (recordEnd_clean ht hsaw hp hst)))
        ⟨⟨_, hc, rfl, rfl, Crucible.folding_clearing (Crucible.stAt_from (Nat.le_refl _))⟩, h1, h2, h3, h4⟩
    · exact answers_done ((exec_cruRecordDone_ready hx hr checks).trans (congrArg done (recordEnd_headless hh hp ht hsaw)))
        (skipped_settled s c _)
    · subst hch
      exact cruRecordDone_folds hx hr hh hb hhead ht hsaw hu

end Sys2Proof.Machine
end

section
/-! ## SPDM and DOE (R430, R441, R442, R557 to R559) -/

namespace Sys2Proof.Machine

variable {s t u : State} {l code err : Nat} {req data : List Byte} {i : Instr}

/-! ### Reports and frames -/

/-- What no exchange changes: capture memory, contexts, dies, and of the logical devices none but `l`; no report waits. -/
structure Exchange (l : Nat) (s t : State) : Prop where
  attest : t.fw.attest = none
  mem : t.mem = s.mem
  ctxs : t.ctxs = s.ctxs
  dies : t.dies = s.dies
  others : ∀ m, m ≠ l → (t.ld m).bare = (s.ld m).bare

theorem ld_settle_bare (s : State) (m : Nat) : ((settle s).ld m).bare = (s.ld m).bare := body_ld (settle_body s) m

theorem Exchange.settled (h : Exchange l s t) : Exchange l s (settle t) := by
  refine ⟨?_, ?_, ?_, ?_, fun m hm => (ld_settle_bare t m).trans (h.others m hm)⟩
  · rw [settle_fw, h.attest]
  · rw [settle_mem, h.mem]
  · rw [settle_ctxs, h.ctxs]
  · rw [settle_dies, h.dies]

theorem reportDone_fields (s : State) :
    ∃ bs os, reportDone s = { s with fw := { s.fw with attest := none }, blobs := bs, objs := os } ∧
      ∀ k, k ≠ O.ATTEST_STATE → (reportDone s).num k = s.num k := by
  unfold reportDone
  split
  next a _ =>
    refine ⟨_, _, rfl, fun k hk => ?_⟩
    rw [State.put_eq, State.num, State.obj_setObj_ne _ _ _ _ _ _ (objKey_ne 0 hk)]
    rfl
  next h =>
    refine ⟨s.blobs, s.objs, ?_, fun _ _ => rfl⟩
    rw [← h]

theorem reportDone_exchange (s : State) (l : Nat) : Exchange l s (reportDone s) := by
  obtain ⟨bs, os, h, -⟩ := reportDone_fields s
  rw [h]
  exact ⟨rfl, rfl, rfl, rfl, fun _ _ => rfl⟩

theorem reportDone_lds (s : State) : (reportDone s).lds = s.lds := by
  obtain ⟨bs, os, h, -⟩ := reportDone_fields s
  rw [h]

theorem reportDone_ld (s : State) (l : Nat) : (reportDone s).ld l = s.ld l := by rw [State.ld, State.ld, reportDone_lds]

theorem reportDone_measure (s : State) (k : Nat) : (reportDone s).measure k = s.measure k := by
  obtain ⟨bs, os, h, hn⟩ := reportDone_fields s
  unfold State.measure
  rw [hn O.SEC_LOCKS (by decide), h]
  rfl

theorem reportDone_aggregate (s : State) : (reportDone s).aggregate = s.aggregate := by
  unfold State.aggregate State.measures
  rw [List.map_congr_left fun k _ => reportDone_measure s (k + 1)]

/-! ### Answers -/

theorem ld_length (h : s.ldAnswers l = true) : l < s.lds.length := by
  by_contra hl
  have h0 : s.ld l = {} := List.getD_eq_default _ _ (Nat.le_of_not_lt hl)
  unfold State.ldAnswers at h
  rw [h0, show (({} : Ld).st == LdSt.allocated || ({} : Ld).st == LdSt.enabled) = false from rfl, Bool.and_false] at h
  exact Bool.false_ne_true h

/-- A message that a command has put in front of those sent is still there at its end. -/
theorem sent_first {x : Out} (h : u.sent = x :: s.sent) : x ∈ (settle u).sent :=
  (sent_settle (s := u)).mem (h ▸ List.mem_cons_self)

theorem spdmServe_fields (s : State) : ∃ f k, spdmServe s = { s with spdmFree := f, freeCtr := k } := ⟨_, _, rfl⟩

theorem spdmError_fields (s : State) (l err : Nat) : ∃ f k, spdmError s l err =
    { reportDone s with spdmFree := f, freeCtr := k, sent := .spdm l 0x7F [BitVec.ofNat 8 err] :: (reportDone s).sent } :=
  ⟨_, _, rfl⟩

theorem spdmError_settled (s : State) (l err : Nat) :
    let t := settle (spdmError s l err)
    .spdm l 0x7F [BitVec.ofNat 8 err] ∈ t.sent ∧ (t.ld l).bare = (s.ld l).bare ∧ Exchange l s t := by
  obtain ⟨f, k, h⟩ := spdmError_fields s l err
  rw [h]
  refine ⟨sent_first rfl, ?_, Exchange.settled ?_⟩
  · rw [ld_settle_bare]
    exact congrArg Ld.bare (reportDone_ld s l)
  · obtain ⟨h1, h2, h3, h4, h5⟩ := reportDone_exchange s l
    exact ⟨h1, h2, h3, h4, h5⟩

theorem spdmAnswer_settled (hl : l < s.lds.length) (code : Nat) (req data : List Byte) :
    let t := settle (spdmAnswer s l code req data)
    .spdm l code data ∈ t.sent ∧
    (t.ld l).bare = { s.ld l with transcript := (s.ld l).transcript ++ req ++ data }.bare ∧ Exchange l s t := by
  have hlen : l < (spdmServe (reportDone s)).lds.length := by
    rw [show (spdmServe (reportDone s)).lds = s.lds from reportDone_lds s]
    exact hl
  have hld (m : Nat) : (spdmServe (reportDone s)).ld m = s.ld m := reportDone_ld s m
  unfold spdmAnswer
  dsimp only
  refine ⟨sent_first rfl, ?_, Exchange.settled ?_⟩
  · rw [ld_settle_bare]
    refine congrArg Ld.bare ((State.ld_setLd _ l l _ hlen).trans ?_)
    rw [if_pos rfl, hld]
  · obtain ⟨h1, h2, h3, h4, -⟩ := reportDone_exchange s l
    refine ⟨h1, h2, h3, h4, fun m hm => congrArg Ld.bare ((State.ld_setLd _ l m _ hlen).trans ?_)⟩
    rw [if_neg hm, hld]

theorem leBytes_length (n v : Nat) : (leBytes n v).length = n := by
  induction n generalizing v with
  | zero => rfl
  | succ n ih => rw [leBytes, List.length_cons, ih]

theorem Exchange.after (h : Exchange l t u) (hm : t.mem = s.mem) (hc : t.ctxs = s.ctxs) (hd : t.dies = s.dies)
    (ho : ∀ m, m ≠ l → (t.ld m).bare = (s.ld m).bare) : Exchange l s u :=
  ⟨h.attest, h.mem.trans hm, h.ctxs.trans hc, h.dies.trans hd, fun m hm => (h.others m hm).trans (ho m hm)⟩

/-- An answer of a device whose negotiation has just moved to `y`. -/
theorem spdmAnswer_moved (hl : l < s.lds.length) (y : Ld) (code : Nat) (req data : List Byte) :
    let t := settle (spdmAnswer (s.setLd l y) l code req data)
    .spdm l code data ∈ t.sent ∧ (t.ld l).bare = { y with transcript := y.transcript ++ req ++ data }.bare ∧
    Exchange l s t := by
  have hl' : l < (s.setLd l y).lds.length := by
    rw [State.setLd, List.length_set]
    exact hl
  obtain ⟨h1, h2, h3⟩ := spdmAnswer_settled hl' code req data
  rw [State.ld_setLd s l l y hl, if_pos rfl] at h2
  refine ⟨h1, h2, h3.after rfl rfl rfl fun m hm => ?_⟩
  rw [State.ld_setLd s l m y hl, if_neg hm]

/-- An answer that carries a nonce of the responder. -/
theorem spdmAnswer_nonce (hl : l < s.lds.length) (code : Nat) (req : List Byte) (data : List Byte → List Byte) :
    let t := settle (spdmAnswer (spdmNonce (reportDone s)).2 l code req (data (spdmNonce (reportDone s)).1))
    (∃ own : List Byte, own.length = 32 ∧ .spdm l code (data own) ∈ t.sent) ∧ Exchange l s t := by
  have hl' : l < (spdmNonce (reportDone s)).2.lds.length := by
    rw [show (spdmNonce (reportDone s)).2.lds = s.lds from reportDone_lds s]
    exact hl
  obtain ⟨h1, -, h3⟩ := spdmAnswer_settled hl' code req (data (spdmNonce (reportDone s)).1)
  refine ⟨⟨_, ?_, h1⟩, ?_⟩
  · simp only [spdmNonce, List.length_append, leBytes_length]
  · obtain ⟨-, e2, e3, e4, e5⟩ := reportDone_exchange s l
    exact h3.after e2 e3 e4 e5

theorem spdmAfter_reached {f : State → State} (hl : s.ldAnswers l = true) : spdmAfter s l true f = f s := by
  rw [spdmAfter, if_pos hl, if_pos rfl]

theorem spdmAfter_early {ok : Bool} {f : State → State} (hl : s.ldAnswers l = true) (h : ok = false) :
    spdmAfter s l ok f = spdmError s l 4 := by
  rw [spdmAfter, if_pos hl, h, if_neg Bool.false_ne_true]

theorem spdmAfter_none {ok : Bool} {f : State → State} (hl : s.ldAnswers l = false) : spdmAfter s l ok f = s := by
  rw [spdmAfter, hl, if_neg Bool.false_ne_true]

theorem answers_early {ok : Bool} {f : State → State} (hl : s.ldAnswers l = true) (h : ok = false)
    (hi : exec i s = done (spdmAfter s l ok f)) : Answers i s fun t =>
      .spdm l 0x7F [4#8] ∈ t.sent ∧ (t.ld l).bare = (s.ld l).bare ∧ Exchange l s t :=
  answers_done (hi.trans (congrArg done (spdmAfter_early hl h))) (spdmError_settled s l 4)

theorem answers_reached {ok : Bool} {f : State → State} (hl : s.ldAnswers l = true) (h : ok = true)
    (hi : exec i s = done (spdmAfter s l ok f)) {P : State → Prop} (hf : f s = u) (hP : P (settle u)) : Answers i s P := by
  subst h
  exact answers_done (hi.trans (congrArg done ((spdmAfter_reached hl).trans hf))) hP

/-! ### Measurements -/

theorem measurements_one {k : Nat} (h1 : 1 ≤ k) (h9 : k ≤ 9) : s.measurements k = some (1#8 :: s.measBlock k) := by
  rw [State.measurements, if_neg (by omega), if_neg (by omega), if_pos h9]

theorem measurements_none {k : Nat} (h : 9 < k) (hf : k ≠ 0xFF) : s.measurements k = none := by
  rw [State.measurements, if_neg (by omega), if_neg hf, if_neg (Nat.not_le.2 h)]

/-! ### The requests -/

section Requests
variable (hl : s.ldAnswers l = true)
include hl

theorem spdmGetVersion_answers : Answers (.spdmGetVersion l) s fun t =>
    .spdm l 0x04 [0x12#8] ∈ t.sent ∧ (t.ld l).spdmVersion = true ∧ (t.ld l).spdmCaps = false ∧
    (t.ld l).spdmAlgs = false ∧ (t.ld l).transcript = [0x84#8, 0x12#8] ∧ Exchange l s t := by
  obtain ⟨h1, h2, h3⟩ := spdmAnswer_moved (ld_length hl)
    { s.ld l with spdmVersion := true, spdmCaps := false, spdmAlgs := false, transcript := [] } 0x04 [0x84#8] [0x12#8]
  refine answers_reached hl rfl (exec_spdmGetVersion s l) rfl ⟨h1, ?_, ?_, ?_, ?_, h3⟩
  · exact (congrArg Ld.spdmVersion h2 :)
  · exact (congrArg Ld.spdmCaps h2 :)
  · exact (congrArg Ld.spdmAlgs h2 :)
  · exact (congrArg Ld.transcript h2 :)

theorem spdmGetCapabilities_answers (h : (s.ld l).spdmVersion = true) : Answers (.spdmGetCapabilities l) s fun t =>
    .spdm l 0x61 [17#8, 0x16#8, 0#8, 0#8, 0#8] ∈ t.sent ∧ (t.ld l).spdmCaps = true ∧ Exchange l s t := by
  obtain ⟨h1, h2, h3⟩ := spdmAnswer_moved (ld_length hl) { s.ld l with spdmCaps := true } 0x61 [0xE1#8]
    (17#8 :: leBytes 4 0x16)
  have hb : (17#8 :: leBytes 4 0x16 : List Byte) = [17#8, 0x16#8, 0#8, 0#8, 0#8] := by decide
  refine answers_reached hl h (exec_spdmGetCapabilities s l) rfl ⟨?_, (congrArg Ld.spdmCaps h2 :), h3⟩
  rwa [hb] at h1

theorem spdmNegotiateAlgorithms_answers (h : (s.ld l).spdmCaps = true) : Answers (.spdmNegotiateAlgorithms l) s fun t =>
    (∃ b, .spdm l 0x63 b ∈ t.sent) ∧ (t.ld l).spdmAlgs = true ∧ Exchange l s t := by
  obtain ⟨h1, h2, h3⟩ := spdmAnswer_moved (ld_length hl) { s.ld l with spdmAlgs := true } 0x63 [0xE3#8]
    (leBytes 4 0 ++ leBytes 4 0x20 ++ leBytes 1 0x03 ++ leBytes 2 0xA587)
  exact answers_reached hl h (exec_spdmNegotiateAlgorithms s l) rfl ⟨⟨_, h1⟩, (congrArg Ld.spdmAlgs h2 :), h3⟩

theorem spdmUnsupportedRequest_answers (code : Nat) : Answers (.spdmUnsupportedRequest l code) s fun t =>
    .spdm l 0x7F [7#8] ∈ t.sent ∧ (t.ld l).bare = (s.ld l).bare ∧ Exchange l s t ∧
    max s.now s.spdmFree ≤ t.spdmFree ∧ t.spdmFree ≤ max s.now s.spdmFree + 131 * msTicks := by
  have hi : exec (.spdmUnsupportedRequest l code) s = done (spdmError s l 7) := by
    rw [exec_spdmUnsupportedRequest, execSpdmUnsupportedRequest, if_pos hl]
  obtain ⟨h1, h2, h3⟩ := spdmError_settled s l 7
  have hnow : (reportDone s).now = s.now ∧ (reportDone s).spdmFree = s.spdmFree := by
    obtain ⟨bs, os, h, -⟩ := reportDone_fields s
    rw [h]
    exact ⟨rfl, rfl⟩
  have hf : (settle (spdmError s l 7)).spdmFree = max s.now s.spdmFree +
      (Config.freeBits (reportDone s).freeCtr).toNat % (131 * msTicks + 1) := by
    rw [settle_spdmFree, ← hnow.1, ← hnow.2]
    rfl
  have hlt : (Config.freeBits (reportDone s).freeCtr).toNat % (131 * msTicks + 1) < 131 * msTicks + 1 :=
    Nat.mod_lt _ (Nat.succ_pos _)
  refine answers_done hi ⟨h1, h2, h3, ?_, ?_⟩
  · rw [hf]
    exact Nat.le_add_right _ _
  · rw [hf]
    exact Nat.add_le_add_left (Nat.le_of_lt_succ hlt) _

variable (h : (s.ld l).spdmAlgs = true)
include h

theorem spdmGetDigests_answers : Answers (.spdmGetDigests l) s fun t =>
    .spdm l 0x01 (0x01#8 :: Config.sha3 Config.hallmarkChain) ∈ t.sent ∧ Exchange l s t := by
  obtain ⟨h1, -, h3⟩ := spdmAnswer_settled (ld_length hl) 0x01 [0x81#8] (0x01#8 :: Config.sha3 Config.hallmarkChain)
  exact answers_reached hl h (exec_spdmGetDigests s l) rfl ⟨h1, h3⟩

theorem spdmGetCertificate_answers {off : Nat} (len : Nat) (hoff : off ≤ Config.hallmarkChain.length) :
    Answers (.spdmGetCertificate l 0 off len) s fun t =>
      let part := slice Config.hallmarkChain off len
      .spdm l 0x02 (leBytes 2 part.length ++ leBytes 2 (Config.hallmarkChain.length - off - part.length) ++ part) ∈ t.sent ∧
      Exchange l s t := by
  obtain ⟨h1, -, h3⟩ := spdmAnswer_settled (ld_length hl) 0x02 (0x82#8 :: leBytes 2 off ++ leBytes 2 len)
    (leBytes 2 (slice Config.hallmarkChain off len).length ++
      leBytes 2 (Config.hallmarkChain.length - off - (slice Config.hallmarkChain off len).length) ++
      slice Config.hallmarkChain off len)
  exact answers_reached hl h (exec_spdmGetCertificate s l 0 off len) (if_pos ⟨rfl, hoff⟩) ⟨h1, h3⟩

theorem spdmGetCertificate_refused {slot off : Nat} (len : Nat) (hn : ¬ (slot = 0 ∧ off ≤ Config.hallmarkChain.length)) :
    Answers (.spdmGetCertificate l slot off len) s fun t =>
      .spdm l 0x7F [1#8] ∈ t.sent ∧ (t.ld l).bare = (s.ld l).bare ∧ Exchange l s t :=
  answers_reached hl h (exec_spdmGetCertificate s l slot off len) (if_neg hn) (spdmError_settled s l 1)

theorem spdmChallenge_answers (nonce : List Byte) : Answers (.spdmChallenge l 0 nonce) s fun t =>
    (∃ own : List Byte, own.length = 32 ∧
      .spdm l 0x03 (Config.sha3 Config.hallmarkChain ++ own ++ s.aggregate ++ Config.mldsaSign ((s.ld l).transcript
        ++ nonce ++ (Config.sha3 Config.hallmarkChain ++ own ++ s.aggregate))) ∈ t.sent) ∧ Exchange l s t := by
  have ha : (spdmNonce (reportDone s)).2.aggregate = s.aggregate := reportDone_aggregate s
  have ht : (spdmNonce (reportDone s)).2.ld l = s.ld l := reportDone_ld s l
  have hu : (if 0 = 0 then
        spdmAnswer (spdmNonce (reportDone s)).2 l 0x03 (0x83#8 :: nonce) (Config.sha3 Config.hallmarkChain ++
          (spdmNonce (reportDone s)).1 ++ (spdmNonce (reportDone s)).2.aggregate ++ Config.mldsaSign
            (((spdmNonce (reportDone s)).2.ld l).transcript ++ nonce ++ (Config.sha3 Config.hallmarkChain ++
              (spdmNonce (reportDone s)).1 ++ (spdmNonce (reportDone s)).2.aggregate)))
      else spdmError s l 1) = spdmAnswer (spdmNonce (reportDone s)).2 l 0x03 (0x83#8 :: nonce)
        (Config.sha3 Config.hallmarkChain ++ (spdmNonce (reportDone s)).1 ++ s.aggregate ++ Config.mldsaSign
          ((s.ld l).transcript ++ nonce ++ (Config.sha3 Config.hallmarkChain ++ (spdmNonce (reportDone s)).1 ++
            s.aggregate))) := by
    rw [if_pos rfl, ha, ht]
  exact answers_reached hl h (exec_spdmChallenge s l 0 nonce) hu
    (spdmAnswer_nonce (ld_length hl) 0x03 (0x83#8 :: nonce) fun own =>
      Config.sha3 Config.hallmarkChain ++ own ++ s.aggregate ++ Config.mldsaSign ((s.ld l).transcript
        ++ nonce ++ (Config.sha3 Config.hallmarkChain ++ own ++ s.aggregate)))

theorem spdmChallenge_refused {slot : Nat} (nonce : List Byte) (hs : slot ≠ 0) : Answers (.spdmChallenge l slot nonce) s fun t =>
    .spdm l 0x7F [1#8] ∈ t.sent ∧ (t.ld l).bare = (s.ld l).bare ∧ Exchange l s t :=
  answers_reached hl h (exec_spdmChallenge s l slot nonce) (if_neg hs) (spdmError_settled s l 1)

theorem spdmGetMeasurements_unsigned {k : Nat} {body : List Byte} (hb : s.measurements k = some body) :
    Answers (.spdmGetMeasurements l ⟨k, none⟩) s fun t => .spdm l 0x60 body ∈ t.sent ∧ Exchange l s t := by
  obtain ⟨h1, -, h3⟩ := spdmAnswer_settled (ld_length hl) 0x60 [0xE0#8, BitVec.ofNat 8 k] body
  refine answers_reached hl h (exec_spdmGetMeasurements s l ⟨k, none⟩) ?_ ⟨h1, h3⟩
  dsimp only
  rw [hb]

theorem spdmGetMeasurements_signed {k : Nat} {body : List Byte} (nonce : List Byte) (hb : s.measurements k = some body) :
    Answers (.spdmGetMeasurements l ⟨k, some (0, nonce)⟩) s fun t =>
      (∃ own : List Byte, own.length = 32 ∧ .spdm l 0x60 (body ++ own ++ Config.mldsaSign ((s.ld l).transcript
        ++ [0xE0#8, BitVec.ofNat 8 k] ++ nonce ++ body ++ own)) ∈ t.sent) ∧ Exchange l s t := by
  have ht : (spdmNonce (reportDone s)).2.ld l = s.ld l := reportDone_ld s l
  have hp := spdmAnswer_nonce (ld_length hl) 0x60 ([0xE0#8, BitVec.ofNat 8 k] ++ nonce) fun own =>
    body ++ own ++ Config.mldsaSign (((spdmNonce (reportDone s)).2.ld l).transcript
      ++ [0xE0#8, BitVec.ofNat 8 k] ++ nonce ++ body ++ own)
  rw [ht] at hp
  refine answers_reached hl h (exec_spdmGetMeasurements s l ⟨k, some (0, nonce)⟩) ?_ hp
  dsimp only
  rw [hb, ← ht]
  rfl

theorem spdmGetMeasurements_slot {k slot : Nat} (nonce : List Byte) (hs : slot ≠ 0) :
    Answers (.spdmGetMeasurements l ⟨k, some (slot, nonce)⟩) s fun t =>
      .spdm l 0x7F [1#8] ∈ t.sent ∧ (t.ld l).bare = (s.ld l).bare ∧ Exchange l s t := by
  refine answers_reached hl h (exec_spdmGetMeasurements s l ⟨k, some (slot, nonce)⟩) ?_ (spdmError_settled s l 1)
  dsimp only
  cases s.measurements k with
  | none => rfl
  | some body => exact if_neg hs

theorem spdmGetMeasurements_index {k : Nat} (g : Option (Nat × List Byte)) (hk : 9 < k) (hf : k ≠ 0xFF) :
    Answers (.spdmGetMeasurements l ⟨k, g⟩) s fun t =>
      .spdm l 0x7F [1#8] ∈ t.sent ∧ (t.ld l).bare = (s.ld l).bare ∧ Exchange l s t := by
  refine answers_reached hl h (exec_spdmGetMeasurements s l ⟨k, g⟩) ?_ (spdmError_settled s l 1)
  dsimp only
  rw [measurements_none hk hf]

end Requests

/-- A request whose place in the negotiation is not reached. -/
theorem spdm_early (hl : s.ldAnswers l = true) (h : (s.ld l).spdmAlgs = false) {i : Instr}
    (hi : i = Instr.spdmGetDigests l ∨ (∃ k o n, i = .spdmGetCertificate l k o n) ∨
      (∃ k n, i = .spdmChallenge l k n) ∨ (∃ g, i = .spdmGetMeasurements l g)) : Answers i s fun t =>
      .spdm l 0x7F [4#8] ∈ t.sent ∧ (t.ld l).bare = (s.ld l).bare ∧ Exchange l s t := by
  rcases hi with rfl | ⟨k, o, n, rfl⟩ | ⟨k, n, rfl⟩ | ⟨g, rfl⟩
  · exact answers_early hl h (exec_spdmGetDigests s l)
  · exact answers_early hl h (exec_spdmGetCertificate s l k o n)
  · exact answers_early hl h (exec_spdmChallenge s l k n)
  · exact answers_early hl h (exec_spdmGetMeasurements s l g)

/-! ### DOE -/

/-- A command that sends one message. -/
theorem answers_sent {x : Out} (hi : exec i s = done { s with sent := x :: s.sent }) :
    Answers i s fun t => x ∈ t.sent ∧ OnlyObjs [] s t :=
  answers_done hi ⟨sent_first rfl, (onlyObjs_congr (s := s) (t := { s with sent := x :: s.sent }) [] rfl rfl rfl).settled⟩

theorem doeDiscovery_answers (hl : s.ldAnswers l = true) {k : Nat} (hk : k < 3) : Answers (.doeDiscovery l k) s fun t =>
    .doe l [k, if k < 2 then k + 1 else 0] ∈ t.sent ∧ OnlyObjs [] s t := by
  refine answers_sent ((exec_doeDiscovery s l k).trans ?_)
  rw [execDoeDiscovery, if_pos ⟨hl, hk⟩]

theorem cdatTableAccess_header (hl : s.ldAnswers l = true) : Answers (.cdatTableAccess l 0) s fun t =>
    .doe l [0, 0, (s.ld l).alloc * 2 ^ 28, 1, 1] ∈ t.sent ∧ OnlyObjs [] s t := by
  refine answers_sent ((exec_cdatTableAccess s l 0).trans ?_)
  unfold execCdatTableAccess
  dsimp only
  exact congrArg done (if_pos hl)

theorem cdatTableAccess_latency (hl : s.ldAnswers l = true) {k : Nat} (hk : k = 1 ∨ k = 2) :
    Answers (.cdatTableAccess l k) s fun t => .doe l [k, 1200] ∈ t.sent ∧ OnlyObjs [] s t := by
  refine answers_sent ((exec_cdatTableAccess s l k).trans ?_)
  unfold execCdatTableAccess
  rcases hk with rfl | rfl
  · exact congrArg done (if_pos hl)
  · exact congrArg done (if_pos hl)

theorem cdatTableAccess_bandwidth (hl : s.ldAnswers l = true) {k : Nat} (hk : k = 3 ∨ k = 4) :
    Answers (.cdatTableAccess l k) s fun t => .doe l [k, 30000] ∈ t.sent ∧ OnlyObjs [] s t := by
  refine answers_sent ((exec_cdatTableAccess s l k).trans ?_)
  unfold execCdatTableAccess
  rcases hk with rfl | rfl
  · exact congrArg done (if_pos hl)
  · exact congrArg done (if_pos hl)

/-! ### A device that does not answer -/

theorem silent_idle (hl : s.ldAnswers l = false) {i : Instr} (hi : i = Instr.spdmGetVersion l ∨ i = .doeDiscovery l 0 ∨
    i = .cdatTableAccess l 0 ∨ i = .identifyMemoryDevice ⟨l, 0x4000⟩) : Answers i s fun t => OnlyObjs [] s t := by
  have hn : ¬ s.ldAnswers l = true := Bool.eq_false_iff.1 hl
  rcases hi with rfl | rfl | rfl | rfl
  · exact answers_idle ((exec_spdmGetVersion s l).trans (congrArg done (spdmAfter_none hl)))
  · exact answers_idle ((exec_doeDiscovery s l 0).trans (congrArg done (if_neg fun e => hn e.1)))
  · exact answers_idle ((exec_cdatTableAccess s l 0).trans (congrArg done (if_neg hn)))
  · refine answers_idle ((exec_identifyMemoryDevice s ⟨l, 0x4000⟩).trans (congrArg done ((if_pos rfl).trans ?_)))
    rw [mbAnswer, if_neg hn]

/-- Settles O47: each exchange ends in one answer, and nothing it leaves but the negotiation of its device changes. -/
theorem securityRequests : Obligations.SecurityRequests := by
  refine ⟨fun s l hl => ?_, fun s l hl i => silent_idle hl⟩
  intro Frame
  have frame {t : State} (h : Exchange l s t) : Frame t := ⟨h.attest, h.mem, h.ctxs, h.dies, h.others⟩
  have early {t : State} {b : Byte} (h : .spdm l 0x7F [b] ∈ t.sent ∧ (t.ld l).bare = (s.ld l).bare ∧ Exchange l s t) :
      .spdm l 0x7F [b] ∈ t.sent ∧ (t.ld l).bare = (s.ld l).bare ∧ Frame t := ⟨h.1, h.2.1, frame h.2.2⟩
  have one {t : State} {P : Prop} (h : P ∧ Exchange l s t) : P ∧ Frame t := ⟨h.1, frame h.2⟩
  refine ⟨?_, fun h => ?_, fun h => ?_, fun h => ?_, fun h => ?_,
    fun h => ⟨?_, fun off len hoff => ?_, fun slot off len hs => ?_, fun off len hoff => ?_, fun nonce => ?_,
      fun slot nonce hs => ?_, ?_, fun k h1 h9 => ?_, ?_, fun k nonce h1 h9 => ?_, fun k slot nonce hs => ?_,
      fun k g h9 hf => ?_⟩,
    fun h i hi => ?_, fun code => ?_, fun k => doeDiscovery_answers hl, cdatTableAccess_header hl,
    fun k => cdatTableAccess_latency hl, fun k => cdatTableAccess_bandwidth hl⟩
  -- the negotiation
  · exact (spdmGetVersion_answers hl).mono fun t ⟨h1, h2, h3, h4, h5, h6⟩ => ⟨h1, h2, h3, h4, h5, frame h6⟩
  · exact (spdmGetCapabilities_answers hl h).mono fun t ⟨h1, h2, h3⟩ => ⟨h1, h2, frame h3⟩
  · exact (answers_early hl h (exec_spdmGetCapabilities s l)).mono fun t => early
  · exact (spdmNegotiateAlgorithms_answers hl h).mono fun t ⟨h1, h2, h3⟩ => ⟨h1, h2, frame h3⟩
  · exact (answers_early hl h (exec_spdmNegotiateAlgorithms s l)).mono fun t => early
  -- digests, certificates, challenges
  · exact (spdmGetDigests_answers hl h).mono fun t => one
  · exact (spdmGetCertificate_answers hl h len hoff).mono fun t => one
  · exact (spdmGetCertificate_refused hl h len fun e => hs e.1).mono fun t => early
  · exact (spdmGetCertificate_refused hl h len fun e => Nat.not_le.2 hoff e.2).mono fun t => early
  · exact (spdmChallenge_answers hl h nonce).mono fun t => one
  · exact (spdmChallenge_refused hl h nonce hs).mono fun t => early
  -- measurements
  · exact (spdmGetMeasurements_unsigned hl h rfl).mono fun t => one
  · exact (spdmGetMeasurements_unsigned hl h (measurements_one h1 h9)).mono fun t => one
  · exact (spdmGetMeasurements_unsigned hl h rfl).mono fun t => one
  · exact (spdmGetMeasurements_signed hl h nonce (measurements_one h1 h9)).mono fun t => one
  · exact (spdmGetMeasurements_slot hl h nonce hs).mono fun t => early
  · exact (spdmGetMeasurements_index hl h g h9 hf).mono fun t => early
  -- out of place, unknown
  · exact (spdm_early hl h hi).mono fun t => early
  · exact (spdmUnsupportedRequest_answers hl code).mono fun t ⟨h1, h2, h3, h4⟩ => ⟨h1, h2, frame h3, h4⟩

end Sys2Proof.Machine
end

section
/-! ## Input-path tests and ternary capture (R30, R529, R530, R545, R587 to R589) -/

namespace Sys2Proof.Machine

variable {s : State} {n p : Nat} {v : Slot}

theorem exec_inputTestDue_due (hn : n < s.D) (hr : s.running = true) (he : s.num O.SELFTEST_ENABLE = 1) :
    exec (.inputTestDue n) s = done (if s.test.isSome = true ∨ s.testNext.isSome = true then
      if s.testDue.contains n = true then s else { s with testDue := s.testDue ++ [n] } else startTest s n false) := by
  rw [exec_inputTestDue, execInputTestDue, if_pos ⟨decide_eq_true hn, hr, he⟩]

theorem inputTestDue_starts (hn : n < s.D) (hr : s.running = true) (he : s.num O.SELFTEST_ENABLE = 1)
    (ht : s.test = none) (hx : s.testNext = none) : exec (.inputTestDue n) s = done (startTest s n false) := by
  rw [exec_inputTestDue_due hn hr he, if_neg (by simp [ht, hx])]

theorem startTest_skipped {b : Bool}
    (h : (s.input n).st = .absorbed ∨ (s.input n).st = .dark ∨ (s.input n).st = .changing) :
    startTest s n b = s.put (O.PTEST_RESULT_n + n) 3 := by
  rw [startTest]
  exact if_pos h

theorem startTest_streams {b : Bool} (h1 : (s.input n).st ≠ .absorbed) (h2 : (s.input n).st ≠ .dark)
    (h3 : (s.input n).st ≠ .changing) : startTest s n b =
      if s.busyInput n = true then s else { s with test := some { input := n, commanded := b } } := by
  rw [startTest]
  exact if_neg (by simp [h1, h2, h3])

theorem fitted_of_lt (hn : n < s.D) : s.fitted n = true := decide_eq_true hn

theorem ptestResult_settle (h8 : n < 8) : O.PTEST_RESULT_n + n < 2 ^ 24 ∧ O.PTEST_RESULT_n + n ∉ settleObjs := by
  interval_cases n <;> decide

theorem ptestResult_ne (h8 : n < 8) : O.PTEST_RESULT_n + n ≠ O.TARNISH ∧ O.PTEST_RESULT_n + n ≠ O.SUSPECT_COUNT := by
  interval_cases n <;> decide

/-- What a command leaves in an object of one input's test results. -/
theorem get_settle_put {k : Nat} (u : State) (hk : k < 2 ^ 24) (hs : k ∉ settleObjs) (w : Slot) :
    (settle (u.put k w)).get k = w := by
  rw [State.get_eq, obj_settle_of _ _ _ hk hs]
  exact State.obj_setObj_self _ _ _ _

theorem num_settle_put {k : Nat} (u : State) (hk : k < 2 ^ 24) (hs : k ∉ settleObjs) {m : Nat} (hm : m < 2 ^ 64) :
    (settle (u.put k (ofN m))).num k = m := by
  rw [State.num_eq, ← State.get_eq, get_settle_put u hk hs, ofN_toNat m hm]

theorem inputTestDue_skipped (hn : n < s.D) (hr : s.running = true) (he : s.num O.SELFTEST_ENABLE = 1)
    (ht : s.test = none) (hx : s.testNext = none)
    (h : (s.input n).st = .absorbed ∨ (s.input n).st = .dark ∨ (s.input n).st = .changing) :
    Answers (.inputTestDue n) s fun t =>
      t.num (O.PTEST_RESULT_n + n) = 3 ∧ OnlyObjs [objKey 0 (O.PTEST_RESULT_n + n)] s t := by
  obtain ⟨hk, hs⟩ := ptestResult_settle (fitted_lt hn)
  refine answers_done (by rw [inputTestDue_starts hn hr he ht hx, startTest_skipped h]) ⟨?_, ?_⟩
  · exact num_settle_put s hk hs (m := 3) (by decide)
  · exact ((onlyObjs_refl s _).put (j := 0) (List.mem_singleton_self _) _).settled

theorem inputTestDue_queued (hn : n < s.D) (hr : s.running = true) (he : s.num O.SELFTEST_ENABLE = 1)
    (h : s.test.isSome = true ∨ s.testNext.isSome = true) (hd : n ∉ s.testDue) : Answers (.inputTestDue n) s fun t =>
      OnlyObjs [] { s with testDue := s.testDue ++ [n] } t := by
  refine answers_done (by rw [exec_inputTestDue_due hn hr he, if_pos h, if_neg (by simpa using hd)]) ?_
  exact (onlyObjs_refl ({ s with testDue := s.testDue ++ [n] } : State) []).settled

theorem inputTestDue_off (h : s.num O.SELFTEST_ENABLE ≠ 1) : exec (.inputTestDue n) s = done s := by
  rw [exec_inputTestDue, execInputTestDue, if_neg fun hh => h hh.2.2]

/-! ### A fault of an input path (R529, R531) -/

theorem OnlyObjs.faultsBoth {ks : List Nat} {t : State} (h : OnlyObjs ks s t) (x : Faults) :
    OnlyObjs ks { s with faults := x } { t with faults := x } :=
  ⟨congrArg (fun b : State => { b with faults := x }) h.1, h.2⟩

theorem suspect_frame (cause die input detail ctx a b : Nat) :
    OnlyObjs [objKey 0 O.SUSPECT_COUNT] { s with faults := (suspect s cause die input detail ctx a b).faults }
      (suspect s cause die input detail ctx a b) :=
  (onlyObjs_refl ({ s with faults := (suspect s cause die input detail ctx a b).faults } : State) _).put
    (j := 0) (k := O.SUSPECT_COUNT) (List.mem_singleton_self _) _

theorem suspect_count (cause die input detail ctx a b : Nat) :
    (suspect s cause die input detail ctx a b).obj 0 O.SUSPECT_COUNT =
      ofN (((s.obj 0 O.SUSPECT_COUNT).toNat + 1) % 2 ^ 32) :=
  (obj_withFaults _ _ _ _).trans (State.obj_setObj_self _ _ _ _)

theorem suspect_can (cause die input detail ctx a b : Nat) :
    (suspect s cause die input detail ctx a b).can = s.can := rfl

/-- What a fault of an input path changes. -/
theorem pathFault_frame (d n detail : Nat) :
    OnlyObjs [objKey 0 O.TARNISH, objKey 0 O.SUSPECT_COUNT]
      { s with faults := (pathFault s d n detail).faults, can := (pathFault s d n detail).can }
      (pathFault s d n detail) := by
  rw [pathFault]
  exact (((tarnish_frame s 22 d n 0 0).faultsBoth _).mono (by simp)).trans ((suspect_frame 5 d n detail _ _ _).mono (by simp))

/-- Another object after a fault of an input path. -/
theorem obj_pathFault_of (d n detail : Nat) {i k : Nat} (hk : k < 2 ^ 24) (hs : k ∉ settleObjs) (h1 : k ≠ O.TARNISH)
    (h2 : k ≠ O.SUSPECT_COUNT) : (pathFault s d n detail).obj i k = s.obj i k := by
  refine (State.obj_setObj_ne (tarnish s 22 d n 0) 0 O.SUSPECT_COUNT i k _ fun h => h2 ?_).trans
    (obj_tarnish_of _ _ _ _ _ _ _ _ hk hs h1)
  simp only [objKey, O.SUSPECT_COUNT] at h ⊢
  omega

theorem bit_setBit_self (x : Slot) {b : Nat} (hb : b < 64) : bit (setBit x b) b = true := by
  rw [bit_setBit _ _ _ hb]
  simp

theorem pathFault_settled (d n detail : Nat) :
    bit ((settle (pathFault s d n detail)).get O.TARNISH) 22 = true ∧
    (settle (pathFault s d n detail)).num O.SUSPECT_COUNT = (s.num O.SUSPECT_COUNT + 1) % 2 ^ 32 := by
  constructor
  · rw [State.get_eq, obj_settle_of _ _ _ (by decide) (by decide)]
    refine (congrArg (bit · 22) (State.obj_setObj_ne (tarnish s 22 d n 0) 0 O.SUSPECT_COUNT 0 O.TARNISH _ (by decide))).trans ?_
    rw [tarnish_tarnish]
    exact bit_setBit_self _ (by decide)
  · rw [State.num_eq, obj_settle_of _ _ _ (by decide) (by decide), pathFault, suspect_count,
      obj_tarnish_of _ _ _ _ _ _ _ _ (by decide) (by decide) (by decide), ofN_toNat _ (by omega)]
    rfl

/-! ### The end of a test (R529, R530, R587) -/

variable {x : InputTest} {m : Nat}

theorem nextTest_none (ht : s.test = none) (hx : s.testNext = none) (hd : s.testDue = []) : nextTest s = s := by
  simp [nextTest, ht, hx, hd]

theorem startTest_testDue (u : State) (m : Nat) (b : Bool) : (startTest u m b).testDue = u.testDue := by
  rw [startTest]
  split_ifs
  · rfl
  · rfl
  · rfl

theorem nextTest_commanded (ht : s.test = none) (hx : s.testNext = some m) (hd : s.testDue = []) :
    nextTest s = startTest { s with testNext := none } m true := by
  unfold nextTest
  rw [ht, hx]
  dsimp only
  rw [startTest_testDue, hd]
  rw [List.foldl_nil]

/-- The state of a test that passed, before the next one starts. -/
def testPassed (s : State) (n : Nat) : State :=
  pathPass (({ s with test := none } : State).put (O.PTEST_RESULT_n + n) 1) n (2 * msTicks)

/-- The state of a test that failed in step `k`, before the next one starts. -/
def testFailed (s : State) (n k : Nat) : State :=
  pathFault (({ s with test := none } : State).free.2.put (O.PTEST_RESULT_n + n) (ofN (k % 256 * 256 + 2))) 0xFF n
    (({ s with test := none } : State).free.1.toNat % 65536)

theorem exec_inputTestDone_pass (ht : s.test = some x) :
    exec (.inputTestDone none) s = done (nextTest (testPassed s x.input)) := by
  rw [exec_inputTestDone, execInputTestDone, ht]
  rfl

theorem exec_inputTestDone_fail (ht : s.test = some x) (k : Nat) :
    exec (.inputTestDone (some k)) s = done (nextTest (testFailed s x.input k)) := by
  rw [exec_inputTestDone, execInputTestDone, ht]
  rfl

theorem inputTestDone_pass (ht : s.test = some x) (h8 : x.input < 8) (hx : s.testNext = none) (hd : s.testDue = []) :
    Answers (.inputTestDone none) s fun t =>
      t.test = none ∧ t.num (O.PTEST_RESULT_n + x.input) = 1 ∧
      kvGet t.faults.inputPass x.input = some (s.now - 80000000) ∧
      OnlyObjs [objKey 0 (O.PTEST_RESULT_n + x.input)] { s with test := none, faults := t.faults } t := by
  obtain ⟨hk, hs⟩ := ptestResult_settle h8
  refine answers_done (by rw [exec_inputTestDone_pass ht, nextTest_none (s := testPassed s x.input) rfl hx hd]) ?_
  rw [settle_test, settle_faults]
  refine ⟨rfl, ?_, ?_, ?_⟩
  · rw [State.num_eq, obj_settle_of _ _ _ hk hs, testPassed]
    exact (congrArg BitVec.toNat (State.obj_setObj_self ({ s with test := none } : State) _ _ _)).trans rfl
  · exact (kvGet_kvPut _ _ _ _).trans (if_pos rfl)
  · exact ((onlyObjs_refl ({ s with test := none, faults := (testPassed s x.input).faults } : State) _).put (j := 0)
      (List.mem_singleton_self _) _).settled

theorem testFailed_frame (n k : Nat) : OnlyObjs [objKey 0 (O.PTEST_RESULT_n + n), objKey 0 O.TARNISH, objKey 0 O.SUSPECT_COUNT]
    { s with test := none, faults := (testFailed s n k).faults, can := (testFailed s n k).can } (testFailed s n k) := by
  refine OnlyObjs.trans ?_ ((pathFault_frame _ _ _).mono (by simp))
  exact (onlyObjs_refl ({ s with
    test := none, faults := (testFailed s n k).faults, can := (testFailed s n k).can } : State) _).put (j := 0) (by simp) _

theorem inputTestDone_fail (ht : s.test = some x) (h8 : x.input < 8) (hx : s.testNext = none) (hd : s.testDue = [])
    (k : Nat) : Answers (.inputTestDone (some k)) s fun t =>
      t.test = none ∧ t.num (O.PTEST_RESULT_n + x.input) = k % 256 * 256 + 2 ∧ bit (t.get O.TARNISH) 22 = true ∧
      t.num O.SUSPECT_COUNT = (s.num O.SUSPECT_COUNT + 1) % 2 ^ 32 ∧ t.ctxs = s.ctxs ∧ t.mem = s.mem ∧
      t.inputs = s.inputs := by
  obtain ⟨hk, hs⟩ := ptestResult_settle h8
  obtain ⟨hne, hne'⟩ := ptestResult_ne h8
  have hb := (testFailed_frame (s := s) x.input k).1
  have htest : (testFailed s x.input k).test = none := (congrArg State.test hb :)
  have hnext : nextTest (testFailed s x.input k) = testFailed s x.input k :=
    nextTest_none htest ((congrArg State.testNext hb :).trans hx) ((congrArg State.testDue hb :).trans hd)
  obtain ⟨hbit, hcount⟩ := pathFault_settled
    (s := ({ s with test := none } : State).free.2.put (O.PTEST_RESULT_n + x.input) (ofN (k % 256 * 256 + 2))) 0xFF x.input
    (({ s with test := none } : State).free.1.toNat % 65536)
  refine answers_done (by rw [exec_inputTestDone_fail ht, hnext]) ?_
  rw [settle_test, settle_ctxs, settle_mem, settle_inputs]
  refine ⟨htest, ?_, hbit, hcount.trans ?_, (congrArg State.ctxs hb :), (congrArg State.mem hb :), (congrArg State.inputs hb :)⟩
  · rw [State.num_eq, obj_settle_of _ _ _ hk hs, testFailed, obj_pathFault_of _ _ _ hk hs hne hne']
    exact (congrArg BitVec.toNat (State.obj_setObj_self ({ s with test := none } : State).free.2 _ _ _)).trans
      (ofN_toNat _ (by omega))
  · exact congrArg (fun v : Slot => (v.toNat + 1) % 2 ^ 32)
      (State.obj_setObj_ne ({ s with test := none } : State).free.2 _ _ 0 O.SUSPECT_COUNT _
        (objKey_ne 0 hne'.symm))

/-- The objects of a context that name what its trigger watches (R135, R140, R175). -/
def trigKeys : List Nat := [O.CTX_INPUT, O.TRIG_TYPE, O.TRIG_SOURCE, O.SEQ_B_SOURCE, O.PAT_STATE]

theorem ctxOn_congr {t : State} {c : Nat} (h : ∀ k ∈ trigKeys, t.obj c k = s.obj c k) (n : Nat) :
    t.ctxOn c n = s.ctxOn c n := by
  have hin : t.cN c O.CTX_INPUT = s.cN c O.CTX_INPUT := congrArg BitVec.toNat (h _ (by simp [trigKeys]))
  have htype : t.cN c O.TRIG_TYPE = s.cN c O.TRIG_TYPE := congrArg BitVec.toNat (h _ (by simp [trigKeys]))
  have hsrc : t.cN c O.TRIG_SOURCE = s.cN c O.TRIG_SOURCE := congrArg BitVec.toNat (h _ (by simp [trigKeys]))
  have hseq : t.cN c O.SEQ_B_SOURCE = s.cN c O.SEQ_B_SOURCE := congrArg BitVec.toNat (h _ (by simp [trigKeys]))
  have hreq (k : Nat) : t.patReq c k = s.patReq c k := by
    rw [State.patReq, State.patReq, h O.PAT_STATE (by simp [trigKeys])]
  have hpat : t.patInputs c = s.patInputs c := List.filter_congr fun k _ => by rw [hreq]
  have hsources : t.sources c = s.sources c := by
    unfold State.sources
    rw [htype, hsrc, hseq, hpat]
  simp only [State.ctxOn, State.watched, hin, hsources]

theorem busyInput_congr {t : State} (hc : t.ctxs = s.ctxs) (h : ∀ c, ∀ k ∈ trigKeys, t.obj c k = s.obj c k) (n : Nat) :
    t.busyInput n = s.busyInput n := by
  simp only [State.busyInput, hc, ctxOn_congr (h _) n]

theorem ptestResult_trig (h8 : n < 8) {c k : Nat} (hk : k ∈ trigKeys) : objKey c k ≠ objKey 0 (O.PTEST_RESULT_n + n) := by
  have hkeys : ∀ k ∈ trigKeys, k < 2 ^ 24 ∧ k ≠ O.PTEST_RESULT_n + n := by interval_cases n <;> decide
  obtain ⟨hlt, hne⟩ := hkeys k hk
  have := (ptestResult_settle h8).1
  intro h
  simp only [objKey] at h
  omega

theorem inputTestDone_next (ht : s.test = some x) (h8 : x.input < 8) (hx : s.testNext = some m) (hd : s.testDue = [])
    (hm : (s.input m).st = .single) (hb : s.busyInput m = false) : Answers (.inputTestDone none) s fun t =>
      t.test = some { input := m, commanded := true } ∧ t.testNext = none := by
  have hst : ({ testPassed s x.input with testNext := none } : State).input m = s.input m := rfl
  have hbusy : ({ testPassed s x.input with testNext := none } : State).busyInput m = false := by
    refine (busyInput_congr (s := s) (t := { testPassed s x.input with testNext := none }) rfl (fun c k hk => ?_) m).trans hb
    exact State.obj_setObj_ne ({ s with test := none } : State) _ _ _ _ _ (ptestResult_trig h8 hk)
  refine answers_done (by rw [exec_inputTestDone_pass ht, nextTest_commanded (s := testPassed s x.input) rfl hx hd,
    startTest_streams (by simp [hst, hm]) (by simp [hst, hm]) (by simp [hst, hm]), hbusy, if_neg Bool.false_ne_true]) ?_
  rw [settle_test, settle_testNext]
  exact ⟨rfl, rfl⟩

/-! ### A commanded test (R588) -/

theorem ptestWrite_free (ho : ownerOf p = s.steward) (hn : n < s.D) (hb : s.busyInput n = false)
    (hx : s.testNext = none) (hr : s.running = true) (hc : ∀ x, s.test = some x → x.commanded = false) :
    ptestWrite s p (ofN n) = .ok (if s.test.isSome = true then { s with testNext := some n } else startTest s n true) := by
  have hv : (ofN n).toNat = n := ofN_toNat n (by have := fitted_lt hn; omega)
  rw [ptestWrite, hv]
  dsimp only
  rw [stewardOnly_pos ho, need_pos s (fitted_of_lt hn)]
  refine need_pos s ?_ _ _
  rcases hst : s.test with _ | x
  · simp [hb, hx, hr]
  · simp [hb, hx, hr, hc x hst]

theorem ptestWrite_refused (ho : ownerOf p = s.steward) (hn : n < s.D)
    (h : s.busyInput n = true ∨ s.running = false ∨ ∃ x, s.test = some x ∧ x.commanded = true) :
    ptestWrite s p (ofN n) = (s, some .presentState) := by
  have hv : (ofN n).toNat = n := ofN_toNat n (by have := fitted_lt hn; omega)
  rw [ptestWrite, hv]
  dsimp only
  rw [stewardOnly_pos ho, need_pos s (fitted_of_lt hn)]
  refine need_neg ?_ _ _
  obtain hb | hr | ⟨x, hx, hc⟩ := h
  · simp [hb]
  · simp [hr]
  · simp [hx, hc]

theorem ptestWrite_unfitted (ho : ownerOf p = s.steward) (hv : s.D ≤ v.toNat) : ptestWrite s p v = (s, some .range) := by
  rw [ptestWrite]
  dsimp only
  rw [stewardOnly_pos ho]
  exact need_neg (decide_eq_false (by omega)) _ _

theorem missing_ptestCmd (s : State) : s.missing (O.PTEST_CMD / 256) (O.PTEST_CMD % 256) = none := rfl

theorem ptestCmd_starts (h : Served s p) (ho : ownerOf p = s.steward) (hn : n < s.D) (hb : s.busyInput n = false)
    (hx : s.testNext = none) (hr : s.running = true) (ht : s.test = none) (hst : (s.input n).st = .single) :
    Answers (.ptestCmd p (ofN n)) s fun t => OnlyObjs [] { s with test := some { input := n, commanded := true } } t := by
  have hf : ptestWrite s.turned p (ofN n) = .ok { s.turned with test := some { input := n, commanded := true } } := by
    rw [ptestWrite_free (s := s.turned) ho hn hb hx hr fun x hx' => absurd (ht.symm.trans hx') (by simp),
      if_neg (by rw [show s.turned.test = none from ht]; simp), startTest_streams (s := s.turned) (by simp [show (s.turned.input n).st = .single from hst])
        (by simp [show (s.turned.input n).st = .single from hst]) (by simp [show (s.turned.input n).st = .single from hst]),
      show s.turned.busyInput n = false from hb, if_neg Bool.false_ne_true]
  exact answers_access (exec_ptestCmd s p _) h (missing_ptestCmd s) hf
    (onlyObjs_turned (s := ({ s with test := some { input := n, commanded := true } } : State)) []).settled

theorem ptestCmd_waits (h : Served s p) (ho : ownerOf p = s.steward) (hn : n < s.D) (hb : s.busyInput n = false)
    (hx : s.testNext = none) (hr : s.running = true) (ht : s.test = some x) (hc : x.commanded = false) :
    Answers (.ptestCmd p (ofN n)) s fun t => OnlyObjs [] { s with testNext := some n } t := by
  have hf : ptestWrite s.turned p (ofN n) = .ok { s.turned with testNext := some n } := by
    rw [ptestWrite_free (s := s.turned) ho hn hb hx hr fun y hy => by
        rw [Option.some.inj (hy.symm.trans ht)]
        exact hc,
      if_pos (by rw [show s.turned.test = some x from ht]; rfl)]
  exact answers_access (exec_ptestCmd s p _) h (missing_ptestCmd s) hf
    (onlyObjs_turned (s := ({ s with testNext := some n } : State)) []).settled

/-! ### Ternary capture (R30, R545) -/

theorem missing_capCmd (s : State) : s.missing (O.CAP_CMD / 256) (O.CAP_CMD % 256) = none := rfl

/-- The state in which a capture is set up, before its state is written. -/
def capturing (s : State) (x : Option Capture) : State :=
  { s.setBlob 0 O.CAP_DATA [] with faults := { s.faults with capture := x } }

theorem capCmd_start (ho : ownerOf p = s.steward) (h : s.num O.CAP_STATE = 0 ∨ s.num O.CAP_STATE = 3 ∨ s.num O.CAP_STATE = 4) :
    capCmd s p 1 = .ok ((capturing s s.capStream).put O.CAP_STATE (if s.capStream.isSome = true then 1 else 4)) := by
  have hst : (s.num O.CAP_STATE == 0 || s.num O.CAP_STATE == 3 || s.num O.CAP_STATE == 4) = true := by
    obtain h | h | h := h <;> rw [h] <;> rfl
  rw [capCmd, stewardOnly_pos ho, need_pos s (by decide), if_pos rfl]
  exact need_pos s hst _ _

theorem capCmd_busy (ho : ownerOf p = s.steward) (h : s.num O.CAP_STATE = 1 ∨ s.num O.CAP_STATE = 2) :
    capCmd s p 1 = (s, some .presentState) := by
  have hst : (s.num O.CAP_STATE == 0 || s.num O.CAP_STATE == 3 || s.num O.CAP_STATE == 4) = false := by
    obtain h | h := h <;> rw [h] <;> rfl
  rw [capCmd, stewardOnly_pos ho, need_pos s (by decide), if_pos rfl]
  exact need_neg hst _ _

theorem capCmd_cancel (ho : ownerOf p = s.steward) : capCmd s p 2 = .ok ((capturing s none).put O.CAP_STATE 0) := by
  rw [capCmd, stewardOnly_pos ho, need_pos s (by decide), if_neg (by decide)]
  rfl

/-- What the capture unit's state is at the end of a command that sets it and its data. -/
theorem capture_settled (u : State) (f : Faults) (b : List Byte) {k : Nat} (hk : k < 2 ^ 64) :
    let t := settle (({ u.setBlob 0 O.CAP_DATA b with faults := f } : State).put O.CAP_STATE (ofN k))
    t.faults = f ∧ t.num O.CAP_STATE = k ∧ t.blob 0 O.CAP_DATA = b ∧
      OnlyObjs [objKey 0 O.CAP_STATE] { u with faults := t.faults, blobs := t.blobs } t := by
  intro t
  have hf : t.faults = f := settle_faults _
  have hb : t.blobs = kvSet [] u.blobs (objKey 0 O.CAP_DATA) b := settle_blobs _
  refine ⟨hf, num_settle_put _ (by decide) (by decide) hk, ?_, ?_⟩
  · rw [State.blob, hb, kvGet_kvSet, if_pos rfl]
  · rw [hf, hb]
    exact ((onlyObjs_refl ({ u with faults := f, blobs := kvSet [] u.blobs (objKey 0 O.CAP_DATA) b } : State) _).put
      (j := 0) (List.mem_singleton_self _) _).settled

theorem capStart_answers (h : Served s p) (ho : ownerOf p = s.steward)
    (hst : s.num O.CAP_STATE = 0 ∨ s.num O.CAP_STATE = 3 ∨ s.num O.CAP_STATE = 4) : Answers (.capStart p) s fun t =>
      t.faults.capture = s.capStream ∧ t.num O.CAP_STATE = (if s.capStream.isSome then 1 else 4) ∧
      t.blob 0 O.CAP_DATA = [] ∧ OnlyObjs [objKey 0 O.CAP_STATE] { s with faults := t.faults, blobs := t.blobs } t := by
  have hf : capCmd s.turned p 1 = .ok ((capturing s.turned s.capStream).put O.CAP_STATE
      (ofN (if s.capStream.isSome then 1 else 4))) := by
    refine (capCmd_start (s := s.turned) ho hst).trans (congrArg (fun v => Acc.ok ((capturing s.turned s.capStream).put O.CAP_STATE v)) ?_)
    rw [show s.turned.capStream = s.capStream from rfl]
    split_ifs
    · rfl
    · rfl
  obtain ⟨h1, h2, h3, h4⟩ := capture_settled s.turned { s.faults with capture := s.capStream } []
    (k := if s.capStream.isSome then 1 else 4) (by split_ifs <;> decide)
  exact answers_access (exec_capStart s p) h (missing_capCmd s) hf
    ⟨congrArg Faults.capture h1, h2, h3, (onlyObjs_turned (s := { s with faults := _, blobs := _ }) _).trans h4⟩

theorem capCancel_answers (h : Served s p) (ho : ownerOf p = s.steward) : Answers (.capCancel p) s fun t =>
    t.faults.capture = none ∧ t.num O.CAP_STATE = 0 ∧ t.blob 0 O.CAP_DATA = [] ∧
      OnlyObjs [objKey 0 O.CAP_STATE] { s with faults := t.faults, blobs := t.blobs } t := by
  obtain ⟨h1, h2, h3, h4⟩ := capture_settled s.turned { s.faults with capture := none } [] (k := 0) (by decide)
  exact answers_access (exec_capCancel s p) h (missing_capCmd s) (capCmd_cancel (s := s.turned) ho)
    ⟨congrArg Faults.capture h1, h2, h3, (onlyObjs_turned (s := { s with faults := _, blobs := _ }) _).trans h4⟩

variable {k : Capture} {skip : Nat} {c : Ctx}

/-- The state of a capture that has begun (R545). -/
def capBegun (s : State) (k : Capture) (skip : Nat) (c : Ctx) : State :=
  ((({ s with faults := { s.faults with capture := some { k with
      running := true, skip
      last := (kvGet c.recv (streamKey (if k.second then 16 + k.src else k.src) k.die)).getD 1 } } } : State).put
    O.CAP_STATE 2).put O.CAP_TM (tmOfGrains (s.capFirst k skip))).put O.CAP_WRAP (ofN (wrapOfGrains (s.capFirst k skip)))

theorem exec_capBegin_begins (hk : s.faults.capture = some k) (hc : s.ctx k.ctx = some c) (hst : s.num O.CAP_STATE = 1)
    (hl : s.capLive k = true) (hskip : capSkip (s.halfRate k.src) ((kvGet c.phase (linkKey k.die k.dst)).getD 0) = some skip) :
    exec .capBegin s = done (capBegun s k skip c) := by
  rw [exec_capBegin, execCapBegin, hk]
  dsimp only
  rw [hc]
  dsimp only
  rw [hskip]
  dsimp only
  rw [if_pos ⟨hst, hl⟩]
  rfl

theorem exec_capBegin_later (hk : s.faults.capture = some k) (hc : s.ctx k.ctx = some c)
    (hskip : capSkip (s.halfRate k.src) ((kvGet c.phase (linkKey k.die k.dst)).getD 0) = none) :
    exec .capBegin s = done s := by
  rw [exec_capBegin, execCapBegin, hk]
  dsimp only
  rw [hc]
  dsimp only
  rw [hskip]

theorem exec_capBegin_idle (hk : s.faults.capture = some k) (h : ¬ (s.num O.CAP_STATE = 1 ∧ s.capLive k = true)) :
    exec .capBegin s = done s := by
  rw [exec_capBegin, execCapBegin, hk]
  dsimp only
  split
  · split
    · rw [if_neg h]
    · rfl
  · rfl

theorem capBegin_answers (hk : s.faults.capture = some k) (hc : s.ctx k.ctx = some c) (hst : s.num O.CAP_STATE = 1)
    (hl : s.capLive k = true) (hskip : capSkip (s.halfRate k.src) ((kvGet c.phase (linkKey k.die k.dst)).getD 0) = some skip) :
    Answers .capBegin s fun t =>
      t.faults.capture = some { k with
        running := true, skip
        last := (kvGet c.recv (streamKey (if k.second then 16 + k.src else k.src) k.die)).getD 1 } ∧
      t.num O.CAP_STATE = 2 ∧ t.get O.CAP_TM = tmOfGrains (s.capFirst k skip) ∧
      t.get O.CAP_WRAP = ofN (wrapOfGrains (s.capFirst k skip)) ∧
      OnlyObjs [objKey 0 O.CAP_STATE, objKey 0 O.CAP_TM, objKey 0 O.CAP_WRAP] { s with faults := t.faults } t := by
  refine answers_done (exec_capBegin_begins hk hc hst hl hskip) ?_
  rw [settle_faults]
  refine ⟨rfl, ?_, ?_, get_settle_put _ (by decide) (by decide) _, ?_⟩
  · rw [State.num_eq, obj_settle_of _ _ _ (by decide) (by decide), capBegun]
    simp only [State.put_eq]
    rw [State.obj_setObj_ne _ _ _ _ _ _ (by decide), State.obj_setObj_ne _ _ _ _ _ _ (by decide), State.obj_setObj_self]
    rfl
  · rw [State.get_eq, obj_settle_of _ _ _ (by decide) (by decide), capBegun]
    simp only [State.put_eq]
    rw [State.obj_setObj_ne _ _ _ _ _ _ (by decide), State.obj_setObj_self]
  · exact (((onlyObjs_refl ({ s with faults := (capBegun s k skip c).faults } : State)
      [objKey 0 O.CAP_STATE, objKey 0 O.CAP_TM, objKey 0 O.CAP_WRAP]).put (j := 0) (k := O.CAP_STATE) (by simp) _).put
      (j := 0) (k := O.CAP_TM) (by simp) _).put (j := 0) (k := O.CAP_WRAP) (by simp) _ |>.settled

/-! ### The end of a capture -/

theorem capLast_full (h : k.trits = []) : capLast s k = (k.bytes, s) := if_pos h

theorem capLast_open (h : k.trits ≠ []) :
    capLast s k = (k.bytes ++ List.replicate (s.free.1.toNat % 4097) 0xFF#8 ++ [packTrits k.trits], s.free.2) := if_neg h

/-- The bytes of a capture that ends, and the state with the free values they drew. -/
def capBytes (s : State) (k : Capture) : List Byte × State :=
  if 4096 ≤ k.bytes.length then (k.bytes, s) else capLast s k

theorem capBytes_state (s : State) (k : Capture) : (capBytes s k).2 = s ∨ (capBytes s k).2 = s.free.2 := by
  rw [capBytes]
  split
  · exact .inl rfl
  · by_cases h : k.trits = []
    · exact .inl (by rw [capLast_full h])
    · exact .inr (by rw [capLast_open h])

theorem capBytes_complete (h : k.trits = []) : (capBytes s k).1 = k.bytes := by
  rw [capBytes, capLast_full h, ite_self]

theorem capBytes_open (h : k.trits ≠ []) (hl : k.bytes.length < 4096) :
    ∃ n, (capBytes s k).1 = k.bytes ++ List.replicate n 0xFF#8 ++ [packTrits k.trits] :=
  ⟨s.free.1.toNat % 4097, by rw [capBytes, if_neg (by omega), capLast_open h]⟩

theorem capBytes_starts (s : State) (k : Capture) : ∃ l, (capBytes s k).1 = k.bytes ++ l := by
  rw [capBytes]
  split
  · exact ⟨[], by simp⟩
  · by_cases h : k.trits = []
    · exact ⟨[], by rw [capLast_full h]; simp⟩
    · exact ⟨_, by rw [capLast_open h, List.append_assoc]⟩

theorem exec_capEnd_ends (hk : s.faults.capture = some k) (hst : s.num O.CAP_STATE = 1 ∨ s.num O.CAP_STATE = 2)
    (h : 4096 ≤ k.bytes.length ∨ s.capLive k = false) : exec .capEnd s = done (({ (capBytes s k).2.setBlob 0 O.CAP_DATA
      ((capBytes s k).1.take 4096) with faults := { (capBytes s k).2.faults with capture := none } } : State).put
        O.CAP_STATE (ofN 3)) := by
  have hgo : (s.num O.CAP_STATE = 1 ∨ s.num O.CAP_STATE = 2) ∧ (4096 ≤ k.bytes.length ∨ (!s.capLive k) = true) :=
    ⟨hst, h.imp id fun h => by rw [h]; rfl⟩
  rw [exec_capEnd, execCapEnd, hk]
  dsimp only
  rw [if_pos hgo]
  rfl

theorem capEnd_answers (hk : s.faults.capture = some k) (hst : s.num O.CAP_STATE = 1 ∨ s.num O.CAP_STATE = 2)
    (h : 4096 ≤ k.bytes.length ∨ s.capLive k = false) : Answers .capEnd s fun t =>
      t.faults.capture = none ∧ t.num O.CAP_STATE = 3 ∧ (t.blob 0 O.CAP_DATA).length ≤ 4096 ∧
      (t.blob 0 O.CAP_DATA).take k.bytes.length = k.bytes.take 4096 ∧
      (k.trits = [] → t.blob 0 O.CAP_DATA = k.bytes.take 4096) ∧
      (k.trits ≠ [] → k.bytes.length < 4096 →
        (∃ n, t.blob 0 O.CAP_DATA = (k.bytes ++ List.replicate n 0xFF#8 ++ [packTrits k.trits]).take 4096)) ∧
      OnlyObjs [objKey 0 O.CAP_STATE] { s with faults := t.faults, blobs := t.blobs } t := by
  obtain ⟨h1, h2, h3, h4⟩ := capture_settled (capBytes s k).2 { (capBytes s k).2.faults with capture := none }
    ((capBytes s k).1.take 4096) (k := 3) (by decide)
  refine answers_done (exec_capEnd_ends hk hst h) ⟨congrArg Faults.capture h1, h2, ?_⟩
  rw [h3]
  refine ⟨by simp, ?_, fun ht => by rw [capBytes_complete ht], fun ht hl => ?_, ?_⟩
  · obtain ⟨l, hl⟩ := capBytes_starts s k
    rw [hl, List.take_take, Nat.min_comm, ← List.take_take, List.take_left]
  · obtain ⟨n, hn⟩ := capBytes_open ht hl
    exact ⟨n, by rw [hn]⟩
  · refine OnlyObjs.trans ?_ h4
    obtain hs | hs := capBytes_state s k
    · rw [hs]
      exact onlyObjs_refl _ _
    · rw [hs]
      exact onlyObjs_congr _ rfl rfl rfl

theorem exec_capEnd_idle (hk : s.faults.capture = some k) (h : s.num O.CAP_STATE ≠ 1) (h' : s.num O.CAP_STATE ≠ 2) :
    exec .capEnd s = done s := by
  rw [exec_capEnd, execCapEnd, hk]
  dsimp only
  rw [if_neg fun hh => hh.1.elim h h']

/-- Settles O58: a test starts, waits or is skipped as its input's state says, its end records the result, and a capture begins
where a byte of its stream begins and ends with the bytes it holds. -/
theorem testsAndCapture : Obligations.TestsAndCapture := by
  unfold Obligations.TestsAndCapture
  refine ⟨fun s n hn hr he => ⟨fun ht hx => ⟨inputTestDue_skipped hn hr he ht hx, fun h1 h2 h3 hb => ?_, fun h1 h2 h3 hb => ?_⟩,
      inputTestDue_queued hn hr he⟩, fun s n h => answers_idle (inputTestDue_off h),
    fun s x ht h8 hx hd => ⟨inputTestDone_pass ht h8 hx hd, inputTestDone_fail ht h8 hx hd⟩,
    fun s x m ht h8 hx hd => inputTestDone_next ht h8 hx hd, fun s f ht => ?_,
    fun s p n h => ⟨fun ho hn hb hx hr => ⟨ptestCmd_starts h ho hn hb hx hr, fun x => ptestCmd_waits h ho hn hb hx hr, fun x ht hc => ?_⟩,
      fun ho hn hb => ?_, fun v ho hv => ?_, fun v ho => ?_⟩,
    fun s p h => ⟨fun ho => ⟨capStart_answers h ho, fun hst => ?_, capCancel_answers h ho⟩, fun ho i hi => ?_⟩,
    fun s k hk => ⟨fun x hst hx hl => ⟨fun skip => capBegin_answers hk hx hst hl, fun hskip => ?_⟩, fun hl => ?_,
      capEnd_answers hk, fun hst => ?_, fun h1 h2 => answers_idle (exec_capEnd_idle hk h1 h2)⟩⟩
  · refine answers_done (by rw [inputTestDue_starts hn hr he ht hx, startTest_streams h1 h2 h3, hb, if_neg Bool.false_ne_true]) ?_
    exact (onlyObjs_refl ({ s with test := some { input := n, commanded := false } } : State) []).settled
  · exact answers_idle (by rw [inputTestDue_starts hn hr he ht hx, startTest_streams h1 h2 h3, if_pos hb])
  · exact answers_idle (by rw [exec_inputTestDone, execInputTestDone, ht])
  · exact rejected_access (exec_ptestCmd s p _) h (missing_ptestCmd s)
      (ptestWrite_refused (s := s.turned) ho hn (.inr (.inr ⟨x, ht, hc⟩)))
  · exact rejected_access (exec_ptestCmd s p _) h (missing_ptestCmd s)
      (ptestWrite_refused (s := s.turned) ho hn (hb.imp id .inl))
  · exact rejected_access (exec_ptestCmd s p _) h (missing_ptestCmd s) (ptestWrite_unfitted (s := s.turned) ho hv)
  · exact rejected_access (exec_ptestCmd s p _) h (missing_ptestCmd s) (stewardOnly_neg (s := s.turned) ho _)
  · exact rejected_access (exec_capStart s p) h (missing_capCmd s) (capCmd_busy (s := s.turned) ho hst)
  · obtain rfl | rfl := hi
    · exact rejected_access (exec_capStart s p) h (missing_capCmd s) (stewardOnly_neg (s := s.turned) ho _)
    · exact rejected_access (exec_capCancel s p) h (missing_capCmd s) (stewardOnly_neg (s := s.turned) ho _)
  · exact answers_idle (exec_capBegin_later hk hx hskip)
  · exact answers_idle (exec_capBegin_idle hk fun h => absurd (hl.symm.trans h.2) Bool.false_ne_true)
  · exact answers_idle (exec_capBegin_idle hk fun h => hst h.1)

end Sys2Proof.Machine
end

section
/-! ## The field-bus port's own state (R462, R467, R468, R472 to R474)

What a communication condition, its end, an NMT state and a frame that is sent change of the port, stated once. -/

namespace Sys2Proof.Machine

variable {s t u : State} {ks : List Nat}

/-- Between `s` and `t` nothing but the port and the listed objects changes. -/
def CanOnly (ks : List Nat) (s t : State) : Prop := OnlyObjs ks { s with can := t.can } t

theorem canOnly_refl (ks : List Nat) (s : State) : CanOnly ks s s := onlyObjs_refl s ks

theorem canOnly_withCan (ks : List Nat) (s : State) (x : Can) : CanOnly ks s { s with can := x } := onlyObjs_refl _ ks

theorem CanOnly.trans (h : CanOnly ks s t) (h' : CanOnly ks t u) : CanOnly ks s u :=
  OnlyObjs.trans (OnlyObjs.canBoth h u.can) h'

theorem CanOnly.mono {ks' : List Nat} (h : CanOnly ks s t) (hs : ∀ x ∈ ks, x ∈ ks') : CanOnly ks' s t := OnlyObjs.mono h hs

theorem CanOnly.put (h : CanOnly ks s t) {j k : Nat} (hk : objKey j k ∈ ks) (v : Slot) : CanOnly ks s (t.setObj j k v) :=
  OnlyObjs.put h hk v

theorem CanOnly.settled (h : CanOnly ks s t) : CanOnly ks s (settle t) := OnlyObjs.settledCan h

theorem OnlyObjs.canOnly (h : OnlyObjs ks s t) : CanOnly ks s t :=
  h.canOf (congrArg State.can h.1 : t.can.bare = s.can.bare).symm

theorem CanOnly.ctxs (h : CanOnly ks s t) : t.ctxs = s.ctxs := (congrArg State.ctxs h.1 :)

theorem CanOnly.mem (h : CanOnly ks s t) : t.mem = s.mem := (congrArg State.mem h.1 :)

/-- An object that the list does not name. -/
theorem CanOnly.obj_of (h : CanOnly ks s t) (i : Nat) {k : Nat} (hk : k < 2 ^ 24) (hs : k ∉ settleObjs) (hn : objKey i k ∉ ks) :
    t.obj i k = s.obj i k := h.2 i k hn (objKey_settle i k hk hs)

/-! ### Emergencies and conditions -/

theorem emcy_canOnly (s : State) (code b0 b1 detail : Nat) : CanOnly ks s (emcy s code b0 b1 detail) := canOnly_withCan ks s _

theorem emcyEnd_canOnly (s : State) (before : Nat) : CanOnly ks s (emcyEnd before s) := by
  rw [emcyEnd]
  split_ifs
  · exact emcy_canOnly s _ _ _ _
  · exact canOnly_refl ks s

theorem commFault_canOnly (s : State) (code detail : Nat) : CanOnly ks s (commFault s code detail) :=
  canOnly_withCan ks s _

theorem commEnd_canOnly (s : State) (code : Nat) : CanOnly ks s (commEnd s code) :=
  (canOnly_withCan ks s _).trans (emcyEnd_canOnly _ _)

/-- The newest emergency but one waits as long as the newest. -/
theorem mem_queue_before (l : List Emcy) (y x : Emcy) :
    y ∈ ((l ++ [y]).drop ((l ++ [y]).length - 16) ++ [x]).drop (((l ++ [y]).drop ((l ++ [y]).length - 16) ++ [x]).length - 16) := by
  obtain ⟨m, hm⟩ : ∃ m, (l ++ [y]).drop ((l ++ [y]).length - 16) = m ++ [y] :=
    ⟨_, List.drop_append_of_le_length (by simp only [List.length_append, List.length_singleton]; omega)⟩
  rw [hm, List.append_assoc, List.drop_append_of_le_length (by simp only [List.length_append, List.length_cons, List.length_nil]; omega)]
  exact List.mem_append_right _ List.mem_cons_self

/-- What the end of a condition leaves of the port. -/
theorem emcyEnd_can (s : State) (before : Nat) : ∃ q, (emcyEnd before s).can = { s.can with queue := q } := by
  rw [emcyEnd]
  split_ifs
  · exact ⟨_, rfl⟩
  · exact ⟨s.can.queue, rfl⟩

/-- The emergency that was queued last waits over the end of a condition. -/
theorem emcyEnd_waits (s : State) (before : Nat) (q : List Emcy) (y : Emcy)
    (hq : s.can.queue = (q ++ [y]).drop ((q ++ [y]).length - 16)) : y ∈ (emcyEnd before s).can.queue := by
  rw [emcyEnd]
  split_ifs
  · simp only [emcy, hq]
    exact mem_queue_before q y _
  · rw [hq]
    exact mem_drop_concat _ _ (by simp)

theorem commEnd_can (s : State) (code : Nat) : ∃ q, (commEnd s code).can =
    { s.can with active := s.can.active.filter (fun c => c != code), queue := q } := by
  obtain ⟨q, hq⟩ := emcyEnd_can { s with can := { s.can with active := s.can.active.filter fun c => c != code } } s.errorRegister
  exact ⟨q, hq⟩

theorem not_mem_commEnd (s : State) (code : Nat) : code ∉ (commEnd s code).can.active := by
  obtain ⟨q, hq⟩ := commEnd_can s code
  rw [hq]
  simp

theorem waits_commEnd_emcy (s : State) (code b0 b1 detail : Nat) : Waits code detail (commEnd (emcy s code b0 b1 detail) code) :=
  ⟨{ code, b0, b1, detail }, emcyEnd_waits _ _ s.can.queue _ rfl, rfl, rfl⟩

theorem waits_commEnd_fault (s : State) (code detail : Nat) :
    Waits code (detail % 65536) (commEnd (commFault s code detail) code) :=
  ⟨{ code, b0 := 0xFF, b1 := 0xFF, detail := detail % 65536 }, emcyEnd_waits _ _ s.can.queue _ rfl, rfl, rfl⟩

theorem waits_commFault (s : State) (code detail : Nat) : Waits code (detail % 65536) (commFault s code detail) :=
  ⟨_, emcy_queued s code 0xFF 0xFF (detail % 65536), rfl, rfl⟩

theorem Waits.settled {code detail : Nat} (h : Waits code detail t) : Waits code detail (settle t) := by
  obtain ⟨e, he, hc, hd⟩ := h
  exact ⟨e, by rwa [settle_queue], hc, hd⟩

/-! ### Frames and NMT states -/

theorem canSend_frame (s : State) (cob : Nat) (bs : List Byte) : OnlyObjs ks s (canSend s cob bs) := by
  rw [canSend]
  split_ifs
  · exact onlyObjs_congr ks rfl rfl rfl
  · exact onlyObjs_refl s ks

theorem canSend_can (s : State) (cob : Nat) (bs : List Byte) : (canSend s cob bs).can = s.can := by
  rw [canSend]
  split_ifs
  · rfl
  · rfl

theorem obj_canSend (s : State) (cob : Nat) (bs : List Byte) (i k : Nat) : (canSend s cob bs).obj i k = s.obj i k := by
  rw [canSend]
  split_ifs
  · rfl
  · rfl

/-- A frame that leaves the port stands among what the command sends. -/
theorem canSend_sent (h : s.Sends) (cob : Nat) (bs : List Byte) : .canFrame cob (padFd bs) ∈ (canSend s cob bs).sent := by
  rw [canSend, if_pos h]
  exact List.mem_cons_self

theorem usdoAbort_none (h : s.can.usdo = none) (code : Nat) : usdoAbort s code = s := by rw [usdoAbort, h]

theorem usdoAbort_some {u : Usdo} (h : s.can.usdo = some u) (code : Nat) : usdoAbort s code =
    (let v := recordCode { s with can := { s.can with usdo := none } } 32 u.key (if u.download then 2 else 1) code
     canSend v (0x580 + v.can.nodeId) (leBytes 1 0x80 ++ leBytes 4 code)) := by
  simp only [usdoAbort, h]

theorem recordCode_frame (s : State) (p k op code : Nat) : OnlyObjs (abortKeys p) s (recordCode s p k op code) :=
  (((onlyObjs_refl s (abortKeys p)).put (j := p) (by simp [abortKeys]) _).put (j := p) (k := O.PATH_ABORTS) (by simp [abortKeys]) _).put
    (j := p) (k := O.PATH_STATUS) (by simp [abortKeys]) _

theorem recordCode_can (s : State) (p k op code : Nat) : (recordCode s p k op code).can = s.can := by
  simp only [recordCode, State.countSat_eq, State.flag_eq, State.setObj_can]

theorem usdoAbort_canOnly (s : State) (code : Nat) : CanOnly (abortKeys 32) s (usdoAbort s code) := by
  rcases h : s.can.usdo with _ | u
  · rw [usdoAbort_none h]
    exact canOnly_refl _ s
  · rw [usdoAbort_some h]
    exact ((canOnly_withCan _ s _).trans (recordCode_frame _ 32 _ _ _).canOnly).trans (canSend_frame _ _ _).canOnly

theorem usdoAbort_can (s : State) (code : Nat) : (usdoAbort s code).can = { s.can with usdo := none } := by
  rcases h : s.can.usdo with _ | u
  · rw [usdoAbort_none h, ← h]
  · rw [usdoAbort_some h]
    exact (canSend_can _ _ _).trans (recordCode_can _ _ _ _ _)

theorem enterNmt_canOnly (s : State) (n : NmtSt) : CanOnly (abortKeys 32) s (enterNmt s n) := by
  rw [enterNmt]
  split_ifs
  · exact (usdoAbort_canOnly s _).trans (canOnly_withCan _ _ _)
  · exact canOnly_withCan _ _ _

theorem enterNmt_can (s : State) (n : NmtSt) : ∃ u, (enterNmt s n).can = { s.can with nmt := n, usdo := u } := by
  rw [enterNmt]
  split_ifs
  · exact ⟨none, by rw [usdoAbort_can]⟩
  · exact ⟨s.can.usdo, rfl⟩

/-- What ERR_COMM makes of an NMT state that has the service (R468). -/
def errNmt (action : Nat) (n : NmtSt) : NmtSt :=
  if action = 0 then .preOperational else if action = 2 then .stopped else n

theorem applyErrComm_canOnly (s : State) : CanOnly (abortKeys 32) s (applyErrComm s) := by
  rw [applyErrComm]
  split_ifs
  · split
    · exact enterNmt_canOnly s _
    · exact enterNmt_canOnly s _
    · exact canOnly_refl _ s
  · exact canOnly_refl _ s

theorem applyErrComm_can (s : State) : ∃ n u, (applyErrComm s).can = { s.can with nmt := n, usdo := u } ∧
    (s.can.nmt = .preOperational ∨ s.can.nmt = .operational ∨ s.can.nmt = .stopped → n = errNmt (s.num O.ERR_COMM) s.can.nmt) := by
  rw [applyErrComm]
  split_ifs with hn
  · split
    · next h =>
      obtain ⟨u, hu⟩ := enterNmt_can s .preOperational
      exact ⟨_, u, hu, fun _ => by rw [h, errNmt, if_pos rfl]⟩
    · next h =>
      obtain ⟨u, hu⟩ := enterNmt_can s .stopped
      exact ⟨_, u, hu, fun _ => by rw [h, errNmt, if_neg (by decide), if_pos rfl]⟩
    · next h0 h2 => exact ⟨s.can.nmt, s.can.usdo, rfl, fun _ => by rw [errNmt, if_neg h0, if_neg h2]⟩
  · exact ⟨s.can.nmt, s.can.usdo, rfl, fun h => absurd h hn⟩

/-! ### A communication failure and what ERR_COMM asks for (R467, R468) -/

@[simp] theorem runTo_can (s : State) (n : Nat) : (s.runTo n).can = s.can := by rw [runTo_eq]

theorem settle_bare {α : Type} (f : Can → α) (hf : ∀ x : Can, f x = f x.bare) (s : State) : f (settle s).can = f s.can :=
  (hf _).trans ((congrArg f (settle_canBare s).symm).trans (hf _).symm)

theorem errComm_obj (s : State) (i k : Nat) (hk : k < 2 ^ 24) (hs : k ∉ settleObjs) (hn : objKey i k ∉ abortKeys 32) :
    (applyErrComm s).obj i k = s.obj i k := (applyErrComm_canOnly s).obj_of i hk hs hn

theorem waits_of_queue {code detail : Nat} (h : Waits code detail s) (hq : t.can.queue = s.can.queue) : Waits code detail t := by
  obtain ⟨e, he, hc, hd⟩ := h
  exact ⟨e, by rwa [hq], hc, hd⟩

/-- What a communication failure and its action leave, at the end of the command. -/
theorem errComm_settled (s : State) :
    let t := settle (applyErrComm s)
    t.can.queue = s.can.queue ∧ t.can.active = s.can.active ∧ t.can.lost = s.can.lost ∧ t.can.busOff = s.can.busOff ∧
      t.can.rpdoTimer = s.can.rpdoTimer ∧
      (s.can.nmt = .preOperational ∨ s.can.nmt = .operational ∨ s.can.nmt = .stopped →
        t.can.nmt = errNmt (s.num O.ERR_COMM) s.can.nmt) ∧ t.ctxs = s.ctxs ∧ t.mem = s.mem := by
  intro t
  obtain ⟨n, u, hcan, hn⟩ := applyErrComm_can s
  have h (α : Type) (f : Can → α) (hf : ∀ x : Can, f x = f x.bare) : f t.can = f { s.can with nmt := n, usdo := u } := by
    rw [← hcan]
    exact settle_bare f hf _
  exact ⟨h _ Can.queue fun _ => rfl, h _ Can.active fun _ => rfl, h _ Can.lost fun _ => rfl, h _ Can.busOff fun _ => rfl,
    h _ Can.rpdoTimer fun _ => rfl, fun hs => (h _ Can.nmt fun _ => rfl).trans (hn hs),
    (settle_ctxs _).trans (applyErrComm_canOnly s).ctxs, (settle_mem _).trans (applyErrComm_canOnly s).mem⟩

theorem errNmt_zero (n : NmtSt) : errNmt 0 n = .preOperational := rfl
theorem errNmt_one (n : NmtSt) : errNmt 1 n = n := rfl
theorem errNmt_two (n : NmtSt) : errNmt 2 n = .stopped := rfl

/-! ### Heartbeats (R467) -/

/-- The next heartbeat is due `n` base periods from now. -/
def nextBeatIn (v : State) (n : Nat) : State := { v with can := { v.can with nextBeat := v.now + n } }

/-- The heartbeat's frame, sent at the instant that falls due. -/
def beatFrame (s : State) : State :=
  canSend (s.runTo s.can.nextBeat) (0x700 + s.can.nodeId) (leBytes 1 s.can.nmt.beat)

theorem now_congr (hc : t.counter = s.counter) (hw : t.wraps = s.wraps) : t.now = s.now := by
  rw [State.now, State.now, hc, hw]

theorem nextBeatIn_settled (v : State) (n : Nat) :
    let t := settle (nextBeatIn v n)
    Sent v t ∧ t.can.nextBeat = t.now + n ∧ t.can.nmt = v.can.nmt ∧ t.can.nodeId = v.can.nodeId ∧ t.ctxs = v.ctxs ∧
      t.mem = v.mem := by
  refine ⟨(sent_settle (s := nextBeatIn v n)).after rfl, ?_, settle_bare Can.nmt (fun _ => rfl) _, settle_bare Can.nodeId (fun _ => rfl) _,
    settle_ctxs _, settle_mem _⟩
  rw [settle_now, settle_bare Can.nextBeat fun _ => rfl]
  exact congrArg (· + n) (now_congr (s := v) rfl rfl).symm

theorem exec_heartbeatProduce_due (h : s.Sends) (hp : s.num O.HB_PRODUCER ≠ 0)
    (hn : s.can.nmt = .preOperational ∨ s.can.nmt = .operational ∨ s.can.nmt = .stopped) :
    exec .heartbeatProduce s = done (nextBeatIn (beatFrame s) (s.num O.HB_PRODUCER * msTicks)) := by
  rw [exec_heartbeatProduce, execHeartbeatProduce]
  dsimp only
  rw [if_pos ⟨h.1, hp, hn⟩, runTo_can, nextBeatIn, beatFrame]

theorem runTo_sends (h : s.Sends) (n : Nat) : (s.runTo n).Sends := by
  rw [runTo_eq]
  exact h

theorem heartbeatProduce_answers (h : s.Sends) (hp : s.num O.HB_PRODUCER ≠ 0)
    (hn : s.can.nmt = .preOperational ∨ s.can.nmt = .operational ∨ s.can.nmt = .stopped) :
    Answers .heartbeatProduce s fun t =>
      .canFrame (0x700 + s.can.nodeId) [BitVec.ofNat 8 s.can.nmt.beat] ∈ t.sent ∧
      t.can.nextBeat = t.now + s.num O.HB_PRODUCER * msTicks ∧ t.can.nmt = s.can.nmt ∧ t.can.nodeId = s.can.nodeId ∧
      t.ctxs = s.ctxs ∧ t.mem = s.mem := by
  have hframe : OnlyObjs [] (s.runTo s.can.nextBeat) (beatFrame s) := canSend_frame _ _ _
  have hcan : (beatFrame s).can = s.can := (canSend_can _ _ _).trans (runTo_can s _)
  have hsent : .canFrame (0x700 + s.can.nodeId) [BitVec.ofNat 8 s.can.nmt.beat] ∈ (beatFrame s).sent :=
    canSend_sent (runTo_sends h _) _ (leBytes 1 s.can.nmt.beat)
  obtain ⟨h1, h2, h3, h4, h5, h6⟩ := nextBeatIn_settled (beatFrame s) (s.num O.HB_PRODUCER * msTicks)
  exact answers_done (exec_heartbeatProduce_due h hp hn) ⟨h1.mem hsent, h2, h3.trans (congrArg Can.nmt hcan),
    h4.trans (congrArg Can.nodeId hcan), h5.trans ((congrArg State.ctxs hframe.1 :).trans (runTo_ctxs s _)),
    h6.trans ((congrArg State.mem hframe.1 :).trans (runTo_mem s _))⟩

/-- Consumer `k` has heard its node (R467). -/
def beatHeard (s : State) (k : Nat) : State :=
  { s with can := { s.can with heard := kvPut s.can.heard k s.now, lost := s.can.lost.filter fun j => j != k } }

theorem exec_heartbeatReceived_heard {node k : Nat} (h : s.hearsBeats = true) (hw : s.watcher node = some k) :
    exec (.heartbeatReceived node) s = done (if (s.can.lost.filter fun j => j != k).isEmpty = true ∧
      s.can.active.contains 0x8130 = true then commEnd (beatHeard s k) 0x8130 else beatHeard s k) := by
  rw [exec_heartbeatReceived, execHeartbeatReceived, if_pos h, hw]
  rfl

theorem exec_heartbeatReceived_unwatched {node : Nat} (hw : s.watcher node = none) :
    exec (.heartbeatReceived node) s = done s := by
  rw [exec_heartbeatReceived, execHeartbeatReceived, hw, ite_self]

theorem heartbeatReceived_answers {node k : Nat} (h : s.hearsBeats = true) (hw : s.watcher node = some k) :
    Answers (.heartbeatReceived node) s fun t =>
      kvGet t.can.heard k = some s.now ∧ k ∉ t.can.lost ∧ (∀ j, j ≠ k → (j ∈ t.can.lost ↔ j ∈ s.can.lost)) ∧
      ((∀ j ∈ s.can.lost, j = k) → 0x8130 ∉ t.can.active) ∧ t.can.nmt = s.can.nmt ∧ OnlyObjs [] { s with can := t.can } t := by
  have key : ∀ u : State, CanOnly [] s u → (∃ q a, u.can = { (beatHeard s k).can with active := a, queue := q }) →
      ((∀ j ∈ s.can.lost, j = k) → 0x8130 ∉ u.can.active) →
      (let t := settle u
       kvGet t.can.heard k = some s.now ∧ k ∉ t.can.lost ∧ (∀ j, j ≠ k → (j ∈ t.can.lost ↔ j ∈ s.can.lost)) ∧
        ((∀ j ∈ s.can.lost, j = k) → 0x8130 ∉ t.can.active) ∧ t.can.nmt = s.can.nmt ∧ OnlyObjs [] { s with can := t.can } t) := by
    rintro u hu ⟨q, a, hc⟩ ha
    refine ⟨?_, ?_, ?_, ?_, ?_, hu.settled⟩
    · rw [settle_bare Can.heard (fun _ => rfl), hc]
      exact (kvGet_kvPut _ _ _ _).trans (if_pos rfl)
    · rw [settle_bare Can.lost (fun _ => rfl), hc]
      simp [beatHeard]
    · intro j hj
      rw [settle_bare Can.lost (fun _ => rfl), hc]
      simp [beatHeard, hj]
    · rw [settle_bare Can.active (fun _ => rfl)]
      exact ha
    · rw [settle_bare Can.nmt (fun _ => rfl), hc]
      rfl
  refine answers_done (exec_heartbeatReceived_heard h hw) ?_
  split_ifs with hend
  · obtain ⟨q, hq⟩ := commEnd_can (beatHeard s k) 0x8130
    exact key _ ((canOnly_withCan [] s _).trans (commEnd_canOnly _ _)) ⟨q, _, hq⟩ fun _ => not_mem_commEnd _ _
  · refine key _ (canOnly_withCan [] s _) ⟨s.can.queue, s.can.active, rfl⟩ fun hall hmem => hend ⟨?_, ?_⟩
    · rw [List.isEmpty_iff, List.filter_eq_nil_iff]
      intro j hj
      simp [hall j hj]
    · exact List.contains_iff_mem.mpr hmem

/-- The instant at which consumer `k` has missed its node for the time set. -/
def beatMissedAt (s : State) (k : Nat) : State :=
  match kvGet s.can.heard k with
  | some t => s.runTo (t + fld (s.get (O.HB_CONSUMER_k + k)) 0 16 * msTicks)
  | none => s

theorem beatMissedAt_cases (s : State) (k : Nat) : beatMissedAt s k = s ∨ ∃ n, beatMissedAt s k = s.runTo n := by
  rw [beatMissedAt]
  split
  · exact .inr ⟨_, rfl⟩
  · exact .inl rfl

/-- A consumer that has missed its node. -/
def lostAdded (v : State) (k : Nat) : State := { v with can := { v.can with lost := k :: v.can.lost } }

/-- The failure of consumer `k` before the action that ERR_COMM asks for. -/
def beatLost (s : State) (k : Nat) : State :=
  let v := beatMissedAt s k
  (commFault (lostAdded v k) 0x8130 (fld (s.get (O.HB_CONSUMER_k + k)) 16 8)).flag 0 O.FB_STATUS 4

theorem exec_heartbeatLost_missed {k : Nat} (h : s.hearsBeats = true) (hk : k < 4)
    (hw : s.watcher (fld (s.get (O.HB_CONSUMER_k + k)) 16 8) = some k) (hl : k ∉ s.can.lost) :
    exec (.heartbeatLost k) s = done (applyErrComm (beatLost s k)) := by
  have hgo : s.hearsBeats = true ∧ k < 4 ∧ s.watcher (fld (s.get (O.HB_CONSUMER_k + k)) 16 8) = some k ∧
      s.can.lost.contains k = false := ⟨h, hk, hw, by simpa using hl⟩
  rw [exec_heartbeatLost, execHeartbeatLost]
  dsimp only
  rw [if_pos hgo]
  rfl

theorem fld_toNat_lt (v : Slot) (a n : Nat) : fld v a n < 2 ^ n := Nat.mod_lt _ (Nat.two_pow_pos n)

theorem beatMissedAt_same (s : State) (k : Nat) : (beatMissedAt s k).can = s.can ∧ (beatMissedAt s k).ctxs = s.ctxs ∧
    (beatMissedAt s k).mem = s.mem ∧ ∀ j, j < 2 ^ 24 → j ≠ O.TB_STATUS → (beatMissedAt s k).obj 0 j = s.obj 0 j := by
  obtain h | ⟨n, h⟩ := beatMissedAt_cases s k
  · rw [h]
    exact ⟨rfl, rfl, rfl, fun _ _ _ => rfl⟩
  · rw [h]
    exact ⟨runTo_can s n, runTo_ctxs s n, runTo_mem s n, fun j hj hne => obj_runTo s n 0 j hj hne⟩

theorem obj_emcy (s : State) (code b0 b1 detail i k : Nat) : (emcy s code b0 b1 detail).obj i k = s.obj i k := by
  rw [emcy]
  exact obj_withCan _ _ _ _

theorem obj_commFault (s : State) (code detail i k : Nat) : (commFault s code detail).obj i k = s.obj i k := by
  rw [commFault]
  exact (obj_withCan _ _ _ _).trans (obj_emcy _ _ _ _ _ _ _)

theorem commFault_can (s : State) (code detail : Nat) : ∃ q, (commFault s code detail).can =
    { s.can with queue := q, active := code :: s.can.active.filter fun c => c != code } := by
  rw [commFault, emcy]
  exact ⟨_, rfl⟩


theorem beatLost_frame (s : State) (k : Nat) : CanOnly [objKey 0 O.FB_STATUS] (beatMissedAt s k) (beatLost s k) := by
  rw [beatLost, State.flag_eq]
  exact ((canOnly_withCan _ _ _).trans (commFault_canOnly _ _ _)).put (j := 0) (List.mem_singleton_self _) _

theorem heartbeatLost_answers {k : Nat} (h : s.hearsBeats = true) (hk : k < 4)
    (hw : s.watcher (fld (s.get (O.HB_CONSUMER_k + k)) 16 8) = some k) (hl : k ∉ s.can.lost) :
    Answers (.heartbeatLost k) s fun t =>
      k ∈ t.can.lost ∧ 0x8130 ∈ t.can.active ∧ bit (t.get O.FB_STATUS) 4 = true ∧
      Waits 0x8130 (fld (s.get (O.HB_CONSUMER_k + k)) 16 8) t ∧
      ((s.can.nmt = .preOperational ∨ s.can.nmt = .operational ∨ s.can.nmt = .stopped) →
        (s.num O.ERR_COMM = 0 → t.can.nmt = .preOperational) ∧ (s.num O.ERR_COMM = 1 → t.can.nmt = s.can.nmt) ∧
        (s.num O.ERR_COMM = 2 → t.can.nmt = .stopped)) ∧ t.ctxs = s.ctxs ∧ t.mem = s.mem := by
  obtain ⟨hcan, hctxs, hmem, hobj⟩ := beatMissedAt_same s k
  obtain ⟨hq, ha, hlost, -, -, hnmt, hc, hm⟩ := errComm_settled (beatLost s k)
  have hnum : (beatLost s k).num O.ERR_COMM = s.num O.ERR_COMM := by
    refine congrArg BitVec.toNat ((State.obj_setObj_ne _ _ _ _ _ _ (by decide)).trans ?_)
    exact (obj_commFault _ _ _ _ _).trans (hobj _ (by decide) (by decide))
  obtain ⟨q, hfault⟩ := commFault_can (lostAdded (beatMissedAt s k) k) 0x8130 (fld (s.get (O.HB_CONSUMER_k + k)) 16 8)
  have hcanLost : (beatLost s k).can = { (lostAdded (beatMissedAt s k) k).can with
      queue := q, active := 0x8130 :: (lostAdded (beatMissedAt s k) k).can.active.filter fun c => c != 0x8130 } := by
    rw [beatLost, State.flag_eq, State.setObj_can]
    exact hfault
  have hstate : (beatLost s k).can.nmt = s.can.nmt := by
    rw [hcanLost]
    exact (congrArg Can.nmt hcan : (beatMissedAt s k).can.nmt = s.can.nmt)
  refine answers_done (exec_heartbeatLost_missed h hk hw hl) ⟨?_, ?_, ?_, ?_, ?_, hc.trans ?_, hm.trans ?_⟩
  · rw [hlost, hcanLost]
    exact List.mem_cons_self
  · rw [ha, hcanLost]
    exact List.mem_cons_self
  · rw [State.get_eq, obj_settle_of _ _ _ (by decide) (by decide), errComm_obj _ _ _ (by decide) (by decide) (by decide)]
    exact (congrArg (bit · 4) (State.obj_setObj_self _ _ _ _)).trans (bit_setBit_self _ (by decide))
  · have hw := waits_commFault (lostAdded (beatMissedAt s k) k)
      0x8130 (fld (s.get (O.HB_CONSUMER_k + k)) 16 8)
    rw [Nat.mod_eq_of_lt (lt_trans (fld_toNat_lt _ 16 8) (by decide))] at hw
    exact waits_of_queue hw (hq.trans (congrArg Can.queue (hcanLost.trans hfault.symm)))
  · intro hn
    have hafter := (hnmt (by rwa [hstate])).trans (by rw [hnum, hstate])
    exact ⟨fun h0 => hafter.trans (by rw [h0]; rfl), fun h1 => hafter.trans (by rw [h1]; rfl),
      fun h2 => hafter.trans (by rw [h2]; rfl)⟩
  · exact (beatLost_frame s k).ctxs.trans hctxs
  · exact (beatLost_frame s k).mem.trans hmem

/-! ### Errors of the controller (R468, R473, R474) -/

/-- The port in bus-off, before the action that ERR_COMM asks for. -/
def busOffEntered (s : State) : State :=
  let v := s.flag 0 O.FB_STATUS 3
  { v with can := { v.can with
      busOff := true, tpdoDue := [], tpdoHeld := [], queue := [], active := 0x8140 :: v.can.active } }

theorem canBusOff_answers (hr : s.canRuns = true) (hb : s.can.busOff = false) : Answers .canBusOff s fun t =>
    t.can.busOff = true ∧ t.can.queue = [] ∧ 0x8140 ∈ t.can.active ∧ bit (t.get O.FB_STATUS) 3 = true ∧
    t.ctxs = s.ctxs ∧ t.mem = s.mem := by
  have hexec : exec .canBusOff s = done (applyErrComm (busOffEntered s)) := by
    rw [exec_canBusOff, execCanBusOff, if_pos ⟨hr, hb⟩]
    rfl
  obtain ⟨hq, ha, -, hoff, -, -, hc, hm⟩ := errComm_settled (busOffEntered s)
  refine answers_done hexec ⟨hoff, hq, ?_, ?_, hc, hm⟩
  · rw [ha]
    exact List.mem_cons_self
  · rw [State.get_eq, obj_settle_of _ _ _ (by decide) (by decide), errComm_obj _ _ _ (by decide) (by decide) (by decide)]
    exact (congrArg (bit · 3) (State.obj_setObj_self _ _ _ _)).trans (bit_setBit_self _ (by decide))

/-- The port recovered from bus-off, with its count. -/
def busOffLeft (s : State) : State :=
  ({ s with can := { s.can with busOff := false } } : State).countSat 0 O.FB_BUSOFF_COUNT 32

theorem exec_canBusOffRecovery_recovers (hb : s.can.busOff = true) : exec .canBusOffRecovery s =
    done (commEnd (emcy (busOffLeft s) 0x8140 0xFF 0xFF ((busOffLeft s).num O.FB_BUSOFF_COUNT % 65536)) 0x8140) := by
  rw [exec_canBusOffRecovery, execCanBusOffRecovery, if_pos hb]
  rfl

theorem busOffLeft_count (s : State) : (busOffLeft s).num O.FB_BUSOFF_COUNT = satN 32 (s.num O.FB_BUSOFF_COUNT + 1) :=
  (congrArg BitVec.toNat (State.obj_setObj_self ({ s with can := { s.can with busOff := false } } : State) _ _ _)).trans
    (ofN_toNat _ (satN32_lt _))

/-- A condition that ends with its emergency, at the end of the command. -/
theorem ended_settled (v : State) (code b0 b1 detail : Nat) :
    let t := settle (commEnd (emcy v code b0 b1 detail) code)
    t.can.busOff = v.can.busOff ∧ code ∉ t.can.active ∧ Waits code detail t ∧ CanOnly [] v t := by
  obtain ⟨q, hq⟩ := commEnd_can (emcy v code b0 b1 detail) code
  refine ⟨?_, ?_, (waits_commEnd_emcy _ _ _ _ _).settled, ((emcy_canOnly v _ _ _ _).trans (commEnd_canOnly _ _)).settled⟩
  · rw [settle_bare Can.busOff (fun _ => rfl), hq, emcy]
  · rw [settle_bare Can.active (fun _ => rfl)]
    exact not_mem_commEnd _ _

theorem canBusOffRecovery_answers (hb : s.can.busOff = true) : Answers .canBusOffRecovery s fun t =>
    t.can.busOff = false ∧ 0x8140 ∉ t.can.active ∧
    t.num O.FB_BUSOFF_COUNT = satN 32 (s.num O.FB_BUSOFF_COUNT + 1) ∧
    Waits 0x8140 (satN 32 (s.num O.FB_BUSOFF_COUNT + 1) % 65536) t ∧
    OnlyObjs [objKey 0 O.FB_BUSOFF_COUNT] { s with can := t.can } t := by
  obtain ⟨hoff, hact, hwait, hframe⟩ := ended_settled (busOffLeft s) 0x8140 0xFF 0xFF ((busOffLeft s).num O.FB_BUSOFF_COUNT % 65536)
  refine answers_done (exec_canBusOffRecovery_recovers hb) ⟨hoff, hact, ?_, ?_, ?_⟩
  · rw [State.num_eq, hframe.obj_of 0 (by decide) (by decide) (by simp), ← State.num_eq, busOffLeft_count]
  · rw [← busOffLeft_count]
    exact hwait
  · exact ((canOnly_withCan _ s _).put (j := 0) (List.mem_singleton_self _) _).trans (hframe.mono (by simp))

/-- The controller is error passive. -/
def passiveEntered (v : State) : State := { v with can := { v.can with errorPassive := true } }

theorem passiveEntered_settled (v : State) :
    let t := settle (passiveEntered v)
    t.can.errorPassive = true ∧ t.can.active = v.can.active ∧ t.can.queue = v.can.queue ∧
      t.obj 0 O.FB_STATUS = v.obj 0 O.FB_STATUS ∧ CanOnly [] v t :=
  ⟨settle_bare Can.errorPassive (fun _ => rfl) _, settle_bare Can.active (fun _ => rfl) _, settle_queue _,
    (obj_settle_of _ _ _ (by decide) (by decide)).trans (obj_withCan _ _ _ _), (canOnly_withCan [] v _).settled⟩

theorem canErrorPassive_answers (hr : s.canRuns = true) (tec : Nat) : Answers (.canErrorPassive tec) s fun t =>
    t.can.errorPassive = true ∧ 0x8120 ∈ t.can.active ∧ bit (t.get O.FB_STATUS) 2 = true ∧
    Waits 0x8120 (tec % 65536) t ∧ OnlyObjs [objKey 0 O.FB_STATUS] { s with can := t.can } t := by
  have hframe : CanOnly [objKey 0 O.FB_STATUS] s (commFault (s.flag 0 O.FB_STATUS 2) 0x8120 tec) :=
    (((canOnly_refl _ s).put (j := 0) (List.mem_singleton_self _) _)).trans (commFault_canOnly _ _ _)
  have hexec : exec (.canErrorPassive tec) s = done (passiveEntered (commFault (s.flag 0 O.FB_STATUS 2) 0x8120 tec)) := by
    rw [exec_canErrorPassive, execCanErrorPassive, if_pos hr, passiveEntered]
  obtain ⟨q, hq⟩ := commFault_can (s.flag 0 O.FB_STATUS 2) 0x8120 tec
  have hw := waits_commFault (s.flag 0 O.FB_STATUS 2) 0x8120 tec
  have hobj := obj_commFault (s.flag 0 O.FB_STATUS 2) 0x8120 tec 0 O.FB_STATUS
  obtain ⟨hp, ha, hqueue, hst, honly⟩ := passiveEntered_settled (commFault (s.flag 0 O.FB_STATUS 2) 0x8120 tec)
  refine answers_done hexec ⟨hp, ?_, ?_, waits_of_queue hw hqueue, hframe.trans (honly.mono (by simp))⟩
  · rw [ha, hq]
    exact List.mem_cons_self
  · rw [State.get_eq, hst, hobj, State.flag_eq, State.obj_setObj_self]
    exact bit_setBit_self _ (by decide)

/-- The controller is error passive no more. -/
def passiveLeft (s : State) : State :=
  ({ s with can := { s.can with errorPassive := false } } : State).unflag 0 O.FB_STATUS 2

theorem canErrorPassiveEnd_answers (h : s.can.errorPassive = true) : Answers .canErrorPassiveEnd s fun t =>
    t.can.errorPassive = false ∧ 0x8120 ∉ t.can.active ∧ bit (t.get O.FB_STATUS) 2 = false ∧
    OnlyObjs [objKey 0 O.FB_STATUS] { s with can := t.can } t := by
  have hexec : exec .canErrorPassiveEnd s = done (commEnd (passiveLeft s) 0x8120) := by
    rw [exec_canErrorPassiveEnd, execCanErrorPassiveEnd, if_pos h]
    rfl
  obtain ⟨q, hq⟩ := commEnd_can (passiveLeft s) 0x8120
  have hframe : CanOnly [objKey 0 O.FB_STATUS] s (passiveLeft s) :=
    (canOnly_withCan _ s _).put (j := 0) (List.mem_singleton_self _) _
  refine answers_done hexec ⟨?_, ?_, ?_, (hframe.trans (commEnd_canOnly _ _)).settled⟩
  · rw [settle_bare Can.errorPassive (fun _ => rfl), hq]
    rfl
  · rw [settle_bare Can.active (fun _ => rfl)]
    exact not_mem_commEnd _ _
  · rw [State.get_eq, obj_settle_of _ _ _ (by decide) (by decide),
      (commEnd_canOnly (ks := []) (passiveLeft s) 0x8120).obj_of 0 (by decide) (by decide) (by simp)]
    refine (congrArg (bit · 2) (State.obj_setObj_self _ _ _ _)).trans ?_
    rw [bit_clearBit _ _ _ (by decide)]
    simp

theorem canRxOverrun_answers (hr : s.canRuns = true) (lost : Nat) : Answers (.canRxOverrun lost) s fun t =>
    0x8110 ∉ t.can.active ∧ bit (t.get O.FB_STATUS) 1 = true ∧ Waits 0x8110 (lost % 65536) t ∧
    OnlyObjs [objKey 0 O.FB_STATUS] { s with can := t.can } t := by
  have hexec : exec (.canRxOverrun lost) s = done (commEnd (commFault (s.flag 0 O.FB_STATUS 1) 0x8110 lost) 0x8110) := by
    rw [exec_canRxOverrun, execCanRxOverrun, if_pos hr]
  have hframe : CanOnly [objKey 0 O.FB_STATUS] s (commFault (s.flag 0 O.FB_STATUS 1) 0x8110 lost) :=
    (((canOnly_refl _ s).put (j := 0) (List.mem_singleton_self _) _)).trans (commFault_canOnly _ _ _)
  refine answers_done hexec ⟨?_, ?_, (waits_commEnd_fault _ _ _).settled, (hframe.trans (commEnd_canOnly _ _)).settled⟩
  · rw [settle_bare Can.active (fun _ => rfl)]
    exact not_mem_commEnd _ _
  · rw [State.get_eq, obj_settle_of _ _ _ (by decide) (by decide),
      (commEnd_canOnly (ks := []) _ 0x8110).obj_of 0 (by decide) (by decide) (by simp), obj_commFault, State.flag_eq,
      State.obj_setObj_self]
    exact bit_setBit_self _ (by decide)

theorem heartbeats_unserved (h : s.can.nmt = .unconfigured ∨ s.can.nmt = .initialisation) : s.hearsBeats = false := by
  rw [State.hearsBeats]
  obtain h | h := h <;> rw [h] <;> simp

/-- Settles O51: each of the port's conditions is marked, queued and ended by the rules above. -/
theorem fieldBusHealth : Obligations.FieldBusHealth := by
  unfold Obligations.FieldBusHealth
  refine ⟨fun s h hp hn => heartbeatProduce_answers h hp hn, fun s node k h hw => heartbeatReceived_answers h hw,
    fun s node _ hw => answers_idle (exec_heartbeatReceived_unwatched hw), fun s hn k => ⟨answers_idle ?_, answers_idle ?_⟩,
    fun s k h hk hw hl => heartbeatLost_answers h hk hw hl, fun s hr hb => canBusOff_answers hr hb,
    fun s hb => canBusOffRecovery_answers hb, fun s tec hr => canErrorPassive_answers hr tec,
    fun s h => canErrorPassiveEnd_answers h, fun s lost hr => canRxOverrun_answers hr lost,
    fun s hb => answers_idle ?_, fun s h => answers_idle ?_⟩
  · rw [exec_heartbeatReceived, execHeartbeatReceived, if_neg (by simp [heartbeats_unserved hn])]
  · rw [exec_heartbeatLost, execHeartbeatLost]
    dsimp only
    rw [if_neg (by simp [heartbeats_unserved hn])]
  · rw [exec_canBusOffRecovery, execCanBusOffRecovery, if_neg (by simp [hb])]
  · rw [exec_canErrorPassiveEnd, execCanErrorPassiveEnd, if_neg (by simp [h])]

end Sys2Proof.Machine
end

section
/-! ## Emergencies, PDOs and SYNC (R470, R472, R474, R475, R477, R478) -/

namespace Sys2Proof.Machine

variable {s t u : State} {ks : List Nat}

/-! ### EMCY_SEND (R472, R474) -/

theorem padFd_eight {bs : List Byte} (h : bs.length = 8) : padFd bs = bs := by
  have hfind : ([0, 1, 2, 3, 4, 5, 6, 7, 8, 12, 16, 20, 24, 32, 48, 64].find? fun k => decide (bs.length ≤ k)) = some 8 := by
    rw [h]
    rfl
  rw [padFd, hfind, h]
  simp

/-- The keys of ERR_HIST that a code sent moves. -/
def histKeys : List Nat := (List.range 9).map fun k => objKey 0 (0x100300 + k)

/-- A code that enters ERR_HIST moves the seven newest one place on. -/
def histMoved (s : State) (old : List Slot) : State :=
  (List.range 7).foldl (fun s k => s.put (O.ERR_HIST_k + k + 1) (old.getD k 0)) s

theorem pushHist_eq (s : State) (v : Nat) : pushHist s v =
    ((histMoved s ((List.range 8).map fun k => s.get (O.ERR_HIST_k + k))).put O.ERR_HIST_k (ofN v)).put 0x100300
      (ofN (min 8 (s.num 0x100300 + 1))) := rfl

theorem histMoved_frame (s : State) (old : List Slot) : OnlyObjs histKeys s (histMoved s old) := by
  suffices h : ∀ (l : List Nat) (u : State), (∀ k ∈ l, k < 7) → OnlyObjs histKeys s u →
      OnlyObjs histKeys s (l.foldl (fun s k => s.put (O.ERR_HIST_k + k + 1) (old.getD k 0)) u) from
    h _ s (fun k hk => List.mem_range.mp hk) (onlyObjs_refl s _)
  intro l
  induction l with
  | nil => exact fun u _ hu => hu
  | cons a l ih =>
    intro u hl hu
    refine ih _ (fun k hk => hl k (List.mem_cons_of_mem _ hk)) (hu.put (j := 0) ?_ _)
    have ha := hl a List.mem_cons_self
    exact List.mem_map.mpr ⟨a + 2, List.mem_range.mpr (by omega), by simp only [objKey, O.ERR_HIST_k]; omega⟩

theorem pushHist_frame (s : State) (v : Nat) : OnlyObjs histKeys s (pushHist s v) := by
  rw [pushHist_eq]
  exact ((histMoved_frame s _).put (j := 0) (k := O.ERR_HIST_k) (by decide) _).put (j := 0) (k := 0x100300) (by decide) _

theorem histMoved_get (s : State) (old : List Slot) {k : Nat} (hk : k < 7) :
    (histMoved s old).obj 0 (O.ERR_HIST_k + k + 1) = old.getD k 0 := by
  have h7 : List.range 7 = [0, 1, 2, 3, 4, 5, 6] := rfl
  rw [histMoved, h7]
  simp only [List.foldl_cons, List.foldl_nil, State.put_eq]
  interval_cases k <;> simp [State.obj_setObj, O.ERR_HIST_k]

theorem pushHist_newest (s : State) (v : Nat) : (pushHist s v).obj 0 O.ERR_HIST_k = ofN v := by
  rw [pushHist_eq]
  exact (State.obj_setObj_ne _ _ _ _ _ _ (by decide)).trans (State.obj_setObj_self _ _ _ _)

theorem pushHist_older (s : State) (v : Nat) {k : Nat} (hk : k < 7) :
    (pushHist s v).obj 0 (O.ERR_HIST_k + k + 1) = s.obj 0 (O.ERR_HIST_k + k) := by
  have h1 : objKey 0 (O.ERR_HIST_k + k + 1) ≠ objKey 0 0x100300 := objKey_ne 0 (by simp only [O.ERR_HIST_k]; omega)
  have h2 : objKey 0 (O.ERR_HIST_k + k + 1) ≠ objKey 0 O.ERR_HIST_k := objKey_ne 0 (by omega)
  rw [pushHist_eq, State.put_eq, State.put_eq, State.obj_setObj_ne _ _ _ _ _ _ h1, State.obj_setObj_ne _ _ _ _ _ _ h2,
    histMoved_get s _ hk, List.getD_eq_getElem _ _ (by simp; omega)]
  simp

theorem errorRegister_congr (h : t.obj 0 O.TARNISH = s.obj 0 O.TARNISH) (hf : t.faults = s.faults) (hc : t.can = s.can) :
    t.errorRegister = s.errorRegister := by
  simp only [State.errorRegister, State.get_eq, h, hf, hc]

/-- The oldest emergency has left the queue, and the next may follow in `n` base periods. -/
def emcyNext (v : State) (r : List Emcy) (n : Nat) : State :=
  { v with can := { v.can with queue := r, emcyFree := v.now + n } }

theorem emcyNext_settled (v : State) (r : List Emcy) (n : Nat) :
    let t := settle (emcyNext v r n)
    Sent v t ∧ t.can.queue = r ∧ t.can.emcyFree = t.now + n ∧ t.can.nmt = v.can.nmt ∧ CanOnly [] v t := by
  refine ⟨(sent_settle (s := emcyNext v r n)).after rfl, settle_queue _, ?_, settle_bare Can.nmt (fun _ => rfl) _,
    (canOnly_withCan [] v _).settled⟩
  rw [settle_now, settle_bare Can.emcyFree fun _ => rfl]
  exact congrArg (· + n) (now_congr (s := v) rfl rfl).symm

/-- The bytes of an emergency with the error register in force (R472). -/
def emcyBytes (s : State) (e : Emcy) : List Byte :=
  leBytes 2 e.code ++ leBytes 1 s.errorRegister ++ leBytes 1 e.b0 ++ leBytes 1 e.b1 ++ leBytes 2 e.detail ++ leBytes 1 0

/-- The oldest emergency on the wire at the time the inhibit time admits. -/
def emcyFramed (s : State) (e : Emcy) : State :=
  canSend (s.runTo s.can.emcyFree) (fld (s.get O.COB_ID_EMCY) 0 11) (emcyBytes (s.runTo s.can.emcyFree) e)

/-- The code of an emergency as ERR_HIST keeps it. -/
def emcyCode (e : Emcy) : Nat := e.code % 65536 + e.b0 % 256 * 2 ^ 16 + e.b1 % 256 * 2 ^ 24

theorem emcyFramed_frame (s : State) (e : Emcy) : (emcyFramed s e).can = s.can ∧ (emcyFramed s e).ctxs = s.ctxs ∧
    (emcyFramed s e).mem = s.mem ∧
    ∀ k, k < 2 ^ 24 → k ≠ O.TB_STATUS → (emcyFramed s e).obj 0 k = s.obj 0 k := by
  have hsend := canSend_frame (ks := []) (s.runTo s.can.emcyFree) (fld (s.get O.COB_ID_EMCY) 0 11)
    (emcyBytes (s.runTo s.can.emcyFree) e)
  refine ⟨(canSend_can _ _ _).trans (runTo_can s _), (congrArg State.ctxs hsend.1 :).trans (runTo_ctxs s _),
    (congrArg State.mem hsend.1 :).trans (runTo_mem s _), fun k hlt hs => ?_⟩
  exact (obj_canSend _ _ _ _ _).trans (obj_runTo s _ 0 _ hlt hs)

theorem emcyFramed_sent (e : Emcy) (h : s.Sends) :
    .canFrame (fld (s.get O.COB_ID_EMCY) 0 11) (emcyBytes s e) ∈ (emcyFramed s e).sent := by
  have hreg : emcyBytes (s.runTo s.can.emcyFree) e = emcyBytes s e := by
    rw [emcyBytes, emcyBytes, errorRegister_congr (obj_runTo s _ 0 _ (by decide) (by decide)) (runTo_faults s _) (runTo_can s _)]
  have hlen : (emcyBytes s e).length = 8 := by simp [emcyBytes, leBytes_length]
  have hsent := canSend_sent (runTo_sends h s.can.emcyFree) (fld (s.get O.COB_ID_EMCY) 0 11) (emcyBytes s e)
  rw [padFd_eight hlen] at hsent
  rwa [emcyFramed, hreg]

theorem histMoved_sent_can (s : State) (old : List Slot) : (histMoved s old).sent = s.sent ∧ (histMoved s old).can = s.can := by
  rw [histMoved]
  generalize List.range 7 = l
  induction l generalizing s with
  | nil => exact ⟨rfl, rfl⟩
  | cons a l ih =>
    rw [List.foldl_cons, (ih _).1, (ih _).2, State.put_eq]
    exact ⟨State.setObj_sent _ _ _ _, State.setObj_can _ _ _ _⟩

theorem pushHist_sent_can (v : State) (n : Nat) : (pushHist v n).sent = v.sent ∧ (pushHist v n).can = v.can := by
  simp only [pushHist_eq, State.put_eq, State.setObj_sent, State.setObj_can, histMoved_sent_can, and_self]

theorem exec_emcySend_due {e : Emcy} {r : List Emcy} (hq : s.can.queue = e :: r) (hc : s.canServes = true)
    (hr : s.hubRestart = false) (hb : bit (s.get O.COB_ID_EMCY) 31 = false) :
    exec .emcySend s = done (emcyNext (pushHist (emcyFramed s e) (emcyCode e)) r
      ((pushHist (emcyFramed s e) (emcyCode e)).num O.INHIBIT_EMCY * tenthTicks)) := by
  rw [exec_emcySend, execEmcySend, hq]
  dsimp only
  rw [if_pos ⟨hc, hr, hb⟩, emcyFramed, emcyBytes, emcyNext, emcyCode]

theorem sends_of_serves (hc : s.canServes = true) (hr : s.hubRestart = false) : s.Sends := by
  simp only [State.canServes, Bool.and_eq_true] at hc
  obtain ⟨⟨⟨-, hb⟩, ha⟩, hp⟩ := hc
  exact ⟨by rw [State.canRuns, ha, hp]; rfl, hr, by simpa using hb⟩

theorem hist_settle {k : Nat} (hk : k ≤ 7) : O.ERR_HIST_k + k < 2 ^ 24 ∧
    O.ERR_HIST_k + k ∉ settleObjs ∧ O.ERR_HIST_k + k ≠ O.TB_STATUS := by
  interval_cases k <;> decide

/-- What a state `w`, which is `v` with a code in its history, keeps once the emergency has left the queue. -/
theorem emcyNext_hist {v w : State} (hpush : OnlyObjs histKeys v w) (hkept : w.sent = v.sent ∧ w.can = v.can)
    (r : List Emcy) (m : Nat) :
    let t := settle (emcyNext w r m)
    (∀ k, k ≤ 7 → t.get (O.ERR_HIST_k + k) = w.obj 0 (O.ERR_HIST_k + k)) ∧
      t.ctxs = v.ctxs ∧ t.mem = v.mem ∧ t.can.nmt = v.can.nmt ∧ Sent v t := by
  obtain ⟨hsent, -, -, hnmt, hframe⟩ := emcyNext_settled w r m
  have hctxs : w.ctxs = v.ctxs := (congrArg State.ctxs hpush.1 :)
  have hmem : w.mem = v.mem := (congrArg State.mem hpush.1 :)
  refine ⟨fun k hk => ?_, hframe.ctxs.trans hctxs, hframe.mem.trans hmem, hnmt.trans (congrArg Can.nmt hkept.2),
    hsent.after hkept.1⟩
  obtain ⟨hlt, hs, -⟩ := hist_settle hk
  exact hframe.obj_of 0 hlt hs (by simp)

theorem pushHist_inhibit (v : State) (n : Nat) : (pushHist v n).num O.INHIBIT_EMCY = v.num O.INHIBIT_EMCY :=
  congrArg BitVec.toNat ((pushHist_frame v n).2 0 O.INHIBIT_EMCY (by decide) (objKey_settle _ _ (by decide) (by decide)))

theorem emcySend_answers {e : Emcy} {r : List Emcy} (hq : s.can.queue = e :: r) (hc : s.canServes = true)
    (hr : s.hubRestart = false) (hb : bit (s.get O.COB_ID_EMCY) 31 = false) : Answers .emcySend s fun t =>
      t.can.queue = r ∧ t.can.emcyFree = t.now + s.num O.INHIBIT_EMCY * tenthTicks ∧
      .canFrame (fld (s.get O.COB_ID_EMCY) 0 11) (leBytes 2 e.code ++ leBytes 1 s.errorRegister ++ leBytes 1 e.b0
        ++ leBytes 1 e.b1 ++ leBytes 2 e.detail ++ leBytes 1 0) ∈ t.sent ∧
      t.get O.ERR_HIST_k = ofN (e.code % 65536 + e.b0 % 256 * 2 ^ 16 + e.b1 % 256 * 2 ^ 24) ∧
      (∀ k, k < 7 → t.get (O.ERR_HIST_k + k + 1) = s.get (O.ERR_HIST_k + k)) ∧
      t.ctxs = s.ctxs ∧ t.mem = s.mem ∧ t.can.nmt = s.can.nmt := by
  have hexec := exec_emcySend_due hq hc hr hb
  obtain ⟨hcan, hctxs, hmem, hobj⟩ := emcyFramed_frame s e
  have hinhibit : (emcyFramed s e).num O.INHIBIT_EMCY = s.num O.INHIBIT_EMCY :=
    congrArg BitVec.toNat (hobj O.INHIBIT_EMCY (by decide) (by decide))
  have hmoved : (pushHist (emcyFramed s e) (emcyCode e)).num O.INHIBIT_EMCY = s.num O.INHIBIT_EMCY :=
    (pushHist_inhibit _ _).trans hinhibit
  rw [hmoved] at hexec
  have hframe := emcyFramed_sent e (sends_of_serves hc hr)
  have hpush := pushHist_frame (emcyFramed s e) (emcyCode e)
  have hsame := pushHist_sent_can (emcyFramed s e) (emcyCode e)
  have hnew := pushHist_newest (emcyFramed s e) (emcyCode e)
  have hold := fun k hk => pushHist_older (emcyFramed s e) (emcyCode e) (k := k) hk
  rw [← emcyCode]
  rw [emcyBytes] at hframe
  generalize s.num O.INHIBIT_EMCY * tenthTicks = m at hexec ⊢
  generalize pushHist (emcyFramed s e) (emcyCode e) = w at hexec hpush hsame hnew hold
  obtain ⟨-, hqueue, hfree, -, -⟩ := emcyNext_settled w r m
  obtain ⟨hkept, hc', hm', hnmt, hsent⟩ := emcyNext_hist hpush hsame r m
  refine answers_done hexec ⟨hqueue, hfree, hsent.mem hframe, (hkept 0 (by omega)).trans hnew, fun k hk => ?_,
    hc'.trans hctxs, hm'.trans hmem, hnmt.trans (congrArg Can.nmt hcan)⟩
  obtain ⟨hlt, -, hs⟩ := hist_settle (k := k) (by omega)
  exact (hkept (k + 1) (by omega)).trans ((hold k hk).trans (hobj _ hlt hs))

theorem emcySend_none (hq : s.can.queue = []) : exec .emcySend s = done s := by
  rw [exec_emcySend, execEmcySend, hq]

/-! ### ERR_HIST_CLEAR (R474) -/

variable {p : Nat}

theorem commOnly_pos (h : ownerOf p = s.steward ∨ p = 32) (f : State → Acc) : commOnly s p f = f s := by
  refine need_pos s ?_ _ f
  obtain h | h := h <;> simp [h]

theorem commOnly_neg (h : ownerOf p ≠ s.steward) (h' : p ≠ 32) (f : State → Acc) :
    commOnly s p f = (s, some .noPermission) := need_neg (by simp [h, h']) _ f

end Sys2Proof.Machine
end

section
/-! ## The error history and the COB-IDs of PDOs (R474, R475) -/

namespace Sys2Proof.Machine

variable {s t u : State} {ks : List Nat} {p : Nat}

/-! ### ERR_HIST_CLEAR (R474) -/

theorem kvGet_filter {α : Type} (q : Nat → Bool) (l : List (Nat × α)) (k : Nat) :
    kvGet (l.filter fun o => q o.1) k = if q k = true then kvGet l k else none := by
  induction l with
  | nil => simp [kvGet]
  | cons a l ih =>
    obtain ⟨k', v⟩ := a
    rw [List.filter_cons]
    by_cases hq : q k' = true
    · rw [if_pos hq, kvGet, kvGet, ih]
      by_cases hk : k' = k
      · subst hk
        rw [if_pos rfl, if_pos rfl, if_pos hq]
      · rw [if_neg hk, if_neg hk]
    · rw [if_neg hq, ih, kvGet]
      by_cases hk : k' = k
      · subst hk
        rw [if_neg hq, if_neg hq]
      · rw [if_neg hk]

theorem clearHist_obj (s : State) (i k : Nat) : (clearHist s).obj i k =
    if objKey i k / 256 = 0x1003 then objDefault s.variant k else s.obj i k := by
  have hget : kvGet (clearHist s).objs (objKey i k) =
      if (!(objKey i k / 256 == 0x1003)) = true then kvGet s.objs (objKey i k) else none :=
    kvGet_filter (fun n => !(n / 256 == 0x1003)) s.objs (objKey i k)
  rw [State.obj, hget]
  by_cases h : objKey i k / 256 = 0x1003
  · rw [if_pos h, if_neg (by simp [h])]
    rfl
  · rw [if_neg h, if_pos (by simp [h])]
    rfl

/-- The keys of ERR_HIST. -/
def clearKeys : List Nat := (List.range 256).map fun k => objKey 0 (0x100300 + k)

theorem clearHist_frame (s : State) : OnlyObjs clearKeys s (clearHist s) := by
  refine ⟨rfl, fun i k hk hs => ?_⟩
  rw [clearHist_obj, if_neg fun h => hk ?_]
  exact List.mem_map.mpr ⟨objKey i k % 256, List.mem_range.mpr (Nat.mod_lt _ (by decide)), by
    rw [objKey] at h ⊢
    rw [objKey]
    omega⟩

theorem errHistClear_one (h : ownerOf p = s.steward ∨ p = 32) : errHistClear s p 1 = .ok (clearHist s) := by
  rw [errHistClear, commOnly_pos h, need_pos s (by decide) _ _]
  rfl

theorem errHistClear_settled (s : State) {k : Nat} (hk : k < 256) :
    (settle (clearHist s)).get (0x100300 + k) = objDefault s.variant (0x100300 + k) := by
  have hs : 0x100300 + k ∉ settleObjs := by
    simp only [settleObjs, List.mem_cons, List.not_mem_nil, or_false, O.STEWARD_ACTIVE, O.STEWARD_TM, O.DEVICE_STATE_TM,
      O.DEVICE_STATE_WRAP, O.CXL_STATUS, O.FB_FLAGS]
    omega
  refine (obj_settle_of _ 0 _ (by omega) hs).trans ((clearHist_obj s 0 _).trans (if_pos ?_))
  rw [objKey]
  omega

theorem errHistClear_answers (hp : Served s p) (h : ownerOf p = s.steward ∨ p = 32) : Answers (.errHistClear p 1) s fun t =>
    (∀ k, k < 256 → t.get (0x100300 + k) = objDefault s.variant (0x100300 + k)) ∧
    OnlyObjs ((List.range 256).map fun k => objKey 0 (0x100300 + k)) s t :=
  answers_access (exec_errHistClear s p 1) hp rfl (errHistClear_one (s := s.turned) h)
    ⟨fun _ hk => errHistClear_settled s.turned hk, ((onlyObjs_turned (s := s) _).trans (clearHist_frame _)).settled⟩

theorem errHistClear_refused (hp : Served s p) (h : ownerOf p ≠ s.steward) (h' : p ≠ 32) (v : Slot) :
    Answers (.errHistClear p v) s fun t => Rejected s t p O.ERR_HIST_CLEAR 2 .noPermission :=
  rejected_access (exec_errHistClear s p v) hp rfl (commOnly_neg (s := s.turned) h h' _)

/-! ### PDO_COBID_WRITE (R475) -/

/-- The communication indices of the eight PDOs. -/
def pdoIdxs : List Nat := [0x1400, 0x1401, 0x1402, 0x1403, 0x1800, 0x1801, 0x1802, 0x1803]

theorem pdoIdxs_facts {i : Nat} (hi : i ∈ pdoIdxs) : (normIdx i = 0x1400 ∨ normIdx i = 0x1800) ∧ i * 256 + 1 < 2 ^ 24 ∧
    i * 256 + 1 ∉ settleObjs := by
  simp only [pdoIdxs, List.mem_cons, List.not_mem_nil, or_false] at hi
  obtain rfl | rfl | rfl | rfl | rfl | rfl | rfl | rfl := hi <;> decide

theorem pdoIdxs_missing {i : Nat} (hi : i ∈ pdoIdxs) : s.missing ((i * 256 + 1) / 256) ((i * 256 + 1) % 256) = none := by
  simp only [pdoIdxs, List.mem_cons, List.not_mem_nil, or_false] at hi
  obtain rfl | rfl | rfl | rfl | rfl | rfl | rfl | rfl := hi <;> rfl

theorem exec_pdoCobidWrite_of {i : Nat} (hi : i ∈ pdoIdxs) (v : Slot) : exec (.pdoCobidWrite p i v) s =
    done (access s p (i * 256 + 1) fun s => pdoCobidWrite s p i v) := by
  rw [exec_pdoCobidWrite, execPdoCobidWrite, if_pos (pdoIdxs_facts hi).1]

/-- The COB-ID is in force and the PDO's timer and what it held start afresh. -/
def cobidStored (s : State) (i : Nat) (v : Slot) : State :=
  if i < 0x1800 then startRpdoTimer { s.put (i * 256 + 1) v with
    can := { s.can with rpdoHeld := kvDel s.can.rpdoHeld (i % 16) } } (i % 16)
  else startTpdoTimer { s.put (i * 256 + 1) v with
    can := { s.can with
      tpdoDue := s.can.tpdoDue.filter fun j => j != i % 16
      tpdoSync := kvDel s.can.tpdoSync (i % 16)
      tpdoHeld := kvDel s.can.tpdoHeld (i % 16) } } (i % 16)

theorem pdoCobidWrite_ok (i : Nat) {v : Slot} (h : ownerOf p = s.steward ∨ p = 32) (hv : v.toNat < 2 ^ 32)
    (hm : bit v 31 = true ∨ s.mapOk i = true) : pdoCobidWrite s p i v = .ok (cobidStored s i v) := by
  rw [pdoCobidWrite, commOnly_pos h, need_pos s (by simpa [ObjTy.fits] using hv) _ _, pdoCobid,
    need_pos s (by simpa using hm) _ _, cobidStored]
  dsimp only
  split_ifs <;> rfl

theorem cobidStored_frame (s : State) (i : Nat) (v : Slot) : CanOnly [objKey 0 (i * 256 + 1)] s (cobidStored s i v) := by
  have hput : CanOnly [objKey 0 (i * 256 + 1)] s (s.put (i * 256 + 1) v) :=
    ((onlyObjs_refl s _).put (j := 0) List.mem_cons_self v).canOnly
  rw [cobidStored]
  split_ifs
  · exact hput.trans ((canOnly_withCan _ _ _).trans (canOnly_withCan _ _ _))
  · exact hput.trans ((canOnly_withCan _ _ _).trans (canOnly_withCan _ _ _))

theorem cobidStored_can (s : State) (i : Nat) (v : Slot) :
    (cobidStored s i v).can.nmt = s.can.nmt ∧ (cobidStored s i v).can.queue = s.can.queue := by
  rw [cobidStored]
  split_ifs
  · exact ⟨rfl, rfl⟩
  · exact ⟨rfl, rfl⟩

theorem cobidStored_obj (s : State) (i : Nat) (v : Slot) : (cobidStored s i v).obj 0 (i * 256 + 1) = v := by
  rw [cobidStored]
  split_ifs
  · exact (startRpdoTimer_obj _ _ _ _).trans (State.obj_setObj_self s 0 _ v)
  · exact (startTpdoTimer_obj _ _ _ _).trans (State.obj_setObj_self s 0 _ v)

theorem pdoCobidWrite_answers (hp : Served s p) {i : Nat} (hi : i ∈ pdoIdxs) {v : Slot} (h : ownerOf p = s.steward ∨ p = 32)
    (hv : v.toNat < 2 ^ 32) (hm : bit v 31 = true ∨ s.mapOk i = true) : Answers (.pdoCobidWrite p i v) s fun t =>
      t.get (i * 256 + 1) = v ∧ t.can.nmt = s.can.nmt ∧ t.can.queue = s.can.queue ∧
      OnlyObjs [objKey 0 (i * 256 + 1)] { s with can := t.can } t := by
  obtain ⟨-, hlt, hs⟩ := pdoIdxs_facts hi
  obtain ⟨hnmt, hqueue⟩ := cobidStored_can s.turned i v
  refine answers_access (exec_pdoCobidWrite_of hi v) hp (pdoIdxs_missing hi) (pdoCobidWrite_ok (s := s.turned) i h hv hm)
    ⟨?_, ?_, (settle_queue _).trans hqueue, ?_⟩
  · exact (obj_settle_of _ 0 _ hlt hs).trans (cobidStored_obj s.turned i v)
  · exact (settle_bare Can.nmt (fun _ => rfl) _).trans hnmt
  · exact ((onlyObjs_turned (s := s) _).canOnly.trans (cobidStored_frame s.turned i v)).settled

theorem pdoCobidWrite_incompatible (hp : Served s p) {i : Nat} (hi : i ∈ pdoIdxs) {v : Slot}
    (h : ownerOf p = s.steward ∨ p = 32) (hv : v.toNat < 2 ^ 32) (hb : bit v 31 = false) (hm : s.mapOk i = false) :
    Answers (.pdoCobidWrite p i v) s fun t => Rejected s t p (i * 256 + 1) 2 .incompatible := by
  refine rejected_access (exec_pdoCobidWrite_of hi v) hp (pdoIdxs_missing hi) ?_
  have hmap : s.turned.mapOk i = false := hm
  rw [pdoCobidWrite, commOnly_pos (s := s.turned) h, need_pos _ (by simpa [ObjTy.fits] using hv) _ _, pdoCobid,
    need_neg (by simp [hb, hmap]) _ _]

theorem pdoCobidWrite_refused (hp : Served s p) {i : Nat} (hi : i ∈ pdoIdxs) (v : Slot)
    (h : ownerOf p ≠ s.steward) (h' : p ≠ 32) :
    Answers (.pdoCobidWrite p i v) s fun t => Rejected s t p (i * 256 + 1) 2 .noPermission :=
  rejected_access (exec_pdoCobidWrite_of hi v) hp (pdoIdxs_missing hi) (commOnly_neg (s := s.turned) h h' _)

end Sys2Proof.Machine
end

section
/-! ## TPDOs (R475, R477) -/

namespace Sys2Proof.Machine

variable {s t u : State} {ks : List Nat} {c k : Nat}

/-! ### Sampling -/

/-- What a TPDO's sampling may change: the wrap and the companions that path 32 notes. -/
def Sampled (s t : State) : Prop := PathFrame [objKey 32 O.TM_WRAP] s t ∧ t.can = s.can ∧ t.sent = s.sent ∧ t.dev = s.dev

theorem sampled_refl (s : State) : Sampled s s := ⟨pathFrame_refl _ s, rfl, rfl, rfl⟩

theorem Sampled.trans (h : Sampled s t) (h' : Sampled t u) : Sampled s u := by
  obtain ⟨hf, hc, hs, hd⟩ := h
  obtain ⟨hf', hc', hs', hd'⟩ := h'
  exact ⟨hf.trans hf', hc'.trans hc, hs'.trans hs, hd'.trans hd⟩

theorem sampled_noteWrap (s : State) (c i sub : Nat) : Sampled s (noteWrap s 32 c i sub) := by
  refine ⟨noteWrap_frame s 32 c i sub, ?_, ?_, ?_⟩
  all_goals
    unfold noteWrap
    split
    · split <;> rfl
    · rfl

theorem sampled_noteCompanion (s : State) (c i sub : Nat) : Sampled s (noteCompanion s 32 c i sub) := by
  refine ⟨(noteCompanion_frame s 32 c i sub).mono (by simp), ?_, ?_, ?_⟩
  all_goals
    unfold noteCompanion
    split
    · split <;> rfl
    · rfl

/-- An entry that names no data port. -/
def NoPort (e : Nat) : Prop := e / 2 ^ 16 % 2 ^ 16 * 256 + e / 256 % 256 ≠ O.DP_DATA ∧
  e / 2 ^ 16 % 2 ^ 16 * 256 + e / 256 % 256 ≠ O.CDP_DATA

theorem sampled_readValue {i sub : Nat} (hdp : i * 256 + sub ≠ O.DP_DATA) (hcdp : i * 256 + sub ≠ O.CDP_DATA) :
    Sampled s (readValue s 32 c i sub).1 := by
  simp only [readValue, hdp, hcdp, or_self, if_false]
  split
  · exact sampled_refl s
  · exact (sampled_noteWrap s c i sub).trans (sampled_noteCompanion _ c i sub)

theorem sampled_free (s : State) : Sampled s s.free.2 :=
  ⟨(onlyObjs_congr _ rfl rfl rfl).pathFrame rfl, rfl, rfl, rfl⟩

theorem sampled_entry (q : Packed) {e : Nat} (h : NoPort e) : Sampled s (sampleEntry c (s, q) e).1 := by
  have hread := sampled_readValue (s := s) (c := c) h.1 h.2
  rw [sampleEntry]
  dsimp only
  generalize readValue s 32 c (e / 2 ^ 16 % 2 ^ 16) (e / 256 % 256) = r at hread ⊢
  obtain ⟨u, v | v⟩ := r
  · exact hread.trans (sampled_free u)
  · exact hread

theorem sampled_entries (es : List Nat) (h : ∀ e ∈ es, NoPort e) (q : Packed) :
    Sampled s (es.foldl (sampleEntry c) (s, q)).1 := by
  induction es generalizing s q with
  | nil => exact sampled_refl s
  | cons e es ih =>
    have hhead := sampled_entry (s := s) (c := c) q (h e List.mem_cons_self)
    rw [List.foldl_cons]
    generalize sampleEntry c (s, q) e = r at hhead ⊢
    exact hhead.trans (ih (fun x hx => h x (List.mem_cons_of_mem e hx)) r.2)

theorem sampled_tpdo (h : ∀ e ∈ s.pdoEntries (0x1A00 + k), NoPort e) : Sampled s (sampleTpdo s k).1 :=
  sampled_entries _ h {}

theorem Sampled.sends (h : Sampled s t) (hs : s.Sends) : t.Sends := by
  obtain ⟨hf, hc, -, hd⟩ := h
  have hpower : t.power = s.power := (congrArg State.power hf.1 :)
  have hstart : t.starting = s.starting := (congrArg State.starting hf.1 :)
  have hub : t.hubRestart = s.hubRestart := (congrArg State.hubRestart hf.1 :)
  rw [State.Sends, State.canRuns, State.awake, hpower, hub, hc, hd, hstart]
  exact hs

/-! ### The frame of a TPDO -/

/-- A TPDO has left the port, and its inhibit time of `n` base periods runs. -/
def tpdoFreed (v : State) (k n : Nat) : State :=
  { v with can := { v.can with
      tpdoDue := v.can.tpdoDue.filter fun j => j != k
      tpdoHeld := kvDel v.can.tpdoHeld k
      tpdoFree := kvPut v.can.tpdoFree k (v.now + n) } }

theorem putTpdo_eq (s : State) (k : Nat) (bs : List Byte) : putTpdo s k bs =
    startTpdoTimer (tpdoFreed (canSend s (fld (s.get (O.TPDO_COBID + k * 256)) 0 11) bs) k
      (s.num (O.TPDO_INHIBIT + k * 256) * tenthTicks)) k := by
  have hn : (canSend s (fld (s.get (O.TPDO_COBID + k * 256)) 0 11) bs).num (O.TPDO_INHIBIT + k * 256) =
      s.num (O.TPDO_INHIBIT + k * 256) := congrArg BitVec.toNat (obj_canSend _ _ _ _ _)
  rw [putTpdo, ← hn]
  dsimp only [tpdoFreed]

theorem tpdoFreed_settled (v : State) (k n : Nat) :
    let t := settle (startTpdoTimer (tpdoFreed v k n) k)
    Sent v t ∧ kvGet t.can.tpdoFree k = some (t.now + n) ∧ CanOnly [] v t := by
  have hframe : CanOnly [] v (startTpdoTimer (tpdoFreed v k n) k) :=
    (canOnly_withCan [] v _).trans (canOnly_withCan [] _ _)
  have hfree : (startTpdoTimer (tpdoFreed v k n) k).can.tpdoFree = kvPut v.can.tpdoFree k (v.now + n) := rfl
  refine ⟨(sent_settle (s := startTpdoTimer (tpdoFreed v k n) k)).after rfl, ?_, hframe.settled⟩
  rw [settle_now, settle_bare Can.tpdoFree (fun _ => rfl), hfree, kvGet_kvPut_self]
  exact congrArg some (congrArg (· + n) (now_congr (s := v) rfl rfl).symm)

/-- A TPDO that is sent: its frame, its inhibit time, and what it leaves. -/
theorem putTpdo_settled (h : s.Sends) (k : Nat) (bs : List Byte) :
    let t := settle (putTpdo s k bs)
    .canFrame (fld (s.get (O.TPDO_COBID + k * 256)) 0 11) (padFd bs) ∈ t.sent ∧
      kvGet t.can.tpdoFree k = some (t.now + s.num (O.TPDO_INHIBIT + k * 256) * tenthTicks) ∧ CanOnly [] s t := by
  have hsent := canSend_sent h (fld (s.get (O.TPDO_COBID + k * 256)) 0 11) bs
  have hsend := canSend_frame (ks := []) s (fld (s.get (O.TPDO_COBID + k * 256)) 0 11) bs
  have heq := putTpdo_eq s k bs
  generalize s.num (O.TPDO_INHIBIT + k * 256) * tenthTicks = n at heq ⊢
  generalize canSend s (fld (s.get (O.TPDO_COBID + k * 256)) 0 11) bs = v at hsent hsend heq
  rw [heq]
  obtain ⟨hmem, hfree, hframe⟩ := tpdoFreed_settled v k n
  exact ⟨hmem.mem hsent, hfree, hsend.canOnly.trans hframe⟩

/-! ### TPDO_TRANSMIT -/

theorem pdoEntries_congr {i : Nat} (h : ∀ j, j < 16 → t.obj 0 (i * 256 + 1 + j) = s.obj 0 (i * 256 + 1 + j)) :
    t.pdoEntries i = s.pdoEntries i := by
  rw [State.pdoEntries, State.pdoEntries]
  refine congrArg _ (List.map_congr_left fun j hj => ?_)
  exact congrArg BitVec.toNat (h j (List.mem_range.mp hj))

theorem tpdoReady_facts (h : s.tpdoReady k = true) : k < 4 ∧ s.Sends := by
  simp only [State.tpdoReady, Bool.and_eq_true, decide_eq_true_eq] at h
  obtain ⟨⟨⟨⟨⟨hk, -⟩, hc⟩, hr⟩, -⟩, -⟩ := h
  exact ⟨hk, sends_of_serves hc (by simpa using hr)⟩

/-- What the transmission of a ready TPDO samples and sends, once device time has come. -/
theorem exec_tpdoTransmit_ready (h : s.tpdoReady k = true)
    (he : ∀ e ∈ s.pdoEntries (0x1A00 + k), NoPort e) : ∃ u bs, Sampled (s.runTo (s.tpdoFreeAt k)) u ∧
      exec (.tpdoTransmit k) s = done (putTpdo u k bs) := by
  rw [exec_tpdoTransmit, execTpdoTransmit, if_pos h]
  dsimp only
  rw [runTo_can]
  cases hheld : kvGet s.can.tpdoHeld k with
  | some bs => exact ⟨_, bs, sampled_refl _, rfl⟩
  | none =>
    have hentries : (s.runTo (s.tpdoFreeAt k)).pdoEntries (0x1A00 + k) = s.pdoEntries (0x1A00 + k) := by
      have hk := (tpdoReady_facts h).1
      refine pdoEntries_congr fun j hj => obj_runTo s _ 0 _ ?_ ?_
      · omega
      · simp only [O.TB_STATUS, ne_eq]
        omega
    exact ⟨_, _, sampled_tpdo (by rwa [hentries]), rfl⟩

/-- An object of TPDO `k` outlives device time and a sampling. -/
theorem Sampled.obj_of {n o : Nat} (h : Sampled (s.runTo n) u) (hlt : o < 2 ^ 24) (hs : o ∉ settleObjs) (ht : o ≠ O.TB_STATUS) :
    u.obj 0 o = s.obj 0 o := by
  refine (h.1.2 0 o ?_ (objKey_settle 0 o hlt hs)).trans (obj_runTo s n 0 o hlt ht)
  simp only [List.mem_singleton, objKey, O.TM_WRAP]
  omega

theorem tpdoKeys {k : Nat} (hk : k < 4) : ∀ o ∈ [O.TPDO_COBID + k * 256, O.TPDO_INHIBIT + k * 256, O.TPDO_TIMER + k * 256,
    O.TPDO_TYPE + k * 256], o < 2 ^ 24 ∧ o ∉ settleObjs ∧ o ≠ O.TB_STATUS := by
  interval_cases k <;> decide

theorem tpdoTransmit_answers (h : s.tpdoReady k = true) (he : ∀ e ∈ s.pdoEntries (0x1A00 + k), NoPort e) :
    Answers (.tpdoTransmit k) s fun t =>
      (∃ bs, .canFrame (fld (s.get (O.TPDO_COBID + k * 256)) 0 11) bs ∈ t.sent) ∧
      kvGet t.can.tpdoFree k = some (t.now + s.num (O.TPDO_INHIBIT + k * 256) * tenthTicks) ∧
      t.ctxs = s.ctxs ∧ t.mem = s.mem := by
  obtain ⟨hk, hsends⟩ := tpdoReady_facts h
  obtain ⟨u, bs, hu, hexec⟩ := exec_tpdoTransmit_ready h he
  have hkeys := tpdoKeys hk
  simp only [List.forall_mem_cons] at hkeys
  obtain ⟨⟨h1, h2, h3⟩, ⟨h4, h5, h6⟩, -⟩ := hkeys
  have hcob : u.get (O.TPDO_COBID + k * 256) = s.get (O.TPDO_COBID + k * 256) := hu.obj_of h1 h2 h3
  have hinh : u.num (O.TPDO_INHIBIT + k * 256) = s.num (O.TPDO_INHIBIT + k * 256) :=
    congrArg BitVec.toNat (hu.obj_of h4 h5 h6)
  obtain ⟨hsent, hfree, hframe⟩ := putTpdo_settled (hu.sends (runTo_sends hsends _)) k bs
  rw [hinh] at hfree
  rw [hcob] at hsent
  have hctxs : u.ctxs = s.ctxs := (congrArg State.ctxs hu.1.1 :).trans (runTo_ctxs s _)
  have hmem : u.mem = s.mem := (congrArg State.mem hu.1.1 :).trans (runTo_mem s _)
  exact answers_done hexec ⟨⟨_, hsent⟩, hfree, hframe.ctxs.trans hctxs, hframe.mem.trans hmem⟩

/-- A TPDO of one entry that reads carries its value. -/
theorem tpdoTransmit_single {e : Nat} {v : Slot} (h : s.tpdoReady k = true) (he : s.pdoEntries (0x1A00 + k) = [e])
    (hfree : s.tpdoFreeAt k ≤ s.now) (hcomp : (s.path 32).companions = []) (hp : NoPort e)
    (hheld : kvGet s.can.tpdoHeld k = none)
    (hv : s.readScalar 32 (s.num (O.TPDO_CONTEXT + k * 256)) (e / 2 ^ 16 % 2 ^ 16) (e / 256 % 256) = .ok v) :
    Answers (.tpdoTransmit k) s fun t => .canFrame (fld (s.get (O.TPDO_COBID + k * 256)) 0 11)
      (padFd (leBytes ((e % 256 + 7) / 8) (v.toNat % 2 ^ (e % 256)))) ∈ t.sent := by
  obtain ⟨hk, hsends⟩ := tpdoReady_facts h
  have hrun : s.runTo (s.tpdoFreeAt k) = s := if_pos hfree
  have hsample : ∃ u, Sampled s u ∧ sampleTpdo s k = (u, leBytes ((e % 256 + 7) / 8) (v.toNat % 2 ^ (e % 256))) := by
    refine ⟨noted s 32 (s.num (O.TPDO_CONTEXT + k * 256)) (e / 2 ^ 16 % 2 ^ 16) (e / 256 % 256),
      (sampled_noteWrap s _ _ _).trans (sampled_noteCompanion _ _ _ _), ?_⟩
    rw [sampleTpdo, he, List.foldl_cons, List.foldl_nil, sampleEntry]
    dsimp only
    rw [readValue_ok hp.1 hp.2 hcomp hv]
    dsimp only
    rw [Nat.zero_add, Nat.zero_add, Nat.pow_zero, Nat.mul_one]
  obtain ⟨u, hu, hsample⟩ := hsample
  have hexec : exec (.tpdoTransmit k) s = done (putTpdo u k (leBytes ((e % 256 + 7) / 8) (v.toNat % 2 ^ (e % 256)))) := by
    rw [exec_tpdoTransmit, execTpdoTransmit, if_pos h]
    dsimp only
    rw [runTo_can, hheld]
    dsimp only
    rw [hrun, sendTpdo, hsample]
  have hkeys := tpdoKeys hk
  simp only [List.forall_mem_cons] at hkeys
  obtain ⟨⟨h1, h2, h3⟩, -⟩ := hkeys
  have hcob : u.get (O.TPDO_COBID + k * 256) = s.get (O.TPDO_COBID + k * 256) :=
    Sampled.obj_of (n := s.tpdoFreeAt k) (by rwa [hrun]) h1 h2 h3
  have hsent := (putTpdo_settled (hu.sends hsends) k (leBytes ((e % 256 + 7) / 8) (v.toNat % 2 ^ (e % 256)))).1
  rw [hcob] at hsent
  exact answers_done hexec hsent

/-! ### TPDO_EVENT_TIMER

The routed pulses at the end of a command make TPDOs due and none that was due not. -/

/-- The TPDOs due in `s` are due in `t`. -/
def DueKept (s t : State) : Prop := ∀ j ∈ s.can.tpdoDue, j ∈ t.can.tpdoDue

theorem dueKept_refl (s : State) : DueKept s s := fun _ hj => hj

theorem DueKept.trans (h : DueKept s t) (h' : DueKept t u) : DueKept s u := fun j hj => h' j (h j hj)

theorem dueKept_congr (h : t.can = s.can) : DueKept s t := by
  rw [DueKept, h]
  exact fun _ hj => hj

theorem DueKept.after (h' : DueKept t u) (h : t.can = s.can) : DueKept s u := by
  rw [DueKept, ← h]
  exact h'

theorem dueKept_flagPulse (s : State) (f : Nat) : DueKept s (flagPulse s f) := fun _ hj => List.mem_append_left _ hj

theorem dueKept_msix (s : State) (l v : Nat) : DueKept s (msix s l v) := by
  unfold msix
  dsimp only
  split_ifs
  all_goals exact dueKept_congr rfl

theorem dueKept_deliver (s : State) (d : Slot) (e : Option Nat) : DueKept s (deliver s d e) := by
  unfold deliver
  split
  · exact dueKept_msix s _ _
  · split <;> exact dueKept_congr rfl
  · split <;> exact dueKept_congr rfl
  · exact dueKept_flagPulse s _
  · exact dueKept_refl s

theorem dueKept_routePulse (s : State) (w : Slot) (e : Option Nat) (cyc r : Nat) : DueKept s (routePulse w e cyc s r) := by
  unfold routePulse
  split
  · dsimp only
    split
    · split
      · split
        · exact dueKept_congr rfl
        · exact (dueKept_deliver _ _ _).after rfl
      · exact (dueKept_deliver _ _ _).after rfl
    · exact dueKept_refl s
  · exact dueKept_refl s

theorem dueKept_routes (l : List Nat) (w : Slot) (e : Option Nat) (cyc : Nat) (s : State) :
    DueKept s (l.foldl (routePulse w e cyc) s) := by
  induction l generalizing s with
  | nil => exact dueKept_refl s
  | cons x l ih => exact (dueKept_routePulse s w e cyc x).trans (ih _)

theorem dueKept_pulse (s : State) (a b c : Nat) : DueKept s (pulse s a b c) := by
  unfold pulse pulseAt pulseIn
  dsimp only
  split
  · exact dueKept_refl s
  · exact (dueKept_routes _ _ _ _ _).after rfl

theorem dueKept_enterDev (s : State) (d : DevSt) : DueKept s (enterDev s d) := by
  unfold enterDev
  split
  · exact dueKept_refl s
  · exact (dueKept_pulse _ _ _ _).after (by simp only [State.put_eq, State.setObj_can])

theorem dueKept_settle (s : State) : DueKept s (settle s) := by
  have hsteward : DueKept s (settleSteward s) := by
    unfold settleSteward
    split
    · exact dueKept_refl s
    · exact (dueKept_pulse _ _ _ _).after (by simp only [State.put_eq, State.putTm_eq, State.setObj_can])
  refine hsteward.trans ?_
  unfold settle settleDev
  split
  · exact dueKept_enterDev _ _
  · exact dueKept_refl _


theorem mem_dueTpdo (s : State) (k : Nat) : k ∈ (dueTpdo s k).can.tpdoDue ∧ ∀ j ∈ s.can.tpdoDue, j ∈ (dueTpdo s k).can.tpdoDue := by
  rw [dueTpdo]
  split_ifs with h
  · exact ⟨by simpa using h, fun j hj => hj⟩
  · exact ⟨by simp, fun j hj => List.mem_append_left _ hj⟩

theorem dueTpdo_canOnly (s : State) (k : Nat) : CanOnly [] s (dueTpdo s k) := by
  rw [dueTpdo]
  split_ifs
  · exact canOnly_refl _ _
  · exact canOnly_withCan _ _ _

/-- TPDO `k`'s event timer runs for `n` base periods, or not. -/
def tpdoTimed (v : State) (k n : Nat) (on : Bool) : State :=
  { v with can := { v.can with
      tpdoTimer := if on then kvPut v.can.tpdoTimer k (v.now + n) else kvDel v.can.tpdoTimer k } }

theorem startTpdoTimer_eq (s : State) (k : Nat) : startTpdoTimer s k =
    tpdoTimed s k (s.num (O.TPDO_TIMER + k * 256) * msTicks) (decide (s.num (O.TPDO_TIMER + k * 256) ≠ 0)) := by
  rw [startTpdoTimer, tpdoTimed]
  dsimp only
  by_cases h : s.num (O.TPDO_TIMER + k * 256) = 0
  · rw [if_pos h, if_neg (decide_eq_true_iff.not.mpr (not_not_intro h))]
  · rw [if_neg h, if_pos (decide_eq_true h)]

theorem tpdoTimed_settled (v : State) (k n : Nat) (on : Bool) :
    let t := settle (tpdoTimed v k n on)
    CanOnly [] v t ∧ (on = true → kvGet t.can.tpdoTimer k = some (t.now + n)) ∧
      ∀ j ∈ v.can.tpdoDue, j ∈ t.can.tpdoDue := by
  refine ⟨(canOnly_withCan [] v _).settled, fun hon => ?_, fun j hj => ?_⟩
  · have htimer : (tpdoTimed v k n on).can.tpdoTimer = kvPut v.can.tpdoTimer k (v.now + n) := if_pos hon
    rw [settle_now, settle_bare Can.tpdoTimer (fun _ => rfl), htimer, kvGet_kvPut_self]
    exact congrArg some (congrArg (· + n) (now_congr (s := v) rfl rfl).symm)
  · exact (dueKept_settle (tpdoTimed v k n on)) j hj


theorem tpdoEventTimer_answers {a : Nat} (ht : kvGet s.can.tpdoTimer k = some a) (hk : k < 4) (hv : s.tpdoValid k = true)
    (hc : s.canServes = true) (hty : 254 ≤ s.tpdoType k) : Answers (.tpdoEventTimer k) s fun t =>
      k ∈ t.can.tpdoDue ∧ (∀ j ∈ s.can.tpdoDue, j ∈ t.can.tpdoDue) ∧
      (s.num (O.TPDO_TIMER + k * 256) ≠ 0 →
        kvGet t.can.tpdoTimer k = some (t.now + s.num (O.TPDO_TIMER + k * 256) * msTicks)) ∧
      t.ctxs = s.ctxs ∧ t.mem = s.mem := by
  have hexec : exec (.tpdoEventTimer k) s = done (startTpdoTimer (dueTpdo (s.runTo a) k) k) := by
    rw [exec_tpdoEventTimer, execTpdoEventTimer, ht]
    dsimp only
    rw [if_pos ⟨hk, hv, hc, hty⟩]
  obtain ⟨hdue, hkept⟩ := mem_dueTpdo (s.runTo a) k
  have hframe := dueTpdo_canOnly (s.runTo a) k
  have hkeys := tpdoKeys hk
  simp only [List.forall_mem_cons] at hkeys
  obtain ⟨-, -, ⟨h1, h2, h3⟩, -⟩ := hkeys
  have hobj : (dueTpdo (s.runTo a) k).num (O.TPDO_TIMER + k * 256) = s.num (O.TPDO_TIMER + k * 256) :=
    congrArg BitVec.toNat ((hframe.obj_of 0 h1 h2 (by simp)).trans (obj_runTo s a 0 _ h1 h3))
  have hctxs : (dueTpdo (s.runTo a) k).ctxs = s.ctxs := hframe.ctxs.trans (runTo_ctxs s a)
  have hmem : (dueTpdo (s.runTo a) k).mem = s.mem := hframe.mem.trans (runTo_mem s a)
  rw [runTo_can] at hkept
  rw [startTpdoTimer_eq, hobj] at hexec
  generalize dueTpdo (s.runTo a) k = v at hexec hdue hkept hctxs hmem
  generalize hon : decide (s.num (O.TPDO_TIMER + k * 256) ≠ 0) = on at hexec
  generalize s.num (O.TPDO_TIMER + k * 256) * msTicks = n at hexec ⊢
  obtain ⟨hv', htimer, hdue'⟩ := tpdoTimed_settled v k n on
  exact answers_done hexec ⟨hdue' k hdue, fun j hj => hdue' j (hkept j hj), fun hne => htimer (hon ▸ decide_eq_true hne),
    hv'.ctxs.trans hctxs, hv'.mem.trans hmem⟩

end Sys2Proof.Machine
end

section
/-! ## RPDOs (R478) -/

namespace Sys2Proof.Machine

variable {s t u : State} {k cob : Nat} {data : List Byte}

/-- Whether RPDO `j` is valid and is that of COB-ID `cob`. -/
def rpdoMine (s : State) (cob j : Nat) : Bool := s.rpdoValid j && fld (s.get (O.RPDO_COBID + j * 256)) 0 11 == cob

theorem exec_rpdoReceive_eq (s : State) (cob : Nat) (data : List Byte) : exec (.rpdoReceive cob data) s =
    done (((List.range 4).filter (rpdoMine s cob)).foldl (receiveRpdo data) s) := by
  rw [exec_rpdoReceive]
  rfl

theorem rpdoMine_single (hk : k < 4) (h : ∀ j, j < 4 → (j = k ↔ (s.rpdoValid j = true ∧
    fld (s.get (O.RPDO_COBID + j * 256)) 0 11 = cob))) : (List.range 4).filter (rpdoMine s cob) = [k] := by
  have hmine : ∀ j ∈ List.range 4, rpdoMine s cob j = (j == k) := by
    intro j hj
    rw [rpdoMine, Bool.eq_iff_iff, Bool.and_eq_true, beq_iff_eq, beq_iff_eq]
    exact (h j (List.mem_range.mp hj)).symm
  rw [List.filter_congr hmine]
  interval_cases k <;> rfl

theorem rpdoMine_none (h : ∀ j, j < 4 → s.rpdoValid j = false ∨ fld (s.get (O.RPDO_COBID + j * 256)) 0 11 ≠ cob) :
    (List.range 4).filter (rpdoMine s cob) = [] := by
  rw [List.filter_eq_nil_iff]
  intro j hj
  rw [rpdoMine, Bool.and_eq_true, beq_iff_eq]
  rintro ⟨hv, hc⟩
  rcases h j (List.mem_range.mp hj) with h | h
  · rw [h] at hv
    exact absurd hv Bool.false_ne_true
  · exact h hc

/-- The conditions of an RPDO are none of the port's own. -/
theorem rpdoEnd_none (h : ∀ c ∈ s.can.active, c < 65536) (code k : Nat) : rpdoEnd s code k = s := by
  refine if_neg fun hc => ?_
  have := h _ (by simpa using hc)
  unfold rpdoCondition at this
  omega

/-- The bits that the mapping of RPDO `k` takes. -/
def rpdoBits (s : State) (k : Nat) : Nat := ((s.pdoEntries (0x1600 + k)).map (· % 256)).foldl (· + ·) 0

theorem startRpdoTimer_entries (s : State) (j i : Nat) : (startRpdoTimer s j).pdoEntries i = s.pdoEntries i :=
  pdoEntries_congr fun _ _ => startRpdoTimer_obj _ _ _ _

theorem startRpdoTimer_canOnly (s : State) (k : Nat) : CanOnly [] s (startRpdoTimer s k) := canOnly_withCan _ _ _

/-- The payload waits for the next SYNC. -/
def rpdoHeldIn (s : State) (k : Nat) (data : List Byte) : State :=
  { s with can := { s.can with rpdoHeld := kvPut s.can.rpdoHeld k data } }

/-- What a payload does to a valid RPDO that no condition concerns. -/
theorem receiveRpdo_eq (h : ∀ c ∈ s.can.active, c < 65536) (k : Nat) (data : List Byte) : receiveRpdo data s k =
    if data.length < (rpdoBits s k + 7) / 8 then rpdoFault ((startRpdoTimer s k).flag 0 O.FB_STATUS 0) 0x8210 k
    else if 254 ≤ s.num (O.RPDO_TYPE + k * 256) then writeRpdo (startRpdoTimer s k) k data
    else rpdoHeldIn (startRpdoTimer s k) k data := by
  have hactive : ∀ c ∈ (startRpdoTimer s k).can.active, c < 65536 := h
  have hty : (startRpdoTimer s k).num (O.RPDO_TYPE + k * 256) = s.num (O.RPDO_TYPE + k * 256) :=
    congrArg BitVec.toNat (startRpdoTimer_obj _ _ _ _)
  rw [receiveRpdo]
  dsimp only
  rw [rpdoEnd_none hactive, rpdoEnd_none hactive, startRpdoTimer_entries, hty, rpdoBits, rpdoHeldIn]

theorem rpdoFault_canOnly (s : State) (code k : Nat) : CanOnly [] s (rpdoFault s code k) := canOnly_withCan _ _ _

theorem rpdoFault_can (s : State) (code k : Nat) : rpdoCondition code k ∈ (rpdoFault s code k).can.active ∧
    (rpdoFault s code k).can.rpdoTimer = s.can.rpdoTimer ∧ (rpdoFault s code k).can.nmt = s.can.nmt ∧
    (rpdoFault s code k).can.rpdoHeld = s.can.rpdoHeld :=
  ⟨List.mem_cons_self, rfl, rfl, rfl⟩

theorem rpdoFault_waits (s : State) (code k : Nat) : Waits code (k + 1) (rpdoFault s code k) :=
  ⟨_, emcy_queued s code 0xFF 0xFF (k + 1), rfl, rfl⟩

section
variable (hk : k < 4) (h : ∀ j, j < 4 → (j = k ↔ (s.rpdoValid j = true ∧ fld (s.get (O.RPDO_COBID + j * 256)) 0 11 = cob)))
  (ha : ∀ c ∈ s.can.active, c < 65536)
include hk h ha

theorem exec_rpdoReceive_one : exec (.rpdoReceive cob data) s = done (
    if data.length < (rpdoBits s k + 7) / 8 then rpdoFault ((startRpdoTimer s k).flag 0 O.FB_STATUS 0) 0x8210 k
    else if 254 ≤ s.num (O.RPDO_TYPE + k * 256) then writeRpdo (startRpdoTimer s k) k data
    else rpdoHeldIn (startRpdoTimer s k) k data) := by
  rw [exec_rpdoReceive_eq, rpdoMine_single hk h, List.foldl_cons, List.foldl_nil, receiveRpdo_eq ha]

theorem rpdoReceive_held (hlen : (rpdoBits s k + 7) / 8 ≤ data.length) (hty : s.num (O.RPDO_TYPE + k * 256) < 254) :
    Answers (.rpdoReceive cob data) s fun t =>
      kvGet t.can.rpdoHeld k = some data ∧ t.can.queue = s.can.queue ∧ OnlyObjs [] { s with can := t.can } t := by
  refine answers_done ((exec_rpdoReceive_one hk h ha).trans (by rw [if_neg (Nat.not_lt.mpr hlen), if_neg (Nat.not_le.mpr hty)])) ⟨?_, ?_, ?_⟩
  · rw [settle_bare Can.rpdoHeld (fun _ => rfl)]
    exact kvGet_kvPut_self _ _ _
  · rw [settle_queue]
    rfl
  · exact ((startRpdoTimer_canOnly s k).trans (canOnly_withCan _ _ _)).settled

theorem rpdoReceive_short (hlen : data.length < (rpdoBits s k + 7) / 8) : Answers (.rpdoReceive cob data) s fun t =>
    bit (t.get O.FB_STATUS) 0 = true ∧ Waits 0x8210 (k + 1) t ∧ t.can.rpdoHeld = s.can.rpdoHeld ∧
    OnlyObjs [objKey 0 O.FB_STATUS] { s with can := t.can } t := by
  have hexec := (exec_rpdoReceive_one (data := data) hk h ha).trans (by rw [if_pos hlen])
  have hset : bit (((startRpdoTimer s k).flag 0 O.FB_STATUS 0).obj 0 O.FB_STATUS) 0 = true := bit_obj_flagged (by decide)
  have hstart : CanOnly [objKey 0 O.FB_STATUS] s ((startRpdoTimer s k).flag 0 O.FB_STATUS 0) :=
    ((startRpdoTimer_canOnly s k).mono (by simp)).put List.mem_cons_self _
  have hheld : ((startRpdoTimer s k).flag 0 O.FB_STATUS 0).can.rpdoHeld = s.can.rpdoHeld := by
    rw [State.flag_eq, State.setObj_can, startRpdoTimer]
  generalize (startRpdoTimer s k).flag 0 O.FB_STATUS 0 = w at hexec hset hstart hheld
  have hframe := rpdoFault_canOnly w 0x8210 k
  obtain ⟨-, -, -, hkept⟩ := rpdoFault_can w 0x8210 k
  refine answers_done hexec ⟨?_, (rpdoFault_waits w 0x8210 k).settled, ?_, (hstart.trans (hframe.mono (by simp))).settled⟩
  · have hget : (settle (rpdoFault w 0x8210 k)).get O.FB_STATUS = w.obj 0 O.FB_STATUS :=
      hframe.settled.obj_of 0 (by decide) (by decide) (by simp)
    rw [hget, hset]
  · rw [settle_bare Can.rpdoHeld (fun _ => rfl), hkept, hheld]

end

/-! ### Dummies -/

theorem writeEntry_dummy (c : Nat) (q : Packed) {e : Nat} (h : isDummy e = true) : (writeEntry c (s, q) e).1 = s := by
  simp only [writeEntry, h, if_true]

theorem writeRpdo_dummies (k : Nat) (data : List Byte) (h : ∀ e ∈ s.pdoEntries (0x1600 + k), isDummy e = true) :
    writeRpdo s k data = s := by
  have hfold : ∀ (c : Nat) (es : List Nat) (q : Packed), (∀ e ∈ es, isDummy e = true) →
      (es.foldl (writeEntry c) (s, q)).1 = s := by
    intro c es
    induction es with
    | nil => exact fun q _ => rfl
    | cons e es ih =>
      intro q hes
      have hhead := writeEntry_dummy (s := s) c q (hes e List.mem_cons_self)
      rw [List.foldl_cons]
      generalize writeEntry c (s, q) e = r at hhead ⊢
      obtain ⟨u, q'⟩ := r
      obtain rfl : u = s := hhead
      exact ih q' fun x hx => hes x (List.mem_cons_of_mem e hx)
  exact hfold _ _ _ h

theorem rpdoReceive_dummies (hk : k < 4)
    (h : ∀ j, j < 4 → (j = k ↔ (s.rpdoValid j = true ∧ fld (s.get (O.RPDO_COBID + j * 256)) 0 11 = cob)))
    (ha : ∀ c ∈ s.can.active, c < 65536) (hlen : (rpdoBits s k + 7) / 8 ≤ data.length)
    (hty : 254 ≤ s.num (O.RPDO_TYPE + k * 256)) (hd : ∀ e ∈ s.pdoEntries (0x1600 + k), isDummy e = true) :
    Answers (.rpdoReceive cob data) s fun t =>
      t.can.rpdoHeld = s.can.rpdoHeld ∧ t.can.queue = s.can.queue ∧ OnlyObjs [] { s with can := t.can } t := by
  have hwrite : writeRpdo (startRpdoTimer s k) k data = startRpdoTimer s k :=
    writeRpdo_dummies k data (by rwa [startRpdoTimer_entries])
  refine answers_done ((exec_rpdoReceive_one hk h ha).trans (by rw [if_neg (Nat.not_lt.mpr hlen), if_pos hty, hwrite])) ⟨?_, ?_, ?_⟩
  · rw [settle_bare Can.rpdoHeld (fun _ => rfl)]
    rfl
  · rw [settle_queue]
    rfl
  · exact (startRpdoTimer_canOnly s k).settled

theorem rpdoReceive_other (h : ∀ j, j < 4 → s.rpdoValid j = false ∨ fld (s.get (O.RPDO_COBID + j * 256)) 0 11 ≠ cob) :
    Answers (.rpdoReceive cob data) s fun t => OnlyObjs [] s t := by
  refine answers_idle ((exec_rpdoReceive_eq s cob data).trans ?_)
  rw [rpdoMine_none h, List.foldl_nil]

/-! ### RPDO_TIMEOUT -/

/-- The time-out of RPDO `k` has run off. -/
def rpdoTimedOut (s : State) (k : Nat) : State := { s with can := { s.can with rpdoTimer := kvDel s.can.rpdoTimer k } }

theorem exec_rpdoTimeout_due {a : Nat} (ht : kvGet s.can.rpdoTimer k = some a) (hk : k < 4) (hv : s.rpdoValid k = true) :
    exec (.rpdoTimeout k) s = done (applyErrComm (rpdoFault (rpdoTimedOut (s.runTo a) k) 0x8250 k)) := by
  rw [exec_rpdoTimeout, execRpdoTimeout, ht]
  dsimp only
  rw [if_pos ⟨hk, hv⟩, rpdoTimedOut]

theorem rpdoTimeout_answers {a : Nat} (ht : kvGet s.can.rpdoTimer k = some a) (hk : k < 4) (hv : s.rpdoValid k = true) :
    Answers (.rpdoTimeout k) s fun t =>
      rpdoCondition 0x8250 k ∈ t.can.active ∧ kvGet t.can.rpdoTimer k = none ∧ Waits 0x8250 (k + 1) t ∧
      (s.num O.ERR_COMM = 0 → t.can.nmt = .preOperational) ∧ (s.num O.ERR_COMM = 1 → t.can.nmt = .operational) ∧
      (s.num O.ERR_COMM = 2 → t.can.nmt = .stopped) ∧ t.ctxs = s.ctxs ∧ t.mem = s.mem := by
  have hop : s.can.nmt = .operational := by
    simp only [State.rpdoValid, Bool.and_eq_true, beq_iff_eq] at hv
    exact hv.1.1.1
  have hout : CanOnly [] (s.runTo a) (rpdoTimedOut (s.runTo a) k) := canOnly_withCan _ _ _
  have hframe := hout.trans (rpdoFault_canOnly (rpdoTimedOut (s.runTo a) k) 0x8250 k)
  obtain ⟨hactive, htimer, hnmt, -⟩ := rpdoFault_can (rpdoTimedOut (s.runTo a) k) 0x8250 k
  have hwaits := rpdoFault_waits (rpdoTimedOut (s.runTo a) k) 0x8250 k
  have hgone : kvGet (rpdoTimedOut (s.runTo a) k).can.rpdoTimer k = none := (kvGet_kvDel _ _ _).trans (if_pos rfl)
  have hnmt' : (rpdoTimedOut (s.runTo a) k).can.nmt = s.can.nmt := (congrArg Can.nmt (runTo_can s a) :)
  refine answers_done (exec_rpdoTimeout_due ht hk hv) ?_
  generalize rpdoFault (rpdoTimedOut (s.runTo a) k) 0x8250 k = w at hframe hactive htimer hnmt hwaits
  obtain ⟨hq, hact, -, -, htim, hst, hctxs, hmem⟩ := errComm_settled w
  have herr : w.num O.ERR_COMM = s.num O.ERR_COMM :=
    congrArg BitVec.toNat ((hframe.obj_of 0 (by decide) (by decide) (by simp)).trans (obj_runTo s a 0 _ (by decide) (by decide)))
  have hw : w.can.nmt = .operational := hnmt.trans (hnmt'.trans hop)
  have hst' := hst (Or.inr (Or.inl hw))
  rw [herr, hw] at hst'
  refine ⟨by rwa [hact], by rwa [htim, htimer], waits_of_queue hwaits hq, fun h => ?_, fun h => ?_, fun h => ?_,
    hctxs.trans (hframe.ctxs.trans (runTo_ctxs s a)), hmem.trans (hframe.mem.trans (runTo_mem s a))⟩
  · rw [hst', h, errNmt_zero]
  · rw [hst', h, errNmt_one]
  · rw [hst', h, errNmt_two]

end Sys2Proof.Machine
end

section
/-! ## SYNC (R470, R477) and the statement of process data -/

namespace Sys2Proof.Machine

variable {s t u : State} {k : Nat} {counter : Option Nat}

/-- A SYNC is stamped and counted. -/
def synced (s : State) : State :=
  ((s.put O.SYNC_TM (tmOf s.now)).put O.SYNC_WRAP (ofN s.wraps.toNat)).countWrap 0 O.SYNC_COUNT 32

/-- The keys that a SYNC writes. -/
def syncKeys : List Nat := [objKey 0 O.SYNC_TM, objKey 0 O.SYNC_WRAP, objKey 0 O.SYNC_COUNT]

theorem synced_frame (s : State) : OnlyObjs syncKeys s (synced s) :=
  (((onlyObjs_refl s syncKeys).put (j := 0) (by simp [syncKeys]) _).put (j := 0) (k := O.SYNC_WRAP) (by simp [syncKeys]) _).put (j := 0)
    (k := O.SYNC_COUNT) (by simp [syncKeys]) _

theorem synced_same (s : State) : (synced s).can = s.can ∧ (synced s).sent = s.sent ∧ (synced s).dev = s.dev ∧
    (synced s).counter = s.counter ∧ (synced s).wraps = s.wraps := by
  simp only [synced, State.countWrap_eq, State.put_eq, State.setObj_can, State.setObj_sent, State.setObj_dev,
    State.setObj_counter, State.setObj_wraps, and_self]

theorem synced_tm (s : State) : (synced s).obj 0 O.SYNC_TM = tmOf s.now :=
  (State.obj_setObj_ne _ _ _ _ _ _ (by decide)).trans
    ((State.obj_setObj_ne _ _ _ _ _ _ (by decide)).trans (State.obj_setObj_self _ _ _ _))

theorem synced_wrap (s : State) : (synced s).obj 0 O.SYNC_WRAP = ofN s.wraps.toNat :=
  (State.obj_setObj_ne _ _ _ _ _ _ (by decide)).trans (State.obj_setObj_self _ _ _ _)

theorem synced_count (s : State) : ((synced s).obj 0 O.SYNC_COUNT).toNat = (s.num O.SYNC_COUNT + 1) % 2 ^ 32 := by
  have hold : ((s.put O.SYNC_TM (tmOf s.now)).put O.SYNC_WRAP (ofN s.wraps.toNat)).obj 0 O.SYNC_COUNT = s.obj 0 O.SYNC_COUNT :=
    (State.obj_setObj_ne _ _ _ _ _ _ (by decide)).trans (State.obj_setObj_ne _ _ _ _ _ _ (by decide))
  rw [synced, State.countWrap_eq, State.obj_setObj_self, hold, ofN_toNat _ (lt_trans (Nat.mod_lt _ (Nat.two_pow_pos 32))
    (Nat.pow_lt_pow_right (n := 64) Nat.one_lt_two (by decide)))]
  rfl

/-- The objects of TPDO `j` outlive a SYNC. -/
theorem synced_tpdo {j : Nat} (hj : j < 4) : ∀ o ∈ [O.TPDO_COBID, O.TPDO_TYPE, O.TPDO_INHIBIT, O.SYNC_START],
    (synced s).obj 0 (o + j * 256) = s.obj 0 (o + j * 256) := by
  have hkeys : ∀ o ∈ [O.TPDO_COBID, O.TPDO_TYPE, O.TPDO_INHIBIT, O.SYNC_START], objKey 0 (o + j * 256) ∉ syncKeys ∧
      o + j * 256 < 2 ^ 24 ∧ o + j * 256 ∉ settleObjs := by
    interval_cases j <;> decide
  intro o ho
  obtain ⟨hn, hlt, hs⟩ := hkeys o ho
  exact (synced_frame s).2 0 _ hn (objKey_settle 0 _ hlt hs)

theorem synced_entries (hk : k < 4) : (synced s).pdoEntries (0x1A00 + k) = s.pdoEntries (0x1A00 + k) := by
  refine pdoEntries_congr fun j hj => (synced_frame s).2 0 _ ?_ (objKey_settle 0 _ (by omega) ?_)
  · simp only [syncKeys, List.mem_cons, List.not_mem_nil, or_false, objKey, O.SYNC_TM, O.SYNC_WRAP, O.SYNC_COUNT]
    omega
  · simp only [settleObjs, List.mem_cons, List.not_mem_nil, or_false, O.STEWARD_ACTIVE, O.STEWARD_TM, O.DEVICE_STATE_TM,
      O.DEVICE_STATE_WRAP, O.CXL_STATUS, O.FB_FLAGS]
    omega

theorem synced_syncCount (hk : k < 4) : (synced s).syncCount k counter = s.syncCount k counter := by
  have hstart : (synced s).num (O.SYNC_START + k * 256) = s.num (O.SYNC_START + k * 256) :=
    congrArg BitVec.toNat (synced_tpdo hk _ (by simp))
  rw [State.syncCount, State.syncCount, (synced_same s).1, hstart]

/-! ### The TPDOs that a SYNC concerns -/

theorem foldl_range_none {f : State → Nat → State} (h : ∀ j, j < 4 → f s j = s) : (List.range 4).foldl f s = s := by
  have hr : List.range 4 = [0, 1, 2, 3] := rfl
  simp only [hr, List.foldl_cons, List.foldl_nil, h 0 (by decide), h 1 (by decide), h 2 (by decide), h 3 (by decide)]

/-- Of four steps all but `k` leave the state as it is, before and after that one. -/
theorem foldl_range_only {f : State → Nat → State} (hk : k < 4) (h : ∀ j, j < 4 → j ≠ k → f s j = s)
    (h' : ∀ j, j < 4 → j ≠ k → f (f s k) j = f s k) : (List.range 4).foldl f s = f s k := by
  have hr : List.range 4 = [0, 1, 2, 3] := rfl
  rw [hr]
  interval_cases k
  · simp only [List.foldl_cons, List.foldl_nil, h' 1 (by decide) (by decide), h' 2 (by decide) (by decide), h' 3 (by decide) (by decide)]
  · simp only [List.foldl_cons, List.foldl_nil, h 0 (by decide) (by decide), h' 2 (by decide) (by decide), h' 3 (by decide) (by decide)]
  · simp only [List.foldl_cons, List.foldl_nil, h 0 (by decide) (by decide), h 1 (by decide) (by decide), h' 3 (by decide) (by decide)]
  · simp only [List.foldl_cons, List.foldl_nil, h 0 (by decide) (by decide), h 1 (by decide) (by decide), h 2 (by decide) (by decide)]

/-- TPDO `j` is none that a SYNC concerns. -/
def SyncIdle (s : State) (j : Nat) : Prop := s.tpdoValid j = false ∨ 240 < s.tpdoType j

theorem syncTpdo_idle {j : Nat} (h : SyncIdle s j) : syncTpdo counter s j = s := if_pos h

theorem tpdoValid_congr {j : Nat} (hn : t.can.nmt = s.can.nmt) (hb : t.can.busOff = s.can.busOff)
    (ho : t.obj 0 (O.TPDO_COBID + j * 256) = s.obj 0 (O.TPDO_COBID + j * 256)) : t.tpdoValid j = s.tpdoValid j := by
  rw [State.tpdoValid, State.tpdoValid, hn, hb, State.get_eq, State.get_eq, ho]

/-- What decides on TPDO `j` stays as it is. -/
theorem SyncIdle.of_congr {j : Nat} (h : SyncIdle s j) (hn : t.can.nmt = s.can.nmt) (hb : t.can.busOff = s.can.busOff)
    (hc : t.obj 0 (O.TPDO_COBID + j * 256) = s.obj 0 (O.TPDO_COBID + j * 256))
    (hy : t.obj 0 (O.TPDO_TYPE + j * 256) = s.obj 0 (O.TPDO_TYPE + j * 256)) : SyncIdle t j := by
  rw [SyncIdle, tpdoValid_congr hn hb hc]
  exact h.imp id fun hty => hty.trans_eq (congrArg BitVec.toNat hy).symm

/-- TPDO `k` has counted `m` SYNCs. -/
def syncCounted (s : State) (k m : Nat) : State := { s with can := { s.can with tpdoSync := kvPut s.can.tpdoSync k m } }

theorem syncTpdo_counts (hv : s.tpdoValid k = true) (h1 : 1 ≤ s.syncCount k counter) (hlt : s.syncCount k counter < s.tpdoType k)
    (hty : s.tpdoType k ≤ 240) : syncTpdo counter s k = syncCounted s k (s.syncCount k counter) := by
  have hbusy : ¬ (s.tpdoValid k = false ∨ 240 < s.tpdoType k) := by
    rw [hv]
    simpa using hty
  rw [syncTpdo]
  dsimp only
  rw [if_neg hbusy, if_neg (by omega), if_neg (by omega), if_neg (by omega), syncCounted]

theorem syncTpdo_sends (hv : s.tpdoValid k = true) (h1 : 1 ≤ s.tpdoType k) (hle : s.tpdoType k ≤ s.syncCount k counter)
    (hty : s.tpdoType k ≤ 240) (hfree : s.tpdoFreeAt k ≤ s.now) (he : s.pdoEntries (0x1A00 + k) = []) :
    syncTpdo counter s k = putTpdo (syncCounted s k 0) k [] := by
  have hbusy : ¬ (s.tpdoValid k = false ∨ 240 < s.tpdoType k) := by
    rw [hv]
    simpa using hty
  have hentries : (syncCounted s k 0).pdoEntries (0x1A00 + k) = [] := (pdoEntries_congr fun _ _ => rfl).trans he
  have hsample : sampleTpdo (syncCounted s k 0) k = (syncCounted s k 0, []) := by
    rw [sampleTpdo, hentries]
    rfl
  rw [syncTpdo]
  dsimp only
  rw [if_neg hbusy, if_neg (by omega), if_neg (by omega), if_pos hle, ← syncCounted, syncSend, hsample]
  dsimp only
  rw [if_neg]
  exact Nat.not_lt.mpr hfree

theorem syncCounted_same (v : State) (k m : Nat) : (syncCounted v k m).can.nmt = v.can.nmt ∧
    (syncCounted v k m).can.busOff = v.can.busOff ∧ (syncCounted v k m).can.rpdoHeld = v.can.rpdoHeld ∧
    ∀ o, (syncCounted v k m).obj 0 o = v.obj 0 o := ⟨rfl, rfl, rfl, fun _ => rfl⟩

theorem putTpdo_same (v : State) (k : Nat) (bs : List Byte) : (putTpdo v k bs).can.nmt = v.can.nmt ∧
    (putTpdo v k bs).can.busOff = v.can.busOff ∧ (putTpdo v k bs).can.rpdoHeld = v.can.rpdoHeld ∧
    (putTpdo v k bs).can.tpdoSync = v.can.tpdoSync ∧ ∀ o, (putTpdo v k bs).obj 0 o = v.obj 0 o := by
  have hcan := canSend_can v (fld (v.get (O.TPDO_COBID + k * 256)) 0 11) bs
  have hobj := fun o => obj_canSend v (fld (v.get (O.TPDO_COBID + k * 256)) 0 11) bs 0 o
  rw [putTpdo_eq]
  generalize canSend v (fld (v.get (O.TPDO_COBID + k * 256)) 0 11) bs = u at hcan hobj
  generalize v.num (O.TPDO_INHIBIT + k * 256) * tenthTicks = n
  rw [← hcan]
  exact ⟨rfl, rfl, rfl, rfl, fun o => (startTpdoTimer_obj _ _ _ _).trans (hobj o)⟩

theorem OnlyObjs.sends {ks : List Nat} (h : OnlyObjs ks s t) (hd : t.dev = s.dev) (hb : t.can.busOff = s.can.busOff)
    (hs : s.Sends) : t.Sends := by
  have hpower : t.power = s.power := (congrArg State.power h.1 :)
  have hstart : t.starting = s.starting := (congrArg State.starting h.1 :)
  have hub : t.hubRestart = s.hubRestart := (congrArg State.hubRestart h.1 :)
  rw [State.Sends, State.canRuns, State.awake, hpower, hub, hb, hd, hstart]
  exact hs

theorem syncCounted_canOnly (v : State) (k m : Nat) : CanOnly [] v (syncCounted v k m) := canOnly_withCan _ _ _

theorem syncCounted_sends {v : State} (h : v.Sends) (k m : Nat) : (syncCounted v k m).Sends := h

theorem syncCounted_now (v : State) (k m : Nat) : (syncCounted v k m).now = v.now := rfl

theorem syncCounted_put (v : State) (k m : Nat) : kvGet (syncCounted v k m).can.tpdoSync k = some m := kvGet_kvPut_self _ _ _

theorem CanOnly.now {ks : List Nat} (h : CanOnly ks s t) : t.now = s.now :=
  now_congr (congrArg State.counter h.1 :) (congrArg State.wraps h.1 :)

theorem syncCounted_settled (v : State) (k m : Nat) :
    let t := settle (syncCounted v k m)
    kvGet t.can.tpdoSync k = some m ∧ t.obj 0 O.SYNC_COUNT = v.obj 0 O.SYNC_COUNT ∧ CanOnly [] v t := by
  have hframe : CanOnly [] v (settle (syncCounted v k m)) := (canOnly_withCan [] v _).settled
  refine ⟨?_, hframe.obj_of 0 (by decide) (by decide) (by simp), hframe⟩
  rw [settle_bare Can.tpdoSync (fun _ => rfl)]
  exact kvGet_kvPut_self _ _ _

/-! ### SYNC_FRAME -/

/-- The state a SYNC leaves where no RPDO waits for it. -/
def syncDone (counter : Option Nat) (s : State) : State := (List.range 4).foldl (syncTpdo counter) (synced s)

theorem exec_syncFrame_due (hc : s.canServes = true) (hr : s.hubRestart = false)
    (hheld : (syncDone counter s).can.rpdoHeld = []) :
    exec (.syncFrame (fld (s.get O.COB_ID_SYNC) 0 11) counter) s = done (syncDone counter s) := by
  rw [exec_syncFrame, execSyncFrame, if_pos ⟨hc, hr, rfl⟩]
  dsimp only
  rw [← synced, ← syncDone, hheld, List.foldl_nil, ← hheld]

theorem syncFrame_other {cob : Nat} (h : cob ≠ fld (s.get O.COB_ID_SYNC) 0 11) : exec (.syncFrame cob counter) s = done s := by
  rw [exec_syncFrame, execSyncFrame, if_neg fun h' => h h'.2.2.symm]

theorem synced_idle {j : Nat} (hj : j < 4) (h : SyncIdle s j) : SyncIdle (synced s) j :=
  h.of_congr (congrArg Can.nmt (synced_same s).1) (congrArg Can.busOff (synced_same s).1) (synced_tpdo hj _ (by simp))
    (synced_tpdo hj _ (by simp))

/-- A SYNC that concerns TPDO `k` alone. -/
theorem syncDone_only (hk : k < 4) (h : ∀ j, j < 4 → j ≠ k → SyncIdle s j)
    {w : State} (hw : syncTpdo counter (synced s) k = w) (hn : w.can.nmt = s.can.nmt) (hb : w.can.busOff = s.can.busOff)
    (ho : ∀ o, w.obj 0 o = (synced s).obj 0 o) :
    syncDone counter s = w := by
  have hidle : ∀ j, j < 4 → j ≠ k → SyncIdle w j := fun j hj hne =>
    (h j hj hne).of_congr hn hb ((ho _).trans (synced_tpdo hj _ (by simp))) ((ho _).trans (synced_tpdo hj _ (by simp)))
  refine (foldl_range_only hk (fun j hj hne => syncTpdo_idle (synced_idle hj (h j hj hne))) fun j hj hne => ?_).trans hw
  rw [hw]
  exact syncTpdo_idle (hidle j hj hne)

section
variable (hc : s.canServes = true) (hr : s.hubRestart = false) (hheld : s.can.rpdoHeld = [])
include hc hr hheld

theorem syncFrame_idle (h : ∀ k, k < 4 → SyncIdle s k) :
    Answers (.syncFrame (fld (s.get O.COB_ID_SYNC) 0 11) counter) s fun t =>
      t.get O.SYNC_TM = tmOf s.now ∧ t.get O.SYNC_WRAP = ofN s.wraps.toNat ∧
      t.num O.SYNC_COUNT = (s.num O.SYNC_COUNT + 1) % 2 ^ 32 ∧
      OnlyObjs [objKey 0 O.SYNC_TM, objKey 0 O.SYNC_WRAP, objKey 0 O.SYNC_COUNT] s t := by
  have hdone : syncDone counter s = synced s :=
    foldl_range_none fun j hj => syncTpdo_idle (synced_idle hj (h j hj))
  have hexec := exec_syncFrame_due (counter := counter) hc hr (by rw [hdone, (synced_same s).1, hheld])
  rw [hdone] at hexec
  refine answers_done hexec ⟨?_, ?_, ?_, (synced_frame s).settled⟩
  · exact (obj_settle_of _ 0 _ (by decide) (by decide)).trans (synced_tm s)
  · exact (obj_settle_of _ 0 _ (by decide) (by decide)).trans (synced_wrap s)
  · exact (congrArg BitVec.toNat (obj_settle_of _ 0 _ (by decide) (by decide))).trans (synced_count s)

/-- The command is done once its SYNC is. -/
theorem exec_syncFrame_of {w : State} (hdone : syncDone counter s = w) (hr' : w.can.rpdoHeld = s.can.rpdoHeld) :
    exec (.syncFrame (fld (s.get O.COB_ID_SYNC) 0 11) counter) s = done w :=
  (exec_syncFrame_due hc hr ((congrArg (fun u => u.can.rpdoHeld) hdone).trans (hr'.trans hheld))).trans (congrArg done hdone)

theorem syncFrame_counts (hk : k < 4) (h : ∀ j, j < 4 → j ≠ k → SyncIdle s j) (hv : s.tpdoValid k = true)
    (h1 : 1 ≤ s.syncCount k counter) (hlt : s.syncCount k counter < s.tpdoType k) (hty : s.tpdoType k ≤ 240) :
    Answers (.syncFrame (fld (s.get O.COB_ID_SYNC) 0 11) counter) s fun t =>
      kvGet t.can.tpdoSync k = some (s.syncCount k counter) ∧
      t.num O.SYNC_COUNT = (s.num O.SYNC_COUNT + 1) % 2 ^ 32 ∧
      OnlyObjs [objKey 0 O.SYNC_TM, objKey 0 O.SYNC_WRAP, objKey 0 O.SYNC_COUNT] { s with can := t.can } t := by
  obtain ⟨hcan, -, -, -, -⟩ := synced_same s
  have hvalid : (synced s).tpdoValid k = true := (tpdoValid_congr (congrArg Can.nmt hcan) (congrArg Can.busOff hcan)
    (synced_tpdo hk _ (by simp))).trans hv
  have htype : (synced s).tpdoType k = s.tpdoType k := congrArg BitVec.toNat (synced_tpdo hk _ (by simp))
  have hcount : (synced s).syncCount k counter = s.syncCount k counter := synced_syncCount hk
  have hw : syncTpdo counter (synced s) k = syncCounted (synced s) k (s.syncCount k counter) := by
    rw [← hcount]
    exact syncTpdo_counts hvalid (by rwa [hcount]) (by rwa [hcount, htype]) (by rwa [htype])
  obtain ⟨hn, hb, hh, ho⟩ := syncCounted_same (synced s) k (s.syncCount k counter)
  have hdone : syncDone counter s = syncCounted (synced s) k (s.syncCount k counter) :=
    syncDone_only hk h hw (hn.trans (congrArg Can.nmt hcan)) (hb.trans (congrArg Can.busOff hcan)) ho
  refine answers_done (exec_syncFrame_of hc hr hheld hdone (hh.trans (congrArg Can.rpdoHeld hcan))) ?_
  have hv := synced_frame s
  have hcounted := synced_count s
  generalize synced s = v at hv hcounted ⊢
  obtain ⟨hkv, hobj, hframe⟩ := syncCounted_settled v k (s.syncCount k counter)
  exact ⟨hkv, (congrArg BitVec.toNat hobj).trans hcounted, hv.canOnly.trans (hframe.mono (by simp))⟩

theorem syncFrame_sends (hk : k < 4) (h : ∀ j, j < 4 → j ≠ k → SyncIdle s j) (hv : s.tpdoValid k = true)
    (h1 : 1 ≤ s.tpdoType k) (hle : s.tpdoType k ≤ s.syncCount k counter) (hty : s.tpdoType k ≤ 240)
    (hfree : s.tpdoFreeAt k ≤ s.now) (he : s.pdoEntries (0x1A00 + k) = []) :
    Answers (.syncFrame (fld (s.get O.COB_ID_SYNC) 0 11) counter) s fun t =>
      .canFrame (fld (s.get (O.TPDO_COBID + k * 256)) 0 11) [] ∈ t.sent ∧ kvGet t.can.tpdoSync k = some 0 ∧
      kvGet t.can.tpdoFree k = some (s.now + s.num (O.TPDO_INHIBIT + k * 256) * tenthTicks) ∧
      OnlyObjs [objKey 0 O.SYNC_TM, objKey 0 O.SYNC_WRAP, objKey 0 O.SYNC_COUNT] { s with can := t.can } t := by
  obtain ⟨hcan, hsent, hdev, hctr, hwraps⟩ := synced_same s
  have hvalid : (synced s).tpdoValid k = true := (tpdoValid_congr (congrArg Can.nmt hcan) (congrArg Can.busOff hcan)
    (synced_tpdo hk _ (by simp))).trans hv
  have htype : (synced s).tpdoType k = s.tpdoType k := congrArg BitVec.toNat (synced_tpdo hk _ (by simp))
  have hcount : (synced s).syncCount k counter = s.syncCount k counter := synced_syncCount hk
  have hnow : (synced s).now = s.now := now_congr hctr hwraps
  have hfreeAt : (synced s).tpdoFreeAt k = s.tpdoFreeAt k := by rw [State.tpdoFreeAt, State.tpdoFreeAt, hcan]
  have hw : syncTpdo counter (synced s) k = putTpdo (syncCounted (synced s) k 0) k [] :=
    syncTpdo_sends hvalid (by rwa [htype]) (by rwa [hcount, htype]) (by rwa [htype]) (by rwa [hnow, hfreeAt])
      ((synced_entries hk).trans he)
  obtain ⟨hn, hb, hh, ho⟩ := syncCounted_same (synced s) k 0
  obtain ⟨hn', hb', hh', hsync, ho'⟩ := putTpdo_same (syncCounted (synced s) k 0) k []
  have hdone : syncDone counter s = putTpdo (syncCounted (synced s) k 0) k [] :=
    syncDone_only hk h hw (hn'.trans (hn.trans (congrArg Can.nmt hcan))) (hb'.trans (hb.trans (congrArg Can.busOff hcan)))
      fun o => (ho' o).trans (ho o)
  have hsends : (syncCounted (synced s) k 0).Sends := syncCounted_sends ((synced_frame s).sends hdev
    (congrArg Can.busOff hcan) (sends_of_serves hc hr)) k 0
  have hcob : (syncCounted (synced s) k 0).get (O.TPDO_COBID + k * 256) = s.get (O.TPDO_COBID + k * 256) :=
    (ho _).trans (synced_tpdo hk _ (by simp))
  have hinh : (syncCounted (synced s) k 0).num (O.TPDO_INHIBIT + k * 256) = s.num (O.TPDO_INHIBIT + k * 256) :=
    congrArg BitVec.toNat ((ho _).trans (synced_tpdo hk _ (by simp)))
  have hframe := (synced_frame s).canOnly.trans ((syncCounted_canOnly (synced s) k 0).mono (by simp))
  have hzero := syncCounted_put (synced s) k 0
  have hnow' := (syncCounted_now (synced s) k 0).trans hnow
  refine answers_done (exec_syncFrame_of hc hr hheld hdone (hh'.trans (hh.trans (congrArg Can.rpdoHeld hcan)))) ?_
  generalize syncCounted (synced s) k 0 = w at hsends hcob hinh hframe hzero hnow' hsync
  obtain ⟨hmem, hfree', hleft⟩ := putTpdo_settled hsends k []
  rw [hcob] at hmem
  rw [hinh, hleft.now, hnow'] at hfree'
  refine ⟨hmem, ?_, hfree', hframe.trans (hleft.mono (by simp))⟩
  rw [settle_bare Can.tpdoSync (fun _ => rfl), hsync, hzero]

end

/-- Settles O52: the emergency, the history and the COB-IDs by their single writes, TPDOs through what a sampling and a
frame leave, RPDOs and SYNC through the one RPDO or TPDO they concern. -/
theorem processData : Obligations.ProcessData := by
  unfold Obligations.ProcessData
  refine ⟨fun s e r hq hc hr hb => emcySend_answers hq hc hr hb, fun s hq => answers_idle (emcySend_none hq), fun s p hp =>
    ⟨errHistClear_answers hp, errHistClear_refused hp, fun i v hi => ⟨pdoCobidWrite_answers hp hi,
      pdoCobidWrite_incompatible hp hi, pdoCobidWrite_refused hp hi v⟩⟩,
    fun s k a ht hk hv hc hty => tpdoEventTimer_answers ht hk hv hc hty,
    fun s k h he => tpdoTransmit_answers h he,
    fun s k e v h he hfree hcomp hdp hcdp hheld hv => tpdoTransmit_single h he hfree hcomp ⟨hdp, hcdp⟩ hheld hv,
    fun s k cob data hk h ha => ⟨rpdoReceive_held hk h ha, rpdoReceive_short hk h ha, rpdoReceive_dummies hk h ha⟩,
    fun s cob data h => rpdoReceive_other h, fun s k a ht hk hv => rpdoTimeout_answers ht hk hv,
    fun s counter hc hr hheld => ⟨syncFrame_idle hc hr hheld,
      fun _ => syncFrame_counts hc hr hheld, fun _ => syncFrame_sends hc hr hheld⟩,
    fun s cob counter h => answers_idle (syncFrame_other h)⟩

end Sys2Proof.Machine
end

section
/-! ## USDO transfers (R469, R480) -/

namespace Sys2Proof.Machine

variable {s t u : State} {ks : List Nat} {key op p : Nat} {a : Abort} {bs : List Byte}

/-! ### Replies and aborts -/

theorem padFd_one (b : Byte) : padFd [b] = [b] := rfl

theorem padFd_abort (n : Nat) : padFd (0x80#8 :: leBytes 4 n) = 0x80#8 :: leBytes 4 n := by
  have hlen : (0x80#8 :: leBytes 4 n).length = 5 := by simp [leBytes_length]
  have hfind : ([0, 1, 2, 3, 4, 5, 6, 7, 8, 12, 16, 20, 24, 32, 48, 64].find? fun k => decide (5 ≤ k)) = some 5 := rfl
  rw [padFd, hlen, hfind]
  simp

theorem usdoReply_frame (s : State) (cs : Nat) (bs : List Byte) : OnlyObjs ks s (usdoReply s cs bs) := canSend_frame _ _ _

theorem usdoReply_can (s : State) (cs : Nat) (bs : List Byte) : (usdoReply s cs bs).can = s.can := canSend_can _ _ _

theorem usdoReply_sent (h : s.Sends) (cs : Nat) (bs : List Byte) :
    .canFrame (0x580 + s.can.nodeId) (padFd (BitVec.ofNat 8 cs :: bs)) ∈ (usdoReply s cs bs).sent := canSend_sent h _ _

/-- A reply after which the command ends. -/
theorem usdoReply_settled (h : s.Sends) (cs : Nat) (bs : List Byte) :
    let t := settle (usdoReply s cs bs)
    .canFrame (0x580 + s.can.nodeId) (padFd (BitVec.ofNat 8 cs :: bs)) ∈ t.sent ∧ OnlyObjs [] s t ∧ t.can.usdo = s.can.usdo := by
  refine ⟨(sent_settle (s := usdoReply s cs bs)).mem (usdoReply_sent h cs bs), (usdoReply_frame s cs bs).settled, ?_⟩
  rw [settle_bare Can.usdo fun _ => rfl]
  exact congrArg Can.usdo (usdoReply_can s cs bs)

/-- What leaves the record of an abort leaves the abort. -/
theorem rejected_of (h : OnlyObjs [] (recordAbort s p key op a) t) : Rejected s t p key op a := by
  obtain ⟨hlast, hcount, hstatus⟩ := recordAbort_aborted s p key op a
  have hobj (k : Nat) (hk : k < 2 ^ 24) (hs : k ∉ settleObjs) : t.obj p k = (recordAbort s p key op a).obj p k :=
    h.2 p k List.not_mem_nil (objKey_settle p k hk hs)
  refine ⟨⟨?_, ?_, ?_⟩, (recordAbort_onlyObjs s p key op a).trans (h.mono (by simp))⟩
  · rw [hobj _ (by decide) (by decide), hlast]
  · rw [hobj _ (by decide) (by decide), hcount]
  · rw [hobj _ (by decide) (by decide), hstatus]

/-- A request that is aborted is recorded for path 32. -/
theorem usdoFail_rejected (s : State) (key op : Nat) (a : Abort) : Rejected s (settle (usdoFail s key op a)) 32 key op a := by
  exact rejected_of (usdoReply_frame _ _ _).settled

theorem recordCode_dev (s : State) (p k op code : Nat) : (recordCode s p k op code).dev = s.dev := by
  simp only [recordCode, State.countSat_eq, State.flag_eq, State.setObj_dev]

theorem recordAbort_sends (h : s.Sends) (p key op : Nat) (a : Abort) : (recordAbort s p key op a).Sends :=
  (recordAbort_onlyObjs s p key op a).sends (recordCode_dev _ _ _ _ _) (congrArg Can.busOff (recordCode_can _ _ _ _ _)) h

/-- A request that is aborted is answered with the code. -/
theorem usdoFail_sent (h : s.Sends) (key op : Nat) (a : Abort) :
    .canFrame (0x580 + s.can.nodeId) (0x80#8 :: leBytes 4 a.code.toNat) ∈ (settle (usdoFail s key op a)).sent := by
  have hsent := usdoReply_sent (recordAbort_sends h 32 key op a) 0x80 (leBytes 4 a.code.toNat)
  rw [show (recordAbort s 32 key op a).can = s.can from recordCode_can _ _ _ _ _] at hsent
  exact (sent_settle (s := usdoFail s key op a)).mem ((padFd_abort a.code.toNat) ▸ hsent)

/-! ### Requests that open a session -/

section
variable {f : State → State}

theorem usdoOpen_restart (hc : s.canServes = true) (hr : s.hubRestart = true) :
    usdoOpen s key op f = { s with missed := s.missed ++ [(32, key, op)] } := by
  rw [usdoOpen, State.usdoServes, hc, if_pos rfl, if_pos hr]

theorem usdoOpen_busy (hc : s.canServes = true) (hr : s.hubRestart = false) (hu : s.can.usdo.isSome = true) :
    usdoOpen s key op f = usdoFail s key op .presentState := by
  rw [usdoOpen, State.usdoServes, hc, if_pos rfl, if_neg (by simp [hr]), if_pos hu]

theorem usdoOpen_free (hc : s.canServes = true) (hr : s.hubRestart = false) (hu : s.can.usdo = none) :
    usdoOpen s key op f = f s := by
  rw [usdoOpen, State.usdoServes, hc, if_pos rfl, if_neg (by simp [hr]), if_neg (by simp [hu])]

end

/-- What a request meets during a hub controller restart. -/
theorem missed_settled (s : State) (x : List (Nat × Nat × Nat)) :
    let t := settle { s with missed := x }
    t.missed = x ∧ OnlyObjs [] { s with missed := t.missed } t := by
  have hx : (settle { s with missed := x }).missed = x := settle_missed _
  refine ⟨hx, ?_⟩
  rw [hx]
  exact (onlyObjs_refl _ _).settled

/-- A session replaced, and its reply sent. -/
theorem session_settled (h : s.Sends) (u : Option Usdo) (cs : Nat) (bs : List Byte) :
    let t := settle (usdoReply (setUsdo s u) cs bs)
    t.can.usdo = u ∧ .canFrame (0x580 + s.can.nodeId) (padFd (BitVec.ofNat 8 cs :: bs)) ∈ t.sent ∧
      OnlyObjs [] { s with can := t.can } t := by
  have hset : CanOnly [] s (setUsdo s u) := canOnly_withCan _ _ _
  obtain ⟨hsent, hframe, husdo⟩ := usdoReply_settled (s := setUsdo s u) h cs bs
  exact ⟨husdo, hsent, hset.trans hframe.canOnly⟩

theorem exec_usdoDownloadInitiate_eq (s : State) (i sub size : Nat) (data : List Byte) :
    exec (.usdoDownloadInitiate i sub size data) s = done (usdoOpen s (i * 256 + sub) 2 fun s =>
      if 2048 < size then usdoFail s (i * 256 + sub) 2 ((s.stageErr 32 (s.selected 32) i sub).getD .length)
      else if size ≤ data.length then usdoFinish s (i * 256 + sub) (data.take size)
      else usdoReply (setUsdo s (some { key := i * 256 + sub, download := true, size, data, last := s.now })) 0x60 []) := by
  rw [exec_usdoDownloadInitiate]
  rfl

/-- What an upload returns, or the session it opens. -/
def uploadAnswer (key : Nat) (r : State × Except Abort (List Byte)) : State :=
  match r with
  | (s, .ok bs) =>
    if bs.length ≤ usdoChunk then usdoReply s 0x42 bs
    else usdoReply (setUsdo s (some { key, download := false, size := bs.length, data := bs, last := s.now })) 0x41 (leBytes 4 bs.length)
  | (s, .error a) => usdoFail s key 1 a

theorem exec_usdoUploadInitiate_eq (s : State) (i sub : Nat) : exec (.usdoUploadInitiate i sub) s =
    done (usdoOpen s (i * 256 + sub) 1 fun s => uploadAnswer (i * 256 + sub) (usdoRead (takeTurn s) (i * 256 + sub))) := by
  rw [exec_usdoUploadInitiate]
  rfl

variable {i sub size : Nat} {data : List Byte}

theorem usdoFinish_ok {u : State} (h : usdoWrite (takeTurn s) key bs = (u, none)) : usdoFinish s key bs = usdoReply u 0x60 [] := by
  rw [usdoFinish, h]

theorem usdoFinish_error {u : State} (h : usdoWrite (takeTurn s) key bs = (u, some a)) :
    usdoFinish s key bs = usdoFail u key 2 a := by
  rw [usdoFinish, h]

theorem uploadAnswer_short (hlen : bs.length ≤ 56) : uploadAnswer key (s, .ok bs) = usdoReply s 0x42 bs := if_pos hlen

theorem uploadAnswer_long (hlen : 56 < bs.length) : uploadAnswer key (s, .ok bs) = usdoReply (setUsdo s
    (some { key, download := false, size := bs.length, data := bs, last := s.now })) 0x41 (leBytes 4 bs.length) :=
  if_neg (Nat.not_le.mpr hlen)

/-! ### Initiates -/

theorem initiate_restart (hc : s.canServes = true) (hr : s.hubRestart = true) :
    (∀ size data, Answers (.usdoDownloadInitiate i sub size data) s fun t =>
      t.missed = s.missed ++ [(32, i * 256 + sub, 2)] ∧ OnlyObjs [] { s with missed := t.missed } t) ∧
    Answers (.usdoUploadInitiate i sub) s fun t =>
      t.missed = s.missed ++ [(32, i * 256 + sub, 1)] ∧ OnlyObjs [] { s with missed := t.missed } t :=
  ⟨fun size data => answers_done ((exec_usdoDownloadInitiate_eq s i sub size data).trans (by rw [usdoOpen_restart hc hr]))
      (missed_settled s _),
    answers_done ((exec_usdoUploadInitiate_eq s i sub).trans (by rw [usdoOpen_restart hc hr])) (missed_settled s _)⟩

/-- A request that is aborted with a code: its record and its frame. -/
def UsdoAborted (s : State) (key op : Nat) (a : Abort) (t : State) : Prop := Rejected s t 32 key op a ∧
  .canFrame (0x580 + s.can.nodeId) (0x80#8 :: leBytes 4 a.code.toNat) ∈ t.sent

theorem usdoAborted_fail (h : s.Sends) (key op : Nat) (a : Abort) : UsdoAborted s key op a (settle (usdoFail s key op a)) :=
  ⟨usdoFail_rejected s key op a, usdoFail_sent h key op a⟩

theorem initiate_busy (hc : s.canServes = true) (hr : s.hubRestart = false) (hu : s.can.usdo.isSome = true) :
    (∀ size data, Answers (.usdoDownloadInitiate i sub size data) s (UsdoAborted s (i * 256 + sub) 2 .presentState)) ∧
    Answers (.usdoUploadInitiate i sub) s (UsdoAborted s (i * 256 + sub) 1 .presentState) :=
  ⟨fun size data => answers_done ((exec_usdoDownloadInitiate_eq s i sub size data).trans (by rw [usdoOpen_busy hc hr hu]))
      (usdoAborted_fail (sends_of_serves hc hr) _ _ _),
    answers_done ((exec_usdoUploadInitiate_eq s i sub).trans (by rw [usdoOpen_busy hc hr hu]))
      (usdoAborted_fail (sends_of_serves hc hr) _ _ _)⟩

section
variable (hc : s.canServes = true) (hr : s.hubRestart = false) (hu : s.can.usdo = none)
include hc hr hu

theorem download_long (hsize : 2048 < size) : Answers (.usdoDownloadInitiate i sub size data) s
    (UsdoAborted s (i * 256 + sub) 2 ((s.stageErr 32 (s.selected 32) i sub).getD .length)) :=
  answers_done ((exec_usdoDownloadInitiate_eq s i sub size data).trans (by rw [usdoOpen_free hc hr hu, if_pos hsize]))
    (usdoAborted_fail (sends_of_serves hc hr) _ _ _)

theorem download_opens (hsize : size ≤ 2048) (hlen : data.length < size) :
    Answers (.usdoDownloadInitiate i sub size data) s fun t =>
      t.can.usdo = some { key := i * 256 + sub, download := true, size, data, last := s.now } ∧
      .canFrame (0x580 + s.can.nodeId) [0x60#8] ∈ t.sent ∧ OnlyObjs [] { s with can := t.can } t := by
  have h := session_settled (sends_of_serves hc hr)
    (some { key := i * 256 + sub, download := true, size, data, last := s.now }) 0x60 []
  rw [padFd_one] at h
  exact answers_done ((exec_usdoDownloadInitiate_eq s i sub size data).trans
    (by rw [usdoOpen_free hc hr hu, if_neg (Nat.not_lt.mpr hsize), if_neg (Nat.not_le.mpr hlen)])) h

theorem download_whole (hsize : size ≤ 2048) (hlen : size ≤ data.length) :
    exec (.usdoDownloadInitiate i sub size data) s = done (usdoFinish s (i * 256 + sub) (data.take size)) := by
  rw [exec_usdoDownloadInitiate_eq, usdoOpen_free hc hr hu, if_neg (Nat.not_lt.mpr hsize), if_pos hlen]

theorem upload_free {r : State × Except Abort (List Byte)} (hread : usdoRead (takeTurn s) (i * 256 + sub) = r) :
    exec (.usdoUploadInitiate i sub) s = done (uploadAnswer (i * 256 + sub) r) := by
  rw [exec_usdoUploadInitiate_eq, usdoOpen_free hc hr hu, hread]

theorem download_ok {u : State} (hsize : size ≤ 2048) (hlen : size ≤ data.length)
    (hw : usdoWrite (takeTurn s) (i * 256 + sub) (data.take size) = (u, none)) :
    Answers (.usdoDownloadInitiate i sub size data) s fun t => OnlyObjs [] u t :=
  answers_done ((download_whole hc hr hu hsize hlen).trans (congrArg done (usdoFinish_ok hw))) (usdoReply_frame _ _ _).settled

theorem download_error {u : State} (hsize : size ≤ 2048) (hlen : size ≤ data.length)
    (hw : usdoWrite (takeTurn s) (i * 256 + sub) (data.take size) = (u, some a)) :
    Answers (.usdoDownloadInitiate i sub size data) s fun t => Rejected u t 32 (i * 256 + sub) 2 a :=
  answers_done ((download_whole hc hr hu hsize hlen).trans (congrArg done (usdoFinish_error hw))) (usdoFail_rejected u _ 2 a)

theorem upload_short {u : State} (hread : usdoRead (takeTurn s) (i * 256 + sub) = (u, .ok bs)) (hlen : bs.length ≤ 56) :
    Answers (.usdoUploadInitiate i sub) s fun t =>
      OnlyObjs [] u t ∧ (u.Sends → .canFrame (0x580 + u.can.nodeId) (padFd (0x42#8 :: bs)) ∈ t.sent) :=
  answers_done ((upload_free hc hr hu hread).trans (congrArg done (uploadAnswer_short hlen)))
    ⟨(usdoReply_frame _ _ _).settled, fun h => (usdoReply_settled h 0x42 bs).1⟩

theorem upload_long {u : State} (hread : usdoRead (takeTurn s) (i * 256 + sub) = (u, .ok bs)) (hlen : 56 < bs.length) :
    Answers (.usdoUploadInitiate i sub) s fun t =>
      t.can.usdo = some { key := i * 256 + sub, download := false, size := bs.length, data := bs, last := u.now } ∧
      OnlyObjs [] { u with can := t.can } t := by
  refine answers_done ((upload_free hc hr hu hread).trans (congrArg done (uploadAnswer_long hlen))) ?_
  generalize ({ key := i * 256 + sub, download := false, size := bs.length, data := bs, last := u.now } : Usdo) = x
  have hframe : CanOnly [] u (usdoReply (setUsdo u (some x)) 0x41 (leBytes 4 bs.length)) :=
    (canOnly_withCan [] u _).trans (usdoReply_frame _ _ _).canOnly
  refine ⟨?_, hframe.settled⟩
  rw [settle_bare Can.usdo fun _ => rfl]
  exact congrArg Can.usdo (usdoReply_can _ _ _)

theorem upload_error {u : State} (hread : usdoRead (takeTurn s) (i * 256 + sub) = (u, .error a)) :
    Answers (.usdoUploadInitiate i sub) s fun t => Rejected u t 32 (i * 256 + sub) 1 a :=
  answers_done (upload_free hc hr hu hread) (usdoFail_rejected u _ 1 a)

end

/-! ### Segments, aborts and the time-out -/

theorem exec_usdoDownloadSegment_some {u : Usdo} (h : s.can.usdo = some u) (data : List Byte) (last : Bool) :
    exec (.usdoDownloadSegment data last) s = done (
      if s.canServes ∧ s.hubRestart then usdoMissed s u
      else if s.canServes ∧ u.download then
        if u.size < (u.data ++ data).length ∨ (last ∧ (u.data ++ data).length ≠ u.size) then
          usdoFail (setUsdo s none) u.key 2 ((s.stageErr 32 (s.selected 32) (u.key / 256) (u.key % 256)).getD .length)
        else if last then usdoFinish (setUsdo s none) u.key (u.data ++ data)
        else usdoReply (setUsdo s (some { u with data := u.data ++ data, last := s.now })) 0x20 []
      else s) := by
  rw [exec_usdoDownloadSegment, execUsdoDownloadSegment, h]
  rfl

theorem exec_usdoUploadSegment_some {u : Usdo} (h : s.can.usdo = some u) : exec .usdoUploadSegment s = done (
      if s.canServes ∧ s.hubRestart then usdoMissed s u
      else if s.canServes ∧ u.download = false then
        usdoReply (setUsdo s (if u.data.drop 56 = [] then none else some { u with data := u.data.drop 56, last := s.now }))
          (if u.data.drop 56 = [] then 1 else 0) (u.data.take 56)
      else s) := by
  rw [exec_usdoUploadSegment, execUsdoUploadSegment, h]
  rfl

theorem usdoMissed_settled (s : State) (u : Usdo) :
    let t := settle (usdoMissed s u)
    t.can.usdo = none ∧ t.missed = s.missed ++ [(32, u.key, if u.download then 2 else 1)] ∧
      OnlyObjs [] { s with can := { s.can with usdo := none }, missed := t.missed } t := by
  have hx : (settle (usdoMissed s u)).missed = s.missed ++ [(32, u.key, if u.download then 2 else 1)] := settle_missed _
  refine ⟨settle_bare Can.usdo (fun _ => rfl) _, hx, ?_⟩
  rw [hx]
  exact (onlyObjs_refl _ _).settled

theorem segment_restart {u : Usdo} (hu : s.can.usdo = some u) (hc : s.canServes = true) (hr : s.hubRestart = true) {i : Instr}
    (hi : i = .usdoUploadSegment ∨ ∃ d l, i = .usdoDownloadSegment d l) : Answers i s fun t =>
      t.can.usdo = none ∧ t.missed = s.missed ++ [(32, u.key, if u.download then 2 else 1)] ∧
      OnlyObjs [] { s with can := { s.can with usdo := none }, missed := t.missed } t := by
  refine answers_done ?_ (usdoMissed_settled s u)
  obtain rfl | ⟨d, l, rfl⟩ := hi
  · rw [exec_usdoUploadSegment_some hu, if_pos ⟨hc, hr⟩]
  · rw [exec_usdoDownloadSegment_some hu, if_pos ⟨hc, hr⟩]

theorem segment_none (hu : s.can.usdo = none) {i : Instr} (hi : i = .usdoUploadSegment ∨ i = .usdoSessionTimeout ∨
    ∃ d l, i = .usdoDownloadSegment d l) : Answers i s fun t => OnlyObjs [] s t := by
  refine answers_idle ?_
  obtain rfl | rfl | ⟨d, l, rfl⟩ := hi
  · rw [exec_usdoUploadSegment, execUsdoUploadSegment, hu]
  · rw [exec_usdoSessionTimeout, execUsdoSessionTimeout, hu]
  · rw [exec_usdoDownloadSegment, execUsdoDownloadSegment, hu]

section
variable {u : Usdo} (hu : s.can.usdo = some u) (hc : s.canServes = true) (hr : s.hubRestart = false)
include hu hc hr

theorem downloadSegment_goes (hd : u.download = true) (hlen : (u.data ++ data).length ≤ u.size) :
    Answers (.usdoDownloadSegment data false) s fun t =>
      t.can.usdo = some { u with data := u.data ++ data, last := s.now } ∧
      .canFrame (0x580 + s.can.nodeId) [0x20#8] ∈ t.sent ∧ OnlyObjs [] { s with can := t.can } t := by
  have h := session_settled (sends_of_serves hc hr) (some { u with data := u.data ++ data, last := s.now }) 0x20 []
  rw [padFd_one] at h
  refine answers_done ((exec_usdoDownloadSegment_some hu data false).trans ?_) h
  rw [if_neg (by simp [hr]), if_pos ⟨hc, hd⟩, if_neg (by simpa using hlen), if_neg Bool.false_ne_true]

theorem downloadSegment_mislaid {last : Bool} (hd : u.download = true)
    (hlen : u.size < (u.data ++ data).length ∨ (last = true ∧ (u.data ++ data).length ≠ u.size)) :
    Answers (.usdoDownloadSegment data last) s fun t =>
      Rejected { s with can := { s.can with usdo := none } } t 32 u.key 2
        ((s.stageErr 32 (s.selected 32) (u.key / 256) (u.key % 256)).getD .length) := by
  refine answers_done ((exec_usdoDownloadSegment_some hu data last).trans ?_) (usdoFail_rejected (setUsdo s none) _ _ _)
  rw [if_neg (by simp [hr]), if_pos ⟨hc, hd⟩, if_pos hlen]

theorem downloadSegment_last {v : State} (hd : u.download = true) (hlen : (u.data ++ data).length = u.size)
    (hw : usdoWrite (takeTurn { s with can := { s.can with usdo := none } }) u.key (u.data ++ data) = (v, none)) :
    Answers (.usdoDownloadSegment data true) s fun t => OnlyObjs [] v t := by
  refine answers_done ((exec_usdoDownloadSegment_some hu data true).trans ?_) (usdoReply_frame (s := v) 0x60 []).settled
  rw [if_neg (by simp [hr]), if_pos ⟨hc, hd⟩, if_neg (by omega), if_pos rfl, usdoFinish_ok (s := setUsdo s none) hw]

theorem uploadSegment_goes (hd : u.download = false) (hne : u.data.drop 56 ≠ []) : Answers .usdoUploadSegment s fun t =>
    t.can.usdo = some { u with data := u.data.drop 56, last := s.now } ∧
    .canFrame (0x580 + s.can.nodeId) (padFd (0#8 :: u.data.take 56)) ∈ t.sent ∧ OnlyObjs [] { s with can := t.can } t := by
  refine answers_done ((exec_usdoUploadSegment_some hu).trans ?_) (session_settled (sends_of_serves hc hr) _ 0 _)
  rw [if_neg (by simp [hr]), if_pos ⟨hc, hd⟩, if_neg hne, if_neg hne]

theorem uploadSegment_last (hd : u.download = false) (hnil : u.data.drop 56 = []) : Answers .usdoUploadSegment s fun t =>
    t.can.usdo = none ∧ .canFrame (0x580 + s.can.nodeId) (padFd (1#8 :: u.data.take 56)) ∈ t.sent ∧
    OnlyObjs [] { s with can := t.can } t := by
  refine answers_done ((exec_usdoUploadSegment_some hu).trans ?_) (session_settled (sends_of_serves hc hr) none 1 _)
  rw [if_neg (by simp [hr]), if_pos ⟨hc, hd⟩, if_pos hnil, if_pos hnil]

omit hu hr in
theorem abortReceived_answers : Answers .usdoAbortReceived s fun t =>
    OnlyObjs [] { s with can := { s.can with usdo := none } } t := by
  refine answers_done ?_ (onlyObjs_refl (setUsdo s none) []).settled
  rw [exec_usdoAbortReceived, execUsdoAbortReceived, State.usdoServes, if_pos hc]

end

theorem recordCode_last (s : State) (p k op code : Nat) :
    (recordCode s p k op code).obj p O.PATH_LAST_ABORT = ofN (k * 2 ^ 40 + op * 2 ^ 32 + code) :=
  (State.obj_setObj_ne _ _ _ _ _ _ (objKey_ne p (by decide))).trans
    ((State.obj_setObj_ne _ _ _ _ _ _ (objKey_ne p (by decide))).trans (State.obj_setObj_self _ _ _ _))

/-- The abort of an open session, at the end of the command. -/
theorem usdoAbort_settled {u : Usdo} (h : s.can.usdo = some u) (code : Nat) :
    let t := settle (usdoAbort s code)
    t.can.usdo = none ∧
      t.obj 32 O.PATH_LAST_ABORT = ofN (u.key * 2 ^ 40 + (if u.download then 2 else 1) * 2 ^ 32 + code) ∧
      t.ctxs = s.ctxs ∧ t.mem = s.mem := by
  have hframe := usdoAbort_canOnly s code
  have hlast : (usdoAbort s code).obj 32 O.PATH_LAST_ABORT =
      ofN (u.key * 2 ^ 40 + (if u.download then 2 else 1) * 2 ^ 32 + code) := by
    rw [usdoAbort_some h]
    exact (obj_canSend _ _ _ _ _).trans (recordCode_last _ _ _ _ _)
  refine ⟨?_, (obj_settle_of _ _ _ (by decide) (by decide)).trans hlast, hframe.settled.ctxs, hframe.settled.mem⟩
  rw [settle_bare Can.usdo (fun _ => rfl), usdoAbort_can]

theorem exec_usdoSessionTimeout_some {u : Usdo} (hu : s.can.usdo = some u) : exec .usdoSessionTimeout s =
    done (usdoAbort (s.runTo (u.last + 1000 * msTicks)) 0x05040000) := by
  rw [exec_usdoSessionTimeout, execUsdoSessionTimeout, hu]

theorem sessionTimeout_answers {u : Usdo} (hu : s.can.usdo = some u) : Answers .usdoSessionTimeout s fun t =>
    t.can.usdo = none ∧
    t.obj 32 O.PATH_LAST_ABORT = ofN (u.key * 2 ^ 40 + (if u.download then 2 else 1) * 2 ^ 32 + 0x05040000) ∧
    t.ctxs = s.ctxs ∧ t.mem = s.mem := by
  have hexec := exec_usdoSessionTimeout_some hu
  generalize u.last + 1000 * msTicks = n at hexec
  obtain ⟨h1, h2, h3, h4⟩ := usdoAbort_settled (s := s.runTo n) (by rwa [runTo_can]) 0x05040000
  exact answers_done hexec ⟨h1, h2, h3.trans (runTo_ctxs s n), h4.trans (runTo_mem s n)⟩

end Sys2Proof.Machine
end

section
/-! ## The stored communication objects (R482) and the statement of transfers -/

namespace Sys2Proof.Machine

variable {s t u : State} {p : Nat} {v : Slot}

theorem missing_storeAll (s : State) : s.missing (O.STORE_ALL / 256) (O.STORE_ALL % 256) = none := rfl

theorem missing_storeComm (s : State) : s.missing (O.STORE_COMM / 256) (O.STORE_COMM % 256) = none := rfl

theorem missing_restoreComm (s : State) {k : Nat} (hk : k = 1 ∨ k = 2) :
    s.missing ((0x101100 + k) / 256) ((0x101100 + k) % 256) = none := by
  obtain rfl | rfl := hk <;> rfl

/-! ### STORE_ALL and STORE_COMM -/

section
variable (h : Served s p)
include h

theorem storeAll_begins (ho : ownerOf p = s.steward) (hb : s.storeBusy = false) : Answers (.storeAll p 0x65766173) s fun t =>
    t.can.stored = some s.commNow ∧ t.can.storedFor = s.can.nodeId ∧ t.can.marked = false ∧
    t.storeCopy.isSome = true ∧ t.storeAt = s.cycle ∧ bit (t.get O.DEVICE_STATUS) 6 = true ∧
    OnlyObjs [objKey 0 O.DEVICE_STATUS] { s with can := t.can, storedOld := none, storeCopy := t.storeCopy, storeAt := t.storeAt } t := by
  have hb' : (!s.turned.storeBusy) = true := by
    change (!s.storeBusy) = true
    rw [hb]; rfl
  refine answers_access (exec_storeAll s p _) h (missing_storeAll s) (u := beginStore (commStore s.turned))
    ((stewardOnly_pos (s := s.turned) ho _).trans ((need_pos _ (by decide) _ _).trans (need_pos _ hb' _ _))) ?_
  refine ⟨settle_bare Can.stored (fun _ => rfl) _, settle_bare Can.storedFor (fun _ => rfl) _,
    settle_bare Can.marked (fun _ => rfl) _, congrArg Option.isSome (settle_storeCopy _), settle_storeAt _, ?_, ?_⟩
  · exact (congrArg (bit · 6) (obj_settle_deviceStatus _)).trans (storeBusy_beginStore _)
  · rw [settle_storeCopy, settle_storeAt]
    have hbegin : CanOnly [objKey 0 O.DEVICE_STATUS] { s with
        storedOld := none
        storeCopy := (beginStore (commStore s.turned)).storeCopy
        storeAt := (beginStore (commStore s.turned)).storeAt } (beginStore (commStore s.turned)) :=
      (onlyObjs_refl ({ commStore s.turned with storeCopy := _, storeAt := _, storedOld := _ } : State) _).put (by simp) _
    exact hbegin.settled

theorem storeAll_busy (ho : ownerOf p = s.steward) (hb : s.storeBusy = true) : Answers (.storeAll p 0x65766173) s fun t =>
    Rejected s t p O.STORE_ALL 2 .presentState := by
  have hb' : (!s.turned.storeBusy) = false := by
    change (!s.storeBusy) = false
    rw [hb]; rfl
  exact rejected_access (exec_storeAll s p _) h (missing_storeAll s)
    ((stewardOnly_pos (s := s.turned) ho _).trans ((need_pos _ (by decide) _ _).trans (need_neg hb' _ _)))

theorem storeAll_refused (ho : ownerOf p ≠ s.steward) (v : Slot) : Answers (.storeAll p v) s fun t =>
    Rejected s t p O.STORE_ALL 2 .noPermission :=
  rejected_access (exec_storeAll s p v) h (missing_storeAll s) (stewardOnly_neg (s := s.turned) ho _)

theorem storeAll_range (ho : ownerOf p = s.steward) (v : Slot) (hv : v ≠ 0x65766173) : Answers (.storeAll p v) s fun t =>
    Rejected s t p O.STORE_ALL 2 .range :=
  rejected_access (exec_storeAll s p v) h (missing_storeAll s)
    ((stewardOnly_pos (s := s.turned) ho _).trans (need_neg (beq_false_of_ne hv) _ _))

theorem storeComm_stores (ho : ownerOf p = s.steward ∨ p = 32) : Answers (.storeComm p 0x65766173) s fun t =>
    OnlyObjs [] { s with can := { s.can with stored := some s.commNow, storedFor := s.can.nodeId, marked := false } } t :=
  answers_access (exec_storeComm s p _) h (missing_storeComm s) (u := commStore s.turned)
    ((commOnly_pos (s := s.turned) ho _).trans (need_pos _ (by decide) _ _)) (onlyObjs_refl (commStore s.turned) []).settled

theorem storeComm_range (ho : ownerOf p = s.steward ∨ p = 32) (v : Slot) (hv : v ≠ 0x65766173) :
    Answers (.storeComm p v) s fun t => Rejected s t p O.STORE_COMM 2 .range :=
  rejected_access (exec_storeComm s p v) h (missing_storeComm s)
    ((commOnly_pos (s := s.turned) ho _).trans (need_neg (beq_false_of_ne hv) _ _))

theorem storeComm_refused (ho : ownerOf p ≠ s.steward) (hp : p ≠ 32) (v : Slot) : Answers (.storeComm p v) s fun t =>
    Rejected s t p O.STORE_COMM 2 .noPermission :=
  rejected_access (exec_storeComm s p v) h (missing_storeComm s) (commOnly_neg (s := s.turned) ho hp _)

/-! ### RESTORE_DEFAULTS_COMM -/

omit h in
theorem restoreComm_one (s : State) (p : Nat) (v : Slot) : restoreComm s p 1 v =
    commOnly s p fun s => need (v == 0x64616F6C) .range s fun s => need (!s.storeBusy) .presentState s fun s =>
      .ok { s with can := { s.can with marked := true }, storeMarked := true } := rfl

omit h in
theorem restoreComm_two (s : State) (p : Nat) (v : Slot) : restoreComm s p 2 v =
    commOnly s p fun s => need (v == 0x64616F6C) .range s fun s =>
      .ok { s with can := { s.can with marked := true } } := rfl

theorem restoreComm_marks (ho : ownerOf p = s.steward ∨ p = 32) : Answers (.restoreDefaultsComm p 2 0x64616F6C) s fun t =>
    OnlyObjs [] { s with can := { s.can with marked := true } } t :=
  answers_access (exec_restoreDefaultsComm s p 2 _) h (missing_restoreComm s (Or.inr rfl))
    (u := { s.turned with can := { s.can with marked := true } })
    ((restoreComm_two s.turned p _).trans <| (commOnly_pos (s := s.turned) ho _).trans (need_pos _ (by decide) _ _))
    (onlyObjs_refl { s.turned with can := { s.can with marked := true } } []).settled

theorem restoreComm_range (ho : ownerOf p = s.steward ∨ p = 32) (v : Slot) (hv : v ≠ 0x64616F6C) :
    Answers (.restoreDefaultsComm p 2 v) s fun t => Rejected s t p (0x101100 + 2) 2 .range :=
  rejected_access (exec_restoreDefaultsComm s p 2 v) h (missing_restoreComm s (Or.inr rfl))
    ((restoreComm_two s.turned p _).trans <| (commOnly_pos (s := s.turned) ho _).trans (need_neg (beq_false_of_ne hv) _ _))

theorem restoreComm_refused (ho : ownerOf p ≠ s.steward) (hp : p ≠ 32) (k : Nat) (v : Slot) (hk : k = 1 ∨ k = 2) :
    Answers (.restoreDefaultsComm p k v) s fun t => Rejected s t p (0x101100 + k) 2 .noPermission := by
  refine rejected_access (exec_restoreDefaultsComm s p k v) h (missing_restoreComm s hk) ?_
  obtain rfl | rfl := hk
  · exact (restoreComm_one s.turned p v).trans (commOnly_neg (s := s.turned) ho hp _)
  · exact (restoreComm_two s.turned p v).trans (commOnly_neg (s := s.turned) ho hp _)

theorem restoreBoth_marks (ho : ownerOf p = s.steward ∨ p = 32) (hb : s.storeBusy = false) :
    Answers (.restoreDefaultsComm p 1 0x64616F6C) s fun t =>
      OnlyObjs [] { s with can := { s.can with marked := true }, storeMarked := true } t := by
  have hb' : (!s.turned.storeBusy) = true := by
    change (!s.storeBusy) = true
    rw [hb]; rfl
  exact answers_access (exec_restoreDefaultsComm s p 1 _) h (missing_restoreComm s (Or.inl rfl))
    (u := { s.turned with can := { s.can with marked := true }, storeMarked := true })
    ((restoreComm_one s.turned p _).trans <| (commOnly_pos (s := s.turned) ho _).trans ((need_pos _ (by decide) _ _).trans (need_pos _ hb' _ _)))
    (onlyObjs_refl { s.turned with can := { s.can with marked := true }, storeMarked := true } []).settled

theorem restoreBoth_busy (ho : ownerOf p = s.steward ∨ p = 32) (hb : s.storeBusy = true) :
    Answers (.restoreDefaultsComm p 1 0x64616F6C) s fun t => Rejected s t p (0x101100 + 1) 2 .presentState := by
  have hb' : (!s.turned.storeBusy) = false := by
    change (!s.storeBusy) = false
    rw [hb]; rfl
  exact rejected_access (exec_restoreDefaultsComm s p 1 _) h (missing_restoreComm s (Or.inl rfl))
    ((restoreComm_one s.turned p _).trans <| (commOnly_pos (s := s.turned) ho _).trans ((need_pos _ (by decide) _ _).trans (need_neg hb' _ _)))

end

/-- Settles O53: initiates and segments by the session they meet, the stores and restores as accesses. -/
theorem transfers : Obligations.Transfers := by
  unfold Obligations.Transfers
  refine ⟨fun s i sub hc => ⟨fun hr => (initiate_restart hc hr).1, fun hr => (initiate_restart hc hr).2,
      fun hr hu => initiate_busy hc hr hu, fun hr hu => ⟨fun size data => download_long hc hr hu,
        fun size data => download_opens hc hr hu, fun size data u hsize hlen => download_ok hc hr hu hsize hlen,
        fun size data u a hsize hlen => download_error hc hr hu hsize hlen, fun u bs => upload_short hc hr hu,
        fun u bs => upload_long hc hr hu, fun u a => upload_error hc hr hu⟩⟩,
    fun s u hu hc hr => ⟨fun data => downloadSegment_goes hu hc hr, fun data last => downloadSegment_mislaid hu hc hr,
      fun data v => downloadSegment_last hu hc hr, uploadSegment_goes hu hc hr, uploadSegment_last hu hc hr,
      abortReceived_answers hc, sessionTimeout_answers hu⟩,
    fun s u hu hc hr i hi => segment_restart hu hc hr hi, fun s hu i hi => segment_none hu hi,
    fun s p h => ⟨storeAll_begins h, storeAll_busy h, storeAll_refused h, storeAll_range h,
      fun ho => ⟨storeComm_stores h ho, storeComm_range h ho, restoreComm_marks h ho, restoreComm_range h ho⟩,
      fun ho hp => ⟨storeComm_refused h ho hp, restoreComm_refused h ho hp⟩,
      fun ho => ⟨restoreBoth_marks h ho, restoreBoth_busy h ho⟩⟩⟩

end Sys2Proof.Machine
end

section
/-! ## What work in flight that stops can change

A context that leaves Armed or Held closes its segments, ends its decimated epoch, gives up its evaluators and lets its ring go
Idle (R185, R211). Every step of that is stated to change, of the whole state, only what `State.still` leaves aside, of the
objects those of `workObj`, and of the contexts those listed. -/

namespace Sys2Proof.Machine

variable {s t u : State} {cs : List Nat} {c : Nat}

/-- Whether, beside all that is left, capture memory, the dies and the inputs are as before. -/
structure KeepFields where
  mem : Bool
  dies : Bool
  inputs : Bool

/-- What `K` names is the same in both. -/
def KeepFields.Same (K : KeepFields) (s t : State) : Prop :=
  (K.mem = true → t.mem = s.mem) ∧ (K.dies = true → t.dies = s.dies) ∧ (K.inputs = true → t.inputs = s.inputs)

theorem KeepFields.same_refl (K : KeepFields) (s : State) : K.Same s s := ⟨fun _ => rfl, fun _ => rfl, fun _ => rfl⟩

theorem KeepFields.Same.trans {K : KeepFields} (h : K.Same s t) (h' : K.Same t u) : K.Same s u :=
  ⟨fun hk => (h'.1 hk).trans (h.1 hk), fun hk => (h'.2.1 hk).trans (h.2.1 hk), fun hk => (h'.2.2 hk).trans (h.2.2 hk)⟩

/-- The three as before. -/
theorem KeepFields.same_of (K : KeepFields) (hm : t.mem = s.mem) (hd : t.dies = s.dies) (hi : t.inputs = s.inputs) : K.Same s t :=
  ⟨fun _ => hm, fun _ => hd, fun _ => hi⟩

variable {K : KeepFields}

/-- A die without the mark of a wear-out boundary. -/
def Die.still (x : Die) : Die := { x with wearNow := false }

/-- An input without the state of its ring. -/
def Input.still (x : Input) : Input := { x with ring := .idle, epochs := [], discNext := false, discAt := [] }

/-- The state without what work in flight of a context changes as it stops. -/
def State.still (s : State) : State :=
  { s.body with
    ctxs := [], allocs := [], mem := [], halves := [], hbm := []
    cal := { s.cal with boundary := none }
    dies := s.dies.map Die.still
    inputs := s.inputs.map Input.still
    faults := { s.faults with capture := none } }

theorem still_of_body (h : t.body = s.body) : t.still = s.still :=
  congrArg (fun b : State => { b with
    ctxs := [], allocs := [], mem := [], halves := [], hbm := []
    cal := { b.cal with boundary := none }
    dies := b.dies.map Die.still
    inputs := b.inputs.map Input.still
    faults := { b.faults with capture := none } }) h

/-- The objects of a context, and by their low 16 bits those of a ring, that such work writes. -/
def workObj (k : Nat) : Bool :=
  [O.CTX_STATUS, O.CTX_STATE_TM, O.CTX_SUSPEND_CAUSE, O.TRIG_LATENCY, O.SEG_REVOKED_COUNT, O.ASSAY_STATUS, O.ASSAY_ABSENT].contains k
    || [0x4009, 0x400B, 0x400C].contains (k % 65536)

/-- Between `s` and `t` work in flight of the contexts in `cs` has stopped, and nothing else has changed. -/
structure Worked (K : KeepFields) (cs : List Nat) (s t : State) : Prop where
  still : t.still = s.still
  dev : t.dev = s.dev
  objs : ∀ i k, k < 2 ^ 24 → workObj k = false → k ∉ settleObjs → t.obj i k = s.obj i k
  others : ∀ d, d ∉ cs → t.ctx d = s.ctx d
  same : K.Same s t

theorem worked_refl (cs : List Nat) (s : State) : Worked K cs s s := ⟨rfl, rfl, fun _ _ _ _ _ => rfl, fun _ _ => rfl, K.same_refl s⟩

theorem Worked.trans (h : Worked K cs s t) (h' : Worked K cs t u) : Worked K cs s u :=
  ⟨h'.still.trans h.still, h'.dev.trans h.dev, fun i k hk hw hs => (h'.objs i k hk hw hs).trans (h.objs i k hk hw hs),
    fun d hd => (h'.others d hd).trans (h.others d hd), h.same.trans h'.same⟩

theorem Worked.mono {cs' : List Nat} (h : Worked K cs s t) (hs : ∀ x ∈ cs, x ∈ cs') : Worked K cs' s t :=
  ⟨h.still, h.dev, h.objs, fun d hd => h.others d fun hx => hd (hs d hx), h.same⟩

/-- A change of what `State.still` leaves aside, but for the contexts. -/
theorem worked_aside (h : t.still = s.still) (hd : t.dev = s.dev) (ho : ∀ i k, t.obj i k = s.obj i k) (hc : t.ctxs = s.ctxs)
    (hk : K.Same s t) : Worked K cs s t :=
  ⟨h, hd, fun i k _ _ _ => ho i k, fun d _ => by rw [State.ctx, State.ctx, hc], hk⟩

theorem worked_setCtx (hc : c ∈ cs) (s : State) (x : Ctx) : Worked K cs s (s.setCtx c x) :=
  ⟨rfl, rfl, fun _ _ _ _ _ => rfl, fun d hd => by
    rw [State.ctx_setCtx, if_neg]
    rintro rfl
    exact hd hc, K.same_refl _⟩

theorem worked_modCtx (hc : c ∈ cs) (s : State) (f : Ctx → Ctx) : Worked K cs s (s.modCtx c f) := by
  unfold State.modCtx
  split
  · exact worked_setCtx hc s _
  · exact worked_refl cs s

theorem worked_setObj_of {c o : Nat} (h : ∀ i k, k < 2 ^ 24 → workObj k = false → objKey i k ≠ objKey c o) (s : State) (v : Slot) :
    Worked K cs s (s.setObj c o v) :=
  ⟨rfl, rfl, fun i k hk hw _ => State.obj_setObj_ne _ _ _ _ _ _ (h i k hk hw), fun _ _ => rfl, K.same_refl _⟩

/-- An object of a context that such work writes. -/
theorem worked_setObj {o : Nat} (h24 : o < 2 ^ 24) (ho : workObj o = true) (s : State) (c : Nat) (v : Slot) :
    Worked K cs s (s.setObj c o v) := by
  refine worked_setObj_of (fun i k hk hw he => ?_) s v
  have hko : k = o := by
    simp only [objKey] at he
    omega
  rw [hko, ho] at hw
  exact absurd hw (by decide)

/-- An object of a ring that such work writes, of whatever input. -/
theorem worked_setObj_ring {o : Nat} (ho : [0x4009, 0x400B, 0x400C].contains (o % 65536) = true) (s : State) (c n : Nat) (v : Slot) :
    Worked K cs s (s.setObj c (inObj o n) v) := by
  refine worked_setObj_of (fun i k _ hw he => ?_) s v
  have hlow : k % 65536 = o % 65536 := by
    simp only [objKey, inObj] at he
    omega
  rw [workObj, hlow, ho, Bool.or_true] at hw
  exact absurd hw (by decide)

theorem worked_pulse (s : State) (a b n : Nat) : Worked K cs s (pulse s a b n) := by
  refine ⟨still_of_body (pulse_body s a b n), pulse_dev s a b n, fun i k hk _ hs => obj_pulse_of s a b n i k hk hs, fun d _ => ?_,
    K.same_of (pulse_mem s a b n) (pulse_dies s a b n) (pulse_inputs s a b n)⟩
  rw [State.ctx, State.ctx, pulse_ctxs]

theorem worked_ite {b : Prop} [Decidable b] (ht : Worked K cs s t) (hu : Worked K cs s u) : Worked K cs s (if b then t else u) := by
  split
  · exact ht
  · exact hu

theorem worked_foldl {α : Type} (l : List α) (f : State → α → State) (hf : ∀ v x, Worked K cs v (f v x)) (s : State) :
    Worked K cs s (l.foldl f s) := by
  induction l generalizing s with
  | nil => exact worked_refl cs s
  | cons x l ih => exact (hf s x).trans (ih (f s x))

theorem worked_setDie (hd : K.dies = false) {d : Nat} {x : Die} (h : x.still = (s.die d).still) : Worked K cs s (s.setDie d x) := by
  refine worked_aside ?_ rfl (fun _ _ => rfl) rfl
    ⟨fun _ => rfl, fun h => absurd (hd.symm.trans h) (by decide), fun _ => rfl⟩
  have hdies : (s.dies.set d x).map Die.still = s.dies.map Die.still := map_set_same Die.still _ d {} x h
  have heq : (s.setDie d x).still = { s.still with dies := (s.dies.set d x).map Die.still } := rfl
  rw [heq, hdies]
  rfl

theorem worked_setInput (hi : K.inputs = false) {n : Nat} {x : Input} (h : x.still = (s.input n).still) : Worked K cs s (s.setInput n x) := by
  refine worked_aside ?_ rfl (fun _ _ => rfl) rfl
    ⟨fun _ => rfl, fun _ => rfl, fun h => absurd (hi.symm.trans h) (by decide)⟩
  have hins : (s.inputs.set n x).map Input.still = s.inputs.map Input.still := map_set_same Input.still _ n {} x h
  have heq : (s.setInput n x).still = { s.still with inputs := (s.inputs.set n x).map Input.still } := rfl
  rw [heq, hins]
  rfl

/-! ### Stores to capture memory -/

theorem worked_setHalf (s : State) (d : Nat) (h : HalfCtl) : Worked K cs s (s.setHalf d h) := worked_aside rfl rfl (fun _ _ => rfl) rfl (K.same_refl _)

theorem worked_wakePc (s : State) (d pc : Nat) : Worked K cs s (wakePc s d pc) := by
  unfold wakePc exitSelfRefresh holdSteps
  split
  · dsimp only
    split
    · exact worked_aside rfl rfl (fun _ _ => rfl) rfl (K.same_refl _)
    · exact worked_refl cs s
  · exact worked_refl cs s

theorem worked_withMem (hm : K.mem = false) (s : State) (m : List Host.Cell) : Worked K cs s { s with mem := m } :=
  worked_aside rfl rfl (fun _ _ => rfl) rfl ⟨fun h => absurd (hm.symm.trans h) (by decide), fun _ => rfl, fun _ => rfl⟩

theorem worked_markWritten (hm : K.mem = false) (s : State) (d n : Nat) : Worked K cs s (markWritten s d n) := by
  unfold markWritten
  dsimp only
  split
  · exact (worked_withMem hm s _).trans (worked_setHalf _ _ _)
  · exact worked_refl cs s

theorem worked_unpoison (s : State) (a : Nat) : Worked K cs s (unpoison s a) := by
  unfold unpoison
  dsimp only
  split
  · exact worked_setHalf s _ _
  · exact worked_refl cs s

theorem worked_rtServed (s : State) (d pc : Nat) : Worked K cs s (rtServed s d pc) := by
  unfold rtServed
  split
  · exact worked_setHalf s _ _
  · exact worked_refl cs s

theorem worked_storePart (hm : K.mem = false) (s : State) (p : Nat × List Byte) : Worked K cs s (storePart s p) := by
  unfold storePart
  split
  · exact worked_refl cs s
  · dsimp only
    have hmark := (worked_wakePc (cs := cs) s (p.1 / halfBytes)
      (unitPc ((s.half (p.1 / halfBytes)).writeUnit (p.1 % halfBytes / 64)))).trans (worked_markWritten hm _ (p.1 / halfBytes)
        (p.1 % halfBytes / 64))
    generalize markWritten (wakePc s (p.1 / halfBytes) (unitPc ((s.half (p.1 / halfBytes)).writeUnit (p.1 % halfBytes / 64))))
      (p.1 / halfBytes) (p.1 % halfBytes / 64) = w at hmark ⊢
    split
    · exact (hmark.trans (worked_withMem hm _ _)).trans (worked_unpoison _ _)
    · exact hmark.trans (worked_withMem hm _ _)

theorem worked_store (hm : K.mem = false) (s : State) (a : Nat) (bs : List Byte) : Worked K cs s (s.store a bs) :=
  worked_foldl _ _ (fun v p => (worked_storePart hm v p).trans (worked_rtServed _ _ _)) s

theorem worked_putEntry (hm : K.mem = false) (s : State) (c : Nat) (k : AllocKind) (g : Segment) (n : Nat) (bs : List Byte) :
    Worked K cs s (putEntry s c k g n bs) := by
  unfold putEntry
  split
  · exact worked_store hm s _ _
  · exact worked_refl cs s

/-! ### A decimated epoch that ends -/

theorem worked_revoke (hm : K.mem = false) (hc : c ∈ cs) (s : State) (g : Segment) : Worked K cs s (revoke s c g) := by
  unfold revoke
  dsimp only
  simp only [State.countSat_eq, State.flag_eq]
  refine Worked.trans ?_ (worked_pulse _ _ _ _)
  refine Worked.trans ?_ ((worked_setObj (o := O.SEG_REVOKED_COUNT) (by decide) (by decide) _ _ _).trans
    (worked_setObj (o := O.CTX_STATUS) (by decide) (by decide) _ _ _))
  split
  · exact (worked_modCtx hc s _).trans (worked_putEntry hm _ _ _ _ _ _)
  · exact worked_modCtx hc s _

theorem worked_revokeOn (hm : K.mem = false) (hc : c ∈ cs) (n : Nat) (s : State) (g : Segment) : Worked K cs s (revokeOn n s c g) := by
  simp only [revokeOn, State.countSat_eq, State.flag_eq]
  exact (worked_revoke hm hc s g).trans ((worked_setObj_ring (o := O.RING_REVOKES_n) (by decide) _ _ _ _).trans
    (worked_setObj_ring (o := O.RING_STATUS_n) (by decide) _ _ _ _))

theorem worked_decClear (hm : K.mem = false) (hc : c ∈ cs) (s : State) (k q slot : Nat) : Worked K cs s (decClear s c k q slot).1 := by
  unfold decClear
  dsimp only
  split
  · exact worked_refl cs s
  · exact worked_foldl _ _ (fun v g => worked_revokeOn hm hc _ v g) s

theorem worked_padPart (hm : K.mem = false) (hc : c ∈ cs) (s : State) (q own sheets : Nat) (r : DecRing) (e : Epoch) :
    Worked K cs s (padPart s c q own sheets r e) := by
  refine worked_foldl _ _ (fun v i => ?_) s
  dsimp only
  have hclear := worked_decClear hm hc v r.id q ((e.slot + own + i) % e.lines)
  generalize decClear v c r.id q ((e.slot + own + i) % e.lines) = b at hclear ⊢
  obtain ⟨w, _ | _⟩ := b
  · exact hclear
  · exact hclear.trans (worked_store hm w _ _)

theorem worked_decWriteSheet (hm : K.mem = false) (hc : c ∈ cs) (s : State) (q : Nat) :
    Worked K cs s (decWriteSheet s c q).1 := by
  unfold decWriteSheet
  split
  · exact worked_refl cs s
  · split
    · next r e _ _ =>
      dsimp only
      generalize (e.slot + _) % e.lines = slot
      have hclear := worked_decClear hm hc s r.id q slot
      split
      · next v h => rwa [h] at hclear
      · next v h =>
        rw [h] at hclear
        exact hclear.trans ((worked_store hm v _ _).trans (worked_modCtx hc _ _))
    · exact worked_refl cs s

/-- The end of a decimated epoch, also one whose last sheet is written out (R276). -/
theorem worked_endGrid_of (hm : K.mem = false) (hc : c ∈ cs) (s : State) (flush : Bool) :
    Worked K cs s (endGrid s c flush) := by
  unfold endGrid
  split
  · exact worked_refl cs s
  · split
    · next e es r _ _ =>
      refine worked_ite (worked_refl cs s) ?_
      dsimp only
      refine Worked.trans (t := if flush then (List.range e.members.length).foldl (fun s q =>
          let p := (match s.ctx c with | some y => y.dec.parts.getD q {} | none => {})
          if p.points.isEmpty then s else (decWriteSheet s c q).1) s else s) ?_ ?_
      · exact worked_ite (worked_foldl _ _ (fun u q => worked_ite (worked_refl cs u) (worked_decWriteSheet hm hc u q)) s)
          (worked_refl cs s)
      · generalize (if flush then _ else s) = v
        split
        · exact worked_refl cs v
        · exact (worked_foldl _ _ (fun u q => worked_padPart hm hc u q _ _ r e) v).trans (worked_modCtx hc _ _)
    · exact worked_refl cs s

theorem worked_endGrid (hm : K.mem = false) (hc : c ∈ cs) (s : State) : Worked K cs s (endGrid s c false) :=
  worked_endGrid_of hm hc s false

theorem worked_decUnpause (hc : c ∈ cs) (s : State) (n : Nat) : Worked K cs s (decUnpause s c n) := by
  unfold decUnpause
  split
  · exact worked_refl cs s
  · split
    · rw [State.countWrap_eq]
      exact (worked_setCtx hc s _).trans (worked_setObj_ring (o := O.RING_PAUSE_NS_n) (by decide) _ _ _ _)
    · exact worked_refl cs s

/-! ### Segments that close -/

theorem worked_cruFill (hc : c ∈ cs) (s : State) (g : Segment) (w0 : Int) : Worked K cs s (cruFill s c g w0) :=
  worked_modCtx hc s _

theorem worked_dropARec (hc : c ∈ cs) (s : State) (tm : Nat) : Worked K cs s (dropARec s c tm) := worked_modCtx hc s _

/-- A record that counts as one without a block. -/
theorem worked_absent (hc : c ∈ cs) (s : State) (tm : Nat) :
    Worked K cs s (((dropARec s c tm).countSat c O.ASSAY_ABSENT 32).flag c O.ASSAY_STATUS 3) := by
  simp only [State.countSat_eq, State.flag_eq]
  exact (worked_dropARec hc s tm).trans ((worked_setObj (o := O.ASSAY_ABSENT) (by decide) (by decide) _ _ _).trans
    (worked_setObj (o := O.ASSAY_STATUS) (by decide) (by decide) _ _ _))

theorem worked_assayClosed (hc : c ∈ cs) (s : State) (g : Segment) : Worked K cs s (assayClosed s c g) := by
  unfold assayClosed
  split
  · exact worked_refl cs s
  · split
    · exact worked_absent hc s _
    · exact worked_modCtx hc s _

theorem worked_closeBoundary (hd : K.dies = false) (s : State) (c : Nat) : Worked K cs s (closeBoundary s c) := by
  unfold closeBoundary
  dsimp only
  refine Worked.trans (t := if s.cal.st = .pending ∧ s.num O.CAL_APPLY_MODE = 0 ∧
    (s.num O.CAL_PACE_CONTEXT = 0xFFFF ∨ s.num O.CAL_PACE_CONTEXT = c) then
      { s with cal := { s.cal with boundary := some (s.cycle + 48) } } else s) ?_ (worked_foldl _ _ (fun v d => ?_) _)
  · split
    · exact worked_aside rfl rfl (fun _ _ => rfl) rfl (K.same_refl _)
    · exact worked_refl cs s
  · exact worked_ite (worked_setDie hd rfl) (worked_refl cs v)

/-- What the close of segment `g'` of context `c` sets beside the context itself (R195, R196). -/
def closeDone (s : State) (c : Nat) (g' : Segment) (w0 : Int) : State :=
  let s := if g'.flags.testBit 3 then s.flag c O.CTX_STATUS 3 else s
  let s := if g'.flags.testBit 4 || g'.flags.testBit 5 then s.flag c O.CTX_STATUS 2 else s
  closeBoundary (assayClosed (cruFill s c g' w0) c g') c

/-- A context whose segment `g` has closed as `g'`. -/
def Ctx.closed (x : Ctx) (g g' : Segment) : Ctx :=
  { x with
    pending := x.pending.map fun h => if h = g then g' else h
    nextSeq := (x.nextSeq + 1) % 2 ^ 32
    lastEnd := some (max (x.lastEnd.getD 0) g'.endTm) }

/-- The state in which segment `g` of context `c`, held as `x`, has closed as `g'`. -/
def closedAs (s : State) (c : Nat) (x : Ctx) (g g' : Segment) (w0 : Int) : State :=
  closeDone (s.setCtx c (x.closed g g')) c g' w0

theorem exists_of_pair {P : Segment → Prop} {f : Segment → Int → State} (r : Segment × Int) : P r.1 →
    ∃ g w, P g ∧ (match r with | (a, b) => f a b) = f g w := fun h => ⟨r.1, r.2, h, rfl⟩

/-- A segment closes with the next SEQ, whatever it holds. -/
theorem closeSegment_some {x : Ctx} (h : s.ctx c = some x) (g : Segment) (cut : Bool) :
    ∃ g' w0, (g'.closed = true ∧ g'.cut = cut ∧ g'.seq = x.nextSeq ∧ g'.tm = g.tm) ∧
      closeSegment s c g cut = closedAs s c x g g' w0 := by
  unfold closeSegment
  rw [h]
  refine exists_of_pair (f := closedAs s c x g)
    (P := fun g' => g'.closed = true ∧ g'.cut = cut ∧ g'.seq = x.nextSeq ∧ g'.tm = g.tm) _ ?_
  cases s.segEpoch c g with
  | none => exact ⟨rfl, rfl, rfl, rfl⟩
  | some q => exact ⟨rfl, rfl, rfl, rfl⟩

theorem worked_closeDone (hd : K.dies = false) (hc : c ∈ cs) (s : State) (g' : Segment) (w0 : Int) : Worked K cs s (closeDone s c g' w0) := by
  unfold closeDone
  dsimp only
  simp only [State.flag_eq]
  refine Worked.trans ?_ ((worked_cruFill hc _ g' w0).trans ((worked_assayClosed hc _ g').trans (worked_closeBoundary hd _ c)))
  have hcut : Worked K cs s (if g'.flags.testBit 3 = true then s.setObj c O.CTX_STATUS (setBit (s.obj c O.CTX_STATUS) 3) else s) :=
    worked_ite (worked_setObj (by decide) (by decide) _ _ _) (worked_refl cs s)
  exact worked_ite (hcut.trans (worked_setObj (by decide) (by decide) _ _ _)) hcut

theorem worked_closedAs (hd : K.dies = false) (hc : c ∈ cs) (s : State) (x : Ctx) (g g' : Segment) (w0 : Int) : Worked K cs s (closedAs s c x g g' w0) :=
  (worked_setCtx hc s _).trans (worked_closeDone hd hc _ g' w0)

theorem worked_closeSegment (hd : K.dies = false) (hc : c ∈ cs) (s : State) (g : Segment) (cut : Bool) : Worked K cs s (closeSegment s c g cut) := by
  cases h : s.ctx c with
  | none =>
    rw [closeSegment, h]
    exact worked_refl cs s
  | some x =>
    obtain ⟨g', w0, -, heq⟩ := closeSegment_some h g cut
    rw [heq]
    exact worked_closedAs hd hc s x g g' w0

end Sys2Proof.Machine
end

section
/-! ## What a context keeps while its work in flight stops (R188, R211, R274) -/

namespace Sys2Proof.Machine

variable {s t u : State} {c : Nat} {α β : Type} {f : Ctx → α}

/-- The context `c` of `s` is there in `t`, and what `f` takes of it is the same. -/
def CtxKept (f : Ctx → α) (c : Nat) (s t : State) : Prop := ∀ x, s.ctx c = some x → ∃ y, t.ctx c = some y ∧ f y = f x

theorem ctxKept_refl (f : Ctx → α) (c : Nat) (s : State) : CtxKept f c s s := fun x h => ⟨x, h, rfl⟩

theorem CtxKept.trans (h : CtxKept f c s t) (h' : CtxKept f c t u) : CtxKept f c s u := fun x hx => by
  obtain ⟨y, hy, he⟩ := h x hx
  obtain ⟨z, hz, he'⟩ := h' y hy
  exact ⟨z, hz, he'.trans he⟩

/-- What follows from what is kept is kept. -/
theorem CtxKept.map (h : CtxKept f c s t) (g : α → β) : CtxKept (fun x => g (f x)) c s t := fun x hx => by
  obtain ⟨y, hy, he⟩ := h x hx
  exact ⟨y, hy, congrArg g he⟩

theorem ctxKept_same (h : t.ctx c = s.ctx c) : CtxKept f c s t := fun x hx => ⟨x, h.trans hx, rfl⟩

/-- Nothing is asked to be as before. -/
def anyKept : KeepFields := ⟨false, false, false⟩

theorem ctxKept_worked {K : KeepFields} (h : Worked K [] s t) : CtxKept f c s t := ctxKept_same (h.others c List.not_mem_nil)

theorem ctxKept_setCtx {x y : Ctx} (h : s.ctx c = some x) (hf : f y = f x) : CtxKept f c s (s.setCtx c y) := fun x' hx' => by
  obtain rfl : x = x' := Option.some.inj (h.symm.trans hx')
  exact ⟨y, ctx_setCtx_self s c y, hf⟩

theorem ctxKept_modCtx {g : Ctx → Ctx} (s : State) (hf : ∀ x, f (g x) = f x) : CtxKept f c s (s.modCtx c g) := by
  intro x hx
  rw [modCtx_some hx]
  exact ctxKept_setCtx hx (hf x) x hx

theorem ctxKept_ite {b : Prop} [Decidable b] (ht : CtxKept f c s t) (hu : CtxKept f c s u) :
    CtxKept f c s (if b then t else u) := by
  split
  · exact ht
  · exact hu

theorem ctxKept_foldl {γ : Type} (l : List γ) (g : State → γ → State) (hg : ∀ v x, CtxKept f c v (g v x)) (s : State) :
    CtxKept f c s (l.foldl g s) := by
  induction l generalizing s with
  | nil => exact ctxKept_refl f c s
  | cons x l ih => exact (hg s x).trans (ih (g s x))

/-! ### Segments that close -/

/-- A context without its crucible and its records. -/
def Ctx.counted (x : Ctx) : Ctx := { x with assays := [], cru := {} }

/-- A context without what the close of a segment changes. -/
def Ctx.closing (x : Ctx) : Ctx := { x with assays := [], cru := {}, pending := [], nextSeq := 0, lastEnd := none }

theorem ctxKept_absent (s : State) (tm : Nat) :
    CtxKept Ctx.counted c s (((dropARec s c tm).countSat c O.ASSAY_ABSENT 32).flag c O.ASSAY_STATUS 3) :=
  CtxKept.trans (t := dropARec s c tm) (ctxKept_modCtx s fun _ => rfl) (ctxKept_same rfl)

theorem ctxKept_cruFill (s : State) (g : Segment) (w0 : Int) : CtxKept Ctx.counted c s (cruFill s c g w0) :=
  ctxKept_modCtx s fun _ => rfl

theorem ctxKept_flag (s : State) (i k b : Nat) : CtxKept f c s (s.flag i k b) := ctxKept_same rfl

theorem ctxKept_assayClosed (s : State) (g : Segment) : CtxKept Ctx.counted c s (assayClosed s c g) := by
  unfold assayClosed
  split
  · exact ctxKept_refl _ c s
  · split
    · exact ctxKept_absent s _
    · exact ctxKept_modCtx s fun _ => rfl

theorem ctxKept_closeDone (s : State) (g' : Segment) (w0 : Int) : CtxKept Ctx.counted c s (closeDone s c g' w0) := by
  unfold closeDone
  dsimp only
  have hcut : CtxKept Ctx.counted c s (if g'.flags.testBit 3 = true then s.flag c O.CTX_STATUS 3 else s) :=
    ctxKept_ite (ctxKept_flag s _ _ _) (ctxKept_refl _ c s)
  generalize (if g'.flags.testBit 3 = true then s.flag c O.CTX_STATUS 3 else s) = v at hcut ⊢
  have hpart : CtxKept Ctx.counted c s
      (if (g'.flags.testBit 4 || g'.flags.testBit 5) = true then v.flag c O.CTX_STATUS 2 else v) :=
    ctxKept_ite (hcut.trans (ctxKept_flag v _ _ _)) hcut
  generalize (if (g'.flags.testBit 4 || g'.flags.testBit 5) = true then v.flag c O.CTX_STATUS 2 else v) = w at hpart ⊢
  exact hpart.trans ((ctxKept_cruFill w g' w0).trans ((ctxKept_assayClosed _ g').trans
    (ctxKept_worked (worked_closeBoundary (K := anyKept) rfl _ c))))

/-- What a context is after one of its segments has closed. -/
theorem closeSegment_ctx {x : Ctx} (h : s.ctx c = some x) (g : Segment) (cut : Bool) :
    ∃ g' y, (g'.closed = true ∧ g'.cut = cut ∧ g'.seq = x.nextSeq ∧ g'.tm = g.tm) ∧
      (closeSegment s c g cut).ctx c = some y ∧ y.counted = (x.closed g g').counted := by
  obtain ⟨g', w0, hg, heq⟩ := closeSegment_some h g cut
  obtain ⟨y, hy, he⟩ := ctxKept_closeDone (s.setCtx c (x.closed g g')) g' w0 _ (ctx_setCtx_self s c _)
  exact ⟨g', y, hg, by rw [heq]; exact hy, he⟩

theorem counted_pending {x y : Ctx} (h : y.counted = x.counted) : y.pending = x.pending := (congrArg Ctx.pending h :)

theorem counted_closing {x y : Ctx} (h : y.counted = x.counted) : y.closing = x.closing :=
  (congrArg (fun z : Ctx => { z with pending := [], nextSeq := 0, lastEnd := none }) h :)

theorem closed_closing (x : Ctx) (g g' : Segment) : (x.closed g g').closing = x.closing := rfl

/-- Closing the segments of a list leaves none of them open, and their number as it is. -/
theorem closeEach_ctx (cut : State → Segment → Bool) (l : List Segment) {x : Ctx} (h : s.ctx c = some x)
    (hl : ∀ g ∈ x.pending, g.closed = true ∨ g ∈ l) :
    ∃ y, (l.foldl (fun s g => closeSegment s c g (cut s g)) s).ctx c = some y ∧ y.closing = x.closing ∧
      (∀ g ∈ y.pending, g.closed = true) ∧ y.pending.length = x.pending.length := by
  induction l generalizing s x with
  | nil => exact ⟨x, h, rfl, fun g hg => (hl g hg).resolve_right List.not_mem_nil, rfl⟩
  | cons a l ih =>
    obtain ⟨g', y, ⟨hclosed, -, -, -⟩, hy, he⟩ := closeSegment_ctx h a (cut s a)
    have hpending : y.pending = x.pending.map fun g => if g = a then g' else g := counted_pending he
    obtain ⟨z, hz, hzc, hall, hlen⟩ := ih hy fun g hg => by
      rw [hpending, List.mem_map] at hg
      obtain ⟨k, hk, rfl⟩ := hg
      by_cases hka : k = a
      · rw [if_pos hka]
        exact Or.inl hclosed
      · rw [if_neg hka]
        exact (hl k hk).imp id fun hm => (List.mem_cons.mp hm).resolve_left hka
    refine ⟨z, hz, hzc.trans ((counted_closing he).trans (closed_closing x a g')), hall, hlen.trans ?_⟩
    rw [hpending, List.length_map]

/-- Segments under way are discarded, and the open ones close. -/
theorem cutOpen_ctx {x : Ctx} (h : s.ctx c = some x) : ∃ y, (cutOpen s c).ctx c = some y ∧ y.closing = x.closing ∧
    (∀ g ∈ y.pending, g.closed = true) ∧ y.pending.length = x.pending.length := by
  unfold cutOpen
  rw [h]
  refine closeEach_ctx (fun s g => !s.segComplete c g) _ h fun g hg => ?_
  by_cases hc : g.closed = true
  · exact Or.inl hc
  · exact Or.inr (List.mem_filter.mpr ⟨hg, by simpa using hc⟩)

theorem discardUnreached_ctx {x : Ctx} (h : s.ctx c = some x) : (discardUnreached s c).ctx c =
    some { x with pending := x.pending.filter fun g => g.reached || g.closed } := by
  rw [discardUnreached, modCtx_some h, ctx_setCtx_self]

/-! ### The decimated epoch that ends -/

/-- A context without its decimator and its table, and which of its segments have closed. -/
def Ctx.offGrid (x : Ctx) : Ctx × List Bool := ({ x with dec := {}, table := [], pending := [] }, x.pending.map Segment.closed)

theorem ctxKept_revoke (s : State) (g : Segment) : CtxKept Ctx.offGrid c s (revoke s c g) := by
  unfold revoke
  dsimp only
  have hmark : CtxKept Ctx.offGrid c s (s.modCtx c fun x => { x with
      table := x.table.map fun h => if h = g then { h with revoked := true } else h
      pending := x.pending.map fun h => if h = g then { h with revoked := true } else h }) := by
    refine ctxKept_modCtx s fun x => Prod.ext rfl ?_
    refine (List.map_map ..).trans (List.map_congr_left fun h _ => ?_)
    change Segment.closed (if h = g then { h with revoked := true } else h) = h.closed
    split
    · rfl
    · rfl
  generalize s.modCtx c _ = v at hmark ⊢
  have hput : CtxKept Ctx.offGrid c s (if ((v.held c g.seq).any fun h => h.tm == g.tm) = true then
      putDescriptor v c { g with revoked := true } else v) :=
    ctxKept_ite (hmark.trans (ctxKept_worked (worked_putEntry (K := anyKept) rfl v c _ _ _ _))) hmark
  generalize (if ((v.held c g.seq).any fun h => h.tm == g.tm) = true then putDescriptor v c { g with revoked := true }
    else v) = w at hput ⊢
  exact hput.trans (CtxKept.trans (t := (w.countSat c O.SEG_REVOKED_COUNT 32).flag c O.CTX_STATUS 4) (ctxKept_same rfl)
    (ctxKept_worked (worked_pulse (K := anyKept) _ _ _ _)))

theorem ctxKept_revokeOn (n : Nat) (s : State) (g : Segment) : CtxKept Ctx.offGrid c s (revokeOn n s c g) :=
  (ctxKept_revoke s g).trans (ctxKept_same rfl)

theorem ctxKept_decClear (s : State) (k q slot : Nat) : CtxKept Ctx.offGrid c s (decClear s c k q slot).1 := by
  unfold decClear
  dsimp only
  split
  · exact ctxKept_refl _ c s
  · exact ctxKept_foldl _ _ (fun v g => ctxKept_revokeOn _ v g) s

theorem ctxKept_padPart (s : State) (q own sheets : Nat) (r : DecRing) (e : Epoch) :
    CtxKept Ctx.offGrid c s (padPart s c q own sheets r e) := by
  refine ctxKept_foldl _ _ (fun v i => ?_) s
  dsimp only
  have hclear := ctxKept_decClear (c := c) v r.id q ((e.slot + own + i) % e.lines)
  generalize decClear v c r.id q ((e.slot + own + i) % e.lines) = b at hclear ⊢
  obtain ⟨w, _ | _⟩ := b
  · exact hclear
  · exact hclear.trans (ctxKept_worked (worked_store (K := anyKept) rfl w _ _))

theorem ctxKept_endGrid (s : State) : CtxKept Ctx.offGrid c s (endGrid s c false) := by
  unfold endGrid
  split
  · exact ctxKept_refl _ c s
  · split
    · split
      · exact ctxKept_refl _ c s
      · dsimp only
        split
        · exact ctxKept_refl _ c s
        · exact (ctxKept_foldl _ _ (fun v q => ctxKept_padPart v q _ _ _ _) s).trans (ctxKept_modCtx _ fun _ => rfl)
    · exact ctxKept_refl _ c s

/-- Every epoch of a context's decimator has ended. -/
def Ctx.gridEnded (x : Ctx) : Prop := ∀ e ∈ x.dec.epochs, e.open_ = false

theorem endGrid_ended {x : Ctx} (h : s.ctx c = some x) (he : x.gridEnded) (flush : Bool) : endGrid s c flush = s := by
  unfold endGrid
  rw [h]
  dsimp only
  split
  next e es r hep _ => exact if_pos (he e (by rw [hep]; exact List.mem_cons_self))
  · rfl

/-- A context without its decimator. -/
def Ctx.undecimated (x : Ctx) : Ctx := { x with dec := {} }

theorem ctxKept_decUnpause (s : State) (n : Nat) : CtxKept Ctx.undecimated c s (decUnpause s c n) := by
  unfold decUnpause
  split
  · exact ctxKept_refl _ c s
  · next x hx =>
    split
    · have hset := ctxKept_setCtx (f := Ctx.undecimated) (y := { x with
        dec := { x.dec with paused := false, freeAt := none, discAt := n * 480 :: x.dec.discAt } }) hx rfl
      exact hset.trans (ctxKept_same rfl)
    · exact ctxKept_refl _ c s

/-! ### Work that stops -/

/-- A context without what the end of its work changes, but for its records. -/
def Ctx.stopped (x : Ctx) : Ctx :=
  { x with cru := {}, pending := [], nextSeq := 0, lastEnd := none, dec := {}, table := [], assays := [] }

/-- What stays of a context whose work stops. -/
structure StoppedFrom (x y : Ctx) : Prop where
  rest : y.stopped = x.stopped
  closed : ∀ g ∈ y.pending, g.closed = true
  none : x.pending = [] → y.pending = []
  table : x.gridEnded → y.table = x.table

theorem stopWork_ctx {x : Ctx} (h : s.ctx c = some x) : ∃ y, (stopWork s c).ctx c = some y ∧ StoppedFrom x y := by
  obtain ⟨y, hy, hyc, hall, hlen⟩ := cutOpen_ctx (discardUnreached_ctx h)
  have hdec : y.dec = x.dec := (congrArg Ctx.dec hyc :)
  have htab : y.table = x.table := (congrArg Ctx.table hyc :)
  obtain ⟨z, hz, hzg⟩ := ctxKept_endGrid (cutOpen (discardUnreached s c) c) y hy
  have hzt : x.gridEnded → z.table = x.table := fun he => by
    rw [endGrid_ended hy (by rwa [Ctx.gridEnded, hdec])] at hz
    obtain rfl : y = z := Option.some.inj (hy.symm.trans hz)
    exact htab
  obtain ⟨w, hw, hwd⟩ := ctxKept_decUnpause (endGrid (cutOpen (discardUnreached s c) c) c false) s.now z hz
  have hpending : w.pending = z.pending := (congrArg Ctx.pending hwd :)
  have hflags : z.pending.map Segment.closed = y.pending.map Segment.closed := congrArg Prod.snd hzg
  refine ⟨{ w with dec := { w.dec with restart := true } }, by rw [stopWork, modCtx_some hw, ctx_setCtx_self], ?_, ?_, ?_, ?_⟩
  · have h1 : w.stopped = z.stopped :=
      (congrArg (fun v : Ctx => { v with cru := {}, pending := [], nextSeq := 0, lastEnd := none, table := [], assays := [] }) hwd :)
    have h2 : z.stopped = y.stopped :=
      (congrArg (fun v : Ctx × List Bool => { v.1 with cru := {}, nextSeq := 0, lastEnd := none, assays := [] }) hzg :)
    have h3 : y.stopped = x.stopped := (congrArg (fun v : Ctx => { v with dec := {}, table := [] }) hyc :)
    exact h1.trans (h2.trans h3)
  · have hclosed : ∀ b ∈ w.pending.map Segment.closed, b = true := by
      rw [hpending, hflags]
      intro b hb
      obtain ⟨g, hg, rfl⟩ := List.mem_map.mp hb
      exact hall g hg
    exact fun g hg => hclosed _ (List.mem_map_of_mem hg)
  · intro hnil
    have hlen' : w.pending.length = y.pending.length := by
      rw [hpending, ← List.length_map Segment.closed, hflags, List.length_map]
    exact List.eq_nil_of_length_eq_zero (by rw [hlen', hlen, hnil]; rfl)
  · intro he
    have hwz : w.table = z.table := (congrArg Ctx.table hwd :)
    exact hwz.trans (hzt he)

/-- What stays of a context whose work is abandoned: its records have ended or have no lanes. -/
structure AbandonedFrom (x y : Ctx) : Prop extends StoppedFrom x y where
  records : ∀ r ∈ y.assays, r.ended = true ∨ r.lanes = []

/-- A context without its records. -/
def Ctx.unrecorded (x : Ctx) : Ctx := { x with assays := [] }

/-- The records of a list count as without a block and are gone. -/
theorem absentEach_ctx (l : List ARec) {x : Ctx} (h : s.ctx c = some x) :
    ∃ y, (l.foldl (fun s r => ((dropARec s c r.tm).countSat c O.ASSAY_ABSENT 32).flag c O.ASSAY_STATUS 3) s).ctx c = some y ∧
      y.unrecorded = x.unrecorded ∧ ∀ q ∈ y.assays, q ∈ x.assays ∧ ∀ r ∈ l, q.tm ≠ r.tm := by
  induction l generalizing s x with
  | nil => exact ⟨x, h, rfl, fun q hq => ⟨hq, fun r hr => absurd hr List.not_mem_nil⟩⟩
  | cons a l ih =>
    have hdrop : (((dropARec s c a.tm).countSat c O.ASSAY_ABSENT 32).flag c O.ASSAY_STATUS 3).ctx c =
        some { x with assays := x.assays.filter fun r => r.tm != a.tm } :=
      (congrArg (State.ctx · c) (modCtx_some h) : (dropARec s c a.tm).ctx c = _).trans (ctx_setCtx_self s c _)
    obtain ⟨y, hy, hyu, hall⟩ := ih hdrop
    refine ⟨y, hy, hyu, fun q hq => ?_⟩
    obtain ⟨hmem, hne⟩ := hall q hq
    obtain ⟨hm, hqa⟩ := List.mem_filter.mp hmem
    refine ⟨hm, fun r hr => ?_⟩
    obtain rfl | hr := List.mem_cons.mp hr
    · simpa using hqa
    · exact hne r hr

theorem abandonAssays_ctx {x : Ctx} (h : s.ctx c = some x) : ∃ y, (abandonAssays s c).ctx c = some y ∧
    y.unrecorded = x.unrecorded ∧ ∀ r ∈ y.assays, r.ended = true ∨ r.lanes = [] := by
  unfold abandonAssays
  rw [h]
  obtain ⟨y, hy, hyu, hall⟩ := absentEach_ctx (x.assays.filter fun r => !r.ended && !r.lanes.isEmpty) h
  refine ⟨y, hy, hyu, fun r hr => ?_⟩
  obtain ⟨hm, hne⟩ := hall r hr
  by_contra hcon
  rw [not_or] at hcon
  exact hne r (List.mem_filter.mpr ⟨hm, by simpa using hcon⟩) rfl

theorem abandonWork_ctx {x : Ctx} (h : s.ctx c = some x) : ∃ y, (abandonWork s c).ctx c = some y ∧ AbandonedFrom x y := by
  obtain ⟨y, hy, hs⟩ := stopWork_ctx h
  obtain ⟨z, hz, hzu, hrec⟩ := abandonAssays_ctx hy
  have hpending : z.pending = y.pending := (congrArg Ctx.pending hzu :)
  have htable : z.table = y.table := (congrArg Ctx.table hzu :)
  have hrest : z.stopped = y.stopped :=
    (congrArg (fun v : Ctx => { v with cru := {}, pending := [], nextSeq := 0, lastEnd := none, dec := {}, table := [] }) hzu :)
  have hstopped : StoppedFrom x z := ⟨hrest.trans hs.rest, by rw [hpending]; exact hs.closed,
    fun hn => hpending.trans (hs.none hn), fun he => htable.trans (hs.table he)⟩
  exact ⟨z, hz, hstopped, hrec⟩

end Sys2Proof.Machine
end

section
/-! ## Suspensions (R179, R211, R213, R615)

What a suspension leaves of the whole state (`Worked`), and what it makes of the context it reaches. -/

namespace Sys2Proof.Machine

variable {s t u : State} {cs : List Nat} {c : Nat} {K : KeepFields}

/-! ### What stopped work changes -/

/-- No segment of a context is open. -/
def Ctx.noneOpen (x : Ctx) : Prop := ∀ g ∈ x.pending, g.closed = true

theorem cutOpen_none {x : Ctx} (h : s.ctx c = some x) (hn : x.noneOpen) : cutOpen s c = s := by
  have hnil : (x.pending.filter fun g => !g.closed) = [] := by
    rw [List.filter_eq_nil_iff]
    intro g hg
    simp [hn g hg]
  unfold cutOpen
  rw [h]
  dsimp only
  rw [hnil, List.foldl_nil]

theorem worked_cutOpen {x : Ctx} (h : s.ctx c = some x) (hd : K.dies = false ∨ x.noneOpen) (hc : c ∈ cs) :
    Worked K cs s (cutOpen s c) := by
  rcases hd with hd | hn
  · unfold cutOpen
    split
    · exact worked_refl cs s
    · exact worked_foldl _ _ (fun v g => worked_closeSegment hd hc v g _) s
  · rw [cutOpen_none h hn]
    exact worked_refl cs s

theorem worked_stopWork {x : Ctx} (h : s.ctx c = some x) (hm : K.mem = false ∨ x.gridEnded) (hd : K.dies = false ∨ x.noneOpen)
    (hc : c ∈ cs) : Worked K cs s (stopWork s c) := by
  have hdiscard : Worked K cs s (discardUnreached s c) := worked_modCtx hc s _
  have hcut : Worked K cs (discardUnreached s c) (cutOpen (discardUnreached s c) c) :=
    worked_cutOpen (discardUnreached_ctx h) (hd.imp id fun hn g hg => hn g (List.mem_of_mem_filter hg)) hc
  have hgrid : Worked K cs (cutOpen (discardUnreached s c) c) (endGrid (cutOpen (discardUnreached s c) c) c false) := by
    rcases hm with hm | he
    · exact worked_endGrid hm hc _
    · obtain ⟨y, hy, hyc, -⟩ := cutOpen_ctx (discardUnreached_ctx h)
      have hdec : y.dec = x.dec := (congrArg Ctx.dec hyc :)
      rw [endGrid_ended hy (by rwa [Ctx.gridEnded, hdec])]
      exact worked_refl cs _
  exact (((hdiscard.trans hcut).trans hgrid).trans (worked_decUnpause hc _ _)).trans (worked_modCtx hc _ _)

theorem worked_abandonAssays (hc : c ∈ cs) (s : State) : Worked K cs s (abandonAssays s c) := by
  unfold abandonAssays
  split
  · exact worked_refl cs s
  · exact worked_foldl _ _ (fun v r => worked_absent hc v _) s

theorem worked_abandonWork {x : Ctx} (h : s.ctx c = some x) (hm : K.mem = false ∨ x.gridEnded)
    (hd : K.dies = false ∨ x.noneOpen) (hc : c ∈ cs) : Worked K cs s (abandonWork s c) :=
  (worked_stopWork h hm hd hc).trans (worked_abandonAssays hc _)

theorem worked_capReleased (s : State) (c : Nat) (qs : List Stream) : Worked K cs s (capReleased s c qs) := by
  unfold capReleased
  split
  · split
    · exact worked_aside rfl rfl (fun _ _ => rfl) rfl (K.same_refl _)
    · exact worked_refl cs s
  · exact worked_refl cs s

theorem worked_unbind (hc : c ∈ cs) (s : State) : Worked K cs s (unbind s c) :=
  ((worked_capReleased s c []).trans (worked_modCtx hc _ _)).trans (worked_setObj (by decide) (by decide) _ _ _)

theorem worked_enterCtx (hc : c ∈ cs) (s : State) (st : CtxSt) : Worked K cs s (enterCtx s c st) := by
  unfold enterCtx
  split
  · rw [State.putTm_eq]
    exact ((worked_setCtx hc s _).trans (worked_setObj (o := O.CTX_STATE_TM) (by decide) (by decide) _ _ _)).trans
      (worked_setObj (o := O.CTX_STATE_TM) (by decide) (by decide) _ _ _)
  · exact worked_refl cs s

theorem worked_endEpoch (hi : K.inputs = false) (s : State) (n : Nat) (r : RingSt) : Worked K cs s (endEpoch s n r) := by
  unfold endEpoch
  dsimp only
  split
  · exact worked_setInput hi rfl
  · exact worked_setInput hi rfl

theorem worked_ringIdle (hi : K.inputs = false) (s : State) (n : Nat) : Worked K cs s (ringIdle s n) := by
  have hpause : Worked K cs s (if (s.input n).ring = .paused then addPause s n s.now else s) := by
    rw [addPause, State.countWrap_eq]
    exact worked_ite (worked_setObj_ring (o := O.RING_PAUSE_NS_n) (by decide) _ _ _ _) (worked_refl cs s)
  exact worked_ite ((hpause.trans (worked_endEpoch hi _ n .idle)).trans (worked_setInput hi rfl)) (hpause.trans (worked_endEpoch hi _ n .idle))

theorem worked_ringSettle (hi : K.inputs = false) (s : State) (n : Nat) : Worked K cs s (ringSettle s n) :=
  worked_ite (worked_refl cs s) (worked_ringIdle hi s n)

theorem worked_enterSuspended (hi : K.inputs = false) (hc : c ∈ cs) (s : State) (cause : Nat) : Worked K cs s (enterSuspended s c cause) := by
  unfold enterSuspended
  dsimp only
  rw [State.flag_eq]
  refine Worked.trans ?_ ((worked_ringSettle hi _ _).trans (worked_pulse _ _ _ _))
  exact ((worked_enterCtx hc s .suspended).trans (worked_modCtx hc _ _)).trans
    ((worked_setObj (o := O.CTX_SUSPEND_CAUSE) (by decide) (by decide) _ _ _).trans
      (worked_setObj (o := O.CTX_STATUS) (by decide) (by decide) _ _ _))

/-! ### The context that is suspended -/

/-- What stays of a context that gives up its evaluators and streams. -/
def Ctx.unbound (x : Ctx) : Ctx :=
  { x with
    evals := [], partners := [], partnerServed := [], streams := [], phase := [], ev := {}, recv := [], late := false
    toCompare := [], levels := [], levelsAt := 0, levelsWait := false, forceAt := none, arming := false
    holdUntil := 0, holdEvents := 0 }

theorem unbind_ctx {x : Ctx} (h : s.ctx c = some x) : (unbind s c).ctx c = some x.unbound := by
  have hrel : (capReleased s c []).ctx c = some x :=
    ((worked_capReleased (K := anyKept) (cs := []) s c []).others c List.not_mem_nil).trans h
  have hmod : (unbind s c).ctx c = ((capReleased s c []).modCtx c Ctx.unbound).ctx c := rfl
  rw [hmod, modCtx_some hrel, ctx_setCtx_self]

theorem enterCtx_ctx {x : Ctx} (h : s.ctx c = some x) (st : CtxSt) : (enterCtx s c st).ctx c =
    some { x with st, busy := none, arming := false, changedIn := none, forceAt := none } := by
  rw [enterCtx, h]
  exact ctx_setCtx_self s c _

/-- A context in Suspended since core cycle `n`. -/
def Ctx.suspendedIn (x : Ctx) (n : Nat) : Ctx :=
  { x with st := .suspended, busy := none, arming := false, armCause := none, changedIn := some n, forceAt := none }

theorem enterSuspended_ctx {x : Ctx} (h : s.ctx c = some x) (cause : Nat) :
    (enterSuspended s c cause).ctx c = some (x.suspendedIn s.cycle) := by
  have hmod : ((enterCtx s c .suspended).modCtx c fun y =>
      { y with armCause := none, changedIn := some s.cycle }).ctx c =
      some (x.suspendedIn s.cycle) := by
    rw [modCtx_some (enterCtx_ctx h _), ctx_setCtx_self]
    rfl
  unfold enterSuspended
  dsimp only
  refine Eq.trans ?_ hmod
  rw [(worked_pulse (K := anyKept) (cs := []) _ _ _ _).others c List.not_mem_nil,
    (worked_ringSettle (K := anyKept) (cs := []) rfl _ _).others c List.not_mem_nil, State.flag_eq, State.ctx, State.ctx,
    State.setObj_ctxs, State.setObj_ctxs]

/-- What a suspension cause makes of a context that it reaches in Armed or Held. -/
structure SuspendedFrom (cause : Nat) (x y : Ctx) : Prop where
  owner : y.owner = x.owner
  evals : y.evals = []
  arming : y.arming = false
  state : y.st = .suspended ∧ y.armCause = none ∨ y.st = x.st ∧ y.armCause = some cause
  none : x.pending = [] → y.st = .suspended ∧ y.armCause = none

theorem beginSuspension_ctx {x : Ctx} (h : s.ctx c = some x) (cause : Nat) :
    ∃ y, (beginSuspension s c cause x).ctx c = some y ∧ SuspendedFrom cause x y := by
  obtain ⟨y, hy, hab⟩ := abandonWork_ctx h
  have howner : y.owner = x.owner := (congrArg Ctx.owner hab.rest :)
  have hst : y.st = x.st := (congrArg Ctx.st hab.rest :)
  have hun := unbind_ctx hy
  unfold beginSuspension
  dsimp only
  generalize unbind (abandonWork s c) c = w at hun ⊢
  rw [hun]
  dsimp only
  split
  · have hsus := enterSuspended_ctx hun cause
    refine ⟨_, by rw [modCtx_some hsus, ctx_setCtx_self], ?_⟩
    exact ⟨howner, rfl, rfl, Or.inl ⟨rfl, rfl⟩, fun _ => ⟨rfl, rfl⟩⟩
  · next hne => exact ⟨_, ctx_setCtx_self w c _, howner, rfl, rfl, Or.inr ⟨hst, rfl⟩, fun hnil => absurd (hab.none hnil) hne⟩

theorem worked_beginSuspension (hm : K.mem = false) (hd : K.dies = false) (hi : K.inputs = false) (hc : c ∈ cs) {x : Ctx} (h : s.ctx c = some x) (cause : Nat) (y : Ctx) :
    Worked K cs s (beginSuspension s c cause y) := by
  have hwork : Worked K cs s (unbind (abandonWork s c) c) :=
    (worked_abandonWork h (Or.inl hm) (Or.inl hd) hc).trans (worked_unbind hc (abandonWork s c))
  unfold beginSuspension
  dsimp only
  generalize unbind (abandonWork s c) c = w at hwork ⊢
  split
  · exact hwork
  · split
    · exact (hwork.trans (worked_enterSuspended hi hc w cause)).trans (worked_modCtx hc _ _)
    · exact hwork.trans (worked_setCtx hc w _)

theorem worked_suspendCtx (hm : K.mem = false) (hd : K.dies = false) (hi : K.inputs = false) (hc : c ∈ cs) (s : State) (cause : Nat) : Worked K cs s (suspendCtx s c cause) := by
  unfold suspendCtx
  split
  · exact worked_refl cs s
  · next x hx =>
    split
    · exact worked_setCtx hc s _
    · split
      · exact worked_ite (worked_setCtx hc s _) (worked_refl cs s)
      · split
        · exact worked_beginSuspension hm hd hi hc hx cause _
        · exact worked_ite (worked_setObj (by decide) (by decide) _ _ _) (worked_refl cs s)

/-- A context that is Suspended, or that a cause takes there once its work is done. -/
def Suspending (y : Ctx) : Prop := y.st = .suspended ∨ y.armCause.isSome = true

theorem suspendCtx_arming {x : Ctx} (h : s.ctx c = some x) (ha : x.arming = true) (cause : Nat) :
    (suspendCtx s c cause).ctx c = some { x with armCause := some (firstCause x.armCause cause) } := by
  rw [suspendCtx, h]
  dsimp only
  rw [if_pos ha, ctx_setCtx_self]

theorem suspendCtx_begins {x : Ctx} (h : s.ctx c = some x) (ha : x.arming = false) (hn : x.armCause = none)
    (hs : s.suspendable x = true) (cause : Nat) : suspendCtx s c cause = beginSuspension s c cause x := by
  rw [suspendCtx, h]
  dsimp only
  rw [if_neg (by simp [ha]), hn]
  dsimp only
  rw [if_pos hs]

theorem suspendable_of {x : Ctx} (h : x.st = .armed ∨ x.st = .held) : s.suspendable x = true := by
  obtain h | h := h <;> simp [State.suspendable, h]

/-- A context that is Armed or Held and that no cause has reached is Suspended, or on the way there. -/
theorem suspendCtx_suspends {x : Ctx} (h : s.ctx c = some x) (hst : x.st = .armed ∨ x.st = .held) (ha : x.arming = false)
    (hn : x.armCause = none) (cause : Nat) : ∃ y, (suspendCtx s c cause).ctx c = some y ∧ SuspendedFrom cause x y := by
  rw [suspendCtx_begins h ha hn (suspendable_of hst)]
  exact beginSuspension_ctx h cause

theorem SuspendedFrom.suspending {cause : Nat} {x y : Ctx} (h : SuspendedFrom cause x y) : Suspending y :=
  h.state.imp And.left fun h => by rw [h.2]; rfl

/-- A further cause leaves a context that is Suspended, or on the way there, so. -/
theorem suspendCtx_stays {x : Ctx} (h : s.ctx c = some x) (hx : Suspending x) (cause : Nat) :
    ∃ y, (suspendCtx s c cause).ctx c = some y ∧ Suspending y ∧ y.arming = x.arming := by
  rw [suspendCtx, h]
  dsimp only
  split
  · exact ⟨_, ctx_setCtx_self s c _, Or.inr rfl, rfl⟩
  · split
    · next k hk =>
      split
      · exact ⟨_, ctx_setCtx_self s c _, Or.inr rfl, rfl⟩
      · exact ⟨x, h, hx, rfl⟩
    · next hk =>
      have hst : x.st = .suspended := hx.resolve_right (by simp [hk])
      have hno : ¬ s.suspendable x = true := by simp [State.suspendable, hst]
      rw [if_neg hno]
      split
      · exact ⟨x, h, hx, rfl⟩
      · exact ⟨x, h, hx, rfl⟩

/-! ### Suspensions of several contexts -/

/-- One cause reaches each context of a list. -/
def suspendEach (s : State) (l : List Nat) (cause : Nat) : State := l.foldl (fun s c => suspendCtx s c cause) s

theorem worked_suspendEach (hm : K.mem = false) (hd : K.dies = false) (hi : K.inputs = false) (l : List Nat) (cause : Nat)
    (s : State) : Worked K l s (suspendEach s l cause) := by
  induction l generalizing s with
  | nil => exact worked_refl _ s
  | cons c l ih =>
    exact (worked_suspendCtx hm hd hi List.mem_cons_self s cause).trans ((ih _).mono fun _ h => List.mem_cons_of_mem c h)

theorem suspendEach_stays (l : List Nat) {x : Ctx} (h : s.ctx c = some x) (hx : Suspending x) (cause : Nat) :
    ∃ y, (suspendEach s l cause).ctx c = some y ∧ Suspending y ∧ y.arming = x.arming := by
  induction l generalizing s x with
  | nil => exact ⟨x, h, hx, rfl⟩
  | cons d l ih =>
    by_cases hd : c = d
    · subst hd
      obtain ⟨y, hy, hys, hya⟩ := suspendCtx_stays h hx cause
      obtain ⟨z, hz, hzs, hza⟩ := ih hy hys
      exact ⟨z, hz, hzs, hza.trans hya⟩
    · exact ih (((worked_suspendCtx (K := anyKept) (cs := [d]) rfl rfl rfl List.mem_cons_self s cause).others c
        (by simpa using hd)).trans h) hx

/-- Another context's suspension leaves a context as it is. -/
theorem suspendCtx_ne {d : Nat} (h : c ≠ d) (cause : Nat) (s : State) : (suspendCtx s d cause).ctx c = s.ctx c :=
  (worked_suspendCtx (K := anyKept) (cs := [d]) rfl rfl rfl List.mem_cons_self s cause).others c (by simpa using h)

theorem suspendEach_arming (l : List Nat) {x : Ctx} (h : s.ctx c = some x) (ha : x.arming = true) (cause : Nat)
    (hx : c ∈ l ∨ x.armCause.isSome = true) :
    ∃ y, (suspendEach s l cause).ctx c = some y ∧ y.arming = true ∧ y.armCause.isSome = true := by
  induction l generalizing s x with
  | nil => exact ⟨x, h, ha, hx.resolve_left List.not_mem_nil⟩
  | cons d l ih =>
    by_cases hd : c = d
    · subst hd
      exact ih (suspendCtx_arming h ha cause) ha (Or.inr rfl)
    · exact ih ((suspendCtx_ne hd cause s).trans h) ha (hx.imp (fun hm => (List.mem_cons.mp hm).resolve_left hd) id)

theorem suspendEach_suspends (l : List Nat) {x : Ctx} (h : s.ctx c = some x) (hst : x.st = .armed ∨ x.st = .held)
    (ha : x.arming = false) (hn : x.armCause = none) (cause : Nat) (hc : c ∈ l) :
    ∃ y, (suspendEach s l cause).ctx c = some y ∧ Suspending y := by
  induction l generalizing s with
  | nil => exact absurd hc List.not_mem_nil
  | cons d l ih =>
    by_cases hd : c = d
    · subst hd
      obtain ⟨y, hy, hs⟩ := suspendCtx_suspends h hst ha hn cause
      obtain ⟨z, hz, hzs, -⟩ := suspendEach_stays l hy hs.suspending cause
      exact ⟨z, hz, hzs⟩
    · exact ih ((suspendCtx_ne hd cause s).trans h) ((List.mem_cons.mp hc).resolve_left hd)

/-- A cause that reaches every bound context suspends them all (R493, R504, R508). -/
theorem suspendEach_suspendsAll {l : List Nat} (hl : ∀ c x, s.ctx c = some x → x.bound = true → c ∈ l) (cause : Nat) :
    SuspendsAll s (suspendEach s l cause) := by
  intro c x h
  refine ⟨fun hst ha hn => suspendEach_suspends l h hst ha hn cause (hl c x h ?_), fun ha => ?_⟩
  · obtain h | h := hst <;> simp [Ctx.bound, h]
  · obtain ⟨y, hy, -, hs⟩ := suspendEach_arming l h ha cause (Or.inl (hl c x h (by simp [Ctx.bound, ha])))
    exact ⟨y, hy, hs⟩

theorem kvGet_mem {α : Type} {l : List (Nat × α)} {k : Nat} {v : α} (h : kvGet l k = some v) : (k, v) ∈ l := by
  induction l with
  | nil => exact absurd h (by simp [kvGet])
  | cons a l ih =>
    obtain ⟨k', v'⟩ := a
    rw [kvGet] at h
    split at h
    · next hk =>
      rw [hk, Option.some.inj h]
      exact List.mem_cons_self
    · exact List.mem_cons_of_mem _ (ih h)

theorem bound_reachable {x : Ctx} (h : s.ctx c = some x) (hb : x.bound = true) : c ∈ s.reachable :=
  List.mem_map.mpr ⟨(c, x), List.mem_filter.mpr ⟨kvGet_mem h, by simp [hb]⟩, rfl⟩

/-- What leaves the contexts as they are leaves them suspended. -/
theorem SuspendsAll.of_ctxs (h : SuspendsAll s t) (hc : ∀ c, u.ctx c = t.ctx c) : SuspendsAll s u := by
  intro c x hx
  obtain ⟨h1, h2⟩ := h c x hx
  refine ⟨fun hst ha hn => ?_, fun ha => ?_⟩
  · rw [hc]
    exact h1 hst ha hn
  · rw [hc]
    exact h2 ha

end Sys2Proof.Machine
end

section
/-! ## What an entry of Watch or Deep stops (R493)

Movers, the raster engine and a calibration pass stop; contexts, power and memory stay. -/

namespace Sys2Proof.Machine

variable {s t u : State} {c : Nat}

/-! ### Movers -/

/-- Nothing but mover channels changed. -/
def ChansOnly (s t : State) : Prop := t = { s with chans := t.chans }

theorem chansOnly_foldl {α : Type} (l : List α) (f : State → α → State) (hf : ∀ u a, ChansOnly u (f u a)) (s : State) :
    ChansOnly s (l.foldl f s) := by
  induction l generalizing s with
  | nil => rfl
  | cons a l ih =>
    have h1 := hf s a
    have h2 := ih (f s a)
    rw [ChansOnly] at h1 h2 ⊢
    rw [List.foldl_cons, h2, h1]

theorem parkMover_chansOnly (s : State) (x : Nat) : ChansOnly s (parkMover s x) := by
  refine chansOnly_foldl _ _ (fun u ch => ?_) s
  split
  · split
    · split
      · rfl
      · rfl
    · rfl
  · rfl

/-- Every mover of a list stops. -/
def parkEach (s : State) (l : List Nat) : State := l.foldl parkMover s

theorem parkEach_chansOnly (s : State) (l : List Nat) : ChansOnly s (parkEach s l) :=
  chansOnly_foldl l _ (fun u x => parkMover_chansOnly u x) s

/-! ### The raster engine -/

/-- Only the parts of the state that the raster engine's latches and its end reach changed, none of them an object of the
device's power, and the engine did not start. -/
structure RasterOnly (s t : State) : Prop where
  rest : t = { s with
    raster := t.raster
    objs := t.objs
    blobs := t.blobs
    bufs := t.bufs
    cruBufs := t.cruBufs
    allocs := t.allocs
    shadows := t.shadows }
  objs : ∀ k, k < 0x240000 → t.get k = s.get k
  stopped : s.raster.st ≠ 1 → t.raster.st ≠ 1

theorem rasterOnly_refl (s : State) : RasterOnly s s := ⟨rfl, fun _ _ => rfl, id⟩

theorem RasterOnly.trans (h : RasterOnly s t) (h' : RasterOnly t u) : RasterOnly s u where
  rest := by rw [h'.rest, h.rest]
  objs k hk := (h'.objs k hk).trans (h.objs k hk)
  stopped := h'.stopped ∘ h.stopped

theorem rasterOnly_foldl {α : Type} (l : List α) (f : State → α → State) (hf : ∀ u a, RasterOnly u (f u a)) (s : State) :
    RasterOnly s (l.foldl f s) := by
  induction l generalizing s with
  | nil => exact rasterOnly_refl s
  | cons a l ih => exact (hf s a).trans (ih (f s a))

theorem rasterOnly_ite {p : Prop} [Decidable p] (h : RasterOnly s t) (h' : RasterOnly s u) :
    RasterOnly s (if p then t else u) := by
  split
  · exact h
  · exact h'

theorem rasterOnly_setObj {k : Nat} (hk : 0x240000 ≤ k) (s : State) (i : Nat) (v : Slot) :
    RasterOnly s (s.setObj i k v) where
  rest := rfl
  objs k' hk' := State.obj_setObj_ne _ _ _ _ _ _ (by
    simp only [objKey]
    omega)
  stopped := id

theorem rasterOnly_aside (hr : t = { s with
      raster := t.raster
      blobs := t.blobs
      bufs := t.bufs
      cruBufs := t.cruBufs
      allocs := t.allocs
      shadows := t.shadows }) (hst : t.raster.st = s.raster.st) : RasterOnly s t where
  rest := by rw [hr]
  objs k _ := by rw [hr]; rfl
  stopped h := by rwa [hst]

theorem sweepBufs_rasterOnly (s : State) : RasterOnly s (sweepBufs s) := by
  refine RasterOnly.trans (t := { s with bufs := s.bufs.filter fun b => b.2.held || s.layerRefs b.1 != 0 })
    (rasterOnly_aside rfl rfl) (rasterOnly_foldl _ _ (fun u h => ?_) _)
  unfold sweepBuf
  split
  · exact rasterOnly_ite (rasterOnly_aside rfl rfl) (rasterOnly_refl u)
  · exact rasterOnly_refl u

theorem rasterOnly_setMap (h : RasterOnly s t) (k : Nat) (b : List Byte) (l : List Shadow) :
    RasterOnly s { t.setBlob 0 k b with shadows := l } := h.trans (rasterOnly_aside rfl rfl)

theorem putLayer_rasterOnly (s : State) (l : Nat) (q : LayerSet) : RasterOnly s (putLayer s l q) := by
  have hput : ∀ l' : List (Nat × Nat), (∀ p ∈ l', 0x240000 ≤ p.1) →
      RasterOnly s (l'.foldl (fun s p => s.put (layKey p.1 l) (ofN p.2)) s) := by
    intro l' hl'
    induction l' generalizing s with
    | nil => exact rasterOnly_refl s
    | cons p l' ih =>
      have hp : 0x240000 ≤ layKey p.1 l := (hl' p List.mem_cons_self).trans (Nat.le_add_right _ _)
      exact (rasterOnly_setObj hp s 0 _).trans (ih _ fun q hq => hl' q (List.mem_cons_of_mem p hq))
  exact rasterOnly_setMap (hput _ (by simp only [List.forall_mem_cons]; decide)) _ _ _

theorem latchLayer_rasterOnly (f : Nat) (now : Bool) (s : State) (l : Nat) : RasterOnly s (latchLayer f now s l) := by
  unfold latchLayer
  dsimp only
  split
  · exact rasterOnly_refl s
  · next q _ =>
    have hframe : RasterOnly s (s.layer l |>.paths.foldl (fun s p => s.setObj p O.RASTER_COMMIT_FRAME (ofN f)) s) :=
      rasterOnly_foldl _ _ (fun u p => rasterOnly_setObj (by decide) u p _) s
    generalize (s.layer l |>.paths.foldl (fun s p => s.setObj p O.RASTER_COMMIT_FRAME (ofN f)) s) = v at hframe ⊢
    have hput := hframe.trans (putLayer_rasterOnly v l q)
    generalize putLayer v l q = w at hput ⊢
    have hcount : RasterOnly s (if q = (s.layer l).latched then w else w.put (layKey O.LAYER_FRAME_l l) (ofN f)) :=
      rasterOnly_ite hput (hput.trans (rasterOnly_setObj ((by decide : 0x240000 ≤ O.LAYER_FRAME_l).trans (Nat.le_add_right _ _)) w 0 _))
    generalize (if q = (s.layer l).latched then w else w.put (layKey O.LAYER_FRAME_l l) (ofN f)) = x at hcount ⊢
    exact rasterOnly_ite (hcount.trans (rasterOnly_aside rfl rfl)) (hcount.trans (rasterOnly_aside rfl rfl))

theorem latchAll_rasterOnly (s : State) (f : Nat) (now : Bool) : RasterOnly s (latchAll s f now) := by
  unfold latchAll
  dsimp only
  refine RasterOnly.trans (RasterOnly.trans ?_ (rasterOnly_foldl _ _ (fun u l => latchLayer_rasterOnly f now u l) _))
    (sweepBufs_rasterOnly _)
  exact rasterOnly_ite (rasterOnly_setObj (by decide) s _ _) (rasterOnly_refl s)

theorem setTolerance_rasterOnly (s : State) : RasterOnly s (setTolerance s) := by
  unfold setTolerance
  exact (rasterOnly_setObj (k := O.RASTER_TOLERANCE_NS) (by decide) s _ _).trans
    (rasterOnly_setObj (k := O.MEM_RT_TOLERANCE_NS) (by decide) _ _ _)

theorem latchIdle_rasterOnly (s : State) : RasterOnly s (latchIdle s) :=
  rasterOnly_ite (rasterOnly_refl s) (latchAll_rasterOnly s _ _)

/-- The raster engine's end: its settings stay, and it does not run. -/
theorem rasterIdle_rasterOnly {st : Nat} (hst : st ≠ 1) (s : State) :
    RasterOnly s (rasterIdle s st) ∧ (rasterIdle s st).raster.st ≠ 1 := by
  unfold rasterIdle
  dsimp only
  have hcount : RasterOnly s (if s.raster.begun then s.countWrap 0 O.RASTER_FRAME 32 else s) :=
    rasterOnly_ite (rasterOnly_setObj (by decide) s _ _) (rasterOnly_refl s)
  generalize (if s.raster.begun then s.countWrap 0 O.RASTER_FRAME 32 else s) = v at hcount ⊢
  have hend : ∀ r : Raster, r.st = st →
      RasterOnly s (latchIdle (setTolerance { v with raster := r })) ∧
        (latchIdle (setTolerance { v with raster := r })).raster.st ≠ 1 := by
    intro r hr
    have hset : RasterOnly s { v with raster := r } := by
      refine ⟨?_, hcount.objs, fun _ => by rwa [hr]⟩
      rw [hcount.rest]
    have hafter := (setTolerance_rasterOnly { v with raster := r }).trans (latchIdle_rasterOnly _)
    exact ⟨hset.trans hafter, hafter.stopped (hr ▸ hst)⟩
  exact hend _ rfl

theorem rasterSuspend_rasterOnly (s : State) : RasterOnly s (rasterSuspend s) ∧ (rasterSuspend s).raster.st ≠ 1 := by
  unfold rasterSuspend
  split
  · exact rasterIdle_rasterOnly (by split <;> decide) s
  · next h => exact ⟨rasterOnly_refl s, h⟩

/-! ### Calibration -/

/-- What a die's calibration leaves of it. -/
def Die.standing (x : Die) : DieSt × List (Nat × Nat) := (x.st, x.failed)

/-- Only dies changed, each in its calibration only. -/
structure TrimsOnly (s t : State) : Prop where
  rest : t = { s with dies := t.dies }
  length : t.dies.length = s.dies.length
  standing : ∀ d, (t.die d).standing = (s.die d).standing

theorem trimsOnly_refl (s : State) : TrimsOnly s s := ⟨rfl, rfl, fun _ => rfl⟩

theorem TrimsOnly.trans (h : TrimsOnly s t) (h' : TrimsOnly t u) : TrimsOnly s u where
  rest := by rw [h'.rest, h.rest]
  length := h'.length.trans h.length
  standing d := (h'.standing d).trans (h.standing d)

theorem trimsOnly_setDie {d : Nat} {x : Die} (h : x.standing = (s.die d).standing) : TrimsOnly s (s.setDie d x) := by
  refine ⟨rfl, List.length_set, fun e => ?_⟩
  by_cases hd : d < s.dies.length
  · rw [State.die_setDie s d e x hd]
    split
    · next he => rw [h, he]
    · rfl
  · rw [State.die, State.setDie, List.set_eq_of_length_le (Nat.le_of_not_lt hd), State.die]

theorem trimsOnly_foldl (l : List Nat) (f : State → Nat → State) (hf : ∀ u a, TrimsOnly u (f u a)) (s : State) :
    TrimsOnly s (l.foldl f s) := by
  induction l generalizing s with
  | nil => exact trimsOnly_refl s
  | cons a l ih => exact (hf s a).trans (ih (f s a))

theorem trimsOnly_each {g : Die → Die} (hg : ∀ x, (g x).standing = x.standing) (l : List Nat) (s : State) :
    TrimsOnly s (l.foldl (fun s d => s.setDie d (g (s.die d))) s) :=
  trimsOnly_foldl l _ (fun u d => trimsOnly_setDie (hg (u.die d))) s

theorem foldl_withTrim_standing (l : List (Nat × Trim)) (x : Die) :
    (l.foldl (fun x p => x.withTrim p.1 p.2) x).standing = x.standing := by
  induction l generalizing x with
  | nil => rfl
  | cons p l ih => exact ih _

theorem appliedNow_standing (mark : Option Nat) (x : Die) : (x.appliedNow mark).standing = x.standing := by
  unfold Die.appliedNow
  split
  · rfl
  · exact foldl_withTrim_standing x.pending x

/-- What the end of a calibration leaves. -/
structure CalEnded (s t : State) : Prop where
  standing : ∀ d, (t.die d).standing = (s.die d).standing
  length : t.dies.length = s.dies.length
  objs : ∀ k, k < 0x240000 → k ∉ settleObjs → t.get k = s.get k
  ctxs : t.ctxs = s.ctxs
  mem : t.mem = s.mem
  power : t.power = s.power
  dev : t.dev = s.dev
  chans : t.chans = s.chans
  raster : t.raster = s.raster
  inputs : t.inputs = s.inputs
  variant : t.variant = s.variant
  counter : t.counter = s.counter
  wraps : t.wraps = s.wraps

theorem TrimsOnly.calEnded (h : TrimsOnly s t) : CalEnded s t := by
  have hobjs : ∀ k, t.get k = s.get k := fun k => by rw [h.rest]; rfl
  refine ⟨h.standing, h.length, fun k _ _ => hobjs k, ?_, ?_, ?_, ?_, ?_, ?_, ?_, ?_, ?_, ?_⟩ <;> rw [h.rest]

theorem CalEnded.trans (h : CalEnded s t) (h' : CalEnded t u) : CalEnded s u where
  standing d := (h'.standing d).trans (h.standing d)
  length := h'.length.trans h.length
  objs k hk hs := (h'.objs k hk hs).trans (h.objs k hk hs)
  ctxs := h'.ctxs.trans h.ctxs
  mem := h'.mem.trans h.mem
  power := h'.power.trans h.power
  dev := h'.dev.trans h.dev
  chans := h'.chans.trans h.chans
  raster := h'.raster.trans h.raster
  inputs := h'.inputs.trans h.inputs
  variant := h'.variant.trans h.variant
  counter := h'.counter.trans h.counter
  wraps := h'.wraps.trans h.wraps

theorem calEnded_setObj {k : Nat} (hk : 0x240000 ≤ k) (s : State) (i : Nat) (v : Slot) : CalEnded s (s.setObj i k v) where
  standing _ := rfl
  length := rfl
  objs k' hk' _ := State.obj_setObj_ne _ _ _ _ _ _ (by
    simp only [objKey]
    omega)
  ctxs := rfl
  mem := rfl
  power := rfl
  dev := rfl
  chans := rfl
  raster := rfl
  inputs := rfl
  variant := rfl
  counter := rfl
  wraps := rfl

theorem calEnded_setCal (s : State) (x : Cal) : CalEnded s { s with cal := x } :=
  ⟨fun _ => rfl, rfl, fun _ _ _ => rfl, rfl, rfl, rfl, rfl, rfl, rfl, rfl, rfl, rfl, rfl⟩

theorem calEnded_pulse (s : State) (a b n : Nat) : CalEnded s (pulse s a b n) where
  standing d := congrArg Die.standing (die_congr (pulse_dies s a b n) d)
  length := congrArg List.length (pulse_dies s a b n)
  objs k hk hs := obj_pulse_of s a b n 0 k (by omega) hs
  ctxs := pulse_ctxs s a b n
  mem := pulse_mem s a b n
  power := pulse_power s a b n
  dev := pulse_dev s a b n
  chans := pulse_chans s a b n
  raster := pulse_raster s a b n
  inputs := pulse_inputs s a b n
  variant := pulse_variant s a b n
  counter := pulse_counter s a b n
  wraps := pulse_wraps s a b n

theorem trimsInForce_calEnded (s : State) (n : Nat) : CalEnded s (trimsInForce s n) := by
  unfold trimsInForce
  dsimp only
  rw [State.flag_eq, State.putTm_eq]
  refine CalEnded.trans ?_ (calEnded_pulse _ _ _ _)
  refine CalEnded.trans ?_ (calEnded_setObj (k := O.CAL_STATUS) (by decide) _ _ _)
  refine CalEnded.trans ?_ (calEnded_setObj (k := O.CAL_APPLY_TM) (by decide) _ _ _)
  exact (calEnded_setCal s _).trans (calEnded_setObj (k := O.CAL_APPLY_TM) (by decide) _ _ _)

theorem calWatch_calEnded (s : State) : CalEnded s (calWatch s) := by
  unfold calWatch
  dsimp only
  have haudit : CalEnded s ((List.range s.D).foldl (fun s d => s.setDie d { s.die d with auditCause := none }) s) :=
    (trimsOnly_each (g := fun x => { x with auditCause := none }) (fun _ => rfl) _ s).calEnded
  generalize (List.range s.D).foldl (fun s d => s.setDie d { s.die d with auditCause := none }) s = v at haudit ⊢
  have hdrop : CalEnded v (((List.range s.D).foldl (fun s d => s.setDie d { s.die d with
      measuring := false, calQueue := [], pending := [], bankPending := none }) v)) :=
    (trimsOnly_each (g := fun x => { x with
      measuring := false, calQueue := [], pending := [], bankPending := none }) (fun _ => rfl) _ v).calEnded
  generalize ((List.range s.D).foldl (fun s d => s.setDie d { s.die d with
      measuring := false, calQueue := [], pending := [], bankPending := none }) v) = w at hdrop ⊢
  have hend : CalEnded v ({ w with cal := { w.cal with
      st := .idle
      dies := []
      alloys := []
      boundary := none } }.flag 0 O.CAL_STATUS 2) := by
    rw [State.flag_eq]
    exact hdrop.trans ((calEnded_setCal w _).trans (calEnded_setObj (k := O.CAL_STATUS) (by decide) _ _ _))
  split
  · exact haudit.trans hend
  · exact haudit.trans hend
  · exact (haudit.trans (trimsOnly_foldl _ _ (fun u d => by
      rw [applyTrims_eq]
      exact trimsOnly_setDie (appliedNow_standing _ _)) v).calEnded).trans (trimsInForce_calEnded _ _)
  · exact haudit

/-! ### An entry without an alloy that moves -/

/-- What the entry of Watch or Deep leaves (R493, R498). -/
structure Quiesced (phase : Nat) (s t : State) : Prop where
  phase : t.get O.POWER_PHASE = ofN phase
  power : t.power = { s.power with entry := none }
  tests : t.test = none ∧ t.testNext = none ∧ t.testDue = []
  suspends : SuspendsAll s t

theorem ctx_of_ctxs (h : t.ctxs = s.ctxs) (c : Nat) : t.ctx c = s.ctx c := by rw [State.ctx, State.ctx, h]

/-- Movers, the raster engine and the calibration stop. -/
def pauseAll (s : State) : State := calWatch (rasterSuspend (parkEach s (List.range (1 + s.D))))

theorem pauseAll_leaves (s : State) : (pauseAll s).get O.POWER_PHASE = s.get O.POWER_PHASE ∧ (pauseAll s).power = s.power ∧
    (pauseAll s).ctxs = s.ctxs := by
  have hpark := parkEach_chansOnly s (List.range (1 + s.D))
  have hrast := (rasterSuspend_rasterOnly (parkEach s (List.range (1 + s.D)))).1
  have hcal := calWatch_calEnded (rasterSuspend (parkEach s (List.range (1 + s.D))))
  refine ⟨?_, ?_, ?_⟩
  · refine (hcal.objs O.POWER_PHASE (by decide) (by decide)).trans ((hrast.objs O.POWER_PHASE (by decide)).trans ?_)
    rw [hpark]
    rfl
  · rw [pauseAll, hcal.power, hrast.rest, hpark]
  · rw [pauseAll, hcal.ctxs, hrast.rest, hpark]

/-- The phase that an entry begins. -/
def State.phased (s : State) (phase : Nat) : State :=
  { s.put O.POWER_PHASE (ofN phase) with power := { s.power with entry := none } }

theorem quiesce_eq (s : State) (phase : Nat) :
    quiesce s phase = { pauseAll (suspendEach (s.phased phase) (s.phased phase).reachable 5) with
      test := none
      testNext := none
      testDue := [] } := rfl

theorem quiesce_quiesced (s : State) (phase : Nat) : Quiesced phase s (quiesce s phase) := by
  have hput : (s.phased phase).get O.POWER_PHASE = ofN phase := State.obj_setObj_self _ _ _ _
  have hpow : (s.phased phase).power = { s.power with entry := none } := rfl
  have hctx : ∀ c, (s.phased phase).ctx c = s.ctx c := fun c => rfl
  rw [quiesce_eq]
  generalize s.phased phase = v at hput hpow hctx ⊢
  have hsus := suspendEach_suspendsAll (s := v) (fun c x => bound_reachable (c := c) (x := x)) 5
  have hwork := worked_suspendEach (K := anyKept) rfl rfl rfl v.reachable 5 v
  obtain ⟨hphase, hpower, hctxs⟩ := pauseAll_leaves (suspendEach v v.reachable 5)
  generalize pauseAll (suspendEach v v.reachable 5) = w at hphase hpower hctxs ⊢
  refine ⟨hphase.trans ?_, hpower.trans ?_, ⟨rfl, rfl, rfl⟩, fun c x hx => ?_⟩
  · exact (hwork.objs 0 O.POWER_PHASE (by decide) (by decide) (by decide)).trans hput
  · exact (congrArg State.power hwork.still).trans hpow
  · exact hsus.of_ctxs (ctx_of_ctxs hctxs) c x ((hctx c).trans hx)

theorem Quiesced.settled {phase : Nat} (h : Quiesced phase s t) : Quiesced phase s (settle t) where
  phase := (obj_settle_of t 0 O.POWER_PHASE (by decide) (by decide)).trans h.phase
  power := (settle_power t).trans h.power
  tests := ⟨(settle_test t).trans h.tests.1, (settle_testNext t).trans h.tests.2.1, (settle_testDue t).trans h.tests.2.2⟩
  suspends := h.suspends.of_ctxs (ctx_settle (s := t))

/-- The command of instant `n`, in core cycles, that begins an entry (R493). -/
def State.enteringAt (s : State) (n : Nat) : State := { s with power := { s.power with wakeKept := [], entryAt := n } }

/-- What the command that begins an entry keeps of its instant (R493). -/
def State.entering (s : State) : State := s.enteringAt (s.now / 48)

/-- An entry of instant `n` that waits for an alloy (R493). -/
def State.waitingAt (s : State) (n : Nat) (e : Nat × Nat) : State :=
  { s with power := { s.power with
    wakeKept := []
    entryAt := n
    entry := some e } }

/-- The entry that waits for an alloy (R493). -/
def State.waiting (s : State) (phase : Nat) : State :=
  s.waitingAt (s.now / 48) (phase, (s.power.entry.map Prod.snd).getD (s.now + 96000000))

theorem alloyMoves_enteringAt (s : State) (n : Nat) : (s.enteringAt n).alloyMoves = s.alloyMoves := rfl

theorem waitingAt_eq (s : State) (n : Nat) (e : Nat × Nat) :
    { s.enteringAt n with power := { (s.enteringAt n).power with entry := some e } } = s.waitingAt n e := rfl

theorem beginEntry_unfold (s : State) (phase : Nat) : beginEntry s phase =
    if s.entering.alloyMoves then { s.entering with power := { s.entering.power with
      entry := some (phase, (s.power.entry.map Prod.snd).getD (s.now + 96000000)) } }
    else quiesce s.entering phase := by
  unfold beginEntry
  rfl

/-- An entry waits while an alloy moves, else it stops what runs (R493). -/
theorem beginEntry_eq (s : State) (phase : Nat) :
    beginEntry s phase = if s.alloyMoves then s.waiting phase else quiesce s.entering phase := by
  rw [beginEntry_unfold, State.entering, alloyMoves_enteringAt, waitingAt_eq, State.waiting]

end Sys2Proof.Machine
end

section
/-! ## The housekeeping converter: monitor conversions (R573, R574, R576 to R578) -/

namespace Sys2Proof.Machine

variable {s t u : State} {c : Nat} {v : Int}

/-! ### What a conversion reads and writes -/

/-- The objects of a monitor channel are none that the end of a command sets. -/
theorem monObj_settle {o : Nat} (ho : o = O.MON_VALUE_c ∨ o = O.MON_STATUS_c ∨ o = O.MON_LOW_c ∨ o = O.MON_HIGH_c) (hc : c < 43) :
    o + c < 2 ^ 24 ∧ o + c ∉ settleObjs := by
  rcases ho with rfl | rfl | rfl | rfl <;> interval_cases c <;> decide

theorem judgeMon_congr (h : t.window_ c = s.window_ c) : t.judgeMon c v = s.judgeMon c v := by
  unfold State.judgeMon
  rw [h]

theorem judgeMon_lt (s : State) (c : Nat) (v : Int) : s.judgeMon c v < 2 ^ 64 := by
  unfold State.judgeMon
  dsimp only
  split_ifs <;> decide

theorem window_congr (hd : t.dies = s.dies) (hl : t.get (O.MON_LOW_c + c) = s.get (O.MON_LOW_c + c))
    (hh : t.get (O.MON_HIGH_c + c) = s.get (O.MON_HIGH_c + c)) : t.window_ c = s.window_ c := by
  unfold State.window_
  rw [die_congr hd, hl, hh]

/-- The state after the value of a conversion is stored. -/
def monRead (s : State) (h : Hk) (c : Nat) (v : Int) : State :=
  let u := ({ s with hk := h } : State).put (O.MON_VALUE_c + c) (ofI v)
  if c = 33 ∧ u.num O.HK_REF_SELECT = 1 ∧ ¬ (1000 ≤ v ∧ v ≤ 3000) then u.flag 0 O.HK_STATUS 2 else u

theorem monRead_frame (s : State) (h : Hk) (c : Nat) (v : Int) :
    OnlyObjs [objKey 0 (O.MON_VALUE_c + c), objKey 0 O.HK_STATUS] { s with hk := h } (monRead s h c v) := by
  have hput : OnlyObjs [objKey 0 (O.MON_VALUE_c + c), objKey 0 O.HK_STATUS] { s with hk := h }
      (({ s with hk := h } : State).put (O.MON_VALUE_c + c) (ofI v)) := (onlyObjs_refl _ _).put (by simp) _
  unfold monRead
  dsimp only
  split
  · rw [State.flag_eq]
    exact hput.put (by simp) _
  · exact hput

theorem obj_hk (s : State) (h : Hk) (i k : Nat) : ({ s with hk := h } : State).obj i k = s.obj i k := rfl

theorem monRead_obj (s : State) (h : Hk) (v : Int) {k : Nat} (hk : k < 2 ^ 24) (hs : k ∉ settleObjs)
    (h1 : k ≠ O.MON_VALUE_c + c) (h2 : k ≠ O.HK_STATUS) : (monRead s h c v).get k = s.get k := by
  refine (monRead_frame s h c v).2 0 k (fun hm => ?_) (objKey_settle 0 k hk hs)
  simp only [List.mem_cons, List.not_mem_nil, or_false] at hm
  exact hm.elim (objKey_ne 0 h1) (objKey_ne 0 h2)

theorem monRead_value (s : State) (h : Hk) (c : Nat) (v : Int) :
    (monRead s h c v).get (O.MON_VALUE_c + c) = ofI v := by
  have hput : (({ s with hk := h } : State).put (O.MON_VALUE_c + c) (ofI v)).get (O.MON_VALUE_c + c) = ofI v :=
    State.obj_setObj_self _ _ _ _
  unfold monRead
  dsimp only
  split
  · rw [State.flag_eq, State.get_eq, State.obj_setObj_ne _ _ _ _ _ _ (objKey_ne 0 (by simp only [O.MON_VALUE_c, O.HK_STATUS]; omega))]
    exact hput
  · exact hput

theorem monRead_judge (s : State) (h : Hk) (c : Nat) (v : Int) (hc : c < 43) :
    (monRead s h c v).judgeMon c v = s.judgeMon c v := by
  have hl := monObj_settle (o := O.MON_LOW_c) (by simp) hc
  have hh := monObj_settle (o := O.MON_HIGH_c) (by simp) hc
  refine judgeMon_congr (window_congr ((congrArg State.dies (monRead_frame s h c v).1 :)) ?_ ?_)
  · exact monRead_obj s h v hl.1 hl.2 (by simp only [O.MON_LOW_c, O.MON_VALUE_c]; omega) (by simp only [O.MON_LOW_c, O.HK_STATUS]; omega)
  · exact monRead_obj s h v hh.1 hh.2 (by simp only [O.MON_HIGH_c, O.MON_VALUE_c]; omega) (by simp only [O.MON_HIGH_c, O.HK_STATUS]; omega)

theorem monRead_status (s : State) (h : Hk) (c : Nat) (v : Int) (hc : c < 43) :
    (monRead s h c v).num (O.MON_STATUS_c + c) = s.num (O.MON_STATUS_c + c) := by
  have hs := monObj_settle (o := O.MON_STATUS_c) (by simp) hc
  exact congrArg BitVec.toNat (monRead_obj s h v hs.1 hs.2 (by simp only [O.MON_STATUS_c, O.MON_VALUE_c]; omega)
    (by simp only [O.MON_STATUS_c, O.HK_STATUS]; omega))

/-- A conversion of a channel but the reference input stores its value only. -/
theorem monRead_only (s : State) (h : Hk) (v : Int) (hc : c = 33 → s.num O.HK_REF_SELECT ≠ 1) :
    monRead s h c v = ({ s with hk := h } : State).put (O.MON_VALUE_c + c) (ofI v) := by
  unfold monRead
  dsimp only
  rw [if_neg]
  rintro ⟨h33, href, -⟩
  subst h33
  refine hc rfl (Eq.trans ?_ href)
  rw [State.num_eq, State.num_eq, State.put_eq, State.obj_setObj_ne _ _ _ _ _ _ (objKey_ne 0 (by decide))]
  rfl

theorem monConvert_eq (s : State) (h : Hk) (c : Nat) (r : Bool) (v : Int) : monConvert { s with hk := h } c r v =
    if (monRead s h c v).judgeMon c v = 0 then monInside (monRead s h c v) c v
    else if r then monConfirm (monRead s h c v) c ((monRead s h c v).judgeMon c v)
    else { monRead s h c v with hk := { (monRead s h c v).hk with again := some c } } := rfl

/-! ### Which channel a slot converts -/

/-- The converter after the slot of a repeat. -/
def Hk.repeated (h : Hk) : Hk := { h with slots := h.slots + 1, again := none }

theorem exec_hkMonitor_repeat (ha : s.awake = true) (hg : s.hk.again = some c) (v : Int) :
    exec (.hkMonitorConversion v) s = done (monConvert { s with hk := s.hk.repeated } c true v) := by
  rw [show exec (.hkMonitorConversion v) s = execHkMonitorConversion v s from rfl]
  unfold execHkMonitorConversion
  rw [if_pos ha, hg]
  rfl

/-- The converter after the slot of channel `c` of the scan. -/
def Hk.scanned (h : Hk) (c : Nat) : Hk := { h with slots := h.slots + 1, scan := c + 1 }

theorem exec_hkMonitor_scan (ha : s.awake = true) (hg : s.hk.again = none)
    (hf : (s.monChannels.find? fun c => decide (s.hk.scan ≤ c)) = some c) (v : Int) :
    exec (.hkMonitorConversion v) s = done (monConvert { s with hk := s.hk.scanned c } c false v) := by
  rw [show exec (.hkMonitorConversion v) s = execHkMonitorConversion v s from rfl]
  unfold execHkMonitorConversion
  rw [if_pos ha, hg]
  dsimp only
  rw [hf]
  rfl

/-! ### Repeats (R577, R578) -/

theorem hkMonitor_stays (ha : s.awake = true) (hg : s.hk.again = some c) (hj : s.judgeMon c v ≠ 0)
    (h33 : c = 33 → s.num O.HK_REF_SELECT ≠ 1) (hst : s.num (O.MON_STATUS_c + c) ≠ 0) (hcrit : s.judgeMon c v ≠ 3)
    (hc : c < 43) : Answers (.hkMonitorConversion v) s fun t =>
      t.get (O.MON_VALUE_c + c) = ofI v ∧ t.num (O.MON_STATUS_c + c) = s.judgeMon c v ∧ t.hk.again = none ∧
      OnlyObjs [objKey 0 (O.MON_VALUE_c + c), objKey 0 (O.MON_STATUS_c + c)] { s with hk := t.hk } t := by
  have hvk := monObj_settle (o := O.MON_VALUE_c) (by simp) hc
  have hsk := monObj_settle (o := O.MON_STATUS_c) (by simp) hc
  have hval := monRead_value s s.hk.repeated c v
  have hjudge := monRead_judge s s.hk.repeated c v hc
  have hstat := monRead_status s s.hk.repeated c v hc
  have hframe : OnlyObjs [objKey 0 (O.MON_VALUE_c + c), objKey 0 (O.MON_STATUS_c + c)] { s with hk := s.hk.repeated }
      (monRead s s.hk.repeated c v) := by
    rw [monRead_only s _ v h33]
    exact (onlyObjs_refl _ _).put (by simp) _
  have hhk : (monRead s s.hk.repeated c v).hk = s.hk.repeated := (congrArg State.hk hframe.1 :)
  have hne : O.MON_VALUE_c + c ≠ O.MON_STATUS_c + c := by simp only [O.MON_VALUE_c, O.MON_STATUS_c]; omega
  have hend : monConvert { s with hk := s.hk.repeated } c true v =
      (monRead s s.hk.repeated c v).put (O.MON_STATUS_c + c) (ofN (s.judgeMon c v)) := by
    rw [monConvert_eq, hjudge, if_neg hj, if_pos rfl, monConfirm]
    rw [hstat, if_neg hst, if_neg fun h => hcrit h.1]
  refine answers_done (exec_hkMonitor_repeat ha hg v) ?_
  rw [hend]
  generalize monRead s s.hk.repeated c v = w at hval hframe hhk ⊢
  refine ⟨?_, num_settle_put w hsk.1 hsk.2 (judgeMon_lt s c v), ?_, ?_⟩
  · rw [State.get_eq, obj_settle_of _ _ _ hvk.1 hvk.2, State.put_eq, State.obj_setObj_ne _ _ _ _ _ _ (objKey_ne 0 hne)]
    exact hval
  · rw [settle_hk, State.put_eq, State.setObj_hk, hhk]
    rfl
  · have hkeep : (settle (w.put (O.MON_STATUS_c + c) (ofN (s.judgeMon c v)))).hk = s.hk.repeated := by
      rw [settle_hk, State.put_eq, State.setObj_hk, hhk]
    rw [hkeep]
    exact (hframe.put (by simp) _).settled

/-- The channel's excursion as it is recorded (R575, R577). -/
def monExcursion (s : State) (c st : Nat) : State :=
  if s.num (O.MON_STATUS_c + c) = 0 then monEntry ((s.put (O.MON_STATUS_c + c) (ofN st)).flag 0 O.HK_STATUS 0) c
  else s.put (O.MON_STATUS_c + c) (ofN st)

theorem monConfirm_eq (s : State) (c st : Nat) : monConfirm s c st =
    if st = 3 ∧ s.num (O.MON_STATUS_c + c) ≠ 3 ∧ (monExcursion s c st).num O.THERMAL_ACTION = 1
    then enterWatch (monExcursion s c st) else monExcursion s c st := rfl

theorem monTarnish_lt {b code : Nat} (h : monTarnish c = some (b, code)) : b < 64 := by
  unfold monTarnish at h
  split_ifs at h
  · obtain ⟨rfl, -⟩ := Prod.mk.inj (Option.some.inj h)
    decide
  · obtain ⟨rfl, -⟩ := Prod.mk.inj (Option.some.inj h)
    decide

theorem monEntry_obj (s : State) (c : Nat) {k : Nat} (hk : k < 2 ^ 24) (hs : k ∉ settleObjs) (hne : k ≠ O.TARNISH) :
    (monEntry s c).get k = s.get k := by
  unfold monEntry
  split
  · rfl
  · dsimp only
    split
    · rfl
    · exact obj_tarnish_of _ _ _ _ _ _ _ _ hk hs hne

theorem monEntry_tarnish {b code : Nat} (h : monTarnish c = some (b, code)) (hr : s.restarting = false) :
    bit ((monEntry s c).get O.TARNISH) b = true := by
  unfold monEntry
  rw [h]
  dsimp only
  rw [if_neg (by simp [hr]), State.get_eq, tarnish_tarnish, bit_setBit_self _ (monTarnish_lt h)]

theorem tarnishOpened_dev (s : State) (b : Nat) : (tarnishOpened s b).dev = s.dev := by
  unfold tarnishOpened
  dsimp only
  split <;> rfl

theorem logFault_dev (s : State) (b die input code detail : Nat) : (logFault s b die input code detail).dev = s.dev := by
  simp only [logFault]

theorem tarnishEntry_dev (s : State) (b die input detail code : Nat) : (tarnishEntry s b die input detail code).dev = s.dev := by
  have hdev := tarnishOpened_dev s b
  rw [tarnishEntry_eq]
  generalize tarnishOpened s b = w at hdev ⊢
  split
  · rw [logFault_dev]
    exact hdev
  · rw [logFault_dev]
    exact hdev

theorem tarnish_dev (s : State) (b die input detail code : Nat) : (tarnish s b die input detail code).dev = s.dev := by
  rw [tarnish_eq, pulse_dev]
  unfold tarnishNoted
  split
  · exact tarnishEntry_dev s b die input detail code
  · exact tarnishEntry_dev s b die input detail code

theorem monEntry_leaves (s : State) (c : Nat) : (monEntry s c).dev = s.dev ∧ (monEntry s c).inputs = s.inputs := by
  unfold monEntry
  split
  · exact ⟨rfl, rfl⟩
  · dsimp only
    split
    · exact ⟨rfl, rfl⟩
    · exact ⟨tarnish_dev _ _ _ _ _ _, tarnish_inputs _ _ _ _ _ _⟩

theorem monExcursion_obj {st : Nat} (s : State) (c : Nat) {k : Nat} (hk : k < 2 ^ 24) (hs : k ∉ settleObjs) (h1 : k ≠ O.TARNISH)
    (h2 : k ≠ O.HK_STATUS) (h3 : k ≠ O.MON_STATUS_c + c) : (monExcursion s c st).get k = s.get k := by
  have hput : (s.put (O.MON_STATUS_c + c) (ofN st)).get k = s.get k := State.obj_setObj_ne _ _ _ _ _ _ (objKey_ne 0 h3)
  unfold monExcursion
  split
  · rw [monEntry_obj _ _ hk hs h1, State.flag_eq, State.get_eq, State.obj_setObj_ne _ _ _ _ _ _ (objKey_ne 0 h2)]
    exact hput
  · exact hput

theorem monExcursion_leaves (s : State) (c st : Nat) : (monExcursion s c st).dev = s.dev ∧
    (monExcursion s c st).inputs = s.inputs := by
  unfold monExcursion
  split
  · exact monEntry_leaves _ c
  · exact ⟨rfl, rfl⟩

theorem monExcursion_status (s : State) {st : Nat} (hc : c < 43) (hst : st < 2 ^ 64) :
    (monExcursion s c st).num (O.MON_STATUS_c + c) = st := by
  have hput : (s.put (O.MON_STATUS_c + c) (ofN st)).get (O.MON_STATUS_c + c) = ofN st := State.obj_setObj_self _ _ _ _
  have hk := monObj_settle (o := O.MON_STATUS_c) (by simp) hc
  have hnum : (monExcursion s c st).get (O.MON_STATUS_c + c) = ofN st := by
    unfold monExcursion
    split
    · rw [monEntry_obj _ _ hk.1 hk.2 (by simp only [O.MON_STATUS_c, O.TARNISH]; omega), State.flag_eq, State.get_eq,
        State.obj_setObj_ne _ _ _ _ _ _ (objKey_ne 0 (by simp only [O.MON_STATUS_c, O.HK_STATUS]; omega))]
      exact hput
    · exact hput
  rw [State.num_eq, ← State.get_eq, hnum, ofN_toNat _ hst]

theorem monExcursion_bits (s : State) {st : Nat} (h : s.num (O.MON_STATUS_c + c) = 0) :
    bit ((monExcursion s c st).get O.HK_STATUS) 0 = true ∧
    (∀ b code, monTarnish c = some (b, code) → s.restarting = false → bit ((monExcursion s c st).get O.TARNISH) b = true) := by
  unfold monExcursion
  rw [if_pos h]
  refine ⟨?_, fun b code hb hr => monEntry_tarnish hb hr⟩
  rw [monEntry_obj _ _ (by decide) (by decide) (by decide), State.get_eq]
  exact bit_obj_flagged (by decide)

theorem hkMonitor_excursion (ha : s.awake = true) (hg : s.hk.again = some c) (hj : s.judgeMon c v ≠ 0)
    (hst : s.num (O.MON_STATUS_c + c) = 0) (hc : c < 43) (hcrit : s.judgeMon c v ≠ 3 ∨ s.num O.THERMAL_ACTION ≠ 1) :
    Answers (.hkMonitorConversion v) s fun t =>
      t.get (O.MON_VALUE_c + c) = ofI v ∧ t.num (O.MON_STATUS_c + c) = s.judgeMon c v ∧
      bit (t.get O.HK_STATUS) 0 = true ∧
      (∀ b code, monTarnish c = some (b, code) → s.restarting = false → bit (t.get O.TARNISH) b = true) := by
  have hvk := monObj_settle (o := O.MON_VALUE_c) (by simp) hc
  have hsk := monObj_settle (o := O.MON_STATUS_c) (by simp) hc
  have hval := monRead_value s s.hk.repeated c v
  have hjudge := monRead_judge s s.hk.repeated c v hc
  have hstat := (monRead_status s s.hk.repeated c v hc).trans hst
  have hrest : (monRead s s.hk.repeated c v).restarting = s.restarting := by
    have hbody := (monRead_frame s s.hk.repeated c v).1
    have hhub : (monRead s s.hk.repeated c v).hubRestart = s.hubRestart := (congrArg State.hubRestart hbody :)
    have hsup : (monRead s s.hk.repeated c v).supRestart = s.supRestart := (congrArg State.supRestart hbody :)
    rw [State.restarting, hhub, hsup, State.restarting]
  have htherm : (monRead s s.hk.repeated c v).get O.THERMAL_ACTION = s.get O.THERMAL_ACTION :=
    monRead_obj s s.hk.repeated v (by decide) (by decide) (by simp only [O.THERMAL_ACTION, O.MON_VALUE_c]; omega) (by decide)
  refine answers_done (exec_hkMonitor_repeat ha hg v) ?_
  rw [monConvert_eq, hjudge, if_neg hj, if_pos rfl, monConfirm_eq]
  generalize monRead s s.hk.repeated c v = w at hval hstat hrest htherm ⊢
  have hact : (monExcursion w c (s.judgeMon c v)).num O.THERMAL_ACTION = s.num O.THERMAL_ACTION :=
    congrArg BitVec.toNat ((monExcursion_obj w c (by decide) (by decide) (by decide) (by decide)
      (by simp only [O.THERMAL_ACTION, O.MON_STATUS_c]; omega)).trans htherm)
  rw [if_neg fun h => hcrit.elim (fun hn => hn h.1) fun hn => hn (hact.symm.trans h.2.2)]
  obtain ⟨hbit, htar⟩ := monExcursion_bits (st := s.judgeMon c v) w hstat
  have hvalue : (monExcursion w c (s.judgeMon c v)).get (O.MON_VALUE_c + c) = ofI v :=
    (monExcursion_obj w c hvk.1 hvk.2 (by simp only [O.TARNISH, O.MON_VALUE_c]; omega)
      (by simp only [O.HK_STATUS, O.MON_VALUE_c]; omega) (by simp only [O.MON_STATUS_c, O.MON_VALUE_c]; omega)).trans hval
  have hstatus := monExcursion_status w hc (judgeMon_lt s c v)
  generalize monExcursion w c (s.judgeMon c v) = x at hbit htar hvalue hstatus ⊢
  refine ⟨?_, ?_, ?_, fun b code hb hr => ?_⟩
  · exact (obj_settle_of x 0 _ hvk.1 hvk.2).trans hvalue
  · rw [State.num_eq, obj_settle_of _ _ _ hsk.1 hsk.2]
    exact hstatus
  · rwa [State.get_eq, obj_settle_of _ _ _ (by decide) (by decide)]
  · rw [State.get_eq, obj_settle_of _ _ _ (by decide) (by decide)]
    exact htar b code hb (hrest.trans hr)

/-- Watch is entered, or an entry waits for an alloy. -/
theorem enterWatch_entered (hr : s.running = true) (hp : s.get O.POWER_PHASE = 0) :
    if s.alloyMoves then (settle (enterWatch s)).power.entry.isSome = true
    else (settle (enterWatch s)).get O.POWER_PHASE = 1 := by
  have hbegin : enterWatch s = if s.alloyMoves then s.waiting 1 else quiesce s.entering 1 := by
    rw [enterWatch, if_pos ⟨hr, hp⟩, beginEntry_eq]
  rw [hbegin]
  by_cases hm : s.alloyMoves = true
  · rw [if_pos hm, if_pos hm, settle_power]
    rfl
  · rw [if_neg hm, if_neg hm]
    exact (quiesce_quiesced s.entering 1).settled.phase

theorem hkMonitor_critical (ha : s.awake = true) (hg : s.hk.again = some c) (hj : s.judgeMon c v = 3)
    (hst : s.num (O.MON_STATUS_c + c) ≠ 3) (hc : c < 43) (hact : s.num O.THERMAL_ACTION = 1) (hr : s.running = true)
    (hp : s.get O.POWER_PHASE = 0) : Answers (.hkMonitorConversion v) s fun t =>
        if s.alloyMoves then t.power.entry.isSome = true else t.get O.POWER_PHASE = 1 := by
  have hjudge := (monRead_judge s s.hk.repeated c v hc).trans hj
  have hstat : (monRead s s.hk.repeated c v).num (O.MON_STATUS_c + c) ≠ 3 := by rwa [monRead_status s s.hk.repeated c v hc]
  have hobj : ∀ k, k < 2 ^ 24 → k ∉ settleObjs → k ≠ O.TARNISH → k ≠ O.HK_STATUS → k ≠ O.MON_STATUS_c + c →
      k ≠ O.MON_VALUE_c + c → (monExcursion (monRead s s.hk.repeated c v) c 3).get k = s.get k :=
    fun k hk hs h1 h2 h3 h4 => (monExcursion_obj _ c hk hs h1 h2 h3).trans (monRead_obj s _ v hk hs h4 h2)
  have htherm := hobj O.THERMAL_ACTION (by decide) (by decide) (by decide) (by decide)
    (by simp only [O.THERMAL_ACTION, O.MON_STATUS_c]; omega) (by simp only [O.THERMAL_ACTION, O.MON_VALUE_c]; omega)
  have hphase := hobj O.POWER_PHASE (by decide) (by decide) (by decide) (by decide)
    (by simp only [O.POWER_PHASE, O.MON_STATUS_c]; omega) (by simp only [O.POWER_PHASE, O.MON_VALUE_c]; omega)
  obtain ⟨hdev, hin⟩ := monExcursion_leaves (monRead s s.hk.repeated c v) c 3
  have hdev' : (monRead s s.hk.repeated c v).dev = s.dev := by
    unfold monRead
    dsimp only
    split <;> rfl
  have hin' : (monRead s s.hk.repeated c v).inputs = s.inputs := (congrArg State.inputs (monRead_frame s s.hk.repeated c v).1 :)
  refine answers_done (exec_hkMonitor_repeat ha hg v) ?_
  have hend : monConvert { s with hk := s.hk.repeated } c true v =
      enterWatch (monExcursion (monRead s s.hk.repeated c v) c 3) := by
    rw [monConvert_eq, hjudge, if_neg (by decide), if_pos rfl, monConfirm_eq,
      if_pos ⟨rfl, hstat, (congrArg BitVec.toNat htherm).trans hact⟩]
  rw [hend]
  generalize monExcursion (monRead s s.hk.repeated c v) c 3 = w at hphase hdev hin ⊢
  have hrun : w.running = true := by
    rw [State.running, hdev, hdev']
    exact hr
  have hmoves : w.alloyMoves = s.alloyMoves := by rw [State.alloyMoves, State.alloyMoves, hin, hin']
  rw [← hmoves]
  exact enterWatch_entered hrun (hphase.trans hp)

/-! ### The scan (R574, R577) -/

theorem hkMonitor_scan_outside (ha : s.awake = true) (hg : s.hk.again = none)
    (hf : (s.monChannels.find? fun c => decide (s.hk.scan ≤ c)) = some c) (h33 : c = 33 → s.num O.HK_REF_SELECT ≠ 1)
    (hj : s.judgeMon c v ≠ 0) (hc : c < 43) : Answers (.hkMonitorConversion v) s fun t =>
      t.get (O.MON_VALUE_c + c) = ofI v ∧ t.hk.again = some c ∧ t.hk.scan = c + 1 ∧
      OnlyObjs [objKey 0 (O.MON_VALUE_c + c)] { s with hk := t.hk } t := by
  have hvk := monObj_settle (o := O.MON_VALUE_c) (by simp) hc
  have hval := monRead_value s (s.hk.scanned c) c v
  have hjudge := monRead_judge s (s.hk.scanned c) c v hc
  have hframe : OnlyObjs [objKey 0 (O.MON_VALUE_c + c)] { s with hk := s.hk.scanned c } (monRead s (s.hk.scanned c) c v) := by
    rw [monRead_only s _ v h33]
    exact (onlyObjs_refl _ _).put (by simp) _
  refine answers_done (exec_hkMonitor_scan ha hg hf v) ?_
  rw [monConvert_eq, hjudge, if_neg hj, if_neg (by decide)]
  have hhk : (monRead s (s.hk.scanned c) c v).hk = s.hk.scanned c := (congrArg State.hk hframe.1 :)
  generalize monRead s (s.hk.scanned c) c v = w at hval hframe hhk ⊢
  rw [hhk]
  refine ⟨?_, by rw [settle_hk], by rw [settle_hk]; rfl, ?_⟩
  · rw [State.get_eq, obj_settle_of _ _ _ hvk.1 hvk.2]
    exact hval
  · rw [settle_hk]
    exact OnlyObjs.settled ⟨congrArg (fun b : State => { b with hk := { s.hk.scanned c with again := some c } }) hframe.1, hframe.2⟩

theorem hkMonitor_scan_inside (ha : s.awake = true) (hg : s.hk.again = none)
    (hf : (s.monChannels.find? fun c => decide (s.hk.scan ≤ c)) = some c) (h33 : c = 33 → s.num O.HK_REF_SELECT ≠ 1)
    (hj : s.judgeMon c v = 0) (hst : s.num (O.MON_STATUS_c + c) = 0) (hc : c < 43) : Answers (.hkMonitorConversion v) s fun t =>
      t.get (O.MON_VALUE_c + c) = ofI v ∧ t.hk.again = none ∧ t.hk.scan = c + 1 ∧
      OnlyObjs [objKey 0 (O.MON_VALUE_c + c)] { s with hk := t.hk } t := by
  have hvk := monObj_settle (o := O.MON_VALUE_c) (by simp) hc
  have hval := monRead_value s (s.hk.scanned c) c v
  have hjudge := (monRead_judge s (s.hk.scanned c) c v hc).trans hj
  have hstat := (monRead_status s (s.hk.scanned c) c v hc).trans hst
  have hframe : OnlyObjs [objKey 0 (O.MON_VALUE_c + c)] { s with hk := s.hk.scanned c } (monRead s (s.hk.scanned c) c v) := by
    rw [monRead_only s _ v h33]
    exact (onlyObjs_refl _ _).put (by simp) _
  refine answers_done (exec_hkMonitor_scan ha hg hf v) ?_
  have hhk : (monRead s (s.hk.scanned c) c v).hk = s.hk.scanned c := (congrArg State.hk hframe.1 :)
  have hinside : monInside (monRead s (s.hk.scanned c) c v) c v = monRead s (s.hk.scanned c) c v := by
    unfold monInside
    dsimp only
    rw [if_neg fun h => h.1 hstat]
  rw [monConvert_eq, hjudge, if_pos rfl, hinside]
  generalize monRead s (s.hk.scanned c) c v = w at hval hframe hhk ⊢
  refine ⟨?_, by rw [settle_hk, hhk]; exact hg, by rw [settle_hk, hhk]; rfl, ?_⟩
  · rw [State.get_eq, obj_settle_of _ _ _ hvk.1 hvk.2]
    exact hval
  · rw [settle_hk, hhk]
    exact hframe.settled

theorem monChannels_lt {p : Nat → Bool} (h : s.monChannels.find? p = some c) : c < 43 :=
  List.mem_range.mp (List.mem_filter.mp (List.mem_of_find?_eq_some h)).1

end Sys2Proof.Machine
end

section
/-! ## The housekeeping converter: the table, the reference and the auxiliary inputs (R579 to R582, R584 to R586) -/

namespace Sys2Proof.Machine

variable {s t u : State} {p k : Nat}

/-! ### The sequence table -/

theorem exec_hkSequence_idle (raw : BitVec 12) (h : s.tableEntries = [] ∨ s.hk.aux.isSome = true) :
    exec (.hkSequenceConversion raw) s = done s := by
  rw [show exec (.hkSequenceConversion raw) s = execHkSequenceConversion raw s from rfl]
  unfold execHkSequenceConversion
  dsimp only
  split
  · next hrun =>
    have hnil : s.tableEntries = [] := h.resolve_right fun hs => by simp [Option.isNone_iff_eq_none.mp hrun.2] at hs
    rw [hnil]
    rfl
  · rfl

theorem tableEntries_sorted (s : State) : s.tableEntries.Pairwise (· < ·) := List.Pairwise.filter _ List.pairwise_lt_range

/-- The entry in progress is the first from it on. -/
theorem find_sorted {l : List Nat} (hs : l.Pairwise (· < ·)) (hk : k ∈ l) : (l.find? fun j => decide (k ≤ j)) = some k := by
  induction l with
  | nil => exact absurd hk List.not_mem_nil
  | cons a l ih =>
    obtain ⟨ha, hl⟩ := List.pairwise_cons.mp hs
    rcases List.mem_cons.mp hk with rfl | hk'
    · exact List.find?_cons_of_pos (decide_eq_true (Nat.le_refl k))
    · have hlt := ha k hk'
      rw [List.find?_cons_of_neg (by simpa using hlt)]
      exact ih hl hk'

/-- The converter after a conversion of the entry in progress. -/
def Hk.converted (h : Hk) (raw : BitVec 12) : Hk :=
  { h with
    taken := h.taken + 1
    sum := h.sum + raw.toNat
    clip := h.clip || raw == 0#12 || raw == 4095#12
    settled := h.settled && h.settleAt.isNone }

/-- The end of an entry, and of the sweep where no later entry is enabled (R586). -/
def entryEnd (s : State) (k : Nat) (next : Option Nat) : State :=
  let u := tableResult s k
  let u := { u with hk := { u.hk with entry := next.getD 0, taken := 0, sum := 0, clip := false, settled := true } }
  if next.isSome then u else sweepEnd u

theorem exec_hkSequence (raw : BitVec 12) (ha : s.awake = true) (hx : s.hk.aux = none) (he : s.hk.entry = k)
    (hk : k ∈ s.tableEntries) : exec (.hkSequenceConversion raw) s =
      done (if s.hk.taken + 1 < 2 ^ fld (s.get (O.SEQ_ENTRY_k + k)) 8 3 then { s with hk := s.hk.converted raw }
        else entryEnd { s with hk := s.hk.converted raw } k (s.tableEntries.find? fun j => decide (k < j))) := by
  rw [show exec (.hkSequenceConversion raw) s = execHkSequenceConversion raw s from rfl]
  unfold execHkSequenceConversion
  dsimp only
  rw [if_pos ⟨ha, by rw [hx]; rfl⟩, he, find_sorted (tableEntries_sorted s) hk]
  cases hl : s.tableEntries with
  | nil => rw [hl] at hk; exact absurd hk List.not_mem_nil
  | cons a l =>
    have hfresh : ¬ (k != k) = true := by simp
    simp only [List.head?_cons, Option.getD_some, if_neg hfresh]
    rfl

/-! ### The result of an entry (R579, R586) -/

theorem corrected_lt (corr : Slot) (r : Nat) : corrected corr r < 2 ^ 16 := by
  unfold corrected clampI
  dsimp only
  omega

theorem b2n_le (b : Bool) : b2n b ≤ 1 := by cases b <;> decide

/-- A result word holds its value in its low half, and its VALID bit. -/
theorem resultWord_fields {v n c r i : Nat} (hv : v < 2 ^ 16) (hn : n < 4096) (hc : c ≤ 1) (hr : r ≤ 1) (hi : i ≤ 1) :
    fld (ofN (v + n * 2 ^ 16 + c * 2 ^ 28 + r * 2 ^ 29 + i * 2 ^ 30 + 2 ^ 31)) 0 16 = v ∧
    bit (ofN (v + n * 2 ^ 16 + c * 2 ^ 28 + r * 2 ^ 29 + i * 2 ^ 30 + 2 ^ 31)) 31 = true := by
  have hx : v + n * 2 ^ 16 + c * 2 ^ 28 + r * 2 ^ 29 + i * 2 ^ 30 + 2 ^ 31 < 2 ^ 32 := by omega
  refine ⟨?_, ?_⟩
  · rw [fld, ofN_toNat _ (by omega)]
    omega
  · rw [bit_eq, getLsbD_ofN, Nat.testBit_eq_decide_div_mod_eq]
    simp only [Nat.reduceLT, decide_true, Bool.true_and, decide_eq_true_eq]
    omega

/-- The word that entry `k` leaves. -/
def State.tableWord (s : State) (k : Nat) : Slot :=
  let e := s.get (O.SEQ_ENTRY_k + k)
  ofN (corrected (s.get (O.HK_CORR_c + fld e 0 6)) (roundAway (16 * s.hk.sum) (2 ^ fld e 8 3)).toNat
    + s.num O.HK_SWEEP_COUNT % 4096 * 2 ^ 16 + b2n s.hk.clip * 2 ^ 28
    + b2n s.refBad * 2 ^ 29 + b2n (!s.hk.settled) * 2 ^ 30 + 2 ^ 31)

theorem tableResult_eq (s : State) (k : Nat) : tableResult s k = s.put (O.SEQ_RESULT_k + k) (s.tableWord k) := rfl

theorem tableWord_fields (s : State) (k : Nat) :
    fld (s.tableWord k) 0 16 = corrected (s.get (O.HK_CORR_c + fld (s.get (O.SEQ_ENTRY_k + k)) 0 6))
      (roundAway (16 * s.hk.sum) (2 ^ fld (s.get (O.SEQ_ENTRY_k + k)) 8 3)).toNat ∧ bit (s.tableWord k) 31 = true :=
  resultWord_fields (corrected_lt _ _) (Nat.mod_lt _ (by decide)) (b2n_le _) (b2n_le _) (b2n_le _)

theorem seqResult_settle (h : k < 32) : O.SEQ_RESULT_k + k < 2 ^ 24 ∧ O.SEQ_RESULT_k + k ∉ settleObjs := by
  interval_cases k <;> decide

theorem sweepEnd_eq (s : State) : sweepEnd s =
    (((s.setObj 0 O.HK_SWEEP_TM (ofN (s.cycle % 2 ^ 55 * 512))).setObj (wrapInst 0) O.HK_SWEEP_TM (ofN (s.cycle / 2 ^ 55 % 2 ^ 16))).setObj 0
      O.HK_SWEEP_COUNT (ofN ((s.num O.HK_SWEEP_COUNT + 1) % 2 ^ 32))) := by
  have h1 : objKey 0 O.HK_SWEEP_COUNT ≠ objKey (wrapInst 0) O.HK_SWEEP_TM := by simp only [objKey, wrapInst, O.HK_SWEEP_COUNT, O.HK_SWEEP_TM]; omega
  have h2 : objKey 0 O.HK_SWEEP_COUNT ≠ objKey 0 O.HK_SWEEP_TM := objKey_ne 0 (by decide)
  unfold sweepEnd
  generalize s.cycle = n
  rw [State.countWrap_eq, State.putTm_eq, State.num_eq, State.obj_setObj_ne _ _ _ _ _ _ h1, State.obj_setObj_ne _ _ _ _ _ _ h2]

theorem sweepEnd_fields (s : State) : (sweepEnd s).hk = s.hk ∧ (sweepEnd s).ctxs = s.ctxs ∧ (sweepEnd s).mem = s.mem ∧
    (sweepEnd s).num O.HK_SWEEP_COUNT = (s.num O.HK_SWEEP_COUNT + 1) % 2 ^ 32 ∧ (sweepEnd s).get O.HK_SWEEP_TM = s.cycleTm := by
  rw [sweepEnd_eq]
  refine ⟨by simp only [State.setObj_hk], by simp only [State.setObj_ctxs], by simp only [State.setObj_mem], ?_, ?_⟩
  · rw [State.num_eq, State.obj_setObj_self, ofN_toNat _ ((Nat.mod_lt _ (by decide)).trans (by decide))]
  · rw [State.get_eq, State.obj_setObj_ne _ _ _ _ _ _ (by decide), State.obj_setObj_ne _ _ _ _ _ _ (by decide),
      State.obj_setObj_self, State.cycleTm, tmOf]

theorem sweepEnd_other (s : State) {k : Nat} (h1 : k ≠ O.HK_SWEEP_TM) (h2 : k ≠ O.HK_SWEEP_COUNT) (h24 : k < 2 ^ 24) :
    (sweepEnd s).get k = s.get k := by
  rw [sweepEnd_eq, State.get_eq, State.obj_setObj_ne _ _ _ _ _ _ (objKey_ne 0 h2),
    State.obj_setObj_ne _ _ _ _ _ _ (by simp only [objKey, wrapInst]; omega), State.obj_setObj_ne _ _ _ _ _ _ (objKey_ne 0 h1)]
  rfl

theorem hkSequence_sums (raw : BitVec 12) (ha : s.awake = true) (hx : s.hk.aux = none)
    (he : s.hk.entry = k) (hk : k ∈ s.tableEntries) (hn : s.hk.taken + 1 < 2 ^ fld (s.get (O.SEQ_ENTRY_k + k)) 8 3) :
    Answers (.hkSequenceConversion raw) s fun t =>
      t.hk.taken = s.hk.taken + 1 ∧ t.hk.sum = s.hk.sum + raw.toNat ∧ t.hk.entry = k ∧
      (t.hk.clip = true ↔ s.hk.clip = true ∨ raw = 0#12 ∨ raw = 4095#12) ∧ OnlyObjs [] { s with hk := t.hk } t := by
  refine answers_done (exec_hkSequence raw ha hx he hk) ?_
  rw [if_pos hn, settle_hk]
  refine ⟨rfl, rfl, he, ?_, (onlyObjs_refl _ _).settled⟩
  simp [Hk.converted, or_assoc]

theorem cycleTm_congr (hc : t.counter = s.counter) (hw : t.wraps = s.wraps) : t.cycleTm = s.cycleTm := by
  rw [State.cycleTm, State.cycle, now_congr hc hw, State.cycleTm, State.cycle]

/-- The result of entry `k` stored, and the converter at the entry after it. -/
def entryStored (s : State) (k : Nat) (w : Slot) (h : Hk) : State := { s.put (O.SEQ_RESULT_k + k) w with hk := h }

theorem entryStored_fields (s : State) (w : Slot) (h : Hk) :
    (entryStored s k w h).get (O.SEQ_RESULT_k + k) = w ∧ (entryStored s k w h).cycleTm = s.cycleTm ∧
    (entryStored s k w h).num O.HK_SWEEP_COUNT = s.num O.HK_SWEEP_COUNT ∧ (entryStored s k w h).hk = h ∧
    (entryStored s k w h).ctxs = s.ctxs ∧ (entryStored s k w h).mem = s.mem := by
  have hne : O.HK_SWEEP_COUNT ≠ O.SEQ_RESULT_k + k := by simp only [O.SEQ_RESULT_k, O.HK_SWEEP_COUNT]; omega
  unfold entryStored
  refine ⟨?_, cycleTm_congr rfl rfl, ?_, rfl, rfl, rfl⟩
  · rw [State.get_eq, obj_hk, State.put_eq, State.obj_setObj_self]
  · rw [State.num_eq, obj_hk, State.put_eq, State.obj_setObj_ne _ _ _ _ _ _ (objKey_ne 0 hne), State.num_eq]

/-- The converter once an entry has ended, at the entry after it. -/
def Hk.advanced (h : Hk) (next : Option Nat) : Hk :=
  { h with entry := next.getD 0, taken := 0, sum := 0, clip := false, settled := true }

theorem entryEnd_eq (s : State) (k : Nat) (next : Option Nat) : entryEnd s k next =
    if next.isSome then entryStored s k (s.tableWord k) (s.hk.advanced next)
    else sweepEnd (entryStored s k (s.tableWord k) (s.hk.advanced next)) := by
  simp only [entryEnd, tableResult_eq, State.put_eq, State.setObj_hk, entryStored, Hk.advanced]

/-- The end of the entry in progress. -/
theorem entryEnd_fields (s : State) (next : Option Nat) (hk : k < 32) :
    (entryEnd s k next).get (O.SEQ_RESULT_k + k) = s.tableWord k ∧ (entryEnd s k next).hk = s.hk.advanced next ∧
    (entryEnd s k next).ctxs = s.ctxs ∧ (entryEnd s k next).mem = s.mem ∧
    (next = none → (entryEnd s k next).num O.HK_SWEEP_COUNT = (s.num O.HK_SWEEP_COUNT + 1) % 2 ^ 32 ∧
      (entryEnd s k next).get O.HK_SWEEP_TM = s.cycleTm) := by
  obtain ⟨hres, htm, hcount, hhk, hctx, hmem⟩ := entryStored_fields (k := k) s (s.tableWord k) (s.hk.advanced next)
  rw [entryEnd_eq]
  generalize entryStored s k (s.tableWord k) (s.hk.advanced next) = w at hres htm hcount hhk hctx hmem ⊢
  cases next with
  | some j => exact ⟨hres, hhk, hctx, hmem, fun h => absurd h (by simp)⟩
  | none =>
    rw [if_neg (by decide)]
    obtain ⟨h1, h2, h3, h4, h5⟩ := sweepEnd_fields w
    refine ⟨?_, h1.trans hhk, h2.trans hctx, h3.trans hmem, fun _ => ⟨h4.trans (by rw [hcount]), h5.trans htm⟩⟩
    rw [sweepEnd_other w (by simp only [O.SEQ_RESULT_k, O.HK_SWEEP_TM]; omega)
      (by simp only [O.SEQ_RESULT_k, O.HK_SWEEP_COUNT]; omega) (seqResult_settle hk).1, hres]

theorem hkSequence_ends (raw : BitVec 12) (ha : s.awake = true) (hx : s.hk.aux = none) (he : s.hk.entry = k)
    (hk : k ∈ s.tableEntries) (h32 : k < 32) (hn : 2 ^ fld (s.get (O.SEQ_ENTRY_k + k)) 8 3 ≤ s.hk.taken + 1) :
    Answers (.hkSequenceConversion raw) s fun t =>
      fld (t.get (O.SEQ_RESULT_k + k)) 0 16 = corrected (s.get (O.HK_CORR_c + fld (s.get (O.SEQ_ENTRY_k + k)) 0 6))
        (roundAway (16 * (s.hk.sum + raw.toNat)) (2 ^ fld (s.get (O.SEQ_ENTRY_k + k)) 8 3)).toNat ∧
      bit (t.get (O.SEQ_RESULT_k + k)) 31 = true ∧ t.hk.taken = 0 ∧ t.hk.sum = 0 ∧
      ((∀ j ∈ s.tableEntries, j ≤ k) →
        t.num O.HK_SWEEP_COUNT = (s.num O.HK_SWEEP_COUNT + 1) % 2 ^ 32 ∧ t.get O.HK_SWEEP_TM = s.cycleTm ∧
        t.hk.entry = 0) ∧ t.ctxs = s.ctxs ∧ t.mem = s.mem := by
  obtain ⟨hword, hhk, hctx, hmem, hsweep⟩ := entryEnd_fields { s with hk := s.hk.converted raw }
    (s.tableEntries.find? fun j => decide (k < j)) h32
  obtain ⟨hval, hbit⟩ := tableWord_fields { s with hk := s.hk.converted raw } k
  have hres := seqResult_settle h32
  refine answers_done (exec_hkSequence raw ha hx he hk) ?_
  rw [if_neg (Nat.not_lt.mpr hn)]
  have hnext : (∀ j ∈ s.tableEntries, j ≤ k) → (s.tableEntries.find? fun j => decide (k < j)) = none := fun h =>
    List.find?_eq_none.mpr fun j hj => by simpa using h j hj
  generalize entryEnd { s with hk := s.hk.converted raw } k (s.tableEntries.find? fun j => decide (k < j)) = w at hword hhk hctx hmem hsweep ⊢
  have hget : (settle w).get (O.SEQ_RESULT_k + k) = State.tableWord { s with hk := s.hk.converted raw } k :=
    (obj_settle_of w 0 _ hres.1 hres.2).trans hword
  rw [hget, settle_hk, hhk, settle_ctxs, settle_mem]
  refine ⟨hval, hbit, rfl, rfl, fun h => ?_, hctx, hmem⟩
  obtain ⟨hcount, htm⟩ := hsweep (hnext h)
  refine ⟨?_, ?_, by rw [hnext h]; rfl⟩
  · rw [State.num_eq, obj_settle_of _ _ _ (by decide) (by decide)]
    exact hcount
  · rw [State.get_eq, obj_settle_of _ _ _ (by decide) (by decide)]
    exact htm.trans (cycleTm_congr rfl rfl)

/-! ### Calibrations that fail (R582, R584, R589) -/

/-- Only the converter, its sweep and the outcome of a calibration changed, and no calibration began. -/
structure AuxStep (s t : State) : Prop where
  ctxs : t.ctxs = s.ctxs
  mem : t.mem = s.mem
  counter : t.counter = s.counter
  wraps : t.wraps = s.wraps
  objs : ∀ k, k < 2 ^ 24 → k ∉ [O.HK_SWEEP_TM, O.HK_SWEEP_COUNT, O.AUX_CAL_STATE, O.AUX_CAL_ERR] → t.get k = s.get k
  aux : s.hk.aux = none → t.hk.aux = none

theorem auxStep_refl (s : State) : AuxStep s s := ⟨rfl, rfl, rfl, rfl, fun _ _ _ => rfl, id⟩

theorem AuxStep.trans (h : AuxStep s t) (h' : AuxStep t u) : AuxStep s u :=
  ⟨h'.ctxs.trans h.ctxs, h'.mem.trans h.mem, h'.counter.trans h.counter, h'.wraps.trans h.wraps,
    fun k h24 hk => (h'.objs k h24 hk).trans (h.objs k h24 hk), h'.aux ∘ h.aux⟩

theorem auxStep_setHk (s : State) (h : Hk) (ha : s.hk.aux = none → h.aux = none) : AuxStep s { s with hk := h } :=
  ⟨rfl, rfl, rfl, rfl, fun _ _ _ => rfl, ha⟩

theorem auxStep_put {k : Nat} (hk : k = O.AUX_CAL_STATE ∨ k = O.AUX_CAL_ERR) (s : State) (v : Slot) : AuxStep s (s.put k v) := by
  refine ⟨rfl, rfl, rfl, rfl, fun j _ hj => ?_, id⟩
  have hne : j ≠ k := by
    rintro rfl
    obtain rfl | rfl := hk <;> exact hj (by decide)
  exact State.obj_setObj_ne _ _ _ _ _ _ (objKey_ne 0 hne)

theorem auxStep_sweepEnd (s : State) : AuxStep s (sweepEnd s) := by
  obtain ⟨hhk, hctx, hmem, -, -⟩ := sweepEnd_fields s
  refine ⟨hctx, hmem, ?_, ?_, fun k h24 hk => ?_, fun h => by rw [hhk, h]⟩
  · rw [sweepEnd_eq]
    simp only [State.setObj_counter]
  · rw [sweepEnd_eq]
    simp only [State.setObj_wraps]
  · simp only [List.mem_cons, not_or] at hk
    exact sweepEnd_other s hk.1 hk.2.1 h24

theorem auxStep_restartTable (s : State) : AuxStep s (restartTable s) := by
  have hsweep : AuxStep s (if 0 < s.hk.entry ∨ 0 < s.hk.taken then sweepEnd s else s) := by
    split
    · exact auxStep_sweepEnd s
    · exact auxStep_refl s
  unfold restartTable
  split
  · exact auxStep_setHk s _ id
  · dsimp only
    generalize (if 0 < s.hk.entry ∨ 0 < s.hk.taken then sweepEnd s else s) = v at hsweep ⊢
    exact hsweep.trans (auxStep_setHk v _ id)

/-- Whether a calibration of AUX `k` is in hand (R584). -/
def State.auxHit (s : State) (k : Nat) : Bool :=
  (s.hk.aux.any fun a => a.1 == k) || (s.hk.zero.any fun a => a.1 == k)

/-- The outcome of a calibration whose range or reference changed (R584). -/
def auxFailed (s : State) : State :=
  (({ s with hk := { s.hk with aux := none, zero := none } } : State).put O.AUX_CAL_STATE 4).put O.AUX_CAL_ERR 3

theorem auxChanged_eq (s : State) (k : Nat) : auxChanged s k =
    if s.auxHit k then if (auxFailed s).hk.restart then restartTable (auxFailed s) else auxFailed s else s := by
  unfold auxChanged State.auxHit
  cases s.hk.aux <;> cases s.hk.zero <;> rfl

theorem auxStep_auxFailed (s : State) : AuxStep s (auxFailed s) :=
  ((auxStep_setHk s _ fun _ => rfl).trans (auxStep_put (Or.inl rfl) _ _)).trans (auxStep_put (Or.inr rfl) _ _)

theorem auxFailed_aux (s : State) : (auxFailed s).hk.aux = none := rfl

theorem auxStep_auxChanged (s : State) (k : Nat) : AuxStep s (auxChanged s k) := by
  rw [auxChanged_eq]
  split
  · split
    · exact (auxStep_auxFailed s).trans (auxStep_restartTable _)
    · exact auxStep_auxFailed s
  · exact auxStep_refl s

theorem auxChanged_ends {n : Nat} (h : s.hk.aux = some (k, n)) : (auxChanged s k).hk.aux = none := by
  rw [auxChanged_eq, if_pos (by simp [State.auxHit, h])]
  split
  · exact (auxStep_restartTable _).aux (auxFailed_aux s)
  · exact auxFailed_aux s

theorem auxCfg_keys (h : k < 4) : O.AUX_CFG_k + k < 2 ^ 24 ∧ O.AUX_CFG_k + k ∉ settleObjs ∧
    O.AUX_CFG_k + k ∉ [O.HK_SWEEP_TM, O.HK_SWEEP_COUNT, O.AUX_CAL_STATE, O.AUX_CAL_ERR] ∧ O.AUX_CFG_k + k ≠ O.HK_REF_SELECT ∧
    O.AUX_CFG_k + k ≠ O.HK_STATUS := by
  interval_cases k <;> decide

theorem auxInvalid_eq (s : State) (k : Nat) : auxInvalid s k =
    (auxChanged s k).setObj 0 (O.AUX_CFG_k + k) (clearBit ((auxChanged s k).get (O.AUX_CFG_k + k)) 8) := rfl

theorem auxInvalid_clears (s : State) (k : Nat) : bit ((auxInvalid s k).get (O.AUX_CFG_k + k)) 8 = false := by
  rw [auxInvalid_eq, State.get_eq, State.obj_setObj_self, bit_clearBit _ _ _ (by decide)]
  simp

theorem auxInvalid_bit (s : State) (h : k < 4) {b : Nat} (hb : b ≠ 8) :
    bit ((auxInvalid s k).get (O.AUX_CFG_k + k)) b = bit (s.get (O.AUX_CFG_k + k)) b := by
  obtain ⟨h24, -, hno, -⟩ := auxCfg_keys h
  rw [auxInvalid_eq, State.get_eq, State.obj_setObj_self, bit_clearBit _ _ _ (by decide),
    (auxStep_auxChanged s k).objs _ h24 hno]
  simp [hb]

theorem auxInvalid_get (s : State) {j : Nat} (hj : j ≠ O.AUX_CFG_k + k) (h24 : j < 2 ^ 24)
    (hno : j ∉ [O.HK_SWEEP_TM, O.HK_SWEEP_COUNT, O.AUX_CAL_STATE, O.AUX_CAL_ERR]) : (auxInvalid s k).get j = s.get j := by
  rw [auxInvalid_eq, State.get_eq, State.obj_setObj_ne _ _ _ _ _ _ (objKey_ne 0 hj)]
  exact (auxStep_auxChanged s k).objs j h24 hno

theorem auxInvalid_keeps (s : State) (k : Nat) : (auxInvalid s k).ctxs = s.ctxs ∧ (auxInvalid s k).mem = s.mem ∧
    (auxInvalid s k).counter = s.counter ∧ (auxInvalid s k).wraps = s.wraps ∧
    (s.hk.aux = none → (auxInvalid s k).hk.aux = none) := by
  have h := auxStep_auxChanged s k
  rw [auxInvalid_eq]
  exact ⟨h.ctxs, h.mem, h.counter, h.wraps, h.aux⟩

theorem auxInvalid_ends {n : Nat} (h : s.hk.aux = some (k, n)) : (auxInvalid s k).hk.aux = none := by
  rw [auxInvalid_eq]
  exact auxChanged_ends h

end Sys2Proof.Machine
end

section
/-! ## The housekeeping converter: its commands (R580, R582, R584) -/

namespace Sys2Proof.Machine

variable {s t u : State} {p k : Nat} {v : Slot}

/-! ### The reference (R580) -/

/-- Every AUX of a list loses its calibration. -/
def auxInvalidEach (s : State) (l : List Nat) : State := l.foldl auxInvalid s

theorem auxInvalidEach_keeps (l : List Nat) (s : State) : (auxInvalidEach s l).ctxs = s.ctxs ∧ (auxInvalidEach s l).mem = s.mem ∧
    (auxInvalidEach s l).counter = s.counter ∧ (auxInvalidEach s l).wraps = s.wraps ∧
    (s.hk.aux = none → (auxInvalidEach s l).hk.aux = none) := by
  induction l generalizing s with
  | nil => exact ⟨rfl, rfl, rfl, rfl, id⟩
  | cons a l ih =>
    obtain ⟨h1, h2, h3, h4, h5⟩ := ih (auxInvalid s a)
    obtain ⟨g1, g2, g3, g4, g5⟩ := auxInvalid_keeps s a
    exact ⟨h1.trans g1, h2.trans g2, h3.trans g3, h4.trans g4, h5 ∘ g5⟩

theorem auxInvalidEach_get {l : List Nat} (hl : ∀ a ∈ l, a < 4) (s : State) :
    (auxInvalidEach s l).get O.HK_REF_SELECT = s.get O.HK_REF_SELECT := by
  induction l generalizing s with
  | nil => rfl
  | cons a l ih =>
    refine (ih (fun b hb => hl b (List.mem_cons_of_mem a hb)) _).trans (auxInvalid_get s ?_ (by decide) (by decide))
    exact (auxCfg_keys (hl a List.mem_cons_self)).2.2.2.1.symm

theorem auxInvalidEach_clears {l : List Nat} (hl : ∀ a ∈ l, a < 4) (s : State) (hk : k < 4)
    (h : k ∈ l ∨ bit (s.get (O.AUX_CFG_k + k)) 8 = false) : bit ((auxInvalidEach s l).get (O.AUX_CFG_k + k)) 8 = false := by
  induction l generalizing s with
  | nil => exact h.resolve_left List.not_mem_nil
  | cons a l ih =>
    refine ih (fun b hb => hl b (List.mem_cons_of_mem a hb)) _ ?_
    by_cases ha : k = a
    · subst ha
      exact Or.inr (auxInvalid_clears s k)
    · refine h.imp (fun hm => (List.mem_cons.mp hm).resolve_left ha) fun hb => ?_
      obtain ⟨h24, -, hno, -⟩ := auxCfg_keys hk
      rw [auxInvalid_get s (by omega) h24 hno]
      exact hb

theorem auxInvalid_aux (s : State) (k : Nat) : (auxInvalid s k).hk.aux = s.hk.aux ∨ (auxInvalid s k).hk.aux = none := by
  rw [auxInvalid_eq, State.setObj_hk, auxChanged_eq]
  split
  · refine Or.inr ?_
    split
    · exact (auxStep_restartTable _).aux (auxFailed_aux s)
    · exact auxFailed_aux s
  · exact Or.inl rfl

theorem auxInvalidEach_ends {l : List Nat} {n : Nat} (s : State) (hk : k ∈ l) (h : s.hk.aux = some (k, n)) :
    (auxInvalidEach s l).hk.aux = none := by
  induction l generalizing s with
  | nil => exact absurd hk List.not_mem_nil
  | cons a l ih =>
    obtain hsame | hnone := auxInvalid_aux s a
    · refine ih _ ((List.mem_cons.mp hk).resolve_left ?_) (hsame.trans h)
      rintro rfl
      rw [auxInvalid_ends h, h] at hsame
      exact absurd hsame (by simp)
    · exact (auxInvalidEach_keeps l (auxInvalid s a)).2.2.2.2 hnone

theorem missing_hkRefSelect (s : State) : s.missing (O.HK_REF_SELECT / 256) (O.HK_REF_SELECT % 256) = none := rfl

/-- The state of a new reference before it settles. -/
def refChosen (s : State) (v : Slot) : State :=
  let u := auxInvalidEach (s.put O.HK_REF_SELECT v) (List.range 4)
  if u.refBad then u.flag 0 O.HK_STATUS 2 else u

/-- What a new reference leaves (R580, R582). -/
theorem refChosen_fields (s : State) (v : Slot) :
    (refChosen s v).get O.HK_REF_SELECT = v ∧ (∀ k, k < 4 → bit ((refChosen s v).get (O.AUX_CFG_k + k)) 8 = false) ∧
    (∀ j n, s.hk.aux = some (j, n) → j < 4 → (refChosen s v).hk.aux = none) ∧ (refChosen s v).now = s.now ∧
    (refChosen s v).ctxs = s.ctxs ∧ (refChosen s v).mem = s.mem := by
  have hput : (s.put O.HK_REF_SELECT v).get O.HK_REF_SELECT = v := State.obj_setObj_self _ _ _ _
  have hhk : (s.put O.HK_REF_SELECT v).hk = s.hk := rfl
  have hrange : ∀ a ∈ List.range 4, a < 4 := fun a ha => List.mem_range.mp ha
  obtain ⟨hctx, hmem, hcnt, hwr, -⟩ := auxInvalidEach_keeps (List.range 4) (s.put O.HK_REF_SELECT v)
  have href := (auxInvalidEach_get hrange (s.put O.HK_REF_SELECT v)).trans hput
  have hclear : ∀ k, k < 4 → bit ((auxInvalidEach (s.put O.HK_REF_SELECT v) (List.range 4)).get (O.AUX_CFG_k + k)) 8 = false :=
    fun k hk => auxInvalidEach_clears hrange _ hk (Or.inl (List.mem_range.mpr hk))
  have hend : ∀ j n, s.hk.aux = some (j, n) → j < 4 →
      (auxInvalidEach (s.put O.HK_REF_SELECT v) (List.range 4)).hk.aux = none :=
    fun j n h hj => auxInvalidEach_ends _ (List.mem_range.mpr hj) (by rw [hhk, h])
  unfold refChosen
  dsimp only
  generalize auxInvalidEach (s.put O.HK_REF_SELECT v) (List.range 4) = w at hctx hmem hcnt hwr href hclear hend ⊢
  split
  · rw [State.flag_eq]
    refine ⟨?_, fun k hk => ?_, hend, now_congr (s := s) hcnt hwr, hctx, hmem⟩
    · rw [State.get_eq, State.obj_setObj_ne _ _ _ _ _ _ (by decide)]
      exact href
    · rw [State.get_eq, State.obj_setObj_ne _ _ _ _ _ _ (objKey_ne 0 (auxCfg_keys hk).2.2.2.2)]
      exact hclear k hk
  · exact ⟨href, hclear, hend, now_congr (s := s) hcnt hwr, hctx, hmem⟩

theorem hkRefWrite_changes (ho : ownerOf p = s.steward) (hv : v.toNat ≤ 2) (hne : s.get O.HK_REF_SELECT ≠ v) :
    hkRefWrite s p v = .ok { refChosen s v with hk := { (refChosen s v).hk with
      settleAt := some ((refChosen s v).now + 8000000) } } := by
  unfold hkRefWrite
  rw [stewardOnly_pos ho, need_pos s (decide_eq_true hv) _ _, if_neg hne]
  rfl

theorem hkRefSelect_changes (h : Served s p) (ho : ownerOf p = s.steward) (hv : v.toNat ≤ 2) (hne : s.get O.HK_REF_SELECT ≠ v) :
    Answers (.hkRefSelectWrite p v) s fun t =>
      t.get O.HK_REF_SELECT = v ∧ t.hk.settleAt = some (s.now + 8000000) ∧
      (∀ k, k < 4 → bit (t.get (O.AUX_CFG_k + k)) 8 = false) ∧ (∀ j n, s.hk.aux = some (j, n) → j < 4 → t.hk.aux = none) ∧
      t.ctxs = s.ctxs ∧ t.mem = s.mem := by
  obtain ⟨href, hclear, hend, hnow, hctx, hmem⟩ := refChosen_fields s.turned v
  have hturn : s.turned.now = s.now := now_congr rfl rfl
  refine answers_access (i := .hkRefSelectWrite p v) rfl h (missing_hkRefSelect s) (hkRefWrite_changes (s := s.turned) ho hv hne) ?_
  rw [hnow, hturn]
  generalize refChosen s.turned v = w at href hclear hend hctx hmem ⊢
  rw [settle_hk, settle_ctxs, settle_mem]
  refine ⟨?_, rfl, fun k hk => ?_, hend, hctx, hmem⟩
  · rw [State.get_eq, obj_settle_of _ _ _ (by decide) (by decide)]
    exact href
  · obtain ⟨h24, hset, -⟩ := auxCfg_keys hk
    rw [State.get_eq, obj_settle_of _ _ _ h24 hset]
    exact hclear k hk

theorem hkRefWrite_same (ho : ownerOf p = s.steward) (hv : v.toNat ≤ 2) (he : s.get O.HK_REF_SELECT = v) :
    hkRefWrite s p v = .ok s := by
  unfold hkRefWrite
  rw [stewardOnly_pos ho, need_pos s (decide_eq_true hv) _ _, if_pos he]

theorem hkRefWrite_range (ho : ownerOf p = s.steward) (hv : 2 < v.toNat) : hkRefWrite s p v = (s, some .range) := by
  unfold hkRefWrite
  rw [stewardOnly_pos ho]
  exact need_neg (decide_eq_false (Nat.not_le.mpr hv)) _ _

theorem hkRefSelect_same (h : Served s p) (ho : ownerOf p = s.steward) (hv : (s.get O.HK_REF_SELECT).toNat ≤ 2) :
    Answers (.hkRefSelectWrite p (s.get O.HK_REF_SELECT)) s fun t => OnlyObjs [] s t :=
  answers_access (i := .hkRefSelectWrite p _) (f := fun s' => hkRefWrite s' p (s.get O.HK_REF_SELECT)) rfl h
    (missing_hkRefSelect s) (hkRefWrite_same (s := s.turned) ho hv rfl) (onlyObjs_turned []).settled

theorem hkRefSelect_range (h : Served s p) (ho : ownerOf p = s.steward) (hv : 2 < v.toNat) :
    Answers (.hkRefSelectWrite p v) s fun t => Rejected s t p O.HK_REF_SELECT 2 .range :=
  rejected_access (i := .hkRefSelectWrite p v) (f := fun s' => hkRefWrite s' p v) rfl h (missing_hkRefSelect s)
    (hkRefWrite_range (s := s.turned) ho hv)

theorem hkRefSelect_other (h : Served s p) (ho : ownerOf p ≠ s.steward) :
    Answers (.hkRefSelectWrite p v) s fun t => Rejected s t p O.HK_REF_SELECT 2 .noPermission :=
  rejected_access (i := .hkRefSelectWrite p v) (f := fun s' => hkRefWrite s' p v) rfl h (missing_hkRefSelect s)
    (stewardOnly_neg (s := s.turned) ho _)

theorem hkRefSettled_settles {a : Nat} (h : s.hk.settleAt = some a) : Answers .hkRefSettled s fun t =>
    t.hk = { s.hk with settleAt := none } ∧ t.ctxs = s.ctxs ∧ t.mem = s.mem := by
  have hrun : exec .hkRefSettled s = done { s.runTo a with hk := { s.hk with settleAt := none } } := by
    rw [show exec .hkRefSettled s = execHkRefSettled s from rfl, execHkRefSettled, h]
  refine answers_done hrun ?_
  rw [settle_hk, settle_ctxs, settle_mem]
  exact ⟨rfl, runTo_ctxs s a, runTo_mem s a⟩

theorem hkRefSettled_idle (h : s.hk.settleAt = none) : Answers .hkRefSettled s fun t => OnlyObjs [] s t :=
  answers_idle (by rw [show exec .hkRefSettled s = execHkRefSettled s from rfl, execHkRefSettled, h])

/-! ### The auxiliary inputs (R582, R584) -/

theorem missing_auxCfg (hk : k < 4) : s.missing ((O.AUX_CFG_k + k) / 256) ((O.AUX_CFG_k + k) % 256) = none := by
  interval_cases k <;> rfl

theorem missing_auxCalCmd (s : State) : s.missing (O.AUX_CAL_CMD / 256) (O.AUX_CAL_CMD % 256) = none := rfl

theorem exec_auxRange (hk : k < 4) : exec (.auxRangeWrite p k v) s =
    done (access s p (O.AUX_CFG_k + k) fun s => auxRangeWrite s p k v) := by
  rw [show exec (.auxRangeWrite p k v) s = execAuxRangeWrite p k v s from rfl, execAuxRangeWrite, if_pos hk]

theorem auxRangeWrite_steward (ho : ownerOf p = s.steward) (hv : v.toNat < 2 ^ 32) : auxRangeWrite s p k v =
    .ok (if bit (s.get (O.AUX_CFG_k + k)) 0 = bit v 0 then s
      else auxInvalid (s.put (O.AUX_CFG_k + k) (putBit (s.get (O.AUX_CFG_k + k)) 0 (bit v 0))) k) := by
  unfold auxRangeWrite
  rw [stewardOnly_pos ho, need_pos s (c := ObjTy.u32.fits v) (decide_eq_true hv) _ _]

theorem auxRange_same (h : Served s p) (ho : ownerOf p = s.steward) (hk : k < 4) (hv : v.toNat < 2 ^ 32)
    (he : bit (s.get (O.AUX_CFG_k + k)) 0 = bit v 0) : Answers (.auxRangeWrite p k v) s fun t => OnlyObjs [] s t :=
  answers_access (exec_auxRange hk) h (missing_auxCfg hk) (u := s.turned)
    ((auxRangeWrite_steward (s := s.turned) ho hv).trans (congrArg Acc.ok (if_pos he))) (onlyObjs_turned []).settled

theorem auxRange_changes (h : Served s p) (ho : ownerOf p = s.steward) (hk : k < 4) (hv : v.toNat < 2 ^ 32)
    (he : bit (s.get (O.AUX_CFG_k + k)) 0 ≠ bit v 0) : Answers (.auxRangeWrite p k v) s fun t =>
      bit (t.get (O.AUX_CFG_k + k)) 0 = bit v 0 ∧ bit (t.get (O.AUX_CFG_k + k)) 8 = false ∧ t.ctxs = s.ctxs ∧
      t.mem = s.mem := by
  obtain ⟨h24, hset, -⟩ := auxCfg_keys hk
  refine answers_access (exec_auxRange hk) h (missing_auxCfg hk)
    ((auxRangeWrite_steward (s := s.turned) ho hv).trans (congrArg Acc.ok (if_neg he))) ?_
  generalize hw : s.turned.put (O.AUX_CFG_k + k) (putBit (s.turned.get (O.AUX_CFG_k + k)) 0 (bit v 0)) = w
  have hput : w.get (O.AUX_CFG_k + k) = putBit (s.turned.get (O.AUX_CFG_k + k)) 0 (bit v 0) := by
    rw [← hw]
    exact State.obj_setObj_self _ _ _ _
  have hctx : w.ctxs = s.ctxs := by rw [← hw]; rfl
  have hmem : w.mem = s.mem := by rw [← hw]; rfl
  obtain ⟨h1, h2, -⟩ := auxInvalid_keeps w k
  rw [State.get_eq, obj_settle_of _ _ _ h24 hset, ← State.get_eq, settle_ctxs, settle_mem]
  refine ⟨?_, auxInvalid_clears w k, h1.trans hctx, h2.trans hmem⟩
  rw [auxInvalid_bit w hk (by decide), hput]
  exact (bit_putBit _ (by decide) _ _).trans (if_pos rfl)

theorem auxRange_other (h : Served s p) (ho : ownerOf p ≠ s.steward) (hk : k < 4) :
    Answers (.auxRangeWrite p k v) s fun t => Rejected s t p (O.AUX_CFG_k + k) 2 .noPermission :=
  rejected_access (exec_auxRange hk) h (missing_auxCfg hk) (stewardOnly_neg (s := s.turned) ho _)

/-! ### Calibrations of an auxiliary input (R584) -/

theorem auxWord_fields {n : Nat} (hk : k < 4) (hn : n < 4) :
    fld (auxWord k n) 8 2 = k ∧ fld (auxWord k n) 0 2 = n ∧ ObjTy.u16.fits (auxWord k n) = true := by
  interval_cases k <;> interval_cases n <;> decide

theorem auxWord_step {n : Nat} (hn : n < 4) : fld (auxWord k n) 0 2 = n ∧ ObjTy.u16.fits (auxWord k n) = true := by
  have hk : auxWord k n = auxWord (k % 4) n := by rw [auxWord, auxWord, Nat.mod_mod]
  rw [hk]
  exact (auxWord_fields (Nat.mod_lt k (by decide)) hn).2

/-- The commands that are steps of an auxiliary input's calibration. -/
inductive AuxSteps : Instr → Nat → Nat → Nat → Prop
  | zero (p k : Nat) : AuxSteps (.auxCalZero p k) p k 1
  | span (p k : Nat) : AuxSteps (.auxCalSpan p k) p k 2
  | reset (p k : Nat) : AuxSteps (.auxCalReset p k) p k 3

theorem AuxSteps.exec {i : Instr} {n : Nat} (hi : AuxSteps i p k n) (s : State) :
    exec i s = done (access s p O.AUX_CAL_CMD fun s => auxCmd s p (auxWord k n)) := by
  cases hi <;> rfl

theorem AuxSteps.rejected {i : Instr} {n : Nat} (hi : AuxSteps i p k n) (h : Served s p) (ho : ownerOf p ≠ s.steward) :
    Answers i s fun t => Rejected s t p O.AUX_CAL_CMD 2 .noPermission :=
  rejected_access (hi.exec s) h (missing_auxCalCmd s) (stewardOnly_neg (s := s.turned) ho _)

theorem auxCmd_zero (ho : ownerOf p = s.steward) (hk : k < 4) (ha : s.hk.aux = none) : auxCmd s p (auxWord k 1) =
    .ok ((({ s with hk := { s.hk with aux := some (k, 1), zero := none } } : State).put O.AUX_CAL_STATE 1).put O.AUX_CAL_ERR 0) := by
  obtain ⟨h8, h0, hfit⟩ := auxWord_fields (n := 1) hk (by decide)
  unfold auxCmd
  rw [h8, h0]
  dsimp only
  rw [stewardOnly_pos ho, need_pos s hfit _ _, ha]
  rfl

theorem auxCmd_busy {n : Nat} (ho : ownerOf p = s.steward) (hn : n = 1 ∨ n = 2) (ha : s.hk.aux.isSome = true) :
    auxCmd s p (auxWord k n) = (s, some .presentState) := by
  obtain ⟨h0, hfit⟩ := auxWord_step (k := k) (n := n) (by omega)
  unfold auxCmd
  rw [h0]
  dsimp only
  rw [stewardOnly_pos ho, need_pos s hfit _ _, ha]
  obtain rfl | rfl := hn
  · rfl
  · rfl

theorem auxCmd_span {r : Nat} (ho : ownerOf p = s.steward) (hk : k < 4) (ha : s.hk.aux = none) (hz : s.hk.zero = some (k, r)) :
    auxCmd s p (auxWord k 2) = .ok (({ s with hk := { s.hk with aux := some (k, 2) } } : State).put O.AUX_CAL_STATE 1) := by
  obtain ⟨h8, h0, hfit⟩ := auxWord_fields (n := 2) hk (by decide)
  unfold auxCmd
  rw [h8, h0]
  dsimp only
  rw [stewardOnly_pos ho, need_pos s hfit _ _]
  have hready : (!s.hk.aux.isSome && match s.hk.zero with | some (j, _) => j == k | none => false) = true := by
    rw [ha, hz]
    exact beq_self_eq_true k
  exact need_pos s hready .presentState fun s => .ok (({ s with hk := { s.hk with aux := some (k, 2) } } : State).put O.AUX_CAL_STATE 1)

theorem auxCmd_unzeroed (ho : ownerOf p = s.steward) (hz : s.hk.zero = none) :
    auxCmd s p (auxWord k 2) = (s, some .presentState) := by
  obtain ⟨h0, hfit⟩ := auxWord_step (k := k) (n := 2) (by decide)
  unfold auxCmd
  rw [h0]
  dsimp only
  rw [stewardOnly_pos ho, need_pos s hfit _ _, hz]
  exact need_neg (Bool.and_false _) _ _

theorem auxCmd_reset (ho : ownerOf p = s.steward) (hk : k < 4) : auxCmd s p (auxWord k 3) =
    .ok ((s.put (O.HK_CORR_AUX_k + k) 0x80000000).unflag 0 (O.AUX_CFG_k + k) 8) := by
  obtain ⟨h8, h0, hfit⟩ := auxWord_fields (n := 3) hk (by decide)
  unfold auxCmd
  rw [h8, h0]
  dsimp only
  rw [stewardOnly_pos ho, need_pos s hfit _ _]
  rfl

theorem auxKeys_settle : (O.AUX_CAL_STATE < 2 ^ 24 ∧ O.AUX_CAL_STATE ∉ settleObjs) ∧
    (O.AUX_CAL_ERR < 2 ^ 24 ∧ O.AUX_CAL_ERR ∉ settleObjs) := by decide

theorem auxCorr_keys (hk : k < 4) : O.HK_CORR_AUX_k + k < 2 ^ 24 ∧ O.HK_CORR_AUX_k + k ∉ settleObjs ∧
    O.HK_CORR_AUX_k + k ≠ O.AUX_CFG_k + k ∧ O.HK_CORR_AUX_k + k ≠ O.AUX_CAL_STATE ∧ O.AUX_CFG_k + k ≠ O.AUX_CAL_STATE := by
  interval_cases k <;> decide

theorem onlyObjs_turnedHk (ks : List Nat) (s : State) (h : Hk) : OnlyObjs ks { s with hk := h } { s.turned with hk := h } :=
  onlyObjs_congr ks rfl rfl rfl

theorem auxCalZero_starts (h : Served s p) (ho : ownerOf p = s.steward) (hk : k < 4) (ha : s.hk.aux = none) :
    Answers (.auxCalZero p k) s fun t =>
        t.num O.AUX_CAL_STATE = 1 ∧ t.num O.AUX_CAL_ERR = 0 ∧
        OnlyObjs [objKey 0 O.AUX_CAL_STATE, objKey 0 O.AUX_CAL_ERR]
          { s with hk := { s.hk with aux := some (k, 1), zero := none } } t := by
  refine answers_access ((AuxSteps.zero p k).exec s) h (missing_auxCalCmd s) (auxCmd_zero (s := s.turned) ho hk ha) ?_
  have hframe := onlyObjs_turnedHk [objKey 0 O.AUX_CAL_STATE, objKey 0 O.AUX_CAL_ERR] s
    { s.hk with aux := some (k, 1), zero := none }
  generalize ({ s.turned with hk := { s.turned.hk with aux := some (k, 1), zero := none } } : State) = w at hframe ⊢
  refine ⟨?_, num_settle_put (m := 0) _ (by decide) (by decide) (by decide), ?_⟩
  · rw [State.num_eq, obj_settle_of _ _ _ (by decide) (by decide), State.put_eq, State.obj_setObj_ne _ _ _ _ _ _ (by decide),
      State.put_eq, State.obj_setObj_self]
    rfl
  · rw [State.put_eq, State.put_eq]
    exact ((hframe.put (by simp) _).put (by simp) _).settled

theorem auxCalSpan_starts {r : Nat} (h : Served s p) (ho : ownerOf p = s.steward) (hk : k < 4) (ha : s.hk.aux = none)
    (hz : s.hk.zero = some (k, r)) : Answers (.auxCalSpan p k) s fun t =>
      t.num O.AUX_CAL_STATE = 1 ∧ OnlyObjs [objKey 0 O.AUX_CAL_STATE] { s with hk := { s.hk with aux := some (k, 2) } } t := by
  refine answers_access ((AuxSteps.span p k).exec s) h (missing_auxCalCmd s) (auxCmd_span (s := s.turned) ho hk ha hz) ?_
  have hframe := onlyObjs_turnedHk [objKey 0 O.AUX_CAL_STATE] s { s.hk with aux := some (k, 2) }
  generalize ({ s.turned with hk := { s.turned.hk with aux := some (k, 2) } } : State) = w at hframe ⊢
  refine ⟨num_settle_put (m := 1) _ (by decide) (by decide) (by decide), ?_⟩
  rw [State.put_eq]
  exact (hframe.put (by simp) _).settled

theorem auxCalSpan_unzeroed (h : Served s p) (ho : ownerOf p = s.steward) (hz : s.hk.zero = none) :
    Answers (.auxCalSpan p k) s fun t => Rejected s t p O.AUX_CAL_CMD 2 .presentState :=
  rejected_access ((AuxSteps.span p k).exec s) h (missing_auxCalCmd s) (auxCmd_unzeroed (s := s.turned) ho hz)

theorem auxCal_busy {i : Instr} (h : Served s p) (ho : ownerOf p = s.steward) (ha : s.hk.aux.isSome = true)
    (hi : i = .auxCalZero p k ∨ i = .auxCalSpan p k) :
    Answers i s fun t => Rejected s t p O.AUX_CAL_CMD 2 .presentState := by
  obtain rfl | rfl := hi
  · exact rejected_access ((AuxSteps.zero p k).exec s) h (missing_auxCalCmd s) (auxCmd_busy (s := s.turned) ho (Or.inl rfl) ha)
  · exact rejected_access ((AuxSteps.span p k).exec s) h (missing_auxCalCmd s) (auxCmd_busy (s := s.turned) ho (Or.inr rfl) ha)

theorem auxCalReset_answers (h : Served s p) (ho : ownerOf p = s.steward) (hk : k < 4) : Answers (.auxCalReset p k) s fun t =>
      t.num (O.HK_CORR_AUX_k + k) = 0x80000000 ∧ bit (t.get (O.AUX_CFG_k + k)) 8 = false ∧
      OnlyObjs [objKey 0 (O.HK_CORR_AUX_k + k), objKey 0 (O.AUX_CFG_k + k)] s t := by
  obtain ⟨h24, hset, hne, -⟩ := auxCorr_keys hk
  obtain ⟨g24, gset, -⟩ := auxCfg_keys hk
  refine answers_access ((AuxSteps.reset p k).exec s) h (missing_auxCalCmd s) (auxCmd_reset (s := s.turned) ho hk) ?_
  have hframe : OnlyObjs [objKey 0 (O.HK_CORR_AUX_k + k), objKey 0 (O.AUX_CFG_k + k)] s s.turned := onlyObjs_turned _
  generalize s.turned = w at hframe ⊢
  rw [State.unflag_eq, State.put_eq]
  refine ⟨?_, ?_, ((hframe.put (by simp) _).put (by simp) _).settled⟩
  · rw [State.num_eq, obj_settle_of _ _ _ h24 hset, State.obj_setObj_ne _ _ _ _ _ _ (objKey_ne 0 hne), State.obj_setObj_self]
    rfl
  · rw [State.get_eq, obj_settle_of _ _ _ g24 gset, State.obj_setObj_self, bit_clearBit _ _ _ (by decide)]
    exact Bool.and_false _

/-! ### The end of a measurement (R584) -/

/-- The converter of a measurement that has ended. -/
def Hk.measured (h : Hk) (z : Option (Nat × Nat)) : Hk := { h with aux := none, zero := z }

theorem exec_auxDone_idle (sum : Nat) (h : s.hk.aux = none) : exec (.auxCalMeasureDone sum) s = done s := by
  rw [show exec (.auxCalMeasureDone sum) s = execAuxCalMeasureDone sum s from rfl]
  unfold execAuxCalMeasureDone
  rw [h]

/-- The outcome of the span step in the objects of AUX `k`. -/
def auxOutcome (s : State) (k : Nat) : Nat ⊕ Nat → State
  | .inl w => ((s.put (O.HK_CORR_AUX_k + k) (ofN w)).flag 0 (O.AUX_CFG_k + k) 8).put O.AUX_CAL_STATE 3
  | .inr e => (s.put O.AUX_CAL_STATE 4).put O.AUX_CAL_ERR (ofN e)

/-- The state that the end of step `n` of AUX `k` leaves, `r` being the measured value. -/
def auxMeasured (s : State) (k n r : Nat) : State :=
  if n = 1 then ({ s with hk := s.hk.measured (some (k, r)) } : State).put O.AUX_CAL_STATE 2
  else auxOutcome { s with hk := s.hk.measured none } k (s.auxSpan k ((s.hk.zero.map Prod.snd).getD 0) r)

theorem auxSpan_hk (s : State) (h : Hk) (k r0 r1 : Nat) : ({ s with hk := h } : State).auxSpan k r0 r1 = s.auxSpan k r0 r1 := rfl

theorem exec_auxDone {n : Nat} (sum : Nat) (h : s.hk.aux = some (k, n)) : exec (.auxCalMeasureDone sum) s =
    done (if (auxMeasured s k n (roundAway (16 * sum) 256).toNat).hk.restart
      then restartTable (auxMeasured s k n (roundAway (16 * sum) 256).toNat)
      else auxMeasured s k n (roundAway (16 * sum) 256).toNat) := by
  rw [show exec (.auxCalMeasureDone sum) s = execAuxCalMeasureDone sum s from rfl]
  unfold execAuxCalMeasureDone auxMeasured
  generalize (roundAway (16 * sum) 256).toNat = r
  rw [h]
  dsimp only
  rw [← auxSpan_hk s (s.hk.measured none)]
  by_cases hn : n = 1
  · rw [if_pos hn, if_pos hn]
    rfl
  · rw [if_neg hn, if_neg hn]
    rfl

theorem auxMeasured_restart (s : State) (k n r : Nat) : (auxMeasured s k n r).hk.restart = s.hk.restart := by
  unfold auxMeasured
  split
  · rfl
  · cases s.auxSpan k ((s.hk.zero.map Prod.snd).getD 0) r <;> rfl

theorem exec_auxDone_table {n : Nat} (sum : Nat) (h : s.hk.aux = some (k, n)) (hr : s.hk.restart = false) :
    exec (.auxCalMeasureDone sum) s = done (auxMeasured s k n (roundAway (16 * sum) 256).toNat) := by
  rw [exec_auxDone sum h, if_neg (by rw [auxMeasured_restart, hr]; decide)]

theorem auxDone_zero (sum : Nat) (hr : s.hk.restart = false) (h : s.hk.aux = some (k, 1)) :
    Answers (.auxCalMeasureDone sum) s fun t => t.num O.AUX_CAL_STATE = 2 ∧
      OnlyObjs [objKey 0 O.AUX_CAL_STATE] { s with hk := s.hk.measured (some (k, (roundAway (16 * sum) 256).toNat)) } t := by
  refine answers_done (exec_auxDone_table sum h hr) ?_
  rw [auxMeasured, if_pos rfl]
  refine ⟨num_settle_put (m := 2) _ (by decide) (by decide) (by decide), ?_⟩
  rw [State.put_eq]
  exact ((onlyObjs_refl _ _).put (by simp) _).settled

theorem auxDone_span {w r0 : Nat} (sum : Nat) (hr : s.hk.restart = false) (hk : k < 4) (h : s.hk.aux = some (k, 2))
    (hz : s.hk.zero = some (k, r0)) (hs : s.auxSpan k r0 (roundAway (16 * sum) 256).toNat = .inl w) :
    Answers (.auxCalMeasureDone sum) s fun t =>
      t.get (O.HK_CORR_AUX_k + k) = ofN w ∧ bit (t.get (O.AUX_CFG_k + k)) 8 = true ∧ t.num O.AUX_CAL_STATE = 3 ∧
      OnlyObjs [objKey 0 (O.HK_CORR_AUX_k + k), objKey 0 (O.AUX_CFG_k + k), objKey 0 O.AUX_CAL_STATE]
        { s with hk := s.hk.measured none } t := by
  obtain ⟨h24, hset, hne, hne', hne''⟩ := auxCorr_keys hk
  obtain ⟨g24, gset, -⟩ := auxCfg_keys hk
  have hend : auxMeasured s k 2 (roundAway (16 * sum) 256).toNat = auxOutcome { s with hk := s.hk.measured none } k (.inl w) := by
    rw [auxMeasured, if_neg (by decide), hz, ← hs]
    rfl
  refine answers_done (exec_auxDone_table sum h hr) ?_
  rw [hend, auxOutcome, State.put_eq, State.flag_eq, State.put_eq]
  refine ⟨?_, ?_, num_settle_put (m := 3) _ (by decide) (by decide) (by decide), ?_⟩
  · rw [State.get_eq, obj_settle_of _ _ _ h24 hset, State.obj_setObj_ne _ _ _ _ _ _ (objKey_ne 0 hne'),
      State.obj_setObj_ne _ _ _ _ _ _ (objKey_ne 0 hne), State.obj_setObj_self]
  · rw [State.get_eq, obj_settle_of _ _ _ g24 gset, State.obj_setObj_ne _ _ _ _ _ _ (objKey_ne 0 hne''), State.obj_setObj_self,
      bit_setBit_self _ (by decide)]
  · exact ((((onlyObjs_refl _ _).put (by simp) _).put (by simp) _).put (by simp) _).settled

theorem auxSpan_err {r0 r1 e : Nat} (hs : s.auxSpan k r0 r1 = .inr e) : e < 2 ^ 64 := by
  unfold State.auxSpan at hs
  dsimp only at hs
  split_ifs at hs <;> first | (obtain rfl := Sum.inr.inj hs; decide)

theorem auxDone_fails {e r0 : Nat} (sum : Nat) (hr : s.hk.restart = false) (h : s.hk.aux = some (k, 2))
    (hz : s.hk.zero = some (k, r0)) (hs : s.auxSpan k r0 (roundAway (16 * sum) 256).toNat = .inr e) :
    Answers (.auxCalMeasureDone sum) s fun t =>
      t.num O.AUX_CAL_STATE = 4 ∧ t.get O.AUX_CAL_ERR = ofN e ∧
      OnlyObjs [objKey 0 O.AUX_CAL_STATE, objKey 0 O.AUX_CAL_ERR] { s with hk := s.hk.measured none } t := by
  have hend : auxMeasured s k 2 (roundAway (16 * sum) 256).toNat = auxOutcome { s with hk := s.hk.measured none } k (.inr e) := by
    rw [auxMeasured, if_neg (by decide), hz, ← hs]
    rfl
  refine answers_done (exec_auxDone_table sum h hr) ?_
  rw [hend, auxOutcome, State.put_eq, State.put_eq]
  refine ⟨?_, get_settle_put _ (by decide) (by decide) _, ?_⟩
  · rw [State.num_eq, obj_settle_of _ _ _ (by decide) (by decide), State.obj_setObj_ne _ _ _ _ _ _ (by decide),
      State.obj_setObj_self]
    rfl
  · exact (((onlyObjs_refl _ _).put (by simp) _).put (by simp) _).settled

/-! ### The converter -/

/-- Settles O60, one lemma per command: the monitor scan, the table, the reference and the steps of a calibration. -/
theorem housekeeping : Obligations.Housekeeping := by
  unfold Obligations.Housekeeping
  refine ⟨fun s v ha => ⟨fun c hg hj h33 hst hcrit hc => hkMonitor_stays ha hg hj h33 hst hcrit hc,
    fun c hg hj hst hc hcrit => hkMonitor_excursion ha hg hj hst hc hcrit,
    fun c hg hj hst hc hact hr hp => hkMonitor_critical ha hg hj hst hc hact hr hp,
    fun c hg hf h33 => ⟨fun hj => hkMonitor_scan_outside ha hg hf h33 hj (monChannels_lt hf),
      fun hj hst => hkMonitor_scan_inside ha hg hf h33 hj hst (monChannels_lt hf)⟩⟩,
    fun s raw k ha hx _ he hk h32 => ⟨fun hn => hkSequence_sums raw ha hx he hk hn, fun hn => hkSequence_ends raw ha hx he hk h32 hn⟩,
    fun s raw h => answers_idle (exec_hkSequence_idle raw h),
    fun s p h ho => ⟨fun v hv hne => hkRefSelect_changes h ho hv hne, fun hv => hkRefSelect_same h ho hv,
      fun v hv => hkRefSelect_range h ho hv,
      fun k v hk hv => ⟨fun he => auxRange_same h ho hk hv he, fun he => auxRange_changes h ho hk hv he⟩,
      fun k hk => ⟨fun ha => auxCalZero_starts h ho hk ha, fun r ha hz => auxCalSpan_starts h ho hk ha hz,
        fun hz => auxCalSpan_unzeroed h ho hz, fun ha i hi => auxCal_busy h ho ha hi, auxCalReset_answers h ho hk⟩⟩,
    fun s p h ho => ⟨fun v => hkRefSelect_other h ho, fun k v hk => auxRange_other h ho hk, ?_⟩,
    fun s a h => hkRefSettled_settles h, fun s h => hkRefSettled_idle h,
    fun s sum k hr hk => ⟨fun h => auxDone_zero sum hr h, fun r0 w h hz hs => auxDone_span sum hr hk h hz hs,
      fun r0 e h hz hs => auxDone_fails sum hr h hz hs⟩,
    fun s sum h => answers_idle (exec_auxDone_idle sum h)⟩
  rintro k i (rfl | rfl | rfl)
  · exact (AuxSteps.zero p k).rejected h ho
  · exact (AuxSteps.span p k).rejected h ho
  · exact (AuxSteps.reset p k).rejected h ho

end Sys2Proof.Machine
end

section
/-! ## What the loss of a lane, an evaluator or a die leaves (R523, R524, R528)

Contexts are bound anew or suspended, movers and planishers stop and inputs regroup. `Shaken` holds what of the state such
work leaves: the states of the dies and inputs, the fault supervisor's findings, the restarts and some counters. -/

namespace Sys2Proof.Machine

variable {s t u : State} {cs : List Nat} {c : Nat} {K : KeepFields}

/-- The states an input goes through, without its ring. -/
def Input.standing (x : Input) : InputSt × List Nat × List Nat × Option (List Nat × Bool) × Nat × List Nat × Bool :=
  (x.st, x.members, x.voidDies, x.next, x.nextFirst, x.gapReserve, x.regrouped)

/-- What the fault supervisor has found. -/
def Faults.findings (x : Faults) : List (Nat × Nat) × List Nat × List Nat × List Nat :=
  (x.linkFail, x.downLinks, x.evalFailed, x.checkFailed)

/-- Objects of the device that such work leaves. -/
def calmKeys : List Nat :=
  [O.REGROUP_COUNT, O.POWER_PHASE] ++ (List.range 8).map (O.HB_MISSES_d + ·) ++
    (List.range 8).map (inObj O.ALLOY_FIRST_n) ++ (List.range 8).map (inObj O.ALLOY_SIZE_n)

/-- What work in flight that is broken off leaves. -/
structure Shaken (s t : State) : Prop where
  dies : t.dies.map Die.st = s.dies.map Die.st
  inputs : t.inputs.map Input.standing = s.inputs.map Input.standing
  findings : t.faults.findings = s.faults.findings
  restarts : (t.hubRestart, t.supRestart, t.missed) = (s.hubRestart, s.supRestart, s.missed)
  tarnish : ∀ b, bit (s.get O.TARNISH) b = true → bit (t.get O.TARNISH) b = true
  objs : ∀ k ∈ calmKeys, t.get k = s.get k

theorem shaken_refl (s : State) : Shaken s s := ⟨rfl, rfl, rfl, rfl, fun _ h => h, fun _ _ => rfl⟩

theorem Shaken.trans (h : Shaken s t) (h' : Shaken t u) : Shaken s u :=
  ⟨h'.dies.trans h.dies, h'.inputs.trans h.inputs, h'.findings.trans h.findings, h'.restarts.trans h.restarts,
    fun b hb => h'.tarnish b (h.tarnish b hb), fun k hk => (h'.objs k hk).trans (h.objs k hk)⟩

theorem shaken_ite {p : Prop} [Decidable p] (h : Shaken s t) (h' : Shaken s u) : Shaken s (if p then t else u) := by
  split
  · exact h
  · exact h'

theorem shaken_foldl {α : Type} (l : List α) (f : State → α → State) (hf : ∀ u a, Shaken u (f u a)) (s : State) :
    Shaken s (l.foldl f s) := by
  induction l generalizing s with
  | nil => exact shaken_refl s
  | cons a l ih => exact (hf s a).trans (ih (f s a))

theorem calmKeys_free {k : Nat} (hk : k ∈ calmKeys) : k < 2 ^ 24 ∧ workObj k = false ∧ k ∉ settleObjs := by
  revert k
  decide

/-- An object beside `calmKeys` and the tarnish word. -/
theorem shaken_setObj {o : Nat} (ho : o ∉ calmKeys) (ht : o ≠ O.TARNISH) (s : State) (i : Nat) (v : Slot) :
    Shaken s (s.setObj i o v) := by
  have hkeep : ∀ k, k < 2 ^ 24 → o ≠ k → (s.setObj i o v).get k = s.get k := fun k h24 hne =>
    State.obj_setObj_ne _ _ _ _ _ _ (by simp only [objKey]; omega)
  refine ⟨rfl, rfl, rfl, rfl, fun b hb => ?_, fun k hk => hkeep k (calmKeys_free hk).1 fun he => ho (he ▸ hk)⟩
  rw [hkeep O.TARNISH (by decide) ht]
  exact hb

/-- What changes none of the objects. -/
theorem shaken_aside (ho : ∀ k, t.get k = s.get k) (hd : t.dies.map Die.st = s.dies.map Die.st)
    (hi : t.inputs.map Input.standing = s.inputs.map Input.standing) (hf : t.faults.findings = s.faults.findings)
    (hr : (t.hubRestart, t.supRestart, t.missed) = (s.hubRestart, s.supRestart, s.missed)) : Shaken s t :=
  ⟨hd, hi, hf, hr, fun b hb => by rw [ho]; exact hb, fun k _ => ho k⟩

theorem shaken_setCtx (s : State) (c : Nat) (x : Ctx) : Shaken s (s.setCtx c x) :=
  shaken_aside (fun _ => rfl) rfl rfl rfl rfl

theorem shaken_modCtx (s : State) (c : Nat) (f : Ctx → Ctx) : Shaken s (s.modCtx c f) := by
  unfold State.modCtx
  split
  · exact shaken_setCtx s c _
  · exact shaken_refl s

/-- Work that stops leaves all that `Shaken` names. -/
theorem Worked.shaken (h : Worked K cs s t) : Shaken s t := by
  have hdies : t.dies.map Die.still = s.dies.map Die.still := (congrArg State.dies h.still :)
  have hins : t.inputs.map Input.still = s.inputs.map Input.still := (congrArg State.inputs h.still :)
  have hd : ∀ l : List Die, l.map Die.st = (l.map Die.still).map Die.st := fun l => by rw [List.map_map]; rfl
  have hi : ∀ l : List Input, l.map Input.standing = (l.map Input.still).map Input.standing := fun l => by rw [List.map_map]; rfl
  have hf : ({ t.faults with capture := none } : Faults) = { s.faults with capture := none } := (congrArg State.faults h.still :)
  have h1 : t.hubRestart = s.hubRestart := (congrArg State.hubRestart h.still :)
  have h2 : t.supRestart = s.supRestart := (congrArg State.supRestart h.still :)
  have h3 : t.missed = s.missed := (congrArg State.missed h.still :)
  refine ⟨by rw [hd, hdies, ← hd], by rw [hi, hins, ← hi], (congrArg Faults.findings hf :), by rw [h1, h2, h3], fun b hb => ?_,
    fun k hk => ?_⟩
  · rw [State.get_eq, h.objs 0 O.TARNISH (by decide) (by decide) (by decide)]
    exact hb
  · obtain ⟨h24, hw, hs⟩ := calmKeys_free hk
    exact h.objs 0 k h24 hw hs

theorem shaken_suspendCtx (s : State) (c cause : Nat) : Shaken s (suspendCtx s c cause) :=
  (worked_suspendCtx (K := anyKept) rfl rfl rfl (cs := [c]) List.mem_cons_self s cause).shaken

theorem shaken_losePending (s : State) (c : Nat) : Shaken s (losePending s c) := by
  unfold losePending
  split
  · exact shaken_refl s
  · dsimp only
    rw [State.countSat_eq]
    exact (shaken_setCtx s c _).trans (shaken_setObj (o := O.SEG_DROPPED) (by decide) (by decide) _ _ _)

theorem shaken_loseHome (s : State) (c : Nat) : Shaken s (loseHome s c) := by
  unfold loseHome
  split
  · exact (shaken_losePending s c).trans (shaken_suspendCtx _ c 3)
  · exact shaken_refl s

theorem shaken_reroute (s : State) (c : Nat) (qs : List Stream) (b : Binding) : Shaken s (reroute s c qs b) := by
  unfold reroute
  dsimp only
  have hrel : Shaken s (capReleased s c b.streams) := (worked_capReleased (K := anyKept) (cs := []) s c b.streams).shaken
  generalize capReleased s c b.streams = v at hrel ⊢
  rw [State.flag_eq]
  refine Shaken.trans ?_ (shaken_ite (shaken_refl _) (shaken_setObj (o := O.ASSAY_PASS2_MAX) (by decide) (by decide) _ _ _))
  refine Shaken.trans ?_ (shaken_setObj (o := O.TRIG_STATUS) (by decide) (by decide) _ _ _)
  refine Shaken.trans ?_ (shaken_setObj (o := O.TRIG_LATENCY) (by decide) (by decide) _ _ _)
  exact hrel.trans (shaken_modCtx v c _)

theorem shaken_rebindFrom (qs : List Stream) (s : State) (c : Nat) : Shaken s (rebindFrom qs s c) := by
  unfold rebindFrom
  split
  · exact shaken_refl s
  · split
    · split
      · exact shaken_loseHome s c
      · split
        · exact shaken_reroute s c qs _
        · exact shaken_suspendCtx s c 3
    · exact shaken_refl s

theorem shaken_dropStreams (s : State) (l : List Nat) : Shaken s (dropStreams s l) :=
  shaken_foldl l _ (fun u c => shaken_modCtx u c _) s

theorem shaken_shedCtx (qs : List Stream) (s : State) (c : Nat) : Shaken s (shedCtx qs s c) := by
  unfold shedCtx
  split
  · exact shaken_ite (shaken_setCtx s c _) (shaken_rebindFrom qs s c)
  · exact shaken_refl s

theorem shaken_shedDirs (s : State) (ds : List (Nat × Bool)) : Shaken s (shedDirs s ds) := by
  unfold shedDirs
  dsimp only
  exact (shaken_dropStreams s _).trans (shaken_foldl _ _ (fun u c => shaken_shedCtx _ u c) _)

theorem shaken_evalLost (s : State) (c : Nat) : Shaken s (evalLost s c) := by
  unfold evalLost
  split
  · exact shaken_suspendCtx s c 4
  · dsimp only
    split
    · exact (shaken_reroute s c _ _).trans (shaken_modCtx _ c _)
    · exact shaken_suspendCtx s c 4

theorem shaken_pulse (s : State) (a b n : Nat) : Shaken s (pulse s a b n) :=
  (worked_pulse (K := anyKept) (cs := []) s a b n).shaken

/-! ### Tarnish bits -/

theorem setBit_keeps (x : Slot) {b j : Nat} (hb : b < 64) (h : bit x j = true) : bit (setBit x b) j = true := by
  rw [bit_setBit _ _ _ hb, h]
  rfl

theorem setBit_large (x : Slot) {b : Nat} (hb : 64 ≤ b) : setBit x b = x := by
  have hz : ofN (2 ^ b) = 0 := by
    have hdvd : 2 ^ 64 ∣ 2 ^ b := Nat.pow_dvd_pow 2 hb
    refine BitVec.eq_of_toNat_eq ?_
    rw [ofN, BitVec.toNat_ofNat, Nat.mod_eq_zero_of_dvd hdvd]
    rfl
  rw [setBit, hz]
  exact BitVec.or_zero

theorem tarnishOpened_findings (s : State) (b : Nat) : (tarnishOpened s b).faults.findings = s.faults.findings := by
  unfold tarnishOpened
  dsimp only
  split <;> rfl

theorem logFault_findings (s : State) (b die input code detail : Nat) :
    (logFault s b die input code detail).faults.findings = s.faults.findings := by
  simp only [logFault, Faults.findings]

theorem tarnish_findings (s : State) (b die input detail code : Nat) :
    (tarnish s b die input detail code).faults.findings = s.faults.findings := by
  have hopen := tarnishOpened_findings s b
  rw [tarnish_eq, pulse_faults, tarnishNoted_faults, tarnishEntry_eq]
  generalize tarnishOpened s b = w at hopen ⊢
  split
  · rw [logFault_findings]
    exact hopen
  · rw [logFault_findings]
    exact hopen

theorem shaken_tarnish (s : State) (b die input detail code : Nat) : Shaken s (tarnish s b die input detail code) := by
  have hbody := (tarnish_frame s b die input detail code).1
  have h1 : (tarnish s b die input detail code).hubRestart = s.hubRestart := (congrArg State.hubRestart hbody :)
  have h2 : (tarnish s b die input detail code).supRestart = s.supRestart := (congrArg State.supRestart hbody :)
  have h3 : (tarnish s b die input detail code).missed = s.missed := (congrArg State.missed hbody :)
  refine ⟨by rw [tarnish_dies], by rw [tarnish_inputs], tarnish_findings s b die input detail code, by rw [h1, h2, h3], fun j hj => ?_, fun k hk => ?_⟩
  · rw [State.get_eq, tarnish_tarnish]
    by_cases hb : b < 64
    · exact setBit_keeps _ hb hj
    · rw [setBit_large _ (Nat.le_of_not_lt hb)]
      exact hj
  · obtain ⟨h24, -, hs⟩ := calmKeys_free hk
    refine obj_tarnish_of s b die input detail code 0 k h24 hs ?_
    rintro rfl
    exact absurd hk (by decide)

/-- What changes, beside some objects, the fault supervisor's records, but none of its findings. -/
theorem OnlyObjs.shaken {ks : List Nat} {x : Faults} (h : OnlyObjs ks { s with faults := x } t)
    (hf : t.faults.findings = s.faults.findings) (hk : ∀ k ∈ O.TARNISH :: calmKeys, objKey 0 k ∉ ks) : Shaken s t := by
  have h1 : t.hubRestart = s.hubRestart := (congrArg State.hubRestart h.1 :)
  have h2 : t.supRestart = s.supRestart := (congrArg State.supRestart h.1 :)
  have h3 : t.missed = s.missed := (congrArg State.missed h.1 :)
  have hd : t.dies = s.dies := (congrArg State.dies h.1 :)
  have hi : t.inputs = s.inputs := (congrArg State.inputs h.1 :)
  refine ⟨by rw [hd], by rw [hi], hf, by rw [h1, h2, h3], fun b hb => ?_, fun k hkm => ?_⟩
  · rw [State.get_eq, h.2 0 O.TARNISH (hk _ List.mem_cons_self) (objKey_settle 0 _ (by decide) (by decide))]
    exact hb
  · obtain ⟨h24, -, hs⟩ := calmKeys_free hkm
    exact h.2 0 k (hk k (List.mem_cons_of_mem _ hkm)) (objKey_settle 0 k h24 hs)

end Sys2Proof.Machine
end

section
/-! ## The fault supervisor: lanes and evaluators (R523 to R525) -/

namespace Sys2Proof.Machine

variable {s t u : State} {k lane d e n : Nat} {agree ok : Bool}

/-! ### Lanes (R523) -/

theorem settled_bit {b : Nat} (h : bit (t.get O.TARNISH) b = true) : bit ((settle t).get O.TARNISH) b = true := by
  rw [State.get_eq, obj_settle_of _ _ _ (by decide) (by decide)]
  exact h

theorem settle_findings (s : State) : (settle s).faults.findings = s.faults.findings := by rw [settle_faults]

/-- A further failed lane. -/
def laneFailed (s : State) (k : Nat) (l : List Nat) : State :=
  { s with faults := { s.faults with linkFail := kvPut s.faults.linkFail k ((kvGet s.faults.linkFail k).getD 0 + 1), downLinks := l } }

theorem laneFail_spare (s : State) (h : (kvGet s.faults.linkFail k).getD 0 < 2) :
    Shaken (tarnish (laneFailed s k s.faults.downLinks) 4 0xFF 0xFF 0) (laneFail s k) := by
  unfold laneFail
  dsimp only
  rw [if_pos (by omega)]
  exact shaken_ite (shaken_shedDirs _ _) (shaken_refl _)

theorem laneFail_down (s : State) (h : 2 ≤ (kvGet s.faults.linkFail k).getD 0) :
    Shaken (tarnish (laneFailed s k (k / 2 :: s.faults.downLinks.filter (· ≠ k / 2))) 5 0xFF 0xFF 0) (laneFail s k) := by
  unfold laneFail
  dsimp only
  rw [if_neg (by omega)]
  exact shaken_shedDirs _ _

theorem tarnish_bit (s : State) {b : Nat} (hb : b < 64) (die input detail code : Nat) :
    bit ((tarnish s b die input detail code).get O.TARNISH) b = true := by
  rw [State.get_eq, tarnish_tarnish, bit_setBit_self _ hb]

/-- A lane's failure: the count of its direction, and the bit of a degraded link or of one that is down. -/
theorem laneFail_settled (s : State) (k : Nat) :
    let t := settle (laneFail s k)
    let n := (kvGet s.faults.linkFail k).getD 0
    kvGet t.faults.linkFail k = some (n + 1) ∧ (n < 2 → bit (t.get O.TARNISH) 4 = true) ∧
      (2 ≤ n → bit (t.get O.TARNISH) 5 = true ∧ k / 2 ∈ t.faults.downLinks) := by
  dsimp only
  have hput : ∀ l, kvGet (laneFailed s k l).faults.linkFail k = some ((kvGet s.faults.linkFail k).getD 0 + 1) :=
    fun l => kvGet_kvPut_self _ _ _
  have hfind : ∀ {l b}, Shaken (tarnish (laneFailed s k l) b 0xFF 0xFF 0) (laneFail s k) →
      (settle (laneFail s k)).faults.linkFail = (laneFailed s k l).faults.linkFail ∧
      (settle (laneFail s k)).faults.downLinks = l := by
    intro l b h
    have hf := (settle_findings _).trans (h.findings.trans (tarnish_findings (laneFailed s k l) b 0xFF 0xFF 0 0))
    exact ⟨congrArg Prod.fst hf, congrArg (fun x => x.2.1) hf⟩
  by_cases h : (kvGet s.faults.linkFail k).getD 0 < 2
  · have hs := laneFail_spare s h
    obtain ⟨hl, -⟩ := hfind hs
    refine ⟨by rw [hl, hput], fun _ => settled_bit (hs.tarnish 4 (tarnish_bit _ (by decide) _ _ _ _)), fun h2 => absurd h (by omega)⟩
  · have hs := laneFail_down s (Nat.le_of_not_lt h)
    obtain ⟨hl, hd⟩ := hfind hs
    refine ⟨by rw [hl, hput], fun h2 => absurd h2 h, fun _ => ⟨settled_bit (hs.tarnish 5 (tarnish_bit _ (by decide) _ _ _ _)), ?_⟩⟩
    rw [hd]
    exact List.mem_cons_self

/-- The failures of the last millisecond (R523). -/
def State.liveLanes (s : State) : List (Nat × Nat × Nat) := s.faults.lanes.filter fun e => decide (s.now ≤ e.2.2 + msTicks)

theorem linkKeys (hk : k < 16) : (O.LINK_CRC_k + k < 2 ^ 24 ∧ O.LINK_CRC_k + k ∉ settleObjs) ∧
    (O.LINK_REPLAYS_k + k < 2 ^ 24 ∧ O.LINK_REPLAYS_k + k ∉ settleObjs) ∧ O.LINK_CRC_k + k ≠ O.LINK_REPLAYS_k + k ∧
    O.LINK_CRC_k + k ≠ O.LANE_FAIL_LIMIT ∧ O.LINK_REPLAYS_k + k ≠ O.LANE_FAIL_LIMIT := by
  interval_cases k <;> decide

/-- The state with the failed flit counted. -/
def flitCounted (s : State) (k : Nat) : State := (s.countSat 0 (O.LINK_CRC_k + k) 32).countSat 0 (O.LINK_REPLAYS_k + k) 32

theorem flitCounted_fields (s : State) (hk : k < 16) :
    (flitCounted s k).num (O.LINK_CRC_k + k) = satN 32 (s.num (O.LINK_CRC_k + k) + 1) ∧
    (flitCounted s k).num (O.LINK_REPLAYS_k + k) = satN 32 (s.num (O.LINK_REPLAYS_k + k) + 1) ∧
    (flitCounted s k).num O.LANE_FAIL_LIMIT = s.num O.LANE_FAIL_LIMIT ∧ (flitCounted s k).faults = s.faults ∧
    (flitCounted s k).counter = s.counter ∧ (flitCounted s k).wraps = s.wraps ∧
    OnlyObjs [objKey 0 (O.LINK_CRC_k + k), objKey 0 (O.LINK_REPLAYS_k + k)] s (flitCounted s k) := by
  obtain ⟨-, -, hne, h1, h2⟩ := linkKeys hk
  unfold flitCounted
  rw [State.countSat_eq, State.countSat_eq]
  refine ⟨?_, ?_, ?_, rfl, rfl, rfl, ((onlyObjs_refl s _).put (by simp) _).put (by simp) _⟩
  · rw [State.num_eq, State.obj_setObj_ne _ _ _ _ _ _ (objKey_ne 0 hne), State.obj_setObj_self, ofN_toNat _ (satN32_lt _), State.num_eq]
  · rw [State.num_eq, State.obj_setObj_self, ofN_toNat _ (satN32_lt _), State.obj_setObj_ne _ _ _ _ _ _ (objKey_ne 0 hne.symm), State.num_eq]
  · rw [State.num_eq, State.obj_setObj_ne _ _ _ _ _ _ (objKey_ne 0 h2.symm), State.obj_setObj_ne _ _ _ _ _ _ (objKey_ne 0 h1.symm),
      State.num_eq]

theorem exec_flitCrcFail_live (hk : k < 2 * s.D) (hl : lane < 6) (hr : s.running = true) (hd : k / 2 ∉ s.faults.downLinks) :
    exec (.flitCrcFail k lane) s = done (
      let u := flitCounted s k
      let all := (u.faults.lanes.filter fun e => decide (u.now ≤ e.2.2 + msTicks)) ++ [(k, lane, u.now)]
      if u.num O.LANE_FAIL_LIMIT ≤ all.countP fun e => e.1 == k && e.2.1 == lane then
        laneFail { u with faults := { u.faults with lanes := all.filter fun e => !(e.1 == k && e.2.1 == lane) } } k
      else { u with faults := { u.faults with lanes := all } }) := by
  rw [show exec (.flitCrcFail k lane) s = execFlitCrcFail k lane s from rfl]
  unfold execFlitCrcFail
  rw [if_pos ⟨hk, hl, hr, by simpa using hd⟩]
  rfl

theorem flitCrcFail_counts (hk : k < 2 * s.D) (hl : lane < 6) (hr : s.running = true) (hd : k / 2 ∉ s.faults.downLinks)
    (hn : (s.liveLanes ++ [(k, lane, s.now)]).countP (fun e => e.1 == k && e.2.1 == lane) < s.num O.LANE_FAIL_LIMIT) :
    Answers (.flitCrcFail k lane) s fun t =>
      t.num (O.LINK_CRC_k + k) = satN 32 (s.num (O.LINK_CRC_k + k) + 1) ∧
      t.num (O.LINK_REPLAYS_k + k) = satN 32 (s.num (O.LINK_REPLAYS_k + k) + 1) ∧
      OnlyObjs [objKey 0 (O.LINK_CRC_k + k), objKey 0 (O.LINK_REPLAYS_k + k)]
        { s with faults := { s.faults with lanes := s.liveLanes ++ [(k, lane, s.now)] } } t := by
  have h16 : k < 16 := by
    have := fitted_lt (s := s) (n := s.D - 1)
    omega
  obtain ⟨⟨hc24, hcs⟩, ⟨hr24, hrs⟩, -⟩ := linkKeys h16
  obtain ⟨h1, h2, h3, h4, h5, h6, hframe⟩ := flitCounted_fields s h16
  have hnow := now_congr h5 h6
  refine answers_done (exec_flitCrcFail_live hk hl hr hd) ?_
  generalize flitCounted s k = w at h1 h2 h3 h4 hnow hframe ⊢
  unfold State.liveLanes at hn ⊢
  dsimp only
  rw [h3, h4, hnow, if_neg (Nat.not_le.mpr hn)]
  refine ⟨?_, ?_, (hframe.faultsBoth _).settled⟩
  · rw [State.num_eq, obj_settle_of _ _ _ hc24 hcs]
    exact h1
  · rw [State.num_eq, obj_settle_of _ _ _ hr24 hrs]
    exact h2

theorem flitCrcFail_lane (hk : k < 2 * s.D) (hl : lane < 6) (hr : s.running = true) (hd : k / 2 ∉ s.faults.downLinks)
    (hn : s.num O.LANE_FAIL_LIMIT ≤ (s.liveLanes ++ [(k, lane, s.now)]).countP fun e => e.1 == k && e.2.1 == lane) :
    Answers (.flitCrcFail k lane) s fun t =>
      kvGet t.faults.linkFail k = some ((kvGet s.faults.linkFail k).getD 0 + 1) ∧
      ((kvGet s.faults.linkFail k).getD 0 < 2 → bit (t.get O.TARNISH) 4 = true) ∧
      (2 ≤ (kvGet s.faults.linkFail k).getD 0 → bit (t.get O.TARNISH) 5 = true ∧ k / 2 ∈ t.faults.downLinks) := by
  have h16 : k < 16 := by
    have := fitted_lt (s := s) (n := s.D - 1)
    omega
  obtain ⟨-, -, h3, h4, h5, h6, -⟩ := flitCounted_fields s h16
  have hnow := now_congr h5 h6
  refine answers_done (exec_flitCrcFail_live hk hl hr hd) ?_
  generalize flitCounted s k = w at h3 h4 hnow ⊢
  unfold State.liveLanes at hn
  dsimp only
  rw [h3, h4, hnow, if_pos hn]
  exact laneFail_settled _ k

/-! ### Evaluator tests (R524, R525) -/

/-- A window of an evaluator that is tested (R524, R525). -/
structure Tested (s : State) (d e : Nat) : Prop where
  die : d < s.D
  eval : e < 8
  running : s.running = true
  asked : s.num O.SELFTEST_ENABLE = 1 ∨ ∃ g ∈ s.faults.pairTest, 8 * d + e ∈ g.2
  live : (s.die d).st = .active ∨ (s.die d).st = .reserve
  checked : d ∉ s.faults.checkFailed
  passing : 8 * d + e ∉ s.faults.evalFailed

theorem evalTest_tested (h : Tested s d e) : evalTest s d e agree ok =
    if agree then evalPass s (8 * d + e)
    else if s.restarting then { s with faults := { s.faults with evalHeld := s.faults.evalHeld ++ [(d, e, ok)] } }
    else if ok then evalFail s (8 * d + e)
    else tarnish { s with faults := { s.faults with checkFailed := d :: s.faults.checkFailed } } 20 d 0xFF 0xFF 0xFF41 := by
  obtain ⟨h1, h2, h3, h4, h5, h6, h7⟩ := h
  have hasked : s.num O.SELFTEST_ENABLE = 1 ∨ (s.faults.pairTest.any fun g => g.2.contains (8 * d + e)) = true := by
    refine h4.imp id fun ⟨g, hg, hm⟩ => List.any_eq_true.mpr ⟨g, hg, by simpa using hm⟩
  unfold evalTest
  dsimp only
  rw [if_pos ⟨h1, h2, h3, hasked, h5, by simpa using h6, by simpa using h7⟩]

theorem evalTest_untested (h1 : s.num O.SELFTEST_ENABLE ≠ 1) (h2 : ∀ g ∈ s.faults.pairTest, 8 * d + e ∉ g.2) :
    evalTest s d e agree ok = s := by
  unfold evalTest
  dsimp only
  rw [if_neg]
  rintro ⟨-, -, -, hasked, -⟩
  refine hasked.elim h1 fun hany => ?_
  obtain ⟨g, hg, hm⟩ := List.any_eq_true.mp hany
  exact h2 g hg (by simpa using hm)

theorem evalPass_lone {v : Nat} (h : ∀ g ∈ s.faults.pairTest, g.2.filter (· ≠ v) ≠ []) :
    kvGet (evalPass s v).faults.lastPass v = some (s.now - s.num O.EVAL_TEST_MS * msTicks / 8) ∧
    OnlyObjs [] { s with faults := (evalPass s v).faults } (evalPass s v) := by
  have hnil : ((s.faults.pairTest.map fun g => (g.1, g.2.filter (· ≠ v))).filter fun g => g.2 == []) = [] := by
    rw [List.filter_eq_nil_iff]
    intro g hg
    obtain ⟨g', hg', rfl⟩ := List.mem_map.mp hg
    simpa using h g' hg'
  unfold evalPass
  dsimp only
  rw [hnil, List.foldl_nil]
  exact ⟨kvGet_kvPut_self _ _ _, onlyObjs_refl _ _⟩

theorem evalTest_pass (h : Tested s d e) (hg : ∀ g ∈ s.faults.pairTest, g.2.filter (· ≠ 8 * d + e) ≠ []) :
    Answers (.evalTestWindowEnd d e true ok) s fun t =>
      kvGet t.faults.lastPass (8 * d + e) = some (s.now - s.num O.EVAL_TEST_MS * msTicks / 8) ∧
      OnlyObjs [] { s with faults := t.faults } t := by
  obtain ⟨hpass, hframe⟩ := evalPass_lone hg
  refine answers_done (exec_evalTestWindowEnd s d e true ok) ?_
  rw [evalTest_tested h, if_pos rfl]
  generalize evalPass s (8 * d + e) = w at hpass hframe ⊢
  rw [settle_faults]
  exact ⟨hpass, hframe.settled⟩

theorem evalTest_held (h : Tested s d e) (hr : s.restarting = true) :
    Answers (.evalTestWindowEnd d e false ok) s fun t =>
      OnlyObjs [] { s with faults := { s.faults with evalHeld := s.faults.evalHeld ++ [(d, e, ok)] } } t := by
  refine answers_done (exec_evalTestWindowEnd s d e false ok) ?_
  rw [evalTest_tested h, if_neg (by decide), if_pos hr]
  exact (onlyObjs_refl _ _).settled

theorem suspect_findings (s : State) (cause die input detail ctx a b : Nat) :
    (suspect s cause die input detail ctx a b).faults.findings = s.faults.findings := by
  simp only [suspect, suspectAt, State.countWrap_eq, Faults.findings]

theorem shaken_suspect (s : State) (cause die input detail ctx a b : Nat) : Shaken s (suspect s cause die input detail ctx a b) :=
  (suspect_frame cause die input detail ctx a b).shaken (suspect_findings s cause die input detail ctx a b) (by decide)

theorem evalFail_settled (s : State) (v : Nat) :
    v ∈ (settle (evalFail s v)).faults.evalFailed ∧ bit ((settle (evalFail s v)).get O.TARNISH) 20 = true := by
  have hshaken : ∃ f : Faults, f.evalFailed = v :: s.faults.evalFailed ∧
      Shaken (tarnish { s with faults := f } 20 (v / 8) 0xFF v 0xFF41) (evalFail s v) := by
    unfold evalFail
    dsimp only
    refine ⟨{ s.faults with
      evalFailed := v :: s.faults.evalFailed, pairTest := s.faults.pairTest.filter fun g => !g.2.contains v }, rfl, ?_⟩
    split
    · exact (shaken_suspect _ _ _ _ _ _ _ _).trans (shaken_evalLost _ _)
    · exact shaken_suspect _ _ _ _ _ _ _ _
  obtain ⟨f, hf, hs⟩ := hshaken
  have hfind := (settle_findings _).trans (hs.findings.trans (tarnish_findings _ _ _ _ _ _))
  have heval : (settle (evalFail s v)).faults.evalFailed = f.evalFailed := congrArg (fun x => x.2.2.1) hfind
  refine ⟨?_, settled_bit (hs.tarnish 20 (tarnish_bit _ (by decide) _ _ _ _))⟩
  rw [heval, hf]
  exact List.mem_cons_self

theorem evalTest_fails (h : Tested s d e) (hr : s.restarting = false) :
    Answers (.evalTestWindowEnd d e false true) s fun t =>
      8 * d + e ∈ t.faults.evalFailed ∧ bit (t.get O.TARNISH) 20 = true := by
  refine answers_done (exec_evalTestWindowEnd s d e false true) ?_
  rw [evalTest_tested h, if_neg (by decide), if_neg (by simp [hr]), if_pos rfl]
  exact evalFail_settled s _

theorem evalTest_check (h : Tested s d e) (hr : s.restarting = false) :
    Answers (.evalTestWindowEnd d e false false) s fun t =>
      d ∈ t.faults.checkFailed ∧ bit (t.get O.TARNISH) 20 = true ∧ t.ctxs = s.ctxs ∧ t.mem = s.mem := by
  refine answers_done (exec_evalTestWindowEnd s d e false false) ?_
  rw [evalTest_tested h, if_neg (by decide), if_neg (by simp [hr]), if_neg (by decide)]
  have hfind := (settle_findings _).trans (tarnish_findings
    { s with faults := { s.faults with checkFailed := d :: s.faults.checkFailed } } 20 d 0xFF 0xFF 0xFF41)
  have hcheck : (settle (tarnish { s with faults := { s.faults with checkFailed := d :: s.faults.checkFailed } } 20 d 0xFF 0xFF
      0xFF41)).faults.checkFailed = d :: s.faults.checkFailed := congrArg (fun x => x.2.2.2) hfind
  rw [settle_ctxs, settle_mem, tarnish_ctxs, tarnish_mem]
  refine ⟨?_, settle_tarnish_bit _ _ _ _ _ _ (by decide), rfl, rfl⟩
  rw [hcheck]
  exact List.mem_cons_self

end Sys2Proof.Machine
end

section
/-! ## The fault supervisor: detected mismatches, audits and the tarnish word (R528, R530, R534 to R536, R540) -/

namespace Sys2Proof.Machine

variable {s t u : State} {d n p : Nat} {v : Slot}

/-! ### What the entry of a tarnish bit records -/

theorem getLast_log {α : Type} (l : List α) (x : α) : ((l ++ [x]).drop ((l ++ [x]).length - 256)).getLast? = some x := by
  rw [List.getLast?_drop, if_neg (by simp only [List.length_append, List.length_singleton]; omega), List.getLast?_concat]

theorem logFault_last (s : State) (b die input code detail : Nat) :
    ∃ e, (logFault s b die input code detail).faults.log.getLast? = some e ∧ e.bit = b ∧ e.fault = faultBits.contains b := by
  unfold logFault
  dsimp only
  exact ⟨_, getLast_log _ _, rfl, rfl⟩

/-- What stays of the fault supervisor's record as an entry is logged. -/
theorem logFault_keeps (s : State) (b die input code detail : Nat) :
    (logFault s b die input code detail).faults.hubMismatch = s.faults.hubMismatch ∧
    (logFault s b die input code detail).faults.openEvents = s.faults.openEvents := by
  unfold logFault
  exact ⟨rfl, rfl⟩

theorem tarnishOpened_keeps (s : State) (b : Nat) : (tarnishOpened s b).faults.hubMismatch = s.faults.hubMismatch ∧
    (tarnishOpened s b).faults.openEvents =
      if faultBits.contains b then s.faults.openEvents ++ [(b, s.cycle)] else s.faults.openEvents := by
  unfold tarnishOpened
  dsimp only
  split
  · exact ⟨rfl, rfl⟩
  · exact ⟨rfl, rfl⟩

/-- The record that the entry of a tarnish bit leaves. -/
theorem tarnishEntry_record (s : State) (b die input detail code : Nat) :
    (tarnishEntry s b die input detail code).faults.hubMismatch = s.faults.hubMismatch ∧
    (tarnishEntry s b die input detail code).faults.openEvents =
      (if faultBits.contains b then s.faults.openEvents ++ [(b, s.cycle)] else s.faults.openEvents) ∧
    ∃ e, (tarnishEntry s b die input detail code).faults.log.getLast? = some e ∧ e.bit = b ∧ e.fault = faultBits.contains b := by
  obtain ⟨h1, h2⟩ := tarnishOpened_keeps s b
  rw [tarnishEntry_eq]
  generalize tarnishOpened s b = w at h1 h2 ⊢
  split
  · obtain ⟨g1, g2⟩ := logFault_keeps w.free.2 b die input 0 w.free.1.toNat
    exact ⟨g1.trans h1, g2.trans h2, logFault_last _ _ _ _ _ _⟩
  · obtain ⟨g1, g2⟩ := logFault_keeps w b die input code detail
    exact ⟨g1.trans h1, g2.trans h2, logFault_last _ _ _ _ _ _⟩

/-! ### Lockstep mismatches and supply phases (R473, R520, R528) -/

/-- The state of a mismatch before the pair restarts. -/
def mismatched (s : State) (b : Bool) : State :=
  pulse (tarnishEntry (if b then s else s.flag 0 O.DEVICE_STATUS 5) 16 0xFF 0xFF (b2n b) (if b then 0 else 0xFF40)) 7 0 0

theorem exec_lockstep_awake (h : s.awake = true) (b : Bool) : exec (.lockstepMismatch b) s = done (
    if b then { mismatched s b with supRestart := true }
    else { mismatched s b with hubRestart := true, faults := { (mismatched s b).faults with hubMismatch := true } }) := by
  rw [exec_lockstepMismatch, execLockstepMismatch, if_pos h]
  rfl

theorem mismatched_fields (s : State) (b : Bool) :
    (mismatched s b).hubRestart = s.hubRestart ∧ (mismatched s b).supRestart = s.supRestart ∧
    (mismatched s b).faults.hubMismatch = s.faults.hubMismatch ∧
    (∃ e, (mismatched s b).faults.log.getLast? = some e ∧ e.bit = 16) ∧ (mismatched s b).can.queue = s.can.queue ∧
    (mismatched s b).ctxs = s.ctxs ∧ (mismatched s b).mem = s.mem ∧
    bit ((mismatched s b).get O.TARNISH) 16 = true ∧ (b = false → bit ((mismatched s b).get O.DEVICE_STATUS) 5 = true) := by
  have hflag : OnlyObjs [objKey 0 O.DEVICE_STATUS] s (if b then s else s.flag 0 O.DEVICE_STATUS 5) := by
    split
    · exact onlyObjs_refl s _
    · rw [State.flag_eq]
      exact (onlyObjs_refl s _).put (by simp) _
  have hmis : (if b then s else s.flag 0 O.DEVICE_STATUS 5).faults = s.faults := by split <;> rfl
  have hbit : b = false → bit ((if b then s else s.flag 0 O.DEVICE_STATUS 5).get O.DEVICE_STATUS) 5 = true := by
    rintro rfl
    exact bit_obj_flagged (by decide)
  unfold mismatched
  generalize (if b then s else s.flag 0 O.DEVICE_STATUS 5) = w at hflag hmis hbit ⊢
  generalize (if b then 0 else 0xFF40) = code
  have hframe := tarnishEntry_frame w 16 0xFF 0xFF (b2n b) code
  obtain ⟨h1, -, e, he, heb, -⟩ := tarnishEntry_record w 16 0xFF 0xFF (b2n b) code
  have htar := tarnishEntry_tarnish w 16 0xFF 0xFF (b2n b) code
  have hstat : (tarnishEntry w 16 0xFF 0xFF (b2n b) code).obj 0 O.DEVICE_STATUS = w.obj 0 O.DEVICE_STATUS :=
    hframe.2 0 _ (by decide) (objKey_settle 0 _ (by decide) (by decide))
  generalize tarnishEntry w 16 0xFF 0xFF (b2n b) code = x at hframe h1 he htar hstat ⊢
  have hq : x.can.queue = s.can.queue :=
    (queue_of_bare (congrArg State.can hframe.1 :)).trans (queue_of_bare (congrArg State.can hflag.1 :))
  rw [pulse_hubRestart, pulse_supRestart, pulse_faults, pulse_queue, pulse_ctxs, pulse_mem]
  refine ⟨((congrArg State.hubRestart hframe.1 :)).trans (congrArg State.hubRestart hflag.1 :),
    ((congrArg State.supRestart hframe.1 :)).trans (congrArg State.supRestart hflag.1 :), by rw [h1, hmis], ⟨e, he, heb⟩, hq,
    ((congrArg State.ctxs hframe.1 :)).trans (congrArg State.ctxs hflag.1 :),
    ((congrArg State.mem hframe.1 :)).trans (congrArg State.mem hflag.1 :), ?_, fun hb => ?_⟩
  · rw [State.get_eq, obj_pulse_of _ _ _ _ _ _ (by decide) (by decide), htar, bit_setBit_self _ (by decide)]
  · rw [State.get_eq, obj_pulse_of _ _ _ _ _ _ (by decide) (by decide), hstat]
    exact hbit hb

theorem lockstep_control (h : s.awake = true) : Answers (.lockstepMismatch false) s fun t =>
    t.hubRestart = true ∧ t.supRestart = s.supRestart ∧ t.faults.hubMismatch = true ∧ bit (t.get O.DEVICE_STATUS) 5 = true ∧
    bit (t.get O.TARNISH) 16 = true ∧ (∃ e, t.faults.log.getLast? = some e ∧ e.bit = 16) ∧
    t.can.queue = s.can.queue ∧ t.ctxs = s.ctxs ∧ t.mem = s.mem := by
  obtain ⟨-, hs, -, hlog, hq, hc, hm, htar, hstat⟩ := mismatched_fields s false
  refine answers_done (exec_lockstep_awake h false) ?_
  rw [if_neg (by decide)]
  generalize mismatched s false = w at hs hlog hq hc hm htar hstat ⊢
  rw [settle_hubRestart, settle_supRestart, settle_faults, settle_queue, settle_ctxs, settle_mem]
  refine ⟨rfl, hs, rfl, ?_, settled_bit htar, hlog, hq, hc, hm⟩
  rw [State.get_eq, obj_settle_deviceStatus]
  exact hstat rfl

theorem lockstep_supervisor (h : s.awake = true) : Answers (.lockstepMismatch true) s fun t =>
    t.supRestart = true ∧ t.hubRestart = s.hubRestart ∧ t.faults.hubMismatch = s.faults.hubMismatch ∧
    bit (t.get O.TARNISH) 16 = true ∧ t.can.queue = s.can.queue ∧ t.ctxs = s.ctxs ∧ t.mem = s.mem := by
  obtain ⟨hh, -, hmis, -, hq, hc, hm, htar, -⟩ := mismatched_fields s true
  refine answers_done (exec_lockstep_awake h true) ?_
  rw [if_pos rfl]
  generalize mismatched s true = w at hh hmis hq hc hm htar ⊢
  rw [settle_hubRestart, settle_supRestart, settle_faults, settle_queue, settle_ctxs, settle_mem]
  exact ⟨rfl, hh, hmis, settled_bit htar, hq, hc, hm⟩

/-- A tarnish bit that raises no emergency leaves the field bus alone. -/
theorem tarnish_quiet (s : State) (b die input detail : Nat) :
    OnlyObjs [objKey 0 O.TARNISH] { s with faults := (tarnish s b die input detail 0).faults } (tarnish s b die input detail 0) := by
  rw [tarnish_eq, pulse_faults, tarnishNoted_faults]
  exact (tarnishEntry_frame s b die input detail 0).pulsed 7 0 0

theorem powerPhase_answers (h : s.awake = true) (k : Nat) : Answers (.powerPhaseFail k) s fun t =>
    bit (t.get O.TARNISH) 17 = true ∧ (∃ e, t.faults.log.getLast? = some e ∧ e.bit = 17 ∧ e.fault = true) ∧
    t.faults.openEvents = s.faults.openEvents ++ [(17, s.cycle)] ∧
    OnlyObjs [objKey 0 O.TARNISH] { s with faults := t.faults } t := by
  have hexec : exec (.powerPhaseFail k) s = done (tarnish s 17 0xFF 0xFF 0) := by
    rw [exec_powerPhaseFail, execPowerPhaseFail, if_pos h]
  have hf : (tarnish s 17 0xFF 0xFF 0).faults = (tarnishEntry s 17 0xFF 0xFF 0 0).faults := by
    rw [tarnish_eq, pulse_faults, tarnishNoted_faults]
  obtain ⟨-, ho, e, he, heb, hef⟩ := tarnishEntry_record s 17 0xFF 0xFF 0 0
  refine answers_done hexec ⟨settle_tarnish_bit _ _ _ _ _ _ (by decide), ?_, ?_, ?_⟩
  · rw [settle_faults, hf]
    exact ⟨e, he, heb, hef⟩
  · rw [settle_faults, hf, ho]
    rfl
  · rw [settle_faults]
    exact (tarnish_quiet s 17 0xFF 0xFF 0).settled

/-! ### Phase audits (R530) -/

/-- A window of the phase audit of a die that serves an input. -/
structure PhaseAudited (s : State) (d : Nat) : Prop where
  die : d < s.D
  running : s.running = true
  enabled : s.num O.SELFTEST_ENABLE = 1
  live : (s.die d).st = .active ∨ (s.die d).st = .reserve
  idle : (s.die d).measuring = false
  steady : (s.die d).gap = false
  spare : (s.die d).spares ≠ []

/-- The state at the next phase. -/
def phased8 (s : State) (d : Nat) : State :=
  { s with faults := { s.faults with phases := kvPut s.faults.phases d (((kvGet s.faults.phases d).getD 0 + 1) % 8) } }

theorem exec_phaseAudit (h : PhaseAudited s d) (hn : s.inputOfDie d = some n) (a : AuditWindow) :
    exec (.phaseAuditWindowEnd d a) s = done (match shadowCause a with
      | some _ => pathFault (phased8 s d) d n ((kvGet s.faults.phases d).getD 0)
      | none => pathPass (phased8 s d) n 3000000) := by
  obtain ⟨h1, h2, h3, h4, h5, h6, h7⟩ := h
  rw [exec_phaseAuditWindowEnd, execPhaseAuditWindowEnd]
  dsimp only
  rw [if_pos ⟨h1, h2, h3, h4, h5, h6, h7⟩]
  rw [show ({ s with faults := { s.faults with
    phases := kvPut s.faults.phases d (((kvGet s.faults.phases d).getD 0 + 1) % 8) } } : State).inputOfDie d = some n from hn]
  cases shadowCause a <;> rfl

theorem phased8_phase (s : State) (d : Nat) :
    kvGet (phased8 s d).faults.phases d = some (((kvGet s.faults.phases d).getD 0 + 1) % 8) := kvGet_kvPut_self _ _ _

theorem phaseAudit_pass (h : PhaseAudited s d) (hn : s.inputOfDie d = some n) {a : AuditWindow} (ha : shadowCause a = none) :
    Answers (.phaseAuditWindowEnd d a) s fun t =>
      kvGet t.faults.inputPass n = some (s.now - 3000000) ∧
      kvGet t.faults.phases d = some (((kvGet s.faults.phases d).getD 0 + 1) % 8) ∧
      OnlyObjs [] { s with faults := t.faults } t := by
  refine answers_done (exec_phaseAudit h hn a) ?_
  rw [ha, settle_faults]
  exact ⟨kvGet_kvPut_self _ _ _, phased8_phase s d, (onlyObjs_refl _ _).settled⟩

/-- The phase each die's audit comes to next stays as a bit sets. -/
theorem tarnishOpened_phases (s : State) (b : Nat) : (tarnishOpened s b).faults.phases = s.faults.phases := by
  unfold tarnishOpened
  dsimp only
  split <;> rfl

theorem logFault_phases (s : State) (b die input code detail : Nat) :
    (logFault s b die input code detail).faults.phases = s.faults.phases := by
  simp only [logFault]

theorem tarnish_phases (s : State) (b die input detail code : Nat) :
    (tarnish s b die input detail code).faults.phases = s.faults.phases := by
  have hopen := tarnishOpened_phases s b
  rw [tarnish_eq, pulse_faults, tarnishNoted_faults, tarnishEntry_eq]
  generalize tarnishOpened s b = w at hopen ⊢
  split
  · rw [logFault_phases]
    exact hopen
  · rw [logFault_phases]
    exact hopen

theorem suspect_phases (s : State) (cause die input detail ctx a b : Nat) :
    (suspect s cause die input detail ctx a b).faults.phases = s.faults.phases := by
  simp only [suspect, suspectAt, State.countWrap_eq]

theorem pathFault_phases (s : State) (d n detail : Nat) : (pathFault s d n detail).faults.phases = s.faults.phases := by
  unfold pathFault
  dsimp only
  rw [suspect_phases, tarnish_phases]

theorem phaseAudit_fault (h : PhaseAudited s d) (hn : s.inputOfDie d = some n) {a : AuditWindow}
    (ha : (shadowCause a).isSome = true) : Answers (.phaseAuditWindowEnd d a) s fun t =>
      kvGet t.faults.phases d = some (((kvGet s.faults.phases d).getD 0 + 1) % 8) ∧
      bit (t.get O.TARNISH) 22 = true ∧ t.num O.SUSPECT_COUNT = (s.num O.SUSPECT_COUNT + 1) % 2 ^ 32 ∧
      t.ctxs = s.ctxs ∧ t.mem = s.mem := by
  obtain ⟨k, hk⟩ := Option.isSome_iff_exists.mp ha
  have hphase := phased8_phase s d
  have hnum : (phased8 s d).num O.SUSPECT_COUNT = s.num O.SUSPECT_COUNT := rfl
  have hctx : (phased8 s d).ctxs = s.ctxs := rfl
  have hmem : (phased8 s d).mem = s.mem := rfl
  refine answers_done (exec_phaseAudit h hn a) ?_
  rw [hk]
  dsimp only
  generalize phased8 s d = w at hphase hnum hctx hmem ⊢
  generalize (kvGet s.faults.phases d).getD 0 = ph at hphase ⊢
  obtain ⟨hbit, hcount⟩ := pathFault_settled (s := w) d n ph
  have hframe := pathFault_frame (s := w) d n ph
  rw [settle_ctxs, settle_mem]
  refine ⟨?_, hbit, by rw [hcount, hnum], ((congrArg State.ctxs hframe.1 :)).trans hctx,
    ((congrArg State.mem hframe.1 :)).trans hmem⟩
  rw [settle_faults, pathFault_phases]
  exact hphase

/-! ### The tarnish word (R534, R540) -/

theorem maskFold_bits (ms : List Nat) (n : Nat) :
    (List.range n).foldl (fun a j => if ms.contains j then a + 2 ^ j else a) 0 < 2 ^ n ∧
    ∀ i, ((List.range n).foldl (fun a j => if ms.contains j then a + 2 ^ j else a) 0).testBit i = (decide (i < n) && ms.contains i) := by
  induction n with
  | zero => exact ⟨by simp, fun i => by simp⟩
  | succ n ih =>
    obtain ⟨hlt, hbits⟩ := ih
    rw [List.range_succ, List.foldl_append, List.foldl_cons, List.foldl_nil]
    generalize (List.range n).foldl (fun a j => if ms.contains j then a + 2 ^ j else a) 0 = x at hlt hbits ⊢
    by_cases hn : ms.contains n = true
    · rw [if_pos hn]
      refine ⟨by rw [Nat.pow_succ]; omega, fun i => ?_⟩
      rw [Nat.add_comm]
      obtain h | rfl | h := Nat.lt_trichotomy i n
      · rw [Nat.testBit_two_pow_add_gt h, hbits, decide_eq_true h, decide_eq_true (Nat.lt_succ_of_lt h)]
      · rw [Nat.testBit_two_pow_add_eq, hbits, hn]
        simp
      · have hx : 2 ^ n + x < 2 ^ i := Nat.lt_of_lt_of_le (m := 2 ^ (n + 1)) (by rw [Nat.pow_succ]; omega) (Nat.pow_le_pow_right (by decide) h)
        rw [Nat.testBit_lt_two_pow hx, decide_eq_false (by omega), Bool.false_and]
    · rw [if_neg hn]
      refine ⟨hlt.trans (Nat.pow_lt_pow_right (by decide) (Nat.lt_succ_self n)), fun i => ?_⟩
      rw [hbits]
      by_cases hi : i = n
      · subst hi
        simp only [Bool.not_eq_true] at hn
        rw [hn, Bool.and_false, Bool.and_false]
      · rw [show (decide (i < n)) = decide (i < n + 1) from decide_eq_decide.mpr (by omega)]

theorem maskOf_lt (ms : List Nat) : maskOf ms < 2 ^ 64 := (maskFold_bits ms 64).1

theorem testBit_maskOf (ms : List Nat) (i : Nat) : (maskOf ms).testBit i = (decide (i < 64) && ms.contains i) :=
  (maskFold_bits ms 64).2 i

theorem bit_polish (x w : Slot) (m b : Nat) (hb : b < 64) : bit (polish x w m) b = (bit x b && !(bit w b && bit (ofN m) b)) := by
  rw [polish, bit_eq, BitVec.getLsbD_and, BitVec.getLsbD_not, BitVec.getLsbD_and, decide_eq_true hb, Bool.true_and]
  rfl

/-- Whether a polish of `v` asks for bit `b`. -/
def polishes (v : Slot) (b : Nat) : Bool := bit (v &&& ofN tarnishMask) b

theorem polishes_lt {b : Nat} (h : polishes v b = true) : b < 29 := by
  rw [polishes, bit_eq, BitVec.getLsbD_and, Bool.and_eq_true] at h
  by_contra hb
  have hz : tarnishMask.testBit b = false :=
    Nat.testBit_lt_two_pow (Nat.lt_of_lt_of_le (m := 2 ^ 29) (by decide) (Nat.pow_le_pow_right (by decide) (Nat.le_of_not_lt hb)))
  rw [getLsbD_ofN, hz, Bool.and_false] at h
  exact absurd h.2 (by decide)

/-- Whether bit `b` set in this core cycle. -/
def State.freshBit (s : State) (b : Nat) : Bool := kvGet s.faults.setIn b == some s.cycle

/-- The bits that a polish of `v` clears. -/
def State.polished (s : State) (v : Slot) : Nat := maskOf ((List.range 29).filter fun b => polishes v b && !s.freshBit b)

theorem testBit_polished (s : State) (v : Slot) (b : Nat) : (s.polished v).testBit b = (polishes v b && !s.freshBit b) := by
  rw [State.polished, testBit_maskOf]
  by_cases hb : b < 29
  · rw [decide_eq_true (by omega), Bool.true_and, Bool.eq_iff_iff]
    simp [hb]
  · have hno : polishes v b = false := by
      by_contra h
      exact hb (polishes_lt (Bool.not_eq_false _ ▸ h))
    rw [hno, Bool.false_and, Bool.and_eq_false_iff]
    refine Or.inr ?_
    simp [hb]

/-- The record of the fault supervisor after a polish. -/
def State.polishedFaults (s : State) (v : Slot) : Faults :=
  { s.faults with
    openEvents := s.faults.openEvents.filter fun e => !polishes v e.1 || s.freshBit e.1 && e.2 == s.cycle
    hubMismatch := s.faults.hubMismatch && !(s.polished v).testBit 16 }

/-- The state after a polish, before the field bus hears of it. -/
def State.polishing (s : State) (v : Slot) : State :=
  { s.put O.TARNISH (polish (s.get O.TARNISH) (ofN (s.polished v)) tarnishMask) with faults := s.polishedFaults v }

theorem tarnishPolish_steward (ho : ownerOf p = s.steward) :
    tarnishPolish s p v = .ok (emcyEnd s.errorRegister (s.polishing v)) := by
  unfold tarnishPolish
  rw [stewardOnly_pos ho]
  rfl

theorem polishing_frame (s : State) (v : Slot) :
    OnlyObjs [objKey 0 O.TARNISH] { s with faults := s.polishedFaults v } (s.polishing v) :=
  (onlyObjs_refl ({ s with faults := s.polishedFaults v } : State) _).put (j := 0) (k := O.TARNISH) (by simp) _

theorem polishing_bit (s : State) (v : Slot) {b : Nat} (hb : b < 64) :
    bit ((s.polishing v).get O.TARNISH) b = true ↔ bit (s.get O.TARNISH) b = true ∧
      (polishes v b = false ∨ kvGet s.faults.setIn b = some s.cycle) := by
  have hget : (s.polishing v).get O.TARNISH = polish (s.get O.TARNISH) (ofN (s.polished v)) tarnishMask :=
    State.obj_setObj_self _ _ _ _
  have hbit : bit (ofN (s.polished v)) b = (polishes v b && !s.freshBit b) := by
    rw [bit_eq, getLsbD_ofN, decide_eq_true hb, Bool.true_and, testBit_polished]
  have hmask : polishes v b = true → bit (ofN tarnishMask) b = true := by
    intro h
    rw [polishes, bit_eq, BitVec.getLsbD_and, Bool.and_eq_true] at h
    exact h.2
  rw [hget, bit_polish _ _ _ _ hb, hbit, Bool.and_eq_true, State.freshBit]
  cases hp : polishes v b with
  | false => simp
  | true =>
    rw [hmask hp]
    simp

theorem tarnishPolish_answers (h : Served s p) (ho : ownerOf p = s.steward) : Answers (.tarnishPolish p v) s fun t =>
      (∀ b, b < 64 → (bit (t.get O.TARNISH) b = true ↔ bit (s.get O.TARNISH) b = true ∧
        (polishes v b = false ∨ kvGet s.faults.setIn b = some s.cycle))) ∧
      (∀ e ∈ s.faults.openEvents, polishes v e.1 = false → e ∈ t.faults.openEvents) ∧
      (∀ e ∈ t.faults.openEvents, e ∈ s.faults.openEvents ∧
        (polishes v e.1 = true → kvGet s.faults.setIn e.1 = some s.cycle ∧ e.2 = s.cycle)) ∧
      (t.faults.hubMismatch = true ↔ s.faults.hubMismatch = true ∧
        (polishes v 16 = false ∨ kvGet s.faults.setIn 16 = some s.cycle)) ∧
      t.faults.log = s.faults.log ∧
      OnlyObjs [objKey 0 O.TARNISH] { s with faults := t.faults, can := t.can } t := by
  have hcyc : s.turned.cycle = s.cycle := by rw [State.cycle, now_congr (t := s.turned) (s := s) rfl rfl, State.cycle]
  have hframe := (emcyEnd_canOnly (ks := []) (s.turned.polishing v) s.turned.errorRegister).settled
  have hpol : OnlyObjs [objKey 0 O.TARNISH] { s with faults := s.turned.polishedFaults v } (s.turned.polishing v) :=
    OnlyObjs.trans (onlyObjs_congr _ rfl rfl rfl) (polishing_frame s.turned v)
  have hbits : ∀ b, b < 64 → (bit ((s.turned.polishing v).get O.TARNISH) b = true ↔ bit (s.get O.TARNISH) b = true ∧
      (polishes v b = false ∨ kvGet s.faults.setIn b = some s.cycle)) := fun b hb => by
    rw [polishing_bit _ _ hb, hcyc]
    rfl
  have hpf : (s.turned.polishing v).faults = s.turned.polishedFaults v := rfl
  refine answers_access (i := .tarnishPolish p v) (exec_tarnishPolish s p v) h rfl (tarnishPolish_steward (s := s.turned) ho) ?_
  generalize s.turned.polishing v = w at hframe hpol hbits hpf ⊢
  generalize settle (emcyEnd s.turned.errorRegister w) = t at hframe ⊢
  have hfaults : t.faults = s.turned.polishedFaults v := ((congrArg State.faults hframe.1 :)).trans hpf
  have htar : t.get O.TARNISH = w.get O.TARNISH := hframe.obj_of 0 (by decide) (by decide) List.not_mem_nil
  refine ⟨fun b hb => by rw [htar]; exact hbits b hb, fun e he hno => ?_, fun e he => ?_, ?_, by rw [hfaults]; rfl, ?_⟩
  · rw [hfaults]
    exact List.mem_filter.mpr ⟨he, by rw [hno]; rfl⟩
  · rw [hfaults] at he
    obtain ⟨hmem, hkeep⟩ := List.mem_filter.mp he
    refine ⟨hmem, fun hyes => ?_⟩
    rw [hyes, State.freshBit, hcyc] at hkeep
    simpa using hkeep
  · have hmis : t.faults.hubMismatch = (s.faults.hubMismatch && !(polishes v 16 && !s.turned.freshBit 16)) := by
      rw [hfaults, State.polishedFaults, testBit_polished]
    rw [hmis, State.freshBit, hcyc]
    cases polishes v 16 <;> simp
  · rw [hfaults]
    exact OnlyObjs.trans (hpol.canBoth t.can) (OnlyObjs.mono hframe (by simp))

theorem flogFlush_answers (h1 : s.dev ≠ .off) (h2 : s.dev ≠ .deep) : Answers .flogFlush s fun t =>
    OnlyObjs [] { s with faults := { s.faults with flushed := s.faults.log.length } } t := by
  have hexec : exec .flogFlush s = done { s with faults := { s.faults with flushed := s.faults.log.length } } := by
    rw [exec_flogFlush, execFlogFlush, if_neg (fun h => h.elim h1 h2)]
    rfl
  exact answers_done hexec (onlyObjs_refl _ _).settled

/-! ### The end of a restart (R424, R473, R528) -/

/-- The restarts ended, and what waited taken. -/
def restarted (s : State) : State :=
  { s with
    hubRestart := false, supRestart := false, missed := [], deferred := []
    faults := { s.faults with held := [], evalHeld := [] } }

/-- The entries that waited for a restart set their bits, in ascending order (R540). -/
def setHeld (s : State) (l : List (Nat × Nat × Nat × Nat × Nat)) : State :=
  ((List.range 30).flatMap fun b => l.filter fun h => h.1 == b).foldl
    (fun s h => tarnish s h.1 h.2.1 h.2.2.1 h.2.2.2.1 h.2.2.2.2) s

theorem exec_hubRestart_calm (hr : s.restarting = true) (hd : s.deferred = []) (he : s.faults.evalHeld = []) :
    exec .hubRestartDone s = done (shedAll (setHeld
      (if s.hubRestart then emcy (answerMet (restarted s) s.missed) 0xFF40 0xFF 0xFF 0 else restarted s) s.faults.held)) := by
  rw [exec_hubRestartDone, execHubRestartDone, if_pos hr]
  dsimp only
  rw [hd, he]
  rfl

theorem shaken_setHeld (s : State) (l : List (Nat × Nat × Nat × Nat × Nat)) : Shaken s (setHeld s l) :=
  shaken_foldl _ _ (fun u _ => shaken_tarnish u _ _ _ _ _) s

end Sys2Proof.Machine
end

section
/-! ## The fault supervisor: the end of a restart (R424, R473, R523, R528) -/

namespace Sys2Proof.Machine

variable {s t u : State} {p k op : Nat}

/-! ### Directions that carry what they may -/

theorem leavers_none (s : State) (i : Nat) (down : Bool) (l : List Nat) : s.leavers i down 0 l = [] := by
  cases l with
  | nil => rfl
  | cons c r => exact if_pos rfl

theorem shedDirs_within {ds : List (Nat × Bool)} (h : ∀ i b, s.dirLoad i b ≤ s.dirCap i b) : shedDirs s ds = s := by
  have hnil : (ds.flatMap fun x => s.leavers x.1 x.2 (s.dirLoad x.1 x.2 - s.dirCap x.1 x.2) (s.onLink x.1 x.2)) = [] := by
    rw [List.flatMap_eq_nil_iff]
    intro x _
    rw [Nat.sub_eq_zero_of_le (h x.1 x.2), leavers_none]
  unfold shedDirs
  dsimp only
  rw [hnil]
  rfl

theorem shedAll_within (h : ∀ i b, s.dirLoad i b ≤ s.dirCap i b) : shedAll s = s := shedDirs_within h

/-- Loads and capacities follow the contexts, the dies and the failed lanes. -/
theorem dirLoad_congr (hc : t.ctxs = s.ctxs) (hv : t.variant = s.variant) (i : Nat) (b : Bool) : t.dirLoad i b = s.dirLoad i b := by
  rw [State.dirLoad, State.ringLoad, State.ringStreams, hc, State.D, hv]
  rfl

theorem dirCap_congr (hd : t.dies = s.dies) (hv : t.variant = s.variant) (hl : t.faults.linkFail = s.faults.linkFail)
    (hx : t.faults.downLinks = s.faults.downLinks) (i : Nat) (b : Bool) : t.dirCap i b = s.dirCap i b := by
  have hD : t.D = s.D := by rw [State.D, hv, State.D]
  unfold State.dirCap State.linkUp State.lanesLost
  simp only [hl, hx, hD, die_congr hd]

/-! ### What waited is answered -/

theorem setHeld_nil (s : State) : setHeld s [] = s := by
  unfold setHeld
  rw [show ((List.range 30).flatMap fun b => ([] : List (Nat × Nat × Nat × Nat × Nat)).filter fun h => h.1 == b) = [] from rfl]
  rfl

/-- The answer to one access that met a restart. -/
def answerOne (s : State) (m : Nat × Nat × Nat) : State :=
  let s := recordAbort s m.1 m.2.1 m.2.2 .service
  if m.1 = 32 then canSend s (0x580 + s.can.nodeId) (leBytes 1 0x80 ++ leBytes 4 Abort.service.code.toNat) else s

/-- The answer to one mailbox request that met a restart. -/
def answerMail (s : State) (m : Nat × Mailbox) : State :=
  if m.2.busy then
    let s := recordAbort s (16 + m.1) (fld m.2.request 32 24) (fld m.2.request 56 8) .service
    { s with mailboxes := kvPut s.mailboxes m.1 { m.2 with busy := false, result := ofN Abort.service.code.toNat } }
  else s

theorem answerMet_eq (s : State) (l : List (Nat × Nat × Nat)) : answerMet s l = s.mailboxes.foldl answerMail (l.foldl answerOne s) := rfl

/-- The restarts, and the accesses that wait for them. -/
def State.restarts (s : State) : Bool × Bool × List (Nat × Nat × Nat) := (s.hubRestart, s.supRestart, s.missed)

theorem restarts_foldl {α : Type} (l : List α) (f : State → α → State) (hf : ∀ u a, (f u a).restarts = u.restarts) (s : State) :
    (l.foldl f s).restarts = s.restarts := by
  induction l generalizing s with
  | nil => rfl
  | cons a l ih => exact (ih _).trans (hf s a)

theorem restarts_of_body {ks : List Nat} (h : OnlyObjs ks s t) : t.restarts = s.restarts := (congrArg State.restarts h.1 :)

theorem answerOne_restarts (s : State) (m : Nat × Nat × Nat) : (answerOne s m).restarts = s.restarts := by
  unfold answerOne
  dsimp only
  split
  · exact (restarts_of_body (ks := []) (canSend_frame _ _ _)).trans (restarts_of_body (recordAbort_onlyObjs _ _ _ _ _))
  · exact restarts_of_body (recordAbort_onlyObjs _ _ _ _ _)

theorem restarts_setMailboxes (s : State) (l : List (Nat × Mailbox)) : ({ s with mailboxes := l } : State).restarts = s.restarts := rfl

theorem answerMail_restarts (s : State) (m : Nat × Mailbox) : (answerMail s m).restarts = s.restarts := by
  unfold answerMail
  split
  · dsimp only
    have h := restarts_of_body (recordAbort_onlyObjs s (16 + m.1) (fld m.2.request 32 24) (fld m.2.request 56 8) .service)
    rw [restarts_setMailboxes]
    exact h
  · rfl

theorem answerMet_restarts (s : State) (l : List (Nat × Nat × Nat)) : (answerMet s l).restarts = s.restarts := by
  rw [answerMet_eq]
  exact (restarts_foldl _ _ answerMail_restarts _).trans (restarts_foldl _ _ answerOne_restarts s)

theorem hubRestartDone_ends (hr : s.restarting = true) (hd : s.deferred = []) (he : s.faults.evalHeld = []) :
    Answers .hubRestartDone s fun t => t.hubRestart = false ∧ t.supRestart = false ∧ t.missed = [] := by
  have hanswered : (if s.hubRestart then emcy (answerMet (restarted s) s.missed) 0xFF40 0xFF 0xFF 0 else restarted s).restarts =
      (false, false, []) := by
    split
    · exact answerMet_restarts (restarted s) s.missed
    · rfl
  refine answers_done (exec_hubRestart_calm hr hd he) ?_
  generalize (if s.hubRestart then emcy (answerMet (restarted s) s.missed) 0xFF40 0xFF 0xFF 0 else restarted s) = w at hanswered ⊢
  have hend : (settle (shedAll (setHeld w s.faults.held))).restarts = (false, false, []) :=
    (restarts_of_body (ks := []) (onlyObjs_refl _ _).settled).trans
      (((shaken_setHeld w s.faults.held).trans (shaken_shedDirs _ _)).restarts.trans hanswered)
  generalize settle (shedAll (setHeld w s.faults.held)) = t at hend ⊢
  simpa only [State.restarts, Prod.mk.injEq] using hend

/-- A recorded abort stands whatever the field bus does after it. -/
theorem aborted_of_canOnly {a : Abort} (h : CanOnly [] (recordAbort s p k op a) t) : Aborted s t p k op a := by
  obtain ⟨h1, h2, h3⟩ := recordAbort_aborted s p k op a
  have hobj : ∀ j, j < 2 ^ 24 → j ∉ settleObjs → t.obj p j = (recordAbort s p k op a).obj p j :=
    fun j hj hs => h.obj_of p hj hs List.not_mem_nil
  unfold Aborted
  rw [hobj O.PATH_LAST_ABORT (by decide) (by decide), hobj O.PATH_ABORTS (by decide) (by decide),
    hobj O.PATH_STATUS (by decide) (by decide)]
  exact ⟨h1, h2, h3⟩

theorem answerOne_canOnly (s : State) (p k op : Nat) : CanOnly [] (recordAbort s p k op .service) (answerOne s (p, k, op)) := by
  unfold answerOne
  dsimp only
  split
  · exact (canSend_frame _ _ _).canOnly
  · exact canOnly_refl _ _

theorem restarted_eq (h1 : s.deferred = []) (h2 : s.faults.held = []) (h3 : s.faults.evalHeld = []) :
    restarted s = { s with hubRestart := false, supRestart := false, missed := [] } := by
  have hf : ({ s.faults with held := [], evalHeld := [] } : Faults) = s.faults := by
    cases hs : s.faults
    rw [hs] at h2 h3
    simp only at h2 h3
    rw [h2, h3]
  unfold restarted
  rw [hf, ← h1]

theorem hubRestartDone_met (hr : s.hubRestart = true) (hm : s.missed = [(p, k, op)]) (hd : s.deferred = [])
    (hb : s.mailboxes = []) (hh : s.faults.held = []) (he : s.faults.evalHeld = [])
    (hl : ∀ i b, s.dirLoad i b ≤ s.dirCap i b) : Answers .hubRestartDone s fun t =>
      Aborted s t p k op .service ∧ Waits 0xFF40 0 t ∧ t.missed = [] ∧
      OnlyObjs (abortKeys p) { s with hubRestart := false, supRestart := false, missed := [], can := t.can } t := by
  have hmail : (restarted s).mailboxes = [] := hb
  have hmet : answerMet (restarted s) s.missed = answerOne (restarted s) (p, k, op) := by
    rw [answerMet_eq, hmail, hm]
    rfl
  have hexec := exec_hubRestart_calm (s := s) (by simp [State.restarting, hr]) hd he
  have hfold := answerOne_canOnly (restarted s) p k op
  have hrec := recordAbort_onlyObjs (restarted s) p k op .service
  have hobjs : ∀ i j, (restarted s).obj i j = s.obj i j := fun _ _ => rfl
  rw [restarted_eq hd hh he] at hexec hmet hfold hrec hobjs
  rw [if_pos hr, hmet, hh, setHeld_nil] at hexec
  generalize hv : ({ s with hubRestart := false, supRestart := false, missed := [] } : State) = v at hexec hfold hrec hobjs
  have hsend : CanOnly [] (recordAbort v p k op .service) (emcy (answerOne v (p, k, op)) 0xFF40 0xFF 0xFF 0) :=
    hfold.trans (emcy_canOnly _ _ _ _ _)
  have hwait : Waits 0xFF40 0 (emcy (answerOne v (p, k, op)) 0xFF40 0xFF 0xFF 0) := ⟨_, emcy_queued _ _ _ _ _, rfl, rfl⟩
  generalize emcy (answerOne v (p, k, op)) 0xFF40 0xFF 0xFF 0 = w at hexec hsend hwait
  have hall : CanOnly (abortKeys p) v w := hrec.canOnly.trans (hsend.mono (by simp))
  have hfaults : w.faults = s.faults := ((congrArg State.faults hall.1 :)).trans (by subst hv; rfl)
  have hctxs : w.ctxs = s.ctxs := hall.ctxs.trans (by subst hv; rfl)
  have hvar : w.variant = s.variant := ((congrArg State.variant hall.1 :)).trans (by subst hv; rfl)
  have hdies : w.dies = s.dies := ((congrArg State.dies hall.1 :)).trans (by subst hv; rfl)
  have hshed : shedAll w = w := shedAll_within fun i b => by
    rw [dirLoad_congr hctxs hvar, dirCap_congr hdies hvar (by rw [hfaults]) (by rw [hfaults])]
    exact hl i b
  rw [hshed] at hexec
  refine answers_done hexec ⟨?_, hwait.settled, ?_, ?_⟩
  · obtain ⟨h1, h2, h3⟩ := aborted_of_canOnly hsend.settled
    exact ⟨h1, by rw [h2, hobjs], h3⟩
  · exact ((congrArg State.missed hall.settled.1 :)).trans (by subst hv; rfl)
  · subst hv
    exact hall.settled

theorem hubRestartDone_idle (hr : s.restarting = false) : Answers .hubRestartDone s fun t => OnlyObjs [] s t :=
  answers_idle (by rw [exec_hubRestartDone, execHubRestartDone, if_neg (by simp [hr])])

/-! ### The supervisor -/

/-- Settles O57, one lemma per command: lanes, evaluators, restarts, the phase audit and the tarnish word. -/
theorem faultSupervisor : Obligations.FaultSupervisor := by
  unfold Obligations.FaultSupervisor
  refine ⟨fun s k lane hk hl hr hd => ⟨fun hn => flitCrcFail_counts hk hl hr hd hn, fun hn => flitCrcFail_lane hk hl hr hd hn⟩,
    fun s d e agree ok h1 h2 h3 h4 h5 h6 h7 => ⟨?_, ?_, ?_, ?_⟩,
    fun s d e agree ok h1 h2 => answers_idle ((exec_evalTestWindowEnd s d e agree ok).trans (by rw [execEvalTestWindowEnd, evalTest_untested h1 h2])),
    fun s ha => ⟨lockstep_control ha, lockstep_supervisor ha, fun k => powerPhase_answers ha k⟩,
    fun s hr hd he => hubRestartDone_ends hr hd he,
    fun s p k op hr hm hd hb hh he hl => hubRestartDone_met hr hm hd hb hh he hl,
    fun s hr => hubRestartDone_idle hr,
    fun s d n a h1 h2 h3 h4 h5 h6 h7 hn => ⟨fun ha => phaseAudit_pass ⟨h1, h2, h3, h4, h5, h6, h7⟩ hn ha,
      fun ha => phaseAudit_fault ⟨h1, h2, h3, h4, h5, h6, h7⟩ hn ha⟩,
    fun s p v h => ⟨fun ho => tarnishPolish_answers h ho,
      fun ho => rejected_access (exec_tarnishPolish s p v) h rfl (stewardOnly_neg (s := s.turned) ho _)⟩,
    fun s h1 h2 => flogFlush_answers h1 h2⟩
  · rintro rfl hg
    exact evalTest_pass ⟨h1, h2, h3, h4, h5, h6, h7⟩ hg
  · rintro rfl hr
    exact evalTest_held ⟨h1, h2, h3, h4, h5, h6, h7⟩ hr
  · rintro rfl hr rfl
    exact evalTest_fails ⟨h1, h2, h3, h4, h5, h6, h7⟩ hr
  · rintro rfl hr rfl
    exact evalTest_check ⟨h1, h2, h3, h4, h5, h6, h7⟩ hr

end Sys2Proof.Machine
end

section
/-! ## References (R502 to R504, R526) -/

namespace Sys2Proof.Machine

variable {s t u : State} {p m r : Nat} {v : Slot}

/-! ### A change of the reference -/

/-- The objects of a disturbance of the time base. -/
def discKeys : List Nat :=
  [objKey 0 O.TB_DISC_COUNT, objKey 0 O.TB_DISC_TM, objKey (wrapInst 0) O.TB_DISC_TM, objKey 0 O.TB_DISC_CAUSE, objKey 0 O.TB_STATUS]

theorem devDisc_canOnly (s : State) (cause : Nat) (alone : Bool) (n : Nat) : CanOnly discKeys s (devDisc s cause alone n) := by
  unfold devDisc
  dsimp only
  rw [State.countSat_eq, State.putTm_eq, State.flag_eq, State.flag_eq, State.put_eq]
  have hset : CanOnly discKeys s (((((s.setObj 0 O.TB_DISC_COUNT (ofN (satN 32 ((s.obj 0 O.TB_DISC_COUNT).toNat + 1)))).setObj 0
      O.TB_DISC_TM (ofN (n % 2 ^ 55 * 512))).setObj (wrapInst 0) O.TB_DISC_TM (ofN (n / 2 ^ 55 % 2 ^ 16))).setObj 0
      O.TB_DISC_CAUSE (ofN cause))) :=
    ((((canOnly_refl _ s).put (by simp [discKeys]) _).put (by simp [discKeys]) _).put (by simp [discKeys]) _).put (by simp [discKeys]) _
  generalize ((((s.setObj 0 O.TB_DISC_COUNT (ofN (satN 32 ((s.obj 0 O.TB_DISC_COUNT).toNat + 1)))).setObj 0
      O.TB_DISC_TM (ofN (n % 2 ^ 55 * 512))).setObj (wrapInst 0) O.TB_DISC_TM (ofN (n / 2 ^ 55 % 2 ^ 16))).setObj 0
      O.TB_DISC_CAUSE (ofN cause)) = w at hset ⊢
  have hflag := hset.put (j := 0) (k := O.TB_STATUS) (by simp [discKeys]) (setBit (w.obj 0 O.TB_STATUS) 3)
  generalize w.setObj 0 O.TB_STATUS (setBit (w.obj 0 O.TB_STATUS) 3) = x at hflag ⊢
  have hmore : CanOnly discKeys s (if bit (x.get O.TB_STATUS) 1 then x.setObj 0 O.TB_STATUS (setBit (x.obj 0 O.TB_STATUS) 2) else x) := by
    split
    · exact hflag.put (by simp [discKeys]) _
    · exact hflag
  generalize (if bit (x.get O.TB_STATUS) 1 then x.setObj 0 O.TB_STATUS (setBit (x.obj 0 O.TB_STATUS) 2) else x) = y at hmore ⊢
  have hemcy : CanOnly discKeys s (if alone then emcy y 0xFF31 0xFF 0xFF cause else y) := by
    split
    · exact hmore.trans (emcy_canOnly _ _ _ _ _)
    · exact hmore
  generalize (if alone then emcy y 0xFF31 0xFF 0xFF cause else y) = z at hemcy ⊢
  exact hemcy.trans (OnlyObjs.pulsed (onlyObjs_refl z _) 7 3 0).canOnly

/-- Nothing but inputs changed. -/
def InputsOnly (s t : State) : Prop := t = { s with inputs := t.inputs }

theorem inputsOnly_foldl {α : Type} (l : List α) (f : State → α → State) (hf : ∀ u a, InputsOnly u (f u a)) (s : State) :
    InputsOnly s (l.foldl f s) := by
  induction l generalizing s with
  | nil => rfl
  | cons a l ih =>
    have h1 := hf s a
    have h2 := ih (f s a)
    rw [InputsOnly] at h1 h2 ⊢
    rw [List.foldl_cons, h2, h1]

theorem markDisc_inputsOnly (s : State) (n : Nat) : InputsOnly s (markDisc s n) := rfl

/-- What a change of the reference leaves (R50, R503). -/
structure RefChanged (s t : State) : Prop where
  power : t.power = s.power
  mem : t.mem = s.mem
  ctxs : t.ctxs = s.ctxs
  objs : ∀ k, k < 2 ^ 24 → k ∉ settleObjs → k ∉ [O.TB_DISC_COUNT, O.TB_DISC_TM, O.TB_DISC_CAUSE, O.TB_STATUS] → t.get k = s.get k

theorem refChanged_refl (s : State) : RefChanged s s := ⟨rfl, rfl, rfl, fun _ _ _ _ => rfl⟩

theorem RefChanged.trans (h : RefChanged s t) (h' : RefChanged t u) : RefChanged s u :=
  ⟨h'.power.trans h.power, h'.mem.trans h.mem, h'.ctxs.trans h.ctxs,
    fun k h24 hs hk => (h'.objs k h24 hs hk).trans (h.objs k h24 hs hk)⟩

theorem discKeys_free {k : Nat} (h24 : k < 2 ^ 24) (hk : k ∉ [O.TB_DISC_COUNT, O.TB_DISC_TM, O.TB_DISC_CAUSE, O.TB_STATUS]) :
    objKey 0 k ∉ discKeys := by
  simp only [List.mem_cons, List.not_mem_nil, or_false, not_or] at hk
  obtain ⟨h1, h2, h3, h4⟩ := hk
  simp only [discKeys, List.mem_cons, List.not_mem_nil, or_false, not_or]
  refine ⟨objKey_ne 0 h1, objKey_ne 0 h2, ?_, objKey_ne 0 h3, objKey_ne 0 h4⟩
  simp only [objKey, wrapInst]
  omega

theorem refChanged_changes (s : State) (alone : Bool) : RefChanged s (refChanged s alone) := by
  unfold refChanged
  have hmark : InputsOnly s ((List.range s.D).foldl markDisc s) := inputsOnly_foldl _ _ markDisc_inputsOnly s
  generalize (List.range s.D).foldl markDisc s = w at hmark ⊢
  have hdisc := devDisc_canOnly w 2 alone w.now
  have hget : ∀ k, w.get k = s.get k := fun k => by rw [hmark]; rfl
  have hpow : (devDisc w 2 alone).power = w.power := (congrArg State.power hdisc.1 :)
  refine ⟨hpow.trans (by rw [hmark]), hdisc.mem.trans (by rw [hmark]), hdisc.ctxs.trans (by rw [hmark]), fun k h24 hs hk => ?_⟩
  exact (hdisc.obj_of 0 h24 hs (discKeys_free h24 hk)).trans (hget k)

/-! ### The switch -/

theorem refWanted_lt (s : State) : s.refWanted < 2 ^ 64 := by
  have hnum : s.num O.REF_SELECT < 2 ^ 64 := (s.get O.REF_SELECT).isLt
  have hext : ∀ m : Nat, (if m = 10 then 1 else 2) < 2 ^ 64 := fun m => by split <;> decide
  unfold State.refWanted
  dsimp only
  split
  · decide
  · cases s.power.extValid with
    | none => decide
    | some m => exact hext m
  · have hlast : ∀ e, (if e = s.num O.REF_SELECT ∧ s.power.extTaken = true then s.num O.REF_SELECT else 0) < 2 ^ 64 := by
      intro e
      split
      · exact hnum
      · decide
    cases s.power.extValid <;> exact hlast _

/-- The distribution switches to a reference that runs (R503). -/
theorem switchRef_switches (h : s.num O.REF_IN_USE ≠ r) (hi : r ≠ 0 ∨ s.power.intFailed = false) (alone : Bool) :
    RefChanged { (s.put O.REF_IN_USE (ofN r)).flag 0 O.REF_STATUS 0 with power := { s.power with noRef := false } }
      (switchRef s r alone) := by
  unfold switchRef
  rw [if_neg h, if_neg]
  · exact refChanged_changes _ _
  · rintro ⟨hr, hf⟩
    exact hi.elim (fun hn => hn hr) fun hn => by simp [hn] at hf

theorem switchRef_stays (h : s.num O.REF_IN_USE = r) (hn : s.power.noRef = false) (alone : Bool) : switchRef s r alone = s := by
  unfold switchRef
  rw [if_pos h, if_neg (by simp [hn])]

/-- What a switch leaves, at the end of the command. -/
theorem switchRef_settled (h : s.num O.REF_IN_USE ≠ r) (hi : r ≠ 0 ∨ s.power.intFailed = false) (hr : r < 2 ^ 64) (alone : Bool) :
    let t := settle (switchRef s r alone)
    t.num O.REF_IN_USE = r ∧ bit (t.get O.REF_STATUS) 0 = true ∧ t.power = { s.power with noRef := false } ∧ t.mem = s.mem ∧
      t.ctxs = s.ctxs ∧ (∀ b, bit (s.get O.REF_STATUS) b = true → bit (t.get O.REF_STATUS) b = true) ∧
      ∀ k, k < 2 ^ 24 → k ∉ settleObjs → k ∉ [O.TB_DISC_COUNT, O.TB_DISC_TM, O.TB_DISC_CAUSE, O.TB_STATUS] → k ≠ O.REF_IN_USE →
        k ≠ O.REF_STATUS → t.get k = s.get k := by
  have hch := switchRef_switches h hi alone
  have huse : ((s.put O.REF_IN_USE (ofN r)).flag 0 O.REF_STATUS 0).get O.REF_IN_USE = ofN r := by
    rw [State.flag_eq, State.get_eq, State.obj_setObj_ne _ _ _ _ _ _ (by decide), State.put_eq, State.obj_setObj_self]
  have hstat : ((s.put O.REF_IN_USE (ofN r)).flag 0 O.REF_STATUS 0).get O.REF_STATUS = setBit (s.get O.REF_STATUS) 0 := by
    rw [State.flag_eq, State.get_eq, State.obj_setObj_self, State.put_eq, State.obj_setObj_ne _ _ _ _ _ _ (by decide)]
    rfl
  have hother : ∀ k, k ≠ O.REF_IN_USE → k ≠ O.REF_STATUS → ((s.put O.REF_IN_USE (ofN r)).flag 0 O.REF_STATUS 0).get k = s.get k := by
    intro k h1 h2
    rw [State.flag_eq, State.get_eq, State.obj_setObj_ne _ _ _ _ _ _ (objKey_ne 0 h2), State.put_eq,
      State.obj_setObj_ne _ _ _ _ _ _ (objKey_ne 0 h1)]
    rfl
  have hobj := fun k h24 hs hk => (obj_settle_of (s := switchRef s r alone) 0 k h24 hs).trans (hch.objs k h24 hs hk)
  have h1 := hobj O.REF_IN_USE (by decide) (by decide) (by decide)
  have h2 := hobj O.REF_STATUS (by decide) (by decide) (by decide)
  have hp := (settle_power (switchRef s r alone)).trans hch.power
  have hm := (settle_mem (switchRef s r alone)).trans hch.mem
  have hc := (settle_ctxs (switchRef s r alone)).trans hch.ctxs
  dsimp only
  generalize settle (switchRef s r alone) = t at hobj h1 h2 hp hm hc ⊢
  refine ⟨?_, ?_, hp, hm, hc, fun b hb => ?_, fun k h24 hs hk hu hst => (hobj k h24 hs hk).trans (hother k hu hst)⟩
  · rw [State.num_eq, h1]
    exact (congrArg BitVec.toNat huse).trans (ofN_toNat r hr)
  · rw [State.get_eq, h2]
    exact (congrArg (bit · 0) hstat).trans (bit_setBit_self _ (by decide))
  · rw [State.get_eq, h2]
    exact (congrArg (bit · b) hstat).trans (setBit_keeps _ (by decide) hb)

/-! ### The steward's choice (R502, R504) -/

/-- The state in which a reference is chosen. -/
def refAsked (s : State) (v : Slot) : State := { s.put O.REF_SELECT v with power := { s.power with extTaken := true } }

theorem refSelect_accepted (ho : ownerOf p = s.steward) (hv : v.toNat ≤ 3) : refSelect s p v =
    .ok (if s.awake then switchRef (refAsked s v) (refAsked s v).refWanted true else refAsked s v) := by
  unfold refSelect
  rw [stewardOnly_pos ho, need_pos s (decide_eq_true hv) _ _]
  rfl

theorem refSelect_range (ho : ownerOf p = s.steward) (hv : 3 < v.toNat) : refSelect s p v = (s, some .range) := by
  unfold refSelect
  rw [stewardOnly_pos ho]
  exact need_neg (decide_eq_false (Nat.not_le.mpr hv)) _ _

theorem refAsked_select (s : State) (v : Slot) : (refAsked s v).get O.REF_SELECT = v := State.obj_setObj_self _ _ _ _

theorem refAsked_use (s : State) (v : Slot) : (refAsked s v).num O.REF_IN_USE = s.num O.REF_IN_USE :=
  congrArg BitVec.toNat (State.obj_setObj_ne s 0 O.REF_SELECT 0 O.REF_IN_USE v (by decide))

/-- A choice that leaves the reference in use. -/
theorem refSelect_stays (h : Served s p) (ho : ownerOf p = s.steward) (hv : v.toNat ≤ 3)
    (hu : s.num O.REF_IN_USE = (refAsked s v).refWanted) (hn : s.power.noRef = false) : Answers (.refSelectWrite p v) s fun t =>
      t.get O.REF_SELECT = v ∧ OnlyObjs [objKey 0 O.REF_SELECT] { s with power := { s.power with extTaken := true } } t := by
  have huse : (refAsked s.turned v).num O.REF_IN_USE = (refAsked s.turned v).refWanted := (refAsked_use s.turned v).trans hu
  have hsel := refAsked_select s.turned v
  have hframe : OnlyObjs [objKey 0 O.REF_SELECT] { s with power := { s.power with extTaken := true } } (refAsked s.turned v) :=
    OnlyObjs.trans (onlyObjs_congr _ rfl rfl rfl) ((onlyObjs_refl ({ s.turned with power := { s.power with extTaken := true } } : State)
      _).put (j := 0) (k := O.REF_SELECT) (by simp) v)
  refine answers_access (exec_refSelectWrite s p v) h rfl (refSelect_accepted (s := s.turned) ho hv) ?_
  rw [switchRef_stays huse hn, ite_self]
  generalize refAsked s.turned v = w at hsel hframe ⊢
  exact ⟨(obj_settle_of w 0 _ (by decide) (by decide)).trans hsel, hframe.settled⟩

theorem refSelect_switches (h : Served s p) (ho : ownerOf p = s.steward) (hv : v.toNat ≤ 3) (ha : s.awake = true)
    (hu : s.num O.REF_IN_USE ≠ (refAsked s v).refWanted) (hi : (refAsked s v).refWanted ≠ 0 ∨ s.power.intFailed = false) :
    Answers (.refSelectWrite p v) s fun t =>
      t.get O.REF_SELECT = v ∧ t.num O.REF_IN_USE = (refAsked s v).refWanted ∧ bit (t.get O.REF_STATUS) 0 = true ∧
      t.power.noRef = false ∧ t.mem = s.mem := by
  have hwant : (refAsked s.turned v).refWanted = (refAsked s v).refWanted := rfl
  have huse : (refAsked s.turned v).num O.REF_IN_USE ≠ (refAsked s v).refWanted := fun he => hu ((refAsked_use s.turned v).symm.trans he)
  have hawake : s.turned.awake = true := ha
  obtain ⟨h1, h2, h3, h4, -, -, h6⟩ := switchRef_settled (s := refAsked s.turned v) huse hi (refWanted_lt _) true
  have hsel := h6 O.REF_SELECT (by decide) (by decide) (by decide) (by decide) (by decide)
  refine answers_access (exec_refSelectWrite s p v) h rfl (refSelect_accepted (s := s.turned) ho hv) ?_
  rw [if_pos hawake, hwant]
  exact ⟨hsel.trans (refAsked_select s.turned v), h1, h2, by rw [h3], h4⟩

/-! ### A reference that becomes valid (R502, R504) -/

/-- The state in which an external reference is valid. -/
def refValid (s : State) (m : Nat) : State := { s with power := { s.power with extValid := some m, extPresent := true } }

theorem exec_extRefValidated_valid (ha : s.awake = true) (hm : m = 10 ∨ m = 100) : exec (.extRefValidated m) s =
    done (if (refValid s m).refWanted = 0 then refValid s m else switchRef (refValid s m) (refValid s m).refWanted true) := by
  rw [exec_extRefValidated, execExtRefValidated, if_pos ⟨ha, hm⟩]
  rfl

theorem extRefValidated_unwanted (ha : s.awake = true) (hm : m = 10 ∨ m = 100) (hw : (refValid s m).refWanted = 0) :
    Answers (.extRefValidated m) s fun t => OnlyObjs [] (refValid s m) t :=
  answers_done (exec_extRefValidated_valid ha hm) (by rw [if_pos hw]; exact (onlyObjs_refl _ _).settled)

theorem extRefValidated_switches (ha : s.awake = true) (hm : m = 10 ∨ m = 100) (hw : (refValid s m).refWanted ≠ 0)
    (hu : s.num O.REF_IN_USE ≠ (refValid s m).refWanted) : Answers (.extRefValidated m) s fun t =>
      t.num O.REF_IN_USE = (refValid s m).refWanted ∧ t.power.extValid = some m ∧ t.power.noRef = false ∧
      bit (t.get O.REF_STATUS) 0 = true := by
  obtain ⟨h1, h2, h3, -⟩ := switchRef_settled (s := refValid s m) hu (Or.inl hw) (refWanted_lt _) true
  refine answers_done (exec_extRefValidated_valid ha hm) ?_
  rw [if_neg hw]
  exact ⟨h1, by rw [h3]; rfl, by rw [h3], h2⟩

theorem extRefValidated_again (ha : s.awake = true) (hm : m = 10 ∨ m = 100) (hw : (refValid s m).refWanted ≠ 0)
    (hu : s.num O.REF_IN_USE = (refValid s m).refWanted) : Answers (.extRefValidated m) s fun t =>
      OnlyObjs [] { s with power := { s.power with extValid := some m, extPresent := true, noRef := false } } t := by
  have hend : switchRef (refValid s m) (refValid s m).refWanted true =
      { s with power := { s.power with extValid := some m, extPresent := true, noRef := false } } := by
    unfold switchRef
    rw [if_pos (show (refValid s m).num O.REF_IN_USE = (refValid s m).refWanted from hu)]
    split
    · rfl
    · next h =>
      have hn : s.power.noRef = false := by
        by_contra hn
        exact h ⟨hw, Bool.not_eq_false _ ▸ hn⟩
      conv_rhs => rw [← hn]
      rfl
  refine answers_done (exec_extRefValidated_valid ha hm) ?_
  rw [if_neg hw, hend]
  exact (onlyObjs_refl _ _).settled

end Sys2Proof.Machine
end

section
/-! ## The loss of a reference and of the internal oscillator (R504, R526) -/

namespace Sys2Proof.Machine

variable {s t u : State} {off : Bool} {m l x : Nat}

/-! ### Suspension for the loss of every reference (R526, R528) -/

/-- What the suspension of every context for want of a reference leaves. -/
structure RefSuspended (s t : State) : Prop where
  power : t.power = s.power
  objs : ∀ k, k < 2 ^ 24 → workObj k = false → k ∉ settleObjs → t.get k = s.get k
  suspends : s.restarting = false → SuspendsAll s t

theorem suspendAll_suspended (s : State) : RefSuspended s (suspendAll s) := by
  unfold suspendAll
  split
  · next h => exact ⟨rfl, fun _ _ _ _ => rfl, fun hn => absurd h (by simp [hn])⟩
  · have hwork := worked_suspendEach (K := anyKept) rfl rfl rfl s.reachable 4 s
    exact ⟨(congrArg State.power hwork.still :), fun k h24 hw hs => hwork.objs 0 k h24 hw hs,
      fun _ => suspendEach_suspendsAll (fun c x => bound_reachable (c := c) (x := x)) 4⟩

theorem RefSuspended.settled (h : RefSuspended s t) : RefSuspended s (settle t) :=
  ⟨(settle_power t).trans h.power, fun k h24 hw hs => (obj_settle_of t 0 k h24 hs).trans (h.objs k h24 hw hs),
    fun hr => (h.suspends hr).of_ctxs (ctx_settle (s := t))⟩

theorem suspendsAll_congr (h : SuspendsAll s t) (hc : s.ctxs = u.ctxs) : SuspendsAll u t :=
  fun c x hx => h c x ((ctx_of_ctxs hc c).trans hx)

/-! ### The reference loops (R504, R506) -/

/-- Loop `l` of the hub is gated off, unless it has failed. -/
def gated (s : State) (l : Nat) : State := if (s.loop 8 l).st = 5 then s else s.setLoop 8 l { s.loop 8 l with st := 4 }

/-- Only the loops changed. -/
def LoopsOnly (s t : State) : Prop := t = { s with power := { s.power with loops := t.power.loops } }

theorem loopsOnly_gated (s : State) (l : Nat) : LoopsOnly s (gated s l) := by
  unfold gated
  split <;> rfl

theorem LoopsOnly.trans (h : LoopsOnly s t) (h' : LoopsOnly t u) : LoopsOnly s u := by
  rw [LoopsOnly] at h h' ⊢
  rw [h', h]

theorem loop_setLoop_self (v : Loop) (hx : x < s.power.loops.length) (hl : l < (s.loops x).length) : (s.setLoop x l v).loop x l = v := by
  have hlist : (s.setLoop x l v).loops x = (s.loops x).set l v := by
    simp only [State.loops, State.setLoop, State.setLoops, List.getD_eq_getElem?_getD, List.getElem?_set_self hx, Option.getD_some]
  rw [State.loop, hlist, List.getD_eq_getElem?_getD, List.getElem?_set_self hl, Option.getD_some]

theorem loops_setLoop_length (v : Loop) : ((s.setLoop x l v).loops x).length = (s.loops x).length ∧
    (s.setLoop x l v).power.loops.length = s.power.loops.length := by
  refine ⟨?_, List.length_set⟩
  by_cases hx : x < s.power.loops.length
  · simp only [State.loops, State.setLoop, State.setLoops, List.getD_eq_getElem?_getD, List.getElem?_set_self hx, Option.getD_some,
      List.length_set]
  · simp only [State.loops, State.setLoop, State.setLoops, List.set_eq_of_length_le (Nat.le_of_not_lt hx)]

theorem loop_setLoop_ne {k : Nat} (v : Loop) (hk : k ≠ l) : (s.setLoop x l v).loop x k = s.loop x k := by
  by_cases hx : x < s.power.loops.length
  · have hlist : (s.setLoop x l v).loops x = (s.loops x).set l v := by
      simp only [State.loops, State.setLoop, State.setLoops, List.getD_eq_getElem?_getD, List.getElem?_set_self hx, Option.getD_some]
    rw [State.loop, hlist, List.getD_eq_getElem?_getD, List.getElem?_set_ne hk.symm, State.loop, List.getD_eq_getElem?_getD]
  · simp only [State.loop, State.loops, State.setLoop, State.setLoops, List.set_eq_of_length_le (Nat.le_of_not_lt hx)]

theorem gated_loop (hx : 8 < s.power.loops.length) (hl : l < (s.loops 8).length) :
    ((gated s l).loop 8 l).st = (if (s.loop 8 l).st = 5 then 5 else 4) := by
  unfold gated
  split
  · next h => exact h
  · rw [loop_setLoop_self _ hx hl]

theorem gated_other {k : Nat} (hk : k ≠ l) : (gated s l).loop 8 k = s.loop 8 k := by
  unfold gated
  split
  · rfl
  · exact loop_setLoop_ne _ hk

theorem gated_lengths (s : State) (l : Nat) : (gated s l).power.loops.length = s.power.loops.length ∧
    ((gated s l).loops 8).length = (s.loops 8).length := by
  unfold gated
  split
  · exact ⟨rfl, rfl⟩
  · exact (loops_setLoop_length _).symm

/-! ### The external reference is lost (R504) -/

/-- The loss of the external reference before what follows from it. -/
def lossNoted (s : State) (off : Bool) : State :=
  (({ s with power := { s.power with extValid := none, extPresent := off } } : State).flag 0 O.REF_STATUS
    (if off then 2 else 1)).countSat 0 O.REF_LOSSES 32

/-- The state with both reference loops gated. -/
def lossSeen (s : State) (off : Bool) : State := gated (gated (lossNoted s off) 0) 1

/-- What the loss of a reference in use makes of the state. -/
def lossInUse (s : State) : State :=
  let u := tarnish { s.flag 0 O.REF_STATUS 3 with power := { s.power with extTaken := false } } 14 0xFF 0xFF 2 0xFF31
  if u.power.intFailed then suspendAll { u.put O.REF_IN_USE 0 with power := { u.power with noRef := true } }
  else switchRef u 0 false

theorem exec_extRefLoss_valid (ha : s.awake = true) (hv : s.power.extValid.isSome = true) (off : Bool) :
    exec (.extRefLoss off) s = done (if (lossSeen s off).num O.REF_IN_USE = 0 then tarnish (lossSeen s off) 14 0xFF 0xFF 2
      else lossInUse (lossSeen s off)) := by
  rw [exec_extRefLoss, execExtRefLoss, if_pos ⟨ha, hv⟩]
  rfl

theorem lossNoted_objs (s : State) (off : Bool) :
    bit ((lossNoted s off).get O.REF_STATUS) (if off then 2 else 1) = true ∧
    (lossNoted s off).num O.REF_LOSSES = satN 32 (s.num O.REF_LOSSES + 1) ∧
    (lossNoted s off).num O.REF_IN_USE = s.num O.REF_IN_USE := by
  unfold lossNoted
  rw [State.countSat_eq, State.flag_eq]
  refine ⟨?_, ?_, ?_⟩
  · rw [State.get_eq, State.obj_setObj_ne _ _ _ _ _ _ (by decide), State.obj_setObj_self]
    exact bit_setBit_self _ (by split <;> decide)
  · rw [State.num_eq, State.obj_setObj_self, ofN_toNat _ (satN32_lt _), State.obj_setObj_ne _ _ _ _ _ _ (by decide)]
    rfl
  · rw [State.num_eq, State.obj_setObj_ne _ _ _ _ _ _ (by decide), State.obj_setObj_ne _ _ _ _ _ _ (by decide)]
    rfl

/-- What the loss leaves before what follows from it. -/
structure LossSeen (s : State) (off : Bool) (w : State) : Prop where
  rest : w = { lossNoted s off with power := { (lossNoted s off).power with loops := w.power.loops } }
  loops : 8 < s.power.loops.length → 2 ≤ (s.loops 8).length →
    ∀ l, l < 2 → (w.loop 8 l).st = (if (s.loop 8 l).st = 5 then 5 else 4)

theorem lossSeen_seen (s : State) (off : Bool) : LossSeen s off (lossSeen s off) := by
  refine ⟨(loopsOnly_gated _ 0).trans (loopsOnly_gated _ 1), fun hx hl l hl2 => ?_⟩
  have hloop : ∀ k, (lossNoted s off).loop 8 k = s.loop 8 k := fun _ => rfl
  have hlen : (lossNoted s off).power.loops.length = s.power.loops.length := rfl
  have hlen' : ((lossNoted s off).loops 8).length = (s.loops 8).length := rfl
  unfold lossSeen
  generalize lossNoted s off = v at hloop hlen hlen' ⊢
  obtain ⟨h1, h2⟩ := gated_lengths v 0
  obtain rfl | rfl : l = 0 ∨ l = 1 := by omega
  · rw [gated_other (by decide), gated_loop (by omega) (by omega), hloop]
  · rw [gated_loop (by omega) (by omega), gated_other (by decide), hloop]

theorem LossSeen.get {w : State} (h : LossSeen s off w) (k : Nat) : w.get k = (lossNoted s off).get k := by
  rw [h.rest]
  rfl

theorem LossSeen.ctxs {w : State} (h : LossSeen s off w) : w.ctxs = s.ctxs := by
  rw [h.rest]
  rfl

theorem LossSeen.restarting {w : State} (h : LossSeen s off w) : w.restarting = s.restarting := by
  rw [h.rest]
  rfl

theorem LossSeen.intFailed {w : State} (h : LossSeen s off w) : w.power.intFailed = s.power.intFailed := by
  rw [h.rest]
  rfl

/-- A tarnish bit that raises no emergency keeps the emergencies that wait. -/
theorem tarnish_quiet_queue (s : State) (b die input detail : Nat) : (tarnish s b die input detail 0).can.queue = s.can.queue :=
  queue_of_bare (congrArg State.can (tarnish_quiet s b die input detail).1 :)

theorem extRefLoss_unused (ha : s.awake = true) (hv : s.power.extValid.isSome = true) (h0 : s.num O.REF_IN_USE = 0) :
    Answers (.extRefLoss off) s fun t =>
      bit (t.get O.REF_STATUS) (if off then 2 else 1) = true ∧ t.power.extValid = none ∧ t.power.extPresent = off ∧
      t.num O.REF_LOSSES = satN 32 (s.num O.REF_LOSSES + 1) ∧ bit (t.get O.TARNISH) 14 = true ∧
      t.can.queue = s.can.queue ∧ t.num O.REF_IN_USE = 0 ∧ t.ctxs = s.ctxs ∧ t.mem = s.mem := by
  obtain ⟨h1, h2, h3⟩ := lossNoted_objs s off
  have hseen := lossSeen_seen s off
  have huse : (lossSeen s off).num O.REF_IN_USE = 0 := (congrArg BitVec.toNat (hseen.get O.REF_IN_USE)).trans (h3.trans h0)
  refine answers_done (exec_extRefLoss_valid ha hv off) ?_
  rw [if_pos huse]
  have hq : (lossSeen s off).can.queue = s.can.queue := by rw [hseen.rest]; rfl
  have hm : (lossSeen s off).mem = s.mem := by rw [hseen.rest]; rfl
  have hp : (lossSeen s off).power.extValid = none ∧ (lossSeen s off).power.extPresent = off := by rw [hseen.rest]; exact ⟨rfl, rfl⟩
  have hctx := hseen.ctxs
  have hget := hseen.get
  generalize lossSeen s off = w at huse hq hm hp hctx hget ⊢
  have hobj : ∀ k, k < 2 ^ 24 → k ∉ settleObjs → k ≠ O.TARNISH → (settle (tarnish w 14 0xFF 0xFF 2)).get k = w.get k :=
    fun k h24 hs hne => (obj_settle_of _ 0 k h24 hs).trans (obj_tarnish_of _ _ _ _ _ _ 0 k h24 hs hne)
  have hpow : (tarnish w 14 0xFF 0xFF 2).power = w.power := (congrArg State.power (tarnish_frame w 14 0xFF 0xFF 2 0).1 :)
  rw [settle_power, hpow, settle_queue, tarnish_quiet_queue, settle_ctxs, tarnish_ctxs, settle_mem, tarnish_mem]
  refine ⟨?_, hp.1, hp.2, ?_, settle_tarnish_bit _ _ _ _ _ _ (by decide), hq, ?_, hctx, hm⟩
  · rw [hobj _ (by decide) (by decide) (by decide), hget]
    exact h1
  · exact (congrArg BitVec.toNat ((hobj O.REF_LOSSES (by decide) (by decide) (by decide)).trans (hget _))).trans h2
  · exact (congrArg BitVec.toNat (hobj O.REF_IN_USE (by decide) (by decide) (by decide))).trans huse

/-- What the loss of a reference in use leaves. -/
structure LossEnded (s t : State) : Prop where
  loops : t.power.loops = s.power.loops
  valid : t.power.extValid = s.power.extValid
  taken : t.power.extTaken = false
  use : t.num O.REF_IN_USE = 0
  losses : t.num O.REF_LOSSES = s.num O.REF_LOSSES
  status : bit (t.get O.REF_STATUS) 3 = true
  tarnish : bit (t.get O.TARNISH) 14 = true
  failed : s.power.intFailed = true → t.power.noRef = true ∧ (s.restarting = false → SuspendsAll s t)

/-- The state in which the loss of a reference in use is recorded. -/
def lossRecorded (s : State) : State :=
  tarnish { s.flag 0 O.REF_STATUS 3 with power := { s.power with extTaken := false } } 14 0xFF 0xFF 2 0xFF31

theorem lossInUse_eq (s : State) : lossInUse s =
    if (lossRecorded s).power.intFailed then
      suspendAll { (lossRecorded s).put O.REF_IN_USE 0 with power := { (lossRecorded s).power with noRef := true } }
    else switchRef (lossRecorded s) 0 false := rfl

theorem lossRecorded_fields (s : State) :
    (lossRecorded s).power = { s.power with extTaken := false } ∧ (lossRecorded s).ctxs = s.ctxs ∧
    (lossRecorded s).restarting = s.restarting ∧ bit ((lossRecorded s).get O.TARNISH) 14 = true ∧
    bit ((lossRecorded s).get O.REF_STATUS) 3 = true ∧ (lossRecorded s).num O.REF_LOSSES = s.num O.REF_LOSSES ∧
    (lossRecorded s).num O.REF_IN_USE = s.num O.REF_IN_USE := by
  have hpow : ({ s.flag 0 O.REF_STATUS 3 with power := { s.power with extTaken := false } } : State).power =
      { s.power with extTaken := false } := rfl
  have hctx : ({ s.flag 0 O.REF_STATUS 3 with power := { s.power with extTaken := false } } : State).ctxs = s.ctxs := rfl
  have hrest : ({ s.flag 0 O.REF_STATUS 3 with power := { s.power with extTaken := false } } : State).restarting = s.restarting := rfl
  have hstat : bit (({ s.flag 0 O.REF_STATUS 3 with power := { s.power with extTaken := false } } : State).get O.REF_STATUS) 3 = true :=
    bit_obj_flagged (by decide)
  have hother : ∀ k, k ≠ O.REF_STATUS →
      ({ s.flag 0 O.REF_STATUS 3 with power := { s.power with extTaken := false } } : State).get k = s.get k :=
    fun k hk => State.obj_setObj_ne s 0 O.REF_STATUS 0 k _ (objKey_ne 0 hk)
  unfold lossRecorded
  generalize ({ s.flag 0 O.REF_STATUS 3 with power := { s.power with extTaken := false } } : State) = w at hpow hctx hrest hstat hother ⊢
  have hframe := tarnish_frame w 14 0xFF 0xFF 2 0xFF31
  have hobj : ∀ k, k < 2 ^ 24 → k ∉ settleObjs → k ≠ O.TARNISH → (tarnish w 14 0xFF 0xFF 2 0xFF31).get k = w.get k :=
    fun k h24 hs hne => obj_tarnish_of w 14 0xFF 0xFF 2 0xFF31 0 k h24 hs hne
  have hp : (tarnish w 14 0xFF 0xFF 2 0xFF31).power = w.power := (congrArg State.power hframe.1 :)
  have hh : (tarnish w 14 0xFF 0xFF 2 0xFF31).hubRestart = w.hubRestart := (congrArg State.hubRestart hframe.1 :)
  have hs : (tarnish w 14 0xFF 0xFF 2 0xFF31).supRestart = w.supRestart := (congrArg State.supRestart hframe.1 :)
  refine ⟨hp.trans hpow, (tarnish_ctxs w 14 0xFF 0xFF 2 0xFF31).trans hctx, ?_, tarnish_bit _ (by decide) _ _ _ _, ?_, ?_, ?_⟩
  · rw [State.restarting, hh, hs, ← hrest, State.restarting]
  · rw [hobj _ (by decide) (by decide) (by decide)]
    exact hstat
  · exact congrArg BitVec.toNat ((hobj O.REF_LOSSES (by decide) (by decide) (by decide)).trans (hother _ (by decide)))
  · exact congrArg BitVec.toNat ((hobj O.REF_IN_USE (by decide) (by decide) (by decide)).trans (hother _ (by decide)))

theorem get_putPower (s : State) (k : Nat) (v : Slot) (y : Power) : ({ s.put k v with power := y } : State).get k = v :=
  State.obj_setObj_self s 0 k v

theorem get_putPower_ne (s : State) {j k : Nat} (v : Slot) (y : Power) (h : j ≠ k) :
    ({ s.put k v with power := y } : State).get j = s.get j := State.obj_setObj_ne s 0 k 0 j v (objKey_ne 0 h)

theorem lossInUse_ended (h : s.num O.REF_IN_USE ≠ 0) : LossEnded s (settle (lossInUse s)) := by
  obtain ⟨hp, hc, hr, htar, hstat, hloss, huse⟩ := lossRecorded_fields s
  rw [lossInUse_eq]
  generalize lossRecorded s = w at hp hc hr htar hstat hloss huse ⊢
  split
  · have hput : ({ w.put O.REF_IN_USE 0 with power := { w.power with noRef := true } } : State).get O.REF_IN_USE = 0 :=
      get_putPower _ _ _ _
    have hother : ∀ k, k ≠ O.REF_IN_USE →
        ({ w.put O.REF_IN_USE 0 with power := { w.power with noRef := true } } : State).get k = w.get k :=
      fun k hk => get_putPower_ne _ _ _ hk
    have hpv : ({ w.put O.REF_IN_USE 0 with power := { w.power with noRef := true } } : State).power =
        { w.power with noRef := true } := rfl
    have hcv : ({ w.put O.REF_IN_USE 0 with power := { w.power with noRef := true } } : State).ctxs = s.ctxs := hc
    have hrv : ({ w.put O.REF_IN_USE 0 with power := { w.power with noRef := true } } : State).restarting = s.restarting := hr
    generalize ({ w.put O.REF_IN_USE 0 with power := { w.power with noRef := true } } : State) = v at hput hother hpv hcv hrv ⊢
    have hsus := (suspendAll_suspended v).settled
    generalize settle (suspendAll v) = t at hsus ⊢
    have hpt := hsus.power.trans hpv
    rw [hp] at hpt
    refine ⟨by rw [hpt], by rw [hpt], by rw [hpt], ?_, ?_, ?_, ?_, fun _ => ⟨by rw [hpt], fun hn => ?_⟩⟩
    · exact congrArg BitVec.toNat ((hsus.objs O.REF_IN_USE (by decide) (by decide) (by decide)).trans hput)
    · exact (congrArg BitVec.toNat ((hsus.objs O.REF_LOSSES (by decide) (by decide) (by decide)).trans (hother _ (by decide)))).trans hloss
    · rw [hsus.objs O.REF_STATUS (by decide) (by decide) (by decide), hother _ (by decide)]
      exact hstat
    · rw [hsus.objs O.TARNISH (by decide) (by decide) (by decide), hother _ (by decide)]
      exact htar
    · exact suspendsAll_congr (hsus.suspends (hrv.trans hn)) hcv
  · next hf =>
    have hf' : w.power.intFailed = false := by simpa using hf
    obtain ⟨h1, h2, h3, h4, h5, h6, h7⟩ := switchRef_settled (s := w) (r := 0) (by rw [huse]; exact h) (Or.inr hf') (by decide) false
    generalize settle (switchRef w 0 false) = t at h1 h2 h3 h4 h5 h6 h7 ⊢
    have hpt : t.power = { { s.power with extTaken := false } with noRef := false } := by rw [h3, hp]
    refine ⟨by rw [hpt], by rw [hpt], by rw [hpt], h1, ?_, h6 3 hstat, ?_, fun hs => ?_⟩
    · exact (congrArg BitVec.toNat (h7 O.REF_LOSSES (by decide) (by decide) (by decide) (by decide) (by decide))).trans hloss
    · rw [h7 O.TARNISH (by decide) (by decide) (by decide) (by decide) (by decide)]
      exact htar
    · rw [hp] at hf'
      exact absurd (hs.symm.trans hf') (by decide)

theorem extRefLoss_used (ha : s.awake = true) (hv : s.power.extValid.isSome = true) (h0 : s.num O.REF_IN_USE ≠ 0) :
    Answers (.extRefLoss off) s fun t =>
      t.power.extValid = none ∧ t.power.extTaken = false ∧ t.num O.REF_IN_USE = 0 ∧
      t.num O.REF_LOSSES = satN 32 (s.num O.REF_LOSSES + 1) ∧ bit (t.get O.REF_STATUS) 3 = true ∧
      bit (t.get O.TARNISH) 14 = true ∧ (s.power.intFailed = true → t.power.noRef = true ∧
        (s.restarting = false → SuspendsAll s t)) := by
  obtain ⟨-, h2, h3⟩ := lossNoted_objs s off
  have hseen := lossSeen_seen s off
  have huse : (lossSeen s off).num O.REF_IN_USE ≠ 0 := fun he => h0 (h3.symm.trans ((congrArg BitVec.toNat (hseen.get O.REF_IN_USE)).symm.trans he))
  have hloss : (lossSeen s off).num O.REF_LOSSES = satN 32 (s.num O.REF_LOSSES + 1) :=
    (congrArg BitVec.toNat (hseen.get O.REF_LOSSES)).trans h2
  have hp : (lossSeen s off).power.extValid = none := by rw [hseen.rest]; rfl
  have hend := lossInUse_ended huse
  refine answers_done (exec_extRefLoss_valid ha hv off) ?_
  rw [if_neg huse]
  refine ⟨hend.valid.trans hp, hend.taken, hend.use, hend.losses.trans hloss, hend.status, hend.tarnish, fun hf => ?_⟩
  obtain ⟨hn, hsus⟩ := hend.failed (hseen.intFailed.trans hf)
  exact ⟨hn, fun hr => suspendsAll_congr (hsus (hseen.restarting.trans hr)) hseen.ctxs⟩

theorem extRefLoss_loops (ha : s.awake = true) (hv : s.power.extValid.isSome = true) (hx : 8 < s.power.loops.length)
    (hl : 2 ≤ (s.loops 8).length) : Answers (.extRefLoss off) s fun t =>
      ∀ l, l < 2 → (t.loop 8 l).st = (if (s.loop 8 l).st = 5 then 5 else 4) := by
  have hseen := (lossSeen_seen s off).loops hx hl
  refine answers_done (exec_extRefLoss_valid ha hv off) ?_
  generalize lossSeen s off = w at hseen ⊢
  have hloops : (settle (if w.num O.REF_IN_USE = 0 then tarnish w 14 0xFF 0xFF 2 else lossInUse w)).power.loops = w.power.loops := by
    split
    · have hpow : (tarnish w 14 0xFF 0xFF 2).power = w.power := (congrArg State.power (tarnish_frame w 14 0xFF 0xFF 2 0).1 :)
      rw [settle_power, hpow]
    · next hne => exact (lossInUse_ended hne).loops
  generalize settle (if w.num O.REF_IN_USE = 0 then tarnish w 14 0xFF 0xFF 2 else lossInUse w) = t at hloops ⊢
  intro l hl2
  rw [← hseen l hl2, State.loop, State.loop, State.loops, State.loops, hloops]

theorem extRefLoss_idle (hv : s.power.extValid = none) : Answers (.extRefLoss off) s fun t => OnlyObjs [] s t :=
  answers_idle (by rw [exec_extRefLoss, execExtRefLoss, if_neg (fun h => by simp [hv] at h)])

end Sys2Proof.Machine
end

section
/-! ## The internal oscillator, and clock loops (R505 to R509, R526) -/

namespace Sys2Proof.Machine

variable {s t u : State} {m l x : Nat}

/-! ### The internal oscillator fails (R526) -/

/-- The failure as it is recorded. -/
def oscRecorded (s : State) : State := tarnish { s with power := { s.power with intFailed := true } } 15 0xFF 0xFF 0

theorem oscRecorded_fields (s : State) :
    (oscRecorded s).power = { s.power with intFailed := true } ∧ (oscRecorded s).ctxs = s.ctxs ∧
    (oscRecorded s).restarting = s.restarting ∧ bit ((oscRecorded s).get O.TARNISH) 15 = true ∧
    (oscRecorded s).num O.REF_IN_USE = s.num O.REF_IN_USE := by
  have hpw : ({ s with power := { s.power with intFailed := true } } : State).power = { s.power with intFailed := true } := rfl
  have hcw : ({ s with power := { s.power with intFailed := true } } : State).ctxs = s.ctxs := rfl
  have hrw : ({ s with power := { s.power with intFailed := true } } : State).restarting = s.restarting := rfl
  have huw : ({ s with power := { s.power with intFailed := true } } : State).num O.REF_IN_USE = s.num O.REF_IN_USE := rfl
  unfold oscRecorded
  generalize ({ s with power := { s.power with intFailed := true } } : State) = w at hpw hcw hrw huw ⊢
  have hframe := tarnish_frame w 15 0xFF 0xFF 0 0
  have hp : (tarnish w 15 0xFF 0xFF 0).power = w.power := (congrArg State.power hframe.1 :)
  have hh : (tarnish w 15 0xFF 0xFF 0).hubRestart = w.hubRestart := (congrArg State.hubRestart hframe.1 :)
  have hs : (tarnish w 15 0xFF 0xFF 0).supRestart = w.supRestart := (congrArg State.supRestart hframe.1 :)
  refine ⟨hp.trans hpw, (tarnish_ctxs w 15 0xFF 0xFF 0 0).trans hcw, ?_, tarnish_bit _ (by decide) _ _ _ _, ?_⟩
  · rw [State.restarting, hh, hs, ← hrw, State.restarting]
  · exact (congrArg BitVec.toNat (obj_tarnish_of w 15 0xFF 0xFF 0 0 0 O.REF_IN_USE (by decide) (by decide) (by decide))).trans huw

theorem exec_internalOscFail_first (ha : s.awake = true) (h0 : s.num O.REF_IN_USE = 0) (hn : s.power.noRef = false) :
    exec .internalOscFail s = done (match s.power.extValid with
      | some m => switchRef (oscRecorded s) (if m = 10 then 1 else 2) true
      | none => suspendAll { oscRecorded s with power := { (oscRecorded s).power with noRef := true } }) := by
  have hext : (oscRecorded s).power.extValid = s.power.extValid := by rw [(oscRecorded_fields s).1]
  rw [exec_internalOscFail, execInternalOscFail, if_pos ⟨ha, h0⟩, if_neg (by simp [hn]), ← hext]
  rfl

theorem internalOscFail_alone (ha : s.awake = true) (h0 : s.num O.REF_IN_USE = 0) (hn : s.power.noRef = false)
    (hv : s.power.extValid = none) : Answers .internalOscFail s fun t =>
      t.power.intFailed = true ∧ bit (t.get O.TARNISH) 15 = true ∧ t.power.noRef = true ∧
        (s.restarting = false → SuspendsAll s t) := by
  obtain ⟨hp, hc, hr, htar, -⟩ := oscRecorded_fields s
  have hexec := exec_internalOscFail_first ha h0 hn
  rw [hv] at hexec
  refine answers_done hexec ?_
  generalize oscRecorded s = w at hp hc hr htar ⊢
  have hpv : ({ w with power := { w.power with noRef := true } } : State).power = { w.power with noRef := true } := rfl
  have hcv : ({ w with power := { w.power with noRef := true } } : State).ctxs = s.ctxs := hc
  have hrv : ({ w with power := { w.power with noRef := true } } : State).restarting = s.restarting := hr
  have htv : bit (({ w with power := { w.power with noRef := true } } : State).get O.TARNISH) 15 = true := htar
  generalize ({ w with power := { w.power with noRef := true } } : State) = v at hpv hcv hrv htv ⊢
  have hsus := (suspendAll_suspended v).settled
  generalize settle (suspendAll v) = t at hsus ⊢
  have hpt := hsus.power.trans hpv
  rw [hp] at hpt
  refine ⟨by rw [hpt], ?_, by rw [hpt], fun hs => suspendsAll_congr (hsus.suspends (hrv.trans hs)) hcv⟩
  rw [hsus.objs O.TARNISH (by decide) (by decide) (by decide)]
  exact htv

theorem internalOscFail_switches (ha : s.awake = true) (h0 : s.num O.REF_IN_USE = 0) (hn : s.power.noRef = false)
    (hv : s.power.extValid = some m) : Answers .internalOscFail s fun t =>
      t.power.intFailed = true ∧ bit (t.get O.TARNISH) 15 = true ∧ t.num O.REF_IN_USE = (if m = 10 then 1 else 2) := by
  obtain ⟨hp, -, -, htar, huse⟩ := oscRecorded_fields s
  have hexec := exec_internalOscFail_first ha h0 hn
  rw [hv] at hexec
  dsimp only at hexec
  refine answers_done hexec ?_
  have hne : (if m = 10 then 1 else 2 : Nat) ≠ 0 := by split <;> decide
  have hlt : (if m = 10 then 1 else 2 : Nat) < 2 ^ 64 := by split <;> decide
  generalize (if m = 10 then 1 else 2 : Nat) = r at hne hlt ⊢
  generalize oscRecorded s = w at hp htar huse ⊢
  obtain ⟨h1, -, h3, -, -, -, h7⟩ := switchRef_settled (s := w) (r := r) (by rw [huse, h0]; exact hne.symm) (Or.inl hne) hlt true
  generalize settle (switchRef w r true) = t at h1 h3 h7 ⊢
  refine ⟨by rw [h3, hp], ?_, h1⟩
  rw [h7 O.TARNISH (by decide) (by decide) (by decide) (by decide) (by decide)]
  exact htar

theorem internalOscFail_answers (ha : s.awake = true) (h0 : s.num O.REF_IN_USE = 0) (hn : s.power.noRef = false) :
    Answers .internalOscFail s fun t =>
      t.power.intFailed = true ∧ bit (t.get O.TARNISH) 15 = true ∧
      (s.power.extValid = none → t.power.noRef = true ∧ (s.restarting = false → SuspendsAll s t)) ∧
      (∀ m, s.power.extValid = some m → t.num O.REF_IN_USE = (if m = 10 then 1 else 2)) := by
  cases hv : s.power.extValid with
  | none => exact (internalOscFail_alone ha h0 hn hv).mono fun t ⟨h1, h2, h3⟩ => ⟨h1, h2, fun _ => h3, fun m h => absurd h (by simp)⟩
  | some m =>
    refine (internalOscFail_switches ha h0 hn hv).mono fun t ⟨h1, h2, h3⟩ => ⟨h1, h2, fun h => absurd h (by simp), fun k h => ?_⟩
    rw [← Option.some.inj h]
    exact h3

/-! ### Loops (R506 to R509) -/

theorem exec_lockDeclared (hu : s.loopUnit x l = true) (h1 : (s.loop x l).st = 1) (h2 : (s.loop x (loopPartner l)).st ≠ 2) :
    exec (.loopLockDeclared x l) s = done (s.setLoop x l { s.loop x l with st := 2 }) := by
  rw [exec_loopLockDeclared, execLoopLockDeclared]
  exact congrArg done (if_pos ⟨hu, h1, h2⟩)

theorem exec_standbyReady (hu : s.loopUnit x l = true) (h1 : (s.loop x l).st = 1) (h2 : (s.loop x (loopPartner l)).st = 2) :
    exec (.loopStandbyReady x l) s = done (s.setLoop x l { s.loop x l with st := 3 }) := by
  rw [exec_loopStandbyReady, execLoopStandbyReady]
  exact congrArg done (if_pos ⟨hu, h1, h2⟩)

theorem exec_restart (hu : s.loopUnit x l = true) (h4 : (s.loop x l).st = 4)
    (he : x ≠ 8 ∨ 2 ≤ l ∨ s.power.extValid.isSome = true) : exec (.loopRestart x l) s = done (s.setLoop x l { s.loop x l with st := 1 }) := by
  rw [exec_loopRestart, execLoopRestart]
  exact congrArg done (if_pos ⟨hu, h4, he⟩)

/-- A loop that changes its state only. -/
theorem setLoop_answers {i : Instr} {v : Loop} (h : exec i s = done (s.setLoop x l v)) :
    Answers i s fun t => OnlyObjs [] (s.setLoop x l v) t := answers_done h (onlyObjs_refl _ _).settled

theorem loops_idle {i : Instr} (h1 : (s.loop x l).st ≠ 1)
    (hi : i = .loopLockDeclared x l ∨ i = .loopStandbyReady x l ∨ i = .loopLockTimeout x l) : Answers i s fun t => OnlyObjs [] s t := by
  refine answers_idle ?_
  rcases hi with rfl | rfl | rfl
  · rw [exec_loopLockDeclared, execLoopLockDeclared]
    exact congrArg done (if_neg fun h => h1 h.2.1)
  · rw [exec_loopStandbyReady, execLoopStandbyReady]
    exact congrArg done (if_neg fun h => h1 h.2.1)
  · rw [exec_loopLockTimeout, execLoopLockTimeout]
    exact congrArg done (if_neg fun h => h1 h.2)

theorem loopRestart_idle (h4 : (s.loop x l).st ≠ 4) : Answers (.loopRestart x l) s fun t => OnlyObjs [] s t := by
  refine answers_idle ?_
  rw [exec_loopRestart, execLoopRestart]
  exact congrArg done (if_neg fun h => h4 h.2.1)

theorem loopPartner_ne (l : Nat) : loopPartner l ≠ l := by
  unfold loopPartner
  split <;> omega

/-! ### A loop that fails (R506, R508) -/

/-- What the failure of a loop leaves. -/
structure LoopFailed (s : State) (x l n : Nat) (t : State) : Prop where
  loops : t.power.loops = (s.setLoop x l { st := 5, losses := n }).power.loops
  tarnish : ∀ b, bit (s.get O.TARNISH) b = true ∨ b = 13 → bit (t.get O.TARNISH) b = true
  alone : (s.loop x (loopPartner l)).st = 2 → bit (t.get O.POWER_STATUS) 3 = true
  status : ∀ b, bit (s.get O.POWER_STATUS) b = true → bit (t.get O.POWER_STATUS) b = true
  queue : t.can.queue = s.can.queue
  ctxs : t.ctxs = s.ctxs
  mem : t.mem = s.mem
  objs : ∀ k, k < 2 ^ 24 → k ∉ settleObjs → k ≠ O.TARNISH → k ≠ O.POWER_STATUS → t.get k = s.get k

theorem loopFailed_failed (s : State) (x l n : Nat) : LoopFailed s x l n (loopFailed s x l n) := by
  have hpart : ((s.setLoop x l { st := 5, losses := n }).loop x (loopPartner l)).st = (s.loop x (loopPartner l)).st :=
    congrArg Loop.st (loop_setLoop_ne _ (loopPartner_ne l))
  have hget : ∀ k, (s.setLoop x l { st := 5, losses := n }).get k = s.get k := fun _ => rfl
  have hctx : (s.setLoop x l { st := 5, losses := n }).ctxs = s.ctxs := rfl
  have hmem : (s.setLoop x l { st := 5, losses := n }).mem = s.mem := rfl
  have hq : (s.setLoop x l { st := 5, losses := n }).can.queue = s.can.queue := rfl
  unfold loopFailed
  dsimp only
  generalize hw : s.setLoop x l { st := 5, losses := n } = w at hpart hget hctx hmem hq ⊢
  have hflag : ∀ v : State, (v = w ∨ v = w.flag 0 O.POWER_STATUS 3) → v.power = w.power ∧ v.ctxs = w.ctxs ∧ v.mem = w.mem ∧
      v.can = w.can ∧ (∀ k, k ≠ O.POWER_STATUS → v.get k = w.get k) ∧
      ∀ b, bit (w.get O.POWER_STATUS) b = true → bit (v.get O.POWER_STATUS) b = true := by
    rintro v (rfl | rfl)
    · exact ⟨rfl, rfl, rfl, rfl, fun _ _ => rfl, fun _ h => h⟩
    · rw [State.flag_eq]
      refine ⟨rfl, rfl, rfl, rfl, fun k hk => State.obj_setObj_ne _ _ _ _ _ _ (objKey_ne 0 hk), fun b hb => ?_⟩
      rw [State.get_eq, State.obj_setObj_self]
      exact setBit_keeps _ (by decide) hb
  have hbit : (s.loop x (loopPartner l)).st = 2 →
      bit ((if (w.loop x (loopPartner l)).st = 2 then w.flag 0 O.POWER_STATUS 3 else w).get O.POWER_STATUS) 3 = true := by
    intro h2
    rw [if_pos (hpart.trans h2)]
    exact bit_obj_flagged (by decide)
  have hcase : (if (w.loop x (loopPartner l)).st = 2 then w.flag 0 O.POWER_STATUS 3 else w) = w ∨
      (if (w.loop x (loopPartner l)).st = 2 then w.flag 0 O.POWER_STATUS 3 else w) = w.flag 0 O.POWER_STATUS 3 := by
    split
    · exact Or.inr rfl
    · exact Or.inl rfl
  generalize (if (w.loop x (loopPartner l)).st = 2 then w.flag 0 O.POWER_STATUS 3 else w) = v at hbit hcase ⊢
  obtain ⟨h1, h2, h3, h4, h5, h6⟩ := hflag v hcase
  generalize (if x = 8 then 0xFF else x) = die
  generalize (if x = 8 then 0xFF else v.inputByte x) = inp
  have hframe := tarnish_frame v 13 die inp 0 0
  have hobj : ∀ k, k < 2 ^ 24 → k ∉ settleObjs → k ≠ O.TARNISH → (tarnish v 13 die inp 0).get k = v.get k :=
    fun k h24 hs hne => obj_tarnish_of v 13 die inp 0 0 0 k h24 hs hne
  have hp : (tarnish v 13 die inp 0).power = v.power := (congrArg State.power hframe.1 :)
  have hps := hobj O.POWER_STATUS (by decide) (by decide) (by decide)
  refine ⟨by rw [hp, h1, ← hw], fun b hb => ?_, fun h => ?_, fun b hb => ?_, ?_, (tarnish_ctxs v 13 die inp 0 0).trans (h2.trans hctx),
    (tarnish_mem v 13 die inp 0 0).trans (h3.trans hmem), fun k h24 hs ht hk => (hobj k h24 hs ht).trans ((h5 k hk).trans (hget k))⟩
  · obtain hb | rfl := hb
    · refine (shaken_tarnish v 13 die inp 0 0).tarnish b ?_
      rw [h5 _ (by decide), hget]
      exact hb
    · exact tarnish_bit _ (by decide) _ _ _ _
  · rw [hps]
    exact hbit h
  · rw [hps]
    refine h6 b ?_
    rw [hget]
    exact hb
  · rw [tarnish_quiet_queue, h4, hq]

end Sys2Proof.Machine
end

section
/-! ## A die that is lost stays lost (R86, R522, R528)

The loss of a die takes its inputs, alloys, movers and planisher along and makes other dies serve again: none of it brings a
lost die back. -/

namespace Sys2Proof.Machine

variable {s t u : State}

/-- The dies that are lost stay so. -/
def LostStay (s t : State) : Prop := ∀ k, (s.die k).st = .lost → (t.die k).st = .lost

theorem lostStay_refl (s : State) : LostStay s s := fun _ h => h

theorem LostStay.trans (h : LostStay s t) (h' : LostStay t u) : LostStay s u := fun k hk => h' k (h k hk)

theorem lostStay_of_dies (h : t.dies = s.dies) : LostStay s t := fun k hk => by rwa [die_congr h]

/-- Beside the dies nothing matters. -/
theorem LostStay.of_dies (h : LostStay u t) (hd : u.dies = s.dies) : LostStay s t := (lostStay_of_dies hd).trans h

theorem lostStay_ite {p : Prop} [Decidable p] (h : LostStay s t) (h' : LostStay s u) : LostStay s (if p then t else u) := by
  split
  · exact h
  · exact h'

theorem lostStay_foldl {α : Type} (l : List α) (f : State → α → State) (hf : ∀ u a, LostStay u (f u a)) (s : State) :
    LostStay s (l.foldl f s) := by
  induction l generalizing s with
  | nil => exact lostStay_refl s
  | cons a l ih => exact (hf s a).trans (ih (f s a))

theorem Shaken.lostStay (h : Shaken s t) : LostStay s t := fun k hk => by
  have hmap : ∀ v : State, (v.die k).st = (v.dies.map Die.st).getD k (({} : Die).st) := fun v => by
    rw [State.die, List.getD_eq_getElem?_getD, List.getD_eq_getElem?_getD, List.getElem?_map]
    cases v.dies[k]? <;> rfl
  rw [hmap, h.dies, ← hmap]
  exact hk

theorem Worked.lostStay {K : KeepFields} {cs : List Nat} (h : Worked K cs s t) : LostStay s t := h.shaken.lostStay

theorem lostStay_setDie {d : Nat} {x : Die} (h : (s.die d).st = .lost → x.st = .lost) : LostStay s (s.setDie d x) := fun k hk => by
  by_cases hd : d < s.dies.length
  · rw [State.die_setDie s d k x hd]
    split
    · next he => exact h (he ▸ hk)
    · exact hk
  · rw [State.setDie, List.set_eq_of_length_le (Nat.le_of_not_lt hd)]
    exact hk

theorem lostStay_modCtx (s : State) (c : Nat) (f : Ctx → Ctx) : LostStay s (s.modCtx c f) := (shaken_modCtx s c f).lostStay

theorem lostStay_store (s : State) (a : Nat) (bs : List Byte) : LostStay s (s.store a bs) :=
  (worked_store (K := anyKept) (cs := []) rfl s a bs).lostStay

theorem lostStay_storePart (s : State) (p : Nat × List Byte) : LostStay s (storePart s p) :=
  (worked_storePart (K := anyKept) (cs := []) rfl s p).lostStay

/-! ### Streams and inputs -/

theorem lostStay_leavePass (s : State) (d : Nat) : LostStay s (leavePass s d) := by
  unfold leavePass
  dsimp only
  refine LostStay.trans (t := if (s.cal.alloys.any fun n => (s.input n).members.contains d) then s.flag 0 O.CAL_STATUS 3 else s)
    (lostStay_ite (lostStay_of_dies rfl) (lostStay_refl s)) ?_
  exact LostStay.of_dies (lostStay_setDie id) rfl

theorem lostStay_startTest (s : State) (n : Nat) (b : Bool) : LostStay s (startTest s n b) :=
  lostStay_ite (lostStay_of_dies rfl) (lostStay_ite (lostStay_refl s) (lostStay_of_dies rfl))

theorem lostStay_nextTest (s : State) : LostStay s (nextTest s) := by
  unfold nextTest
  dsimp only
  refine LostStay.trans ?_ (lostStay_foldl _ _ (fun u n => lostStay_ite ?_ (lostStay_refl u)) _)
  · split
    · exact LostStay.of_dies (lostStay_startTest _ _ _) rfl
    · exact lostStay_refl s
  · exact LostStay.of_dies (lostStay_startTest _ _ _) rfl

theorem lostStay_endGrid (s : State) (c : Nat) (flush : Bool) : LostStay s (endGrid s c flush) :=
  (worked_endGrid_of (K := anyKept) (cs := [c]) rfl List.mem_cons_self s flush).lostStay

theorem lostStay_stopStream (s : State) (n : Nat) : LostStay s (stopStream s n) := by
  unfold stopStream gapConsumers
  dsimp only
  refine ((worked_endEpoch (K := anyKept) (cs := []) rfl s n _).lostStay).trans (lostStay_foldl _ _ (fun u c => ?_) _)
  split
  · exact lostStay_ite (lostStay_endGrid u c true) (lostStay_refl u)
  · exact lostStay_refl u

theorem lostStay_abandonSkew (s : State) (n : Nat) : LostStay s (abandonSkew s n) := by
  unfold abandonSkew
  dsimp only
  have htouch : LostStay s (touchSkew s n) := by
    unfold touchSkew
    dsimp only
    split
    · exact lostStay_of_dies rfl
    · exact lostStay_refl s
  generalize touchSkew s n = v at htouch ⊢
  refine htouch.trans (LostStay.trans ?_ (lostStay_foldl _ _ (fun u d => lostStay_setDie (x := { u.die d with bankPending := none }) id) _))
  exact LostStay.trans (lostStay_ite (t := v.flag 0 O.CAL_STATUS 3) (lostStay_of_dies rfl) (lostStay_refl v)) (lostStay_of_dies rfl)

theorem lostStay_suspendEach (l : List Nat) (cause : Nat) (s : State) : LostStay s (l.foldl (fun s c => suspendCtx s c cause) s) :=
  lostStay_foldl l _ (fun u c => (shaken_suspendCtx u c cause).lostStay) s

theorem lostStay_darkInput (s : State) (n : Nat) : LostStay s (darkInput s n) := by
  unfold darkInput
  dsimp only
  refine (lostStay_abandonSkew s n).trans ?_
  generalize abandonSkew s n = v
  refine (lostStay_suspendEach (v.reachable.filter (v.ctxOn · n)) 2 v).trans ?_
  generalize (v.reachable.filter (v.ctxOn · n)).foldl (fun s c => suspendCtx s c 2) v = w
  exact (worked_ringIdle (K := anyKept) (cs := []) rfl w n).lostStay.trans (lostStay_of_dies rfl)

theorem lostStay_restartPass (s : State) (d : Nat) : LostStay s (restartPass s d) :=
  lostStay_ite (lostStay_setDie id) (lostStay_refl s)

theorem lostStay_releaseInput (s : State) (k : Nat) : LostStay s (releaseInput s k) := by
  unfold releaseInput
  dsimp only
  split
  · exact lostStay_of_dies rfl
  · next h =>
    refine LostStay.trans ?_ (lostStay_restartPass _ k)
    exact LostStay.trans (lostStay_setDie fun he => absurd (Or.inl he) h) (lostStay_of_dies rfl)

theorem lostStay_dissolve (s : State) (n : Nat) : LostStay s (dissolve s n) := by
  unfold dissolve
  dsimp only
  refine (lostStay_darkInput s n).trans ?_
  generalize darkInput s n = v
  refine (lostStay_foldl ((List.range v.D).filter fun k => (v.input k).host == some n) _ lostStay_releaseInput v).trans ?_
  generalize ((List.range v.D).filter fun k => (v.input k).host == some n).foldl releaseInput v = w
  exact lostStay_ite (lostStay_refl w) (lostStay_releaseInput w n)

theorem lostStay_regroup (s : State) (n d : Nat) : LostStay s (regroup s n d) := by
  unfold regroup
  dsimp only
  refine ((lostStay_stopStream s n).trans (lostStay_abandonSkew _ n)).trans ?_
  generalize abandonSkew (stopStream s n) n = v
  split
  · exact lostStay_dissolve v n
  · exact lostStay_of_dies rfl

theorem lostStay_loseStreams (s : State) (d : Nat) : LostStay s (loseStreams s d) := by
  refine lostStay_foldl _ _ (fun u c => ?_) s
  split
  · exact (worked_capReleased (K := anyKept) (cs := []) u c _).lostStay.trans (lostStay_modCtx _ c _)
  · exact lostStay_refl u

theorem lostStay_settleFill (s : State) (d : Nat) : LostStay s (settleFill s d) := by
  unfold settleFill
  split
  · dsimp only
    have hset : LostStay s (s.setDie d { s.die d with fillDue := none }) := lostStay_setDie id
    refine lostStay_ite hset (lostStay_ite (hset.trans (lostStay_of_dies rfl)) (hset.trans ?_))
    exact lostStay_foldl _ _ (fun u i => lostStay_store u _ _) _
  · exact lostStay_refl s

theorem lostStay_lostSheets (s : State) (n d : Nat) : LostStay s (lostSheets s n d) := by
  unfold lostSheets
  split
  · next e _ _ _ =>
    have hset : LostStay s (s.setDie d { s.die d with fillDue := some (n, e, e.count / e.perLine) }) := lostStay_setDie id
    exact lostStay_ite (hset.trans (lostStay_settleFill _ d)) (lostStay_refl s)
  · exact lostStay_refl s

theorem lostStay_memberGone (s : State) (n d : Nat) : LostStay s (memberGone s n d) := by
  unfold memberGone
  dsimp only
  split
  · exact (lostStay_lostSheets s n d).trans (lostStay_darkInput _ n)
  · exact lostStay_ite (LostStay.of_dies (lostStay_darkInput _ n) rfl)
      (LostStay.of_dies (lostStay_regroup _ n d) rfl)
  · exact lostStay_regroup s n d
  · refine (lostStay_lostSheets s n d).trans (lostStay_ite (lostStay_regroup _ n d) (lostStay_ite ?_ (lostStay_regroup _ n d)))
    exact LostStay.of_dies (lostStay_loseStreams _ d) rfl
  · exact lostStay_refl s

/-! ### Movers, planishers and memory -/

theorem lostStay_writeMem (s : State) (a : Nat) (bs : List Byte) : LostStay s (writeMem s a bs) := by
  refine lostStay_foldl _ _ (fun u p => ?_) s
  split
  · exact lostStay_storePart u _
  · exact lostStay_of_dies rfl

theorem lostStay_handleWrite (s : State) (h o : Nat) (bs : List Byte) : LostStay s (handleWrite s h o bs) := by
  unfold handleWrite
  split
  · exact lostStay_foldl _ _ lostStay_storePart s
  · exact lostStay_refl s

theorem lostStay_abandon (s : State) (ch : Nat) : LostStay s (abandon s ch) := by
  unfold abandon
  split
  · exact lostStay_refl s
  · refine lostStay_ite ?_ (lostStay_refl s)
    dsimp only
    split
    · next c _ hd =>
      refine LostStay.trans (t := s.free.2) (lostStay_of_dies rfl) ?_
      unfold burstWrite
      obtain h | h := hd
      · rw [h]
        exact lostStay_writeMem _ _ _
      · rw [h]
        exact lostStay_handleWrite _ _ _ _
    · exact lostStay_refl s

theorem lostStay_dropSegment (s : State) (c seq : Nat) : LostStay s (dropSegment s c seq) := by
  unfold dropSegment
  have hmod : LostStay s (s.modCtx c fun x => { x with table := x.table.filter fun g => g.seq != seq }) := lostStay_modCtx s c _
  generalize (s.modCtx c fun x => { x with table := x.table.filter fun g => g.seq != seq }) = v at hmod ⊢
  refine hmod.trans ?_
  exact LostStay.trans (lostStay_of_dies (decOnly_sweepRings v c).1.dies) (lostStay_of_dies (decOnly_decFreed _ c).1.dies)

theorem lostStay_burstEnd (s : State) (x : Nat) (d : Desc) : LostStay s (burstEnd s x d) := by
  unfold burstEnd
  refine lostStay_ite ?_ (lostStay_refl s)
  dsimp only
  have hmod : LostStay s (s.modCtx (s.chCtx x) fun y => { y with table := y.table.map fun g =>
      if g.seq = d.seq then { g with bursts := g.bursts - 1 } else g }) := lostStay_modCtx s _ _
  generalize (s.modCtx (s.chCtx x) fun y => { y with table := y.table.map fun g =>
      if g.seq = d.seq then { g with bursts := g.bursts - 1 } else g }) = v at hmod ⊢
  refine hmod.trans ?_
  split
  · exact lostStay_ite (lostStay_dropSegment v _ _) (lostStay_refl v)
  · exact lostStay_refl v

theorem lostStay_chanFail (s : State) (x e : Nat) : LostStay s (chanFail s x e) := by
  unfold chanFail
  split
  · exact lostStay_refl s
  · exact lostStay_of_dies (pulse_dies _ _ _ _)

theorem lostStay_moverDieLost (s : State) (d : Nat) : LostStay s (moverDieLost s d) := by
  refine lostStay_foldl _ _ (fun u ch => ?_) s
  split
  · next c _ =>
    refine lostStay_ite ?_ (lostStay_refl u)
    dsimp only
    refine (lostStay_abandon u ch).trans ?_
    generalize abandon u ch = v
    exact (lostStay_ite (lostStay_burstEnd v ch _) (lostStay_refl v)).trans (lostStay_chanFail _ ch 7)
  · exact lostStay_refl u

theorem lostStay_planLost (s : State) (x : Nat) : LostStay s (planLost s x) := by
  unfold planLost
  split
  · exact lostStay_of_dies (pulse_dies _ _ _ _)
  · exact lostStay_of_dies rfl

theorem lostStay_rebindAll (s : State) (cs : List Nat) : LostStay s (rebindAll s cs) :=
  (shaken_dropStreams s cs).lostStay.trans (lostStay_foldl _ _ (fun u c => (shaken_rebindFrom _ u c).lostStay) _)

/-! ### An entry that waited -/

theorem lostStay_pauseAll (s : State) : LostStay s (pauseAll s) := fun k hk => by
  have hst : (((pauseAll s).die k).standing).1 = (s.die k).st := by
    rw [pauseAll, (calWatch_calEnded _).standing k, (rasterSuspend_rasterOnly _).1.rest, parkEach_chansOnly s _]
    rfl
  exact hst.trans hk

theorem lostStay_quiesce (s : State) (phase : Nat) : LostStay s (quiesce s phase) := by
  rw [quiesce_eq]
  refine LostStay.trans (t := s.phased phase) (lostStay_of_dies rfl) ?_
  generalize s.phased phase = v
  exact (lostStay_suspendEach v.reachable 5 v).trans ((lostStay_pauseAll _).trans (lostStay_of_dies rfl))

theorem lostStay_resumeEntry (s : State) : LostStay s (resumeEntry s) := by
  unfold resumeEntry
  split
  · exact lostStay_ite (lostStay_quiesce s _) (lostStay_refl s)
  · exact lostStay_refl s

end Sys2Proof.Machine
end

section
/-! ## Clock loops that lose their lock, and a die without one (R506 to R509, R522) -/

namespace Sys2Proof.Machine

variable {s t u : State} {p m l x n : Nat} {v : Slot}

/-! ### A lost die -/

theorem servedBy_congr (hi : t.inputs = s.inputs) (hv : t.variant = s.variant) (d : Nat) : t.servedBy d = s.servedBy d := by
  simp only [State.servedBy, State.input, State.D, hi, hv]

/-- A die that is lost, recorded and out of the calibration pass. -/
def dieStruck (s : State) (d : Nat) : State :=
  leavePass (tarnish (s.setDie d { s.die d with st := .lost }) 2 d (s.inputByte d) DieSt.lost.num 0xFF12) d

/-- The contexts at home on a die lose it. -/
def homesLost (s : State) (d : Nat) : State :=
  (s.reachable.filter fun c => match s.ctx c with | some x => x.homeDie == d | none => false).foldl loseHome s

/-- An input test that the die served ends. -/
def testLost (s : State) (d : Nat) : State :=
  match s.test with
  | some t => if s.servedBy d = some t.input then nextTest { s with test := none } else s
  | none => s

/-- The input that the die served. -/
def inputLost (s : State) (d : Nat) (served : Option Nat) : State :=
  match served with
  | some n => memberGone s n d
  | none => s

/-- The stack of a die pair that is lost. -/
def stackLost (s : State) (d : Nat) : State :=
  if (List.range 2).all (fun k => (s.die (d / 2 * 2 + k)).st == .lost) then orphan s (d / 2) else s

/-- The streams of other inputs that passed the die, and an entry that waited. -/
def passedBy (s : State) (d : Nat) : State :=
  resumeEntry (rebindAll s ((s.ctxs.filter fun c => c.2.bound && s.touches c.2 d &&
    !((List.range s.D).any fun k => s.ctxOn c.1 k && (s.input k).st == .regrouping)).map Prod.fst))

theorem dieGone_eq (s : State) (d : Nat) : dieGone s d .lost =
    passedBy (stackLost (moverDieLost (planLost (inputLost (testLost (homesLost (dieStruck s d) d) d) d (s.servedBy d)) (1 + d)) d) d) d := by
  unfold dieGone passedBy stackLost
  simp only [true_and, if_true]
  rfl

theorem dieStruck_lost {d : Nat} (hd : d < s.dies.length) : ((dieStruck s d).die d).st = .lost := by
  have hset : ((s.setDie d { s.die d with st := .lost }).die d).st = .lost := by
    rw [State.die_setDie s d d _ hd, if_pos rfl]
  unfold dieStruck
  generalize s.setDie d { s.die d with st := .lost } = w at hset ⊢
  exact lostStay_leavePass _ d d ((shaken_tarnish w 2 d _ _ _).lostStay d hset)

theorem lostStay_homesLost (s : State) (d : Nat) : LostStay s (homesLost s d) :=
  lostStay_foldl _ _ (fun u c => (shaken_loseHome u c).lostStay) s

theorem lostStay_testLost (s : State) (d : Nat) : LostStay s (testLost s d) := by
  unfold testLost
  split
  · exact lostStay_ite (LostStay.of_dies (lostStay_nextTest _) rfl) (lostStay_refl s)
  · exact lostStay_refl s

theorem lostStay_inputLost (s : State) (d : Nat) (served : Option Nat) : LostStay s (inputLost s d served) := by
  unfold inputLost
  split
  · exact lostStay_memberGone s _ d
  · exact lostStay_refl s

theorem lostStay_stackLost (s : State) (d : Nat) : LostStay s (stackLost s d) :=
  lostStay_ite (lostStay_of_dies rfl) (lostStay_refl s)

theorem lostStay_passedBy (s : State) (d : Nat) : LostStay s (passedBy s d) :=
  (lostStay_rebindAll s _).trans (lostStay_resumeEntry _)

theorem dieGone_lost {d : Nat} (hd : d < s.dies.length) : ((dieGone s d .lost).die d).st = .lost := by
  have hend : LostStay (dieStruck s d) (dieGone s d .lost) := by
    rw [dieGone_eq]
    generalize dieStruck s d = w
    exact (lostStay_homesLost w d).trans ((lostStay_testLost _ d).trans ((lostStay_inputLost _ d _).trans
      ((lostStay_planLost _ _).trans ((lostStay_moverDieLost _ d).trans ((lostStay_stackLost _ d).trans (lostStay_passedBy _ d))))))
  exact hend d (dieStruck_lost hd)

theorem dieLost_active {d : Nat} (hD : d < s.D) (ha : (s.die d).st = .active) (hr : s.restarting = false) :
    dieLost s d = dieGone s d .lost := by
  unfold dieLost
  rw [if_pos ⟨hD, Or.inl ha⟩, hr]
  rfl

/-! ### A loop that hands over (R507) -/

/-- What the fault supervisor records of a loop that hands over. -/
structure HandTold (s : State) (b die detail : Nat) (t : State) : Prop where
  power : t.power = s.power
  ctxs : t.ctxs = s.ctxs
  mem : t.mem = s.mem
  tarnish : bit (t.get O.TARNISH) b = true
  objs : ∀ k, k < 2 ^ 24 → k ∉ settleObjs → k ≠ O.TARNISH → k ≠ O.SUSPECT_COUNT → t.get k = s.get k
  queue : ∃ e ∈ t.can.queue, e.code = 0xFF30 ∧ e.b0 = die ∧ e.b1 = 0xFF ∧ e.detail = detail

/-- A loop that hands over in the fault log, among the emergencies and as a suspicion. -/
def handTold (s : State) (b die inp detail cause a z : Nat) : State :=
  suspect (pulse (emcy (tarnishEntry s b die inp detail 0xFF30) 0xFF30 die 0xFF detail) 7 0 0) cause die inp 0 0xFFFF a z

theorem tarnishEntry_keeps (s : State) {b : Nat} (hb : b < 64) (die inp detail code : Nat) :
    bit ((tarnishEntry s b die inp detail code).get O.TARNISH) b = true ∧
    (tarnishEntry s b die inp detail code).power = s.power ∧ (tarnishEntry s b die inp detail code).ctxs = s.ctxs ∧
    (tarnishEntry s b die inp detail code).mem = s.mem ∧
    ∀ k, k < 2 ^ 24 → k ∉ settleObjs → k ≠ O.TARNISH → (tarnishEntry s b die inp detail code).get k = s.get k := by
  have hframe := tarnishEntry_frame s b die inp detail code
  refine ⟨?_, (congrArg State.power hframe.1 :), (congrArg State.ctxs hframe.1 :), (congrArg State.mem hframe.1 :),
    fun k h24 hs hne => hframe.2 0 k (List.mem_singleton.not.mpr (objKey_ne 0 hne)) (objKey_settle 0 k h24 hs)⟩
  rw [State.get_eq, tarnishEntry_tarnish]
  exact bit_setBit_self _ hb

theorem handTold_told (s : State) {b : Nat} (hb : b < 64) (die inp detail cause a z : Nat) :
    HandTold s b die detail (handTold s b die inp detail cause a z) := by
  unfold handTold
  obtain ⟨htar, hp, hc, hm, hobj⟩ := tarnishEntry_keeps s hb die inp detail 0xFF30
  generalize tarnishEntry s b die inp detail 0xFF30 = w at htar hp hc hm hobj ⊢
  have hq := emcy_queued w 0xFF30 die 0xFF detail
  have hcan := emcy_canOnly (ks := []) w 0xFF30 die 0xFF detail
  have hobj2 : ∀ k, (emcy w 0xFF30 die 0xFF detail).get k = w.get k := fun _ => rfl
  have hpw : (emcy w 0xFF30 die 0xFF detail).power = w.power := rfl
  have hcw : (emcy w 0xFF30 die 0xFF detail).ctxs = w.ctxs := rfl
  have hmw : (emcy w 0xFF30 die 0xFF detail).mem = w.mem := rfl
  generalize emcy w 0xFF30 die 0xFF detail = y at hq hobj2 hpw hcw hmw ⊢
  have hfin := suspect_frame (s := pulse y 7 0 0) cause die inp 0 0xFFFF a z
  have hqueue := suspect_can (s := pulse y 7 0 0) cause die inp 0 0xFFFF a z
  generalize suspect (pulse y 7 0 0) cause die inp 0 0xFFFF a z = t at hfin hqueue ⊢
  have hget : ∀ k, k < 2 ^ 24 → k ∉ settleObjs → k ≠ O.SUSPECT_COUNT → t.get k = w.get k := fun k h24 hs hne =>
    (hfin.2 0 k (List.mem_singleton.not.mpr (objKey_ne 0 hne)) (objKey_settle 0 k h24 hs)).trans ((obj_pulse_of y 7 0 0 0 k h24 hs).trans (hobj2 k))
  refine ⟨?_, ?_, ?_, ?_, fun k h24 hs h1 h2 => (hget k h24 hs h2).trans (hobj k h24 hs h1), ?_⟩
  · exact (congrArg State.power hfin.1 :).trans ((pulse_power y 7 0 0).trans (hpw.trans hp))
  · exact (congrArg State.ctxs hfin.1 :).trans ((pulse_ctxs y 7 0 0).trans (hcw.trans hc))
  · exact (congrArg State.mem hfin.1 :).trans ((pulse_mem y 7 0 0).trans (hmw.trans hm))
  · rw [hget O.TARNISH (by decide) (by decide) (by decide)]
    exact htar
  · rw [hqueue, pulse_queue]
    exact ⟨_, hq, rfl, rfl, rfl, rfl⟩

/-- Only dies and inputs change. -/
def StagesOnly (s t : State) : Prop := t = { s with dies := t.dies, inputs := t.inputs }

theorem handOverDie_stages (s : State) (d : Nat) (sample : Bool) : StagesOnly s (handOverDie s d sample) := by
  unfold handOverDie
  split
  · dsimp only
    split
    · rfl
    · rfl
  · dsimp only
    split
    · rfl
    · rfl

end Sys2Proof.Machine
end

section
/-! ## Clock loops that lose their lock (R506 to R508), and O56 -/

namespace Sys2Proof.Machine

variable {s t u : State} {p m l x n : Nat} {v : Slot}

theorem loop_of_loops (h : t.power.loops = u.power.loops) (x l : Nat) : t.loop x l = u.loop x l := by
  rw [State.loop, State.loop, State.loops, State.loops, h]

/-! ### A loop that fails (R506, R508) -/

theorem loopFailed_settled (hx : x < s.power.loops.length) (hl : l < (s.loops x).length) :
    let t := settle (loopFailed s x l n)
    t.loop x l = { st := 5, losses := n } ∧ bit (t.get O.TARNISH) 13 = true ∧
    ((s.loop x (loopPartner l)).st = 2 → bit (t.get O.POWER_STATUS) 3 = true) ∧ t.ctxs = s.ctxs ∧ t.mem = s.mem := by
  have h := loopFailed_failed s x l n
  have hget : ∀ k, k < 2 ^ 24 → k ∉ settleObjs → (settle (loopFailed s x l n)).get k = (loopFailed s x l n).get k :=
    fun k h24 hs => obj_settle_of _ 0 k h24 hs
  dsimp only
  refine ⟨?_, ?_, fun h2 => ?_, (settle_ctxs _).trans h.ctxs, (settle_mem _).trans h.mem⟩
  · rw [loop_of_loops ((congrArg Power.loops (settle_power _)).trans h.loops), loop_setLoop_self _ hx hl]
  · rw [hget _ (by decide) (by decide)]
    exact h.tarnish 13 (Or.inr rfl)
  · rw [hget _ (by decide) (by decide)]
    exact h.alone h2

theorem loopLockTimeout_fails (hu : s.loopUnit x l = true) (h1 : (s.loop x l).st = 1) (hx : x < s.power.loops.length)
    (hl : l < (s.loops x).length) : Answers (.loopLockTimeout x l) s fun t =>
      (t.loop x l).st = 5 ∧ (t.loop x l).losses = (s.loop x l).losses ∧ bit (t.get O.TARNISH) 13 = true ∧
      ((s.loop x (loopPartner l)).st = 2 → bit (t.get O.POWER_STATUS) 3 = true) ∧ t.ctxs = s.ctxs ∧ t.mem = s.mem := by
  have hexec : exec (.loopLockTimeout x l) s = done (loopFailed s x l (s.loop x l).losses) := by
    rw [exec_loopLockTimeout, execLoopLockTimeout]
    exact congrArg done (if_pos ⟨hu, h1⟩)
  obtain ⟨hloop, htar, halone, hc, hm⟩ := loopFailed_settled (n := (s.loop x l).losses) hx hl
  exact answers_done hexec ⟨by rw [hloop], by rw [hloop], htar, halone, hc, hm⟩

/-! ### A loop that stands by (R507) -/

theorem exec_standbyLost (hu : s.loopUnit x l = true) (h3 : (s.loop x l).st = 3) : exec (.loopLockLoss x l) s =
    done (if 3 ≤ (s.loop x l).losses + 1 then loopFailed s x l ((s.loop x l).losses + 1)
      else s.setLoop x l { st := 4, losses := (s.loop x l).losses + 1 }) := by
  rw [exec_loopLockLoss, execLoopLockLoss]
  dsimp only
  rw [if_pos hu, if_neg (by rw [h3]; decide), if_pos h3]

theorem standbyLost_restarts (hu : s.loopUnit x l = true) (h3 : (s.loop x l).st = 3) (hn : (s.loop x l).losses < 2) :
    Answers (.loopLockLoss x l) s fun t => OnlyObjs [] (s.setLoop x l { st := 4, losses := (s.loop x l).losses + 1 }) t :=
  setLoop_answers ((exec_standbyLost hu h3).trans (congrArg done (if_neg (by omega))))

theorem standbyLost_fails (hu : s.loopUnit x l = true) (h3 : (s.loop x l).st = 3) (hn : 2 ≤ (s.loop x l).losses)
    (hx : x < s.power.loops.length) (hl : l < (s.loops x).length) : Answers (.loopLockLoss x l) s fun t =>
      (t.loop x l).st = 5 ∧ bit (t.get O.TARNISH) 13 = true ∧ t.ctxs = s.ctxs ∧ t.mem = s.mem := by
  obtain ⟨hloop, htar, -, hc, hm⟩ := loopFailed_settled (n := (s.loop x l).losses + 1) hx hl
  exact answers_done ((exec_standbyLost hu h3).trans (congrArg done (if_pos (by omega)))) ⟨by rw [hloop], htar, hc, hm⟩

/-! ### A loop that hands over (R507) -/

/-- The loops after a hand-over, with the hand-over counted. -/
def handBase (s : State) (x l : Nat) : State :=
  (((s.setLoop x (loopPartner l) { s.loop x (loopPartner l) with st := 2 }).setLoop x l
    { st := 4, losses := (s.loop x l).losses + 1 }).flag 0 O.POWER_STATUS 2).countSat 0 O.LOOP_HANDOVERS 32

theorem handBase_mem (s : State) (x l : Nat) : (handBase s x l).mem = s.mem ∧ (handBase s x l).ctxs = s.ctxs := by
  simp only [handBase, State.countSat_eq, State.flag_eq, State.setObj_mem, State.setObj_ctxs, State.setLoop, State.setLoops, and_self]

/-- The die whose loop has handed over. -/
def stageHanded (s : State) (x l : Nat) : State := if x = 8 then s else handOverDie s x (decide (l < 2))

theorem loopHandOver_eq (s : State) (x l : Nat) : ∃ inp a z, loopHandOver s x l =
    let t := handTold (handBase s x l) (if decide (l < 2) then 11 else 12) (if x = 8 then 0xFF else x) inp
      (if decide (l < 2) then 0 else 1) (if decide (l < 2) then 2 else 3) a z
    stageHanded (if 3 ≤ (s.loop x l).losses + 1 then loopFailed t x l ((s.loop x l).losses + 1) else t) x l :=
  ⟨_, _, _, rfl⟩

theorem handBase_base (hx : x < s.power.loops.length) (hl : l < (s.loops x).length) (hp : loopPartner l < (s.loops x).length) :
    (handBase s x l).loop x l = { st := 4, losses := (s.loop x l).losses + 1 } ∧
    ((handBase s x l).loop x (loopPartner l)).st = 2 ∧
    (handBase s x l).num O.LOOP_HANDOVERS = satN 32 (s.num O.LOOP_HANDOVERS + 1) ∧
    bit ((handBase s x l).get O.POWER_STATUS) 2 = true := by
  unfold handBase
  generalize hw : s.setLoop x (loopPartner l) { s.loop x (loopPartner l) with st := 2 } = w
  have hlen : l < (w.loops x).length ∧ x < w.power.loops.length := by
    obtain ⟨h1, h2⟩ := loops_setLoop_length (s := s) (x := x) (l := loopPartner l) { s.loop x (loopPartner l) with st := 2 }
    rw [← hw, h1, h2]
    exact ⟨hl, hx⟩
  have hpart : w.loop x (loopPartner l) = { s.loop x (loopPartner l) with st := 2 } := by
    rw [← hw]
    exact loop_setLoop_self _ hx hp
  have hobj : w.num O.LOOP_HANDOVERS = s.num O.LOOP_HANDOVERS := by rw [← hw]; rfl
  have hself := loop_setLoop_self (s := w) (x := x) { st := 4, losses := (s.loop x l).losses + 1 } hlen.2 hlen.1
  have hother := loop_setLoop_ne (s := w) (x := x) { st := 4, losses := (s.loop x l).losses + 1 } (loopPartner_ne l)
  have hnum : (w.setLoop x l { st := 4, losses := (s.loop x l).losses + 1 }).num O.LOOP_HANDOVERS = s.num O.LOOP_HANDOVERS := hobj
  generalize w.setLoop x l { st := 4, losses := (s.loop x l).losses + 1 } = y at hself hother hnum ⊢
  have hpow : ((y.flag 0 O.POWER_STATUS 2).countSat 0 O.LOOP_HANDOVERS 32).power.loops = y.power.loops := rfl
  refine ⟨(loop_of_loops hpow x l).trans hself, ?_, ?_, ?_⟩
  · rw [loop_of_loops hpow, hother, hpart]
  · have hflag : (y.flag 0 O.POWER_STATUS 2).obj 0 O.LOOP_HANDOVERS = y.obj 0 O.LOOP_HANDOVERS :=
      State.obj_setObj_ne _ _ _ _ _ _ (by decide)
    have hset : ((y.flag 0 O.POWER_STATUS 2).countSat 0 O.LOOP_HANDOVERS 32).get O.LOOP_HANDOVERS =
        ofN (satN 32 (y.num O.LOOP_HANDOVERS + 1)) := by
      rw [State.countSat_eq, State.get_eq, State.obj_setObj_self, hflag]
      rfl
    refine (congrArg BitVec.toNat hset).trans ?_
    rw [hnum, ofN_toNat _ (satN32_lt _)]
  · have hset : ((y.flag 0 O.POWER_STATUS 2).countSat 0 O.LOOP_HANDOVERS 32).get O.POWER_STATUS =
        (y.flag 0 O.POWER_STATUS 2).get O.POWER_STATUS := State.obj_setObj_ne _ _ _ _ _ _ (by decide)
    rw [hset]
    exact bit_obj_flagged (by decide)

/-- What a loop that has lost its lock once too often adds to a hand-over. -/
structure LoopEnds (s : State) (x l n : Nat) (t : State) : Prop where
  lost : (t.loop x l).st = if 3 ≤ n then 5 else 4
  partner : t.loop x (loopPartner l) = s.loop x (loopPartner l)
  tarnish : ∀ b, bit (s.get O.TARNISH) b = true → bit (t.get O.TARNISH) b = true
  status : ∀ b, bit (s.get O.POWER_STATUS) b = true → bit (t.get O.POWER_STATUS) b = true
  handovers : t.get O.LOOP_HANDOVERS = s.get O.LOOP_HANDOVERS
  queue : t.can.queue = s.can.queue
  ctxs : t.ctxs = s.ctxs
  mem : t.mem = s.mem

theorem loopEnds_ite (hx : x < s.power.loops.length) (hl : l < (s.loops x).length) (h4 : (s.loop x l).st = 4) (n : Nat) :
    LoopEnds s x l n (if 3 ≤ n then loopFailed s x l n else s) := by
  by_cases h : 3 ≤ n
  · have hf := loopFailed_failed s x l n
    have hloop : ∀ k, (loopFailed s x l n).loop x k = (s.setLoop x l { st := 5, losses := n }).loop x k := loop_of_loops hf.loops x
    rw [if_pos h]
    refine ⟨?_, ?_, fun b hb => hf.tarnish b (Or.inl hb), hf.status, hf.objs _ (by decide) (by decide) (by decide) (by decide),
      hf.queue, hf.ctxs, hf.mem⟩
    · rw [hloop, loop_setLoop_self _ hx hl, if_pos h]
    · rw [hloop, loop_setLoop_ne _ (loopPartner_ne l)]
  · rw [if_neg h]
    exact ⟨by rw [h4, if_neg h], rfl, fun _ h => h, fun _ h => h, rfl, rfl, rfl, rfl⟩

theorem stageHanded_stages (s : State) (x l : Nat) : StagesOnly s (stageHanded s x l) := by
  unfold stageHanded
  split
  · rfl
  · exact handOverDie_stages s x _

theorem StagesOnly.loopEnds (h : StagesOnly t u) (hs : LoopEnds s x l n t) : LoopEnds s x l n u := by
  obtain ⟨h1, h2, h3, h4, h5, h6, h7, h8⟩ := hs
  rw [StagesOnly] at h
  rw [h]
  exact ⟨h1, h2, h3, h4, h5, h6, h7, h8⟩

theorem LoopEnds.settled (h : LoopEnds s x l n t) : LoopEnds s x l n (settle t) := by
  have hget : ∀ k, k < 2 ^ 24 → k ∉ settleObjs → (settle t).get k = t.get k := fun k h24 hs => obj_settle_of t 0 k h24 hs
  have hloop : ∀ k, (settle t).loop x k = t.loop x k := loop_of_loops (congrArg Power.loops (settle_power t)) x
  refine ⟨?_, ?_, ?_, ?_, ?_, (settle_queue t).trans h.queue, (settle_ctxs t).trans h.ctxs, (settle_mem t).trans h.mem⟩
  · rw [hloop, h.lost]
  · rw [hloop, h.partner]
  · rw [hget _ (by decide) (by decide)]
    exact h.tarnish
  · rw [hget _ (by decide) (by decide)]
    exact h.status
  · rw [hget _ (by decide) (by decide), h.handovers]

theorem exec_handsOver (hu : s.loopUnit x l = true) (h2 : (s.loop x l).st = 2) (h3 : (s.loop x (loopPartner l)).st = 3) :
    exec (.loopLockLoss x l) s = done (loopHandOver s x l) := by
  rw [exec_loopLockLoss, execLoopLockLoss]
  dsimp only
  rw [if_pos hu, if_pos h2, if_pos h3]

theorem lockLoss_handsOver (hu : s.loopUnit x l = true) (h2 : (s.loop x l).st = 2) (h3 : (s.loop x (loopPartner l)).st = 3)
    (hx : x < s.power.loops.length) (hl : l < (s.loops x).length) (hp : loopPartner l < (s.loops x).length) :
    Answers (.loopLockLoss x l) s fun t =>
      (t.loop x (loopPartner l)).st = 2 ∧ (t.loop x l).st = (if (s.loop x l).losses < 2 then 4 else 5) ∧
      t.num O.LOOP_HANDOVERS = satN 32 (s.num O.LOOP_HANDOVERS + 1) ∧ bit (t.get O.POWER_STATUS) 2 = true ∧
      bit (t.get O.TARNISH) (if l < 2 then 11 else 12) = true ∧
      (∃ e ∈ t.can.queue, e.code = 0xFF30 ∧ e.b0 = (if x = 8 then 0xFF else x) ∧ e.b1 = 0xFF ∧
        e.detail = (if l < 2 then 0 else 1)) ∧ t.ctxs = s.ctxs ∧ t.mem = s.mem := by
  obtain ⟨inp, a, z, heq⟩ := loopHandOver_eq s x l
  obtain ⟨b1, b2, b3, b4⟩ := handBase_base hx hl hp
  have hlen : x < (handBase s x l).power.loops.length ∧ l < ((handBase s x l).loops x).length := by
    obtain ⟨h5, h6⟩ := loops_setLoop_length (s := s) (x := x) (l := loopPartner l) { s.loop x (loopPartner l) with st := 2 }
    obtain ⟨h7, h8⟩ := loops_setLoop_length (s := s.setLoop x (loopPartner l) { s.loop x (loopPartner l) with st := 2 })
      (x := x) (l := l) { st := 4, losses := (s.loop x l).losses + 1 }
    exact ⟨(h8.trans h6).symm ▸ hx, (h7.trans h5).symm ▸ hl⟩
  obtain ⟨hmem, hctx⟩ := handBase_mem s x l
  simp only [decide_eq_true_eq] at heq
  refine answers_done (exec_handsOver hu h2 h3) ?_
  rw [heq]
  generalize handBase s x l = w at b1 b2 b3 b4 hlen hctx hmem ⊢
  have htold := handTold_told w (b := if l < 2 then 11 else 12) (by split <;> decide) (if x = 8 then 0xFF else x) inp
    (if l < 2 then 0 else 1) (if l < 2 then 2 else 3) a z
  generalize handTold w (if l < 2 then 11 else 12) (if x = 8 then 0xFF else x) inp (if l < 2 then 0 else 1)
    (if l < 2 then 2 else 3) a z = y at htold ⊢
  have hloop : ∀ k, y.loop x k = w.loop x k := loop_of_loops (congrArg Power.loops htold.power) x
  have hlist : y.loops x = w.loops x := by rw [State.loops, State.loops, htold.power]
  have hends := ((stageHanded_stages _ x l).loopEnds (loopEnds_ite (s := y) (x := x) (l := l) (by rw [htold.power]; exact hlen.1)
    (by rw [hlist]; exact hlen.2) (by rw [hloop, b1]) ((s.loop x l).losses + 1))).settled
  generalize settle (stageHanded _ x l) = t at hends ⊢
  refine ⟨?_, ?_, ?_, ?_, hends.tarnish _ htold.tarnish, ?_, hends.ctxs.trans (htold.ctxs.trans hctx), hends.mem.trans (htold.mem.trans hmem)⟩
  · rw [hends.partner, hloop, b2]
  · rw [hends.lost]
    by_cases h : (s.loop x l).losses < 2
    · rw [if_neg (by omega), if_pos h]
    · rw [if_pos (by omega), if_neg h]
  · exact (congrArg BitVec.toNat (hends.handovers.trans (htold.objs O.LOOP_HANDOVERS (by decide) (by decide) (by decide) (by decide)))).trans b3
  · refine hends.status 2 ?_
    rw [htold.objs O.POWER_STATUS (by decide) (by decide) (by decide) (by decide)]
    exact b4
  · rw [hends.queue]
    exact htold.queue

/-! ### A loop in use without a standby (R508, R522) -/

theorem exec_lossAlone (hu : s.loopUnit x l = true) (h2 : (s.loop x l).st = 2) (h3 : (s.loop x (loopPartner l)).st ≠ 3) :
    exec (.loopLockLoss x l) s =
      (let t := s.setLoop x l { st := if (s.loop x l).losses < 2 then 4 else 5, losses := (s.loop x l).losses + 1 }
      done (if x = 8 then t else dieLost t x)) := by
  have hst : (if 3 ≤ (s.loop x l).losses + 1 then 5 else 4 : Nat) = if (s.loop x l).losses < 2 then 4 else 5 := by
    by_cases h : (s.loop x l).losses < 2
    · rw [if_neg (by omega), if_pos h]
    · rw [if_pos (by omega), if_neg h]
  rw [exec_loopLockLoss, execLoopLockLoss]
  dsimp only
  rw [if_pos hu, if_pos h2, if_neg h3, hst]

theorem lossAlone_hub (hu : s.loopUnit x l = true) (h2 : (s.loop x l).st = 2) (h3 : (s.loop x (loopPartner l)).st ≠ 3) (h8 : x = 8) :
    Answers (.loopLockLoss x l) s fun t =>
      OnlyObjs [] (s.setLoop x l { st := if (s.loop x l).losses < 2 then 4 else 5, losses := (s.loop x l).losses + 1 }) t :=
  setLoop_answers ((exec_lossAlone hu h2 h3).trans (congrArg done (if_pos h8)))

theorem lossAlone_die (hu : s.loopUnit x l = true) (h2 : (s.loop x l).st = 2) (h3 : (s.loop x (loopPartner l)).st ≠ 3)
    (hD : x < s.D) (hlen : x < s.dies.length) (ha : (s.die x).st = .active) (hr : s.restarting = false) :
    Answers (.loopLockLoss x l) s fun t => (t.die x).st = .lost := by
  have h8 : x ≠ 8 := by
    have hD8 : s.D ≤ 8 := by
      unfold State.D
      cases s.variant <;> decide
    omega
  refine answers_done ((exec_lossAlone hu h2 h3).trans (congrArg done (if_neg h8))) ?_
  have hD' : x < (s.setLoop x l { st := if (s.loop x l).losses < 2 then 4 else 5, losses := (s.loop x l).losses + 1 }).D := hD
  have hlen' : x < (s.setLoop x l { st := if (s.loop x l).losses < 2 then 4 else 5, losses := (s.loop x l).losses + 1 }).dies.length := hlen
  have ha' : ((s.setLoop x l { st := if (s.loop x l).losses < 2 then 4 else 5, losses := (s.loop x l).losses + 1 }).die x).st = .active := ha
  have hr' : (s.setLoop x l { st := if (s.loop x l).losses < 2 then 4 else 5, losses := (s.loop x l).losses + 1 }).restarting = false := hr
  generalize s.setLoop x l { st := if (s.loop x l).losses < 2 then 4 else 5, losses := (s.loop x l).losses + 1 } = w at hD' hlen' ha' hr' ⊢
  rw [dieLost_active hD' ha' hr', die_congr (settle_dies _)]
  exact dieGone_lost hlen'

/-! ### O56 -/

theorem refSelect_answers (h : Served s p) :
    (ownerOf p = s.steward → 3 < v.toNat → Answers (.refSelectWrite p v) s fun t => Rejected s t p O.REF_SELECT 2 .range) ∧
    (ownerOf p ≠ s.steward → Answers (.refSelectWrite p v) s fun t => Rejected s t p O.REF_SELECT 2 .noPermission) :=
  ⟨fun ho hv => rejected_access (exec_refSelectWrite s p v) h rfl (refSelect_range (s := s.turned) ho hv),
    fun ho => rejected_access (exec_refSelectWrite s p v) h rfl (stewardOnly_neg (s := s.turned) ho _)⟩

theorem loops_answers (s : State) (x l : Nat) (hu : s.loopUnit x l = true) :
    let v := s.loop x l
    let w := s.loop x (loopPartner l)
    (v.st = 1 → w.st ≠ 2 → Answers (.loopLockDeclared x l) s fun t => OnlyObjs [] (s.setLoop x l { v with st := 2 }) t) ∧
    (v.st = 1 → w.st = 2 → Answers (.loopStandbyReady x l) s fun t => OnlyObjs [] (s.setLoop x l { v with st := 3 }) t) ∧
    (v.st = 4 → (x ≠ 8 ∨ 2 ≤ l ∨ s.power.extValid.isSome = true) → Answers (.loopRestart x l) s fun t =>
      OnlyObjs [] (s.setLoop x l { v with st := 1 }) t) :=
  ⟨fun h1 h2 => setLoop_answers (exec_lockDeclared hu h1 h2), fun h1 h2 => setLoop_answers (exec_standbyReady hu h1 h2),
    fun h4 he => setLoop_answers (exec_restart hu h4 he)⟩

/-- Settles O56: each event of a reference or loop by its own lemma above; a die without a loop goes through the whole loss of a
die, which brings no lost die back. -/
theorem referencesAndLoops : Obligations.ReferencesAndLoops := by
  unfold Obligations.ReferencesAndLoops
  refine ⟨fun s p v h => ⟨fun ho hv => ⟨refSelect_stays h ho hv, refSelect_switches h ho hv⟩, refSelect_answers h⟩,
    fun s off m ha hv => ?_, fun s off => extRefLoss_idle,
    fun s m ha hm => ⟨extRefValidated_unwanted ha hm, extRefValidated_switches ha hm, extRefValidated_again ha hm⟩,
    fun s => internalOscFail_answers, fun s x l hu hx hl => ?_⟩
  · have hsome : s.power.extValid.isSome = true := by rw [hv]; rfl
    exact ⟨extRefLoss_unused ha hsome, extRefLoss_loops ha hsome, extRefLoss_used ha hsome⟩
  · obtain ⟨h1, h2, h3⟩ := loops_answers s x l hu
    exact ⟨h1, h2, h3, fun h => loopLockTimeout_fails hu h hx hl, standbyLost_restarts hu, fun h hn => standbyLost_fails hu h hn hx hl,
      fun h hw hp => lockLoss_handsOver hu h hw hx hl hp, lossAlone_hub hu, lossAlone_die hu, fun h i hi => loops_idle h hi,
      loopRestart_idle⟩

end Sys2Proof.Machine
end

section
/-! ## Wear-out (R116 to R119) -/

namespace Sys2Proof.Machine

variable {s t u : State} {d n : Nat}

/-! ### What leaves the lineup of every die -/

/-- The lineup of a die and the change that waits for it. -/
def Die.dealt (x : Die) : Bool × Bool × Lineup × List Nat × Nat × List (Nat × Nat) :=
  (x.gap, x.lineupPending, x.lineup, x.positions, x.subs, x.failed)

/-- Every die keeps its lineup. -/
def DealKept (s t : State) : Prop := ∀ k, (t.die k).dealt = (s.die k).dealt

theorem dealKept_refl (s : State) : DealKept s s := fun _ => rfl

theorem DealKept.trans (h : DealKept s t) (h' : DealKept t u) : DealKept s u := fun k => (h' k).trans (h k)

theorem dealKept_of_dies (h : t.dies = s.dies) : DealKept s t := fun k => congrArg Die.dealt (die_congr h k)

theorem DealKept.of_dies (h : DealKept u t) (hd : u.dies = s.dies) : DealKept s t := (dealKept_of_dies hd).trans h

theorem dealKept_ite {p : Prop} [Decidable p] (h : DealKept s t) (h' : DealKept s u) : DealKept s (if p then t else u) := by
  split
  · exact h
  · exact h'

theorem dealKept_foldl {α : Type} (l : List α) (f : State → α → State) (hf : ∀ u a, DealKept u (f u a)) (s : State) :
    DealKept s (l.foldl f s) := by
  induction l generalizing s with
  | nil => exact dealKept_refl s
  | cons a l ih => exact (hf s a).trans (ih (f s a))

theorem dealKept_setDie {x : Die} (h : x.dealt = (s.die d).dealt) : DealKept s (s.setDie d x) := fun k => by
  by_cases hd : d < s.dies.length
  · rw [State.die_setDie s d k x hd]
    split
    · next he => rw [h, he]
    · rfl
  · rw [State.setDie, List.set_eq_of_length_le (Nat.le_of_not_lt hd)]

theorem Worked.dealKept {K : KeepFields} {cs : List Nat} (h : Worked K cs s t) : DealKept s t := fun k => by
  have hmap : t.dies.map Die.still = s.dies.map Die.still := (congrArg State.dies h.still :)
  have hdeal : ∀ v : State, (v.die k).dealt = ((v.dies.map Die.still).getD k {}).dealt := fun v => by
    rw [State.die, List.getD_eq_getElem?_getD, List.getD_eq_getElem?_getD, List.getElem?_map]
    cases v.dies[k]? <;> rfl
  rw [hdeal, hmap, ← hdeal]

theorem dealKept_modCtx (s : State) (c : Nat) (f : Ctx → Ctx) : DealKept s (s.modCtx c f) :=
  (worked_modCtx (K := anyKept) (cs := [c]) List.mem_cons_self s f).dealKept

theorem dealKept_suspendCtx (s : State) (c cause : Nat) : DealKept s (suspendCtx s c cause) :=
  (worked_suspendCtx (K := anyKept) rfl rfl rfl (cs := [c]) List.mem_cons_self s cause).dealKept

theorem dealKept_loseHome (s : State) (c : Nat) : DealKept s (loseHome s c) := by
  unfold loseHome
  split
  · refine DealKept.trans ?_ (dealKept_suspendCtx _ c 3)
    unfold losePending
    split
    · exact dealKept_refl s
    · exact dealKept_of_dies rfl
  · exact dealKept_refl s

theorem dealKept_reroute (s : State) (c : Nat) (qs : List Stream) (b : Binding) : DealKept s (reroute s c qs b) := by
  unfold reroute
  dsimp only
  refine (worked_capReleased (K := anyKept) (cs := []) s c b.streams).dealKept.trans ?_
  generalize capReleased s c b.streams = v
  exact DealKept.trans (DealKept.trans (dealKept_modCtx v c _) (dealKept_of_dies rfl))
    (dealKept_ite (dealKept_refl _) (dealKept_of_dies rfl))

theorem dealKept_rebindFrom (qs : List Stream) (s : State) (c : Nat) : DealKept s (rebindFrom qs s c) := by
  unfold rebindFrom
  split
  · exact dealKept_refl s
  · refine dealKept_ite (dealKept_ite (dealKept_loseHome s c) ?_) (dealKept_refl s)
    split
    · exact dealKept_reroute s c qs _
    · exact dealKept_suspendCtx s c 3

theorem dealKept_rebindInput (s : State) (n : Nat) : DealKept s (rebindInput s n) := by
  refine DealKept.trans (dealKept_foldl _ _ (fun u c => dealKept_modCtx u c _) s)
    (dealKept_foldl _ _ (fun u c => (dealKept_rebindFrom ((s.ctx c).elim [] Ctx.streams) u c).trans ?_) _)
  unfold windowCheck
  split
  · exact dealKept_ite (dealKept_suspendCtx _ c 6) (dealKept_refl _)
  · exact dealKept_refl _

theorem dealKept_stopStream (s : State) (n : Nat) : DealKept s (stopStream s n) := by
  unfold stopStream gapConsumers
  dsimp only
  refine (worked_endEpoch (K := anyKept) (cs := []) rfl s n _).dealKept.trans (dealKept_foldl _ _ (fun u c => ?_) _)
  split
  · exact dealKept_ite (worked_endGrid_of (K := anyKept) (cs := [c]) rfl List.mem_cons_self u true).dealKept (dealKept_refl u)
  · exact dealKept_refl u

theorem dealKept_lateSuspects (s : State) (d input a : Nat) (late lastPass : List (Nat × Nat)) :
    DealKept s (lateSuspects s d input a late lastPass) :=
  dealKept_foldl late _ (fun u p => dealKept_of_dies (t := suspectAt u p.2 1 d input (sliceAddr d p.1) 0xFFFF
    ((kvGet lastPass p.1).getD u.power.startFrom) a) rfl) s

theorem foldl_withTrim_dealt (l : List (Nat × Trim)) (x : Die) : (l.foldl (fun x p => x.withTrim p.1 p.2) x).dealt = x.dealt := by
  induction l generalizing x with
  | nil => rfl
  | cons p l ih => exact ih _

theorem dealKept_applyTrims (mark : Option Nat) (s : State) (d : Nat) : DealKept s (applyTrims mark s d) := by
  unfold applyTrims
  exact dealKept_ite (dealKept_refl s) (dealKept_setDie (foldl_withTrim_dealt _ _))

theorem dealKept_openEpoch (s : State) (n a : Nat) (disc : Bool) : DealKept s (openEpoch s n a disc) := by
  unfold openEpoch
  dsimp only
  refine dealKept_ite (dealKept_of_dies rfl) (DealKept.of_dies (dealKept_foldl _ _ (fun u d => ?_) _) rfl)
  exact dealKept_setDie (x := { u.die d with discNext := false }) rfl

/-! ### A change of lineup -/

/-- Die `d` serves its inputs from the slices of its new lineup. -/
structure LineupChanged (x : Die) (s t : State) (d : Nat) : Prop where
  pending : (t.die d).lineupPending = false
  lineup : (t.die d).lineup = x.lineup.narrower (lineupOf x.f)
  positions : (t.die d).positions = x.good.take (t.die d).lineup.k
  subs : (t.die d).subs = 0
  failed : (t.die d).failed = x.failed
  gap : (t.die d).gap = x.gap

theorem LineupChanged.of_kept {x : Die} (h : LineupChanged x s t d) (hk : DealKept t u) : LineupChanged x s u d := by
  have hd := hk d
  simp only [Die.dealt, Prod.mk.injEq] at hd
  obtain ⟨hg, hp, hl, hpos, hs, hf⟩ := hd
  exact ⟨hp.trans h.pending, hl.trans h.lineup, by rw [hpos, hl, h.positions], hs.trans h.subs, hf.trans h.failed, hg.trans h.gap⟩

theorem stageChanged_dealKept (s : State) (d old : Nat) : DealKept s (stageChanged s d old) :=
  dealKept_ite (dealKept_refl s) (dealKept_of_dies (tarnish_dies s 1 d _ _ _))

/-- A die whose lineup is dealt afresh in core cycle `cyc`. -/
def Die.redealt (x : Die) (cyc : Nat) : Die :=
  let y := { x.deal (x.lineup.narrower (lineupOf x.f)) with
    lineupFrom := cyc, lineupPending := false, wearNow := false, autoPass := true, auditPos := 0, auditCause := none
    pending := if x.measuring then [] else x.pending, bankPending := if x.measuring then none else x.bankPending }
  if y.measuring then { y with calQueue := y.spares ++ y.positions } else y

theorem redealt_changed {x : Die} {cyc : Nat} (hx : (t.die d) = x.redealt cyc) : LineupChanged x s t d := by
  unfold Die.redealt at hx
  dsimp only at hx
  split at hx
  · exact ⟨by rw [hx], by rw [hx]; rfl, by rw [hx]; rfl, by rw [hx]; rfl, by rw [hx]; rfl, by rw [hx]; rfl⟩
  · exact ⟨by rw [hx], by rw [hx]; rfl, by rw [hx]; rfl, by rw [hx]; rfl, by rw [hx]; rfl, by rw [hx]; rfl⟩

/-- The alloy of a die, whose skew is measured again where a pass measures the die (R103, R124). -/
def skewAgain (s : State) (d : Nat) : State :=
  match s.inputOfDie d with
  | some n => if (s.die d).measuring ∧ s.cal.skew ∧ 2 ≤ (s.input n).members.length then
      { s with cal := { s.cal with alloys := sortN (uniq (n :: s.cal.alloys)) } } else s
  | none => s

theorem skewAgain_dies (s : State) (d : Nat) : (skewAgain s d).dies = s.dies := by
  unfold skewAgain
  split
  · split
    · rfl
    · rfl
  · rfl

theorem changeLineup_eq (s : State) (d : Nat) : changeLineup s d =
    stageChanged ((skewAgain s d).setDie d ((s.die d).redealt (skewAgain s d).cycle)) d (s.die d).stage := rfl

theorem changeLineup_changed (hd : d < s.dies.length) : LineupChanged (s.die d) s (changeLineup s d) d := by
  have hv := skewAgain_dies s d
  rw [changeLineup_eq]
  generalize skewAgain s d = v at hv ⊢
  refine (redealt_changed (t := v.setDie d ((s.die d).redealt v.cycle)) (cyc := v.cycle) ?_).of_kept (stageChanged_dealKept _ d _)
  rw [State.die_setDie v d d _ (by rw [hv]; exact hd), if_pos rfl]

/-! ### The boundary of a change, and the end of its gap (R118, R119) -/

theorem lineupAtOnce_changed (hd : d < s.dies.length) (hp : (s.die d).lineupPending = true) :
    LineupChanged (s.die d) s (lineupAtOnce s d) d := by
  unfold lineupAtOnce
  dsimp only
  rw [if_pos hp]
  have hself : (s.setDie d { s.die d with late := [] }).die d = { s.die d with late := [] } := by
    rw [State.die_setDie s d d _ hd, if_pos rfl]
  have hlen : d < (s.setDie d { s.die d with late := [] }).dies.length := by
    rw [State.setDie, List.length_set]
    exact hd
  have hchange := changeLineup_changed hlen
  rw [hself] at hchange
  have hsame : LineupChanged (s.die d) s (changeLineup (s.setDie d { s.die d with late := [] }) d) d :=
    ⟨hchange.pending, hchange.lineup, hchange.positions, hchange.subs, hchange.failed, hchange.gap⟩
  exact hsame.of_kept (dealKept_lateSuspects _ _ _ _ _ _)

/-- The state in which the boundary of a change acts. -/
def boundaryAt (s : State) (d : Nat) : State := if s.wearDue d then s else s.runTo ((s.die d).wearAt + 80000000)

theorem exec_boundary (hD : d < s.D) (hp : (s.die d).lineupPending = true) (hr : s.restarting = false) :
    exec (.wearoutBoundary d) s = done (wearBoundary (boundaryAt s d) d) := by
  rw [exec_wearoutBoundary, execWearoutBoundary, if_pos ⟨hD, hp⟩, hr]
  rfl

theorem servedBy_runTo (s : State) (a d : Nat) : (s.runTo a).servedBy d = s.servedBy d :=
  servedBy_congr (runTo_inputs s a) (runTo_variant s a) d

theorem boundaryAt_keeps (s : State) (d : Nat) : (boundaryAt s d).dies = s.dies ∧ (boundaryAt s d).servedBy d = s.servedBy d := by
  unfold boundaryAt
  split
  · exact ⟨rfl, rfl⟩
  · exact ⟨runTo_dies s _, servedBy_runTo s _ d⟩

theorem wearBoundary_gap (hd : d < s.dies.length) (hh : lineupOf (s.die d).f ≠ .half) (hn : s.servedBy d = some n)
    (ha : (s.die d).st = .active) : ((wearBoundary s d).die d).dealt = { s.die d with gap := true, lineupPending := false }.dealt := by
  unfold wearBoundary
  rw [hn]
  dsimp only
  rw [if_neg (by rw [ha]; decide), if_neg (fun h => hh h.1), dealKept_stopStream _ n d, State.die_setDie s d d _ hd, if_pos rfl]
  rfl

theorem wearBoundary_atOnce (hn : s.servedBy d = none ∨ (s.die d).st ≠ .active) : wearBoundary s d = lineupAtOnce s d := by
  unfold wearBoundary
  split
  · rfl
  · next n hs =>
    dsimp only
    refine if_pos ?_
    obtain h | h := hn
    · exact absurd (hs.symm.trans h) (by simp)
    · exact h

/-- The stream of input `n` goes on after a gap, from core cycle `a` on. -/
def restream (s : State) (n a : Nat) : State :=
  if (s.input n).ring = .writing then openEpoch s n a true
  else s.setInput n { s.input n with discNext := s.busyInput n, discAt := a * 480 :: (s.input n).discAt }

theorem dealKept_restream (s : State) (n a : Nat) : DealKept s (restream s n a) :=
  dealKept_ite (dealKept_openEpoch s n a true) (dealKept_of_dies rfl)

/-- A die's positions are counted from core cycle `a` on (R69). -/
def countedFrom (s : State) (d a : Nat) : State := s.setDie d { s.die d with lineupFrom := a }

theorem dealKept_countedFrom (s : State) (d a : Nat) : DealKept s (countedFrom s d a) := dealKept_setDie rfl

/-- The end of a gap of die `d` for input `n`, once the lineup has changed. -/
def gapStreams (s : State) (d n a : Nat) (late lastPass : List (Nat × Nat)) : State :=
  rebindInput (restream (countedFrom (lateSuspects s d n a late lastPass) d a) n a) n

theorem dealKept_gapStreams (s : State) (d n a : Nat) (late lastPass : List (Nat × Nat)) :
    DealKept s (gapStreams s d n a late lastPass) :=
  (dealKept_lateSuspects s d n a late lastPass).trans ((dealKept_countedFrom _ d a).trans
    ((dealKept_restream _ n a).trans (dealKept_rebindInput _ n)))

theorem exec_gapEnd (hD : d < s.D) (hg : (s.die d).gap = true) : ∃ n a late lastPass,
    let w := changeLineup (s.setDie d { s.die d with gap := false, late := [] }) d
    exec (.lineupGapEnd d) s = done (gapStreams (if w.cal.st = .idle then applyTrims (some (w.boundary n w.now)) w d else w)
      d n a late lastPass) := by
  rw [exec_lineupGapEnd, execLineupGapEnd, if_pos ⟨hD, hg⟩]
  exact ⟨_, _, _, _, rfl⟩

theorem lineupGapEnd_changed (hD : d < s.D) (hd : d < s.dies.length) (hg : (s.die d).gap = true) :
    Answers (.lineupGapEnd d) s fun t => LineupChanged { s.die d with gap := false } s t d := by
  obtain ⟨n, a, late, lastPass, hexec⟩ := exec_gapEnd hD hg
  have hself : (s.setDie d { s.die d with gap := false, late := [] }).die d = { s.die d with gap := false, late := [] } := by
    rw [State.die_setDie s d d _ hd, if_pos rfl]
  have hlen : d < (s.setDie d { s.die d with gap := false, late := [] }).dies.length := by
    rw [State.setDie, List.length_set]
    exact hd
  have hchange := changeLineup_changed hlen
  rw [hself] at hchange
  refine answers_done hexec ?_
  generalize changeLineup (s.setDie d { s.die d with gap := false, late := [] }) d = w at hchange ⊢
  have hsame : LineupChanged { s.die d with gap := false } s w d :=
    ⟨hchange.pending, hchange.lineup, hchange.positions, hchange.subs, hchange.failed, hchange.gap⟩
  exact hsame.of_kept ((dealKept_ite (dealKept_applyTrims _ w d) (dealKept_refl w)).trans
    ((dealKept_gapStreams _ _ _ _ _ _).trans (dealKept_of_dies (settle_dies _))))

/-! ### O24 -/

theorem wearoutBoundary_gap (hD : d < s.D) (hd : d < s.dies.length) (hp : (s.die d).lineupPending = true) (hr : s.restarting = false)
    (hh : lineupOf (s.die d).f ≠ .half) (hn : s.servedBy d = some n) (ha : (s.die d).st = .active) :
    Answers (.wearoutBoundary d) s fun t =>
      (t.die d).gap = true ∧ (t.die d).lineupPending = false ∧ (t.die d).failed = (s.die d).failed := by
  obtain ⟨hdies, hserved⟩ := boundaryAt_keeps s d
  refine answers_done (exec_boundary hD hp hr) ?_
  have hdie := die_congr hdies d
  generalize boundaryAt s d = w at hdies hserved hdie ⊢
  have hgap := wearBoundary_gap (s := w) (d := d) (n := n) (by rw [hdies]; exact hd) (by rw [hdie]; exact hh) (hserved.trans hn)
    (by rw [hdie]; exact ha)
  rw [hdie] at hgap
  rw [die_congr (settle_dies _)]
  simp only [Die.dealt, Prod.mk.injEq] at hgap
  obtain ⟨h1, h2, -, -, -, h3⟩ := hgap
  exact ⟨h1, h2, h3⟩

theorem wearoutBoundary_atOnce (hD : d < s.D) (hd : d < s.dies.length) (hp : (s.die d).lineupPending = true)
    (hr : s.restarting = false) (hn : s.servedBy d = none ∨ (s.die d).st ≠ .active) :
    Answers (.wearoutBoundary d) s fun t => LineupChanged (s.die d) s t d := by
  obtain ⟨hdies, hserved⟩ := boundaryAt_keeps s d
  refine answers_done (exec_boundary hD hp hr) ?_
  have hdie := die_congr hdies d
  generalize boundaryAt s d = w at hdies hserved hdie ⊢
  rw [wearBoundary_atOnce (s := w) (d := d) (by rw [hserved, hdie]; exact hn)]
  have hchange := lineupAtOnce_changed (s := w) (d := d) (by rw [hdies]; exact hd) (by rw [hdie]; exact hp)
  rw [hdie] at hchange
  exact LineupChanged.of_kept ⟨hchange.pending, hchange.lineup, hchange.positions, hchange.subs, hchange.failed, hchange.gap⟩
    (dealKept_of_dies (settle_dies _))

/-- Settles O24: the boundary stops the die for its gap or changes its lineup at once; what follows a change of lineup, at the
boundary and at the end of a gap, keeps what was dealt. -/
theorem wearOut : Obligations.WearOut := by
  unfold Obligations.WearOut
  refine ⟨fun s d n hD hd hp hr hh hn ha => wearoutBoundary_gap hD hd hp hr hh hn ha, fun s d hD hd hp hr hn => ?_,
    fun s d hD hd hg => ?_⟩
  · exact (wearoutBoundary_atOnce hD hd hp hr hn).mono fun t h => ⟨h.pending, h.lineup, h.positions, h.subs, h.failed⟩
  · exact (lineupGapEnd_changed hD hd hg).mono fun t h => ⟨h.gap, h.lineup, h.positions, h.subs, h.failed⟩

end Sys2Proof.Machine
end

section
/-! ## Data ports (R315 to R322, R343) -/

namespace Sys2Proof.Machine

variable {s t u : State} {p c : Nat} {k : Bool} {q : DpId} {x : Port}

/-! ### Opening and closing -/

theorem dpErrs_turned (s : State) (p c : Nat) (q : DpId) (k : Bool) : s.turned.dpErrs p c q k = s.dpErrs p c q k := rfl

theorem dpTarget_turned (s : State) (p c : Nat) (q : DpId) : s.turned.dpTarget p c q = s.dpTarget p c q := rfl

theorem dpStop_turned (s : State) (p c : Nat) (q : DpId) (x : Port) (n : Nat) : s.turned.dpStop p c q x n = s.dpStop p c q x n := rfl

theorem dpId_base (p c : Nat) (k : Bool) : (dpId p c k).base = if k then 0x250100 else 0x250000 := by
  cases k
  · rfl
  · rfl

theorem dpPort_present (s : State) (p c : Nat) (k : Bool) {j : Nat} (hj : j = 1 ∨ j = 7) :
    s.missing (((dpId p c k).base + j) / 256) (((dpId p c k).base + j) % 256) = none := by
  rw [dpId_base]
  cases k
  · rcases hj with rfl | rfl
    · exact (rfl : s.missing (O.DP_CMD / 256) (O.DP_CMD % 256) = none)
    · exact (rfl : s.missing (O.DP_DATA / 256) (O.DP_DATA % 256) = none)
  · rcases hj with rfl | rfl
    · exact (rfl : s.missing (O.CDP_CMD / 256) (O.CDP_CMD % 256) = none)
    · exact (rfl : s.missing (O.CDP_DATA / 256) (O.CDP_DATA % 256) = none)

/-- The owner of a context may use its port, each path its own (R315). -/
theorem dpAdmitted (hk : k = true → ownerOf p = s.ctxOwner c) : (!k || ownerOf p == s.ctxOwner c) = true := by
  cases k
  · rfl
  · simpa using hk rfl

theorem dpCmd_open (hk : k = true → ownerOf p = s.ctxOwner c) (hn : kvGet s.ports (dpId p c k).key = none) :
    dpCmd s p c k 1 = dpOpenPort s p c (dpId p c k) k := by
  unfold dpCmd dpClosePort
  dsimp only
  rw [need_pos s (dpAdmitted hk), need_pos s (by decide), hn]
  rfl

theorem dpCmd_close (hk : k = true → ownerOf p = s.ctxOwner c) : dpCmd s p c k 2 = dpClosePort s p c (dpId p c k) := by
  unfold dpCmd
  dsimp only
  rw [need_pos s (dpAdmitted hk), need_pos s (by decide)]
  generalize dpClosePort s p c (dpId p c k) = r
  obtain ⟨v, _ | a⟩ := r
  · rfl
  · rfl

theorem dpCmd_stranger (ho : ownerOf p ≠ s.ctxOwner c) (v : Slot) : dpCmd s p c true v = (s, some .noPermission) := by
  unfold dpCmd
  exact need_neg (by simpa using ho) _ _

/-- The port that an open leaves (R316). -/
def dpOpened (s : State) (q : DpId) (len : Nat) (x : Port) : State :=
  (((({ s with ports := kvPut s.ports q.key x } : State).setDp q dpErr 0).setDp q dpOffset 0).setDp q dpLength len).setObj q.inst
    (q.base + dpPoison) 0xFFFFFFFFFFFFFFFF

theorem dpOpenPort_opens (h : s.dpErrs p c q k = []) :
    dpOpenPort s p c q k = .ok (dpOpened s q (s.dpTarget p c q).1 (s.dpTarget p c q).2) := by
  unfold dpOpenPort
  rw [h]
  rfl

theorem dpOpenPort_fails {e : Nat} {es : List Nat} (h : s.dpErrs p c q k = e :: es) :
    dpOpenPort s p c q k = (s.setDp q dpErr e, some (dpAbort e)) := by
  unfold dpOpenPort
  rw [h]

/-- The objects of a port are its own (R315, R345). -/
theorem dpKey_lt (p c : Nat) (k : Bool) {j : Nat} (hj : j < 16) :
    (dpId p c k).base + j < 2 ^ 24 ∧ (dpId p c k).base + j ∉ settleObjs := by
  rw [dpId_base]
  revert j
  cases k
  · decide
  · decide

theorem dpObj_settle (u : State) (p c : Nat) (k : Bool) {j : Nat} (hj : j < 16) :
    (settle u).obj (dpId p c k).inst ((dpId p c k).base + j) = u.obj (dpId p c k).inst ((dpId p c k).base + j) :=
  obj_settle_of u _ _ (dpKey_lt p c k hj).1 (dpKey_lt p c k hj).2

theorem dpObj_ne (u : State) (q : DpId) {i j : Nat} (h : i ≠ j) (v : Slot) :
    (u.setObj q.inst (q.base + i) v).obj q.inst (q.base + j) = u.obj q.inst (q.base + j) :=
  State.obj_setObj_ne _ _ _ _ _ _ (objKey_ne _ (by omega))

theorem dpOpened_objs (s : State) (q : DpId) (len : Nat) (x : Port) :
    (dpOpened s q len x).obj q.inst (q.base + dpErr) = 0 ∧ (dpOpened s q len x).obj q.inst (q.base + dpOffset) = 0 ∧
    (dpOpened s q len x).obj q.inst (q.base + dpLength) = ofN len ∧
    (dpOpened s q len x).obj q.inst (q.base + dpPoison) = 0xFFFFFFFFFFFFFFFF := by
  unfold dpOpened State.setDp
  refine ⟨?_, ?_, ?_, State.obj_setObj_self _ _ _ _⟩
  · rw [dpObj_ne _ q (by decide), dpObj_ne _ q (by decide), dpObj_ne _ q (by decide)]
    exact State.obj_setObj_self _ _ _ _
  · rw [dpObj_ne _ q (by decide), dpObj_ne _ q (by decide)]
    exact State.obj_setObj_self _ _ _ _
  · rw [dpObj_ne _ q (by decide)]
    exact State.obj_setObj_self _ _ _ _

theorem dpOpened_frame (s : State) (q : DpId) (len : Nat) (x : Port) :
    OnlyObjs [objKey q.inst (q.base + dpErr), objKey q.inst (q.base + dpOffset), objKey q.inst (q.base + dpLength),
      objKey q.inst (q.base + dpPoison)] { s with ports := kvPut s.ports q.key x } (dpOpened s q len x) := by
  unfold dpOpened State.setDp
  exact ((((onlyObjs_refl ({ s with ports := kvPut s.ports q.key x } : State) _).put (by simp) _).put (by simp) _).put
    (by simp) _).put (by simp) _

theorem dpOpen_opens (h : Served s p) (hk : k = true → ownerOf p = s.ctxOwner (s.selected p))
    (hn : kvGet s.ports (dpId p (s.selected p) k).key = none) (he : s.dpErrs p (s.selected p) (dpId p (s.selected p) k) k = []) :
    let q := dpId p (s.selected p) k
    Answers (.dpOpen p k) s fun t =>
      kvGet t.ports q.key = some (s.dpTarget p (s.selected p) q).2 ∧ t.obj q.inst (q.base + dpErr) = 0 ∧
      t.obj q.inst (q.base + dpOffset) = 0 ∧ t.obj q.inst (q.base + dpLength) = ofN (s.dpTarget p (s.selected p) q).1 ∧
      t.obj q.inst (q.base + dpPoison) = 0xFFFFFFFFFFFFFFFF ∧ (∀ j, j ≠ q.key → kvGet t.ports j = kvGet s.ports j) ∧
      OnlyObjs [objKey q.inst (q.base + dpErr), objKey q.inst (q.base + dpOffset), objKey q.inst (q.base + dpLength),
        objKey q.inst (q.base + dpPoison)] { s with ports := t.ports } t := by
  dsimp only
  generalize hc : s.selected p = c at *
  have hcmd : dpCmd s.turned p c k 1 = .ok (dpOpened s.turned (dpId p c k) (s.dpTarget p c (dpId p c k)).1
      (s.dpTarget p c (dpId p c k)).2) := (dpCmd_open (s := s.turned) hk hn).trans (dpOpenPort_opens (s := s.turned) he)
  refine answers_access (by rw [exec_dpOpen, execDpOpen, hc]) h (dpPort_present s p c k (Or.inl rfl)) hcmd ?_
  generalize (s.dpTarget p c (dpId p c k)).1 = len
  generalize (s.dpTarget p c (dpId p c k)).2 = x
  obtain ⟨h1, h2, h3, h4⟩ := dpOpened_objs s.turned (dpId p c k) len x
  have hports : (settle (dpOpened s.turned (dpId p c k) len x)).ports = kvPut s.ports (dpId p c k).key x := settle_ports _
  have hframe := dpOpened_frame s.turned (dpId p c k) len x
  rw [dpObj_settle _ p c k (by decide), dpObj_settle _ p c k (by decide), dpObj_settle _ p c k (by decide),
    dpObj_settle _ p c k (by decide), hports]
  refine ⟨kvGet_kvPut_self _ _ _, h1, h2, h3, h4, fun j hj => by rw [kvGet_kvPut, if_neg hj], ?_⟩
  exact (OnlyObjs.trans (onlyObjs_congr _ rfl rfl rfl) hframe).settled

theorem Aborted.of_count {key op : Nat} {a : Abort} (h : Aborted u t p key op a)
    (hc : u.obj p O.PATH_ABORTS = s.obj p O.PATH_ABORTS) : Aborted s t p key op a := by
  obtain ⟨h1, h2, h3⟩ := h
  exact ⟨h1, by rw [h2, hc], h3⟩

/-- The objects of a port are none of a path's record of aborts. -/
theorem dpKey_path (p c : Nat) (k : Bool) {j : Nat} (hj : j < 16) :
    objKey (dpId p c k).inst ((dpId p c k).base + j) ∉ abortKeys p := by
  have hkey : ∀ o, o < 2 ^ 24 → o ≠ (dpId p c k).base + j → objKey (dpId p c k).inst ((dpId p c k).base + j) ≠ objKey p o := by
    intro o ho hne he
    have hlt := (dpKey_lt p c k hj).1
    simp only [objKey] at he
    omega
  have hpath : ∀ o ∈ [O.PATH_LAST_ABORT, O.PATH_ABORTS, O.PATH_STATUS], o < 2 ^ 24 ∧ o ≠ (dpId p c k).base + j := by
    rw [dpId_base]
    clear hkey
    revert j
    cases k
    · decide
    · decide
  simp only [List.forall_mem_cons] at hpath
  obtain ⟨⟨h1, h1'⟩, ⟨h2, h2'⟩, ⟨h3, h3'⟩, -⟩ := hpath
  simp only [abortKeys, List.mem_cons, List.not_mem_nil, or_false, not_or]
  exact ⟨hkey _ h1 h1', hkey _ h2 h2', hkey _ h3 h3'⟩

theorem dpOpen_fails {e : Nat} {es : List Nat} (h : Served s p) (hk : k = true → ownerOf p = s.ctxOwner (s.selected p))
    (hn : kvGet s.ports (dpId p (s.selected p) k).key = none) (he : s.dpErrs p (s.selected p) (dpId p (s.selected p) k) k = e :: es) :
    let q := dpId p (s.selected p) k
    Answers (.dpOpen p k) s fun t =>
      t.obj q.inst (q.base + dpErr) = ofN e ∧ Aborted s t p (q.base + 1) 2 (dpAbort e) ∧
      OnlyObjs (objKey q.inst (q.base + dpErr) :: abortKeys p) s t := by
  dsimp only
  generalize hc : s.selected p = c at *
  have hcmd : dpCmd s.turned p c k 1 = (s.turned.setDp (dpId p c k) dpErr e, some (dpAbort e)) :=
    (dpCmd_open (s := s.turned) hk hn).trans (dpOpenPort_fails (s := s.turned) he)
  have hkey := dpKey_path p c k (j := dpErr) (by decide)
  have herr : (s.turned.setDp (dpId p c k) dpErr e).obj (dpId p c k).inst ((dpId p c k).base + dpErr) = ofN e :=
    State.obj_setObj_self _ _ _ _
  have hcount : (s.turned.setDp (dpId p c k) dpErr e).obj p O.PATH_ABORTS = s.obj p O.PATH_ABORTS :=
    State.obj_setObj_ne s.turned _ _ _ _ _ fun he => hkey (by rw [← he]; simp [abortKeys])
  have hframe : OnlyObjs (objKey (dpId p c k).inst ((dpId p c k).base + dpErr) :: abortKeys p) s (s.turned.setDp (dpId p c k) dpErr e) :=
    (onlyObjs_turned _).put List.mem_cons_self _
  refine answers_done (by rw [exec_dpOpen, execDpOpen, hc, access_served h _ (dpPort_present s p c k (Or.inl rfl)), hcmd, finish_some]) ?_
  generalize s.turned.setDp (dpId p c k) dpErr e = w at herr hcount hframe ⊢
  refine ⟨?_, ?_, ?_⟩
  · rw [dpObj_settle _ p c k (by decide)]
    exact ((recordAbort_onlyObjs w p _ 2 _).2 _ _ hkey (objKey_settle _ _ (dpKey_lt p c k (by decide)).1 (dpKey_lt p c k (by decide)).2)).trans herr
  · exact (rejected_settle w p _ 2 _).1.of_count hcount
  · exact hframe.trans ((rejected_settle w p _ 2 _).2.mono fun y hy => List.mem_cons_of_mem _ hy)

theorem dpClose_none (h : Served s p) (hk : k = true → ownerOf p = s.ctxOwner (s.selected p))
    (hn : kvGet s.ports (dpId p (s.selected p) k).key = none) : Answers (.dpClose p k) s fun t => OnlyObjs [] s t := by
  generalize hc : s.selected p = c at *
  have hcmd : dpCmd s.turned p c k 2 = .ok s.turned := by
    rw [dpCmd_close (s := s.turned) hk, dpClosePort, (hn : kvGet s.turned.ports _ = none)]
  refine answers_access (by rw [exec_dpClose, execDpClose, hc]) h (dpPort_present s p c k (Or.inl rfl)) hcmd ?_
  exact (onlyObjs_turned []).settled

theorem dpClose_closes (h : Served s p) (hk : k = true → ownerOf p = s.ctxOwner (s.selected p))
    (hx : kvGet s.ports (dpId p (s.selected p) k).key = some x) (hw : x.target ≠ 1 ∨ x.wrote = false) :
    Answers (.dpClose p k) s fun t =>
      t.ports = kvDel s.ports (dpId p (s.selected p) k).key ∧ kvGet t.ports (dpId p (s.selected p) k).key = none ∧
      OnlyObjs [] { s with ports := t.ports } t := by
  generalize hc : s.selected p = c at *
  have hcmd : dpCmd s.turned p c k 2 = .ok { s.turned with ports := kvDel s.ports (dpId p c k).key } := by
    rw [dpCmd_close (s := s.turned) hk, dpClosePort, (hx : kvGet s.turned.ports _ = some x)]
    dsimp only
    rw [if_neg (fun hb => hw.elim (fun h => h hb.1) (fun h => by simp [h] at hb))]
  refine answers_access (by rw [exec_dpClose, execDpClose, hc]) h (dpPort_present s p c k (Or.inl rfl)) hcmd ?_
  rw [settle_ports]
  exact ⟨rfl, by rw [kvGet_kvDel, if_pos rfl], (onlyObjs_congr [] rfl rfl rfl : OnlyObjs [] { s with
    ports := kvDel s.ports (dpId p c k).key } { s.turned with ports := kvDel s.ports (dpId p c k).key }).settled⟩

/-! ### Data where nothing is open or writable -/

theorem dpWrite_none {bs : List Byte} (hk : k = true → ownerOf p = s.ctxOwner c) (hn : kvGet s.ports (dpId p c k).key = none) :
    dpWrite s p c k bs = (s, some .presentState) := by
  unfold dpWrite
  dsimp only
  rw [need_pos s (dpAdmitted hk), hn]

theorem dpWrite_readOnly {bs : List Byte} (hk : k = true → ownerOf p = s.ctxOwner c)
    (hx : kvGet s.ports (dpId p c k).key = some x) (hs : s.dpStop p c (dpId p c k) x bs.length = none) (ht : 4 ≤ x.target) :
    dpWrite s p c k bs = (s, some .notWritable) := by
  unfold dpWrite
  dsimp only
  rw [need_pos s (dpAdmitted hk), hx]
  dsimp only
  rw [hs]
  dsimp only
  split
  · omega
  · omega
  · omega
  · rfl

theorem dpDataWrite_none (h : Served s p) (hk : k = true → ownerOf p = s.ctxOwner (s.selected p))
    (hn : kvGet s.ports (dpId p (s.selected p) k).key = none) (v : Slot) : Answers (.dpDataWrite p k v) s fun t =>
      Rejected s t p ((dpId p (s.selected p) k).base + 7) 2 .presentState := by
  generalize hc : s.selected p = c at *
  exact rejected_access (by rw [exec_dpDataWrite, execDpDataWrite, hc]) h (dpPort_present s p c k (Or.inr rfl))
    (dpWrite_none (s := s.turned) hk hn)

theorem dpDataWrite_readOnly (h : Served s p) (hk : k = true → ownerOf p = s.ctxOwner (s.selected p)) (v : Slot)
    (hx : kvGet s.ports (dpId p (s.selected p) k).key = some x) (ht : 4 ≤ x.target)
    (hs : s.dpStop p (s.selected p) (dpId p (s.selected p) k) x 8 = none) : Answers (.dpDataWrite p k v) s fun t =>
      Rejected s t p ((dpId p (s.selected p) k).base + 7) 2 .notWritable := by
  generalize hc : s.selected p = c at *
  refine rejected_access (by rw [exec_dpDataWrite, execDpDataWrite, hc]) h (dpPort_present s p c k (Or.inr rfl)) ?_
  exact dpWrite_readOnly (s := s.turned) hk hx (by rw [leBytes_length]; exact hs) ht

theorem dpDataRead_none (h : Served s p) (hk : k = true → ownerOf p = s.ctxOwner (s.selected p))
    (hn : kvGet s.ports (dpId p (s.selected p) k).key = none) (es : List Ecc) : Answers (.dpDataRead p ⟨k, es⟩) s fun t =>
      (t.path p).resp = allOnes ∧ Aborted s t p ((dpId p (s.selected p) k).base + 7) 1 .presentState ∧
      OnlyObjs (abortKeys p) { s with paths := t.paths } t := by
  generalize hc : s.selected p = c at *
  have hread : dpDataRead s.turned p c k (some es) = (s.turned, .error .presentState) := by
    unfold dpDataRead dpRead
    dsimp only
    rw [if_neg (fun hb => hb.2 (hk hb.1)), (hn : kvGet s.turned.ports _ = none)]
  refine answers_done (by rw [exec_dpDataRead, execDpDataRead, hc, readAccess_error h hread]) ⟨?_, ?_, ?_⟩
  · rw [path_settle, setResp_resp]
  · exact aborted_settle_setResp s.turned p _ 1 _ allOnes
  · have hrecord := (recordAbort_onlyObjs s.turned p ((dpId p c k).base + 7) 1 .presentState).pathFrame (samePaths_recordAbort _ _ _)
    exact (((turned_frame _ s).trans hrecord).setResp _ _).settled

theorem dpCmd_rejected (h : Served s p) (ho : ownerOf p ≠ s.ctxOwner (s.selected p)) :
    (Answers (.dpOpen p true) s fun t => Rejected s t p O.CDP_CMD 2 .noPermission) ∧
    (Answers (.dpClose p true) s fun t => Rejected s t p O.CDP_CMD 2 .noPermission) := by
  constructor
  · exact rejected_access (by rw [exec_dpOpen, execDpOpen]; rfl) h rfl (dpCmd_stranger (s := s.turned) ho 1)
  · exact rejected_access (by rw [exec_dpClose, execDpClose]; rfl) h rfl (dpCmd_stranger (s := s.turned) ho 2)

end Sys2Proof.Machine
end

section
/-! ## Data of an open port (R317 to R319, R322), and O42 -/

namespace Sys2Proof.Machine

variable {s t u v w : State} {p c : Nat} {x : Port}

/-! ### Reads -/

/-- The controllers of `v` with others in their place. -/
def State.control (v : State) (hs : List HalfCtl) (k : List Stack) : State := { v with halves := hs, hbm := k }

theorem Awoken.control (h : Awoken v w) (ho : w.objs = v.objs) : w = v.control w.halves w.hbm := by
  obtain ⟨os, hs, k, rfl⟩ := h.fields
  have hos : os = v.objs := ho
  rw [hos]
  rfl

theorem Awoken.peek (h : Awoken v w) (ho : w.objs = v.objs) : w.peek = v.peek := by
  have hm : w.mem = v.mem := (congrArg State.mem (h.control ho)).trans rfl
  funext a
  unfold State.peek State.phys
  dsimp only
  rw [h.phys, hm]

theorem Awoken.peekN (h : Awoken v w) (ho : w.objs = v.objs) : w.peekN = v.peekN := by
  have hm : w.mem = v.mem := (congrArg State.mem (h.control ho)).trans rfl
  funext a n
  unfold State.peekN State.phys
  dsimp only
  rw [h.phys, hm]

theorem resolve_control (v : State) (hs : List HalfCtl) (k : List Stack) (a : Nat) : (v.control hs k).resolve a = v.resolve a := by
  unfold State.resolve
  rfl

theorem segByte_control {hs : List HalfCtl} {k : List Stack} (hp : (v.control hs k).peek = v.peek)
    (hn : (v.control hs k).peekN = v.peekN) (hq : (v.control hs k).poisoned = v.poisoned) (c : Nat) (g : Segment) (items : Bool) (i : Nat) :
    (v.control hs k).segByte c g items i = v.segByte c g items i := by
  unfold State.segByte
  rw [hp, hn, hq]
  rfl

theorem handleRead_control {hs : List HalfCtl} {k : List Stack} (hp : (v.control hs k).peek = v.peek)
    (hq : (v.control hs k).poisoned = v.poisoned) (h o n : Nat) : (v.control hs k).handleRead h o n = v.handleRead h o n := by
  have hcru : ∀ b i, (v.control hs k).cruPoisoned h b i = v.cruPoisoned h b i := fun b i => by
    unfold State.cruPoisoned
    rw [hq]
    rfl
  have hcb : ∀ b i, (v.control hs k).cruByte b i = v.cruByte b i := fun _ _ => rfl
  unfold State.handleRead
  simp only [hp, hq, hcru, hcb]
  rfl

/-- Woken channels leave every byte of a target that stands in capture memory. -/
theorem dpByte_control {hs : List HalfCtl} {k : List Stack} (hp : (v.control hs k).peek = v.peek)
    (hn : (v.control hs k).peekN = v.peekN) (hq : (v.control hs k).poisoned = v.poisoned) (hx : x.target ≠ 1) (i : Nat) :
    (v.control hs k).dpByte p c x i = v.dpByte p c x i := by
  have hseg := segByte_control hp hn hq
  have hread := handleRead_control hp hq
  unfold State.dpByte
  simp only [hp, hq, hseg, hread, resolve_control]
  split
  · contradiction
  all_goals rfl

/-- The units of `n` bytes of a port's target from byte `o` on (R321). -/
def dpUnits (s : State) (c : Nat) (x : Port) (o l n : Nat) : List Nat :=
  uniq ((List.range n).flatMap fun i => if o + i < l then (s.dpAddrs c x (o + i)).map fun a => a / 64 * 64 else [])

theorem mem_uniq (l : List Nat) : ∀ a, a ∈ uniq l → a ∈ l := by
  have hfold : ∀ (l acc : List Nat), ∀ a, a ∈ l.foldl (fun a x => if a.contains x then a else a ++ [x]) acc → a ∈ acc ∨ a ∈ l := by
    intro l
    induction l with
    | nil => exact fun acc a h => Or.inl h
    | cons y l ih =>
      intro acc a h
      rw [List.foldl_cons] at h
      obtain h | h := ih _ a h
      · split at h
        · exact Or.inl h
        · obtain h | h := List.mem_append.mp h
          · exact Or.inl h
          · exact Or.inr (List.mem_cons.mpr (Or.inl (List.mem_singleton.mp h)))
      · exact Or.inr (List.mem_cons_of_mem y h)
  intro a h
  exact (hfold l [] a h).resolve_left List.not_mem_nil

theorem dpUnits_resolve (hres : ∀ i, ∀ a ∈ s.dpAddrs c x i, (s.resolve (a / 64 * 64)).isSome = true) {o l n : Nat} :
    ∀ a ∈ dpUnits s c x o l n, (s.resolve a).isSome = true := by
  intro a ha
  obtain ⟨i, -, hi⟩ := List.mem_flatMap.mp (mem_uniq _ a ha)
  split at hi
  · obtain ⟨b, hb, rfl⟩ := List.mem_map.mp hi
    exact hres _ b hb
  · exact absurd hi List.not_mem_nil

theorem dpUnits_object (hx : x.target = 1) {o l n : Nat} : dpUnits s c x o l n = [] := by
  have hnone : ∀ i, s.dpAddrs c x i = [] := fun i => by
    unfold State.dpAddrs
    rw [hx]
    rfl
  unfold dpUnits
  simp only [hnone, List.map_nil, ite_self]
  rw [List.flatMap_eq_nil_iff.mpr (fun _ _ => rfl)]
  rfl

/-- The bytes of a target after its units have been read without a fault. -/
theorem dpByte_read (hres : ∀ i, ∀ a ∈ s.dpAddrs c x i, (s.resolve (a / 64 * 64)).isSome = true) {o l n : Nat} (i : Nat) :
    (readUnits s (dpUnits s c x o l n) []).2.dpByte p c x i = s.dpByte p c x i := by
  by_cases hx : x.target = 1
  · rw [dpUnits_object hx]
    rfl
  · obtain ⟨-, hw, ho⟩ := awoken_readUnits (dpUnits s c x o l n) s
    replace ho := ho (dpUnits_resolve hres)
    generalize (readUnits s (dpUnits s c x o l n) []).2 = w at hw ho ⊢
    have hc := hw.control ho
    have hp := hw.peek ho
    have hn := hw.peekN ho
    have hq : w.poisoned = s.poisoned := funext hw.poisoned
    rw [hc] at hp hn hq ⊢
    exact dpByte_control hp hn hq hx i

/-- The bytes of a target from byte `o` on, each with its poison, a unit of `bad` being poisoned too (R321). -/
def dpBytes (s w : State) (p c : Nat) (x : Port) (o l n : Nat) (bad : List Nat) : List (Byte × Bool) :=
  (List.range n).map fun i =>
    if o + i < l then ((w.dpByte p c x (o + i)).1, (w.dpByte p c x (o + i)).2 ||
      (if o + i < l then (s.dpAddrs c x (o + i)).map fun a => a / 64 * 64 else []).any bad.contains) else (0#8, false)

theorem dpRead_open {n : Nat} {es : List Ecc} (hx : kvGet s.ports p = some x) (hs : s.dpStop p c (dpId p c false) x n = none) :
    dpRead s p c false n (some es) =
      (let q := dpId p c false
      let r := readUnits s (dpUnits s c x (s.dp q dpOffset) (s.dp q dpLength) n) es
      let bs := dpBytes s r.2 p c x (s.dp q dpOffset) (s.dp q dpLength) n r.1
      let w := match bs.findIdx? Prod.snd with
        | some i =>
          let w := r.2.flag q.inst (q.base + dpStatus) 1
          if w.obj q.inst (q.base + dpPoison) = 0xFFFFFFFFFFFFFFFF then w.setDp q dpPoison (s.dp q dpOffset + i) else w
        | none => r.2
      (dpAdvance w q n, .ok (bs.map Prod.fst, bs.any Prod.snd))) := by
  have hport : kvGet s.ports (dpId p c false).key = some x := hx
  unfold dpRead
  dsimp only
  rw [if_neg (fun h => absurd h.1 Bool.false_ne_true), hport]
  dsimp only
  rw [hs]
  rfl

theorem dpBytes_clean {w : State} {o l n : Nat} (hl : o + n ≤ l) (hbyte : ∀ i, w.dpByte p c x i = s.dpByte p c x i)
    (hclean : ∀ i, i < l → (s.dpByte p c x i).2 = false) :
    dpBytes s w p c x o l n [] = (List.range n).map fun i => ((s.dpByte p c x (o + i)).1, false) := by
  unfold dpBytes
  refine List.map_congr_left fun i hi => ?_
  have hlt : o + i < l := by
    have := List.mem_range.mp hi
    omega
  rw [if_pos hlt, if_pos hlt, hbyte, hclean _ hlt]
  refine Prod.ext rfl ?_
  simp

theorem findIdx_clean {n : Nat} (f : Nat → Byte) : ((List.range n).map fun i => (f i, false)).findIdx? Prod.snd = none := by
  rw [List.findIdx?_eq_none_iff]
  intro y hy
  obtain ⟨i, -, rfl⟩ := List.mem_map.mp hy
  rfl

theorem dpAdvance_within {q : DpId} {n : Nat} (h : s.dp q dpOffset + n < s.dp q dpLength) :
    dpAdvance s q n = s.setDp q dpOffset (s.dp q dpOffset + n) := by
  unfold dpAdvance
  dsimp only
  exact if_neg (by omega)

theorem dpDataRead_clean {q : DpId} (hq : q = dpId p c false) (hx : kvGet s.ports p = some x) (hs : s.dpStop p c q x 8 = none)
    (hlen : s.dp q dpOffset + 8 < s.dp q dpLength) (hclean : ∀ i, i < s.dp q dpLength → (s.dpByte p c x i).2 = false)
    (hres : ∀ i, ∀ a ∈ s.dpAddrs c x i, (s.resolve (a / 64 * 64)).isSome = true) :
    ∃ w, Awoken s w ∧ w.objs = s.objs ∧ dpDataRead s p c false (some []) =
      (w.setDp q dpOffset (s.dp q dpOffset + 8),
        .ok (ofN (leNat ((List.range 8).map fun i => (s.dpByte p c x (s.dp q dpOffset + i)).1)))) := by
  subst hq
  have hread := dpRead_open (es := []) hx hs
  dsimp only at hread
  generalize dpId p c false = q at hs hlen hclean hread ⊢
  obtain ⟨hbad, hw, ho⟩ := awoken_readUnits (dpUnits s c x (s.dp q dpOffset) (s.dp q dpLength) 8) s
  replace ho := ho (dpUnits_resolve hres)
  have hbyte := fun i => dpByte_read (p := p) hres (o := s.dp q dpOffset) (l := s.dp q dpLength) (n := 8) i
  rw [hbad] at hread
  generalize (readUnits s (dpUnits s c x (s.dp q dpOffset) (s.dp q dpLength) 8) []).2 = w at hw ho hbyte hread
  have hdp : ∀ j, w.dp q j = s.dp q j := fun j => by
    rw [hw.control ho]
    rfl
  rw [dpBytes_clean (by omega) hbyte hclean, findIdx_clean] at hread
  dsimp only at hread
  rw [dpAdvance_within (by rw [hdp, hdp]; exact hlen), hdp] at hread
  refine ⟨w, hw, ho, ?_⟩
  unfold dpDataRead
  rw [hread]
  simp only [List.map_map]
  rfl

/-! ### The answers of a read -/

theorem resolve_turned (s : State) (a : Nat) : s.turned.resolve a = s.resolve a := by
  unfold State.resolve
  rfl

theorem phys_turned (s : State) (a : Nat) : s.turned.phys a = s.phys a := by
  unfold State.phys
  rfl

theorem peek_turned (s : State) : s.turned.peek = s.peek := by
  funext a
  unfold State.peek
  rw [phys_turned]

theorem peekN_turned (s : State) : s.turned.peekN = s.peekN := by
  funext a n
  unfold State.peekN
  rw [phys_turned]

theorem poisoned_turned (s : State) : s.turned.poisoned = s.poisoned := by
  funext a
  unfold State.poisoned
  rfl

theorem segByte_turned (s : State) (c : Nat) (g : Segment) (items : Bool) (i : Nat) :
    s.turned.segByte c g items i = s.segByte c g items i := by
  unfold State.segByte
  rw [peek_turned, peekN_turned, poisoned_turned]
  rfl

theorem handleRead_turned (s : State) (h o n : Nat) : s.turned.handleRead h o n = s.handleRead h o n := by
  have hcru : ∀ b i, s.turned.cruPoisoned h b i = s.cruPoisoned h b i := fun b i => by
    unfold State.cruPoisoned
    rw [poisoned_turned]
    rfl
  have hcb : ∀ b i, s.turned.cruByte b i = s.cruByte b i := fun _ _ => rfl
  unfold State.handleRead
  simp only [peek_turned, poisoned_turned, hcru, hcb]

theorem dpAddrs_turned (s : State) (c : Nat) (x : Port) (i : Nat) : s.turned.dpAddrs c x i = s.dpAddrs c x i := by
  have hcru : ∀ h o, s.turned.cruAddrs h o = s.cruAddrs h o := fun _ _ => rfl
  have hseg : ∀ c g b o, s.turned.segAddr c g b o = s.segAddr c g b o := fun _ _ _ _ => rfl
  unfold State.dpAddrs
  simp only [hcru, hseg]
  rfl

theorem dpByte_turned (s : State) (p c : Nat) (x : Port) (i : Nat) : s.turned.dpByte p c x i = s.dpByte p c x i := by
  unfold State.dpByte
  simp only [peek_turned, poisoned_turned, segByte_turned, handleRead_turned, resolve_turned, dpAddrs_turned]
  rfl

/-- The state that a read of a port leaves: its answer, the cursor and the controllers it woke. -/
def portRead (s : State) (p c : Nat) (hs : List HalfCtl) (k : List Stack) (o : Nat) (r : Slot) : State :=
  setResp ((s.turned.control hs k).setDp (dpId p c false) dpOffset o) p r

theorem portRead_settled (s : State) (p c : Nat) (hs : List HalfCtl) (k : List Stack) (o : Nat) (r : Slot) :
    ((settle (portRead s p c hs k o r)).path p).resp = r ∧ (settle (portRead s p c hs k o r)).obj p O.DP_OFFSET = ofN o ∧
    OnlyObjs [objKey p O.DP_OFFSET] { s with
      paths := (settle (portRead s p c hs k o r)).paths
      halves := (settle (portRead s p c hs k o r)).halves
      hbm := (settle (portRead s p c hs k o r)).hbm } (settle (portRead s p c hs k o r)) := by
  have hframe : OnlyObjs [objKey p O.DP_OFFSET] { s with
      paths := (setResp (s.turned.control hs k) p r).paths
      halves := hs
      hbm := k } (setResp (s.turned.control hs k) p r) := onlyObjs_congr _ rfl rfl rfl
  refine ⟨by rw [path_settle, portRead, setResp_resp],
    (obj_settle_of _ p O.DP_OFFSET (by decide) (by decide)).trans (State.obj_setObj_self _ _ _ _), ?_⟩
  rw [settle_paths, settle_halves, settle_hbm]
  exact (hframe.put List.mem_cons_self _).settled

theorem dpDataRead_exec (h : Served s p) (hx : kvGet s.ports p = some x) (hs : s.dpStop p c (dpId p c false) x 8 = none)
    (hlen : (s.obj p O.DP_OFFSET).toNat + 8 < (s.obj p O.DP_LENGTH).toNat) (hc : s.selected p = c)
    (hclean : ∀ i, i < (s.obj p O.DP_LENGTH).toNat → (s.dpByte p c x i).2 = false)
    (hres : ∀ i, ∀ a ∈ s.dpAddrs c x i, (s.resolve (a / 64 * 64)).isSome = true) :
    ∃ hs k, exec (.dpDataRead p ⟨false, []⟩) s = done (portRead s p c hs k ((s.obj p O.DP_OFFSET).toNat + 8)
      (ofN (leNat ((List.range 8).map fun i => (s.dpByte p c x ((s.obj p O.DP_OFFSET).toNat + i)).1)))) := by
  have hclean' : ∀ i, i < (s.obj p O.DP_LENGTH).toNat → (s.turned.dpByte p c x i).2 = false := fun i hi => by
    rw [dpByte_turned]
    exact hclean i hi
  have hres' : ∀ i, ∀ a ∈ s.turned.dpAddrs c x i, (s.turned.resolve (a / 64 * 64)).isSome = true := fun i a ha => by
    rw [resolve_turned]
    rw [dpAddrs_turned] at ha
    exact hres i a ha
  obtain ⟨w, hw, ho, hread⟩ := dpDataRead_clean (s := s.turned) (c := c) rfl hx hs hlen hclean' hres'
  simp only [dpByte_turned] at hread
  refine ⟨w.halves, w.hbm, ?_⟩
  rw [exec_dpDataRead, execDpDataRead, hc, readAccess_ok h hread, portRead, ← hw.control ho]
  rfl

theorem dpDataRead_answers (h : Served s p) (hx : kvGet s.ports p = some x)
    (hs : s.dpStop p (s.selected p) (dpId p (s.selected p) false) x 8 = none)
    (hlen : (s.obj p O.DP_OFFSET).toNat + 8 < (s.obj p O.DP_LENGTH).toNat)
    (hclean : ∀ i, i < (s.obj p O.DP_LENGTH).toNat → (s.dpByte p (s.selected p) x i).2 = false)
    (hres : ∀ i, ∀ a ∈ s.dpAddrs (s.selected p) x i, (s.resolve (a / 64 * 64)).isSome = true) :
    Answers (.dpDataRead p ⟨false, []⟩) s fun t =>
      (t.path p).resp = ofN (leNat ((List.range 8).map fun i => (s.dpByte p (s.selected p) x ((s.obj p O.DP_OFFSET).toNat + i)).1)) ∧
      t.obj p O.DP_OFFSET = ofN ((s.obj p O.DP_OFFSET).toNat + 8) ∧
      OnlyObjs [objKey p O.DP_OFFSET] { s with paths := t.paths, halves := t.halves, hbm := t.hbm } t := by
  obtain ⟨hs', k, hexec⟩ := dpDataRead_exec h hx hs hlen rfl hclean hres
  exact answers_done hexec (portRead_settled _ _ _ _ _ _ _)

end Sys2Proof.Machine
end

section
/-! ## A store inside one unit (R295, R301, R302) -/

namespace Sys2Proof.Machine

variable {s t u v w : State} {a b d n : Nat} {bs : List Byte}

/-! ### Addresses of a unit -/

theorem sameUnit (h : b / 64 = a / 64) : b / halfBytes = a / halfBytes ∧ b % halfBytes / 64 = a % halfBytes / 64 ∧
    b % halfBytes % 64 = b % 64 := by
  simp only [halfBytes]
  omega

/-- Where a byte of the unit of address `a` stands. -/
theorem phys_sameUnit (s : State) (h : b / 64 = a / 64) :
    s.phys b = capAddr (a / halfBytes) (s.physUnit (a / halfBytes) (a % halfBytes / 64) * 64 + b % 64) := by
  obtain ⟨h1, h2, h3⟩ := sameUnit h
  unfold State.phys
  dsimp only
  rw [h1, h2, h3]

theorem capAddr_unit (d n r : Nat) (hr : r < 64) : capAddr d (n * 64 + r) / 64 = capAddr d (n * 64) / 64 ∧
    capAddr d (n * 64 + r) = capAddr d (n * 64) + r ∧ capAddr d (n * 64) % 64 = 0 := by
  simp only [capAddr, halfBytes]
  omega

/-! ### What memory reads after a store of several bytes -/

theorem read_readN (m : List Host.Cell) (a : Nat) {i n : Nat} (h : i < n) :
    (Memory.readN m a n).getD i 0#8 = Memory.read m (a + i) := by
  induction n generalizing a i with
  | zero => omega
  | succ n ih =>
    cases i with
    | zero => rfl
    | succ i =>
      rw [Memory.readN, List.getD_cons_succ, ih (a + 1) (by omega), Nat.add_right_comm, Nat.add_assoc]

theorem read_writeN_at (bs : List Byte) (m : List Host.Cell) (a : Nat) {i : Nat} (h : i < bs.length) :
    Memory.read (Memory.writeN m a bs) (a + i) = bs.getD i 0#8 := by
  have hread := read_readN (Memory.writeN m a bs) a h
  rw [Memory.readN_writeN] at hread
  exact hread.symm

theorem readN_length (m : List Host.Cell) (a n : Nat) : (Memory.readN m a n).length = n := by
  induction n generalizing a with
  | zero => rfl
  | succ n ih => rw [Memory.readN, List.length_cons, ih]

/-- A unit copied to another place reads there as it did before. -/
theorem read_copied (m : List Host.Cell) (a b : Nat) {i : Nat} (h : i < 64) :
    Memory.read (Memory.writeN m b (Memory.readN m a 64)) (b + i) = Memory.read m (a + i) := by
  rw [read_writeN_at _ _ _ (by rw [readN_length]; exact h), read_readN _ _ h]

/-! ### The written-map (R302) -/

/-- The unit that a write of unit `n` of die `d` goes to. -/
def State.target (s : State) (d n : Nat) : Nat := (s.half d).writeUnit n

/-- Whether unit `n` of die `d` is copied before it is written. -/
def State.copiesFirst (s : State) (d n : Nat) : Bool := (s.half d).uncopied n && decide (s.target d n ≠ n)

/-- A unit copied to its target and marked. -/
def marked (s : State) (d n : Nat) : State :=
  ({ s with mem := Memory.writeN s.mem (capAddr d (s.target d n * 64)) (Memory.readN s.mem (capAddr d (n * 64)) 64) } : State).setHalf d
    { s.half d with written := n :: (s.half d).written }

theorem markWritten_eq (s : State) (d n : Nat) : markWritten s d n = if s.copiesFirst d n then marked s d n else s := by
  unfold markWritten State.copiesFirst
  dsimp only
  by_cases h1 : (s.half d).uncopied n = true
  · by_cases h2 : (s.half d).writeUnit n ≠ n
    · rw [if_pos ⟨h1, h2⟩, if_pos (by rw [h1]; exact decide_eq_true h2)]
      rfl
    · rw [if_neg (fun h => h2 h.2), if_neg (by rw [h1, Bool.true_and]; exact fun h => h2 (of_decide_eq_true h))]
  · rw [if_neg (fun h => h1 h.1), if_neg (by simp [h1])]

theorem physUnit_copiesFirst (h : s.copiesFirst d n = true) : s.physUnit d n = n := by
  unfold State.copiesFirst at h
  unfold State.physUnit
  dsimp only
  rw [Bool.and_eq_true] at h
  rw [if_pos h.1]

theorem physUnit_direct (h : s.copiesFirst d n = false) : s.physUnit d n = s.target d n := by
  unfold State.copiesFirst at h
  unfold State.physUnit State.target
  dsimp only
  split
  · next hu =>
    rw [hu, Bool.true_and] at h
    exact (not_not.mp (of_decide_eq_false h)).symm
  · rfl

theorem physUnit_marked (h : s.copiesFirst d n = true) : (marked s d n).physUnit d n = s.target d n := by
  have hlen : d < s.halves.length := by
    by_contra hd
    have hnone : s.half d = {} := by
      rw [State.half, List.getD_eq_getElem?_getD, List.getElem?_eq_none (Nat.le_of_not_lt hd), Option.getD_none]
    rw [State.copiesFirst, hnone] at h
    exact absurd h (by simp [HalfCtl.uncopied])
  have hhalf : (marked s d n).half d = { s.half d with written := n :: (s.half d).written } := by
    rw [marked, half_setHalf, if_pos ⟨rfl, hlen⟩]
  unfold State.physUnit
  dsimp only
  rw [hhalf]
  have hun : ({ s.half d with written := n :: (s.half d).written } : HalfCtl).uncopied n = false := by
    simp [HalfCtl.uncopied]
  rw [hun, if_neg (by decide)]
  rfl

/-- What marking the unit of address `a` leaves: every byte of the unit reads as before, from where writes go to, and memory
elsewhere is as it was. -/
structure UnitMarked (s : State) (a : Nat) (t : State) : Prop where
  reads : ∀ b, b / 64 = a / 64 → Memory.read t.mem (t.phys b) = Memory.read s.mem (s.phys b)
  elsewhere : ∀ b, b / 64 ≠ t.phys a / 64 → Memory.read t.mem b = Memory.read s.mem b

theorem markWritten_marked (s : State) (a : Nat) :
    UnitMarked s a (markWritten s (a / halfBytes) (a % halfBytes / 64)) := by
  rw [markWritten_eq]
  by_cases h : s.copiesFirst (a / halfBytes) (a % halfBytes / 64) = true
  · rw [if_pos h]
    have hto := physUnit_marked h
    have hfrom := physUnit_copiesFirst h
    have hphys : ∀ b, b / 64 = a / 64 → (marked s (a / halfBytes) (a % halfBytes / 64)).phys b =
        capAddr (a / halfBytes) (s.target (a / halfBytes) (a % halfBytes / 64) * 64 + b % 64) := fun b hb => by
      rw [phys_sameUnit _ hb, hto]
    have hmem : (marked s (a / halfBytes) (a % halfBytes / 64)).mem =
        Memory.writeN s.mem (capAddr (a / halfBytes) (s.target (a / halfBytes) (a % halfBytes / 64) * 64))
          (Memory.readN s.mem (capAddr (a / halfBytes) (a % halfBytes / 64 * 64)) 64) := rfl
    refine ⟨fun b hb => ?_, fun b hb => ?_⟩
    · rw [hphys b hb, hmem, phys_sameUnit s hb, hfrom]
      obtain ⟨-, h1, -⟩ := capAddr_unit (a / halfBytes) (s.target (a / halfBytes) (a % halfBytes / 64)) (b % 64) (Nat.mod_lt _ (by decide))
      obtain ⟨-, h2, -⟩ := capAddr_unit (a / halfBytes) (a % halfBytes / 64) (b % 64) (Nat.mod_lt _ (by decide))
      rw [h1, h2]
      exact read_copied _ _ _ (Nat.mod_lt _ (by decide))
    · rw [hphys a rfl] at hb
      obtain ⟨h1, -, h3⟩ := capAddr_unit (a / halfBytes) (s.target (a / halfBytes) (a % halfBytes / 64)) (a % 64) (Nat.mod_lt _ (by decide))
      rw [h1] at hb
      rw [hmem]
      refine Memory.read_writeN_ne _ _ _ _ ?_
      rw [readN_length]
      generalize capAddr (a / halfBytes) (s.target (a / halfBytes) (a % halfBytes / 64) * 64) = m at hb h3 ⊢
      omega
  · rw [if_neg h]
    exact ⟨fun _ _ => rfl, fun _ _ => rfl⟩

/-- Between `s` and `t` only memory and its controllers changed. -/
def StoreOnly (s t : State) : Prop := t = { s with mem := t.mem, halves := t.halves, hbm := t.hbm }

theorem StoreOnly.trans (h : StoreOnly s t) (h' : StoreOnly t u) : StoreOnly s u := by
  rw [StoreOnly] at h h' ⊢
  rw [h', h]

theorem markWritten_storeOnly (s : State) (d n : Nat) : StoreOnly s (markWritten s d n) := by
  rw [markWritten_eq]
  split
  · rfl
  · rfl

/-! ### The store -/

/-- What a store inside the unit of address `a` leaves (R302). -/
structure UnitStored (s : State) (a : Nat) (bs : List Byte) (t : State) : Prop where
  rest : StoreOnly s t
  stored : t.peekN a bs.length = bs
  elsewhere : ∀ b, b / 64 ≠ t.phys a / 64 → Memory.read t.mem b = Memory.read s.mem b
  beside : ∀ b, b / 64 = a / 64 → (b < a ∨ a + bs.length ≤ b) → t.peek b = s.peek b

theorem storePart_eq (hl : s.lostUnit a = false) (hn : bs.length < 64) : storePart s (a, bs) =
    (let w := markWritten (wakePc s (a / halfBytes) (unitPc (s.target (a / halfBytes) (a % halfBytes / 64)))) (a / halfBytes)
      (a % halfBytes / 64)
    { w with mem := Memory.writeN w.mem (w.phys a) bs }) := by
  unfold storePart
  dsimp only
  rw [if_neg (by rw [hl]; decide), if_neg (by omega)]
  rfl

theorem phys_withMem (s : State) (m : List Host.Cell) (a : Nat) : ({ s with mem := m } : State).phys a = s.phys a := by
  unfold State.phys
  rfl

theorem phys_mod (s : State) (a : Nat) : s.phys a % 64 = a % 64 := by
  have hlt : a % 64 < 64 := Nat.mod_lt _ (by decide)
  obtain ⟨-, h1, h2⟩ := capAddr_unit (a / halfBytes) (s.physUnit (a / halfBytes) (a % halfBytes / 64)) (a % 64) hlt
  rw [phys_sameUnit s rfl, h1]
  omega

theorem storePart_stored (hl : s.lostUnit a = false) (hn : bs.length < 64) (hu : a % 64 + bs.length ≤ 64) :
    UnitStored s a bs (storePart s (a, bs)) := by
  rw [storePart_eq hl hn]
  dsimp only
  have hwake := awoken_wakePc s (a / halfBytes) (unitPc (s.target (a / halfBytes) (a % halfBytes / 64)))
  have hobjs := objs_wakePc s (a / halfBytes) (unitPc (s.target (a / halfBytes) (a % halfBytes / 64)))
  generalize wakePc s (a / halfBytes) (unitPc (s.target (a / halfBytes) (a % halfBytes / 64))) = v at hwake hobjs ⊢
  have hmark := markWritten_marked v a
  have honly := markWritten_storeOnly v (a / halfBytes) (a % halfBytes / 64)
  generalize markWritten v (a / halfBytes) (a % halfBytes / 64) = w at hmark honly ⊢
  have hmem : v.mem = s.mem := (congrArg State.mem (hwake.control hobjs)).trans rfl
  have hv : StoreOnly s v := by
    rw [StoreOnly, hmem]
    exact hwake.control hobjs
  have hmod := phys_mod w a
  have hphys := phys_withMem w (Memory.writeN w.mem (w.phys a) bs)
  refine ⟨hv.trans (honly.trans rfl), ?_, fun b hb => ?_, fun b hb hne => ?_⟩
  · rw [State.peekN, hphys]
    exact Memory.readN_writeN bs w.mem (w.phys a)
  · rw [hphys] at hb
    refine (Memory.read_writeN_ne _ _ _ _ ?_).trans ((hmark.elsewhere b hb).trans (by rw [hmem]))
    omega
  · have hpeek : v.peek b = s.peek b := congrFun (hwake.peek hobjs) b
    have hw : Memory.read w.mem (w.phys b) = v.peek b := hmark.reads b hb
    rw [← hpeek, ← hw, State.peek, hphys]
    refine Memory.read_writeN_ne _ _ _ _ ?_
    obtain ⟨-, h1, -⟩ := capAddr_unit (a / halfBytes) (w.physUnit (a / halfBytes) (a % halfBytes / 64)) (b % 64) (Nat.mod_lt _ (by decide))
    obtain ⟨-, h2, -⟩ := capAddr_unit (a / halfBytes) (w.physUnit (a / halfBytes) (a % halfBytes / 64)) (a % 64) (Nat.mod_lt _ (by decide))
    rw [phys_sameUnit w hb, phys_sameUnit w rfl, h1, h2]
    omega

/-! ### Writes at an address (R283, R286) -/

theorem resolve_inHalf {x : Nat} (h : s.resolve x = some (a, false)) : a = x := by
  unfold State.resolve at h
  generalize (0x8000000000 : Nat) = base at h
  generalize (0x2000000000 : Nat) = size at h
  split at h
  · exact (congrArg Prod.fst (Option.some.inj h)).symm
  · dsimp only at h
    split at h
    · exact absurd h (by simp)
    · split at h
      · split at h
        · split at h
          · exact absurd (congrArg Prod.snd (Option.some.inj h)) (by simp)
          · exact absurd h (by simp)
        · exact absurd h (by simp)
      · exact absurd h (by simp)

theorem unitParts_one (h0 : bs ≠ []) (hu : a % 64 + bs.length ≤ 64) (hn : bs.length < 64) :
    unitParts (bs.length / 64 + 2) a bs = [(a, bs)] := by
  have hlen : bs.length / 64 + 2 = 2 := by omega
  have hempty : bs.isEmpty = false := by
    cases bs with
    | nil => exact absurd rfl h0
    | cons => rfl
  rw [hlen, unitParts, hempty]
  dsimp only
  rw [List.take_of_length_le (by omega), List.drop_eq_nil_of_le (by omega)]
  rfl

/-- A write over any map of addresses and any store: the kernel would otherwise evaluate both, whose bounds are products with
large numerals. -/
def writeBy (resolve : State → Nat → Option (Nat × Bool)) (store : State → Nat × List Byte → State) (s : State)
    (l : List (Nat × List Byte)) : State :=
  l.foldl (fun s p => match resolve s p.1 with
    | some (c, false) => store s (c, p.2)
    | _ => badAccess s) s

theorem writeMem_eq_by (s : State) (a : Nat) (bs : List Byte) :
    writeMem s a bs = writeBy State.resolve storePart s (unitParts (bs.length / 64 + 2) a bs) := by
  obtain ⟨resolve, hr⟩ : ∃ r, r = State.resolve := ⟨_, rfl⟩
  unfold writeMem writeBy
  rw [← hr] <;> rfl

theorem writeBy_one {resolve : State → Nat → Option (Nat × Bool)} {store : State → Nat × List Byte → State}
    (hr : resolve s a = some (b, false)) : writeBy resolve store s [(a, bs)] = store s (b, bs) := by
  unfold writeBy
  rw [List.foldl_cons, List.foldl_nil, hr]

theorem writeMem_unit (hr : s.resolve a = some (a, false)) (h0 : bs ≠ []) (hu : a % 64 + bs.length ≤ 64) (hn : bs.length < 64) :
    writeMem s a bs = storePart s (a, bs) := by
  rw [writeMem_eq_by, unitParts_one h0 hu hn]
  exact writeBy_one hr

end Sys2Proof.Machine
end

section
/-! ## Writes of an open port (R318, R319, R322), and O42 -/

namespace Sys2Proof.Machine

variable {s t u v w : State} {p c a : Nat} {x : Port} {bs : List Byte}

/-! ### Capture memory -/

theorem dpWrite_memory (hx : kvGet s.ports p = some x) (ht : x.target = 2) (hs : s.dpStop p c (dpId p c false) x bs.length = none)
    (hlen : s.dp (dpId p c false) dpOffset + bs.length < s.dp (dpId p c false) dpLength) (h0 : bs ≠ [])
    (hw : (s.capWindow (ownerOf p) (x.select + s.dp (dpId p c false) dpOffset) bs.length true).isSome = true) :
    dpWrite s p c false bs = .ok (dpAdvance (writeMem s (x.select + s.dp (dpId p c false) dpOffset) bs) (dpId p c false) bs.length) := by
  have hport : kvGet s.ports (dpId p c false).key = some x := hx
  have htake : bs.take (s.dp (dpId p c false) dpLength - s.dp (dpId p c false) dpOffset) = bs := List.take_of_length_le (by omega)
  unfold dpWrite
  dsimp only
  rw [need_pos s (dpAdmitted (fun h => absurd h Bool.false_ne_true)), hport]
  dsimp only
  rw [hs]
  dsimp only
  rw [htake, ht]
  refine (need_pos s (c := bs == [] || (s.capWindow (ownerOf p) (x.select + s.dp (dpId p c false) dpOffset) bs.length true).isSome)
    (by rw [hw, Bool.or_true]) .notWritable _).trans ?_
  exact congrArg (fun u => Acc.ok (dpAdvance u (dpId p c false) bs.length)) (if_neg h0)

theorem dpAdvance_stored {q : DpId} {n : Nat} (h : StoreOnly s t) (hlen : s.dp q dpOffset + n < s.dp q dpLength) :
    dpAdvance t q n = t.setDp q dpOffset (s.dp q dpOffset + n) := by
  have hdp : ∀ j, t.dp q j = s.dp q j := fun j => by
    rw [h]
    rfl
  rw [dpAdvance_within (by rw [hdp, hdp]; exact hlen), hdp]

/-- The state that a write of a port leaves. -/
theorem portWrite_settled (h : StoreOnly s.turned t) (o : Nat) :
    (settle (t.setDp (dpId p c false) dpOffset o)).obj p O.DP_OFFSET = ofN o ∧
    OnlyObjs [objKey p O.DP_OFFSET] { s with
      mem := (settle (t.setDp (dpId p c false) dpOffset o)).mem
      halves := (settle (t.setDp (dpId p c false) dpOffset o)).halves
      hbm := (settle (t.setDp (dpId p c false) dpOffset o)).hbm } (settle (t.setDp (dpId p c false) dpOffset o)) := by
  refine ⟨(obj_settle_of _ p O.DP_OFFSET (by decide) (by decide)).trans (State.obj_setObj_self _ _ _ _), ?_⟩
  rw [settle_mem, settle_halves, settle_hbm]
  have hframe : OnlyObjs [objKey p O.DP_OFFSET] { s with mem := t.mem, halves := t.halves, hbm := t.hbm } t := by
    rw [StoreOnly] at h
    generalize t.mem = m at h ⊢
    generalize t.halves = hs at h ⊢
    generalize t.hbm = k at h ⊢
    rw [h]
    exact onlyObjs_congr _ rfl rfl rfl
  exact (hframe.put List.mem_cons_self _).settled

theorem phys_congr (hh : t.halves = s.halves) (a : Nat) : t.phys a = s.phys a := by
  unfold State.phys State.physUnit State.half
  rw [hh]

theorem peek_congr (hh : t.halves = s.halves) (hm : t.mem = s.mem) : t.peek = s.peek ∧ t.peekN = s.peekN := by
  constructor
  · funext a
    rw [State.peek, State.peek, phys_congr hh, hm]
  · funext a n
    rw [State.peekN, State.peekN, phys_congr hh, hm]

theorem lostUnit_turned (s : State) (a : Nat) : s.lostUnit a = s.turned.lostUnit a := by
  unfold State.lostUnit
  rfl

theorem dpDataWrite_memory (h : Served s p) (hx : kvGet s.ports p = some x) (ht : x.target = 2)
    (hs : s.dpStop p (s.selected p) (dpId p (s.selected p) false) x 8 = none)
    (hlen : (s.obj p O.DP_OFFSET).toNat + 8 < (s.obj p O.DP_LENGTH).toNat)
    (hw : (s.capWindow (ownerOf p) (x.select + (s.obj p O.DP_OFFSET).toNat) 8 true).isSome = true)
    (hr : s.resolve (x.select + (s.obj p O.DP_OFFSET).toNat) = some (a, false)) (hu : a % 64 ≤ 56) (hl : s.lostUnit a = false) (v : Slot) :
    Answers (.dpDataWrite p false v) s fun t =>
      t.peekN a 8 = leBytes 8 v.toNat ∧
      (∀ b, b / 64 ≠ t.phys a / 64 → Memory.read t.mem b = Memory.read s.mem b) ∧
      (∀ b, b / 64 = a / 64 → (b < a ∨ a + 8 ≤ b) → t.peek b = s.peek b) ∧
      t.obj p O.DP_OFFSET = ofN ((s.obj p O.DP_OFFSET).toNat + 8) ∧
      OnlyObjs [objKey p O.DP_OFFSET] { s with mem := t.mem, halves := t.halves, hbm := t.hbm } t := by
  generalize hc : s.selected p = c at *
  have hlen8 : (leBytes 8 v.toNat).length = 8 := leBytes_length _ _
  have hat := resolve_inHalf hr
  rw [← hat] at hr
  have hne : leBytes 8 v.toNat ≠ [] := fun he => by rw [he] at hlen8; exact absurd hlen8 (by decide)
  have hwrite := dpWrite_memory (s := s.turned) (c := c) hx ht (by rw [hlen8]; exact hs) (by rw [hlen8]; exact hlen) hne
    (by rw [hlen8]; exact hw)
  have hunit := writeMem_unit (s := s.turned) (by rw [resolve_turned]; exact hr) hne (by omega) (by omega)
  have hstored := storePart_stored (s := s.turned) (a := a) (bs := leBytes 8 v.toNat) (by rw [← lostUnit_turned]; exact hl) (by omega) (by omega)
  have hoff : x.select + s.turned.dp (dpId p c false) dpOffset = a := hat.symm
  rw [hoff, hunit] at hwrite
  generalize storePart s.turned (a, leBytes 8 v.toNat) = w at hwrite hstored
  have hlen' : s.turned.dp (dpId p c false) dpOffset + 8 < s.turned.dp (dpId p c false) dpLength := hlen
  have hadv := dpAdvance_stored hstored.rest hlen'
  have ho : s.turned.dp (dpId p c false) dpOffset = (s.obj p O.DP_OFFSET).toNat := rfl
  rw [hlen8, hadv, ho] at hwrite
  refine answers_access (by rw [exec_dpDataWrite, execDpDataWrite, hc]) h (dpPort_present s p c false (Or.inr rfl)) hwrite ?_
  obtain ⟨hobj, hframe⟩ := portWrite_settled (p := p) (c := c) hstored.rest ((s.obj p O.DP_OFFSET).toNat + 8)
  have hpk : (settle (w.setDp (dpId p c false) dpOffset ((s.obj p O.DP_OFFSET).toNat + 8))).peek = w.peek ∧
      (settle (w.setDp (dpId p c false) dpOffset ((s.obj p O.DP_OFFSET).toNat + 8))).peekN = w.peekN :=
    peek_congr (settle_halves _) (settle_mem _)
  have hph : (settle (w.setDp (dpId p c false) dpOffset ((s.obj p O.DP_OFFSET).toNat + 8))).phys a = w.phys a :=
    phys_congr (settle_halves _) a
  have hmem : (settle (w.setDp (dpId p c false) dpOffset ((s.obj p O.DP_OFFSET).toNat + 8))).mem = w.mem := settle_mem _
  have hstay := hstored.beside
  rw [peek_turned, hlen8] at hstay
  have hbytes := hstored.stored
  rw [hlen8] at hbytes
  have helse := hstored.elsewhere
  refine ⟨?_, ?_, ?_, hobj, hframe⟩
  · rw [hpk.2]
    exact hbytes
  · rw [hph, hmem]
    exact helse
  · rw [hpk.1]
    exact hstay

/-! ### Staged values (R319) -/

theorem dpWrite_staged (hx : kvGet s.ports p = some x) (ht : x.target = 1) (hw : x.write = true)
    (hs : s.dpStop p c (dpId p c false) x bs.length = none) : dpWrite s p c false bs =
      .ok ((({ s with ports := kvPut s.ports p { x with
        staged := overlay x.staged (s.dp (dpId p c false) dpOffset) bs
        wrote := true } } : State).setDp (dpId p c false) dpLength (overlay x.staged (s.dp (dpId p c false) dpOffset) bs).length).setDp
        (dpId p c false) dpOffset (s.dp (dpId p c false) dpOffset + bs.length)) := by
  have hport : kvGet s.ports (dpId p c false).key = some x := hx
  unfold dpWrite
  dsimp only
  rw [need_pos s (dpAdmitted (fun h => absurd h Bool.false_ne_true)), hport]
  dsimp only
  rw [hs]
  dsimp only
  rw [ht]
  exact need_pos s hw .notWritable _

theorem dpDataWrite_staged (h : Served s p) (hx : kvGet s.ports p = some x) (ht : x.target = 1) (hw : x.write = true)
    (hs : s.dpStop p (s.selected p) (dpId p (s.selected p) false) x 8 = none) (v : Slot) :
    Answers (.dpDataWrite p false v) s fun t =>
      kvGet t.ports p = some { x with staged := overlay x.staged (s.obj p O.DP_OFFSET).toNat (leBytes 8 v.toNat), wrote := true } ∧
      t.obj p O.DP_OFFSET = ofN ((s.obj p O.DP_OFFSET).toNat + 8) ∧ t.mem = s.mem ∧
      OnlyObjs [objKey p O.DP_OFFSET, objKey p O.DP_LENGTH] { s with ports := t.ports } t := by
  generalize hc : s.selected p = c at *
  have hlen8 : (leBytes 8 v.toNat).length = 8 := leBytes_length _ _
  have hwrite := dpWrite_staged (s := s.turned) (c := c) (bs := leBytes 8 v.toNat) hx ht hw (by rw [hlen8]; exact hs)
  rw [hlen8] at hwrite
  refine answers_access (by rw [exec_dpDataWrite, execDpDataWrite, hc]) h (dpPort_present s p c false (Or.inr rfl)) hwrite ?_
  rw [settle_ports, settle_mem]
  generalize hy : ({ x with staged := overlay x.staged (s.turned.dp (dpId p c false) dpOffset) (leBytes 8 v.toNat), wrote := true } : Port) = y
  have hport : OnlyObjs [objKey p O.DP_OFFSET, objKey p O.DP_LENGTH] { s with ports := kvPut s.ports p y }
      { s.turned with ports := kvPut s.ports p y } := onlyObjs_congr _ rfl rfl rfl
  refine ⟨?_, ?_, rfl, ?_⟩
  · rw [← hy]
    exact kvGet_kvPut_self _ _ _
  · exact (obj_settle_of _ p O.DP_OFFSET (by decide) (by decide)).trans (State.obj_setObj_self _ _ _ _)
  · exact ((hport.put (j := p) (k := O.DP_LENGTH) (by simp) _).put (j := p) (k := O.DP_OFFSET) (by simp) _).settled

/-- Settles O42: an open or a close goes through the checks of its port one after the other; a read or a write of an open port moves
the cursor, and the write of eight bytes in one unit is the store of that unit's half. -/
theorem dataPorts : Obligations.DataPorts := by
  refine ⟨?_, ?_, ?_⟩
  · intro s p k h c q hk
    refine ⟨fun hn => ⟨?_, ?_, ?_, ?_, ?_⟩, ?_, ?_⟩
    · exact fun he => dpOpen_opens h hk hn he
    · exact fun e es he => dpOpen_fails h hk hn he
    · exact dpClose_none h hk hn
    · exact fun v => dpDataWrite_none h hk hn v
    · exact fun es => dpDataRead_none h hk hn es
    · exact fun x hx hw => dpClose_closes h hk hx hw
    · exact fun x v hx ht hs => dpDataWrite_readOnly h hk v hx ht hs
  · rintro s p k h rfl ho
    exact dpCmd_rejected h ho
  · intro s p x h hx c o m hs hlen
    refine ⟨?_, ?_, ?_⟩
    · exact fun hclean hres => dpDataRead_answers h hx hs hlen hclean hres
    · exact fun v a ht hw hr hu hl => dpDataWrite_memory h hx ht hs hlen hw hr hu hl v
    · exact fun v ht hw => dpDataWrite_staged h hx ht hw hs v

end Sys2Proof.Machine
end

section
/-! ## Commands of the power state (R491, R493, R495) -/

namespace Sys2Proof.Machine

variable {s t u : State} {p : Nat}

/-! ### What a command does -/

theorem powerCmd_stranger (ho : ownerOf p ≠ s.steward) (v : Slot) : powerCmd s p v = (s, some .noPermission) := stewardOnly_neg ho _

theorem powerCmd_moving (ho : ownerOf p = s.steward) (hp : s.get O.POWER_PHASE ≠ 0) {v : Slot} (hv : 1 ≤ v.toNat ∧ v.toNat ≤ 3) :
    powerCmd s p v = (s, some .presentState) := by
  unfold powerCmd
  rw [stewardOnly_pos ho, need_pos s (decide_eq_true hv), need_neg (beq_false_of_ne hp)]

theorem powerCmd_deep (ho : ownerOf p = s.steward) (hp : s.get O.POWER_PHASE = 0) : powerCmd s p 1 = .ok (beginEntry s 3) := by
  unfold powerCmd
  rw [stewardOnly_pos ho, need_pos s (by decide), need_pos s (beq_iff_eq.mpr hp)]
  rfl

theorem powerCmd_watch (ho : ownerOf p = s.steward) (hp : s.get O.POWER_PHASE = 0) :
    powerCmd s p 2 = .ok (if s.dev = .watch then s else beginEntry s 1) := by
  unfold powerCmd
  rw [stewardOnly_pos ho, need_pos s (by decide), need_pos s (beq_iff_eq.mpr hp)]
  rfl

/-- The request of a command that leaves Watch (R495). -/
def leaveReq (t : Nat) : WakeReq := { at_ := t, cause := 1, input := 0xFF }

theorem powerCmd_leave (ho : ownerOf p = s.steward) (hp : s.get O.POWER_PHASE = 0) :
    powerCmd s p 3 = need (s.dev == .watch) .presentState s fun s => .ok (beginWake s [leaveReq s.now]) := by
  unfold powerCmd
  rw [stewardOnly_pos ho, need_pos s (by decide), need_pos s (beq_iff_eq.mpr hp)]
  rfl

/-! ### The rejections -/

/-- The value of POWER_CMD that a command writes. -/
theorem exec_powerCmd {i : Instr} (hi : i = Instr.enterDeep p ∨ i = .enterWatch p ∨ i = .leaveWatch p) :
    ∃ v : Slot, (1 ≤ v.toNat ∧ v.toNat ≤ 3) ∧ exec i s = done (access s p O.POWER_CMD fun s => powerCmd s p v) := by
  rcases hi with rfl | rfl | rfl
  · exact ⟨1, by decide, rfl⟩
  · exact ⟨2, by decide, rfl⟩
  · exact ⟨3, by decide, rfl⟩

theorem powerCmd_present (s : State) : s.missing (O.POWER_CMD / 256) (O.POWER_CMD % 256) = none := rfl

theorem power_stranger (h : Served s p) (ho : ownerOf p ≠ s.steward) {i : Instr}
    (hi : i = Instr.enterDeep p ∨ i = .enterWatch p ∨ i = .leaveWatch p) :
    Answers i s fun t => Rejected s t p O.POWER_CMD 2 .noPermission := by
  obtain ⟨v, -, he⟩ := exec_powerCmd (s := s) hi
  exact rejected_access he h (powerCmd_present s) (powerCmd_stranger (s := s.turned) ho v)

theorem power_moving (h : Served s p) (ho : ownerOf p = s.steward) (hp : s.get O.POWER_PHASE ≠ 0) {i : Instr}
    (hi : i = Instr.enterDeep p ∨ i = .enterWatch p ∨ i = .leaveWatch p) :
    Answers i s fun t => Rejected s t p O.POWER_CMD 2 .presentState := by
  obtain ⟨v, hv, he⟩ := exec_powerCmd (s := s) hi
  exact rejected_access he h (powerCmd_present s) (powerCmd_moving (s := s.turned) ho hp hv)

theorem leaveWatch_ready (h : Served s p) (ho : ownerOf p = s.steward) (hp : s.get O.POWER_PHASE = 0) (hd : s.dev ≠ .watch) :
    Answers (.leaveWatch p) s fun t => Rejected s t p O.POWER_CMD 2 .presentState := by
  refine rejected_access (by rw [exec_leaveWatch]; rfl) h (powerCmd_present s) ?_
  exact (powerCmd_leave (s := s.turned) ho hp).trans (need_neg (beq_false_of_ne hd) _ _)

/-! ### Entries -/

theorem waiting_settled (s : State) (n : Nat) (e : Nat × Nat) :
    OnlyObjs [] (s.waitingAt n e) (settle (s.turned.waitingAt n e)) :=
  (onlyObjs_congr [] (s := s.waitingAt n e) (t := s.turned.waitingAt n e) rfl rfl rfl).settled

theorem entering_waits (s : State) {phase : Nat} (hm : s.alloyMoves = true) :
    OnlyObjs [] (s.waiting phase) (settle (beginEntry s.turned phase)) := by
  rw [beginEntry_eq, if_pos (by exact hm)]
  exact waiting_settled s (s.now / 48) (phase, (s.power.entry.map Prod.snd).getD (s.now + 96000000))

theorem entering_stops (s : State) {phase : Nat} (hm : s.alloyMoves = false) :
    let t := settle (beginEntry s.turned phase)
    t.get O.POWER_PHASE = ofN phase ∧ t.power.entry = none ∧ t.power.entryAt = s.now / 48 ∧ t.test = none ∧
    t.testNext = none ∧ t.testDue = [] ∧ SuspendsAll s t := by
  have hfalse : ¬ s.turned.alloyMoves = true := fun ht => absurd (hm.symm.trans ht) (by decide)
  dsimp only
  rw [beginEntry_eq, if_neg hfalse]
  have hq := (quiesce_quiesced s.turned.entering phase).settled
  generalize settle (quiesce s.turned.entering phase) = t at hq ⊢
  obtain ⟨htest, hnext, hdue⟩ := hq.tests
  refine ⟨hq.phase, ?_, ?_, htest, hnext, hdue, fun c x hx => hq.suspends c x hx⟩
  · rw [hq.power]
  · rw [hq.power]
    rfl

theorem enterDeep_answers (h : Served s p) (ho : ownerOf p = s.steward) (hp : s.get O.POWER_PHASE = 0) {P : State → Prop}
    (hP : P (settle (beginEntry s.turned 3))) : Answers (.enterDeep p) s P :=
  answers_access (by rw [exec_enterDeep]; rfl) h (powerCmd_present s) (powerCmd_deep (s := s.turned) ho hp) hP

theorem enterWatch_answers (h : Served s p) (ho : ownerOf p = s.steward) (hp : s.get O.POWER_PHASE = 0) (hd : s.dev ≠ .watch)
    {P : State → Prop} (hP : P (settle (beginEntry s.turned 1))) : Answers (.enterWatch p) s P := by
  refine answers_access (by rw [exec_enterWatch]; rfl) h (powerCmd_present s) (powerCmd_watch (s := s.turned) ho hp) ?_
  rwa [if_neg (by exact hd)]

theorem enterWatch_there (h : Served s p) (ho : ownerOf p = s.steward) (hp : s.get O.POWER_PHASE = 0) (hd : s.dev = .watch) :
    Answers (.enterWatch p) s fun t => OnlyObjs [] s t := by
  refine answers_access (by rw [exec_enterWatch]; rfl) h (powerCmd_present s) (powerCmd_watch (s := s.turned) ho hp) ?_
  rw [if_pos (by exact hd)]
  exact (onlyObjs_turned []).settled

/-! ### Wakes (R495) -/

/-- Only the power sequencer changed. -/
def PowerOnly (s t : State) : Prop := t = { s with power := t.power }

theorem powerOnly_refl (s : State) : PowerOnly s s := rfl

theorem PowerOnly.trans (h : PowerOnly s t) (h' : PowerOnly t u) : PowerOnly s u := by
  rw [PowerOnly] at h h' ⊢
  rw [h', h]

/-- A queued start changes its domain and the queue. -/
theorem queueStart_powerOnly (s : State) (x : Nat) : PowerOnly s (queueStart s x) ∧
    ((queueStart s x).power.wakeAt = s.power.wakeAt ∧ (queueStart s x).power.deepFrom = s.power.deepFrom ∧
      (queueStart s x).power.deepExit = s.power.deepExit ∧ (queueStart s x).power.wakePin = s.power.wakePin ∧
      (queueStart s x).power.startKind = s.power.startKind ∧ (queueStart s x).power.startCause = s.power.startCause) := by
  unfold queueStart State.setDomain
  split
  · exact ⟨rfl, rfl, rfl, rfl, rfl, rfl, rfl⟩
  · exact ⟨rfl, rfl, rfl, rfl, rfl, rfl, rfl⟩

theorem foldl_queueStart_powerOnly (l : List Nat) (s : State) : PowerOnly s (l.foldl queueStart s) ∧
    ((l.foldl queueStart s).power.wakeAt = s.power.wakeAt ∧ (l.foldl queueStart s).power.deepFrom = s.power.deepFrom ∧
      (l.foldl queueStart s).power.deepExit = s.power.deepExit ∧ (l.foldl queueStart s).power.wakePin = s.power.wakePin ∧
      (l.foldl queueStart s).power.startKind = s.power.startKind ∧ (l.foldl queueStart s).power.startCause = s.power.startCause) := by
  induction l generalizing s with
  | nil => exact ⟨rfl, rfl, rfl, rfl, rfl, rfl, rfl⟩
  | cons x l ih =>
    obtain ⟨hx, hx1, hx2, hx3, hx4, hx5, hx6⟩ := queueStart_powerOnly s x
    obtain ⟨hl, hl1, hl2, hl3, hl4, hl5, hl6⟩ := ih (queueStart s x)
    exact ⟨hx.trans hl, hl1.trans hx1, hl2.trans hx2, hl3.trans hx3, hl4.trans hx4, hl5.trans hx5, hl6.trans hx6⟩

/-- What the wake on request `r` leaves (R495). -/
structure Waking (r : WakeReq) (s t : State) : Prop where
  phase : t.get O.POWER_PHASE = 2
  cause : t.get O.WAKE_CAUSE = ofN r.cause
  input : t.get O.WAKE_INPUT = ofN r.input
  touch : t.get O.WAKE_TM = tmOf ((r.at_ + 24) / 48 * 48)
  since : t.power.wakeAt = r.at_
  frame : WakeOnly s t

/-- The record of a wake, with its phase. -/
def wakeNoted (s : State) (r : WakeReq) : State := (wakeRecord s r).put O.POWER_PHASE 2

theorem wakeNoted_objs (s : State) (r : WakeReq) :
    (wakeNoted s r).get O.POWER_PHASE = 2 ∧ (wakeNoted s r).get O.WAKE_CAUSE = ofN r.cause ∧
    (wakeNoted s r).get O.WAKE_INPUT = ofN r.input ∧ (wakeNoted s r).get O.WAKE_TM = tmOf ((r.at_ + 24) / 48 * 48) := by
  have hne : ∀ (u : State) {k k' : Nat} (v : Slot), k' ≠ k → (u.put k v).get k' = u.get k' := fun u k k' v h =>
    State.obj_setObj_ne _ _ _ _ _ _ (objKey_ne 0 h)
  have hself : ∀ (u : State) (k : Nat) (v : Slot), (u.put k v).get k = v := fun u k v => State.obj_setObj_self _ _ _ _
  unfold wakeNoted wakeRecord
  dsimp only
  refine ⟨hself _ _ _, ?_, ?_, ?_⟩
  · rw [hne _ _ (by decide), hne _ _ (by decide), hne _ _ (by decide), hne _ _ (by decide), hself]
  · rw [hne _ _ (by decide), hne _ _ (by decide), hne _ _ (by decide), hself]
  · rw [hne _ _ (by decide), hne _ _ (by decide), hself]

theorem beginWake_one (s : State) (r : WakeReq) : ∃ l q : List Nat, beginWake s [r] =
    q.foldl queueStart { wakeNoted s r with power := { s.power with
      wakeAt := r.at_
      wakeKept := []
      wakeReqs := [r]
      wakeList := l } } := ⟨_, _, rfl⟩

theorem beginWake_wakes (s : State) (r : WakeReq) : Waking r s (settle (beginWake s [r])) := by
  obtain ⟨l, q, he⟩ := beginWake_one s r
  obtain ⟨hphase, hcause, hinput, htouch⟩ := wakeNoted_objs s r
  have hframe := beginWake_only s [r]
  rw [he] at hframe ⊢
  generalize hp : ({ s.power with
    wakeAt := r.at_
    wakeKept := []
    wakeReqs := [r]
    wakeList := l } : Power) = x at hframe ⊢
  have hat : x.wakeAt = r.at_ := by rw [← hp]
  generalize wakeNoted s r = w at hphase hcause hinput htouch hframe ⊢
  obtain ⟨hq, hwake, -⟩ := foldl_queueStart_powerOnly q { w with power := x }
  generalize q.foldl queueStart { w with power := x } = v at hq hwake hframe ⊢
  have hobj : ∀ k, v.get k = w.get k := fun k => by
    rw [hq]
    rfl
  have hset : ∀ k, k < 2 ^ 24 → k ∉ settleObjs → (settle v).get k = w.get k := fun k hk hs =>
    (obj_settle_of v 0 k hk hs).trans (hobj k)
  refine ⟨?_, ?_, ?_, ?_, ?_, ?_⟩
  · exact (hset _ (by decide) (by decide)).trans hphase
  · exact (hset _ (by decide) (by decide)).trans hcause
  · exact (hset _ (by decide) (by decide)).trans hinput
  · exact (hset _ (by decide) (by decide)).trans htouch
  · rw [settle_power, hwake]
    exact hat
  · exact hframe.settled

theorem WakeOnly.of_turned (h : WakeOnly s.turned t) : WakeOnly s t := WakeOnly.trans (onlyObjs_turned wakeKeys) h

theorem leaveWatch_wakes (h : Served s p) (ho : ownerOf p = s.steward) (hp : s.get O.POWER_PHASE = 0) (hd : s.dev = .watch) :
    Answers (.leaveWatch p) s fun t => Waking (leaveReq s.now) s t := by
  have hcmd : powerCmd s.turned p 3 = .ok (beginWake s.turned [leaveReq s.now]) :=
    (powerCmd_leave (s := s.turned) ho hp).trans (need_pos s.turned (beq_iff_eq.mpr hd) _ _)
  refine answers_access (by rw [exec_leaveWatch]; rfl) h (powerCmd_present s) hcmd ?_
  obtain ⟨hphase, hcause, hinput, htouch, hsince, hframe⟩ := beginWake_wakes s.turned (leaveReq s.now)
  exact ⟨hphase, hcause, hinput, htouch, hsince, hframe.of_turned⟩

/-! ### Requests (R491, R495, R509) -/

theorem wakeRequest_wakes (hs : s.starting = false) (hd : s.dev = .watch) (hp : s.get O.POWER_PHASE = 0) (cause n : Nat) :
    wakeRequest s cause n = beginWake s [{ at_ := s.now, cause, input := n }] := by
  unfold wakeRequest
  dsimp only
  rw [if_neg (by rw [hs]; decide), if_pos ⟨hd, hp⟩]

/-- The state that keeps a wake request. -/
def State.keeping (s : State) (r : WakeReq) : State := { s with power := { s.power with wakeKept := s.power.wakeKept ++ [r] } }

theorem wakeRequest_keeps (hs : s.starting = false) (hp : s.get O.POWER_PHASE = 1) (cause n : Nat) :
    wakeRequest s cause n = s.keeping { at_ := s.now, cause, input := n } := by
  have h0 : ¬ (s.dev = .watch ∧ s.get O.POWER_PHASE = 0) := fun h => absurd (hp.symm.trans h.2) (by decide)
  unfold wakeRequest
  dsimp only
  rw [if_neg (by rw [hs]; decide), if_neg h0, if_pos (.inl hp)]
  rfl

theorem wakeRequest_deep (hp : s.get O.POWER_PHASE = 3) {cause : Nat} (hc : cause ≠ 3) (n : Nat) : wakeRequest s cause n = s := by
  have hne : ∀ v : Slot, v ≠ 3 → s.get O.POWER_PHASE ≠ v := fun v hv h => hv (h.symm.trans hp)
  unfold wakeRequest
  dsimp only
  split
  · rfl
  · rw [if_neg fun h => hne 0 (by decide) h.2, if_neg, if_neg fun h => hne 2 (by decide) h.1]
    rintro (h1 | h3)
    · exact hne 1 (by decide) h1
    · exact hc h3.2.1

end Sys2Proof.Machine
end

section
/-! ## A second sparing of a half (R301, R302) -/

namespace Sys2Proof.Machine

/-- A half that redirects pseudo-channel 1 into the reserve while its sparing state reads 0, a byte of the reserve that
stands in for one of that pseudo-channel being 1. -/
def redirectsUnnoted : State :=
  { smallReset with
    halves := smallReset.halves.set 0 { spared := some 1 }
    mem := [(capAddr 0 (spareUnit 1 1 * 64), 1)] }

theorem peek_redirected : redirectsUnnoted.peek (capAddr 0 64) = 1 := by decide

theorem peek_afterStall : valueAfter (fun t => t.peek (capAddr 0 64)) 0 (.stagingStall 0 ⟨0, []⟩) redirectsUnnoted = 0 := by
  decide

/-- Refutes O40: it bounds neither `spared` by `spare` nor the other way. A stall that spares pseudo-channel 0 of
`redirectsUnnoted` ends the redirection of pseudo-channel 1, whose units then read from their failed pseudo-channel, where
the clause on staged writes has every byte below the reserve read as before. -/
theorem not_memoryControl : ¬ Obligations.MemoryControl := by
  unfold Obligations.MemoryControl
  rintro ⟨-, -, -, -, -, hsparing, -⟩
  obtain ⟨-, -, hspare⟩ := hsparing redirectsUnnoted 0 0 (by decide) (by decide) (by decide)
  obtain ⟨-, hstaged, -⟩ := hspare (by decide) (by decide)
  obtain ⟨-, hstall, -⟩ := hstaged rfl rfl rfl
  obtain ⟨t, ht, -, -, hpeek⟩ := hstall []
  have h := (peek_afterStall.symm.trans (valueAfter_of_next ht)).trans ((hpeek 64 (by decide)).trans peek_redirected)
  revert h
  decide

end Sys2Proof.Machine
end

section
/-! ## What the end of a command delivers (R31, R342)

The end of a command brings the Ready and Armed states in line with the contexts, and that change is a pulse. Where a route
takes it to a masked vector, the vector's pending bit sets in whatever command the change falls. -/

namespace Sys2Proof.Machine

/-- A module that reads Ready while a context is Armed, and a route that takes the change to vector 0 of LD 0, which is
masked. -/
def changeWaits : State :=
  { smallReset with
    ctxs := [(0, { st := .armed, owner := 16 })]
    routes := [(0, { owner := 0, source := sourceWord 7 1 0, dest := 0x10000000, enable := true })]
    lds := smallReset.lds.set 0 { st := .enabled, bme := true, masked := [0] } }

theorem pba_changeWaits : (changeWaits.ld 0).pba = [] := rfl

theorem pba_afterRead : valueAfter (fun t => (t.ld 0).pba) [] (.cxlmemRead 0 0) changeWaits = [0] := by decide

/-- Refutes O41: a CXL.mem read leaves LD 0 with vector 0 pending, by the pulse of the state change at its end, where the
first clause has the LD as before but for the read. -/
theorem not_cxlMemory : ¬ Obligations.CxlMemory := by
  unfold Obligations.CxlMemory
  rintro ⟨hread, -⟩
  obtain ⟨henabled, -⟩ := hread changeWaits 0 0 (by decide) (by decide)
  obtain ⟨t, ht, hld, -⟩ := henabled rfl
  have h := pba_afterRead.symm.trans ((valueAfter_of_next ht).trans ((congrArg Ld.pba hld).trans pba_changeWaits))
  revert h
  decide

/-- `changeWaits` while a firmware package is being verified. -/
def verifyWaits : State := changeWaits.put O.FW_STATE 2

theorem pba_afterVerify : valueAfter (fun t => (t.ld 0).pba) [] .fwVerifyDone verifyWaits = [0] := by decide

/-- Refutes O59: the end of a verification leaves LD 0 with vector 0 pending, by the pulse of the state change at its end,
where its clause has every LD unchanged. -/
theorem not_firmwareAndReports : ¬ Obligations.FirmwareAndReports := by
  unfold Obligations.FirmwareAndReports
  rintro ⟨-, -, hends, -⟩
  obtain ⟨hverify, -⟩ := hends verifyWaits rfl
  obtain ⟨t, ht, -, -, -, -, -, hlds, -⟩ := hverify rfl
  have hpba : (t.ld 0).pba = [] := by
    rw [State.ld, hlds]
    exact pba_changeWaits
  have h := pba_afterVerify.symm.trans ((valueAfter_of_next ht).trans hpba)
  revert h
  decide

end Sys2Proof.Machine
end

section
/-! ## A start on a context that is Empty (R332, R342) -/

namespace Sys2Proof.Machine

/-- An Idle hub channel of the field-bus port, its first descriptor a copy of 64 bytes of a segment to the planisher, its
context Empty. -/
def copiesOfNoContext : State :=
  { smallReset with
    chans := [(0, { st := .idle, owner := 16 })]
    objs := kvSet 0 (kvSet 0 smallReset.objs (objKey 0 (O.MV_DESC_i_w + 2)) (ofN (64 * 2 ^ 48 + 64)))
      (objKey 0 (O.MV_DESC_i_w + 3)) (ofN (0xFF000000 + 0x43)) }

theorem descErr_copiesOfNoContext : copiesOfNoContext.descErr 0 (copiesOfNoContext.obj 0 O.MV_CH_FIRST).toNat = 4 := by
  decide

theorem err_afterStart : valueAfter (fun t => t.obj 0 O.MV_CH_ERR) 0 (.mvStart 32) copiesOfNoContext = 3 := by decide

/-- Refutes O43: a start checks its descriptor with the channel Running, and for a Running channel the context that holds
no segment is error 3, where the clause on a failing start takes the reason of the Idle channel, which is 4. -/
theorem not_movers : ¬ Obligations.Movers := by
  unfold Obligations.Movers
  rintro ⟨-, howned, -⟩
  obtain ⟨hstart, -⟩ := howned copiesOfNoContext 32 0 { st := .idle, owner := 16 } ⟨by decide, rfl, by decide⟩
    (by decide) rfl (by decide)
  obtain ⟨-, hfails⟩ := hstart (.inl rfl) (by decide)
  rw [descErr_copiesOfNoContext] at hfails
  obtain ⟨t, ht, -, herr, -⟩ := hfails (by decide)
  have h := err_afterStart.symm.trans ((valueAfter_of_next ht).trans herr)
  revert h
  decide

end Sys2Proof.Machine
end

section
/-! ## A coverage plane that is none (R386) -/

namespace Sys2Proof.Machine

/-- Settings that show a raster buffer and hold the points of a vector list. -/
def bitmapWithPoints : LayerSet := { kind := 2, handle := 1, w := 8, h := 8, points := [0, 2 ^ 31] }

/-- A running raster engine whose layer 0 waits for the rasterisation of these settings. -/
def rasterisesBitmap : State :=
  { smallReset with
    raster := { smallReset.raster with
      st := 1, layers := smallReset.raster.layers.set 0 { pending := some bitmapWithPoints, ready := false } }
    bufs := [(1, { owner := 16, kind := .raster, die := 0, off := 0, size := 64 })] }

theorem mem_afterRasterise :
    valueAfter (fun t => Memory.read t.mem 0) 0 (.vectorRasterDone ⟨0, []⟩) rasterisesBitmap = 1 := by decide

/-- Refutes O45: settings that wait for their rasterisation need not be those of a vector layer. The pixels of
`bitmapWithPoints` go into the buffer its handle names, where its clause has every byte outside its coverage plane, of
which it has none, as before. -/
theorem not_rasterEngine : ¬ Obligations.RasterEngine := by
  unfold Obligations.RasterEngine
  rintro ⟨-, -, -, -, -, -, -, hvector, -⟩
  obtain ⟨hdone, -⟩ := hvector rasterisesBitmap 0 bitmapWithPoints (by decide) rfl rfl rfl
  obtain ⟨t, ht, -, -, -, -, -, -, -, hmem⟩ := hdone []
  have h0 : Memory.read t.mem 0 = 0 := hmem 0 fun g hg => by simp [bitmapWithPoints] at hg
  have h := mem_afterRasterise.symm.trans ((valueAfter_of_next ht).trans h0)
  revert h
  decide

end Sys2Proof.Machine
end

section
/-! ## The generation of the measurements at its last value (R560) -/

namespace Sys2Proof.Machine

/-- The store empties while the generation of the measurements reads its largest value. -/
def emptiesAtLastGen : State :=
  { smallReset.setObj 0 O.ATTEST_GEN 0xFFFFFFFF with astore := { smallReset.astore with job := some (3, []) } }

theorem gen_afterEmpty : valueAfter (fun t => t.num O.ATTEST_GEN) 0 .astoreLoadDone emptiesAtLastGen = 0 := by decide

/-- Refutes O39: the generation of the measurements wraps to 0 behind 2^32 − 1, where its clause has it saturate there. -/
theorem not_assayBlocks : ¬ Obligations.AssayBlocks := by
  unfold Obligations.AssayBlocks
  rintro ⟨-, -, hload⟩
  obtain ⟨t, ht, -, hgen, -⟩ := hload emptiesAtLastGen 3 [] rfl
  have h := gen_afterEmpty.symm.trans ((valueAfter_of_next ht).trans hgen)
  revert h
  decide

end Sys2Proof.Machine
end

section
/-! ## A link that trains in SLD mode (R211, R118) -/

namespace Sys2Proof.Machine

/-- While the link is down LD 1 is still Enabled; its Armed context has a segment open on input 0, whose die waits for a
boundary to change its lineup. -/
def enabledBesideSld : State :=
  { smallReset with
    lds := smallReset.lds.set 1 { st := .enabled }
    ctxs := [(0, { st := .armed, owner := 1, evals := [0], pending := [{ tm := 0, reached := true }] })]
    dies := smallReset.dies.set 0 { smallReset.die 0 with lineupPending := true } }

theorem wearNow_afterLinkUp :
    valueAfter (fun t => (t.die 0).wearNow) false (.cxlLinkUp 8 32 false false) enabledBesideSld = true := by
  decide +kernel

/-- Refutes O48: a link that trains in SLD mode disables the other LDs, which suspends their contexts; the segment that closes
is a wear-out boundary of the die, where the clause has every die unchanged. -/
theorem not_linkAndDevices : ¬ Obligations.LinkAndDevices := by
  unfold Obligations.LinkAndDevices
  rintro ⟨hup, -⟩
  obtain ⟨-, hwide⟩ := hup enabledBesideSld 8 32 false false (by decide) rfl (by decide)
  obtain ⟨-, -, hsld⟩ := hwide (by decide) (by decide)
  obtain ⟨t, ht, -, -, -, -, -, -, -, -, -, -, hdies, -⟩ := hsld (by decide) (.inl rfl) (by decide)
  have hd : (t.die 0).wearNow = (enabledBesideSld.die 0).wearNow := by rw [State.die, hdies, State.die]
  have h := wearNow_afterLinkUp.symm.trans ((valueAfter_of_next ht).trans hd)
  revert h
  decide

end Sys2Proof.Machine
end

section
/-! ## The communication values of a Reset Communication (R462, R482) -/

namespace Sys2Proof.Machine

/-- An operational port with an open download, whose stored communication values name, beside none of the class, the
object of path 32 that records an abort. -/
def storesAbortRecord : State :=
  { smallReset with can := { smallReset.can with
      nmt := .operational, usdo := some ⟨0x200101, true, 8, [1], 5⟩,
      stored := some [(objKey 32 O.PATH_LAST_ABORT, 5#64)] } }

theorem abortRecord_afterReset :
    valueAfter (fun t => t.obj 32 O.PATH_LAST_ABORT) 0 (.nmtResetCommunication 0) storesAbortRecord = 5#64 := by
  decide +kernel

/-- Refutes O50: Reset Communication records the abort of the open session and then puts every stored value in its place,
so a stored value under the key of the record replaces it. -/
theorem not_networkManagement : ¬ Obligations.NetworkManagement := by
  unfold Obligations.NetworkManagement
  rintro ⟨hnode, -⟩
  obtain ⟨-, -, -, -, -, hreset, -⟩ := hnode storesAbortRecord 0 (by decide) (.inl rfl)
  obtain ⟨t, ht, -, -, -, -, hrecord, -⟩ := hreset (.inl (by decide))
  have h := abortRecord_afterReset.symm.trans ((valueAfter_of_next ht).trans (hrecord _ rfl))
  revert h
  decide

end Sys2Proof.Machine
end

section
/-! ## The values of a start (R425, R482) -/

namespace Sys2Proof.Machine

/-- A report of a start that found bank 0 good and nothing failed. -/
def cleanStart : StartReport := ⟨0, true, true, [], [], [], [], [], [], [], [], [], []⟩

/-- A complete bank, every image's digest the byte `b`. -/
def bankOf (b : Byte) : FwBank :=
  { valid := true
    images := (List.range 6).map fun k => { kind := k + 1, slot := 0, rollback := 0, version := 1, digest := [b] } }

/-- A start after PERST# of a module that ran on bank 1, with a stored communication value under the key of the object that names the kind of the start. -/
def storesBootKind : State :=
  { smallReset with
    starting := true, fw := { smallReset.fw with banks := [bankOf 1#8, bankOf 2#8], inForce := 1 }
    power := { smallReset.power with startKind := 3 }
    can := { smallReset.can with stored := some [(objKey 0 O.BOOT_KIND, 5#64)] } }

theorem bootKind_afterStart :
    valueAfter (fun t => t.num O.BOOT_KIND) 0 (.startComplete cleanStart) storesBootKind = 5 := by
  decide +kernel

/-- Refutes O55: the start writes the kind of the start and initialises the field-bus port after it, which puts every stored
communication value in its place, so a stored value under the key of that object replaces it. -/
theorem not_startsAndMains : ¬ Obligations.StartsAndMains := by
  unfold Obligations.StartsAndMains
  rintro ⟨-, -, -, -, -, hstart, -⟩
  obtain ⟨hup, -⟩ := hstart storesBootKind cleanStart rfl rfl
  obtain ⟨t, ht, -, -, -, hclean⟩ := hup (by decide)
  obtain ⟨-, -, -, -, hkind, -⟩ := hclean rfl
  have h := bootKind_afterStart.symm.trans ((valueAfter_of_next ht).trans hkind)
  revert h
  decide

end Sys2Proof.Machine
end

section
/-! ## A die's loss during an input test (R528, R588) -/

namespace Sys2Proof.Machine

variable {s t : State} {d : Nat}

/-- What of the state decides how the loss of a die goes on. -/
def State.lossView (s : State) : List Input × List (Nat × Ctx) × List (Nat × Chan) × Option InputTest × Option Nat × List Nat × Power × Variant :=
  (s.inputs, s.ctxs, s.chans, s.test, s.testNext, s.testDue, s.power, s.variant)

theorem lossView_leavePass (s : State) (d : Nat) : (leavePass s d).lossView = s.lossView := by
  unfold leavePass
  dsimp only
  split
  · rfl
  · rfl

theorem lossView_tarnish (s : State) (b die input detail code : Nat) : (tarnish s b die input detail code).lossView = s.lossView :=
  (congrArg State.lossView (tarnish_frame s b die input detail code).1 :)

theorem lossView_fields (h : t.lossView = s.lossView) : t.inputs = s.inputs ∧ t.ctxs = s.ctxs ∧ t.chans = s.chans ∧
    t.test = s.test ∧ t.testNext = s.testNext ∧ t.testDue = s.testDue ∧ t.power = s.power ∧ t.variant = s.variant := by
  simpa only [State.lossView, Prod.mk.injEq] using h

theorem passedBy_none (hc : s.ctxs = []) (he : s.power.entry = none) : passedBy s d = s := by
  unfold passedBy rebindAll
  rw [hc]
  unfold resumeEntry
  have hdrop : dropStreams s [] = s := rfl
  rw [List.filter_nil, List.map_nil, List.foldl_nil, hdrop, he]

theorem moverDieLost_none (hc : s.chans = []) : moverDieLost s d = s := by
  unfold moverDieLost
  rw [hc, List.map_nil, List.filter_nil, List.foldl_nil]

theorem homesLost_none (hc : s.ctxs = []) : homesLost s d = s := by
  unfold homesLost State.reachable
  rw [hc, List.filter_nil, List.map_nil, List.filter_nil, List.foldl_nil]

theorem tarnish_planLost (s : State) (x : Nat) : (planLost s x).get O.TARNISH = s.get O.TARNISH := by
  have hkey : ∀ k, k < 2 ^ 24 → k ≠ O.TARNISH → objKey 0 O.TARNISH ≠ objKey x k := fun k hk hne he => by
    simp only [objKey, O.TARNISH] at he hne
    omega
  unfold planLost
  split
  · rw [State.get_eq, obj_pulse_of _ _ _ _ 0 O.TARNISH (by decide) (by decide), State.flag_eq,
      State.obj_setObj_ne _ x O.PL_STATUS 0 O.TARNISH _ (hkey O.PL_STATUS (by decide) (by decide)),
      State.obj_setObj_ne _ x O.PL_ERR 0 O.TARNISH _ (hkey O.PL_ERR (by decide) (by decide))]
    rfl
  · exact State.obj_setObj_ne _ x O.PL_ERR 0 O.TARNISH _ (hkey O.PL_ERR (by decide) (by decide))

theorem tarnish_stackLost (s : State) (d : Nat) : (stackLost s d).get O.TARNISH = s.get O.TARNISH := by
  unfold stackLost
  split
  · rfl
  · rfl

theorem planLost_view (s : State) (x : Nat) : (planLost s x).lossView = s.lossView := by
  have hpulse : ∀ (u : State) (a b n : Nat), (pulse u a b n).lossView = u.lossView := fun u a b n =>
    (congrArg State.lossView (pulse_body u a b n) :)
  unfold planLost
  split
  · rw [hpulse]
    rfl
  · rfl

theorem stackLost_view (s : State) (d : Nat) : (stackLost s d).lossView = s.lossView := by
  unfold stackLost
  split
  · rfl
  · rfl

theorem dieStruck_view (s : State) (d : Nat) : (dieStruck s d).lossView = s.lossView :=
  (lossView_leavePass _ d).trans (lossView_tarnish _ 2 d _ _ _)

/-- What the loss of a die leaves without context, mover and waiting entry, once its input and test are served. -/
theorem lossEnd_tarnish (hc : s.ctxs = []) (hch : s.chans = []) (he : s.power.entry = none) (d x : Nat) :
    (passedBy (stackLost (moverDieLost (planLost s x) d) d) d).get O.TARNISH = s.get O.TARNISH := by
  obtain ⟨-, hc1, hch1, -, -, -, hp1, -⟩ := lossView_fields (planLost_view s x)
  have hplan := tarnish_planLost s x
  generalize planLost s x = v at hc1 hch1 hp1 hplan ⊢
  rw [moverDieLost_none (hch1.trans hch)]
  obtain ⟨-, hc2, -, -, -, -, hp2, -⟩ := lossView_fields (stackLost_view v d)
  rw [passedBy_none (hc2.trans (hc1.trans hc)) (by rw [hp2, hp1, he]), tarnish_stackLost, hplan]

/-- A die whose input is Dark ends the input's test; the test of a Dark input that follows is recorded at once. -/
theorem inputLost_testLost {n m : Nat} (ht : s.test = some { input := n, commanded := false }) (hm : s.testNext = some m)
    (hdue : s.testDue = []) (hserved : s.servedBy d = some n) (hn : (s.input n).st = .dark) (hdark : (s.input m).st = .dark) :
    inputLost (testLost s d) d (some n) = ({ s with test := none, testNext := none } : State).put (O.PTEST_RESULT_n + m) 3 := by
  have htest : testLost s d = ({ s with test := none, testNext := none } : State).put (O.PTEST_RESULT_n + m) 3 := by
    unfold testLost
    rw [ht]
    dsimp only
    rw [if_pos hserved, nextTest_commanded (s := { s with test := none }) rfl hm hdue]
    exact startTest_skipped (Or.inr (Or.inl hdark))
  have hst : ((({ s with test := none, testNext := none } : State).put (O.PTEST_RESULT_n + m) 3).input n).st = .dark := hn
  rw [htest]
  unfold inputLost memberGone
  dsimp only
  rw [hst]

/-- The state in which a die's loss meets a Dark input under test, with the test of a Dark input to follow. -/
structure DarkTests (s : State) (d n m : Nat) : Prop where
  ctxs : s.ctxs = []
  chans : s.chans = []
  entry : s.power.entry = none
  test : s.test = some { input := n, commanded := false }
  next : s.testNext = some m
  due : s.testDue = []
  served : s.servedBy d = some n
  dark : (s.input n).st = .dark
  follows : (s.input m).st = .dark

theorem DarkTests.of_view {n m : Nat} (h : DarkTests s d n m) (hv : t.lossView = s.lossView) : DarkTests t d n m := by
  obtain ⟨hi, hc, hch, ht, hm, hd, hp, hv⟩ := lossView_fields hv
  have hinput : ∀ k, t.input k = s.input k := fun k => by rw [State.input, State.input, hi]
  exact ⟨hc.trans h.ctxs, hch.trans h.chans, by rw [hp, h.entry], ht.trans h.test, hm.trans h.next, hd.trans h.due,
    (servedBy_congr hi hv d).trans h.served, by rw [hinput, h.dark], by rw [hinput, h.follows]⟩

theorem DarkTests.testLost {n m : Nat} (h : DarkTests s d n m) : inputLost (testLost (homesLost s d) d) d (some n) =
    ({ s with test := none, testNext := none } : State).put (O.PTEST_RESULT_n + m) 3 := by
  rw [homesLost_none h.ctxs, inputLost_testLost h.test h.next h.due h.served h.dark h.follows]

/-- The tarnish word after the loss of a die whose input is Dark, where a test of a Dark input follows the one that ends. -/
theorem DarkTests.tarnish {n m : Nat} (h : DarkTests s d n m) :
    (dieGone s d .lost).get O.TARNISH = ((dieStruck s d).put (O.PTEST_RESULT_n + m) 3).get O.TARNISH := by
  have hw := h.of_view (dieStruck_view s d)
  rw [dieGone_eq, h.served]
  generalize dieStruck s d = w at hw ⊢
  rw [hw.testLost, lossEnd_tarnish (s := ({ w with test := none, testNext := none } : State).put _ 3) hw.ctxs hw.chans hw.entry]
  rfl

/-- More inputs than the module has, all Dark and served by die 0, with an input test under way and one that follows. -/
def crowded (s : State) (m : Nat) : State :=
  { s with
    inputs := List.replicate (m + 1) { st := .dark, members := [0] }
    test := some { input := 0, commanded := false }
    testNext := some m }

theorem crowded_input {m k : Nat} (hk : k < m + 1) : (crowded s m).input k = { st := .dark, members := [0] } := by
  have hinputs : (crowded s m).inputs = List.replicate (m + 1) { st := .dark, members := [0] } := rfl
  rw [State.input, hinputs, List.getD_eq_getElem?_getD, List.getElem?_replicate, if_pos hk]
  rfl

theorem crowded_served {m : Nat} (hv : s.variant = .sz2) (hm : 0 < m) : (crowded s m).servedBy 0 = some 0 := by
  have hvc : (crowded s m).variant = .sz2 := hv
  have hD : List.range (crowded s m).D = [0, 1] := by rw [State.D, hvc]; rfl
  unfold State.servedBy
  rw [hD]
  simp only [List.find?_cons, crowded_input (show 0 < m + 1 by omega), crowded_input (show 1 < m + 1 by omega)]
  rfl

theorem darkTests_crowded {m : Nat} (hv : s.variant = .sz2) (hm : 0 < m) (hc : s.ctxs = []) (hch : s.chans = [])
    (he : s.power.entry = none) (hd : s.testDue = []) : DarkTests (crowded s m) 0 0 m where
  ctxs := hc
  chans := hch
  entry := he
  test := rfl
  next := rfl
  due := hd
  served := crowded_served hv hm
  dark := congrArg Input.st (crowded_input (Nat.succ_pos m))
  follows := congrArg Input.st (crowded_input (Nat.lt_succ_self m))

/-- The number of the input whose test result would stand in the tarnish word. -/
abbrev tarnishInput : Nat := 2932480

theorem exec_dieLost_active {d : Nat} (hD : d < s.D) (ha : (s.die d).st = .active) (hr : s.restarting = false) :
    exec (.dieLost d) s = done (dieGone (s.countSat 0 (O.HB_MISSES_d + d) 32 6) d .lost) := by
  rw [exec_dieLost, execDieLost, if_pos ⟨hD, Or.inl ha⟩]
  exact congrArg done (dieLost_active (s := s.countSat 0 (O.HB_MISSES_d + d) 32 6) hD ha hr)

/-- The result of the test that follows stands in the tarnish word. -/
theorem crowded_overwritten :
    (dieGone ((crowded smallReset tarnishInput).countSat 0 (O.HB_MISSES_d + 0) 32 6) 0 .lost).get O.TARNISH = 3 := by
  have hdark : DarkTests ((crowded smallReset tarnishInput).countSat 0 (O.HB_MISSES_d + 0) 32 6) 0 0 tarnishInput :=
    (darkTests_crowded (s := smallReset) rfl (by decide) rfl rfl rfl rfl).of_view rfl
  generalize (crowded smallReset tarnishInput).countSat 0 (O.HB_MISSES_d + 0) 32 6 = u at hdark ⊢
  have hkey : O.PTEST_RESULT_n + tarnishInput = O.TARNISH := rfl
  rw [hdark.tarnish, hkey]
  exact State.obj_setObj_self _ _ _ _

/-- Refutes O20: the input test that follows the one the lost die served records its result at the object its number names, and
for an input number that reaches the tarnish word DIE_LOST is overwritten. -/
theorem not_dieLosses : ¬ Obligations.DieLosses := by
  unfold Obligations.DieLosses
  intro h
  obtain ⟨hone, -, -⟩ := h
  obtain ⟨hlost, -⟩ := hone (crowded smallReset tarnishInput) 0 (by decide) (by decide) (Or.inl (by decide))
  obtain ⟨t, ht, -, hbit, -⟩ := hlost (by decide)
  have hexec := exec_dieLost_active (s := crowded smallReset tarnishInput) (d := 0) (by decide) (by decide) (by decide)
  have hword : t.get O.TARNISH = 3 := by
    rw [← Host.Outcome.next.inj (hexec.symm.trans ht)]
    exact (obj_settle_of _ 0 O.TARNISH (by decide) (by decide)).trans crowded_overwritten
  rw [hword] at hbit
  exact absurd hbit (by decide)

end Sys2Proof.Machine
end

section
/-! ## A die that retires during an input test (R116, R529) -/

namespace Sys2Proof.Machine

variable {s t : State} {d n m sl cause : Nat}

/-- A die that retires, recorded and out of the calibration pass. -/
def dieRetired (s : State) (d : Nat) : State :=
  leavePass (tarnish (s.setDie d { s.die d with st := .retired, lineup := .none }) 2 d (s.inputByte d) DieSt.retired.num 0xFF12) d

theorem dieGone_retired (s : State) (d : Nat) : dieGone s d .retired =
    passedBy (inputLost (testLost (homesLost (dieRetired s d) d) d) d (s.servedBy d)) d := by
  unfold dieGone passedBy
  simp only [if_true, reduceCtorEq, false_and, if_false]
  rfl

theorem dieRetired_view (s : State) (d : Nat) : (dieRetired s d).lossView = s.lossView :=
  (lossView_leavePass _ d).trans (lossView_tarnish _ 2 d _ _ _)

/-- The result of the test that follows, at whatever object its number names. -/
theorem DarkTests.retired (h : DarkTests s d n m) : (dieGone s d .retired).get (O.PTEST_RESULT_n + m) = 3 := by
  have hw := h.of_view (dieRetired_view s d)
  rw [dieGone_retired, h.served]
  generalize dieRetired s d = w at hw ⊢
  rw [hw.testLost, passedBy_none (s := ({ w with test := none, testNext := none } : State).put _ 3) hw.ctxs hw.entry]
  exact State.obj_setObj_self _ _ _ _

theorem lossView_suspect (s : State) (cause die input detail ctx a b : Nat) :
    (suspect s cause die input detail ctx a b).lossView = s.lossView := rfl

/-- A failed slice in the map of its die and in the counters. -/
def sliceCounted (s : State) (d sl : Nat) (x : Die) : State :=
  ((s.setDie d x).countSat 0 O.AUDIT_FAIL_COUNT 32).put O.AUDIT_LAST_FAIL (ofN (sliceAddr d sl))

theorem sliceCounted_view (s : State) (d sl : Nat) (x : Die) : (sliceCounted s d sl x).lossView = s.lossView := rfl

theorem sliceRecorded_view (s : State) (d sl : Nat) (x : Die) (input : Nat) (ctx a b : Nat) :
    (suspect (tarnish (sliceCounted s d sl x) 0 d input sl 0xFF10) 1 d input ctx 0xFFFF a b).lossView = s.lossView :=
  (lossView_suspect _ _ _ _ _ _ _ _).trans ((lossView_tarnish _ 0 d _ _ _).trans (sliceCounted_view s d sl x))

/-- With the 37th failed slice the die retires (R116). -/
theorem failSlice_retires (hk : kvGet (s.die d).failed sl = none) (hf : 37 ≤ (kvPut (s.die d).failed sl cause).length) :
    ∃ w, w.lossView = s.lossView ∧ failSlice s d sl cause = dieGone w d .retired := by
  unfold failSlice
  dsimp only
  rw [if_neg (by rw [hk]; decide)]
  have hretire : ∀ x : Die, x.failed = kvPut (s.die d).failed sl cause → 37 ≤ x.f := fun x hx => by rw [Die.f, hx]; exact hf
  split
  · rw [if_pos (hretire _ rfl)]
    exact ⟨_, sliceRecorded_view s d sl _ _ _ _ _, rfl⟩
  · rw [if_pos (hretire _ rfl)]
    exact ⟨_, sliceRecorded_view s d sl _ _ _ _ _, rfl⟩

/-- The input whose test result would stand in the count of failed slices. -/
abbrev auditInput : Nat := 442626

theorem DarkTests.failSlice (h : DarkTests s d n auditInput) (hk : kvGet (s.die d).failed sl = none)
    (hf : 37 ≤ (kvPut (s.die d).failed sl cause).length) : (failSlice s d sl cause).get O.AUDIT_FAIL_COUNT = 3 := by
  obtain ⟨w, hw, heq⟩ := failSlice_retires hk hf
  rw [heq]
  exact (h.of_view hw).retired

/-- Die 0 with 36 failed slices, those from 10 on, and slice 0 in its only position. -/
def wornDie : Die := { smallReset.die 0 with
  failed := (List.range 36).map fun k => (k + 10, 1)
  positions := [0] }

/-- Die 0 before its 37th failed slice, while a calibration pass measures slice 0. -/
def wornMeasuring : State := crowded { smallReset with
  dies := smallReset.dies.set 0 { wornDie with
    measuring := true
    calQueue := [0] } } auditInput

/-- A measurement out of range. -/
def outOfRange : SliceMeasure := { slice := 0, offset := 20000, gain := 0, skew := 0 }

theorem exec_sliceFails {m : SliceMeasure} (hd : d < s.D ∧ (s.die d).measuring = true ∧ (s.die d).calQueue.head? = some m.slice)
    (hm : trimOf m = none) (hr : s.restarting = false) : ∃ x : Die, x.failed = (s.die d).failed ∧
      exec (.calSliceMeasured d m) s = done (failSlice ((s.setDie d x).flag 0 O.CAL_STATUS 1) d m.slice 5) := by
  rw [exec_calSliceMeasured, execCalSliceMeasured]
  dsimp only
  rw [if_pos hd, hm, hr]
  exact ⟨{ s.die d with calQueue := (s.die d).calQueue.tail }, rfl, rfl⟩

theorem darkTests_worn {x : State} (h : x.lossView = smallReset.lossView) (m : Nat) (hm : 0 < m) : DarkTests (crowded x m) 0 0 m := by
  obtain ⟨-, hc, hch, -, -, hd, hp, hv⟩ := lossView_fields h
  exact darkTests_crowded hv hm hc hch (congrArg Power.entry hp) hd

/-- Refutes O21: the slice that fails retires the die, and the input test that follows the one the die served records its result at
the object its number names; for an input number that reaches AUDIT_FAIL_COUNT the count is overwritten. -/
theorem not_calPass : ¬ Obligations.CalPass := by
  unfold Obligations.CalPass
  intro h
  obtain ⟨-, -, -, hslice, -⟩ := h
  obtain ⟨-, hfail, -⟩ := hslice wornMeasuring 0 outOfRange (by decide) (by decide) (by decide) (by decide)
  obtain ⟨t, ht, -, -, hcount, -⟩ := hfail (by decide) (by decide) (by decide)
  obtain ⟨x, hx, hexec⟩ := exec_sliceFails (s := wornMeasuring) (d := 0) (m := outOfRange) (by decide) (by decide) (by decide)
  have hdark : DarkTests ((wornMeasuring.setDie 0 x).flag 0 O.CAL_STATUS 1) 0 0 auditInput :=
    (darkTests_worn rfl auditInput (by decide)).of_view rfl
  have hfailed : (((wornMeasuring.setDie 0 x).flag 0 O.CAL_STATUS 1).die 0).failed = wornDie.failed := hx
  generalize (wornMeasuring.setDie 0 x).flag 0 O.CAL_STATUS 1 = u at hdark hfailed hexec
  have hword := hdark.failSlice (sl := 0) (cause := 5) (by rw [hfailed]; decide) (by rw [hfailed]; decide)
  have hend : t.num O.AUDIT_FAIL_COUNT = 3 := by
    rw [← Host.Outcome.next.inj (hexec.symm.trans ht)]
    exact congrArg BitVec.toNat ((obj_settle_of _ 0 O.AUDIT_FAIL_COUNT (by decide) (by decide)).trans hword)
  rw [hend] at hcount
  exact absurd hcount (by decide)

/-- Die 0 before its 37th failed slice, under audit without a spare. -/
def wornAudited : State := crowded { smallReset with
  dies := smallReset.dies.set 0 { wornDie with lineup := .none } } auditInput

/-- A window whose slice stands still while its die moves. -/
def stuckWindow : AuditWindow :=
  { n := 1, sumS := 0, sumS2 := 0, refN := 1, refSum := 0, refSum2 := 0, sumD := 0, sumD2 := 0, span := 0, refSpan := 16, missing := false }

/-- Refutes O23: as O21 fails, by the slice that an audit without a spare fails. -/
theorem not_audits : ¬ Obligations.Audits := by
  unfold Obligations.Audits
  intro h
  obtain ⟨hwindow, -⟩ := h
  obtain ⟨-, -, hfail⟩ := hwindow wornAudited 0 stuckWindow (by decide) (by decide) (by decide)
  obtain ⟨t, ht, -, hcount⟩ := hfail 1 (by decide) (by decide) (by decide)
  have hexec : exec (.auditWindowEnd 0 stuckWindow) wornAudited = done (failSlice (auditNext wornAudited 0) 0 0 1) := by
    rw [exec_auditWindowEnd, execAuditWindowEnd]
    dsimp only
    rw [if_pos (by decide), if_pos (by decide)]
    rfl
  have hdark : DarkTests (auditNext wornAudited 0) 0 0 auditInput :=
    (darkTests_worn rfl auditInput (by decide)).of_view rfl
  have hfailed : ((auditNext wornAudited 0).die 0).failed = wornDie.failed := by rfl
  generalize auditNext wornAudited 0 = u at hdark hfailed hexec
  have hword := hdark.failSlice (sl := 0) (cause := 1) (by rw [hfailed]; decide) (by rw [hfailed]; decide)
  have hend : t.num O.AUDIT_FAIL_COUNT = 3 := by
    rw [← Host.Outcome.next.inj (hexec.symm.trans ht)]
    exact congrArg BitVec.toNat ((obj_settle_of _ 0 O.AUDIT_FAIL_COUNT (by decide) (by decide)).trans hword)
  rw [hend] at hcount
  exact absurd hcount (by decide)

end Sys2Proof.Machine
end

section
/-! ## Wakes from Watch and from Deep (R495, R499, R500, R509) -/

namespace Sys2Proof.Machine

variable {s t u : State} {n cause ticks : Nat} {rising : Bool}

/-! ### Wakes from Watch -/

theorem dies_lt (s : State) : s.D ≤ 8 := by
  unfold State.D
  cases s.variant
  all_goals decide

theorem exec_wakeEdge_taken (hn : n < s.D) (hb : bit (s.get (O.WAKE_EDGE_n + n)) 31 = true)
    (hslope : fld (s.get (O.WAKE_EDGE_n + n)) 24 2 = 2 ∨ fld (s.get (O.WAKE_EDGE_n + n)) 24 2 = (if rising then 0 else 1)) :
    exec (.wakeEdge n rising) s = done (wakeRequest s 2 n) := by
  rw [exec_wakeEdge, execWakeEdge, if_pos ⟨decide_eq_true hn, hb, hslope⟩]

theorem wakeEdge_off (hb : bit (s.get (O.WAKE_EDGE_n + n)) 31 = false) :
    Answers (.wakeEdge n rising) s fun t => OnlyObjs [] s t := by
  refine answers_idle ?_
  rw [exec_wakeEdge, execWakeEdge, if_neg fun h => absurd (hb.symm.trans h.2.1) (by decide)]

theorem keeping_settled (s : State) (r : WakeReq) : OnlyObjs [] (s.keeping r) (settle (s.keeping r)) :=
  (onlyObjs_refl _ _).settled

theorem WakeOnly.dies (h : WakeOnly s t) : t.dies = s.dies := (congrArg State.dies h.1 :)

theorem exec_wakeTimerExpiry_due (hd : s.dev = .watch) (hm : s.num O.WAKE_TIMER_MS ≠ 0) :
    ∃ a, exec .wakeTimerExpiry s = done (wakeRequest (s.runTo a) 4 0xFF) := by
  rw [exec_wakeTimerExpiry, execWakeTimerExpiry, if_pos ⟨hm, hd⟩]
  exact ⟨_, rfl⟩

theorem wakeTimerExpiry_wakes (hs : s.starting = false) (hd : s.dev = .watch) (hp : s.get O.POWER_PHASE = 0)
    (hm : s.num O.WAKE_TIMER_MS ≠ 0) : Answers .wakeTimerExpiry s fun t =>
      t.get O.POWER_PHASE = 2 ∧ t.get O.WAKE_CAUSE = 4 ∧ t.get O.WAKE_INPUT = 0xFF ∧ t.ctxs = s.ctxs ∧ t.mem = s.mem ∧
      t.dies = s.dies := by
  obtain ⟨a, hexec⟩ := exec_wakeTimerExpiry_due hd hm
  have hstart : (s.runTo a).starting = s.starting := by rw [runTo_eq]
  have hphase : (s.runTo a).get O.POWER_PHASE = 0 := (obj_runTo s a 0 O.POWER_PHASE (by decide) (by decide)).trans hp
  rw [wakeRequest_wakes (hstart.trans hs) ((runTo_dev s a).trans hd) hphase] at hexec
  generalize (s.runTo a).now = m at hexec
  obtain ⟨hphase, hcause, hinput, -, -, hframe⟩ := beginWake_wakes (s.runTo a) { at_ := m, cause := 4, input := 0xFF }
  generalize beginWake (s.runTo a) [{ at_ := m, cause := 4, input := 0xFF }] = w at hexec hphase hcause hinput hframe
  refine answers_done hexec ⟨hphase, hcause, hinput, ?_, ?_, ?_⟩
  · exact hframe.ctxs.trans (runTo_ctxs s a)
  · exact hframe.mem.trans (runTo_mem s a)
  · exact hframe.dies.trans (runTo_dies s a)

theorem wakeEdge_wakes (hs : s.starting = false) (hn : n < s.D) (hb : bit (s.get (O.WAKE_EDGE_n + n)) 31 = true)
    (hslope : fld (s.get (O.WAKE_EDGE_n + n)) 24 2 = 2 ∨ fld (s.get (O.WAKE_EDGE_n + n)) 24 2 = (if rising then 0 else 1))
    (hd : s.dev = .watch) (hp : s.get O.POWER_PHASE = 0) : Answers (.wakeEdge n rising) s fun t =>
      t.get O.POWER_PHASE = 2 ∧ t.get O.WAKE_CAUSE = 2 ∧ t.num O.WAKE_INPUT = n ∧ t.ctxs = s.ctxs ∧ t.mem = s.mem := by
  have hexec := exec_wakeEdge_taken hn hb hslope
  rw [wakeRequest_wakes hs hd hp] at hexec
  have hwake := beginWake_wakes s { at_ := s.now, cause := 2, input := n }
  have hlt : n < 2 ^ 64 := (hn.trans_le (dies_lt s)).trans (by decide)
  refine answers_done hexec ⟨hwake.phase, hwake.cause, ?_, hwake.frame.ctxs, hwake.frame.mem⟩
  exact (congrArg BitVec.toNat hwake.input).trans (ofN_toNat n hlt)

/-! ### A start (R489, R499) -/

/-- A start as it begins, before any domain is queued. -/
def State.startBegun (s : State) (kind cause : Nat) : State :=
  { s with
    starting := true
    fw := { s.fw with
      attempt := 0
      watchdog := false }
    power := { s.power with
      startKind := kind
      startCause := cause
      startFrom := s.now
      wakeAt := s.now
      queue := []
      entry := none
      domains := s.power.domains.map fun d => if d = 2 then 0 else d } }

theorem beginStart_eq (s : State) (kind cause : Nat) : beginStart s kind cause = s.startOrder.foldl queueStart (s.startBegun kind cause) := rfl

theorem domain_setDomain_ne {x y : Nat} (v : Nat) (h : x - 1 ≠ y - 1) : (s.setDomain x v).domain y = s.domain y := by
  unfold State.domain State.setDomain
  simp only [List.getD_eq_getElem?_getD, List.getElem?_set_ne h]

/-- Domains that are off queue in the order given. -/
theorem foldl_queueStart_queue : ∀ (l : List Nat) (s : State), (∀ x ∈ l, s.domain x < 2) → (l.map (· - 1)).Nodup →
    (l.foldl queueStart s).power.queue = s.power.queue ++ l
  | [], s, _, _ => (List.append_nil _).symm
  | x :: l, s, hl, hd => by
    obtain ⟨hx, hd⟩ := List.nodup_cons.mp hd
    have hq : queueStart s x = { s.setDomain x 2 with power := { (s.setDomain x 2).power with queue := s.power.queue ++ [x] } } :=
      if_neg fun h => absurd h.1 (Nat.not_le_of_lt (hl x List.mem_cons_self))
    have hrest : ∀ y ∈ l, (queueStart s x).domain y < 2 := by
      intro y hy
      have hne : x - 1 ≠ y - 1 := fun h => hx (List.mem_map.mpr ⟨y, hy, h.symm⟩)
      rw [hq]
      exact (domain_setDomain_ne (s := s) 2 hne).trans_lt (hl y (List.mem_cons_of_mem x hy))
    rw [List.foldl_cons, foldl_queueStart_queue l _ hrest hd, hq, List.append_assoc]
    rfl

theorem startOrder_nodup (s : State) : (s.startOrder.map (· - 1)).Nodup := by
  have h8 := dies_lt s
  unfold State.startOrder
  generalize s.D = d at h8
  revert d
  decide

theorem startOrder_lt (s : State) : ∀ x ∈ s.startOrder, x - 1 < 15 := by
  have h8 := dies_lt s
  unfold State.startOrder
  generalize s.D = d at h8
  revert d
  decide

theorem beginStart_queue (hd : s.power.domains = List.replicate 15 0) (kind cause : Nat) :
    (beginStart s kind cause).power.queue = s.startOrder := by
  have hoff : ∀ x, (s.startBegun kind cause).domain x = 0 := by
    intro x
    have hl : (s.startBegun kind cause).power.domains = List.replicate 15 0 := by
      unfold State.startBegun
      dsimp only
      rw [hd]
      rfl
    rw [State.domain, hl, List.getD_eq_getElem?_getD]
    exact List.getElem?_getD_replicate_default_eq _ _ _
  rw [beginStart_eq, foldl_queueStart_queue _ _ (fun x _ => (hoff x).trans_lt (by decide)) (startOrder_nodup s)]
  exact List.nil_append _

/-! ### Leaving Deep (R38, R499) -/

/-- The state at the instant `a` at which the module leaves Deep, where `w` tells whether the counter wrapped. -/
def State.leavingAt (s : State) (a : Nat) (w : Bool) : State :=
  let s := s.setNow a
  let s := { s with power := { s.power with deepExit := a } }
  let s := if w then s.flag 0 O.TB_STATUS 0 else s
  s

theorem leaveDeep_eq (s : State) (cause ticks : Nat) : leaveDeep s cause ticks =
    beginStart (s.leavingAt (s.afterDeep ticks) (s.afterDeep ticks / 2 ^ 55 != s.now / 2 ^ 55)) 2 cause := by
  unfold leaveDeep State.leavingAt
  with_reducible rfl

/-- What leaving Deep at the instant `a` leaves (R499). -/
structure LeftDeep (cause a : Nat) (s t : State) : Prop where
  rest : t = { s with
    counter := BitVec.ofNat 55 a
    wraps := BitVec.ofNat 16 (a / 2 ^ 55)
    starting := true
    fw := t.fw
    power := t.power
    objs := t.objs }
  objs : ∀ k, k ≠ O.TB_STATUS → t.get k = s.get k
  kind : t.power.startKind = 2
  cause : t.power.startCause = cause
  exit : t.power.deepExit = a
  pin : t.power.wakePin = s.power.wakePin
  since : t.power.deepFrom = s.power.deepFrom
  queue : s.power.domains = List.replicate 15 0 → t.power.queue = s.startOrder

theorem leavingAt_rest (s : State) (a : Nat) (w : Bool) : s.leavingAt a w = { s with
    counter := BitVec.ofNat 55 a
    wraps := BitVec.ofNat 16 (a / 2 ^ 55)
    power := { s.power with deepExit := a }
    objs := (s.leavingAt a w).objs } := by
  cases w
  · rfl
  · rfl

theorem leavingAt_get (s : State) (a : Nat) (w : Bool) {k : Nat} (h : k ≠ O.TB_STATUS) :
    (s.leavingAt a w).get k = s.get k := by
  cases w
  · rfl
  · exact State.obj_setObj_ne _ _ _ _ _ _ (objKey_ne 0 h)

theorem startOrder_congr (h : t.variant = s.variant) : t.startOrder = s.startOrder := by
  rw [State.startOrder, State.startOrder, D_congr h]

/-- What a start leaves as it begins (R489). -/
structure StartBegun (kind cause : Nat) (s t : State) : Prop where
  rest : t = { s with
    starting := true
    fw := t.fw
    power := t.power }
  kind : t.power.startKind = kind
  cause : t.power.startCause = cause
  exit : t.power.deepExit = s.power.deepExit
  pin : t.power.wakePin = s.power.wakePin
  since : t.power.deepFrom = s.power.deepFrom
  queue : s.power.domains = List.replicate 15 0 → t.power.queue = s.startOrder

theorem beginStart_begins (s : State) (kind cause : Nat) : StartBegun kind cause s (beginStart s kind cause) := by
  obtain ⟨hq, -, hfrom, hexit, hpin, hkind, hcause⟩ := foldl_queueStart_powerOnly s.startOrder (s.startBegun kind cause)
  rw [← beginStart_eq] at hq hfrom hexit hpin hkind hcause
  refine ⟨?_, hkind, hcause, hexit, hpin, hfrom, fun hd => beginStart_queue hd kind cause⟩
  generalize beginStart s kind cause = t at hq ⊢
  rw [hq]
  rfl

theorem leavingAt_leaves (s : State) (cause a : Nat) (w : Bool) : LeftDeep cause a s (beginStart (s.leavingAt a w) 2 cause) := by
  have hrest := leavingAt_rest s a w
  have hget : ∀ k, k ≠ O.TB_STATUS → (s.leavingAt a w).get k = s.get k := fun _ => leavingAt_get s a w
  have hstart := beginStart_begins (s.leavingAt a w) 2 cause
  generalize s.leavingAt a w = u at hrest hget hstart ⊢
  generalize beginStart u 2 cause = t at hstart ⊢
  obtain ⟨hframe, hkind, hcause, hexit, hpin, hsince, hqueue⟩ := hstart
  have hpow : u.power = { s.power with deepExit := a } := by rw [hrest]
  have hvar : u.variant = s.variant := by rw [hrest]
  refine ⟨?_, ?_, hkind, hcause, ?_, ?_, ?_, ?_⟩
  · generalize BitVec.ofNat 55 a = x at hrest ⊢
    generalize BitVec.ofNat 16 (a / 2 ^ 55) = y at hrest ⊢
    rw [hframe, hrest]
  · intro k h
    rw [hframe]
    exact hget k h
  · rw [hexit, hpow]
  · rw [hpin, hpow]
  · rw [hsince, hpow]
  · intro hd
    rw [hqueue (by rw [hpow]; exact hd), startOrder_congr hvar]

theorem leaveDeep_leaves (s : State) (cause ticks : Nat) : LeftDeep cause (s.afterDeep ticks) s (leaveDeep s cause ticks) :=
  leaveDeep_eq s cause ticks ▸ leavingAt_leaves s cause (s.afterDeep ticks) _

theorem deepWake_leaves (hd : s.dev = .deep) (hs : s.starting = false) (cause ticks : Nat) :
    deepWake s cause ticks = leaveDeep s cause ticks := by
  rw [deepWake, if_pos hd, if_pos hs]

theorem deepWake_keeps (hd : s.dev ≠ .deep) (hp : s.get O.POWER_PHASE = 3) (ha : s.now / 48 ≠ s.power.entryAt) (cause ticks : Nat) :
    deepWake s cause ticks = s.keeping { at_ := s.now, cause, input := 0xFF } := by
  rw [deepWake, if_neg hd, if_pos ⟨hp, .inr ha⟩]
  rfl

/-- The commands that wake from Deep on cause `cause`, `ticks` after its entry (R499). -/
def DeepWakes (s : State) (ticks cause : Nat) (i : Instr) : Prop :=
  i = .deepTimerExpiry ∧ cause = 4 ∧ ticks = s.num O.DEEP_TIMER_S * 32768 ∧ s.num O.DEEP_TIMER_S ≠ 0 ∧
      bit (s.get O.DEEP_WAKE_MASK) 1 = true ∨
    i = .deepTriginWake ticks ∧ cause = 3 ∧ bit (s.get O.DEEP_WAKE_MASK) 2 = true ∨
    i = .canDominantWake ticks ∧ cause = 6 ∧ bit (s.get O.DEEP_WAKE_MASK) 3 = true

theorem exec_deepWakes {i : Instr} (hd : s.dev = .deep) (hi : DeepWakes s ticks cause i) : exec i s = done (deepWake s cause ticks) := by
  rcases hi with ⟨rfl, rfl, rfl, hn, hb⟩ | ⟨rfl, rfl, hb⟩ | ⟨rfl, rfl, hb⟩
  · rw [exec_deepTimerExpiry, execDeepTimerExpiry, if_pos ⟨hd, hb, hn⟩]
  · rw [exec_deepTriginWake, execDeepTriginWake, if_pos hb]
  · rw [exec_canDominantWake, execCanDominantWake, if_pos hb]

theorem deepWakes_start {i : Instr} (hd : s.dev = .deep) (hs : s.starting = false) (hi : DeepWakes s ticks cause i) :
    Answers i s fun t =>
      t.starting = true ∧ t.power.startKind = 2 ∧ t.power.startCause = cause ∧ t.dev = .deep ∧
      t.counter = BitVec.ofNat 55 (s.afterDeep ticks) ∧ t.wraps = BitVec.ofNat 16 (s.afterDeep ticks / 2 ^ 55) ∧
      t.power.deepExit = s.afterDeep ticks ∧ t.power.wakePin = s.power.wakePin ∧
      (s.power.domains = List.replicate 15 0 → t.power.queue = s.startOrder) ∧
      t.mem = s.mem ∧ t.ctxs = s.ctxs ∧ t.dies = s.dies := by
  have hexec := exec_deepWakes hd hi
  rw [deepWake_leaves hd hs] at hexec
  have hleft := leaveDeep_leaves s cause ticks
  generalize leaveDeep s cause ticks = t at hexec hleft
  generalize s.afterDeep ticks = a at hleft ⊢
  refine answers_done hexec ?_
  simp only [settle_starting, settle_power, settle_counter, settle_wraps, settle_mem, settle_ctxs, settle_dies]
  have hdeep : t.dev = .deep := by rw [hleft.rest]; exact hd
  refine ⟨?_, hleft.kind, hleft.cause, ?_, ?_, ?_, hleft.exit, hleft.pin, hleft.queue, ?_, ?_, ?_⟩
  · rw [hleft.rest]
  · rw [settle_dev, if_neg]
    · exact hdeep
    · rw [hdeep]
      decide
  all_goals rw [hleft.rest]

theorem deepWake_masked {i : Instr} (hi : i = Instr.deepTimerExpiry ∧ bit (s.get O.DEEP_WAKE_MASK) 1 = false ∨
      (∃ n, i = .deepTriginWake n) ∧ bit (s.get O.DEEP_WAKE_MASK) 2 = false ∨
      (∃ n, i = .canDominantWake n) ∧ bit (s.get O.DEEP_WAKE_MASK) 3 = false) : Answers i s fun t => OnlyObjs [] s t := by
  refine answers_idle ?_
  rcases hi with ⟨rfl, hb⟩ | ⟨⟨n, rfl⟩, hb⟩ | ⟨⟨n, rfl⟩, hb⟩
  · rw [exec_deepTimerExpiry, execDeepTimerExpiry, if_neg fun h => absurd (hb.symm.trans h.2.1) (by decide)]
  · rw [exec_deepTriginWake, execDeepTriginWake, if_neg fun h => absurd (hb.symm.trans h) (by decide)]
  · rw [exec_canDominantWake, execCanDominantWake, if_neg fun h => absurd (hb.symm.trans h) (by decide)]

theorem deepTriginWake_keeps (hd : s.dev ≠ .deep) (hp : s.get O.POWER_PHASE = 3) (ha : s.now / 48 ≠ s.power.entryAt)
    (hb : bit (s.get O.DEEP_WAKE_MASK) 2 = true) (ticks : Nat) : Answers (.deepTriginWake ticks) s fun t =>
      OnlyObjs [] (s.keeping { at_ := s.now, cause := 3, input := 0xFF }) t := by
  refine answers_done ?_ (keeping_settled s _)
  rw [exec_deepTriginWake, execDeepTriginWake, if_pos hb, deepWake_keeps hd hp ha]

theorem canDominantWake_keeps (hd : s.dev ≠ .deep) (hp : s.get O.POWER_PHASE = 3) (ha : s.now / 48 ≠ s.power.entryAt)
    (hb : bit (s.get O.DEEP_WAKE_MASK) 3 = true) (ticks : Nat) : Answers (.canDominantWake ticks) s fun t =>
      OnlyObjs [] (s.keeping { at_ := s.now, cause := 6, input := 0xFF }) t := by
  refine answers_done ?_ (keeping_settled s _)
  rw [exec_canDominantWake, execCanDominantWake, if_pos hb, deepWake_keeps hd hp ha]

/-! ### The wake pin (R500) -/

theorem wakePinRelease_held (h : s.power.wakePin = true) : Answers .wakePinRelease s fun t =>
    .wakePin false ∈ t.sent ∧ OnlyObjs [] { s with power := { s.power with wakePin := false } } t := by
  refine answers_done (u := { s with
    power := { s.power with wakePin := false }
    sent := .wakePin false :: s.sent }) ?_ ⟨?_, ?_⟩
  · rw [exec_wakePinRelease, execWakePinRelease, releaseWake, if_pos h]
  · exact (sent_settle _).mem List.mem_cons_self
  · exact (onlyObjs_congr [] rfl rfl rfl).settled

theorem wakePinRelease_free (h : s.power.wakePin = false) : Answers .wakePinRelease s fun t => OnlyObjs [] s t := by
  refine answers_idle ?_
  rw [exec_wakePinRelease, execWakePinRelease, releaseWake, if_neg (by rw [h]; decide)]

end Sys2Proof.Machine
end

section
/-! ## The end of an entry of Watch (R293, R381, R493) -/

namespace Sys2Proof.Machine

variable {s t u : State} {d ch : Nat}

/-! ### Folds that settle one part each -/

/-- A fold of steps of which those that `p` names do one and the same thing to what `view` shows, and the others nothing. -/
theorem view_foldl {α : Type} (view : State → α) (g : α → α) (hg : ∀ a, g (g a) = g a) (p : Nat → Bool) (f : State → Nat → State)
    (hf : ∀ u i, view (f u i) = if p i then g (view u) else view u) (l : List Nat) (s : State) :
    view (l.foldl f s) = if l.any p then g (view s) else view s := by
  induction l generalizing s with
  | nil => rfl
  | cons i l ih =>
    rw [List.foldl_cons, ih, hf, List.any_cons]
    cases p i
    · rfl
    · cases l.any p
      · rfl
      · exact hg _

theorem any_beq {l : List Nat} {d : Nat} : (l.any fun i => i == d) = decide (d ∈ l) := by
  rw [Bool.eq_iff_iff]
  simp

/-! ### Movers -/

/-- A channel whose mover stops (R494). -/
def Chan.halted (c : Chan) : Chan :=
  if c.st = .running then
    if c.inFlight then { c with after := some (c.after.getD .parked), byPower := true } else { c with st := .parked, byPower := true }
  else c

theorem halted_of_ne {c : Chan} (h : c.st ≠ .running) : c.halted = c := if_neg h

theorem halted_flying {c : Chan} (h : c.st = .running) (hf : c.inFlight = true) :
    c.halted = { c with after := some (c.after.getD .parked), byPower := true } := by
  rw [Chan.halted, if_pos h, if_pos hf]

theorem halted_idle {c : Chan} (h : c.st = .running) (hf : ¬ c.inFlight = true) :
    c.halted = { c with st := .parked, byPower := true } := by
  rw [Chan.halted, if_pos h, if_neg hf]

theorem halted_halted (c : Chan) : c.halted.halted = c.halted := by
  by_cases h : c.st = .running
  · by_cases hf : c.inFlight = true
    · rw [halted_flying h hf, halted_flying (c := { c with after := some (c.after.getD .parked), byPower := true }) h hf]
      rfl
    · rw [halted_idle h hf]
      exact halted_of_ne (by simp)
  · rw [halted_of_ne h, halted_of_ne h]

theorem halted_st {c : Chan} (h : c.inFlight = false) : c.halted.st = if c.st = .running then .parked else c.st := by
  unfold Chan.halted
  split
  · rw [h]
    rfl
  · rfl

/-- Channel `ch` stops with its mover. -/
def parkChan (s : State) (ch : Nat) : State :=
  match s.chan ch with
  | some c => if c.st = .running then s.setChan ch c.halted else s
  | none => s

theorem parkChan_chan (s : State) (i ch : Nat) :
    (parkChan s i).chan ch = if i == ch then (s.chan ch).map Chan.halted else s.chan ch := by
  unfold parkChan
  split
  · next c hc =>
    split
    · by_cases h : i = ch
      · rw [h, beq_self_eq_true, if_pos rfl, ← h, hc]
        exact kvGet_kvPut_self _ _ _
      · rw [if_neg (by simpa using h)]
        exact (kvGet_kvPut _ _ _ _).trans (if_neg (Ne.symm h))
    · next hr =>
      split
      · next h =>
        rw [← eq_of_beq h, hc]
        exact congrArg some (if_neg hr).symm
      · rfl
  · next hc =>
    split
    · next h =>
      rw [← eq_of_beq h, hc]
      rfl
    · rfl

theorem parkMover_eq (s : State) (x : Nat) :
    parkMover s x = ((s.chans.map Prod.fst).filter fun ch => moverOf ch == x).foldl parkChan s := by
  unfold parkMover
  congr 1
  funext u ch
  unfold parkChan
  cases u.chan ch with
  | none => rfl
  | some c =>
    dsimp only
    by_cases h : c.st = .running
    · rw [if_pos h, if_pos h]
      by_cases hf : c.inFlight = true
      · rw [if_pos hf, halted_flying h hf]
      · rw [if_neg hf, halted_idle h hf]
    · rw [if_neg h, if_neg h]

theorem mem_keys_of_chan {c : Chan} (h : s.chan ch = some c) : ch ∈ s.chans.map Prod.fst :=
  List.mem_map.mpr ⟨(ch, c), kvGet_mem h, rfl⟩

theorem map_halted_halted (a : Option Chan) : (a.map Chan.halted).map Chan.halted = a.map Chan.halted := by
  cases a with
  | none => rfl
  | some c => exact congrArg some (halted_halted c)

theorem parkMover_chan (s : State) (x ch : Nat) :
    (parkMover s x).chan ch = if x == moverOf ch then (s.chan ch).map Chan.halted else s.chan ch := by
  rw [parkMover_eq, view_foldl (fun u => u.chan ch) (Option.map Chan.halted) map_halted_halted (fun i => i == ch) parkChan
    (fun u i => parkChan_chan u i ch), any_beq]
  by_cases hx : x = moverOf ch
  · cases hc : s.chan ch with
    | none => simp
    | some c => simp [mem_keys_of_chan hc, hx]
  · simp [hx, Ne.symm hx]

theorem parkEach_chan (s : State) (l : List Nat) (ch : Nat) :
    (parkEach s l).chan ch = if moverOf ch ∈ l then (s.chan ch).map Chan.halted else s.chan ch := by
  rw [parkEach, view_foldl (fun u => u.chan ch) (Option.map Chan.halted) map_halted_halted (fun i => i == moverOf ch) parkMover
    (fun u i => parkMover_chan u i ch), any_beq]
  simp only [decide_eq_true_eq]

/-! ### Dies -/

/-- A die whose domain ends (R293). -/
def Die.resting (x : Die) : Die :=
  if x.st = .active ∨ x.st = .reserve then { x with st := .retention, counterFrom := none } else x

theorem resting_of_ne {x : Die} (h : ¬ (x.st = .active ∨ x.st = .reserve)) : x.resting = x := if_neg h

theorem resting_of {x : Die} (h : x.st = .active ∨ x.st = .reserve) : x.resting = { x with st := .retention, counterFrom := none } :=
  if_pos h

theorem resting_resting (x : Die) : x.resting.resting = x.resting := by
  by_cases h : x.st = .active ∨ x.st = .reserve
  · rw [resting_of h]
    exact resting_of_ne (by simp)
  · rw [resting_of_ne h, resting_of_ne h]

/-- Die `d` enters Retention, where it served or was in Reserve. -/
def restDie (s : State) (d : Nat) : State :=
  let x := s.die d
  if x.st = .active ∨ x.st = .reserve then
    ((s.setDie d { x with st := .retention, counterFrom := none }).setDomain (4 + d) 1).setLoops d (List.replicate 4 {})
  else s

/-- Only dies and the power sequencer changed. -/
structure DiesPower (s t : State) : Prop where
  rest : t = { s with dies := t.dies, power := t.power }
  kept : t.power.wakeKept = s.power.wakeKept
  domains : t.power.domains.length = s.power.domains.length

theorem diesPower_refl (s : State) : DiesPower s s := ⟨rfl, rfl, rfl⟩

theorem DiesPower.trans (h : DiesPower s t) (h' : DiesPower t u) : DiesPower s u :=
  ⟨by rw [h'.rest, h.rest], h'.kept.trans h.kept, h'.domains.trans h.domains⟩

theorem restDie_diesPower (s : State) (d : Nat) : DiesPower s (restDie s d) := by
  unfold restDie
  dsimp only
  split
  · exact ⟨rfl, rfl, List.length_set⟩
  · exact diesPower_refl s

theorem foldl_restDie_diesPower (l : List Nat) (s : State) : DiesPower s (l.foldl restDie s) := by
  induction l generalizing s with
  | nil => exact diesPower_refl s
  | cons d l ih => exact (restDie_diesPower s d).trans (ih _)

theorem restDie_dies (s : State) (i d : Nat) :
    (restDie s i).dies[d]? = if i == d then s.dies[d]?.map Die.resting else s.dies[d]? := by
  have hat : s.dies[i]?.map Die.resting = if (s.die i).st = .active ∨ (s.die i).st = .reserve then
      s.dies[i]?.map (fun _ => { s.die i with st := .retention, counterFrom := none }) else s.dies[i]? := by
    unfold State.die
    rw [List.getD_eq_getElem?_getD]
    cases s.dies[i]? with
    | none => simp
    | some x =>
      simp only [Option.map_some, Option.getD_some, Die.resting]
      split
      · rfl
      · rfl
  unfold restDie
  dsimp only
  by_cases h : i = d
  · subst h
    rw [beq_self_eq_true, if_pos rfl, hat]
    split
    · simp only [State.setLoops, State.setDomain, State.setDie, List.getElem?_set_self']
      rfl
    · rfl
  · simp only [beq_false_of_ne h, Bool.false_eq_true, if_false]
    split
    · exact List.getElem?_set_ne h
    · rfl

theorem restEach_dies (s : State) (l : List Nat) (d : Nat) :
    (l.foldl restDie s).dies[d]? = if d ∈ l then s.dies[d]?.map Die.resting else s.dies[d]? := by
  have hidem : ∀ a : Option Die, (a.map Die.resting).map Die.resting = a.map Die.resting := by
    intro a
    cases a with
    | none => rfl
    | some x => exact congrArg some (resting_resting x)
  rw [view_foldl (fun u => u.dies[d]?) (Option.map Die.resting) hidem (fun i => i == d) restDie
    (fun u i => restDie_dies u i d), any_beq]
  simp only [decide_eq_true_eq]

theorem restEach_die (s : State) (l : List Nat) (hd : d ∈ l) (hlt : d < s.dies.length) :
    (l.foldl restDie s).die d = (s.die d).resting := by
  have h := restEach_dies s l d
  rw [if_pos hd, List.getElem?_eq_getElem hlt] at h
  unfold State.die
  rw [List.getD_eq_getElem?_getD, List.getD_eq_getElem?_getD, h, List.getElem?_eq_getElem hlt]
  rfl

/-! ### The end of the entry -/

/-- Movers, the raster engine and the calibration stop, in the order of the end of an entry. -/
def watchStopped (s : State) : State := parkEach (calWatch (rasterSuspend s)) (List.range (1 + s.D))

/-- Every die that served or was in Reserve enters Retention. -/
def watchLaid (s : State) : State := ((List.range s.D).foldl restDie s).setDomain 2 0

/-- Capture memory rests, no tap is fetched, and Watch begins at `n`. -/
def watchSlept (s : State) (n : Nat) : State := { s with
  hbm := s.hbm.mapIdx fun i k => { k with
    selfRefresh := if k.st = 4 then k.selfRefresh else (List.range 16).filter fun ch => !s.chanOwes i ch }
  inputs := s.inputs.map fun x => { x with taps := [] }
  power := { s.power with watchAt := n } }

/-- The module is in Watch. -/
def watchEntered (s : State) : State := (enterDev s .watch).put O.POWER_PHASE 0

/-- Whether the entry of `phase` can end: it waits for no alloy, no start runs, and nothing is in flight (R493, R498). -/
structure EntryEnds (phase : Slot) (s : State) : Prop where
  entry : s.power.entry = none
  starting : s.starting = false
  bursting : s.bursting = false
  suspending : s.suspending = false
  phase : s.get O.POWER_PHASE = phase

theorem resumeEntry_none (h : s.power.entry = none) : resumeEntry s = s := by
  unfold resumeEntry
  rw [h]

theorem watchDone_eq (h : EntryEnds 1 s) : watchDone s =
    beginWake (watchEntered (watchSlept (watchLaid (watchStopped s)) (watchLaid (watchStopped s)).now))
      (watchEntered (watchSlept (watchLaid (watchStopped s)) (watchLaid (watchStopped s)).now)).power.wakeKept := by
  unfold watchDone
  rw [resumeEntry_none h.entry]
  dsimp only
  rw [if_pos ⟨h.phase, h.starting, h.bursting, h.suspending⟩]
  rfl

/-- What has stopped at the end of an entry of Watch. -/
structure WatchStopped (s t : State) : Prop where
  ctxs : t.ctxs = s.ctxs
  mem : t.mem = s.mem
  power : t.power = s.power
  now : t.now = s.now
  variant : t.variant = s.variant
  raster : t.raster.st ≠ 1
  dies : t.dies.length = s.dies.length
  standing : ∀ d, (t.die d).standing = (s.die d).standing
  chan : ∀ ch, t.chan ch = if moverOf ch ∈ List.range (1 + s.D) then (s.chan ch).map Chan.halted else s.chan ch

theorem watchStopped_stops (s : State) : WatchStopped s (watchStopped s) := by
  obtain ⟨hrast, hst⟩ := rasterSuspend_rasterOnly s
  have hcal := calWatch_calEnded (rasterSuspend s)
  have hpark := parkEach_chansOnly (calWatch (rasterSuspend s)) (List.range (1 + s.D))
  have hchan := parkEach_chan (calWatch (rasterSuspend s)) (List.range (1 + s.D))
  unfold watchStopped
  generalize parkEach (calWatch (rasterSuspend s)) (List.range (1 + s.D)) = w at hpark hchan ⊢
  generalize calWatch (rasterSuspend s) = v at hcal hpark hchan
  generalize rasterSuspend s = u at hrast hst hcal
  have hold : ∀ ch, v.chan ch = s.chan ch := fun ch => by rw [State.chan, hcal.chans, hrast.rest, State.chan]
  have hdie : ∀ d, u.die d = s.die d := fun d => by rw [hrast.rest]; rfl
  refine ⟨?_, ?_, ?_, ?_, ?_, ?_, ?_, fun d => ?_, fun ch => ?_⟩
  · rw [hpark, hcal.ctxs, hrast.rest]
  · rw [hpark, hcal.mem, hrast.rest]
  · rw [hpark, hcal.power, hrast.rest]
  · rw [hpark]
    exact now_congr (hcal.counter.trans (by rw [hrast.rest])) (hcal.wraps.trans (by rw [hrast.rest]))
  · rw [hpark, hcal.variant, hrast.rest]
  · rw [hpark, hcal.raster]
    exact hst
  · rw [hpark, hcal.length, hrast.rest]
  · rw [hpark]
    exact (hcal.standing d).trans (congrArg Die.standing (hdie d))
  · rw [hchan, hold]

/-- What has stopped and rests at the end of an entry of Watch. -/
structure WatchEntered (s t : State) : Prop where
  dev : t.dev = .watch
  phase : t.get O.POWER_PHASE = 0
  since : t.power.watchAt = s.now
  kept : t.power.wakeKept = s.power.wakeKept
  dies : ∀ d, d < s.D → d < s.dies.length → ((s.die d).st = .active ∨ (s.die d).st = .reserve) →
    (t.die d).st = .retention ∧ (t.die d).counterFrom = none ∧ (t.die d).failed = (s.die d).failed
  front : 2 ≤ s.power.domains.length → t.domain 2 = 0
  ctxs : t.ctxs = s.ctxs
  mem : t.mem = s.mem
  raster : t.raster.st ≠ 1
  chan : ∀ ch, t.chan ch = if moverOf ch ∈ List.range (1 + s.D) then (s.chan ch).map Chan.halted else s.chan ch

theorem standing_resting {x y : Die} (h : x.standing = y.standing) (hy : y.st = .active ∨ y.st = .reserve) :
    x.resting.st = .retention ∧ x.resting.counterFrom = none ∧ x.resting.failed = y.failed := by
  have hst : x.st = y.st := congrArg Prod.fst h
  have hf : x.failed = y.failed := congrArg Prod.snd h
  rw [resting_of (by rwa [hst])]
  exact ⟨rfl, rfl, hf⟩

theorem watchEntered_keeps (s : State) : (watchEntered s).power = s.power ∧ (watchEntered s).dies = s.dies ∧
    (watchEntered s).ctxs = s.ctxs ∧ (watchEntered s).mem = s.mem ∧ (watchEntered s).raster = s.raster ∧
    (watchEntered s).chans = s.chans := by
  have hbody : (watchEntered s).body = s.body := enterDev_body _ _
  exact ⟨(congrArg State.power hbody :), (congrArg State.dies hbody :), (congrArg State.ctxs hbody :), (congrArg State.mem hbody :),
    (congrArg State.raster hbody :), (congrArg State.chans hbody :)⟩

theorem watchEntered_enters (s : State) :
    WatchEntered s (watchEntered (watchSlept (watchLaid (watchStopped s)) (watchLaid (watchStopped s)).now)) := by
  have hstop := watchStopped_stops s
  unfold watchLaid
  generalize watchStopped s = v at hstop ⊢
  obtain ⟨hrest, hkept, hlen⟩ := foldl_restDie_diesPower (List.range v.D) v
  have hdie : ∀ d, d < v.D → d < v.dies.length → ((List.range v.D).foldl restDie v).die d = (v.die d).resting := fun d hd hl =>
    restEach_die v (List.range v.D) (List.mem_range.mpr hd) hl
  rw [D_congr hstop.variant] at hrest hkept hlen hdie ⊢
  generalize (List.range s.D).foldl restDie v = w at hrest hkept hlen hdie ⊢
  have hnow : (w.setDomain 2 0).now = s.now := by
    rw [← hstop.now, hrest]
    rfl
  rw [hnow]
  obtain ⟨hpower, hdies, hctxs, hmem, hraster, hchans⟩ := watchEntered_keeps (watchSlept (w.setDomain 2 0) s.now)
  refine ⟨enterDev_dev _ _, State.obj_setObj_self _ _ _ _, ?_, ?_, fun d hd hl hst => ?_, fun h2 => ?_, ?_, ?_, ?_, fun ch => ?_⟩
  · rw [hpower]
    rfl
  · rw [hpower]
    exact hkept.trans (congrArg Power.wakeKept hstop.power)
  · have hx : (watchEntered (watchSlept (w.setDomain 2 0) s.now)).die d = w.die d := by
      rw [State.die, hdies]
      rfl
    rw [hx, hdie d hd (hl.trans_eq hstop.dies.symm)]
    exact standing_resting (hstop.standing d) hst
  · rw [State.domain, hpower]
    have hl : 1 < w.power.domains.length := by
      rw [hlen, hstop.power]
      exact h2
    have hset : (w.power.domains.set 1 0).getD 1 0 = 0 := by
      rw [List.getD_eq_getElem?_getD, List.getElem?_set_self hl]
      rfl
    exact hset
  · exact hctxs.trans ((congrArg State.ctxs hrest :).trans hstop.ctxs)
  · exact hmem.trans ((congrArg State.mem hrest :).trans hstop.mem)
  · rw [hraster]
    have hr : w.raster = v.raster := by rw [hrest]
    exact fun h => hstop.raster ((congrArg Raster.st hr).symm.trans h)
  · rw [State.chan, hchans]
    have hc : w.chans = v.chans := by rw [hrest]
    exact (congrArg (fun l => kvGet l ch) hc).trans (hstop.chan ch)

/-- The commands that end an entry do nothing while a burst or a suspension is in flight, or in another phase. -/
theorem watchDone_stays (he : s.power.entry = none)
    (h : s.get O.POWER_PHASE ≠ 1 ∨ s.bursting = true ∨ s.suspending = true) : watchDone s = s := by
  unfold watchDone
  rw [resumeEntry_none he]
  dsimp only
  rw [if_neg]
  rintro ⟨hp, -, hb, hs⟩
  rcases h with h | h | h
  · exact h hp
  · exact absurd (hb.symm.trans h) (by decide)
  · exact absurd (hs.symm.trans h) (by decide)

theorem not_flying (h : s.bursting = false) {c : Chan} (hc : s.chan ch = some c) : c.inFlight = false := by
  have hall := List.any_eq_false.mp h (ch, c) (kvGet_mem hc)
  simpa using hall

theorem watchEntryDone_enters (h : EntryEnds 1 s) (hk : s.power.wakeKept = []) : Answers .watchEntryDone s fun t =>
    t.dev = .watch ∧ t.get O.POWER_PHASE = 0 ∧ t.power.watchAt = s.now ∧
    (∀ d, d < s.D → d < s.dies.length → ((s.die d).st = .active ∨ (s.die d).st = .reserve) →
      (t.die d).st = .retention ∧ (t.die d).counterFrom = none ∧ (t.die d).failed = (s.die d).failed) ∧
    (2 ≤ s.power.domains.length → t.domain 2 = 0) ∧ t.mem = s.mem ∧ t.raster.st ≠ 1 ∧
    (s.cal.st ≠ .ramping → t.ctxs = s.ctxs) ∧
    (∀ ch c, s.chan ch = some c → ∃ c', t.chan ch = some c' ∧
      c'.st = (if c.st = .running ∧ moverOf ch ≤ s.D then .parked else c.st)) := by
  have hexec : exec .watchEntryDone s = done (watchDone s) := by rw [exec_watchEntryDone]; rfl
  have hent := watchEntered_enters s
  rw [watchDone_eq h] at hexec
  generalize watchEntered (watchSlept (watchLaid (watchStopped s)) (watchLaid (watchStopped s)).now) = w at hexec hent
  rw [hent.kept, hk] at hexec
  refine answers_done (u := w) hexec ?_
  have hdev : (settle w).dev = .watch := by
    rw [settle_dev, if_neg (by rw [hent.dev]; decide)]
    exact hent.dev
  have hphase : (settle w).get O.POWER_PHASE = 0 := (obj_settle_of w 0 O.POWER_PHASE (by decide) (by decide)).trans hent.phase
  have hdie : ∀ d, (settle w).die d = w.die d := fun d => by rw [State.die, settle_dies, State.die]
  have hchan : ∀ ch, (settle w).chan ch = w.chan ch := fun ch => by rw [State.chan, settle_chans, State.chan]
  refine ⟨hdev, hphase, ?_, fun d hd hl hst => ?_, fun h2 => ?_, ?_, ?_, fun _ => ?_, fun ch c hc => ?_⟩
  · rw [settle_power]
    exact hent.since
  · rw [hdie]
    exact hent.dies d hd hl hst
  · rw [State.domain, settle_power]
    exact hent.front h2
  · rw [settle_mem]
    exact hent.mem
  · rw [settle_raster]
    exact hent.raster
  · rw [settle_ctxs]
    exact hent.ctxs
  · have hstill := not_flying h.bursting hc
    rw [hchan, hent.chan, hc]
    by_cases hm : moverOf ch ≤ s.D
    · rw [if_pos (List.mem_range.mpr (by omega))]
      refine ⟨c.halted, rfl, ?_⟩
      rw [halted_st hstill]
      simp [hm]
    · rw [if_neg (fun hx => hm (by have := List.mem_range.mp hx; omega))]
      exact ⟨c, rfl, by simp [hm]⟩

end Sys2Proof.Machine
end

section
/-! ## The end of an entry of Deep (R307, R371, R381, R498), and O54 -/

namespace Sys2Proof.Machine

variable {s t u : State} {p cause : Nat}

/-! ### What the loss of the link leaves (R498) -/

/-- Device time and the count of entries stand. -/
structure Stands (s t : State) : Prop where
  counter : t.counter = s.counter
  wraps : t.wraps = s.wraps
  entries : t.get O.DEEP_ENTRIES = s.get O.DEEP_ENTRIES

theorem stands_refl (s : State) : Stands s s := ⟨rfl, rfl, rfl⟩

theorem Stands.trans (h : Stands s t) (h' : Stands t u) : Stands s u :=
  ⟨h'.counter.trans h.counter, h'.wraps.trans h.wraps, h'.entries.trans h.entries⟩

theorem stands_foldl {α : Type} (l : List α) (f : State → α → State) (hf : ∀ u a, Stands u (f u a)) (s : State) :
    Stands s (l.foldl f s) := by
  induction l generalizing s with
  | nil => exact stands_refl s
  | cons a l ih => exact (hf s a).trans (ih (f s a))

theorem stands_setObj {i k : Nat} (h : objKey 0 O.DEEP_ENTRIES ≠ objKey i k) (s : State) (v : Slot) : Stands s (s.setObj i k v) :=
  ⟨rfl, rfl, State.obj_setObj_ne _ _ _ _ _ _ h⟩

theorem Worked.stands {K : KeepFields} {cs : List Nat} (h : Worked K cs s t) : Stands s t :=
  ⟨(congrArg State.counter h.still :), (congrArg State.wraps h.still :), h.objs 0 O.DEEP_ENTRIES (by decide) (by decide) (by decide)⟩

theorem turnAwayReads_stands (s : State) (l : Nat) : Stands s (turnAwayReads s l) := by
  unfold turnAwayReads
  dsimp only
  generalize hx : s.setLd l _ = u
  have hset : Stands s u := by
    rw [← hx]
    exact ⟨rfl, rfl, rfl⟩
  refine hset.trans (stands_foldl _ _ (fun v q => ?_) u)
  cases q.2.2 with
  | none => exact ⟨rfl, rfl, rfl⟩
  | some r => exact ⟨rfl, rfl, rfl⟩

theorem suspendOwner_stands (s : State) (o : Nat) : Stands s (suspendOwner s o) :=
  stands_foldl _ _ (fun u c => (worked_suspendCtx (K := anyKept) rfl rfl rfl (List.mem_singleton_self c) u 1).stands) s

theorem chanTo_stands (s : State) (x : Nat) (c : Chan) (st : ChanSt) : Stands s (chanTo s x c st) := by
  unfold chanTo
  split
  · exact ⟨rfl, rfl, rfl⟩
  · exact ⟨rfl, rfl, rfl⟩

theorem parkOwner_stands (s : State) (o : Nat) : Stands s (parkOwner s o) := by
  refine stands_foldl _ _ (fun u x => ?_) s
  split
  · exact chanTo_stands _ _ _ _
  · exact stands_refl u

theorem ldDisable_stands (s : State) (l : Nat) : Stands s (ldDisable s l) := by
  unfold ldDisable
  split
  · have hdrop : ∀ u : State, Stands u (dropShadows u l) := fun u => ⟨rfl, rfl, rfl⟩
    have hld : ∀ (u : State) (x : Ld), Stands u (u.setLd l x) := fun u x => ⟨rfl, rfl, rfl⟩
    exact ((((turnAwayReads_stands s l).trans (hld _ _)).trans (hdrop _)).trans (suspendOwner_stands _ l)).trans (parkOwner_stands _ l)
  · exact stands_refl s

theorem filterMap_idle {f : Nat × Chan → Option (Nat × Nat)} {l : List (Nat × Chan)} (hl : ∀ x ∈ l, x.2.inFlight = false)
    (hf : ∀ x, x.2.inFlight = false → f x = none) : l.filterMap f = [] :=
  List.filterMap_eq_nil_iff.mpr fun x hx => hf x (hl x hx)

/-- What a lost link shows (R431). -/
def linkShown (s : State) : State :=
  let s := ((s.countSat 0 O.CXL_LINK_DOWNS 32).flag 0 O.CXL_STATUS 1).unflag 0 O.CXL_STATUS 0
  ((s.put O.CXL_MODE_ACTIVE 0).put O.CXL_LINK_WIDTH 0).put O.CXL_LINK_GTS 0

/-- What a lost link does to the bursts that reach the host through it, and to the devices. -/
def linkDropped (s : State) : State :=
  let host := s.chans.filterMap fun (x, c) =>
    let d := s.desc x c.cur
    if decide (x < 32) && c.inFlight && d.sk == 1 then some (x, d.src + c.done)
    else if decide (x < 32) && c.inFlight && d.dk == 1 then some (x, d.dst + c.done)
    else none
  let s := match host with
    | (_, a) :: _ =>
      quench (((s.chans.map Prod.fst).filter fun x => decide (x < 32)).foldl abandon s) 0 4 a
    | [] => s
  (List.range 16).foldl ldDisable s

theorem linkLost_eq (s : State) : linkLost s = if s.dataLink then linkDropped (linkShown s) else s := rfl

theorem linkShown_chans (s : State) : (linkShown s).chans = s.chans := by
  simp only [linkShown, State.put_eq, State.flag_eq, State.countSat_eq, State.unflag, State.setObj_chans]

theorem linkShown_stands (s : State) : Stands s (linkShown s) := by
  have hput : ∀ (u : State) {k : Nat} (v : Slot), k ≠ O.DEEP_ENTRIES → Stands u (u.setObj 0 k v) := fun u k v hk =>
    stands_setObj (objKey_ne 0 (Ne.symm hk)) u v
  unfold linkShown
  dsimp only
  rw [State.countSat_eq, State.flag_eq]
  unfold State.unflag
  refine Stands.trans ?_ (hput _ (k := O.CXL_LINK_GTS) _ (by decide))
  refine Stands.trans ?_ (hput _ (k := O.CXL_LINK_WIDTH) _ (by decide))
  refine Stands.trans ?_ (hput _ (k := O.CXL_MODE_ACTIVE) _ (by decide))
  refine Stands.trans ?_ (hput _ (k := O.CXL_STATUS) _ (by decide))
  refine Stands.trans ?_ (hput _ (k := O.CXL_STATUS) _ (by decide))
  exact hput _ (k := O.CXL_LINK_DOWNS) _ (by decide)

theorem linkDropped_stands (h : ∀ x ∈ s.chans, x.2.inFlight = false) : Stands s (linkDropped s) := by
  unfold linkDropped
  rw [filterMap_idle h (fun x hx => by simp [hx])]
  exact stands_foldl _ _ ldDisable_stands s

theorem linkLost_stands (h : s.bursting = false) : Stands s (linkLost s) := by
  have hfly : ∀ x ∈ s.chans, x.2.inFlight = false := fun x hx => by simpa using List.any_eq_false.mp h x hx
  rw [linkLost_eq]
  split
  · exact (linkShown_stands s).trans (linkDropped_stands (by rw [linkShown_chans]; exact hfly))
  · exact stands_refl s

theorem linkLost_off (h : s.num O.CXL_LINK_WIDTH = 0) : linkLost s = s := by
  unfold linkLost State.dataLink
  rw [h]
  rfl

/-! ### The end of the entry -/

/-- What an entry of Deep records (R498, R536). -/
def deepNoted (s : State) : State := flushLog (powerEntry (s.countSat 0 O.DEEP_ENTRIES 32) 0xFD)

/-- The module is in Deep since `n`. -/
def deepSlept (s : State) (n : Nat) : State := { s with
  dev := .deep
  dies := s.dies.map fun x => if x.st = .active ∨ x.st = .reserve ∨ x.st = .retention then
    { x with st := .off, counterFrom := none } else x
  hbm := s.hbm.map fun _ => {}
  can := { s.can with nmt := .initialisation }
  power := { s.power with
    deepFrom := n
    domains := List.replicate 15 0
    queue := []
    wakeKept := []
    loops := List.replicate 9 (List.replicate 4 {}) } }

/-- What the end of the entry leaves. -/
def deepEntered (s : State) : State := deepSlept (deepLoss (linkLost (deepNoted s))) (deepLoss (linkLost (deepNoted s))).now

theorem deepDone_eq (h : EntryEnds 3 s) : deepDone s = deepEntered s ∨ ∃ c, deepDone s = leaveDeep (deepEntered s) c 0 := by
  unfold deepDone
  rw [resumeEntry_none h.entry]
  dsimp only
  rw [if_pos ⟨h.phase, h.starting, h.bursting, h.suspending⟩]
  split
  · exact .inr ⟨_, rfl⟩
  · exact .inl rfl

/-- What stands in Deep, also where a kept wake begins the start at once. -/
structure DeepEntered (s t : State) : Prop where
  dev : t.dev = .deep
  empty : t.mem = [] ∧ t.chans = [] ∧ t.plans = [] ∧ t.bufs = [] ∧ t.ports = []
  entries : t.num O.DEEP_ENTRIES = satN 32 (s.num O.DEEP_ENTRIES + 1)
  since : t.power.deepFrom = s.now
  poison : ∀ h ∈ t.halves, h.poison = []
  dies : ∀ d ∈ t.dies, d.st ≠ .active ∧ d.st ≠ .reserve ∧ d.st ≠ .retention
  logged : s.num O.CXL_LINK_WIDTH = 0 → t.faults.flushed = t.faults.log.length ∧
    ∃ e, t.faults.log.getLast? = some e ∧ e.bit = 0xFD

theorem DeepEntered.settled (h : DeepEntered s t) : DeepEntered s (settle t) := by
  obtain ⟨hmem, hchans, hplans, hbufs, hports⟩ := h.empty
  refine ⟨?_, ⟨?_, ?_, ?_, ?_, ?_⟩, ?_, ?_, ?_, ?_, ?_⟩
  · rw [settle_dev, if_neg (by rw [h.dev]; decide)]
    exact h.dev
  · rw [settle_mem, hmem]
  · rw [settle_chans, hchans]
  · rw [settle_plans, hplans]
  · rw [settle_bufs, hbufs]
  · rw [settle_ports, hports]
  · exact (congrArg BitVec.toNat (obj_settle_of t 0 O.DEEP_ENTRIES (by decide) (by decide))).trans h.entries
  · rw [settle_power, h.since]
  · rw [settle_halves]
    exact h.poison
  · rw [settle_dies]
    exact h.dies
  · rw [settle_faults]
    exact h.logged

theorem DeepEntered.left (h : DeepEntered s t) (cause ticks : Nat) : DeepEntered s (leaveDeep t cause ticks) := by
  obtain ⟨hmem, hchans, hplans, hbufs, hports⟩ := h.empty
  have hleft := leaveDeep_leaves t cause ticks
  generalize leaveDeep t cause ticks = u at hleft ⊢
  generalize t.afterDeep ticks = a at hleft
  have hdev : u.dev = t.dev := by rw [hleft.rest]
  have hh : u.halves = t.halves := by rw [hleft.rest]
  have hd : u.dies = t.dies := by rw [hleft.rest]
  have hf : u.faults = t.faults := by rw [hleft.rest]
  refine ⟨hdev.trans h.dev, ⟨?_, ?_, ?_, ?_, ?_⟩, ?_, hleft.since.trans h.since, ?_, ?_, ?_⟩
  · rw [hleft.rest, hmem]
  · rw [hleft.rest, hchans]
  · rw [hleft.rest, hplans]
  · rw [hleft.rest, hbufs]
  · rw [hleft.rest, hports]
  · exact (congrArg BitVec.toNat (hleft.objs O.DEEP_ENTRIES (by decide))).trans h.entries
  · rw [hh]
    exact h.poison
  · rw [hd]
    exact h.dies
  · rw [hf]
    exact h.logged

/-- A logged entry, with the log written to flash. -/
structure Flushed (b : Nat) (s t : State) : Prop where
  rest : t = { s with faults := t.faults, freeCtr := t.freeCtr }
  length : t.faults.flushed = t.faults.log.length
  last : ∃ e, t.faults.log.getLast? = some e ∧ e.bit = b

theorem flushLog_logged (s : State) (b die input code detail : Nat) : Flushed b s (flushLog (logFault s b die input code detail)) := by
  obtain ⟨e, hlast, hb, -⟩ := logFault_last s b die input code detail
  have hrest : logFault s b die input code detail = { s with faults := (logFault s b die input code detail).faults } := by
    simp only [logFault]
  generalize logFault s b die input code detail = t at hlast hrest ⊢
  refine ⟨?_, rfl, e, hlast, hb⟩
  rw [hrest]
  rfl

theorem powerEntry_flushed (s : State) (b : Nat) : Flushed b s (flushLog (powerEntry s b)) := by
  unfold powerEntry
  dsimp only
  obtain ⟨hrest, hlen, hlast⟩ := flushLog_logged s.free.2 b 0xFF 0xFF 0 s.free.1.toNat
  refine ⟨?_, hlen, hlast⟩
  rw [hrest]
  rfl

theorem deepNoted_noted (s : State) : (deepNoted s).now = s.now ∧ (deepNoted s).bursting = s.bursting ∧
    (deepNoted s).num O.DEEP_ENTRIES = satN 32 (s.num O.DEEP_ENTRIES + 1) ∧
    (deepNoted s).num O.CXL_LINK_WIDTH = s.num O.CXL_LINK_WIDTH ∧
    ((deepNoted s).faults.flushed = (deepNoted s).faults.log.length ∧
      ∃ e, (deepNoted s).faults.log.getLast? = some e ∧ e.bit = 0xFD) := by
  have hcount : (s.countSat 0 O.DEEP_ENTRIES 32).num O.DEEP_ENTRIES = satN 32 (s.num O.DEEP_ENTRIES + 1) := by
    rw [State.num_eq, State.countSat_eq, State.obj_setObj_self, ofN_toNat _ (satN32_lt _), State.num_eq]
  have hwidth : (s.countSat 0 O.DEEP_ENTRIES 32).num O.CXL_LINK_WIDTH = s.num O.CXL_LINK_WIDTH := by
    rw [State.num_eq, State.countSat_eq, State.obj_setObj_ne _ _ _ _ _ _ (objKey_ne 0 (by decide)), State.num_eq]
  have hfields : (s.countSat 0 O.DEEP_ENTRIES 32).now = s.now ∧ (s.countSat 0 O.DEEP_ENTRIES 32).bursting = s.bursting := ⟨rfl, rfl⟩
  obtain ⟨hrest, hlen, hlast⟩ := powerEntry_flushed (s.countSat 0 O.DEEP_ENTRIES 32) 0xFD
  unfold deepNoted
  generalize flushLog (powerEntry (s.countSat 0 O.DEEP_ENTRIES 32) 0xFD) = t at hrest hlen hlast ⊢
  generalize s.countSat 0 O.DEEP_ENTRIES 32 = u at hcount hwidth hfields hrest
  have hobj : ∀ k, t.num k = u.num k := fun k => by rw [hrest]; rfl
  have hsame : t.now = u.now ∧ t.bursting = u.bursting := by rw [hrest]; exact ⟨rfl, rfl⟩
  exact ⟨hsame.1.trans hfields.1, hsame.2.trans hfields.2, (hobj _).trans hcount, (hobj _).trans hwidth, hlen, hlast⟩

theorem deepEntered_enters (hb : s.bursting = false) : DeepEntered s (deepEntered s) := by
  obtain ⟨hnow, hburst, hentries, hwidth, hlogged⟩ := deepNoted_noted s
  have hstands := linkLost_stands (hburst.trans hb)
  have hlog : s.num O.CXL_LINK_WIDTH = 0 → (linkLost (deepNoted s)).faults = (deepNoted s).faults := fun h => by
    rw [linkLost_off (hwidth.trans h)]
  unfold deepEntered
  generalize deepNoted s = v at hstands hlog hnow hentries hlogged ⊢
  generalize linkLost v = w at hstands hlog ⊢
  refine ⟨rfl, ⟨rfl, rfl, rfl, rfl, rfl⟩, ?_, ?_, ?_, ?_, fun h => ?_⟩
  · exact (congrArg BitVec.toNat hstands.entries).trans hentries
  · exact (now_congr hstands.counter hstands.wraps).trans hnow
  · intro h hm
    obtain ⟨x, -, rfl⟩ := List.mem_map.mp hm
    rfl
  · intro d hm
    obtain ⟨x, -, rfl⟩ := List.mem_map.mp hm
    split
    · exact ⟨by simp, by simp, by simp⟩
    · next h =>
      simp only [not_or] at h
      exact h
  · exact hlog h ▸ hlogged

theorem deepEntryDone_enters (h : EntryEnds 3 s) : Answers .deepEntryDone s (DeepEntered s) := by
  have hexec : exec .deepEntryDone s = done (deepDone s) := by rw [exec_deepEntryDone]; rfl
  have hent := deepEntered_enters h.bursting
  rcases deepDone_eq h with he | ⟨c, he⟩
  · exact answers_done (hexec.trans (congrArg done he)) hent.settled
  · exact answers_done (hexec.trans (congrArg done he)) (hent.left c 0).settled

theorem deepDone_stays (he : s.power.entry = none)
    (h : s.get O.POWER_PHASE ≠ 3 ∨ s.bursting = true ∨ s.suspending = true) : deepDone s = s := by
  unfold deepDone
  rw [resumeEntry_none he]
  dsimp only
  rw [if_neg]
  rintro ⟨hp, -, hb, hs⟩
  rcases h with h | h | h
  · exact h hp
  · exact absurd (hb.symm.trans h) (by decide)
  · exact absurd (hs.symm.trans h) (by decide)

/-! ### O54 -/

/-- The commands that end an entry do nothing while it cannot end. -/
theorem entryDone_stays (he : s.power.entry = none) :
    ((s.get O.POWER_PHASE ≠ 1 ∨ s.bursting = true ∨ s.suspending = true) → Answers .watchEntryDone s fun t => OnlyObjs [] s t) ∧
    ((s.get O.POWER_PHASE ≠ 3 ∨ s.bursting = true ∨ s.suspending = true) → Answers .deepEntryDone s fun t => OnlyObjs [] s t) := by
  refine ⟨fun h => answers_idle ?_, fun h => answers_idle ?_⟩
  · rw [exec_watchEntryDone, execWatchEntryDone, watchDone_stays he h]
  · rw [exec_deepEntryDone, execDeepEntryDone, deepDone_stays he h]

theorem wakeEdge_kept (hs : s.starting = false) {n : Nat} {rising : Bool} (hn : n < s.D)
    (hb : bit (s.get (O.WAKE_EDGE_n + n)) 31 = true)
    (hslope : fld (s.get (O.WAKE_EDGE_n + n)) 24 2 = 2 ∨ fld (s.get (O.WAKE_EDGE_n + n)) 24 2 = (if rising then 0 else 1)) :
    (s.get O.POWER_PHASE = 1 → Answers (.wakeEdge n rising) s fun t =>
      OnlyObjs [] (s.keeping { at_ := s.now, cause := 2, input := n }) t) ∧
    (s.get O.POWER_PHASE = 3 → Answers (.wakeEdge n rising) s fun t => OnlyObjs [] s t) := by
  have hexec := exec_wakeEdge_taken hn hb hslope
  refine ⟨fun hp => ?_, fun hp => ?_⟩
  · rw [wakeRequest_keeps hs hp] at hexec
    exact answers_done hexec (keeping_settled s _)
  · rw [wakeRequest_deep hp (by decide)] at hexec
    exact answers_idle hexec

/-- The steward's commands in the Steady phase. -/
theorem power_commands (h : Served s p) (ho : ownerOf p = s.steward) (hp : s.get O.POWER_PHASE = 0) :
    (s.alloyMoves = true → Answers (.enterDeep p) s fun t => OnlyObjs [] (s.waiting 3) t) ∧
    (s.alloyMoves = false → Answers (.enterDeep p) s fun t =>
      t.get O.POWER_PHASE = 3 ∧ t.power.entry = none ∧ t.power.entryAt = s.now / 48 ∧ t.test = none ∧
      t.testNext = none ∧ t.testDue = [] ∧ SuspendsAll s t) ∧
    (s.dev ≠ .watch → s.alloyMoves = true → Answers (.enterWatch p) s fun t => OnlyObjs [] (s.waiting 1) t) ∧
    (s.dev ≠ .watch → s.alloyMoves = false → Answers (.enterWatch p) s fun t =>
      t.get O.POWER_PHASE = 1 ∧ t.power.entry = none ∧ t.power.entryAt = s.now / 48 ∧ t.test = none ∧
      t.testNext = none ∧ t.testDue = [] ∧ SuspendsAll s t) ∧
    (s.dev = .watch → Answers (.enterWatch p) s fun t => OnlyObjs [] s t) ∧
    (s.dev = .watch → Answers (.leaveWatch p) s fun t =>
      t.get O.POWER_PHASE = 2 ∧ t.get O.WAKE_CAUSE = 1 ∧ t.get O.WAKE_INPUT = 0xFF ∧ t.power.wakeAt = s.now ∧
      t.get O.WAKE_TM = tmOf ((s.now + 24) / 48 * 48) ∧
      OnlyObjs [objKey 0 O.POWER_PHASE, objKey 0 O.WAKE_CAUSE, objKey 0 O.WAKE_INPUT, objKey 0 O.WAKE_TM
        , objKey 0 O.WAKE_WRAP] { s with power := t.power } t) ∧
    (s.dev ≠ .watch → Answers (.leaveWatch p) s fun t => Rejected s t p O.POWER_CMD 2 .presentState) := by
  refine ⟨?_, ?_, ?_, ?_, ?_, ?_, ?_⟩
  · exact fun hm => enterDeep_answers h ho hp (entering_waits s hm)
  · exact fun hm => enterDeep_answers h ho hp (entering_stops s hm)
  · exact fun hd hm => enterWatch_answers h ho hp hd (entering_waits s hm)
  · exact fun hd hm => enterWatch_answers h ho hp hd (entering_stops s hm)
  · exact fun hd => enterWatch_there h ho hp hd
  · intro hd
    refine (leaveWatch_wakes h ho hp hd).mono fun t hw => ⟨hw.phase, hw.cause, hw.input, hw.since, hw.touch, ?_⟩
    exact OnlyObjs.mono hw.frame (by decide)
  · exact fun hd => leaveWatch_ready h ho hp hd

/-- Settles O54: an entry without an alloy that moves stops what runs (`quiesce_quiesced`), its end lays the dies to rest, and every
wake records its cause before it queues the starts. -/
theorem powerTransitions : Obligations.PowerTransitions := by
  refine ⟨?_, ?_, ?_, ?_, ?_, ?_, ?_, ?_, ?_, ?_⟩
  · exact fun s p h => ⟨fun ho hp => power_commands h ho hp, fun ho hp i hi => power_moving h ho hp hi, fun ho i hi => power_stranger h ho hi⟩
  · intro s he hs hb hsu
    refine ⟨fun hp hk => watchEntryDone_enters ⟨he, hs, hb, hsu, hp⟩ hk, fun hp => ?_, fun hp => ?_, fun hp => ?_⟩
    · refine (deepEntryDone_enters ⟨he, hs, hb, hsu, hp⟩).mono fun t ht => ?_
      obtain ⟨hmem, hchans, hplans, hbufs, hports⟩ := ht.empty
      exact ⟨ht.dev, hmem, hchans, hplans, hbufs, hports, ht.entries, ht.since, ht.poison, ht.dies, ht.logged⟩
    · exact (entryDone_stays he).1 (.inl hp)
    · exact (entryDone_stays he).2 (.inl hp)
  · exact fun s he h => ⟨(entryDone_stays he).1 (.inr h), (entryDone_stays he).2 (.inr h)⟩
  · exact fun s n rising hs hn hb hslope => ⟨fun hd hp => wakeEdge_wakes hs hn hb hslope hd hp, wakeEdge_kept hs hn hb hslope⟩
  · exact fun s n rising hb => wakeEdge_off hb
  · exact fun s hs hd hp hm => wakeTimerExpiry_wakes hs hd hp hm
  · exact fun s ticks cause i hd hs hi => deepWakes_start hd hs hi
  · exact fun s ticks hd hp ha => ⟨fun hb => deepTriginWake_keeps hd hp ha hb ticks, fun hb => canDominantWake_keeps hd hp ha hb ticks⟩
  · exact fun s i hi => deepWake_masked hi
  · exact fun s => ⟨wakePinRelease_held, wakePinRelease_free⟩

end Sys2Proof.Machine
end

section
/-! ## Requests of the fabric manager and of the memory-device mailbox (R430, R433 to R437, R440), and O46 -/

namespace Sys2Proof.Machine

variable {s t u : State} {l m c : Nat}

/-! ### An LD that a request disables (R450) -/

theorem ld_setLd_self (h : l < s.lds.length) (x : Ld) : (s.setLd l x).ld l = x := by
  rw [State.ld, State.setLd]
  exact (List.getD_eq_getElem _ _ (by rw [List.length_set]; exact h)).trans (List.getElem_set_self _)

theorem ld_setLd_ne (h : m ≠ l) (x : Ld) : (s.setLd l x).ld m = s.ld m := by
  rw [State.ld, State.setLd, State.ld, List.getD_eq_getElem?_getD, List.getD_eq_getElem?_getD, List.getElem?_set_ne (Ne.symm h)]

theorem setLd_length (s : State) (l : Nat) (x : Ld) : (s.setLd l x).lds.length = s.lds.length := List.length_set

theorem ld_length_of {st : LdSt} (h : (s.ld l).st = st) (hst : st ≠ .unallocated) : l < s.lds.length := by
  by_contra hl
  have h0 : s.ld l = {} := List.getD_eq_default _ _ (Nat.le_of_not_lt hl)
  rw [h0] at h
  exact hst h.symm

/-- Between `s` and `t` LD `l` keeps its allocation and its state, the others all they hold, and every context stands. -/
structure Beside (l : Nat) (s t : State) : Prop where
  own : (t.ld l).st = (s.ld l).st ∧ (t.ld l).alloc = (s.ld l).alloc
  others : ∀ m, m ≠ l → t.ld m = s.ld m
  length : t.lds.length = s.lds.length
  ctxs : t.ctxs = s.ctxs

theorem Beside.trans (h : Beside l s t) (h' : Beside l t u) : Beside l s u where
  own := ⟨h'.own.1.trans h.own.1, h'.own.2.trans h.own.2⟩
  others m hm := (h'.others m hm).trans (h.others m hm)
  length := h'.length.trans h.length
  ctxs := h'.ctxs.trans h.ctxs

theorem beside_of (hl : t.lds = s.lds) (hc : t.ctxs = s.ctxs) : Beside l s t := by
  have hld : ∀ m, t.ld m = s.ld m := fun m => by rw [State.ld, hl, State.ld]
  exact ⟨by rw [hld]; exact ⟨rfl, rfl⟩, fun m _ => hld m, by rw [hl], hc⟩

theorem beside_foldl {α : Type} (as : List α) (f : State → α → State) (hf : ∀ u a, Beside l u (f u a)) (s : State) :
    Beside l s (as.foldl f s) := by
  induction as generalizing s with
  | nil => exact beside_of rfl rfl
  | cons a as ih => exact (hf s a).trans (ih (f s a))

theorem beside_setLd {x : Ld} (h : l < s.lds.length) (hst : x.st = (s.ld l).st) (ha : x.alloc = (s.ld l).alloc) :
    Beside l s (s.setLd l x) where
  own := by rw [ld_setLd_self h]; exact ⟨hst, ha⟩
  others _ hm := ld_setLd_ne hm x
  length := setLd_length s l x
  ctxs := rfl

theorem turnAwayReads_beside (h : l < s.lds.length) : Beside l s (turnAwayReads s l) := by
  unfold turnAwayReads
  dsimp only
  generalize hx : s.setLd l _ = u
  have hset : Beside l s u := by
    rw [← hx]
    exact beside_setLd h rfl rfl
  refine hset.trans (beside_foldl _ _ (fun v q => ?_) u)
  cases q.2.2 with
  | none => exact beside_of rfl rfl
  | some r => exact beside_of rfl rfl

theorem chanTo_beside (s : State) (x : Nat) (ch : Chan) (st : ChanSt) : Beside l s (chanTo s x ch st) := by
  unfold chanTo
  split
  · exact beside_of rfl rfl
  · exact beside_of rfl rfl

theorem parkOwner_beside (s : State) (o : Nat) : Beside l s (parkOwner s o) := by
  refine beside_foldl _ _ (fun u x => ?_) s
  split
  · exact chanTo_beside _ _ _ _
  · exact beside_of rfl rfl

/-- The contexts that the end of owner `o` suspends. -/
def State.suspendedBy (s : State) (o : Nat) : List Nat :=
  s.reachable.filter fun c => s.ctxOwner c == o && (s.ctx c).any fun x => x.st == .armed || x.st == .held

theorem suspendOwner_eq (s : State) (o : Nat) : suspendOwner s o = suspendEach s (s.suspendedBy o) 1 := rfl

theorem mem_suspendedBy {x : Ctx} (h : s.ctx c = some x) :
    c ∈ s.suspendedBy l ↔ x.owner = l ∧ (x.st = .armed ∨ x.st = .held) := by
  have ho : s.ctxOwner c = x.owner := by
    rw [State.ctxOwner, h]
  unfold State.suspendedBy
  rw [List.mem_filter, ho, h]
  simp only [Option.any_some, Bool.and_eq_true, beq_iff_eq, Bool.or_eq_true]
  refine ⟨And.right, fun hx => ⟨bound_reachable h ?_, hx⟩⟩
  rcases hx.2 with hst | hst <;> simp [Ctx.bound, hst]

theorem suspendOwner_suspends (s : State) (o : Nat) : Suspends o s (suspendOwner s o) := by
  intro c x hx ho
  rw [suspendOwner_eq]
  refine ⟨fun hst ha hn => ?_, fun ha hh => ?_⟩
  · exact suspendEach_suspends _ hx hst ha hn 1 ((mem_suspendedBy hx).mpr ⟨ho, hst⟩)
  · have hc : c ∉ s.suspendedBy o := fun hm => ((mem_suspendedBy hx).mp hm).2.elim ha hh
    exact ⟨x, ((worked_suspendEach (K := anyKept) rfl rfl rfl _ 1 s).others c hc).trans hx, rfl, rfl, rfl⟩

/-- An LD's standing apart from its pending messages. -/
theorem bare_of_map (h : t.lds.map Ld.bare = s.lds.map Ld.bare) (m : Nat) : (t.ld m).bare = (s.ld m).bare := by
  have hget : (t.lds.map Ld.bare)[m]? = (s.lds.map Ld.bare)[m]? := by rw [h]
  rw [List.getElem?_map, List.getElem?_map] at hget
  unfold State.ld
  rw [List.getD_eq_getElem?_getD, List.getD_eq_getElem?_getD]
  cases ht : t.lds[m]? with
  | none =>
    cases hs : s.lds[m]? with
    | none => rfl
    | some y => simp [ht, hs] at hget
  | some x =>
    cases hs : s.lds[m]? with
    | none => simp [ht, hs] at hget
    | some y => simpa [ht, hs] using hget

theorem suspendOwner_lds (s : State) (o : Nat) : (suspendOwner s o).lds.map Ld.bare = s.lds.map Ld.bare := by
  rw [suspendOwner_eq]
  exact (congrArg State.lds (worked_suspendEach (K := anyKept) rfl rfl rfl (s.suspendedBy o) 1 s).still :)

theorem suspends_congr (hs : ∀ c, u.ctx c = s.ctx c) (h : Suspends l u t) : Suspends l s t := fun c x hx => h c x ((hs c).trans hx)

theorem suspends_after (ht : ∀ c, u.ctx c = t.ctx c) (h : Suspends l s t) : Suspends l s u := by
  intro c x hx ho
  unfold SuspendsIt
  rw [ht c]
  exact h c x hx ho

/-- What the disabling of LD `l` leaves of the LDs (R450). -/
structure LdGone (l : Nat) (s t : State) : Prop where
  st : (t.ld l).st = .disabling
  alloc : (t.ld l).alloc = (s.ld l).alloc
  others : ∀ m, m ≠ l → (t.ld m).bare = (s.ld m).bare
  length : t.lds.length = s.lds.length
  suspends : Suspends l s t

theorem ldDisable_gone (h : (s.ld l).st = .enabled) : LdGone l s (ldDisable s l) := by
  have hl := ld_length_of h (by decide)
  have hturn := turnAwayReads_beside hl
  unfold ldDisable
  rw [if_pos h]
  dsimp only
  generalize turnAwayReads s l = v at hturn ⊢
  have hv := hl.trans_eq hturn.length.symm
  have hself := ld_setLd_self hv { v.ld l with st := .disabling }
  have hne : ∀ m, m ≠ l → (v.setLd l { v.ld l with st := .disabling }).ld m = v.ld m := fun m hm => ld_setLd_ne hm _
  have hlen := setLd_length v l { v.ld l with st := .disabling }
  have hctx : (v.setLd l { v.ld l with st := .disabling }).ctxs = v.ctxs := rfl
  generalize v.setLd l { v.ld l with st := .disabling } = w at hself hne hlen hctx ⊢
  have hdl : (dropShadows w l).lds = w.lds := rfl
  have hdc : (dropShadows w l).ctxs = w.ctxs := rfl
  generalize dropShadows w l = x at hdl hdc ⊢
  have hsus := suspendOwner_suspends x l
  have hlds := suspendOwner_lds x l
  generalize suspendOwner x l = y at hsus hlds ⊢
  have hpark := parkOwner_beside (l := l) y l
  have hld : ∀ m, (y.ld m).bare = (w.ld m).bare := bare_of_map (hlds.trans (congrArg (List.map Ld.bare) hdl))
  have hold : ∀ c, x.ctx c = s.ctx c := ctx_of_ctxs (hdc.trans (hctx.trans hturn.ctxs))
  have hylen : y.lds.length = w.lds.length := by simpa [hdl] using congrArg List.length hlds
  refine ⟨?_, ?_, fun m hm => ?_, ?_, ?_⟩
  · have hst : (y.ld l).st = (w.ld l).st := (congrArg Ld.st (hld l) :)
    rw [hpark.own.1, hst, hself]
  · have ha : (y.ld l).alloc = (w.ld l).alloc := (congrArg Ld.alloc (hld l) :)
    rw [hpark.own.2, ha, hself]
    exact hturn.own.2
  · rw [hpark.others m hm, hld, hne m hm, hturn.others m hm]
  · rw [hpark.length, hylen, hlen, hturn.length]
  · exact suspends_after (ctx_of_ctxs hpark.ctxs) (suspends_congr hold hsus)

theorem ldDisable_idle (h : (s.ld l).st ≠ .enabled) : ldDisable s l = s := if_neg h

theorem settle_ldBare (s : State) (m : Nat) : ((settle s).ld m).bare = (s.ld m).bare :=
  bare_of_map (congrArg State.lds (settle_body s) :) m

theorem settle_ld (s : State) (m : Nat) : ((settle s).ld m).st = (s.ld m).st ∧ ((settle s).ld m).alloc = (s.ld m).alloc ∧
    ((settle s).ld m).events = (s.ld m).events :=
  ⟨(congrArg Ld.st (settle_ldBare s m) :), (congrArg Ld.alloc (settle_ldBare s m) :), (congrArg Ld.events (settle_ldBare s m) :)⟩

/-! ### Answers of the fabric manager -/

theorem fm_answers {i : Instr} {code : Nat} {data : List Nat} (hi : exec i s = done (fmAnswer s code data)) :
    Answers i s fun t => .fm code data ∈ t.sent ∧ OnlyObjs [] s t := answers_sent hi

/-- A command that changes `s` to `u` and then answers. -/
theorem fm_answers_after {i : Instr} {code : Nat} {data : List Nat} {P : State → Prop}
    (hi : exec i s = done (fmAnswer u code data)) (hP : P (settle (fmAnswer u code data))) :
    Answers i s fun t => .fm code data ∈ t.sent ∧ P t := answers_done hi ⟨sent_first rfl, hP⟩

theorem fmIdentify_answers (ha : s.awake = true) : Answers .fmIdentify s fun t =>
    .fm 0 ((List.range 6).map fun k => (Config.pciId k).toNat) ∈ t.sent ∧ OnlyObjs [] s t :=
  fm_answers (by rw [exec_fmIdentify, execFmIdentify, if_pos ha])

theorem fmGetLdInfo_answers (ha : s.awake = true) : Answers .fmGetLdInfo s fun t =>
    .fm 0 [48 * s.D * 2 ^ 28, if s.num O.CXL_MODE_ACTIVE = 1 then 1 else 16, 0] ∈ t.sent ∧ OnlyObjs [] s t :=
  fm_answers (by rw [exec_fmGetLdInfo, execFmGetLdInfo, if_pos ha, State.capacityUnits, State.ldCount])

theorem fmGetSteward_answers (ha : s.awake = true) : Answers .fmGetSteward s fun t =>
    .fm 0 [s.num O.STEWARD_NAMED] ∈ t.sent ∧ OnlyObjs [] s t :=
  fm_answers (by rw [exec_fmGetSteward, execFmGetSteward, if_pos ha])

/-- The pairs of a list of LDs: each allocation, then 0. -/
theorem pairs_length (ls : List Ld) : (ls.flatMap fun x => [x.alloc, 0]).length = 2 * ls.length := by
  induction ls with
  | nil => rfl
  | cons x ls ih => simp only [List.flatMap_cons, List.length_append, List.length_cons, List.length_nil, ih]; omega

theorem pairs_get (ls : List Ld) (i : Nat) : (ls.flatMap fun x => [x.alloc, 0])[2 * i]? = ls[i]?.map Ld.alloc := by
  induction ls generalizing i with
  | nil => rfl
  | cons x ls ih =>
    cases i with
    | zero => rfl
    | succ i =>
      rw [List.flatMap_cons, List.getElem?_cons_succ, ← ih, Nat.mul_succ]
      rfl

theorem ldCount_le (s : State) : s.ldCount ≤ 16 := by
  unfold State.ldCount
  split
  · decide
  · decide

theorem fmGetLdAllocations_answers (ha : s.awake = true) (hl : s.lds.length = 16) : Answers .fmGetLdAllocations s fun t =>
    (∃ r, .fm 0 ([s.ldCount, 0, 0, s.ldCount] ++ r) ∈ t.sent ∧ r.length = 2 * s.ldCount ∧
      ∀ i, i < s.ldCount → r[2 * i]? = some (s.ld i).alloc) ∧ OnlyObjs [] s t := by
  have hlen : (s.lds.take s.ldCount).length = s.ldCount := List.length_take_of_le ((ldCount_le s).trans_eq hl.symm)
  refine (fm_answers (code := 0) (data := [s.ldCount, 0, 0, s.ldCount] ++ (s.lds.take s.ldCount).flatMap fun x => [x.alloc, 0])
    ?_).mono fun t ht => ⟨⟨_, ht.1, ?_, fun i hi => ?_⟩, ht.2⟩
  · rw [exec_fmGetLdAllocations, execFmGetLdAllocations, if_pos ha, hlen]
  · rw [pairs_length, hlen]
  · have hi16 : i < s.lds.length := (hi.trans_le (ldCount_le s)).trans_eq hl.symm
    rw [pairs_get, List.getElem?_take_of_lt hi, List.getElem?_eq_getElem hi16, State.ld, List.getD_eq_getElem _ _ hi16]
    rfl

/-! ### The named steward (R435, R437) -/

/-- The named LD is the steward while it is Enabled (R437). -/
theorem settled_steward {n : Nat} (hn : n < 16) (hs : (settle u).num O.STEWARD_NAMED = n) (he : (u.ld n).st = .enabled) :
    (settle u).steward = n := by
  have hok : (settle u).steward = (settle u).stewardDue := (settle_inv u).1
  rw [hok, State.stewardDue, hs, if_pos ⟨hn, (settle_ld u n).1.trans he⟩]

theorem fmSetSteward_sets (ha : s.awake = true) {b : Byte} (hb : b.toNat < 16 ∨ b = 0xFF#8) : Answers (.fmSetSteward b) s fun t =>
    t.num O.STEWARD_NAMED = b.toNat ∧ .fm 0 [] ∈ t.sent ∧
    ((s.ld b.toNat).st = .enabled → b.toNat < 16 → t.steward = b.toNat) ∧
    OnlyObjs [objKey 0 O.STEWARD_NAMED] s t := by
  have hexec : exec (.fmSetSteward b) s = done (fmAnswer (s.put O.STEWARD_NAMED (ofN b.toNat)) 0 []) := by
    rw [exec_fmSetSteward, execFmSetSteward, if_pos ha, if_pos hb]
  have hnum : (settle (fmAnswer (s.put O.STEWARD_NAMED (ofN b.toNat)) 0 [])).num O.STEWARD_NAMED = b.toNat := by
    have hobj : (fmAnswer (s.put O.STEWARD_NAMED (ofN b.toNat)) 0 []).get O.STEWARD_NAMED = ofN b.toNat := State.obj_setObj_self _ _ _ _
    exact (congrArg BitVec.toNat ((obj_settle_of _ 0 O.STEWARD_NAMED (by decide) (by decide)).trans hobj)).trans
      (ofN_toNat _ (b.isLt.trans (by decide)))
  refine answers_done hexec ⟨hnum, sent_first rfl, fun he h16 => settled_steward h16 hnum he, OnlyObjs.settled ?_⟩
  exact ((onlyObjs_refl s _).put (by simp) _).trans (onlyObjs_congr _ rfl rfl rfl)

theorem fmSetSteward_fails (ha : s.awake = true) {b : Byte} (hb : 16 ≤ b.toNat) (hne : b ≠ 0xFF#8) :
    Answers (.fmSetSteward b) s fun t => .fm 2 [] ∈ t.sent ∧ OnlyObjs [] s t := by
  refine fm_answers ?_
  rw [exec_fmSetSteward, execFmSetSteward, if_pos ha, if_neg fun h => h.elim (Nat.not_lt_of_le hb) hne]

/-! ### Disabling an LD (R435, R450) -/

theorem listed : ¬ (!fmOpcodes.contains 0xC002) = true := by decide

theorem exec_fmDisableLd_asked (ha : s.awake = true) (hl : l < 16) :
    exec (.fmDisableLd ⟨0xC002, l, 0⟩) s = done (fmAnswer (ldDisable s l) 0 []) := by
  rw [exec_fmDisableLd, execFmDisableLd, if_pos ha, if_neg listed, if_pos ⟨hl, rfl⟩]

theorem fmDisableLd_idle (ha : s.awake = true) (hl : l < 16) (h : (s.ld l).st ≠ .enabled) :
    Answers (.fmDisableLd ⟨0xC002, l, 0⟩) s fun t => .fm 0 [] ∈ t.sent ∧ OnlyObjs [] s t := by
  refine fm_answers ?_
  rw [exec_fmDisableLd_asked ha hl, ldDisable_idle h]

theorem LdGone.settledAnswer (h : LdGone l s t) (code : Nat) (data : List Nat) : LdDisabled l s (settle (fmAnswer t code data)) := by
  have hset := settle_ld (fmAnswer t code data)
  have hld : ∀ m, (fmAnswer t code data).ld m = t.ld m := fun m => rfl
  refine ⟨?_, fun m hm => ?_, ?_⟩
  · rw [(hset l).1, hld, h.st]
  · rw [(hset m).1, hld]
    exact (congrArg Ld.st (h.others m hm) :)
  · exact suspends_after (fun c => (ctx_settle (s := fmAnswer t code data) c).trans rfl) h.suspends

theorem fmDisableLd_disables (ha : s.awake = true) (hl : l < 16) (h : (s.ld l).st = .enabled) :
    Answers (.fmDisableLd ⟨0xC002, l, 0⟩) s fun t => .fm 0 [] ∈ t.sent ∧ LdDisabled l s t :=
  fm_answers_after (exec_fmDisableLd_asked ha hl) ((ldDisable_gone h).settledAnswer 0 [])

theorem fmDisableLd_invalid (ha : s.awake = true) {k : Nat} (h : 16 ≤ l ∨ k ≠ 0) :
    Answers (.fmDisableLd ⟨0xC002, l, k⟩) s fun t => .fm 2 [] ∈ t.sent ∧ OnlyObjs [] s t := by
  refine fm_answers ?_
  rw [exec_fmDisableLd, execFmDisableLd, if_pos ha, if_neg listed, if_neg fun hh => h.elim (Nat.not_le_of_lt hh.1) fun hk => hk hh.2]

theorem fmDisableLd_unsupported (ha : s.awake = true) {op k : Nat} (h : fmOpcodes.contains op = false) :
    Answers (.fmDisableLd ⟨op, l, k⟩) s fun t => .fm 3 [] ∈ t.sent ∧ OnlyObjs [] s t := by
  refine fm_answers ?_
  rw [exec_fmDisableLd, execFmDisableLd, if_pos ha, if_pos (by rw [h]; rfl)]

/-! ### Allocations (R434, R436) -/

/-- Between `s` and `t` LD `l` takes the allocation `n`, and no other changes its own. -/
structure Allotted (l n : Nat) (s t : State) : Prop where
  own : (t.ld l).alloc = n
  others : ∀ m, m ≠ l → (t.ld m).alloc = (s.ld m).alloc
  length : t.lds.length = s.lds.length

theorem ldDisable_allocs (s : State) (l m : Nat) : ((ldDisable s l).ld m).alloc = (s.ld m).alloc ∧
    (ldDisable s l).lds.length = s.lds.length := by
  by_cases h : (s.ld l).st = .enabled
  · have hgone := ldDisable_gone h
    refine ⟨?_, hgone.length⟩
    by_cases hm : m = l
    · rw [hm]
      exact hgone.alloc
    · exact (congrArg Ld.alloc (hgone.others m hm) :)
  · rw [ldDisable_idle h]
    exact ⟨rfl, rfl⟩

theorem clipLd_lds (s : State) (l : Nat) : (clipLd s l).lds = s.lds := by
  unfold clipLd
  split
  · rfl
  · rfl

theorem allocLd_allots (hl : l < s.lds.length) (n : Nat) : Allotted l n s (allocLd s (l, n)) := by
  unfold allocLd
  dsimp only
  generalize hx : ({ s.ld l with alloc := n, st := _ } : Ld) = x
  have hxa : x.alloc = n := by rw [← hx]
  have hself := ld_setLd_self hl x
  have hne : ∀ m, m ≠ l → (s.setLd l x).ld m = s.ld m := fun m hm => ld_setLd_ne hm x
  have hlen := setLd_length s l x
  generalize s.setLd l x = u at hself hne hlen ⊢
  have hall : ∀ m, ((if n = 0 then ldDisable u l else u).ld m).alloc = (u.ld m).alloc := fun m => by
    split
    · exact (ldDisable_allocs u l m).1
    · rfl
  have hlen' : (if n = 0 then ldDisable u l else u).lds.length = u.lds.length := by
    split
    · exact (ldDisable_allocs u l l).2
    · rfl
  generalize (if n = 0 then ldDisable u l else u) = v at hall hlen' ⊢
  have hclip : ∀ m, (clipLd v l).ld m = v.ld m := fun m => by rw [State.ld, clipLd_lds, State.ld]
  refine ⟨?_, fun m hm => ?_, ?_⟩
  · rw [hclip, hall, hself, hxa]
  · rw [hclip, hall, hne m hm]
  · rw [clipLd_lds, hlen', hlen]

/-- Allocations in turn: the LDs named take theirs, and no other changes its own. -/
theorem foldl_allocLd (first : Nat) (units : List Nat) (n : Nat) (hn : first + n ≤ s.lds.length) (m : Nat) :
    let t := ((List.range n).map fun i => (first + i, units.getD i 0)).foldl allocLd s
    (t.ld m).alloc = (if first ≤ m ∧ m < first + n then units.getD (m - first) 0 else (s.ld m).alloc) ∧ t.lds.length = s.lds.length := by
  induction n with
  | zero => exact ⟨(if_neg (by omega)).symm, rfl⟩
  | succ n ih =>
    obtain ⟨ha, hlen⟩ := ih (by omega)
    dsimp only
    rw [List.range_succ, List.map_append, List.foldl_append]
    generalize ((List.range n).map fun i => (first + i, units.getD i 0)).foldl allocLd s = u at ha hlen ⊢
    obtain ⟨hown, hothers, hl⟩ := allocLd_allots (s := u) (l := first + n) (by omega) (units.getD n 0)
    refine ⟨?_, hl.trans hlen⟩
    by_cases hm : m = first + n
    · subst hm
      rw [if_pos (by omega), Nat.add_sub_cancel_left]
      exact hown
    · refine (hothers m hm).trans (ha.trans ?_)
      by_cases hin : first ≤ m ∧ m < first + n
      · rw [if_pos hin, if_pos (by omega)]
      · rw [if_neg hin, if_neg (by omega)]

theorem fmSetLdAllocations_sets (ha : s.awake = true) {first : Nat} {units : List Nat} (hc : first + units.length ≤ s.ldCount)
    (hl : s.lds.length = 16) (hu : (s.allocsAfter first units).foldl (· + ·) 0 ≤ 48 * s.D) :
    Answers (.fmSetLdAllocations first units) s fun t =>
      .fm 0 [] ∈ t.sent ∧ (∀ l, l < 16 → (t.ld l).alloc = (s.allocsAfter first units).getD l 0) := by
  have hsum : ¬ (s.ldCount < first + units.length ∨ s.capacityUnits < (s.allocsAfter first units).foldl (· + ·) 0) := by
    rw [State.capacityUnits]
    omega
  refine fm_answers_after (u := ((List.range units.length).map fun i => (first + i, units.getD i 0)).foldl allocLd s) ?_ fun l h16 => ?_
  · rw [exec_fmSetLdAllocations, execFmSetLdAllocations, if_pos ha, if_neg hsum]
  · have hcount := ldCount_le s
    obtain ⟨hall, -⟩ := foldl_allocLd (s := s) first units units.length (by omega) l
    rw [(settle_ld _ l).2.1]
    refine Eq.trans hall ?_
    rw [State.allocsAfter, List.getD_eq_getElem?_getD (l := List.map _ _), List.getElem?_map, List.getElem?_range h16]
    rfl

theorem fmSetLdAllocations_fails (ha : s.awake = true) {first : Nat} {units : List Nat}
    (h : s.ldCount < first + units.length ∨ 48 * s.D < (s.allocsAfter first units).foldl (· + ·) 0) :
    Answers (.fmSetLdAllocations first units) s fun t => .fm 2 [] ∈ t.sent ∧ OnlyObjs [] s t := by
  refine fm_answers ?_
  rw [exec_fmSetLdAllocations, execFmSetLdAllocations, if_pos ha, State.capacityUnits, if_pos h]

/-! ### The memory-device mailbox (R430, R440) -/

theorem mb_answers {i : Instr} {op : Nat} {data : List Nat} (h : s.ldAnswers l = true) (hi : exec i s = done (mbAnswer s l op data)) :
    Answers i s fun t => .mailboxRsp l op 0 data ∈ t.sent ∧ OnlyObjs [] s t :=
  answers_sent (hi.trans (by rw [mbAnswer, if_pos h]))

theorem identifyMemoryDevice_unsupported (h : s.ldAnswers l = true) {op : Nat} (ho : mbOpcodes.contains op = false) :
    Answers (.identifyMemoryDevice ⟨l, op⟩) s fun t => .mailboxRsp l op 3 [] ∈ t.sent ∧ OnlyObjs [] s t := by
  refine answers_sent ?_
  rw [exec_identifyMemoryDevice, execIdentifyMemoryDevice, if_neg (by rw [ho]; decide), if_pos h]

theorem identifyMemoryDevice_answers (h : s.ldAnswers l = true) : Answers (.identifyMemoryDevice ⟨l, 0x4000⟩) s fun t =>
    .mailboxRsp l 0x4000 0 [(s.ld l).alloc * 2 ^ 28, 0] ∈ t.sent ∧ OnlyObjs [] s t := by
  have hop : mbOpcodes.contains 0x4000 = true := by decide
  exact mb_answers h (by rw [exec_identifyMemoryDevice, execIdentifyMemoryDevice, if_pos hop])

theorem foldl_max_lt {b : Nat} (l : List Nat) (hl : ∀ x ∈ l, x < b) {a : Nat} (ha : a < b) : l.foldl max a < b := by
  induction l generalizing a with
  | nil => exact ha
  | cons x l ih => exact ih (fun y hy => hl y (List.mem_cons_of_mem x hy)) (Nat.max_lt.mpr ⟨ha, hl x List.mem_cons_self⟩)

theorem getHealthInfo_answers (h : s.ldAnswers l = true) : Answers (.getHealthInfo l) s fun t =>
    (∃ h, h < 256 ∧ .mailboxRsp l 0x4200 0 [h, (s.halves.map fun h => h.poison.length).foldl (· + ·) 0] ∈ t.sent) ∧
    OnlyObjs [] s t := by
  have hlt : ∀ x ∈ (List.range s.stacks_).map s.stackTemp, x < 256 := by
    intro x hx
    obtain ⟨i, -, rfl⟩ := List.mem_map.mp hx
    exact Nat.mod_lt _ (by decide)
  have hmax := foldl_max_lt _ hlt (a := 0) (by decide)
  refine (mb_answers (op := 0x4200) h (by rw [exec_getHealthInfo]; rfl)).mono fun t ht => ⟨⟨_, hmax, ht.1⟩, ht.2⟩

/-- LD `l` without the event records that `hs` names. -/
def State.cleared (s : State) (l : Nat) (hs : List Nat) : State :=
  s.setLd l { s.ld l with events := (s.ld l).events.filter fun e => !hs.contains e.1 }

theorem cleared_ldAnswers (h : s.ldAnswers l = true) (hs : List Nat) : (s.cleared l hs).ldAnswers l = true := by
  have hld : ((s.cleared l hs).ld l).st = (s.ld l).st := by rw [State.cleared, ld_setLd_self (ld_length h)]
  have hobj : (s.cleared l hs).get O.CXL_STATUS = s.get O.CXL_STATUS := rfl
  unfold State.ldAnswers at h ⊢
  rw [hld, hobj]
  exact h

theorem withLds_body {L : List Ld} (h : L.map Ld.bare = t.lds.map Ld.bare) (ht : { s with lds := t.lds }.body = t.body) :
    { s with lds := L }.body = t.body := by
  rw [← ht]
  exact congrArg (fun ls : List Ld => { s.body with lds := ls }) h

theorem clearEventRecords_clears (h : s.ldAnswers l = true) (hs : List Nat) : Answers (.clearEventRecords l hs) s fun t =>
    (t.ld l).events = (s.ld l).events.filter (fun e => !hs.contains e.1) ∧ .mailboxRsp l 0x0101 0 [] ∈ t.sent ∧
    (∀ m, m ≠ l → (t.ld m).events = (s.ld m).events) ∧ OnlyObjs [] { s with lds := t.lds } t := by
  have hexec : exec (.clearEventRecords l hs) s =
      done { s.cleared l hs with sent := .mailboxRsp l 0x0101 0 [] :: (s.cleared l hs).sent } := by
    rw [exec_clearEventRecords, execClearEventRecords, if_pos h]
    exact congrArg done (if_pos (cleared_ldAnswers h hs))
  have hset := settle_ld { s.cleared l hs with sent := .mailboxRsp l 0x0101 0 [] :: (s.cleared l hs).sent }
  refine answers_done hexec ⟨?_, sent_first rfl, fun m hm => ?_, ?_⟩
  · exact (hset l).2.2.trans (congrArg Ld.events (ld_setLd_self (ld_length h) _))
  · exact (hset m).2.2.trans (congrArg Ld.events (ld_setLd_ne hm _))
  · generalize hu : ({ s.cleared l hs with sent := .mailboxRsp l 0x0101 0 [] :: (s.cleared l hs).sent } : State) = u
    have hbody : { s with lds := u.lds }.body = u.body := by rw [← hu]; rfl
    have hobj : ∀ i k, u.obj i k = s.obj i k := fun i k => by rw [← hu]; rfl
    have hset : OnlyObjs [] u (settle u) := (onlyObjs_refl u []).settled
    refine ⟨?_, fun i k hk hs => (hset.2 i k hk hs).trans ?_⟩
    · exact hset.1.trans (withLds_body (congrArg State.lds hset.1 :) hbody).symm
    · exact hobj i k

/-- Settles O46: every answer is the first message sent, a disabled LD suspends its owner's contexts (`ldDisable_gone`), and Set LD
Allocations sets each LD named in turn. -/
theorem managerRequests : Obligations.ManagerRequests := by
  refine ⟨fun s ha => ⟨?_, ?_, ?_, ?_, ?_, ?_, ?_, ?_, ?_, ?_, ?_, ?_⟩, fun s l h => ⟨?_, ?_, ?_, ?_, ?_, ?_, ?_, ?_⟩⟩
  · exact fmIdentify_answers ha
  · exact fun op l k ho => fmDisableLd_unsupported ha ho
  · exact fmGetLdInfo_answers ha
  · exact fun hl => fmGetLdAllocations_answers ha hl
  · exact fmGetSteward_answers ha
  · exact fun b hb => fmSetSteward_sets ha hb
  · exact fun b hb hne => fmSetSteward_fails ha hb hne
  · exact fun l hl h => fmDisableLd_idle ha hl h
  · exact fun l hl h => fmDisableLd_disables ha hl h
  · exact fun l k h => fmDisableLd_invalid ha h
  · exact fun first units hc hl hu => fmSetLdAllocations_sets ha hc hl hu
  · exact fun first units h => fmSetLdAllocations_fails ha h
  · exact identifyMemoryDevice_answers h
  · exact fun op ho => identifyMemoryDevice_unsupported h ho
  · exact getHealthInfo_answers h
  · exact mb_answers h (by rw [exec_getPoisonList]; rfl)
  · exact mb_answers h (by rw [exec_getEventRecords]; rfl)
  · exact fun hs => clearEventRecords_clears h hs
  · exact mb_answers h (by rw [exec_getSupportedLogs]; rfl)
  · exact mb_answers h (by rw [exec_getLog]; rfl)

end Sys2Proof.Machine
end

section
/-! ## Routes of the event router (R338, R345) -/

namespace Sys2Proof.Machine

variable {s t u : State} {p r x y : Nat}

/-- Routes but for their counts. -/
theorem withRoutes_body {L : List (Nat × Route)} (h : L.map Route.bare = t.routes.map Route.bare)
    (ht : { s with routes := t.routes }.body = t.body) : { s with routes := L }.body = t.body := by
  rw [← ht]
  exact congrArg (fun rs : List (Nat × Route) => { s.body with routes := rs }) h

theorem kvGet_bare (l : List (Nat × Route)) (r : Nat) :
    kvGet (l.map Route.bare) r = (kvGet l r).map fun x => { x with count := 0 } := by
  induction l with
  | nil => rfl
  | cons a l ih =>
    obtain ⟨k, v⟩ := a
    have hcons : ∀ (w : Route) (m : List (Nat × Route)), kvGet ((k, w) :: m) r = if k = r then some w else kvGet m r := fun _ _ => rfl
    rw [List.map_cons, Route.bare, hcons, hcons, ih]
    split
    · rfl
    · rfl

/-- The routes that the end of a command leaves, but for their counts. -/
theorem settle_route (u : State) (r : Nat) : (kvGet (settle u).routes r).map (fun x => { x with count := 0 }) =
    (kvGet u.routes r).map fun x => { x with count := 0 } := by
  have h : (settle u).routes.map Route.bare = u.routes.map Route.bare := (congrArg State.routes (settle_body u) :)
  rw [← kvGet_bare, h, kvGet_bare]

theorem onlyObjs_routes {L : List (Nat × Route)} (h : OnlyObjs [] { s with routes := L } u) :
    OnlyObjs [] { s with routes := L } (settle u) ∧ OnlyObjs [] { s with routes := (settle u).routes } (settle u) := by
  have hset := h.settled
  refine ⟨hset, ?_, hset.2⟩
  have hmap : (settle u).routes.map Route.bare = L.map Route.bare := (congrArg State.routes hset.1 :)
  exact hset.1.trans (withRoutes_body (s := s) (t := { s with routes := L }) hmap rfl).symm

theorem evPresent (s : State) : s.missing (O.EV_CMD / 256) (O.EV_CMD % 256) = none := rfl

/-- The state in which a route has been claimed. -/
def State.evClaimed (s : State) (p r : Nat) : State := { s with routes := kvPut s.routes r { owner := ownerOf p } }

theorem evClaim_claims (h : Served s p) (hr : s.evSel p = r) (hn : kvGet s.routes r = none) : Answers (.evClaim p) s fun t =>
    (∃ y, kvGet t.routes r = some y ∧ y.owner = ownerOf p ∧ y.enable = false ∧ y.source = 0 ∧ y.dest = 0) ∧
    OnlyObjs [] { s with routes := t.routes } t := by
  have hcmd : evClaim s.turned p (s.turned.evSel p) = .ok (s.turned.evClaimed p r) := by
    rw [show s.turned.evSel p = r from hr, evClaim, need_pos s.turned (by exact Option.isNone_iff_eq_none.mpr hn), State.evClaimed]
  refine answers_access (by rw [exec_evClaim, execEvClaim]) h (evPresent s) hcmd ?_
  have hget : kvGet (s.turned.evClaimed p r).routes r = some { owner := ownerOf p } := kvGet_kvPut_self _ _ _
  have hframe : OnlyObjs [] { s with routes := (s.turned.evClaimed p r).routes } (s.turned.evClaimed p r) := onlyObjs_congr [] rfl rfl rfl
  generalize s.turned.evClaimed p r = w at hget hframe ⊢
  have hroute := settle_route w r
  rw [hget] at hroute
  refine ⟨?_, (onlyObjs_routes hframe).2⟩
  cases hk : kvGet (settle w).routes r with
  | none =>
    rw [hk] at hroute
    exact absurd hroute (by simp)
  | some y =>
    rw [hk] at hroute
    have hy := Option.some.inj hroute
    exact ⟨y, rfl, (congrArg Route.owner hy :), (congrArg Route.enable hy :), (congrArg Route.source hy :), (congrArg Route.dest hy :)⟩

theorem evClaim_taken (h : Served s p) (hr : s.evSel p = r) (hn : (kvGet s.routes r).isSome = true) :
    Answers (.evClaim p) s fun t => Rejected s t p O.EV_CMD 2 .presentState := by
  refine rejected_access (by rw [exec_evClaim, execEvClaim]) h (evPresent s) ?_
  rw [show s.turned.evSel p = r from hr, evClaim]
  exact need_neg (by rw [Option.isNone_eq_false_iff]; exact hn) _ _

theorem evRelease_releases (h : Served s p) (hr : s.evSel p = r) {x : Route} (hx : kvGet s.routes r = some x)
    (ho : ownerOf p = x.owner ∨ ownerOf p = s.steward) : Answers (.evRelease p) s fun t =>
      kvGet t.routes r = none ∧ OnlyObjs [] { s with routes := kvDel s.routes r } t := by
  have hcmd : evRelease s.turned p (s.turned.evSel p) = .ok { s.turned with routes := kvDel s.routes r } := by
    rw [show s.turned.evSel p = r from hr, evRelease, show kvGet s.turned.routes r = some x from hx]
    have howner : (ownerOf p == x.owner || ownerOf p == s.steward) = true := by simpa using ho
    exact need_pos s.turned howner _ _
  refine answers_access (by rw [exec_evRelease, execEvRelease]) h (evPresent s) hcmd ?_
  have hget : kvGet ({ s.turned with routes := kvDel s.routes r } : State).routes r = none := (kvGet_kvDel _ _ _).trans (if_pos rfl)
  have hframe : OnlyObjs [] { s with routes := kvDel s.routes r } { s.turned with routes := kvDel s.routes r } := onlyObjs_congr [] rfl rfl rfl
  generalize ({ s.turned with routes := kvDel s.routes r } : State) = w at hget hframe ⊢
  have hroute := settle_route w r
  rw [hget] at hroute
  exact ⟨Option.map_eq_none_iff.mp hroute, (onlyObjs_routes hframe).1⟩

theorem evRelease_stranger (h : Served s p) (hr : s.evSel p = r) {x : Route} (hx : kvGet s.routes r = some x)
    (ho : ownerOf p ≠ x.owner) (hs : ownerOf p ≠ s.steward) :
    Answers (.evRelease p) s fun t => Rejected s t p O.EV_CMD 2 .noPermission := by
  refine rejected_access (by rw [exec_evRelease, execEvRelease]) h (evPresent s) ?_
  rw [show s.turned.evSel p = r from hr, evRelease, show kvGet s.turned.routes r = some x from hx]
  have howner : (ownerOf p == x.owner || ownerOf p == s.steward) = false := by simpa using ⟨ho, hs⟩
  exact need_neg howner _ _

end Sys2Proof.Machine
end

section
/-! ## Planishers: commands and jobs (R351, R363 to R373), and O44 -/

namespace Sys2Proof.Machine

variable {s t u : State} {p x y : Nat} {q : Plan} {j was : Job} {v : Option Plan}

/-! ### A job put back after it has moved -/

/-- The state of a planisher that its job stands for. -/
def Job.st (j : Job) : Nat := if j.err ≠ 0 then 5 else if j.full then 3 else 2

/-- What a verification mismatch adds (R363). -/
def verified (s : State) (x : Nat) (j was : Job) : State :=
  if j.err = 2 ∧ was.err ≠ 2 then tarnish (s.countSat x O.PL_VERIFY_FAILS 32) 25 (if x = 0 then 0xFF else x - 1) 0xFF 0 else s

/-- The status bits of a job that has moved, and its pulses. -/
def jobShown (s : State) (x : Nat) (j was : Job) (st : Nat) : State :=
  let s := if was.clears < j.clears then s.flag x O.PL_STATUS 4 else s
  let s := if was.fills < j.fills then s.flag x O.PL_STATUS 5 else s
  let s := if was.blocks < j.blocks then
      (List.range (j.blocks - was.blocks)).foldl (fun s i => pulseIn s 6 3 x none (s.now / 48 + i)) (s.flag x O.PL_STATUS 3)
    else s
  let s := if st = 3 then pulse (s.flag x O.PL_STATUS 1) 6 1 x else s
  if st = 5 then pulse ((s.setObj x O.PL_ERR (ofN j.err)).flag x O.PL_STATUS 2) 6 2 x else s

/-- A job whose output goes to no hub buffer stands as it is. -/
theorem settleJob_eq (h : s.plBit x 5 = false) (q : Plan) (was : Job) : settleJob s x q was =
    jobShown (verified (s.setPlan x { q with st := q.job.st }) x q.job was) x q.job was q.job.st := by
  unfold settleJob
  rw [h]
  rfl

/-- The objects of a planisher's state. -/
abbrev planKeys (x : Nat) : List Nat := [objKey x O.PL_STATUS, objKey x O.PL_ERR]

theorem OnlyObjs.flagged {ks : List Nat} {i k : Nat} (h : OnlyObjs ks s t) (hk : objKey i k ∈ ks) (b : Nat) :
    OnlyObjs ks s (t.flag i k b) := by
  rw [State.flag_eq]
  exact h.put hk _

theorem OnlyObjs.ite {ks : List Nat} {c : Prop} [Decidable c] (h : OnlyObjs ks s t) (h' : OnlyObjs ks s u) :
    OnlyObjs ks s (if c then t else u) := by
  split
  · exact h
  · exact h'

theorem onlyObjs_pulseIn (s : State) (a b n : Nat) (e : Option Nat) (cyc : Nat) : OnlyObjs [] s (pulseIn s a b n e cyc) :=
  ⟨pulseIn_body _ _ _ _ _ _, (pulseIn_keeps _ _ _ _ _ _).objsBut _⟩

theorem onlyObjs_foldl {α : Type} {ks : List Nat} (l : List α) (f : State → α → State) (hf : ∀ u a, OnlyObjs ks u (f u a)) (s : State) :
    OnlyObjs ks s (l.foldl f s) := by
  induction l generalizing s with
  | nil => exact onlyObjs_refl s ks
  | cons a l ih => exact (hf s a).trans (ih (f s a))

theorem jobShown_frame (s : State) (x : Nat) (j was : Job) (st : Nat) : OnlyObjs (planKeys x) s (jobShown s x j was st) := by
  have hst : objKey x O.PL_STATUS ∈ planKeys x := List.mem_cons_self
  have herr : objKey x O.PL_ERR ∈ planKeys x := List.mem_cons_of_mem _ List.mem_cons_self
  have hpulses : ∀ u : State, OnlyObjs (planKeys x) u ((List.range (j.blocks - was.blocks)).foldl
      (fun s i => pulseIn s 6 3 x none (s.now / 48 + i)) u) := fun u =>
    onlyObjs_foldl _ _ (fun v i => (onlyObjs_pulseIn v 6 3 x none _).mono (by simp)) u
  unfold jobShown
  have h1 : OnlyObjs (planKeys x) s (if was.clears < j.clears then s.flag x O.PL_STATUS 4 else s) :=
    ((onlyObjs_refl s _).flagged hst 4).ite (onlyObjs_refl s _)
  dsimp only
  generalize (if was.clears < j.clears then s.flag x O.PL_STATUS 4 else s) = a at h1 ⊢
  have h2 : OnlyObjs (planKeys x) s (if was.fills < j.fills then a.flag x O.PL_STATUS 5 else a) := (h1.flagged hst 5).ite h1
  generalize (if was.fills < j.fills then a.flag x O.PL_STATUS 5 else a) = b at h2 ⊢
  have h3 : OnlyObjs (planKeys x) s (if was.blocks < j.blocks then
      (List.range (j.blocks - was.blocks)).foldl (fun s i => pulseIn s 6 3 x none (s.now / 48 + i)) (b.flag x O.PL_STATUS 3)
    else b) := ((h2.flagged hst 3).trans (hpulses _)).ite h2
  generalize (if was.blocks < j.blocks then
      (List.range (j.blocks - was.blocks)).foldl (fun s i => pulseIn s 6 3 x none (s.now / 48 + i)) (b.flag x O.PL_STATUS 3)
    else b) = c at h3 ⊢
  have h4 : OnlyObjs (planKeys x) s (if st = 3 then pulse (c.flag x O.PL_STATUS 1) 6 1 x else c) :=
    ((h3.flagged hst 1).pulsed 6 1 x).ite h3
  generalize (if st = 3 then pulse (c.flag x O.PL_STATUS 1) 6 1 x else c) = d at h4 ⊢
  exact (((h4.put herr _).flagged hst 2).pulsed 6 2 x).ite h4

/-- The objects of a planisher are none that the end of a command or a pulse sets. -/
theorem planObj_free {k : Nat} (hk : k ∈ [O.PL_STATUS, O.PL_ERR, O.PL_OUT_HANDLE, O.PL_VERIFY_FAILS, O.PL_CONFIG]) :
    k < 2 ^ 24 ∧ k ∉ settleObjs := by
  simp only [List.mem_cons, List.not_mem_nil, or_false] at hk
  rcases hk with rfl | rfl | rfl | rfl | rfl <;> decide

theorem jobShown_error (s : State) (x : Nat) (j was : Job) :
    (jobShown s x j was 5).obj x O.PL_ERR = ofN j.err ∧ bit ((jobShown s x j was 5).obj x O.PL_STATUS) 2 = true := by
  unfold jobShown
  dsimp only
  generalize (if was.blocks < j.blocks then (_ : State) else _) = c
  rw [if_neg (by decide : ¬ (5 : Nat) = 3), if_pos rfl, obj_pulse_of _ _ _ _ _ _ (by decide) (by decide),
    obj_pulse_of _ _ _ _ _ _ (by decide) (by decide), State.flag_eq]
  refine ⟨?_, ?_⟩
  · rw [State.obj_setObj_ne _ _ _ _ _ _ (objKey_ne x (by decide))]
    exact State.obj_setObj_self _ _ _ _
  · rw [State.obj_setObj_self]
    exact bit_setBit_self _ (by decide)

theorem jobShown_plans (s : State) (x : Nat) (j was : Job) (st : Nat) : (jobShown s x j was st).plans = s.plans :=
  (congrArg State.plans (jobShown_frame s x j was st).1 :)

theorem onlyObjs_plans {ks : List Nat} {L : List (Nat × Plan)} (h : OnlyObjs ks { s with plans := L } u) :
    (settle u).plans = L ∧ OnlyObjs ks { s with plans := (settle u).plans } (settle u) := by
  have hplans : (settle u).plans = L := (congrArg State.plans h.settled.1 :)
  exact ⟨hplans, hplans ▸ h.settled⟩

theorem plan_setPlan (hL : t.plans = kvPut s.plans x q) (y : Nat) : t.plan y = if y = x then some q else s.plan y := by
  rw [State.plan, hL]
  exact kvGet_kvPut _ _ _ _

theorem plan_put (hL : t.plans = kvPut s.plans x q) : t.plan x = some q ∧ ∀ y, y ≠ x → t.plan y = s.plan y :=
  ⟨(plan_setPlan hL x).trans (if_pos rfl), fun y hy => (plan_setPlan hL y).trans (if_neg hy)⟩

/-- A job that has moved without a verification mismatch. -/
theorem settleJob_quiet (h : s.plBit x 5 = false) (he : q.job.err = 2 → was.err = 2) :
    OnlyObjs (planKeys x) { s with plans := kvPut s.plans x { q with st := q.job.st } } (settleJob s x q was) := by
  rw [settleJob_eq h, verified, if_neg fun hh => hh.2 (he hh.1)]
  exact jobShown_frame _ x q.job was q.job.st

theorem settleJob_error (h : s.plBit x 5 = false) (he : q.job.err ≠ 0) :
    (settleJob s x q was).obj x O.PL_ERR = ofN q.job.err ∧ bit ((settleJob s x q was).obj x O.PL_STATUS) 2 = true := by
  have hst : q.job.st = 5 := if_pos he
  rw [settleJob_eq h, hst]
  exact jobShown_error _ x q.job was

/-! ### The commands' checks (R368) -/

theorem plPresent (s : State) : s.missing (O.PL_CMD / 256) (O.PL_CMD % 256) = none := rfl

theorem planOwner_of (hq : s.plan x = some q) : s.planOwner x = q.owner := by rw [State.planOwner, hq]

theorem plOwned_pos {sts : List Nat} {f : State → Plan → Acc} (hq : s.plan x = some q) (ho : ownerOf p = q.owner)
    (hst : q.st ∈ sts) (hl : q.lost = false) : plOwned s p x sts f = f s q := by
  unfold plOwned
  rw [need_pos s (by rw [planOwner_of hq]; exact beq_iff_eq.mpr ho), hq]
  dsimp only
  rw [if_pos (by rw [hl, List.contains_iff_mem.mpr hst]; rfl)]

theorem plOwned_state {sts : List Nat} {f : State → Plan → Acc} (hq : s.plan x = some q) (ho : ownerOf p = q.owner)
    (hst : q.st ∉ sts) : plOwned s p x sts f = (s, some .presentState) := by
  unfold plOwned
  rw [need_pos s (by rw [planOwner_of hq]; exact beq_iff_eq.mpr ho), hq]
  dsimp only
  rw [if_neg]
  intro h
  exact hst (List.contains_iff_mem.mp (Bool.and_eq_true_iff.mp h).1)

theorem plOwned_stranger {sts : List Nat} {f : State → Plan → Acc} (hq : s.plan x = some q) (ho : ownerOf p ≠ q.owner) :
    plOwned s p x sts f = (s, some .noPermission) := by
  unfold plOwned
  exact need_neg (by rw [planOwner_of hq]; exact beq_false_of_ne ho) _ _

theorem pl_stranger (h : Served s p) (hx : s.plSel p = x) (hq : s.plan x = some q) (ho : ownerOf p ≠ q.owner) {i : Instr}
    (hi : i = Instr.plStart p ∨ i = .plFinish p ∨ i = .plContinue p ∨ i = .plAbort p) :
    Answers i s fun t => Rejected s t p O.PL_CMD 2 .noPermission := by
  have hsel : s.turned.plSel p = x := hx
  rcases hi with rfl | rfl | rfl | rfl
  · refine rejected_access (by rw [exec_plStart, execPlStart]) h (plPresent s) ?_
    rw [hsel]
    exact plOwned_stranger (s := s.turned) hq ho
  · refine rejected_access (by rw [exec_plFinish, execPlFinish]) h (plPresent s) ?_
    rw [hsel]
    exact plOwned_stranger (s := s.turned) hq ho
  · refine rejected_access (by rw [exec_plContinue, execPlContinue]) h (plPresent s) ?_
    rw [hsel]
    exact plOwned_stranger (s := s.turned) hq ho
  · refine rejected_access (by rw [exec_plAbort, execPlAbort]) h (plPresent s) ?_
    rw [hsel]
    exact plOwned_stranger (s := s.turned) hq ho

/-! ### Claims (R351, R368) -/

theorem plClaim_claims (h : Served s p) (hx : s.plSel p = x) (hn : s.plan x = none) (hd : x = 0 ∨ (s.die (x - 1)).st ≠ .lost) :
    Answers (.plClaim p) s fun t => t.plan x = some { owner := ownerOf p } ∧ (∀ y, y ≠ x → t.plan y = s.plan y) ∧
      OnlyObjs [] { s with plans := t.plans } t := by
  have hcmd : plClaim s.turned p (s.turned.plSel p) = .ok (s.turned.setPlan x { owner := ownerOf p }) := by
    rw [show s.turned.plSel p = x from hx, plClaim, need_pos s.turned (by exact Option.isNone_iff_eq_none.mpr hn)]
    exact if_neg fun hh => hd.elim hh.1 fun hne => hne hh.2
  refine answers_access (by rw [exec_plClaim, execPlClaim]) h (plPresent s) hcmd ?_
  have hframe : OnlyObjs [] { s with plans := kvPut s.plans x { owner := ownerOf p } } (s.turned.setPlan x { owner := ownerOf p }) :=
    onlyObjs_congr [] rfl rfl rfl
  obtain ⟨hplans, hset⟩ := onlyObjs_plans hframe
  exact ⟨(plan_put hplans).1, (plan_put hplans).2, hset⟩

theorem plClaim_taken (h : Served s p) (hx : s.plSel p = x) (hn : (s.plan x).isSome = true) :
    Answers (.plClaim p) s fun t => Rejected s t p O.PL_CMD 2 .presentState := by
  refine rejected_access (by rw [exec_plClaim, execPlClaim]) h (plPresent s) ?_
  rw [show s.turned.plSel p = x from hx, plClaim]
  exact need_neg (by rw [Option.isNone_eq_false_iff]; exact hn) _ _

/-! ### Finish, Abort and Release (R361, R367, R368) -/

/-- A command that replaces the planisher. -/
theorem plSet_settled (s : State) (x : Nat) (q : Plan) :
    let t := settle (s.turned.setPlan x q)
    t.plan x = some q ∧ (∀ y, y ≠ x → t.plan y = s.plan y) ∧ OnlyObjs [] { s with plans := t.plans } t := by
  have hframe : OnlyObjs [] { s with plans := kvPut s.plans x q } (s.turned.setPlan x q) := onlyObjs_congr [] rfl rfl rfl
  obtain ⟨hplans, hset⟩ := onlyObjs_plans hframe
  exact ⟨(plan_put hplans).1, (plan_put hplans).2, hset⟩

theorem plFinish_finishes (h : Served s p) (hx : s.plSel p = x) (hq : s.plan x = some q) (ho : ownerOf p = q.owner)
    (hl : q.lost = false) (hst : q.st = 2 ∨ q.st = 3) : Answers (.plFinish p) s fun t =>
      t.plan x = some { q with job := { q.job with finish := true } } ∧
      (∀ y, y ≠ x → t.plan y = s.plan y) ∧ OnlyObjs [] { s with plans := t.plans } t := by
  have hcmd : plFinish s.turned p (s.turned.plSel p) = .ok (s.turned.setPlan x { q with job := { q.job with finish := true } }) := by
    rw [show s.turned.plSel p = x from hx, plFinish]
    exact plOwned_pos (s := s.turned) hq ho (by simpa using hst) hl
  exact answers_access (by rw [exec_plFinish, execPlFinish]) h (plPresent s) hcmd (plSet_settled s x _)

theorem plAbort_aborts (h : Served s p) (hx : s.plSel p = x) (hq : s.plan x = some q) (ho : ownerOf p = q.owner)
    (hl : q.lost = false) (hst : q.st = 2 ∨ q.st = 3 ∨ q.st = 5) : Answers (.plAbort p) s fun t =>
      t.plan x = some { q with st := 1, job := q.job.dropped } ∧ (∀ y, y ≠ x → t.plan y = s.plan y) ∧
      OnlyObjs [] { s with plans := t.plans } t := by
  have hcmd : plAbort s.turned p (s.turned.plSel p) = .ok (s.turned.setPlan x { q with st := 1, job := q.job.dropped }) := by
    rw [show s.turned.plSel p = x from hx, plAbort]
    exact plOwned_pos (s := s.turned) hq ho (by simpa using hst) hl
  exact answers_access (by rw [exec_plAbort, execPlAbort]) h (plPresent s) hcmd (plSet_settled s x _)

theorem plRelease_frees (h : Served s p) (hx : s.plSel p = x) (hq : s.plan x = some q) (ho : ownerOf p = q.owner)
    (hl : q.lost = false) (hst : q.st = 1 ∨ q.st = 4 ∨ q.st = 5) (hb : q.buf = none) : Answers (.plRelease p) s fun t =>
      t.plan x = none ∧ t.obj x O.PL_OUT_HANDLE = 0xFFFFFFFF ∧ (∀ y, y ≠ x → t.plan y = s.plan y) ∧
      OnlyObjs [objKey x O.PL_OUT_HANDLE] { s with plans := t.plans } t := by
  have hfree : planFree s.turned x = ({ s.turned with plans := kvDel s.plans x } : State).setObj x O.PL_OUT_HANDLE (ofN 0xFFFFFFFF) := by
    unfold planFree
    rw [show s.turned.plan x = some q from hq]
    dsimp only
    rw [hb]
  have hcmd : plRelease s.turned p (s.turned.plSel p) =
      .ok (({ s.turned with plans := kvDel s.plans x } : State).setObj x O.PL_OUT_HANDLE (ofN 0xFFFFFFFF)) := by
    have hown : (ownerOf p == s.turned.planOwner x || ownerOf p == s.turned.steward) = true := by
      rw [planOwner_of (s := s.turned) hq, ho]
      simp
    have hin : [1, 4, 5].contains q.st = true := List.contains_iff_mem.mpr (by simpa using hst)
    rw [show s.turned.plSel p = x from hx, plRelease, need_pos s.turned hown, show s.turned.plan x = some q from hq]
    dsimp only
    rw [if_pos (by rw [hl, hin]; rfl), hfree]
  refine answers_access (by rw [exec_plRelease, execPlRelease]) h (plPresent s) hcmd ?_
  have hframe : OnlyObjs [objKey x O.PL_OUT_HANDLE] { s with plans := kvDel s.plans x }
      (({ s.turned with plans := kvDel s.plans x } : State).setObj x O.PL_OUT_HANDLE (ofN 0xFFFFFFFF)) :=
    (onlyObjs_congr (s := { s with plans := kvDel s.plans x }) (t := { s.turned with plans := kvDel s.plans x }) _ rfl rfl rfl).put
      List.mem_cons_self _
  obtain ⟨hplans, hset⟩ := onlyObjs_plans hframe
  obtain ⟨hlt, hns⟩ := planObj_free (k := O.PL_OUT_HANDLE) (by simp)
  refine ⟨?_, (obj_settle_of _ x O.PL_OUT_HANDLE hlt hns).trans (State.obj_setObj_self _ _ _ _), fun y hy => ?_, hset⟩
  · rw [State.plan, hplans]
    exact (kvGet_kvDel _ _ _).trans (if_pos rfl)
  · rw [State.plan, hplans]
    exact (kvGet_kvDel _ _ _).trans (if_neg hy)

/-! ### Start and Continue (R365, R366, R368, R372) -/

theorem startJob_runs (s : State) (x : Nat) : (startJob s x).st = 2 ∧ (startJob s x).err = 0 ∧ (startJob s x).clears = 0 ∧
    (startJob s x).fills = 0 ∧ (startJob s x).blocks = 0 := by
  unfold startJob
  dsimp only
  split
  · exact ⟨rfl, rfl, rfl, rfl, rfl⟩
  · exact ⟨rfl, rfl, rfl, rfl, rfl⟩

/-- The state that a start leaves before its job stands. -/
def planStarted (s : State) (x : Nat) (q : Plan) : State :=
  (s.setObj x O.PL_ERR 0).setObj x O.PL_OUT_HANDLE (ofN (q.buf.getD 0xFFFFFFFF))

theorem planStarted_obj {k : Nat} (h : k ≠ O.PL_ERR) (h' : k ≠ O.PL_OUT_HANDLE) : (planStarted s x q).obj x k = s.obj x k := by
  unfold planStarted
  rw [State.obj_setObj_ne _ _ _ _ _ _ (objKey_ne x h'), State.obj_setObj_ne _ _ _ _ _ _ (objKey_ne x h)]

theorem planStarted_plBit (b : Nat) : (planStarted s x q).plBit x b = s.plBit x b :=
  congrArg (fun v => bit v b) (planStarted_obj (by decide) (by decide))

theorem startJob_started : startJob (planStarted s x q) x = startJob s x := by
  unfold startJob
  simp only [planStarted_plBit, planStarted_obj (s := s) (x := x) (q := q) (k := O.PL_OUT_LIMIT) (by decide) (by decide),
    planStarted_obj (s := s) (x := x) (q := q) (k := O.PL_BLOCK_BYTES) (by decide) (by decide)]

/-- A job that has just begun shows nothing. -/
theorem settleJob_begun (h : s.plBit x 5 = false) (hj : q.job.st = 2 ∧ q.job.err = 0 ∧ q.job.clears = 0 ∧ q.job.fills = 0 ∧ q.job.blocks = 0) :
    settleJob s x q {} = s.setPlan x { q with st := 2 } := by
  obtain ⟨hst, herr, hclears, hfills, hblocks⟩ := hj
  rw [settleJob_eq h, hst, verified, if_neg (by rw [herr]; decide), jobShown]
  dsimp only
  rw [hclears, hfills, hblocks]
  rfl

theorem plStart_cmd (hq : s.plan x = some q) (ho : ownerOf p = q.owner) (hl : q.lost = false) (hst : q.st = 1 ∨ q.st = 4)
    (h5 : s.plBit x 5 = false) (h12 : s.plBit x 1 = false ∨ s.plBit x 2 = false) : plStart s p x =
      .ok ((planStarted s x q).setPlan x { q with st := 2, job := startJob s x }) := by
  have hbig : ((s.plBit x 5 && decide ((s.obj x O.PL_OUT_BUF_KIB).toNat * 1024 < (s.obj x O.PL_OUT_LIMIT).toNat)) ||
      (s.plBit x 1 && s.plBit x 2)) = false := by
    rw [h5]
    rcases h12 with h | h <;> simp [h]
  have hbuf : planBuf s x q = some (q.buf, s) := by
    rw [planBuf, h5]
    rfl
  have hsettle := settleJob_begun (s := planStarted s x q) (x := x) (q := { q with st := 2, job := startJob (planStarted s x q) x })
    ((planStarted_plBit 5).trans h5) (startJob_runs _ x)
  unfold plStart
  rw [plOwned_pos hq ho (by simpa using hst) hl]
  dsimp only
  rw [hbig, hbuf]
  refine Eq.trans (congrArg Acc.ok hsettle) ?_
  rw [startJob_started]

theorem plStart_starts (h : Served s p) (hx : s.plSel p = x) (hq : s.plan x = some q) (ho : ownerOf p = q.owner)
    (hl : q.lost = false) (hst : q.st = 1 ∨ q.st = 4) (h5 : s.plBit x 5 = false) (h12 : s.plBit x 1 = false ∨ s.plBit x 2 = false) :
    Answers (.plStart p) s fun t =>
      t.plan x = some { q with st := 2, job := startJob s x } ∧ t.obj x O.PL_ERR = 0 ∧
      t.obj x O.PL_OUT_HANDLE = ofN (q.buf.getD 0xFFFFFFFF) ∧ (∀ y, y ≠ x → t.plan y = s.plan y) ∧
      OnlyObjs [objKey x O.PL_ERR, objKey x O.PL_OUT_HANDLE] { s with plans := t.plans } t := by
  have hcmd : plStart s.turned p (s.turned.plSel p) =
      .ok ((planStarted s.turned x q).setPlan x { q with st := 2, job := startJob s x }) := by
    rw [show s.turned.plSel p = x from hx]
    exact plStart_cmd (s := s.turned) hq ho hl hst h5 h12
  refine answers_access (by rw [exec_plStart, execPlStart]) h (plPresent s) hcmd ?_
  generalize ({ q with st := 2, job := startJob s x } : Plan) = y
  have hbase : OnlyObjs [objKey x O.PL_ERR, objKey x O.PL_OUT_HANDLE] { s with plans := kvPut s.plans x y } (s.turned.setPlan x y) :=
    onlyObjs_congr _ rfl rfl rfl
  have hswap : (planStarted s.turned x q).setPlan x y = planStarted (s.turned.setPlan x y) x q := rfl
  have hframe : OnlyObjs [objKey x O.PL_ERR, objKey x O.PL_OUT_HANDLE] { s with plans := kvPut s.plans x y }
      ((planStarted s.turned x q).setPlan x y) := by
    rw [hswap]
    exact (hbase.put (by simp) _).put (by simp) _
  obtain ⟨hplans, hset⟩ := onlyObjs_plans hframe
  obtain ⟨hlt, hns⟩ := planObj_free (k := O.PL_ERR) (by simp)
  obtain ⟨hlt', hns'⟩ := planObj_free (k := O.PL_OUT_HANDLE) (by simp)
  refine ⟨(plan_put hplans).1, ?_, ?_, (plan_put hplans).2, hset⟩
  · rw [obj_settle_of _ x O.PL_ERR hlt hns, hswap, planStarted, State.obj_setObj_ne _ _ _ _ _ _ (objKey_ne x (by decide))]
    exact State.obj_setObj_self _ _ _ _
  · rw [obj_settle_of _ x O.PL_OUT_HANDLE hlt' hns', hswap]
    exact State.obj_setObj_self _ _ _ _

theorem planErr_path (x p : Nat) : objKey x O.PL_ERR ∉ abortKeys p := by
  simp only [abortKeys, objKey, O.PL_ERR, O.PATH_LAST_ABORT, O.PATH_ABORTS, O.PATH_STATUS, List.mem_cons, List.not_mem_nil, or_false]
  omega

theorem plStart_incompatible (h : Served s p) (hx : s.plSel p = x) (hq : s.plan x = some q) (ho : ownerOf p = q.owner)
    (hl : q.lost = false) (hst : q.st = 1 ∨ q.st = 4) (h1 : s.plBit x 1 = true) (h2 : s.plBit x 2 = true) :
    Answers (.plStart p) s fun t =>
      t.obj x O.PL_ERR = 9 ∧ Aborted s t p O.PL_CMD 2 .incompatible ∧ OnlyObjs (objKey x O.PL_ERR :: abortKeys p) s t := by
  have hcmd : plStart s.turned p (s.turned.plSel p) = (s.turned.setObj x O.PL_ERR 9, some .incompatible) := by
    rw [show s.turned.plSel p = x from hx, plStart, plOwned_pos (s := s.turned) hq ho (by simpa using hst) hl]
    dsimp only
    rw [show s.turned.plBit x 1 = true from h1, show s.turned.plBit x 2 = true from h2, if_pos (by simp)]
  have hkey := planErr_path x p
  have herr : (s.turned.setObj x O.PL_ERR 9).obj x O.PL_ERR = 9 := State.obj_setObj_self _ _ _ _
  have hcount : (s.turned.setObj x O.PL_ERR 9).obj p O.PATH_ABORTS = s.obj p O.PATH_ABORTS :=
    State.obj_setObj_ne s.turned _ _ _ _ _ fun he => hkey (by rw [← he]; simp [abortKeys])
  have hframe : OnlyObjs (objKey x O.PL_ERR :: abortKeys p) s (s.turned.setObj x O.PL_ERR 9) :=
    (onlyObjs_turned _).put List.mem_cons_self _
  refine answers_done (by rw [exec_plStart, execPlStart, access_served h _ (plPresent s), hcmd, finish_some]) ?_
  generalize s.turned.setObj x O.PL_ERR 9 = w at herr hcount hframe ⊢
  obtain ⟨hlt, hns⟩ := planObj_free (k := O.PL_ERR) (by simp)
  refine ⟨?_, ?_, ?_⟩
  · rw [obj_settle_of _ x O.PL_ERR hlt hns]
    exact ((recordAbort_onlyObjs w p _ 2 _).2 _ _ hkey (objKey_settle _ _ hlt hns)).trans herr
  · exact (rejected_settle w p _ 2 _).1.of_count hcount
  · exact hframe.trans ((rejected_settle w p _ 2 _).2.mono fun y hy => List.mem_cons_of_mem _ hy)

/-- A PL_OUT_LIMIT is refused above the output buffer, which there is only where OUT_KIND is 1. -/
theorem plContinue_continues (h : Served s p) (hx : s.plSel p = x) (hq : s.plan x = some q) (ho : ownerOf p = q.owner)
    (hl : q.lost = false) (hst : q.st = 3) (h5 : s.plBit x 5 = false) (hj : q.job.resume (s.obj x O.PL_OUT_LIMIT).toNat = j)
    (he : j.err = 2 → q.job.err = 2) : Answers (.plContinue p) s fun t =>
      t.plan x = some { q with job := j, st := if j.err ≠ 0 then 5 else if j.full then 3 else 2 } ∧
      (∀ y, y ≠ x → t.plan y = s.plan y) ∧
      OnlyObjs [objKey x O.PL_STATUS, objKey x O.PL_ERR] { s with plans := t.plans } t := by
  have hcmd : plContinue s.turned p (s.turned.plSel p) = .ok (settleJob s.turned x { q with job := j } q.job) := by
    rw [show s.turned.plSel p = x from hx, plContinue, plOwned_pos (s := s.turned) hq ho (by simp [hst]) hl,
      need_pos s.turned (by rw [show s.turned.plBit x 5 = false from h5]; rfl), ← hj]
    rfl
  refine answers_access (by rw [exec_plContinue, execPlContinue]) h (plPresent s) hcmd ?_
  have hframe := settleJob_quiet (s := s.turned) (x := x) (q := { q with job := j }) (was := q.job) h5 he
  have hbase : OnlyObjs (planKeys x) { s with plans := kvPut s.plans x { q with job := j, st := j.st } }
      { s.turned with plans := kvPut s.turned.plans x { q with job := j, st := j.st } } := onlyObjs_congr _ rfl rfl rfl
  obtain ⟨hplans, hset⟩ := onlyObjs_plans (hbase.trans hframe)
  exact ⟨(plan_put hplans).1, (plan_put hplans).2, hset⟩

theorem plContinue_state (h : Served s p) (hx : s.plSel p = x) (hq : s.plan x = some q) (ho : ownerOf p = q.owner)
    (hst : q.st ≠ 3) : Answers (.plContinue p) s fun t => Rejected s t p O.PL_CMD 2 .presentState := by
  refine rejected_access (by rw [exec_plContinue, execPlContinue]) h (plPresent s) ?_
  rw [show s.turned.plSel p = x from hx, plContinue]
  exact plOwned_state (s := s.turned) hq ho (by simpa using hst)

/-! ### The end of a job (R363, R367) -/

/-- The state of a job that has ended. -/
def jobEnded (s : State) (x : Nat) : State :=
  match s.plan x with
  | some q => if q.st = 2 then pulse ((s.setPlan x { q with st := 4 }).flag x O.PL_STATUS 0) 6 0 x else s
  | none => s

theorem exec_plJobDone_ends (hq : s.plan x = some q) (hst : q.st = 2) (hf : q.job.finish = true) (hj : q.job.conclude = j) :
    exec (.plJobDone x) s = done (jobEnded (settleJob s x { q with job := j } q.job) x) := by
  rw [exec_plJobDone, execPlJobDone, hq]
  dsimp only
  rw [if_pos ⟨hst, hf⟩, hj]
  rfl

theorem jobEnded_stays (hq : s.plan x = some q) (hst : q.st ≠ 2) : jobEnded s x = s := by
  unfold jobEnded
  rw [hq]
  exact if_neg hst

theorem jobEnded_done (hq : s.plan x = some q) (hst : q.st = 2) :
    jobEnded s x = pulse ((s.setPlan x { q with st := 4 }).flag x O.PL_STATUS 0) 6 0 x := by
  unfold jobEnded
  rw [hq]
  exact if_pos hst

theorem plJobDone_idle (hq : s.plan x = some q) (h : q.st ≠ 2 ∨ q.job.finish = false) :
    Answers (.plJobDone x) s fun t => OnlyObjs [] s t := by
  refine answers_idle ?_
  rw [exec_plJobDone, execPlJobDone, hq]
  dsimp only
  rw [if_neg fun hh => h.elim (fun hst => hst hh.1) fun hf => absurd (hf.symm.trans hh.2) (by decide)]

theorem job_st_cases (j : Job) : (j.err ≠ 0 ∧ j.st = 5) ∨ (j.err = 0 ∧ j.full = true ∧ j.st = 3) ∨
    (j.err = 0 ∧ j.full = false ∧ j.st = 2) := by
  unfold Job.st
  by_cases he : j.err = 0
  · cases hf : j.full with
    | true => exact .inr (.inl ⟨he, rfl, by simp [he]⟩)
    | false => exact .inr (.inr ⟨he, rfl, by simp [he]⟩)
  · exact .inl ⟨he, if_pos he⟩

/-- A job that ends without a verification mismatch. -/
theorem plJobDone_ends (hq : s.plan x = some q) (hst : q.st = 2) (hf : q.job.finish = true) (h5 : s.plBit x 5 = false)
    (hj : q.job.conclude = j) (he : j.err = 2 → q.job.err = 2) : Answers (.plJobDone x) s fun t =>
      t.plan x = some { q with job := j, st := if j.err ≠ 0 then 5 else if j.full then 3 else 4 } ∧
      (j.err = 0 → j.full = false → bit (t.obj x O.PL_STATUS) 0 = true) ∧
      (j.err ≠ 0 → t.obj x O.PL_ERR = ofN j.err ∧ bit (t.obj x O.PL_STATUS) 2 = true) ∧
      (∀ y, y ≠ x → t.plan y = s.plan y) ∧
      OnlyObjs [objKey x O.PL_STATUS, objKey x O.PL_ERR] { s with plans := t.plans } t := by
  have hexec := exec_plJobDone_ends hq hst hf hj
  have hframe := settleJob_quiet (s := s) (x := x) (q := { q with job := j }) (was := q.job) h5 he
  have herr := settleJob_error (s := s) (x := x) (q := { q with job := j }) (was := q.job) h5
  generalize settleJob s x { q with job := j } q.job = w at hexec hframe herr
  have hplans : w.plans = kvPut s.plans x { q with job := j, st := j.st } := (congrArg State.plans hframe.1 :)
  have hplan : w.plan x = some { q with job := j, st := j.st } := (plan_put hplans).1
  obtain ⟨hlt, hns⟩ := planObj_free (k := O.PL_STATUS) (by simp)
  obtain ⟨hlt', hns'⟩ := planObj_free (k := O.PL_ERR) (by simp)
  rcases job_st_cases j with ⟨h0, hs⟩ | ⟨h0, hfull, hs⟩ | ⟨h0, hfull, hs⟩
  · rw [jobEnded_stays hplan (by simp [hs])] at hexec
    obtain ⟨hput, hset⟩ := onlyObjs_plans hframe
    obtain ⟨hperr, hpbit⟩ := herr h0
    refine answers_done hexec ⟨?_, fun h => absurd h h0, fun _ => ⟨?_, ?_⟩, (plan_put hput).2, hset⟩
    · rw [(plan_put hput).1, if_pos h0]
      rw [hs]
    · rw [obj_settle_of _ x O.PL_ERR hlt' hns']
      exact hperr
    · rw [obj_settle_of _ x O.PL_STATUS hlt hns]
      exact hpbit
  · rw [jobEnded_stays hplan (by simp [hs])] at hexec
    obtain ⟨hput, hset⟩ := onlyObjs_plans hframe
    refine answers_done hexec ⟨?_, fun _ h => absurd (hfull.symm.trans h) (by decide), fun h => absurd h0 h, (plan_put hput).2, hset⟩
    rw [(plan_put hput).1, if_neg (not_not_intro h0), if_pos hfull]
    rw [hs]
  · rw [jobEnded_done hplan (by exact hs)] at hexec
    have hdone : OnlyObjs (planKeys x) { s with plans := kvPut w.plans x { q with job := j, st := 4 } }
        (w.setPlan x { q with job := j, st := 4 }) :=
      ⟨congrArg (fun b : State => { b with plans := kvPut w.plans x { q with job := j, st := 4 } }) hframe.1, hframe.2⟩
    have hend := (hdone.flagged (i := x) (k := O.PL_STATUS) List.mem_cons_self 0).pulsed 6 0 x
    obtain ⟨hput, hset⟩ := onlyObjs_plans hend
    have hother : ∀ y, y ≠ x → w.plan y = s.plan y := (plan_put hplans).2
    refine answers_done hexec ⟨?_, fun _ _ => ?_, fun h => absurd h0 h, fun y hy => ?_, hset⟩
    · rw [(plan_put (s := w) hput).1, if_neg (not_not_intro h0), if_neg (by rw [hfull]; decide)]
    · rw [obj_settle_of _ x O.PL_STATUS hlt hns, obj_pulse_of _ _ _ _ _ _ hlt hns, State.flag_eq, State.obj_setObj_self]
      exact bit_setBit_self _ (by decide)
    · exact ((plan_put (s := w) hput).2 y hy).trans (hother y hy)

/-- A job that a verification mismatch ends is counted and told to the fault supervisor (R363). -/
theorem plJobDone_mismatch (hq : s.plan x = some q) (hst : q.st = 2) (hf : q.job.finish = true) (h5 : s.plBit x 5 = false)
    (hj : q.job.conclude = j) (he : j.err = 2) (hw : q.job.err ≠ 2) : Answers (.plJobDone x) s fun t =>
      t.plan x = some { q with job := j, st := 5 } ∧ t.obj x O.PL_ERR = 2 ∧ bit (t.obj x O.PL_STATUS) 2 = true ∧
      (t.obj x O.PL_VERIFY_FAILS).toNat = satN 32 ((s.obj x O.PL_VERIFY_FAILS).toNat + 1) ∧
      bit (t.get O.TARNISH) 25 = true ∧ t.mem = s.mem := by
  have hexec := exec_plJobDone_ends hq hst hf hj
  have hstj : j.st = 5 := if_pos (by rw [he]; decide)
  have herr := settleJob_error (s := s) (x := x) (q := { q with job := j }) (was := q.job) h5 (by dsimp only; rw [he]; decide)
  have hsettle := settleJob_eq h5 { q with job := j } q.job
  dsimp only at hsettle herr
  rw [verified, if_pos ⟨he, hw⟩] at hsettle
  generalize (if x = 0 then 0xFF else x - 1) = d at hsettle
  generalize hv : (s.setPlan x { q with job := j, st := j.st }).countSat x O.PL_VERIFY_FAILS 32 = v at hsettle
  have hshown := jobShown_frame (tarnish v 25 d 0xFF 0) x j q.job j.st
  rw [← hsettle] at hshown
  generalize settleJob s x { q with job := j } q.job = w at hexec herr hshown
  have htold := tarnish_frame v 25 d 0xFF 0 0
  have hplans : w.plans = kvPut s.plans x { q with job := j, st := j.st } := by
    have h1 : w.plans = (tarnish v 25 d 0xFF 0).plans := (congrArg State.plans hshown.1 :)
    have h2 : (tarnish v 25 d 0xFF 0).plans = v.plans := (congrArg State.plans htold.1 :)
    rw [h1, h2, ← hv]
    rfl
  have hmem : w.mem = s.mem := by
    have h1 : w.mem = (tarnish v 25 d 0xFF 0).mem := (congrArg State.mem hshown.1 :)
    rw [h1, tarnish_mem, ← hv]
    rfl
  have hplan : w.plan x = some { q with job := j, st := 5 } := by rw [(plan_put hplans).1, hstj]
  rw [jobEnded_stays hplan (by simp)] at hexec
  obtain ⟨hlt, hns⟩ := planObj_free (k := O.PL_STATUS) (by simp)
  obtain ⟨hlt', hns'⟩ := planObj_free (k := O.PL_ERR) (by simp)
  obtain ⟨hltv, hnsv⟩ := planObj_free (k := O.PL_VERIFY_FAILS) (by simp)
  have hkeep : ∀ i k, k < 2 ^ 24 → k ∉ settleObjs → k ≠ O.PL_STATUS → k ≠ O.PL_ERR →
      (settle w).obj i k = (tarnish v 25 d 0xFF 0).obj i k := by
    intro i k hk hs h1 h2
    refine (obj_settle_of w i k hk hs).trans (hshown.2 i k (fun hm => ?_) (objKey_settle i k hk hs))
    simp only [objKey, O.PL_STATUS, O.PL_ERR, List.mem_cons, List.not_mem_nil, or_false] at hm h1 h2
    omega
  have hfails : (v.obj x O.PL_VERIFY_FAILS).toNat = satN 32 ((s.obj x O.PL_VERIFY_FAILS).toNat + 1) := by
    rw [← hv, State.countSat_eq, State.obj_setObj_self, ofN_toNat _ (satN32_lt _)]
    rfl
  refine answers_done hexec ⟨?_, ?_, ?_, ?_, ?_, ?_⟩
  · rw [State.plan, settle_plans]
    exact hplan
  · rw [obj_settle_of _ x O.PL_ERR hlt' hns', herr.1, he]
    rfl
  · rw [obj_settle_of _ x O.PL_STATUS hlt hns]
    exact herr.2
  · rw [hkeep x O.PL_VERIFY_FAILS hltv hnsv (by decide) (by decide), obj_tarnish_of _ _ _ _ _ _ _ _ hltv hnsv (by decide)]
    exact hfails
  · rw [State.get_eq, hkeep 0 O.TARNISH (by decide) (by decide) (by decide) (by decide)]
    exact tarnish_bit v (by decide) d 0xFF 0 0
  · rw [settle_mem]
    exact hmem

/-! ### One code (R358, R363) -/

theorem strike_none (h : j.upset = none) (n : Nat) : j.strike n = (n, j) := by rw [Job.strike, h]

theorem words_keeps (j : Job) : j.words.err = j.err ∧ j.words.inSyms = j.inSyms := by
  unfold Job.words
  split
  · exact ⟨rfl, rfl⟩
  · exact ⟨rfl, rfl⟩

/-- A code that the verify decoder reads as the symbols it stands for is written; any other stops the job. -/
theorem emit_verified {n : Nat} {ss : List Nat} (h0 : j.err = 0) (hu : j.upset = none) (hc : n ≠ j.clear) (hend : n ≠ j.endCode) :
    if j.decodes j.ver n = some ss then
      (j.emit n (some ss)).err = 0 ∧ (j.emit n (some ss)).inSyms = j.inSyms + ss.length
    else (j.emit n (some ss)).err = 2 ∧ (j.emit n (some ss)).out = j.out := by
  split
  · next hd =>
    have hok : ¬ (n = j.clear ∨ n = j.endCode ∨ j.decodes j.ver n ≠ some ss) := by simp [hc, hend, hd]
    unfold Job.emit
    rw [if_neg (not_not_intro h0), strike_none hu]
    dsimp only
    rw [if_neg hok]
    dsimp only
    obtain ⟨herr, hin⟩ := words_keeps { j with
      acc := j.acc + n * 2 ^ j.accBits, accBits := j.accBits + j.width, k := j.k + 1, ver := j.ver.step n ss
      inSyms := j.inSyms + ss.length }
    exact ⟨herr.trans h0, hin⟩
  · next hd =>
    unfold Job.emit
    rw [if_neg (not_not_intro h0), strike_none hu]
    dsimp only
    rw [if_pos (.inr (.inr hd)), Job.fail, if_pos h0]
    exact ⟨rfl, rfl⟩

/-- Settles O44: a command passes the checks of its owner and its state and replaces the planisher, and a job that has moved shows
its errors (`jobShown_frame`, `jobShown_error`). -/
theorem routesPlanishers : Obligations.RoutesPlanishers := by
  refine ⟨?_, ?_, ?_, ?_, ?_⟩
  · intro s p r h hr
    exact ⟨fun hn => evClaim_claims h hr hn, fun hn => evClaim_taken h hr hn, fun x hx ho => evRelease_releases h hr hx ho,
      fun x hx ho hs => evRelease_stranger h hr hx ho hs⟩
  · intro s p x h hx
    refine ⟨fun hn hd => plClaim_claims h hx hn hd, fun hn => plClaim_taken h hx hn, fun q hq ho i hi => pl_stranger h hx hq ho hi,
      fun q hq ho hl => ⟨?_, ?_, ?_, ?_, ?_, ?_, ?_⟩⟩
    · exact fun hst h5 h12 => plStart_starts h hx hq ho hl hst h5 h12
    · exact fun hst h1 h2 => plStart_incompatible h hx hq ho hl hst h1 h2
    · exact fun hst => plFinish_finishes h hx hq ho hl hst
    · exact fun j hst h5 hj he => plContinue_continues h hx hq ho hl hst h5 hj he
    · exact fun hst => plAbort_aborts h hx hq ho hl hst
    · exact fun hst hb => plRelease_frees h hx hq ho hl hst hb
    · exact fun hst => plContinue_state h hx hq ho hst
  · exact fun s x q j hq hst hf h5 hj => ⟨plJobDone_ends hq hst hf h5 hj, plJobDone_mismatch hq hst hf h5 hj⟩
  · exact fun j n ss h0 hu hc hend => emit_verified h0 hu hc hend
  · exact fun s x q hq h => plJobDone_idle hq h

end Sys2Proof.Machine
end

section
/-! ## Context commands (R177 to R180, R210, R211, R274), and O32 -/

namespace Sys2Proof.Machine

variable {s t u : State} {p c : Nat} {x : Ctx}

/-! ### The checks of a command (R177) -/

theorem ctxPresent (s : State) : s.missing (O.CTX_CMD / 256) (O.CTX_CMD % 256) = none := rfl

theorem ctxCommand_pos {sts : List CtxSt} {b : Bool} {f : State → Ctx → State} (hx : s.ctx c = some x) (ho : ownerOf p = x.owner)
    (hst : sts.contains x.st = true) (hb : x.isBusy = false) : ctxCommand s p c sts b f = .ok (f s x) := by
  have hown : (ownerOf p == s.ctxOwner c || (b && ownerOf p == s.steward)) = true := by
    rw [ctxOwner_of hx, ho]
    simp
  unfold ctxCommand
  rw [need_pos s hown, hx]
  dsimp only
  rw [if_pos (by rw [hst, hb]; rfl)]

theorem ctxCommand_state {sts : List CtxSt} {b : Bool} {f : State → Ctx → State} (hx : s.ctx c = some x) (ho : ownerOf p = x.owner)
    (h : sts.contains x.st = false ∨ x.isBusy = true) : ctxCommand s p c sts b f = (s, some .presentState) := by
  have hown : (ownerOf p == s.ctxOwner c || (b && ownerOf p == s.steward)) = true := by
    rw [ctxOwner_of hx, ho]
    simp
  unfold ctxCommand
  rw [need_pos s hown, hx]
  dsimp only
  rw [if_neg]
  intro hh
  obtain ⟨hin, hb⟩ := Bool.and_eq_true_iff.mp hh
  rcases h with h | h
  · exact absurd (h.symm.trans hin) (by decide)
  · exact absurd (hb.symm.trans (congrArg (!·) h)) (by decide)

theorem ctxCommand_stranger {sts : List CtxSt} {b : Bool} {f : State → Ctx → State} (hx : s.ctx c = some x) (ho : ownerOf p ≠ x.owner)
    (hs : b = false ∨ ownerOf p ≠ s.steward) : ctxCommand s p c sts b f = (s, some .noPermission) := by
  have hown : (ownerOf p == s.ctxOwner c || (b && ownerOf p == s.steward)) = false := by
    rw [ctxOwner_of hx, beq_false_of_ne ho]
    rcases hs with h | h <;> simp [h]
  exact need_neg hown _ _

/-- A command of a context in a state that admits it answers with what it does. -/
theorem ctx_answers {i : Instr} {sts : List CtxSt} {b : Bool} {f : Nat → State → Ctx → State} {P : State → Prop} (h : Served s p)
    (hc : s.selected p = c) (hi : exec i s = done (access s p O.CTX_CMD fun s => ctxCommand s p (s.selected p) sts b (f (s.selected p))))
    (hx : s.ctx c = some x) (ho : ownerOf p = x.owner) (hst : sts.contains x.st = true) (hb : x.isBusy = false)
    (hP : P (settle (f c s.turned x))) : Answers i s P := by
  refine answers_access hi h (ctxPresent s) ?_ hP
  rw [show s.turned.selected p = c from hc]
  exact ctxCommand_pos (s := s.turned) hx ho hst hb

theorem ctx_rejects {i : Instr} {sts : List CtxSt} {b : Bool} {f : Nat → State → Ctx → State} (h : Served s p)
    (hc : s.selected p = c) (hi : exec i s = done (access s p O.CTX_CMD fun s => ctxCommand s p (s.selected p) sts b (f (s.selected p))))
    (hx : s.ctx c = some x) (ho : ownerOf p = x.owner) (hst : sts.contains x.st = false ∨ x.isBusy = true) :
    Answers i s fun t => Rejected s t p O.CTX_CMD 2 .presentState := by
  refine rejected_access hi h (ctxPresent s) ?_
  rw [show s.turned.selected p = c from hc]
  exact ctxCommand_state (s := s.turned) hx ho hst

theorem ctx_refuses {i : Instr} {sts : List CtxSt} {b : Bool} {f : Nat → State → Ctx → State} (h : Served s p)
    (hc : s.selected p = c) (hi : exec i s = done (access s p O.CTX_CMD fun s => ctxCommand s p (s.selected p) sts b (f (s.selected p))))
    (hx : s.ctx c = some x) (ho : ownerOf p ≠ x.owner) (hs : b = false ∨ ownerOf p ≠ s.steward) :
    Answers i s fun t => Rejected s t p O.CTX_CMD 2 .noPermission := by
  refine rejected_access hi h (ctxPresent s) ?_
  rw [show s.turned.selected p = c from hc]
  exact ctxCommand_stranger (s := s.turned) hx ho hs

/-- What Hold does. -/
def holdDo (c : Nat) (s : State) (_ : Ctx) : State := (discardUnreached s c).modCtx c fun x => { x with busy := some (.held, s.now) }

/-- What Resume does, from core cycle `t` on. -/
def resumeAt (c t : Nat) (s : State) : State :=
  let s := enterCtx s c .armed
  (s.modCtx c fun x => { x with
    armAt := t, sinceArm := 0, stopMet := false, stopAt := none, tableFull := false, stopFrom := t
    autoFrom := t }).putTm c O.CTX_STATE_TM t

/-- What Resume does, at the next core cycle. -/
def resumeDo (c : Nat) (s : State) (_ : Ctx) : State := resumeAt c (s.cycle + 48) s

/-- What Disarm does. -/
def disarmDo (c : Nat) (s : State) (x : Ctx) : State :=
  (if x.st = .suspended then s else abandonWork s c).modCtx c fun x => { x with busy := some (.defined, s.now) }

/-- What Free does. -/
def freeDo (c : Nat) (s : State) (x : Ctx) : State :=
  let s := if x.st = .armed ∨ x.st = .held then abandonWork s c else s
  (releaseAll s c).modCtx c fun x => { x with busy := some (.empty, s.now) }

theorem exec_ctxHold_command (s : State) : exec (.ctxHold p) s =
    done (access s p O.CTX_CMD fun s => ctxCommand s p (s.selected p) [.armed] false (holdDo (s.selected p))) := rfl

theorem exec_ctxResume_command (s : State) : exec (.ctxResume p) s =
    done (access s p O.CTX_CMD fun s => ctxCommand s p (s.selected p) [.held] false (resumeDo (s.selected p))) := rfl

theorem exec_ctxDisarm_command (s : State) : exec (.ctxDisarm p) s =
    done (access s p O.CTX_CMD fun s => ctxCommand s p (s.selected p) [.armed, .held, .suspended] false (disarmDo (s.selected p))) := rfl

theorem exec_ctxFree_command (s : State) : exec (.ctxFree p) s =
    done (access s p O.CTX_CMD fun s => ctxCommand s p (s.selected p) [.defined, .armed, .held, .suspended] true
      (freeDo (s.selected p))) := rfl

/-! ### Hold and Resume (R177, R210, R211) -/

/-- A record that replaces that of one context, and what the end of the command leaves. -/
theorem setCtx_settled (s : State) (c : Nat) (y : Ctx) :
    let t := settle (s.turned.setCtx c y)
    t.ctx c = some y ∧ CtxsBut c s t ∧ OnlyObjs [] { s with ctxs := t.ctxs } t := by
  refine ⟨?_, (ctxsBut_setCtx s.turned c y).settled, ?_⟩
  · rw [ctx_settle, ctx_setCtx_self]
  · rw [settle_ctxs]
    exact ((onlyObjs_turned (s := s) []).setCtx c y).settled

theorem holdDo_eq (hx : s.ctx c = some x) : holdDo c s x =
    s.setCtx c { x with pending := x.pending.filter (fun g => g.reached || g.closed), busy := some (.held, s.now) } := by
  unfold holdDo
  rw [discardUnreached, modCtx_some hx, modCtx_some (ctx_setCtx_self s c _), setCtx_setCtx]

theorem ctxHold_holds (h : Served s p) (hc : s.selected p = c) (hx : s.ctx c = some x) (ho : ownerOf p = x.owner)
    (hb : x.isBusy = false) (hst : x.st = .armed) : Answers (.ctxHold p) s fun t =>
      t.ctx c = some { x with pending := x.pending.filter (fun g => g.reached || g.closed), busy := some (.held, s.now) } ∧
      CtxsBut c s t ∧ OnlyObjs [] { s with ctxs := t.ctxs } t := by
  refine ctx_answers (f := holdDo) h hc (exec_ctxHold_command s) hx ho (by rw [hst]; rfl) hb ?_
  rw [holdDo_eq (s := s.turned) hx]
  exact setCtx_settled s c _

/-- The record of a context that has resumed at `n`. -/
def Ctx.resumed (x : Ctx) (n : Nat) : Ctx :=
  { x with
    st := .armed, busy := none, arming := false, changedIn := none, forceAt := none
    armAt := n, sinceArm := 0, stopMet := false, stopAt := none, tableFull := false, stopFrom := n, autoFrom := n }

/-- The objects of a context's change of state. -/
abbrev stateKeys (c : Nat) : List Nat := [objKey c O.CTX_STATE_TM, objKey (wrapInst c) O.CTX_STATE_TM]

theorem OnlyObjs.putTm {ks : List Nat} {i k : Nat} (h : OnlyObjs ks s t) (h1 : objKey i k ∈ ks) (h2 : objKey (wrapInst i) k ∈ ks) (n : Nat) :
    OnlyObjs ks s (t.putTm i k n) := by
  rw [State.putTm_eq]
  exact (h.put h1 _).put h2 _

theorem putTm_obj (s : State) (i k n : Nat) : (s.putTm i k n).obj i k = tmOf n := by
  have hne : objKey i k ≠ objKey (wrapInst i) k := by
    simp only [objKey, wrapInst]
    omega
  rw [State.putTm_eq, State.obj_setObj_ne _ _ _ _ _ _ hne]
  exact State.obj_setObj_self _ _ _ _

theorem resumeAt_ctx (hx : s.ctx c = some x) (n : Nat) : (resumeAt c n s).ctx c = some (x.resumed n) := by
  unfold resumeAt
  dsimp only
  rw [State.putTm_eq, modCtx_some (enterCtx_ctx hx _)]
  exact ctx_setCtx_self _ c _

theorem resumeAt_frame (hx : s.ctx c = some x) (n : Nat) : OnlyObjs (stateKeys c) { s with ctxs := (resumeAt c n s).ctxs } (resumeAt c n s) ∧
    CtxsBut c s (resumeAt c n s) := by
  unfold resumeAt
  dsimp only
  rw [modCtx_some (enterCtx_ctx hx _)]
  generalize hy : ({ x with st := CtxSt.armed, busy := none, arming := false, changedIn := none, forceAt := none } : Ctx) = y
  have henter : enterCtx s c .armed = (s.setCtx c y).putTm c O.CTX_STATE_TM (s.stateFrom x) := by
    rw [enterCtx, hx, ← hy]
  rw [henter]
  generalize s.stateFrom x = m
  generalize ({ y with
    armAt := n, sinceArm := 0, stopMet := false, stopAt := none, tableFull := false, stopFrom := n, autoFrom := n } : Ctx) = z
  have hk : objKey c O.CTX_STATE_TM ∈ stateKeys c := List.mem_cons_self
  have hk' : objKey (wrapInst c) O.CTX_STATE_TM ∈ stateKeys c := List.mem_cons_of_mem _ List.mem_cons_self
  have hput : OnlyObjs (stateKeys c) (s.setCtx c y) ((s.setCtx c y).putTm c O.CTX_STATE_TM m) :=
    (onlyObjs_refl _ _).putTm hk hk' m
  have hctxs : ((s.setCtx c y).putTm c O.CTX_STATE_TM m).ctxs = (s.setCtx c y).ctxs := by
    rw [State.putTm_eq, State.setObj_ctxs, State.setObj_ctxs]
  generalize (s.setCtx c y).putTm c O.CTX_STATE_TM m = u at hput hctxs ⊢
  have hlast : ((u.setCtx c z).putTm c O.CTX_STATE_TM n).ctxs = (u.setCtx c z).ctxs := by
    rw [State.putTm_eq, State.setObj_ctxs, State.setObj_ctxs]
  refine ⟨?_, fun d hd => ?_⟩
  · rw [hlast]
    exact (hput.setCtx c z).putTm hk hk' n
  · rw [ctx_congr hlast d, ctxsBut_setCtx u c z d hd, ctx_congr hctxs d, ctxsBut_setCtx s c y d hd]

theorem ctxResume_resumes (h : Served s p) (hc : s.selected p = c) (hx : s.ctx c = some x) (ho : ownerOf p = x.owner)
    (hb : x.isBusy = false) (hst : x.st = .held) : Answers (.ctxResume p) s fun t =>
      (∃ y, t.ctx c = some y ∧ y.st = .armed ∧ y.armAt = s.cycle + 48 ∧ y.sinceArm = 0 ∧ y.stopMet = false ∧
        y.stopFrom = s.cycle + 48 ∧ y.pending = x.pending ∧ y.table = x.table ∧ y.evals = x.evals) ∧
      t.obj c O.CTX_STATE_TM = tmOf (s.cycle + 48) ∧ CtxsBut c s t ∧
      OnlyObjs [objKey c O.CTX_STATE_TM, objKey (wrapInst c) O.CTX_STATE_TM] { s with ctxs := t.ctxs } t := by
  refine ctx_answers (f := resumeDo) h hc (exec_ctxResume_command s) hx ho (by rw [hst]; rfl) hb ?_
  have hcyc : s.turned.cycle = s.cycle := rfl
  rw [resumeDo, hcyc]
  generalize s.cycle + 48 = n
  have hctx := resumeAt_ctx (s := s.turned) hx n
  obtain ⟨hframe, hbut⟩ := resumeAt_frame (s := s.turned) hx n
  have htm : (resumeAt c n s.turned).obj c O.CTX_STATE_TM = tmOf n := putTm_obj _ _ _ _
  generalize resumeAt c n s.turned = w at hctx hframe hbut htm ⊢
  refine ⟨⟨_, (ctx_settle c).trans hctx, rfl, rfl, rfl, rfl, rfl, rfl, rfl, rfl⟩, ?_, hbut.settled, ?_⟩
  · rw [obj_settle_of _ c O.CTX_STATE_TM (by decide) (by decide)]
    exact htm
  · rw [settle_ctxs]
    have hbase : OnlyObjs (stateKeys c) { s with ctxs := w.ctxs } { s.turned with ctxs := w.ctxs } := onlyObjs_congr _ rfl rfl rfl
    exact (hbase.trans hframe).settled

/-! ### Disarm and Free (R200, R211, R274) -/

theorem ctxDisarm_suspended (h : Served s p) (hc : s.selected p = c) (hx : s.ctx c = some x) (ho : ownerOf p = x.owner)
    (hb : x.isBusy = false) (hst : x.st = .suspended) : Answers (.ctxDisarm p) s fun t =>
      t.ctx c = some { x with busy := some (.defined, s.now) } ∧ CtxsBut c s t ∧ OnlyObjs [] { s with ctxs := t.ctxs } t := by
  refine ctx_answers (f := disarmDo) h hc (exec_ctxDisarm_command s) hx ho (by rw [hst]; rfl) hb ?_
  rw [disarmDo, if_pos hst, modCtx_some (s := s.turned) hx]
  exact setCtx_settled s c _

theorem ctxFree_idle (h : Served s p) (hc : s.selected p = c) (hx : s.ctx c = some x) (ho : ownerOf p = x.owner)
    (hb : x.isBusy = false) (hst : x.st = .defined ∨ x.st = .suspended) (ht : x.table = []) : Answers (.ctxFree p) s fun t =>
      t.ctx c = some { x with busy := some (.empty, s.now) } ∧ CtxsBut c s t ∧ OnlyObjs [] { s with ctxs := t.ctxs } t := by
  refine ctx_answers (f := freeDo) h hc (exec_ctxFree_command s) hx ho (by rcases hst with hst | hst <;> rw [hst] <;> rfl) hb ?_
  have hrel : releaseAll s.turned c = s.turned := by
    rw [releaseAll, show s.turned.ctx c = some x from hx]
    dsimp only
    rw [ht]
    rfl
  have hnot : ¬ (x.st = .armed ∨ x.st = .held) := by rcases hst with hst | hst <;> simp [hst]
  rw [freeDo, if_neg hnot, hrel, modCtx_some (s := s.turned) hx]
  exact setCtx_settled s c _

/-- Work that is abandoned leaves the inputs, and each die its state. -/
theorem Worked.dieSt {K : KeepFields} {cs : List Nat} (h : Worked K cs s t) (d : Nat) : (t.die d).st = (s.die d).st := by
  have hd : t.dies.map Die.still = s.dies.map Die.still := (congrArg State.dies h.still :)
  have hget : (t.dies.map Die.still).getD d ({} : Die).still = (s.dies.map Die.still).getD d ({} : Die).still := by rw [hd]
  rw [List.getD_map, List.getD_map] at hget
  exact (congrArg Die.st hget :)

/-- What is asked of a context that stops: its inputs stand, and capture memory where `b` says so. -/
def inputsKept (b : Bool) : KeepFields := ⟨b, false, true⟩

theorem ctxDisarm_disarms (h : Served s p) (hc : s.selected p = c) (hx : s.ctx c = some x) (ho : ownerOf p = x.owner)
    (hb : x.isBusy = false) (hst : x.st = .armed ∨ x.st = .held) : Answers (.ctxDisarm p) s fun t =>
      (∃ y, t.ctx c = some y ∧ y.st = x.st ∧ y.busy = some (.defined, s.now) ∧ y.evals = x.evals ∧
        (∀ g ∈ y.pending, g.closed = true) ∧ (∀ r ∈ y.assays, r.ended = true ∨ r.lanes = []) ∧
        ((∀ e ∈ x.dec.epochs, e.open_ = false) → y.table = x.table)) ∧
      CtxsBut c s t ∧ t.inputs = s.inputs ∧ (∀ d, (t.die d).st = (s.die d).st) ∧
      ((∀ e ∈ x.dec.epochs, e.open_ = false) → t.mem = s.mem) := by
  refine ctx_answers (f := disarmDo) h hc (exec_ctxDisarm_command s) hx ho (by rcases hst with hst | hst <;> rw [hst] <;> rfl) hb ?_
  have hnot : ¬ x.st = .suspended := by rcases hst with hst | hst <;> simp [hst]
  rw [disarmDo, if_neg hnot]
  obtain ⟨y, hy, hab⟩ := abandonWork_ctx (s := s.turned) hx
  have hwork := worked_abandonWork (K := inputsKept false) (cs := [c]) (s := s.turned) hx (.inl rfl) (.inl rfl) List.mem_cons_self
  have hmem : x.gridEnded → (abandonWork s.turned c).mem = s.mem := fun he =>
    (worked_abandonWork (K := inputsKept true) (cs := [c]) (s := s.turned) hx (.inr he) (.inl rfl) List.mem_cons_self).same.1 rfl
  generalize abandonWork s.turned c = w at hy hwork hmem ⊢
  rw [modCtx_some hy]
  refine ⟨⟨_, (ctx_settle c).trans (ctx_setCtx_self w c _), (congrArg Ctx.st hab.rest :), rfl, (congrArg Ctx.evals hab.rest :), hab.closed,
    hab.records, hab.table⟩, ?_, ?_, fun d => ?_, fun he => ?_⟩
  · exact CtxsBut.settled fun d hd => ((ctxsBut_setCtx w c _) d hd).trans (hwork.others d (by simpa using hd))
  · rw [settle_inputs]
    exact hwork.same.2.2 rfl
  · rw [State.die, settle_dies]
    exact hwork.dieSt d
  · rw [settle_mem]
    exact hmem he

/-- What a release leaves of the context it belongs to. -/
def Ctx.unheld (x : Ctx) : Ctx := { x with table := [], dec := {} }

theorem worked_sweepRings {K : KeepFields} {cs : List Nat} (hc : c ∈ cs) (s : State) : Worked K cs s (sweepRings s c) := by
  unfold sweepRings
  split
  · exact worked_refl cs s
  · refine worked_foldl _ _ (fun v r => ?_) s
    have hgive : Worked K cs v (v.give c (.dec r.id)) := worked_aside rfl rfl (fun _ _ => rfl) rfl (K.same_refl _)
    exact hgive.trans (worked_modCtx hc _ _)

theorem ctxKept_sweepRings (s : State) : CtxKept Ctx.unheld c s (sweepRings s c) := by
  unfold sweepRings
  split
  · exact ctxKept_refl _ c s
  · refine ctxKept_foldl _ _ (fun v r => ?_) s
    have hgive : CtxKept Ctx.unheld c v (v.give c (.dec r.id)) := ctxKept_same rfl
    exact hgive.trans (ctxKept_modCtx _ fun _ => rfl)

theorem decFreed_setCtx (s : State) (c : Nat) : decFreed s c = s ∨ ∃ x y, s.ctx c = some x ∧ decFreed s c = s.setCtx c y ∧
    y.unheld = x.unheld := by
  unfold decFreed
  split
  · exact .inl rfl
  · next x hx =>
    split
    · split
      · exact .inr ⟨x, _, hx, rfl, rfl⟩
      · exact .inl rfl
    · exact .inl rfl

theorem worked_decFreed {K : KeepFields} {cs : List Nat} (hc : c ∈ cs) (s : State) : Worked K cs s (decFreed s c) := by
  rcases decFreed_setCtx s c with he | ⟨x, y, -, he, -⟩
  · rw [he]
    exact worked_refl cs s
  · rw [he]
    exact worked_setCtx hc s y

theorem ctxKept_decFreed (s : State) : CtxKept Ctx.unheld c s (decFreed s c) := by
  rcases decFreed_setCtx s c with he | ⟨x, y, hx, he, hy⟩
  · rw [he]
    exact ctxKept_refl _ c s
  · rw [he]
    exact ctxKept_setCtx hx hy

theorem worked_dropSegment {K : KeepFields} {cs : List Nat} (hc : c ∈ cs) (s : State) (q : Nat) : Worked K cs s (dropSegment s c q) :=
  ((worked_modCtx hc s _).trans (worked_sweepRings hc _)).trans (worked_decFreed hc _)

theorem ctxKept_dropSegment (s : State) (q : Nat) : CtxKept Ctx.unheld c s (dropSegment s c q) :=
  ((ctxKept_modCtx (g := fun x => { x with table := x.table.filter fun g => g.seq != q }) s fun _ => rfl).trans
    (ctxKept_sweepRings _)).trans (ctxKept_decFreed _)

theorem worked_releaseSegment {K : KeepFields} {cs : List Nat} (hc : c ∈ cs) (s : State) (q : Nat) :
    Worked K cs s (releaseSegment s c q) := by
  unfold releaseSegment
  split
  · exact worked_refl cs s
  · split
    · exact worked_refl cs s
    · split
      · exact worked_dropSegment hc s q
      · exact worked_setCtx hc s _

theorem ctxKept_releaseSegment (s : State) (q : Nat) : CtxKept Ctx.unheld c s (releaseSegment s c q) := by
  unfold releaseSegment
  split
  · exact ctxKept_refl _ c s
  · next x hx =>
    split
    · exact ctxKept_refl _ c s
    · split
      · exact ctxKept_dropSegment s q
      · exact ctxKept_setCtx hx rfl

theorem worked_releaseAll {K : KeepFields} {cs : List Nat} (hc : c ∈ cs) (s : State) : Worked K cs s (releaseAll s c) := by
  unfold releaseAll
  split
  · exact worked_foldl _ _ (fun v q => worked_releaseSegment hc v q) s
  · exact worked_refl cs s

theorem ctxKept_releaseAll (s : State) : CtxKept Ctx.unheld c s (releaseAll s c) := by
  unfold releaseAll
  split
  · exact ctxKept_foldl _ _ (fun v q => ctxKept_releaseSegment v q) s
  · exact ctxKept_refl _ c s

theorem ctxFree_frees (h : Served s p) (hc : s.selected p = c) (hx : s.ctx c = some x) (ho : ownerOf p = x.owner)
    (hb : x.isBusy = false) (hst : x.st = .armed ∨ x.st = .held) : Answers (.ctxFree p) s fun t =>
      (∃ y, t.ctx c = some y ∧ y.st = x.st ∧ y.busy = some (.empty, s.now) ∧
        (∀ g ∈ y.pending, g.closed = true) ∧ (∀ r ∈ y.assays, r.ended = true ∨ r.lanes = [])) ∧
      CtxsBut c s t ∧ t.inputs = s.inputs ∧ (∀ d, (t.die d).st = (s.die d).st) := by
  refine ctx_answers (f := freeDo) h hc (exec_ctxFree_command s) hx ho (by rcases hst with hst | hst <;> rw [hst] <;> rfl) hb ?_
  rw [freeDo, if_pos hst]
  obtain ⟨y, hy, hab⟩ := abandonWork_ctx (s := s.turned) hx
  have hwork := worked_abandonWork (K := inputsKept false) (cs := [c]) (s := s.turned) hx (.inl rfl) (.inl rfl) List.mem_cons_self
  have hnow : (abandonWork s.turned c).now = s.now :=
    now_congr (congrArg State.counter hwork.still :) (congrArg State.wraps hwork.still :)
  generalize abandonWork s.turned c = w at hy hwork hnow ⊢
  obtain ⟨z, hz, hzu⟩ := ctxKept_releaseAll w y hy
  have hall := hwork.trans (worked_releaseAll (K := inputsKept false) (cs := [c]) List.mem_cons_self w)
  generalize releaseAll w c = v at hz hall ⊢
  have hst' : z.st = x.st := ((congrArg Ctx.st hzu :) : z.st = y.st).trans (congrArg Ctx.st hab.rest :)
  have hpending : z.pending = y.pending := (congrArg Ctx.pending hzu :)
  have hassays : z.assays = y.assays := (congrArg Ctx.assays hzu :)
  rw [modCtx_some hz, hnow]
  refine ⟨⟨_, (ctx_settle c).trans (ctx_setCtx_self v c _), hst', rfl, ?_, ?_⟩, ?_, ?_, fun d => ?_⟩
  · exact fun g hg => hab.closed g (hpending ▸ hg)
  · exact fun r hr => hab.records r (hassays ▸ hr)
  · exact CtxsBut.settled fun d hd => ((ctxsBut_setCtx v c _) d hd).trans (hall.others d (by simpa using hd))
  · rw [settle_inputs]
    exact hall.same.2.2 rfl
  · rw [State.die, settle_dies]
    exact hall.dieSt d

/-! ### Claim (R177) -/

/-- Whether an object of key `j` takes its default when context `c` is claimed. -/
def claimResets (c j : Nat) : Bool := (j / 2 ^ 24 == c || j / 2 ^ 24 == wrapInst c) && isCtxObj (j % 2 ^ 24)

theorem objKey_div (i : Nat) {k : Nat} (hk : k < 2 ^ 24) : objKey i k / 2 ^ 24 = i ∧ objKey i k % 2 ^ 24 = k := by
  simp only [objKey]
  omega

theorem claimResets_objKey (c d : Nat) {k : Nat} (hk : k < 2 ^ 24) :
    claimResets c (objKey d k) = ((d == c || d == wrapInst c) && isCtxObj k) := by
  obtain ⟨hd, hm⟩ := objKey_div d hk
  rw [claimResets, hd, hm]

theorem resetCtxObjs_obj (s : State) (c d k : Nat) : (resetCtxObjs s c).obj d k =
    if claimResets c (objKey d k) then objDefault s.variant k else s.obj d k := by
  have hget : kvGet (resetCtxObjs s c).objs (objKey d k) = if !claimResets c (objKey d k) then kvGet s.objs (objKey d k) else none :=
    kvGet_filter (fun j => !claimResets c j) s.objs (objKey d k)
  have hvar : (resetCtxObjs s c).variant = s.variant := rfl
  rw [State.obj, hget, hvar, State.obj]
  cases claimResets c (objKey d k) with
  | true => rfl
  | false => rfl

theorem isCtxObj_lt {k : Nat} (h : isCtxObj k = true) : k < 2 ^ 24 := by
  unfold isCtxObj at h
  simp only [Bool.and_eq_true, decide_eq_true_eq] at h
  omega

/-- No object of a context is one that the end of a command sets. -/
theorem isCtxObj_free {k : Nat} (h : isCtxObj k = true) : k ∉ settleObjs := by
  intro hm
  have hall : ∀ j ∈ settleObjs, isCtxObj j = false := by decide
  exact absurd (h.symm.trans (hall k hm)) (by decide)

/-- A context as it is claimed, from core cycle `n` on. -/
def claimedAt (s : State) (p c n : Nat) : State := ((resetCtxObjs s c).setCtx c { owner := ownerOf p }).putTm c O.CTX_STATE_TM n

theorem ctxClaim_ok (hx : s.ctx c = none) : ctxClaim s p c = .ok (claimedAt s p c (s.cycle + 48)) := by
  unfold ctxClaim
  rw [need_pos s (Option.isNone_iff_eq_none.mpr hx), claimedAt]
  have hcyc : ((resetCtxObjs s c).setCtx c { owner := ownerOf p }).cycle = s.cycle := rfl
  dsimp only
  rw [hcyc]

theorem claimedAt_obj_ne (s : State) (p c n : Nat) {d k : Nat} (h1 : objKey d k ≠ objKey c O.CTX_STATE_TM)
    (h2 : objKey d k ≠ objKey (wrapInst c) O.CTX_STATE_TM) : (claimedAt s p c n).obj d k = (resetCtxObjs s c).obj d k := by
  unfold claimedAt
  rw [State.putTm_eq, State.obj_setObj_ne _ _ _ _ _ _ h2, State.obj_setObj_ne _ _ _ _ _ _ h1]
  rfl

theorem claimedAt_settled (s : State) (p c n : Nat) : let t := settle (claimedAt s.turned p c n)
    t.ctx c = some { owner := ownerOf p } ∧ t.obj c O.CTX_STATE_TM = tmOf n ∧
    (∀ k, isCtxObj k = true → k ≠ O.CTX_STATE_TM → t.obj c k = objDefault s.variant k) ∧
    (∀ d k, d ≠ c → d ≠ wrapInst c → k < 2 ^ 24 → objKey d k ∉ settleKeys → t.obj d k = s.obj d k) ∧
    CtxsBut c s t ∧ t.mem = s.mem ∧ t.inputs = s.inputs ∧ t.dies = s.dies := by
  have hctxs : (claimedAt s.turned p c n).ctxs = (s.setCtx c { owner := ownerOf p }).ctxs := by
    rw [claimedAt, State.putTm_eq, State.setObj_ctxs, State.setObj_ctxs]
    rfl
  have hsame : (claimedAt s.turned p c n).mem = s.mem ∧ (claimedAt s.turned p c n).inputs = s.inputs ∧
      (claimedAt s.turned p c n).dies = s.dies := by
    rw [claimedAt, State.putTm_eq]
    exact ⟨rfl, rfl, rfl⟩
  have htm : (claimedAt s.turned p c n).obj c O.CTX_STATE_TM = tmOf n := putTm_obj _ _ _ _
  have hobj : ∀ d k, objKey d k ≠ objKey c O.CTX_STATE_TM → objKey d k ≠ objKey (wrapInst c) O.CTX_STATE_TM →
      (claimedAt s.turned p c n).obj d k = if claimResets c (objKey d k) then objDefault s.variant k else s.obj d k := fun d k h1 h2 =>
    (claimedAt_obj_ne s.turned p c n h1 h2).trans (resetCtxObjs_obj s.turned c d k)
  generalize claimedAt s.turned p c n = w at hctxs hsame htm hobj ⊢
  obtain ⟨hmem, hinputs, hdies⟩ := hsame
  refine ⟨?_, ?_, fun k hk hne => ?_, fun d k hd hd' hk hs => ?_, ?_, ?_, ?_, ?_⟩
  · rw [ctx_settle, ctx_congr hctxs]
    exact ctx_setCtx_self s c _
  · rw [obj_settle_of _ c O.CTX_STATE_TM (by decide) (by decide)]
    exact htm
  · have hlt := isCtxObj_lt hk
    have hw : objKey c k ≠ objKey (wrapInst c) O.CTX_STATE_TM := by
      simp only [objKey, wrapInst, O.CTX_STATE_TM]
      omega
    rw [obj_settle_of w c k hlt (isCtxObj_free hk), hobj c k (objKey_ne c hne) hw, claimResets_objKey c c hlt, hk]
    rw [if_pos (by simp)]
  · have h1 : ∀ e, d ≠ e → objKey d k ≠ objKey e O.CTX_STATE_TM := fun e he hke => he (by
      rw [← (objKey_div d hk).1, hke, (objKey_div e (by decide)).1])
    have hset := (onlyObjs_refl w []).settled.2 d k List.not_mem_nil hs
    rw [hset, hobj d k (h1 c hd) (h1 _ hd'), claimResets_objKey c d hk, beq_false_of_ne hd, beq_false_of_ne hd']
    rfl
  · exact CtxsBut.settled fun d hd => (ctx_congr hctxs d).trans (ctxsBut_setCtx s c _ d hd)
  · rw [settle_mem, hmem]
  · rw [settle_inputs, hinputs]
  · rw [settle_dies, hdies]

theorem exec_ctxClaim_empty (h : Served s p) (hc : s.selected p = c) (hx : s.ctx c = none) {P : State → Prop}
    (hP : P (settle (claimedAt s.turned p c (s.cycle + 48)))) : Answers (.ctxClaim p) s P := by
  refine answers_access (by rw [exec_ctxClaim, execCtxClaim]) h (ctxPresent s) ?_ hP
  rw [show s.turned.selected p = c from hc, ctxClaim_ok (s := s.turned) hx, show s.turned.cycle = s.cycle from rfl]

theorem ctxClaim_claims (h : Served s p) (hc : s.selected p = c) (hx : s.ctx c = none) : Answers (.ctxClaim p) s fun t =>
    t.ctx c = some { owner := ownerOf p } ∧ t.obj c O.CTX_STATE_TM = tmOf (s.cycle + 48) ∧
    (∀ k, isCtxObj k = true → k ≠ O.CTX_STATE_TM → t.obj c k = objDefault s.variant k) ∧
    (∀ d k, d ≠ c → d ≠ wrapInst c → k < 2 ^ 24 → objKey d k ∉ settleKeys → t.obj d k = s.obj d k) ∧
    CtxsBut c s t ∧ t.mem = s.mem ∧ t.inputs = s.inputs ∧ t.dies = s.dies :=
  exec_ctxClaim_empty h hc hx (claimedAt_settled s p c (s.cycle + 48))

theorem ctxClaim_taken (h : Served s p) (hc : s.selected p = c) (hx : s.ctx c = some x) :
    Answers (.ctxClaim p) s fun t => Rejected s t p O.CTX_CMD 2 .presentState := by
  refine rejected_access (by rw [exec_ctxClaim, execCtxClaim]) h (ctxPresent s) ?_
  rw [show s.turned.selected p = c from hc, ctxClaim]
  exact need_neg (by rw [show s.turned.ctx c = some x from hx]; rfl) _ _

/-! ### What R177 does not allow, and O32 -/

theorem ctxFree_none (h : Served s p) (hc : s.selected p = c) (hx : s.ctx c = none) (ho : ownerOf p = s.steward) :
    Answers (.ctxFree p) s fun t => Rejected s t p O.CTX_CMD 2 .presentState := by
  refine rejected_access (exec_ctxFree_command s) h (ctxPresent s) ?_
  have hown : (ownerOf p == s.turned.ctxOwner c || (true && ownerOf p == s.turned.steward)) = true := by
    rw [show s.turned.steward = s.steward from rfl, ho]
    simp
  rw [show s.turned.selected p = c from hc, ctxCommand, need_pos s.turned hown, show s.turned.ctx c = none from hx]

theorem ctx_busy (h : Served s p) (hc : s.selected p = c) (hx : s.ctx c = some x) (ho : ownerOf p = x.owner) (hb : x.isBusy = true)
    {i : Instr} (hi : i ∈ [Instr.ctxHold p, .ctxResume p, .ctxDisarm p, .ctxFree p]) :
    Answers i s fun t => Rejected s t p O.CTX_CMD 2 .presentState := by
  simp only [List.mem_cons, List.not_mem_nil, or_false] at hi
  rcases hi with rfl | rfl | rfl | rfl
  · exact ctx_rejects (f := holdDo) h hc (exec_ctxHold_command s) hx ho (.inr hb)
  · exact ctx_rejects (f := resumeDo) h hc (exec_ctxResume_command s) hx ho (.inr hb)
  · exact ctx_rejects (f := disarmDo) h hc (exec_ctxDisarm_command s) hx ho (.inr hb)
  · exact ctx_rejects (f := freeDo) h hc (exec_ctxFree_command s) hx ho (.inr hb)

theorem ctx_stranger (h : Served s p) (hc : s.selected p = c) (hx : s.ctx c = some x) (ho : ownerOf p ≠ x.owner) {i : Instr}
    (hi : i = Instr.ctxHold p ∨ i = .ctxResume p ∨ i = .ctxDisarm p ∨ i = .ctxArm p) :
    Answers i s fun t => Rejected s t p O.CTX_CMD 2 .noPermission := by
  rcases hi with rfl | rfl | rfl | rfl
  · exact ctx_refuses (f := holdDo) h hc (exec_ctxHold_command s) hx ho (.inl rfl)
  · exact ctx_refuses (f := resumeDo) h hc (exec_ctxResume_command s) hx ho (.inl rfl)
  · exact ctx_refuses (f := disarmDo) h hc (exec_ctxDisarm_command s) hx ho (.inl rfl)
  · refine rejected_access (by rw [exec_ctxArm, execCtxArm]) h (ctxPresent s) ?_
    rw [show s.turned.selected p = c from hc, ctxArm]
    exact need_neg (by rw [ctxOwner_of (s := s.turned) hx]; exact beq_false_of_ne ho) _ _

/-- Settles O32: a command passes its owner's check and its state's, and Disarm and Free leave what `abandonWork_ctx` says of the
context and `worked_abandonWork` of the rest. -/
theorem contextCommands : Obligations.ContextCommands := by
  intro s p c h hc
  refine ⟨fun hx => ctxClaim_claims h hc hx, fun x hx => ctxClaim_taken h hc hx, fun x hx ho hb =>
    ⟨?_, ?_, ?_, ?_, ?_, ?_, ?_, ?_, ?_⟩, fun x i hx ho hb hi => ctx_busy h hc hx ho hb hi,
    fun hx ho => ctxFree_none h hc hx ho, fun x hx ho => ⟨fun i hi => ctx_stranger h hc hx ho hi, fun hs => ?_⟩⟩
  · exact fun hst => ctxHold_holds h hc hx ho hb hst
  · exact fun hst => ctxResume_resumes h hc hx ho hb hst
  · exact fun hst => ctxDisarm_suspended h hc hx ho hb hst
  · exact fun hst => ctxDisarm_disarms h hc hx ho hb hst
  · exact fun hst => ctxFree_frees h hc hx ho hb hst
  · exact fun hst ht => ctxFree_idle h hc hx ho hb hst ht
  · exact fun hst => ctx_rejects (f := holdDo) h hc (exec_ctxHold_command s) hx ho (.inl (by simpa using hst))
  · exact fun hst => ctx_rejects (f := resumeDo) h hc (exec_ctxResume_command s) hx ho (.inl (by simpa using hst))
  · exact fun hst => ctx_rejects (f := disarmDo) h hc (exec_ctxDisarm_command s) hx ho (.inl (by rw [hst]; rfl))
  · exact ctx_refuses (f := freeDo) h hc (exec_ctxFree_command s) hx ho (.inr hs)

end Sys2Proof.Machine
end

section
/-! ## An arm ends the input test of its input (R540, R588) -/

namespace Sys2Proof.Machine

variable {s t u : State} {c n h : Nat}

/-- What of the state decides which input test follows one that ends. -/
def State.testView (s : State) : List Input × Option InputTest × Option Nat × List Nat :=
  (s.inputs, s.test, s.testNext, s.testDue)

theorem takeTable_allocs (ht : takeTable s c h = some u) : u = { s with allocs := u.allocs } := by
  unfold takeTable at ht
  dsimp only at ht
  split at ht
  · rw [Option.some.injEq] at ht
    rw [← ht]
  · rw [State.take, Option.map_map, Option.map_eq_some_iff] at ht
    obtain ⟨o, -, ho⟩ := ht
    rw [← ho]
    rfl

theorem takeRing_undecimated (hd : s.cN c O.DEC_MODE = 0) : takeRing s c = some s := by
  have hneeds : s.needsRing c = false := by rw [State.needsRing, hd]; rfl
  rw [takeRing, hneeds]
  rfl

theorem cruErrs_off (hm : s.cN c O.CRU_MODE = 0) : firstErr 1 (s.cruErrs c h) = none := by
  unfold State.cruErrs
  dsimp only
  rw [if_pos hm]
  rfl

theorem assayErrs_off (hp : s.cN c O.ASSAY_PROGRAM = 0) : firstErr 1 (s.assayErrs c h) = none := by
  unfold State.assayErrs
  dsimp only
  rw [if_pos hp]
  rfl

/-- The crucible of a context that folds nothing, at its arm. -/
def crucibleOff (s : State) (c : Nat) : State :=
  (s.setObj c O.CRU_ERR 0).modCtx c fun x => { x with cru := {} }

theorem cruArm_off {x : Ctx} (hm : s.cN c O.CRU_MODE = 0) (hx : s.ctx c = some x) (hh : x.cru.handle = none) :
    cruArm s c = crucibleOff s c := by
  have hxe : (s.setObj c O.CRU_ERR 0).ctx c = some x := hx
  have hdrop : dropBuf (s.setObj c O.CRU_ERR 0) c = s.setObj c O.CRU_ERR 0 := by
    rw [dropBuf, hxe]
    dsimp only
    rw [hh]
  rw [cruArm]
  dsimp only
  rw [if_pos hm, hdrop]
  rfl

/-- The state in which an arm without crucible, assay and decimation takes its table and what it binds. -/
def armPrepared (s : State) (c : Nat) : State := s.setObj c O.CRU_PRE_MAX (ofI (s.cruPreMax c))

/-- What an arm without crucible, assay and decimation binds, with its place `al` in the table homes. -/
def armBound (s : State) (c : Nat) (b : Binding) (al : List Alloc) : State :=
  armBind (assayArm (crucibleOff { armPrepared s c with allocs := al } c) c (b.evals.headD 0 / 8)) c b

theorem cN_setObj_ne {j k : Nat} {v : Slot} (hne : objKey c k ≠ objKey c j) : (s.setObj c j v).cN c k = s.cN c k := by
  rw [State.cN, State.obj_setObj_ne _ _ _ _ _ _ hne, State.cN]

theorem cN_modCtx (f : Ctx → Ctx) (k : Nat) : (s.modCtx c f).cN c k = s.cN c k := by
  unfold State.modCtx
  split
  · rfl
  · rfl

theorem crucibleOff_cN {k : Nat} (hk : objKey c k ≠ objKey c O.CRU_ERR) : (crucibleOff s c).cN c k = s.cN c k := by
  rw [crucibleOff, cN_modCtx, State.cN, State.obj_setObj_ne _ _ _ _ _ _ hk, State.cN]

/-- An arm that binds its evaluators and is accepted ends the input test of its input. -/
theorem armTry_accepted {b : Binding} {x : Ctx} (ht : s.trigArm c = .inl b)
    (he : firstErr 1 ((armPrepared s c).armErrs c (.inl b)) = none)
    (htable : (takeTable (armPrepared s c) c (b.evals.headD 0 / 8)).isSome = true)
    (hx : s.ctx c = some x) (hh : x.cru.handle = none) (hm : (armPrepared s c).cN c O.CRU_MODE = 0)
    (hp : (armPrepared s c).cN c O.ASSAY_PROGRAM = 0) (hd : (armPrepared s c).cN c O.DEC_MODE = 0) :
    ∃ al, armTry s c = .ok (abandonTest (armBound s c b al) c) := by
  obtain ⟨v, hv⟩ := Option.isSome_iff_exists.1 htable
  have hal := takeTable_allocs hv
  generalize v.allocs = al at hal
  have hm1 : ({ armPrepared s c with allocs := al } : State).cN c O.CRU_MODE = 0 := hm
  have hd1 : ({ armPrepared s c with allocs := al } : State).cN c O.DEC_MODE = 0 := hd
  have hp1 : ({ armPrepared s c with allocs := al } : State).cN c O.ASSAY_PROGRAM = 0 := hp
  have hx1 : ({ armPrepared s c with allocs := al } : State).ctx c = some x := hx
  have hroom : ((takeTable (armPrepared s c) c (b.evals.headD 0 / 8)).bind fun s => takeRing s c) =
      some { armPrepared s c with allocs := al } := by
    rw [hv, hal]
    exact takeRing_undecimated hd1
  refine ⟨al, ?_⟩
  unfold armTry
  rw [ht]
  dsimp only
  rw [← armPrepared, he]
  dsimp only
  rw [hroom]
  dsimp only
  rw [cruErrs_off hm1]
  dsimp only
  rw [cruArm_off hm1 hx1 hh, assayErrs_off ((crucibleOff_cN (by simp [objKey, O.ASSAY_PROGRAM, O.CRU_ERR])).trans hp1)]
  rfl

theorem testView_modCtx (f : Ctx → Ctx) : (s.modCtx c f).testView = s.testView := by
  unfold State.modCtx
  split
  · rfl
  · rfl

theorem testView_take {d size k : Nat} {a : AllocKind} {r : Nat × State} (hr : s.take d size k a = some r) :
    r.2.testView = s.testView := by
  rw [State.take, Option.map_eq_some_iff] at hr
  obtain ⟨o, -, ho⟩ := hr
  rw [← ho]
  rfl

theorem testView_setObj (k j : Nat) (v : Slot) : (s.setObj k j v).testView = s.testView := rfl

theorem testView_assayArm : (assayArm s c h).testView = s.testView := by
  unfold assayArm
  dsimp only
  simp only [testView_setObj]
  have hgive : (s.give c .assay).testView = s.testView := rfl
  by_cases hslots : s.assayS c = 0
  · rw [if_pos hslots]
    exact hgive
  · rw [if_neg hslots]
    cases htake : (s.give c .assay).take h ((s.give c .assay).assayTable c) c .assay with
    | none => exact hgive
    | some r => exact (testView_take htake).trans hgive

theorem testView_armBind (b : Binding) : (armBind s c b).testView = s.testView := by
  unfold armBind
  dsimp only [List.foldl]
  rw [testView_modCtx]
  simp only [testView_setObj]

theorem testView_crucibleOff : (crucibleOff s c).testView = s.testView := by
  rw [crucibleOff, testView_modCtx, testView_setObj]

theorem testView_armBound (b : Binding) (al : List Alloc) : (armBound s c b al).testView = s.testView := by
  rw [armBound, testView_armBind, testView_assayArm, testView_crucibleOff]
  exact testView_setObj (s := s) c O.CRU_PRE_MAX (ofI (s.cruPreMax c))

theorem cN_assayArm_input (hp : s.cN c O.ASSAY_PROGRAM = 0) : (assayArm s c h).cN c O.CTX_INPUT = s.cN c O.CTX_INPUT := by
  have hslots : s.assayS c = 0 := by
    unfold State.assayS
    dsimp only
    rw [if_pos hp]
  unfold assayArm
  dsimp only
  rw [if_pos hslots, cN_setObj_ne (by simp [objKey, O.CTX_INPUT, O.ASSAY_PASS2_MAX]),
    cN_setObj_ne (by simp [objKey, O.CTX_INPUT, O.ASSAY_RECORDS]), cN_setObj_ne (by simp [objKey, O.CTX_INPUT, O.ASSAY_SLOTS]),
    cN_setObj_ne (by simp [objKey, O.CTX_INPUT, O.ASSAY_ERR])]
  rfl

theorem cN_armBind_input (b : Binding) : (armBind s c b).cN c O.CTX_INPUT = s.cN c O.CTX_INPUT := by
  unfold armBind
  dsimp only [List.foldl]
  have hne : ∀ k, k ≠ O.CTX_INPUT → objKey c O.CTX_INPUT ≠ objKey c k := fun k hk he =>
    hk (Nat.add_left_cancel he).symm
  rw [cN_modCtx, cN_setObj_ne (hne O.TRIG_MISMATCHES (by decide)), cN_setObj_ne (hne O.TRIG_FALLBACKS (by decide)),
    cN_setObj_ne (hne O.TRIG_HELD_OFF (by decide)), cN_setObj_ne (hne O.TRIG_EVENTS (by decide)),
    cN_setObj_ne (hne O.TRIG_LATENCY (by decide)), cN_setObj_ne (hne O.TRIG_ERR (by decide)),
    cN_setObj_ne (hne O.CTX_ERR (by decide))]

theorem cN_armBound_input (b : Binding) (al : List Alloc) (hp : (armPrepared s c).cN c O.ASSAY_PROGRAM = 0) :
    (armBound s c b al).cN c O.CTX_INPUT = s.cN c O.CTX_INPUT := by
  have hp1 : ({ armPrepared s c with allocs := al } : State).cN c O.ASSAY_PROGRAM = 0 := hp
  rw [armBound, cN_armBind_input, cN_assayArm_input ((crucibleOff_cN (by simp [objKey])).trans hp1), crucibleOff_cN (by simp [objKey])]
  exact cN_setObj_ne (by simp [objKey])

/-- Where the input's test ends and the next one is of a Dark input, its result is recorded at once. -/
theorem abandonTest_dark {m : Nat} (ht : s.test = some { input := n, commanded := false }) (hin : s.cN c O.CTX_INPUT = n)
    (hm : s.testNext = some m) (hd : s.testDue = []) (hdark : (s.input m).st = .dark) :
    abandonTest s c = ({ s with test := none, testNext := none } : State).put (O.PTEST_RESULT_n + m) 3 := by
  have hon : s.ctxOn c n = true := by rw [State.ctxOn, hin]; simp
  unfold abandonTest
  rw [ht]
  dsimp only
  rw [if_pos hon, nextTest_commanded (s := { s with test := none }) rfl hm hd]
  exact startTest_skipped (Or.inr (Or.inl hdark))

/-- The number of the input whose test result would stand in CTX_ERR of context 0. -/
abbrev ctxErrInput : Nat := 1888004

/-- A Defined context of an input under test, with the test of a Dark input, beyond those of the module, to follow. -/
def testedInput : State :=
  { smallReset with
    objs := (smallReset.setObj 0 O.SUBSCRIBERS_n (2 ^ 16)).objs
    ctxs := [(0, { owner := 16, st := .defined })]
    inputs := smallReset.input 0 :: List.replicate ctxErrInput { st := .dark }
    test := some { input := 0, commanded := false }
    testNext := some ctxErrInput }

theorem testedInput_dark : (testedInput.input ctxErrInput).st = .dark := by
  have hinputs : testedInput.inputs = smallReset.input 0 :: List.replicate ctxErrInput { st := .dark } := rfl
  rw [State.input, hinputs, List.getD_eq_getElem?_getD]
  have hone : ctxErrInput = 1888003 + 1 := rfl
  rw [hone, List.getElem?_cons_succ, List.getElem?_replicate, if_pos (by decide)]
  rfl

/-- What the default trigger of the context binds. -/
def plainBinding : Binding := { evals := [0], partners := [], streams := [] }

theorem testedInput_bind : testedInput.turned.trigArm 0 = .inl plainBinding := by decide +kernel

theorem testedInput_admits : firstErr 1 ((armPrepared testedInput.turned 0).armErrs 0 (.inl plainBinding)) = none := by
  decide +kernel

theorem testedInput_table : (takeTable (armPrepared testedInput.turned 0) 0 0).isSome = true := by decide +kernel

theorem ctxArm_tried {p : Nat} (ho : (ownerOf p == s.ctxOwner c) = true)
    (hn : ((s.cN c O.CTX_INPUT :: s.watched c).all fun k => s.subscribed k (ownerOf p)) = true) {x : Ctx} (hx : s.ctx c = some x)
    (hfree : ((x.st == .defined || x.st == .suspended) && !x.isBusy && s.num O.POWER_PHASE == 0 && s.dev != .watch &&
      !s.noReference) = true) : ctxArm s p c = armTry s c := by
  unfold ctxArm
  rw [need_pos s ho]
  rw [need_pos s hn]
  dsimp only
  rw [hx]
  exact need_pos s hfree _ _

theorem testedInput_arms : ∃ u : State, armTry testedInput.turned 0 = .ok u ∧ u.obj 0 O.CTX_ERR = 3 := by
  obtain ⟨al, hal⟩ := armTry_accepted testedInput_bind testedInput_admits testedInput_table (x := { owner := 16, st := .defined })
    rfl rfl (by decide +kernel) (by decide +kernel) (by decide +kernel)
  have hview := testView_armBound (s := testedInput.turned) (c := 0) plainBinding al
  have hin := cN_armBound_input (s := testedInput.turned) (c := 0) plainBinding al (by decide +kernel)
  generalize armBound testedInput.turned 0 plainBinding al = w at hal hview hin
  simp only [State.testView, Prod.mk.injEq] at hview
  obtain ⟨hinputs, htest, hnext, hdue⟩ := hview
  have hdark : (w.input ctxErrInput).st = .dark := by
    rw [State.input, hinputs]
    exact testedInput_dark
  rw [abandonTest_dark htest (hin.trans (by decide +kernel)) hnext hdue hdark] at hal
  exact ⟨_, hal, State.obj_setObj_self _ _ _ _⟩

/-- Refutes O33: an accepted arm ends the input test of the context's input, the test that follows records its result at the object
its number names, and for an input number that reaches CTX_ERR the reason is not cleared. -/
theorem not_contextChanges : ¬ Obligations.ContextChanges := by
  unfold Obligations.ContextChanges
  intro h
  obtain ⟨harm, -⟩ := h
  obtain ⟨-, -, haccept⟩ := harm testedInput 32 0 { owner := 16, st := .defined } ⟨by decide +kernel, rfl, by decide +kernel⟩
    (by decide +kernel) rfl rfl (by decide +kernel) (Or.inl rfl) rfl (by decide +kernel) (by decide +kernel) rfl
  obtain ⟨t, ht, -, herr, -⟩ := haccept plainBinding (by decide +kernel) (by decide +kernel) (by decide +kernel) rfl
    (by decide +kernel) (by decide +kernel)
  obtain ⟨u, hu, hcode⟩ := testedInput_arms
  obtain ⟨v, hv, hvcode⟩ : Answers (.ctxArm 32) testedInput fun t => t.obj 0 O.CTX_ERR = 3 := by
    refine answers_access (p := 32) (f := fun s => ctxArm s 32 (s.selected 32)) rfl ⟨by decide +kernel, rfl, by decide +kernel⟩
      (by decide +kernel) (u := u) ?_ ?_
    · have hsel : testedInput.turned.selected 32 = 0 := by decide +kernel
      rw [hsel, ctxArm_tried (by decide +kernel) (by decide +kernel) (x := { owner := 16, st := .defined }) rfl (by decide +kernel), hu]
    · exact (obj_settle_of _ 0 O.CTX_ERR (by decide) (by decide)).trans hcode
  rw [Host.Outcome.next.inj (hv.symm.trans ht), herr] at hvcode
  exact absurd hvcode (by decide)

end Sys2Proof.Machine
end

section
/-! ## Releases of held segments (R200, R215) -/

namespace Sys2Proof.Machine

variable {s t u : State} {p c q : Nat} {x y : Ctx} {K : KeepFields} {cs : List Nat}

/-! ### What a release leaves of its context -/

theorem ctxKept_sweptRings (s : State) : CtxKept Ctx.undecimated c s (sweepRings s c) := by
  unfold sweepRings
  split
  · exact ctxKept_refl _ c s
  · refine ctxKept_foldl _ _ (fun v r => ?_) s
    have hgive : CtxKept Ctx.undecimated c v (v.give c (.dec r.id)) := ctxKept_same rfl
    exact hgive.trans (ctxKept_modCtx _ fun _ => rfl)

theorem ctxKept_freedRings (s : State) : CtxKept Ctx.undecimated c s (decFreed s c) := by
  unfold decFreed
  split
  · exact ctxKept_refl _ c s
  · next x hx =>
    split
    · exact ctxKept_ite (ctxKept_setCtx hx rfl) (ctxKept_refl _ c s)
    · exact ctxKept_refl _ c s

/-- A context that holds of its table what `f` passes. -/
def Ctx.holding (x : Ctx) (f : Segment → Bool) : Ctx := { x with table := x.table.filter f }

theorem dropSegment_ctx (h : s.ctx c = some x) (q : Nat) : ∃ y, (dropSegment s c q).ctx c = some y ∧
    y.undecimated = (x.holding fun g => g.seq != q).undecimated := by
  have hmod : (s.modCtx c fun x => { x with table := x.table.filter fun g => g.seq != q }).ctx c =
      some (x.holding fun g => g.seq != q) := by
    rw [modCtx_some h]
    exact ctx_setCtx_self s c _
  exact (ctxKept_sweptRings _).trans (ctxKept_freedRings _) _ hmod

theorem undecimated_table (h : y.undecimated = x.undecimated) : y.table = x.table ∧ y.pending = x.pending :=
  ⟨(congrArg Ctx.table h :), (congrArg Ctx.pending h :)⟩

theorem releaseSegment_unknown (h : s.ctx c = some x) (hq : x.table.find? (fun g => g.seq == q) = none) : releaseSegment s c q = s := by
  rw [releaseSegment, h]
  dsimp only
  rw [hq]

theorem releaseSegment_free {g : Segment} (h : s.ctx c = some x) (hq : x.table.find? (fun g => g.seq == q) = some g) (hb : g.bursts = 0) :
    releaseSegment s c q = dropSegment s c q := by
  rw [releaseSegment, h]
  dsimp only
  rw [hq]
  exact if_pos hb

theorem releaseSegment_busy {g : Segment} (h : s.ctx c = some x) (hq : x.table.find? (fun g => g.seq == q) = some g) (hb : g.bursts ≠ 0) :
    releaseSegment s c q =
      s.setCtx c { x with table := x.table.map fun h => if h.seq = q then { h with released := true } else h } := by
  rw [releaseSegment, h]
  dsimp only
  rw [hq]
  exact if_neg hb

/-- A release of a segment without bursts takes it from its table. -/
theorem releaseSegment_ctx (h : s.ctx c = some x) (hb : ∀ g ∈ x.table, g.bursts = 0) (q : Nat) :
    ∃ y, (releaseSegment s c q).ctx c = some y ∧ y.undecimated = (x.holding fun g => g.seq != q).undecimated := by
  cases hq : x.table.find? (fun g => g.seq == q) with
  | none =>
    rw [releaseSegment_unknown h hq]
    have hall : x.table.filter (fun g => g.seq != q) = x.table := by
      rw [List.filter_eq_self]
      intro g hg
      have hne := List.find?_eq_none.mp hq g hg
      simpa using hne
    refine ⟨x, h, ?_⟩
    rw [Ctx.holding, hall]
  | some g =>
    rw [releaseSegment_free h hq (hb g (List.mem_of_find?_eq_some hq))]
    exact dropSegment_ctx h q

/-- The releases of a list of segments without bursts take them from their table. -/
theorem releaseEach_ctx (qs : List Nat) (h : s.ctx c = some x) (hb : ∀ g ∈ x.table, g.bursts = 0) :
    ∃ y, (qs.foldl (fun s q => releaseSegment s c q) s).ctx c = some y ∧
      y.undecimated = (x.holding fun g => !qs.contains g.seq).undecimated := by
  induction qs generalizing s x with
  | nil => exact ⟨x, h, by simp [Ctx.holding]⟩
  | cons q qs ih =>
    obtain ⟨y, hy, he⟩ := releaseSegment_ctx h hb q
    have htable : y.table = x.table.filter fun g => g.seq != q := (undecimated_table he).1
    obtain ⟨z, hz, hze⟩ := ih hy fun g hg => hb g (List.mem_filter.mp (htable ▸ hg)).1
    have hheld : ∀ l : List Segment, (l.filter fun g => g.seq != q).filter (fun g => !qs.contains g.seq) =
        l.filter fun g => !(q :: qs).contains g.seq := fun l => by
      rw [List.filter_filter]
      refine List.filter_congr fun g _ => ?_
      rw [List.contains_cons, Bool.not_or, Bool.and_comm]
      rfl
    refine ⟨z, hz, hze.trans ?_⟩
    have hyx : y.undecimated = (x.holding fun g => g.seq != q).undecimated := he
    calc (y.holding fun g => !qs.contains g.seq).undecimated
        = (y.undecimated.holding fun g => !qs.contains g.seq) := rfl
      _ = ((x.holding fun g => g.seq != q).undecimated.holding fun g => !qs.contains g.seq) := by rw [hyx]
      _ = (x.holding fun g => !(q :: qs).contains g.seq).undecimated :=
        congrArg (fun l => ({ x with dec := {}, table := l } : Ctx)) (hheld x.table)

/-! ### The commands of a release -/

/-- What holds of a state in which releases have taken effect on context `c`. -/
theorem released_settled {s t : State} {f : Segment → Bool} (h : Worked ⟨true, true, true⟩ [c] s.turned t)
    (hy : ∃ y, t.ctx c = some y ∧ y.undecimated = (x.holding f).undecimated) :
    (∃ y, (settle t).ctx c = some y ∧ y.table = x.table.filter f ∧ y.pending = x.pending) ∧
      CtxsBut c s (settle t) ∧ (settle t).mem = s.mem ∧ (settle t).inputs = s.inputs := by
  obtain ⟨y, hy, he⟩ := hy
  obtain ⟨htable, hpending⟩ := undecimated_table he
  refine ⟨⟨y, (ctx_settle c).trans hy, htable, hpending⟩, ?_, ?_, ?_⟩
  · exact CtxsBut.settled fun d hd => h.others d (by simpa using hd)
  · rw [settle_mem]
    exact h.same.1 rfl
  · rw [settle_inputs]
    exact h.same.2.2 rfl

theorem segReleaseSeq_present (s : State) : s.missing (O.SEG_RELEASE_SEQ / 256) (O.SEG_RELEASE_SEQ % 256) = none := rfl

theorem segReleaseUpto_present (s : State) : s.missing (O.SEG_RELEASE_UPTO / 256) (O.SEG_RELEASE_UPTO % 256) = none := rfl

theorem segReleaseAll_present (s : State) : s.missing (O.SEG_RELEASE_ALL / 256) (O.SEG_RELEASE_ALL % 256) = none := rfl

theorem held_eq (h : s.ctx c = some x) (q : Nat) : s.held c q = x.table.find? fun g => g.seq == q := by rw [State.held, h]

theorem releaseSeq_ok {v : Slot} (ho : ownerOf p = s.ctxOwner c) (hv : v.toNat < 2 ^ 32) (hh : (s.held c v.toNat).isSome = true) :
    releaseSeq s p c v = .ok (releaseSegment s c v.toNat) := by
  rw [releaseSeq, ctxOwnerOnly_pos ho]
  exact need_pos s (by rw [hh, Bool.and_true]; simpa [ObjTy.fits] using hv) _ _

theorem releaseSeq_unknown {v : Slot} (ho : ownerOf p = s.ctxOwner c) (hh : s.held c v.toNat = none) :
    releaseSeq s p c v = (s, some .range) := by
  rw [releaseSeq, ctxOwnerOnly_pos ho]
  exact need_neg (by rw [hh]; simp) _ _

theorem releaseUpto_ok {v : Slot} (ho : ownerOf p = s.ctxOwner c) (hv : v.toNat < 2 ^ 32) (hh : (s.held c v.toNat).isSome = true)
    (hx : s.ctx c = some x) :
    releaseUpto s p c v = .ok ((seqsUpto x.table v.toNat).foldl (fun s q => releaseSegment s c q) s) := by
  rw [releaseUpto, ctxOwnerOnly_pos ho, need_pos s (by rw [hh, Bool.and_true]; simpa [ObjTy.fits] using hv) _ _, hx]

theorem releaseAllWrite_ok {v : Slot} (ho : ownerOf p = s.ctxOwner c) (hv : v.toNat < 256) :
    releaseAllWrite s p c v = .ok (if v = 1 then releaseAll s c else s) := by
  rw [releaseAllWrite, ctxOwnerOnly_pos ho]
  exact need_pos s (by simpa [ObjTy.fits] using hv) _ _

theorem releaseAll_some (hx : s.ctx c = some x) :
    releaseAll s c = (x.table.map Segment.seq).foldl (fun s q => releaseSegment s c q) s := by rw [releaseAll, hx]

section

variable {v : Slot} (h : Served s p) (hc : s.selected p = c) (hx : s.ctx c = some x) (ho : ownerOf p = x.owner)
include h hc hx ho

theorem segReleaseSeq_frees {g : Segment} (hv : v.toNat < 2 ^ 32) (hg : s.held c v.toNat = some g) (hb : g.bursts = 0) :
    Answers (.segReleaseSeq p v) s fun t =>
      (∃ y, t.ctx c = some y ∧ y.table = x.table.filter (fun h => h.seq != v.toNat) ∧ y.pending = x.pending) ∧
      CtxsBut c s t ∧ t.mem = s.mem ∧ t.inputs = s.inputs := by
  have how : ownerOf p = s.turned.ctxOwner c := ho.trans (ctxOwner_of (s := s.turned) hx).symm
  have hgt : s.turned.held c v.toNat = some g := hg
  have hfind : x.table.find? (fun g => g.seq == v.toNat) = some g := (held_eq hx _).symm.trans hg
  refine answers_access (exec_segReleaseSeq s p v) h (segReleaseSeq_present s)
    (by rw [show s.turned.selected p = c from hc]; exact releaseSeq_ok how hv (by rw [hgt]; rfl)) ?_
  refine released_settled (worked_releaseSegment List.mem_cons_self _ _) ?_
  rw [releaseSegment_free (s := s.turned) hx hfind hb]
  exact dropSegment_ctx (s := s.turned) hx v.toNat

theorem segReleaseSeq_waits {g : Segment} (hv : v.toNat < 2 ^ 32) (hg : s.held c v.toNat = some g) (hb : g.bursts ≠ 0) :
    Answers (.segReleaseSeq p v) s fun t =>
      t.ctx c = some { x with table := x.table.map fun h => if h.seq = v.toNat then { h with released := true } else h } ∧
      CtxsBut c s t ∧ OnlyObjs [] { s with ctxs := t.ctxs } t := by
  have how : ownerOf p = s.turned.ctxOwner c := ho.trans (ctxOwner_of (s := s.turned) hx).symm
  have hgt : s.turned.held c v.toNat = some g := hg
  have hfind : x.table.find? (fun g => g.seq == v.toNat) = some g := (held_eq hx _).symm.trans hg
  refine answers_access (exec_segReleaseSeq s p v) h (segReleaseSeq_present s)
    (by rw [show s.turned.selected p = c from hc]; exact releaseSeq_ok how hv (by rw [hgt]; rfl)) ?_
  rw [releaseSegment_busy (s := s.turned) hx hfind hb]
  exact setCtx_settled s c _

theorem segReleaseSeq_unknown (hg : s.held c v.toNat = none) : Answers (.segReleaseSeq p v) s fun t =>
    Rejected s t p O.SEG_RELEASE_SEQ 2 .range := by
  have how : ownerOf p = s.turned.ctxOwner c := ho.trans (ctxOwner_of (s := s.turned) hx).symm
  refine rejected_access (exec_segReleaseSeq s p v) h (segReleaseSeq_present s) ?_
  rw [show s.turned.selected p = c from hc]
  exact releaseSeq_unknown (s := s.turned) how hg

theorem segReleaseUpto_frees (hv : v.toNat < 2 ^ 32) (hg : (s.held c v.toNat).isSome = true) (hb : ∀ g ∈ x.table, g.bursts = 0) :
    Answers (.segReleaseUpto p v) s fun t =>
      (∃ y, t.ctx c = some y ∧ y.table = x.table.filter (fun h => !(seqsUpto x.table v.toNat).contains h.seq) ∧
        y.pending = x.pending) ∧
      CtxsBut c s t ∧ t.mem = s.mem ∧ t.inputs = s.inputs := by
  have how : ownerOf p = s.turned.ctxOwner c := ho.trans (ctxOwner_of (s := s.turned) hx).symm
  refine answers_access (exec_segReleaseUpto s p v) h (segReleaseUpto_present s)
    (by rw [show s.turned.selected p = c from hc]; exact releaseUpto_ok (s := s.turned) how hv hg hx) ?_
  exact released_settled (worked_foldl _ _ (fun w q => worked_releaseSegment List.mem_cons_self w q) _)
    (releaseEach_ctx (s := s.turned) _ hx hb)

theorem segReleaseAll_frees (hb : ∀ g ∈ x.table, g.bursts = 0) : Answers (.segReleaseAll p 1) s fun t =>
    (∃ y, t.ctx c = some y ∧ y.table = [] ∧ y.pending = x.pending) ∧ CtxsBut c s t ∧ t.mem = s.mem ∧ t.inputs = s.inputs := by
  have how : ownerOf p = s.turned.ctxOwner c := ho.trans (ctxOwner_of (s := s.turned) hx).symm
  refine answers_access (u := releaseAll s.turned c) (exec_segReleaseAll s p 1) h (segReleaseAll_present s)
    (by rw [show s.turned.selected p = c from hc]; exact releaseAllWrite_ok (s := s.turned) how (by decide)) ?_
  have hnone : x.table.filter (fun g => !(x.table.map Segment.seq).contains g.seq) = [] := by
    rw [List.filter_eq_nil_iff]
    intro g hg
    simp only [List.contains_eq_mem, Bool.not_eq_true', decide_eq_false_iff_not, not_not]
    exact List.mem_map_of_mem hg
  have hy := releaseEach_ctx (s := s.turned) (x.table.map Segment.seq) hx hb
  rw [← releaseAll_some (s := s.turned) hx] at hy
  obtain ⟨⟨y, hy, htable, hpending⟩, hrest⟩ := released_settled (worked_releaseAll List.mem_cons_self _) hy
  exact ⟨⟨y, hy, htable.trans hnone, hpending⟩, hrest⟩

theorem segReleaseAll_ignored (hv : v.toNat < 256) (hne : v ≠ 1) : Answers (.segReleaseAll p v) s fun t => OnlyObjs [] s t := by
  have how : ownerOf p = s.turned.ctxOwner c := ho.trans (ctxOwner_of (s := s.turned) hx).symm
  refine answers_access (u := s.turned) (exec_segReleaseAll s p v) h (segReleaseAll_present s) ?_ (onlyObjs_turned []).settled
  rw [show s.turned.selected p = c from hc, releaseAllWrite_ok (s := s.turned) how hv, if_neg hne]

end

theorem segReleaseSeq_stranger (h : Served s p) (ho : ownerOf p ≠ s.ctxOwner (s.selected p)) (v : Slot) :
    Answers (.segReleaseSeq p v) s fun t => Rejected s t p O.SEG_RELEASE_SEQ 2 .noPermission :=
  rejected_access (exec_segReleaseSeq s p v) h (segReleaseSeq_present s) (ctxOwnerOnly_neg (s := s.turned) ho _)

/-! ### A release that waited for its bursts (R200) -/

theorem segmentReleaseEffective_frees {g : Segment} (hx : s.ctx c = some x) (hg : s.held c q = some g) (hr : g.released = true)
    (hb : g.bursts = 0) : Answers (.segmentReleaseEffective c q) s fun t =>
      (∃ y, t.ctx c = some y ∧ y.table = x.table.filter (fun h => h.seq != q) ∧ y.pending = x.pending) ∧
      CtxsBut c s t ∧ t.mem = s.mem ∧ t.inputs = s.inputs := by
  refine answers_done (u := dropSegment s c q) ?_ ?_
  · rw [exec_segmentReleaseEffective, execSegmentReleaseEffective, hg]
    exact congrArg done (if_pos ⟨hr, hb⟩)
  · obtain ⟨y, hy, he⟩ := dropSegment_ctx hx q
    have hw : Worked ⟨true, true, true⟩ [c] s (dropSegment s c q) := worked_dropSegment List.mem_cons_self s q
    obtain ⟨htable, hpending⟩ := undecimated_table he
    refine ⟨⟨y, (ctx_settle c).trans hy, htable, hpending⟩, ?_, ?_, ?_⟩
    · exact CtxsBut.settled fun d hd => hw.others d (by simpa using hd)
    · rw [settle_mem]
      exact hw.same.1 rfl
    · rw [settle_inputs]
      exact hw.same.2.2 rfl

theorem segmentReleaseEffective_waits {g : Segment} (hg : s.held c q = some g) (hb : g.bursts ≠ 0) :
    Answers (.segmentReleaseEffective c q) s fun t => OnlyObjs [] s t := by
  refine answers_idle ?_
  rw [exec_segmentReleaseEffective, execSegmentReleaseEffective, hg]
  exact congrArg done (if_neg fun hh => hb hh.2)

end Sys2Proof.Machine
end

section
/-! ## Segments that their event reaches and that close (R194, R195, R199, R231, R245) -/

namespace Sys2Proof.Machine

variable {s t u : State} {c tm : Nat} {x y : Ctx} {g : Segment} {ms : List Nat}

/-! ### The entry that a publication takes (R199, log 99) -/

theorem freeEntry_found (l : List Segment) :
    ((List.range (l.length + 1)).find? fun e => !(l.map Segment.entry).contains e) = some (freeEntry l) := by
  cases h : (List.range (l.length + 1)).find? fun e => !(l.map Segment.entry).contains e with
  | some e => rw [freeEntry, h, Option.getD_some]
  | none =>
    have hall : List.range (l.length + 1) ⊆ l.map Segment.entry := fun e he => by
      simpa using List.find?_eq_none.mp h e he
    have hlen := (List.subperm_of_subset List.nodup_range hall).length_le
    rw [List.length_range, List.length_map] at hlen
    omega

/-- The lowest entry that no held segment has. -/
theorem freeEntry_lowest (x : Ctx) : (∀ g ∈ x.table, g.entry ≠ freeEntry x.table) ∧
    ∀ e, e < freeEntry x.table → ∃ g ∈ x.table, g.entry = e := by
  obtain ⟨hfree, -, hlow⟩ := List.find?_range_eq_some.mp (freeEntry_found x.table)
  refine ⟨fun g hg he => ?_, fun e he => ?_⟩
  · have hmem : freeEntry x.table ∈ x.table.map Segment.entry := he ▸ List.mem_map_of_mem hg
    simp [hmem] at hfree
  · have hin := hlow e he
    simpa using hin

/-! ### A segment that closes (R194, R195) -/

theorem exec_segmentClose_complete (hx : s.ctx c = some x)
    (hg : x.pending.find? (fun h => !h.closed && h.reached && s.segComplete c h) = some g) :
    exec (.segmentClose c) s = done (closeSegment s c g false) := by
  rw [exec_segmentClose, execSegmentClose, hx]
  dsimp only
  rw [hg]

theorem segmentClose_closes (hx : s.ctx c = some x)
    (hg : x.pending.find? (fun h => !h.closed && h.reached && s.segComplete c h) = some g) :
    Answers (.segmentClose c) s fun t =>
      (∃ y, t.ctx c = some y ∧ y.nextSeq = (x.nextSeq + 1) % 2 ^ 32 ∧ y.pending.length = x.pending.length ∧
        (∃ h ∈ y.pending, h.closed = true ∧ h.cut = false ∧ h.seq = x.nextSeq ∧ h.tm = g.tm) ∧
        y.table = x.table ∧ y.st = x.st) ∧
      CtxsBut c s t ∧ t.mem = s.mem ∧ t.inputs = s.inputs := by
  refine answers_done (exec_segmentClose_complete hx hg) ?_
  obtain ⟨g', y, hg', hy, he⟩ := closeSegment_ctx hx g false
  have hw : Worked ⟨true, false, true⟩ [c] s (closeSegment s c g false) := worked_closeSegment rfl List.mem_cons_self s g false
  have hpending : y.pending = x.pending.map fun h => if h = g then g' else h := counted_pending he
  refine ⟨⟨y, (ctx_settle c).trans hy, (congrArg Ctx.nextSeq he :), ?_, ⟨g', ?_, hg'⟩, (congrArg Ctx.table he :), (congrArg Ctx.st he :)⟩,
    ?_, ?_, ?_⟩
  · rw [hpending, List.length_map]
  · rw [hpending, List.mem_map]
    exact ⟨g, List.mem_of_find?_eq_some hg, if_pos rfl⟩
  · exact CtxsBut.settled fun d hd => hw.others d (by simpa using hd)
  · rw [settle_mem]
    exact hw.same.1 rfl
  · rw [settle_inputs]
    exact hw.same.2.2 rfl

/-! ### Records that the event of a segment admits (R231, R245) -/

/-- The objects that an admission counts in. -/
abbrev admitKeys (c : Nat) : List Nat :=
  [objKey c O.CRU_SKIPPED, objKey c O.CRU_STATUS, objKey c O.ASSAY_NO_LANE, objKey c O.ASSAY_STATUS]

/-- What an admission to the crucible leaves: of the context its crucible alone changes, and that only where it is open. -/
structure CruAdmitted (s : State) (c : Nat) (x : Ctx) (t : State) : Prop where
  ctx : ∃ z, t.ctx c = some { x with cru := z } ∧ (x.cru.stAt s.now ≠ .opened → z = x.cru)
  frame : OnlyObjs (admitKeys c) { s with ctxs := t.ctxs } t
  others : CtxsBut c s t

theorem cruAdmitted_refl (h : s.ctx c = some x) : CruAdmitted s c x s :=
  ⟨⟨x.cru, h, fun _ => rfl⟩, onlyObjs_refl s _, fun _ _ => rfl⟩

theorem cruAdmit_admitted (h : s.ctx c = some x) (tm : Nat) (ms : List Nat) : CruAdmitted s c x (cruAdmit s c tm ms) := by
  have hset : ∀ z, x.cru.stAt s.now = .opened → CruAdmitted s c x (s.setCtx c { x with cru := z }) := fun z ho =>
    ⟨⟨z, ctx_setCtx_self s c _, fun hn => absurd ho hn⟩, onlyObjs_refl _ _, ctxsBut_setCtx s c _⟩
  have hskip : CruAdmitted s c x (cruSkip s c) :=
    ⟨⟨x.cru, h, fun _ => rfl⟩, ((onlyObjs_refl s (admitKeys c)).put (j := c) (k := O.CRU_SKIPPED) (by simp) _).put (j := c)
      (k := O.CRU_STATUS) (by simp) _, fun _ _ => rfl⟩
  unfold cruAdmit
  rw [h]
  dsimp only
  split
  next ho =>
    split
    · exact cruAdmitted_refl h
    · split
      · exact hset _ ho
      · exact hskip
  next => exact cruAdmitted_refl h

/-- What an admission to the assay engine leaves: one record more where a program is named. -/
structure AssayAdmitted (s : State) (c : Nat) (x : Ctx) (t : State) : Prop where
  ctx : ∃ rs, t.ctx c = some { x with assays := rs } ∧ (s.cN c O.ASSAY_PROGRAM = 0 → rs = x.assays) ∧
    (s.cN c O.ASSAY_PROGRAM ≠ 0 → rs.length = x.assays.length + 1)
  frame : OnlyObjs (admitKeys c) { s with ctxs := t.ctxs } t
  others : CtxsBut c s t

theorem assayAdmit_admitted (h : s.ctx c = some x) (tm : Nat) (ms : List Nat) : AssayAdmitted s c x (assayAdmit s c tm ms) := by
  have hadd : ∀ r : ARec, s.cN c O.ASSAY_PROGRAM ≠ 0 → AssayAdmitted s c x (s.setCtx c { x with assays := x.assays ++ [r] }) := fun r hp =>
    ⟨⟨_, ctx_setCtx_self s c _, fun h0 => absurd h0 hp, fun _ => by simp⟩, onlyObjs_refl _ _, ctxsBut_setCtx s c _⟩
  unfold assayAdmit
  rw [h]
  dsimp only
  split
  next hp => exact ⟨⟨x.assays, h, fun _ => rfl, fun hn => absurd hp hn⟩, onlyObjs_refl s _, fun _ _ => rfl⟩
  next hp =>
    split
    · exact hadd _ hp
    · obtain ⟨hctx, hframe, hothers⟩ := hadd { tm, prog := s.cN c O.ASSAY_PROGRAM, slots := s.cN c O.ASSAY_SLOTS, reason := 7 } hp
      exact ⟨hctx, (hframe.put (j := c) (k := O.ASSAY_NO_LANE) (by simp) _).put (j := c) (k := O.ASSAY_STATUS) (by simp) _, hothers⟩

/-- A context whose segment `g` its event has reached. -/
def Ctx.reachedBy (x : Ctx) (g : Segment) : Ctx :=
  { x with pending := x.pending.map fun h => if h = g then { g with reached := true } else h }

/-- The state in which the event of `g` reaches context `c`, before its records are admitted. -/
def eventReached (s : State) (c : Nat) (x : Ctx) (g : Segment) (n : Nat) : State := (s.runTo n).setCtx c (x.reachedBy g)

theorem exec_eventReachesContext_reached (hx : s.ctx c = some x) (hg : x.pending.find? (fun h => !h.reached) = some g) :
    ∃ n ms, exec (.eventReachesContext c) s = done (assayAdmit (cruAdmit (eventReached s c x g n) c g.tm ms) c g.tm ms) := by
  refine ⟨g.tm / 480 + g.lat * 48, (eventReached s c x g (g.tm / 480 + g.lat * 48)).itemDies c { g with reached := true }, ?_⟩
  rw [exec_eventReachesContext, execEventReachesContext, hx]
  dsimp only
  rw [hg]
  rfl

/-- What stays of a state in which the event of a segment reaches its context. -/
structure Reached (s : State) (c n : Nat) (t : State) : Prop where
  others : CtxsBut c s t
  mem : t.mem = s.mem
  inputs : t.inputs = s.inputs
  dies : t.dies = s.dies
  now : t.now = (s.runTo n).now

theorem Reached.admitted {n : Nat} (h : Reached s c n t) (hf : OnlyObjs (admitKeys c) { t with ctxs := u.ctxs } u) (ho : CtxsBut c t u) :
    Reached s c n u where
  others := h.others.trans ho
  mem := ((congrArg State.mem hf.1 :) : u.mem = t.mem).trans h.mem
  inputs := ((congrArg State.inputs hf.1 :) : u.inputs = t.inputs).trans h.inputs
  dies := ((congrArg State.dies hf.1 :) : u.dies = t.dies).trans h.dies
  now := (now_congr (congrArg State.counter hf.1 :) (congrArg State.wraps hf.1 :)).trans h.now

theorem reached_eventReached (s : State) (c n : Nat) (x : Ctx) (g : Segment) : Reached s c n (eventReached s c x g n) where
  others := (ctxsBut_congr (runTo_ctxs s n) c).trans (ctxsBut_setCtx _ c _)
  mem := runTo_mem s n
  inputs := runTo_inputs s n
  dies := runTo_dies s n
  now := rfl

theorem eventReachesContext_reaches (hx : s.ctx c = some x) (hg : x.pending.find? (fun h => !h.reached) = some g) :
    Answers (.eventReachesContext c) s fun t =>
      (∃ y, t.ctx c = some y ∧ y.pending = x.pending.map (fun h => if h = g then { g with reached := true } else h) ∧
        (s.cN c O.ASSAY_PROGRAM = 0 → y.assays = x.assays) ∧
        (s.cN c O.ASSAY_PROGRAM ≠ 0 → y.assays.length = x.assays.length + 1) ∧
        (x.cru.stAt t.now ≠ .opened → y.cru = x.cru) ∧ y.table = x.table ∧ y.st = x.st) ∧
      CtxsBut c s t ∧ t.mem = s.mem ∧ t.inputs = s.inputs ∧ t.dies = s.dies := by
  obtain ⟨n, ms, hexec⟩ := exec_eventReachesContext_reached hx hg
  refine answers_done hexec ?_
  have hbegun := reached_eventReached s c n x g
  have hself : (eventReached s c x g n).ctx c = some (x.reachedBy g) := ctx_setCtx_self _ c _
  have hprog : (eventReached s c x g n).cN c O.ASSAY_PROGRAM = s.cN c O.ASSAY_PROGRAM :=
    congrArg BitVec.toNat (obj_runTo s n c O.ASSAY_PROGRAM (by decide) (by decide))
  generalize eventReached s c x g n = v at hbegun hself hprog ⊢
  obtain ⟨⟨z, hz, hcru⟩, hf1, ho1⟩ := cruAdmit_admitted hself g.tm ms
  have hprog1 : (cruAdmit v c g.tm ms).cN c O.ASSAY_PROGRAM = v.cN c O.ASSAY_PROGRAM :=
    congrArg BitVec.toNat (hf1.2 c O.ASSAY_PROGRAM (by simp [objKey]) (objKey_settle c _ (by decide) (by decide)))
  have hr1 := hbegun.admitted hf1 ho1
  generalize cruAdmit v c g.tm ms = w at hz hf1 ho1 hprog1 hr1 ⊢
  obtain ⟨⟨rs, hrs, hoff, hon⟩, hf2, ho2⟩ := assayAdmit_admitted hz g.tm ms
  have hr2 := hr1.admitted hf2 ho2
  generalize assayAdmit w c g.tm ms = u at hrs hf2 ho2 hr2 ⊢
  rw [hprog1, hprog] at hoff hon
  have hnow : (settle u).now = v.now := by
    rw [now_congr (settle_counter u) (settle_wraps u), hr2.now, hbegun.now]
  refine ⟨⟨_, (ctx_settle c).trans hrs, rfl, hoff, hon, ?_, rfl, rfl⟩, hr2.others.settled, ?_, ?_, ?_⟩
  · rw [hnow]
    exact hcru
  · rw [settle_mem]
    exact hr2.mem
  · rw [settle_inputs]
    exact hr2.inputs
  · rw [settle_dies]
    exact hr2.dies

end Sys2Proof.Machine
end

section
/-! ## Stores of whole units (R295, R301, R302) -/

namespace Sys2Proof.Machine

variable {s t u : State} {a b d n : Nat} {as bs R R' : List Nat} {ws : List Byte}

/-! ### What stores leave of the controllers -/

/-- What of a half's controller decides where its units stand and which are lost, but for the written-map. -/
def HalfCtl.fixed (h : HalfCtl) : Option Nat × Bool × List Nat := (h.spared, h.copying, h.failed)

/-- Whether the unit of address `a` stands where writes of it go to. -/
def State.Placed (s : State) (a : Nat) : Prop := s.copiesFirst (a / halfBytes) (a % halfBytes / 64) = false

/-- Between `s` and `t` the units of the addresses `as` have been written, each where it stands in `t`, and no other memory. -/
structure MemStep (as : List Nat) (s t : State) : Prop where
  fixed : ∀ d, (t.half d).fixed = (s.half d).fixed
  written : ∀ d, ∀ n ∈ (s.half d).written, n ∈ (t.half d).written
  stack : ∀ i, (t.stack i).st = (s.stack i).st
  placed : ∀ a ∈ as, t.Placed a
  mem : ∀ b, (∀ a ∈ as, b / 64 ≠ t.phys a / 64) → Memory.read t.mem b = Memory.read s.mem b

theorem MemStep.target (h : MemStep as s t) (d n : Nat) : t.target d n = s.target d n := by
  have hspared : (t.half d).spared = (s.half d).spared := (congrArg Prod.fst (h.fixed d) :)
  unfold State.target HalfCtl.writeUnit
  rw [hspared]

theorem MemStep.copiesFirst (h : MemStep as s t) (hc : s.copiesFirst d n = false) : t.copiesFirst d n = false := by
  have hcopying : (t.half d).copying = (s.half d).copying := (congrArg (fun q => q.2.1) (h.fixed d) :)
  unfold State.copiesFirst at hc ⊢
  rw [h.target]
  by_cases ht : decide (s.target d n ≠ n) = true
  · rw [ht, Bool.and_true] at hc ⊢
    unfold HalfCtl.uncopied at hc ⊢
    rw [hcopying]
    cases hq : (s.half d).copying with
    | false => rfl
    | true =>
      rw [hq, Bool.true_and, Bool.not_eq_false', List.contains_iff_mem] at hc
      rw [Bool.true_and, Bool.not_eq_false', List.contains_iff_mem]
      exact h.written d n hc
  · rw [Bool.not_eq_true] at ht
    rw [ht, Bool.and_false]

theorem MemStep.placed_of (h : MemStep as s t) (hp : s.Placed a) : t.Placed a := h.copiesFirst hp

/-- A unit that stands where writes of it go to stays there. -/
theorem MemStep.phys (h : MemStep as s t) (hp : s.Placed a) : t.phys a = s.phys a := by
  rw [phys_sameUnit t rfl, phys_sameUnit s rfl, physUnit_direct (h.copiesFirst hp), physUnit_direct hp, h.target]

theorem MemStep.lostUnit (h : MemStep as s t) (a : Nat) : t.lostUnit a = s.lostUnit a := by
  have hfailed : ∀ d, (t.half d).failed = (s.half d).failed := fun d => (congrArg (fun q => q.2.2) (h.fixed d) :)
  have htarget : ∀ d n, (t.half d).writeUnit n = (s.half d).writeUnit n := h.target
  unfold State.lostUnit
  dsimp only
  rw [hfailed, htarget, h.stack]

theorem memStep_same (hh : t.halves = s.halves) (hk : t.hbm = s.hbm) (hm : t.mem = s.mem) : MemStep [] s t where
  fixed d := by rw [State.half, State.half, hh]
  written d n hn := by rwa [State.half, hh]
  stack i := by rw [State.stack, State.stack, hk]
  placed _ ha := absurd ha List.not_mem_nil
  mem _ _ := by rw [hm]

theorem MemStep.trans (h : MemStep as s t) (h' : MemStep bs t u) : MemStep (as ++ bs) s u where
  fixed d := (h'.fixed d).trans (h.fixed d)
  written d n hn := h'.written d n (h.written d n hn)
  stack i := (h'.stack i).trans (h.stack i)
  placed a ha := (List.mem_append.mp ha).elim (fun hm => h'.placed_of (h.placed a hm)) (h'.placed a)
  mem b hb := by
    refine (h'.mem b fun a ha => hb a (List.mem_append_right as ha)).trans (h.mem b fun a ha => ?_)
    rw [← h'.phys (h.placed a ha)]
    exact hb a (List.mem_append_left bs ha)

/-- Between `s` and `t` units of some of the addresses `R` have been written and no other memory. -/
def StoresIn (R : List Nat) (s t : State) : Prop := ∃ as, (∀ a ∈ as, a ∈ R) ∧ MemStep as s t

theorem storesIn_same (hh : t.halves = s.halves) (hk : t.hbm = s.hbm) (hm : t.mem = s.mem) : StoresIn R s t :=
  ⟨[], fun _ ha => absurd ha List.not_mem_nil, memStep_same hh hk hm⟩

theorem StoresIn.trans (h : StoresIn R s t) (h' : StoresIn R t u) : StoresIn R s u := by
  obtain ⟨as, has, hs⟩ := h
  obtain ⟨bs, hbs, ht⟩ := h'
  exact ⟨as ++ bs, fun a ha => (List.mem_append.mp ha).elim (has a) (hbs a), hs.trans ht⟩

theorem StoresIn.mono (h : StoresIn R s t) (hR : ∀ a ∈ R, a ∈ R') : StoresIn R' s t := by
  obtain ⟨as, has, hs⟩ := h
  exact ⟨as, fun a ha => hR a (has a ha), hs⟩

/-- Memory beside the units of the addresses is as before. -/
theorem StoresIn.memBut (h : StoresIn R s t) (hR : ∀ a ∈ R, a % 64 = 0) : MemBut (R.map fun a => (a, 64)) s t := by
  obtain ⟨as, has, hs⟩ := h
  intro b hb
  refine hs.mem b fun a ha => ?_
  have haway := hb (a, 64) (List.mem_map_of_mem (f := fun a => (a, 64)) (has a ha))
  have hmod := phys_mod t a
  rw [hR a (has a ha)] at hmod
  dsimp only at haway
  omega

/-! ### A store of one unit -/

theorem memStep_setHalf {h : HalfCtl} (hf : h.fixed = (s.half d).fixed) (hw : ∀ n ∈ (s.half d).written, n ∈ h.written) :
    MemStep [] s (s.setHalf d h) where
  fixed := half_setHalf_field HalfCtl.fixed hf
  written e n hn := by
    rw [half_setHalf]
    split
    next he => exact hw n (he.1 ▸ hn)
    next => exact hn
  stack _ := rfl
  placed _ ha := absurd ha List.not_mem_nil
  mem _ _ := rfl

theorem memStep_wakePc (s : State) (d n : Nat) : MemStep [] s (wakePc s d n) := by
  unfold wakePc exitSelfRefresh holdSteps
  split
  · dsimp only
    split
    · have hstack : MemStep [] s (s.setStack (d / 2) { s.stack (d / 2) with
          selfRefresh := (s.stack (d / 2)).selfRefresh.erase (chanOf d n) }) :=
        ⟨fun _ => rfl, fun _ _ h => h, (awoken_setStack s _ _).stack, fun _ ha => absurd ha List.not_mem_nil, fun _ _ => rfl⟩
      exact hstack.trans (memStep_setHalf rfl fun _ h => h)
    · exact memStep_same rfl rfl rfl
  · exact memStep_same rfl rfl rfl

theorem copiesFirst_length (h : s.copiesFirst d n = true) : d < s.halves.length := by
  by_contra hd
  have hnone : s.half d = {} := by
    rw [State.half, List.getD_eq_getElem?_getD, List.getElem?_eq_none (Nat.le_of_not_lt hd), Option.getD_none]
  rw [State.copiesFirst, hnone] at h
  exact absurd h (by simp [HalfCtl.uncopied])

theorem memStep_markWritten (s : State) (a : Nat) : MemStep [a] s (markWritten s (a / halfBytes) (a % halfBytes / 64)) := by
  have helse := (markWritten_marked s a).elsewhere
  rw [markWritten_eq] at helse ⊢
  by_cases h : s.copiesFirst (a / halfBytes) (a % halfBytes / 64) = true
  · rw [if_pos h] at helse ⊢
    have hhalf : ∀ e, (marked s (a / halfBytes) (a % halfBytes / 64)).half e =
        if e = a / halfBytes ∧ a / halfBytes < s.halves.length then
          { s.half (a / halfBytes) with written := a % halfBytes / 64 :: (s.half (a / halfBytes)).written } else s.half e := fun e => by
      rw [marked, half_setHalf]
      rfl
    refine ⟨fun e => ?_, fun e m hm => ?_, fun _ => rfl, fun q hq => ?_, fun b hb => helse b (hb a (List.mem_singleton_self a))⟩
    · rw [hhalf]
      split
      next he => rw [he.1]; rfl
      next => rfl
    · rw [hhalf]
      split
      next he => exact List.mem_cons_of_mem _ (he.1 ▸ hm)
      next => exact hm
    · rw [List.mem_singleton.mp hq, State.Placed, State.copiesFirst, hhalf, if_pos ⟨rfl, copiesFirst_length h⟩]
      simp [HalfCtl.uncopied]
  · rw [if_neg h] at helse ⊢
    refine ⟨fun _ => rfl, fun _ _ hm => hm, fun _ => rfl, fun q hq => ?_, fun _ _ => rfl⟩
    rw [List.mem_singleton.mp hq]
    exact Bool.eq_false_of_not_eq_true h

theorem memStep_unpoison (s : State) (a : Nat) : MemStep [] s (unpoison s a) := by
  unfold unpoison
  dsimp only
  split
  · exact memStep_setHalf rfl fun _ h => h
  · exact memStep_same rfl rfl rfl

theorem memStep_rtServed (s : State) (d n : Nat) : MemStep [] s (rtServed s d n) := by
  unfold rtServed
  split
  · exact memStep_setHalf rfl fun _ h => h
  · exact memStep_same rfl rfl rfl

/-- A whole unit written where it stands. -/
theorem memStep_write (hp : s.Placed a) (ha : a % 64 = 0) (hw : ws.length = 64) :
    MemStep [a] s { s with mem := Memory.writeN s.mem (s.phys a) ws } where
  fixed _ := rfl
  written _ _ h := h
  stack _ := rfl
  placed q hq := by
    rw [List.mem_singleton.mp hq]
    exact hp
  mem b hb := by
    have haway := hb a (List.mem_singleton_self a)
    rw [phys_withMem] at haway
    have hmod := phys_mod s a
    refine Memory.read_writeN_ne _ _ _ _ ?_
    rw [hw]
    omega

theorem storePart_unit (hl : s.lostUnit a = false) (hw : ws.length = 64) : storePart s (a, ws) =
    (let w := markWritten (wakePc s (a / halfBytes) (unitPc (s.target (a / halfBytes) (a % halfBytes / 64)))) (a / halfBytes)
      (a % halfBytes / 64)
    unpoison { w with mem := Memory.writeN w.mem (w.phys a) ws } a) := by
  unfold storePart
  dsimp only
  rw [if_neg (by rw [hl]; decide), if_pos hw]
  rfl

theorem storePart_lost (hl : s.lostUnit a = true) : storePart s (a, ws) = s := by
  unfold storePart
  exact if_pos hl

/-- What a store of a whole unit leaves. -/
theorem memStep_storePart (hl : s.lostUnit a = false) (ha : a % 64 = 0) (hw : ws.length = 64) :
    MemStep [a] s (storePart s (a, ws)) ∧ (storePart s (a, ws)).peekN a 64 = ws := by
  rw [storePart_unit hl hw]
  dsimp only
  have hwake := memStep_wakePc s (a / halfBytes) (unitPc (s.target (a / halfBytes) (a % halfBytes / 64)))
  generalize wakePc s (a / halfBytes) (unitPc (s.target (a / halfBytes) (a % halfBytes / 64))) = v at hwake ⊢
  have hmark := hwake.trans (memStep_markWritten v a)
  generalize markWritten v (a / halfBytes) (a % halfBytes / 64) = w at hmark ⊢
  have hp : w.Placed a := hmark.placed a (List.mem_singleton_self a)
  have hwrite := memStep_write hp ha hw
  have hphys : ({ w with mem := Memory.writeN w.mem (w.phys a) ws } : State).phys a = w.phys a := phys_withMem w _ a
  have hmem : Memory.readN ({ w with mem := Memory.writeN w.mem (w.phys a) ws } : State).mem (w.phys a) 64 = ws := by
    rw [← hw]
    exact Memory.readN_writeN ws w.mem (w.phys a)
  generalize ({ w with mem := Memory.writeN w.mem (w.phys a) ws } : State) = x at hwrite hphys hmem ⊢
  have hun := memStep_unpoison x a
  have hpx : x.Placed a := hwrite.placed a (List.mem_singleton_self a)
  have hxm : (unpoison x a).mem = x.mem := (worked_unpoison (K := ⟨true, true, true⟩) (cs := []) x a).same.1 rfl
  have hall := (hmark.trans hwrite).trans hun
  refine ⟨⟨hall.fixed, hall.written, hall.stack, fun q hq => hall.placed q (by simpa using hq), fun b hb => hall.mem b fun q hq => hb q
    (by simpa using hq)⟩, ?_⟩
  rw [State.peekN, hun.phys hpx, hphys, hxm, hmem]

theorem store_unit (ha : a % 64 = 0) (hw : ws.length = 64) :
    s.store a ws = rtServed (storePart s (a, ws)) (a / halfBytes)
      (unitPc ((s.half (a / halfBytes)).writeUnit (a % halfBytes / 64))) := by
  have hparts : unitParts (ws.length / 64 + 2) a ws = [(a, ws)] := by
    have hne : ws.isEmpty = false := by
      cases ws with
      | nil => exact absurd hw (by decide)
      | cons => rfl
    have htake : 64 - a % 64 = 64 := by omega
    rw [hw, show 64 / 64 + 2 = 2 + 1 from rfl, unitParts, hne]
    dsimp only
    rw [htake, List.take_of_length_le (Nat.le_of_eq hw), List.drop_eq_nil_of_le (Nat.le_of_eq hw)]
    rfl
  unfold State.store
  rw [hparts]
  rfl

theorem store_lost (hl : s.lostUnit a = true) (ha : a % 64 = 0) (hw : ws.length = 64) : MemStep [] s (s.store a ws) := by
  rw [store_unit ha hw, storePart_lost hl]
  exact memStep_rtServed _ _ _

theorem store_stored (hl : s.lostUnit a = false) (ha : a % 64 = 0) (hw : ws.length = 64) :
    MemStep [a] s (s.store a ws) ∧ (s.store a ws).peekN a 64 = ws := by
  rw [store_unit ha hw]
  obtain ⟨hstep, hpeek⟩ := memStep_storePart hl ha hw
  have hp := hstep.placed a (List.mem_singleton_self a)
  generalize storePart s (a, ws) = x at hstep hpeek hp ⊢
  have hrt := memStep_rtServed x (a / halfBytes) (unitPc ((s.half (a / halfBytes)).writeUnit (a % halfBytes / 64)))
  have hmem : (rtServed x (a / halfBytes) (unitPc ((s.half (a / halfBytes)).writeUnit (a % halfBytes / 64)))).mem = x.mem :=
    (worked_rtServed (K := ⟨true, true, true⟩) (cs := []) x _ _).same.1 rfl
  refine ⟨hstep.trans hrt, ?_⟩
  rw [State.peekN, hrt.phys hp, hmem]
  exact hpeek

theorem storesIn_store (ha : a % 64 = 0) (hw : ws.length = 64) (hR : a ∈ R) : StoresIn R s (s.store a ws) := by
  cases hl : s.lostUnit a with
  | true => exact ⟨[], fun _ h => absurd h List.not_mem_nil, store_lost hl ha hw⟩
  | false => exact ⟨[a], fun b hb => List.mem_singleton.mp hb ▸ hR, (store_stored hl ha hw).1⟩

/-! ### Entries of a segment table (R196, R199) -/

theorem descriptor_length (c : Nat) (g : Segment) : (descriptor c g).length = 64 := by
  simp only [descriptor, recordBytes, List.length_append, leBytes_length]

/-- The address of a segment's entry in the table of its context, where that is placed. -/
def State.entryList (s : State) (c : Nat) (g : Segment) : List Nat := (s.entryAddr c .table g 64).toList

theorem entryRange_eq (s : State) (c : Nat) (g : Segment) : s.entryRange c g = (s.entryList c g).map fun a => (a, 64) := rfl

theorem entryList_aligned (h : s.TablesAligned) {c : Nat} {g : Segment} : ∀ a ∈ s.entryList c g, a % 64 = 0 := by
  intro a ha
  rw [State.entryList, Option.mem_toList, State.entryAddr, Option.map_eq_some_iff] at ha
  obtain ⟨q, hq, rfl⟩ := ha
  have hkind := List.find?_some hq
  have hk : q.kind = .table := by
    rw [Bool.and_eq_true] at hkind
    exact beq_iff_eq.mp hkind.2
  have halign := h q (List.mem_of_find?_eq_some hq) hk
  simp only [capAddr, halfBytes]
  omega

/-- A descriptor is written in its entry alone. -/
theorem storesIn_putDescriptor (h : s.TablesAligned) (c : Nat) (g : Segment) : StoresIn (s.entryList c g) s (putDescriptor s c g) := by
  have halign := entryList_aligned h (c := c) (g := g)
  unfold putDescriptor putEntry
  unfold State.entryList at halign ⊢
  cases ha : s.entryAddr c .table g 64 with
  | none => exact storesIn_same rfl rfl rfl
  | some a =>
    rw [ha] at halign
    exact storesIn_store (halign a (by simp)) (descriptor_length c g) (by simp)

end Sys2Proof.Machine
end

section
/-! ## Publication (R195, R199, R245), and O34 -/

namespace Sys2Proof.Machine

variable {s t u v w : State} {c : Nat} {x y : Ctx} {g : Segment}

/-! ### The assay of a published segment (R245, R249) -/

/-- What the start of a record's assay leaves: of the context its records alone change, of the objects ASSAY_STATUS. -/
structure AssayBegun (c : Nat) (s t : State) : Prop where
  frame : OnlyObjs [objKey c O.ASSAY_STATUS] { s with ctxs := t.ctxs } t
  kept : CtxKept Ctx.unrecorded c s t
  others : CtxsBut c s t

theorem assayBegun_of (hf : OnlyObjs [objKey c O.ASSAY_STATUS] s t) : AssayBegun c s t := by
  have hctxs : t.ctxs = s.ctxs := (congrArg State.ctxs hf.1 :)
  refine ⟨?_, ctxKept_same (ctx_congr hctxs c), ctxsBut_congr hctxs c⟩
  rw [hctxs]
  exact hf

theorem AssayBegun.trans (h : AssayBegun c s t) (h' : AssayBegun c t u) : AssayBegun c s u := by
  have hs : OnlyObjs [objKey c O.ASSAY_STATUS] { s with ctxs := u.ctxs } { t with ctxs := u.ctxs } :=
    ⟨congrArg (fun b : State => { b with ctxs := u.ctxs }) h.frame.1, h.frame.2⟩
  exact ⟨hs.trans h'.frame, h.kept.trans h'.kept, h.others.trans h'.others⟩

theorem assayBegun_modARec (s : State) (tm : Nat) (f : ARec → ARec) : AssayBegun c s (modARec s c tm f) := by
  unfold modARec State.modCtx
  split
  next x hx => exact ⟨onlyObjs_refl _ _, ctxKept_setCtx hx rfl, ctxsBut_setCtx s c _⟩
  next => exact assayBegun_of (onlyObjs_refl s _)

theorem onlyObjs_putRes (l : List (Nat × MRes)) (a : State × List (Nat × Bool × Slot)) : OnlyObjs [] a.1 (l.foldl putRes a).1 := by
  induction l generalizing a with
  | nil => exact onlyObjs_refl _ _
  | cons q l ih =>
    have hone : OnlyObjs [] a.1 (putRes a q).1 := by
      unfold putRes
      split
      · exact onlyObjs_refl _ _
      · exact onlyObjs_refl _ _
      · exact onlyObjs_congr _ rfl rfl rfl
    exact hone.trans (ih _)

theorem assayBegun_flag (b : Bool) (k : Nat) (s : State) : AssayBegun c s (if b = true then s.flag c O.ASSAY_STATUS k else s) := by
  split
  · exact assayBegun_of ((onlyObjs_refl s _).put (j := c) (k := O.ASSAY_STATUS) (by simp) _)
  · exact assayBegun_of (onlyObjs_refl s _)

theorem assayBegun_runStandard (s : State) (r : ARec) : AssayBegun c s (runStandard s c r) := by
  unfold runStandard
  dsimp only
  have hres := onlyObjs_putRes ((List.range ((s.measList c).flatMap (s.measIn c r).code).length).zip
    ((s.measList c).flatMap (s.measIn c r).code)) (s, [])
  generalize ((List.range ((s.measList c).flatMap (s.measIn c r).code).length).zip
    ((s.measList c).flatMap (s.measIn c r).code)).foldl putRes (s, []) = q at hres ⊢
  exact (((assayBegun_of (hres.mono fun _ h => absurd h List.not_mem_nil)).trans (assayBegun_flag _ 4 _)).trans
    ((assayBegun_flag _ 5 _).trans (assayBegun_flag _ 6 _))).trans (assayBegun_modARec _ _ _)

theorem assayBegun_assayStart (s : State) (g : Segment) : AssayBegun c s (assayStart s c g) := by
  unfold assayStart
  split
  · exact assayBegun_of (onlyObjs_refl s _)
  · split
    · exact assayBegun_of (onlyObjs_refl s _)
    · dsimp only
      split
      · exact assayBegun_modARec s _ _
      · split
        · exact (assayBegun_flag _ 7 s).trans ((assayBegun_modARec _ _ _).trans (assayBegun_runStandard _ _))
        · exact (assayBegun_flag _ 7 s).trans (assayBegun_modARec _ _ _)

/-! ### What a publication leaves (R195, R199) -/

/-- The objects that a publication writes. -/
abbrev publishKeys (c : Nat) : List Nat :=
  [objKey c O.SEG_NEWEST_SEQ, objKey c O.SEG_CLOSED, objKey c O.CTX_STATUS]

/-- The segment as the table of its context holds it. -/
def Segment.entered (g : Segment) (x : Ctx) : Segment := { g with entry := freeEntry x.table }

/-- A context that has published segment `g`. -/
def Ctx.published (x : Ctx) (g : Segment) : Ctx := { x with pending := x.pending.erase g, table := x.table ++ [g.entered x] }

/-- The state in which segment `g` stands in the table of its context, with its descriptor written. -/
def describedIn (s : State) (c : Nat) (x : Ctx) (g : Segment) : State :=
  putDescriptor (({ s with turn := (c + 1) % 4096 } : State).setCtx c (x.published g)) c (g.entered x)

/-- The objects of a publication set, and its event pulsed. -/
def announced (s : State) (c : Nat) (g : Segment) : State :=
  pulse (((s.setObj c O.SEG_NEWEST_SEQ (ofN g.seq)).countWrap c O.SEG_CLOSED 64).flag c O.CTX_STATUS 0) 1 1 c

/-- The end of a publication that filled the last entry under Stop (R199). -/
def tableStopped (s : State) (c : Nat) (x : Ctx) : State :=
  if x.tableFull = true ∧ x.pending = [] then
    if x.st = .armed ∧ (!x.stopMet) = true ∧ x.busy = none then enterCtx (s.flag c O.CTX_STATUS 6) c .held
    else s.flag c O.CTX_STATUS 6
  else s

theorem publish_eq (hx : s.ctx c = some x) (hg : x.pending.find? Segment.closed = some g)
    (hy : (assayStart (announced (describedIn s c x g) c g) c g).ctx c = some y) :
    publish s c = tableStopped (assayStart (announced (describedIn s c x g) c g) c g) c y := by
  unfold publish
  rw [hx]
  dsimp only
  rw [hg]
  dsimp only
  rw [describedIn, announced, Ctx.published, Segment.entered] at hy
  rw [hy]
  rfl

theorem onlyObjs_announced (s : State) (c : Nat) (g : Segment) : OnlyObjs (publishKeys c) s (announced s c g) :=
  OnlyObjs.pulsed ((((onlyObjs_refl s _).put (j := c) (k := O.SEG_NEWEST_SEQ) (by simp) _).put (j := c) (k := O.SEG_CLOSED) (by simp) _).put
    (j := c) (k := O.CTX_STATUS) (by simp) _) 1 1 c

theorem announced_obj (s : State) (c : Nat) (g : Segment) :
    (announced s c g).obj c O.SEG_NEWEST_SEQ = ofN g.seq ∧
    (announced s c g).obj c O.SEG_CLOSED = ofN (((s.obj c O.SEG_CLOSED).toNat + 1) % 2 ^ 64) ∧
    bit ((announced s c g).obj c O.CTX_STATUS) 0 = true := by
  have hne : ∀ j k, j ≠ k → objKey c j ≠ objKey c k := fun j k hjk he => hjk (Nat.add_left_cancel he)
  unfold announced
  rw [State.flag_eq]
  refine ⟨?_, ?_, ?_⟩
  · rw [obj_pulse_of _ _ _ _ c _ (by decide) (by decide), State.obj_setObj_ne _ _ _ _ _ _ (hne _ _ (by decide)), State.countWrap,
      State.obj_setObj_ne _ _ _ _ _ _ (hne _ _ (by decide))]
    exact State.obj_setObj_self _ _ _ _
  · rw [obj_pulse_of _ _ _ _ c _ (by decide) (by decide), State.obj_setObj_ne _ _ _ _ _ _ (hne _ _ (by decide)), State.countWrap,
      State.obj_setObj_self, State.obj_setObj_ne _ _ _ _ _ _ (hne _ _ (by decide))]
  · rw [obj_pulse_of _ _ _ _ c _ (by decide) (by decide), State.obj_setObj_self]
    exact bit_setBit_self _ (by decide)

/-- What holds once segment `g` of context `c` is published, but for the state of the context. -/
structure PublishedIn (s : State) (c : Nat) (x : Ctx) (g : Segment) (t : State) : Prop where
  newest : t.obj c O.SEG_NEWEST_SEQ = ofN g.seq
  closed : t.obj c O.SEG_CLOSED = ofN (((s.obj c O.SEG_CLOSED).toNat + 1) % 2 ^ 64)
  reported : bit (t.obj c O.CTX_STATUS) 0 = true
  turn : t.turn = (c + 1) % 4096
  others : CtxsBut c s t
  inputs : t.inputs = s.inputs
  dies : t.dies = s.dies
  stores : s.TablesAligned → StoresIn (s.entryList c (g.entered x)) s t

/-- A step that leaves all that a publication has set. -/
structure Beyond (c : Nat) (s t : State) : Prop where
  frame : OnlyObjs [objKey c O.ASSAY_STATUS, objKey c O.CTX_STATUS, objKey c O.CTX_STATE_TM, objKey (wrapInst c) O.CTX_STATE_TM]
    { s with ctxs := t.ctxs } t
  others : CtxsBut c s t
  bits : bit (s.obj c O.CTX_STATUS) 0 = true → bit (t.obj c O.CTX_STATUS) 0 = true

theorem PublishedIn.beyond (h : PublishedIn s c x g t) (h' : Beyond c t u) : PublishedIn s c x g u := by
  have hkeys : ∀ k, k < 2 ^ 24 → k ∉ settleObjs → k ≠ O.ASSAY_STATUS → k ≠ O.CTX_STATUS → k ≠ O.CTX_STATE_TM → u.obj c k = t.obj c k := by
    intro k hk hs h1 h2 h3
    refine h'.frame.2 c k ?_ (objKey_settle c k hk hs)
    simp only [objKey, O.ASSAY_STATUS, O.CTX_STATUS, O.CTX_STATE_TM, List.mem_cons, List.not_mem_nil, or_false] at h1 h2 h3 ⊢
    omega
  refine ⟨(hkeys _ (by decide) (by decide) (by decide) (by decide) (by decide)).trans h.newest,
    (hkeys _ (by decide) (by decide) (by decide) (by decide) (by decide)).trans h.closed, h'.bits h.reported,
    ((congrArg State.turn h'.frame.1 :) : u.turn = t.turn).trans h.turn, h.others.trans h'.others,
    ((congrArg State.inputs h'.frame.1 :) : u.inputs = t.inputs).trans h.inputs,
    ((congrArg State.dies h'.frame.1 :) : u.dies = t.dies).trans h.dies, fun ha => ?_⟩
  exact (h.stores ha).trans (storesIn_same (congrArg State.halves h'.frame.1 :) (congrArg State.hbm h'.frame.1 :)
    (congrArg State.mem h'.frame.1 :))

theorem AssayBegun.beyond (h : AssayBegun c s t) : Beyond c s t := by
  refine ⟨h.frame.mono (by simp), h.others, fun hb => ?_⟩
  rw [h.frame.2 c O.CTX_STATUS (by simp [objKey]) (objKey_settle c _ (by decide) (by decide))]
  exact hb

theorem beyond_flag (s : State) (c : Nat) : Beyond c s (s.flag c O.CTX_STATUS 6) := by
  refine ⟨(onlyObjs_refl s _).put (j := c) (k := O.CTX_STATUS) (by simp) _, fun _ _ => rfl, fun hb => ?_⟩
  rw [State.flag_eq, State.obj_setObj_self, bit_setBit _ _ _ (by decide), hb]
  rfl

theorem putTm_status (s : State) (c n : Nat) : (s.putTm c O.CTX_STATE_TM n).obj c O.CTX_STATUS = s.obj c O.CTX_STATUS := by
  have hne : ∀ i, objKey c O.CTX_STATUS ≠ objKey i O.CTX_STATE_TM := fun i => by
    simp only [objKey, O.CTX_STATUS, O.CTX_STATE_TM]
    omega
  rw [State.putTm_eq, State.obj_setObj_ne _ _ _ _ _ _ (hne _), State.obj_setObj_ne _ _ _ _ _ _ (hne _)]

theorem beyond_enterCtx (s : State) (c : Nat) (st : CtxSt) : Beyond c s (enterCtx s c st) := by
  unfold enterCtx
  split
  next x hx =>
    refine ⟨?_, ctxsBut_setCtx s c _, fun hb => ?_⟩
    · exact ((onlyObjs_refl s _).setCtx c _).putTm (by simp) (by simp) _
    · rw [putTm_status]
      exact hb
  next => exact ⟨onlyObjs_refl s _, fun _ _ => rfl, id⟩

theorem Beyond.trans (h : Beyond c s t) (h' : Beyond c t u) : Beyond c s u := by
  refine ⟨OnlyObjs.trans (t := { t with ctxs := u.ctxs }) ?_ h'.frame, h.others.trans h'.others, fun hb => h'.bits (h.bits hb)⟩
  exact ⟨congrArg (fun b : State => { b with ctxs := u.ctxs }) h.frame.1, h.frame.2⟩

theorem beyond_settle (s : State) (c : Nat) : Beyond c s (settle s) := by
  refine ⟨?_, CtxsBut.settled fun _ _ => rfl, fun hb => ?_⟩
  · rw [settle_ctxs]
    exact (onlyObjs_refl s _).settled
  · rw [obj_settle_of _ _ _ (by decide) (by decide)]
    exact hb

theorem beyond_tableStopped (s : State) (c : Nat) (x : Ctx) : Beyond c s (tableStopped s c x) := by
  unfold tableStopped
  split
  · split
    · exact (beyond_flag s c).trans (beyond_enterCtx _ c .held)
    · exact beyond_flag s c
  · exact ⟨onlyObjs_refl s _, fun _ _ => rfl, id⟩

/-! ### The publication -/

theorem describedIn_worked (s : State) (c : Nat) (x : Ctx) (g : Segment) :
    Worked ⟨false, true, true⟩ [] (({ s with turn := (c + 1) % 4096 } : State).setCtx c (x.published g)) (describedIn s c x g) :=
  worked_putEntry rfl _ c .table _ 64 _

theorem describedIn_ctx (s : State) (c : Nat) (x : Ctx) (g : Segment) : (describedIn s c x g).ctx c = some (x.published g) :=
  ((describedIn_worked s c x g).others c List.not_mem_nil).trans (ctx_setCtx_self _ c _)

theorem describedIn_stores (h : s.TablesAligned) (c : Nat) (x : Ctx) (g : Segment) :
    StoresIn (s.entryList c (g.entered x)) s (describedIn s c x g) := by
  have hbegun : StoresIn (s.entryList c (g.entered x)) s (({ s with turn := (c + 1) % 4096 } : State).setCtx c (x.published g)) :=
    storesIn_same rfl rfl rfl
  have hal : (({ s with turn := (c + 1) % 4096 } : State).setCtx c (x.published g)).TablesAligned := h
  exact hbegun.trans (storesIn_putDescriptor hal c (g.entered x))

theorem publishedIn_announced (s : State) (c : Nat) (x : Ctx) (g : Segment) :
    PublishedIn s c x g (announced (describedIn s c x g) c g) := by
  have hwork := describedIn_worked s c x g
  have hstores := fun h => describedIn_stores (s := s) h c x g
  generalize describedIn s c x g = w at hwork hstores ⊢
  have hclosed : w.obj c O.SEG_CLOSED = s.obj c O.SEG_CLOSED := hwork.objs c _ (by decide) (by decide) (by decide)
  have hothers : CtxsBut c s w := fun d hd => (hwork.others d List.not_mem_nil).trans (ctxsBut_setCtx s c (x.published g) d hd)
  have hframe := onlyObjs_announced w c g
  have hctxs : (announced w c g).ctxs = w.ctxs := (congrArg State.ctxs hframe.1 :)
  obtain ⟨hnewest, hcount, hbit⟩ := announced_obj w c g
  rw [hclosed] at hcount
  refine ⟨hnewest, hcount, hbit, ?_, hothers.trans (ctxsBut_congr hctxs c), ?_, ?_, fun h => ?_⟩
  · exact ((congrArg State.turn hframe.1 :) : (announced w c g).turn = w.turn).trans (congrArg State.turn hwork.still :)
  · exact ((congrArg State.inputs hframe.1 :) : (announced w c g).inputs = w.inputs).trans (hwork.same.2.2 rfl)
  · exact ((congrArg State.dies hframe.1 :) : (announced w c g).dies = w.dies).trans (hwork.same.2.1 rfl)
  · exact (hstores h).trans (storesIn_same (congrArg State.halves hframe.1 :) (congrArg State.hbm hframe.1 :)
      (congrArg State.mem hframe.1 :))

theorem announced_ctx (s : State) (c : Nat) (g : Segment) : (announced s c g).ctx c = s.ctx c :=
  ctx_congr (congrArg State.ctxs (onlyObjs_announced s c g).1 :) c

theorem unrecorded_fields (h : y.unrecorded = x.unrecorded) : y.table = x.table ∧ y.pending = x.pending ∧ y.st = x.st ∧
    y.tableFull = x.tableFull ∧ y.stopMet = x.stopMet ∧ y.busy = x.busy :=
  ⟨(congrArg Ctx.table h :), (congrArg Ctx.pending h :), (congrArg Ctx.st h :), (congrArg Ctx.tableFull h :), (congrArg Ctx.stopMet h :),
    (congrArg Ctx.busy h :)⟩

theorem tableStopped_idle (h : ¬ (x.tableFull = true ∧ x.pending = [])) : tableStopped s c x = s := if_neg h

theorem tableStopped_holds (h : x.tableFull = true ∧ x.pending = []) (hst : x.st = .armed ∧ x.stopMet = false ∧ x.busy = none) :
    tableStopped s c x = enterCtx (s.flag c O.CTX_STATUS 6) c .held := by
  rw [tableStopped, if_pos h, if_pos ⟨hst.1, by rw [hst.2.1]; rfl, hst.2.2⟩]

theorem tableStopped_flags (h : x.tableFull = true ∧ x.pending = []) (hst : x.st ≠ .armed ∨ x.stopMet = true ∨ x.busy ≠ none) :
    tableStopped s c x = s.flag c O.CTX_STATUS 6 := by
  rw [tableStopped, if_pos h, if_neg]
  rintro ⟨h1, h2, h3⟩
  rcases hst with hst | hst | hst
  · exact hst h1
  · rw [hst] at h2
    exact absurd h2 (by decide)
  · exact hst h3

/-- The context whose last entry is filled, at the end of a publication. -/
theorem tableStopped_ctx (hx : s.ctx c = some x) : ∃ y, (tableStopped s c x).ctx c = some y ∧ y.table = x.table ∧ y.pending = x.pending ∧
    (x.tableFull = false → y.st = x.st) ∧
    (x.tableFull = true → x.pending = [] → x.st = .armed →
      bit ((tableStopped s c x).obj c O.CTX_STATUS) 6 = true ∧ (x.stopMet = false → x.busy = none → y.st = .held) ∧
      (x.stopMet = true ∨ x.busy.isSome = true → y.st = .armed)) := by
  have hflag : bit ((s.flag c O.CTX_STATUS 6).obj c O.CTX_STATUS) 6 = true := by
    rw [State.flag_eq, State.obj_setObj_self]
    exact bit_setBit_self _ (by decide)
  by_cases h : x.tableFull = true ∧ x.pending = []
  · by_cases hst : x.st = .armed ∧ x.stopMet = false ∧ x.busy = none
    · rw [tableStopped_holds h hst]
      have hctx : (s.flag c O.CTX_STATUS 6).ctx c = some x := hx
      refine ⟨_, enterCtx_ctx hctx .held, rfl, rfl, fun hf => absurd (hf.symm.trans h.1) (by decide), fun _ _ _ => ⟨?_, fun _ _ => rfl, ?_⟩⟩
      · rw [enterCtx, hctx]
        dsimp only
        rw [putTm_status]
        exact hflag
      · rintro (hh | hh)
        · exact absurd (hh.symm.trans hst.2.1) (by decide)
        · rw [hst.2.2] at hh
          exact absurd hh (by decide)
    · have hor : x.st ≠ .armed ∨ x.stopMet = true ∨ x.busy ≠ none := by
        by_contra hn
        simp only [not_or, not_not, ne_eq] at hn
        exact hst ⟨hn.1, by simpa using hn.2.1, hn.2.2⟩
      rw [tableStopped_flags h hor]
      exact ⟨x, hx, rfl, rfl, fun _ => rfl, fun _ _ ha => ⟨hflag, fun h1 h2 => absurd ⟨ha, h1, h2⟩ hst, fun _ => ha⟩⟩
  · rw [tableStopped_idle h]
    exact ⟨x, hx, rfl, rfl, fun _ => rfl, fun hf hp _ => absurd ⟨hf, hp⟩ h⟩

theorem segmentPublish_publishes (hp : s.publisher = some c) (hx : s.ctx c = some x) (hg : x.pending.find? Segment.closed = some g) :
    Answers .segmentPublish s fun t =>
      (∃ y, t.ctx c = some y ∧ y.table = x.table ++ [{ g with entry := freeEntry x.table }] ∧
        y.pending = x.pending.erase g ∧ (x.tableFull = false → y.st = x.st) ∧
        (x.tableFull = true → x.pending = [g] → x.st = .armed →
          bit (t.obj c O.CTX_STATUS) 6 = true ∧ (x.stopMet = false → x.busy = none → y.st = .held) ∧
          (x.stopMet = true ∨ x.busy.isSome = true → y.st = .armed))) ∧
      t.turn = (c + 1) % 4096 ∧ t.obj c O.SEG_NEWEST_SEQ = ofN g.seq ∧
      (t.obj c O.SEG_CLOSED).toNat = ((s.obj c O.SEG_CLOSED).toNat + 1) % 2 ^ 64 ∧
      bit (t.obj c O.CTX_STATUS) 0 = true ∧ CtxsBut c s t ∧ t.inputs = s.inputs ∧ t.dies = s.dies ∧
      (s.TablesAligned → MemBut (s.entryRange c { g with entry := freeEntry x.table }) s t) := by
  have hpub := publishedIn_announced s c x g
  have hctx : (announced (describedIn s c x g) c g).ctx c = some (x.published g) :=
    (announced_ctx _ c g).trans (describedIn_ctx s c x g)
  have heq := fun y => publish_eq (s := s) (y := y) hx hg
  generalize announced (describedIn s c x g) c g = v at hpub hctx heq
  have hstart := assayBegun_assayStart (c := c) v g
  obtain ⟨y, hy, hyx⟩ := hstart.kept _ hctx
  have heqy := heq y hy
  have hpub1 := hpub.beyond hstart.beyond
  generalize assayStart v c g = u at hy heqy hpub1
  obtain ⟨htable, hpending, hst, hfull, hmet, hbusy⟩ := unrecorded_fields hyx
  obtain ⟨z, hz, hztable, hzpending, hopen, hstop⟩ := tableStopped_ctx hy
  have hall := hpub1.beyond ((beyond_tableStopped u c y).trans (beyond_settle _ c))
  have hstatus : (settle (tableStopped u c y)).obj c O.CTX_STATUS = (tableStopped u c y).obj c O.CTX_STATUS :=
    obj_settle_of _ c _ (by decide) (by decide)
  refine answers_done (u := tableStopped u c y) ?_ ⟨⟨z, (ctx_settle c).trans hz, hztable.trans htable, hzpending.trans hpending, ?_, ?_⟩,
    hall.turn, hall.newest, ?_, hall.reported, hall.others, hall.inputs, hall.dies, fun h => ?_⟩
  · rw [exec_segmentPublish, execSegmentPublish, hp]
    exact congrArg done heqy
  · rw [hfull, hst] at hopen
    exact hopen
  · rw [hfull, hpending, hst, hmet, hbusy] at hstop
    rw [hstatus]
    exact fun hf hone ha => hstop hf (by rw [Ctx.published, hone]; simp) ha
  · rw [hall.closed]
    exact ofN_toNat _ (Nat.mod_lt _ (by decide))
  · exact (hall.stores h).memBut (entryList_aligned h)

/-- Settles O34: an event reaches its context and admits its records, a complete segment closes with the next SEQ, the oldest closed
segment is published into the lowest free entry, and releases free the entries they name. -/
theorem segments : Obligations.Segments := by
  unfold Obligations.Segments
  refine ⟨fun s c x g hx hg => eventReachesContext_reaches hx hg, fun s c x g hx hg => segmentClose_closes hx hg,
    fun s c x g hp hx hg => segmentPublish_publishes hp hx hg, freeEntry_lowest, ?_,
    fun s p v h ho => segReleaseSeq_stranger h ho v, ?_⟩
  · intro s p c v x h hc hx ho hv
    exact ⟨fun g hg hb => segReleaseSeq_frees h hc hx ho hv hg hb, fun g hg hb => segReleaseSeq_waits h hc hx ho hv hg hb,
      fun hg => segReleaseSeq_unknown h hc hx ho hg, fun hg hb => segReleaseUpto_frees h hc hx ho hv hg hb,
      fun hb => segReleaseAll_frees h hc hx ho hb, fun hv hne => segReleaseAll_ignored h hc hx ho hv hne⟩
  · intro s c q x g hx hg
    exact ⟨fun hr hb => segmentReleaseEffective_frees hx hg hr hb, fun hb => segmentReleaseEffective_waits hg hb⟩

end Sys2Proof.Machine
end

section
/-! ## Stream rings: pins, pool writes, pauses (R183 to R190) -/

namespace Sys2Proof.Machine

variable {s t u : State} {p n : Nat} {v : Slot}

/-! ### Pins (R186) -/

/-- The slot of line `l0 + δ` where δ is the distance from the slot of line `l0` to `slot`, round the ring. -/
theorem slot_round (base l0 slot lines : Nat) (h : slot < lines) :
    (base + (l0 + (slot + lines - (base + l0) % lines) % lines)) % lines = slot := by
  have hr : (base + l0) % lines < lines := Nat.mod_lt _ (Nat.lt_of_le_of_lt (Nat.zero_le _) h)
  have hsum : (base + l0) % lines + (slot + lines - (base + l0) % lines) = slot + lines := by omega
  rw [← Nat.add_assoc, ← Nat.mod_add_mod, Nat.add_mod_mod, hsum, Nat.add_mod_right, Nat.mod_eq_of_lt h]

theorem pins_item (e : Epoch) (a b d slot : Nat) (hper : e.perLine = 48 * e.members.length) (h : e.pins a b d slot = true) :
    ∃ i, a ≤ i ∧ i < b ∧ (e.slot + i / e.perLine) % e.lines = slot ∧ e.members[i % e.perLine / 48]? = some d := by
  unfold Epoch.pins at h
  cases hj : e.members.findIdx? (· == d) with
  | none => rw [hj] at h; exact absurd h Bool.false_ne_true
  | some j =>
    obtain ⟨hlt, hd, -⟩ := List.findIdx?_eq_some_iff_getElem.mp hj
    rw [hj] at h
    dsimp only at h
    split at h
    next hif =>
      obtain ⟨hab, hper0, hlines⟩ := hif
      obtain ⟨hslot, hlo, hhi⟩ := of_decide_eq_true h
      generalize hl : a / e.perLine + (slot + e.lines - (e.slot + a / e.perLine) % e.lines) % e.lines = l at hlo hhi
      have hround : (e.slot + l) % e.lines = slot := by
        rw [← hl]
        exact slot_round _ _ _ _ hslot
      have hmul : ∃ m, max a (l * e.perLine + 48 * j) = l * e.perLine + m ∧ 48 * j ≤ m ∧ m < 48 * j + 48 :=
        ⟨max a (l * e.perLine + 48 * j) - l * e.perLine, by omega, by omega, by omega⟩
      obtain ⟨m, hm, hm1, hm2⟩ := hmul
      have hmp : m < e.perLine := by omega
      refine ⟨max a (l * e.perLine + 48 * j), Nat.le_max_left _ _, by omega, ?_, ?_⟩
      · rw [hm, Nat.mul_comm, Nat.mul_add_div (Nat.pos_of_ne_zero hper0), Nat.div_eq_of_lt hmp, Nat.add_zero, hround]
      · rw [hm, Nat.mul_comm, Nat.mul_add_mod, Nat.mod_eq_of_lt hmp, show m / 48 = j by omega, List.getElem?_eq_getElem hlt]
        exact congrArg some (beq_iff_eq.mp hd)
    next => exact absurd h Bool.false_ne_true

/-! ### The settings of a ring (R183, R190) -/

theorem ringObj_present {o : Nat} (hn : n < s.D) (ho : 0x304000 ≤ o ∧ o < 0x304100) :
    s.missing (inObj o n / 256) (inObj o n % 256) = none := by
  have h8 := fitted_lt hn
  simp only [inObj]
  exact missing_input s n _ _ hn (by rw [digitOf, if_pos (by omega)]; omega) (by omega) (by omega)

theorem ringObj_absent {o : Nat} (hn : s.D ≤ n) (h8 : n < 8) (ho : 0x304000 ≤ o ∧ o < 0x304100) :
    s.missing (inObj o n / 256) (inObj o n % 256) = some .noObject := by
  simp only [inObj]
  have hi : (o + n * 0x10000) / 256 = 0x3040 + n * 0x100 := by omega
  have hd : digitOf (0x3040 + n * 0x100) = n := by rw [digitOf, if_pos (by omega)]; omega
  rw [hi]
  unfold State.missing
  rw [if_pos ⟨by omega, by omega, hd.symm ▸ hn⟩]

/-- An object of a ring is none of those that the end of a command writes. -/
theorem ringObj_free {o : Nat} (h8 : n < 8) (ho : 0x304000 ≤ o ∧ o < 0x304100) : inObj o n < 2 ^ 24 ∧ inObj o n ∉ settleObjs := by
  simp only [inObj]
  exact ⟨by omega, input_settleObjs (by omega) (by omega)⟩

theorem exec_ringMib (h8 : n < 8) : exec (.ringMibWrite p n v) s =
    done (access s p (inObj O.RING_MIB_n n) fun s => ringMibWrite s p n v) := by
  rw [exec_ringMibWrite, execRingMibWrite, if_pos h8]

theorem exec_ringPolicy (h8 : n < 8) : exec (.ringPolicyWrite p n v) s =
    done (access s p (inObj O.RING_POLICY_n n) fun s => ringPolicyWrite s p n v) := by
  rw [exec_ringPolicyWrite, execRingPolicyWrite, if_pos h8]

/-- The pool of an input after a write of RING_MIB_n. -/
def ringSized (s : State) (n : Nat) (v : Slot) : State :=
  (s.put (inObj O.RING_MIB_n n) v).setInput n { s.input n with fresh := true, slot := 0 }

section

variable (h : Served s p) (hn : n < s.D) (ho : ownerOf p = s.claimant n)
include h hn ho

theorem ringMib_range (hv : ringMibOk v = false) : Answers (.ringMibWrite p n v) s fun t =>
    Rejected s t p (inObj O.RING_MIB_n n) 2 .range := by
  refine rejected_access (exec_ringMib (fitted_lt hn)) h (ringObj_present hn (by decide)) ?_
  rw [ringMibWrite]
  dsimp only
  rw [claimantOnly_pos (s := s.turned) ho]
  exact need_neg hv _ _

theorem ringMib_state (hv : ringMibOk v = true)
    (hb : (s.input n).st ≠ .single ∨ s.runsOn n = true ∨ s.regionPinned n = true) : Answers (.ringMibWrite p n v) s fun t =>
    Rejected s t p (inObj O.RING_MIB_n n) 2 .presentState := by
  have hshut : ((s.turned.input n).st == .single && !(s.turned.runsOn n) && !(s.turned.regionPinned n)) = false := by
    have hr : s.turned.runsOn n = s.runsOn n := rfl
    have hp : s.turned.regionPinned n = s.regionPinned n := rfl
    have hi : s.turned.input n = s.input n := rfl
    rw [hr, hp, hi]
    rcases hb with hb | hb | hb <;> simp [hb]
  refine rejected_access (exec_ringMib (fitted_lt hn)) h (ringObj_present hn (by decide)) ?_
  rw [ringMibWrite]
  dsimp only
  rw [claimantOnly_pos (s := s.turned) ho, need_pos _ hv]
  exact need_neg hshut _ _

theorem ringMib_sizes (hl : n < s.inputs.length) (hv : ringMibOk v = true) (hst : (s.input n).st = .single) (hr : s.runsOn n = false)
    (hp : s.regionPinned n = false) (ha : s.allocsOf n = []) : Answers (.ringMibWrite p n v) s fun t =>
      t.get (inObj O.RING_MIB_n n) = v ∧ t.input n = { s.input n with fresh := true, slot := 0 } ∧
      (∀ m, m ≠ n → t.input m = s.input m) ∧
      OnlyObjs [objKey 0 (inObj O.RING_MIB_n n)] { s with inputs := t.inputs } t := by
  have hopen : ((s.turned.input n).st == .single && !(s.turned.runsOn n) && !(s.turned.regionPinned n)) = true := by
    have hr' : s.turned.runsOn n = s.runsOn n := rfl
    have hp' : s.turned.regionPinned n = s.regionPinned n := rfl
    have hi : s.turned.input n = s.input n := rfl
    rw [hr', hp', hi, hst, hr, hp]
    rfl
  have hroom : (decide (v.toNat * mib + ((s.turned.allocsOf n).map Alloc.size).foldl (· + ·) 0 ≤ poolBytes) &&
      clearOf (s.turned.allocsOf n) 0 (v.toNat * mib)) = true := by
    have ha' : s.turned.allocsOf n = [] := ha
    have hle : v.toNat ≤ 11008 := (of_decide_eq_true hv).2.2
    rw [ha', List.map_nil, List.foldl_nil, Nat.add_zero, Bool.and_eq_true]
    refine ⟨decide_eq_true ?_, rfl⟩
    simp only [mib, poolBytes]
    omega
  obtain ⟨hlt, hfree⟩ := ringObj_free (o := O.RING_MIB_n) (fitted_lt hn) (by decide)
  refine answers_access (u := ringSized s.turned n v) (exec_ringMib (fitted_lt hn)) h (ringObj_present hn (by decide)) ?_ ⟨?_, ?_, ?_, ?_⟩
  · rw [ringMibWrite]
    dsimp only
    rw [claimantOnly_pos (s := s.turned) ho, need_pos _ hv, need_pos _ hopen, need_pos _ hroom]
    rfl
  · rw [State.get_eq, obj_settle_of _ _ _ hlt hfree]
    exact State.obj_setObj_self _ _ _ _
  · rw [input_settle]
    exact input_setInput_self hl _
  · intro m hm
    rw [input_settle]
    exact input_setInput_other hm hl _
  · exact ((onlyObjs_turned _).put (j := 0) (k := inObj O.RING_MIB_n n) (by simp) v).settledInput n _

theorem ringPolicy_range (hv : 1 < v.toNat) : Answers (.ringPolicyWrite p n v) s fun t =>
    Rejected s t p (inObj O.RING_POLICY_n n) 2 .range := by
  refine rejected_access (exec_ringPolicy (fitted_lt hn)) h (ringObj_present hn (by decide)) ?_
  rw [ringPolicyWrite, claimantOnly_pos (s := s.turned) ho]
  exact need_neg (decide_eq_false (by omega)) _ _

end

theorem ringMib_unfitted (h : Served s p) (hn : s.D ≤ n) (h8 : n < 8) : Answers (.ringMibWrite p n v) s fun t =>
    Rejected s t p (inObj O.RING_MIB_n n) 2 .noObject :=
  rejected_missing (exec_ringMib h8) h (ringObj_absent hn h8 (by decide))

theorem ringPolicy_unfitted (h : Served s p) (hn : s.D ≤ n) (h8 : n < 8) : Answers (.ringPolicyWrite p n v) s fun t =>
    Rejected s t p (inObj O.RING_POLICY_n n) 2 .noObject :=
  rejected_missing (exec_ringPolicy h8) h (ringObj_absent hn h8 (by decide))

end Sys2Proof.Machine
end

section
/-! ## Pauses of a ring (R187, R188, R189) -/

namespace Sys2Proof.Machine

variable {s t u : State} {n : Nat}

/-! ### A pause (R188, R189) -/

/-- An input whose epoch in force has ended and whose ring is paused. -/
def Input.paused (x : Input) : Input :=
  { x with ring := .paused, epochs := match x.epochs with | e :: es => { e with open_ := false } :: es | [] => [] }

theorem endEpoch_paused (s : State) (n : Nat) : endEpoch s n .paused = s.setInput n (s.input n).paused := by
  unfold endEpoch Input.paused
  dsimp only
  cases (s.input n).epochs with
  | nil => rfl
  | cons e es => rfl

theorem paused_ended (x : Input) : ∀ e, x.paused.epochs.head? = some e → e.open_ = false := by
  intro e he
  unfold Input.paused at he
  cases hx : x.epochs with
  | nil => rw [hx] at he; exact absurd he (by simp)
  | cons a as =>
    rw [hx] at he
    exact (Option.some.inj he) ▸ rfl

theorem gapConsumers_worked {K : KeepFields} (hm : K.mem = false) (s : State) (n : Nat) :
    Worked K (s.ctxs.map Prod.fst) s (gapConsumers s n) := by
  unfold gapConsumers
  dsimp only
  refine List.foldlRecOn (motive := fun v => Worked K (s.ctxs.map Prod.fst) s v) _ _ (worked_refl _ s) fun v hv c hc => hv.trans ?_
  split
  · exact worked_ite (worked_endGrid_of hm hc v true) (worked_refl _ v)
  · exact worked_refl _ v

/-- Without a decimating context a gap ends no grid. -/
theorem gapConsumers_undecimated (h : ∀ c, s.cN c O.DEC_MODE = 0) (n : Nat) : gapConsumers s n = s := by
  unfold gapConsumers
  dsimp only
  refine List.foldlRecOn (motive := fun v => v = s) _ _ rfl fun v hv c _ => ?_
  subst hv
  split
  · exact if_neg fun hh => hh.2.2 (h c)
  · rfl

/-- The ring of input `n` paused, the pause counted. -/
def ringPaused (s : State) (n : Nat) : State :=
  (((s.setInput n { s.input n with pauseAt := s.now }).countSat 0 (inObj O.RING_PAUSES_n n) 32).flag 0 (inObj O.RING_STATUS_n n) 1)

/-- The state after a pause, whether or not a foreign pin caused it. -/
def pauseEnd (w : State) (n : Nat) (q : Bool) : State :=
  if q = true then (ringPaused w n).flag 0 (inObj O.RING_STATUS_n n) 2 else ringPaused w n

theorem exec_ringPause_blocked (hn : n < s.D) (hr : (s.input n).ring = .writing) (hb : ∃ b ∈ s.blockers n, s.revocable n b.2 = false) :
    ∃ q : Bool, exec (.ringPause n) s = done (pauseEnd (gapConsumers (s.setInput n (s.input n).paused) n) n q) := by
  have hne : (s.blockers n).filter (fun b => !s.revocable n b.2) ≠ [] := by
    obtain ⟨b, hb, hrev⟩ := hb
    exact List.ne_nil_of_mem (List.mem_filter.mpr ⟨hb, by rw [hrev]; rfl⟩)
  refine ⟨((s.blockers n).filter fun b => !s.revocable n b.2).any fun b => b.2.input != n, ?_⟩
  rw [exec_ringPause, execRingPause]
  dsimp only
  rw [if_pos ⟨by simpa [State.fitted] using hn, hr, hne⟩, endEpoch_paused]
  rfl

theorem pauseEnd_fields (w : State) (n : Nat) (q : Bool) :
    (pauseEnd w n q).inputs = (w.setInput n { w.input n with pauseAt := w.now }).inputs ∧ (pauseEnd w n q).dies = w.dies ∧
    (pauseEnd w n q).mem = w.mem := by
  unfold pauseEnd
  split
  · exact ⟨rfl, rfl, rfl⟩
  · exact ⟨rfl, rfl, rfl⟩

theorem ringPaused_obj (w : State) (n : Nat) :
    (ringPaused w n).num (inObj O.RING_PAUSES_n n) = satN 32 (w.num (inObj O.RING_PAUSES_n n) + 1) ∧
    bit ((ringPaused w n).get (inObj O.RING_STATUS_n n)) 1 = true := by
  have hne : objKey 0 (inObj O.RING_PAUSES_n n) ≠ objKey 0 (inObj O.RING_STATUS_n n) := by
    simp only [objKey, inObj, O.RING_PAUSES_n, O.RING_STATUS_n]
    omega
  unfold ringPaused
  rw [State.flag_eq]
  refine ⟨?_, ?_⟩
  · rw [State.num_eq, State.obj_setObj_ne _ _ _ _ _ _ hne, State.countSat_eq, State.obj_setObj_self]
    exact ofN_toNat _ (satN32_lt _)
  · rw [State.get_eq, State.obj_setObj_self]
    exact bit_setBit_self _ (by decide)

theorem pauseEnd_obj (w : State) (n : Nat) (q : Bool) :
    (pauseEnd w n q).num (inObj O.RING_PAUSES_n n) = satN 32 (w.num (inObj O.RING_PAUSES_n n) + 1) ∧
    bit ((pauseEnd w n q).get (inObj O.RING_STATUS_n n)) 1 = true := by
  have hne : objKey 0 (inObj O.RING_PAUSES_n n) ≠ objKey 0 (inObj O.RING_STATUS_n n) := by
    simp only [objKey, inObj, O.RING_PAUSES_n, O.RING_STATUS_n]
    omega
  obtain ⟨hcount, hbit⟩ := ringPaused_obj w n
  unfold pauseEnd
  split
  · refine ⟨?_, ?_⟩
    · rw [State.flag_eq, State.num_eq, State.obj_setObj_ne _ _ _ _ _ _ hne]
      exact hcount
    · rw [State.flag_eq, State.get_eq, State.obj_setObj_self, bit_setBit _ _ _ (by decide), ← State.get_eq, hbit]
      rfl
  · exact ⟨hcount, hbit⟩

/-- The pauses of a ring are counted in an object that no work in flight writes. -/
theorem ringPauses_unworked (h8 : n < 8) : workObj (inObj O.RING_PAUSES_n n) = false := by
  have hlow : (O.RING_PAUSES_n + n * 0x10000) % 65536 = 0x400A := by simp only [O.RING_PAUSES_n]; omega
  unfold workObj inObj
  rw [hlow]
  simp only [O.RING_PAUSES_n, O.CTX_STATUS, O.CTX_STATE_TM, O.CTX_SUSPEND_CAUSE, O.TRIG_LATENCY, O.SEG_REVOKED_COUNT, O.ASSAY_STATUS,
    O.ASSAY_ABSENT]
  simp
  omega

theorem ringPause_pauses (hn : n < s.D) (hl : n < s.inputs.length) (hr : (s.input n).ring = .writing)
    (hb : ∃ b ∈ s.blockers n, s.revocable n b.2 = false) : Answers (.ringPause n) s fun t =>
      (t.input n).ring = .paused ∧ (t.input n).pauseAt = s.now ∧
      (∀ e, (t.input n).epochs.head? = some e → e.open_ = false) ∧
      t.num (inObj O.RING_PAUSES_n n) = satN 32 (s.num (inObj O.RING_PAUSES_n n) + 1) ∧
      bit (t.get (inObj O.RING_STATUS_n n)) 1 = true ∧ (∀ m, m ≠ n → t.input m = s.input m) ∧ t.dies = s.dies ∧
      ((∀ c, s.cN c O.DEC_MODE = 0) → t.mem = s.mem) := by
  obtain ⟨q, hexec⟩ := exec_ringPause_blocked hn hr hb
  refine answers_done hexec ?_
  have h8 := fitted_lt hn
  have hw := gapConsumers_worked (K := ⟨false, true, true⟩) rfl (s.setInput n (s.input n).paused) n
  have hmem : (∀ c, s.cN c O.DEC_MODE = 0) → (gapConsumers (s.setInput n (s.input n).paused) n).mem = s.mem := fun h =>
    (congrArg State.mem (gapConsumers_undecimated (s := s.setInput n (s.input n).paused) h n)).trans rfl
  have hin := input_setInput_self hl (s.input n).paused
  have hother := fun m hm => input_setInput_other (m := m) hm hl (s.input n).paused
  have hobjs : ∀ k, (s.setInput n (s.input n).paused).obj 0 k = s.obj 0 k := fun _ => rfl
  have hnow : (s.setInput n (s.input n).paused).now = s.now := rfl
  have hdies : (s.setInput n (s.input n).paused).dies = s.dies := rfl
  have hlen : (s.setInput n (s.input n).paused).inputs.length = s.inputs.length := by simp [State.setInput]
  generalize s.setInput n (s.input n).paused = v at hw hmem hin hother hobjs hnow hdies hlen ⊢
  obtain ⟨hlt, hfree⟩ := ringObj_free (o := O.RING_PAUSES_n) h8 (by decide)
  obtain ⟨hlt2, hfree2⟩ := ringObj_free (o := O.RING_STATUS_n) h8 (by decide)
  have hcount : (gapConsumers v n).num (inObj O.RING_PAUSES_n n) = s.num (inObj O.RING_PAUSES_n n) :=
    congrArg BitVec.toNat ((hw.objs 0 _ hlt (ringPauses_unworked h8) hfree).trans (hobjs _))
  have hnow1 : (gapConsumers v n).now = s.now :=
    (now_congr (congrArg State.counter hw.still :) (congrArg State.wraps hw.still :)).trans hnow
  have hinputs : (gapConsumers v n).inputs = v.inputs := hw.same.2.2 rfl
  have hd : (gapConsumers v n).dies = s.dies := (hw.same.2.1 rfl).trans hdies
  generalize gapConsumers v n = w at hmem hnow1 hcount hinputs hd ⊢
  have hwin : ∀ m, w.input m = v.input m := fun m => by rw [State.input, State.input, hinputs]
  have hwl : n < w.inputs.length := by rw [hinputs, hlen]; exact hl
  obtain ⟨hendin, hendd, hendm⟩ := pauseEnd_fields w n q
  obtain ⟨hendc, hendb⟩ := pauseEnd_obj w n q
  generalize pauseEnd w n q = z at hendin hendd hendm hendc hendb ⊢
  have hz : ∀ m, (settle z).input m = (w.setInput n { w.input n with pauseAt := w.now }).input m := fun m => by
    rw [input_settle, State.input, State.input, hendin]
  have hzn : (settle z).input n = { (s.input n).paused with pauseAt := s.now } := by
    rw [hz, input_setInput_self hwl, hwin, hin, hnow1]
  refine ⟨?_, ?_, ?_, ?_, ?_, fun m hm => ?_, ?_, fun h => ?_⟩
  · rw [hzn]
    rfl
  · rw [hzn]
  · rw [hzn]
    exact paused_ended (s.input n)
  · rw [State.num_eq, obj_settle_of _ _ _ hlt hfree, ← State.num_eq, hendc, hcount]
  · rw [State.get_eq, obj_settle_of _ _ _ hlt2 hfree2]
    exact hendb
  · rw [hz, input_setInput_other hm hwl, hwin, hother m hm]
  · rw [settle_dies, hendd, hd]
  · rw [settle_mem, hendm, hmem h]

/-! ### The end of a pause (R188) -/

/-- The epoch that an input begins at base period `T`. -/
def State.begunEpoch (s : State) (n T : Nat) : Epoch :=
  { number := ((((s.input n).epochs.head?.map Epoch.number).getD 0 + 1) % 2 ^ 32), t0 := T * 480, period := s.period n
    slot := if (s.input n).fresh ∨ s.ringLinesFor (s.input n).members = 0 then 0
      else (s.input n).slot % s.ringLinesFor (s.input n).members
    lines := s.ringLinesFor (s.input n).members, perLine := s.lineLen n, members := (s.input n).members, endT := T * 480 }

theorem openEpoch_gap (s : State) (n T : Nat) : openEpoch s n T true = s.setInput n { s.input n with
    ring := .writing, epochs := s.begunEpoch n T :: (s.input n).epochs
    slot := (s.begunEpoch n T).slot, fresh := false, discNext := true } := rfl

theorem ringResume_resumes {T : Nat} (hn : n < s.D) (hl : n < s.inputs.length) (hr : (s.input n).ring = .paused)
    (hb : s.blockers n = []) (hT : T = s.boundary n (s.now + 96)) : Answers (.ringResume n) s fun t =>
      (t.input n).ring = .writing ∧ (t.input n).discNext = true ∧
      (∃ e, (t.input n).epochs = e :: (s.input n).epochs ∧ e.t0 = T * 480 ∧ e.open_ = true ∧ e.count = 0 ∧
        e.members = (s.input n).members) ∧
      t.num (inObj O.RING_PAUSE_NS_n n) = (s.num (inObj O.RING_PAUSE_NS_n n) + (T - (s.input n).pauseAt) / 40) % 2 ^ 64 ∧
      t.mem = s.mem ∧ t.ctxs = s.ctxs ∧ t.dies = s.dies ∧ (∀ m, m ≠ n → t.input m = s.input m) := by
  have h8 := fitted_lt hn
  have hexec : exec (.ringResume n) s = done (openEpoch ((addPause s n T).runTo T) n T true) := by
    rw [exec_ringResume, execRingResume, if_pos ⟨by simpa [State.fitted] using hn, hr, by rw [hb]; rfl⟩, hT]
  refine answers_done hexec ?_
  have hinput : ∀ m, ((addPause s n T).runTo T).input m = s.input m := fun m => runTo_input _ T m
  have hlen : n < ((addPause s n T).runTo T).inputs.length := by rw [runTo_inputs]; exact hl
  obtain ⟨hlt, hfree⟩ := ringObj_free (o := O.RING_PAUSE_NS_n) h8 (by decide)
  have hns : ((addPause s n T).runTo T).num (inObj O.RING_PAUSE_NS_n n) =
      (s.num (inObj O.RING_PAUSE_NS_n n) + (T - (s.input n).pauseAt) / 40) % 2 ^ 64 := by
    rw [State.num_eq, obj_runTo _ _ _ _ hlt (by simp only [inObj, O.RING_PAUSE_NS_n, O.TB_STATUS]; omega), addPause, State.countWrap,
      State.obj_setObj_self, ofN_toNat _ (Nat.mod_lt _ (by decide))]
    rfl
  have hmem : ((addPause s n T).runTo T).mem = s.mem := runTo_mem _ T
  have hctxs : ((addPause s n T).runTo T).ctxs = s.ctxs := runTo_ctxs _ T
  have hdies : ((addPause s n T).runTo T).dies = s.dies := runTo_dies _ T
  generalize (addPause s n T).runTo T = v at hinput hlen hns hmem hctxs hdies ⊢
  rw [openEpoch_gap]
  have hself := input_setInput_self hlen { v.input n with
    ring := .writing, epochs := v.begunEpoch n T :: (v.input n).epochs
    slot := (v.begunEpoch n T).slot, fresh := false, discNext := true }
  refine ⟨?_, ?_, ⟨v.begunEpoch n T, ?_, rfl, rfl, rfl, ?_⟩, ?_, ?_, ?_, ?_, fun m hm => ?_⟩
  · rw [input_settle, hself]
  · rw [input_settle, hself]
  · rw [input_settle, hself, hinput]
  · rw [← hinput]
    rfl
  · rw [State.num_eq, obj_settle_of _ _ _ hlt hfree]
    exact hns
  · rw [settle_mem]
    exact hmem
  · rw [settle_ctxs]
    exact hctxs
  · rw [settle_dies]
    exact hdies
  · rw [input_settle, input_setInput_other hm hlen, hinput]

end Sys2Proof.Machine
end

section
/-! ## Revocations and the policy of a ring (R187, R190, R212) -/

namespace Sys2Proof.Machine

variable {s t u : State} {c d n p : Nat} {x y : Ctx} {g h : Segment} {R : List Nat}

/-! ### Lines that are not written (R96, R188) -/

theorem onlyObjs_noteOver (s : State) (n : Nat) (l : List Taken) : OnlyObjs [objKey 0 (inObj O.FE_STATUS_n n)] s (noteOver s n l) :=
  ((onlyObjs_refl s _).flagged List.mem_cons_self 0).ite (onlyObjs_refl s _)

theorem sheetWrite_unconverted {volts : List Int} (hc : s.converts n = false) : Answers (.sheetWrite n volts) s fun t => OnlyObjs [] s t := by
  refine answers_idle ?_
  rw [exec_sheetWrite, execSheetWrite]
  exact congrArg done (if_neg (by rw [hc]; exact Bool.false_ne_true))

theorem sheetWrite_unwritten {volts : List Int} (hr : (s.input n).ring = .paused ∨ ((s.input n).ring = .idle ∧ s.busyInput n = false)) :
    Answers (.sheetWrite n volts) s fun t => OnlyObjs [objKey 0 (inObj O.FE_STATUS_n n)] s t := by
  cases hc : s.converts n with
  | false => exact (sheetWrite_unconverted hc).mono fun t ht => ht.mono (fun _ hk => absurd hk List.not_mem_nil)
  | true =>
    refine answers_done (u := idleLine s n volts false) ?_ ?_
    · rw [exec_sheetWrite, execSheetWrite, if_pos hc]
      rcases hr with hr | ⟨hr, hb⟩
      · rw [hr]
      · rw [hr, hb]
    · unfold idleLine
      exact (onlyObjs_noteOver s n _).settled

/-! ### One revocation (R187) -/

theorem storeOnly_refl (s : State) : StoreOnly s s := rfl

theorem storeOnly_wakePc (s : State) (d n : Nat) : StoreOnly s (wakePc s d n) := by
  have hw := (awoken_wakePc s d n).control (objs_wakePc s d n)
  generalize wakePc s d n = v at hw ⊢
  have hmem : v.mem = s.mem := (congrArg State.mem hw).trans rfl
  rw [StoreOnly, hmem]
  exact hw

theorem storeOnly_unpoison (s : State) (a : Nat) : StoreOnly s (unpoison s a) := by
  unfold unpoison
  dsimp only
  split
  · rfl
  · rfl

theorem storeOnly_rtServed (s : State) (d n : Nat) : StoreOnly s (rtServed s d n) := by
  unfold rtServed
  split
  · rfl
  · rfl

theorem storeOnly_storePart (s : State) (q : Nat × List Byte) : StoreOnly s (storePart s q) := by
  unfold storePart
  split
  · rfl
  · dsimp only
    have hmark := (storeOnly_wakePc s (q.1 / halfBytes) (unitPc ((s.half (q.1 / halfBytes)).writeUnit (q.1 % halfBytes / 64)))).trans
      (markWritten_storeOnly _ (q.1 / halfBytes) (q.1 % halfBytes / 64))
    generalize markWritten (wakePc s (q.1 / halfBytes) (unitPc ((s.half (q.1 / halfBytes)).writeUnit (q.1 % halfBytes / 64))))
      (q.1 / halfBytes) (q.1 % halfBytes / 64) = w at hmark ⊢
    have hwrite : StoreOnly w { w with mem := Memory.writeN w.mem (w.phys q.1) q.2 } := rfl
    split
    · exact (hmark.trans hwrite).trans (storeOnly_unpoison _ _)
    · exact hmark.trans hwrite

/-- A store leaves all but memory and its controllers. -/
theorem store_storeOnly (s : State) (a : Nat) (ws : List Byte) : StoreOnly s (s.store a ws) := by
  unfold State.store
  refine List.foldlRecOn (motive := StoreOnly s) _ _ (storeOnly_refl s) fun v hv q _ => ?_
  exact (hv.trans (storeOnly_storePart v q)).trans (storeOnly_rtServed _ _ _)

theorem putDescriptor_storeOnly (s : State) (c : Nat) (g : Segment) : StoreOnly s (putDescriptor s c g) := by
  unfold putDescriptor putEntry
  split
  · exact store_storeOnly s _ _
  · rfl

/-- A context with segment `g` marked revoked. -/
def Ctx.marked (x : Ctx) (g : Segment) : Ctx :=
  { x with
    table := x.table.map fun h => if h = g then { h with revoked := true } else h
    pending := x.pending.map fun h => if h = g then { h with revoked := true } else h }

/-- The state in which segment `g` of context `c` is marked revoked, its descriptor too where it is published. -/
def revokeMarked (s : State) (c : Nat) (g : Segment) : State :=
  if ((s.modCtx c fun x => x.marked g).held c g.seq).any (fun h => h.tm == g.tm) = true then
    putDescriptor (s.modCtx c fun x => x.marked g) c { g with revoked := true }
  else s.modCtx c fun x => x.marked g

/-- The objects that a revocation on input `n` writes. -/
abbrev revokeKeys (c n : Nat) : List Nat :=
  [objKey c O.SEG_REVOKED_COUNT, objKey c O.CTX_STATUS, objKey 0 (inObj O.RING_REVOKES_n n), objKey 0 (inObj O.RING_STATUS_n n)]

theorem revokeOn_frame (n : Nat) (s : State) (c : Nat) (g : Segment) : OnlyObjs (revokeKeys c n) (revokeMarked s c g) (revokeOn n s c g) ∧
    bit ((revokeOn n s c g).get (inObj O.RING_STATUS_n n)) 0 = true := by
  have heq : revokeOn n s c g = ((pulse (((revokeMarked s c g).countSat c O.SEG_REVOKED_COUNT 32).flag c O.CTX_STATUS 4) 1 2 c).countSat 0
    (inObj O.RING_REVOKES_n n) 32).flag 0 (inObj O.RING_STATUS_n n) 0 := rfl
  rw [heq]
  refine ⟨?_, ?_⟩
  · exact ((((((onlyObjs_refl _ _).put (j := c) (k := O.SEG_REVOKED_COUNT) (by simp) _).put (j := c) (k := O.CTX_STATUS) (by simp) _).pulsed
      1 2 c).put (j := 0) (k := inObj O.RING_REVOKES_n n) (by simp) _).put (j := 0) (k := inObj O.RING_STATUS_n n) (by simp) _)
  · rw [State.flag_eq, State.get_eq, State.obj_setObj_self]
    exact bit_setBit_self _ (by decide)

theorem revokeMarked_ctx (hx : s.ctx c = some x) (g : Segment) : (revokeMarked s c g).ctx c = some (x.marked g) := by
  have hmod : (s.modCtx c fun x => x.marked g).ctx c = some (x.marked g) := by
    rw [modCtx_some hx]
    exact ctx_setCtx_self s c _
  unfold revokeMarked
  split
  · exact (((worked_putEntry (K := anyKept) (cs := []) rfl _ c _ _ _ _).others c List.not_mem_nil)).trans hmod
  · exact hmod

theorem revokeOn_ctx (hx : s.ctx c = some x) (n : Nat) (g : Segment) : (revokeOn n s c g).ctx c = some (x.marked g) :=
  (ctx_congr (congrArg State.ctxs (revokeOn_frame n s c g).1.1 :) c).trans (revokeMarked_ctx hx g)

/-! ### What revocations leave -/

/-- Between `s` and `t` segments were revoked, with descriptors at the addresses `R`. -/
structure RevokeStep (R : List Nat) (s t : State) : Prop where
  allocs : t.allocs = s.allocs
  inputs : t.inputs = s.inputs
  dies : t.dies = s.dies
  stores : s.TablesAligned → StoresIn R s t

theorem revokeStep_refl (R : List Nat) (s : State) : RevokeStep R s s := ⟨rfl, rfl, rfl, fun _ => storesIn_same rfl rfl rfl⟩

theorem aligned_congr (h : t.allocs = s.allocs) (ha : s.TablesAligned) : t.TablesAligned := by
  unfold State.TablesAligned at ha ⊢
  rw [h]
  exact ha

theorem entryList_congr (h : t.allocs = s.allocs) (c : Nat) (g : Segment) : t.entryList c g = s.entryList c g := by
  unfold State.entryList State.entryAddr
  rw [h]

theorem RevokeStep.trans (h : RevokeStep R s t) (h' : RevokeStep R t u) : RevokeStep R s u :=
  ⟨h'.allocs.trans h.allocs, h'.inputs.trans h.inputs, h'.dies.trans h.dies,
    fun ha => (h.stores ha).trans (h'.stores (aligned_congr h.allocs ha))⟩

theorem modCtx_fields (s : State) (c : Nat) (f : Ctx → Ctx) : (s.modCtx c f).allocs = s.allocs ∧ (s.modCtx c f).inputs = s.inputs ∧
    (s.modCtx c f).dies = s.dies ∧ (s.modCtx c f).halves = s.halves ∧ (s.modCtx c f).hbm = s.hbm ∧ (s.modCtx c f).mem = s.mem := by
  unfold State.modCtx
  split
  · exact ⟨rfl, rfl, rfl, rfl, rfl, rfl⟩
  · exact ⟨rfl, rfl, rfl, rfl, rfl, rfl⟩

theorem storeOnly_fields (h : StoreOnly s t) : t.allocs = s.allocs ∧ t.inputs = s.inputs ∧ t.dies = s.dies := by
  rw [StoreOnly] at h
  exact ⟨(congrArg State.allocs h).trans rfl, (congrArg State.inputs h).trans rfl, (congrArg State.dies h).trans rfl⟩

theorem revokeMarked_step (s : State) (c : Nat) (g : Segment) : RevokeStep (s.entryList c g) s (revokeMarked s c g) := by
  obtain ⟨h1, h2, h3, h4, h5, h6⟩ := modCtx_fields s c fun x => x.marked g
  unfold revokeMarked
  generalize s.modCtx c (fun x => x.marked g) = v at h1 h2 h3 h4 h5 h6 ⊢
  split
  · obtain ⟨k1, k2, k3⟩ := storeOnly_fields (putDescriptor_storeOnly v c { g with revoked := true })
    refine ⟨k1.trans h1, k2.trans h2, k3.trans h3, fun ha => (storesIn_same h4 h5 h6).trans ?_⟩
    rw [← entryList_congr h1]
    exact storesIn_putDescriptor (aligned_congr h1 ha) c { g with revoked := true }
  · exact ⟨h1, h2, h3, fun _ => storesIn_same h4 h5 h6⟩

theorem revokeOn_step (n : Nat) (s : State) (c : Nat) (g : Segment) : RevokeStep (s.entryList c g) s (revokeOn n s c g) := by
  have hmark := revokeMarked_step s c g
  have hframe := (revokeOn_frame n s c g).1.1
  exact ⟨(congrArg State.allocs hframe :).trans hmark.allocs, (congrArg State.inputs hframe :).trans hmark.inputs,
    (congrArg State.dies hframe :).trans hmark.dies, fun ha => (hmark.stores ha).trans (storesIn_same (congrArg State.halves hframe :)
      (congrArg State.hbm hframe :) (congrArg State.mem hframe :))⟩

end Sys2Proof.Machine
end

section
/-! ## SEGMENT_REVOKE and RING_POLICY_n (R187, R190, R212) -/

namespace Sys2Proof.Machine

variable {s t u : State} {c n p : Nat} {x y : Ctx} {g k : Segment} {R : List Nat} {bs : List (Nat × Segment)}

/-! ### The revocations of a list -/

/-- The segments of a list revoked on input `n`. -/
def revokeEach (n : Nat) (s : State) (bs : List (Nat × Segment)) : State := bs.foldl (fun s b => revokeOn n s b.1 b.2) s

theorem revokeEach_cons (n : Nat) (s : State) (b : Nat × Segment) (bs : List (Nat × Segment)) :
    revokeEach n s (b :: bs) = revokeEach n (revokeOn n s b.1 b.2) bs := rfl

theorem revokeEach_step (n : Nat) (bs : List (Nat × Segment)) (hR : ∀ b ∈ bs, ∀ a ∈ s.entryList b.1 b.2, a ∈ R) :
    RevokeStep R s (revokeEach n s bs) := by
  induction bs generalizing s with
  | nil => exact revokeStep_refl R s
  | cons b bs ih =>
    have hone := revokeOn_step n s b.1 b.2
    have hfirst : RevokeStep R s (revokeOn n s b.1 b.2) :=
      ⟨hone.allocs, hone.inputs, hone.dies, fun ha => (hone.stores ha).mono (hR b List.mem_cons_self)⟩
    refine hfirst.trans (ih fun e he => ?_)
    rw [entryList_congr hone.allocs]
    exact hR e (List.mem_cons_of_mem b he)

/-- Revocations say so in the ring's status. -/
theorem revokeEach_status (n : Nat) (s : State) (hne : bs ≠ []) :
    bit ((revokeEach n s bs).get (inObj O.RING_STATUS_n n)) 0 = true := by
  induction bs generalizing s with
  | nil => exact absurd rfl hne
  | cons b bs ih =>
    rw [revokeEach_cons]
    cases bs with
    | nil => exact (revokeOn_frame n s b.1 b.2).2
    | cons e es => exact ih _ (List.cons_ne_nil e es)

/-- Whether a context holds segment `g` revoked, with its event, SEQ and entry. -/
def Ctx.shows (x : Ctx) (g : Segment) : Prop := ∃ h ∈ x.segments, h.revoked = true ∧ h.tm = g.tm ∧ h.seq = g.seq ∧ h.entry = g.entry

theorem segments_marked (x : Ctx) (k : Segment) :
    (x.marked k).segments = x.segments.map fun h => if h = k then { h with revoked := true } else h := by
  unfold Ctx.segments Ctx.marked
  rw [List.map_append]

theorem marked_shows (hg : g ∈ x.segments) : (x.marked g).shows g := by
  refine ⟨{ g with revoked := true }, ?_, rfl, rfl, rfl, rfl⟩
  rw [segments_marked, List.mem_map]
  exact ⟨g, hg, if_pos rfl⟩

/-- A segment that is revoked stays so. -/
theorem shows_marked (h : x.shows g) (k : Segment) : (x.marked k).shows g := by
  obtain ⟨q, hq, hrev, htm, hseq, hentry⟩ := h
  refine ⟨if q = k then { q with revoked := true } else q, ?_, ?_⟩
  · rw [segments_marked, List.mem_map]
    exact ⟨q, hq, rfl⟩
  · split
    · exact ⟨rfl, htm, hseq, hentry⟩
    · exact ⟨hrev, htm, hseq, hentry⟩

theorem mem_marked (h : g ∈ x.segments) (k : Segment) : g ∈ (x.marked k).segments ∨ (x.marked k).shows g := by
  by_cases he : g = k
  · subst he
    exact Or.inr (marked_shows h)
  · left
    rw [segments_marked, List.mem_map]
    exact ⟨g, h, if_neg he⟩

theorem revokeEach_shows (n : Nat) (bs : List (Nat × Segment)) (hx : s.ctx c = some x) (hg : g ∈ x.segments ∨ x.shows g) :
    ∃ y, (revokeEach n s bs).ctx c = some y ∧ ((c, g) ∈ bs ∨ x.shows g → y.shows g) := by
  induction bs generalizing s x with
  | nil => exact ⟨x, hx, fun h => h.resolve_left List.not_mem_nil⟩
  | cons b bs ih =>
    rw [revokeEach_cons]
    by_cases hb : b.1 = c
    · have hnext : (revokeOn n s b.1 b.2).ctx c = some (x.marked b.2) := by
        rw [hb]
        exact revokeOn_ctx hx n b.2
      have hkeep : g ∈ (x.marked b.2).segments ∨ (x.marked b.2).shows g :=
        hg.elim (fun h => mem_marked h b.2) fun h => Or.inr (shows_marked h b.2)
      obtain ⟨y, hy, hshow⟩ := ih hnext hkeep
      refine ⟨y, hy, fun h => hshow ?_⟩
      rcases h with h | h
      · rcases List.mem_cons.mp h with he | h
        · right
          rw [← he]
          exact hg.elim marked_shows fun h => shows_marked h g
        · exact Or.inl h
      · exact Or.inr (shows_marked h b.2)
    · have hnext : (revokeOn n s b.1 b.2).ctx c = some x :=
        ((worked_revokeOn (K := anyKept) (cs := [b.1]) rfl List.mem_cons_self n s b.2).others c (by simpa using fun h => hb h.symm)).trans hx
      obtain ⟨y, hy, hshow⟩ := ih hnext hg
      refine ⟨y, hy, fun h => hshow (h.imp (fun h => ?_) id)⟩
      rcases List.mem_cons.mp h with he | h
      · exact absurd (congrArg Prod.fst he).symm hb
      · exact h

/-! ### SEGMENT_REVOKE (R187, R212) -/

theorem mem_entries {b : Nat × Segment} {a : Nat} (hb : b ∈ bs) (ha : a ∈ s.entryList b.1 b.2) :
    a ∈ bs.flatMap fun b => s.entryList b.1 b.2 := by
  rw [List.mem_flatMap]
  exact ⟨b, hb, ha⟩

theorem segmentRevoke_revokes (hn : n < s.D) (hr : (s.input n).ring = .writing) : Answers (.segmentRevoke n) s fun t =>
      (∀ c x g, s.ctx c = some x → g ∈ x.segments → (c, g) ∈ s.toRevoke n →
        ∃ y h, t.ctx c = some y ∧ h ∈ y.segments ∧ h.revoked = true ∧ h.tm = g.tm ∧ h.seq = g.seq ∧ h.entry = g.entry) ∧
      (s.toRevoke n ≠ [] → bit (t.get (inObj O.RING_STATUS_n n)) 0 = true) ∧
      t.inputs = s.inputs ∧ t.dies = s.dies ∧
      (s.TablesAligned → MemBut ((s.toRevoke n).flatMap fun b => s.entryRange b.1 b.2) s t) := by
  have hexec : exec (.segmentRevoke n) s = done (revokeEach n s (s.toRevoke n)) := by
    rw [exec_segmentRevoke, execSegmentRevoke, if_pos ⟨by simpa [State.fitted] using hn, hr⟩]
    rfl
  refine answers_done hexec ?_
  generalize s.toRevoke n = bs
  have hR : ∀ b ∈ bs, ∀ a ∈ s.entryList b.1 b.2, a ∈ bs.flatMap fun b => s.entryList b.1 b.2 := by
    intro b hb a ha
    exact mem_entries hb ha
  have hstep : RevokeStep (bs.flatMap fun b => s.entryList b.1 b.2) s (revokeEach n s bs) := revokeEach_step n bs hR
  obtain ⟨hlt, hfree⟩ := ringObj_free (o := O.RING_STATUS_n) (fitted_lt hn) (by decide)
  refine ⟨fun c x g hx hg hm => ?_, fun hne => ?_, ?_, ?_, fun ha => ?_⟩
  · obtain ⟨y, hy, hshow⟩ := revokeEach_shows n bs hx (Or.inl hg)
    obtain ⟨h, hh, hrest⟩ := hshow (Or.inl hm)
    exact ⟨y, h, (ctx_settle c).trans hy, hh, hrest⟩
  · rw [State.get_eq, obj_settle_of _ _ _ hlt hfree]
    exact revokeEach_status n s hne
  · rw [settle_inputs]
    exact hstep.inputs
  · rw [settle_dies]
    exact hstep.dies
  · have hall : StoresIn (bs.flatMap fun b => s.entryList b.1 b.2) s (settle (revokeEach n s bs)) :=
      (hstep.stores ha).trans (storesIn_same (settle_halves _) (settle_hbm _) (settle_mem _))
    have hbut := hall.memBut fun a hm => by
      obtain ⟨b, -, hb⟩ := List.mem_flatMap.mp hm
      exact entryList_aligned ha a hb
    rw [List.map_flatMap] at hbut
    exact hbut

theorem segmentRevoke_idle (hr : (s.input n).ring ≠ .writing) : Answers (.segmentRevoke n) s fun t => OnlyObjs [] s t := by
  refine answers_idle ?_
  rw [exec_segmentRevoke, execSegmentRevoke]
  exact congrArg done (if_neg fun h => hr h.2)

theorem afterReleases_none (h : ∀ i ∈ s.pending.head?, waitingRelease s i = none) : afterReleases s.pending s = s := by
  cases hp : s.pending with
  | nil => rfl
  | cons i l =>
    rw [hp] at h
    have hi := h i (by simp)
    rw [afterReleases, hi]

/-- Under Keep newest, with no release to come first, exactly the blockers of the ring's own input are revoked. -/
theorem mem_toRevoke (h : ∀ i ∈ s.pending.head?, waitingRelease s i = none) (hp : s.num (inObj O.RING_POLICY_n n) = 0)
    (b : Nat × Segment) : b ∈ s.toRevoke n ↔ b ∈ s.blockers n ∧ b.2.input = n := by
  unfold State.toRevoke
  rw [afterReleases_none h, List.mem_filter]
  refine and_congr_right fun hb => ?_
  have hself : ((s.blockers n).any fun r => r.1 == b.1 && r.2.tm == b.2.tm) = true :=
    List.any_eq_true.mpr ⟨b, hb, by simp⟩
  rw [hself, Bool.and_true, State.revocable, hp]
  simp

end Sys2Proof.Machine
end

section
/-! ## The policy of a ring (R190) -/

namespace Sys2Proof.Machine

variable {s t u : State} {c n p : Nat} {x : Ctx} {v : Slot}

theorem segPins_put (s : State) (k : Nat) (v : Slot) : (s.put k v).segPins = s.segPins := rfl

theorem ringLinesFor_policy (s : State) (n : Nat) (v : Slot) : (s.put (inObj O.RING_POLICY_n n) v).ringLinesFor = s.ringLinesFor := by
  have hmib : (s.put (inObj O.RING_POLICY_n n) v).ringMib = s.ringMib := by
    funext d
    have hne : objKey 0 (inObj O.RING_MIB_n d) ≠ objKey 0 (inObj O.RING_POLICY_n n) := by
      simp only [objKey, inObj, O.RING_MIB_n, O.RING_POLICY_n]
      omega
    rw [State.ringMib, State.num_eq, State.put_eq, State.obj_setObj_ne _ _ _ _ _ _ hne, ← State.num_eq, ← State.ringMib]
  funext ms
  unfold State.ringLinesFor State.regionSheets
  rw [hmib]

/-- The pins of a line do not hang on the policy of its ring. -/
theorem blockers_policy (s : State) (n : Nat) (v : Slot) : (s.put (inObj O.RING_POLICY_n n) v).blockers n = s.blockers n := by
  have hslot : (s.put (inObj O.RING_POLICY_n n) v).nextSlot n = s.nextSlot n := by
    unfold State.nextSlot
    rw [ringLinesFor_policy]
    rfl
  unfold State.blockers
  rw [hslot, segPins_put]
  rfl

theorem decUnpin_running (hx : ∀ x, s.ctx c = some x → x.dec.paused = false) (n : Nat) : decUnpin n s c = s := by
  unfold decUnpin
  split
  · rfl
  · next x hc =>
    split
    · exact if_neg fun h => absurd ((hx x hc).symm.trans h.1) Bool.false_ne_true
    · rfl

theorem decUnpin_none (hx : ∀ c x, s.ctx c = some x → x.dec.paused = false) (n : Nat) (cs : List Nat) : cs.foldl (decUnpin n) s = s := by
  induction cs with
  | nil => rfl
  | cons c cs ih => rw [List.foldl_cons, decUnpin_running (hx c) n, ih]

/-- What the end of the pins of a ring's own input leaves. -/
structure Unpinned (n : Nat) (s t : State) : Prop where
  policy : t.get (inObj O.RING_POLICY_n n) = s.get (inObj O.RING_POLICY_n n)
  status : bit (s.get (inObj O.RING_STATUS_n n)) 0 = true → bit (t.get (inObj O.RING_STATUS_n n)) 0 = true
  inputs : t.inputs = s.inputs
  dies : t.dies = s.dies

theorem unpinned_refl (n : Nat) (s : State) : Unpinned n s s := ⟨rfl, id, rfl, rfl⟩

theorem Unpinned.trans (h : Unpinned n s t) (h' : Unpinned n t u) : Unpinned n s u :=
  ⟨h'.policy.trans h.policy, fun hb => h'.status (h.status hb), h'.inputs.trans h.inputs, h'.dies.trans h.dies⟩

theorem unpinned_setCtx (n : Nat) (s : State) (c : Nat) (x : Ctx) : Unpinned n s (s.setCtx c x) := ⟨rfl, id, rfl, rfl⟩

/-- The policy of a ring is an object that no work in flight writes. -/
theorem ringPolicy_unworked (h8 : n < 8) : workObj (inObj O.RING_POLICY_n n) = false := by
  have hlow : (O.RING_POLICY_n + n * 0x10000) % 65536 = 0x4001 := by simp only [O.RING_POLICY_n]; omega
  unfold workObj inObj
  rw [hlow]
  simp only [O.RING_POLICY_n, O.CTX_STATUS, O.CTX_STATE_TM, O.CTX_SUSPEND_CAUSE, O.TRIG_LATENCY, O.SEG_REVOKED_COUNT, O.ASSAY_STATUS,
    O.ASSAY_ABSENT]
  simp
  omega

theorem unpinned_revokeOn (h8 : n < 8) (s : State) (c : Nat) (g : Segment) : Unpinned n s (revokeOn n s c g) := by
  obtain ⟨hlt, hfree⟩ := ringObj_free (o := O.RING_POLICY_n) h8 (by decide)
  have hw := worked_revokeOn (K := anyKept) (cs := [c]) rfl List.mem_cons_self n s g
  have hstep := revokeOn_step n s c g
  exact ⟨hw.objs 0 _ hlt (ringPolicy_unworked h8) hfree, fun _ => (revokeOn_frame n s c g).2, hstep.inputs, hstep.dies⟩

theorem unpinned_foldl {α : Type} (l : List α) (f : State → α → State) (hf : ∀ v a, Unpinned n v (f v a)) (s : State) :
    Unpinned n s (l.foldl f s) := by
  induction l generalizing s with
  | nil => exact unpinned_refl n s
  | cons a l ih => exact (hf s a).trans (ih (f s a))

theorem unpinned_revokeEach (h8 : n < 8) (s : State) (bs : List (Nat × Segment)) : Unpinned n s (revokeEach n s bs) :=
  unpinned_foldl bs (fun s b => revokeOn n s b.1 b.2) (fun v b => unpinned_revokeOn h8 v b.1 b.2) s

theorem unpinned_decFreed (n : Nat) (s : State) (c : Nat) : Unpinned n s (decFreed s c) := by
  rcases decFreed_setCtx s c with he | ⟨x, y, -, he, -⟩
  · rw [he]
    exact unpinned_refl n s
  · rw [he]
    exact unpinned_setCtx n s c y

theorem unpinned_decUnpin (h8 : n < 8) (s : State) (c : Nat) : Unpinned n s (decUnpin n s c) := by
  unfold decUnpin
  split
  · exact unpinned_refl n s
  · split
    · split
      · exact (unpinned_foldl _ _ (fun v g => unpinned_revokeOn h8 v c g) s).trans (unpinned_decFreed n _ c)
      · exact unpinned_refl n s
    · exact unpinned_refl n s

/-! ### The write -/

/-- The state after RING_POLICY_n has gone to Keep newest (R190). -/
def policyNewest (s : State) (n : Nat) : State :=
  let s := if (s.input n).ring = .paused then revokeBlockers s n else s
  (s.ctxs.map Prod.fst).foldl (decUnpin n) s

theorem ringPolicyWrite_ok (ho : ownerOf p = s.claimant n) (hv : v.toNat ≤ 1) :
    ringPolicyWrite s p n v = .ok (if v = 0 then policyNewest (s.put (inObj O.RING_POLICY_n n) v) n
      else s.put (inObj O.RING_POLICY_n n) v) := by
  rw [ringPolicyWrite, claimantOnly_pos ho, need_pos _ (decide_eq_true hv)]
  dsimp only
  split
  · rfl
  · rfl

theorem policyNewest_running (hr : (s.input n).ring ≠ .paused) (hx : ∀ c x, s.ctx c = some x → x.dec.paused = false) :
    policyNewest s n = s := by
  unfold policyNewest
  dsimp only
  rw [if_neg hr]
  exact decUnpin_none hx n _

theorem put_get (s : State) (k : Nat) (v : Slot) : (s.put k v).get k = v := State.obj_setObj_self _ _ _ _

theorem policyNewest_ends (h8 : n < 8) (hr : (s.input n).ring = .paused) (hp : s.get (inObj O.RING_POLICY_n n) = 0) :
    Unpinned n s (policyNewest s n) ∧
      ((∃ b ∈ s.blockers n, b.2.input = n) → bit ((policyNewest s n).get (inObj O.RING_STATUS_n n)) 0 = true) := by
  have hend : policyNewest s n = ((revokeBlockers s n).ctxs.map Prod.fst).foldl (decUnpin n) (revokeBlockers s n) := by
    unfold policyNewest
    dsimp only
    rw [if_pos hr]
  have hfirst : Unpinned n s (revokeBlockers s n) := unpinned_revokeEach h8 s _
  have hsecond : Unpinned n (revokeBlockers s n) (policyNewest s n) := by
    rw [hend]
    exact unpinned_foldl _ (decUnpin n) (unpinned_decUnpin h8) _
  refine ⟨hfirst.trans hsecond, ?_⟩
  rintro ⟨b, hb, hbn⟩
  have hrev : s.revocable n b.2 = true := by
    rw [State.revocable, hbn, State.num_eq, ← State.get_eq, hp]
    simp
  exact hsecond.status (revokeEach_status n s (List.ne_nil_of_mem (List.mem_filter.mpr ⟨hb, hrev⟩)))

theorem policyNewest_settled {P : Prop} (h8 : n < 8) (h : Unpinned n t u) (hp : t.get (inObj O.RING_POLICY_n n) = 0)
    (hi : t.inputs = s.inputs) (hd : t.dies = s.dies) (hs : P → bit (u.get (inObj O.RING_STATUS_n n)) 0 = true) :
    (settle u).get (inObj O.RING_POLICY_n n) = 0 ∧ (P → bit ((settle u).get (inObj O.RING_STATUS_n n)) 0 = true) ∧
      (settle u).inputs = s.inputs ∧ (settle u).dies = s.dies := by
  obtain ⟨hlt, hfree⟩ := ringObj_free (o := O.RING_POLICY_n) h8 (by decide)
  obtain ⟨hlt2, hfree2⟩ := ringObj_free (o := O.RING_STATUS_n) h8 (by decide)
  refine ⟨?_, fun hb => ?_, ?_, ?_⟩
  · rw [State.get_eq, obj_settle_of _ _ _ hlt hfree]
    exact h.policy.trans hp
  · rw [State.get_eq, obj_settle_of _ _ _ hlt2 hfree2]
    exact hs hb
  · rw [settle_inputs]
    exact h.inputs.trans hi
  · rw [settle_dies]
    exact h.dies.trans hd

section

variable (h : Served s p) (hn : n < s.D) (ho : ownerOf p = s.claimant n)
include h hn ho

theorem ringPolicy_sets (hv : v.toNat ≤ 1) (hr : (s.input n).ring ≠ .paused)
    (hx : v = 1 ∨ ∀ c x, s.ctx c = some x → x.dec.paused = false) : Answers (.ringPolicyWrite p n v) s fun t =>
      t.get (inObj O.RING_POLICY_n n) = v ∧ OnlyObjs [objKey 0 (inObj O.RING_POLICY_n n)] s t := by
  obtain ⟨hlt, hfree⟩ := ringObj_free (o := O.RING_POLICY_n) (fitted_lt hn) (by decide)
  have hend : (if v = 0 then policyNewest (s.turned.put (inObj O.RING_POLICY_n n) v) n else s.turned.put (inObj O.RING_POLICY_n n) v) =
      s.turned.put (inObj O.RING_POLICY_n n) v := by
    split
    · next h0 =>
      refine policyNewest_running (s := s.turned.put (inObj O.RING_POLICY_n n) v) hr (hx.resolve_left fun h1 => ?_)
      rw [h0] at h1
      exact absurd h1 (by decide)
    · rfl
  refine answers_access (exec_ringPolicy (fitted_lt hn)) h (ringObj_present hn (by decide))
    ((ringPolicyWrite_ok (s := s.turned) ho hv).trans (congrArg Acc.ok hend)) ⟨?_, ?_⟩
  · rw [State.get_eq, obj_settle_of _ _ _ hlt hfree]
    exact State.obj_setObj_self _ _ _ _
  · exact ((onlyObjs_turned _).put (j := 0) (k := inObj O.RING_POLICY_n n) (by simp) v).settled

theorem ringPolicy_newest (hr : (s.input n).ring = .paused) : Answers (.ringPolicyWrite p n 0) s fun t =>
      t.get (inObj O.RING_POLICY_n n) = 0 ∧
      ((∃ b ∈ s.blockers n, b.2.input = n) → bit (t.get (inObj O.RING_STATUS_n n)) 0 = true) ∧
      t.inputs = s.inputs ∧ t.dies = s.dies := by
  have h8 := fitted_lt hn
  refine answers_access (exec_ringPolicy h8) h (ringObj_present hn (by decide))
    ((ringPolicyWrite_ok (s := s.turned) ho (by decide)).trans (congrArg Acc.ok (if_pos rfl))) ?_
  obtain ⟨hall, hstatus⟩ := policyNewest_ends (s := s.turned.put (inObj O.RING_POLICY_n n) 0) h8 hr (put_get s.turned _ 0)
  rw [blockers_policy] at hstatus
  exact policyNewest_settled h8 hall (put_get s.turned _ 0) rfl rfl hstatus

end

end Sys2Proof.Machine
end

section
/-! ## The sheets of a line (R184, R198) -/

namespace Sys2Proof.Machine

variable {s t u v : State} {n o d : Nat}

/-! ### Units of different dies stand apart -/

/-- The units of a half. -/
theorem halfBytes_units : halfBytes = 0xC000000 * 64 := rfl

theorem spareUnit_lt {k : Nat} (h : k < reserveUnit) : spareUnit (unitPc k) k < 0xC000000 := by
  have hpc : ∀ i, ((List.range 16).filter (· ≠ unitPc k)).getD i 0 < 16 := fun i => by
    rw [List.getD_eq_getElem?_getD]
    cases hi : ((List.range 16).filter (· ≠ unitPc k))[i]? with
    | none => decide
    | some q => exact List.mem_range.mp (List.mem_filter.mp (List.mem_of_getElem? hi)).1
  have hk := hpc (k / 16 % 15)
  unfold spareUnit spareTarget
  dsimp only
  generalize ((List.range 16).filter (· ≠ unitPc k)).getD (k / 16 % 15) 0 = pc at hk ⊢
  unfold reserveUnit at h
  omega

theorem physUnit_lt (s : State) (d : Nat) {k : Nat} (h : k < 0xC000000) : s.physUnit d k < 0xC000000 := by
  have hwrite : (s.half d).writeUnit k < 0xC000000 := by
    unfold HalfCtl.writeUnit
    split
    · next hk => exact spareUnit_lt hk.2
    · exact h
  unfold State.physUnit
  dsimp only
  split
  · exact h
  · exact hwrite

theorem capAddr_half (d : Nat) (ho : o < halfBytes) : capAddr d o / halfBytes = d ∧ capAddr d o % halfBytes = o := by
  simp only [capAddr, halfBytes] at ho ⊢
  omega

/-- Every byte of a half stands in it. -/
theorem phys_half (s : State) (d : Nat) (ho : o < halfBytes) : s.phys (capAddr d o) / halfBytes = d := by
  obtain ⟨h1, h2⟩ := capAddr_half d ho
  have hlt : s.physUnit d (o / 64) < 0xC000000 := physUnit_lt s d (by rw [halfBytes_units] at ho; omega)
  unfold State.phys
  dsimp only
  rw [h1, h2]
  refine (capAddr_half d ?_).1
  rw [halfBytes_units]
  omega

theorem phys_apart (s : State) {d e : Nat} (hne : d ≠ e) (ho : o < halfBytes) :
    s.phys (capAddr d o) / 64 ≠ s.phys (capAddr e o) / 64 := by
  intro h
  have hd := phys_half s d ho
  have he := phys_half s e ho
  rw [halfBytes_units, Nat.mul_comm, ← Nat.div_div_eq_div_mul] at hd he
  exact hne (hd.symm.trans ((congrArg (· / 0xC000000) h).trans he))

theorem capAddr_aligned (d : Nat) (ho : o % 64 = 0) : capAddr d o % 64 = 0 := by
  simp only [capAddr, halfBytes]
  omega

/-! ### Stores at one place of several dies -/

theorem readN_congr {m m' : List Host.Cell} {a k : Nat} (h : ∀ b, a ≤ b → b < a + k → Memory.read m b = Memory.read m' b) :
    Memory.readN m a k = Memory.readN m' a k := by
  induction k generalizing a with
  | zero => rfl
  | succ k ih => rw [Memory.readN, Memory.readN, h a (Nat.le_refl a) (by omega), ih fun b h1 h2 => h b (by omega) (by omega)]

/-- A unit that stands where writes of it go to reads as before where other units are written. -/
theorem StoresIn.peekN {R : List Nat} {a : Nat} (h : StoresIn R s t) (hp : s.Placed a) (ha : a % 64 = 0)
    (hR : ∀ b ∈ R, t.phys a / 64 ≠ t.phys b / 64) : t.peekN a 64 = s.peekN a 64 := by
  obtain ⟨as, has, hstep⟩ := h
  have hphys := hstep.phys hp
  have hmod := phys_mod t a
  rw [State.peekN, State.peekN, hphys]
  refine readN_congr fun b h1 h2 => hstep.mem b fun c hc => ?_
  have hne := hR c (has c hc)
  rw [hphys] at hmod hne
  have hb : b / 64 = s.phys a / 64 := by omega
  rw [hb]
  exact hne

/-- A place of the dies of a list, each with what it takes. -/
def storeEach (o : Nat) (f : Nat × Nat → List Byte) (s : State) (l : List (Nat × Nat)) : State :=
  l.foldl (fun s q => s.store (capAddr q.2 o) (f q)) s

theorem storeEach_cons (o : Nat) (f : Nat × Nat → List Byte) (s : State) (q : Nat × Nat) (l : List (Nat × Nat)) :
    storeEach o f s (q :: l) = storeEach o f (s.store (capAddr q.2 o) (f q)) l := rfl

theorem storeEach_storesIn {f : Nat × Nat → List Byte} (ho : o % 64 = 0) (hf : ∀ q, (f q).length = 64) (l : List (Nat × Nat)) (s : State) :
    StoresIn (l.map fun q => capAddr q.2 o) s (storeEach o f s l) := by
  induction l generalizing s with
  | nil => exact storesIn_same rfl rfl rfl
  | cons q l ih =>
    have hfirst : StoresIn ((q :: l).map fun q => capAddr q.2 o) s (s.store (capAddr q.2 o) (f q)) :=
      storesIn_store (capAddr_aligned q.2 ho) (hf q) List.mem_cons_self
    exact hfirst.trans ((ih (s.store (capAddr q.2 o) (f q))).mono fun a ha => List.mem_cons_of_mem _ ha)

theorem storeEach_reads {f : Nat × Nat → List Byte} (ho : o % 64 = 0) (hh : o < halfBytes) (hf : ∀ q, (f q).length = 64)
    (l : List (Nat × Nat)) (s : State) (hl : (l.map Prod.snd).Nodup) :
    ∀ q ∈ l, s.lostUnit (capAddr q.2 o) = false → (storeEach o f s l).peekN (capAddr q.2 o) 64 = f q := by
  induction l generalizing s with
  | nil => exact fun q hq => absurd hq List.not_mem_nil
  | cons r l ih =>
    intro q hq hlost
    rw [List.map_cons, List.nodup_cons] at hl
    have halign := capAddr_aligned r.2 ho
    rcases List.mem_cons.mp hq with he | hin
    · subst he
      obtain ⟨hstep, hpeek⟩ := store_stored hlost halign (hf q)
      have hplaced := hstep.placed _ (List.mem_singleton_self _)
      have hrest := storeEach_storesIn ho hf l (s.store (capAddr q.2 o) (f q))
      refine (hrest.peekN hplaced halign fun b hb => ?_).trans hpeek
      obtain ⟨e, he, rfl⟩ := List.mem_map.mp hb
      refine phys_apart _ (fun heq => hl.1 ?_) hh
      rw [heq]
      exact List.mem_map_of_mem he
    · refine ih (s.store (capAddr r.2 o) (f r)) hl.2 q hin ?_
      cases hr : s.lostUnit (capAddr r.2 o) with
      | true => rw [(store_lost hr halign (hf r)).lostUnit]; exact hlost
      | false => rw [(store_stored hr halign (hf r)).1.lostUnit]; exact hlost

theorem storeEach_storeOnly (o : Nat) (f : Nat × Nat → List Byte) (s : State) (l : List (Nat × Nat)) : StoreOnly s (storeEach o f s l) := by
  induction l generalizing s with
  | nil => exact storeOnly_refl s
  | cons q l ih => exact (store_storeOnly s _ _).trans (ih _)

/-! ### The sheets (R184, R72) -/

/-- The sheet of member `q.2` of input `n`, in place `q.1` of the deal order, over the base periods `b` to `b + len - 1`. -/
def State.takenSheet (s : State) (n b len : Nat) (disc : Bool) (volts : List Int) (q : Nat × Nat) : List Byte :=
  if (s.input n).voidDies.contains q.2 then voidSheet
  else sampleSheet (s.sheetCodes n b q.1 q.2 volts) (s.die q.2).sparesInUse (disc || (s.die q.2).discNext) (s.calMark q.2 b len)

theorem sampleSheet_length (codes : List Int) (k : Nat) (disc cal : Bool) : (sampleSheet codes k disc cal).length = 64 := by
  rw [sampleSheet, sheetOf, packFields, List.length_append, leBytes_length, leBytes_length]

theorem takenSheet_length (s : State) (n b len : Nat) (disc : Bool) (volts : List Int) (q : Nat × Nat) :
    (s.takenSheet n b len disc volts q).length = 64 := by
  unfold State.takenSheet
  split
  · exact sampleSheet_length _ _ _ _
  · exact sampleSheet_length _ _ _ _

theorem takenSheet_stored (h : StoreOnly s t) (n b len : Nat) (disc : Bool) (volts : List Int) (q : Nat × Nat) :
    t.takenSheet n b len disc volts q = s.takenSheet n b len disc volts q := by
  rw [StoreOnly] at h
  generalize t.mem = m at h
  generalize t.halves = hs at h
  generalize t.hbm = k at h
  rw [h]
  rfl

theorem writeSheet_eq (n slot b len : Nat) (disc : Bool) (volts : List Int) (s : State) (q : Nat × Nat) :
    writeSheet n slot b len disc volts s q = s.store (capAddr q.2 (slot * 64)) (s.takenSheet n b len disc volts q) := rfl

theorem writeSheet_from (h : StoreOnly s v) (n slot b len : Nat) (disc : Bool) (volts : List Int) (q : Nat × Nat) :
    writeSheet n slot b len disc volts v q = v.store (capAddr q.2 (slot * 64)) (s.takenSheet n b len disc volts q) := by
  rw [← takenSheet_stored h, writeSheet_eq]

theorem foldl_storeEach {f : State → Nat × Nat → State} {o : Nat} {g : Nat × Nat → List Byte}
    (hf : ∀ v, StoreOnly s v → ∀ q, f v q = v.store (capAddr q.2 o) (g q)) (l : List (Nat × Nat)) (v : State) (hv : StoreOnly s v) :
    l.foldl f v = storeEach o g v l := by
  induction l generalizing v with
  | nil => rfl
  | cons q l ih =>
    rw [List.foldl_cons, hf v hv, storeEach_cons]
    exact ih _ (hv.trans (store_storeOnly v _ _))

/-- The sheets of a line are those that the dies fill before it. -/
theorem writeSheets_eq (n slot b len : Nat) (disc : Bool) (volts : List Int) (l : List (Nat × Nat)) (s : State) :
    l.foldl (writeSheet n slot b len disc volts) s = storeEach (slot * 64) (s.takenSheet n b len disc volts) s l :=
  foldl_storeEach (fun _ hv q => writeSheet_from hv n slot b len disc volts q) l s (storeOnly_refl s)

theorem dealt_dies (ms : List Nat) : (dealt ms).map Prod.snd = ms := by
  rw [dealt]
  exact List.map_snd_zip (by simp)

end Sys2Proof.Machine
end

section
/-! ## SHEET_WRITE (R184, R185), and O35 -/

namespace Sys2Proof.Machine

variable {s t u v : State} {n : Nat} {volts : List Int} {e : Epoch} {es : List Epoch}

/-! ### What the consumers of a line change -/

/-- The place of the writer of a ring. -/
def Input.writer (x : Input) : Nat × Bool × List Epoch := (x.slot, x.served, x.epochs)

/-- Between `s` and `t` the consumers of a line of input `n` took it: capture memory, the writer of the ring and the other inputs are as
before. -/
structure LineKept (n : Nat) (s t : State) : Prop where
  memory : t.mem = s.mem ∧ t.halves = s.halves ∧ t.hbm = s.hbm
  length : t.inputs.length = s.inputs.length
  writer : (t.input n).writer = (s.input n).writer
  others : ∀ m, m ≠ n → t.input m = s.input m

theorem lineKept_refl (n : Nat) (s : State) : LineKept n s s := ⟨⟨rfl, rfl, rfl⟩, rfl, rfl, fun _ _ => rfl⟩

theorem LineKept.trans (h : LineKept n s t) (h' : LineKept n t u) : LineKept n s u :=
  ⟨⟨h'.memory.1.trans h.memory.1, h'.memory.2.1.trans h.memory.2.1, h'.memory.2.2.trans h.memory.2.2⟩, h'.length.trans h.length,
    h'.writer.trans h.writer, fun m hm => (h'.others m hm).trans (h.others m hm)⟩

theorem lineKept_inputs (hi : t.inputs = s.inputs) (hm : t.mem = s.mem) (hh : t.halves = s.halves) (hk : t.hbm = s.hbm) : LineKept n s t := by
  have hin : ∀ m, t.input m = s.input m := fun m => by rw [State.input, State.input, hi]
  exact ⟨⟨hm, hh, hk⟩, by rw [hi], by rw [hin], fun m _ => hin m⟩

theorem lineKept_setInput {x : Input} (hl : n < s.inputs.length) (hx : x.writer = (s.input n).writer) : LineKept n s (s.setInput n x) := by
  refine ⟨⟨rfl, rfl, rfl⟩, by simp [State.setInput], ?_, fun m hm => input_setInput_other hm hl x⟩
  rw [input_setInput_self hl, hx]

/-- What evaluators and a running capture change as they take samples. -/
def FedOnly (s t : State) : Prop := t = { s with ctxs := t.ctxs, faults := t.faults, freeCtr := t.freeCtr }

theorem fedOnly_refl (s : State) : FedOnly s s := rfl

theorem FedOnly.trans (h : FedOnly s t) (h' : FedOnly t u) : FedOnly s u := by
  rw [FedOnly] at h h' ⊢
  rw [h', h]

theorem FedOnly.kept (h : FedOnly s t) : LineKept n s t := by
  rw [FedOnly] at h
  exact lineKept_inputs ((congrArg State.inputs h).trans rfl) ((congrArg State.mem h).trans rfl) ((congrArg State.halves h).trans rfl)
    ((congrArg State.hbm h).trans rfl)

theorem FedOnly.cN (h : FedOnly s t) (c k : Nat) : t.cN c k = s.cN c k := by
  rw [FedOnly] at h
  rw [h]
  rfl

theorem fedOnly_modCtx (s : State) (c : Nat) (f : Ctx → Ctx) : FedOnly s (s.modCtx c f) := by
  unfold State.modCtx
  split
  · rfl
  · rfl

theorem fedOnly_feedOne (s : State) (c src : Nat) (pair : Nat → Int × Int) (l : List Taken) : FedOnly s (feedOne s c src pair l) :=
  fedOnly_modCtx s c _

theorem fedOnly_feedCtx (n : Nat) (l : List Taken) (gaps : List Nat) (s : State) (c : Nat) : FedOnly s (feedCtx n l gaps s c) := by
  unfold feedCtx
  split
  · rfl
  · split
    · dsimp only
      have hgap := fedOnly_modCtx s c fun x => gaps.foldl Ctx.gapAt (x.carry (uniq (l.map Prod.fst)))
      generalize s.modCtx c (fun x => gaps.foldl Ctx.gapAt (x.carry (uniq (l.map Prod.fst)))) = v at hgap ⊢
      have hfirst : FedOnly v (if s.cN c O.TRIG_TYPE = 7 ∨ s.cN c O.TRIG_TYPE = 8 ∨ s.cN c O.TRIG_SOURCE = n then
          feedOne v c n (v.linePair c n false l) l else v) := by
        split
        · exact fedOnly_feedOne _ _ _ _ _
        · exact fedOnly_refl v
      generalize (if s.cN c O.TRIG_TYPE = 7 ∨ s.cN c O.TRIG_TYPE = 8 ∨ s.cN c O.TRIG_SOURCE = n then
          feedOne v c n (v.linePair c n false l) l else v) = w at hfirst ⊢
      split
      · exact (hgap.trans hfirst).trans (fedOnly_feedOne _ _ _ _ _)
      · exact hgap.trans hfirst
    · rfl

theorem fedOnly_capSample (low high : Int) (s : State) (q : Int) : FedOnly s (capSample low high s q) := by
  unfold capSample
  split
  · dsimp only
    split
    · rfl
    · split
      · rfl
      · rfl
  · rfl

theorem fedOnly_foldl {α : Type} (l : List α) (f : State → α → State) (hf : ∀ v a, FedOnly v (f v a)) (s : State) : FedOnly s (l.foldl f s) := by
  induction l generalizing s with
  | nil => exact fedOnly_refl s
  | cons a l ih => exact (hf s a).trans (ih (f s a))

theorem fedOnly_capLine (n : Nat) (l : List Taken) (s : State) : FedOnly s (capLine n l s) := by
  unfold capLine
  split
  · split
    · exact fedOnly_foldl _ _ (fun v y => fedOnly_capSample _ _ v _) s
    · rfl
  · rfl

theorem decLine_undecimated {t len : Nat} {disc : Bool} {marked ms : List Nat} {l : List Taken} {c : Nat}
    (h : s.cN c O.CTX_INPUT = n → s.cN c O.DEC_MODE = 0) : decLine n t len disc marked ms l s c = s := by
  unfold decLine
  split
  · rfl
  · exact if_neg fun hh => hh.2.2.2.1 (h hh.2.2.2.2)

theorem decLines_undecimated {t len : Nat} {disc : Bool} {marked ms : List Nat} {l : List Taken} {cs : List Nat}
    (h : ∀ c ∈ cs, s.cN c O.CTX_INPUT = n → s.cN c O.DEC_MODE = 0) : cs.foldl (decLine n t len disc marked ms l) s = s := by
  induction cs with
  | nil => rfl
  | cons c cs ih =>
    rw [List.foldl_cons, decLine_undecimated (h c List.mem_cons_self), ih fun d hd => h d (List.mem_cons_of_mem c hd)]

/-- The consumers of a line that no context decimates. -/
theorem lineKept_consume {b len : Nat} {l : List Taken} (hl : n < s.inputs.length)
    (hdec : ∀ q ∈ s.ctxs, s.cN q.1 O.CTX_INPUT = n → s.cN q.1 O.DEC_MODE = 0) : LineKept n s (consume s n b len l) := by
  unfold consume
  dsimp only
  have htaps := lineKept_setInput (s := s) (n := n) (x := { s.input n with
    taps := (l.map Prod.snd).reverse ++ (s.input n).taps, tapGaps := (s.lineGaps n b).reverse ++ (s.input n).tapGaps }) hl rfl
  have hdec1 : ∀ c ∈ (s.setInput n { s.input n with
      taps := (l.map Prod.snd).reverse ++ (s.input n).taps, tapGaps := (s.lineGaps n b).reverse ++ (s.input n).tapGaps }).ctxs.map Prod.fst,
      (s.setInput n { s.input n with
        taps := (l.map Prod.snd).reverse ++ (s.input n).taps, tapGaps := (s.lineGaps n b).reverse ++ (s.input n).tapGaps }).cN c
        O.CTX_INPUT = n → (s.setInput n { s.input n with
          taps := (l.map Prod.snd).reverse ++ (s.input n).taps, tapGaps := (s.lineGaps n b).reverse ++ (s.input n).tapGaps }).cN c
        O.DEC_MODE = 0 := by
    intro c hc
    obtain ⟨q, hq, rfl⟩ := List.mem_map.mp hc
    exact hdec q hq
  generalize s.setInput n { s.input n with
    taps := (l.map Prod.snd).reverse ++ (s.input n).taps, tapGaps := (s.lineGaps n b).reverse ++ (s.input n).tapGaps } = v at htaps hdec1 ⊢
  have hfed : FedOnly v ((v.ctxs.map Prod.fst).foldl (feedCtx n l (s.lineGaps n b)) (capLine n l v)) :=
    (fedOnly_capLine n l v).trans (fedOnly_foldl _ _ (fedOnly_feedCtx n l _) _)
  have hfin := decLines_undecimated (s := (v.ctxs.map Prod.fst).foldl (feedCtx n l (s.lineGaps n b)) (capLine n l v)) (n := n) (t := b)
    (len := len) (disc := (s.input n).discNext) (marked := s.markedDies n) (ms := (s.input n).members) (l := l) (cs := v.ctxs.map Prod.fst)
    fun c hc => by rw [hfed.cN, hfed.cN]; exact hdec1 c hc
  rw [hfin]
  generalize (v.ctxs.map Prod.fst).foldl (feedCtx n l (s.lineGaps n b)) (capLine n l v) = w at hfed ⊢
  have hall := htaps.trans hfed.kept
  exact hall.trans (lineKept_setInput (by rw [hall.length]; exact hl) rfl)

theorem lineKept_noteOver (s : State) (n : Nat) (l : List Taken) : LineKept n s (noteOver s n l) := by
  unfold noteOver
  split
  · exact lineKept_inputs rfl rfl rfl rfl
  · exact lineKept_refl n s

theorem lineKept_runTo (s : State) (n a : Nat) : LineKept n s (s.runTo a) := by
  rw [runTo_eq]
  exact lineKept_inputs rfl rfl rfl rfl

theorem lineKept_clearMarks (hl : n < s.inputs.length) (ms : List Nat) : LineKept n s (clearMarks s n ms) := by
  unfold clearMarks
  have hset := lineKept_setInput (x := { s.input n with discNext := false }) hl rfl
  generalize s.setInput n { s.input n with discNext := false } = v at hset ⊢
  refine List.foldlRecOn (motive := LineKept n s) _ _ hset fun w hw d _ => hw.trans (lineKept_inputs rfl rfl rfl rfl)

theorem lineKept_settle (s : State) (n : Nat) : LineKept n s (settle s) :=
  lineKept_inputs (settle_inputs s) (settle_mem s) (settle_halves s) (settle_hbm s)

/-! ### The line (R184) -/

/-- The epoch of a ring that has taken one line more. -/
def State.lengthened (s : State) (n : Nat) (e : Epoch) : Epoch :=
  { e with
    count := e.count + e.perLine, endT := e.t0 + e.count * e.period + e.perLine * e.period
    disc := if e.count = 0 then e.disc else ((s.flaggedPlaces n).map fun j => e.count + 48 * j).reverse ++ e.disc }

/-- The state once the sheets of a line are written and the writer of the ring stands on the next one. -/
def lineStored (s : State) (n : Nat) (volts : List Int) (e : Epoch) (es : List Epoch) : State :=
  let b := (e.t0 + e.count * e.period) / 480
  let w := storeEach ((s.input n).slot * 64) (s.takenSheet n b (e.perLine * e.period / 480) (s.input n).discNext volts) s (dealt e.members)
  w.setInput n { w.input n with
    epochs := s.lengthened n e :: es, slot := ((s.input n).slot + 1) % e.lines, served := true
    discAt := (s.lineGaps n b).reverse ++ (s.input n).discAt }

/-- The consumers of a line that is written, and the marks that it has put out. -/
def lineTaken (w : State) (n b len : Nat) (m : MadeLine) (l : List Taken) (ms : List Nat) : State :=
  clearMarks ((noteOver (consume (keepMade w n m) n b len l) n l).runTo (b + len)) n ms

theorem writeLine_eq (s : State) (n : Nat) (volts : List Int) (e : Epoch) (es : List Epoch) :
    ∃ m l, writeLine s n volts e es = lineTaken (lineStored s n volts e es) n ((e.t0 + e.count * e.period) / 480)
      (e.perLine * e.period / 480) m l e.members := by
  refine ⟨{ epoch := e.number, line := e.count / e.perLine
            codes := (s.lineSamples n ((e.t0 + e.count * e.period) / 480) volts).map fun y => y.2.2
            cal := e.members.map fun d => (lineStored s n volts e es).calMark d ((e.t0 + e.count * e.period) / 480) (e.perLine * e.period / 480) },
    s.lineSamples n ((e.t0 + e.count * e.period) / 480) volts, ?_⟩
  unfold writeLine
  dsimp only
  rw [writeSheets_eq]
  rfl

theorem lineKept_lineTaken {b len : Nat} {m : MadeLine} {l : List Taken} {ms : List Nat} (hl : n < s.inputs.length)
    (hdec : ∀ q ∈ s.ctxs, s.cN q.1 O.CTX_INPUT = n → s.cN q.1 O.DEC_MODE = 0) : LineKept n s (lineTaken s n b len m l ms) := by
  unfold lineTaken
  have hmade : LineKept n s (keepMade s n m) := lineKept_setInput hl rfl
  have hdec1 : ∀ q ∈ (keepMade s n m).ctxs, (keepMade s n m).cN q.1 O.CTX_INPUT = n → (keepMade s n m).cN q.1 O.DEC_MODE = 0 := hdec
  generalize keepMade s n m = v at hmade hdec1 ⊢
  have htake := hmade.trans (lineKept_consume (b := b) (len := len) (l := l) (by rw [hmade.length]; exact hl) hdec1)
  have hrun := htake.trans ((lineKept_noteOver _ n l).trans (lineKept_runTo _ n (b + len)))
  exact hrun.trans (lineKept_clearMarks (by rw [hrun.length]; exact hl) ms)

theorem storeOnly_line (h : StoreOnly s t) : t.inputs = s.inputs ∧ t.ctxs = s.ctxs ∧ ∀ c k, t.cN c k = s.cN c k := by
  rw [StoreOnly] at h
  refine ⟨(congrArg State.inputs h).trans rfl, (congrArg State.ctxs h).trans rfl, fun c k => ?_⟩
  rw [h]
  rfl

/-- What stands once the sheets of a line are written. -/
structure LineStored (s : State) (n : Nat) (volts : List Int) (e : Epoch) (es : List Epoch) (v : State) : Prop where
  length : v.inputs.length = s.inputs.length
  ctxs : v.ctxs = s.ctxs
  settings : ∀ c k, v.cN c k = s.cN c k
  writer : (v.input n).writer = (((s.input n).slot + 1) % e.lines, true, s.lengthened n e :: es)
  others : ∀ m, m ≠ n → v.input m = s.input m
  stores : StoresIn (e.members.map fun d => capAddr d ((s.input n).slot * 64)) s v
  reads : ∀ q ∈ dealt e.members, s.lostUnit (capAddr q.2 ((s.input n).slot * 64)) = false →
    v.peekN (capAddr q.2 ((s.input n).slot * 64)) 64 =
      s.takenSheet n ((e.t0 + e.count * e.period) / 480) (e.perLine * e.period / 480) (s.input n).discNext volts q

theorem lineStored_stored (hl : n < s.inputs.length) (hnodup : e.members.Nodup) (hslot : (s.input n).slot * 64 + 64 ≤ halfBytes) :
    LineStored s n volts e es (lineStored s n volts e es) := by
  have ho : (s.input n).slot * 64 % 64 = 0 := Nat.mul_mod_left _ _
  have hh : (s.input n).slot * 64 < halfBytes := by omega
  have hlen := takenSheet_length s n ((e.t0 + e.count * e.period) / 480) (e.perLine * e.period / 480) (s.input n).discNext volts
  have hstores := storeEach_storesIn ho hlen (dealt e.members) s
  have hreads := storeEach_reads ho hh hlen (dealt e.members) s (by rw [dealt_dies]; exact hnodup)
  have honly := storeEach_storeOnly ((s.input n).slot * 64)
    (s.takenSheet n ((e.t0 + e.count * e.period) / 480) (e.perLine * e.period / 480) (s.input n).discNext volts) s (dealt e.members)
  unfold lineStored
  dsimp only
  generalize storeEach ((s.input n).slot * 64)
    (s.takenSheet n ((e.t0 + e.count * e.period) / 480) (e.perLine * e.period / 480) (s.input n).discNext volts) s (dealt e.members) = w
    at hstores hreads honly ⊢
  obtain ⟨hinputs, hctxs, hcN⟩ := storeOnly_line honly
  have hwl : n < w.inputs.length := by rw [hinputs]; exact hl
  have haddrs : (dealt e.members).map (fun q => capAddr q.2 ((s.input n).slot * 64)) =
      e.members.map fun d => capAddr d ((s.input n).slot * 64) := by
    conv_rhs => rw [← dealt_dies e.members, List.map_map]
    rfl
  rw [haddrs] at hstores
  refine ⟨?_, hctxs, hcN, ?_, fun m hm => ?_, hstores.trans (storesIn_same rfl rfl rfl), hreads⟩
  · rw [← hinputs]
    simp [State.setInput]
  · rw [input_setInput_self hwl]
    rfl
  · rw [input_setInput_other hm hwl, State.input, State.input, hinputs]

theorem exec_sheetWrite_line (hc : s.converts n = true) (hr : (s.input n).ring = .writing) (he : (s.input n).epochs = e :: es)
    (hp : e.perLine ≠ 0) (hb : s.blockers n = []) : exec (.sheetWrite n volts) s = done (writeLine s n volts e es) := by
  rw [exec_sheetWrite, execSheetWrite, if_pos hc, hr, he]
  dsimp only
  rw [if_pos ⟨by rw [hb]; rfl, hp⟩]

theorem sheetWrite_writes (hl : n < s.inputs.length) (hc : s.converts n = true) (hr : (s.input n).ring = .writing)
    (he : (s.input n).epochs = e :: es) (hp : e.perLine ≠ 0) (hb : s.blockers n = [])
    (hdec : ∀ q ∈ s.ctxs, s.cN q.1 O.CTX_INPUT = n → s.cN q.1 O.DEC_MODE = 0) (hnodup : e.members.Nodup)
    (hslot : (s.input n).slot * 64 + 64 ≤ halfBytes) :
    let b := (e.t0 + e.count * e.period) / 480
    Answers (.sheetWrite n volts) s fun t =>
      (t.input n).slot = ((s.input n).slot + 1) % e.lines ∧ (t.input n).served = true ∧
      (∃ f, (t.input n).epochs = f :: es ∧ f.count = e.count + e.perLine ∧ f.number = e.number ∧ f.open_ = e.open_) ∧
      (∀ q ∈ dealt e.members, s.lostUnit (capAddr q.2 ((s.input n).slot * 64)) = false →
        t.peekN (capAddr q.2 ((s.input n).slot * 64)) 64 =
          if (s.input n).voidDies.contains q.2 then voidSheet
          else sampleSheet (s.sheetCodes n b q.1 q.2 volts) (s.die q.2).sparesInUse
            ((s.input n).discNext || (s.die q.2).discNext) (s.calMark q.2 b (e.perLine * e.period / 480))) ∧
      (∀ a, (∀ d ∈ e.members, a < t.phys (capAddr d ((s.input n).slot * 64)) ∨
          t.phys (capAddr d ((s.input n).slot * 64)) + 64 ≤ a) →
        Memory.read t.mem a = Memory.read s.mem a) ∧
      (∀ m, m ≠ n → t.input m = s.input m) := by
  intro b
  obtain ⟨m, l, hline⟩ := writeLine_eq s n volts e es
  have hexec := exec_sheetWrite_line (volts := volts) hc hr he hp hb
  rw [hline] at hexec
  refine answers_done hexec ?_
  have hst := lineStored_stored (volts := volts) (es := es) hl hnodup hslot
  generalize lineStored s n volts e es = v at hst ⊢
  have hkept := (lineKept_lineTaken (b := b) (len := e.perLine * e.period / 480) (m := m) (l := l) (ms := e.members)
    (by rw [hst.length]; exact hl) (fun q hq => by rw [hst.settings, hst.settings]; exact hdec q (hst.ctxs ▸ hq))).trans (lineKept_settle _ n)
  generalize settle (lineTaken v n b (e.perLine * e.period / 480) m l e.members) = t at hkept ⊢
  obtain ⟨hmem, hhalves, hhbm⟩ := hkept.memory
  have hwriter := hkept.writer.trans hst.writer
  have hpeek : t.peekN = v.peekN := (peek_congr hhalves hmem).2
  have hbut := (hst.stores.trans (storesIn_same hhalves hhbm hmem)).memBut fun a ha => by
    obtain ⟨d, -, rfl⟩ := List.mem_map.mp ha
    exact capAddr_aligned d (Nat.mul_mod_left _ _)
  refine ⟨(congrArg Prod.fst hwriter :), (congrArg (fun q => q.2.1) hwriter :),
    ⟨s.lengthened n e, (congrArg (fun q => q.2.2) hwriter :), rfl, rfl, rfl⟩, fun q hq hlost => ?_, fun a ha => ?_,
    fun k hk => (hkept.others k hk).trans (hst.others k hk)⟩
  · rw [hpeek]
    exact hst.reads q hq hlost
  · refine hbut a fun r hr => ?_
    obtain ⟨c, hc, rfl⟩ := List.mem_map.mp hr
    obtain ⟨d, hd, rfl⟩ := List.mem_map.mp hc
    exact ha d hd

/-- Settles O35: a line is written by one sheet a member, pins name lines with an item, pauses and resumes move the ring, revocations
mark the segments that block it, and the settings of a ring are checked writes. -/
theorem rings : Obligations.Rings := by
  unfold Obligations.Rings
  refine ⟨fun s n volts e es hl hc hr he hp hb hdec hnodup _ hslot => sheetWrite_writes hl hc hr he hp hb hdec hnodup hslot,
    fun s n volts _ => ⟨sheetWrite_unconverted, sheetWrite_unwritten⟩, fun e a b d slot hper h => pins_item e a b d slot hper h,
    fun s n hn hl hr hb => ringPause_pauses hn hl hr hb, fun s n T hn hl hr hb hT => ringResume_resumes hn hl hr hb hT,
    fun s n hn hr => segmentRevoke_revokes hn hr, fun s n h hp b => mem_toRevoke h hp b, fun s n _ hr => segmentRevoke_idle hr, ?_,
    fun s p n v h hn h8 => ⟨ringMib_unfitted h hn h8, ringPolicy_unfitted h hn h8⟩⟩
  intro s p n v h hn hl ho
  have hok : v.toNat % 64 = 0 → 64 ≤ v.toNat → v.toNat ≤ 11008 → ringMibOk v = true := fun h1 h2 h3 => decide_eq_true ⟨h1, h2, h3⟩
  have hbad : (v.toNat % 64 ≠ 0 ∨ v.toNat < 64 ∨ 11008 < v.toNat) → ringMibOk v = false := fun hv => decide_eq_false (by omega)
  exact ⟨fun h1 h2 h3 hst hr hp ha => ringMib_sizes h hn ho hl (hok h1 h2 h3) hst hr hp ha, fun hv => ringMib_range h hn ho (hbad hv),
    fun h1 h2 h3 hb => ringMib_state h hn ho (hok h1 h2 h3) hb, fun hv hr hx => ringPolicy_sets h hn ho hv hr hx,
    fun hr => ringPolicy_newest h hn ho hr, fun hv => ringPolicy_range h hn ho hv⟩

end Sys2Proof.Machine
end
